-- ==== Sys2Proof/Word.lean ====
section
/-! DEFINITION. The register word, and nothing else: every helper over words is in Machine/Bits.lean. -/
namespace Sys2Proof

/-- A register: 32 bits, bit 0 least significant (R6). -/
abbrev Word := BitVec 32

/-- One byte. -/
abbrev Byte := BitVec 8

end Sys2Proof
end

