-- ==== Sys2Proof/Syntax.lean ====
section
/-! DEFINITION. The commands of the block, one constructor per row of spec/opcode_table.json, and the
types of their operands. The spec gives the rows no bits, so every operand is typed data; the first
operand of every command is the moment at which it acts. -/
namespace Sys2Proof

/-- A moment: the internal tick count, which the first origin at the end of BOOT and every later one is counted against (R133), and the
nanoseconds of hearth time since power-on (the clock of timers that run in ms and s). -/
structure Stamp where
  tick : Nat
  ns : Nat
  deriving DecidableEq, Repr

/-- A region, 0 to 11 (R13). -/
abbrev Rgn := Fin 12
/-- A channel, 0 to 191 (R13). -/
abbrev Chan := Fin 192
/-- A host port (R518). -/
abbrev Port := Fin 4
/-- A slice of a channel's converter, 0 to 8. -/
abbrev Slice := Fin 9

/-- A port's own addresses (R520): IPv6 link-local, IPv4, global IPv6. -/
inductive OwnAddr where
  | linkLocal | ipv4 | ipv6
  deriving DecidableEq, Repr

/-- What the header of a host message carries beside its command (R521): the port and the address it arrives at, the
source address and UDP port as one number, the version byte, the session id, the sequence number and the tag. -/
structure Hdr where
  port : Port
  addr : OwnAddr
  origin : Nat
  version : Byte
  session : BitVec 16
  seq : BitVec 16
  tag : Byte
  deriving DecidableEq, Repr

/-- The header of a malformed message, and the code of the command it names (R523, R532). -/
structure BadHdr where
  hdr : Hdr
  code : BitVec 16
  deriving DecidableEq, Repr

/-- The reset comparator's release with nRESET high, the level of the TEST_EN land, and VIN, 10 mV (R590, R601, R739). -/
structure Release where
  at_ : Stamp
  testEn : Bool
  vin : BitVec 11
  deriving DecidableEq, Repr

/-- An event of a supply comparator, and VIN then, 10 mV (R590). -/
structure VinEvent where
  at_ : Stamp
  vin : BitVec 11
  deriving DecidableEq, Repr

/-- The end of a supply dip: the lowest VIN measured in it and VIN at its end, 10 mV (R591, R614). -/
structure DipVin where
  low : BitVec 11
  vin : BitVec 11
  deriving DecidableEq, Repr

/-- What a configuration gives a host port (R519, R520): UDP port, 0 for none, IPv4 and global IPv6 address. -/
structure PortNet where
  udp : BitVec 16
  ipv4 : BitVec 32
  ipv6 : BitVec 128
  deriving DecidableEq, Repr

/-- A freeze cause of the baseline stage (R162). -/
inductive FreezeCause where
  | command | window | excursion
  deriving DecidableEq, Repr

/-- The body of a host request (R537), as the tables of the chapters lay it out. -/
inductive Request where
  | nop
  | openSession (lo hi : Byte) (timeout : BitVec 16) (mask : Word)
  | closeSession
  | leaseAcquire (kind : Byte) (idx : BitVec 16)
  | leaseRelease (kind : Byte) (idx : BitVec 16)
  | leaseQuery (kind : Byte) (idx : BitVec 16)
  | subscribe (mask : Word)
  | regRead (addrs : List Word)
  | regWrite (pairs : List (Word × Word))
  | blockRead (addr : Word) (count : BitVec 16)
  | commit (kind : Byte) (idx : BitVec 16)
  | moduleState (target : Byte)
  | regionState (region target : Byte)
  | channelRestart (ch : BitVec 16)
  | statBoundary
  | stageWrite (off : Word) (data : List Byte)
  | engLoad (region : Byte) (mask : BitVec 16) (off len : Word)
  | logRead (src count : Byte) (first : Word)
  | ledgerRead (recNum : Word) (part : Byte)
  | attest (nonce : List Byte) (obj part : Byte)
  | challenge
  | signed (off len : Word)
  | fwChunk (off : Word) (target flags : Byte) (data : List Byte)
  | unknown (code : BitVec 16) (body : List Byte)
  deriving DecidableEq, Repr

/-- One timing frame with what the receiver measures of its crossing (R378, R379, R390): the instant of the active input's edge in
1/1024 internal tick, the filtered period, the orbit mark of its comma, data byte and CRC symbol, the skew of TIN1
against TIN0 where it was measured, and, where R391 replaced a bad frame of the active input, what was wrong
with that one (1 code group or disparity, 2 CRC, 3 comma). -/
structure Frame where
  edge : Nat
  period : Nat
  mark : Bool
  data : Byte
  crc : Byte
  skew : Option Int
  replaced : Option (Fin 4)
  deriving DecidableEq, Repr

/-- What one channel's slices deliver in a fabric cycle: the raw 12-bit codes of its converter samples, oldest first, and
those of the slice that shadows a position, or in CONFIRM of the relieved one (R50, R72, R84, R89). -/
structure Delivered where
  ch : Chan
  codes : List (BitVec 12)
  spare : List (BitVec 12)
  deriving DecidableEq, Repr

/-- What reading a record's samples gives when it closes (R265, R266): which of the channel's open records closes, how many
words were corrected, the 64-bit words of its samples that were uncorrectable, and whether its descriptor was. -/
structure RecData where
  which : Nat
  corrected : Nat
  lostWords : List Nat
  lostDescriptor : Bool
  deriving DecidableEq, Repr

/-- A memory the scrubber reads (R620, R623). -/
inductive Site where
  | regionSram (k : Rgn)
  | hubSram
  | hubState
  | engine (c : Chan)
  | maskPoints (c : Chan) (x : Fin 2)
  | coefficients (c : Chan)
  | averager (c : Chan)
  | histogram (c : Chan) (bin : Fin 4096)
  | mapCell (x : Fin 2) (cell : Fin 1048576)
  deriving DecidableEq, Repr

/-- What a scrubber's read of a word finds. -/
inductive Found where
  | clean | corrected | uncorrectable
  deriving DecidableEq, Repr

/-- The rails of an array die: array digital, 1.2 V and 1.8 V (R595). -/
inductive DieRail where
  | digital | low | high
  deriving DecidableEq, Repr

/-- Rails of R595 whose undervoltage comparator stops regions, with their voltage, mV: a region's fabric rail, or a rail of an array
die. -/
inductive Rail where
  | fabric (k : Rgn) (mv : Nat)
  | arrayDie (d : Fin 4) (r : DieRail) (mv : Nat)
  deriving DecidableEq, Repr

/-- The rails whose undervoltage comparator resets the module: hub core, the hub's 1.8 V, aux (R595, R596). -/
inductive HubRail where
  | core | high | aux
  deriving DecidableEq, Repr

/-- A hub rail's comparator, with the voltage, mV (R596). -/
structure HubFault where
  at_ : Stamp
  rail : HubRail
  mv : Nat
  deriving DecidableEq, Repr

/-- Why a module reset comes from outside the module, for the reset comparator with VIN, 10 mV (R590, R593, R613). -/
inductive ResetCause where
  | powerOn
  | brownOut (vin : BitVec 11)
  | nReset
  deriving DecidableEq, Repr

/-- What a read of a firmware image gives (R560): whether R561 steps 1 to 5 hold, and its fields. -/
structure ImageInfo where
  valid : Bool
  version : Word
  sv : Nat
  advance : Bool
  digest : BitVec 512
  deriving DecidableEq, Repr

/-- The identity public keys that the security block derives from the identity seed (R574). -/
structure IdentKeys where
  ed : List Byte
  ml : List Byte
  deriving DecidableEq, Repr

/-- The commands: one constructor per row of spec/opcode_table.json, in the order of the table. -/
inductive Instr where
  /-- NOP (R537). -/
  | nop (t : Stamp) (h : Hdr)
  /-- OPEN (R525). -/
  | openSession (t : Stamp) (h : Hdr) (lo hi : Byte) (timeout : BitVec 16) (mask : Word)
  /-- CLOSE (R524). -/
  | closeSession (t : Stamp) (h : Hdr)
  /-- LEASE_ACQUIRE (R535). -/
  | leaseAcquire (t : Stamp) (h : Hdr) (kind : Byte) (idx : BitVec 16)
  /-- LEASE_RELEASE (R535). -/
  | leaseRelease (t : Stamp) (h : Hdr) (kind : Byte) (idx : BitVec 16)
  /-- LEASE_QUERY (R535). -/
  | leaseQuery (t : Stamp) (h : Hdr) (kind : Byte) (idx : BitVec 16)
  /-- SUBSCRIBE (R537). -/
  | subscribe (t : Stamp) (h : Hdr) (mask : Word)
  /-- REG_READ (R538). -/
  | regRead (t : Stamp) (h : Hdr) (addrs : List Word)
  /-- REG_WRITE (R538). -/
  | regWrite (t : Stamp) (h : Hdr) (pairs : List (Word × Word))
  /-- BLOCK_READ (R538). -/
  | blockRead (t : Stamp) (h : Hdr) (addr : Word) (count : BitVec 16)
  /-- COMMIT (R721). -/
  | commit (t : Stamp) (h : Hdr) (kind : Byte) (idx : BitVec 16)
  /-- MODULE_STATE (R601). -/
  | moduleState (t : Stamp) (h : Hdr) (target : Byte)
  /-- REGION_STATE (R603). -/
  | regionState (t : Stamp) (h : Hdr) (region target : Byte)
  /-- CHANNEL_RESTART (R626). -/
  | channelRestart (t : Stamp) (h : Hdr) (ch : BitVec 16)
  /-- STAT_BOUNDARY (R635). -/
  | statBoundary (t : Stamp) (h : Hdr)
  /-- STAGE_WRITE (R543). -/
  | stageWrite (t : Stamp) (h : Hdr) (off : Word) (data : List Byte)
  /-- ENG_LOAD (R350). -/
  | engLoad (t : Stamp) (h : Hdr) (region : Byte) (mask : BitVec 16) (off len : Word)
  /-- LOG_READ (R646). -/
  | logRead (t : Stamp) (h : Hdr) (src count : Byte) (first : Word)
  /-- LEDGER_READ (R668). -/
  | ledgerRead (t : Stamp) (h : Hdr) (recNum : Word) (part : Byte)
  /-- ATTEST (R577). -/
  | attest (t : Stamp) (h : Hdr) (nonce : List Byte) (obj part : Byte)
  /-- CHALLENGE (R544). -/
  | challenge (t : Stamp) (h : Hdr)
  /-- FIRMWARE_ACTIVATION (R569). -/
  | firmwareActivation (t : Stamp) (h : Hdr) (off len : Word)
  /-- OWNER_KEY_WRITE (R572). -/
  | ownerKeyWrite (t : Stamp) (h : Hdr) (off len : Word)
  /-- OWNER_KEY_REVOKE (R572). -/
  | ownerKeyRevoke (t : Stamp) (h : Hdr) (off len : Word)
  /-- DEBUG_UNLOCK (R580). -/
  | debugUnlock (t : Stamp) (h : Hdr) (off len : Word)
  /-- FW_CHUNK_FIRMWARE (R567). -/
  | fwChunkFirmware (t : Stamp) (h : Hdr) (off : Word) (flags : Byte) (data : List Byte)
  /-- FW_CHUNK_CONFIGURATION (R568). -/
  | fwChunkConfiguration (t : Stamp) (h : Hdr) (off : Word) (flags : Byte) (data : List Byte)
  /-- FW_CHUNK_ACTIVATE (R570). -/
  | fwChunkActivate (t : Stamp) (h : Hdr) (off : Word) (first : Bool) (data : List Byte)
  /-- SECTOR_ERASE_DONE (R567). -/
  | sectorEraseDone (t : Stamp)
  /-- ACKNOWLEDGEMENT (R533). -/
  | acknowledgement (t : Stamp) (h : Hdr) (a : Option (BitVec 16)) (n : Option Word)
  /-- SESSION_TIMEOUT (R524). -/
  | sessionTimeout (t : Stamp) (p : Port)
  /-- SEQ_GAP_SKIP (R530). -/
  | seqGapSkip (t : Stamp) (p : Port)
  /-- NOTIFICATION_RESEND (R542). -/
  | notificationResend (t : Stamp) (p : Port)
  /-- NONCE_EXPIRY (R544). -/
  | nonceExpiry (t : Stamp) (p : Option Port)
  /-- DEBUG_EXPIRY (R580). -/
  | debugExpiry (t : Stamp)
  /-- DEBUG_RELOCK (R586). -/
  | debugRelock (t : Stamp) (p : Port) (v : Word)
  /-- DBG_NONCE (R581). -/
  | dbgNonce (t : Stamp)
  /-- DBG_TOKEN (R581). -/
  | dbgToken (t : Stamp) (block : List Byte)
  /-- HOST_FRAME_DROP (R519). -/
  | hostFrameDrop (t : Stamp) (p : Port)
  /-- NEIGHBOUR_REQUEST (R518). -/
  | neighbourRequest (t : Stamp) (p : Port) (v6 : Bool)
  /-- ICMP_ECHO (R518). -/
  | icmpEcho (t : Stamp) (p : Port) (v6 : Bool)
  /-- HOST_LINK_LOSS (R547). -/
  | hostLinkLoss (t : Stamp) (p : Port)
  /-- HOST_PORT_CFG_WRITE (R524). -/
  | hostPortCfgWrite (t : Stamp) (p : Port) (q : Port) (v : Word)
  /-- IDLE (R383). -/
  | idle (t : Stamp) (f : Frame)
  /-- CROSSING_EDGE (R379). -/
  | crossingEdge (t : Stamp) (f : Frame) (cause : Fin 4)
  /-- VIRTUAL_CROSSING_EDGE (R128). -/
  | virtualCrossingEdge (t : Stamp)
  /-- ACCEPT (R385). -/
  | accept (t : Stamp) (f : Frame)
  /-- BCN_RESET (R381). -/
  | bcnReset (t : Stamp) (f : Frame)
  /-- EPOCH_RESET (R133). -/
  | epochReset (t : Stamp) (f : Frame)
  /-- RESYNC (R383). -/
  | resync (t : Stamp) (f : Frame)
  /-- CAL_INJECT (R60). -/
  | calInject (t : Stamp) (f : Frame)
  /-- TEST_TRIGGER (R383). -/
  | testTrigger (t : Stamp) (f : Frame)
  /-- STAT_BOUNDARY_FAST (R635). -/
  | statBoundaryFast (t : Stamp) (f : Frame)
  /-- USER_CODE (R384). -/
  | userCode (t : Stamp) (f : Frame) (u : Fin 16)
  /-- RESERVED_FAST_COMMAND (R395). -/
  | reservedFastCommand (t : Stamp) (f : Frame) (code : Byte)
  /-- EPOCH_ORIGIN (R133). -/
  | epochOrigin (t : Stamp)
  /-- HOST_EPOCH (R137). -/
  | hostEpoch (t : Stamp) (p : Port) (v : Word)
  /-- TIN_SIGNAL_DETECT (R388). -/
  | tinSignalDetect (t : Stamp) (i : Fin 2)
  /-- TIN_LOCK (R388). -/
  | tinLock (t : Stamp) (i : Fin 2)
  /-- TIN_LOCK_LOST (R388). -/
  | tinLockLost (t : Stamp) (i : Fin 2)
  /-- TIN_SIGNAL_LOST (R388). -/
  | tinSignalLost (t : Stamp) (i : Fin 2)
  /-- TIN_REVERT (R389). -/
  | tinRevert (t : Stamp)
  /-- TL_CFG_WRITE (R396). -/
  | tlCfgWrite (t : Stamp) (p : Port) (v : Word)
  /-- MCLK_FREQ_GATE_DONE (R704). -/
  | mclkFreqGateDone (t : Stamp) (hz : Nat)
  /-- TIM_MODE_WRITE (R120). -/
  | timModeWrite (t : Stamp) (p : Port) (v : Word) (refHz : Nat)
  /-- SYN_SWITCH_LOCKED (R124). -/
  | synSwitchLocked (t : Stamp)
  /-- REF_LOST (R124). -/
  | refLost (t : Stamp) (refHz : Nat)
  /-- REF_RETURN (R758). -/
  | refReturn (t : Stamp) (hz : Nat) (phase : Int)
  /-- RELOCK_DONE (R124). -/
  | relockDone (t : Stamp) (since : Nat)
  /-- XING_SLEW_DONE (R129). -/
  | xingSlewDone (t : Stamp)
  /-- SYN_UNLOCK (R126). -/
  | synUnlock (t : Stamp)
  /-- SYN_LOCK_REGAINED (R126). -/
  | synLockRegained (t : Stamp)
  /-- FABRIC_PLL_UNLOCK (R127). -/
  | fabricPllUnlock (t : Stamp) (k : Rgn)
  /-- OVEN_SETPOINT_WRITE (R115). -/
  | ovenSetpointWrite (t : Stamp) (p : Port) (v : Word)
  /-- OVEN_WARM (R113). -/
  | ovenWarm (t : Stamp) (mw : BitVec 16) (err : Int)
  /-- OVEN_UNREG (R113). -/
  | ovenUnreg (t : Stamp) (mw : BitVec 16) (err : Int)
  /-- OVEN_BAND_LEFT (R113). -/
  | ovenBandLeft (t : Stamp) (mw : BitVec 16) (err : Int)
  /-- HEATER_FAULT (R113). -/
  | heaterFault (t : Stamp) (mw : BitVec 16) (err : Int)
  /-- HEARTH_TRIM_WRITE (R117). -/
  | hearthTrimWrite (t : Stamp) (p : Port) (v : Word)
  /-- DATUM_LATCH_READ (R138). -/
  | datumLatchRead (t : Stamp) (p : Port)
  /-- XING_LATCH_READ (R399). -/
  | xingLatchRead (t : Stamp) (p : Port)
  /-- FIXED_LANE_SEND (R29). -/
  | fixedLaneSend (t : Stamp) (d : List Delivered)
  /-- FIXED_LANE_ARRIVAL (R27). -/
  | fixedLaneArrival (t : Stamp) (k : Rgn) (toHub crcOk : Bool)
  /-- FIXED_LANE_RELEASE (R27). -/
  | fixedLaneRelease (t : Stamp) (k : Rgn) (toHub : Bool)
  /-- REGION_SKEW_CLEAR (R35). -/
  | regionSkewClear (t : Stamp) (k : Rgn)
  /-- XQ_STAT_CLR (R38). -/
  | xqStatClr (t : Stamp) (p : Port) (k : Rgn) (v : Word)
  /-- CM_ALARM (R42). -/
  | cmAlarm (t : Stamp) (c : Chan) (uv : Nat)
  /-- CM_ALARM_CLEAR (R42). -/
  | cmAlarmClear (t : Stamp) (c : Chan) (uv : Nat)
  /-- FE_SETTLE_DONE (R48). -/
  | feSettleDone (t : Stamp) (c : Chan)
  /-- INJECT_EDGE (R62). -/
  | injectEdge (t : Stamp) (c : Chan)
  /-- INJECT_RETURN (R62). -/
  | injectReturn (t : Stamp) (c : Chan)
  /-- BENCHMARK_CAL_DONE (R80). -/
  | benchmarkCalDone (t : Stamp) (c : Chan) (s : Slice) (coef : List Int) (rms : Nat)
  /-- SHADOW_WINDOW_CLOSE (R85). -/
  | shadowWindowClose (t : Stamp) (c : Chan) (pairs disagree : Nat) (sum : Int)
  /-- SHADOW_WINDOW_STARVED (R86). -/
  | shadowWindowStarved (t : Stamp) (c : Chan)
  /-- STEP_TIMER_EXPIRE (R88). -/
  | stepTimerExpire (t : Stamp) (c : Chan)
  /-- STEP_NOW (R104). -/
  | stepNow (t : Stamp) (p : Port) (c : Chan) (v : Word)
  /-- HANDOVER (R90). -/
  | handover (t : Stamp) (c : Chan)
  /-- CONFIRM_DONE (R88). -/
  | confirmDone (t : Stamp) (c : Chan) (disagree : Nat)
  /-- CONFIRM_REVERT (R92). -/
  | confirmRevert (t : Stamp) (c : Chan) (disagree : Nat)
  /-- REVERT_BOUNDARY (R92). -/
  | revertBoundary (t : Stamp) (c : Chan)
  /-- STUCK_SLICE (R93). -/
  | stuckSlice (t : Stamp) (c : Chan) (s : Slice) (first : Nat)
  /-- EMERG_HANDOVER (R93). -/
  | emergHandover (t : Stamp) (c : Chan)
  /-- SLICE_HEALTH_WRITE (R102). -/
  | sliceHealthWrite (t : Stamp) (p : Port) (c : Chan) (v : Word)
  /-- CAL_PASS_START (R606). -/
  | calPassStart (t : Stamp) (k : Rgn)
  /-- CAL_PASS_DONE (R606). -/
  | calPassDone (t : Stamp) (k : Rgn) (front : List (List (List Int)))
  /-- BL_FREEZE_WRITE (R162). -/
  | blFreezeWrite (t : Stamp) (p : Port) (c : Chan) (v : Word)
  /-- BL_ACQUIRE_DONE (R163). -/
  | blAcquireDone (t : Stamp) (c : Chan) (est : Int)
  /-- BL_FREEZE_BEGIN (R163). -/
  | blFreezeBegin (t : Stamp) (c : Chan) (cause : FreezeCause)
  /-- BL_FREEZE_END (R163). -/
  | blFreezeEnd (t : Stamp) (c : Chan) (cause : FreezeCause)
  /-- BL_REACQUIRE (R163). -/
  | blReacquire (t : Stamp) (c : Chan)
  /-- BL_REACQUIRE_DONE (R163). -/
  | blReacquireDone (t : Stamp) (c : Chan) (resid : Nat)
  /-- TONE_BLOCK_RESULT (R170). -/
  | toneBlockResult (t : Stamp) (c : Chan) (last mag2 phase : Nat) (sat : Bool)
  /-- COMPARATOR_QUALIFY (R187). -/
  | comparatorQualify (t : Stamp) (c : Chan) (second : Bool)
  /-- TRIGGER_DECIDE (R208). -/
  | triggerDecide (t : Stamp) (c : Chan)
  /-- PRETRIGGER_FILLED (R207). -/
  | pretriggerFilled (t : Stamp) (c : Chan)
  /-- HOLDOFF_EXPIRE (R209). -/
  | holdoffExpire (t : Stamp) (c : Chan)
  /-- REARM_DONE (R207). -/
  | rearmDone (t : Stamp) (c : Chan)
  /-- ARM (R207). -/
  | arm (t : Stamp) (p : Port) (c : Chan) (v : Word)
  /-- SOFT_TRIG (R204). -/
  | softTrig (t : Stamp) (p : Port) (k : Rgn) (v : Word)
  /-- REGION_PATTERN_FIRE (R199). -/
  | regionPatternFire (t : Stamp) (k : Rgn)
  /-- MODULE_PATTERN_FIRE (R200). -/
  | modulePatternFire (t : Stamp)
  /-- XTRIG_EDGE (R428). -/
  | xtrigEdge (t : Stamp) (x : Fin 2) (falling : Bool) (inst : Nat)
  /-- EXTRACTION_START (R248). -/
  | extractionStart (t : Stamp) (c : Chan)
  /-- RECORD_CLOSE (R241). -/
  | recordClose (t : Stamp) (c : Chan) (d : RecData)
  /-- STREAM_RECORD_START (R252). -/
  | streamRecordStart (t : Stamp) (c : Chan)
  /-- ACCEPT_QUEUE_DEPART (R250). -/
  | acceptQueueDepart (t : Stamp) (k : Rgn)
  /-- RECORD_RELEASE (R262). -/
  | recordRelease (t : Stamp) (c : Chan)
  /-- ACCQ_HIGH_WATER_CLR (R273). -/
  | accqHighWaterClr (t : Stamp) (p : Port) (k : Rgn) (v : Word)
  /-- MASK_VERDICT (R288). -/
  | maskVerdict (t : Stamp) (c : Chan)
  /-- MEASUREMENT_DONE (R292). -/
  | measurementDone (t : Stamp) (c : Chan)
  /-- AVG_FOLD (R303). -/
  | avgFold (t : Stamp) (c : Chan)
  /-- HIST_FOLD (R309). -/
  | histFold (t : Stamp) (c : Chan)
  /-- MAP_FOLD (R311). -/
  | mapFold (t : Stamp) (c : Chan)
  /-- MAP_DECAY (R312). -/
  | mapDecay (t : Stamp) (x : Fin 2)
  /-- AVG_CLR (R305). -/
  | avgClr (t : Stamp) (p : Port) (k : Rgn) (v : Word)
  /-- HIST_CLR (R310). -/
  | histClr (t : Stamp) (p : Port) (k : Rgn) (v : Word)
  /-- MAP_CLR (R313). -/
  | mapClr (t : Stamp) (p : Port) (x : Fin 2) (v : Word)
  /-- MAP_CLR_DONE (R313). -/
  | mapClrDone (t : Stamp) (x : Fin 2)
  /-- ENGINE_ACTIVATION_START (R331). -/
  | engineActivationStart (t : Stamp) (c : Chan) (no : Nat) (window : List Int)
  /-- ENGINE_BUNDLE (R335). -/
  | engineBundle (t : Stamp) (c : Chan)
  /-- ENGINE_WATCHDOG (R345). -/
  | engineWatchdog (t : Stamp) (c : Chan)
  /-- FEATURE_HANDOFF (R333). -/
  | featureHandoff (t : Stamp) (c : Chan)
  /-- ENGINE_MEM_FAULT (R352). -/
  | engineMemFault (t : Stamp) (c : Chan)
  /-- ENGINE_RELOAD_DONE (R352). -/
  | engineReloadDone (t : Stamp) (c : Chan)
  /-- PRIM_FRAME (R367). -/
  | primFrame (t : Stamp) (n : Fin 8) (no slip : Nat)
  /-- LANE_EN_WRITE (R402). -/
  | laneEnWrite (t : Stamp) (p : Port) (k : Rgn) (v : Word)
  /-- LANE_TEST_EN_WRITE (R402). -/
  | laneTestEnWrite (t : Stamp) (p : Port) (k : Rgn) (v : Word)
  /-- LANE_RETRAIN (R402). -/
  | laneRetrain (t : Stamp) (p : Port) (k : Rgn) (v : Word)
  /-- LANE_PLL_LOCK (R402). -/
  | lanePllLock (t : Stamp) (k : Rgn) (j : Fin 8)
  /-- LANE_SYNC_DONE (R402). -/
  | laneSyncDone (t : Stamp) (k : Rgn) (j : Fin 8)
  /-- LANE_RETRAIN_DONE (R402). -/
  | laneRetrainDone (t : Stamp) (k : Rgn) (j : Fin 8)
  /-- LANE_PLL_UNLOCK (R409). -/
  | lanePllUnlock (t : Stamp) (k : Rgn) (j : Fin 8)
  /-- FRAME_OPEN (R406). -/
  | frameOpen (t : Stamp) (k : Rgn)
  /-- FRAME_COMPLETE (R409). -/
  | frameComplete (t : Stamp) (k : Rgn) (j : Fin 8)
  /-- DAMPER_WRITE (R416). -/
  | damperWrite (t : Stamp) (p : Port) (k : Rgn) (v : Word)
  /-- OVERFLOW_ENTER (R417). -/
  | overflowEnter (t : Stamp) (k : Rgn)
  /-- OVERFLOW_EXIT (R417). -/
  | overflowExit (t : Stamp) (k : Rgn)
  /-- TIU_CFG_WRITE (R440). -/
  | tiuCfgWrite (t : Stamp) (p : Port) (n : Fin 32) (win : Bool) (v : Word)
  /-- TIU_ARM (R449). -/
  | tiuArm (t : Stamp) (p : Port) (v : Word)
  /-- TIU_EVENT_ARRIVAL (R434). -/
  | tiuEventArrival (t : Stamp) (c : Chan)
  /-- TIU_JUDGE (R433). -/
  | tiuJudge (t : Stamp)
  /-- TIU_TIMEOUT (R435). -/
  | tiuTimeout (t : Stamp) (n : Fin 32)
  /-- TIU_STAT_READ (R439). -/
  | tiuStatRead (t : Stamp) (p : Port) (n : Fin 32)
  /-- FREQ_START (R442). -/
  | freqStart (t : Stamp) (p : Port) (v : Word)
  /-- FREQ_CFG_WRITE (R443). -/
  | freqCfgWrite (t : Stamp) (p : Port) (v : Word)
  /-- FREQ_GATE_END (R442). -/
  | freqGateEnd (t : Stamp) (n span longest : Nat)
  /-- FREQ_NO_SIGNAL (R443). -/
  | freqNoSignal (t : Stamp)
  /-- FREQ_STAT_READ (R453). -/
  | freqStatRead (t : Stamp) (p : Port)
  /-- SNS_CFG_WRITE (R462). -/
  | snsCfgWrite (t : Stamp) (p : Port) (n : Fin 24) (v : Word)
  /-- SNS_BOUNDARY (R460). -/
  | snsBoundary (t : Stamp) (n : Fin 24) (peak : Nat)
  /-- SNS_OUTPUT_PUBLISH (R460). -/
  | snsOutputPublish (t : Stamp) (n : Fin 24) (re im : Int)
  /-- SNS_OPEN (R464). -/
  | snsOpen (t : Stamp) (n : Fin 24)
  /-- SNS_OPEN_CLEAR (R465). -/
  | snsOpenClear (t : Stamp) (n : Fin 24)
  /-- SNS_CHECK_DUE (R467). -/
  | snsCheckDue (t : Stamp) (n : Fin 24)
  /-- SNS_CHECK_DONE (R470). -/
  | snsCheckDone (t : Stamp) (n : Fin 24) (tr ti er ei : Int)
  /-- SNS_STAT_READ (R461). -/
  | snsStatRead (t : Stamp) (p : Port) (n : Fin 24)
  /-- HK_RUN_START (R496). -/
  | hkRunStart (t : Stamp) (p : Port) (v : Word)
  /-- HK_RUN_STOP (R497). -/
  | hkRunStop (t : Stamp) (p : Port) (v : Word)
  /-- HK_RESTART (R497). -/
  | hkRestart (t : Stamp) (p : Port) (v : Word)
  /-- HK_REF_WRITE (R492). -/
  | hkRefWrite (t : Stamp) (p : Port) (v : Word)
  /-- HK_REF_SETTLED (R492). -/
  | hkRefSettled (t : Stamp) (c : Fin 2)
  /-- HK_CONVERSION_DONE (R498). -/
  | hkConversionDone (t : Stamp) (c : Fin 2) (vin vref : Nat)
  /-- HK_XCHK_DONE (R502). -/
  | hkXchkDone (t : Stamp) (c : Fin 2) (vin vref : Nat)
  /-- HK_URGENT (R504). -/
  | hkUrgent (t : Stamp) (p : Port) (v : Word)
  /-- HK_URGENT_DONE (R504). -/
  | hkUrgentDone (t : Stamp) (c : Fin 2) (vin vref : Nat)
  /-- SUPPLY_DIP_START (R591). -/
  | supplyDipStart (t : Stamp) (vin : BitVec 11)
  /-- SUPPLY_DIP_END (R591). -/
  | supplyDipEnd (t : Stamp) (vin : DipVin)
  /-- VIN_MIN_CLR (R614). -/
  | vinMinClr (t : Stamp) (p : Port) (v : Word)
  /-- MODULE_RESET (R593). -/
  | moduleReset (t : Stamp) (cause : ResetCause)
  /-- RESET_RELEASE (R601). -/
  | resetRelease (r : Release)
  /-- BOOT_SLOT_VERIFIED (R561). -/
  | bootSlotVerified (t : Stamp) (slot : Fin 2) (img : ImageInfo) (keys : IdentKeys)
  /-- BOOT_REACH_STANDBY (R565). -/
  | bootReachStandby (t : Stamp) (net : List PortNet) (b : ImageInfo)
  /-- BOOT_ATTEMPT_TIMEOUT (R564). -/
  | bootAttemptTimeout (t : Stamp)
  /-- ACTIVATION_RESET (R569). -/
  | activationReset (t : Stamp)
  /-- OVERVOLTAGE (R590). -/
  | overvoltage (e : VinEvent)
  /-- OVERVOLTAGE_CLEAR (R590). -/
  | overvoltageClear (e : VinEvent)
  /-- RAIL_FAULT (R596). -/
  | railFault (t : Stamp) (r : Rail)
  /-- HUB_RAIL_FAULT (R596). -/
  | hubRailFault (f : HubFault)
  /-- RAIL_CAUSE_CLEAR (R596). -/
  | railCauseClear (t : Stamp) (k : Rgn)
  /-- RAIL_TARGET_WRITE (R597). -/
  | railTargetWrite (t : Stamp) (p : Port) (k : Rgn) (v : Word)
  /-- RAIL_RAMP_DONE (R597). -/
  | railRampDone (t : Stamp) (k : Rgn)
  /-- REGION_THERMAL_TRIP (R605). -/
  | regionThermalTrip (t : Stamp) (k : Rgn) (tj : Int)
  /-- MODULE_THERMAL_TRIP (R605). -/
  | moduleThermalTrip (t : Stamp) (r : Option Rgn) (tj : Int)
  /-- THERMAL_CLEAR (R605). -/
  | thermalClear (t : Stamp) (r : Option Rgn) (tj : Int)
  /-- REGION_UP_DONE (R603). -/
  | regionUpDone (t : Stamp) (k : Rgn)
  /-- REGION_DRAIN_DONE (R759). -/
  | regionDrainDone (t : Stamp) (k : Rgn)
  /-- LOCKSTEP_DIVERGENCE (R554). -/
  | lockstepDivergence (t : Stamp) (second : Bool)
  /-- SUPERVISOR_WATCHDOG (R555). -/
  | supervisorWatchdog (t : Stamp) (second : Bool)
  /-- PAIR_RESTART_DONE (R557). -/
  | pairRestartDone (t : Stamp) (second : Bool)
  /-- SCRUB_READ (R623). -/
  | scrubRead (t : Stamp) (site : Site) (found : Found)
  /-- VOTE_SCRUB (R624). -/
  | voteScrub (t : Stamp) (addr : Word) (a b c : Word)
  /-- CHANNEL_RESTART_BOUNDARY (R627). -/
  | channelRestartBoundary (t : Stamp) (c : Chan)
  /-- CHANNEL_RESUME (R627). -/
  | channelResume (t : Stamp) (c : Chan)
  /-- CHANNEL_RESTART_OVERDUE (R621). -/
  | channelRestartOverdue (t : Stamp) (c : Chan)
  /-- REGION_RESTART (R628). -/
  | regionRestart (t : Stamp) (k : Rgn) (cause : Fin 6)
  /-- REGION_RESUME (R630). -/
  | regionResume (t : Stamp) (k : Rgn)
  /-- REGION_RESTART_OVERDUE (R621). -/
  | regionRestartOverdue (t : Stamp) (k : Rgn)
  /-- MODULE_FATAL (R632). -/
  | moduleFatal (t : Stamp) (src : Fin 4)
  /-- FATAL_RESET (R649). -/
  | fatalReset (t : Stamp) (p : Port) (v : Word)
  /-- STAT_TIMER_EXPIRE (R635). -/
  | statTimerExpire (t : Stamp)
  /-- STAT_TIMER_WRITE (R635). -/
  | statTimerWrite (t : Stamp) (p : Port) (v : Word)
  /-- STAT_LATCH (R637). -/
  | statLatch (t : Stamp)
  /-- STAT_COPY_DONE (R641). -/
  | statCopyDone (t : Stamp)
  /-- ARCHIVE_SUMMARY (R647). -/
  | archiveSummary (t : Stamp) (ok : Bool)
  /-- AGE_RO_MEASURE (R654). -/
  | ageRoMeasure (t : Stamp) (k : Rgn) (pair : Fin 4) (ppm : Int)
  /-- VMIN_TEST (R655). -/
  | vminTest (t : Stamp) (k : Rgn) (mv : Option (BitVec 10))
  /-- AGE_HOURLY (R656). -/
  | ageHourly (t : Stamp) (heat : Option (BitVec 16 × BitVec 16 × BitVec 16))
  /-- AGE_DAILY (R659). -/
  | ageDaily (t : Stamp) (syn : BitVec 16 × BitVec 16) (plls : List (BitVec 16 × BitVec 16)) (dev : Option Int)
  /-- POLICY_RAIL (R660). -/
  | policyRail (t : Stamp) (k : Rgn)
  /-- POLICY_STEP (R660). -/
  | policyStep (t : Stamp) (k : Rgn) (ro rg : Nat)
  /-- POLICY_OVEN (R660). -/
  | policyOven (t : Stamp) (mean1 mean24 : Option Nat)
  /-- POLICY_TRIM (R660). -/
  | policyTrim (t : Stamp)
  /-- OVERRIDE_RELEASE (R662). -/
  | overrideRelease (t : Stamp) (p : Port) (k : Option Rgn) (v : Word)
  /-- LEDGER_CHECKPOINT (R664). -/
  | ledgerCheckpoint (t : Stamp) (ok : Bool)
  /-- LEDGER_SUMMARY (R664). -/
  | ledgerSummary (t : Stamp) (drift : List (Chan × List Int)) (wear : List (Chan × BitVec 9)) (ok : Bool)
  /-- LEDGER_ACTION (R664). -/
  | ledgerAction (t : Stamp) (ok : Bool)
  /-- DSI_ENABLE (R677). -/
  | dsiEnable (t : Stamp) (p : Port) (v : Word)
  /-- DSI_DISABLE (R678). -/
  | dsiDisable (t : Stamp) (p : Port) (v : Word)
  /-- DSI_PLL_LOCK (R678). -/
  | dsiPllLock (t : Stamp)
  /-- DSI_FRAME_START (R688). -/
  | dsiFrameStart (t : Stamp)
  /-- DSI_LATCH_EDGE (R686). -/
  | dsiLatchEdge (t : Stamp)
  /-- DSI_TE_EDGE (R689). -/
  | dsiTeEdge (t : Stamp) (falling : Bool)
  /-- DSI_TE_TIMEOUT (R690). -/
  | dsiTeTimeout (t : Stamp)
  /-- DSI_COMPOSE_FLIP (R685). -/
  | dsiComposeFlip (t : Stamp) (p : Port) (v : Word)
  /-- DSI_COMPOSE (R685). -/
  | dsiCompose (t : Stamp) (p : Port) (v : Word)
  /-- DSI_FLIP (R685). -/
  | dsiFlip (t : Stamp) (p : Port) (v : Word)
  /-- COMPOSER_PASS_DONE (R684). -/
  | composerPassDone (t : Stamp)
  /-- DSI_FLIP_READ (R688). -/
  | dsiFlipRead (t : Stamp) (p : Port)
  /-- HOST_LINK_LOCK (R547). -/
  | hostLinkLock (t : Stamp) (p : Port)
  /-- MALFORMED_MESSAGE (R523). -/
  | malformedMessage (t : Stamp) (h : BadHdr)
  /-- UNKNOWN_COMMAND (R537). -/
  | unknownCommand (t : Stamp) (h : Hdr) (code : BitVec 16) (body : List Byte)
  /-- ENG_LOAD_DONE (R350). -/
  | engLoadDone (t : Stamp) (k : Rgn)
  deriving DecidableEq, Repr

end Sys2Proof
end

