-- ==== Sys2Proof/Decode.lean ====
section
/-! DEFINITION. Words and commands. No row of spec/opcode_table.json has bits: the table names what the block
is told and what befalls it, and spells none of it as a word. -/
namespace Sys2Proof

/-- The command that a word spells by the table's bits: none, since no row of the table gives bits. -/
def decodeTableWord (_nbits _w : Nat) : Option Instr := none

end Sys2Proof
end

