-- ==== Sys2Proof/Config.lean ====
section
/-! DEFINITION. What an implementation fixes and the values the spec leaves open. Every constant here is opaque:
nothing can evaluate it, so a statement proved about the model holds for every value of it.
The assumption log says of each which rule leaves it open. -/
namespace Sys2Proof.Config

/-- A value the spec leaves undefined where the machine goes on; the argument is a fresh index
(field `fresh` of the state), so two uses need not agree. -/
opaque freeValue : Nat → Nat

/-- A converter word or an output sample that no FIXED_LANE_SEND told, and its mark; the key names the channel, the moment its
chain started, the stage and the index, so that two readings of one sample agree. -/
opaque untoldWord : List Nat → Int
opaque untoldMark : List Nat → Bool

/-- What input correction adds to 16 times a raw code, in words, for a slice's coefficients, the front-end set of the gain
step, and the code (R49, R76); the spec gives no formula. -/
opaque correction : List Int → List Int → Int → Int

/-- The trim range of each of the 35 coefficients of a benchmark calibration, either side of 0 (R80, R81). -/
opaque trimSpan : Nat → Nat

/-- The taps of a half-band filter at the distances 1, 3, 5, 7, 9 and 11 from its centre, and those of the resampler by phase and
tap, in 2^-32 (R153); the spec gives their figures and no coefficient. -/
opaque halfBandTap : Nat → Int
opaque resamplerTap : Nat → Nat → Int

/-- The cosine of an angle in 2^-24 turn, in 2^-30, and the angle of a number with a real and an imaginary part, in 2π ÷ 65,536
(R165 to R168). -/
opaque cosine : Nat → Int
opaque angle : Int → Int → Nat

/-- SHA-512 (R561, R574, R576), named but not defined by the spec. -/
opaque sha512 : List Byte → BitVec 512

/-- Ed25519 verification (R544, R561): public key, message, signature. -/
opaque ed25519Verify : List Byte → List Byte → List Byte → Bool

/-- ML-DSA-65 verification (R544, R561): public key, message, signature. -/
opaque mldsaVerify : List Byte → List Byte → List Byte → Bool

/-- The Ed25519 signature the security block makes with the identity key (R553, R578). -/
opaque ed25519Sign : List Byte → List Byte

/-- The ML-DSA-65 signature the security block makes with the identity key (R553, R578). -/
opaque mldsaSign : List Byte → List Byte

/-- The 32-byte nonces of CHALLENGE and DBG_NONCE (R544, R581), by issue number. -/
opaque nonce : Nat → List Byte

/-- The certificate memory (R575), written at final test. -/
opaque certificate : List Byte

/-- The SHA-512 hash in OTP of the vendor root Ed25519 key (R571). -/
opaque vendorEdHash : BitVec 512

/-- The SHA-512 hash in OTP of the vendor root ML-DSA-65 key (R571). -/
opaque vendorMlHash : BitVec 512

/-- The SHA-512 of the boot ROM (R576). -/
opaque romDigest : BitVec 512

/-- The OTP curve of dose sensor `2 d + s` (R654): dose in Gy of a reading in nV. -/
opaque doseCurve : Nat → Nat → Nat

/-- The frequency correction, in 0.001 ppb, that OTP holds for an oven set-point (R112). -/
opaque setpointTrim : Nat → Int

/-- The ends of a fabric PLL's tuning range (R659). -/
opaque tuneLow : Nat
opaque tuneHigh : Nat

/-- What a port's MAC address is derived from the identity seed as, before it is made a locally administered unicast one (R520). -/
opaque macSeed : Nat → BitVec 48

/-- Where the 32-bit boundaries of a primitive lane lie against the tick count (R361), in 1/134,217,728 of a boundary. -/
opaque primPhase : Nat → Nat

/-- The IDCODE of the JTAG port (R579). -/
opaque idcode : BitVec 32

/-- MOD_IDENT.GRADE, from OTP (R4, R571): 0x1 or 0x2. -/
opaque grade : BitVec 4

end Sys2Proof.Config
end

