-- ==== Sys2Proof/Machine/Bits.lean ====
section
/-! DEFINITION. Bits, bytes, sign extension, byte order (R6, R7) and the two cyclic redundancy checks. -/
namespace Sys2Proof.Machine

/-- Bits `hi:lo` of a number. -/
def bits (x hi lo : Nat) : Nat := (x >>> lo) % 2 ^ (hi - lo + 1)

/-- Bit `i` of a number. -/
def bit (x i : Nat) : Bool := x.testBit i

/-- One for true. -/
def b2n (b : Bool) : Nat := if b then 1 else 0

/-- The number with bit `i` set to `b`. -/
def withBit (x i : Nat) (b : Bool) : Nat :=
  if b then x ||| (1 <<< i) else if x.testBit i then x - 1 <<< i else x

/-- The two's-complement value of the low `w` bits. -/
def sext (w x : Nat) : Int :=
  let y := x % 2 ^ w
  if y < 2 ^ (w - 1) then (y : Int) else (y : Int) - (2 ^ w : Nat)

/-- The low `w` bits of an integer, two's complement. -/
def toU (w : Nat) (x : Int) : Nat := (x % (2 ^ w : Nat)).toNat

/-- Saturation to a signed `w`-bit range. -/
def satS (w : Nat) (x : Int) : Int :=
  let m : Int := (2 ^ (w - 1) : Nat)
  if x < -m then -m else if m - 1 < x then m - 1 else x

/-- Saturation to an unsigned `w`-bit range. -/
def satU (w : Nat) (x : Nat) : Nat := if x < 2 ^ w then x else 2 ^ w - 1

/-- Whether an integer lies outside the signed `w`-bit range. -/
def outS (w : Nat) (x : Int) : Bool := decide (satS w x ≠ x)

/-- Division rounded to nearest, halves away from zero; `d` positive. -/
def roundAway (n : Int) (d : Nat) : Int :=
  if 0 ≤ n then (2 * n + d) / (2 * d : Nat) else -((2 * (-n) + d) / (2 * d : Nat))

/-- Division rounded to nearest, ties to even; `d` positive. -/
def roundEven (n : Int) (d : Nat) : Int :=
  let q := n / d
  let r := n % d
  if 2 * r < d then q else if (d : Int) < 2 * r then q + 1 else if q % 2 = 0 then q else q + 1

/-- Division rounded to nearest, halves upwards; `d` positive. -/
def roundUp (n : Int) (d : Nat) : Int := (2 * n + d) / (2 * d : Nat)

/-- `n` bytes of a number, most significant first (R7). -/
def be (n v : Nat) : List Byte :=
  (List.range n).map (fun i => BitVec.ofNat 8 (v >>> (8 * (n - 1 - i))))

/-- The number that bytes spell, most significant first (R7). -/
def ofBe (l : List Byte) : Nat := l.foldl (fun a b => a * 256 + b.toNat) 0

/-- Bytes `o` to `o + n - 1` of a list. -/
def slice (l : List Byte) (o n : Nat) : List Byte := (l.drop o).take n

/-- One bit of a reflected CRC-32C register (R408). -/
def crc32cBit (c : Nat) : Nat := if c % 2 = 1 then (c >>> 1) ^^^ 0x82F63B78 else c >>> 1

/-- One byte into a CRC-32C register. -/
def crc32cByte (c : Nat) (b : Byte) : Nat :=
  let x := c ^^^ b.toNat
  crc32cBit (crc32cBit (crc32cBit (crc32cBit (crc32cBit (crc32cBit (crc32cBit (crc32cBit x)))))))

/-- The CRC-32C of R408 over a byte string. -/
def crc32c (l : List Byte) : Nat := (l.foldl crc32cByte 0xFFFFFFFF) ^^^ 0xFFFFFFFF

/-- One bit of the CRC-8 register of R364. -/
def crc8Bit (c : Nat) : Nat := if 128 ≤ c then ((c <<< 1) ^^^ 0x07) % 256 else c <<< 1

/-- One byte into the CRC-8 register of R364. -/
def crc8Byte (c : Nat) (b : Byte) : Nat :=
  let x := c ^^^ b.toNat
  crc8Bit (crc8Bit (crc8Bit (crc8Bit (crc8Bit (crc8Bit (crc8Bit (crc8Bit x)))))))

/-- The CRC-8 of R364 over a byte string. -/
def crc8 (l : List Byte) : Nat := l.foldl crc8Byte 0xFF

/-- A number rounded up to a multiple of `d`. -/
def ceilTo (n d : Nat) : Nat := (n + d - 1) / d * d

/-- Whether two intervals, each both ends included, overlap. -/
def overlaps (a b c d : Nat) : Bool := decide (a ≤ d) && decide (c ≤ b)

end Sys2Proof.Machine
end

