-- ==== Sys2Proof/Machine/Sparse.lean ====
section
/-! DEFINITION. Sparse tables as plain data: a list of (key, value) pairs, read with a default.
`Sparse.set` keeps the keys rising; the laws are in Laws/Sparse.lean. -/
namespace Sys2Proof.Machine

/-- A table indexed by a number. -/
abbrev Sparse (α : Type) := List (Nat × α)

/-- The value at `k`, or `d` where nothing is listed. -/
def Sparse.get {α : Type} (d : α) : Sparse α → Nat → α
  | [], _ => d
  | (k, v) :: r, i => if k = i then v else Sparse.get d r i

/-- The table with `v` at `k`, its keys kept rising. -/
def Sparse.set {α : Type} : Sparse α → Nat → α → Sparse α
  | [], k, v => [(k, v)]
  | (k', v') :: r, k, v =>
    if k < k' then (k, v) :: (k', v') :: r
    else if k = k' then (k, v) :: r
    else (k', v') :: Sparse.set r k v

/-- The table without an entry at `k`. -/
def Sparse.del {α : Type} (t : Sparse α) (k : Nat) : Sparse α := t.filter (fun p => p.1 != k)

/-- The table with the value at `k` passed through `f`. -/
def Sparse.mod {α : Type} (d : α) (t : Sparse α) (k : Nat) (f : α → α) : Sparse α :=
  Sparse.set t k (f (Sparse.get d t k))

/-- The table with `k` at `v`, where `v` equal to the default `d` lists nothing. -/
def Sparse.put {α : Type} [DecidableEq α] (d : α) (t : Sparse α) (k : Nat) (v : α) : Sparse α :=
  if v = d then Sparse.del t k else Sparse.set t k v

/-- Every listed key lies above the one before, and none is below `lo`. -/
def Sparse.sortedFrom {α : Type} : Nat → Sparse α → Bool
  | _, [] => true
  | lo, (k, _) :: r => decide (lo ≤ k) && Sparse.sortedFrom (k + 1) r

/-- The numbers from 0 to `n - 1`. -/
def upTo (n : Nat) : List Nat := List.range n

end Sys2Proof.Machine
end

