-- ==== Sys2Proof/Machine/HostState.lean ====
section
/-! DEFINITION. State of the host ports and sessions (R518 to R551), of the supervisor's firmware, boot,
trust and debug (R552 to R588), of supply and power (R589 to R618), and of errors, statistics and the
event log (R619 to R653). -/
namespace Sys2Proof.Machine

/-- Addressed memory: byte cells in canonical form (rising addresses, no cell at its default). -/
abbrev Mem := List Host.Cell

/-- The statuses a response or rejection carries (R539, R582, R618, R668, R701, R731). -/
inductive Status where
  | ok | badValue | badAddress | locked | noLease | leaseHeld | regionsNotIdle | refAbsent | calDue
  | railSpread | urgentDropped | engFormat | engAbi | engOpcode | engFlow | engBudget
  | malformed | unknownCommand | tagConflict | seqWindow | seqConflict | sessionBusy | noSession
  | version | notInRecovery | nonceInvalid | sigInvalid | bindingMismatch
  | imageInvalid | rollback | chunkOffset | ownerSlot | lastOwner | ownerRequired | notVerified
  | supervisorRestart | identFault | stateOrder | tripActive | notInLedger | dsiBusy | commitPending | modeRunning
  | regionDown
  deriving DecidableEq, Repr

/-- The detail of a refusal (R539): kind and value. -/
structure Detail where
  kind : Nat
  value : Nat
  deriving DecidableEq, Repr

/-- What a request or a register write is refused with. -/
structure Refuse where
  status : Status
  detail : Detail
  deriving DecidableEq, Repr

/-- A lease (R534). -/
inductive Lease where
  | module
  | region (k : Nat)
  | channel (c : Nat)
  deriving DecidableEq, Repr

/-- What a request in execution waits for before its response is sent. -/
inductive Wait where
  | regionIdle (k : Nat)
  | regionDown (k : Nat)
  | channelResume (c : Nat)
  | boundary
  | engLoad (k no : Nat)
  | erase
  | compose
  | regionResume (k : Nat)
  deriving DecidableEq, Repr

/-- A response kept for its tag (R528): command code, status and body. -/
structure Resp where
  cmd : Nat
  status : Status
  body : List Byte
  deriving DecidableEq, Repr

/-- The own address and UDP port at which a message was received, and from which it is answered (R520). -/
structure Via where
  addr : OwnAddr := .linkLocal
  udp : Nat := 0
  deriving DecidableEq, Repr

/-- A request placed in a slot of the request mailbox (R529 step 8). -/
structure Slot where
  seq : BitVec 16
  tag : Byte
  req : Request
  via : Via
  deriving DecidableEq, Repr

/-- A tag in use (R528). -/
structure TagRec where
  tag : Byte
  seq : BitVec 16
  digest : Nat
  resp : Option Resp
  deriving DecidableEq, Repr

/-- A request in execution that waits (R530), with the response it will give on success. -/
structure Running where
  seq : BitVec 16
  tag : Byte
  req : Request
  via : Via
  wait : Wait
  body : List Byte
  /-- Word index from which a waiting REG_WRITE goes on. -/
  from_ : Nat
  deriving DecidableEq, Repr

/-- A queued notification (R541), and the moment, ns, it was last sent (R542). -/
structure Notif where
  num : Word
  body : List Byte
  code : Nat
  sent : Nat
  deriving DecidableEq, Repr

/-- A challenge nonce and the moment it was issued, ns (R544). -/
structure Nonce where
  bytes : List Byte
  issued : Nat
  deriving DecidableEq, Repr

/-- A session (R524 to R544). -/
structure Session where
  isOpen : Bool := false
  origin : Nat := 0
  /-- Where OPEN was received. -/
  via : Via := {}
  version : Byte := 0
  /-- Granted timeout, s. -/
  timeout : Nat := 0
  mask : Word := 0
  h : BitVec 16 := 0
  slots : List Slot := []
  tags : List TagRec := []
  running : Option Running := none
  /-- Moment the session timer last restarted, ns. -/
  timer : Nat := 0
  /-- Moment from which slot H has stood empty with a later slot occupied, ns (R530). -/
  gapSince : Option Nat := none
  notifs : List Notif := []
  nextNotif : Word := 1
  lost : Bool := false
  nonce : Option Nonce := none
  staging : Mem := []
  leases : List Lease := []
  /-- The quote formed and the nonce it answers (R577). -/
  quote : Option (List Byte × List Byte) := none
  /-- HOST_PORT_CFG was changed: reset once the response in execution has been sent (R524). -/
  resetDue : Bool := false
  deriving DecidableEq, Repr

/-- A host port: its session and what outlives the session. -/
structure PortState where
  session : Session := {}
  /-- Requests in execution whose session was reset, with the leases it held (R526). -/
  orphans : List (Running × List Lease) := []
  /-- Current or last session id (R547). -/
  sessionId : BitVec 16 := 0
  /-- IPv4 and global IPv6 address, from the configuration (R520); 0 for none. -/
  ipv4 : BitVec 32 := 0
  ipv6 : BitVec 128 := 0
  link : Bool := false
  /-- The second of the last rejection, how many it has sent, and the statuses logged in it (R532). -/
  rejSecond : Nat := 0
  rejSent : Nat := 0
  rejLogged : List Status := []
  echoSecond : Nat := 0
  echoSent : Nat := 0
  deriving DecidableEq, Repr

/-- One boot configuration block (R559). -/
structure BootBlock where
  seq : Nat
  /-- Firmware area that slot A is mapped to. -/
  areaA : Nat
  trial : Bool
  /-- QSPI clock, MHz. -/
  qspi : Nat
  deriving DecidableEq, Repr

/-- State of an owner-key slot in OTP (R571). -/
inductive OwnerState where
  | empty | active | revoked
  deriving DecidableEq, Repr

/-- An owner-key slot: OTP state and hashes, and the keys in flash. -/
structure OwnerSlot where
  state : OwnerState := .empty
  edHash : BitVec 512 := 0
  mlHash : BitVec 512 := 0
  edKey : List Byte := []
  mlKey : List Byte := []
  deriving DecidableEq, Repr

/-- Supervisor firmware, boot, flash and trust (R552 to R588). -/
structure Firmware where
  block0 : Option BootBlock := none
  block1 : Option BootBlock := none
  area0 : Mem := []
  area1 : Mem := []
  cfgArea : Mem := []
  /-- Write pointers of FW_CHUNK (R567), and the sectors erased since FIRST. -/
  fwPtr : Nat := 0
  cfgPtr : Nat := 0
  /-- Slot B's image, when VERIFIED (R568). -/
  verified : Option ImageInfo := none
  /-- Consecutive failed boot attempts of each slot (R564). -/
  failsA : Nat := 0
  failsB : Nat := 0
  /-- The slot the present boot attempt runs, and its image. -/
  booting : Option (Nat × ImageInfo) := none
  /-- 0 = A, 1 = B, 3 = none; the firmware area of the running image, and whether it is on trial (R583). -/
  runSlot : Nat := 0
  runArea : Nat := 0
  onTrial : Bool := false
  runImage : ImageInfo := ⟨false, 0, 0, false, 0⟩
  aRefused : Bool := false
  bRefused : Bool := false
  bRollback : Bool := false
  bootCount : Nat := 0
  bootMs : Nat := 0
  /-- Moment the reset was released, ns. -/
  released : Nat := 0
  /-- Moment firmware was started in this attempt, ns. -/
  started : Nat := 0
  /-- A module reset that is due: 100 ms after activation (R569). -/
  activationDue : Option Nat := none
  /-- Version of the image whose boot attempt failed last (R564). -/
  failed : Word := 0
  /-- A trial image was demoted at this boot: its version (R564). -/
  demoted : Option Word := none
  deriving DecidableEq, Repr

/-- Identity, keys, measurement chain and debug (R571 to R581). -/
structure Trust where
  counter : Nat := 0
  owner0 : OwnerSlot := {}
  owner1 : OwnerSlot := {}
  identOk : Bool := false
  chain : BitVec 512 := 0
  /-- The measurement log, oldest first; at most 1,024 events of 72 bytes. -/
  events : List (List Byte) := []
  logFull : Bool := false
  debugLevel : Nat := 0
  /-- Moment debug locks, ns. -/
  debugUntil : Nat := 0
  jtagNonce : Option Nonce := none
  /-- Nonces issued since power-on. -/
  nonces : Nat := 0
  /-- The data register of the JTAG debug instructions, and the boundary-scan register (R579). -/
  debugData : Nat := 0
  scanData : Nat := 0
  deriving DecidableEq, Repr

/-- The two supervisor pairs (R554 to R557). -/
structure Supervisor where
  restarting0 : Bool := false
  restarting1 : Bool := false
  /-- Moments of the last restart, ns. -/
  last0 : Option Nat := none
  last1 : Option Nat := none
  deriving DecidableEq, Repr

/-- Module states (R601). -/
inductive ModState where
  | off | boot | recovery | standby | ready | acquire | hold
  deriving DecidableEq, Repr

/-- Region states (R603). -/
inductive RgnState where
  | down | idle | cal | run | hold
  deriving DecidableEq, Repr

/-- Supply and module power (R589 to R614). -/
structure Power where
  state : ModState := .boot
  causeFatal : Bool := false
  causeHost : Bool := false
  causeThermal : Bool := false
  causeOv : Bool := false
  ovNow : Bool := false
  thermNow : Bool := false
  /-- Start of the supply dip in progress, internal ticks, and the lowest VIN in it, 10 mV. -/
  dip : Option (Nat × Nat) := none
  vinNow : Nat := 0
  vinMin : Nat := 0x7FF
  /-- Bit of MOD_RESET_CAUSE. -/
  resetCause : Nat := 1
  pg : Bool := true
  nReset : Bool := true
  /-- The TEST_EN land (R739). -/
  testEn : Bool := false
  resetComparator : Bool := false
  /-- Hub sensor, °C. -/
  hubTj : Int := 0
  /-- Regions waiting in CAL, in the order they entered (R606), and whether the first one's pass runs. -/
  calQueue : List Nat := []
  passRunning : Bool := false
  deriving DecidableEq, Repr

/-- A region's power state (R603 to R605, R596, R597). -/
structure RgnPower where
  state : RgnState := .down
  causeModule : Bool := false
  causeThermal : Bool := false
  causeRail : Bool := false
  thermNow : Bool := false
  railNow : Bool := false
  /-- Moment of the last rail fault, ns (R596). -/
  railAt : Nat := 0
  /-- Region sensor, °C. -/
  tj : Int := 0
  nowMv : Nat := 0
  /-- Rail at the start of the ramp in progress, mV, and that start, ns (R597). -/
  rampFrom : Option (Nat × Nat) := none
  /-- The target before the one of that ramp, mV. -/
  rampOld : Nat := 0
  /-- Leaving DOWN (R603), or draining towards DOWN (R759). -/
  starting : Bool := false
  draining : Bool := false
  deriving DecidableEq, Repr

/-- A region's restarts (R626 to R631, R652). -/
structure RgnErr where
  restarting : Bool := false
  /-- Detection, internal ticks, of the restart in progress. -/
  start : Nat := 0
  restarts : Nat := 0
  frameWraps : Nat := 0
  lastCause : Nat := 0
  /-- Moments of the last region restarts, ns, newest first. -/
  times : List Nat := []
  /-- Mask point memories found uncorrectable (bit 2i + m) since the region last left RUN (R620). -/
  maskBad : List (Nat × Nat) := []
  /-- ACCEPTs below this place have been answered by a restart's stubs (R628). -/
  answered : Nat := 0
  deriving DecidableEq, Repr

/-- An entry of the event log (R644). -/
structure LogEntry where
  num : Nat
  datum : Nat
  epochSeq : Nat
  cls : Nat
  kind : Nat
  idx : Nat
  code : Nat
  second : Nat
  value : Nat
  deriving DecidableEq, Repr

/-- Event log and archive (R643 to R647): entries newest first. -/
structure EventLog where
  next : Nat := 0
  entries : List LogEntry := []
  archiveNext : Nat := 0
  archive : List LogEntry := []
  /-- Codes since the last summary: code, occurrences, first datum. -/
  since : List (Nat × Nat × Nat) := []
  deriving DecidableEq, Repr

/-- A statistics counter: its value and its SAT bit (R637, R639). -/
structure Counter where
  val : Nat := 0
  sat : Bool := false
  deriving DecidableEq, Repr

/-- Source of a statistics boundary (R640). -/
inductive BoundarySource where
  | fast | host | timer
  deriving DecidableEq, Repr

/-- Statistics (R635 to R641): live counters, snapshots and the statistics memory, each by the counter's address. -/
structure Stats where
  live : Sparse Counter := []
  snap : Sparse Counter := []
  memory : Sparse Counter := []
  /-- Boundaries raised and not yet written into the fixed lanes (R636). -/
  raised : List BoundarySource := []
  /-- Boundaries written and not yet latched: F_b in fabric cycles and source, oldest first. -/
  due : List (Nat × BoundarySource) := []
  /-- F_b of the last applied boundary, fabric cycles. -/
  lastFb : Option Nat := none
  period : Nat := 0
  ended : Nat := 0
  wraps : Nat := 0
  skipped : Nat := 0
  busy : Bool := false
  source : Nat := 0
  hdrFb : Nat := 0
  /-- Moment from which TIMER_MS counts, ns. -/
  timerFrom : Nat := 0
  /-- A host boundary that was latched and is still to be answered: whether it was applied (R641). -/
  hostWait : Option Bool := none
  /-- Regions whose boundary entry failed its CRC and that latch late (R757), with the boundary. -/
  lateRegions : List Nat := []
  /-- Regions that latched before F_b for a boundary in a failed run, with their counters (R757). -/
  early : List (Nat × Sparse Counter) := []
  deriving DecidableEq, Repr

/-- Module errors (R632, R648). -/
structure Errors where
  fatal : Bool := false
  fatalSrc : Nat := 0
  deriving DecidableEq, Repr

/-- Kinds of interval that a record's window is compared with for its flags (R34, R96, R130 to R132, R160, R591, R631). -/
inductive SpanKind where
  | dip | clockUnlock | holdover | virtual | unreg
  | skew (k : Nat) | regionRestart (k : Nat) | chanRestart (c : Nat)
  | suspect (c : Nat) | revert (c : Nat) | rsRange (c : Nat)
  deriving DecidableEq, Repr

/-- An interval in internal ticks; it is still open while `stop` is none. -/
structure Span where
  kind : SpanKind
  start : Nat
  stop : Option Nat
  deriving DecidableEq, Repr

end Sys2Proof.Machine
end

