-- ==== Sys2Proof/Machine/AcqState.lean ====
section
/-! DEFINITION. State of a channel's chain (R148 to R179), trigger unit (R180 to R230), acquisition memory
and records (R231 to R276), accumulation (R299 to R325) and of a region's lane group (R401 to R427).
Instants are internal ticks times 1,024. -/
namespace Sys2Proof.Machine

/-- Baseline-stage states (R163). -/
inductive BlState where
  | off | acquire | track | frozen | reacquire
  deriving DecidableEq, Repr

/-- The inputs a filter still holds, newest first, each a word with its mark (R51, R150), and the index of the next one. -/
structure Stage where
  hist : List (Int × Bool) := []
  next : Nat := 0
  deriving DecidableEq, Repr

/-- An output sample of the chain output ring: index, word, mark (R23, R51). -/
structure OutSample where
  idx : Nat
  word : Int
  mark : Bool
  deriving DecidableEq, Repr

/-- A block of the tone detector (R166 to R170): the tick of its first sample and its datum index, the samples taken, the bin's
DFT so far, in 2^-30 word, whether a sample was marked, and whether one was not told. -/
structure ToneBlock where
  first : Nat
  datum : Nat
  count : Nat := 0
  re : Int := 0
  im : Int := 0
  sat : Bool := false
  hole : Bool := false
  deriving DecidableEq, Repr

/-- The decimation chain with its slot (R148 to R179). -/
structure Chain where
  /-- Tick from which the chain was empty: RUN entry or restart (R152), none outside RUN; and that moment, ns. -/
  start : Option Nat := none
  startNs : Nat := 0
  /-- Tick from which the last chain was empty: a restarting channel's grid goes on from it (R256). -/
  grid : Nat := 0
  /-- Tick from which samples are stored (R48). -/
  storeFrom : Nat := 0
  bl : BlState := .off
  /-- The estimate b, in 1/65,536 word. -/
  est : Int := 0
  /-- Freeze causes that hold: command, trigger window, excursion (R162). -/
  frzCmd : Bool := false
  frzWin : Bool := false
  frzExc : Bool := false
  /-- Sum of the block in progress in words and whether a sample of it was not told; the block means, newest first, in 1/65,536
  word, as far back as the lag reaches (R161). -/
  blkSum : Int := 0
  blkHole : Bool := false
  means : List Int := []
  /-- Block means taken in ACQUIRE, and their sum (R163). -/
  acqCount : Nat := 0
  acqSum : Int := 0
  /-- Output samples of the excursion's tail still to come, those for which it alone has held, and the last lagged |m - b|
  (R162, R163). -/
  excTail : Nat := 0
  excFrom : Option Nat := none
  resid : Nat := 0
  /-- Windows of the records that the trigger unit opened, as instants (R162). -/
  windows : List (Nat × Nat) := []
  rsRange : Bool := false
  /-- The half-band stages, first one first, and the resampler's input. -/
  stages : List Stage := []
  rs : Stage := {}
  /-- The chain output ring, newest first, and the next sample of each reader: trigger unit, engine, memory (R23). -/
  ring : List OutSample := []
  readTrig : Nat := 0
  readEng : Nat := 0
  readMem : Nat := 0
  /-- Index of the converter sample expected next. -/
  nextIdx : Nat := 0
  /-- Tone detector: the tick from which the next block is sought; the block in progress, completed blocks whose result is still to
  come, oldest first; blocks since RUN entry, OUTSIDE, last result. -/
  toneFrom : Nat := 0
  tone : Option ToneBlock := none
  toneDone : List ToneBlock := []
  blockSeq : Nat := 0
  outside : Bool := false
  mag2 : Nat := 0
  phase : Nat := 0
  /-- Result words with the instant of the block's last sample, newest first (R239). -/
  toneWords : List (Nat × Nat) := []
  deriving DecidableEq, Repr

/-- Arming states (R207); a STOPPED that a mask STOP made is kept apart from the one at the end of a sequence (R216). -/
inductive ArmState where
  | disarmed | filling | armed | record | holdoff | rearm | stopped | maskStopped
  deriving DecidableEq, Repr

/-- A qualification of a comparator that the combiner still holds (R193): instant and fabric cycle. -/
structure Qual where
  inst : Nat
  cycle : Nat
  deriving DecidableEq, Repr

/-- A crossing that waits for the sample after it (R185): its level LO rather than HI, or the zero of a CFD, its direction, and
the level it crossed. -/
structure Crossing where
  low : Bool
  zero : Bool
  up : Bool
  level : Int
  deriving DecidableEq, Repr

/-- A comparator (R183 to R191): for the upward and the downward crossing of LO, HI and a CFD's zero whether one is armed, in the
order of `crossKinds`; the crossings at the newest sample; the opening crossing of a pulse in 1/1024 output
sample, for either polarity; the level word before the last write, with the fabric cycle of that write. -/
structure Comp where
  armed : List Bool := [false, false, false, false, false, false]
  wait : List Crossing := []
  openPos : Option Nat := none
  openNeg : Option Nat := none
  old : Option (Nat × Nat) := none
  deriving DecidableEq, Repr

/-- A comparator's qualification that it has still to report (R190): its comparator, instant, fabric cycle. -/
structure Met where
  second : Bool
  inst : Nat
  cycle : Nat
  deriving DecidableEq, Repr

/-- A channel's trigger unit (R180 to R222). -/
structure Trig where
  arm : ArmState := .disarmed
  /-- Arming state by instant, newest first: each state held from the instant on (R208). -/
  past : List (Nat × ArmState) := []
  /-- Instant at which FILLING began. -/
  fillFrom : Nat := 0
  /-- Hold-off running: the accepted trigger's instant, and events counted in event mode. -/
  holding : Bool := false
  holdInst : Nat := 0
  holdCount : Nat := 0
  rearmAt : Nat := 0
  maskStop : Bool := false
  /-- Triggered records closed in the sequence in progress (R243). -/
  seqClosed : Nat := 0
  lastSrc : Nat := 0
  qualsA : List Qual := []
  qualsB : List Qual := []
  compA : Comp := {}
  compB : Comp := {}
  /-- Qualifications met and not yet reported, oldest first, one for each comparator and fabric cycle (R190). -/
  found : List Met := []
  /-- Fabric cycle of the trigger sample of the last trigger that opened a record (R213). -/
  openCycle : Option Nat := none
  /-- Region-pattern term: instant, and the fabric cycle up to which it is true (R198). -/
  termInst : Nat := 0
  termUntil : Nat := 0
  /-- Qualified triggers not yet decided: source, instant, fabric cycle in which they qualified. -/
  pending : List (Nat × Nat × Nat) := []
  /-- Combiner instants on their way to the time-interval unit (R431). -/
  tiuOut : List Nat := []
  deriving DecidableEq, Repr

/-- Record types (R237). -/
inductive RecKind where
  | accept | triggered | stream
  deriving DecidableEq, Repr

/-- The time and event fields of a header (R256); none for all ones. The instant is a datum instant in 1/1024 tick. -/
structure RecTime where
  ticks : Option Nat
  xing : Option (Nat × Nat)
  event : Nat
  epoch : Nat
  deriving DecidableEq, Repr

/-- A record that is open: not yet closed by its last sample (R241, R248, R252). -/
structure OpenRec where
  kind : RecKind
  /-- Place among the module's ACCEPTs since reset; 0 for a record no ACCEPT opened. -/
  ser : Nat
  time : RecTime
  /-- Output-sample index of the first sample and number of samples delivered (R215). -/
  idx : Nat
  len : Nat
  /-- Instants of the first and last sample. -/
  first : Nat
  last : Nat
  /-- Reference position against record index 0, 1/1024 output sample, and the record index of the reference sample (R277). -/
  refPos : Int
  refIdx : Nat
  /-- Reference instant: the trigger instant, or the instant of the reference sample (R277, R316). -/
  ref : Nat
  slot : Option Nat
  /-- Waits for its window (accept), is being copied, or is written as samples arrive. -/
  extracting : Bool
  /-- Flags already due, as bits of R414. -/
  flags : Nat
  deriving DecidableEq, Repr

/-- A closed record or a stub (R255 to R259, R412 to R414). -/
structure Rec where
  kind : RecKind
  ch : Nat
  ser : Nat := 0
  time : RecTime
  /-- Instants of the window's ends, where a window is known. -/
  win : Option (Nat × Nat)
  flags : Nat
  fmt : Nat := 0
  samples : List Int := []
  /-- Indices of fill values (R266, R284); for each failed word the datum count of the close and the first and last sample it
  replaced, for the event-log entries written when the record has its number (R266). -/
  filled : List Nat := []
  lost : List (Nat × Nat × Nat) := []
  tone : List Nat := []
  words : List Nat := []
  /-- Measurement words computed at the close and appended when the measurement completes (R290, R292). -/
  meas : List Nat := []
  config : Nat := 0
  slot : Option Nat := none
  refPos : Int := 0
  /-- Reference instant (R277, R316). -/
  ref : Nat := 0
  /-- Moment the header was written, ns. -/
  written : Nat := 0
  seq : Nat := 0
  /-- The mask test, the measurement, the tone results are still to come. -/
  toTest : Bool := false
  toMeasure : Bool := false
  toTone : Bool := false
  deriving DecidableEq, Repr

/-- A record on its way to the accumulation sinks (R299 to R301, R319), its place in the region's order of release (R314), and
whether it is the copy of a SCOPE record. -/
structure Fold where
  rcd : Rec
  no : Nat
  avg : Bool
  hist : Bool
  map : Bool
  /-- Feeds map 1 rather than map 0 (R319). -/
  sel : Bool
  copy : Bool
  deriving DecidableEq, Repr

/-- A channel's memory: slots in use, kept segments, open records, closed records awaiting release (R240 to R263). -/
structure Memory where
  /-- Slots and slot size fixed at RUN entry. -/
  slots : Nat := 0
  slotSize : Nat := 0
  used : List Nat := []
  kept : List Nat := []
  /-- Segment the arming machine is writing (R216). -/
  writing : Option Nat := none
  open_ : List OpenRec := []
  closed : List Rec := []
  nextSeq : Nat := 0
  seqWraps : Nat := 0
  /-- Start instant of the next stream record (R252). -/
  streamNext : Nat := 0
  /-- Output samples stored since RUN entry or the last restart, newest first, as the storage format keeps them, with their
  marks, which the SATURATED flag needs (R52, R215, R235). -/
  store : List OutSample := []
  /-- Last record held in each slot, for the aperture. -/
  content : Sparse (List Byte) := []
  /-- Records that wait for their sinks, in release order. -/
  folds : List Fold := []
  deriving DecidableEq, Repr

/-- The averager of a channel (R299 to R308). -/
structure Averager where
  sums : List Int := []
  count : Nat := 0
  done : Bool := false
  sat : Bool := false
  clip : Bool := false
  /-- LEN, DEC, effective mode and FORMAT of the last fold (R307). -/
  config : Option (List Nat) := none
  /-- Edge instant of the first boundary since the last clear (R316). -/
  cut : Option Nat := none
  deriving DecidableEq, Repr

/-- An entry of a region's accept queue or accept mirror (R248 to R250, R628). -/
structure AccEntry where
  ser : Nat
  event : Nat
  epoch : Nat
  lost : Nat
  /-- The carrying crossing: number, edge instant, orbit, BCN. -/
  no : Nat
  edge : Nat
  orbit : Nat
  bcn : Nat
  owing : Nat
  run : Nat := 0
  deriving DecidableEq, Repr

/-- An event whose records are not all released (R263): owing channels, those closed or stubbed, those released. -/
structure EvOrder where
  ser : Nat
  owing : Nat
  done : Nat := 0
  out : Nat := 0
  deriving DecidableEq, Repr

/-- Lane states (R402). -/
inductive LaneState where
  | off | starting | sync | active | retrain | test | fault
  deriving DecidableEq, Repr

/-- A flue frame being sent or to be sent again (R404 to R409). -/
structure FlueFrame where
  seq : Nat
  lane : Nat
  recs : List Rec
  status : Nat
  openTime : Nat
  fmt : Nat
  deriving DecidableEq, Repr

/-- A readout lane: its state and the frame on it, and the state it moves to when that frame completes. -/
structure ROLane where
  state : LaneState := .off
  frame : Option FlueFrame := none
  after : Option LaneState := none
  deriving DecidableEq, Repr

/-- A region's lane group (R401 to R427). -/
structure LaneGroup where
  lanes : Sparse ROLane := []
  /-- Records released and waiting for a frame, in release order. -/
  queue : List Rec := []
  resend : List FlueFrame := []
  nextFrame : Nat := 0
  /-- Damper bucket in 1/80 byte (0.1 Gb/s is 1/80 byte a nanosecond), and when it was last filled, ns. -/
  bucket : Int := 0
  filledAt : Nat := 0
  waited : Bool := false
  ovf : Bool := false
  noLane : Bool := false
  deriving DecidableEq, Repr

/-- A region's acquisition: accept queue and mirror, run totals, pattern state (R199, R248 to R250, R628). -/
structure RgnAcq where
  queue : List AccEntry := []
  highWater : Nat := 0
  mirror : List AccEntry := []
  /-- One past the last ACCEPT that was admitted: those of the mirror from it on are still in transit (R264). -/
  admitted : Nat := 0
  pattern : Bool := false
  /-- Events admitted and not yet wholly released, in event order. -/
  order : List EvOrder := []
  deriving DecidableEq, Repr

end Sys2Proof.Machine
end

