-- ==== Sys2Proof/Machine/ConvState.lean ====
section
/-! DEFINITION. State of a channel's front end and injector (R40 to R71) and of its converter and slice
rotation (R72 to R111). Moments are internal tick counts unless a field says otherwise. -/
namespace Sys2Proof.Machine

/-- Where the injector's step stands (R62, R63). -/
inductive InjPhase where
  | idle | scheduled | active
  deriving DecidableEq, Repr

/-- The step injector (R56 to R66): phase, the edge's tick, the values latched at CAL_INJECT, and whether EN has been
cleared since (R63). -/
structure Injector where
  phase : InjPhase := .idle
  edge : Nat := 0
  ampl : Nat := 0
  pol : Bool := false
  width : Nat := 0
  released : Bool := false
  deriving DecidableEq, Repr

/-- The front end (R40 to R55): live alarms, the saturation of the most recent converter sample, and the
moment, ns, from which samples are written after a GAIN or OFFSET write (R48). -/
structure FrontEnd where
  cmLow : Bool := false
  cmHigh : Bool := false
  satNow : Bool := false
  settleAt : Nat := 0
  settling : Bool := false
  inj : Injector := {}
  deriving DecidableEq, Repr

/-- Rotation states (R88). -/
inductive RotState where
  | stopped | calSpare | shadow | armed | confirm | checkShadow | noSpare | emergArmed
  deriving DecidableEq, Repr

/-- The last closed shadow window (R87, R108). -/
structure ShadowResult where
  verdict : Nat := 0
  spare : Nat := 15
  target : Nat := 15
  mean : Int := 0
  disagree : Nat := 0
  deriving DecidableEq, Repr

/-- A run of one raw code that a slice delivers in unmarked samples (R93): the code, the samples, the tick of the first, and
whether the run has been taken as stuck. -/
structure SliceRun where
  code : Int := 0
  count : Nat := 0
  first : Nat := 0
  told : Bool := false
  deriving DecidableEq, Repr

/-- A comparison of a slice with a partner (R84, R89): pairs with no marked sample, disagreements, the sum of the
differences in words, and the tick at which the disagreements of CONFIRM passed their limit. -/
structure Pairs where
  count : Nat := 0
  disagree : Nat := 0
  sum : Int := 0
  brokeAt : Option Nat := none
  deriving DecidableEq, Repr

/-- A channel's converter (R72 to R108). -/
structure Conv where
  rot : RotState := .stopped
  /-- Slice numbers; 15 = none or not in use. -/
  spare : Nat := 8
  pos : List Nat := [0, 1, 2, 3, 4, 5, 6, 7]
  target : Nat := 0
  effMode : Nat := 0
  calDue : Bool := false
  suspect : Nat := 0
  /-- Strikes of S0 to S8 since the region's last calibration pass (R95). -/
  strikes : List Nat := [0, 0, 0, 0, 0, 0, 0, 0, 0]
  lastSlice : Nat := 15
  lastReason : Nat := 0
  /-- Failed attempts of each slice's benchmark calibration in progress (R83, R88). -/
  attempts : List Nat := [0, 0, 0, 0, 0, 0, 0, 0, 0]
  /-- A window has already failed on this target (R88). -/
  recal : Bool := false
  shadow : ShadowResult := {}
  /-- The step timer: running, expired; the window's verdict so far. -/
  timerFrom : Option Nat := none
  expired : Bool := false
  passed : Bool := false
  /-- Moment the window opened, ns and ticks (R86, R96), and the position it compares: the target, or in CHECK_SHADOW
  the one after it (R88). -/
  windowFrom : Nat := 0
  windowAt : Nat := 0
  phase : Nat := 0
  /-- The shadow pairs of the window, or the reverse-shadow pairs of CONFIRM (R84, R89). -/
  pairs : Pairs := {}
  /-- Boundary of the scheduled handover or revert, ticks. -/
  boundary : Nat := 0
  /-- Boundary of the last handover, ticks, and the slice it relieved. -/
  handoverAt : Nat := 0
  relieved : Nat := 15
  reverting : Bool := false
  /-- Positions of stuck slices that await their replacement, first found first (R93). -/
  stuck : List Nat := []
  /-- The runs of one code that the slices are in (R93). -/
  runs : Sparse SliceRun := []
  /-- Coefficient sets of each slice: in use, standby, and in the configuration image (R82, R625). -/
  coef : Sparse (List Int) := []
  standby : Sparse (List Int) := []
  coefImage : Sparse (List Int) := []
  /-- Slices that have passed their calibration in the region's pass, as a mask (R83), and the moments, ns, at which the
  calibration attempts in progress began (R80). -/
  calDone : Nat := 0
  calFrom : Sparse Nat := []
  /-- Gain and offset error of the front end at each gain step, as the calibration pass measured them (R49). -/
  front : List (List Int) := []
  /-- Input correction's delay line (R76): output words with their marks, newest first; and the index of the converter
  sample expected next. -/
  line : List (Int × Bool) := []
  nextIdx : Nat := 0
  deriving DecidableEq, Repr

end Sys2Proof.Machine
end

