-- ==== Sys2Proof/Machine/Regs.lean ====
section
/-! DEFINITION. The register map: every register the index names (R732, R733, R734), its address
(R712, R715, R716), the masks of its access types (R8, R9), its reset column, and its named fields.
A register that repeats is one kind with an instance number. -/
namespace Sys2Proof.Machine

/-- The three register windows of R712. -/
inductive Win where
  | module | region | channel
  deriving DecidableEq, Repr

/-- One constructor per register name of the index (R732, R733, R734). -/
inductive RegKind where
  | MOD_IDENT | MOD_REGION_SKEW | TIM_MODE | TIM_STAT | TIM_OVEN | TIM_HEARTH_TRIM | TIM_DATUM_LO
  | TIM_DATUM_HI | TIM_EPOCH_STAT | TIM_MCLK_FREQ | TIM_EPOCH_REJ | TIM_TL_CFG | TIM_TL_STAT
  | TIM_TL_XING | TIM_TL_ORBIT | TIM_TL_SYM_ERR | TIM_TL_CRC_ERR | TIM_TL_PROTO_ERR
  | TIM_TL_LOST_ACC | MOD_PATTERN | MOD_XTRIG_CTRL | MOD_EVENT_NEXT | MOD_EVENT_WRAPS
  | MOD_MAP_CTRL | MOD_MAP_X | MOD_MAP_Y | MOD_PRIM_CFG | MOD_PRIM_STAT | MOD_PRIM_CUT
  | MOD_PRIM_LATE | TIM_TIU_CFG | TIM_TIU_WIN | TIM_TIU_STAT | TIM_TIU_TICKS | TIM_TIU_ARM
  | TIM_TIU_CTRL | TIM_TIU_EVT_STAT | TIM_TIU_LATE | TIM_TIU_IGNORED | TIM_XTRIG_DEAD
  | TIM_FREQ_CFG | TIM_FREQ_STAT | TIM_FREQ_HI | TIM_FREQ_LO | SNS_CFG | SNS_CHK | SNS_LEAD
  | SNS_STAT | SNS_VALUE | SNS_Z_RE | SNS_Z_IM | SNS_CHK_RES | SNS_OPEN_COUNT | SNS_CHK_SKIP
  | SNS_TABLE | SNS_SH_A | SNS_SH_B | SNS_SH_C | HK_A_ENT | HK_A_WIN | HK_A_RES | HK_B_ENT
  | HK_B_WIN | HK_B_RES | HK_CTRL | HK_STAT | HK_WIN_STAT | HK_XCHK_CFG | HK_REF_EXT | HK_XCHK_RES
  | HK_URGENT | HK_URGENT_RES | HK_URGENT_DROPPED | HK_XCHK_FAILS | HOST_PORT_CFG | HOST_PORT_STAT
  | HOST_PORT_SESS | HOST_DUPLICATE | HOST_LATE | HOST_REJECT | HOST_GAP_SKIP | HOST_NOTIF_DROP
  | HOST_FRAME_DROP | HOST_CFG | HOST_LEASE_LO | HOST_LEASE_HI | MOD_BOOT_STAT | MOD_FW_VERSION
  | MOD_TRUST_STAT | MOD_DEBUG_STAT | MOD_SUP_STAT | MOD_LOCKSTEP_ERR | MOD_PWR_STAT
  | MOD_RESET_CAUSE | MOD_VIN | MOD_SUPPLY_WARN | MOD_ERR_STAT | MOD_ERR_CTRL | MOD_STAT_CTRL
  | MOD_LOG_STAT | MOD_ORBIT_WRAPS | MOD_ECC_CORR | MOD_VOTE_FIX | MOD_SCRUB_UNCORR | MOD_AGE_CTRL
  | MOD_AGE_STAT | MOD_AGE_HOURS | MOD_AGE_DOSE | DSI_CTRL | DSI_STAT | DSI_CLK | DSI_HTIM0
  | DSI_HTIM1 | DSI_VTIM0 | DSI_VTIM1 | DSI_CMDP | DSI_COMP0 | DSI_COMP1 | DSI_COMP2 | DSI_COMMIT
  | DSI_FRAME_CNT | DSI_FLIP_LO | DSI_FLIP_HI | DSI_TE_TIMEOUT | DSI_COMMIT_LATE | MOD_SCRATCH
  | MOD_CFG_GEN | MOD_STAGE_STAT | MOD_COMMIT_STAT | MOD_ADDR_FAULT | MOD_ADDR_FAULTS
  | RGN_PWR_STAT | RGN_RAIL | RGN_ROT_CTRL | RGN_SHADOW_CFG | RGN_ROT_FAULTS | RGN_TRIG_PROF_CFG
  | RGN_TRIG_PROF_LIM | RGN_PATTERN | RGN_PERIODIC | RGN_SOFT_TRIG | RGN_TRIG_IGNORED_PRE
  | RGN_TRIG_IGNORED_HOLD | RGN_XQ_STAT | RGN_XQ_LATE | RGN_ACQ_CTRL | RGN_LAT_CFG | RGN_ACCQ_STAT
  | RGN_MEM_APERTURE | RGN_STUB_COUNT | RGN_ECC_CORR | RGN_MASK_STAT | RGN_MASK_FAILS
  | RGN_ACC_CTRL | RGN_ACC_SINK | RGN_ACC_MAP | RGN_ACC_CLR | RGN_ACC_STAT | RGN_ACC_DROPPED
  | ENG_CTRL | ENG_STAT | ENG_BUDGET | ENG_OVERRUNS | ENG_REFUSED | RGN_RO_CTRL | RGN_RO_LANE_STAT
  | RGN_RO_TEST | RGN_DAMPER | RGN_RO_OVF | RGN_RO_FRAMES | RGN_RO_OVF_STUBS | RGN_RO_DISCARDED
  | RGN_ERR_STAT | RGN_AGE_STAT | RGN_AGE_RO | CH_FE_CTRL | CH_FE_STAT | CH_INJ_CTRL | CH_INJ_TIME
  | CH_SAT_COUNT | CH_CONV_CTRL | CH_CONV_STAT | CH_SLICE_MAP | CH_SLICE_HEALTH | CH_SHADOW_STAT
  | CH_CHAIN_CTRL | CH_RS_RATIO | CH_SLOT_CFG | CH_SLOT_AUX | CH_SLOT_RESULT | CH_CHAIN_STAT
  | CH_TRIG_CTRL | CH_TRIG_LEVEL_A | CH_TRIG_LEVEL_B | CH_TRIG_HOLD | CH_TRIG_STAT | CH_MEM_CTRL
  | CH_REC_WIN | CH_MASK_CTRL
  deriving DecidableEq, Repr

/-- What the index and the field map say of one register: its window, base offset, stride and
count, the masks of its access types, the bits that are triple-voted, the reset column, and
whether it is a statistics counter. -/
structure RegInfo where
  win : Win
  base : Nat
  stride : Nat := 0
  cnt : Nat := 1
  rw : Nat := 0
  rwl : Nat := 0
  rws : Nat := 0
  w1c : Nat := 0
  wo : Nat := 0
  voted : Nat := 0
  reset : Nat := 0
  counter : Bool := false
  deriving DecidableEq, Repr

/-- The row of each register (its field map's rule in the comment). -/
def RegKind.info : RegKind → RegInfo
  | .MOD_IDENT => { win := .module, base := 0x0, reset := 0x19200020 } -- R4
  | .MOD_REGION_SKEW => { win := .module, base := 0x140, w1c := 0xFFF } -- R37
  | .TIM_MODE => { win := .module, base := 0x400, rw := 0xF03FFFFF, voted := 0xF03FFFFF } -- R140
  | .TIM_STAT => { win := .module, base := 0x404, w1c := 0xF0 } -- R141
  | .TIM_OVEN => { win := .module, base := 0x408, rw := 0x3, voted := 0x3, reset := 0x1 } -- R142
  | .TIM_HEARTH_TRIM => { win := .module, base := 0x40C, rw := 0xFFFFFFFF, voted := 0xFFFFFFFF, reset := 0xA000000 } -- R143
  | .TIM_DATUM_LO => { win := .module, base := 0x410 } -- R144
  | .TIM_DATUM_HI => { win := .module, base := 0x414 } -- R144
  | .TIM_EPOCH_STAT => { win := .module, base := 0x418, wo := 0x80000000 } -- R145
  | .TIM_MCLK_FREQ => { win := .module, base := 0x41C } -- R146
  | .TIM_EPOCH_REJ => { win := .module, base := 0x420, counter := true } -- R147
  | .TIM_TL_CFG => { win := .module, base := 0x430, rw := 0xFFFFFE1F, voted := 0xFFFFFE1F, reset := 0x601F } -- R397
  | .TIM_TL_STAT => { win := .module, base := 0x434, w1c := 0x7 } -- R398
  | .TIM_TL_XING => { win := .module, base := 0x438 } -- R399
  | .TIM_TL_ORBIT => { win := .module, base := 0x43C } -- R399
  | .TIM_TL_SYM_ERR => { win := .module, base := 0x440, counter := true } -- R400
  | .TIM_TL_CRC_ERR => { win := .module, base := 0x444, counter := true } -- R400
  | .TIM_TL_PROTO_ERR => { win := .module, base := 0x448, counter := true } -- R400
  | .TIM_TL_LOST_ACC => { win := .module, base := 0x44C, counter := true } -- R400
  | .MOD_PATTERN => { win := .module, base := 0x500, rw := 0xC0000FFF, voted := 0xC0000FFF } -- R229
  | .MOD_XTRIG_CTRL => { win := .module, base := 0x504, rw := 0x3F, voted := 0x3F } -- R230
  | .MOD_EVENT_NEXT => { win := .module, base := 0x600 } -- R276
  | .MOD_EVENT_WRAPS => { win := .module, base := 0x604 } -- R276
  | .MOD_MAP_CTRL => { win := .module, base := 0x700, stride := 0x10, cnt := 2, rw := 0x80FF0000, w1c := 0x1, wo := 0x40000000, voted := 0x80FF0000 } -- R323
  | .MOD_MAP_X => { win := .module, base := 0x704, stride := 0x10, cnt := 2, rw := 0xFFFFFFFF, voted := 0xFFFFFFFF, reset := 0x10 } -- R324
  | .MOD_MAP_Y => { win := .module, base := 0x708, stride := 0x10, cnt := 2, rw := 0xFFFF0007, voted := 0xFFFF0007, reset := 0x80000000 } -- R325
  | .MOD_PRIM_CFG => { win := .module, base := 0x800, stride := 0x10, cnt := 8, rw := 0xE0FF00FF, voted := 0xE0FF00FF, reset := 0x830010 } -- R374
  | .MOD_PRIM_STAT => { win := .module, base := 0x804, stride := 0x10, cnt := 8, w1c := 0x6 } -- R375
  | .MOD_PRIM_CUT => { win := .module, base := 0x880, counter := true } -- R376
  | .MOD_PRIM_LATE => { win := .module, base := 0x884, counter := true } -- R376
  | .TIM_TIU_CFG => { win := .module, base := 0xA00, stride := 0x10, cnt := 32, rw := 0xEFFFFFFF, voted := 0xEFFFFFFF } -- R445
  | .TIM_TIU_WIN => { win := .module, base := 0xA04, stride := 0x10, cnt := 32, rw := 0xFFFFFFFF, voted := 0xFFFFFFFF, reset := 0x1 } -- R446
  | .TIM_TIU_STAT => { win := .module, base := 0xA08, stride := 0x10, cnt := 32, w1c := 0x80000000 } -- R447
  | .TIM_TIU_TICKS => { win := .module, base := 0xA0C, stride := 0x10, cnt := 32 } -- R448
  | .TIM_TIU_ARM => { win := .module, base := 0xC00, wo := 0xFFFFFFFF } -- R449
  | .TIM_TIU_CTRL => { win := .module, base := 0xC04, rw := 0xFFF, voted := 0xFFF, reset := 0xC0 } -- R449
  | .TIM_TIU_EVT_STAT => { win := .module, base := 0xC08, w1c := 0x7 } -- R450
  | .TIM_TIU_LATE => { win := .module, base := 0xC0C, counter := true } -- R451
  | .TIM_TIU_IGNORED => { win := .module, base := 0xC10, counter := true } -- R451
  | .TIM_XTRIG_DEAD => { win := .module, base := 0xC14, counter := true } -- R451
  | .TIM_FREQ_CFG => { win := .module, base := 0xC20, rw := 0x40F03FFF, wo := 0x80000000, voted := 0x40F03FFF, reset := 0x3E8 } -- R452
  | .TIM_FREQ_STAT => { win := .module, base := 0xC24, w1c := 0x80000000 } -- R453
  | .TIM_FREQ_HI => { win := .module, base := 0xC28 } -- R453
  | .TIM_FREQ_LO => { win := .module, base := 0xC2C } -- R453
  | .SNS_CFG => { win := .module, base := 0x1000, stride := 0x20, cnt := 24, rw := 0xB70F307F, voted := 0xB70F307F, reset := 0x300000A } -- R478
  | .SNS_CHK => { win := .module, base := 0x1004, stride := 0x20, cnt := 24, rw := 0xFFFF0FFF, voted := 0xFFFF0FFF } -- R479
  | .SNS_LEAD => { win := .module, base := 0x1008, stride := 0x20, cnt := 24, rw := 0xFFFFFF, voted := 0xFFFFFF } -- R480
  | .SNS_STAT => { win := .module, base := 0x100C, stride := 0x20, cnt := 24, w1c := 0xF00000 } -- R481
  | .SNS_VALUE => { win := .module, base := 0x1010, stride := 0x20, cnt := 24 } -- R482
  | .SNS_Z_RE => { win := .module, base := 0x1014, stride := 0x20, cnt := 24 } -- R482
  | .SNS_Z_IM => { win := .module, base := 0x1018, stride := 0x20, cnt := 24 } -- R482
  | .SNS_CHK_RES => { win := .module, base := 0x101C, stride := 0x20, cnt := 24 } -- R483
  | .SNS_OPEN_COUNT => { win := .module, base := 0x1300, counter := true } -- R485
  | .SNS_CHK_SKIP => { win := .module, base := 0x1304, counter := true } -- R485
  | .SNS_TABLE => { win := .module, base := 0x1400, stride := 0x4, cnt := 256, rw := 0xFFFFFFFF } -- R484
  | .SNS_SH_A => { win := .module, base := 0x1800, stride := 0x10, cnt := 4, rw := 0xFFFFFFFF } -- R484
  | .SNS_SH_B => { win := .module, base := 0x1804, stride := 0x10, cnt := 4, rw := 0xFFFFFFFF } -- R484
  | .SNS_SH_C => { win := .module, base := 0x1808, stride := 0x10, cnt := 4, rw := 0xFFFFFFFF } -- R484
  | .HK_A_ENT => { win := .module, base := 0x2000, stride := 0x10, cnt := 16, rw := 0xF800007F, voted := 0xF800007F } -- R506
  | .HK_A_WIN => { win := .module, base := 0x2004, stride := 0x10, cnt := 16, rw := 0x3FFF3FFF, voted := 0x3FFF3FFF, reset := 0x3FFF0000 } -- R507
  | .HK_A_RES => { win := .module, base := 0x2008, stride := 0x10, cnt := 16 } -- R508
  | .HK_B_ENT => { win := .module, base := 0x2100, stride := 0x10, cnt := 16, rw := 0xF800007F, voted := 0xF800007F } -- R506
  | .HK_B_WIN => { win := .module, base := 0x2104, stride := 0x10, cnt := 16, rw := 0x3FFF3FFF, voted := 0x3FFF3FFF, reset := 0x3FFF0000 } -- R507
  | .HK_B_RES => { win := .module, base := 0x2108, stride := 0x10, cnt := 16 } -- R508
  | .HK_CTRL => { win := .module, base := 0x2200, rw := 0xC33C00FF, wo := 0x30000000, voted := 0x33C00FF, reset := 0xFF } -- R509
  | .HK_STAT => { win := .module, base := 0x2204, w1c := 0x7, reset := 0x1FF8000 } -- R510
  | .HK_WIN_STAT => { win := .module, base := 0x2208, w1c := 0xFFFFFFFF } -- R511
  | .HK_XCHK_CFG => { win := .module, base := 0x220C, rw := 0xE7FFFFFF, voted := 0xE7FFFFFF, reset := 0x63F303E8 } -- R512
  | .HK_REF_EXT => { win := .module, base := 0x2210, rw := 0xFFFF, voted := 0xFFFF, reset := 0x9C4 } -- R513
  | .HK_XCHK_RES => { win := .module, base := 0x2214 } -- R514
  | .HK_URGENT => { win := .module, base := 0x2218, wo := 0xFE00007F } -- R515
  | .HK_URGENT_RES => { win := .module, base := 0x221C } -- R516
  | .HK_URGENT_DROPPED => { win := .module, base := 0x2220, counter := true } -- R517
  | .HK_XCHK_FAILS => { win := .module, base := 0x2224, counter := true } -- R517
  | .HOST_PORT_CFG => { win := .module, base := 0x3000, stride := 0x40, cnt := 4, rw := 0x8000FFFF, voted := 0x8000FFFF, reset := 0x80004B5A } -- R546
  | .HOST_PORT_STAT => { win := .module, base := 0x3004, stride := 0x40, cnt := 4, w1c := 0x30000000 } -- R547
  | .HOST_PORT_SESS => { win := .module, base := 0x3008, stride := 0x40, cnt := 4 } -- R548
  | .HOST_DUPLICATE => { win := .module, base := 0x300C, stride := 0x40, cnt := 4, counter := true } -- R549
  | .HOST_LATE => { win := .module, base := 0x3010, stride := 0x40, cnt := 4, counter := true } -- R549
  | .HOST_REJECT => { win := .module, base := 0x3014, stride := 0x40, cnt := 4, counter := true } -- R549
  | .HOST_GAP_SKIP => { win := .module, base := 0x3018, stride := 0x40, cnt := 4, counter := true } -- R549
  | .HOST_NOTIF_DROP => { win := .module, base := 0x301C, stride := 0x40, cnt := 4, counter := true } -- R549
  | .HOST_FRAME_DROP => { win := .module, base := 0x3020, stride := 0x40, cnt := 4, counter := true } -- R549
  | .HOST_CFG => { win := .module, base := 0x3100, rw := 0xFFFFFFFF, voted := 0xFFFFFFFF, reset := 0x400A00C8 } -- R550
  | .HOST_LEASE_LO => { win := .module, base := 0x3104 } -- R551
  | .HOST_LEASE_HI => { win := .module, base := 0x3108 } -- R551
  | .MOD_BOOT_STAT => { win := .module, base := 0x3800, w1c := 0x1000000 } -- R583
  | .MOD_FW_VERSION => { win := .module, base := 0x3804 } -- R584
  | .MOD_TRUST_STAT => { win := .module, base := 0x3808 } -- R585
  | .MOD_DEBUG_STAT => { win := .module, base := 0x380C, wo := 0x80000000 } -- R586
  | .MOD_SUP_STAT => { win := .module, base := 0x3810, w1c := 0x3 } -- R587
  | .MOD_LOCKSTEP_ERR => { win := .module, base := 0x3814, counter := true } -- R588
  | .MOD_PWR_STAT => { win := .module, base := 0x3C00, w1c := 0xF, reset := 0x20000000 } -- R612
  | .MOD_RESET_CAUSE => { win := .module, base := 0x3C04 } -- R613
  | .MOD_VIN => { win := .module, base := 0x3C08, wo := 0x80000000, reset := 0x7FF0000 } -- R614
  | .MOD_SUPPLY_WARN => { win := .module, base := 0x3C10, counter := true } -- R615
  | .MOD_ERR_STAT => { win := .module, base := 0x4000, w1c := 0x7 } -- R648
  | .MOD_ERR_CTRL => { win := .module, base := 0x4004, wo := 0x80000000 } -- R649
  | .MOD_STAT_CTRL => { win := .module, base := 0x4008, rw := 0xFFFF, voted := 0xFFFF } -- R650
  | .MOD_LOG_STAT => { win := .module, base := 0x400C } -- R651
  | .MOD_ORBIT_WRAPS => { win := .module, base := 0x4010 } -- R651
  | .MOD_ECC_CORR => { win := .module, base := 0x4020, counter := true } -- R653
  | .MOD_VOTE_FIX => { win := .module, base := 0x4024, counter := true } -- R653
  | .MOD_SCRUB_UNCORR => { win := .module, base := 0x4028, counter := true } -- R653
  | .MOD_AGE_CTRL => { win := .module, base := 0x4400, rw := 0xF80000FF, voted := 0xF80000FF, reset := 0xE0000064 } -- R669
  | .MOD_AGE_STAT => { win := .module, base := 0x4404, w1c := 0xCC000000 } -- R670
  | .MOD_AGE_HOURS => { win := .module, base := 0x4408 } -- R671
  | .MOD_AGE_DOSE => { win := .module, base := 0x4410, stride := 0x4, cnt := 5, reset := 0x80000000 } -- R671
  | .DSI_CTRL => { win := .module, base := 0x4800, rw := 0xE0000000, voted := 0xE0000000 } -- R692
  | .DSI_STAT => { win := .module, base := 0x4804, w1c := 0x30000 } -- R693
  | .DSI_CLK => { win := .module, base := 0x4808, rws := 0xCFFFFFFF, voted := 0xCFFFFFFF, reset := 0x83E915C3 } -- R694
  | .DSI_HTIM0 => { win := .module, base := 0x480C, rws := 0x7FF03FF, voted := 0x7FF03FF, reset := 0x5000020 } -- R695
  | .DSI_HTIM1 => { win := .module, base := 0x4810, rws := 0x3FF03FF, voted := 0x3FF03FF, reset := 0x500030 } -- R695
  | .DSI_VTIM0 => { win := .module, base := 0x4814, rws := 0x3FF03FF, voted := 0x3FF03FF, reset := 0x3200006 } -- R695
  | .DSI_VTIM1 => { win := .module, base := 0x4818, rws := 0x3FF03FF, voted := 0x3FF03FF, reset := 0xE0003 } -- R695
  | .DSI_CMDP => { win := .module, base := 0x481C, rws := 0x1FFFF, voted := 0x1FFFF, reset := 0x411B } -- R696
  | .DSI_COMP0 => { win := .module, base := 0x4820, rw := 0xBFFFFC0F, voted := 0xBFFFFC0F } -- R697
  | .DSI_COMP1 => { win := .module, base := 0x4824, rw := 0x3FF03FF, voted := 0x3FF03FF, reset := 0x3FF031F } -- R697
  | .DSI_COMP2 => { win := .module, base := 0x4828, rw := 0x7FF03FF, voted := 0x7FF03FF } -- R697
  | .DSI_COMMIT => { win := .module, base := 0x482C, wo := 0xE0000000 } -- R698
  | .DSI_FRAME_CNT => { win := .module, base := 0x4830 } -- R699
  | .DSI_FLIP_LO => { win := .module, base := 0x4834 } -- R699
  | .DSI_FLIP_HI => { win := .module, base := 0x4838 } -- R699
  | .DSI_TE_TIMEOUT => { win := .module, base := 0x4840, counter := true } -- R700
  | .DSI_COMMIT_LATE => { win := .module, base := 0x4844, counter := true } -- R700
  | .MOD_SCRATCH => { win := .module, base := 0x4C00, stride := 0x4, cnt := 64, rw := 0xFFFFFFFF, voted := 0xFFFFFFFF } -- R726
  | .MOD_CFG_GEN => { win := .module, base := 0x4D00 } -- R727
  | .MOD_STAGE_STAT => { win := .module, base := 0x4D04 } -- R728
  | .MOD_COMMIT_STAT => { win := .module, base := 0x4D08 } -- R729
  | .MOD_ADDR_FAULT => { win := .module, base := 0x4D0C } -- R730
  | .MOD_ADDR_FAULTS => { win := .module, base := 0x4D10, counter := true } -- R730
  | .RGN_PWR_STAT => { win := .region, base := 0x0 } -- R616
  | .RGN_RAIL => { win := .region, base := 0x4, rw := 0x3FF, voted := 0x3FF, reset := 0x2EE } -- R617
  | .RGN_ROT_CTRL => { win := .region, base := 0x20, rw := 0x73FFF, voted := 0x73FFF, reset := 0x3300A } -- R109
  | .RGN_SHADOW_CFG => { win := .region, base := 0x24, rw := 0xFFFFFFFF, voted := 0xFFFFFFFF, reset := 0x8204100 } -- R110
  | .RGN_ROT_FAULTS => { win := .region, base := 0x28, counter := true } -- R111
  | .RGN_TRIG_PROF_CFG => { win := .region, base := 0x40, stride := 0x8, cnt := 4, rwl := 0xFFFFFFC0, voted := 0xFFFFFFC0, reset := 0x10048040 } -- R223
  | .RGN_TRIG_PROF_LIM => { win := .region, base := 0x44, stride := 0x8, cnt := 4, rwl := 0xFFFFFFFF, voted := 0xFFFFFFFF } -- R224
  | .RGN_PATTERN => { win := .region, base := 0x60, rwl := 0xC01FFFFF, voted := 0xC01FFFFF, reset := 0x10000 } -- R225
  | .RGN_PERIODIC => { win := .region, base := 0x64, rwl := 0xFFFFFFFF, voted := 0xFFFFFFFF } -- R226
  | .RGN_SOFT_TRIG => { win := .region, base := 0x68, wo := 0xFFFF } -- R227
  | .RGN_TRIG_IGNORED_PRE => { win := .region, base := 0x6C, counter := true } -- R228
  | .RGN_TRIG_IGNORED_HOLD => { win := .region, base := 0x70, counter := true } -- R228
  | .RGN_XQ_STAT => { win := .region, base := 0xA0, wo := 0x80000000, reset := 0x181800 } -- R38
  | .RGN_XQ_LATE => { win := .region, base := 0xA4, counter := true } -- R39
  | .RGN_ACQ_CTRL => { win := .region, base := 0xB0, rwl := 0xC000FFFF, voted := 0xC000FFFF } -- R271
  | .RGN_LAT_CFG => { win := .region, base := 0xB4, rwl := 0xFFFF, voted := 0xFFFF } -- R272
  | .RGN_ACCQ_STAT => { win := .region, base := 0xB8, w1c := 0x1, wo := 0x80000000 } -- R273
  | .RGN_MEM_APERTURE => { win := .region, base := 0xBC, rw := 0xF8000FF } -- R274
  | .RGN_STUB_COUNT => { win := .region, base := 0xC0, counter := true } -- R275
  | .RGN_ECC_CORR => { win := .region, base := 0xC4, counter := true } -- R275
  | .RGN_MASK_STAT => { win := .region, base := 0xC8, w1c := 0xFFFF } -- R297
  | .RGN_MASK_FAILS => { win := .region, base := 0xCC, counter := true } -- R298
  | .RGN_ACC_CTRL => { win := .region, base := 0xD0, rw := 0xF000, rwl := 0xC0000F1F, voted := 0xC0000F1F } -- R317
  | .RGN_ACC_SINK => { win := .region, base := 0xD4, rwl := 0xFFFFFFFF, voted := 0xFFFFFFFF } -- R318
  | .RGN_ACC_MAP => { win := .region, base := 0xD8, rw := 0xFFFFFFFF, voted := 0xFFFFFFFF } -- R319
  | .RGN_ACC_CLR => { win := .region, base := 0xDC, wo := 0xFFFFFFFF } -- R320
  | .RGN_ACC_STAT => { win := .region, base := 0xE0, w1c := 0x70000 } -- R321
  | .RGN_ACC_DROPPED => { win := .region, base := 0xE4, counter := true } -- R322
  | .ENG_CTRL => { win := .region, base := 0x100, rwl := 0xFFFF0000, voted := 0xFFFF0000 } -- R355
  | .ENG_STAT => { win := .region, base := 0x104, w1c := 0xFFFF } -- R356
  | .ENG_BUDGET => { win := .region, base := 0x108, rwl := 0xFF, voted := 0xFF, reset := 0xC } -- R357
  | .ENG_OVERRUNS => { win := .region, base := 0x10C, counter := true } -- R358
  | .ENG_REFUSED => { win := .region, base := 0x110, counter := true } -- R358
  | .RGN_RO_CTRL => { win := .region, base := 0x140, rw := 0xFF000000, rwl := 0x9FC0, wo := 0xFF0000, voted := 0xFF009FC0, reset := 0x8400 } -- R422
  | .RGN_RO_LANE_STAT => { win := .region, base := 0x144, w1c := 0xFF000000 } -- R423
  | .RGN_RO_TEST => { win := .region, base := 0x148, rw := 0xFF000001, voted := 0xFF000001 } -- R424
  | .RGN_DAMPER => { win := .region, base := 0x14C, rw := 0xFF0007FF, voted := 0xFF0007FF, reset := 0x40000000 } -- R425
  | .RGN_RO_OVF => { win := .region, base := 0x150, rw := 0xFFFF0000, w1c := 0x6, voted := 0xFFFF0000 } -- R426
  | .RGN_RO_FRAMES => { win := .region, base := 0x154, counter := true } -- R427
  | .RGN_RO_OVF_STUBS => { win := .region, base := 0x158, counter := true } -- R427
  | .RGN_RO_DISCARDED => { win := .region, base := 0x15C, counter := true } -- R427
  | .RGN_ERR_STAT => { win := .region, base := 0x180, w1c := 0xC } -- R652
  | .RGN_AGE_STAT => { win := .region, base := 0x1C0, w1c := 0xC000 } -- R672
  | .RGN_AGE_RO => { win := .region, base := 0x1C4 } -- R673
  | .CH_FE_CTRL => { win := .channel, base := 0x0, rwl := 0xFFF0007, voted := 0xFFF0007, reset := 0x1 } -- R67
  | .CH_FE_STAT => { win := .channel, base := 0x4, w1c := 0xF00 } -- R68
  | .CH_INJ_CTRL => { win := .channel, base := 0x8, rw := 0xE00FFFFF, voted := 0xE00FFFFF } -- R69
  | .CH_INJ_TIME => { win := .channel, base := 0xC, rw := 0xFFFFFFFF, voted := 0xFFFFFFFF, reset := 0x800 } -- R70
  | .CH_SAT_COUNT => { win := .channel, base := 0x10, counter := true } -- R71
  | .CH_CONV_CTRL => { win := .channel, base := 0x14, rw := 0x30, rwl := 0x3, wo := 0x100, voted := 0x33, reset := 0x30 } -- R104
  | .CH_CONV_STAT => { win := .channel, base := 0x18, w1c := 0xF8, reset := 0x8000000 } -- R105
  | .CH_SLICE_MAP => { win := .channel, base := 0x1C, reset := 0x76543210 } -- R106
  | .CH_SLICE_HEALTH => { win := .channel, base := 0x20, rwl := 0x1FF, voted := 0x1FF, reset := 0xF0000000 } -- R107
  | .CH_SHADOW_STAT => { win := .channel, base := 0x24, reset := 0x3FC00000 } -- R108
  | .CH_CHAIN_CTRL => { win := .channel, base := 0x28, rw := 0x1000, rwl := 0xFFFFC38F, voted := 0xFFFFD38F } -- R174
  | .CH_RS_RATIO => { win := .channel, base := 0x2C, rwl := 0xFFFFFFFF, voted := 0xFFFFFFFF, reset := 0x80000000 } -- R175
  | .CH_SLOT_CFG => { win := .channel, base := 0x30, rwl := 0xFFFFFF1F, voted := 0xFFFFFF1F } -- R176
  | .CH_SLOT_AUX => { win := .channel, base := 0x34, rw := 0xFFFFFFFF, voted := 0xFFFFFFFF, reset := 0xFFFF0000 } -- R177
  | .CH_SLOT_RESULT => { win := .channel, base := 0x38 } -- R178
  | .CH_CHAIN_STAT => { win := .channel, base := 0x3C, w1c := 0xF0 } -- R179
  | .CH_TRIG_CTRL => { win := .channel, base := 0x40, rwl := 0xFFBFFFC0, wo := 0x400000, voted := 0xFFBFFFC0, reset := 0x800040 } -- R219
  | .CH_TRIG_LEVEL_A => { win := .channel, base := 0x44, rw := 0xFFFFFFFF, voted := 0xFFFFFFFF, reset := 0x4000C000 } -- R220
  | .CH_TRIG_LEVEL_B => { win := .channel, base := 0x48, rw := 0xFFFFFFFF, voted := 0xFFFFFFFF, reset := 0x4000C000 } -- R220
  | .CH_TRIG_HOLD => { win := .channel, base := 0x4C, rwl := 0xFFFFFFFF, voted := 0xFFFFFFFF } -- R221
  | .CH_TRIG_STAT => { win := .channel, base := 0x50, w1c := 0x7 } -- R222
  | .CH_MEM_CTRL => { win := .channel, base := 0x54, rwl := 0xFFFF1F, w1c := 0x20, voted := 0xFFFF1F, reset := 0x80401 } -- R269
  | .CH_REC_WIN => { win := .channel, base := 0x58, rwl := 0xFFFFFFFF, voted := 0xFFFFFFFF, reset := 0x40004 } -- R270
  | .CH_MASK_CTRL => { win := .channel, base := 0x5C, rwl := 0xF83FFFFF, voted := 0xF83FFFFF } -- R296

/-- Every register of the module register window (R732). -/
def moduleKinds : List RegKind :=
  [.MOD_IDENT, .MOD_REGION_SKEW, .TIM_MODE, .TIM_STAT, .TIM_OVEN, .TIM_HEARTH_TRIM, .TIM_DATUM_LO,
    .TIM_DATUM_HI, .TIM_EPOCH_STAT, .TIM_MCLK_FREQ, .TIM_EPOCH_REJ, .TIM_TL_CFG, .TIM_TL_STAT,
    .TIM_TL_XING, .TIM_TL_ORBIT, .TIM_TL_SYM_ERR, .TIM_TL_CRC_ERR, .TIM_TL_PROTO_ERR,
    .TIM_TL_LOST_ACC, .MOD_PATTERN, .MOD_XTRIG_CTRL, .MOD_EVENT_NEXT, .MOD_EVENT_WRAPS,
    .MOD_MAP_CTRL]
  ++ [.MOD_MAP_X, .MOD_MAP_Y, .MOD_PRIM_CFG, .MOD_PRIM_STAT, .MOD_PRIM_CUT, .MOD_PRIM_LATE,
    .TIM_TIU_CFG, .TIM_TIU_WIN, .TIM_TIU_STAT, .TIM_TIU_TICKS, .TIM_TIU_ARM, .TIM_TIU_CTRL,
    .TIM_TIU_EVT_STAT, .TIM_TIU_LATE, .TIM_TIU_IGNORED, .TIM_XTRIG_DEAD, .TIM_FREQ_CFG,
    .TIM_FREQ_STAT, .TIM_FREQ_HI, .TIM_FREQ_LO, .SNS_CFG, .SNS_CHK, .SNS_LEAD, .SNS_STAT]
  ++ [.SNS_VALUE, .SNS_Z_RE, .SNS_Z_IM, .SNS_CHK_RES, .SNS_OPEN_COUNT, .SNS_CHK_SKIP, .SNS_TABLE,
    .SNS_SH_A, .SNS_SH_B, .SNS_SH_C, .HK_A_ENT, .HK_A_WIN, .HK_A_RES, .HK_B_ENT, .HK_B_WIN,
    .HK_B_RES, .HK_CTRL, .HK_STAT, .HK_WIN_STAT, .HK_XCHK_CFG, .HK_REF_EXT, .HK_XCHK_RES,
    .HK_URGENT, .HK_URGENT_RES]
  ++ [.HK_URGENT_DROPPED, .HK_XCHK_FAILS, .HOST_PORT_CFG, .HOST_PORT_STAT, .HOST_PORT_SESS,
    .HOST_DUPLICATE, .HOST_LATE, .HOST_REJECT, .HOST_GAP_SKIP, .HOST_NOTIF_DROP, .HOST_FRAME_DROP,
    .HOST_CFG, .HOST_LEASE_LO, .HOST_LEASE_HI, .MOD_BOOT_STAT, .MOD_FW_VERSION, .MOD_TRUST_STAT,
    .MOD_DEBUG_STAT, .MOD_SUP_STAT, .MOD_LOCKSTEP_ERR, .MOD_PWR_STAT, .MOD_RESET_CAUSE, .MOD_VIN,
    .MOD_SUPPLY_WARN]
  ++ [.MOD_ERR_STAT, .MOD_ERR_CTRL, .MOD_STAT_CTRL, .MOD_LOG_STAT, .MOD_ORBIT_WRAPS, .MOD_ECC_CORR,
    .MOD_VOTE_FIX, .MOD_SCRUB_UNCORR, .MOD_AGE_CTRL, .MOD_AGE_STAT, .MOD_AGE_HOURS, .MOD_AGE_DOSE,
    .DSI_CTRL, .DSI_STAT, .DSI_CLK, .DSI_HTIM0, .DSI_HTIM1, .DSI_VTIM0, .DSI_VTIM1, .DSI_CMDP,
    .DSI_COMP0, .DSI_COMP1, .DSI_COMP2, .DSI_COMMIT]
  ++ [.DSI_FRAME_CNT, .DSI_FLIP_LO, .DSI_FLIP_HI, .DSI_TE_TIMEOUT, .DSI_COMMIT_LATE, .MOD_SCRATCH,
    .MOD_CFG_GEN, .MOD_STAGE_STAT, .MOD_COMMIT_STAT, .MOD_ADDR_FAULT, .MOD_ADDR_FAULTS]

/-- Every register of a region register window (R733). -/
def regionKinds : List RegKind :=
  [.RGN_PWR_STAT, .RGN_RAIL, .RGN_ROT_CTRL, .RGN_SHADOW_CFG, .RGN_ROT_FAULTS, .RGN_TRIG_PROF_CFG,
    .RGN_TRIG_PROF_LIM, .RGN_PATTERN, .RGN_PERIODIC, .RGN_SOFT_TRIG, .RGN_TRIG_IGNORED_PRE,
    .RGN_TRIG_IGNORED_HOLD, .RGN_XQ_STAT, .RGN_XQ_LATE, .RGN_ACQ_CTRL, .RGN_LAT_CFG,
    .RGN_ACCQ_STAT, .RGN_MEM_APERTURE, .RGN_STUB_COUNT, .RGN_ECC_CORR, .RGN_MASK_STAT,
    .RGN_MASK_FAILS, .RGN_ACC_CTRL, .RGN_ACC_SINK]
  ++ [.RGN_ACC_MAP, .RGN_ACC_CLR, .RGN_ACC_STAT, .RGN_ACC_DROPPED, .ENG_CTRL, .ENG_STAT,
    .ENG_BUDGET, .ENG_OVERRUNS, .ENG_REFUSED, .RGN_RO_CTRL, .RGN_RO_LANE_STAT, .RGN_RO_TEST,
    .RGN_DAMPER, .RGN_RO_OVF, .RGN_RO_FRAMES, .RGN_RO_OVF_STUBS, .RGN_RO_DISCARDED, .RGN_ERR_STAT,
    .RGN_AGE_STAT, .RGN_AGE_RO]

/-- Every register of a channel register window (R734). -/
def channelKinds : List RegKind :=
  [.CH_FE_CTRL, .CH_FE_STAT, .CH_INJ_CTRL, .CH_INJ_TIME, .CH_SAT_COUNT, .CH_CONV_CTRL,
    .CH_CONV_STAT, .CH_SLICE_MAP, .CH_SLICE_HEALTH, .CH_SHADOW_STAT, .CH_CHAIN_CTRL, .CH_RS_RATIO,
    .CH_SLOT_CFG, .CH_SLOT_AUX, .CH_SLOT_RESULT, .CH_CHAIN_STAT, .CH_TRIG_CTRL, .CH_TRIG_LEVEL_A,
    .CH_TRIG_LEVEL_B, .CH_TRIG_HOLD, .CH_TRIG_STAT, .CH_MEM_CTRL, .CH_REC_WIN, .CH_MASK_CTRL]

/-- One addressed register: its kind and its instance (for a region register the region times the
count within the region, plus the instance within it). -/
structure Reg where
  kind : RegKind
  inst : Nat
  deriving DecidableEq, Repr

/-- The byte address of instance `i` (R715, R716). -/
def RegKind.addr (k : RegKind) (i : Nat) : Nat :=
  let f := k.info
  match f.win with
  | .module => f.base + i * f.stride
  | .region => 0x0100_0000 + i / f.cnt * 0x0010_0000 + f.base + i % f.cnt * f.stride
  | .channel => 0x0200_0000 + i * 0x1000 + f.base

/-- The instance within its own window that offset `o` names, if it names this kind. -/
def RegKind.at? (k : RegKind) (o : Nat) : Option Nat :=
  let f := k.info
  if f.cnt = 1 then (if o = f.base then some 0 else none)
  else if f.base ≤ o ∧ (o - f.base) % f.stride = 0 ∧ (o - f.base) / f.stride < f.cnt then
    some ((o - f.base) / f.stride)
  else none

/-- The first register of a window's list at offset `o`. -/
def findReg (o : Nat) (mk : RegInfo → Nat → Nat) : List RegKind → Option Reg
  | [] => none
  | k :: ks =>
    match k.at? o with
    | some i => some ⟨k, mk k.info i⟩
    | none => findReg o mk ks

/-- The register at a byte address, if one lies there (R712, R713). -/
def regAt (a : Nat) : Option Reg :=
  if a < 0x5000 then findReg a (fun _ i => i) moduleKinds
  else if 0x0100_0000 ≤ a ∧ a < 0x01C0_0000 then
    findReg (a % 0x0010_0000) (fun f i => (a - 0x0100_0000) / 0x0010_0000 * f.cnt + i) regionKinds
  else if 0x0200_0000 ≤ a ∧ a < 0x020C_0000 then
    findReg (a % 0x1000) (fun _ _ => (a - 0x0200_0000) / 0x1000) channelKinds
  else none

/-- A named field of a register. -/
structure Field where
  kind : RegKind
  hi : Nat
  lo : Nat
  deriving DecidableEq, Repr

/-- The bits a field takes in its register. -/
def Field.mask (f : Field) : Nat := (2 ^ (f.hi - f.lo + 1) - 1) <<< f.lo

/-- A field's value in a word. -/
def Field.of (f : Field) (w : Word) : Nat := (w.toNat >>> f.lo) % 2 ^ (f.hi - f.lo + 1)

/-- A word that holds `v` in the field and zero elsewhere. -/
def Field.put (f : Field) (v : Nat) : Nat := (v % 2 ^ (f.hi - f.lo + 1)) <<< f.lo

/-- A register word from its fields' values; bits named by no field read zero (R10). -/
def packFields (l : List (Field × Nat)) : Word :=
  BitVec.ofNat 32 (l.foldl (fun w p => w ||| p.1.put p.2) 0)

namespace F.MOD_IDENT
/-- PART, bits 31:16, RO (R4). -/
def PART : Field := ⟨.MOD_IDENT, 31, 16⟩
/-- GRADE, bits 15:12, RO (R4). -/
def GRADE : Field := ⟨.MOD_IDENT, 15, 12⟩
/-- STEP_LETTER, bits 11:8, RO (R4). -/
def STEP_LETTER : Field := ⟨.MOD_IDENT, 11, 8⟩
/-- STEP_NUM, bits 7:4, RO (R4). -/
def STEP_NUM : Field := ⟨.MOD_IDENT, 7, 4⟩
end F.MOD_IDENT
namespace F.MOD_REGION_SKEW
/-- SKEW_NOW, bits 27:16, RO (R37). -/
def SKEW_NOW : Field := ⟨.MOD_REGION_SKEW, 27, 16⟩
/-- SKEW_SEEN, bits 11:0, W1C (R37). -/
def SKEW_SEEN : Field := ⟨.MOD_REGION_SKEW, 11, 0⟩
end F.MOD_REGION_SKEW
namespace F.TIM_MODE
/-- REFOUT, bits 31:30, RW-V (R140). -/
def REFOUT : Field := ⟨.TIM_MODE, 31, 30⟩
/-- MODE, bits 29:28, RW-V (R140). -/
def MODE : Field := ⟨.TIM_MODE, 29, 28⟩
/-- EXT_N, bits 21:11, RW-V (R140). -/
def EXT_N : Field := ⟨.TIM_MODE, 21, 11⟩
/-- ML_M, bits 10:0, RW-V (R140). -/
def ML_M : Field := ⟨.TIM_MODE, 10, 0⟩
end F.TIM_MODE
namespace F.TIM_STAT
/-- TB_STATE, bits 31:28, RO (R141). -/
def TB_STATE : Field := ⟨.TIM_STAT, 31, 28⟩
/-- OVEN_STATE, bits 27:26, RO (R141). -/
def OVEN_STATE : Field := ⟨.TIM_STAT, 27, 26⟩
/-- HEARTH_WARM, bits 25, RO (R141). -/
def HEARTH_WARM : Field := ⟨.TIM_STAT, 25, 25⟩
/-- HEARTH_UNREG, bits 24, RO (R141). -/
def HEARTH_UNREG : Field := ⟨.TIM_STAT, 24, 24⟩
/-- SYN_LOCKED, bits 23, RO (R141). -/
def SYN_LOCKED : Field := ⟨.TIM_STAT, 23, 23⟩
/-- XING_VIRTUAL, bits 22, RO (R141). -/
def XING_VIRTUAL : Field := ⟨.TIM_STAT, 22, 22⟩
/-- HEATER_FAULT_SEEN, bits 7, W1C (R141). -/
def HEATER_FAULT_SEEN : Field := ⟨.TIM_STAT, 7, 7⟩
/-- SYN_UNLOCK_SEEN, bits 6, W1C (R141). -/
def SYN_UNLOCK_SEEN : Field := ⟨.TIM_STAT, 6, 6⟩
/-- REF_LOST_SEEN, bits 5, W1C (R141). -/
def REF_LOST_SEEN : Field := ⟨.TIM_STAT, 5, 5⟩
/-- UNREG_SEEN, bits 4, W1C (R141). -/
def UNREG_SEEN : Field := ⟨.TIM_STAT, 4, 4⟩
end F.TIM_STAT
namespace F.TIM_OVEN
/-- HEATER_MW, bits 31:16, RO (R142). -/
def HEATER_MW : Field := ⟨.TIM_OVEN, 31, 16⟩
/-- TEMP_ERR, bits 15:4, RO (R142). -/
def TEMP_ERR : Field := ⟨.TIM_OVEN, 15, 4⟩
/-- SETPOINT, bits 1:0, RW-V (R142). -/
def SETPOINT : Field := ⟨.TIM_OVEN, 1, 0⟩
end F.TIM_OVEN
namespace F.TIM_HEARTH_TRIM
/-- SLEW, bits 31:24, RW-V (R143). -/
def SLEW : Field := ⟨.TIM_HEARTH_TRIM, 31, 24⟩
/-- TRIM, bits 23:0, RW-V (R143). -/
def TRIM : Field := ⟨.TIM_HEARTH_TRIM, 23, 0⟩
end F.TIM_HEARTH_TRIM
namespace F.TIM_DATUM_LO
/-- DATUM_LO, bits 31:0, RO (R144). -/
def DATUM_LO : Field := ⟨.TIM_DATUM_LO, 31, 0⟩
end F.TIM_DATUM_LO
namespace F.TIM_DATUM_HI
/-- DATUM_HI, bits 31:0, RO (R144). -/
def DATUM_HI : Field := ⟨.TIM_DATUM_HI, 31, 0⟩
end F.TIM_DATUM_HI
namespace F.TIM_EPOCH_STAT
/-- HOST_EPOCH, bits 31, WO (R145). -/
def HOST_EPOCH : Field := ⟨.TIM_EPOCH_STAT, 31, 31⟩
/-- SRC, bits 30, RO (R145). -/
def SRC : Field := ⟨.TIM_EPOCH_STAT, 30, 30⟩
/-- EPOCH_SEQ, bits 29:22, RO (R145). -/
def EPOCH_SEQ : Field := ⟨.TIM_EPOCH_STAT, 29, 22⟩
/-- OFFSET_TICKS, bits 21:10, RO (R145). -/
def OFFSET_TICKS : Field := ⟨.TIM_EPOCH_STAT, 21, 10⟩
/-- OFFSET_FRAC, bits 9:0, RO (R145). -/
def OFFSET_FRAC : Field := ⟨.TIM_EPOCH_STAT, 9, 0⟩
end F.TIM_EPOCH_STAT
namespace F.TIM_MCLK_FREQ
/-- FREQ_HZ, bits 31:0, RO (R146). -/
def FREQ_HZ : Field := ⟨.TIM_MCLK_FREQ, 31, 0⟩
end F.TIM_MCLK_FREQ
namespace F.TIM_TL_CFG
/-- ORBIT_LEN, bits 31:16, RW-V (R397). -/
def ORBIT_LEN : Field := ⟨.TIM_TL_CFG, 31, 16⟩
/-- BUSY_THR, bits 15:9, RW-V (R397). -/
def BUSY_THR : Field := ⟨.TIM_TL_CFG, 15, 9⟩
/-- TOUT_EN, bits 4, RW-V (R397). -/
def TOUT_EN : Field := ⟨.TIM_TL_CFG, 4, 4⟩
/-- PROTO, bits 3, RW-V (R397). -/
def PROTO : Field := ⟨.TIM_TL_CFG, 3, 3⟩
/-- REVERT, bits 2, RW-V (R397). -/
def REVERT : Field := ⟨.TIM_TL_CFG, 2, 2⟩
/-- TIN1_EN, bits 1, RW-V (R397). -/
def TIN1_EN : Field := ⟨.TIM_TL_CFG, 1, 1⟩
/-- TIN0_EN, bits 0, RW-V (R397). -/
def TIN0_EN : Field := ⟨.TIM_TL_CFG, 0, 0⟩
end F.TIM_TL_CFG
namespace F.TIM_TL_STAT
/-- TIN0_STATE, bits 31:30, RO (R398). -/
def TIN0_STATE : Field := ⟨.TIM_TL_STAT, 31, 30⟩
/-- TIN1_STATE, bits 29:28, RO (R398). -/
def TIN1_STATE : Field := ⟨.TIM_TL_STAT, 29, 28⟩
/-- ACTIVE, bits 27, RO (R398). -/
def ACTIVE : Field := ⟨.TIM_TL_STAT, 27, 27⟩
/-- BCN_SUSPECT, bits 26, RO (R398). -/
def BCN_SUSPECT : Field := ⟨.TIM_TL_STAT, 26, 26⟩
/-- RET_STATE, bits 25:24, RO (R398). -/
def RET_STATE : Field := ⟨.TIM_TL_STAT, 25, 24⟩
/-- LAST_SEQ, bits 23:16, RO (R398). -/
def LAST_SEQ : Field := ⟨.TIM_TL_STAT, 23, 16⟩
/-- SKEW, bits 15:8, RO (R398). -/
def SKEW : Field := ⟨.TIM_TL_STAT, 15, 8⟩
/-- ORBIT_ERR_SEEN, bits 2, W1C (R398). -/
def ORBIT_ERR_SEEN : Field := ⟨.TIM_TL_STAT, 2, 2⟩
/-- FAILOVER_SEEN, bits 1, W1C (R398). -/
def FAILOVER_SEEN : Field := ⟨.TIM_TL_STAT, 1, 1⟩
/-- LOCK_LOST_SEEN, bits 0, W1C (R398). -/
def LOCK_LOST_SEEN : Field := ⟨.TIM_TL_STAT, 0, 0⟩
end F.TIM_TL_STAT
namespace F.TIM_TL_XING
/-- BCN, bits 31:16, RO (R399). -/
def BCN : Field := ⟨.TIM_TL_XING, 31, 16⟩
end F.TIM_TL_XING
namespace F.TIM_TL_ORBIT
/-- ORBIT, bits 31:0, RO (R399). -/
def ORBIT : Field := ⟨.TIM_TL_ORBIT, 31, 0⟩
end F.TIM_TL_ORBIT
namespace F.MOD_PATTERN
/-- EN, bits 31, RW-V (R229). -/
def EN : Field := ⟨.MOD_PATTERN, 31, 31⟩
/-- MODE, bits 30, RW-V (R229). -/
def MODE : Field := ⟨.MOD_PATTERN, 30, 30⟩
/-- REGION_MASK, bits 11:0, RW-V (R229). -/
def REGION_MASK : Field := ⟨.MOD_PATTERN, 11, 0⟩
end F.MOD_PATTERN
namespace F.MOD_XTRIG_CTRL
/-- EN1, bits 5, RW-V (R230). -/
def EN1 : Field := ⟨.MOD_XTRIG_CTRL, 5, 5⟩
/-- EN0, bits 4, RW-V (R230). -/
def EN0 : Field := ⟨.MOD_XTRIG_CTRL, 4, 4⟩
/-- EDGE1, bits 3:2, RW-V (R230). -/
def EDGE1 : Field := ⟨.MOD_XTRIG_CTRL, 3, 2⟩
/-- EDGE0, bits 1:0, RW-V (R230). -/
def EDGE0 : Field := ⟨.MOD_XTRIG_CTRL, 1, 0⟩
end F.MOD_XTRIG_CTRL
namespace F.MOD_EVENT_NEXT
/-- EPOCH, bits 31:24, RO (R276). -/
def EPOCH : Field := ⟨.MOD_EVENT_NEXT, 31, 24⟩
/-- NEXT, bits 23:0, RO (R276). -/
def NEXT : Field := ⟨.MOD_EVENT_NEXT, 23, 0⟩
end F.MOD_EVENT_NEXT
namespace F.MOD_EVENT_WRAPS
/-- WRAPS, bits 31:0, RO (R276). -/
def WRAPS : Field := ⟨.MOD_EVENT_WRAPS, 31, 0⟩
end F.MOD_EVENT_WRAPS
namespace F.MOD_MAP_CTRL
/-- EN, bits 31, RW-V (R323). -/
def EN : Field := ⟨.MOD_MAP_CTRL, 31, 31⟩
/-- CLR, bits 30, WO (R323). -/
def CLR : Field := ⟨.MOD_MAP_CTRL, 30, 30⟩
/-- DECAY, bits 23:16, RW-V (R323). -/
def DECAY : Field := ⟨.MOD_MAP_CTRL, 23, 16⟩
/-- SAT_SEEN, bits 0, W1C (R323). -/
def SAT_SEEN : Field := ⟨.MOD_MAP_CTRL, 0, 0⟩
end F.MOD_MAP_CTRL
namespace F.MOD_MAP_X
/-- X_ORG, bits 31:12, RW-V (R324). -/
def X_ORG : Field := ⟨.MOD_MAP_X, 31, 12⟩
/-- X_STEP, bits 11:0, RW-V (R324). -/
def X_STEP : Field := ⟨.MOD_MAP_X, 11, 0⟩
end F.MOD_MAP_X
namespace F.MOD_MAP_Y
/-- Y_ORG, bits 31:16, RW-V (R325). -/
def Y_ORG : Field := ⟨.MOD_MAP_Y, 31, 16⟩
/-- Y_SHIFT, bits 2:0, RW-V (R325). -/
def Y_SHIFT : Field := ⟨.MOD_MAP_Y, 2, 0⟩
end F.MOD_MAP_Y
namespace F.MOD_PRIM_CFG
/-- EN, bits 31, RW-V (R374). -/
def EN : Field := ⟨.MOD_PRIM_CFG, 31, 31⟩
/-- MODE, bits 30:29, RW-V (R374). -/
def MODE : Field := ⟨.MOD_PRIM_CFG, 30, 29⟩
/-- SHIFT, bits 23:20, RW-V (R374). -/
def SHIFT : Field := ⟨.MOD_PRIM_CFG, 23, 20⟩
/-- SUM_SHIFT, bits 19:16, RW-V (R374). -/
def SUM_SHIFT : Field := ⟨.MOD_PRIM_CFG, 19, 16⟩
/-- LAT, bits 7:0, RW-V (R374). -/
def LAT : Field := ⟨.MOD_PRIM_CFG, 7, 0⟩
end F.MOD_PRIM_CFG
namespace F.MOD_PRIM_STAT
/-- MIN_LAT, bits 31:24, RO (R375). -/
def MIN_LAT : Field := ⟨.MOD_PRIM_STAT, 31, 24⟩
/-- FRAMING, bits 15, RO (R375). -/
def FRAMING : Field := ⟨.MOD_PRIM_STAT, 15, 15⟩
/-- RATE_HIGH, bits 14, RO (R375). -/
def RATE_HIGH : Field := ⟨.MOD_PRIM_STAT, 14, 14⟩
/-- CUT_SEEN, bits 2, W1C (R375). -/
def CUT_SEEN : Field := ⟨.MOD_PRIM_STAT, 2, 2⟩
/-- LATE_SEEN, bits 1, W1C (R375). -/
def LATE_SEEN : Field := ⟨.MOD_PRIM_STAT, 1, 1⟩
end F.MOD_PRIM_STAT
namespace F.TIM_TIU_CFG
/-- EN, bits 31, RW-V (R445). -/
def EN : Field := ⟨.TIM_TIU_CFG, 31, 31⟩
/-- MODE, bits 30, RW-V (R445). -/
def MODE : Field := ⟨.TIM_TIU_CFG, 30, 30⟩
/-- CHAIN, bits 29, RW-V (R445). -/
def CHAIN : Field := ⟨.TIM_TIU_CFG, 29, 29⟩
/-- SCALE, bits 27:24, RW-V (R445). -/
def SCALE : Field := ⟨.TIM_TIU_CFG, 27, 24⟩
/-- START_SRC, bits 23:20, RW-V (R445). -/
def START_SRC : Field := ⟨.TIM_TIU_CFG, 23, 20⟩
/-- START_ARG, bits 19:12, RW-V (R445). -/
def START_ARG : Field := ⟨.TIM_TIU_CFG, 19, 12⟩
/-- STOP_SRC, bits 11:8, RW-V (R445). -/
def STOP_SRC : Field := ⟨.TIM_TIU_CFG, 11, 8⟩
/-- STOP_ARG, bits 7:0, RW-V (R445). -/
def STOP_ARG : Field := ⟨.TIM_TIU_CFG, 7, 0⟩
end F.TIM_TIU_CFG
namespace F.TIM_TIU_WIN
/-- OPEN, bits 31:16, RW-V (R446). -/
def OPEN : Field := ⟨.TIM_TIU_WIN, 31, 16⟩
/-- CLOSE, bits 15:0, RW-V (R446). -/
def CLOSE : Field := ⟨.TIM_TIU_WIN, 15, 0⟩
end F.TIM_TIU_WIN
namespace F.TIM_TIU_STAT
/-- NEW, bits 31, W1C (R447). -/
def NEW : Field := ⟨.TIM_TIU_STAT, 31, 31⟩
/-- OUTCOME, bits 30:29, RO (R447). -/
def OUTCOME : Field := ⟨.TIM_TIU_STAT, 30, 29⟩
/-- ARMED, bits 28, RO (R447). -/
def ARMED : Field := ⟨.TIM_TIU_STAT, 28, 28⟩
/-- OPEN, bits 27, RO (R447). -/
def OPEN : Field := ⟨.TIM_TIU_STAT, 27, 27⟩
/-- LOST, bits 23:16, RO (R447). -/
def LOST : Field := ⟨.TIM_TIU_STAT, 23, 16⟩
/-- FRAC, bits 9:0, RO (R447). -/
def FRAC : Field := ⟨.TIM_TIU_STAT, 9, 0⟩
end F.TIM_TIU_STAT
namespace F.TIM_TIU_TICKS
/-- TICKS, bits 31:0, RO (R448). -/
def TICKS : Field := ⟨.TIM_TIU_TICKS, 31, 0⟩
end F.TIM_TIU_TICKS
namespace F.TIM_TIU_ARM
/-- ARM, bits 31:0, WO (R449). -/
def ARM : Field := ⟨.TIM_TIU_ARM, 31, 0⟩
end F.TIM_TIU_ARM
namespace F.TIM_TIU_CTRL
/-- JDELAY, bits 11:0, RW-V (R449). -/
def JDELAY : Field := ⟨.TIM_TIU_CTRL, 11, 0⟩
end F.TIM_TIU_CTRL
namespace F.TIM_TIU_EVT_STAT
/-- LATE_SEEN, bits 2, W1C (R450). -/
def LATE_SEEN : Field := ⟨.TIM_TIU_EVT_STAT, 2, 2⟩
/-- DEAD_SEEN1, bits 1, W1C (R450). -/
def DEAD_SEEN1 : Field := ⟨.TIM_TIU_EVT_STAT, 1, 1⟩
/-- DEAD_SEEN0, bits 0, W1C (R450). -/
def DEAD_SEEN0 : Field := ⟨.TIM_TIU_EVT_STAT, 0, 0⟩
end F.TIM_TIU_EVT_STAT
namespace F.TIM_FREQ_CFG
/-- START, bits 31, WO (R452). -/
def START : Field := ⟨.TIM_FREQ_CFG, 31, 31⟩
/-- CONT, bits 30, RW-V (R452). -/
def CONT : Field := ⟨.TIM_FREQ_CFG, 30, 30⟩
/-- SRC, bits 23:20, RW-V (R452). -/
def SRC : Field := ⟨.TIM_FREQ_CFG, 23, 20⟩
/-- GATE_MS, bits 13:0, RW-V (R452). -/
def GATE_MS : Field := ⟨.TIM_FREQ_CFG, 13, 0⟩
end F.TIM_FREQ_CFG
namespace F.TIM_FREQ_STAT
/-- NEW, bits 31, W1C (R453). -/
def NEW : Field := ⟨.TIM_FREQ_STAT, 31, 31⟩
/-- BUSY, bits 30, RO (R453). -/
def BUSY : Field := ⟨.TIM_FREQ_STAT, 30, 30⟩
/-- NO_SIGNAL, bits 29, RO (R453). -/
def NO_SIGNAL : Field := ⟨.TIM_FREQ_STAT, 29, 29⟩
/-- GAP, bits 28, RO (R453). -/
def GAP : Field := ⟨.TIM_FREQ_STAT, 28, 28⟩
/-- WARM, bits 27, RO (R453). -/
def WARM : Field := ⟨.TIM_FREQ_STAT, 27, 27⟩
/-- SRC, bits 23:20, RO (R453). -/
def SRC : Field := ⟨.TIM_FREQ_STAT, 23, 20⟩
/-- SEQ, bits 15:0, RO (R453). -/
def SEQ : Field := ⟨.TIM_FREQ_STAT, 15, 0⟩
end F.TIM_FREQ_STAT
namespace F.TIM_FREQ_HI
/-- FREQ_HI, bits 31:0, RO (R453). -/
def FREQ_HI : Field := ⟨.TIM_FREQ_HI, 31, 0⟩
end F.TIM_FREQ_HI
namespace F.TIM_FREQ_LO
/-- FREQ_LO, bits 31:0, RO (R453). -/
def FREQ_LO : Field := ⟨.TIM_FREQ_LO, 31, 0⟩
end F.TIM_FREQ_LO
namespace F.SNS_CFG
/-- EN, bits 31, RW-V (R478). -/
def EN : Field := ⟨.SNS_CFG, 31, 31⟩
/-- FREQ, bits 29:28, RW-V (R478). -/
def FREQ : Field := ⟨.SNS_CFG, 29, 28⟩
/-- RATE, bits 26:24, RW-V (R478). -/
def RATE : Field := ⟨.SNS_CFG, 26, 24⟩
/-- CURVE, bits 19:16, RW-V (R478). -/
def CURVE : Field := ⟨.SNS_CFG, 19, 16⟩
/-- USET, bits 13:12, RW-V (R478). -/
def USET : Field := ⟨.SNS_CFG, 13, 12⟩
/-- AMPL, bits 6:0, RW-V (R478). -/
def AMPL : Field := ⟨.SNS_CFG, 6, 0⟩
end F.SNS_CFG
namespace F.SNS_CHK
/-- CONTACT_THR, bits 31:16, RW-V (R479). -/
def CONTACT_THR : Field := ⟨.SNS_CHK, 31, 16⟩
/-- CHK_INT, bits 11:0, RW-V (R479). -/
def CHK_INT : Field := ⟨.SNS_CHK, 11, 0⟩
end F.SNS_CHK
namespace F.SNS_LEAD
/-- LEAD_R, bits 23:0, RW-V (R480). -/
def LEAD_R : Field := ⟨.SNS_LEAD, 23, 0⟩
end F.SNS_LEAD
namespace F.SNS_STAT
/-- VALID, bits 31, RO (R481). -/
def VALID : Field := ⟨.SNS_STAT, 31, 31⟩
/-- OPEN, bits 30, RO (R481). -/
def OPEN : Field := ⟨.SNS_STAT, 30, 30⟩
/-- SHORT, bits 29, RO (R481). -/
def SHORT : Field := ⟨.SNS_STAT, 29, 29⟩
/-- SETTLING, bits 28, RO (R481). -/
def SETTLING : Field := ⟨.SNS_STAT, 28, 28⟩
/-- RANGE, bits 27, RO (R481). -/
def RANGE : Field := ⟨.SNS_STAT, 27, 27⟩
/-- CONTACT_WARN, bits 26, RO (R481). -/
def CONTACT_WARN : Field := ⟨.SNS_STAT, 26, 26⟩
/-- OPEN_SEEN, bits 23, W1C (R481). -/
def OPEN_SEEN : Field := ⟨.SNS_STAT, 23, 23⟩
/-- SHORT_SEEN, bits 22, W1C (R481). -/
def SHORT_SEEN : Field := ⟨.SNS_STAT, 22, 22⟩
/-- CONTACT_SEEN, bits 21, W1C (R481). -/
def CONTACT_SEEN : Field := ⟨.SNS_STAT, 21, 21⟩
/-- CHK_ABANDON_SEEN, bits 20, W1C (R481). -/
def CHK_ABANDON_SEEN : Field := ⟨.SNS_STAT, 20, 20⟩
/-- CHK_SEQ, bits 19:16, RO (R481). -/
def CHK_SEQ : Field := ⟨.SNS_STAT, 19, 16⟩
/-- SEQ, bits 15:0, RO (R481). -/
def SEQ : Field := ⟨.SNS_STAT, 15, 0⟩
end F.SNS_STAT
namespace F.SNS_VALUE
/-- VALUE, bits 31:0, RO (R482). -/
def VALUE : Field := ⟨.SNS_VALUE, 31, 0⟩
end F.SNS_VALUE
namespace F.SNS_Z_RE
/-- Z_RE, bits 31:0, RO (R482). -/
def Z_RE : Field := ⟨.SNS_Z_RE, 31, 0⟩
end F.SNS_Z_RE
namespace F.SNS_Z_IM
/-- Z_IM, bits 31:0, RO (R482). -/
def Z_IM : Field := ⟨.SNS_Z_IM, 31, 0⟩
end F.SNS_Z_IM
namespace F.SNS_CHK_RES
/-- CONTACT, bits 31:16, RO (R483). -/
def CONTACT : Field := ⟨.SNS_CHK_RES, 31, 16⟩
/-- LEAD_X, bits 15:0, RO (R483). -/
def LEAD_X : Field := ⟨.SNS_CHK_RES, 15, 0⟩
end F.SNS_CHK_RES
namespace F.SNS_TABLE
/-- DATA, bits 31:0, RW (R484). -/
def DATA : Field := ⟨.SNS_TABLE, 31, 0⟩
end F.SNS_TABLE
namespace F.SNS_SH_A
/-- DATA, bits 31:0, RW (R484). -/
def DATA : Field := ⟨.SNS_SH_A, 31, 0⟩
end F.SNS_SH_A
namespace F.SNS_SH_B
/-- DATA, bits 31:0, RW (R484). -/
def DATA : Field := ⟨.SNS_SH_B, 31, 0⟩
end F.SNS_SH_B
namespace F.SNS_SH_C
/-- DATA, bits 31:0, RW (R484). -/
def DATA : Field := ⟨.SNS_SH_C, 31, 0⟩
end F.SNS_SH_C
namespace F.HK_A_ENT
/-- GAIN, bits 31:30, RW-V (R506). -/
def GAIN : Field := ⟨.HK_A_ENT, 31, 30⟩
/-- TS, bits 29:27, RW-V (R506). -/
def TS : Field := ⟨.HK_A_ENT, 29, 27⟩
/-- INPUT, bits 6:0, RW-V (R506). -/
def INPUT : Field := ⟨.HK_A_ENT, 6, 0⟩
end F.HK_A_ENT
namespace F.HK_A_WIN
/-- HI, bits 29:16, RW-V (R507). -/
def HI : Field := ⟨.HK_A_WIN, 29, 16⟩
/-- LO, bits 13:0, RW-V (R507). -/
def LO : Field := ⟨.HK_A_WIN, 13, 0⟩
end F.HK_A_WIN
namespace F.HK_A_RES
/-- TSEQ, bits 31:24, RO (R508). -/
def TSEQ : Field := ⟨.HK_A_RES, 31, 24⟩
/-- VALID, bits 23, RO (R508). -/
def VALID : Field := ⟨.HK_A_RES, 23, 23⟩
/-- UNSETTLED, bits 22, RO (R508). -/
def UNSETTLED : Field := ⟨.HK_A_RES, 22, 22⟩
/-- OVR, bits 21, RO (R508). -/
def OVR : Field := ⟨.HK_A_RES, 21, 21⟩
/-- OUTSIDE, bits 20, RO (R508). -/
def OUTSIDE : Field := ⟨.HK_A_RES, 20, 20⟩
/-- CODE, bits 13:0, RO (R508). -/
def CODE : Field := ⟨.HK_A_RES, 13, 0⟩
end F.HK_A_RES
namespace F.HK_B_ENT
/-- GAIN, bits 31:30, RW-V (R506). -/
def GAIN : Field := ⟨.HK_B_ENT, 31, 30⟩
/-- TS, bits 29:27, RW-V (R506). -/
def TS : Field := ⟨.HK_B_ENT, 29, 27⟩
/-- INPUT, bits 6:0, RW-V (R506). -/
def INPUT : Field := ⟨.HK_B_ENT, 6, 0⟩
end F.HK_B_ENT
namespace F.HK_B_WIN
/-- HI, bits 29:16, RW-V (R507). -/
def HI : Field := ⟨.HK_B_WIN, 29, 16⟩
/-- LO, bits 13:0, RW-V (R507). -/
def LO : Field := ⟨.HK_B_WIN, 13, 0⟩
end F.HK_B_WIN
namespace F.HK_B_RES
/-- TSEQ, bits 31:24, RO (R508). -/
def TSEQ : Field := ⟨.HK_B_RES, 31, 24⟩
/-- VALID, bits 23, RO (R508). -/
def VALID : Field := ⟨.HK_B_RES, 23, 23⟩
/-- UNSETTLED, bits 22, RO (R508). -/
def UNSETTLED : Field := ⟨.HK_B_RES, 22, 22⟩
/-- OVR, bits 21, RO (R508). -/
def OVR : Field := ⟨.HK_B_RES, 21, 21⟩
/-- OUTSIDE, bits 20, RO (R508). -/
def OUTSIDE : Field := ⟨.HK_B_RES, 20, 20⟩
/-- CODE, bits 13:0, RO (R508). -/
def CODE : Field := ⟨.HK_B_RES, 13, 0⟩
end F.HK_B_RES
namespace F.HK_CTRL
/-- RUN_B, bits 31, RW (R509). -/
def RUN_B : Field := ⟨.HK_CTRL, 31, 31⟩
/-- RUN_A, bits 30, RW (R509). -/
def RUN_A : Field := ⟨.HK_CTRL, 30, 30⟩
/-- RESTART_B, bits 29, WO (R509). -/
def RESTART_B : Field := ⟨.HK_CTRL, 29, 29⟩
/-- RESTART_A, bits 28, WO (R509). -/
def RESTART_A : Field := ⟨.HK_CTRL, 28, 28⟩
/-- REF_B, bits 25:24, RW-V (R509). -/
def REF_B : Field := ⟨.HK_CTRL, 25, 24⟩
/-- REF_A, bits 21:20, RW-V (R509). -/
def REF_A : Field := ⟨.HK_CTRL, 21, 20⟩
/-- REFBUF_EN_B, bits 19, RW-V (R509). -/
def REFBUF_EN_B : Field := ⟨.HK_CTRL, 19, 19⟩
/-- REFBUF_EN_A, bits 18, RW-V (R509). -/
def REFBUF_EN_A : Field := ⟨.HK_CTRL, 18, 18⟩
/-- LEN_B, bits 7:4, RW-V (R509). -/
def LEN_B : Field := ⟨.HK_CTRL, 7, 4⟩
/-- LEN_A, bits 3:0, RW-V (R509). -/
def LEN_A : Field := ⟨.HK_CTRL, 3, 0⟩
end F.HK_CTRL
namespace F.HK_STAT
/-- REF_SETTLED_B, bits 31, RO (R510). -/
def REF_SETTLED_B : Field := ⟨.HK_STAT, 31, 31⟩
/-- REF_SETTLED_A, bits 30, RO (R510). -/
def REF_SETTLED_A : Field := ⟨.HK_STAT, 30, 30⟩
/-- BUSY_B, bits 29, RO (R510). -/
def BUSY_B : Field := ⟨.HK_STAT, 29, 29⟩
/-- BUSY_A, bits 28, RO (R510). -/
def BUSY_A : Field := ⟨.HK_STAT, 28, 28⟩
/-- HK_PLAUSIBILITY, bits 27, RO (R510). -/
def HK_PLAUSIBILITY : Field := ⟨.HK_STAT, 27, 27⟩
/-- ENTRY_B, bits 24:20, RO (R510). -/
def ENTRY_B : Field := ⟨.HK_STAT, 24, 20⟩
/-- ENTRY_A, bits 19:15, RO (R510). -/
def ENTRY_A : Field := ⟨.HK_STAT, 19, 15⟩
/-- PLAUS_SEEN, bits 2, W1C (R510). -/
def PLAUS_SEEN : Field := ⟨.HK_STAT, 2, 2⟩
/-- URGENT_DROP_SEEN, bits 1, W1C (R510). -/
def URGENT_DROP_SEEN : Field := ⟨.HK_STAT, 1, 1⟩
/-- UNSETTLED_SEEN, bits 0, W1C (R510). -/
def UNSETTLED_SEEN : Field := ⟨.HK_STAT, 0, 0⟩
end F.HK_STAT
namespace F.HK_WIN_STAT
/-- OUT_SEEN_B, bits 31:16, W1C (R511). -/
def OUT_SEEN_B : Field := ⟨.HK_WIN_STAT, 31, 16⟩
/-- OUT_SEEN_A, bits 15:0, W1C (R511). -/
def OUT_SEEN_A : Field := ⟨.HK_WIN_STAT, 15, 0⟩
end F.HK_WIN_STAT
namespace F.HK_XCHK_CFG
/-- TS, bits 31:29, RW-V (R512). -/
def TS : Field := ⟨.HK_XCHK_CFG, 31, 29⟩
/-- INPUT, bits 26:20, RW-V (R512). -/
def INPUT : Field := ⟨.HK_XCHK_CFG, 26, 20⟩
/-- CONSEC, bits 19:16, RW-V (R512). -/
def CONSEC : Field := ⟨.HK_XCHK_CFG, 19, 16⟩
/-- THR, bits 15:0, RW-V (R512). -/
def THR : Field := ⟨.HK_XCHK_CFG, 15, 0⟩
end F.HK_XCHK_CFG
namespace F.HK_REF_EXT
/-- REF_EXT_MV, bits 15:0, RW-V (R513). -/
def REF_EXT_MV : Field := ⟨.HK_REF_EXT, 15, 0⟩
end F.HK_REF_EXT
namespace F.HK_XCHK_RES
/-- DIFF, bits 31:16, RO (R514). -/
def DIFF : Field := ⟨.HK_XCHK_RES, 31, 16⟩
/-- CMP_SEQ, bits 15:8, RO (R514). -/
def CMP_SEQ : Field := ⟨.HK_XCHK_RES, 15, 8⟩
/-- MISMATCH_RUN, bits 7:4, RO (R514). -/
def MISMATCH_RUN : Field := ⟨.HK_XCHK_RES, 7, 4⟩
end F.HK_XCHK_RES
namespace F.HK_URGENT
/-- GO, bits 31, WO (R515). -/
def GO : Field := ⟨.HK_URGENT, 31, 31⟩
/-- CONV, bits 30, WO (R515). -/
def CONV : Field := ⟨.HK_URGENT, 30, 30⟩
/-- GAIN, bits 29:28, WO (R515). -/
def GAIN : Field := ⟨.HK_URGENT, 29, 28⟩
/-- TS, bits 27:25, WO (R515). -/
def TS : Field := ⟨.HK_URGENT, 27, 25⟩
/-- INPUT, bits 6:0, WO (R515). -/
def INPUT : Field := ⟨.HK_URGENT, 6, 0⟩
end F.HK_URGENT
namespace F.HK_URGENT_RES
/-- USEQ, bits 31:24, RO (R516). -/
def USEQ : Field := ⟨.HK_URGENT_RES, 31, 24⟩
/-- CONV, bits 23, RO (R516). -/
def CONV : Field := ⟨.HK_URGENT_RES, 23, 23⟩
/-- UNSETTLED, bits 22, RO (R516). -/
def UNSETTLED : Field := ⟨.HK_URGENT_RES, 22, 22⟩
/-- OVR, bits 21, RO (R516). -/
def OVR : Field := ⟨.HK_URGENT_RES, 21, 21⟩
/-- CODE, bits 13:0, RO (R516). -/
def CODE : Field := ⟨.HK_URGENT_RES, 13, 0⟩
end F.HK_URGENT_RES
namespace F.HOST_PORT_CFG
/-- EN, bits 31, RW-V (R546). -/
def EN : Field := ⟨.HOST_PORT_CFG, 31, 31⟩
/-- UDP_PORT, bits 15:0, RW-V (R546). -/
def UDP_PORT : Field := ⟨.HOST_PORT_CFG, 15, 0⟩
end F.HOST_PORT_CFG
namespace F.HOST_PORT_STAT
/-- LINK, bits 31, RO (R547). -/
def LINK : Field := ⟨.HOST_PORT_STAT, 31, 31⟩
/-- SESSION, bits 30, RO (R547). -/
def SESSION : Field := ⟨.HOST_PORT_STAT, 30, 30⟩
/-- LINK_DOWN_SEEN, bits 29, W1C (R547). -/
def LINK_DOWN_SEEN : Field := ⟨.HOST_PORT_STAT, 29, 29⟩
/-- TIMEOUT_SEEN, bits 28, W1C (R547). -/
def TIMEOUT_SEEN : Field := ⟨.HOST_PORT_STAT, 28, 28⟩
/-- VERSION, bits 23:16, RO (R547). -/
def VERSION : Field := ⟨.HOST_PORT_STAT, 23, 16⟩
/-- SESSION_ID, bits 15:0, RO (R547). -/
def SESSION_ID : Field := ⟨.HOST_PORT_STAT, 15, 0⟩
end F.HOST_PORT_STAT
namespace F.HOST_PORT_SESS
/-- H, bits 31:16, RO (R548). -/
def H : Field := ⟨.HOST_PORT_SESS, 31, 16⟩
/-- TAGS, bits 15:8, RO (R548). -/
def TAGS : Field := ⟨.HOST_PORT_SESS, 15, 8⟩
/-- NOTIF, bits 7:0, RO (R548). -/
def NOTIF : Field := ⟨.HOST_PORT_SESS, 7, 0⟩
end F.HOST_PORT_SESS
namespace F.HOST_CFG
/-- REJ_RATE, bits 31:24, RW-V (R550). -/
def REJ_RATE : Field := ⟨.HOST_CFG, 31, 24⟩
/-- NOTIF_RETRY, bits 23:16, RW-V (R550). -/
def NOTIF_RETRY : Field := ⟨.HOST_CFG, 23, 16⟩
/-- GAP_MS, bits 15:0, RW-V (R550). -/
def GAP_MS : Field := ⟨.HOST_CFG, 15, 0⟩
end F.HOST_CFG
namespace F.HOST_LEASE_HI
/-- MODULE, bits 19:16, RO (R551). -/
def MODULE : Field := ⟨.HOST_LEASE_HI, 19, 16⟩
end F.HOST_LEASE_HI
namespace F.MOD_BOOT_STAT
/-- RUN_SLOT, bits 31:30, RO (R583). -/
def RUN_SLOT : Field := ⟨.MOD_BOOT_STAT, 31, 30⟩
/-- AREA, bits 29, RO (R583). -/
def AREA : Field := ⟨.MOD_BOOT_STAT, 29, 29⟩
/-- TRIAL, bits 28, RO (R583). -/
def TRIAL : Field := ⟨.MOD_BOOT_STAT, 28, 28⟩
/-- A_REFUSED, bits 27, RO (R583). -/
def A_REFUSED : Field := ⟨.MOD_BOOT_STAT, 27, 27⟩
/-- B_REFUSED, bits 26, RO (R583). -/
def B_REFUSED : Field := ⟨.MOD_BOOT_STAT, 26, 26⟩
/-- B_ROLLBACK, bits 25, RO (R583). -/
def B_ROLLBACK : Field := ⟨.MOD_BOOT_STAT, 25, 25⟩
/-- TRIAL_FAIL_SEEN, bits 24, W1C (R583). -/
def TRIAL_FAIL_SEEN : Field := ⟨.MOD_BOOT_STAT, 24, 24⟩
/-- BOOT_COUNT, bits 23:16, RO (R583). -/
def BOOT_COUNT : Field := ⟨.MOD_BOOT_STAT, 23, 16⟩
/-- BOOT_MS, bits 15:0, RO (R583). -/
def BOOT_MS : Field := ⟨.MOD_BOOT_STAT, 15, 0⟩
end F.MOD_BOOT_STAT
namespace F.MOD_FW_VERSION
/-- MAJOR, bits 31:24, RO (R584). -/
def MAJOR : Field := ⟨.MOD_FW_VERSION, 31, 24⟩
/-- MINOR, bits 23:16, RO (R584). -/
def MINOR : Field := ⟨.MOD_FW_VERSION, 23, 16⟩
/-- PATCH, bits 15:8, RO (R584). -/
def PATCH : Field := ⟨.MOD_FW_VERSION, 15, 8⟩
/-- BUILD, bits 7:0, RO (R584). -/
def BUILD : Field := ⟨.MOD_FW_VERSION, 7, 0⟩
end F.MOD_FW_VERSION
namespace F.MOD_TRUST_STAT
/-- SV_RUN, bits 22:16, RO (R585). -/
def SV_RUN : Field := ⟨.MOD_TRUST_STAT, 22, 16⟩
/-- COUNTER, bits 14:8, RO (R585). -/
def COUNTER : Field := ⟨.MOD_TRUST_STAT, 14, 8⟩
/-- OWNER1, bits 7:6, RO (R585). -/
def OWNER1 : Field := ⟨.MOD_TRUST_STAT, 7, 6⟩
/-- OWNER0, bits 5:4, RO (R585). -/
def OWNER0 : Field := ⟨.MOD_TRUST_STAT, 5, 4⟩
/-- DEBUG_OPEN, bits 3, RO (R585). -/
def DEBUG_OPEN : Field := ⟨.MOD_TRUST_STAT, 3, 3⟩
/-- IDENT_OK, bits 2, RO (R585). -/
def IDENT_OK : Field := ⟨.MOD_TRUST_STAT, 2, 2⟩
/-- LOG_FULL, bits 1, RO (R585). -/
def LOG_FULL : Field := ⟨.MOD_TRUST_STAT, 1, 1⟩
/-- B_VERIFIED, bits 0, RO (R585). -/
def B_VERIFIED : Field := ⟨.MOD_TRUST_STAT, 0, 0⟩
end F.MOD_TRUST_STAT
namespace F.MOD_DEBUG_STAT
/-- RELOCK, bits 31, WO (R586). -/
def RELOCK : Field := ⟨.MOD_DEBUG_STAT, 31, 31⟩
/-- LEVEL, bits 25:24, RO (R586). -/
def LEVEL : Field := ⟨.MOD_DEBUG_STAT, 25, 24⟩
/-- REMAIN_S, bits 16:0, RO (R586). -/
def REMAIN_S : Field := ⟨.MOD_DEBUG_STAT, 16, 0⟩
end F.MOD_DEBUG_STAT
namespace F.MOD_SUP_STAT
/-- PAIR1_RESTARTING, bits 31, RO (R587). -/
def PAIR1_RESTARTING : Field := ⟨.MOD_SUP_STAT, 31, 31⟩
/-- PAIR0_RESTARTING, bits 30, RO (R587). -/
def PAIR0_RESTARTING : Field := ⟨.MOD_SUP_STAT, 30, 30⟩
/-- PAIR1_ERR_SEEN, bits 1, W1C (R587). -/
def PAIR1_ERR_SEEN : Field := ⟨.MOD_SUP_STAT, 1, 1⟩
/-- PAIR0_ERR_SEEN, bits 0, W1C (R587). -/
def PAIR0_ERR_SEEN : Field := ⟨.MOD_SUP_STAT, 0, 0⟩
end F.MOD_SUP_STAT
namespace F.MOD_PWR_STAT
/-- MOD_STATE, bits 31:29, RO (R612). -/
def MOD_STATE : Field := ⟨.MOD_PWR_STAT, 31, 29⟩
/-- CAUSE_FATAL, bits 27, RO (R612). -/
def CAUSE_FATAL : Field := ⟨.MOD_PWR_STAT, 27, 27⟩
/-- CAUSE_HOST, bits 26, RO (R612). -/
def CAUSE_HOST : Field := ⟨.MOD_PWR_STAT, 26, 26⟩
/-- CAUSE_THERMAL, bits 25, RO (R612). -/
def CAUSE_THERMAL : Field := ⟨.MOD_PWR_STAT, 25, 25⟩
/-- CAUSE_OV, bits 24, RO (R612). -/
def CAUSE_OV : Field := ⟨.MOD_PWR_STAT, 24, 24⟩
/-- VIN_LOW, bits 23, RO (R612). -/
def VIN_LOW : Field := ⟨.MOD_PWR_STAT, 23, 23⟩
/-- OV_NOW, bits 22, RO (R612). -/
def OV_NOW : Field := ⟨.MOD_PWR_STAT, 22, 22⟩
/-- THERM_NOW, bits 21, RO (R612). -/
def THERM_NOW : Field := ⟨.MOD_PWR_STAT, 21, 21⟩
/-- RAIL_SEEN, bits 3, W1C (R612). -/
def RAIL_SEEN : Field := ⟨.MOD_PWR_STAT, 3, 3⟩
/-- THERM_SEEN, bits 2, W1C (R612). -/
def THERM_SEEN : Field := ⟨.MOD_PWR_STAT, 2, 2⟩
/-- OV_SEEN, bits 1, W1C (R612). -/
def OV_SEEN : Field := ⟨.MOD_PWR_STAT, 1, 1⟩
/-- SUPPLY_WARN_SEEN, bits 0, W1C (R612). -/
def SUPPLY_WARN_SEEN : Field := ⟨.MOD_PWR_STAT, 0, 0⟩
end F.MOD_PWR_STAT
namespace F.MOD_RESET_CAUSE
/-- HUB_RAIL, bits 5, RO (R613). -/
def HUB_RAIL : Field := ⟨.MOD_RESET_CAUSE, 5, 5⟩
/-- FATAL, bits 4, RO (R613). -/
def FATAL : Field := ⟨.MOD_RESET_CAUSE, 4, 4⟩
/-- ACTIVATION, bits 3, RO (R613). -/
def ACTIVATION : Field := ⟨.MOD_RESET_CAUSE, 3, 3⟩
/-- NRESET, bits 2, RO (R613). -/
def NRESET : Field := ⟨.MOD_RESET_CAUSE, 2, 2⟩
/-- BROWN_OUT, bits 1, RO (R613). -/
def BROWN_OUT : Field := ⟨.MOD_RESET_CAUSE, 1, 1⟩
/-- POWER_ON, bits 0, RO (R613). -/
def POWER_ON : Field := ⟨.MOD_RESET_CAUSE, 0, 0⟩
end F.MOD_RESET_CAUSE
namespace F.MOD_VIN
/-- CLR, bits 31, WO (R614). -/
def CLR : Field := ⟨.MOD_VIN, 31, 31⟩
/-- MIN_10MV, bits 26:16, RO (R614). -/
def MIN_10MV : Field := ⟨.MOD_VIN, 26, 16⟩
/-- NOW_10MV, bits 10:0, RO (R614). -/
def NOW_10MV : Field := ⟨.MOD_VIN, 10, 0⟩
end F.MOD_VIN
namespace F.MOD_ERR_STAT
/-- FATAL, bits 31, RO (R648). -/
def FATAL : Field := ⟨.MOD_ERR_STAT, 31, 31⟩
/-- FATAL_SRC, bits 30:28, RO (R648). -/
def FATAL_SRC : Field := ⟨.MOD_ERR_STAT, 30, 28⟩
/-- RESTARTING, bits 27:16, RO (R648). -/
def RESTARTING : Field := ⟨.MOD_ERR_STAT, 27, 16⟩
/-- ARCHIVE_FAIL_SEEN, bits 2, W1C (R648). -/
def ARCHIVE_FAIL_SEEN : Field := ⟨.MOD_ERR_STAT, 2, 2⟩
/-- SCRUB_UNCORR_SEEN, bits 1, W1C (R648). -/
def SCRUB_UNCORR_SEEN : Field := ⟨.MOD_ERR_STAT, 1, 1⟩
/-- VOTE_NOMAJ_SEEN, bits 0, W1C (R648). -/
def VOTE_NOMAJ_SEEN : Field := ⟨.MOD_ERR_STAT, 0, 0⟩
end F.MOD_ERR_STAT
namespace F.MOD_ERR_CTRL
/-- FATAL_RESET, bits 31, WO (R649). -/
def FATAL_RESET : Field := ⟨.MOD_ERR_CTRL, 31, 31⟩
end F.MOD_ERR_CTRL
namespace F.MOD_STAT_CTRL
/-- TIMER_MS, bits 15:0, RW-V (R650). -/
def TIMER_MS : Field := ⟨.MOD_STAT_CTRL, 15, 0⟩
end F.MOD_STAT_CTRL
namespace F.MOD_LOG_STAT
/-- NEXT, bits 31:0, RO (R651). -/
def NEXT : Field := ⟨.MOD_LOG_STAT, 31, 0⟩
end F.MOD_LOG_STAT
namespace F.MOD_ORBIT_WRAPS
/-- WRAPS, bits 31:0, RO (R651). -/
def WRAPS : Field := ⟨.MOD_ORBIT_WRAPS, 31, 0⟩
end F.MOD_ORBIT_WRAPS
namespace F.MOD_AGE_CTRL
/-- EN_RAIL, bits 31, RW-V (R669). -/
def EN_RAIL : Field := ⟨.MOD_AGE_CTRL, 31, 31⟩
/-- EN_STEP, bits 30, RW-V (R669). -/
def EN_STEP : Field := ⟨.MOD_AGE_CTRL, 30, 30⟩
/-- EN_WEAR, bits 29, RW-V (R669). -/
def EN_WEAR : Field := ⟨.MOD_AGE_CTRL, 29, 29⟩
/-- EN_OVEN, bits 28, RW-V (R669). -/
def EN_OVEN : Field := ⟨.MOD_AGE_CTRL, 28, 28⟩
/-- EN_TRIM, bits 27, RW-V (R669). -/
def EN_TRIM : Field := ⟨.MOD_AGE_CTRL, 27, 27⟩
/-- GUARD_MV, bits 7:0, RW-V (R669). -/
def GUARD_MV : Field := ⟨.MOD_AGE_CTRL, 7, 0⟩
end F.MOD_AGE_CTRL
namespace F.MOD_AGE_STAT
/-- OVR_OVEN, bits 31, W1C (R670). -/
def OVR_OVEN : Field := ⟨.MOD_AGE_STAT, 31, 31⟩
/-- OVR_TRIM, bits 30, W1C (R670). -/
def OVR_TRIM : Field := ⟨.MOD_AGE_STAT, 30, 30⟩
/-- OVEN_PROP, bits 29:28, RO (R670). -/
def OVEN_PROP : Field := ⟨.MOD_AGE_STAT, 29, 28⟩
/-- HK_MISSING_SEEN, bits 27, W1C (R670). -/
def HK_MISSING_SEEN : Field := ⟨.MOD_AGE_STAT, 27, 27⟩
/-- LEDGER_FAIL_SEEN, bits 26, W1C (R670). -/
def LEDGER_FAIL_SEEN : Field := ⟨.MOD_AGE_STAT, 26, 26⟩
end F.MOD_AGE_STAT
namespace F.MOD_AGE_HOURS
/-- HOURS, bits 31:0, RO (R671). -/
def HOURS : Field := ⟨.MOD_AGE_HOURS, 31, 0⟩
end F.MOD_AGE_HOURS
namespace F.MOD_AGE_DOSE
/-- SRC, bits 31:30, RO (R671). -/
def SRC : Field := ⟨.MOD_AGE_DOSE, 31, 30⟩
/-- DOSE_GY, bits 23:0, RO (R671). -/
def DOSE_GY : Field := ⟨.MOD_AGE_DOSE, 23, 0⟩
end F.MOD_AGE_DOSE
namespace F.DSI_CTRL
/-- EN, bits 31, RW-V (R692). -/
def EN : Field := ⟨.DSI_CTRL, 31, 31⟩
/-- MODE, bits 30, RW-V (R692). -/
def MODE : Field := ⟨.DSI_CTRL, 30, 30⟩
/-- TE_POL, bits 29, RW-V (R692). -/
def TE_POL : Field := ⟨.DSI_CTRL, 29, 29⟩
end F.DSI_CTRL
namespace F.DSI_STAT
/-- STATE, bits 31:30, RO (R693). -/
def STATE : Field := ⟨.DSI_STAT, 31, 30⟩
/-- FRONT, bits 29, RO (R693). -/
def FRONT : Field := ⟨.DSI_STAT, 29, 29⟩
/-- PENDING, bits 28, RO (R693). -/
def PENDING : Field := ⟨.DSI_STAT, 28, 28⟩
/-- LATE, bits 27, RO (R693). -/
def LATE : Field := ⟨.DSI_STAT, 27, 27⟩
/-- COMPOSING, bits 26, RO (R693). -/
def COMPOSING : Field := ⟨.DSI_STAT, 26, 26⟩
/-- TIMING_PENDING, bits 25, RO (R693). -/
def TIMING_PENDING : Field := ⟨.DSI_STAT, 25, 25⟩
/-- TE_TIMEOUT_SEEN, bits 17, W1C (R693). -/
def TE_TIMEOUT_SEEN : Field := ⟨.DSI_STAT, 17, 17⟩
/-- COMMIT_LATE_SEEN, bits 16, W1C (R693). -/
def COMMIT_LATE_SEEN : Field := ⟨.DSI_STAT, 16, 16⟩
/-- FLIP_SEQ, bits 15:0, RO (R693). -/
def FLIP_SEQ : Field := ⟨.DSI_STAT, 15, 0⟩
end F.DSI_STAT
namespace F.DSI_CLK
/-- LANES, bits 31:30, RW-S-V (R694). -/
def LANES : Field := ⟨.DSI_CLK, 31, 30⟩
/-- LANE_MBPS, bits 27:17, RW-S-V (R694). -/
def LANE_MBPS : Field := ⟨.DSI_CLK, 27, 17⟩
/-- PIX_KHZ, bits 16:0, RW-S-V (R694). -/
def PIX_KHZ : Field := ⟨.DSI_CLK, 16, 0⟩
end F.DSI_CLK
namespace F.DSI_HTIM0
/-- HACT, bits 26:16, RW-S-V (R695). -/
def HACT : Field := ⟨.DSI_HTIM0, 26, 16⟩
/-- HSA, bits 9:0, RW-S-V (R695). -/
def HSA : Field := ⟨.DSI_HTIM0, 9, 0⟩
end F.DSI_HTIM0
namespace F.DSI_HTIM1
/-- HBP, bits 25:16, RW-S-V (R695). -/
def HBP : Field := ⟨.DSI_HTIM1, 25, 16⟩
/-- HFP, bits 9:0, RW-S-V (R695). -/
def HFP : Field := ⟨.DSI_HTIM1, 9, 0⟩
end F.DSI_HTIM1
namespace F.DSI_VTIM0
/-- VACT, bits 25:16, RW-S-V (R695). -/
def VACT : Field := ⟨.DSI_VTIM0, 25, 16⟩
/-- VSA, bits 9:0, RW-S-V (R695). -/
def VSA : Field := ⟨.DSI_VTIM0, 9, 0⟩
end F.DSI_VTIM0
namespace F.DSI_VTIM1
/-- VBP, bits 25:16, RW-S-V (R695). -/
def VBP : Field := ⟨.DSI_VTIM1, 25, 16⟩
/-- VFP, bits 9:0, RW-S-V (R695). -/
def VFP : Field := ⟨.DSI_VTIM1, 9, 0⟩
end F.DSI_VTIM1
namespace F.DSI_CMDP
/-- PERIOD_US, bits 16:0, RW-S-V (R696). -/
def PERIOD_US : Field := ⟨.DSI_CMDP, 16, 0⟩
end F.DSI_CMDP
namespace F.DSI_COMP0
/-- MAP, bits 31, RW-V (R697). -/
def MAP : Field := ⟨.DSI_COMP0, 31, 31⟩
/-- COL0, bits 29:20, RW-V (R697). -/
def COL0 : Field := ⟨.DSI_COMP0, 29, 20⟩
/-- ROW0, bits 19:10, RW-V (R697). -/
def ROW0 : Field := ⟨.DSI_COMP0, 19, 10⟩
/-- CSHIFT, bits 3:0, RW-V (R697). -/
def CSHIFT : Field := ⟨.DSI_COMP0, 3, 0⟩
end F.DSI_COMP0
namespace F.DSI_COMP1
/-- W_M1, bits 25:16, RW-V (R697). -/
def W_M1 : Field := ⟨.DSI_COMP1, 25, 16⟩
/-- H_M1, bits 9:0, RW-V (R697). -/
def H_M1 : Field := ⟨.DSI_COMP1, 9, 0⟩
end F.DSI_COMP1
namespace F.DSI_COMP2
/-- X0, bits 26:16, RW-V (R697). -/
def X0 : Field := ⟨.DSI_COMP2, 26, 16⟩
/-- Y0, bits 9:0, RW-V (R697). -/
def Y0 : Field := ⟨.DSI_COMP2, 9, 0⟩
end F.DSI_COMP2
namespace F.DSI_COMMIT
/-- GO, bits 31, WO (R698). -/
def GO : Field := ⟨.DSI_COMMIT, 31, 31⟩
/-- COMPOSE, bits 30, WO (R698). -/
def COMPOSE : Field := ⟨.DSI_COMMIT, 30, 30⟩
/-- FLIP, bits 29, WO (R698). -/
def FLIP : Field := ⟨.DSI_COMMIT, 29, 29⟩
end F.DSI_COMMIT
namespace F.DSI_FRAME_CNT
/-- FRAMES, bits 31:0, RO (R699). -/
def FRAMES : Field := ⟨.DSI_FRAME_CNT, 31, 0⟩
end F.DSI_FRAME_CNT
namespace F.DSI_FLIP_LO
/-- FLIP_LO, bits 31:0, RO (R699). -/
def FLIP_LO : Field := ⟨.DSI_FLIP_LO, 31, 0⟩
end F.DSI_FLIP_LO
namespace F.DSI_FLIP_HI
/-- FLIP_HI, bits 31:0, RO (R699). -/
def FLIP_HI : Field := ⟨.DSI_FLIP_HI, 31, 0⟩
end F.DSI_FLIP_HI
namespace F.MOD_SCRATCH
/-- DATA, bits 31:0, RW-V (R726). -/
def DATA : Field := ⟨.MOD_SCRATCH, 31, 0⟩
end F.MOD_SCRATCH
namespace F.MOD_CFG_GEN
/-- GEN, bits 31:0, RO (R727). -/
def GEN : Field := ⟨.MOD_CFG_GEN, 31, 0⟩
end F.MOD_CFG_GEN
namespace F.MOD_STAGE_STAT
/-- MOD_PEND, bits 31, RO (R728). -/
def MOD_PEND : Field := ⟨.MOD_STAGE_STAT, 31, 31⟩
/-- RGN_PEND, bits 27:16, RO (R728). -/
def RGN_PEND : Field := ⟨.MOD_STAGE_STAT, 27, 16⟩
/-- CH_PEND, bits 7:0, RO (R728). -/
def CH_PEND : Field := ⟨.MOD_STAGE_STAT, 7, 0⟩
end F.MOD_STAGE_STAT
namespace F.MOD_COMMIT_STAT
/-- SEQ, bits 31:16, RO (R729). -/
def SEQ : Field := ⟨.MOD_COMMIT_STAT, 31, 16⟩
/-- KIND, bits 15:14, RO (R729). -/
def KIND : Field := ⟨.MOD_COMMIT_STAT, 15, 14⟩
/-- STATUS, bits 7:0, RO (R729). -/
def STATUS : Field := ⟨.MOD_COMMIT_STAT, 7, 0⟩
end F.MOD_COMMIT_STAT
namespace F.MOD_ADDR_FAULT
/-- ADDR, bits 31:2, RO (R730). -/
def ADDR : Field := ⟨.MOD_ADDR_FAULT, 31, 2⟩
/-- WRITE, bits 1, RO (R730). -/
def WRITE : Field := ⟨.MOD_ADDR_FAULT, 1, 1⟩
/-- VALID, bits 0, RO (R730). -/
def VALID : Field := ⟨.MOD_ADDR_FAULT, 0, 0⟩
end F.MOD_ADDR_FAULT
namespace F.RGN_PWR_STAT
/-- STATE, bits 31:29, RO (R616). -/
def STATE : Field := ⟨.RGN_PWR_STAT, 31, 29⟩
/-- CAUSE_MODULE, bits 28, RO (R616). -/
def CAUSE_MODULE : Field := ⟨.RGN_PWR_STAT, 28, 28⟩
/-- CAUSE_THERMAL, bits 27, RO (R616). -/
def CAUSE_THERMAL : Field := ⟨.RGN_PWR_STAT, 27, 27⟩
/-- CAUSE_RAIL, bits 26, RO (R616). -/
def CAUSE_RAIL : Field := ⟨.RGN_PWR_STAT, 26, 26⟩
/-- THERM_NOW, bits 25, RO (R616). -/
def THERM_NOW : Field := ⟨.RGN_PWR_STAT, 25, 25⟩
/-- CAL_QUEUED, bits 24, RO (R616). -/
def CAL_QUEUED : Field := ⟨.RGN_PWR_STAT, 24, 24⟩
/-- RAIL_NOW, bits 23, RO (R616). -/
def RAIL_NOW : Field := ⟨.RGN_PWR_STAT, 23, 23⟩
/-- TJ, bits 8:0, RO (R616). -/
def TJ : Field := ⟨.RGN_PWR_STAT, 8, 0⟩
end F.RGN_PWR_STAT
namespace F.RGN_RAIL
/-- NOW_MV, bits 25:16, RO (R617). -/
def NOW_MV : Field := ⟨.RGN_RAIL, 25, 16⟩
/-- TARGET_MV, bits 9:0, RW-V (R617). -/
def TARGET_MV : Field := ⟨.RGN_RAIL, 9, 0⟩
end F.RGN_RAIL
namespace F.RGN_ROT_CTRL
/-- STRIKES, bits 18:16, RW-V (R109). -/
def STRIKES : Field := ⟨.RGN_ROT_CTRL, 18, 16⟩
/-- CAL_RETRY, bits 13:12, RW-V (R109). -/
def CAL_RETRY : Field := ⟨.RGN_ROT_CTRL, 13, 12⟩
/-- STEP, bits 11:0, RW-V (R109). -/
def STEP : Field := ⟨.RGN_ROT_CTRL, 11, 0⟩
end F.RGN_ROT_CTRL
namespace F.RGN_SHADOW_CFG
/-- MEAN_LIMIT, bits 31:24, RW-V (R110). -/
def MEAN_LIMIT : Field := ⟨.RGN_SHADOW_CFG, 31, 24⟩
/-- CONFIRM_LIMIT, bits 23:20, RW-V (R110). -/
def CONFIRM_LIMIT : Field := ⟨.RGN_SHADOW_CFG, 23, 20⟩
/-- LIMIT, bits 19:12, RW-V (R110). -/
def LIMIT : Field := ⟨.RGN_SHADOW_CFG, 19, 12⟩
/-- THR, bits 11:0, RW-V (R110). -/
def THR : Field := ⟨.RGN_SHADOW_CFG, 11, 0⟩
end F.RGN_SHADOW_CFG
namespace F.RGN_TRIG_PROF_CFG
/-- TYPE, bits 31:28, RW-L-V (R223). -/
def TYPE : Field := ⟨.RGN_TRIG_PROF_CFG, 31, 28⟩
/-- POL, bits 27:26, RW-L-V (R223). -/
def POL : Field := ⟨.RGN_TRIG_PROF_CFG, 27, 26⟩
/-- COND, bits 25:24, RW-L-V (R223). -/
def COND : Field := ⟨.RGN_TRIG_PROF_CFG, 25, 24⟩
/-- HYST, bits 23:16, RW-L-V (R223). -/
def HYST : Field := ⟨.RGN_TRIG_PROF_CFG, 23, 16⟩
/-- CFD_FRAC, bits 15:12, RW-L-V (R223). -/
def CFD_FRAC : Field := ⟨.RGN_TRIG_PROF_CFG, 15, 12⟩
/-- CFD_DEL, bits 11:6, RW-L-V (R223). -/
def CFD_DEL : Field := ⟨.RGN_TRIG_PROF_CFG, 11, 6⟩
end F.RGN_TRIG_PROF_CFG
namespace F.RGN_TRIG_PROF_LIM
/-- T2, bits 31:16, RW-L-V (R224). -/
def T2 : Field := ⟨.RGN_TRIG_PROF_LIM, 31, 16⟩
/-- T1, bits 15:0, RW-L-V (R224). -/
def T1 : Field := ⟨.RGN_TRIG_PROF_LIM, 15, 0⟩
end F.RGN_TRIG_PROF_LIM
namespace F.RGN_PATTERN
/-- EN, bits 31, RW-L-V (R225). -/
def EN : Field := ⟨.RGN_PATTERN, 31, 31⟩
/-- MODE, bits 30, RW-L-V (R225). -/
def MODE : Field := ⟨.RGN_PATTERN, 30, 30⟩
/-- COINC, bits 20:16, RW-L-V (R225). -/
def COINC : Field := ⟨.RGN_PATTERN, 20, 16⟩
/-- CH_MASK, bits 15:0, RW-L-V (R225). -/
def CH_MASK : Field := ⟨.RGN_PATTERN, 15, 0⟩
end F.RGN_PATTERN
namespace F.RGN_PERIODIC
/-- N, bits 31:16, RW-L-V (R226). -/
def N : Field := ⟨.RGN_PERIODIC, 31, 16⟩
/-- OFFSET, bits 15:0, RW-L-V (R226). -/
def OFFSET : Field := ⟨.RGN_PERIODIC, 15, 0⟩
end F.RGN_PERIODIC
namespace F.RGN_SOFT_TRIG
/-- CH_MASK, bits 15:0, WO (R227). -/
def CH_MASK : Field := ⟨.RGN_SOFT_TRIG, 15, 0⟩
end F.RGN_SOFT_TRIG
namespace F.RGN_XQ_STAT
/-- CLR, bits 31, WO (R38). -/
def CLR : Field := ⟨.RGN_XQ_STAT, 31, 31⟩
/-- MIN_SLACK_IN, bits 20:16, RO (R38). -/
def MIN_SLACK_IN : Field := ⟨.RGN_XQ_STAT, 20, 16⟩
/-- MIN_SLACK_OUT, bits 12:8, RO (R38). -/
def MIN_SLACK_OUT : Field := ⟨.RGN_XQ_STAT, 12, 8⟩
/-- SKEW_OUT, bits 1, RO (R38). -/
def SKEW_OUT : Field := ⟨.RGN_XQ_STAT, 1, 1⟩
/-- SKEW_IN, bits 0, RO (R38). -/
def SKEW_IN : Field := ⟨.RGN_XQ_STAT, 0, 0⟩
end F.RGN_XQ_STAT
namespace F.RGN_ACQ_CTRL
/-- MODE, bits 31:30, RW-L-V (R271). -/
def MODE : Field := ⟨.RGN_ACQ_CTRL, 31, 30⟩
/-- SEGS_M1, bits 15:0, RW-L-V (R271). -/
def SEGS_M1 : Field := ⟨.RGN_ACQ_CTRL, 15, 0⟩
end F.RGN_ACQ_CTRL
namespace F.RGN_LAT_CFG
/-- LOOKBACK, bits 15:0, RW-L-V (R272). -/
def LOOKBACK : Field := ⟨.RGN_LAT_CFG, 15, 0⟩
end F.RGN_LAT_CFG
namespace F.RGN_ACCQ_STAT
/-- CLR, bits 31, WO (R273). -/
def CLR : Field := ⟨.RGN_ACCQ_STAT, 31, 31⟩
/-- HIGH_WATER, bits 30:24, RO (R273). -/
def HIGH_WATER : Field := ⟨.RGN_ACCQ_STAT, 30, 24⟩
/-- OCCUPANCY, bits 22:16, RO (R273). -/
def OCCUPANCY : Field := ⟨.RGN_ACCQ_STAT, 22, 16⟩
/-- FULL_SEEN, bits 0, W1C (R273). -/
def FULL_SEEN : Field := ⟨.RGN_ACCQ_STAT, 0, 0⟩
end F.RGN_ACCQ_STAT
namespace F.RGN_MEM_APERTURE
/-- CH, bits 27:24, RW (R274). -/
def CH : Field := ⟨.RGN_MEM_APERTURE, 27, 24⟩
/-- STORE, bits 23, RW (R274). -/
def STORE : Field := ⟨.RGN_MEM_APERTURE, 23, 23⟩
/-- BASE, bits 7:0, RW (R274). -/
def BASE : Field := ⟨.RGN_MEM_APERTURE, 7, 0⟩
end F.RGN_MEM_APERTURE
namespace F.RGN_MASK_STAT
/-- SHARE_OUT, bits 31:16, RO (R297). -/
def SHARE_OUT : Field := ⟨.RGN_MASK_STAT, 31, 16⟩
/-- FAIL_SEEN, bits 15:0, W1C (R297). -/
def FAIL_SEEN : Field := ⟨.RGN_MASK_STAT, 15, 0⟩
end F.RGN_MASK_STAT
namespace F.RGN_ACC_CTRL
/-- BND_EN, bits 31, RW-L-V (R317). -/
def BND_EN : Field := ⟨.RGN_ACC_CTRL, 31, 31⟩
/-- HIST_SRC, bits 30, RW-L-V (R317). -/
def HIST_SRC : Field := ⟨.RGN_ACC_CTRL, 30, 30⟩
/-- VIEW_CH, bits 15:12, RW (R317). -/
def VIEW_CH : Field := ⟨.RGN_ACC_CTRL, 15, 12⟩
/-- SHIFT, bits 11:8, RW-L-V (R317). -/
def SHIFT : Field := ⟨.RGN_ACC_CTRL, 11, 8⟩
/-- TARGET_LOG2, bits 4:0, RW-L-V (R317). -/
def TARGET_LOG2 : Field := ⟨.RGN_ACC_CTRL, 4, 0⟩
end F.RGN_ACC_CTRL
namespace F.RGN_ACC_SINK
/-- AVG_EN, bits 31:16, RW-L-V (R318). -/
def AVG_EN : Field := ⟨.RGN_ACC_SINK, 31, 16⟩
/-- HIST_EN, bits 15:0, RW-L-V (R318). -/
def HIST_EN : Field := ⟨.RGN_ACC_SINK, 15, 0⟩
end F.RGN_ACC_SINK
namespace F.RGN_ACC_MAP
/-- MAP_EN, bits 31:16, RW-V (R319). -/
def MAP_EN : Field := ⟨.RGN_ACC_MAP, 31, 16⟩
/-- MAP_SEL, bits 15:0, RW-V (R319). -/
def MAP_SEL : Field := ⟨.RGN_ACC_MAP, 15, 0⟩
end F.RGN_ACC_MAP
namespace F.RGN_ACC_CLR
/-- AVG_CLR, bits 31:16, WO (R320). -/
def AVG_CLR : Field := ⟨.RGN_ACC_CLR, 31, 16⟩
/-- HIST_CLR, bits 15:0, WO (R320). -/
def HIST_CLR : Field := ⟨.RGN_ACC_CLR, 15, 0⟩
end F.RGN_ACC_CLR
namespace F.RGN_ACC_STAT
/-- PERIOD, bits 31:24, RO (R321). -/
def PERIOD : Field := ⟨.RGN_ACC_STAT, 31, 24⟩
/-- CFG_CLR_SEEN, bits 18, W1C (R321). -/
def CFG_CLR_SEEN : Field := ⟨.RGN_ACC_STAT, 18, 18⟩
/-- BND_SEEN, bits 17, W1C (R321). -/
def BND_SEEN : Field := ⟨.RGN_ACC_STAT, 17, 17⟩
/-- RESTART_SEEN, bits 16, W1C (R321). -/
def RESTART_SEEN : Field := ⟨.RGN_ACC_STAT, 16, 16⟩
/-- DONE, bits 15:0, RO (R321). -/
def DONE : Field := ⟨.RGN_ACC_STAT, 15, 0⟩
end F.RGN_ACC_STAT
namespace F.ENG_CTRL
/-- EN, bits 31:16, RW-L-V (R355). -/
def EN : Field := ⟨.ENG_CTRL, 31, 16⟩
end F.ENG_CTRL
namespace F.ENG_STAT
/-- LOADED, bits 31:16, RO (R356). -/
def LOADED : Field := ⟨.ENG_STAT, 31, 16⟩
/-- FAULT_SEEN, bits 15:0, W1C (R356). -/
def FAULT_SEEN : Field := ⟨.ENG_STAT, 15, 0⟩
end F.ENG_STAT
namespace F.ENG_BUDGET
/-- B_MEAS, bits 31:24, RO (R357). -/
def B_MEAS : Field := ⟨.ENG_BUDGET, 31, 24⟩
/-- B_DECL, bits 7:0, RW-L-V (R357). -/
def B_DECL : Field := ⟨.ENG_BUDGET, 7, 0⟩
end F.ENG_BUDGET
namespace F.RGN_RO_CTRL
/-- LANE_EN, bits 31:24, RW-V (R422). -/
def LANE_EN : Field := ⟨.RGN_RO_CTRL, 31, 24⟩
/-- RETRAIN, bits 23:16, WO (R422). -/
def RETRAIN : Field := ⟨.RGN_RO_CTRL, 23, 16⟩
/-- FMT, bits 15, RW-L-V (R422). -/
def FMT : Field := ⟨.RGN_RO_CTRL, 15, 15⟩
/-- FRAME_MAX, bits 12:6, RW-L-V (R422). -/
def FRAME_MAX : Field := ⟨.RGN_RO_CTRL, 12, 6⟩
end F.RGN_RO_CTRL
namespace F.RGN_RO_LANE_STAT
/-- LANE_FAULT_SEEN, bits 31:24, W1C (R423). -/
def LANE_FAULT_SEEN : Field := ⟨.RGN_RO_LANE_STAT, 31, 24⟩
/-- STATE7, bits 23:21, RO (R423). -/
def STATE7 : Field := ⟨.RGN_RO_LANE_STAT, 23, 21⟩
/-- STATE6, bits 20:18, RO (R423). -/
def STATE6 : Field := ⟨.RGN_RO_LANE_STAT, 20, 18⟩
/-- STATE5, bits 17:15, RO (R423). -/
def STATE5 : Field := ⟨.RGN_RO_LANE_STAT, 17, 15⟩
/-- STATE4, bits 14:12, RO (R423). -/
def STATE4 : Field := ⟨.RGN_RO_LANE_STAT, 14, 12⟩
/-- STATE3, bits 11:9, RO (R423). -/
def STATE3 : Field := ⟨.RGN_RO_LANE_STAT, 11, 9⟩
/-- STATE2, bits 8:6, RO (R423). -/
def STATE2 : Field := ⟨.RGN_RO_LANE_STAT, 8, 6⟩
/-- STATE1, bits 5:3, RO (R423). -/
def STATE1 : Field := ⟨.RGN_RO_LANE_STAT, 5, 3⟩
/-- STATE0, bits 2:0, RO (R423). -/
def STATE0 : Field := ⟨.RGN_RO_LANE_STAT, 2, 0⟩
end F.RGN_RO_LANE_STAT
namespace F.RGN_RO_TEST
/-- TEST_EN, bits 31:24, RW-V (R424). -/
def TEST_EN : Field := ⟨.RGN_RO_TEST, 31, 24⟩
/-- PAT, bits 0, RW-V (R424). -/
def PAT : Field := ⟨.RGN_RO_TEST, 0, 0⟩
end F.RGN_RO_TEST
namespace F.RGN_DAMPER
/-- BURST, bits 31:24, RW-V (R425). -/
def BURST : Field := ⟨.RGN_DAMPER, 31, 24⟩
/-- RATE, bits 10:0, RW-V (R425). -/
def RATE : Field := ⟨.RGN_DAMPER, 10, 0⟩
end F.RGN_DAMPER
namespace F.RGN_RO_OVF
/-- OVF_AGE, bits 31:16, RW-V (R426). -/
def OVF_AGE : Field := ⟨.RGN_RO_OVF, 31, 16⟩
/-- NO_LANE, bits 3, RO (R426). -/
def NO_LANE : Field := ⟨.RGN_RO_OVF, 3, 3⟩
/-- NO_LANE_SEEN, bits 2, W1C (R426). -/
def NO_LANE_SEEN : Field := ⟨.RGN_RO_OVF, 2, 2⟩
/-- OVF_SEEN, bits 1, W1C (R426). -/
def OVF_SEEN : Field := ⟨.RGN_RO_OVF, 1, 1⟩
/-- OVF, bits 0, RO (R426). -/
def OVF : Field := ⟨.RGN_RO_OVF, 0, 0⟩
end F.RGN_RO_OVF
namespace F.RGN_ERR_STAT
/-- RESTARTS, bits 31:24, RO (R652). -/
def RESTARTS : Field := ⟨.RGN_ERR_STAT, 31, 24⟩
/-- FRAME_WRAPS, bits 23:16, RO (R652). -/
def FRAME_WRAPS : Field := ⟨.RGN_ERR_STAT, 23, 16⟩
/-- LAST_CAUSE, bits 15:12, RO (R652). -/
def LAST_CAUSE : Field := ⟨.RGN_ERR_STAT, 15, 12⟩
/-- MASK_MEM_SEEN, bits 3, W1C (R652). -/
def MASK_MEM_SEEN : Field := ⟨.RGN_ERR_STAT, 3, 3⟩
/-- FATAL_SEEN, bits 2, W1C (R652). -/
def FATAL_SEEN : Field := ⟨.RGN_ERR_STAT, 2, 2⟩
/-- RESTARTING, bits 1, RO (R652). -/
def RESTARTING : Field := ⟨.RGN_ERR_STAT, 1, 1⟩
end F.RGN_ERR_STAT
namespace F.RGN_AGE_STAT
/-- VMIN_MV, bits 31:22, RO (R672). -/
def VMIN_MV : Field := ⟨.RGN_AGE_STAT, 31, 22⟩
/-- OVR_RAIL, bits 15, W1C (R672). -/
def OVR_RAIL : Field := ⟨.RGN_AGE_STAT, 15, 15⟩
/-- OVR_STEP, bits 14, W1C (R672). -/
def OVR_STEP : Field := ⟨.RGN_AGE_STAT, 14, 14⟩
/-- NO_VMIN, bits 5, RO (R672). -/
def NO_VMIN : Field := ⟨.RGN_AGE_STAT, 5, 5⟩
/-- RAIL_LIMITED, bits 4, RO (R672). -/
def RAIL_LIMITED : Field := ⟨.RGN_AGE_STAT, 4, 4⟩
/-- MARGIN_LOW, bits 3, RO (R672). -/
def MARGIN_LOW : Field := ⟨.RGN_AGE_STAT, 3, 3⟩
/-- BENCH_DRIFT, bits 2, RO (R672). -/
def BENCH_DRIFT : Field := ⟨.RGN_AGE_STAT, 2, 2⟩
/-- PLL_MARGIN, bits 1, RO (R672). -/
def PLL_MARGIN : Field := ⟨.RGN_AGE_STAT, 1, 1⟩
end F.RGN_AGE_STAT
namespace F.RGN_AGE_RO
/-- WORST_PPM, bits 31:16, RO (R673). -/
def WORST_PPM : Field := ⟨.RGN_AGE_RO, 31, 16⟩
/-- WORST_PAIR, bits 15:14, RO (R673). -/
def WORST_PAIR : Field := ⟨.RGN_AGE_RO, 15, 14⟩
end F.RGN_AGE_RO
namespace F.CH_FE_CTRL
/-- OFFSET, bits 27:16, RW-L-V (R67). -/
def OFFSET : Field := ⟨.CH_FE_CTRL, 27, 16⟩
/-- GAIN, bits 2:0, RW-L-V (R67). -/
def GAIN : Field := ⟨.CH_FE_CTRL, 2, 0⟩
end F.CH_FE_CTRL
namespace F.CH_FE_STAT
/-- INJ_CLAMPED, bits 11, W1C (R68). -/
def INJ_CLAMPED : Field := ⟨.CH_FE_STAT, 11, 11⟩
/-- INJ_MISSED, bits 10, W1C (R68). -/
def INJ_MISSED : Field := ⟨.CH_FE_STAT, 10, 10⟩
/-- SAT_SEEN, bits 9, W1C (R68). -/
def SAT_SEEN : Field := ⟨.CH_FE_STAT, 9, 9⟩
/-- CM_SEEN, bits 8, W1C (R68). -/
def CM_SEEN : Field := ⟨.CH_FE_STAT, 8, 8⟩
/-- INJ_ACTIVE, bits 3, RO (R68). -/
def INJ_ACTIVE : Field := ⟨.CH_FE_STAT, 3, 3⟩
/-- SAT_NOW, bits 2, RO (R68). -/
def SAT_NOW : Field := ⟨.CH_FE_STAT, 2, 2⟩
/-- CM_HIGH, bits 1, RO (R68). -/
def CM_HIGH : Field := ⟨.CH_FE_STAT, 1, 1⟩
/-- CM_LOW, bits 0, RO (R68). -/
def CM_LOW : Field := ⟨.CH_FE_STAT, 0, 0⟩
end F.CH_FE_STAT
namespace F.CH_INJ_CTRL
/-- EN, bits 31, RW-V (R69). -/
def EN : Field := ⟨.CH_INJ_CTRL, 31, 31⟩
/-- MATCH_ALL, bits 30, RW-V (R69). -/
def MATCH_ALL : Field := ⟨.CH_INJ_CTRL, 30, 30⟩
/-- POL, bits 29, RW-V (R69). -/
def POL : Field := ⟨.CH_INJ_CTRL, 29, 29⟩
/-- PATTERN, bits 19:12, RW-V (R69). -/
def PATTERN : Field := ⟨.CH_INJ_CTRL, 19, 12⟩
/-- AMPL, bits 11:0, RW-V (R69). -/
def AMPL : Field := ⟨.CH_INJ_CTRL, 11, 0⟩
end F.CH_INJ_CTRL
namespace F.CH_INJ_TIME
/-- WIDTH, bits 31:16, RW-V (R70). -/
def WIDTH : Field := ⟨.CH_INJ_TIME, 31, 16⟩
/-- DELAY, bits 15:0, RW-V (R70). -/
def DELAY : Field := ⟨.CH_INJ_TIME, 15, 0⟩
end F.CH_INJ_TIME
namespace F.CH_CONV_CTRL
/-- STEP_NOW, bits 8, WO (R104). -/
def STEP_NOW : Field := ⟨.CH_CONV_CTRL, 8, 8⟩
/-- STUCK_EN, bits 5, RW-V (R104). -/
def STUCK_EN : Field := ⟨.CH_CONV_CTRL, 5, 5⟩
/-- ROT_EN, bits 4, RW-V (R104). -/
def ROT_EN : Field := ⟨.CH_CONV_CTRL, 4, 4⟩
/-- MODE, bits 1:0, RW-L-V (R104). -/
def MODE : Field := ⟨.CH_CONV_CTRL, 1, 0⟩
end F.CH_CONV_CTRL
namespace F.CH_CONV_STAT
/-- ROT_STATE, bits 31:28, RO (R105). -/
def ROT_STATE : Field := ⟨.CH_CONV_STAT, 31, 28⟩
/-- SPARE, bits 27:24, RO (R105). -/
def SPARE : Field := ⟨.CH_CONV_STAT, 27, 24⟩
/-- TARGET, bits 23:21, RO (R105). -/
def TARGET : Field := ⟨.CH_CONV_STAT, 23, 21⟩
/-- EFF_MODE, bits 20:19, RO (R105). -/
def EFF_MODE : Field := ⟨.CH_CONV_STAT, 20, 19⟩
/-- NO_SPARE, bits 18, RO (R105). -/
def NO_SPARE : Field := ⟨.CH_CONV_STAT, 18, 18⟩
/-- DEGRADED, bits 17, RO (R105). -/
def DEGRADED : Field := ⟨.CH_CONV_STAT, 17, 17⟩
/-- CAL_DUE, bits 16, RO (R105). -/
def CAL_DUE : Field := ⟨.CH_CONV_STAT, 16, 16⟩
/-- RETIRE_SEEN, bits 7, W1C (R105). -/
def RETIRE_SEEN : Field := ⟨.CH_CONV_STAT, 7, 7⟩
/-- DISPUTE_SEEN, bits 6, W1C (R105). -/
def DISPUTE_SEEN : Field := ⟨.CH_CONV_STAT, 6, 6⟩
/-- REVERT_SEEN, bits 5, W1C (R105). -/
def REVERT_SEEN : Field := ⟨.CH_CONV_STAT, 5, 5⟩
/-- STUCK_SEEN, bits 4, W1C (R105). -/
def STUCK_SEEN : Field := ⟨.CH_CONV_STAT, 4, 4⟩
/-- STARVED_SEEN, bits 3, W1C (R105). -/
def STARVED_SEEN : Field := ⟨.CH_CONV_STAT, 3, 3⟩
end F.CH_CONV_STAT
namespace F.CH_SLICE_MAP
/-- POS7, bits 31:28, RO (R106). -/
def POS7 : Field := ⟨.CH_SLICE_MAP, 31, 28⟩
/-- POS6, bits 27:24, RO (R106). -/
def POS6 : Field := ⟨.CH_SLICE_MAP, 27, 24⟩
/-- POS5, bits 23:20, RO (R106). -/
def POS5 : Field := ⟨.CH_SLICE_MAP, 23, 20⟩
/-- POS4, bits 19:16, RO (R106). -/
def POS4 : Field := ⟨.CH_SLICE_MAP, 19, 16⟩
/-- POS3, bits 15:12, RO (R106). -/
def POS3 : Field := ⟨.CH_SLICE_MAP, 15, 12⟩
/-- POS2, bits 11:8, RO (R106). -/
def POS2 : Field := ⟨.CH_SLICE_MAP, 11, 8⟩
/-- POS1, bits 7:4, RO (R106). -/
def POS1 : Field := ⟨.CH_SLICE_MAP, 7, 4⟩
/-- POS0, bits 3:0, RO (R106). -/
def POS0 : Field := ⟨.CH_SLICE_MAP, 3, 0⟩
end F.CH_SLICE_MAP
namespace F.CH_SLICE_HEALTH
/-- LAST_SLICE, bits 31:28, RO (R107). -/
def LAST_SLICE : Field := ⟨.CH_SLICE_HEALTH, 31, 28⟩
/-- LAST_REASON, bits 27:25, RO (R107). -/
def LAST_REASON : Field := ⟨.CH_SLICE_HEALTH, 27, 25⟩
/-- SUSPECT, bits 24:16, RO (R107). -/
def SUSPECT : Field := ⟨.CH_SLICE_HEALTH, 24, 16⟩
/-- RETIRED, bits 8:0, RW-L-V (R107). -/
def RETIRED : Field := ⟨.CH_SLICE_HEALTH, 8, 0⟩
end F.CH_SLICE_HEALTH
namespace F.CH_SHADOW_STAT
/-- VERDICT, bits 31:30, RO (R108). -/
def VERDICT : Field := ⟨.CH_SHADOW_STAT, 31, 30⟩
/-- SPARE_SLICE, bits 29:26, RO (R108). -/
def SPARE_SLICE : Field := ⟨.CH_SHADOW_STAT, 29, 26⟩
/-- TARGET_SLICE, bits 25:22, RO (R108). -/
def TARGET_SLICE : Field := ⟨.CH_SHADOW_STAT, 25, 22⟩
/-- MEAN_DIFF, bits 21:14, RO (R108). -/
def MEAN_DIFF : Field := ⟨.CH_SHADOW_STAT, 21, 14⟩
/-- DISAGREE, bits 13:0, RO (R108). -/
def DISAGREE : Field := ⟨.CH_SHADOW_STAT, 13, 0⟩
end F.CH_SHADOW_STAT
namespace F.CH_CHAIN_CTRL
/-- RS_PHASE, bits 31:22, RW-L-V (R174). -/
def RS_PHASE : Field := ⟨.CH_CHAIN_CTRL, 31, 22⟩
/-- RS_K, bits 21:14, RW-L-V (R174). -/
def RS_K : Field := ⟨.CH_CHAIN_CTRL, 21, 14⟩
/-- BL_FREEZE, bits 12, RW-V (R174). -/
def BL_FREEZE : Field := ⟨.CH_CHAIN_CTRL, 12, 12⟩
/-- SLOT_EN, bits 9, RW-L-V (R174). -/
def SLOT_EN : Field := ⟨.CH_CHAIN_CTRL, 9, 9⟩
/-- RS_MODE, bits 8, RW-L-V (R174). -/
def RS_MODE : Field := ⟨.CH_CHAIN_CTRL, 8, 8⟩
/-- RS_EN, bits 7, RW-L-V (R174). -/
def RS_EN : Field := ⟨.CH_CHAIN_CTRL, 7, 7⟩
/-- DEC, bits 3:0, RW-L-V (R174). -/
def DEC : Field := ⟨.CH_CHAIN_CTRL, 3, 0⟩
end F.CH_CHAIN_CTRL
namespace F.CH_RS_RATIO
/-- RATIO, bits 31:0, RW-L-V (R175). -/
def RATIO : Field := ⟨.CH_RS_RATIO, 31, 0⟩
end F.CH_RS_RATIO
namespace F.CH_SLOT_CFG
/-- EXC_THR, bits 31:20, RW-L-V (R176). -/
def EXC_THR : Field := ⟨.CH_SLOT_CFG, 31, 20⟩
/-- TAU_K, bits 16:12, RW-L-V (R176). -/
def TAU_K : Field := ⟨.CH_SLOT_CFG, 16, 12⟩
/-- FRZ_EXC, bits 1, RW-L-V (R176). -/
def FRZ_EXC : Field := ⟨.CH_SLOT_CFG, 1, 1⟩
/-- FRZ_WIN, bits 0, RW-L-V (R176). -/
def FRZ_WIN : Field := ⟨.CH_SLOT_CFG, 0, 0⟩
/-- FREQ, bits 31:8, RW-L-V (R176). -/
def FREQ : Field := ⟨.CH_SLOT_CFG, 31, 8⟩
/-- NEXP, bits 4:0, RW-L-V (R176). -/
def NEXP : Field := ⟨.CH_SLOT_CFG, 4, 0⟩
end F.CH_SLOT_CFG
namespace F.CH_SLOT_AUX
/-- WIN_HI, bits 31:16, RW-V (R177). -/
def WIN_HI : Field := ⟨.CH_SLOT_AUX, 31, 16⟩
/-- WIN_LO, bits 15:0, RW-V (R177). -/
def WIN_LO : Field := ⟨.CH_SLOT_AUX, 15, 0⟩
end F.CH_SLOT_AUX
namespace F.CH_SLOT_RESULT
/-- ESTIMATE, bits 31:16, RO (R178). -/
def ESTIMATE : Field := ⟨.CH_SLOT_RESULT, 31, 16⟩
/-- BL_STATE, bits 2:0, RO (R178). -/
def BL_STATE : Field := ⟨.CH_SLOT_RESULT, 2, 0⟩
/-- MAG_HI, bits 31:16, RO (R178). -/
def MAG_HI : Field := ⟨.CH_SLOT_RESULT, 31, 16⟩
/-- PHASE, bits 15:0, RO (R178). -/
def PHASE : Field := ⟨.CH_SLOT_RESULT, 15, 0⟩
end F.CH_SLOT_RESULT
namespace F.CH_CHAIN_STAT
/-- BLOCK_SEQ, bits 29:16, RO (R179). -/
def BLOCK_SEQ : Field := ⟨.CH_CHAIN_STAT, 29, 16⟩
/-- RS_RANGE_SEEN, bits 7, W1C (R179). -/
def RS_RANGE_SEEN : Field := ⟨.CH_CHAIN_STAT, 7, 7⟩
/-- BL_REACQ_SEEN, bits 6, W1C (R179). -/
def BL_REACQ_SEEN : Field := ⟨.CH_CHAIN_STAT, 6, 6⟩
/-- TONE_EXIT_SEEN, bits 5, W1C (R179). -/
def TONE_EXIT_SEEN : Field := ⟨.CH_CHAIN_STAT, 5, 5⟩
/-- ARITH_SAT_SEEN, bits 4, W1C (R179). -/
def ARITH_SAT_SEEN : Field := ⟨.CH_CHAIN_STAT, 4, 4⟩
/-- RS_RANGE, bits 3, RO (R179). -/
def RS_RANGE : Field := ⟨.CH_CHAIN_STAT, 3, 3⟩
/-- TONE_OUTSIDE, bits 2, RO (R179). -/
def TONE_OUTSIDE : Field := ⟨.CH_CHAIN_STAT, 2, 2⟩
/-- BL_FROZEN, bits 1, RO (R179). -/
def BL_FROZEN : Field := ⟨.CH_CHAIN_STAT, 1, 1⟩
end F.CH_CHAIN_STAT
namespace F.CH_TRIG_CTRL
/-- SRC_EN, bits 31:23, RW-L-V (R219). -/
def SRC_EN : Field := ⟨.CH_TRIG_CTRL, 31, 23⟩
/-- ARM, bits 22, WO (R219). -/
def ARM : Field := ⟨.CH_TRIG_CTRL, 22, 22⟩
/-- ARM_MODE, bits 21, RW-L-V (R219). -/
def ARM_MODE : Field := ⟨.CH_TRIG_CTRL, 21, 21⟩
/-- HO_MODE, bits 20, RW-L-V (R219). -/
def HO_MODE : Field := ⟨.CH_TRIG_CTRL, 20, 20⟩
/-- COMB, bits 19:17, RW-L-V (R219). -/
def COMB : Field := ⟨.CH_TRIG_CTRL, 19, 17⟩
/-- PROF_B, bits 16:15, RW-L-V (R219). -/
def PROF_B : Field := ⟨.CH_TRIG_CTRL, 16, 15⟩
/-- PROF_A, bits 14:13, RW-L-V (R219). -/
def PROF_A : Field := ⟨.CH_TRIG_CTRL, 14, 13⟩
/-- COINC, bits 12:6, RW-L-V (R219). -/
def COINC : Field := ⟨.CH_TRIG_CTRL, 12, 6⟩
end F.CH_TRIG_CTRL
namespace F.CH_TRIG_LEVEL_A
/-- HI, bits 31:16, RW-V (R220). -/
def HI : Field := ⟨.CH_TRIG_LEVEL_A, 31, 16⟩
/-- LO, bits 15:0, RW-V (R220). -/
def LO : Field := ⟨.CH_TRIG_LEVEL_A, 15, 0⟩
end F.CH_TRIG_LEVEL_A
namespace F.CH_TRIG_LEVEL_B
/-- HI, bits 31:16, RW-V (R220). -/
def HI : Field := ⟨.CH_TRIG_LEVEL_B, 31, 16⟩
/-- LO, bits 15:0, RW-V (R220). -/
def LO : Field := ⟨.CH_TRIG_LEVEL_B, 15, 0⟩
end F.CH_TRIG_LEVEL_B
namespace F.CH_TRIG_HOLD
/-- HOLDOFF, bits 31:0, RW-L-V (R221). -/
def HOLDOFF : Field := ⟨.CH_TRIG_HOLD, 31, 0⟩
end F.CH_TRIG_HOLD
namespace F.CH_TRIG_STAT
/-- TRIG_STATE, bits 31:28, RO (R222). -/
def TRIG_STATE : Field := ⟨.CH_TRIG_STAT, 31, 28⟩
/-- LAST_SRC, bits 27:19, RO (R222). -/
def LAST_SRC : Field := ⟨.CH_TRIG_STAT, 27, 19⟩
/-- OPEN, bits 18:16, RO (R222). -/
def OPEN : Field := ⟨.CH_TRIG_STAT, 18, 16⟩
/-- IGN_HOLD_SEEN, bits 2, W1C (R222). -/
def IGN_HOLD_SEEN : Field := ⟨.CH_TRIG_STAT, 2, 2⟩
/-- IGN_PRE_SEEN, bits 1, W1C (R222). -/
def IGN_PRE_SEEN : Field := ⟨.CH_TRIG_STAT, 1, 1⟩
/-- TRIG_SEEN, bits 0, W1C (R222). -/
def TRIG_SEEN : Field := ⟨.CH_TRIG_STAT, 0, 0⟩
end F.CH_TRIG_STAT
namespace F.CH_MEM_CTRL
/-- SEQ_WRAPS, bits 31:24, RO (R269). -/
def SEQ_WRAPS : Field := ⟨.CH_MEM_CTRL, 31, 24⟩
/-- BANKS, bits 23:16, RW-L-V (R269). -/
def BANKS : Field := ⟨.CH_MEM_CTRL, 23, 16⟩
/-- RING_BANKS, bits 15:8, RW-L-V (R269). -/
def RING_BANKS : Field := ⟨.CH_MEM_CTRL, 15, 8⟩
/-- SEG_WAIT_SEEN, bits 5, W1C (R269). -/
def SEG_WAIT_SEEN : Field := ⟨.CH_MEM_CTRL, 5, 5⟩
/-- STREAM_SEL, bits 4:3, RW-L-V (R269). -/
def STREAM_SEL : Field := ⟨.CH_MEM_CTRL, 4, 3⟩
/-- TONE_REC, bits 2, RW-L-V (R269). -/
def TONE_REC : Field := ⟨.CH_MEM_CTRL, 2, 2⟩
/-- FORMAT, bits 1, RW-L-V (R269). -/
def FORMAT : Field := ⟨.CH_MEM_CTRL, 1, 1⟩
/-- REC_EN, bits 0, RW-L-V (R269). -/
def REC_EN : Field := ⟨.CH_MEM_CTRL, 0, 0⟩
end F.CH_MEM_CTRL
namespace F.CH_REC_WIN
/-- LEN, bits 31:14, RW-L-V (R270). -/
def LEN : Field := ⟨.CH_REC_WIN, 31, 14⟩
/-- PRE, bits 13:0, RW-L-V (R270). -/
def PRE : Field := ⟨.CH_REC_WIN, 13, 0⟩
end F.CH_REC_WIN
namespace F.CH_MASK_CTRL
/-- ACT1, bits 31:30, RW-L-V (R296). -/
def ACT1 : Field := ⟨.CH_MASK_CTRL, 31, 30⟩
/-- ACT0, bits 29:28, RW-L-V (R296). -/
def ACT0 : Field := ⟨.CH_MASK_CTRL, 29, 28⟩
/-- MEAS_EN, bits 27, RW-L-V (R296). -/
def MEAS_EN : Field := ⟨.CH_MASK_CTRL, 27, 27⟩
/-- NPTS1, bits 21:11, RW-L-V (R296). -/
def NPTS1 : Field := ⟨.CH_MASK_CTRL, 21, 11⟩
/-- NPTS0, bits 10:0, RW-L-V (R296). -/
def NPTS0 : Field := ⟨.CH_MASK_CTRL, 10, 0⟩
end F.CH_MASK_CTRL

end Sys2Proof.Machine
end

