-- ==== Sys2Proof/Machine/TimeState.lean ====
section
/-! DEFINITION. State of the time base (R112 to R147), of the timing lanes (R377 to R400) and of the fixed
lane between hub and regions (R27 to R39). Instants are internal ticks times 1,024. -/
namespace Sys2Proof.Machine

/-- Time-base states (R124). -/
inductive TbState where
  | switching | tracking | holdover | relock
  deriving DecidableEq, Repr

/-- Oven states (R113). -/
inductive OvenState where
  | warming | warm | unreg
  deriving DecidableEq, Repr

/-- An accepted epoch reset whose origin has not yet arrived (R133, R137). -/
structure PendingEpoch where
  origin : Nat
  host : Bool
  offTicks : Nat
  offFrac : Nat
  deriving DecidableEq, Repr

/-- The time base (R112 to R147). -/
structure TimeBase where
  tb : TbState := .switching
  oven : OvenState := .warming
  /-- Moment WARM was last entered, ns. -/
  warmAt : Nat := 0
  heaterFault : Bool := false
  heaterMw : Nat := 0
  tempErr : Int := 0
  synLocked : Bool := false
  xingVirtual : Bool := false
  /-- Frequency of REFCLK_IN, Hz, 0 when it shows no edge, and the value at mode entry. -/
  refHz : Nat := 0
  entryHz : Nat := 0
  mclkHz : Nat := 0
  /-- Rate of the sample clock, ticks a second, at its last lock or gate. -/
  lockHz : Nat := 10240000000
  /-- Start, internal ticks, of the holdover in progress, and its largest phase error, 1/1024 tick. -/
  holdStart : Nat := 0
  holdPhase : Nat := 0
  /-- The phase error measured when the reference returned, signed, 1/1024 tick, and that moment, ns (R125). -/
  relockErr : Int := 0
  relockAt : Nat := 0
  /-- Current and previous epoch origin, internal ticks (R134). -/
  origin : Nat := 0
  prevOrigin : Nat := 0
  epochSeq : Nat := 0
  prevSeq : Nat := 0
  epochHost : Bool := false
  offTicks : Nat := 0
  offFrac : Nat := 0
  /-- Moment of the last applied epoch reset, ns (R135, R710). -/
  lastEpoch : Option Nat := none
  pendingEpoch : Option PendingEpoch := none
  /-- The 64-bit datum count latched by TIM_DATUM_LO (R138). -/
  datumLatch : Nat := 0
  /-- TRIM at the start of its last ramp, 0.001 ppb, and the ramp's start, ns (R117). -/
  trimFrom : Int := 0
  trimAt : Nat := 0
  deriving DecidableEq, Repr

/-- Timing-input states (R388). -/
inductive TinState where
  | down | hunt | locked
  deriving DecidableEq, Repr

/-- A timing input, and since when it has been LOCKED, ns. -/
structure Tin where
  state : TinState := .down
  since : Nat := 0
  deriving DecidableEq, Repr

/-- One crossing edge: its number since the first one, instant, filtered period, BCN and orbit, whether it carried the
orbit mark, whether it was virtual or slewing, and whether the time base was in HOLDOVER or RELOCK at it (R362). -/
structure Edge where
  no : Nat
  at_ : Nat
  period : Nat
  bcn : Nat
  orbit : Nat
  mark : Bool
  virt : Bool
  hold : Bool
  deriving DecidableEq, Repr

/-- The timing lanes (R377 to R400). Crossing edges are kept newest first, as far back as a look-back reaches. -/
structure TimingLink where
  tin0 : Tin := {}
  tin1 : Tin := {}
  active : Nat := 0
  edges : List Edge := []
  /-- The newest edge lies on the grid of ML_M ticks (R118); the error of the crossing phase at the newest edge, 1/1024 tick, none since
  a virtual edge (R129). -/
  grid : Bool := false
  slewErr : Option Int := none
  bcn : Nat := 0
  orbit : Nat := 0
  orbitWraps : Nat := 0
  latchBcn : Nat := 0
  latchOrbit : Nat := 0
  /-- Reference of the accept sequence; none while the next ACCEPT sets it unchecked (R387). -/
  ref : Option Nat := none
  lastSeq : Nat := 0
  accepts : Nat := 0
  /-- Consecutive frames with valid symbols that failed their CRC, and BCN_SUSPECT (R393). -/
  badRun : Nat := 0
  suspect : Bool := false
  /-- WARN reasons pending, earliest first (R394). -/
  warns : List Nat := []
  /-- WARN reasons found in the present crossing, pending from the next edge on (R394). -/
  warnsNew : List Nat := []
  /-- Echo of the last frame judged and of the one before it (R392). -/
  echo : Nat := 0
  echoPrev : Nat := 0
  /-- Reasons logged, with the moment, ns (R395). -/
  logged : List (Nat × Nat) := []
  skew : Int := 0
  skewAt : Option Nat := none
  /-- How far the active input's edges lie after the crossing edges, ticks: the skew that failovers and reverts applied (R390). -/
  offset : Int := 0
  retState : Nat := 0
  retReason : Nat := 0
  deriving DecidableEq, Repr

/-- A fast command on the fixed lane (R29): code, data, orbit mark, edge and BCN of its crossing. -/
structure LaneCmd where
  code : Nat
  data : Nat
  mark : Bool
  edge : Nat
  bcn : Nat
  orbit : Nat
  no : Nat
  deriving DecidableEq, Repr

/-- The accept field of a fixed-lane entry (R29). -/
structure LaneAccept where
  /-- Place among the module's ACCEPTs since reset, lost ones included. -/
  ser : Nat
  event : Nat
  epoch : Nat
  lost : Nat
  deriving DecidableEq, Repr

/-- A hub-to-region entry (R29): full datum-fabric stamp, contents, the two counts, and once it has
arrived its arrival cycle and whether its CRC checked. -/
structure InEntry where
  stamp : Nat
  cmd : Option LaneCmd := none
  accept : Option LaneAccept := none
  boundary : Bool := false
  /-- XTRIG edges: input and instant. -/
  xtrig : List (Nat × Nat) := []
  modPat : Option Nat := none
  cmdCount : Nat := 0
  bndCount : Nat := 0
  arrived : Option Nat := none
  crcOk : Bool := true
  deriving DecidableEq, Repr

/-- A region-to-hub entry (R29). -/
structure OutEntry where
  stamp : Nat
  pattern : Bool := false
  fire : Option Nat := none
  /-- Feature words: crossing number, channel and word. -/
  feats : List (Nat × Nat × Nat) := []
  depart : Bool := false
  departs : Nat := 0
  arrived : Option Nat := none
  crcOk : Bool := true
  /-- Sent by a region that was restarting: the hub discards it (R36). -/
  old : Bool := false
  deriving DecidableEq, Repr

/-- A region's fixed-lane link (R27 to R36, R756, R757). -/
structure Lane where
  inQ : List InEntry := []
  outQ : List OutEntry := []
  minIn : Nat := 24
  minOut : Nat := 24
  skewIn : Bool := false
  skewOut : Bool := false
  /-- Counts written towards the region (R757) and last seen good by it. -/
  cmdCount : Nat := 0
  bndCount : Nat := 0
  seenCmd : Nat := 0
  seenBnd : Nat := 0
  /-- Stamps of boundaries written and not yet read by the region (R757). -/
  unread : List Nat := []
  /-- Cycle at which the region latches for a boundary that a failed run carried, where it lies before F_b. -/
  earlyAt : Option Nat := none
  /-- Stamp of the first entry of a run of entries that failed their CRC; and of the entry whose counts showed a restarting region
  that such a run had carried a command. -/
  badFrom : Option Nat := none
  lostBefore : Option Nat := none
  badOut : Nat := 0
  /-- Departures reported by the region and taken by the hub, modulo 64 (R756). -/
  departs : Nat := 0
  departing : Bool := false
  hubDeparts : Nat := 0
  /-- Feature words to go out with the next entry. -/
  feats : List (Nat × Nat × Nat) := []
  /-- Moment of the last arrival with a slack below 4, ns (R35). -/
  lowAt : Nat := 0
  fire : Option Nat := none
  deriving DecidableEq, Repr

/-- What the hub has waiting for the next hub-to-region entries. -/
structure HubOut where
  /-- Fast commands decoded and not yet written, oldest first. -/
  cmds : List (LaneCmd × Option LaneAccept) := []
  boundary : Bool := false
  xtrig : List (Nat × Nat) := []
  modPat : Option Nat := none
  deriving DecidableEq, Repr

/-- The hub: event numbering (R257), module pattern (R200) and the fixed lane's senders. -/
structure Hub where
  out : HubOut := {}
  eventNext : Nat := 0
  /-- The next event number of the epoch before the current one, for an ACCEPT whose edge lies before the origin (R134, R257). -/
  eventPrev : Nat := 0
  eventEpoch : Nat := 0
  eventWraps : Nat := 0
  /-- ACCEPTs numbered since module reset, lost ones included. -/
  serial : Nat := 0
  /-- Each region's pattern term last released: its cycle of release, the term, and the instant of its last firing. -/
  regionTerm : Sparse (Nat × Bool × Nat) := []
  modState : Bool := false
  /-- MOD_PATTERN before the last write, with the fabric cycle of that write (R229). -/
  modOld : Option (Nat × Nat) := none
  /-- Last XTRIG edge of each input, 1/1024 tick (R428), and the stamps given in this fabric cycle. -/
  xtrigLast0 : Option Nat := none
  xtrigLast1 : Option Nat := none
  /-- Last fabric cycle in which entries were written. -/
  lastSend : Option Nat := none
  /-- Region whose record the hub's sinks serve next (R314). -/
  foldTurn : Nat := 0
  deriving DecidableEq, Repr

end Sys2Proof.Machine
end

