-- ==== Sys2Proof/Machine/UnitState.lean ====
section
/-! DEFINITION. State of the feature engines (R326 to R358), histograms and maps (R309 to R325), the
trigger-primitive lanes (R359 to R376), the time-interval unit (R428 to R454), the sensor channels (R455 to R486),
the housekeeping converters (R487 to R517), ageing and the ledger (R654 to R673), the raster port (R674 to R700)
and channel restarts (R626). -/
namespace Sys2Proof.Machine

/-- A channel restart requested or in progress (R626, R627). -/
structure ChanRestart where
  /-- Cause of a restart not yet at its boundary: 1 host, 2 retirement, 3 vote, 4 coefficients. -/
  due : Option Nat := none
  /-- Cause of the restart in progress, and its boundary, internal ticks and ns. -/
  active : Option Nat := none
  start : Nat := 0
  startNs : Nat := 0
  deriving DecidableEq, Repr

/-- Engine states (R352). -/
inductive EngState where
  | empty | loading | ready | running | fault
  deriving DecidableEq, Repr

/-- A loaded engine image (R347), with its worst case (R349). -/
structure EngImage where
  initOnRun : Bool := false
  winLen : Nat := 0
  claimed : Nat := 0
  prog : List Nat := []
  data : List Byte := []
  lut : List Nat := []
  wcet : Nat := 0
  digest : BitVec 512 := 0
  deriving DecidableEq, Repr

/-- A bank of an engine's window buffer (R326, R330): the crossing whose window it holds and the samples copied, by window
position. -/
structure WinBank where
  crossing : Nat := 0
  samples : Sparse Int := []
  deriving DecidableEq, Repr

/-- An engine activation in progress (R329 to R346). -/
structure Activation where
  /-- Crossing number and BCN; index and instant of its mark M_n; the window's samples, which the bank holds throughout. -/
  crossing : Nat
  bcn : Nat
  idx : Nat
  mark : Nat
  window : List Int
  /-- Fabric cycle of its start, next bundle, fabric cycles run. -/
  start : Nat
  pc : Nat
  used : Nat
  /-- Loops entered: first bundle, last bundle, runs left; innermost first. -/
  loops : List (Nat × Nat × Nat)
  feature : Nat
  raised : Bool
  deriving DecidableEq, Repr

/-- A channel's feature engine (R326). Data memory is held in `Kz.mem` at its register-window address. -/
structure Engine where
  state : EngState := .empty
  /-- Vector registers, lane values by register × 16 + lane; scalars; accumulators. -/
  v : Sparse Int := []
  s : Sparse Nat := []
  a : Sparse Int := []
  image : Option EngImage := none
  /-- Image accepted and not yet written (LOADING). -/
  loading : Option EngImage := none
  act : Option Activation := none
  /-- The window buffer: the bank of crossing n is n mod 3. -/
  banks : Sparse WinBank := []
  /-- Feature words that wait for their hand-off cycle: crossing, cycle, word. -/
  handoffs : List (Nat × Nat × Nat) := []
  /-- Annotation words with the instant of their mark, oldest first (R342). -/
  annots : List (Nat × Nat) := []
  /-- User code words waiting for the next activation start: word at 0x7FFE, word at 0x7FFC (R384). -/
  user : Option (Nat × Nat) := none
  loads : Nat := 0
  maxUsed : Nat := 0
  rejectCode : Nat := 0
  rejectAddr : Nat := 0
  handoffMax : Nat := 0xFFFF
  /-- Least latency in crossings that the hand-off needs, computed at RUN entry (R370). -/
  need : Nat := 0
  deriving DecidableEq, Repr

/-- Whether a region has logged an engine overrun in this statistics period (R346); its loads in progress, oldest first, each with
its number, channel mask and image, and the number of the next (R350). -/
structure RgnEngine where
  overrunLogged : Bool := false
  loads : List (Nat × Nat × EngImage) := []
  nextLoad : Nat := 0
  deriving DecidableEq, Repr

/-- A region's accumulation (R299 to R322). -/
structure RgnAccum where
  /-- Boundaries whose period number is still to be latched, oldest first: edge instant and period number (R316). -/
  cuts : List (Nat × Nat) := []
  period : Nat := 0
  /-- Records handed to the sinks, which gives their order of release (R314). -/
  handed : Nat := 0
  /-- Channels outside the mask share (R279). -/
  shareOut : Nat := 0
  deriving DecidableEq, Repr

/-- A channel's amplitude histogram in the hub (R309, R310). -/
structure Hist where
  bins : Sparse Nat := []
  sat : Bool := false
  count : Nat := 0
  /-- Edge instant of the first boundary since the last clear (R316). -/
  cut : Option Nat := none
  deriving DecidableEq, Repr

/-- A persistence map in the hub (R311 to R313): cells by row × 1,024 + column; the moment, ns, from which the next halving is
counted. -/
structure PMap where
  cells : Sparse Nat := []
  clearing : Bool := false
  halvedAt : Nat := 0
  deriving DecidableEq, Repr

/-- A primitive lane (R359 to R375). -/
structure Prim where
  minLat : Nat := 0
  framing : Bool := false
  /-- Crossing number of the frame sent last. -/
  sent : Option Nat := none
  /-- Feature words released to the hub and not yet sent: crossing number, channel, word,
  release cycle. -/
  words : List (Nat × Nat × Nat × Nat) := []
  /-- The 32-bit boundary at which the frame sent last ends, in HEARTH mode (R367). -/
  endsAt : Option Nat := none
  deriving DecidableEq, Repr

/-- State of a measurement context (R435). -/
inductive TiuState where
  | idle | armed | open_
  deriving DecidableEq, Repr

/-- A measurement context (R435 to R448). -/
structure TiuCtx where
  state : TiuState := .idle
  start : Nat := 0
  outcome : Nat := 0
  lost : Nat := 0
  /-- Last result and the latched TICKS (R439). -/
  ticks : Nat := 0
  frac : Nat := 0
  latched : Nat := 0
  deriving DecidableEq, Repr

/-- An event that waits for judgement: source code, argument, instant (R433). -/
structure TiuEvent where
  src : Nat
  arg : Nat
  inst : Nat
  deriving DecidableEq, Repr

/-- The time-interval unit and the frequency counter (R428 to R453). -/
structure Tiu where
  ctx : Sparse TiuCtx := []
  /-- Events waiting, in order of their instants. -/
  queue : List TiuEvent := []
  /-- Frequency gate: whether one runs, and the moment, ns, of START or of the previous gate's end. -/
  gating : Bool := false
  gateNs : Nat := 0
  freqSeq : Nat := 0
  freqSrc : Nat := 0
  noSignal : Bool := false
  gap : Bool := false
  warm : Bool := false
  /-- Last result, in 2^-32 Hz, and the latched one. -/
  freq : Nat := 0
  freqLatch : Nat := 0
  deriving DecidableEq, Repr

/-- An output of a sensor channel: its flags and what it holds (R461, R463, R481). -/
structure SnsOut where
  open_ : Bool := false
  short : Bool := false
  settling : Bool := false
  range : Bool := false
  value : Nat := 0
  re : Int := 0
  im : Int := 0
  deriving DecidableEq, Repr

/-- An output whose boundary has passed and that is not yet published (R460, R464). -/
structure SnsForming where
  due : Nat
  open_ : Bool
  settling : Bool
  deriving DecidableEq, Repr

/-- A sensor channel (R454 to R486). -/
structure Sns where
  /-- SNS_CFG as in force since the last boundary (R462); its reset column holds EN 0, RATE 3, AMPL 10. -/
  cfg : BitVec 32 := 0x0300000A
  /-- Moment of the last output-period boundary, ns. -/
  last : Nat := 0
  forming : Option SnsForming := none
  /-- OPEN was set in the output period in progress with no earlier output waiting: its output is invalid (R464). -/
  spoiled : Bool := false
  /-- Outputs still to carry SETTLING. -/
  settle : Nat := 0
  open_ : Bool := false
  short : Bool := false
  valid : Bool := false
  seq : Nat := 0
  out : SnsOut := {}
  /-- VALUE, Z_RE and Z_IM latched by a read of SNS_STAT. -/
  latch : SnsOut := {}
  /-- Demodulated impedances of the last output periods, µΩ, in phase and in quadrature, newest first (R460). -/
  sums : List (Int × Int) := []
  /-- Impedance check: moment from which CHK_INT counts, whether one is due, end of the 64 periods of the one in progress, ns. -/
  chkBase : Nat := 0
  chkDue : Bool := false
  checking : Option Nat := none
  chkSeq : Nat := 0
  contact : Int := 0
  leadX : Int := 0
  contactWarn : Bool := false
  deriving DecidableEq, Repr


/-- A result of a traverse entry (R498, R508), with the entry word it was made under. -/
structure HkRes where
  tseq : Nat := 0
  valid : Bool := false
  unsettled : Bool := false
  ovr : Bool := false
  outside : Bool := false
  code : Nat := 0
  ent : BitVec 32 := 0
  /-- Moment, ns; nominal reference, µV; reference selected. -/
  at_ : Nat := 0
  nominal : Nat := 0
  ref : Nat := 0
  deriving DecidableEq, Repr

/-- An urgent conversion in progress (R504): its request, whether sampling began unsettled, its start, ns. -/
structure HkUrgent where
  req : BitVec 32
  unsettled : Bool
  start : Nat
  deriving DecidableEq, Repr

/-- A housekeeping converter (R486 to R504). -/
structure HkConv where
  running : Bool := false
  /-- Entry converting: 0 to 15, 16 the cross-check slot; its sampling start, ns, and whether that was unsettled. -/
  entry : Nat := 0
  start : Nat := 0
  unsettled : Bool := false
  stopDue : Bool := false
  restartDue : Bool := false
  /-- What the traverse latched (R495): LEN, entries, windows, HK_XCHK_CFG, REF_EXT_MV. -/
  len : Nat := 15
  ents : List (BitVec 32) := []
  wins : List (BitVec 32) := []
  xchk : BitVec 32 := 0
  refMv : Nat := 0
  /-- Traverses started since module reset, modulo 256. -/
  tseq : Nat := 0
  res : Sparse HkRes := []
  /-- Entries whose next result is the first one after a start by RUN or RESTART. -/
  fresh : Nat := 0
  /-- Reference in use, whether it has settled, and the moment, ns, from which it settles. -/
  ref : Nat := 0
  settled : Bool := false
  refFrom : Nat := 0
  urgent : Option HkUrgent := none
  /-- Latest settled slot result, µV × 16,384, and whether it came since the last comparison. -/
  slot : Nat := 0
  slotNew : Bool := false
  deriving DecidableEq, Repr

/-- The housekeeping converters (R486 to R517). -/
structure Housekeeping where
  a : HkConv := {}
  b : HkConv := {}
  plaus : Bool := false
  diff : Int := 0
  cmpSeq : Nat := 0
  run : Nat := 0
  useq : Nat := 0
  /-- Last urgent result: converter, UNSETTLED, OVR, code. -/
  uconv : Nat := 0
  uunset : Bool := false
  uovr : Bool := false
  ucode : Nat := 0
  deriving DecidableEq, Repr


/-- A region's ageing monitors (R654 to R659, R672, R673), with the trends of the ledger period (R667). -/
structure RgnAge where
  vmin : Nat := 0
  vminMin : Nat := 0
  vminMax : Nat := 0
  noVmin : Bool := false
  railLimited : Bool := false
  marginLow : Bool := false
  benchDrift : Bool := false
  pllMargin : Bool := false
  /-- Degradation of pairs 0 to 3, ppm. -/
  deg : List Int := [0, 0, 0, 0]
  pllMin : Nat := 0
  pllMax : Nat := 0
  /-- Benchmark mean of the last hour, µV, and the readings of the present hour: sum, in eighths of a code of the
  2.500 V reference at gain 1, and count. -/
  bench : Nat := 0
  benchSum : Nat := 0
  benchCount : Nat := 0
  eccSum : Nat := 0
  restarts : Nat := 0
  deriving DecidableEq, Repr

/-- A record of the ledger (R667): number, kind, bytes. -/
structure LedgerRec where
  num : Nat
  kind : Nat
  bytes : List (BitVec 8)
  deriving DecidableEq, Repr

/-- Ageing of the module and the ledger (R654 to R671). -/
structure Ageing where
  /-- Powered hours restored at boot, and the moment, ns, from which hours count. -/
  hours : Nat := 0
  poweredFrom : Option Nat := none
  /-- SRC and Gy of each die, and the dose of each sensor (die × 2 + sensor). -/
  dose : List (Nat × Nat) := [(2, 0), (2, 0), (2, 0), (2, 0), (2, 0)]
  doseBy : Sparse Nat := []
  ovenProp : Nat := 0
  wear : Sparse Nat := []
  /-- Offset and gain drift of each channel's slices per 720 h (R667). -/
  drift : Sparse (List Int) := []
  heatMean : Nat := 0
  heatMin : Nat := 0
  heatMax : Nat := 0
  unreg : Nat := 0
  /-- Moments of the oven's UNREG episodes, ns, newest first. -/
  unregAt : List Nat := []
  hearthDev : Int := 0
  /-- The deviation was measured and has not yet been evaluated by the trim action. -/
  devNew : Bool := false
  synMin : Nat := 0
  synMax : Nat := 0
  /-- The two rings of the ledger by slot, and the next slot of each. -/
  ckpt : Sparse LedgerRec := []
  recs : Sparse LedgerRec := []
  ckptAt : Nat := 0
  recAt : Nat := 0
  /-- Changes whose action record is still to be written: code, subject kind, index (R664). -/
  actions : List (Nat × Nat × Nat) := []
  deriving DecidableEq, Repr


/-- State of the DSI port (R678). -/
inductive DsiState where
  | off | starting | running | stopping
  deriving DecidableEq, Repr

/-- A composer pass in progress: the composer registers and colour table latched at its start (R682, R683),
whether it commits a flip, and the moment of its start, ns (R684). -/
structure DsiPass where
  comp0 : BitVec 32
  comp1 : BitVec 32
  comp2 : BitVec 32
  table : List (BitVec 8)
  flip : Bool
  since : Nat
  deriving DecidableEq, Repr

/-- The raster port (R674 to R701). -/
structure Dsi where
  state : DsiState := .off
  front : Nat := 0
  /-- A flip is pending, is late, and has still to let one frame start pass (R687). -/
  pending : Bool := false
  late : Bool := false
  skip : Bool := false
  pass : Option DsiPass := none
  timingPending : Bool := false
  /-- Timing words in force: DSI_CLK, HTIM0, HTIM1, VTIM0, VTIM1, CMDP. -/
  timing : List (BitVec 32) := [0x83E915C3, 0x5000020, 0x500030, 0x3200006, 0xE0003, 0x411B]
  /-- The latch edge of the frame being sent has passed. -/
  edge : Bool := false
  /-- Moment of the last frame start or entry into RUNNING, ns. -/
  started : Nat := 0
  frames : Nat := 0
  flipSeq : Nat := 0
  flipDatum : Nat := 0
  flipLatch : Nat := 0
  deriving DecidableEq, Repr



end Sys2Proof.Machine
end

