-- ==== Sys2Proof/Machine/State.lean ====
section
/-! DEFINITION. The state of the block: every register, memory, queue, counter, mode and pin the spec gives
it (struct Kz), and the queue of commands that wait. Registers whose bits software writes are kept by address
(`Regs`); every other piece of state stands in the structure of its unit, and the registers that report it are
computed from there. -/
namespace Sys2Proof.Machine

/-- A fault stops the block. The spec names no condition that stops the whole block without an effect
(every error it describes ends in a state, R619), so no meaning raises one. -/
inductive Fault where
  /-- Raised by no meaning: the type has a name for it so that a statement can say so. Safe. -/
  | none
  deriving DecidableEq, Repr

/-- A refusal: the model gives the command no meaning. -/
inductive Refusal where
  /-- Raised by an arm of `exec` that has no meaning yet, with the row's mnemonic. Safe. -/
  | notModelled (mnemonic : String)
  deriving DecidableEq, Repr

/-- What the header of a message sent carries that its kind does not fix (R520, R521): where it goes out from, version, session
id. -/
structure Head where
  via : Via
  version : Nat
  session : Nat
  deriving DecidableEq, Repr

/-- What the block sends (R519 to R545, R361, R392, R404): newest first in `Kz.wire`. -/
inductive Emission where
  /-- A response on a port: sequence, tag, command, status, body, RESENT (R531, R539). -/
  | response (port : Nat) (head : Head) (seq tag cmd : Nat) (status : Status) (body : List Byte) (resent : Bool)
  /-- A rejection, with the command code it echoes (R521, R532). -/
  | rejection (port : Nat) (head : Head) (seq tag cmd : Nat) (status : Status)
  /-- A notification: code, body, RESENT (R541, R542). -/
  | notification (port : Nat) (head : Head) (code : Nat) (body : List Byte) (resent : Bool)
  /-- An ARP reply or neighbour advertisement, with the port's MAC address, and an echo reply (R518, R520). -/
  | neighbourReply (port : Nat) (v6 : Bool) (mac : BitVec 48)
  | echoReply (port : Nat) (v6 : Bool)
  /-- The answer to one register access made by a register row (status of that pair, and the word read). -/
  | pairStatus (port addr : Nat) (status : Status) (detail : Detail)
  | readValue (port addr value : Nat)
  /-- A nonce or a status returned on the JTAG port (R581). -/
  | jtagNonce (bytes : List Byte)
  | jtagStatus (status : Status)
  /-- The return frame of a crossing, on both TOUT lanes (R392): its four symbols, the comma first. -/
  | returnFrame (bcnZero : Bool) (status echo crc : Nat)
  /-- A flue frame opened on a lane, or formed and discarded when the lane is none (R404, R410). -/
  | flueFrame (lane : Option Nat) (bytes : List Byte)
  /-- A primitive frame on a lane (R361). -/
  | primFrame (lane : Nat) (bytes : List Byte)
  /-- A raster frame started from a buffer (R675, R688). -/
  | rasterFrame (front : Nat)
  /-- The blank frame of pixel 0x0000 that takes a new timing over (R691). -/
  | blankFrame
  deriving DecidableEq, Repr

/-- Register storage by address: software-written bits, W1C bits, the configuration image (R625), staged
values (R720), and the registers of this group that report on writes (R727 to R730). -/
structure Regs where
  cfg : Sparse Word := []
  seen : Sparse Nat := []
  /-- For a register, the hub cycle in which W1C bits of it were last set, and those bits (R11). -/
  setIn : Sparse (Nat × Nat) := []
  image : Sparse Word := []
  staged : Sparse Word := []
  cfgGen : Nat := 0
  modPend : Bool := false
  commitSeq : Nat := 0
  commitKind : Nat := 0
  commitStatus : Nat := 0
  faultAddr : Nat := 0
  faultWrite : Bool := false
  faultValid : Bool := false
  deriving DecidableEq, Repr

/-- A region: power, errors, fixed-lane link, acquisition, lane group. -/
structure Region where
  pwr : RgnPower := {}
  err : RgnErr := {}
  lane : Lane := {}
  acq : RgnAcq := {}
  lg : LaneGroup := {}
  acc : RgnAccum := {}
  eng : RgnEngine := {}
  age : RgnAge := {}
  deriving DecidableEq, Repr

/-- A channel: front end, converter, chain, trigger unit, memory, accumulation, engine, restart. -/
structure Channel where
  fe : FrontEnd := {}
  conv : Conv := {}
  chain : Chain := {}
  trig : Trig := {}
  mem : Memory := {}
  avg : Averager := {}
  hist : Hist := {}
  eng : Engine := {}
  restart : ChanRestart := {}
  deriving DecidableEq, Repr

/-- The whole block but its command queue. -/
structure Kz where
  now : Stamp := ⟨0, 0⟩
  /-- The model's own counter of free values: no piece of the hardware's state. -/
  fresh : Nat := 0
  regs : Regs := {}
  stats : Stats := {}
  log : EventLog := {}
  errs : Errors := {}
  pwr : Power := {}
  sup : Supervisor := {}
  fw : Firmware := {}
  trust : Trust := {}
  tb : TimeBase := {}
  tl : TimingLink := {}
  hub : Hub := {}
  ports : Sparse PortState := []
  rgns : Sparse Region := []
  chans : Sparse Channel := []
  maps : Sparse PMap := []
  prims : Sparse Prim := []
  tiu : Tiu := {}
  sns : Sparse Sns := []
  hk : Housekeeping := {}
  age : Ageing := {}
  dsi : Dsi := {}
  mem : Mem := []
  spans : List Span := []
  wire : List Emission := []
  deriving DecidableEq, Repr

/-- The block and the commands that wait, first in, first out. -/
structure State where
  kz : Kz := {}
  pending : List Instr := []
  deriving DecidableEq, Repr

/-- The block right after reset: in BOOT (R612) with PG high (R594), every region DOWN, every register at its reset column,
no command waiting. -/
def State.reset : State := {}

end Sys2Proof.Machine
end

