-- ==== Sys2Proof/Machine/Ops.lean ====
section
/-! DEFINITION. Named operations over the block's state that every family uses: units, time and epochs, register
fields, statistics counters, the event log, notifications, intervals, memory cells, free values. -/
namespace Sys2Proof.Machine

namespace Kz

/-! ### Units -/

/-- Region `k`. -/
def rgn (m : Kz) (k : Nat) : Region := Sparse.get {} m.rgns k
/-- Channel `c`. -/
def chan (m : Kz) (c : Nat) : Channel := Sparse.get {} m.chans c
/-- Host port `p`. -/
def port (m : Kz) (p : Nat) : PortState := Sparse.get {} m.ports p
/-- Region `k` passed through `f`. -/
def modRgn (m : Kz) (k : Nat) (f : Region → Region) : Kz := { m with rgns := Sparse.mod {} m.rgns k f }
/-- Channel `c` passed through `f`. -/
def modChan (m : Kz) (c : Nat) (f : Channel → Channel) : Kz := { m with chans := Sparse.mod {} m.chans c f }
/-- Port `p` passed through `f`. -/
def modPort (m : Kz) (p : Nat) (f : PortState → PortState) : Kz := { m with ports := Sparse.mod {} m.ports p f }
/-- The session of port `p` passed through `f`. -/
def modSess (m : Kz) (p : Nat) (f : Session → Session) : Kz :=
  m.modPort p (fun q => { q with session := f q.session })

/-- Parts of a region. -/
def modPwr (m : Kz) (k : Nat) (f : RgnPower → RgnPower) : Kz := m.modRgn k (fun r => { r with pwr := f r.pwr })
def modErr (m : Kz) (k : Nat) (f : RgnErr → RgnErr) : Kz := m.modRgn k (fun r => { r with err := f r.err })
def modLane (m : Kz) (k : Nat) (f : Lane → Lane) : Kz := m.modRgn k (fun r => { r with lane := f r.lane })
def modAcq (m : Kz) (k : Nat) (f : RgnAcq → RgnAcq) : Kz := m.modRgn k (fun r => { r with acq := f r.acq })
def modLg (m : Kz) (k : Nat) (f : LaneGroup → LaneGroup) : Kz := m.modRgn k (fun r => { r with lg := f r.lg })
def modAcc (m : Kz) (k : Nat) (f : RgnAccum → RgnAccum) : Kz := m.modRgn k (fun r => { r with acc := f r.acc })
/-- Parts of a channel. -/
def modFe (m : Kz) (c : Nat) (f : FrontEnd → FrontEnd) : Kz := m.modChan c (fun x => { x with fe := f x.fe })
def modConv (m : Kz) (c : Nat) (f : Conv → Conv) : Kz := m.modChan c (fun x => { x with conv := f x.conv })
def modChain (m : Kz) (c : Nat) (f : Chain → Chain) : Kz := m.modChan c (fun x => { x with chain := f x.chain })
def modTrig (m : Kz) (c : Nat) (f : Trig → Trig) : Kz := m.modChan c (fun x => { x with trig := f x.trig })
def modMem (m : Kz) (c : Nat) (f : Memory → Memory) : Kz := m.modChan c (fun x => { x with mem := f x.mem })
def modEng (m : Kz) (c : Nat) (f : Engine → Engine) : Kz := m.modChan c (fun x => { x with eng := f x.eng })
def modTb (m : Kz) (f : TimeBase → TimeBase) : Kz := { m with tb := f m.tb }
def modTl (m : Kz) (f : TimingLink → TimingLink) : Kz := { m with tl := f m.tl }
def modHub (m : Kz) (f : Hub → Hub) : Kz := { m with hub := f m.hub }
def modPower (m : Kz) (f : Power → Power) : Kz := { m with pwr := f m.pwr }

/-- The state of region `k`. -/
def rstate (m : Kz) (k : Nat) : RgnState := (m.rgn k).pwr.state
/-- Whether region `k` is in RUN. -/
def inRun (m : Kz) (k : Nat) : Bool := m.rstate k = .run
/-- Whether any region is in a state that satisfies `p`. -/
def anyRgn (m : Kz) (p : RgnState → Bool) : Bool := (upTo 12).any (fun k => p (m.rstate k))
/-- Whether a region is in CAL, RUN or HOLD (R115, R121, R396). -/
def regionsBusy (m : Kz) : Bool := m.anyRgn (fun s => s = .cal || s = .run || s = .hold)
/-- Fold over the regions, lowest first. -/
def eachRgn (m : Kz) (f : Kz → Nat → Kz) : Kz := (upTo 12).foldl f m
/-- Fold over the sixteen channels of a region, lowest first. -/
def eachChan (m : Kz) (k : Nat) (f : Kz → Nat → Kz) : Kz := (upTo 16).foldl (fun m i => f m (16 * k + i)) m
/-- Fold over every channel. -/
def allChans (m : Kz) (f : Kz → Nat → Kz) : Kz := m.eachRgn (fun m k => m.eachChan k f)

/-! ### Time, datum count and epochs -/

/-- The moment of a command; time never runs back. -/
def advance (m : Kz) (t : Stamp) : Kz :=
  { m with now := ⟨max m.now.tick t.tick, max m.now.ns t.ns⟩ }
/-- The present instant, internal ticks times 1,024. -/
def inst (m : Kz) : Nat := m.now.tick * 1024
/-- The internal fabric cycle (R25). -/
def fabric (m : Kz) : Nat := m.now.tick / 16
/-- The datum count, ticks (R133). -/
def datum (m : Kz) : Nat := m.now.tick - m.tb.origin
/-- The datum instant and EPOCH_SEQ that an internal instant is stamped with (R134). -/
def stampOf (m : Kz) (i : Nat) : Nat × Nat :=
  if m.tb.origin * 1024 ≤ i then (i - m.tb.origin * 1024, m.tb.epochSeq)
  else (i - m.tb.prevOrigin * 1024, m.tb.prevSeq)

/-- The datum count that an internal tick is stamped with (R134). -/
def datumOf (m : Kz) (tick : Nat) : Nat := (m.stampOf (tick * 1024)).1 / 1024

/-! ### Register fields -/

/-- The bits of a register that are stored as software writes them. -/
def storedMask (k : RegKind) : Nat := k.info.rw ||| k.info.rwl ||| k.info.rws
/-- The reset word of a register's stored bits. -/
def resetWord (k : RegKind) : Word := BitVec.ofNat 32 (k.info.reset &&& storedMask k)
/-- The stored bits of a register. -/
def cfgWord (m : Kz) (k : RegKind) (i : Nat) : Word := Sparse.get (resetWord k) m.regs.cfg (k.addr i)
/-- A stored field. -/
def fld (m : Kz) (f : Field) (i : Nat) : Nat := f.of (m.cfgWord f.kind i)
/-- A one-bit stored field. -/
def on (m : Kz) (f : Field) (i : Nat) : Bool := m.fld f i != 0
/-- The stored bits replaced, and with them the configuration image of a voted register (R625). -/
def setCfg (m : Kz) (k : RegKind) (i : Nat) (w : Word) : Kz :=
  let r := m.regs
  let img := if k.info.voted = 0 then r.image else Sparse.set r.image (k.addr i) w
  { m with regs := { r with cfg := Sparse.set r.cfg (k.addr i) w, image := img } }
/-- One stored field replaced. -/
def setFld (m : Kz) (f : Field) (i v : Nat) : Kz :=
  let w := m.cfgWord f.kind i
  let z := BitVec.ofNat 32 ((w.toNat &&& (0xFFFFFFFF ^^^ f.mask)) ||| f.put v)
  m.setCfg f.kind i z
/-- The W1C bits of a register. -/
def seenWord (m : Kz) (k : RegKind) (i : Nat) : Nat := Sparse.get 0 m.regs.seen (k.addr i)
/-- The W1C bits of a register that were set in the present hub cycle (R11). -/
def setNow (m : Kz) (a : Nat) : Nat :=
  let x := Sparse.get (0, 0) m.regs.setIn a
  if x.1 = m.fabric then x.2 else 0
/-- A W1C bit of a field set by the module (R11). -/
def markBit (m : Kz) (f : Field) (i b : Nat) : Kz :=
  let r := m.regs
  let a := f.kind.addr i
  let w := 1 <<< (f.lo + b)
  { m with regs := { r with seen := Sparse.set r.seen a (Sparse.get 0 r.seen a ||| w),
                            setIn := Sparse.set r.setIn a (m.fabric, m.setNow a ||| w) } }
/-- A one-bit W1C field set by the module. -/
def mark (m : Kz) (f : Field) (i : Nat) : Kz := m.markBit f i 0
/-- A W1C field's value. -/
def seen (m : Kz) (f : Field) (i : Nat) : Nat := f.of (BitVec.ofNat 32 (m.seenWord f.kind i))
/-- W1C bits cleared where `ones` holds a one (R8), but for those that were set in the same hub cycle (R11). -/
def clearSeen (m : Kz) (k : RegKind) (i ones : Nat) : Kz :=
  let r := m.regs
  let a := k.addr i
  let v := Sparse.get 0 r.seen a
  { m with regs := { r with seen := Sparse.set r.seen a (v &&& ((0xFFFFFFFF ^^^ ones) ||| m.setNow a)) } }

/-! ### Statistics counters (R637, R639) -/

/-- A counter advanced by `n`; it holds at 0xFFFF_FFFF and sets SAT on reaching it. -/
def Counter.add (c : Counter) (n : Nat) : Counter :=
  if c.val + n < 0xFFFFFFFF then { c with val := c.val + n }
  else if n = 0 then c else { val := 0xFFFFFFFF, sat := true }
/-- The live value of a statistics counter. -/
def counter (m : Kz) (k : RegKind) (i : Nat) : Nat := (Sparse.get ({} : Counter) m.stats.live (k.addr i)).val
/-- A statistics counter advanced by `n`. -/
def count (m : Kz) (k : RegKind) (i n : Nat) : Kz :=
  { m with stats := { m.stats with live := Sparse.mod {} m.stats.live (k.addr i) (fun c => Counter.add c n) } }

/-! ### Output -/

/-- One message or frame sent. -/
def emit (m : Kz) (e : Emission) : Kz := { m with wire := e :: m.wire }

/-! ### Event log (R643, R644, R647) -/

/-- The archive's capacity: 48 MiB of 32-byte entries less the sector that is being erased (R558, R647). -/
def archiveSize : Nat := 1572864 - 2048
/-- An entry appended to the log archive. -/
def toArchive (m : Kz) (e : LogEntry) : Kz :=
  let l := m.log
  let e' := { e with num := l.archiveNext }
  { m with log := { l with archiveNext := (l.archiveNext + 1) % 2 ^ 32,
                           archive := (e' :: l.archive).take archiveSize } }
/-- An occurrence of a code counted for the next archive summary. -/
def tally (code datum : Nat) : List (Nat × Nat × Nat) → List (Nat × Nat × Nat)
  | [] => [(code, 1, datum)]
  | (c, n, d) :: r => if c = code then (c, n + 1, d) :: r else (c, n, d) :: tally code datum r
/-- An event-log entry for a cause at datum count `d` of an epoch (R644); fatal classes go to the archive at once. -/
def logEntry (m : Kz) (d epoch code cls kind idx second value : Nat) : Kz :=
  let l := m.log
  let e : LogEntry := ⟨l.next, d, epoch, cls, kind, idx, code, second, value⟩
  let m := { m with log := { l with next := (l.next + 1) % 2 ^ 32, entries := (e :: l.entries).take 4096,
                                    since := tally code d l.since } }
  if 3 ≤ cls then m.toArchive e else m
/-- An event-log entry for a cause at datum count `d` of the present epoch. -/
def logAt (m : Kz) (d code cls kind idx second value : Nat) : Kz := m.logEntry d m.tb.epochSeq code cls kind idx second value
/-- An event-log entry for a cause at an instant, in the epoch that it lies in. -/
def logFrom (m : Kz) (i code cls kind idx second value : Nat) : Kz :=
  m.logEntry ((m.stampOf i).1 / 1024) (m.stampOf i).2 code cls kind idx second value
/-- An event-log entry for a cause at the present datum count. -/
def logE (m : Kz) (code cls kind idx second value : Nat) : Kz := m.logAt m.datum code cls kind idx second value

/-! ### Notifications (R541, R542) -/

/-- The body of a notification. -/
def notifBody (num datum : Nat) (lost : Bool) (kind idx : Nat) (data : List Byte) : List Byte :=
  be 4 num ++ be 8 datum ++ be 1 (b2n lost) ++ be 1 kind ++ be 2 idx ++ (data ++ be 16 0).take 16
/-- The notification that follows a number, skipping 0. -/
def nextNum (n : Word) : Word := if n + 1 = 0 then 1 else n + 1
/-- The header of a message that an open session of a port sends of its own accord, from where its OPEN came in (R521; entry 110). -/
def headOf (m : Kz) (p : Nat) : Head :=
  let q := m.port p
  ⟨q.session.via, q.session.version.toNat, q.sessionId.toNat⟩
/-- A notification to one session of a cause at datum count `d`: queued from version 3.0, dropped when 64 wait, sent once before that. -/
def notifyPort (m : Kz) (d p code kind idx : Nat) (data : List Byte) : Kz :=
  let s := (m.port p).session
  let old := s.version.toNat < 0x30
  if s.isOpen && s.mask.toNat.testBit code then
    if !old && 64 ≤ s.notifs.length then
      (m.modSess p (fun s => { s with lost := true })).count .HOST_NOTIF_DROP p 1
    else
      let body := notifBody s.nextNotif.toNat d s.lost kind idx data
      let n : Notif := ⟨s.nextNotif, body, code, m.now.ns⟩
      (m.modSess p (fun s => { s with nextNotif := nextNum s.nextNotif, lost := false,
                                      notifs := if old then s.notifs else s.notifs ++ [n] })).emit
        (.notification p (m.headOf p) code body false)
  else m
/-- A notification to every session that subscribes to its code. -/
def notifyAt (m : Kz) (d code kind idx : Nat) (data : List Byte) : Kz :=
  (upTo 4).foldl (fun m p => m.notifyPort d p code kind idx data) m
/-- The same for a cause at the present datum count. -/
def notify (m : Kz) (code kind idx : Nat) (data : List Byte) : Kz := m.notifyAt m.datum code kind idx data

/-! ### Intervals -/

/-- Whether an interval of a kind is open. -/
def spanOpen (m : Kz) (k : SpanKind) : Bool := m.spans.any (fun s => s.kind = k && s.stop.isNone)
/-- An interval opened at an internal tick, unless one is open. -/
def openSpanAt (m : Kz) (k : SpanKind) (t : Nat) : Kz :=
  if m.spanOpen k then m else { m with spans := ⟨k, t, none⟩ :: m.spans }
def openSpan (m : Kz) (k : SpanKind) : Kz := m.openSpanAt k m.now.tick
/-- The open interval of a kind closed at an internal tick. -/
def closeSpanAt (m : Kz) (k : SpanKind) (t : Nat) : Kz :=
  { m with spans := m.spans.map (fun s => if s.kind = k && s.stop.isNone then { s with stop := some t } else s) }
def closeSpan (m : Kz) (k : SpanKind) : Kz := m.closeSpanAt k m.now.tick
/-- A closed interval recorded. -/
def addSpan (m : Kz) (k : SpanKind) (a b : Nat) : Kz := { m with spans := ⟨k, a, some b⟩ :: m.spans }
/-- Whether a window, in instants, overlaps an interval of a kind. -/
def inSpan (m : Kz) (k : SpanKind) (w : Nat × Nat) : Bool :=
  m.spans.any (fun s => s.kind = k && decide (s.start * 1024 ≤ w.2) &&
    (match s.stop with | none => true | some e => decide (w.1 < e * 1024)))

/-! ### Ledger actions (R664) -/

/-- A persistent change for which an action record is owed. -/
def ledgerAct (m : Kz) (code kind idx : Nat) : Kz :=
  { m with age := { m.age with actions := m.age.actions ++ [(code, kind, idx)] } }

/-! ### Free values -/

/-- A value the spec leaves open, in `w` bits, and the state with the index used up. -/
def free (m : Kz) (w : Nat) : Nat × Kz := (Config.freeValue m.fresh % 2 ^ w, { m with fresh := m.fresh + 1 })

/-- The whole number next to a quotient that the spec leaves unrounded: the quotient itself where it is whole, else one of its two
neighbours. -/
def freeQuot (m : Kz) (n : Int) (d : Nat) : Int × Kz :=
  if n % d = 0 then (n / d, m) else let (u, m) := m.free 1; (n / d + u, m)

end Kz

/-! ### Memory cells -/

/-- A byte of an addressed memory; a cell that is not listed reads 0. -/
def Mem.read (m : Mem) (a : Nat) : Byte := Sparse.get 0 m a
/-- A byte stored; storing 0 lists nothing. -/
def Mem.write (m : Mem) (a : Nat) (b : Byte) : Mem := Sparse.put 0 m a b
/-- Bytes stored from an address on. -/
def Mem.writes (m : Mem) (a : Nat) : List Byte → Mem
  | [] => m
  | b :: r => Mem.writes (m.write a b) (a + 1) r
/-- `n` bytes read from an address on. -/
def Mem.reads (m : Mem) (a n : Nat) : List Byte := (List.range n).map (fun i => m.read (a + i))
/-- A word of `n` bytes, most significant first (R7). -/
def Mem.word (m : Mem) (a n : Nat) : Nat := ofBe (m.reads a n)
/-- The memory without the cells in a range. -/
def Mem.clear (m : Mem) (a n : Nat) : Mem := m.filter (fun p => !(decide (a ≤ p.1) && decide (p.1 < a + n)))
/-- The canonical form: addresses strictly rising, no cell equal to what an unlisted address reads as. -/
def Mem.wf (m : Mem) : Bool := Sparse.sortedFrom 0 m && m.all (fun p => p.2 != 0)

/-- The outcome of a meaning that completes: time moves to the command's moment, then its effect. -/
def State.at_ (s : State) (t : Stamp) (f : Kz → Kz) : Host.Outcome State Fault Refusal :=
  .next { s with kz := f (s.kz.advance t) }

end Sys2Proof.Machine
end

