-- ==== Sys2Proof/Machine/FrontEnd.lean ====
section
/-! DEFINITION. Channel inputs and the calibration injector (R40 to R71). -/
namespace Sys2Proof.Machine

/-- The read-only bits of CH_FE_STAT (R68). -/
def feStatRo (m : Kz) (c : Nat) : Nat :=
  let f := (m.chan c).fe
  F.CH_FE_STAT.INJ_ACTIVE.put (b2n (f.inj.phase != .idle)) ||| F.CH_FE_STAT.SAT_NOW.put (b2n f.satNow)
    ||| F.CH_FE_STAT.CM_HIGH.put (b2n f.cmHigh) ||| F.CH_FE_STAT.CM_LOW.put (b2n f.cmLow)

/-- CH_FE_STAT as a read returns it. -/
def feStat (m : Kz) (c : Nat) : Nat := m.seenWord .CH_FE_STAT c ||| feStatRo m c

/-- R42: the common mode, µV, lies below 0.65 V or above 1.35 V: the live bit is set, and with it CM_SEEN and an event-log
entry where it was not live yet. -/
def cmAlarm (m : Kz) (c uv : Nat) : Kz :=
  let f := (m.chan c).fe
  let low := decide (uv < 650000)
  let high := decide (1350000 < uv)
  if (low && !f.cmLow) || (high && !f.cmHigh) then
    let m := m.modFe c (fun f => { f with cmLow := f.cmLow || low, cmHigh := f.cmHigh || high })
    let m := m.mark F.CH_FE_STAT.CM_SEEN c
    m.logE 0x0101 0 1 c 0 (feStat m c)
  else m

/-- R42: the common mode, µV, is back 20 mV inside a threshold; each live bit clears on its own. -/
def cmAlarmClear (m : Kz) (c uv : Nat) : Kz :=
  m.modFe c (fun f => { f with cmLow := f.cmLow && decide (uv < 670000), cmHigh := f.cmHigh && decide (1330000 < uv) })

/-- R48: a write changed GAIN or OFFSET, and the front end settles for 2 µs. -/
def feSettleStart (m : Kz) (c : Nat) : Kz :=
  m.modFe c (fun f => { f with settling := true, settleAt := m.now.ns + 2000 })

/-- R48: the front end has settled. The chain has fixed at its start the tick from which samples are written. -/
def feSettleDone (m : Kz) (c : Nat) : Kz :=
  let f := (m.chan c).fe
  if f.settling && f.settleAt ≤ m.now.ns then m.modFe c (fun f => { f with settling := false }) else m

/-- R66: a scheduled or active step is cancelled and the step returns to zero. -/
def injCancel (m : Kz) (c : Nat) : Kz := m.modFe c (fun f => { f with inj := {} })

/-- R65, R66: a CAL_INJECT is missed. -/
def injMissed (m : Kz) (c pat : Nat) : Kz :=
  (m.mark F.CH_FE_STAT.INJ_MISSED c).logE 0x0102 0 1 c 0 pat

/-- R60 to R66: a CAL_INJECT with pattern `pat`, carried by a crossing whose edge lies at internal tick `e`. -/
def calInject (m : Kz) (c pat e : Nat) : Kz :=
  let st := m.rstate (c / 16)
  let hit := m.on F.CH_INJ_CTRL.EN c && (m.on F.CH_INJ_CTRL.MATCH_ALL c || m.fld F.CH_INJ_CTRL.PATTERN c == pat)
  if !hit then m
  else if st = .cal then injMissed m c pat
  else if st = .run || st = .idle then
    if (m.chan c).fe.inj.phase != .idle then injMissed m c pat
    else
      let d := m.fld F.CH_INJ_TIME.DELAY c
      let m := if d < 2048 then m.mark F.CH_FE_STAT.INJ_CLAMPED c else m
      m.modFe c (fun f => { f with inj := {
        phase := .scheduled, edge := e + max d 2048, ampl := m.fld F.CH_INJ_CTRL.AMPL c,
        pol := m.on F.CH_INJ_CTRL.POL c, width := m.fld F.CH_INJ_TIME.WIDTH c } })
  else m

/-- R62: the scheduled step edge. -/
def injectEdge (m : Kz) (c : Nat) : Kz :=
  let i := (m.chan c).fe.inj
  if i.phase = .scheduled && i.edge ≤ m.now.tick then
    m.modFe c (fun f => { f with inj := { i with phase := .active } })
  else m

/-- R63: a write clears EN: a step with WIDTH 0 is held no longer. One that is still only scheduled returns once its edge
has come (DESIGN CHOICE, entry 95). -/
def injEnWritten (m : Kz) (c : Nat) (o w : Word) : Kz :=
  if F.CH_INJ_CTRL.EN.of o = 1 && F.CH_INJ_CTRL.EN.of w = 0 then
    m.modFe c (fun f => { f with inj := { f.inj with released := f.inj.phase != .idle && f.inj.width = 0 } })
  else m

/-- R62, R63: the step returns to zero; with WIDTH 0 it is held until EN is cleared. -/
def injectReturn (m : Kz) (c : Nat) : Kz :=
  let i := (m.chan c).fe.inj
  let due := if i.width = 0 then i.released else decide (i.edge + 16 * i.width ≤ m.now.tick)
  if i.phase = .active && due then injCancel m c else m

/-- A raw code at an end of the converter's range marks its sample (R50). -/
def rawMarked (code : Int) : Bool := decide (code = -2048) || decide (code = 2047)

/-- CM_ALARM (R42). -/
def execCmAlarm (t : Stamp) (c : Chan) (uv : Nat) (s : State) : Host.Outcome State Fault Refusal :=
  s.at_ t (fun m => cmAlarm m c uv)
/-- CM_ALARM_CLEAR (R42). -/
def execCmAlarmClear (t : Stamp) (c : Chan) (uv : Nat) (s : State) : Host.Outcome State Fault Refusal :=
  s.at_ t (fun m => cmAlarmClear m c uv)
/-- FE_SETTLE_DONE (R48). -/
def execFeSettleDone (t : Stamp) (c : Chan) (s : State) : Host.Outcome State Fault Refusal :=
  s.at_ t (fun m => feSettleDone m c)
/-- INJECT_EDGE (R62). -/
def execInjectEdge (t : Stamp) (c : Chan) (s : State) : Host.Outcome State Fault Refusal :=
  s.at_ t (fun m => injectEdge m c)
/-- INJECT_RETURN (R62, R63). -/
def execInjectReturn (t : Stamp) (c : Chan) (s : State) : Host.Outcome State Fault Refusal :=
  s.at_ t (fun m => injectReturn m c)

end Sys2Proof.Machine
end

