-- ==== Sys2Proof/Machine/Rotation.lean ====
section
/-! DEFINITION. The interleaved converter and slice rotation (R72 to R111). -/
namespace Sys2Proof.Machine

/-- Active slices of a slice mode (R72). -/
def slicesOf (mode : Nat) : Nat := 8 >>> mode
/-- Ticks per converter sample (R5). -/
def ticksOf (mode : Nat) : Nat := 1 <<< mode
/-- Whether slice `s` is retired. -/
def retired (m : Kz) (c s : Nat) : Bool := (m.fld F.CH_SLICE_HEALTH.RETIRED c).testBit s
/-- The healthy slices, lowest first. -/
def healthy (m : Kz) (c : Nat) : List Nat := (upTo 9).filter (fun s => !retired m c s)
/-- R98: the largest mode, from the requested one down, that `n` healthy slices can fill; one slice at least. -/
def planMode (req n : Nat) : Nat :=
  if slicesOf req ≤ n then req
  else if req < 1 ∧ 4 ≤ n then 1
  else if req < 2 ∧ 2 ≤ n then 2
  else 3
/-- The effective slice mode the plan gives (R98). -/
def plannedMode (m : Kz) (c : Nat) : Nat := planMode (m.fld F.CH_CONV_CTRL.MODE c) (healthy m c).length
/-- Whether the channel has no healthy slice (R98, R100). -/
def chanFailed (m : Kz) (c : Nat) : Bool := (healthy m c).isEmpty
/-- Whether the effective mode is below the requested one (R96, R105). -/
def degraded (m : Kz) (c : Nat) : Bool :=
  decide (m.fld F.CH_CONV_CTRL.MODE c < (m.chan c).conv.effMode) || chanFailed m c

/-- One rotation fault counted (R97). -/
def rotFault (m : Kz) (c : Nat) : Kz := m.count .RGN_ROT_FAULTS (c / 16) 1
/-- The event-log entry of a rotation fault (R645): kind, slice, position, first affected sample. -/
def rotLog (m : Kz) (c kind slice pos first : Nat) : Kz :=
  m.logE 0x0110 2 1 c first (kind <<< 24 ||| (slice % 16) <<< 20 ||| (pos % 16) <<< 16)

/-- The position a slice holds; 15 for none. -/
def posOf (v : Conv) (s : Nat) : Nat := (v.pos.idxOf? s).getD 15
/-- The first healthy slice that is neither in a position nor already excluded: the next spare (R73, R88). -/
def nextSpare (m : Kz) (c : Nat) : Nat :=
  ((healthy m c).find? (fun s => !(m.chan c).conv.pos.contains s)).getD 15
/-- The suspect interval ends when no suspect slice holds a position any more (R96). -/
def suspectEnds (m : Kz) (c : Nat) : Kz :=
  let v := (m.chan c).conv
  if v.pos.any (fun s => v.suspect.testBit s) then m else m.closeSpan (.suspect c)
/-- R79: positions take the lowest healthy slices; the next healthy slice is the spare. The standby coefficients of the slices
that take a position become active (R82), and a retired slice, out of service now, is SUSPECT no longer (DESIGN CHOICE, entry 96). -/
def assignSlices (m : Kz) (c : Nat) : Kz :=
  let h := healthy m c
  let e := plannedMode m c
  let n := slicesOf e
  let pos := (upTo 8).map (fun p => if p < n then h.getD p 15 else 15)
  let m := m.modConv c (fun v => { v with
    effMode := e, pos := pos, spare := h.getD n 15, target := 0,
    suspect := (upTo 9).foldl (fun a s => if h.contains s then a else withBit a s false) v.suspect,
    coef := v.standby.foldl (fun t x => if pos.contains x.1 then Sparse.set t x.1 x.2 else t) v.coef,
    standby := v.standby.filter (fun x => !pos.contains x.1) })
  suspectEnds m c
/-- Whether the slices must be assigned again: the plan gives another mode, or a position holds a retired slice (R98, R99). -/
def assignDue (m : Kz) (c : Nat) : Bool :=
  plannedMode m c != (m.chan c).conv.effMode || (m.chan c).conv.pos.any (fun s => s != 15 && retired m c s)

/-- SUSPECT set or cleared, and the suspect interval with it (R96). -/
def setSuspect (m : Kz) (c s : Nat) (on : Bool) : Kz :=
  if 9 ≤ s then m else
  let m := m.modConv c (fun v => { v with suspect := withBit v.suspect s on })
  if on then m.openSpan (.suspect c) else suspectEnds m c

/-- The first 16-sample boundary at least 4 fabric cycles after a tick (R75, R88). -/
def boundaryFrom (m : Kz) (c t : Nat) : Nat :=
  let b := 16 * ticksOf (m.chan c).conv.effMode
  (t + 64 + b - 1) / b * b
/-- That boundary from now. -/
def boundaryAfter (m : Kz) (c : Nat) : Nat := boundaryFrom m c m.now.tick
/-- The next 16-sample boundary (R93). -/
def nextBoundary (m : Kz) (c : Nat) : Nat :=
  let b := 16 * ticksOf (m.chan c).conv.effMode
  (m.now.tick / b + 1) * b

/-- An attempt of a slice's benchmark calibration begins (R80), the first of a calibration with no failures yet. -/
def calBegin (m : Kz) (c s : Nat) (first : Bool) : Kz :=
  m.modConv c (fun v => { v with calFrom := Sparse.set v.calFrom s m.now.ns,
                                 attempts := if first then v.attempts.set s 0 else v.attempts })

/-- The benchmark calibration of the spare begins, and with it a step on position `p` (R87, R88); with ROT_EN 0 the
step has no timer. -/
def startStep (m : Kz) (c p : Nat) (fresh : Bool) : Kz :=
  let m := calBegin m c (m.chan c).conv.spare true
  m.modConv c (fun v => { v with
    rot := .calSpare, target := p, phase := p, expired := if fresh then false else v.expired,
    timerFrom := if fresh then (if m.on F.CH_CONV_CTRL.ROT_EN c then some m.now.ns else none) else v.timerFrom,
    passed := false, recal := if fresh then false else v.recal, relieved := 15 })

/-- R88: a window opens: on the target, or in CHECK_SHADOW on the position after it. -/
def openWindow (m : Kz) (c : Nat) (st : RotState) : Kz :=
  m.modConv c (fun v => { v with
    rot := st, windowFrom := m.now.ns, windowAt := m.now.tick, passed := false, pairs := {},
    phase := if st = .checkShadow then (v.target + 1) % slicesOf v.effMode else v.target })

/-- The handover of the spare into its target is scheduled (R88). -/
def armHandover (m : Kz) (c : Nat) : Kz :=
  let b := boundaryAfter m c
  m.modConv c (fun v => { v with rot := .armed, phase := v.target, boundary := b })

/-- An automatic or requested channel restart is due at the next 16-sample boundary (R99, R626). -/
def askRestart (m : Kz) (c cause : Nat) : Kz :=
  if (m.rgn (c / 16)).err.restarting then m
  else m.modChan c (fun x => { x with restart := { x.restart with due := some (x.restart.due.getD cause) } })

/-- A slice is retired for a reason (R95, R98, R102): recorded, entered in the image first (R625). Outside RUN the slices are
assigned again at once; in RUN a channel restart does it where the effective mode falls (R99). A slice that holds a
position stays SUSPECT, if it is, until it leaves service (R96). -/
def retire (m : Kz) (c s reason : Nat) : Kz :=
  let was := (m.chan c).conv.effMode
  let m := m.setFld F.CH_SLICE_HEALTH.RETIRED c (withBit (m.fld F.CH_SLICE_HEALTH.RETIRED c) s true)
  let m := rotLog m c 6 s (posOf (m.chan c).conv s) 0
  let m := rotFault (m.mark F.CH_CONV_STAT.RETIRE_SEEN c) c
  let m := if (m.chan c).conv.pos.contains s then m else setSuspect m c s false
  let m := (m.modConv c (fun v => { v with lastSlice := s, lastReason := reason })).ledgerAct 1 1 c
  if !m.inRun (c / 16) then assignSlices m c
  else if plannedMode m c = was && !chanFailed m c then m
  else askRestart m c 2

/-- The spare is retired; the next powered-down healthy slice becomes spare if one exists (R88). -/
def retireSpare (m : Kz) (c reason : Nat) : Kz :=
  let m := retire m c (m.chan c).conv.spare reason
  let n := nextSpare m c
  let m := m.modConv c (fun v => { v with spare := n })
  if n = 15 then m.modConv c (fun v => { v with rot := .noSpare })
  else startStep m c (m.chan c).conv.target true

/-- A strike (R95); with the limit reached the slice is retired. -/
def strike (m : Kz) (c s : Nat) : Kz :=
  let m := m.modConv c (fun v => { v with strikes := v.strikes.set s (v.strikes.getD s 0 + 1) })
  if max 1 (m.fld F.RGN_ROT_CTRL.STRIKES (c / 16)) ≤ (m.chan c).conv.strikes.getD s 0 && !retired m c s then
    retire m c s 3
  else m

/-- After a strike that retired the spare, another slice takes its role. -/
def spareOrNext (m : Kz) (c : Nat) : Kz :=
  if retired m c (m.chan c).conv.spare then
    let n := nextSpare m c
    m.modConv c (fun v => { v with spare := n, rot := if n = 15 then .noSpare else v.rot })
  else m

/-- R88: rotation at RUN entry. -/
def rotEnterRun (m : Kz) (c : Nat) : Kz :=
  if (m.chan c).conv.spare = 15 then m.modConv c (fun v => { v with rot := .noSpare })
  else if m.on F.CH_CONV_CTRL.ROT_EN c then startStep m c 0 true
  else m

/-- The spare takes a position at a boundary: its standby coefficients become active (R82, R90). The suspect interval ends
when no suspect slice is in service any more (R96), and a retired slice that leaves is SUSPECT no longer. -/
def takePosition (m : Kz) (c p : Nat) : Kz :=
  let old := (m.chan c).conv.pos.getD p 15
  let m := m.modConv c (fun v =>
    { v with pos := v.pos.set p v.spare, relieved := old, spare := old, handoverAt := v.boundary,
             coef := Sparse.set v.coef v.spare (Sparse.get (Sparse.get [] v.coef v.spare) v.standby v.spare),
             standby := Sparse.del v.standby v.spare, runs := Sparse.del v.runs old })
  if retired m c old then setSuspect m c old false else suspectEnds m c

/-- R88: leaving RUN or a restart stops rotation; a handover in CONFIRM stands, one in ARMED is cancelled. The runs of one
code end with it. -/
def rotStop (m : Kz) (c : Nat) : Kz :=
  m.modConv c (fun v => { v with
    rot := .stopped, timerFrom := none, expired := false, passed := false,
    relieved := 15, stuck := [], reverting := false, recal := false, pairs := {}, runs := [] })

/-- The attempts a benchmark calibration may take (R109). -/
def calRetry (m : Kz) (c : Nat) : Nat := max 1 (m.fld F.RGN_ROT_CTRL.CAL_RETRY (c / 16))

/-- R82, R625: a passing calibration writes the slice's standby bank and the image. -/
def writeCoef (m : Kz) (c s : Nat) (coef : List Int) : Kz :=
  m.modConv c (fun v => { v with standby := Sparse.set v.standby s coef, coefImage := Sparse.set v.coefImage s coef })

/-- The steps of a benchmark calibration (R80): settling, 33 ladder levels and the tone, with their samples at 1.28 GS/s. -/
def calSteps : List Nat := [25600, 33 * 2048, 131072]
/-- The time they take, ns: 100 samples take 78.125 ns. -/
def calNs : Nat := calSteps.foldl (fun a n => a + n) 0 * 78125 / 100000
/-- Whether what an attempt produced passes (R80, R81): offset, gain, 32 linearity segments and the skew, each within its trim
range, and a ladder residual, in 1/1000 code rms, of at most 0.5 code. -/
def calPasses (coef : List Int) (rms : Nat) : Bool :=
  decide (coef.length = 35) && decide (rms ≤ 500) && coef.zipIdx.all (fun x => decide (x.1.natAbs ≤ Config.trimSpan x.2))
/-- Whether a region runs its calibration pass (R606). -/
def inPass (m : Kz) (k : Nat) : Bool :=
  m.rstate k = .cal && m.pwr.passRunning && m.pwr.calQueue.head? = some k

/-- BENCHMARK_CAL_DONE: slice `s` of channel `c` completes an attempt with the coefficients and the residual it measured
(R80 to R83, R88, R93, R94). -/
def benchDone (m : Kz) (c s : Nat) (coef : List Int) (rms : Nat) : Kz :=
  let v := (m.chan c).conv
  let spareRun := v.rot = .calSpare && v.spare = s
  let passRun := inPass m (c / 16) && !v.calDone.testBit s
  if !(passRun || spareRun) || retired m c s || decide (m.now.ns < Sparse.get 0 v.calFrom s + calNs) then m
  else if calPasses coef rms then
    let m := writeCoef m c s coef
    let m := m.modConv c (fun v => { v with attempts := v.attempts.set s 0, calDone := withBit v.calDone s true })
    let m := if v.suspect.testBit s then
        rotFault (rotLog (setSuspect m c s false) c 5 s (posOf v s) 0) c else m
    if !spareRun then m
    else match v.stuck with
      | p :: _ => let b := boundaryAfter m c
                  m.modConv c (fun v => { v with rot := .emergArmed, target := p, phase := p, boundary := b })
      | [] => openWindow m c .shadow
  else
    let n := v.attempts.getD s 0 + 1
    let m := m.modConv c (fun v => { v with attempts := v.attempts.set s n })
    if n < calRetry m c then calBegin m c s false
    else if spareRun then
      let m := retireSpare m c 1
      -- R93: with no spare left, the stuck slices that wait for one are retired at once
      if (m.chan c).conv.rot = .noSpare then
        v.stuck.foldl (fun m p => retire m c (v.pos.getD p 15) 3) (m.modConv c (fun v => { v with stuck := [] }))
      else m
    else retire m c s 1

/-! ### Comparison of slices (R84 to R89) -/

/-- A pair of output words in the comparison in progress: one with a marked sample is left out (R84), and in CONFIRM the tick is
kept at which the disagreements pass their limit (R92). -/
def addPair (thr limit tick : Nat) (a b : Int × Bool) (q : Pairs) : Pairs :=
  if a.2 || b.2 then q
  else
    let n := q.disagree + b2n (decide (thr < (a.1 - b.1).natAbs))
    { count := q.count + 1, disagree := n, sum := q.sum + (a.1 - b.1),
      brokeAt := if q.brokeAt.isNone && decide (limit < n) then some tick else q.brokeAt }

/-- Whether a window's figures pass (R85): the disagreements, and the absolute mean of the differences. -/
def windowPasses (m : Kz) (c : Nat) (q : Pairs) : Bool :=
  decide (q.disagree ≤ m.fld F.RGN_SHADOW_CFG.LIMIT (c / 16)) &&
    decide (q.sum.natAbs ≤ m.fld F.RGN_SHADOW_CFG.MEAN_LIMIT (c / 16) * q.count)

/-- CH_SHADOW_STAT at the close of a window (R87, R108): the slice that shadowed, the one at the position it shadowed, and the
figures. Which of the two whole words next to a mean between them is reported is left open (DESIGN CHOICE, entry 96). -/
def shadowResult (m : Kz) (c verdict : Nat) : Kz :=
  let v := (m.chan c).conv
  let (mean, m) := m.freeQuot v.pairs.sum v.pairs.count
  m.modConv c (fun v => { v with shadow := ⟨verdict, v.spare, v.pos.getD v.phase 15, satS 8 (max mean (-127)),
                                            min v.pairs.disagree 0x3FFF⟩ })

/-- A dispute decided (R94, R97): one fault of kind 2, against the slice that lost it. -/
def dispute (m : Kz) (c s : Nat) : Kz := rotFault (rotLog m c 2 s (m.chan c).conv.target 0) c

/-- SHADOW_WINDOW_CLOSE: the verdict of a window that has collected its pairs (R84 to R88, R94, R95, R97). The event's figures are
for a window whose pairs were not all told (entry 97). -/
def windowClose (m : Kz) (c : Nat) (q : Pairs) : Kz :=
  let v := (m.chan c).conv
  let n := slicesOf v.effMode
  let tgt := v.pos.getD v.target 15
  let q := if 65536 ≤ v.pairs.count then v.pairs else q
  let done := m.modConv c (fun v => { v with pairs := q })
  if !(v.rot = .shadow || v.rot = .checkShadow) || q.count < 65536 then m
  else if windowPasses m c q then
    let m := shadowResult done c 1
    if v.rot = .checkShadow then armHandover (strike (dispute m c tgt) c tgt) c
    else
      let m := m.modConv c (fun v => { v with passed := true })
      if v.expired && v.timerFrom.isSome then armHandover m c
      else if v.timerFrom.isNone then openWindow m c .shadow
      else m
  else
    let m := rotFault (rotLog (shadowResult done c 2) c 1 (v.pos.getD v.phase 15) v.phase (m.datumOf v.windowAt)) c
    if v.rot = .checkShadow then
      let m := dispute (m.mark F.CH_CONV_STAT.DISPUTE_SEEN c) c v.spare
      retireSpare (setSuspect m c tgt false) c 2
    else if !v.recal then
      (calBegin m c v.spare true).modConv c (fun v => { v with rot := .calSpare, recal := true })
    else
      let m := setSuspect m c tgt true
      if n = 1 then armHandover (strike (dispute m c tgt) c tgt) c else openWindow m c .checkShadow

/-- SHADOW_WINDOW_STARVED (R86). -/
def windowStarved (m : Kz) (c : Nat) : Kz :=
  let v := (m.chan c).conv
  let step := m.fld F.RGN_ROT_CTRL.STEP (c / 16) * 100000
  if (v.rot = .shadow || v.rot = .checkShadow) && v.windowFrom + 4 * step ≤ m.now.ns then
    openWindow ((shadowResult m c 3).mark F.CH_CONV_STAT.STARVED_SEEN c) c v.rot
  else m

/-- The step timer expires, on time or by STEP_NOW (R88, R104). -/
def timerExpire (m : Kz) (c : Nat) : Kz :=
  let v := (m.chan c).conv
  if v.timerFrom.isNone || v.expired then m
  else
    let m := m.modConv c (fun v => { v with expired := true })
    if v.rot = .shadow && v.passed then armHandover m c else m

/-- STEP_TIMER_EXPIRE (R88): STEP × 100 µs after the timer started. -/
def stepTimerExpire (m : Kz) (c : Nat) : Kz :=
  match (m.chan c).conv.timerFrom with
  | some f => if f + m.fld F.RGN_ROT_CTRL.STEP (c / 16) * 100000 ≤ m.now.ns then timerExpire m c else m
  | none => m

/-- HANDOVER: the boundary of an armed handover (R82, R88, R89, R90). The newcomer delivers from the boundary on. A stuck slice
that is the one being relieved has left with it (DESIGN CHOICE, entry 96). -/
def handover (m : Kz) (c : Nat) : Kz :=
  let v := (m.chan c).conv
  if v.rot = .armed && v.boundary ≤ m.now.tick then
    let m := takePosition m c v.target
    let m := m.modConv c (fun v => { v with rot := .confirm, phase := v.target, pairs := {}, stuck := v.stuck.erase v.target })
    match (m.chan c).conv.stuck with
    | p :: _ => -- R93: the relieved slice, with its in-service coefficients, takes the stuck slice's position
        let b := nextBoundary m c
        m.modConv c (fun v => { v with rot := .emergArmed, target := p, phase := p, boundary := b })
    | [] => m
  else m

/-- The relieved slice becomes the spare and the next step starts (R88, R94); a relieved slice that a strike has retired
is no spare (R95, R98), and a suspect one calibrates first. -/
def nextStep (m : Kz) (c : Nat) : Kz :=
  let m := spareOrNext m c
  let v := (m.chan c).conv
  let p := (v.target + 1) % slicesOf v.effMode
  if v.rot = .noSpare then m
  else if m.on F.CH_CONV_CTRL.ROT_EN c || v.suspect.testBit v.spare then startStep m c p true
  else openWindow (m.modConv c (fun v => { v with
    target := p, timerFrom := none, expired := false, recal := false, relieved := 15 })) c .shadow

/-- CONFIRM_DONE: 64 fabric cycles within the limit (R88, R89). The event's count is for pairs that were not told (entry 97). -/
def confirmDone (m : Kz) (c disagree : Nat) : Kz :=
  let v := (m.chan c).conv
  if v.rot = .confirm && !v.reverting && max v.pairs.disagree disagree ≤ m.fld F.RGN_SHADOW_CFG.CONFIRM_LIMIT (c / 16)
      && v.handoverAt + 1024 ≤ m.now.tick then nextStep m c
  else m

/-- CONFIRM_REVERT: the disagreement that breaks the limit (R88, R89, R92, R95). -/
def confirmRevert (m : Kz) (c disagree : Nat) : Kz :=
  let v := (m.chan c).conv
  if v.rot = .confirm && !v.reverting && m.fld F.RGN_SHADOW_CFG.CONFIRM_LIMIT (c / 16) < max v.pairs.disagree disagree then
    let b := boundaryFrom m c (v.pairs.brokeAt.getD m.now.tick)
    let new := v.pos.getD v.target 15
    let m := m.modConv c (fun v => { v with reverting := true, boundary := b })
    let m := (m.mark F.CH_CONV_STAT.REVERT_SEEN c).addSpan (.revert c) v.handoverAt b
    let m := rotFault (m.logFrom (v.handoverAt * 1024) 0x0110 2 1 c (m.datumOf b)
        (3 <<< 24 ||| new <<< 20 ||| v.target <<< 16)) c
    strike m c new
  else m

/-- REVERT_BOUNDARY: the relieved slice takes its position back and the newcomer recalibrates (R92), for a stuck slice's
position first where one waits (DESIGN CHOICE, entry 96). -/
def revertBoundary (m : Kz) (c : Nat) : Kz :=
  let v := (m.chan c).conv
  if v.reverting && v.boundary ≤ m.now.tick then
    let new := v.pos.getD v.target 15
    let m := m.modConv c (fun v => { v with pos := v.pos.set v.target v.relieved, spare := new, reverting := false,
                                            relieved := 15 })
    let m := spareOrNext m c
    if (m.chan c).conv.rot = .noSpare then m else startStep m c (v.stuck.headD v.target) true
  else m

/-- STUCK_SLICE: slice `s` in service has delivered one code for 1,024 unmarked samples (R93, R95, R96). A slice that is SUSPECT
already takes its strike too. The event's tick is that of the run's first sample where the run was not told (entry 97); one run is
taken once. -/
def stuckSlice (m : Kz) (c s first : Nat) : Kz :=
  let v := (m.chan c).conv
  let p := posOf v s
  let r := Sparse.get ({} : SliceRun) v.runs s
  let from_ := if 1024 ≤ r.count then r.first else first
  if !(m.on F.CH_CONV_CTRL.STUCK_EN c) || p = 15 || !(m.inRun (c / 16)) || (r.told && from_ ≤ r.first)
      || m.now.tick < from_ + 1023 * slicesOf v.effMode * ticksOf v.effMode then m
  else
    let m := m.modConv c (fun v => { v with runs := Sparse.set v.runs s { r with first := from_, told := true } })
    let m := (m.mark F.CH_CONV_STAT.STUCK_SEEN c)
    let m := rotFault (rotLog m c 4 s p (m.datumOf from_)) c
    let m := setSuspect m c s true
    if v.spare = 15 then
      -- the model's choice of a reason: 3, strikes (DESIGN CHOICE, entry 96)
      let m := m.modConv c (fun v => { v with strikes := v.strikes.set s (v.strikes.getD s 0 + 1) })
      retire m c s 3
    else
      let m := strike m c s
      let m := m.modConv c (fun v => { v with stuck := if v.stuck.contains p then v.stuck else v.stuck ++ [p] })
      match v.rot with
      | .shadow | .checkShadow | .stopped =>
        let b := boundaryAfter m c
        m.modConv c (fun v => { v with rot := .emergArmed, target := p, phase := p, boundary := b })
      | .confirm =>
        if v.reverting then m
        else
          let b := nextBoundary m c
          m.modConv c (fun v => { v with rot := .emergArmed, target := p, phase := p, boundary := b,
                                         spare := if v.relieved = 15 then v.spare else v.relieved })
      | .calSpare | .armed | .noSpare | .emergArmed => m

/-- EMERG_HANDOVER: the spare or relieved slice replaces the stuck one with no confirm phase; the stuck slice leaves service
and calibrates (R93, R94), for the next stuck slice's position where one waits, else for the position after the one just
taken (DESIGN CHOICE, entry 96). -/
def emergHandover (m : Kz) (c : Nat) : Kz :=
  let v := (m.chan c).conv
  if v.rot = .emergArmed && v.boundary ≤ m.now.tick then
    let m := takePosition m c v.target
    let m := m.modConv c (fun v => { v with stuck := v.stuck.erase v.target })
    let m := spareOrNext m c
    let w := (m.chan c).conv
    if w.rot = .noSpare then
      -- no spare is left for the slices that still wait: retired at once (R93)
      w.stuck.foldl (fun m p => retire m c (w.pos.getD p 15) 3) (m.modConv c (fun v => { v with stuck := [] }))
    else startStep m c (w.stuck.headD ((v.target + 1) % slicesOf v.effMode)) true
  else m

/-! ### Converter samples (R50, R54, R55, R72, R76, R84, R89, R93) -/

/-- The output word of a raw code: the code in bits 15:4, corrected with the slice's coefficients and the front-end set of the
gain step; nothing is added where the slice holds no coefficients and the front end was not measured (R49, R76, entry 98). -/
def corrected (coef front : List Int) (code : Int) : Int :=
  satS 16 (16 * code + if coef.isEmpty && front.isEmpty then 0 else Config.correction coef front code)
/-- The coefficients input correction applies to a slice: in a position its active set, while it shadows its standby set (R82,
R84). -/
def coefOf (v : Conv) (s : Nat) : List Int :=
  if v.pos.contains s then Sparse.get [] v.coef s else Sparse.get (Sparse.get [] v.coef s) v.standby s
/-- The slice that delivers the converter sample of an index (R72, R90): from a scheduled boundary on the one that takes the
position there. -/
def sliceAt (v : Conv) (idx : Nat) : Nat :=
  let p := idx % slicesOf v.effMode
  let due := p = v.target && decide (v.boundary ≤ idx * ticksOf v.effMode)
  if due && (v.rot = .armed || v.rot = .emergArmed) then v.spare
  else if due && v.rot = .confirm && v.reverting then v.relieved
  else v.pos.getD p 15
/-- The slice whose samples are compared beside the one in service: the shadowing spare, or in CONFIRM the relieved slice (R84,
R89); 15 for none. -/
def partner (v : Conv) : Nat :=
  match v.rot with
  | .shadow | .checkShadow => v.spare
  | .confirm => if v.reverting then 15 else v.relieved
  | _ => 15
/-- A sample of a slice in its run of one code (R93): a marked sample interrupts it. -/
def runOn (r : SliceRun) (code : Int) (marked : Bool) (tick : Nat) : SliceRun :=
  if marked then {} else if r.count = 0 || r.code != code then ⟨code, 1, tick, false⟩ else { r with count := r.count + 1 }

/-- SLICE_HEALTH_WRITE's effect: retirements and reinstatements between two values of RETIRED (R102). A retired slice
leaves its position at once, and the effective mode follows (R98). -/
def healthChanged (m : Kz) (c old new : Nat) : Kz :=
  let back := (upTo 9).any (fun s => old.testBit s && !new.testBit s)
  let m := (upTo 9).foldl (fun m s => if new.testBit s && !old.testBit s then
      let m := rotFault (rotLog (m.mark F.CH_CONV_STAT.RETIRE_SEEN c) c 6 s (posOf (m.chan c).conv s) 0) c
      (m.modConv c (fun v => { v with lastSlice := s, lastReason := 4 })).ledgerAct 1 1 c else m) m
  let m := if new != old then assignSlices m c
    else m
  if back then (m.modConv c (fun v => { v with calDue := true })).ledgerAct 2 1 c else m

/-- CAL_PASS_START: the first region in the queue begins its pass; the slices of its channels begin to calibrate (R606,
R83). -/
def calPassStart (m : Kz) (k : Nat) : Kz :=
  if m.pwr.calQueue.head? = some k && !m.pwr.passRunning && m.rstate k = .cal && !(m.rgn k).err.restarting then
    let m := m.modPower (fun p => { p with passRunning := true })
    m.eachChan k (fun m c => m.modConv c (fun v => { v with
      attempts := List.replicate 9 0, strikes := List.replicate 9 0, calDone := 0,
      calFrom := (upTo 9).map (fun s => (s, m.now.ns)) }))
  else m

/-- Whether every healthy slice of a region's channels has passed its calibration in the pass (R83). -/
def passComplete (m : Kz) (k : Nat) : Bool :=
  (upTo 16).all (fun i => (healthy m (16 * k + i)).all (fun s => (m.chan (16 * k + i)).conv.calDone.testBit s))
/-- CAL_PASS_DONE: CAL_DUE clears on the channels of the completed pass, slices are assigned, the front end's gain and offset
errors at the six gain steps, measured through the injector, are kept, and the region returns to IDLE (R49, R78, R79,
R83, R603, R606). -/
def calPassDone (m : Kz) (k : Nat) (front : List (List (List Int))) : Kz :=
  if inPass m k && passComplete m k then
    let m := m.modPower (fun p => { p with passRunning := false, calQueue := p.calQueue.drop 1 })
    let m := m.eachChan k (fun m c =>
      (assignSlices m c).modConv c (fun v => { v with calDue := false, front := front.getD (c % 16) v.front }))
    m.modPwr k (fun p => { p with state := .idle })
  else m

/-- BENCHMARK_CAL_DONE (R80). -/
def execBenchmarkCalDone (t : Stamp) (c : Chan) (sl : Slice) (coef : List Int) (rms : Nat) (s : State) :
    Host.Outcome State Fault Refusal := s.at_ t (fun m => benchDone m c sl coef rms)
/-- SHADOW_WINDOW_CLOSE (R85). -/
def execShadowWindowClose (t : Stamp) (c : Chan) (pairs disagree : Nat) (sum : Int) (s : State) :
    Host.Outcome State Fault Refusal := s.at_ t (fun m => windowClose m c { count := pairs, disagree := disagree, sum := sum })
/-- SHADOW_WINDOW_STARVED (R86). -/
def execShadowWindowStarved (t : Stamp) (c : Chan) (s : State) : Host.Outcome State Fault Refusal :=
  s.at_ t (fun m => windowStarved m c)
/-- STEP_TIMER_EXPIRE (R88). -/
def execStepTimerExpire (t : Stamp) (c : Chan) (s : State) : Host.Outcome State Fault Refusal :=
  s.at_ t (fun m => stepTimerExpire m c)
/-- HANDOVER (R90). -/
def execHandover (t : Stamp) (c : Chan) (s : State) : Host.Outcome State Fault Refusal :=
  s.at_ t (fun m => handover m c)
/-- CONFIRM_DONE (R88). -/
def execConfirmDone (t : Stamp) (c : Chan) (disagree : Nat) (s : State) : Host.Outcome State Fault Refusal :=
  s.at_ t (fun m => confirmDone m c disagree)
/-- CONFIRM_REVERT (R92). -/
def execConfirmRevert (t : Stamp) (c : Chan) (disagree : Nat) (s : State) : Host.Outcome State Fault Refusal :=
  s.at_ t (fun m => confirmRevert m c disagree)
/-- REVERT_BOUNDARY (R92). -/
def execRevertBoundary (t : Stamp) (c : Chan) (s : State) : Host.Outcome State Fault Refusal :=
  s.at_ t (fun m => revertBoundary m c)
/-- STUCK_SLICE (R93). -/
def execStuckSlice (t : Stamp) (c : Chan) (sl : Slice) (first : Nat) (s : State) : Host.Outcome State Fault Refusal :=
  s.at_ t (fun m => stuckSlice m c sl first)
/-- EMERG_HANDOVER (R93). -/
def execEmergHandover (t : Stamp) (c : Chan) (s : State) : Host.Outcome State Fault Refusal :=
  s.at_ t (fun m => emergHandover m c)
/-- CAL_PASS_START (R606). -/
def execCalPassStart (t : Stamp) (k : Rgn) (s : State) : Host.Outcome State Fault Refusal :=
  s.at_ t (fun m => calPassStart m k)
/-- CAL_PASS_DONE (R606). -/
def execCalPassDone (t : Stamp) (k : Rgn) (front : List (List (List Int))) (s : State) : Host.Outcome State Fault Refusal :=
  s.at_ t (fun m => calPassDone m k front)

end Sys2Proof.Machine
end

