-- ==== Sys2Proof/Machine/TimeBase.lean ====
section
/-! DEFINITION. The time base: oven, synthesiser, reference loss and relock, epochs (R112 to R147). -/
namespace Sys2Proof.Machine

/-- TIM_MODE.MODE: 0 HEARTH, 1 MACHINE_LOCK, 2 EXTERNAL (R118). -/
def tmode (m : Kz) : Nat := m.fld F.TIM_MODE.MODE 0
/-- Whether a timing input is LOCKED. -/
def tinLocked (m : Kz) : Bool := decide (m.tl.tin0.state = .locked) || decide (m.tl.tin1.state = .locked)
/-- R389, R124: the machine clock is lost when neither input is LOCKED. -/
def mclkLost (m : Kz) : Bool := !tinLocked m
/-- TIM_MCLK_FREQ as it reads: 0 while the machine clock is lost (R146). -/
def mclkFreq (m : Kz) : Nat := if mclkLost m then 0 else m.tb.mclkHz
/-- Code of a time-base state (R124). -/
def TbState.code : TbState → Nat
  | .switching => 0 | .tracking => 1 | .holdover => 2 | .relock => 3
/-- Code of an oven state (R113). -/
def OvenState.code : OvenState → Nat
  | .warming => 0 | .warm => 1 | .unreg => 2
/-- Whether the time base is in HOLDOVER or RELOCK. -/
def carried (m : Kz) : Bool := decide (m.tb.tb = .holdover) || decide (m.tb.tb = .relock)

/-- TIM_STAT (R141). -/
def timStat (m : Kz) : Nat :=
  m.seenWord .TIM_STAT 0 ||| (packFields [(F.TIM_STAT.TB_STATE, m.tb.tb.code), (F.TIM_STAT.OVEN_STATE, m.tb.oven.code),
    (F.TIM_STAT.HEARTH_WARM, b2n (m.tb.oven = .warm)), (F.TIM_STAT.HEARTH_UNREG, b2n (m.tb.oven = .unreg)),
    (F.TIM_STAT.SYN_LOCKED, b2n m.tb.synLocked), (F.TIM_STAT.XING_VIRTUAL, b2n m.tb.xingVirtual)]).toNat

/-- An interval open or closed as a condition says. -/
def setSpan (m : Kz) (k : SpanKind) (b : Bool) : Kz := if b then m.openSpan k else m.closeSpan k
/-- The intervals of R130 to R132 brought to the conditions that hold. -/
def timeFlags (m : Kz) : Kz :=
  let m := setSpan m .holdover (carried m || (tmode m == 0 && decide (m.tb.oven ≠ .warm)))
  let m := setSpan m .unreg (decide (m.tb.oven = .unreg) && (tmode m == 0 || carried m))
  let m := setSpan m .clockUnlock (!m.tb.synLocked)
  setSpan m .virtual m.tb.xingVirtual

/-! ### Synthesiser -/

/-- The sample clock from its reference as measured now, ticks a second (R118): 10.24 GHz in HEARTH mode. -/
def sampleHz (m : Kz) : Nat :=
  match tmode m with
  | 1 => m.fld F.TIM_MODE.ML_M 0 * mclkFreq m
  | 2 => m.fld F.TIM_MODE.EXT_N 0 * m.tb.refHz
  | _ => 10240000000
/-- The tick rate: that of the sample clock, and while its reference is lost the rate it last locked to (R124, R126). -/
def tickHz (m : Kz) : Nat := if carried m || sampleHz m = 0 then m.tb.lockHz else sampleHz m
/-- The rate the sample clock has locked to. -/
def lockRate (m : Kz) : Kz := if sampleHz m = 0 then m else m.modTb (fun b => { b with lockHz := sampleHz m })
/-- SLEW in 0.1 ppm; 0 is treated as 1 (R143). -/
def slew (m : Kz) : Nat := max 1 (m.fld F.TIM_HEARTH_TRIM.SLEW 0)
/-- The error, 1/1024 tick, that a slew removes in a time in 1/1024 tick (R125, R129). -/
def slewed (m : Kz) (t : Nat) : Nat := t * slew m / 10000000
/-- What is left of an error after a slew of at most `n` in the direction that reduces it. -/
def slewBy (n : Nat) (e : Int) : Int := if 0 ≤ e then max 0 (e - n) else min 0 (e + n)
/-- The phase error of RELOCK at present (R125): it shrinks at SLEW until it lies within a quarter tick. -/
def phaseErr (m : Kz) : Int :=
  slewBy (min (m.tb.relockErr.natAbs - 256) (slewed m ((m.now.ns - m.tb.relockAt) * tickHz m * 1024 / 1000000000))) m.tb.relockErr
/-- The moment, ns, from which the error lies within a quarter tick. -/
def slewEnd (m : Kz) : Nat :=
  m.tb.relockAt + ((m.tb.relockErr.natAbs - 256) * (10000000 * 1000000000) + 1024 * tickHz m * slew m - 1) / (1024 * tickHz m * slew m)
/-- How far from nominal, in 0.1 ppm, the synthesiser runs: against a phase error by SLEW in RELOCK (R125). -/
def slewNow (m : Kz) : Int :=
  if m.tb.tb = .relock && m.now.ns < slewEnd m then (if 0 < m.tb.relockErr then -(slew m : Int) else slew m) else 0
/-- The ticks that a time in ns takes, rounded up. -/
def ticksIn (m : Kz) (ns : Nat) : Nat := (ns * tickHz m + 999999999) / 1000000000

/-- R119: the product of multiplier and reference lies in 9.6 to 10.4 GHz. -/
def inBand (n hz : Nat) : Bool := decide (9600000000 ≤ n * hz) && decide (n * hz ≤ 10400000000)
/-- R120: whether a write from `o` to `w` is a mode change. -/
def modeChange (o w : Word) : Bool :=
  let f := F.TIM_MODE.MODE.of
  decide (f w ≠ f o) || (f w == 1 && decide (F.TIM_MODE.ML_M.of w ≠ F.TIM_MODE.ML_M.of o))
    || (f w == 2 && decide (F.TIM_MODE.EXT_N.of w ≠ F.TIM_MODE.EXT_N.of o))
/-- The checks of R120 on a write to TIM_MODE; the first failure decides. A REFCLK_IN outside the range of R119 is refused with the
product, in step 5 (DESIGN CHOICE, entry 108: R120 names no step for it). -/
def modeCheck (m : Kz) (w : Word) : Option Status :=
  let md := F.TIM_MODE.MODE.of w
  let ml := F.TIM_MODE.ML_M.of w
  let en := F.TIM_MODE.EXT_N.of w
  if md = 3 then some .badValue
  else if (md = 1 ∧ (ml < 80 ∨ 1040 < ml)) ∨ (md = 2 ∧ (en < 20 ∨ 1040 < en)) then some .badValue
  else if !modeChange (m.cfgWord .TIM_MODE 0) w then none
  else if m.regionsBusy then some .regionsNotIdle
  else if (md = 1 ∧ mclkFreq m = 0) ∨ (md = 2 ∧ m.tb.refHz = 0) then some .refAbsent
  else if (md = 1 ∧ !inBand ml (mclkFreq m)) ∨
      (md = 2 ∧ (!inBand en m.tb.refHz || m.tb.refHz < 10000000 || 500000000 < m.tb.refHz)) then some .badValue
  else none

/-- Every channel's CAL_DUE set (R78). -/
def allCalDue (m : Kz) : Kz := m.allChans (fun m c => m.modConv c (fun v => { v with calDue := true }))

/-- R122: the effect of an accepted write to TIM_MODE; `o` is what it held. -/
def modeWritten (m : Kz) (o w : Word) : Kz :=
  if modeChange o w then
    let m := m.modTb (fun b => { b with tb := .switching, synLocked := false, entryHz := b.refHz })
    timeFlags (allCalDue (m.modTl (fun l => { l with grid := false })))
  else m

/-- A time-base entry of the event log (code 0x0202). -/
def tbLog (m : Kz) (second value : Nat) : Kz := m.logE 0x0202 0 0 0 second value
/-- The entry of a holdover: its start, stamped in the epoch it lies in, and the largest phase error so far (R134, R645). -/
def holdLog (m : Kz) : Kz := tbLog m (m.datumOf m.tb.holdStart) m.tb.holdPhase

/-- R124: the synthesiser's own reference is lost. -/
def tbLost (m : Kz) : Kz :=
  if m.tb.tb = .tracking || m.tb.tb = .relock then
    let fresh := m.tb.tb = .tracking
    let m := m.modTb (fun b => { b with
      tb := .holdover, holdStart := if fresh then m.now.tick else b.holdStart,
      holdPhase := if fresh then 0 else b.holdPhase })
    timeFlags (holdLog (m.mark F.TIM_STAT.REF_LOST_SEEN 0))
  else m

/-- R124: SYN_SWITCH_LOCKED ends SWITCHING. -/
def synSwitchLocked (m : Kz) : Kz :=
  if m.tb.tb = .switching then
    timeFlags (lockRate (m.modTb (fun b => { b with tb := .tracking, synLocked := true })))
  else m

/-- REF_LOST: REFCLK_IN is found at `hz` (0 with no edge for 1 µs), or the machine clock is lost (R124). -/
def refLost (m : Kz) (hz : Nat) : Kz :=
  if tmode m = 2 then
    let m := m.modTb (fun b => { b with refHz := hz })
    let e := m.tb.entryHz
    if hz = 0 || e < (max hz e - min hz e) * 10000 then tbLost m else m
  else if tmode m = 1 && mclkLost m then tbLost m
  else m

/-- R758: whether a returning reference of `hz` is within range. -/
def refInRange (m : Kz) (hz : Nat) : Bool :=
  if tmode m = 1 then decide (10000000 ≤ hz) && decide (hz ≤ 120000000) && inBand (m.fld F.TIM_MODE.ML_M 0) hz
  else decide (10000000 ≤ hz) && decide (hz ≤ 500000000) && inBand (m.fld F.TIM_MODE.EXT_N 0) hz &&
    decide ((max hz m.tb.entryHz - min hz m.tb.entryHz) * 10000 ≤ m.tb.entryHz)

/-- R125: RELOCK begins with a phase error, 1/1024 tick, which the synthesiser slews away. -/
def relockBegin (m : Kz) (phase : Int) : Kz :=
  timeFlags (m.modTb (fun b => { b with
    tb := .relock, holdPhase := max b.holdPhase phase.natAbs, relockErr := phase, relockAt := m.now.ns }))
/-- REF_RETURN: the reference is back at `hz` with a phase error, 1/1024 tick (R124, R758). -/
def refReturn (m : Kz) (hz : Nat) (phase : Int) : Kz :=
  let m := if tmode m = 2 then m.modTb (fun b => { b with refHz := hz }) else m
  if m.tb.tb ≠ .holdover || (tmode m == 1 && mclkLost m) then m
  else if refInRange m hz then
    relockBegin m phase
  else holdLog (m.mark F.TIM_STAT.REF_LOST_SEEN 0)

/-- RELOCK_DONE: the phase error has been within a quarter tick since `since`, ns, for 1 ms; the slew brings it there no sooner (R124,
R125, R129). -/
def relockDone (m : Kz) (since : Nat) : Kz :=
  if m.tb.tb = .relock && slewEnd m ≤ since && since + 1000000 ≤ m.now.ns then
    let m := m.modTb (fun b => { b with
      tb := .tracking, xingVirtual := if tmode m = 1 && !mclkLost m then false else b.xingVirtual })
    timeFlags (holdLog (lockRate m))
  else m

/-- XING_SLEW_DONE: the crossing phase is within a quarter tick after the machine clock's return (R129). -/
def xingSlewDone (m : Kz) : Kz :=
  let near : Bool := if tmode m = 1 then m.tb.tb = .relock && slewEnd m ≤ m.now.ns
    else match m.tl.slewErr with | some e => decide (e.natAbs ≤ 256) | none => false
  if m.tb.xingVirtual && !mclkLost m && near then timeFlags (m.modTb (fun b => { b with xingVirtual := false })) else m

/-- SYN_UNLOCK (R126). R645's two values belong to a holdover; outside one the entry carries 0 and 0 (DESIGN CHOICE, entry 108). -/
def synUnlock (m : Kz) : Kz :=
  if m.tb.tb ≠ .switching && m.tb.synLocked then
    timeFlags (tbLog ((m.modTb (fun b => { b with synLocked := false })).mark F.TIM_STAT.SYN_UNLOCK_SEEN 0) 0 0)
  else m

/-- SYN_LOCK_REGAINED (R126). -/
def synRegained (m : Kz) : Kz :=
  if m.tb.tb ≠ .switching then timeFlags (m.modTb (fun b => { b with synLocked := true })) else m

/-! ### Oven -/

/-- The oven's measured figures as TIM_OVEN shows them (R142). -/
def ovenSeen (m : Kz) (mw : Nat) (err : Int) : Kz := m.modTb (fun b => { b with heaterMw := mw, tempErr := satS 12 err })
/-- The oven in another state, with the event-log entry of R113 where `log` says so. -/
def ovenTo (m : Kz) (o : OvenState) (log : Bool) : Kz :=
  let m := m.modTb (fun b => { b with oven := o, warmAt := if o = .warm then m.now.ns else b.warmAt })
  let m := if o = .unreg then
      let m := m.mark F.TIM_STAT.UNREG_SEEN 0
      { m with age := { m.age with unreg := m.age.unreg + 1, unregAt := m.now.ns :: m.age.unregAt } }
    else m
  let m := timeFlags m
  if log then m.logE 0x0201 0 0 0 0 (timStat m) else m
/-- OVEN_WARM (R113): within ±0.1 K, 10 units of 10 mK, for 10 s. -/
def ovenWarm (m : Kz) (mw : Nat) (err : Int) : Kz :=
  let m := ovenSeen m mw err
  if m.tb.oven ≠ .warm && err.natAbs ≤ 10 then ovenTo m .warm false else m
/-- OVEN_UNREG (R113): zero heater power and more than 0.1 K above the set-point. -/
def ovenUnreg (m : Kz) (mw : Nat) (err : Int) : Kz :=
  let m := ovenSeen m mw err
  if m.tb.oven = .warm && mw == 0 && decide (10 < err) then ovenTo m .unreg true else m
/-- OVEN_BAND_LEFT (R113): WARM left for any other reason. -/
def ovenBandLeft (m : Kz) (mw : Nat) (err : Int) : Kz :=
  let m := ovenSeen m mw err
  if m.tb.oven = .warm && decide (10 < err.natAbs) then ovenTo m .warming true else m
/-- HEATER_FAULT (R113): a temperature error above 1 K for 600 s in WARMING. -/
def heaterFault (m : Kz) (mw : Nat) (err : Int) : Kz :=
  let m := ovenSeen m mw err
  if m.tb.oven = .warming && decide (100 < err.natAbs) then
    let m := (m.modTb (fun b => { b with heaterFault := true })).mark F.TIM_STAT.HEATER_FAULT_SEEN 0
    m.logE 0x0201 0 0 0 0 (timStat m)
  else m
/-- R113, R115: the effect of a write to TIM_OVEN; a new set-point sends a warm oven back to WARMING. -/
def ovenWritten (m : Kz) (o w : Word) : Kz :=
  if F.TIM_OVEN.SETPOINT.of o ≠ F.TIM_OVEN.SETPOINT.of w then
    match m.tb.oven with
    | .warm => ovenTo m .warming true
    | .unreg => timeFlags m
    | .warming => m
  else m
/-- R115: the check of a write to TIM_OVEN. -/
def ovenCheck (m : Kz) (w : Word) : Option Status :=
  if m.regionsBusy then some .regionsNotIdle
  else if F.TIM_OVEN.SETPOINT.of w = 3 then some .badValue
  else none

/-- The trim in force, 0.001 ppb: a change is ramped in at 1 ppb, 1,000 units, per ms (R117). -/
def trimNow (m : Kz) : Int :=
  let goal := sext 24 (m.fld F.TIM_HEARTH_TRIM.TRIM 0)
  let d := goal - m.tb.trimFrom
  let step : Int := ((m.now.ns - m.tb.trimAt) / 1000 : Nat)
  if d.natAbs ≤ step.natAbs then goal else if 0 < d then m.tb.trimFrom + step else m.tb.trimFrom - step
/-- The correction of the hearth's synthesiser path, 0.001 ppb: that of the set-point in use, from OTP, and TRIM (R112, R117). -/
def hearthCorrection (m : Kz) : Int := Config.setpointTrim (m.fld F.TIM_OVEN.SETPOINT 0) + trimNow m
/-- How far the corrected hearth lies from 80.000 MHz, 0.001 ppb: at a set-point the hearth's own error is what OTP's correction for
that set-point takes away, so that TRIM remains (R112, R117). -/
def hearthOff (m : Kz) : Int := hearthCorrection m - Config.setpointTrim (m.fld F.TIM_OVEN.SETPOINT 0)
/-- R117: a change of TRIM starts a ramp from the value in force before the write. -/
def trimWritten (m : Kz) (o : Word) : Kz :=
  let was := trimNow { m with regs := { m.regs with cfg := Sparse.set m.regs.cfg (RegKind.addr .TIM_HEARTH_TRIM 0) o } }
  m.modTb (fun b => { b with trimFrom := was, trimAt := m.now.ns })

/-! ### Epochs -/

/-- The first multiple of 4,096 ticks at or after an instant in 1/1024 tick (R133). -/
def epochAfter (i : Nat) : Nat := (i + 4096 * 1024 - 1) / (4096 * 1024) * 4096
/-- R135: whether an EPOCH_RESET comes too soon after the previous one, in which case it is counted and logged. -/
def epochTooSoon (m : Kz) : Bool :=
  m.tb.pendingEpoch.isSome || (match m.tb.lastEpoch with | some t => decide (m.now.ns < t + 10000000000) | none => false)
/-- An EPOCH_RESET ignored (R135). -/
def epochIgnored (m : Kz) : Kz := (m.count .TIM_EPOCH_REJ 0 1).logE 0x0203 0 0 0 0 0
/-- R133, R136, R137: an epoch reset accepted at an instant, 1/1024 tick. -/
def epochAccept (m : Kz) (i : Nat) (host : Bool) : Kz :=
  let o := epochAfter i
  let d := if host then 0 else o * 1024 - i
  m.modTb (fun b => { b with pendingEpoch := some ⟨o, host, d / 1024, d % 1024⟩, lastEpoch := some m.now.ns })
/-- EPOCH_ORIGIN: the origin arrives; at it the datum count is 0 (R133, R134, R145). -/
def epochOrigin (m : Kz) : Kz :=
  match m.tb.pendingEpoch with
  | some e =>
    if e.origin ≤ m.now.tick then
      let seq := if m.tb.epochSeq = 255 then 1 else m.tb.epochSeq + 1
      -- event numbers begin again with the epoch (R257)
      (m.modHub (fun h => { h with eventEpoch := seq, eventNext := 0, eventPrev := h.eventNext })).modTb (fun b => { b with
        prevOrigin := b.origin, origin := e.origin, prevSeq := b.epochSeq,
        epochSeq := seq, epochHost := e.host,
        offTicks := e.offTicks, offFrac := e.offFrac, pendingEpoch := none })
    else m
  | none => m

/-- MCLK_FREQ_GATE_DONE: a 1 s gate gives the frequency in Hz (R146, R704). -/
def mclkGate (m : Kz) (hz : Nat) : Kz :=
  if mclkLost m || m.tl.edges.isEmpty then m else
    let m := m.modTb (fun b => { b with mclkHz := hz % 2 ^ 32 })
    if m.tb.tb = .tracking then lockRate m else m

/-! ### Meanings -/

/-- SYN_SWITCH_LOCKED (R124). -/
def execSynSwitchLocked (t : Stamp) (s : State) : Host.Outcome State Fault Refusal := s.at_ t synSwitchLocked
/-- REF_LOST (R124). -/
def execRefLost (t : Stamp) (refHz : Nat) (s : State) : Host.Outcome State Fault Refusal :=
  s.at_ t (fun m => refLost m refHz)
/-- REF_RETURN (R758). -/
def execRefReturn (t : Stamp) (hz : Nat) (phase : Int) (s : State) : Host.Outcome State Fault Refusal :=
  s.at_ t (fun m => refReturn m hz phase)
/-- RELOCK_DONE (R124). -/
def execRelockDone (t : Stamp) (since : Nat) (s : State) : Host.Outcome State Fault Refusal :=
  s.at_ t (fun m => relockDone m since)
/-- XING_SLEW_DONE (R129). -/
def execXingSlewDone (t : Stamp) (s : State) : Host.Outcome State Fault Refusal := s.at_ t xingSlewDone
/-- SYN_UNLOCK (R126). -/
def execSynUnlock (t : Stamp) (s : State) : Host.Outcome State Fault Refusal := s.at_ t synUnlock
/-- SYN_LOCK_REGAINED (R126). -/
def execSynLockRegained (t : Stamp) (s : State) : Host.Outcome State Fault Refusal := s.at_ t synRegained
/-- OVEN_WARM (R113). -/
def execOvenWarm (t : Stamp) (mw : BitVec 16) (err : Int) (s : State) : Host.Outcome State Fault Refusal :=
  s.at_ t (fun m => ovenWarm m mw.toNat err)
/-- OVEN_UNREG (R113). -/
def execOvenUnreg (t : Stamp) (mw : BitVec 16) (err : Int) (s : State) : Host.Outcome State Fault Refusal :=
  s.at_ t (fun m => ovenUnreg m mw.toNat err)
/-- OVEN_BAND_LEFT (R113). -/
def execOvenBandLeft (t : Stamp) (mw : BitVec 16) (err : Int) (s : State) : Host.Outcome State Fault Refusal :=
  s.at_ t (fun m => ovenBandLeft m mw.toNat err)
/-- HEATER_FAULT (R113). -/
def execHeaterFault (t : Stamp) (mw : BitVec 16) (err : Int) (s : State) : Host.Outcome State Fault Refusal :=
  s.at_ t (fun m => heaterFault m mw.toNat err)
/-- EPOCH_ORIGIN (R133). -/
def execEpochOrigin (t : Stamp) (s : State) : Host.Outcome State Fault Refusal := s.at_ t epochOrigin
/-- MCLK_FREQ_GATE_DONE (R704). -/
def execMclkFreqGateDone (t : Stamp) (hz : Nat) (s : State) : Host.Outcome State Fault Refusal :=
  s.at_ t (fun m => mclkGate m hz)

end Sys2Proof.Machine
end

