-- ==== Sys2Proof/Machine/Chain.lean ====
section
/-! DEFINITION. The decimation chain (R148 to R179): the grid of output samples, the half-band cascade, the resampler, the
baseline stage and the tone detector. -/
namespace Sys2Proof.Machine

/-! ### The grid of output samples (R152, R154 to R158). Instants are internal ticks times 1,024. -/

/-- Ticks per converter sample of a channel (R5, R98). -/
def convTicks (m : Kz) (c : Nat) : Nat := ticksOf (m.chan c).conv.effMode
/-- D (R148). -/
def decim (m : Kz) (c : Nat) : Nat := 1 <<< m.fld F.CH_CHAIN_CTRL.DEC c
/-- Whether the configuration is wide (R149). -/
def wide (m : Kz) (c : Nat) : Bool := decide (m.fld F.CH_CHAIN_CTRL.DEC c ≤ 2)
/-- Resampler on; in crossing mode. -/
def rsOn (m : Kz) (c : Nat) : Bool := m.on F.CH_CHAIN_CTRL.RS_EN c
def rsCross (m : Kz) (c : Nat) : Bool := rsOn m c && m.on F.CH_CHAIN_CTRL.RS_MODE c
/-- The group delay in converter samples (R22). -/
def groupDelay (m : Kz) (c : Nat) : Nat := 48 + 11 * (decim m c - 1) + if rsOn m c then 8 * decim m c else 0
/-- The group delay as an interval of instants. -/
def delay (m : Kz) (c : Nat) : Nat := groupDelay m c * convTicks m c * 1024
/-- The instant that the sample now entering the chain output ring stands for (R154). -/
def ringInst (m : Kz) (c : Nat) : Nat := m.inst - delay m c

/-- The last crossing edge at or before an instant. -/
def edgeBefore (m : Kz) (i : Nat) : Option Edge := m.tl.edges.find? (fun e => decide (e.at_ ≤ i))
/-- The edge of a crossing number, where it is still known. -/
def edgeNo (m : Kz) (n : Nat) : Option Edge := m.tl.edges.find? (fun e => decide (e.no = n))

/-- The start of the grid of a chain that is not in crossing mode: the first 16-sample boundary at or after its
start (R157), of the last chain where none runs. -/
def gridStart (m : Kz) (c : Nat) : Nat :=
  let b := 16 * convTicks m c
  (((m.chan c).chain.start.getD (m.chan c).chain.grid) + b - 1) / b * b * 1024
/-- The step of that grid, as a fraction of instants: numerator and denominator. -/
def gridStep (m : Kz) (c : Nat) : Nat × Nat :=
  let s := decim m c * convTicks m c * 1024
  if rsOn m c then (s * 2 ^ 32, max 1 (m.cfgWord .CH_RS_RATIO c).toNat) else (s, 1)
/-- RS_K, at least 1. -/
def rsK (m : Kz) (c : Nat) : Nat := max 1 (m.fld F.CH_CHAIN_CTRL.RS_K c)
/-- The instant of output sample `j` of the crossing with an edge, exactly, as a fraction (R158), and to 1/1024 tick. -/
def crossPos158 (m : Kz) (c : Nat) (e : Edge) (j : Nat) : Nat × Nat :=
  (e.at_ * (1024 * rsK m c) + (j * 1024 + m.fld F.CH_CHAIN_CTRL.RS_PHASE c) * e.period, 1024 * rsK m c)
def crossInst (m : Kz) (c : Nat) (e : Edge) (j : Nat) : Nat :=
  let q := crossPos158 m c e j
  (roundEven (q.1 : Nat) q.2).toNat
/-- The exact input-referred instant of output sample `n` of a channel, as a fraction of instants: sample n of the grid, or in
crossing mode sample n mod RS_K of crossing n ÷ RS_K; a crossing not yet measured is projected from the last one. -/
def samplePos (m : Kz) (c n : Nat) : Nat × Nat :=
  if rsCross m c then
    let no := n / rsK m c
    let j := n % rsK m c
    match edgeNo m no with
    | some e => crossPos158 m c e j
    | none =>
      match m.tl.edges with
      | e :: _ => let q := crossPos158 m c e j; (q.1 + (no - e.no) * e.period * q.2, q.2)
      | [] => (0, 1)
  else
    let s := gridStep m c
    (gridStart m c * s.2 + n * s.1, s.2)
/-- That instant to 1/1024 tick. -/
def sampleInst (m : Kz) (c n : Nat) : Nat := let q := samplePos m c n; (roundEven (q.1 : Nat) q.2).toNat
/-- The first output sample whose instant lies at or after `i` (R186). -/
def sampleAt (m : Kz) (c i : Nat) : Nat :=
  if rsCross m c then
    let k := rsK m c
    match edgeBefore m (i - m.fld F.CH_CHAIN_CTRL.RS_PHASE c) with
    | some e => ((upTo (2 * k)).map (fun j => e.no * k + j)).find? (fun n => decide (i ≤ sampleInst m c n)) |>.getD (e.no * k)
    | none => match m.tl.edges.getLast? with
      | some e => e.no * k
      | none => 0
  else
    let s := gridStep m c
    let d := (i - gridStart m c) * s.2
    let n := (d + s.1 - 1) / s.1
    if 0 < n && i ≤ sampleInst m c (n - 1) then n - 1 else if sampleInst m c n < i then n + 1 else n
/-- The same two for a sample and an instant that may lie before the channel's first: the grid, or the crossings, carried
on backwards. -/
def sampleInstZ (m : Kz) (c : Nat) (n : Int) : Nat :=
  if 0 ≤ n then sampleInst m c n.toNat
  else if rsCross m c then
    let q := ((-n).toNat + rsK m c - 1) / rsK m c
    match m.tl.edges.getLast? with
    | some e => crossInst m c e (n + q * rsK m c).toNat - (e.no + q) * e.period
    | none => 0
  else (gridStart m c + roundEven (n * (gridStep m c).1) (gridStep m c).2).toNat
def sampleAtZ (m : Kz) (c i : Nat) : Int :=
  if rsCross m c || decide (gridStart m c ≤ i) then sampleAt m c i
  else -(((gridStart m c - i) * (gridStep m c).2 / (gridStep m c).1 : Nat) : Int)
/-- The first output sample delivered: its whole filter span lies after the start (R152). -/
def firstDelivered (m : Kz) (c : Nat) : Nat :=
  let h := (groupDelay m c - 48) * convTicks m c * 1024
  sampleAt m c (((m.chan c).chain.start.getD 0) * 1024 + h)
/-- The first output sample stored: delivered, and written no earlier than R48 lets it. -/
def firstStored (m : Kz) (c : Nat) : Nat :=
  max (firstDelivered m c) (sampleAt m c ((m.chan c).chain.storeFrom * 1024 - delay m c))
/-- Whether a channel delivers samples: region in RUN, chain running, a healthy slice (R100). -/
def running (m : Kz) (c : Nat) : Bool := (m.chan c).chain.start.isSome && !chanFailed m c
/-- R279: whether the output rate exceeds 5.12 GS/s. -/
def fastOutput (m : Kz) (c : Nat) : Bool :=
  if rsCross m c then
    match m.tl.edges with
    | e :: _ => decide (5120000000 * e.period < tickHz m * 1024 * rsK m c)
    | [] => false
  else let s := gridStep m c; decide (5120000000 * s.1 < tickHz m * 1024 * s.2)

/-! ### Chain start and end -/

/-- R152, R163: the chain starts empty, at RUN entry or after a restart. Samples are stored from 2 µs after the last write of GAIN
or OFFSET (R48). A restart in RUN starts BLOCK_SEQ and TONE_OUTSIDE again, as RUN entry does (DESIGN CHOICE, entry 100), and keeps
RS_RANGE (R160). -/
def chainEnter (m : Kz) (c : Nat) : Kz :=
  let bl := if m.on F.CH_CHAIN_CTRL.SLOT_EN c && !wide m c then BlState.acquire else .off
  let f := (m.chan c).fe
  let wait := if f.settling then ticksIn m (f.settleAt - m.now.ns) else 0
  m.modChain c (fun x => {
    start := some m.now.tick, startNs := m.now.ns, grid := m.now.tick, toneFrom := m.now.tick, storeFrom := m.now.tick + wait, bl := bl,
    frzCmd := m.on F.CH_CHAIN_CTRL.BL_FREEZE c, rsRange := x.rsRange, mag2 := x.mag2, phase := x.phase,
    stages := List.replicate (m.fld F.CH_CHAIN_CTRL.DEC c) {} })
/-- The tone words of a channel's closed records that still wait for them: those that are there, before the chain that made them
stops (R239). -/
def toneIn (x : Chain) (w : Nat × Nat) : List (Nat × Nat) :=
  (x.toneWords.filter (fun p => decide (w.1 ≤ p.2) && decide (p.2 ≤ w.2))).reverse
def takeTone (x : Chain) (r : Rec) : Rec :=
  if r.toTone then { r with tone := (toneIn x (r.win.getD (0, 0))).map (fun p => p.1), toTone := false } else r
/-- R163, R172: the chain stops; the estimate, the ring and the block in progress are discarded. -/
def chainLeave (m : Kz) (c : Nat) : Kz :=
  let x := (m.chan c).chain
  let m := m.modMem c (fun y => { y with closed := y.closed.map (takeTone x) })
  m.modChain c (fun x => { grid := x.start.getD x.grid, blockSeq := x.blockSeq, outside := x.outside, mag2 := x.mag2, phase := x.phase, rsRange := x.rsRange })
/-- R160: RS_RANGE clears when the region leaves RUN. -/
def rangeClear (m : Kz) (c : Nat) : Kz := (m.modChain c (fun x => { x with rsRange := false })).closeSpan (.rsRange c)

/-! ### Samples on their way (R51, R150). A sample is a word with its mark. -/

/-- What the samples of a channel change as they pass: the channel, the counter of free values, saturation episodes, and whether
a sample was marked or saturated in a stage. -/
structure Path where
  x : Channel
  fresh : Nat
  episodes : Nat := 0
  sat : Bool := false
  arith : Bool := false

/-- The chain of a channel passed through `f`. -/
def Path.mod (p : Path) (f : Chain → Chain) : Path := { p with x := { p.x with chain := f p.x.chain } }
/-- A stage's result: saturated to 16 bits, and then marked (R150). -/
def settle16 (v : Int) (mark : Bool) : Int × Bool := (satS 16 v, mark || outS 16 v)
/-- The note of a saturation. -/
def Path.note (p : Path) (v : Int) : Path := { p with arith := p.arith || outS 16 v }
/-- A sample that no command told, free in value and mark. -/
def untold (key : List Nat) : Int × Bool := (satS 16 (Config.untoldWord key), Config.untoldMark key)
/-- The inputs of a chain's stages are counted from this many converter samples before its grid, so that those between the
chain's start and the grid's have an index. -/
def lead : Nat := 4096
/-- The key of a sample of a channel's chain: stage 0 an output sample, stage 10 a block mean of the slot. -/
def keyOf (c : Nat) (x : Chain) (stage i : Nat) : List Nat := [c, x.startNs, stage, i]

/-- An input enters a filter's history of `len` samples; after a gap the history starts again. -/
def Stage.push (s : Stage) (len i : Nat) (v : Int × Bool) : Stage :=
  { hist := (v :: if i = s.next then s.hist else []).take len, next := i + 1 }
/-- The word of the input `j` before the newest one. -/
def Stage.tap (s : Stage) (j : Nat) : Int := (s.hist.getD j (0, false)).1
/-- Whether an input of the filter span is marked (R51). -/
def Stage.marked (s : Stage) : Bool := s.hist.any (fun v => v.2)

/-! ### Half-band cascade (R150, R153) -/

/-- A 23-tap linear-phase half-band filter over its inputs, before rounding: a centre tap of one half, and equal taps at the odd
distances. -/
def halfBand (w : Nat → Int) : Int :=
  (upTo 6).foldl (fun a j => a + Config.halfBandTap j * (w (10 - 2 * j) + w (12 + 2 * j))) (2 ^ 31 * w 11)
/-- A sample at the input `i` of a half-band stage: every second one completes an output, which lies 11 inputs back. An output comes
once the stage holds its whole span (R152). -/
def halfBandStep (s : Stage) (i : Nat) (v : Int × Bool) : Stage × Option (Nat × Int × Bool) :=
  let s := s.push 23 i v
  (s, if i % 2 = 1 && s.hist.length = 23 then some ((i - 11) / 2, roundEven (halfBand s.tap) (2 ^ 32), s.marked) else none)
/-- The stages of the cascade, each fed by the one before. -/
def cascade : List Stage → Nat → Int × Bool → List Stage × Bool × Option (Nat × Int × Bool)
  | [], i, v => ([], false, some (i, v))
  | s :: r, i, v =>
    match halfBandStep s i v with
    | (s, none) => (s :: r, false, none)
    | (s, some (o, y, mk)) =>
      let q := cascade r o (settle16 y mk)
      (s :: q.1, outS 16 y || q.2.1, q.2.2)

/-! ### Resampler (R153, R157, R158, R160) -/

/-- Where output sample `n` lies among the resampler's inputs: the input before it, and the nearest of the 1,024 phases after
that one (ties to the even phase). -/
def rsPhase (m : Kz) (c n : Nat) : Nat × Nat :=
  let q := samplePos m c n
  let d := decim m c * convTicks m c * 1024 * q.2
  let p := (roundEven ((q.1 - gridStart m c * q.2) * 1024 : Nat) d).toNat
  (p / 1024, p % 1024)
/-- The output samples whose span of 16 inputs the input `i` of the grid completes: those that lie 8 inputs back. -/
def rsOutputs (m : Kz) (c i : Nat) : List Nat :=
  let first := sampleAt m c (gridStart m c + (i - 8) * (decim m c * convTicks m c * 1024)) - 1
  ((upTo 260).map (fun j => first + j)).filter (fun n => decide (8 ≤ i) && (rsPhase m c n).1 = i - 8)
/-- An input of the resampler: it computes at most one output sample; the others that fall on the same input repeat it (R160). -/
def resample (m : Kz) (c : Nat) (x : Chain) (i : Nat) (v : Int × Bool) : Stage × Bool × List OutSample :=
  let s := x.rs.push 16 i v
  if s.hist.length < 16 then (s, false, [])
  else match rsOutputs m c (i - lead / decim m c) with
  | [] => (s, false, [])
  | n :: r =>
    let ph := (rsPhase m c n).2
    let y := roundEven ((upTo 16).foldl (fun a t => a + Config.resamplerTap ph t * s.tap t) 0) (2 ^ 32)
    let o := settle16 y s.marked
    (s, outS 16 y, (n :: r).map (fun k => ⟨k, o.1, o.2⟩))

/-! ### Baseline stage (R161 to R164) -/

/-- Whether a freeze cause holds. -/
def frozenBy (x : Chain) : Bool := x.frzCmd || x.frzWin || x.frzExc
/-- Whether the estimate is held: by any cause, in REACQUIRE by the command and the window alone (R163). -/
def held (x : Chain) : Bool := if x.bl = .reacquire then x.frzCmd || x.frzWin else frozenBy x
/-- The lag L (R161). -/
def blLag (m : Kz) (c : Nat) : Nat := if m.on F.CH_SLOT_CFG.FRZ_WIN c then 16 * m.fld F.CH_REC_WIN.PRE c + 32 else 0
/-- EXC_THR in 1/65,536 word; a code is 16 words. -/
def excThr (m : Kz) (c : Nat) : Nat := m.fld F.CH_SLOT_CFG.EXC_THR c * 16 * 65536
/-- R161: one update of the estimate by a lagged block mean. The estimate is held to 16 fractional bits; which of the two
neighbours an update between them gives is left open. -/
def blUpdate (m : Kz) (c : Nat) (mean : Int) (p : Path) : Path :=
  let d := mean - p.x.chain.est
  let s : Int := 2 ^ m.fld F.CH_SLOT_CFG.TAU_K c
  let u : Nat := if d % s = 0 then 0 else Config.freeValue p.fresh % 2
  { p with fresh := if d % s = 0 then p.fresh else p.fresh + 1 }.mod (fun x => { x with est := x.est + d / s + u })
/-- The freeze causes at a lagged mean whose output sample stands at an instant (R162). -/
def blCauses (m : Kz) (c : Nat) (mean : Int) (inst : Nat) (x : Chain) : Chain :=
  let d := (mean - x.est).natAbs
  let above := decide (excThr m c < d)
  let exc := m.on F.CH_SLOT_CFG.FRZ_EXC c && x.bl != .reacquire && (above || decide (0 < x.excTail))
  let win := m.on F.CH_SLOT_CFG.FRZ_WIN c && x.windows.any (fun w => decide (w.1 ≤ inst) && decide (inst ≤ w.2))
  { x with frzExc := exc, frzWin := win, resid := d, excTail := if above then 16 else x.excTail - 1,
           excFrom := if exc && !x.frzCmd && !win then some (x.excFrom.getD m.now.tick) else none }
/-- A completed block `q` with its mean: ACQUIRE takes the first 256, then the lagged ones update the estimate (R161 to R163). -/
def blMean (m : Kz) (c q : Nat) (mean : Int) (p : Path) : Path :=
  let x := p.x.chain
  let p := p.mod (fun x => { x with means := (mean :: x.means).take 4097 })
  if x.bl = .off then p
  else if x.acqCount < 256 then
    p.mod (fun x => { x with acqCount := x.acqCount + 1, acqSum := x.acqSum + mean,
                             est := if x.acqCount = 255 then (x.acqSum + mean) / 256 else 0 })
  else
    let l := blLag m c
    match p.x.chain.means[l]? with
    | none => p
    | some v =>
      let p := p.mod (blCauses m c v (gridStart m c + (q - l) * (decim m c * convTicks m c * 1024)))
      if held p.x.chain then p else blUpdate m c v p
/-- A sample of the baseline stage, number `k` of the chain's inputs: the estimate, rounded, is subtracted once ACQUIRE has
it; every D samples of the grid give a mean. -/
def blSample (m : Kz) (c k : Nat) (v : Int × Bool) (p : Path) : Path × (Int × Bool) :=
  let x := p.x.chain
  let d := decim m c
  let y := if x.acqCount = 256 then v.1 - roundEven x.est 65536 else v.1
  let p := p.note y
  let first := k % d = 0
  let p := p.mod (fun x => { x with
    blkSum := (if first then 0 else x.blkSum) + v.1, blkHole := !first && (x.blkHole || k != x.nextIdx) })
  let z := p.x.chain
  let mean : Int := if z.blkHole then (untold (keyOf c z 10 (k / d))).1 * 65536 else z.blkSum * 65536 / d
  (if (k + 1) % d = 0 && lead ≤ k then blMean m c ((k - lead) / d) mean p else p, settle16 y v.2)
/-- The ticks that `n` output samples of a chain without resampler take. -/
def outTicks (m : Kz) (c n : Nat) : Nat := n * decim m c * convTicks m c
/-- BL_ACQUIRE_DONE: 256 output samples have passed; a freeze that has begun meanwhile takes the stage to FROZEN (R163,
R164). The event's estimate, in 1/65,536 word, is for a chain whose 256 means were not all told (entry 97). -/
def blAcquireDone (m : Kz) (c : Nat) (est : Int) : Kz :=
  let x := (m.chan c).chain
  if x.bl = .acquire && (x.acqCount = 256 || decide (x.start.getD 0 + outTicks m c 256 ≤ m.now.tick)) then
    m.modChain c (fun x => { x with
      bl := if frozenBy x then .frozen else .track, est := if x.acqCount = 256 then x.est else est, acqCount := 256 })
  else m
/-- A window or an excursion that the event reports as begun or ended (R162); the command cause is its register bit. -/
def causeTold (m : Kz) (c : Nat) (on : Bool) : FreezeCause → Kz
  | .command => m
  | .window => m.modChain c (fun x => { x with frzWin := on && m.on F.CH_SLOT_CFG.FRZ_WIN c })
  | .excursion => m.modChain c (fun x =>
      { x with frzExc := on && m.on F.CH_SLOT_CFG.FRZ_EXC c && x.bl != .reacquire, excTail := if on then x.excTail else 0 })
/-- Since when the excursion alone freezes the estimate. -/
def excAlone (m : Kz) (c : Nat) : Kz := m.modChain c (fun x =>
  { x with excFrom := if x.frzExc && !x.frzCmd && !x.frzWin then some (x.excFrom.getD m.now.tick) else none })
/-- BL_FREEZE_BEGIN: a freeze cause holds (R163); in REACQUIRE only the command and the window count. -/
def freezeBegin (m : Kz) (c : Nat) : Kz :=
  let x := (m.chan c).chain
  if (x.bl = .track || x.bl = .reacquire) && held x then excAlone (m.modChain c (fun x => { x with bl := .frozen })) c else m
/-- BL_FREEZE_END: no freeze cause holds any more (R163). -/
def freezeEnd (m : Kz) (c : Nat) : Kz :=
  let x := (m.chan c).chain
  if x.bl = .frozen && !frozenBy x then m.modChain c (fun x => { x with bl := .track, excFrom := none }) else excAlone m c
/-- CH_SLOT_RESULT (R178). -/
def slotResult (m : Kz) (c : Nat) : Nat :=
  let x := (m.chan c).chain
  if wide m c then (packFields [(F.CH_SLOT_RESULT.MAG_HI, x.mag2 / 65536), (F.CH_SLOT_RESULT.PHASE, x.phase)]).toNat
  else
    let b := match x.bl with | .off => 0 | .acquire => 1 | .track => 2 | .frozen => 3 | .reacquire => 4
    (packFields [(F.CH_SLOT_RESULT.ESTIMATE, toU 16 (roundEven x.est 65536)), (F.CH_SLOT_RESULT.BL_STATE, b)]).toNat
/-- BL_REACQUIRE (R163): the excursion cause alone has held for 2^(TAU_K + 2) output samples. -/
def blReacquire (m : Kz) (c : Nat) : Kz :=
  let x := (m.chan c).chain
  if x.bl = .frozen && x.excFrom.any (fun t => decide (t + outTicks m c (2 ^ (m.fld F.CH_SLOT_CFG.TAU_K c + 2)) ≤ m.now.tick)) then
    let m := m.modChain c (fun x => { x with bl := .reacquire, frzExc := false, excTail := 0, excFrom := none })
    (m.mark F.CH_CHAIN_STAT.BL_REACQ_SEEN c).logE 0x0120 0 1 c 0 (slotResult m c)
  else m
/-- BL_REACQUIRE_DONE (R163): the lagged residual lies below half the threshold; the event's residual, in 1/65,536 word, is for a
chain whose lagged mean was not told (entry 97). -/
def blReacquireDone (m : Kz) (c : Nat) (resid : Nat) : Kz :=
  let x := (m.chan c).chain
  let r := if blLag m c < x.means.length then x.resid else resid
  if x.bl = .reacquire && 2 * r < excThr m c then m.modChain c (fun x => { x with bl := .track }) else m
/-- R162: BL_FREEZE written; it counts from the next output sample on, and the stage's state follows. -/
def blFreezeWritten (m : Kz) (c : Nat) (o w : Word) : Kz :=
  if F.CH_CHAIN_CTRL.BL_FREEZE.of o = F.CH_CHAIN_CTRL.BL_FREEZE.of w || (m.chan c).chain.start.isNone then m
  else
    let m := m.modChain c (fun x => { x with frzCmd := F.CH_CHAIN_CTRL.BL_FREEZE.of w = 1 })
    if F.CH_CHAIN_CTRL.BL_FREEZE.of w = 1 then freezeBegin m c else freezeEnd m c

/-! ### Tone detector (R165 to R173) -/

/-- One sample into the bin: the detector's phase is FREQ times the sample's datum index, in 2^-24 turn, so that the sum's
angle is that of A cos(2πft + φ) with t counted from the epoch origin (R165, R168). -/
def toneAdd (freq : Nat) (v : Int × Bool) (b : ToneBlock) : ToneBlock :=
  let a := freq * (b.datum + b.count) % 2 ^ 24
  { b with count := b.count + 1, re := b.re + v.1 * Config.cosine a,
           im := b.im - v.1 * Config.cosine ((a + 3 * 2 ^ 22) % 2 ^ 24), sat := b.sat || v.2 }
/-- The datum index of a tick: the datum count over the ticks of a converter sample (R166). -/
def datumIndex (m : Kz) (c t : Nat) : Nat := m.datumOf t / convTicks m c
/-- The first tick at or after `t` that begins a block in the epoch it lies in (R166, R169). -/
def nextBlock (m : Kz) (c t : Nat) : Nat :=
  let tc := convTicks m c
  let len := 2 ^ m.fld F.CH_SLOT_CFG.NEXP c
  let up (t : Nat) : Nat := ceilTo t tc
  let from_ (t : Nat) : Nat := up t + (len - datumIndex m c (up t) % len) % len * tc
  if up t < m.tb.origin && m.tb.origin ≤ from_ t then from_ m.tb.origin else from_ t
/-- A sample of the detector, converter index `idx`: it goes on with the block in progress, or begins one where its datum
index is a multiple of the block length (R166, R169). -/
def toneSample (m : Kz) (c idx : Nat) (v : Int × Bool) (x : Chain) : Chain :=
  let tc := convTicks m c
  let len := 2 ^ m.fld F.CH_SLOT_CFG.NEXP c
  let d := datumIndex m c (idx * tc)
  let here := match x.tone.filter (fun b => decide (idx < b.first / tc + len)) with
    | some b => some { b with hole := b.hole || b.first / tc + b.count != idx, count := idx - b.first / tc }
    | none => if d % len = 0 then some { first := idx * tc, datum := d } else none
  match here with
  | none => { x with tone := none }
  | some b =>
    let b := toneAdd (m.fld F.CH_SLOT_CFG.FREQ c) v b
    if b.count = len then { x with tone := none, toneDone := x.toneDone ++ [b] } else { x with tone := some b }
/-- MAG2, PHASE and SAT of a block (R167, R168, R170): of one that was not wholly told, those that the event brings (entry 97). Which
whole number next to the quotient MAG2 is, the spec leaves open. -/
def toneFigures (m : Kz) (c : Nat) (b : Option ToneBlock) (mag2 phase : Nat) (sat : Bool) : (Nat × Nat × Bool) × Kz :=
  let len := 2 ^ m.fld F.CH_SLOT_CFG.NEXP c
  match b.filter (fun b => !b.hole) with
  | some b =>
    let (q, m) := m.freeQuot (4 * (b.re * b.re + b.im * b.im)) (len * len * 2 ^ 60)
    ((satU 32 q.toNat, Config.angle b.re b.im % 65536, b.sat), m)
  | none => ((satU 32 mag2, phase % 65536, sat || b.any (fun b => b.sat)), m)
/-- TONE_BLOCK_RESULT: the next block, whose last sample, at tick `last`, has left input correction, gives MAG2, PHASE and its flags (R166, R167,
R170, R171). The BLOCK_SEQ of its word is the count before it, so the first block carries 0 (DESIGN CHOICE, entry 100).
TONE_EXIT goes out with the block's datum count (R155). -/
def toneBlock (m : Kz) (c last mag2 phase : Nat) (sat : Bool) : Kz :=
  let x := (m.chan c).chain
  let tc := convTicks m c
  let first := nextBlock m c x.toneFrom
  let stop := first + 2 ^ m.fld F.CH_SLOT_CFG.NEXP c * tc
  if x.start.isNone || !(m.on F.CH_CHAIN_CTRL.SLOT_EN c && wide m c) || last != stop - tc || m.now.tick < last + 48 * tc then m
  else
    let ((mag, ph, sat), m) := toneFigures m c (x.toneDone.find? (fun b => b.first = first)) mag2 phase sat
    let hi := mag / 65536
    let out := hi < m.fld F.CH_SLOT_AUX.WIN_LO c || m.fld F.CH_SLOT_AUX.WIN_HI c < hi
    let w := mag <<< 32 ||| ph <<< 16 ||| b2n sat <<< 15 ||| b2n out <<< 14 ||| x.blockSeq % 16384
    let m := m.modChain c (fun x => { x with
      toneFrom := stop, toneDone := x.toneDone.filter (fun b => decide (first < b.first)),
      blockSeq := x.blockSeq + 1, outside := out, mag2 := mag, phase := ph,
      toneWords := ((w, last * 1024) :: x.toneWords).take 131072 })
    if out && !x.outside then (m.mark F.CH_CHAIN_STAT.TONE_EXIT_SEEN c).notifyAt (m.datumOf first) 1 1 c [] else m

/-! ### Resampler range (R160) -/

/-- The crossing ratio of a channel for a period, as a fraction (R158): 8 × RS_K × D ÷ (N × P), with P in ticks. -/
def rsRatio (m : Kz) (c period : Nat) : Nat × Nat :=
  (m.fld F.CH_CHAIN_CTRL.RS_K c * decim m c * convTicks m c * 1024, period)
/-- Whether a ratio lies in [0.5, 1.0). -/
def rsInRange (r : Nat × Nat) : Bool := decide (r.2 ≤ 2 * r.1) && decide (r.1 < r.2)
/-- R160: the ratio judged at a crossing edge, for one channel. -/
def rsJudge (m : Kz) (c : Nat) (e : Edge) : Kz :=
  if rsCross m c && (m.chan c).chain.start.isSome then
    let ok := rsInRange (rsRatio m c e.period)
    let was := (m.chan c).chain.rsRange
    if !ok && !was then
      let m := (m.modChain c (fun x => { x with rsRange := true })).openSpanAt (.rsRange c) (e.at_ / 1024)
      (m.mark F.CH_CHAIN_STAT.RS_RANGE_SEEN c).logFrom e.at_ 0x0121 0 1 c 0 0
    else if ok && was then
      (m.modChain c (fun x => { x with rsRange := false })).closeSpanAt (.rsRange c) (e.at_ / 1024)
    else m
  else m

/-! ### Meanings -/

/-- BL_ACQUIRE_DONE (R163). -/
def execBlAcquireDone (t : Stamp) (c : Chan) (est : Int) (s : State) : Host.Outcome State Fault Refusal :=
  s.at_ t (fun m => blAcquireDone m c est)
/-- BL_FREEZE_BEGIN (R163). -/
def execBlFreezeBegin (t : Stamp) (c : Chan) (cause : FreezeCause) (s : State) : Host.Outcome State Fault Refusal :=
  s.at_ t (fun m => freezeBegin (causeTold m c true cause) c)
/-- BL_FREEZE_END (R163). -/
def execBlFreezeEnd (t : Stamp) (c : Chan) (cause : FreezeCause) (s : State) : Host.Outcome State Fault Refusal :=
  s.at_ t (fun m => freezeEnd (causeTold m c false cause) c)
/-- BL_REACQUIRE (R163). -/
def execBlReacquire (t : Stamp) (c : Chan) (s : State) : Host.Outcome State Fault Refusal :=
  s.at_ t (fun m => blReacquire m c)
/-- BL_REACQUIRE_DONE (R163). -/
def execBlReacquireDone (t : Stamp) (c : Chan) (resid : Nat) (s : State) : Host.Outcome State Fault Refusal :=
  s.at_ t (fun m => blReacquireDone m c resid)
/-- TONE_BLOCK_RESULT (R170). -/
def execToneBlockResult (t : Stamp) (c : Chan) (last mag2 phase : Nat) (sat : Bool) (s : State) : Host.Outcome State Fault Refusal :=
  s.at_ t (fun m => toneBlock m c last mag2 phase sat)


end Sys2Proof.Machine
end

