-- ==== Sys2Proof/Machine/Record.lean ====
section
/-! DEFINITION. Records and stubs: windows, slots, header contents, the accept queue, closing, release order
(R231 to R266, R412 to R414). -/
namespace Sys2Proof.Machine

/-! ### Flags (R414) -/

def fSTUB : Nat := 1
def fLOST : Nat := 2
def fOVERFLOW : Nat := 4
def fTRUNC : Nat := 8
def fECC_CORR : Nat := 16
def fECC_UNCORR : Nat := 32
def fSUPPLY : Nat := 64
def fMASK : Nat := 128
def fMEAS : Nat := 256
def fSAT : Nat := 512
def fSLICE : Nat := 1024
def fCLOCK : Nat := 2048
def fUNREG : Nat := 4096
def fRECOVERED : Nat := 8192
def fHOLDOVER : Nat := 16384

/-- The flags a record's window earns at the moment its header is written (R34, R96, R130 to R132, R160, R255,
R591, R631). -/
def winFlags (m : Kz) (c : Nat) (w : Nat × Nat) : Nat :=
  let k := c / 16
  let f (b : Bool) (n : Nat) : Nat := if b then n else 0
  f (m.inSpan .dip w) fSUPPLY
    ||| f (degraded m c || m.inSpan (.suspect c) w || m.inSpan (.revert c) w) fSLICE
    ||| f (m.inSpan .clockUnlock w || m.inSpan (.skew k) w) fCLOCK
    ||| f (m.inSpan .unreg w) fUNREG
    ||| f (m.inSpan (.regionRestart k) w) fRECOVERED
    ||| f (m.inSpan .holdover w || (rsOn m c && m.inSpan .virtual w) || m.inSpan (.rsRange c) w) fHOLDOVER

/-! ### Settings -/

/-- RGN_ACQ_CTRL.MODE: 0 SCOPE, 1 LATENCY, 2 STREAM, 3 ACCUMULATE. -/
def acqMode (m : Kz) (k : Nat) : Nat := m.fld F.RGN_ACQ_CTRL.MODE k
/-- Record length and pre-trigger length, output samples (R270). -/
def recLen (m : Kz) (c : Nat) : Nat := 16 * m.fld F.CH_REC_WIN.LEN c
def recPre (m : Kz) (c : Nat) : Nat := 16 * m.fld F.CH_REC_WIN.PRE c
/-- Whether the channel's samples are stored in packed-12 (R235). -/
def packed (m : Kz) (c : Nat) : Bool := m.on F.CH_MEM_CTRL.FORMAT c
/-- Whether triggered and accept records carry tone words (R239), and whether stream records do, by STREAM_SEL alone (R239,
R252). -/
def toneRec (m : Kz) (c : Nat) : Bool :=
  m.on F.CH_MEM_CTRL.TONE_REC c && wide m c && m.on F.CH_CHAIN_CTRL.SLOT_EN c
def toneStream (m : Kz) (c : Nat) : Bool := m.on F.CH_MEM_CTRL.STREAM_SEL c
/-- Points of mask `x` in force: 0 while its memory is uncorrectable (R620). -/
def npts (m : Kz) (c x : Nat) : Nat :=
  if (m.rgn (c / 16)).err.maskBad.contains (c, x) then 0
  else if x = 0 then m.fld F.CH_MASK_CTRL.NPTS0 c else m.fld F.CH_MASK_CTRL.NPTS1 c
/-- Whether a channel is masking (R278). -/
def masking (m : Kz) (c : Nat) : Bool :=
  m.on F.CH_MEM_CTRL.REC_EN c && (npts m c 0 != 0 || npts m c 1 != 0)

/-- The slot size of R240, bytes. -/
def slotBytes (m : Kz) (c : Nat) : Nat :=
  let k := c / 16
  let mode := acqMode m k
  let len := recLen m c
  let samples := if mode = 2 ∧ m.fld F.CH_MEM_CTRL.STREAM_SEL c = 1 then 0
    else if packed m c then len / 16 * 24 else 2 * len
  let words := if m.on F.CH_MASK_CTRL.MEAS_EN c && mode != 3 then 56 else if masking m c then 8 else 0
  let annots := if (m.fld F.ENG_CTRL.EN k).testBit (c % 16) then 64 else 0
  let sc := len * decim m c * (if rsOn m c then 2 else 1)
  let t := sc / 2 ^ m.fld F.CH_SLOT_CFG.NEXP c + 1
  let tone := if (mode = 2 && toneStream m c) || (mode < 2 && toneRec m c) then 8 * t else 0
  (64 + samples + words + annots + tone + 63) / 64 * 64
/-- Banks of the segment store (R231): in LATENCY mode those beyond the ring. -/
def storeBanks (m : Kz) (c : Nat) : Nat :=
  if acqMode m (c / 16) = 1 then m.fld F.CH_MEM_CTRL.BANKS c - m.fld F.CH_MEM_CTRL.RING_BANKS c
  else m.fld F.CH_MEM_CTRL.BANKS c
/-- Output samples the ring holds (R231, R235). -/
def ringSamples (m : Kz) (c : Nat) : Nat :=
  let b := m.fld F.CH_MEM_CTRL.RING_BANKS c * 81920
  if packed m c then b / 24 * 16 else b / 2

/-- Output samples the store that is written continuously holds (R231, R233, R235). -/
def storeSamples (m : Kz) (c : Nat) : Nat :=
  if acqMode m (c / 16) = 1 then ringSamples m c
  else
    let b := m.fld F.CH_MEM_CTRL.BANKS c * 81920
    if packed m c then b / 24 * 16 else b / 2
/-- A sample as the storage format keeps it: a packed-12 store drops bits 3:0 (R235). -/
def asStored (pk : Bool) (x : Int) : Int := if pk then x / 16 * 16 else x
/-- The stored sample of an index with its mark; one that no command told is free (R215, entry 97). -/
def storedAt (m : Kz) (c n : Nat) : Int × Bool :=
  match (m.chan c).mem.store.find? (fun s => s.idx = n) with
  | some s => (s.word, s.mark)
  | none => let v := untold (keyOf c (m.chan c).chain 0 n); (asStored (packed m c) v.1, v.2)

/-- A record that holds no slot any more. -/
def Rec.unslot (c : Nat) (r : Rec) : Rec := if r.ch = c then { r with slot := none } else r
/-- A frame whose records of a channel hold no slot any more. -/
def FlueFrame.unslot (c : Nat) (f : FlueFrame) : FlueFrame := { f with recs := f.recs.map (Rec.unslot c) }
/-- The records of a channel that have closed and not yet left hold no slot any more. -/
def unslotAll (m : Kz) (c : Nat) : Kz :=
  let m := m.modLg (c / 16) (fun g => { g with
    queue := g.queue.map (Rec.unslot c), resend := g.resend.map (FlueFrame.unslot c),
    lanes := g.lanes.map (fun p => (p.1, { p.2 with frame := p.2.frame.map (FlueFrame.unslot c) })) })
  m.modMem c (fun y => { y with
    closed := y.closed.map (Rec.unslot c), folds := y.folds.map (fun f => { f with rcd := Rec.unslot c f.rcd }) })
/-- R240, R242, R243: slots at RUN entry; every one of them is free, records still to leave included. -/
def memEnter (m : Kz) (c : Nat) : Kz :=
  let size := slotBytes m c
  let mode := acqMode m (c / 16)
  let n := if mode = 0 ∨ mode = 3 then m.fld F.RGN_ACQ_CTRL.SEGS_M1 (c / 16) + 1
    else storeBanks m c * 81920 / max 1 size
  (unslotAll m c).modMem c (fun y => { y with
    slots := n, slotSize := size, used := [], kept := [], writing := none, open_ := [], store := [],
    streamNext := firstStored m c })
/-- A channel restart in RUN starts the stored samples again and frees no segment that is kept (R215, R243, R288). -/
def memResume (m : Kz) (c : Nat) : Kz :=
  m.modMem c (fun y => { y with open_ := [], store := [], streamNext := firstStored m c })

/-- A free slot of a channel's segment store, lowest first. -/
def freeSlot (m : Kz) (c : Nat) : Option Nat :=
  let y := (m.chan c).mem
  (upTo y.slots).find? (fun i => !y.used.contains i)
/-- A slot taken. -/
def takeSlot (m : Kz) (c i : Nat) : Kz := m.modMem c (fun y => { y with used := i :: y.used })
/-- R243, R288: a slot whose record has wholly left; kept in sequence arming and after a mask STOP, else free. -/
def slotDone (m : Kz) (c : Nat) (s : Option Nat) : Kz :=
  match s with
  | none => m
  | some i =>
    let keep := (acqMode m (c / 16) = 0 && m.on F.CH_TRIG_CTRL.ARM_MODE c) || (m.chan c).trig.maskStop
    m.modMem c (fun y => if keep then { y with kept := i :: y.kept } else { y with used := y.used.erase i })
/-- A slot given back at once: its record became a stub (R260). -/
def slotFree (m : Kz) (c : Nat) (s : Option Nat) : Kz :=
  match s with
  | none => m
  | some i => m.modMem c (fun y => { y with used := y.used.erase i })
/-- R243, R288: ARM frees every segment but those of open records and the one being written. -/
def freeSegments (m : Kz) (c : Nat) : Kz :=
  (unslotAll m c).modMem c (fun y => { y with
    used := y.open_.filterMap (fun r => r.slot) ++ (match y.writing with | some s => [s] | none => []), kept := [] })

/-! ### Bytes of a record (R236 to R238, R412, R413) -/

/-- The 24 bytes of 16 packed samples. -/
def pack12 (l : List Int) : List Byte :=
  be 24 (l.foldl (fun a x => a * 4096 + toU 16 x / 16) 0)
/-- Sample bytes: packed in whole groups where the count allows it, else 16-bit. -/
def sampleBytes (fuel : Nat) (pk : Bool) (l : List Int) : List Byte :=
  match fuel, l with
  | 0, _ => []
  | _, [] => []
  | f + 1, x :: r =>
    if pk then pack12 ((x :: r).take 16) ++ sampleBytes f pk ((x :: r).drop 16)
    else be 2 (toU 16 x) ++ sampleBytes f pk r
/-- Whether a record's payload format is packed. -/
def Rec.isPacked (r : Rec) : Bool := r.fmt = 1 || r.fmt = 4
/-- The payload: samples, tone words, measurement and annotation words. -/
def Rec.payload (r : Rec) : List Byte :=
  sampleBytes r.samples.length r.isPacked r.samples ++ (r.tone ++ r.words).flatMap (fun w => be 8 w)
/-- The record in its readout layout, in format version `ver`. -/
def Rec.bytes (r : Rec) (ver : Nat) : List Byte :=
  let p := r.payload
  let ticks := match r.time.ticks with | some i => i / 1024 | none => 2 ^ 64 - 1
  let frac := match r.time.ticks with | some i => i % 1024 | none => 1023
  let orbit := match r.time.xing with | some x => x.1 | none => 2 ^ 32 - 1
  let bcn := match r.time.xing with | some x => x.2 | none => 2 ^ 16 - 1
  let kind := match r.kind with | .accept => 1 | .triggered => 2 | .stream => 3
  let h := be 2 0x4B5A ++ be 1 (ver * 16 + kind) ++ be 1 r.ch ++ be 4 r.seq ++ be 3 r.time.event ++ be 1 r.time.epoch
    ++ be 4 orbit ++ be 2 bcn ++ be 2 r.flags ++ be 8 ticks ++ be 2 frac ++ be 1 (r.fmt * 16) ++ be 1 r.words.length
    ++ be 4 p.length ++ be 4 (if ver = 2 then r.config + r.tone.length else 0)
  let b := h ++ p ++ List.replicate ((8 - p.length % 8) % 8) 0
  b ++ be 4 (crc32c b)
/-- Configuration word without the tone-word count (R413). -/
def configWord (m : Kz) (c : Nat) : Nat :=
  (c / 16) <<< 28 ||| (m.chan c).conv.effMode <<< 26 ||| (m.fld F.CH_CHAIN_CTRL.DEC c) <<< 22 ||| b2n (rsOn m c) <<< 21

/-- What the slots of a channel hold once a record is written into its slot, in the layout that FMT gives; what lies beyond the
record stays (R240, R420). -/
def slotWrite (m : Kz) (c : Nat) (r : Rec) (t : Sparse (List Byte)) : Sparse (List Byte) :=
  match r.slot with
  | some i =>
    let b := r.bytes (1 + m.fld F.RGN_RO_CTRL.FMT (c / 16))
    Sparse.set t i (b ++ (Sparse.get [] t i).drop b.length)
  | none => t

/-! ### Release order within a channel (R262) -/

/-- The accept record `r` put into a channel's order behind every accept record of a lower event, and then before
everything whose window does not start earlier. -/
def insertAccept (r : Rec) (l : List Rec) : List Rec :=
  let n := ((l.zipIdx.filter (fun p => decide (p.1.kind = .accept) && decide (p.1.ser < r.ser))).map (fun p => p.2 + 1)).foldl max 0
  let rest := l.drop n
  let early (x : Rec) : Bool := decide (x.kind ≠ .accept) &&
    (match x.win, r.win with | some a, some b => decide (a.1 < b.1) | _, _ => false)
  l.take n ++ rest.takeWhile early ++ [r] ++ rest.dropWhile early
/-- A triggered or stream record put before the first record whose window starts later. -/
def insertOther (r : Rec) (l : List Rec) : List Rec :=
  let early (x : Rec) : Bool :=
    match x.win, r.win with | some a, some b => decide (a.1 ≤ b.1) | _, _ => true
  l.takeWhile early ++ [r] ++ l.dropWhile early
/-- A closed record or stub put into its place. -/
def insertRec (r : Rec) (l : List Rec) : List Rec := if r.kind = .accept then insertAccept r l else insertOther r l

/-- A channel marked as having closed or stubbed its record of an event (R250, R263). -/
def markDone (m : Kz) (c ser : Nat) : Kz :=
  m.modAcq (c / 16) (fun a => { a with
    order := a.order.map (fun e => if e.ser = ser then { e with done := e.done ||| 1 <<< (c % 16) } else e) })
/-- A record or stub added to those that await release. -/
def addClosed (m : Kz) (c : Nat) (r : Rec) : Kz :=
  let m := m.modMem c (fun y => { y with
    closed := insertRec r y.closed,
    content := slotWrite m c r y.content })
  if r.kind = .accept then markDone m c r.ser else m

/-- R255 to R261: a stub in a record's place; every one of a channel with no healthy slice carries SLICE_DEGRADED (R100). -/
def stub (m : Kz) (c : Nat) (kind : RecKind) (ser : Nat) (time : RecTime) (win : Option (Nat × Nat)) (flags : Nat) : Kz :=
  let w := (match win with | some w => winFlags m c w | none => 0) ||| if chanFailed m c then fSLICE else 0
  let m := m.count .RGN_STUB_COUNT (c / 16) 1
  addClosed m c { kind := kind, ch := c, ser := ser, time := time, win := win, flags := fSTUB ||| flags ||| w,
                  config := configWord m c, written := m.now.ns }
/-- An open record that becomes a stub: its slot is given back. -/
def stubOpen (m : Kz) (c : Nat) (r : OpenRec) (flags : Nat) : Kz :=
  let m := slotFree m c r.slot
  stub m c r.kind r.ser r.time (some (r.first, r.last)) flags
/-- Every open record of a channel ended as a stub, in ACCUMULATE mode without one (R245, R259, R301). -/
def endOpen (m : Kz) (c flags : Nat) : Kz :=
  let l := (m.chan c).mem.open_
  let m := m.modMem c (fun y => { y with open_ := [] })
  l.foldl (fun m r => if acqMode m (c / 16) = 3 then slotFree m c r.slot else stubOpen m c r flags) m

/-! ### The window of an ACCEPT (R215, R216, R246) -/

/-- The instant of a crossing that may lie before the first edge known. -/
def crossingAt (m : Kz) (no back : Nat) (edge : Nat) : Nat :=
  if back = 0 then edge
  else match edgeNo m (no - back) with
    | some e => if back ≤ no then e.at_ else e.at_ - (back - no) * e.period
    | none => edge - back * ((m.tl.edges.head?.map (fun e => e.period)).getD 0)
/-- The reference sample of an accept record: the marked sample of crossing A - LOOKBACK, or in SCOPE mode the
trigger sample of the carrying edge. -/
def acceptMark (m : Kz) (c : Nat) (a : AccEntry) : Int :=
  let back := if acqMode m (c / 16) = 1 then m.fld F.RGN_LAT_CFG.LOOKBACK (c / 16) else 0
  if rsCross m c && acqMode m (c / 16) = 1 then ((a.no : Int) - back) * rsK m c
  else sampleAtZ m c (crossingAt m a.no back a.edge)
/-- The time fields of an accept record whose first sample stands at an instant. -/
def acceptTime (m : Kz) (a : AccEntry) (i : Option Nat) : RecTime :=
  { ticks := i.map (fun j => (m.stampOf j).1), xing := some (a.orbit, a.bcn), event := a.event, epoch := a.epoch }
/-- The arming state of the channel at an instant (R208). -/
def armAt (x : Trig) (i : Nat) : ArmState :=
  match x.past.find? (fun p => decide (p.1 ≤ i)) with
  | some p => p.2
  | none => .disarmed

/-- The stub flags of a channel restart's cause (R627); a retirement that lowers the mode meanwhile counts too (R99). -/
def restartFlags (m : Kz) (c cause : Nat) : Nat :=
  (if cause = 1 then 0 else if cause = 2 then fSLICE else fRECOVERED) ||| if assignDue m c then fSLICE else 0
/-- The instants of the first and last sample that an accept record's whole window has. -/
def acceptWindow (m : Kz) (c : Nat) (a : AccEntry) : Nat × Nat :=
  let n := acceptMark m c a
  (sampleInstZ m c (n - recPre m c), sampleInstZ m c (n + recLen m c - recPre m c - 1))
/-- A stub for an ACCEPT with the window its record would have had; with none where the region is not in RUN (R254, R256). -/
def acceptStub (m : Kz) (c : Nat) (a : AccEntry) (flags : Nat) : Kz :=
  if m.inRun (c / 16) then
    let w := acceptWindow m c a
    stub m c .accept a.ser (acceptTime m a (some w.1)) (some w) flags
  else stub m c .accept a.ser (acceptTime m a none) none flags
/-- A channel that owes a record for an admitted ACCEPT opens it or gives a stub (R215, R216, R248, R249, R254,
R256, R259, R627). -/
def openAccept (m : Kz) (a : AccEntry) (c : Nat) : Kz :=
  let k := c / 16
  if !m.inRun k then acceptStub m c a 0
  else match (m.chan c).restart.active with
  | some cause => acceptStub m c a (restartFlags m c cause)
  | none =>
    if !running m c then acceptStub m c a 0
    else
      let n := acceptMark m c a
      let pre := recPre m c
      let len := recLen m c
      let f := firstStored m c
      let cut := n < f + pre
      let idx := if cut then f else (n - pre).toNat
      let last := (n + len - pre - 1).toNat
      let w := (sampleInst m c idx, sampleInst m c last)
      let known (g : Nat) : Kz := stub m c .accept a.ser (acceptTime m a (some w.1)) (some w) g
      let scope := acqMode m k = 0
      let st := armAt (m.chan c).trig (sampleInstZ m c n)
      if n + len - pre ≤ f then acceptStub m c a fTRUNC
      else if scope && ((decide (f ≤ n) && st = .maskStopped) || (m.chan c).trig.maskStop) then known fMASK
      else if scope && decide (f ≤ n) && (st = .disarmed || st = .stopped) then known fOVERFLOW
      else if 4 ≤ (m.chan c).mem.open_.length then known fOVERFLOW
      else match freeSlot m c with
      | none => known fOVERFLOW
      | some i =>
        let r : OpenRec :=
          { kind := .accept, ser := a.ser, time := acceptTime m a (some w.1), idx := idx, len := last + 1 - idx,
            first := w.1, last := w.2, refPos := (n - idx) * 1024, refIdx := (n - idx).toNat, ref := sampleInstZ m c n,
            slot := some i, extracting := acqMode m k != 1, flags := if cut then fTRUNC else 0 }
        let m := (takeSlot m c i).modMem c (fun y => { y with open_ := y.open_ ++ [r] })
        (m.modTrig c (fun x => { x with lastSrc := 256 })).mark F.CH_TRIG_STAT.TRIG_SEEN c

/-- The channels of a region that owe a record for an ACCEPT (R254), as a mask. -/
def owing (m : Kz) (k : Nat) : Nat :=
  if m.rstate k = .down then 0
  else ((upTo 16).filter (fun i =>
    let c := 16 * k + i
    m.on F.CH_MEM_CTRL.REC_EN c && (acqMode m k = 1 || (acqMode m k = 0 && (m.fld F.CH_TRIG_CTRL.SRC_EN c).testBit 8)))).foldl
      (fun a i => a ||| 1 <<< i) 0
/-- The channels of a mask in region `k`, ascending. -/
def chansOf (k mask : Nat) : List Nat := ((upTo 16).filter (fun i => mask.testBit i)).map (fun i => 16 * k + i)

/-- Stubs for the lost ACCEPTs that precede an entry (R385, R386). -/
def lostStubs (m : Kz) (k : Nat) (a : AccEntry) (own flags : Nat) : Kz :=
  (upTo a.lost).foldl (fun m i =>
    let back := a.lost - i
    let ev := (a.event + 2 ^ 24 - back % 2 ^ 24) % 2 ^ 24
    let m := m.modAcq k (fun q => { q with order := q.order ++ [{ ser := a.ser - back, owing := own }] })
    (chansOf k own).foldl (fun m c =>
      stub m c .accept (a.ser - back) { ticks := none, xing := none, event := ev, epoch := a.epoch } none flags) m) m

/-- R248, R250: an ACCEPT is admitted to a region's accept queue. The flag tells that the run count overflowed. -/
def takeAccept (m : Kz) (k : Nat) (a : AccEntry) : Kz × Bool :=
  let own := owing m k
  let m := m.modAcq k (fun q => { q with admitted := max q.admitted (a.ser + 1) })
  if own = 0 then (m, false) else
  let m := lostStubs m k a own fLOST
  let m := m.modAcq k (fun q => { q with order := q.order ++ [{ ser := a.ser, owing := own }] })
  let q := (m.rgn k).acq.queue
  if 64 ≤ q.length then
    let m := m.mark F.RGN_ACCQ_STAT.FULL_SEEN k
    let full := match q.getLast? with | some e => decide (65535 ≤ e.run) | none => false
    let m := m.modAcq k (fun x => { x with
      queue := x.queue.zipIdx.map (fun p => if p.2 = 63 then { p.1 with run := min 65535 (p.1.run + 1) } else p.1),
      mirror := x.mirror.filter (fun e => e.ser != a.ser) })
    ((chansOf k own).foldl (fun m c =>
      stub m c .accept a.ser { ticks := none, xing := none, event := a.event, epoch := a.epoch } none fOVERFLOW) m, full)
  else
    let m := m.modAcq k (fun x => { x with
      queue := x.queue ++ [{ a with owing := own }], highWater := max x.highWater (x.queue.length + 1) })
    ((chansOf k own).foldl (fun m c => openAccept m a c) m, false)

/-- Stubs with RECOVERED for an ACCEPT on each owing channel, its lost ACCEPTs first (R628, R629). -/
def recoveredStubs (m : Kz) (k : Nat) (a : AccEntry) : Kz :=
  if a.owing = 0 then m
  else
    let m := lostStubs m k a a.owing (fLOST ||| fRECOVERED)
    let m := m.modAcq k (fun q => { q with order := q.order ++ [{ ser := a.ser, owing := a.owing }] })
    (chansOf k a.owing).foldl (fun m c => acceptStub m c a (fRECOVERED ||| if assignDue m c then fSLICE else 0)) m

/-- ACCEPT_QUEUE_DEPART: the oldest entry leaves once every owing channel has closed or stubbed (R250, R756). -/
def queueDepart (m : Kz) (k : Nat) : Kz :=
  let x := (m.rgn k).acq
  match x.queue with
  | e :: _ =>
    let ready := match x.order.find? (fun o => o.ser = e.ser) with
      | some o => o.owing &&& o.done = o.owing
      | none => true
    if ready && !(m.rgn k).lane.departing && !(m.rgn k).err.restarting then
      let m := m.modAcq k (fun x => { x with queue := x.queue.drop 1 })
      m.modLane k (fun l => { l with departing := true, departs := (l.departs + 1) % 64 })
    else m
  | [] => m

/-- EXTRACTION_START: the oldest open accept record whose window is whole in the ring (R248, R251). -/
def extractStart (m : Kz) (c : Nat) : Kz :=
  match (m.chan c).mem.open_.find? (fun r => !r.extracting && decide (r.last + delay m c ≤ m.inst)) with
  | none => m
  | some r =>
    let newest := sampleAt m c (ringInst m c + 1) - 1
    if r.idx + ringSamples m c ≤ newest then
      stubOpen (m.modMem c (fun y => { y with open_ := y.open_.erase r })) c r fOVERFLOW
    else m.modMem c (fun y => { y with open_ := y.open_.map (fun o => if o = r then { o with extracting := true } else o) })

/-- STREAM_RECORD_START: the first sample of the next stream record (R100, R252, R253). -/
def streamStart (m : Kz) (c : Nat) : Kz :=
  let k := c / 16
  let n := (m.chan c).mem.streamNext
  let len := recLen m c
  let i := sampleInst m c n
  if acqMode m k = 2 && (m.chan c).chain.start.isSome && m.on F.CH_MEM_CTRL.REC_EN c && i + delay m c ≤ m.inst then
    let w := (i, sampleInst m c (n + len - 1))
    let x := match edgeBefore m i with | some e => (e.orbit, e.bcn) | none => (0, 0)
    let t : RecTime := { ticks := some (m.stampOf i).1, xing := some x, event := 0, epoch := m.tb.epochSeq }
    let m := m.modMem c (fun y => { y with streamNext := n + len })
    if chanFailed m c then stub m c .stream 0 t (some w) fSLICE
    else match freeSlot m c with
    | none => stub m c .stream 0 t (some w) fOVERFLOW
    | some s =>
      let r : OpenRec :=
        { kind := .stream, ser := 0, time := t, idx := n, len := len, first := w.1, last := w.2, refPos := 0, refIdx := 0, ref := i,
          slot := some s, extracting := true, flags := 0 }
      (takeSlot m c s).modMem c (fun y => { y with open_ := y.open_ ++ [r] })
  else m

/-! ### Release (R258, R262 to R264) -/

/-- Whether an open record of the channel goes before `r`. -/
def opensBefore (r : Rec) (o : OpenRec) : Bool :=
  match r.kind, o.kind with
  | .accept, .accept => decide (o.ser < r.ser)
  | .accept, _ => match r.win with | some w => decide (o.first < w.1) | none => false
  | _, _ => match r.win with | some w => decide (o.first ≤ w.1) | none => true
/-- Whether the result of the last tone block that ends in a window is there (R239), or the chain has stopped or makes none. -/
def toneReady (m : Kz) (c : Nat) (w : Nat × Nat) : Bool :=
  let tc := convTicks m c
  let len := 2 ^ m.fld F.CH_SLOT_CFG.NEXP c * tc
  let d := m.datumOf (w.2 / 1024) + tc
  let lastEnd := w.2 / 1024 - d % len
  (m.chan c).chain.start.isNone || !m.on F.CH_CHAIN_CTRL.SLOT_EN c || decide (lastEnd * 1024 < w.1) ||
    (m.chan c).chain.toneWords.any (fun p => decide (lastEnd * 1024 ≤ p.2 + 1024 * tc))
/-- The output sample that carries a crossing's mark (R159). -/
def markSample (m : Kz) (c : Nat) (e : Edge) : Nat := if rsCross m c then e.no * rsK m c else sampleAt m c e.at_
/-- Whether the channel's engine is enabled and has an image (R329). -/
def engineOn (m : Kz) (c : Nat) : Bool :=
  (m.fld F.ENG_CTRL.EN (c / 16)).testBit (c % 16) && (m.chan c).eng.image.isSome
/-- Fabric cycle in which the activation of a crossing starts: two after its window's last sample (R331). -/
def activationCycle (m : Kz) (c : Nat) (e : Edge) : Nat :=
  let len := ((m.chan c).eng.image.map (fun g => g.winLen)).getD 1
  (sampleInst m c (markSample m c e + len - 1) + delay m c) / 16384 + 2
/-- R343: whether the activation of every mark in a window has reached its hand-off cycle. -/
def annotReady (m : Kz) (c : Nat) (w : Nat × Nat) : Bool :=
  if running m c && engineOn m c then
    match m.tl.edges.find? (fun e => decide (sampleInst m c (markSample m c e) ≤ w.2)) with
    | some e => decide (sampleInst m c (markSample m c e) < w.1) ||
        decide (activationCycle m c e + m.fld F.ENG_BUDGET.B_DECL (c / 16) ≤ m.fabric)
    | none => true
  else true
/-- R342: the annotation words of the marks in a record's window, at most 8; the rest are counted. -/
def addAnnots (m : Kz) (c : Nat) (r : Rec) : Rec × Kz :=
  match r.win with
  | some w =>
    let l := ((m.chan c).eng.annots.filter (fun p => decide (w.1 ≤ p.2) && decide (p.2 ≤ w.2))).map (fun p => p.1)
    ({ r with words := r.words ++ l.take 8 }, m.count .ENG_REFUSED (c / 16) (l.length - 8))
  | none => (r, m)
/-- Whether the order of events lets a record go (R263): every earlier event is wholly released, every owing channel
has closed, and the channels below have released theirs. -/
def eventReady (m : Kz) (c : Nat) (r : Rec) : Bool :=
  if r.kind = .accept then
    match (m.rgn (c / 16)).acq.order.head? with
    | some e => e.ser = r.ser && e.owing &&& e.done = e.owing &&
        (let below := e.owing &&& (2 ^ (c % 16) - 1); below &&& e.out = below)
    | none => true
  else true
/-- A channel marked as having released its record of an event; the event is done with when all have. -/
def markOut (m : Kz) (c ser : Nat) : Kz :=
  m.modAcq (c / 16) (fun a => { a with
    order := (a.order.map (fun e => if e.ser = ser then { e with out := e.out ||| 1 <<< (c % 16) } else e)).filter
      (fun e => decide (e.owing &&& e.out ≠ e.owing)) })
/-- Whether a channel feeds the averager (R299). -/
def averaging (m : Kz) (c : Nat) : Bool :=
  acqMode m (c / 16) = 3 && (m.fld F.RGN_ACC_SINK.AVG_EN (c / 16)).testBit (c % 16)
/-- The sinks a channel's next record goes to (R299): averager, unless the channel is DONE (R304), histogram, maps. -/
def sinks (m : Kz) (c : Nat) : Bool × Bool × Bool :=
  let b (f : Field) : Bool := (m.fld f (c / 16)).testBit (c % 16)
  (averaging m c && !(m.chan c).avg.done, b F.RGN_ACC_SINK.HIST_EN, b F.RGN_ACC_MAP.MAP_EN)
/-- The map a channel feeds (R319): map 1 rather than map 0. -/
def mapSel (m : Kz) (c : Nat) : Bool := (m.fld F.RGN_ACC_MAP.MAP_SEL (c / 16)).testBit (c % 16)
/-- A record handed to the sinks, at the end of the region's order (R314). -/
def handOver (m : Kz) (c : Nat) (r : Rec) (a h p copy : Bool) : Kz :=
  let n := (m.rgn (c / 16)).acc.handed
  (m.modMem c (fun y => { y with folds := y.folds ++ [⟨r, n, a, h, p, mapSel m c, copy⟩] })).modAcc (c / 16)
    (fun x => { x with handed := n + 1 })
/-- A sequence number taken (R258); its wraps are counted. -/
def nextSeq (y : Memory) : Memory :=
  if y.nextSeq + 1 = 2 ^ 32 then { y with nextSeq := 0, seqWraps := (y.seqWraps + 1) % 256 }
  else { y with nextSeq := y.nextSeq + 1 }
/-- The event-log entries of a record's failed words, each with the record's number and the samples it replaced (R266). -/
def logLost (m : Kz) (c seq : Nat) (r : Rec) : Kz :=
  r.lost.foldl (fun m p => m.logAt p.1 0x0130 2 1 c (p.2.1 <<< 32 ||| p.2.2) seq) m
/-- RECORD_RELEASE: the channel's next record goes to the lane group, or in ACCUMULATE mode to its sinks
(R245, R258, R262, R263, R299, R300, R315). -/
def release (m : Kz) (c : Nat) : Kz :=
  let k := c / 16
  let y := (m.chan c).mem
  match y.closed with
  | [] => m
  | r :: rest =>
    let ready := !r.toTest && !r.toMeasure && !y.open_.any (opensBefore r) && eventReady m c r &&
      (match r.win with
        | some w => r.flags.testBit 0 || ((!r.toTone || toneReady m c w) && (acqMode m k = 3 || annotReady m c w))
        | none => true)
    if !ready then m
    else
      let r := takeTone (m.chan c).chain r
      let stubbed := r.flags.testBit 0
      let (a, h, p) := sinks m c
      let bad := r.flags.testBit 5
      let any := a || h || p
      if acqMode m k = 3 && r.kind = .triggered && !stubbed then
        -- an ACCUMULATE record has no number (R245): all ones stand in its event-log entries (entry 104)
        let m := logLost (m.modMem c (fun y => { y with closed := rest })) c 0xFFFFFFFF r
        if bad then slotDone (if any then m.count .RGN_ACC_DROPPED k 1 else m) c r.slot
        else if any then handOver m c r a h p false
        else slotDone m c r.slot
      else
        let (r, m) := if stubbed then (r, m) else addAnnots m c r
        let r := { r with seq := y.nextSeq }
        let m := m.modMem c (fun y => { nextSeq y with
          closed := rest,
          content := slotWrite m c r y.content })
        let m := logLost m c r.seq r
        let m := if r.kind = .accept then markOut m c r.ser else m
        let m := m.modLg k (fun g => { g with queue := g.queue ++ [r] })
        if acqMode m k = 0 && !stubbed && (h || p) then
          if bad then m.count .RGN_ACC_DROPPED k 1
          else handOver m c r false h p true
        else m

/-- RGN_ACCQ_STAT.CLR (R273). -/
def accqClear (m : Kz) (k : Nat) : Kz := m.modAcq k (fun x => { x with highWater := x.queue.length })

/-- ACCEPT_QUEUE_DEPART (R250). -/
def execAcceptQueueDepart (t : Stamp) (k : Rgn) (s : State) : Host.Outcome State Fault Refusal :=
  s.at_ t (fun m => queueDepart m k)
/-- EXTRACTION_START (R248). -/
def execExtractionStart (t : Stamp) (c : Chan) (s : State) : Host.Outcome State Fault Refusal :=
  s.at_ t (fun m => extractStart m c)
/-- STREAM_RECORD_START (R252). -/
def execStreamRecordStart (t : Stamp) (c : Chan) (s : State) : Host.Outcome State Fault Refusal :=
  s.at_ t (fun m => streamStart m c)
/-- RECORD_RELEASE (R262). -/
def execRecordRelease (t : Stamp) (c : Chan) (s : State) : Host.Outcome State Fault Refusal :=
  s.at_ t (fun m => release m c)

end Sys2Proof.Machine
end

