-- ==== Sys2Proof/Machine/Trigger.lean ====
section
/-! DEFINITION. The trigger unit: crossings, comparators, combiner, patterns, the arming machine (R180 to R230). -/
namespace Sys2Proof.Machine

/-! ### Crossings (R184 to R186) -/

/-- Six times the cubic through four points at -1, 0, 1 and 2, less a level, at k / q; scaled by q³. -/
def cubicAt (v0 v1 v2 v3 : Int) (q k : Nat) : Int :=
  let a := -v0 + 3 * v1 - 3 * v2 + v3
  let b := 3 * v0 - 6 * v1 + 3 * v2
  let c := -2 * v0 - 3 * v1 + 6 * v2 - v3
  let d := 6 * v1
  a * (k ^ 3 : Nat) + b * (k ^ 2 * q : Nat) + c * (k * q ^ 2 : Nat) + d * (q ^ 3 : Nat)
/-- The derivative of that cubic at k / q, scaled by q². -/
def cubicSlope (v0 v1 v2 v3 : Int) (q k : Nat) : Int :=
  let a := -v0 + 3 * v1 - 3 * v2 + v3
  let b := 3 * v0 - 6 * v1 + 3 * v2
  let c := -2 * v0 - 3 * v1 + 6 * v2 - v3
  3 * a * (k ^ 2 : Nat) + 2 * b * (k * q : Nat) + c * (q ^ 2 : Nat)
/-- The discriminant of that cubic. -/
def cubicDisc (v0 v1 v2 v3 : Int) : Int :=
  let a := -v0 + 3 * v1 - 3 * v2 + v3
  let b := 3 * v0 - 6 * v1 + 3 * v2
  let c := -2 * v0 - 3 * v1 + 6 * v2 - v3
  let d := 6 * v1
  b * b * c * c - 4 * a * c * c * c - 4 * b * b * b * d - 27 * a * a * d * d + 18 * a * b * c * d

/-- The position in 1/1024 of the first root in [0, 1] of the cubic, whose value rises from below 0 to above it, with
ties to the even position (R185): the first cell of half a step in which it changes sign, or before that the cell
of a maximum that lies above 0 between two cell ends below it. -/
def firstRoot (v0 v1 v2 v3 : Int) : Nat :=
  let up := ((upTo 2049).find? (fun k => decide (0 ≤ cubicAt v0 v1 v2 v3 2048 k))).getD 2048
  let bump := if 0 ≤ cubicDisc v0 v1 v2 v3 then
      (upTo up).find? (fun k => decide (0 < cubicSlope v0 v1 v2 v3 2048 k) && decide (cubicSlope v0 v1 v2 v3 2048 (k + 1) ≤ 0))
    else none
  match bump with
  | some k => (k + 1) / 2
  | none =>
    if cubicAt v0 v1 v2 v3 2048 up = 0 && up % 2 = 1 then (up / 2 + 1) / 2 * 2 else up / 2

/-- The position f, in 1/1024 of the interval from sample n - 1 to sample n, of a crossing of level `l` (R185); with
no sample n - 2 or none after n the interpolation is linear. -/
def crossPos (l : Int) (up : Bool) (x2 : Option Int) (x1 x0 : Int) (xn : Option Int) : Nat :=
  let s (x : Int) : Int := if up then x - l else l - x
  if x0 = l then 1024
  else match x2, xn with
    | some a, some b => firstRoot (s a) (s x1) (s x0) (s b)
    | _, _ => min 1024 (roundEven (1024 * (-(s x1))) (s x0 - s x1).toNat).toNat

/-- The instant of position f of 1,024 between samples n - 1 and n, the sum rounded to even (R186). -/
def posInst (m : Kz) (c n f : Nat) : Nat :=
  let a := sampleInst m c (n - 1)
  (roundEven (a * 1024 + f * (sampleInst m c n - a) : Nat) 1024).toNat

/-! ### Comparators (R187 to R189) -/

/-- Profile `p` of region `k`: its registers' instance number. -/
def profInst (k p : Nat) : Nat := 4 * k + p
/-- The profile a comparator selects. -/
def profOf (m : Kz) (c : Nat) (second : Bool) : Nat :=
  profInst (c / 16) (if second then m.fld F.CH_TRIG_CTRL.PROF_B c else m.fld F.CH_TRIG_CTRL.PROF_A c)
/-- A comparator's HI and LO, words, and those of a level register's word. -/
def levelHi (m : Kz) (c : Nat) (second : Bool) : Int :=
  sext 16 (if second then m.fld F.CH_TRIG_LEVEL_B.HI c else m.fld F.CH_TRIG_LEVEL_A.HI c)
def levelLo (m : Kz) (c : Nat) (second : Bool) : Int :=
  sext 16 (if second then m.fld F.CH_TRIG_LEVEL_B.LO c else m.fld F.CH_TRIG_LEVEL_A.LO c)
/-- A comparator's state. -/
def compOf (x : Trig) (second : Bool) : Comp := if second then x.compB else x.compA
def setComp (x : Trig) (second : Bool) (q : Comp) : Trig := if second then { x with compB := q } else { x with compA := q }
/-- HI and LO in force in the present fabric cycle: in the cycle in which a write arrived still the old ones (R191). -/
def levelsNow (m : Kz) (c : Nat) (second : Bool) (q : Comp) : Int × Int :=
  match q.old with
  | some (w, cyc) => if m.fabric ≤ cyc then (sext 16 (w / 65536), sext 16 w) else (levelHi m c second, levelLo m c second)
  | none => (levelHi m c second, levelLo m c second)
/-- R191: a level register written; what it held stays in force to the end of the fabric cycle. -/
def levelWritten (m : Kz) (c : Nat) (second : Bool) (o : Word) : Kz :=
  m.modTrig c (fun x =>
    let q := compOf x second
    let old := match q.old with | some (w, cyc) => if cyc = m.fabric then (w, cyc) else (o.toNat, m.fabric) | none => (o.toNat, m.fabric)
    setComp x second { q with old := some old })

/-- The crossings a comparator looks for, in the order in which a rising and then a falling signal meets them: of LO or HI, or of a
CFD's zero, upwards or downwards. -/
def crossKinds : List (Bool × Bool × Bool) :=
  [(true, false, true), (false, false, true), (false, false, false), (true, false, false), (false, true, true), (false, true, false)]
/-- R184: a sample against a level: whether it crosses, and whether the crossing is armed after it. -/
def crossStep (up : Bool) (l h v : Int) (armed : Bool) : Bool × Bool :=
  let s := if up then v - l else l - v
  if 0 ≤ s then (armed, false) else (false, armed || decide (s ≤ -h))
/-- An output sample that a reader of the ring sees: one that no command told is free, one before the first delivered does not
exist (R152). -/
def ringAt (m : Kz) (c : Nat) (x : Chain) (n : Nat) : Option Int :=
  match x.ring.find? (fun s => s.idx = n) with
  | some s => some s.word
  | none => if firstDelivered m c ≤ n then some (untold (keyOf c x 0 n)).1 else none
/-- The CFD signal of R188 at sample `n`, for a fraction of `f` sixteenths and a delay of `d` samples. -/
def cfdAt (f d : Nat) (x : Nat → Option Int) (n : Nat) : Option Int :=
  if n < d then none
  else match x (n - d), x n with
    | some a, some b => some (roundEven (16 * a - f * b) 16)
    | _, _ => none
/-- R189: the width in 1/1024 output sample against T1 and T2 in 1/16. -/
def condMeets (m : Kz) (p w : Nat) : Bool :=
  let t1 := m.fld F.RGN_TRIG_PROF_LIM.T1 p * 64
  let t2 := m.fld F.RGN_TRIG_PROF_LIM.T2 p * 64
  match m.fld F.RGN_TRIG_PROF_CFG.COND p with
  | 0 => decide (w < t1)
  | 1 => decide (t2 < w)
  | 2 => decide (t1 ≤ w) && decide (w ≤ t2)
  | _ => false
/-- A crossing under one polarity of a type that pairs crossings: whether it qualifies, and the opening crossing after it. WIDTH
runs from an upward crossing of HI to the next downward one; RUNT from one of LO to the next downward one of LO with none of HI
between; SLOPE from the last upward crossing of LO to one of HI (R187). -/
def pairStep (m : Kz) (p ty : Nat) (low up : Bool) (pos : Nat) (opened : Option Nat) : Bool × Option Nat :=
  let meets := match opened with | some o => condMeets m p (pos - o) | none => false
  match ty, low, up with
  | 4, false, true => (false, some pos)
  | 4, false, false => (meets, none)
  | 5, true, true => (false, some pos)
  | 5, false, true => (false, none)
  | 5, true, false => (opened.isSome, none)
  | 6, true, true => (false, some pos)
  | 6, true, false => (false, none)
  | 6, false, true => (meets, opened)
  | _, _, _ => (false, opened)
/-- What a comparator makes of a crossing at a position, 1/1024 output sample: whether it qualifies, and its state (R187, R188).
With negative polarity the directions turn round and HI and LO change places; with either, both versions run. `reached` tells
for either polarity whether x reached its level within the CFD delay. -/
def compCross (m : Kz) (p : Nat) (x : Crossing) (pos : Nat) (reached : Bool × Bool) (q : Comp) : Bool × Comp :=
  let ty := m.fld F.RGN_TRIG_PROF_CFG.TYPE p
  let pol := m.fld F.RGN_TRIG_PROF_CFG.POL p
  let plus := pol != 1
  let minus := pol = 1 || pol = 2
  match ty with
  | 1 => (!x.zero && ((plus && !x.low && x.up) || (minus && x.low && !x.up)), q)
  | 2 => (!x.zero && x.low = x.up, q)
  | 3 => (!x.zero && x.low != x.up, q)
  | 7 => (x.zero && ((plus && x.up && reached.1) || (minus && !x.up && reached.2)), q)
  | _ =>
    if x.zero then (false, q)
    else
      let (a, o) := pairStep m p ty x.low x.up pos q.openPos
      let (b, n) := pairStep m p ty (!x.low) (!x.up) pos q.openNeg
      ((plus && a) || (minus && b), { q with openPos := o, openNeg := n })
/-- The crossings at a sample `n` that the sample after it decides (R185, R187): their positions in 1/1024 between samples n - 1
and n where the comparator qualifies. -/
def compDecide (m : Kz) (c p n : Nat) (x : Nat → Option Int) (lv : Int × Int) (q : Comp) : List Nat × Comp :=
  let d := m.fld F.RGN_TRIG_PROF_CFG.CFD_DEL p + 1
  let y := cfdAt (m.fld F.RGN_TRIG_PROF_CFG.CFD_FRAC p) d x
  let near (f : Int → Bool) : Bool := (upTo (d + 1)).any (fun j => decide (j ≤ n) && ((x (n - j)).map f).getD false)
  let reached := (near (fun v => decide (lv.1 ≤ v)), near (fun v => decide (v ≤ lv.2)))
  q.wait.foldl (fun (a : List Nat × Comp) w =>
    let z := if w.zero then y else x
    let f := crossPos w.level w.up (if 2 ≤ n then z (n - 2) else none) ((z (n - 1)).getD 0) ((z n).getD 0) (z (n + 1))
    let (hit, q) := compCross m p w ((n - 1) * 1024 + f) reached a.2
    (if hit then a.1 ++ [f] else a.1, q)) ([], { q with wait := [] })
/-- Sample `n` against the levels (R184): the crossings it makes. -/
def compArm (m : Kz) (p n : Nat) (x : Nat → Option Int) (lv : Int × Int) (q : Comp) : Comp :=
  let h : Int := (16 * m.fld F.RGN_TRIG_PROF_CFG.HYST p : Nat)
  let y := cfdAt (m.fld F.RGN_TRIG_PROF_CFG.CFD_FRAC p) (m.fld F.RGN_TRIG_PROF_CFG.CFD_DEL p + 1) x
  let each := crossKinds.zipIdx.map (fun k =>
    let ((low, zero, up), i) := k
    let l := if zero then 0 else if low then lv.2 else lv.1
    let was := q.armed.getD i false
    match if zero then y n else x n with
    | some v => let r := crossStep up l h v was; (r.2, if r.1 then [(⟨low, zero, up, l⟩ : Crossing)] else [])
    | none => (was, []))
  { q with armed := each.map (fun e => e.1), wait := each.flatMap (fun e => e.2) }
/-- Output sample `n` enters a comparator (R183 to R190): it decides the crossings at the sample before it, and of the
qualifications of one fabric cycle the earliest is kept. -/
def compSample (m : Kz) (c n : Nat) (ch : Chain) (second : Bool) (t : Trig) : Trig :=
  let p := profOf m c second
  let x := ringAt m c ch
  let q := compOf t second
  let lv := levelsNow m c second q
  let (hits, q) := compDecide m c p (n - 1) x lv q
  let t := setComp t second (compArm m p n x lv q)
  let cyc := (sampleInst m c n + delay m c) / 16384
  match (hits.map (posInst m c (n - 1))).min? with
  | none => t
  | some i =>
    { t with found :=
        if t.found.any (fun f => f.second = second && f.cycle = cyc) then
          t.found.map (fun f => if f.second = second && f.cycle = cyc then { f with inst := min f.inst i } else f)
        else t.found ++ [⟨second, i, cyc⟩] }

/-! ### Qualified triggers, combiner and patterns (R193 to R205) -/

/-- A trigger of source `src` with an instant that qualifies in a fabric cycle reaches a channel: it is pending until decided
where the source is enabled and the arming machine governs (SCOPE and ACCUMULATE). -/
def fireTrig (m : Kz) (c src inst cycle : Nat) : Kz :=
  let mode := acqMode m (c / 16)
  if m.inRun (c / 16) && (mode = 0 || mode = 3) && running m c && m.on F.CH_MEM_CTRL.REC_EN c
      && (m.fld F.CH_TRIG_CTRL.SRC_EN c).testBit src then
    m.modTrig c (fun x => { x with pending := x.pending ++ [(src, inst, cycle)] })
  else m

/-- The result of the combiner: the channel's pattern term (R198), an event of the time-interval unit (R431) and the source
COMB. Two results of one fabric cycle, which only "A or B" gives, are one with the earlier instant (R193). -/
def combOut (m : Kz) (c inst cycle : Nat) : Kz :=
  let k := c / 16
  let len := max 1 (m.fld F.RGN_PATTERN.COINC k)
  let m := m.modTrig c (fun x =>
    let again := x.termUntil = cycle + len
    { x with
      termInst := if again then min x.termInst inst else inst, termUntil := cycle + len,
      tiuOut := if !again then x.tiuOut ++ [inst]
        else if x.tiuOut.getLast? = some x.termInst then x.tiuOut.dropLast ++ [min x.termInst inst] else x.tiuOut })
  fireTrig m c 0 inst cycle

/-- R193: a qualification of comparator A or B enters the combiner. -/
def combine (m : Kz) (c : Nat) (second : Bool) (inst cycle : Nat) : Kz :=
  let cw := max 1 (m.fld F.CH_TRIG_CTRL.COINC c)
  let x := (m.chan c).trig
  let near (q : Qual) : Bool := decide (max q.cycle cycle - min q.cycle cycle < cw)
  let keep (l : List Qual) : List Qual := (l ++ [(⟨inst, cycle⟩ : Qual)]).filter (fun q => decide (cycle ≤ q.cycle + cw))
  match m.fld F.CH_TRIG_CTRL.COMB c with
  | 0 => if second then m else combOut m c inst cycle
  | 1 => if second then combOut m c inst cycle else m
  | 2 => combOut m c inst cycle
  | 3 =>
    match (if second then x.qualsA else x.qualsB).reverse.find? near with
    | some q =>
      combOut (m.modTrig c (fun x => if second then { x with qualsA := x.qualsA.erase q }
        else { x with qualsB := x.qualsB.erase q })) c (max inst q.inst) cycle
    | none => m.modTrig c (fun x => if second then { x with qualsB := keep x.qualsB } else { x with qualsA := keep x.qualsA })
  | 4 =>
    if second then
      match x.qualsA.reverse.find? (fun q => near q && decide (q.cycle ≤ cycle) && decide (q.inst ≤ inst)) with
      | some q => combOut (m.modTrig c (fun x => { x with qualsA := x.qualsA.erase q })) c inst cycle
      | none => m.modTrig c (fun x => { x with qualsB := keep x.qualsB })
    else
      match x.qualsB.reverse.find? (fun q => decide (q.cycle = cycle) && decide (inst ≤ q.inst)) with
      | some q => combOut (m.modTrig c (fun x => { x with qualsB := x.qualsB.erase q })) c q.inst cycle
      | none => m.modTrig c (fun x => { x with qualsA := keep x.qualsA })
  | _ => m

/-- COMPARATOR_QUALIFY: the oldest qualification that a comparator has met and not yet reported enters the combiner (R183, R190,
R193). -/
def comparator (m : Kz) (c : Nat) (second : Bool) : Kz :=
  match (m.chan c).trig.found.find? (fun f => f.second = second) with
  | some f => combine (m.modTrig c (fun x => { x with found := x.found.erase f })) c second f.inst f.cycle
  | none => m

/-- The terms of a region pattern that are true in the present fabric cycle: start cycle and instant. -/
def terms (m : Kz) (k : Nat) : List (Nat × Nat) :=
  let len := max 1 (m.fld F.RGN_PATTERN.COINC k)
  (chansOf k (m.fld F.RGN_PATTERN.CH_MASK k)).filterMap (fun c =>
    let x := (m.chan c).trig
    if m.fabric < x.termUntil && running m c then some (x.termUntil - len, x.termInst) else none)
/-- R199, R200: whether the region pattern is true. -/
def patternNow (m : Kz) (k : Nat) : Bool :=
  let mask := m.fld F.RGN_PATTERN.CH_MASK k
  m.inRun k && m.on F.RGN_PATTERN.EN k && mask != 0 && !(m.rgn k).err.restarting &&
    (if m.on F.RGN_PATTERN.MODE k then (terms m k).length == (chansOf k mask).length else !(terms m k).isEmpty)
/-- REGION_PATTERN_FIRE: the combination turns from false to true and fires with its instant (R199). -/
def patternFire (m : Kz) (k : Nat) : Kz :=
  let now := patternNow m k
  let was := (m.rgn k).acq.pattern
  let m := m.modAcq k (fun a => { a with pattern := now })
  if now && !was then
    let l := terms m k
    let newest := (l.map (fun p => p.1)).foldl max 0
    let i := if m.on F.RGN_PATTERN.MODE k then (l.map (fun p => p.2)).foldl max 0
      else ((l.filter (fun p => p.1 = newest)).map (fun p => p.2)).foldl min ((l.head?.map (fun p => p.2)).getD 0)
    let m := m.modLane k (fun x => { x with fire := some i })
    m.eachChan k (fun m c => fireTrig m c 1 i m.fabric)
  else m

/-- R202: whether the periodic source fires on a BCN. -/
def periodicAt (m : Kz) (k bcn : Nat) : Bool :=
  let n := m.fld F.RGN_PERIODIC.N k
  let o := m.fld F.RGN_PERIODIC.OFFSET k
  n != 0 && decide (o ≤ bcn) && (bcn - o) % n == 0
/-- The PERIODIC source of every channel of a region fired at a crossing edge (R202, R383). -/
def firePeriodic (m : Kz) (k inst : Nat) : Kz := m.eachChan k (fun m c => fireTrig m c 6 inst m.fabric)
/-- SOFT_TRIG (R204): the datum count of the fabric cycle in which the write is applied. -/
def softTrig (m : Kz) (k mask : Nat) : Kz :=
  (chansOf k mask).foldl (fun m c => fireTrig m c 5 (m.fabric * 16384) m.fabric) m

/-! ### The arming machine (R207 to R213) -/

/-- The arming state from an instant on, and the history by which earlier samples are judged. -/
def armTo (x : Trig) (i : Nat) (st : ArmState) : Trig := { x with arm := st, past := ((i, st) :: x.past).take 4096 }

/-- The arming state from an instant on, put below the states that began later (R290). -/
def armBelow (x : Trig) (i : Nat) (st : ArmState) : Trig :=
  { x with past := x.past.takeWhile (fun p => decide (i < p.1)) ++ (i, st) :: x.past.dropWhile (fun p => decide (i < p.1)) }
/-- FILLING begins at an instant, in a new segment; the pre-trigger count starts at the first sample stored from then on, and with no
pre-trigger part the unit is ARMED from that sample (R207, R208, R241, entry 103). -/
def startFilling (m : Kz) (c i slot : Nat) : Kz :=
  let n := max (sampleAt m c i) (firstStored m c)
  let m := takeSlot m c slot
  let m := m.modMem c (fun y => { y with writing := some slot })
  m.modTrig c (fun x =>
    let x := { armTo x i .filling with fillFrom := n }
    if recPre m c = 0 then armTo x (sampleInst m c n) .armed else x)

/-- Whether the arming machine governs a channel: in SCOPE and ACCUMULATE, where it records. With REC_EN 0 it stays DISARMED and
drops its triggers uncounted (DESIGN CHOICE, entry 107: R207 gives REC_EN no effect). -/
def armed (m : Kz) (c : Nat) : Bool :=
  (acqMode m (c / 16) = 0 || acqMode m (c / 16) = 3) && m.on F.CH_MEM_CTRL.REC_EN c
/-- FILLING begins at an instant where a segment is free; else the unit waits for one in REARM (R244). -/
def beginFilling (m : Kz) (c i : Nat) : Kz :=
  match freeSlot m c with
  | some s => startFilling m c i s
  | none => m.modTrig c (fun x => { armTo x i .rearm with rearmAt := m.fabric })
/-- R207: the trigger unit at RUN entry and when a restart resumes. -/
def trigEnter (m : Kz) (c : Nat) : Kz :=
  let m := m.modTrig c (fun x => { lastSrc := x.lastSrc })
  if armed m c && !m.on F.CH_TRIG_CTRL.ARM_MODE c then
    beginFilling m c (((m.chan c).chain.start.getD 0) * 1024)
  else m
/-- R207: the trigger unit goes to DISARMED; triggers still being decided are discarded. -/
def trigLeave (m : Kz) (c : Nat) : Kz :=
  let m := m.modMem c (fun y => { y with writing := none, used := match y.writing with | some s => y.used.erase s | none => y.used })
  m.modTrig c (fun x => { lastSrc := x.lastSrc })

/-- ARM written (R207, R243, R288): in sequence arming and after a mask STOP every segment is freed; from DISARMED in sequence arming or from STOPPED the unit
fills. -/
def armWritten (m : Kz) (c : Nat) : Kz :=
  let x := (m.chan c).trig
  let m := if x.maskStop || (acqMode m (c / 16) = 0 && m.on F.CH_TRIG_CTRL.ARM_MODE c) then freeSegments m c else m
  let m := m.modTrig c (fun x => { x with maskStop := false })
  if m.inRun (c / 16) && armed m c && running m c &&
      (x.arm = .stopped || x.arm = .maskStopped || (x.arm = .disarmed && m.on F.CH_TRIG_CTRL.ARM_MODE c)) then
    beginFilling (m.modTrig c (fun x => { x with seqClosed := 0, holding := false, holdCount := 0 })) c (ringInst m c)
  else m

/-- PRETRIGGER_FILLED (R207, R208). -/
def preFilled (m : Kz) (c : Nat) : Kz :=
  let x := (m.chan c).trig
  let j := sampleInst m c (x.fillFrom + recPre m c)
  if x.arm = .filling && j ≤ ringInst m c then m.modTrig c (fun x => armTo x j .armed) else m

/-- REARM begins with the fabric cycle after the one of an instant's sample (R207). -/
def toRearm (m : Kz) (c i : Nat) : Kz :=
  m.modTrig c (fun x => { armTo x i .rearm with rearmAt := (i + delay m c) / 16384 + 5 })

/-- The instant at which hold-off in time ends: that of the first output sample at or after the accepted trigger plus HOLDOFF
(R209). -/
def holdEnd (m : Kz) (c : Nat) : Nat :=
  sampleInst m c (sampleAt m c ((m.chan c).trig.holdInst + m.fld F.CH_TRIG_HOLD.HOLDOFF c * 1024))
/-- Whether hold-off has ended at an instant: in time, or with its count of events (R209, R210). -/
def holdOver (m : Kz) (c i : Nat) : Bool :=
  if m.on F.CH_TRIG_CTRL.HO_MODE c then decide (m.fld F.CH_TRIG_HOLD.HOLDOFF c ≤ (m.chan c).trig.holdCount)
  else decide (holdEnd m c ≤ i)
/-- HOLDOFF_EXPIRE (R209, R210). -/
def holdExpire (m : Kz) (c : Nat) : Kz :=
  let x := (m.chan c).trig
  if x.holding && holdOver m c (ringInst m c) then
    let m := m.modTrig c (fun x => { x with holding := false })
    if x.arm = .holdoff then toRearm m c (if m.on F.CH_TRIG_CTRL.HO_MODE c then ringInst m c else holdEnd m c) else m
  else m

/-- REARM_DONE (R207, R243, R244). -/
def rearmDone (m : Kz) (c : Nat) : Kz :=
  let x := (m.chan c).trig
  let k := c / 16
  if x.arm = .rearm && x.rearmAt ≤ m.fabric then
    if m.on F.CH_TRIG_CTRL.ARM_MODE c && m.fld F.RGN_ACQ_CTRL.SEGS_M1 k + 1 ≤ x.seqClosed then
      m.modTrig c (fun x => armTo x (ringInst m c) .stopped)
    else match freeSlot m c with
      | some s => startFilling m c (ringInst m c) s
      | none => m.mark F.CH_MEM_CTRL.SEG_WAIT_SEEN c
  else m

/-- A trigger ignored before the pre-trigger part was full, or under hold-off (R208, R210). -/
def ignorePre (m : Kz) (c : Nat) : Kz := (m.count .RGN_TRIG_IGNORED_PRE (c / 16) 1).mark F.CH_TRIG_STAT.IGN_PRE_SEEN c
def ignoreHold (m : Kz) (c : Nat) : Kz :=
  let m := (m.count .RGN_TRIG_IGNORED_HOLD (c / 16) 1).mark F.CH_TRIG_STAT.IGN_HOLD_SEEN c
  m.modTrig c (fun x => { x with holdCount := x.holdCount + 1 })

/-- What follows a record whose last sample stands at an instant: HOLDOFF, or REARM where hold-off ends no later (R207, R211,
R212). -/
def afterRecord (m : Kz) (c last : Nat) : Kz :=
  let x := (m.chan c).trig
  if x.holding && !holdOver m c last then m.modTrig c (fun x => armTo x (last + 1) .holdoff)
  else toRearm (m.modTrig c (fun x => { x with holding := false })) c last
/-- What follows the close of a triggered record (R207, R243). -/
def recordClosed (m : Kz) (c last : Nat) : Kz :=
  let m := m.modTrig c (fun x => { x with seqClosed := x.seqClosed + 1 })
  if (m.chan c).trig.arm = .record then afterRecord m c last else m

/-- The fabric cycle in which output sample `n` enters the ring. -/
def sampleCycle (m : Kz) (c n : Nat) : Nat := (sampleInst m c n + delay m c) / 16384
/-- A triggered record opened by a trigger at an instant, with its window (R162, R241, R256). After a mask STOP it is a stub, and the
history alone takes RECORD (R288, R290); with four records open it is a stub too, and the unit goes on as after a record
(R222, R259, entry 103). -/
def openTriggered (m : Kz) (c srcs inst : Nat) : Kz :=
  let n := sampleAt m c inst
  let pre := recPre m c
  let len := recLen m c
  let j := sampleInst m c n
  let p := sampleInst m c (n - 1)
  let f : Int := if inst = j then 1024 else roundEven (1024 * (inst - p) : Nat) (max 1 (j - p))
  let x := match edgeBefore m inst with | some e => (e.orbit, e.bcn) | none => (0, 0)
  let w := (sampleInst m c (n - pre), sampleInst m c (n + len - pre - 1))
  let time : RecTime := { ticks := some (m.stampOf inst).1, xing := some x, event := 0, epoch := m.tb.epochSeq }
  let stubbed (m : Kz) (g : Nat) : Kz := if acqMode m (c / 16) = 3 then m else stub m c .triggered 0 time (some w) g
  if (m.chan c).trig.maskStop then stubbed (m.modTrig c (fun x => armBelow x j .record)) fMASK
  else
    let m := m.modTrig c (fun x => { armTo x j .record with
      lastSrc := srcs, openCycle := some (sampleCycle m c n),
      holding := m.fld F.CH_TRIG_HOLD.HOLDOFF c != 0, holdInst := inst, holdCount := 0 })
    let slot := (m.chan c).mem.writing
    let m := m.modMem c (fun y => { y with writing := none })
    if 4 ≤ (m.chan c).mem.open_.length then afterRecord (stubbed (slotFree m c slot) fOVERFLOW) c j
    else
      let r : OpenRec :=
        { kind := .triggered, ser := 0, time := time, idx := n - pre, len := len, first := w.1, last := w.2,
          refPos := ((pre : Int) - 1) * 1024 + f, refIdx := pre, ref := inst, slot := slot, extracting := true, flags := 0 }
      let m := m.modMem c (fun y => { y with open_ := y.open_ ++ [r] })
      (m.modChain c (fun x => { x with windows := (w :: x.windows).take 64 })).mark F.CH_TRIG_STAT.TRIG_SEEN c

/-- TRIGGER_DECIDE: the pending triggers that qualified in the earliest fabric cycle are taken as one and judged
against the arming state at its trigger sample (R195, R196, R208). In ARMED the others whose trigger samples lie in the same
fabric cycle join it, those decided after the record has opened included (R213). -/
def decideTrig (m : Kz) (c : Nat) : Kz :=
  let x := (m.chan c).trig
  match x.pending with
  | [] => m
  | p :: ps =>
    let cyc := ps.foldl (fun a q => min a q.2.2) p.2.2
    let first (l : List (Nat × Nat × Nat)) : Nat := l.foldl (fun a q => min a q.2.1) ((l.head?.map (fun q => q.2.1)).getD 0)
    let at_ (i : Nat) : Nat := sampleAt m c i
    let early := x.pending.filter (fun q => q.2.2 = cyc)
    let n := at_ (first early)
    let stateAt (n : Nat) : ArmState := armAt x (sampleInst m c n)
    let sc := sampleCycle m c n
    let joins (q : Nat × Nat × Nat) : Bool := q.2.2 = cyc || (stateAt n = .armed && stateAt (at_ q.2.1) = .armed &&
      sampleCycle m c (at_ q.2.1) = sc)
    let group := x.pending.filter joins
    let inst := first group
    let srcs := group.foldl (fun a q => a ||| 1 <<< q.1) 0
    let m := m.modTrig c (fun x => { x with pending := x.pending.filter (fun q => !joins q) })
    if x.openCycle = some sc && (stateAt n = .armed || stateAt n = .record) then
      m.modTrig c (fun x => { x with lastSrc := x.lastSrc ||| srcs })
    else match stateAt (at_ inst) with
    | .filling => ignorePre m c
    | .armed =>
      if (x.arm = .armed || x.maskStop) &&
          !x.past.any (fun e => decide (e.2 = .record) && decide (sampleInst m c (at_ inst) < e.1)) then
        openTriggered m c srcs inst
      else ignoreHold m c
    | .record | .holdoff | .rearm => ignoreHold m c
    | .disarmed | .stopped | .maskStopped => m

/-- R207, R288: a mask STOP takes effect from the fabric cycle of the verdict on the record `r`: open records become stubs with
MASK_FAIL, and no segment is freed. The log entry gives the number that the failing record will take, all ones in
ACCUMULATE mode, whose records take none (entry 104). A unit that is DISARMED stays so. -/
def maskStop (m : Kz) (c : Nat) (r : Rec) : Kz :=
  let x := (m.chan c).trig
  if x.maskStop then m
  else
    let i := m.fabric * 16384 - delay m c
    let m := m.modTrig c (fun x => { (if x.arm = .disarmed then x else armTo x i .maskStopped) with
      maskStop := true, holding := false })
    let m := m.modMem c (fun y => { y with
      kept := y.open_.filterMap (fun r => r.slot) ++ y.kept, open_ := y.open_.map (fun r => { r with slot := none }) })
    let m := endOpen m c fMASK
    let m := m.modMem c (fun y => { y with kept := match y.writing with | some s => s :: y.kept | none => y.kept, writing := none })
    let y := (m.chan c).mem
    let seq := if acqMode m (c / 16) = 3 then 0xFFFFFFFF else (y.nextSeq + (y.closed.idxOf r)) % 2 ^ 32
    (m.logE 0x0140 0 1 c 0 seq).notify 2 1 c []

/-- COMPARATOR_QUALIFY (R187). -/
def execComparatorQualify (t : Stamp) (c : Chan) (second : Bool) (s : State) : Host.Outcome State Fault Refusal :=
  s.at_ t (fun m => comparator m c second)
/-- TRIGGER_DECIDE (R208). -/
def execTriggerDecide (t : Stamp) (c : Chan) (s : State) : Host.Outcome State Fault Refusal :=
  s.at_ t (fun m => decideTrig m c)
/-- PRETRIGGER_FILLED (R207). -/
def execPretriggerFilled (t : Stamp) (c : Chan) (s : State) : Host.Outcome State Fault Refusal :=
  s.at_ t (fun m => preFilled m c)
/-- HOLDOFF_EXPIRE (R209). -/
def execHoldoffExpire (t : Stamp) (c : Chan) (s : State) : Host.Outcome State Fault Refusal :=
  s.at_ t (fun m => holdExpire m c)
/-- REARM_DONE (R207). -/
def execRearmDone (t : Stamp) (c : Chan) (s : State) : Host.Outcome State Fault Refusal :=
  s.at_ t (fun m => rearmDone m c)
/-- REGION_PATTERN_FIRE (R199). -/
def execRegionPatternFire (t : Stamp) (k : Rgn) (s : State) : Host.Outcome State Fault Refusal :=
  s.at_ t (fun m => patternFire m k)

end Sys2Proof.Machine
end

