-- ==== Sys2Proof/Machine/Measure.lean ====
section
/-! DEFINITION. The close of a record, the mask test and the per-record measurements (R266, R277 to R298). -/
namespace Sys2Proof.Machine

/-! ### Measurements (R292 to R294). Samples are scaled by 160, which makes every level and the hysteresis whole. -/

/-- Crossings of a level in a record's samples, each with its record index, upwards or downwards: positions in 1/1024
sample from record index 0 (R184, R185); the state carries the two samples before and whether a crossing is armed. -/
def crossings (l h : Int) (up : Bool) : Option Int → Option Int → Bool → List (Nat × Int) → List Nat
  | _, _, _, [] => []
  | x2, x1, armed, (n, x) :: r =>
    let s (y : Int) : Int := if up then y - l else l - y
    if 0 ≤ s x then
      match x1 with
      | some y => if armed then
          ((n - 1) * 1024 + crossPos l up x2 y x (r.head?.map (fun p => p.2))) :: crossings l h up x1 (some x) false r
        else crossings l h up x1 (some x) false r
      | none => crossings l h up x1 (some x) false r
    else crossings l h up x1 (some x) (armed || decide (s x ≤ -h)) r

/-- A timing field: all ones where the value is missing or too large (R294). -/
def timeField (w : Nat) (v : Option Nat) : Nat :=
  match v with | some x => if x < 2 ^ w then x else 2 ^ w - 1 | none => 2 ^ w - 1

/-- From the last crossing of a first list to the first one after it of a second. -/
def spanOf (a b : List Nat) : Option Nat :=
  match a.getLast? with
  | some x => (b.find? (fun y => decide (x ≤ y))).map (fun y => y - x)
  | none => none

/-- The seven measurement words (R293) of samples `ps`, each with its record index, with the reference sample at index
`ref`; `inst` gives the instant of a position in 1/1024 sample, `t0` the header instant. -/
def measure (ps : List (Nat × Int)) (ref : Nat) (inst : Nat → Nat) (t0 : Nat) : List Nat :=
  let xs := ps.map (fun p => p.2)
  let x0 := xs.headD 0
  let mx := xs.foldl max x0
  let mn := xs.foldl min x0
  let pk := (mx - mn).toNat
  let before := (ps.filter (fun p => decide (p.1 < ref))).length
  let nb := if 16 ≤ before then before else min 16 xs.length
  let sum (l : List Int) : Int := l.foldl (· + ·) 0
  let sb := sum (xs.take nb)
  let base := roundEven (sb * 65536) (max 1 nb)
  let area := roundEven ((sum xs * nb - sb * xs.length) * 256) (max 1 nb)
  let ys := ps.map (fun p => (p.1, p.2 * 160))
  let lv (p : Nat) : Int := 160 * mn + (16 * (p / 10) * pk : Nat)
  let h : Int := (10 * pk : Nat)
  let find (p : Nat) (up : Bool) : List Nat := if pk < 64 then [] else crossings (lv p) h up none none false ys
  let up50 := find 50 true
  let dn50 := find 50 false
  let rise := spanOf (find 10 true) (find 90 true)
  let fall := spanOf (find 90 false) (find 10 false)
  let cyc := up50.length - 1
  let long := up50.getLastD 0 - up50.headD 0
  let period := if 2 ≤ up50.length then some (roundEven long cyc).toNat else none
  let freq := if 2 ≤ up50.length then some (roundEven (2 ^ 42 * cyc : Nat) (max 1 long)).toNat else none
  let first := match up50.head?, dn50.head? with
    | some a, some b => some (min a b)
    | some a, none => some a
    | none, b => b
  let cross := match first with
    | some p =>
      let d : Int := (inst p : Int) - t0
      if d / 1024 < -(2 ^ 45 : Nat) ∨ (2 ^ 45 : Nat) ≤ d / 1024 then 2 ^ 56 - 1
      else toU 46 (d / 1024) * 1024 + (d % 1024).toNat
    | none => 2 ^ 56 - 1
  [0x01 <<< 56 ||| toU 16 mx <<< 40 ||| toU 16 mn <<< 24 ||| (pk % 2 ^ 17) <<< 7,
   0x02 <<< 56 ||| toU 32 base <<< 24 ||| nb % 2 ^ 24,
   0x03 <<< 56 ||| toU 56 area,
   0x04 <<< 56 ||| timeField 28 rise <<< 28 ||| timeField 28 fall,
   0x05 <<< 56 ||| timeField 40 period <<< 16 ||| min cyc 0xFFFF,
   0x06 <<< 56 ||| timeField 32 freq <<< 24,
   0x07 <<< 56 ||| cross]

/-! ### The close of a record -/

/-- The samples that a failed 64-bit word of a payload touches (R266): packed-12 or 16-bit. -/
def touched (pk : Bool) (w : Nat) : List Nat :=
  if pk then (upTo 6).map (fun i => 64 * w / 12 + i) |>.filter (fun s => decide (12 * s ≤ 64 * w + 63))
  else (upTo 4).map (fun i => 4 * w + i)
/-- RECORD_CLOSE: an open record's last sample is stored or copied (R241, R248, R252, R255, R265, R266, R278). Its samples are
those of the store, as kept there, and it carries SATURATED if one of them is marked (R52). -/
def recordClose (m : Kz) (c : Nat) (d : RecData) : Kz :=
  let k := c / 16
  let mode := acqMode m k
  match (m.chan c).mem.open_[d.which]? with
  | none => m
  | some r =>
    let sel := m.fld F.CH_MEM_CTRL.STREAM_SEL c
    let bare := r.kind = .stream && sel == 1
    let want := if bare then 0 else r.len
    if !r.extracting || m.inst < r.last + delay m c then m
    else
      let ps := (upTo r.len).map (fun i => storedAt m c (r.idx + i))
      let m := m.modMem c (fun y => { y with open_ := y.open_.erase r })
      let m := m.count .RGN_ECC_CORR k d.corrected
      let done (m : Kz) : Kz := if r.kind = .triggered then recordClosed m c r.last else m
      if d.lostDescriptor then
        let (a, h, p) := sinks m c
        done (if mode = 3 then slotDone (if a || h || p then m.count .RGN_ACC_DROPPED k 1 else m) c r.slot
          else stubOpen m c r fECC_UNCORR)
      else
        let pk := packed m c && r.len % 16 == 0
        let spans := d.lostWords.map (fun w => (touched pk w).filter (fun i => decide (i < want)))
        let bad := spans.flatten
        let xs := (ps.take want).zipIdx.map (fun p => if bad.contains p.2 then -32768 else p.1.1)
        let tone := if r.kind = .stream then toneStream m c && sel != 0 else mode != 3 && toneRec m c
        let fmt := if bare then 3 else (if pk then 1 else 2) + (if tone then 3 else 0)
        let test := masking m c && decide (r.len ≤ 4096) && !((m.rgn k).acc.shareOut.testBit (c % 16))
        let meas := !test && m.on F.CH_MASK_CTRL.MEAS_EN c && mode != 3
        let w := (r.first, r.last)
        let flags := r.flags ||| winFlags m c w ||| (if ps.any (fun p => p.2) then fSAT else 0)
          ||| (if d.corrected = 0 then 0 else fECC_CORR) ||| (if d.lostWords.isEmpty then 0 else fECC_UNCORR)
          ||| (if meas then fMEAS else 0)
        let good := (xs.zipIdx.filter (fun p => !bad.contains p.2)).map (fun p => (p.2, p.1))
        let at_ (p : Nat) : Nat := posInst m c (r.idx + p / 1024 + 1) (p % 1024)
        let t0 := match r.kind with | .triggered => r.ref | _ => r.first
        done (addClosed m c
          { kind := r.kind, ch := c, ser := r.ser, time := r.time, win := some w, flags := flags, fmt := fmt, samples := xs,
            filled := bad, lost := spans.map (fun t => (m.datum, t.headD 0, t.getLastD 0)),
            meas := if meas then measure good r.refIdx at_ t0 else [],
            config := configWord m c, slot := r.slot, refPos := r.refPos, ref := r.ref, written := m.now.ns,
            toTest := test, toMeasure := meas, toTone := tone })

/-! ### Masks (R281 to R291) -/

/-- Byte address of point `j` of mask `x` of a channel. -/
def maskAddr (c x j : Nat) : Nat := 0x01000000 + (c / 16) * 0x100000 + 0x40000 + (c % 16) * 0x4000 + x * 0x2000 + j * 8
/-- A mask point: position in 1/8 output sample, upper and lower limit. -/
def maskPoint (m : Kz) (c x j : Nat) : Int × Int × Int :=
  let a := maskAddr c x j
  let w := m.mem.word (a + 4) 4
  (sext 16 (m.mem.word a 4 / 65536), sext 16 (w / 65536), sext 16 w)
/-- The points of a mask in use. -/
def maskPoints (m : Kz) (c x : Nat) : List (Int × Int × Int) := (upTo (npts m c x)).map (maskPoint m c x)
/-- Whether a sample at relative position `t` (1/1024 sample) violates a mask (R283). -/
def violates (t v : Int) : List (Int × Int × Int) → Bool
  | (o1, u1, l1) :: (o2, u2, l2) :: r =>
    let a := o1 * 128
    let b := o2 * 128
    if t < a then false
    else if t ≤ b then
      let up := u1 * (b - a) + (u2 - u1) * (t - a)
      let lo := l1 * (b - a) + (l2 - l1) * (t - a)
      decide (up < v * (b - a)) || decide (v * (b - a) < lo)
    else violates t v ((o2, u2, l2) :: r)
  | _ => false
/-- The record indices that violate a mask (R283, R284). -/
def violators (m : Kz) (c x : Nat) (r : Rec) : List Nat :=
  let ps := maskPoints m c x
  (r.samples.zipIdx.filter (fun p =>
    !r.filled.contains p.2 && violates ((p.2 : Int) * 1024 - r.refPos) p.1 ps)).map (fun p => p.2)
/-- The mask result word (R291). -/
def maskWord (v0 v1 : List Nat) : Nat :=
  0x10 <<< 56 ||| min v0.length 0x7FF <<< 43 ||| min v1.length 0x7FF <<< 32
    ||| (v0.headD 0x1FFF % 8192) <<< 16 ||| v1.headD 0x1FFF % 8192

/-- MASK_VERDICT: the oldest closed record of the channel that awaits its mask test (R285 to R289). -/
def maskVerdict (m : Kz) (c : Nat) : Kz :=
  let k := c / 16
  match (m.chan c).mem.closed.find? (fun r => r.toTest) with
  | none => m
  | some r =>
    let v0 := violators m c 0 r
    let v1 := violators m c 1 r
    let a0 := if v0.isEmpty then none else some (m.fld F.CH_MASK_CTRL.ACT0 c)
    let a1 := if v1.isEmpty then none else some (m.fld F.CH_MASK_CTRL.ACT1 c)
    let act := match a0, a1 with
      | some a, some b => some (max a b)
      | some a, none => some a
      | none, b => b
    let tag := match act with | some a => decide (1 ≤ a) | none => false
    let r' := { r with toTest := false, words := maskWord v0 v1 :: r.words,
                       flags := if tag then r.flags ||| fMASK else r.flags }
    let m := m.modMem c (fun y => { y with closed := y.closed.map (fun x => if x = r then r' else x) })
    match act with
    | none => m
    | some a =>
      let m := (m.count .RGN_MASK_FAILS k 1).markBit F.RGN_MASK_STAT.FAIL_SEEN k (c % 16)
      if a = 2 && (acqMode m k = 0 || acqMode m k = 3) then maskStop m c r' else m

/-- MEASUREMENT_DONE: the oldest closed record that awaits its measurement gets its words (R290, R293). -/
def measureDone (m : Kz) (c : Nat) : Kz :=
  match (m.chan c).mem.closed.find? (fun r => r.toMeasure) with
  | none => m
  | some r =>
    let r' := { r with toMeasure := false, words := r.meas ++ r.words, meas := [] }
    m.modMem c (fun y => { y with closed := y.closed.map (fun x => if x = r then r' else x) })

/-- R279: the mask share fixed at RUN entry: the masking channels beyond the 8 lowest of those faster than 5.12 GS/s. -/
def maskShare (m : Kz) (k : Nat) : Kz :=
  let fast := (chansOf k 0xFFFF).filter (fun c => masking m c && fastOutput m c)
  let out := (fast.drop 8).foldl (fun a c => a ||| 1 <<< (c % 16)) 0
  m.modAcc k (fun x => { x with shareOut := out })

/-- RECORD_CLOSE (R241). -/
def execRecordClose (t : Stamp) (c : Chan) (d : RecData) (s : State) : Host.Outcome State Fault Refusal :=
  s.at_ t (fun m => recordClose m c d)
/-- MASK_VERDICT (R288). -/
def execMaskVerdict (t : Stamp) (c : Chan) (s : State) : Host.Outcome State Fault Refusal :=
  s.at_ t (fun m => maskVerdict m c)
/-- MEASUREMENT_DONE (R292). -/
def execMeasurementDone (t : Stamp) (c : Chan) (s : State) : Host.Outcome State Fault Refusal :=
  s.at_ t (fun m => measureDone m c)

end Sys2Proof.Machine
end

