-- ==== Sys2Proof/Machine/Accum.lean ====
section
/-! DEFINITION. Averagers, histograms and persistence maps (R299 to R325). -/
namespace Sys2Proof.Machine

/-- A part of an averager, a histogram, a map changed. -/
def modAvg (m : Kz) (c : Nat) (f : Averager → Averager) : Kz := m.modChan c (fun x => { x with avg := f x.avg })
def modHist (m : Kz) (c : Nat) (f : Hist → Hist) : Kz := m.modChan c (fun x => { x with hist := f x.hist })
def pmap (m : Kz) (x : Nat) : PMap := Sparse.get {} m.maps x
def modMap (m : Kz) (x : Nat) (f : PMap → PMap) : Kz := { m with maps := Sparse.mod {} m.maps x f }

/-- A 32-bit sum that holds at its limits (R303), with whether it held. -/
def sumHold (a b : Int) : Int × Bool := (satS 32 (a + b), outS 32 (a + b))
/-- The sums with a record's samples added, each shifted right by `s` (R303). -/
def addSums (s : Nat) : List Int → List Int → List Int × Bool
  | a :: as, x :: xs =>
    let (v, h) := sumHold a (x / (2 ^ s : Nat))
    let (r, g) := addSums s as xs
    (v :: r, h || g)
  | as, [] => (as, false)
  | [], x :: xs =>
    let (r, g) := addSums s [] xs
    (x / (2 ^ s : Nat) :: r, g)

/-- A fold taken off the list once every sink it waits for has it; an ACCUMULATE record then frees its segment
(R245, R299). -/
def settle (m : Kz) (c : Nat) (f g : Fold) : Kz :=
  if g.avg || g.hist || g.map then
    m.modMem c (fun y => { y with folds := y.folds.map (fun z => if z = f then g else z) })
  else
    let m := m.modMem c (fun y => { y with folds := y.folds.erase f })
    if f.copy then m else slotDone m c f.rcd.slot

/-- R316: whether a record's reference instant lies at or after the edge of a boundary. -/
def afterCut (cut : Option Nat) (r : Rec) : Bool := match cut with | some e => decide (e ≤ r.ref) | none => false
/-- The fabric cycles after which no source names an instant any more: a module pattern's 55 (R194). -/
def decideCycles : Nat := 56
/-- Whether a channel may still bring a record of before an edge to the averager or the histogram (R316): a trigger that is still
to be found or decided, an open record, one that is closed, a fold. -/
def cutPending (m : Kz) (c edge : Nat) : Bool :=
  let x := m.chan c
  x.mem.folds.any (fun f => (f.avg || f.hist) && decide (f.rcd.ref < edge)) ||
    x.mem.closed.any (fun r => r.kind = .triggered && decide (r.ref < edge)) ||
    x.mem.open_.any (fun r => r.kind = .triggered && decide (r.ref < edge)) ||
    x.trig.pending.any (fun q => decide (q.2.1 < edge)) || x.trig.found.any (fun q => decide (q.inst < edge)) ||
    (armed m c && running m c && (decide (m.inst < edge + delay m c + decideCycles * 16384) ||
      x.eng.act.any (fun a => decide (a.mark < edge))))
/-- R304: DONE is set and notified; the records that still wait for the averager wait for it no longer. -/
def avgDone (m : Kz) (c : Nat) : Kz :=
  if (m.chan c).avg.done then m
  else
    let m := (modAvg m c (fun a => { a with done := true })).notify 3 1 c []
    ((m.chan c).mem.folds.filter (fun f => f.avg)).foldl (fun m f => settle m c f { f with avg := false }) m

/-- R316: for each boundary in turn, DONE on every channel it divides whose earlier folds are complete; once all are, its period
number is latched. -/
def cutSettle (m : Kz) (k : Nat) : Kz :=
  (m.rgn k).acc.cuts.foldl (fun m b =>
    let m := m.eachChan k (fun m c => if (m.chan c).avg.cut = some b.1 && !cutPending m c b.1 then avgDone m c else m)
    if (m.rgn k).acc.cuts.head? = some b && !(chansOf k 0xFFFF).any (fun c => cutPending m c b.1) then
      (m.modAcc k (fun x => { x with cuts := x.cuts.drop 1, period := b.2 % 256 })).mark F.RGN_ACC_STAT.BND_SEEN k
    else m) m

/-- The values R306 compares: LEN, DEC, effective mode, FORMAT. -/
def avgConfig (m : Kz) (c : Nat) : List Nat :=
  [m.fld F.CH_REC_WIN.LEN c, m.fld F.CH_CHAIN_CTRL.DEC c, (m.chan c).conv.effMode, m.fld F.CH_MEM_CTRL.FORMAT c]

/-- The oldest of some records by their order of release. -/
def oldestFold (l : List Fold) : Option Fold :=
  l.foldl (fun a f => match a with | some b => if f.no < b.no then some f else a | none => some f) none
/-- The record that a region's averager folds next: that of all its channels which was released first (R314). -/
def avgNext (m : Kz) (k : Nat) : Option Fold :=
  oldestFold ((chansOf k 0xFFFF).flatMap (fun c => (m.chan c).mem.folds.filter (fun f => f.avg)))
/-- The record that the hub's sinks fold next: the regions are served in turn, one record each (R314). -/
def hubNext (m : Kz) : Option (Nat × Fold) :=
  ((upTo 12).map (fun j => (m.hub.foldTurn + j) % 12)).findSome? (fun k =>
    (oldestFold ((chansOf k 0xFFFF).flatMap (fun c => (m.chan c).mem.folds.filter (fun f => f.hist || f.map)))).map (fun f => (k, f)))
/-- The hub has given the record `f` of region `k` to a sink and holds `g` of it: with nothing left, the next region's turn comes. -/
def hubServed (m : Kz) (k : Nat) (g : Fold) : Kz :=
  m.modHub (fun h => { h with foldTurn := if g.hist || g.map then k else (k + 1) % 12 })

/-- AVG_FOLD: the averager's next record, if it is the channel's, is folded (R300, R303, R304, R314, R316). -/
def avgFold (m : Kz) (c : Nat) : Kz :=
  let k := c / 16
  match avgNext m k with
  | none => m
  | some f =>
    if f.rcd.ch ≠ c then m
    else
      let full (m : Kz) : Kz :=
        if 2 ^ m.fld F.RGN_ACC_CTRL.TARGET_LOG2 k ≤ (m.chan c).avg.count then avgDone m c else m
      let m := settle m c f { f with avg := false }
      let m := full m
      if (m.chan c).avg.done || afterCut (m.chan c).avg.cut f.rcd then cutSettle m k
      else
        let s := m.fld F.RGN_ACC_CTRL.SHIFT k
        let (sums, held) := addSums s (m.chan c).avg.sums f.rcd.samples
        let m := modAvg m c (fun a => { a with
          sums := sums, count := a.count + 1, sat := a.sat || held, clip := a.clip || f.rcd.flags.testBit 9,
          config := some (avgConfig m c) })
        cutSettle (full m) k

/-- The bin of a sample (R309). -/
def binOf (x : Int) : Nat := (x / 16 + 2048).toNat
/-- One count added to a bin, which holds at 0xFFFF_FFFF (R310). -/
def binAdd (h : Hist) (b : Nat) : Hist :=
  let v := Sparse.get 0 h.bins b
  if v + 1 < 2 ^ 32 then { h with bins := Sparse.set h.bins b (v + 1), sat := h.sat || decide (v + 1 = 2 ^ 32 - 1) }
  else { h with sat := true }
/-- HIST_FOLD: the hub's next record, if it is the channel's, goes into its histogram (R309, R310, R314, R316). -/
def histFold (m : Kz) (c : Nat) : Kz :=
  let k := c / 16
  match hubNext m with
  | none => m
  | some (_, f) =>
    if f.rcd.ch ≠ c || !f.hist then m
    else
      let g := { f with hist := false }
      let m := hubServed (settle m c f g) k g
      if afterCut (m.chan c).hist.cut f.rcd then cutSettle m k
      else
        let xs := f.rcd.samples
        let l := if m.on F.RGN_ACC_CTRL.HIST_SRC k then
            (match xs with | x :: r => [r.foldl max x] | [] => []) else xs
        cutSettle (modHist m c (fun h =>
          { l.foldl (fun h x => binAdd h (binOf x)) h with count := min (h.count + 1) (2 ^ 31 - 1) })) k

/-- The cell of a sample at relative position `t`, 1/1024 sample, in a map (R311). -/
def cellOf (m : Kz) (x : Nat) (t v : Int) : Option Nat :=
  let org := sext 20 (m.fld F.MOD_MAP_X.X_ORG x) * 64
  let step : Int := (m.fld F.MOD_MAP_X.X_STEP x * 64 : Nat)
  let col := (t - org) / step
  let row := (v - sext 16 (m.fld F.MOD_MAP_Y.Y_ORG x)) / (2 ^ (6 - m.fld F.MOD_MAP_Y.Y_SHIFT x) : Nat)
  if 0 ≤ col ∧ col < 1024 ∧ 0 ≤ row ∧ row < 1024 then some (row.toNat * 1024 + col.toNat) else none
/-- MAP_FOLD: the hub's next record, if it is the channel's, goes into its map (R311, R313, R314). -/
def mapFold (m : Kz) (c : Nat) : Kz :=
  match hubNext m with
  | none => m
  | some (k, f) =>
    if f.rcd.ch ≠ c || !f.map then m
    else
      let g := { f with map := false }
      let m := hubServed (settle m c f g) k g
      let x := if f.sel then 1 else 0
      if !m.on F.MOD_MAP_CTRL.EN x || (pmap m x).clearing then m
      else f.rcd.samples.zipIdx.foldl (fun m p =>
        match cellOf m x ((p.2 : Int) * 1024 - f.rcd.refPos) p.1 with
        | none => m
        | some a =>
          let v := Sparse.get 0 (pmap m x).cells a
          let m := if v + 1 < 0xFFFF then m else m.mark F.MOD_MAP_CTRL.SAT_SEEN x
          modMap m x (fun q => { q with cells := Sparse.set q.cells a (min 0xFFFF (v + 1)) })) m
/-- MAP_DECAY: every cell is halved, once every DECAY times 10 ms (R312). -/
def mapDecay (m : Kz) (x : Nat) : Kz :=
  let due := (pmap m x).halvedAt + m.fld F.MOD_MAP_CTRL.DECAY x * 10000000
  if m.on F.MOD_MAP_CTRL.DECAY x && decide (due ≤ m.now.ns) then
    modMap m x (fun q => { q with
      cells := (q.cells.map (fun p => (p.1, p.2 / 2))).filter (fun p => p.2 != 0), halvedAt := due })
  else m
/-- MOD_MAP_CTRL written: the periods of a changed DECAY count from the write (DESIGN CHOICE, entry 105). -/
def decayWritten (m : Kz) (x : Nat) (o w : Word) : Kz :=
  if F.MOD_MAP_CTRL.DECAY.of o = F.MOD_MAP_CTRL.DECAY.of w then m else modMap m x (fun q => { q with halvedAt := m.now.ns })

/-- AVG_CLR of one channel (R305, R316). -/
def avgClear (m : Kz) (c : Nat) : Kz :=
  modAvg m c (fun a => { a with sums := [], count := 0, done := false, sat := false, clip := false, cut := none })
/-- HIST_CLR of one channel (R310, R316). -/
def histClear (m : Kz) (c : Nat) : Kz := modHist m c (fun _ => {})
/-- R305, R310: the bits of RGN_ACC_CLR. -/
def accClear (m : Kz) (k avg hist : Nat) : Kz :=
  let m := (chansOf k avg).foldl avgClear m
  (chansOf k hist).foldl histClear m
/-- R313: CLR of a map starts; R313: it is done within 1 ms. -/
def mapClear (m : Kz) (x : Nat) : Kz := modMap m x (fun q => { q with clearing := true })
def mapClearDone (m : Kz) (x : Nat) : Kz := if (pmap m x).clearing then modMap m x (fun q => { halvedAt := q.halvedAt }) else m

/-- R306: an averaging channel whose settings differ from those of its last fold is cleared at RUN entry. -/
def avgEnter (m : Kz) (c : Nat) : Kz :=
  if averaging m c then
    match (m.chan c).avg.config with
    | some g => if g = avgConfig m c then m else (avgClear m c).mark F.RGN_ACC_STAT.CFG_CLR_SEEN (c / 16)
    | none => m
  else m
/-- R307, R310: a region restart clears averagers and histograms. -/
def accRestart (m : Kz) (k : Nat) : Kz :=
  let m := m.eachChan k (fun m c => histClear (modAvg m c (fun _ => {})) c)
  (m.modAcc k (fun x => { x with cuts := [] })).mark F.RGN_ACC_STAT.RESTART_SEEN k

/-- R316: a boundary with its edge instant divides the accumulation of a region: the averaging channels and the histograms that no
earlier one has divided since their last clear. -/
def accCut (m : Kz) (k edge period : Nat) : Kz :=
  if m.on F.RGN_ACC_CTRL.BND_EN k then
    let m := m.eachChan k (fun m c =>
      let m := if averaging m c then modAvg m c (fun a => { a with cut := some (a.cut.getD edge) }) else m
      if (m.fld F.RGN_ACC_SINK.HIST_EN k).testBit (c % 16) then modHist m c (fun h => { h with cut := some (h.cut.getD edge) }) else m)
    cutSettle (m.modAcc k (fun x => { x with cuts := x.cuts ++ [(edge, period)] })) k
  else m

/-- AVG_FOLD (R303). -/
def execAvgFold (t : Stamp) (c : Chan) (s : State) : Host.Outcome State Fault Refusal := s.at_ t (fun m => avgFold m c)
/-- HIST_FOLD (R309). -/
def execHistFold (t : Stamp) (c : Chan) (s : State) : Host.Outcome State Fault Refusal := s.at_ t (fun m => histFold m c)
/-- MAP_FOLD (R311). -/
def execMapFold (t : Stamp) (c : Chan) (s : State) : Host.Outcome State Fault Refusal := s.at_ t (fun m => mapFold m c)
/-- MAP_DECAY (R312). -/
def execMapDecay (t : Stamp) (x : Fin 2) (s : State) : Host.Outcome State Fault Refusal := s.at_ t (fun m => mapDecay m x)
/-- MAP_CLR_DONE (R313). -/
def execMapClrDone (t : Stamp) (x : Fin 2) (s : State) : Host.Outcome State Fault Refusal :=
  s.at_ t (fun m => mapClearDone m x)

end Sys2Proof.Machine
end

