-- ==== Sys2Proof/Machine/Readout.lean ====
section
/-! DEFINITION. Readout lanes, flue frames, damper and overflow (R401 to R427). -/
namespace Sys2Proof.Machine

/-- Lane `j` of a region's group, and that lane changed. -/
def roLane (m : Kz) (k j : Nat) : ROLane := Sparse.get {} (m.rgn k).lg.lanes j
def modROLane (m : Kz) (k j : Nat) (f : ROLane → ROLane) : Kz :=
  m.modLg k (fun g => { g with lanes := Sparse.mod {} g.lanes j f })
/-- Code of a lane state (R402). -/
def LaneState.code : LaneState → Nat
  | .off => 0 | .starting => 1 | .sync => 2 | .active => 3 | .retrain => 4 | .test => 5 | .fault => 6
/-- Whether a lane of the region is ACTIVE. -/
def anyActive (m : Kz) (k : Nat) : Bool := (upTo 8).any (fun j => (roLane m k j).state = .active)
/-- The lowest-numbered ACTIVE lane that is not sending a frame (R406). -/
def freeLane (m : Kz) (k : Nat) : Option Nat :=
  (upTo 8).find? (fun j => (roLane m k j).state = .active && (roLane m k j).frame.isNone && (roLane m k j).after.isNone)
/-- A lane in a state; NO_LANE clears when one enters ACTIVE (R410). -/
def laneTo (m : Kz) (k j : Nat) (st : LaneState) : Kz :=
  let m := modROLane m k j (fun l => { l with state := st, after := none })
  if st = .active then m.modLg k (fun g => { g with noLane := false }) else m
/-- A lane leaves its state once a frame in progress has completed (R402); of two moves that wait, the first stands, but
for OFF. -/
def laneLeave (m : Kz) (k j : Nat) (st : LaneState) : Kz :=
  if (roLane m k j).frame.isSome then
    modROLane m k j (fun l => { l with after := if st = .off then some st else some (l.after.getD st) })
  else laneTo m k j st

/-- R402: LANE_EN bits changed from `o` to `w`. A region in DOWN keeps its lanes OFF. A lane set again before it has gone
OFF starts when it has. -/
def laneEnable (m : Kz) (k o w : Nat) : Kz :=
  (upTo 8).foldl (fun m j =>
    let st := (roLane m k j).state
    if w.testBit j && !o.testBit j then
      (if st = .off && m.rstate k != .down then laneTo m k j .starting
        else if (roLane m k j).after = some .off then modROLane m k j (fun l => { l with after := some .starting })
        else m)
    else if o.testBit j && !w.testBit j && st != .off then laneLeave m k j .off
    else m) m
/-- R402: TEST_EN bits changed; one cleared before the lane has left ACTIVE leaves it there. -/
def laneTest (m : Kz) (k o w : Nat) : Kz :=
  (upTo 8).foldl (fun m j =>
    let st := (roLane m k j).state
    if w.testBit j && !o.testBit j && st = .active then laneLeave m k j .test
    else if o.testBit j && !w.testBit j && st = .test then laneTo m k j .sync
    else if o.testBit j && !w.testBit j && (roLane m k j).after = some .test then
      modROLane m k j (fun l => { l with after := none })
    else m) m
/-- R402: RETRAIN bits written 1. -/
def laneRetrain (m : Kz) (k bits : Nat) : Kz :=
  (upTo 8).foldl (fun m j =>
    if bits.testBit j && (roLane m k j).state = .active then laneLeave m k j .retrain else m) m
/-- LANE_PLL_LOCK (R402). -/
def lanePllLock (m : Kz) (k j : Nat) : Kz :=
  match (roLane m k j).state with
  | .starting | .fault => laneTo m k j .sync
  | _ => m
/-- LANE_SYNC_DONE (R402). -/
def laneSyncDone (m : Kz) (k j : Nat) : Kz :=
  if (roLane m k j).state = .sync then
    laneTo m k j (if (m.fld F.RGN_RO_TEST.TEST_EN k).testBit j then .test else .active)
  else m
/-- LANE_RETRAIN_DONE (R402); a TEST_EN bit set meanwhile acts when the lane is ACTIVE again. -/
def laneRetrainDone (m : Kz) (k j : Nat) : Kz :=
  if (roLane m k j).state = .retrain then
    let m := laneTo m k j .active
    if (m.fld F.RGN_RO_TEST.TEST_EN k).testBit j then laneTo m k j .test else m
  else m
/-- LANE_PLL_UNLOCK (R402, R409). -/
def lanePllUnlock (m : Kz) (k j : Nat) : Kz :=
  let l := roLane m k j
  if l.state = .off then m
  else
    let m := match l.frame with
      | some f => m.modLg k (fun g => { g with resend := g.resend ++ [f] })
      | none => m
    let st := if l.after = some .off || l.after = some .starting then l.after.getD .off else .fault
    let m := modROLane m k j (fun _ => { state := st })
    (m.markBit F.RGN_RO_LANE_STAT.LANE_FAULT_SEEN k j).logE 0x0401 2 2 k 0 (8 * k + j)
/-- The lanes of a region that leaves DOWN start where they are enabled, and those of one that goes DOWN are OFF. -/
def lanesUp (m : Kz) (k : Nat) : Kz := laneEnable m k 0 (m.fld F.RGN_RO_CTRL.LANE_EN k)
def lanesDown (m : Kz) (k : Nat) : Kz := m.modLg k (fun g => { g with lanes := [], resend := [] })

/-! ### Frames (R404 to R411) -/

/-- A record's size on the lane, bytes (R412). -/
def recSize (r : Rec) : Nat := let n := r.payload.length; 44 + (n + 7) / 8 * 8
/-- Age of a record, ns (R417). -/
def recAge (m : Kz) (r : Rec) : Nat := m.now.ns - r.written
/-- The OVERFLOW stub of a record (R418). -/
def ovfStub (r : Rec) : Rec :=
  { r with flags := r.flags ||| fSTUB ||| fOVERFLOW, fmt := 0, samples := [], tone := [], words := [],
           config := r.config + r.tone.length }
/-- Whether OVERFLOW makes a frame send a record as a stub (R418). -/
def ovfHits (m : Kz) (k : Nat) (r : Rec) : Bool :=
  (m.rgn k).lg.ovf && !r.flags.testBit 0 && decide (m.fld F.RGN_RO_OVF.OVF_AGE k * 500 < recAge m r)
/-- The waiting records that a frame of at most `max` bytes takes, with the bytes used so far. -/
def takeRecs (max : Nat) : Nat → List Rec → List Rec
  | _, [] => []
  | used, r :: rs => if used + recSize r ≤ max then r :: takeRecs max (used + recSize r) rs else []
/-- A frame's bytes (R405, R408, R420). -/
def FlueFrame.bytes (f : FlueFrame) (k lane : Nat) : List Byte :=
  let h := be 1 0xF1 ++ be 1 (f.fmt * 16) ++ be 1 k ++ be 1 (8 * k + lane) ++ be 4 f.seq ++ be 2 f.recs.length
    ++ (if f.fmt = 2 then be 2 f.status ++ be 4 f.openTime else be 6 0)
  let b := h ++ f.recs.flatMap (fun r => r.bytes f.fmt)
  b ++ be 4 (crc32c b)
/-- What a record's wholly leaving does: its slot is freed, and a copy no sink has taken is dropped (R243, R315, R409). -/
def recGone (m : Kz) (r : Rec) : Kz :=
  let c := r.ch
  let m := slotDone m c r.slot
  let left := (m.chan c).mem.folds.filter (fun f => f.copy && f.rcd.seq = r.seq)
  if left.isEmpty then m
  else (m.modMem c (fun y => { y with folds := y.folds.filter (fun f => !(f.copy && decide (f.rcd.seq = r.seq))) })).count
    .RGN_ACC_DROPPED (c / 16) left.length
/-- The damper bucket filled up to now (R415). -/
def bucketNow (m : Kz) (k : Nat) : Int :=
  let g := (m.rgn k).lg
  min (m.fld F.RGN_DAMPER.BURST k * 1024 * 80 : Nat) (g.bucket + (m.fld F.RGN_DAMPER.RATE k * (m.now.ns - g.filledAt) : Nat))
/-- R410: with no lane ACTIVE a frame is discarded whole, as if it had been sent. -/
def frameDiscard (m : Kz) (k : Nat) (f : FlueFrame) : Kz :=
  let m := (f.recs.foldl recGone m).emit (.flueFrame none (f.bytes k 0))
  let m := (m.count .RGN_RO_DISCARDED k 1).mark F.RGN_RO_OVF.NO_LANE_SEEN k
  if (m.rgn k).lg.noLane then m else (m.modLg k (fun g => { g with noLane := true })).logE 0x0402 2 2 k 0 0
/-- FRAME_OPEN: the next frame of a region, a resend first (R406, R407, R409, R410, R415, R418). -/
def frameOpen (m : Kz) (k : Nat) : Kz :=
  let g := (m.rgn k).lg
  match g.resend, freeLane m k with
  | f :: fs, some j =>
    let f := { f with lane := j, status := if f.fmt = 2 then f.status ||| 4 else 0 }
    let m := m.modLg k (fun g => { g with resend := fs })
    (modROLane m k j (fun l => { l with frame := some f })).emit (.flueFrame (some (8 * k + j)) (f.bytes k j))
  | [], lane =>
    if g.queue.isEmpty || (lane.isNone && anyActive m k) then m
    else
      let max := m.fld F.RGN_RO_CTRL.FRAME_MAX k * 1024
      let shown := g.queue.map (fun r => if ovfHits m k r then ovfStub r else r)
      let n := Nat.max 1 (takeRecs max 20 shown).length
      let recs := shown.take n
      let size := 20 + (recs.map recSize).foldl (· + ·) 0
      let rate := m.fld F.RGN_DAMPER.RATE k
      let have_ := bucketNow m k
      let need : Int := (80 * min size (m.fld F.RGN_DAMPER.BURST k * 1024) : Nat)
      if rate != 0 && decide (have_ < need) then
        m.modLg k (fun g => { g with waited := true, bucket := have_, filledAt := m.now.ns })
      else
        let stubs := ((g.queue.take n).filter (ovfHits m k)).length
        let ver := 1 + m.fld F.RGN_RO_CTRL.FMT k
        let f : FlueFrame :=
          { seq := g.nextFrame, lane := lane.getD 0, recs := recs, fmt := ver,
            status := if ver = 2 then b2n g.ovf + 2 * b2n g.waited else 0, openTime := m.datum / 16 % 2 ^ 32 }
        let m := m.modLg k (fun g => { g with
          queue := g.queue.drop n, nextFrame := (g.nextFrame + 1) % 2 ^ 32, waited := false,
          bucket := if rate = 0 then g.bucket else have_ - (80 * size : Nat), filledAt := m.now.ns })
        let m := if f.seq + 1 = 2 ^ 32 then m.modErr k (fun e => { e with frameWraps := (e.frameWraps + 1) % 256 }) else m
        let m := (m.count .RGN_RO_OVF_STUBS k stubs).count .RGN_STUB_COUNT k stubs
        match lane with
        | some j => (modROLane m k j (fun l => { l with frame := some f })).emit (.flueFrame (some (8 * k + j)) (f.bytes k j))
        | none => frameDiscard m k f
  | f :: fs, none =>
    if anyActive m k then m
    else frameDiscard (m.modLg k (fun g => { g with resend := fs })) k
      { f with lane := 0, status := if f.fmt = 2 then f.status ||| 4 else 0 }

/-- FRAME_COMPLETE: the terminate block has left a lane (R409). -/
def frameComplete (m : Kz) (k j : Nat) : Kz :=
  let l := roLane m k j
  match l.frame with
  | none => m
  | some f =>
    let m := modROLane m k j (fun l => { l with frame := none })
    let m := (f.recs.foldl recGone m).count .RGN_RO_FRAMES k 1
    match l.after with
    | some st => laneTo m k j st
    | none => m

/-- R416: a write to RGN_DAMPER. -/
def damperWritten (m : Kz) (k : Nat) (o w : Word) : Kz :=
  let burst : Int := (F.RGN_DAMPER.BURST.of w * 1024 * 80 : Nat)
  let rate := F.RGN_DAMPER.RATE.of o
  m.modLg k (fun g =>
    let level := g.bucket + (rate * (m.now.ns - g.filledAt) : Nat)
    { g with bucket := if rate = 0 && F.RGN_DAMPER.RATE.of w != 0 then burst else min level burst, filledAt := m.now.ns })

/-! ### Overflow (R417 to R419) -/

/-- Age of the oldest record awaiting release, ns: none where no record waits. -/
def oldestAge (m : Kz) (k : Nat) : Option Nat :=
  let all := (m.rgn k).lg.queue ++ (chansOf k 0xFFFF).flatMap (fun c => (m.chan c).mem.closed)
  match all with
  | [] => none
  | r :: rs => some (rs.foldl (fun a x => max a (recAge m x)) (recAge m r))
/-- OVERFLOW_ENTER. -/
def overflowEnter (m : Kz) (k : Nat) : Kz :=
  let lim := m.fld F.RGN_RO_OVF.OVF_AGE k
  match oldestAge m k with
  | some a =>
    if lim != 0 && !(m.rgn k).lg.ovf && decide (lim * 1000 < a) then
      ((m.modLg k (fun g => { g with ovf := true })).mark F.RGN_RO_OVF.OVF_SEEN k).logE 0x0403 2 2 k 0 (a / 1000)
    else m
  | none => m
/-- OVERFLOW_EXIT. -/
def overflowExit (m : Kz) (k : Nat) : Kz :=
  let lim := m.fld F.RGN_RO_OVF.OVF_AGE k
  let out := match oldestAge m k with | some a => decide (a ≤ lim * 500) | none => true
  if (m.rgn k).lg.ovf && (out || lim == 0) then m.modLg k (fun g => { g with ovf := false }) else m

/-- LANE_PLL_LOCK (R402). -/
def execLanePllLock (t : Stamp) (k : Rgn) (j : Fin 8) (s : State) : Host.Outcome State Fault Refusal :=
  s.at_ t (fun m => lanePllLock m k j)
/-- LANE_SYNC_DONE (R402). -/
def execLaneSyncDone (t : Stamp) (k : Rgn) (j : Fin 8) (s : State) : Host.Outcome State Fault Refusal :=
  s.at_ t (fun m => laneSyncDone m k j)
/-- LANE_RETRAIN_DONE (R402). -/
def execLaneRetrainDone (t : Stamp) (k : Rgn) (j : Fin 8) (s : State) : Host.Outcome State Fault Refusal :=
  s.at_ t (fun m => laneRetrainDone m k j)
/-- LANE_PLL_UNLOCK (R409). -/
def execLanePllUnlock (t : Stamp) (k : Rgn) (j : Fin 8) (s : State) : Host.Outcome State Fault Refusal :=
  s.at_ t (fun m => lanePllUnlock m k j)
/-- FRAME_OPEN (R406). -/
def execFrameOpen (t : Stamp) (k : Rgn) (s : State) : Host.Outcome State Fault Refusal := s.at_ t (fun m => frameOpen m k)
/-- FRAME_COMPLETE (R409). -/
def execFrameComplete (t : Stamp) (k : Rgn) (j : Fin 8) (s : State) : Host.Outcome State Fault Refusal :=
  s.at_ t (fun m => frameComplete m k j)
/-- OVERFLOW_ENTER (R417). -/
def execOverflowEnter (t : Stamp) (k : Rgn) (s : State) : Host.Outcome State Fault Refusal :=
  s.at_ t (fun m => overflowEnter m k)
/-- OVERFLOW_EXIT (R417). -/
def execOverflowExit (t : Stamp) (k : Rgn) (s : State) : Host.Outcome State Fault Refusal :=
  s.at_ t (fun m => overflowExit m k)

end Sys2Proof.Machine
end

