-- ==== Sys2Proof/Machine/Engine.lean ====
section
/-! DEFINITION. The feature engines (R326 to R358): instruction set, activations, image checks, states. -/
namespace Sys2Proof.Machine

/-! ### Memory -/

/-- Byte address of an engine's window, and of its data memory (R353). -/
def engBase (c : Nat) : Nat := 0x04000000 + c * 0x20000
def engData (c d : Nat) : Nat := engBase c + 0x8000 + d % 0x8000
/-- A data-memory address: modulo 32,768 and rounded down to an even value (R336). -/
def dataAddr (x : Int) : Nat := (x % 32768).toNat / 2 * 2
/-- A 16-bit data word read, and written. -/
def dataWord (m : Kz) (c a : Nat) : Nat := (m.mem.read (engData c a)).toNat * 256 + (m.mem.read (engData c (a + 1))).toNat
def setDataWord (m : Kz) (c a v : Nat) : Kz := { m with mem := m.mem.writes (engData c a) (be 2 (v % 65536)) }
/-- Data memory set to an image's: its bytes from address 0, the remainder zero (R347). -/
def restoreData (m : Kz) (c : Nat) (g : EngImage) : Kz :=
  { m with mem := (m.mem.clear (engData c 0) 0x8000).writes (engData c 0) g.data }

/-! ### Instruction fields (R334) -/

def vop (b : Nat) : Nat := bits b 63 58
def vd (b : Nat) : Nat := bits b 57 53
def va (b : Nat) : Nat := bits b 52 48
def vb (b : Nat) : Nat := bits b 47 43
def vx (b : Nat) : Nat := bits b 42 32
def vsa (b : Nat) : Nat := bits b 52 49
def vimm (b : Nat) : Int := sext 16 (bits b 47 32)
def sop (b : Nat) : Nat := bits b 31 26
def sd (b : Nat) : Nat := bits b 25 22
def sa (b : Nat) : Nat := bits b 21 17
def ssb (b : Nat) : Nat := bits b 16 13
def simm (b : Nat) : Nat := bits b 12 0
def scnt (b : Nat) : Nat := bits b 21 14
def starget (b : Nat) : Nat := bits b 11 0

/-! ### Registers (R326) -/

/-- A vector register's lanes; a scalar register, S0 reading 0, as 32 bits and signed; an accumulator's lanes. -/
def vreg (e : Engine) (r : Nat) : List Int := (upTo 16).map (fun l => Sparse.get 0 e.v (r * 16 + l))
def sreg (e : Engine) (r : Nat) : Nat := if r = 0 then 0 else Sparse.get 0 e.s r
def sregS (e : Engine) (r : Nat) : Int := sext 32 (sreg e r)
def areg (e : Engine) (r : Nat) : List Int := (upTo 16).map (fun l => Sparse.get 0 e.a (r * 16 + l))
def setV (e : Engine) (r : Nat) (l : List Int) : Engine :=
  { e with v := l.zipIdx.foldl (fun t p => Sparse.set t (r * 16 + p.2) p.1) e.v }
def setS (e : Engine) (r : Nat) (x : Int) : Engine := if r = 0 then e else { e with s := Sparse.set e.s r (toU 32 x) }
def setA (e : Engine) (r : Nat) (l : List Int) : Engine :=
  { e with a := l.zipIdx.foldl (fun t p => Sparse.set t (r * 16 + p.2) p.1) e.a }
/-- Sixteen lanes wrapped to 16 bits. -/
def wrap16 (x : Int) : Int := sext 16 (toU 16 x)
def lanes2 (f : Int → Int → Int) (a b : List Int) : List Int := a.zipWith f b

/-! ### The vector slot (R338, R339) -/

/-- What a vector instruction writes: a vector register, an accumulator, 16 words of data memory, or nothing. -/
inductive VRes where
  | none
  | vec (l : List Int)
  | acc (n : Nat) (l : List Int)
  | store (a : Nat) (l : List Int)
  deriving DecidableEq, Repr

/-- The result of a vector instruction from the state at the start of its bundle; `fr` is a free value for a read of
an accumulator with a shift of 40 or more, for which R339 gives no result. -/
def vecOp (m : Kz) (c : Nat) (e : Engine) (w : List Int) (fr b : Nat) : VRes :=
  let a := vreg e (va b)
  let x := vreg e (vb b)
  let n := vx b
  let sh := n % 16
  let addr := sregS e (vsa b) + vimm b
  let ls := upTo 16
  let flag (p : Bool) : Int := if p then -1 else 0
  let bitop (f : Nat → Nat → Nat) : List Int := lanes2 (fun p q => wrap16 (f (toU 16 p) (toU 16 q))) a x
  match vop b with
  | 0x01 => .vec (ls.map (fun l => let p := addr + ((l : Nat) : Int); if 0 ≤ p then w.getD p.toNat 0 else 0))
  | 0x02 => .vec (ls.map (fun l => wrap16 (dataWord m c ((dataAddr addr + 2 * l) % 32768))))
  | 0x03 => .store (dataAddr addr) (vreg e (vd b))
  | 0x04 => .vec (ls.map (fun _ => wrap16 addr))
  | 0x05 => .vec (ls.map (fun l => wrap16 (vimm b + ((l : Nat) : Int))))
  | 0x06 => .vec (lanes2 (fun p q => wrap16 (p + q)) a x)
  | 0x07 => .vec (lanes2 (fun p q => wrap16 (p - q)) a x)
  | 0x08 => .vec (lanes2 (fun p q => satS 16 (p + q)) a x)
  | 0x09 => .vec (lanes2 (fun p q => satS 16 (p - q)) a x)
  | 0x0A => .vec (lanes2 (fun p q => satS 16 (p * q / (2 ^ sh : Nat))) a x)
  | 0x0B => .acc (n % 4) ((areg e (n % 4)).zipWith (fun s p => satS 40 (s + p)) (lanes2 (· * ·) a x))
  | 0x0C => .acc (n % 4) (ls.map (fun _ => 0))
  | 0x0D => if bits n 7 2 < 40 then .vec ((areg e (n % 4)).map (fun s => satS 16 (s / (2 ^ bits n 7 2 : Nat))))
      else .vec (ls.map (fun l => wrap16 (fr / 65536 ^ l : Nat)))
  | 0x0E => .vec (a.map (fun p => satS 16 (if p < 0 then -p else p)))
  | 0x0F => .vec (lanes2 min a x)
  | 0x10 => .vec (lanes2 max a x)
  | 0x11 => .vec (a.map (fun p => p / (2 ^ sh : Nat)))
  | 0x12 => .vec (a.map (fun p => satS 16 (p * (2 ^ sh : Nat))))
  | 0x13 => .vec (a.map (satS (sh + 1)))
  | 0x14 => .vec (bitop (· &&& ·))
  | 0x15 => .vec (bitop (· ||| ·))
  | 0x16 => .vec (bitop (· ^^^ ·))
  | 0x17 => .vec (lanes2 (fun p q => flag (decide (q < p))) a x)
  | 0x18 => .vec (lanes2 (fun p q => flag (decide (p = q))) a x)
  | 0x19 => .vec ((vreg e (n % 32)).zipWith (fun s pq => if s != 0 then pq.1 else pq.2) (a.zip x))
  | 0x1A => let lut := (e.image.map (fun g => g.lut)).getD []
      .vec (a.map (fun p => wrap16 ((lut.getD (toU 16 p / 2 ^ sh % 1024) 0 : Nat) : Int)))
  | _ => .none

/-! ### The scalar slot (R339, R340) -/

/-- CROSS (R340): the first crossing in 16 or 32 lanes, or all ones. -/
def crossOp (e : Engine) (b : Nat) : Int :=
  let r := sa b
  let ls := vreg e r ++ if (simm b).testBit 0 then vreg e ((r + 1) % 32) else []
  let l := sregS e (ssb b)
  match crossings l 0 (!(simm b).testBit 1) none none false (ls.zipIdx.map (fun p => (p.2, p.1))) with
  | p :: _ => p
  | [] => -1
/-- The value a scalar instruction writes to SD, where it writes one. -/
def scalarOp (m : Kz) (c : Nat) (e : Engine) (b : Nat) : Option Int :=
  let a := sregS e (sa b % 16)
  let x := sregS e (ssb b)
  let imm := sext 13 (simm b)
  let v := vreg e (sa b)
  let top := v.foldl max (v.headD 0)
  match sop b with
  | 0x01 => some (a + x + imm)
  | 0x02 => some (a - x)
  | 0x03 => some (sext 22 (bits b 21 0))
  | 0x04 => some (a * x)
  | 0x05 => some (a / (2 ^ (simm b % 32) : Nat))
  | 0x06 => some (min a x)
  | 0x07 => some (max a x)
  | 0x08 => some (if x < a then 1 else 0)
  | 0x09 => some (sext 16 (dataWord m c (dataAddr (a + imm))))
  | 0x0B => some (v.foldl (· + ·) 0)
  | 0x0C => some top
  | 0x0D => some ((v.idxOf? top).getD 0)
  | 0x0E => some (crossOp e b)
  | _ => none

/-! ### Bundles (R335, R336) -/

/-- Where the program goes after bundle `pc` without a branch: the innermost loop that ends there runs again while runs
are left. -/
def afterBundle (pc : Nat) : List (Nat × Nat × Nat) → Nat × List (Nat × Nat × Nat)
  | (f, l, n) :: r => if pc = l then (if n = 0 then afterBundle pc r else (f, (f, l, n - 1) :: r)) else (pc + 1, (f, l, n) :: r)
  | [] => (pc + 1, [])

/-- R346, R345: an activation stopped before WAIT.XING counts as an overrun; its hand-off stays the missing-feature code. -/
def overrun (m : Kz) (c : Nat) : Kz :=
  let k := c / 16
  let used := ((m.chan c).eng.act.map (fun a => a.used)).getD 0
  let m := m.modEng c (fun e => { e with act := none, maxUsed := max e.maxUsed (min used 255) })
  let m := (m.count .ENG_OVERRUNS k 1).markBit F.ENG_STAT.FAULT_SEEN k (c % 16)
  if (m.rgn k).eng.overrunLogged then m
  else
    let m := m.modRgn k (fun r => { r with eng := { r.eng with overrunLogged := true } })
    m.logE 0x0150 2 1 c 0 (m.counter .ENG_OVERRUNS k)

/-- ENGINE_BUNDLE: one bundle of the activation in progress (R335 to R344). -/
def bundle (m : Kz) (c : Nat) : Kz :=
  let k := c / 16
  let e := (m.chan c).eng
  match e.act, e.image with
  | some act, some g =>
    if e.state ≠ .running || m.fld F.ENG_BUDGET.B_DECL k ≤ act.used then m
    else
      let b := g.prog.getD act.pc 0
      let s := scalarOp m c e b
      let (fr, m) := if vop b = 0x0D && 40 ≤ bits (vx b) 7 2 then m.free 256 else (0, m)
      let v := vecOp m c e act.window fr b
      -- the scalar store first, so that a vector store to the same byte stands (R336)
      let m := if sop b = 0x0A then
          setDataWord m c (dataAddr (sregS e (sa b % 16) + sext 13 (simm b))) (sreg e (sd b)) else m
      let m := match v with
        | .store a l => l.zipIdx.foldl (fun (m : Kz) (p : Int × Nat) => setDataWord m c ((a + 2 * p.2) % 32768) (toU 16 p.1)) m
        | _ => m
      let e' := match v with
        | .vec l => setV e (vd b) l
        | .acc n l => setA e n l
        | _ => e
      let e' := match s with | some x => setS e' (sd b) x | none => e'
      let op := sop b
      let a := sreg e (sa b % 16)
      let taken := op = 0x10 || (op = 0x11 && a == 0) || (op = 0x12 && a != 0)
      let (pc, loops) :=
        if taken then (starget b, act.loops)
        else if op = 0x0F then (act.pc + 1, (act.pc + 1, starget b, scnt b) :: act.loops)
        else afterBundle act.pc act.loops
      let used := act.used + 1 + b2n taken
      let feature := if op = 0x14 then (min (max (sregS e (sa b % 16)) 0) 65534).toNat else act.feature
      let act' := { act with pc := pc, loops := loops, used := used, feature := feature }
      let m := m.modEng c (fun _ => { e' with act := some act' })
      let m := if op = 0x15 then
          let w := (0x80 + simm b % 128) <<< 56 ||| (act.bcn % 65536) <<< 40 ||| (a % 65536) <<< 16 ||| sreg e (ssb b) % 65536
          m.modEng c (fun e => { e with annots := e.annots ++ [(w, act.mark)] })
        else m
      let m := if op = 0x16 && (m.fld F.CH_TRIG_CTRL.SRC_EN c).testBit 7 then
          let p := sregS e (sa b % 16)
          if act.raised || p < 0 || ((g.winLen : Int) - 1) * 1024 < p then m.count .ENG_REFUSED k 1
          else
            let m := m.modEng c (fun e => { e with act := e.act.map (fun x => { x with raised := true }) })
            fireTrig m c 7 (posInst m c (act.idx + p.toNat / 1024 + 1) (p.toNat % 1024)) (m.fabric + 1)
        else m
      if op = 0x13 then
        m.modEng c (fun e => { e with
          act := none, maxUsed := max e.maxUsed used,
          handoffs := e.handoffs.map (fun h => if h.1 = act.crossing then (h.1, h.2.1, feature) else h) })
      else m
  | _, _ => m

/-- R330: a sample that enters the chain output ring, at a channel whose engine runs: within the window of a crossing it is copied
into that crossing's bank. -/
def bankSample (m : Kz) (c : Nat) (s : OutSample) (e : Engine) : Engine :=
  let edge := if rsCross m c then edgeNo m (s.idx / rsK m c) else edgeBefore m (sampleInst m c s.idx)
  match edge, e.image with
  | some x, some g =>
    let j := s.idx - markSample m c x
    if !(e.state = .running || e.state = .fault) || s.idx < markSample m c x || g.winLen ≤ j then e
    else
      let b := Sparse.get ({} : WinBank) e.banks (x.no % 3)
      let b := if b.crossing = x.no then b else { crossing := x.no }
      { e with banks := Sparse.set e.banks (x.no % 3) { b with samples := Sparse.set b.samples j s.word } }
  | _, _ => e
/-- The window of crossing number `no`, as its bank holds it; a sample that no FIXED_LANE_SEND told is that of the event (entry
97). -/
def windowOf (m : Kz) (c no len : Nat) (told : List Int) : List Int :=
  let b := Sparse.get ({} : WinBank) (m.chan c).eng.banks (no % 3)
  let l := if b.crossing = no then b.samples else []
  (upTo len).map (fun j => match l.find? (fun p => p.1 = j) with
    | some p => p.2
    | none => satS 16 (told.getD j 0))
/-- ENGINE_ACTIVATION_START: the activation of crossing number `no` on its window; its start and hand-off cycles follow from
the crossing's edge, whenever the event is told (R330, R331, R333, R346, R384). -/
def activationStart (m : Kz) (c no : Nat) (told : List Int) : Kz :=
  let e := (m.chan c).eng
  match edgeNo m no, e.image with
  | some x, some g =>
    let idx := markSample m c x
    let late := activationCycle m c x ≤ m.fabric
    if e.state ≠ .running || !engineOn m c || !running m c || !late || idx < firstDelivered m c
        || e.handoffs.any (fun h => h.1 = no) then m
    else
      let m := if e.act.isSome then overrun m c else m
      let m := match e.user with
        | some (a, b) => (setDataWord (setDataWord m c 0x7FFE a) c 0x7FFC b).modEng c (fun e => { e with user := none })
        | none => m
      let w := windowOf m c no g.winLen told
      m.modEng c (fun e => { e with
        act := some { crossing := no, bcn := x.bcn, idx := idx, mark := sampleInst m c idx, window := w,
                      start := activationCycle m c x, pc := 0, used := 0, loops := [], feature := 0, raised := false },
        handoffs := e.handoffs ++ [(no, activationCycle m c x + m.fld F.ENG_BUDGET.B_DECL (c / 16), 0xFFFF)] })
  | _, _ => m
/-- ENGINE_WATCHDOG (R345). -/
def watchdog (m : Kz) (c : Nat) : Kz :=
  match (m.chan c).eng.act with
  | some a => if m.fld F.ENG_BUDGET.B_DECL (c / 16) ≤ a.used then overrun m c else m
  | none => m
/-- FEATURE_HANDOFF: the oldest feature word whose hand-off cycle has come goes to the fixed lane (R333). -/
def handOff (m : Kz) (c : Nat) : Kz :=
  match (m.chan c).eng.handoffs with
  | (no, cyc, w) :: r =>
    if cyc ≤ m.fabric then
      let m := m.modEng c (fun e => { e with handoffs := r })
      m.modLane (c / 16) (fun l => { l with feats := l.feats ++ [(no, c, w)] })
    else m
  | [] => m

/-! ### States (R352) -/

/-- Registers zeroed, the activation abandoned. -/
def zeroRegs (e : Engine) : Engine := { e with v := [], s := [], a := [], act := none, handoffs := [] }
/-- Data memory restored where the image asks for it at RUN entry. -/
def initOnRun (m : Kz) (c : Nat) : Kz :=
  match (m.chan c).eng.image with
  | some g => if g.initOnRun then restoreData m c g else m
  | none => m
/-- Output samples per crossing as a fraction, from TIM_MCLK_FREQ and the output rate (R247, R332). -/
def perCrossing (m : Kz) (c : Nat) : Nat × Nat :=
  if rsCross m c then (m.fld F.CH_CHAIN_CTRL.RS_K c, 1)
  else if rsOn m c then (sampleHz m * (m.cfgWord .CH_RS_RATIO c).toNat, convTicks m c * decim m c * mclkFreq m * 2 ^ 32)
  else (sampleHz m, convTicks m c * decim m c * mclkFreq m)
/-- B_MEAS (R332); in MACHINE_LOCK it follows from ML_M, whatever a slew does to the newest period (R351). -/
def bMeas (m : Kz) : Nat :=
  min 255 ((m.tl.edges.head?.map (fun e => if tmode m = 1 then m.fld F.TIM_MODE.ML_M 0 / 16 else e.period / 16384)).getD 0)
/-- HANDOFF_MAX (R333): the longest way from the edge's fabric cycle to the hand-off. -/
def handoffMax (m : Kz) (c : Nat) : Nat :=
  let len := ((m.chan c).eng.image.map (fun g => g.winLen)).getD 1
  let p := (m.tl.edges.head?.map (fun e => e.period)).getD 0
  let d := delay m c + if rsCross m c then
      (roundEven (((len - 1) * 1024 + m.fld F.CH_CHAIN_CTRL.RS_PHASE c) * p : Nat) (1024 * rsK m c)).toNat
    else let s := gridStep m c; (len * s.1 + s.2 - 1) / s.2 - 1
  (d + 16383) / 16384 + 2 + m.fld F.ENG_BUDGET.B_DECL (c / 16)
/-- R370: the least latency, in crossings, that a channel's hand-off needs at the present crossing period. -/
def primNeed (m : Kz) (c : Nat) : Nat :=
  let p := max 1 ((m.tl.edges.head?.map (fun e => e.period)).getD 1)
  ((handoffMax m c + 32) * 16384 + p - 1) / p
/-- RUN entry of an engine. -/
def engineEnter (m : Kz) (c : Nat) : Kz :=
  if (m.fld F.ENG_CTRL.EN (c / 16)).testBit (c % 16) && (m.chan c).eng.state = .ready then
    let h := min 0xFFFF (handoffMax m c)
    let l := primNeed m c
    initOnRun (m.modEng c (fun e => { zeroRegs e with state := .running, maxUsed := 0, handoffMax := h, need := l, user := none })) c
  else m
/-- The region leaves RUN. -/
def engineLeave (m : Kz) (c : Nat) : Kz :=
  m.modEng c (fun e => if e.state = .running then { e with state := .ready, act := none, handoffs := [] }
    else { e with act := none, handoffs := [] })
/-- A channel or region restart. -/
def engineRestart (m : Kz) (c : Nat) : Kz :=
  if (m.chan c).eng.state = .running then initOnRun (m.modEng c zeroRegs) c else m
/-- ENGINE_MEM_FAULT (R328, R352). -/
def engineFault (m : Kz) (c : Nat) : Kz :=
  if (m.chan c).eng.state = .running then
    let m := m.modEng c (fun e => { e with state := .fault, act := none, handoffs := [] })
    (m.markBit F.ENG_STAT.FAULT_SEEN (c / 16) (c % 16)).logE 0x0151 2 1 c 0 0
  else m
/-- ENGINE_RELOAD_DONE (R352). -/
def engineReloaded (m : Kz) (c : Nat) : Kz :=
  let e := (m.chan c).eng
  match e.state, e.image with
  | .fault, some g =>
    let m := m.modEng c (fun e => { zeroRegs e with state := if m.inRun (c / 16) then .running else .ready })
    restoreData m c g
  | _, _ => m

/-! ### Images (R347 to R349) -/

/-- Whether a scalar slot's A names a scalar register, in which case A[4] is 0 (R334). -/
def aScalar (op : Nat) : Bool := !(op = 0x0B || op = 0x0C || op = 0x0D || op = 0x0E || op = 0x03 || op = 0x0F || op = 0x10)
/-- Whether a bundle has a reserved opcode or a non-zero reserved field (R334, R339, R348 order 3). -/
def badBundle (b : Nat) : Bool :=
  let v := vop b
  let s := sop b
  let vs := 1 ≤ v && v ≤ 5
  decide (0x1A < v) || decide (0x16 < s) || (vs && bits b 48 48 != 0) ||
    (0x0F ≤ s && s ≤ 0x12 && (bits b 25 22 != 0 || bits b 13 12 != 0)) ||
    (s = 0x10 && scnt b != 0) || ((s = 0x11 || s = 0x12) && bits b 16 14 != 0) || (aScalar s && 16 ≤ sa b)
/-- Loops of a program: LOOP bundle and last bundle of its body. -/
def loopsOf (p : List Nat) : List (Nat × Nat) := (p.zipIdx.filter (fun x => sop x.1 = 0x0F)).map (fun x => (x.2, starget x.1))
/-- Whether a bundle breaks a rule of R348 order 4. -/
def badFlow (p : List Nat) (ls : List (Nat × Nat)) (a b : Nat) : Bool :=
  let s := sop b
  let t := starget b
  let inBody (l : Nat × Nat) (x : Nat) : Bool := decide (l.1 < x) && decide (x ≤ l.2)
  (0x0F ≤ s && s ≤ 0x12 && (t ≤ a || p.length ≤ t)) ||
    (s = 0x0F && (ls.any (fun l => inBody l a && !inBody l t) || 2 ≤ (ls.filter (fun l => inBody l a)).length)) ||
    (0x10 ≤ s && s ≤ 0x12 && ls.any (fun l => inBody l a != inBody l t)) ||
    (s = 0x13 && ls.any (fun l => inBody l a)) || (a + 1 = p.length && s != 0x13)
/-- The costs of bundles `lo` to `stop - 1`, the bundle at `stop` counting 0 (R349); `d` bounds the nesting of loops. -/
def costTable : Nat → List Nat → Nat → Nat → List Nat
  | 0, _, _, _ => []
  | d + 1, p, lo, stop =>
    (upTo (stop - lo)).foldl (fun acc i =>
      let a := stop - 1 - i
      let b := p.getD a 0
      let cost (x : Nat) : Nat := acc.getD (x - (a + 1)) 0
      let t := starget b
      let c := match sop b with
        | 0x13 => 1
        | 0x10 => 2 + cost t
        | 0x11 | 0x12 => max (2 + cost t) (1 + cost (a + 1))
        | 0x0F => 1 + (scnt b + 1) * (costTable d p (a + 1) (t + 1)).headD 0 + cost (t + 1)
        | _ => 1 + cost (a + 1)
      c :: acc) []
/-- The worst case of a program, in fabric cycles. -/
def wcet (p : List Nat) : Nat := (costTable 3 p 0 p.length).headD 0

/-- `n`-byte numbers from the front of a byte list. -/
def chunk (n : Nat) : Nat → List Byte → List Nat
  | 0, _ => []
  | k + 1, l => ofBe (l.take n) :: chunk n k (l.drop n)
/-- The checks of R348 in their order on an image: the image, or the error code of R354 and the first failing bundle. -/
def checkImage (l : List Byte) (budget : Nat) : Except (Nat × Nat) EngImage :=
  let f (o n : Nat) : Nat := ofBe (slice l o n)
  let np := f 6 2
  let win := f 8 2
  let nd := f 12 2
  let nl := f 14 2
  let size := 16 + 8 * np + nd + 2 * nl + 4
  let body := l.take (l.length - 4)
  if l.length < 20 || f 0 4 ≠ 0x4B5A4550 || 1 < f 5 1 || np = 0 || 4096 < np || win < 8 || 256 < win || win % 8 ≠ 0
      || 32768 < nd || nd % 2 ≠ 0 || !(nl = 0 || nl = 1024) || l.length ≠ size || crc32c body ≠ f (size - 4) 4 then .error (1, 0)
  else if f 4 1 ≠ 1 then .error (2, 0)
  else
    let p := chunk 8 np (l.drop 16)
    match p.findIdx? badBundle with
    | some a => .error (3, a)
    | none =>
      let ls := loopsOf p
      match (p.zipIdx.find? (fun x => badFlow p ls x.2 x.1)) with
      | some x => .error (4, x.2)
      | none =>
        let w := wcet p
        if budget < w then .error (5, 0)
        else .ok { initOnRun := f 5 1 = 1, winLen := win, claimed := f 10 2, prog := p, data := slice l (16 + 8 * np) nd,
                   lut := chunk 2 nl (l.drop (16 + 8 * np + nd)), wcet := w, digest := Config.sha512 l }

/-- R348, R352: a refused load leaves every target engine EMPTY, its memories cleared. -/
def loadRefused (m : Kz) (k mask code addr : Nat) : Kz :=
  (chansOf k mask).foldl (fun m c =>
    let m := m.modEng c (fun e => { loads := e.loads, annots := e.annots, rejectCode := code, rejectAddr := addr })
    { m with mem := m.mem.clear (engData c 0) 0x8000 }) m
/-- R352: an accepted load; the engines write their memories. -/
def loadAccepted (m : Kz) (k mask : Nat) (g : EngImage) : Kz :=
  let m := m.modRgn k (fun r => { r with eng := { r.eng with
    loads := r.eng.loads ++ [(r.eng.nextLoad, mask, g)], nextLoad := r.eng.nextLoad + 1 } })
  (chansOf k mask).foldl (fun m c =>
    m.modEng c (fun e => { loads := (e.loads + 1) % 2 ^ 32, annots := e.annots, state := .loading, loading := some g })) m
/-- R350: the engines of a load become READY with its image. -/
def loadWritten (m : Kz) (k mask : Nat) (g : EngImage) : Kz :=
  (chansOf k mask).foldl (fun m c =>
    let e := (m.chan c).eng
    if e.state = .loading && e.loading = some g then
      restoreData (m.modEng c (fun e => { e with state := .ready, image := some g, loading := none, handoffMax := 0xFFFF })) c g
    else m) m

/-- ENGINE_ACTIVATION_START (R331). -/
def execEngineActivationStart (t : Stamp) (c : Chan) (no : Nat) (window : List Int) (s : State) :
    Host.Outcome State Fault Refusal := s.at_ t (fun m => activationStart m c no window)
/-- ENGINE_BUNDLE (R335). -/
def execEngineBundle (t : Stamp) (c : Chan) (s : State) : Host.Outcome State Fault Refusal := s.at_ t (fun m => bundle m c)
/-- ENGINE_WATCHDOG (R345). -/
def execEngineWatchdog (t : Stamp) (c : Chan) (s : State) : Host.Outcome State Fault Refusal :=
  s.at_ t (fun m => watchdog m c)
/-- FEATURE_HANDOFF (R333). -/
def execFeatureHandoff (t : Stamp) (c : Chan) (s : State) : Host.Outcome State Fault Refusal :=
  s.at_ t (fun m => handOff m c)
/-- ENGINE_MEM_FAULT (R352). -/
def execEngineMemFault (t : Stamp) (c : Chan) (s : State) : Host.Outcome State Fault Refusal :=
  s.at_ t (fun m => engineFault m c)
/-- ENGINE_RELOAD_DONE (R352). -/
def execEngineReloadDone (t : Stamp) (c : Chan) (s : State) : Host.Outcome State Fault Refusal :=
  s.at_ t (fun m => engineReloaded m c)

end Sys2Proof.Machine
end

