-- ==== Sys2Proof/Machine/SamplePath.lean ====
section
/-! DEFINITION. What a fabric cycle's raw codes do (R23, R49 to R55, R76, R84, R89, R93, R150 to R170): input correction, the
comparison of slices, the chain, and the readers of the chain output ring. A cycle whose codes no command tells leaves
its samples free (entry 97). -/
namespace Sys2Proof.Machine

/-- An output sample enters the ring: its readers take it, each at its own position (R23, R51, R152, R215, R235, R330). -/
def ringSample (m : Kz) (c : Nat) (o : OutSample) (p : Path) : Path :=
  if o.idx < firstDelivered m c then p
  else
    let ch := { p.x.chain with
      ring := (o :: p.x.chain.ring).take 256, readTrig := o.idx + 1, readEng := o.idx + 1, readMem := o.idx + 1 }
    let t := compSample m c o.idx ch true (compSample m c o.idx ch false p.x.trig)
    let kept := !t.maskStop && firstStored m c ≤ o.idx
    let s : OutSample := { o with word := asStored (packed m c) o.word }
    { p with x := { p.x with
        chain := ch, trig := t, eng := bankSample m c o p.x.eng,
        mem := if kept then { p.x.mem with store := (s :: p.x.mem.store).take (storeSamples m c) } else p.x.mem } }

/-- A word that leaves input correction as converter sample `i`: through the slot, the cascade and the resampler (R148 to R170). -/
def chainSample (m : Kz) (c i : Nat) (v : Int × Bool) (p : Path) : Path :=
  let tc := convTicks m c
  match p.x.chain.start with
  | none => p
  | some st =>
    if i * tc < st then p
    else
      let k := i + lead - gridStart m c / (1024 * tc)
      let slot := m.on F.CH_CHAIN_CTRL.SLOT_EN c
      let (p, v) := if slot && !wide m c then blSample m c k v p else (p, v)
      let p := p.mod (fun x => { (if slot && wide m c then toneSample m c i v x else x) with nextIdx := k + 1 })
      let (stages, sat, out) := cascade p.x.chain.stages k v
      let p := { p with arith := p.arith || sat }.mod (fun x => { x with stages := stages })
      match out with
      | none => p
      | some (o, w) =>
        if rsOn m c then
          let (rs, sat, l) := resample m c p.x.chain o w
          l.foldl (fun p s => ringSample m c s p) ({ p with arith := p.arith || sat }.mod (fun x => { x with rs := rs }))
        else if o < lead / decim m c then p
        else ringSample m c ⟨o - lead / decim m c, w.1, w.2⟩ p

/-- The saturation of a converter sample (R50, R54, R55). -/
def satSample (mark : Bool) (p : Path) : Path :=
  { p with x := { p.x with fe := { p.x.fe with satNow := mark } }, sat := p.sat || mark,
           episodes := p.episodes + b2n (mark && !p.x.fe.satNow) }
/-- A raw code of slice `s` in its run of one code (R93), and beside it the code of the slice it is compared with (R84, R89). -/
def sliceSample (m : Kz) (c idx s : Nat) (code : Int) (other : Option Int) (front : List Int) (w : Int × Bool) (v : Conv) : Conv :=
  let tick := idx * ticksOf v.effMode
  let v := if m.on F.CH_CONV_CTRL.STUCK_EN c && m.inRun (c / 16) then
      { v with runs := Sparse.set v.runs s (runOn (Sparse.get {} v.runs s) code w.2 tick) } else v
  match other with
  | some b =>
    let from_ := if v.rot = .confirm then v.handoverAt else v.windowAt
    if partner v = 15 || tick < from_ || (v.rot = .confirm && decide (v.handoverAt + 1024 ≤ tick)) then v
    else
      let k := c / 16
      let y := (corrected (coefOf v (partner v)) front b, rawMarked b)
      { v with pairs := addPair (m.fld F.RGN_SHADOW_CFG.THR k) (m.fld F.RGN_SHADOW_CFG.CONFIRM_LIMIT k) tick y w v.pairs }
  | none => v
/-- Converter sample `idx` (R50, R72, R76): the slice in service gives the raw code, input correction the output word, and the word
that entered 48 samples ago leaves. -/
def convSample (m : Kz) (c idx : Nat) (code : Int) (other : Option Int) (p : Path) : Path :=
  let v := p.x.conv
  let s := sliceAt v idx
  let mark := rawMarked code
  let front := v.front.getD (m.fld F.CH_FE_CTRL.GAIN c) []
  let w := (corrected (coefOf v s) front code, mark)
  let v := sliceSample m c idx s code other front w v
  let words := (w :: if idx = v.nextIdx then v.line else []).take 49
  let p := satSample mark { p with x := { p.x with conv := { v with line := words, nextIdx := idx + 1 } } }
  match words[48]? with
  | some y => chainSample m c (idx - 48) y p
  | none => p

/-- The codes of one channel's converter samples from index `idx` on, with those of the compared slice, which converts at one
position. -/
def convSamples (m : Kz) (c : Nat) (phase n : Nat) : Nat → List Int → List Int → Path → Path
  | _, [], _, p => p
  | idx, a :: r, l, p =>
    if idx % n = phase then convSamples m c phase n (idx + 1) r l.tail (convSample m c idx a l.head? p)
    else convSamples m c phase n (idx + 1) r l (convSample m c idx a none p)

/-- What a channel's slices deliver in a fabric cycle (R50, R54, R55, R150). -/
def deliver (m : Kz) (d : Delivered) : Kz :=
  let c := d.ch.val
  let tc := convTicks m c
  if m.rstate (c / 16) = .down || chanFailed m c then m
  else
    let v := (m.chan c).conv
    let p := convSamples m c v.phase (slicesOf v.effMode) (m.fabric * 16 / tc) ((d.codes.take (16 / tc)).map BitVec.toInt)
      (d.spare.map BitVec.toInt) { x := m.chan c, fresh := m.fresh }
    let m := { m.modChan c (fun _ => p.x) with fresh := p.fresh }
    let m := if p.episodes = 0 then m else m.count .CH_SAT_COUNT c p.episodes
    let m := if p.sat then m.mark F.CH_FE_STAT.SAT_SEEN c else m
    if p.arith then m.mark F.CH_CHAIN_STAT.ARITH_SAT_SEEN c else m

end Sys2Proof.Machine
end

