-- ==== Sys2Proof/Machine/Session.lean ====
section
/-! DEFINITION. Answers of a session (R521, R526, R528, R531, R539): status codes, responses, the end of a request
in execution, the reset of a session. -/
namespace Sys2Proof.Machine

/-- Status codes (R539, R582, R618, R668, R701, R731). -/
def Status.code : Status → Nat
  | .ok => 0 | .badValue => 1 | .badAddress => 2 | .locked => 3 | .noLease => 4 | .leaseHeld => 5
  | .regionsNotIdle => 6 | .refAbsent => 7 | .calDue => 8 | .railSpread => 9 | .urgentDropped => 0xA
  | .engFormat => 0x10 | .engAbi => 0x11 | .engOpcode => 0x12 | .engFlow => 0x13 | .engBudget => 0x14
  | .malformed => 0x20 | .unknownCommand => 0x21 | .tagConflict => 0x22 | .seqWindow => 0x23 | .seqConflict => 0x24
  | .sessionBusy => 0x25 | .noSession => 0x26 | .version => 0x27 | .notInRecovery => 0x28
  | .nonceInvalid => 0x30 | .sigInvalid => 0x31 | .bindingMismatch => 0x32
  | .imageInvalid => 0x40 | .rollback => 0x41 | .chunkOffset => 0x42 | .ownerSlot => 0x43 | .lastOwner => 0x44
  | .ownerRequired => 0x45 | .notVerified => 0x46 | .supervisorRestart => 0x47 | .identFault => 0x48
  | .stateOrder => 0x50 | .tripActive => 0x51 | .notInLedger => 0x58 | .dsiBusy => 0x60 | .commitPending => 0x61
  | .modeRunning => 0x62 | .regionDown => 0x70

/-- Command codes (R537). -/
def cmdCode : Request → Nat
  | .nop => 0x01 | .openSession .. => 0x02 | .closeSession => 0x03 | .leaseAcquire .. => 0x04 | .leaseRelease .. => 0x05
  | .leaseQuery .. => 0x06 | .subscribe _ => 0x07 | .regRead _ => 0x10 | .regWrite _ => 0x11 | .blockRead .. => 0x12
  | .commit .. => 0x13 | .moduleState _ => 0x20 | .regionState .. => 0x21 | .channelRestart _ => 0x22
  | .statBoundary => 0x23 | .stageWrite .. => 0x30 | .engLoad .. => 0x31 | .logRead .. => 0x40 | .ledgerRead .. => 0x41
  | .attest .. => 0x50 | .challenge => 0x60 | .signed .. => 0x61 | .fwChunk .. => 0x62 | .unknown c _ => c.toNat

/-- A detail that names nothing, and details that name something (R539). -/
def noDetail : Detail := ⟨0, 0⟩
def Detail.bytes (d : Detail) : List Byte := be 1 d.kind ++ be 1 0 ++ be 2 d.value

/-- What a request in execution ends with: status, detail, and the body of an OK response or the values read before a
failure. -/
structure Answer where
  status : Status
  detail : Detail := noDetail
  body : List Byte := []
  deriving DecidableEq, Repr
/-- The body of a response (R539). -/
def Answer.bytes (a : Answer) : List Byte := if a.status = .ok then a.body else a.detail.bytes ++ a.body

/-! ### Messages as bytes (R7, R408, R520, R521) -/

/-- A message: the 16-byte header, the body, the CRC-32C trailer. -/
def message (h : Head) (kind seq tag cmd status : Nat) (body : List Byte) : List Byte :=
  let b := be 2 0x4B43 ++ be 1 h.version ++ be 1 kind ++ be 2 h.session ++ be 2 seq ++ be 1 tag ++ be 1 0 ++ be 2 cmd
    ++ be 2 status ++ be 2 body.length ++ body
  b ++ be 4 (crc32c b)
/-- The datagram of an emission that is a message: kind 2 a response, 3 a notification; bit 0 REJECT, bit 1 RESENT. -/
def Emission.datagram : Emission → Option (List Byte)
  | .response _ h seq tag cmd st body resent => some (message h (0x20 + 2 * b2n resent) seq tag cmd st.code body)
  | .rejection _ h seq tag cmd st => some (message h 0x21 seq tag cmd st.code noDetail.bytes)
  | .notification _ h code body resent => some (message h (0x30 + 2 * b2n resent) 0 0 code 0 body)
  | _ => none
/-- A port's MAC address: locally administered, unicast (R520). -/
def macOf (p : Nat) : BitVec 48 := (Config.macSeed p &&& 0xFEFFFFFFFFFF) ||| 0x020000000000
/-- An own address of a port: the link-local one is formed from the MAC address as IPv6 does it (PRESUMED, entry 110). -/
def ownAddress (m : Kz) (p : Nat) : OwnAddr → Nat
  | .linkLocal =>
    let a := (macOf p ^^^ 0x020000000000).toNat
    0xFE80 <<< 112 ||| (a / 2 ^ 24) <<< 40 ||| 0xFFFE <<< 24 ||| a % 2 ^ 24
  | .ipv4 => (m.port p).ipv4.toNat
  | .ipv6 => (m.port p).ipv6.toNat

/-- R526: a session reset: requests not started, tags, responses, notifications, nonce, staging area and leases go; a
request in execution goes on without its response. -/
def resetSession (m : Kz) (p : Nat) : Kz :=
  let q := m.port p
  if q.session.isOpen then
    let orphan := match q.session.running with | some r => [(r, q.session.leases)] | none => []
    let m := m.modPort p (fun q => { q with session := {}, orphans := q.orphans ++ orphan })
    m.logE 0x0501 0 5 p 0 p
  else m
/-- R524: the sessions whose port configuration was changed are reset once the response has been sent. -/
def resetsDue (m : Kz) : Kz :=
  (upTo 4).foldl (fun m p => if (m.port p).session.resetDue then resetSession m p else m) m
/-- R528, R531: the one response of a request, kept with its tag. -/
def respond (m : Kz) (p : Nat) (via : Via) (seq tag : Nat) (cmd : Nat) (a : Answer) : Kz :=
  let m := m.modSess p (fun s => { s with
    running := none,
    tags := s.tags.map (fun t => if t.tag.toNat = tag then { t with resp := some ⟨cmd, a.status, a.bytes⟩ } else t) })
  resetsDue (m.emit (.response p { m.headOf p with via := via } seq tag cmd a.status a.bytes false))
/-- The request in execution on a port ends. -/
def endRunning (m : Kz) (p : Nat) (a : Answer) : Kz :=
  match (m.port p).session.running with
  | some r => respond m p r.via r.seq.toNat r.tag.toNat (cmdCode r.req) { a with body := if a.status = .ok then r.body ++ a.body else a.body }
  | none => m
/-- Every request that waits for something ends; a request of a session that was reset ends without a response. -/
def endWaits (m : Kz) (w : Wait) (a : Answer) : Kz :=
  (upTo 4).foldl (fun m p =>
    let m := m.modPort p (fun q => { q with orphans := q.orphans.filter (fun o => decide (o.1.wait ≠ w)) })
    match (m.port p).session.running with
    | some r => if r.wait = w then endRunning m p a else m
    | none => m) m
/-- R609: a trip ends the commands in execution for a region. -/
def endRegionWaits (m : Kz) (k : Nat) (a : Answer) : Kz :=
  endWaits (endWaits m (.regionIdle k) a) (.regionDown k) a

end Sys2Proof.Machine
end

