-- ==== Sys2Proof/Machine/Ledger.lean ====
section
/-! DEFINITION. The ledger in the boot flash and the log archive's summaries (R647, R664 to R667). -/
namespace Sys2Proof.Machine

/-- A part of the ageing state changed, for the module and for a region. -/
def modAge (m : Kz) (f : Ageing → Ageing) : Kz := { m with age := f m.age }
def modRAge (m : Kz) (k : Nat) (f : RgnAge → RgnAge) : Kz := m.modRgn k (fun r => { r with age := f r.age })

/-- Powered hours (R664). -/
def hoursNow (m : Kz) : Nat :=
  m.age.hours + (match m.age.poweredFrom with | some a => (m.now.ns - a) / 3600000000000 | none => 0)

/-- Bytes padded with zeros to a length. -/
def padTo (n : Nat) (l : List Byte) : List Byte := l ++ List.replicate (n - l.length) 0
/-- A one-bit W1C field as a number. -/
def seenBit (m : Kz) (f : Field) (i : Nat) : Nat := m.seen f i

/-- The module section of a record (R667). -/
def ledgerModule (m : Kz) : List Byte :=
  let a := m.age
  padTo 0x60 (be 4 (toU 32 (sext 24 (m.fld F.TIM_HEARTH_TRIM.TRIM 0))) ++ be 1 (m.fld F.TIM_OVEN.SETPOINT 0)
    ++ be 1 (seenBit m F.MOD_AGE_STAT.OVR_OVEN 0 + 2 * seenBit m F.MOD_AGE_STAT.OVR_TRIM 0)
    ++ be 1 ((m.cfgWord .MOD_AGE_CTRL 0).toNat / 2 ^ 24) ++ be 1 0 ++ be 2 a.heatMean ++ be 2 a.heatMin ++ be 2 a.heatMax
    ++ be 2 a.unreg ++ be 4 (toU 32 a.hearthDev) ++ be 2 a.synMin ++ be 2 a.synMax)
/-- A region's section. -/
def ledgerRegion (m : Kz) (k : Nat) : List Byte :=
  let a := (m.rgn k).age
  let flags := b2n a.noVmin + 2 * b2n a.railLimited + 4 * b2n a.marginLow + 8 * b2n a.benchDrift + 16 * b2n a.pllMargin
  padTo 0x100 (be 2 (m.fld F.RGN_RAIL.TARGET_MV k) ++ be 2 (m.fld F.RGN_ROT_CTRL.STEP k)
    ++ be 1 (seenBit m F.RGN_AGE_STAT.OVR_RAIL k + 2 * seenBit m F.RGN_AGE_STAT.OVR_STEP k) ++ be 1 flags
    ++ be 2 a.vmin ++ be 2 a.vminMin ++ be 2 a.vminMax ++ a.deg.flatMap (fun d => be 4 (toU 32 d))
    ++ be 2 a.pllMin ++ be 2 a.pllMax ++ be 4 a.bench ++ be 4 a.eccSum ++ be 2 a.restarts)
/-- A die's dose and a channel's wear. -/
def ledgerDie (m : Kz) (d : Nat) : List Byte :=
  be 4 (Sparse.get 0 m.age.doseBy (2 * d)) ++ be 4 (Sparse.get 0 m.age.doseBy (2 * d + 1))
def ledgerChan (m : Kz) (c : Nat) : List Byte :=
  padTo 24 (be 2 (m.fld F.CH_SLICE_HEALTH.RETIRED c) ++ be 2 (Sparse.get 0 m.age.wear c)
    ++ ((Sparse.get [] m.age.drift c).take 18).flatMap (fun x => be 1 (toU 8 x)))
/-- A whole record (R667). -/
def ledgerBytes (m : Kz) (kind num code skind idx : Nat) : List Byte :=
  let head := be 4 0x4B5A4C47 ++ be 1 kind ++ be 1 1 ++ be 2 0 ++ be 4 num ++ be 4 (hoursNow m) ++ be 4 m.fw.bootCount
    ++ be 4 m.fw.runImage.version.toNat ++ be 1 code ++ be 1 skind ++ be 2 idx ++ be 4 0
  let b := padTo 0x1FFC (padTo 0xD00 (head ++ ledgerModule m ++ (upTo 12).flatMap (ledgerRegion m)
    ++ (upTo 5).flatMap (ledgerDie m)) ++ (upTo 192).flatMap (ledgerChan m))
  b ++ be 4 (crc32c b)

/-- The highest record number held in either ring, 0 where there is none. -/
def lastRecord (m : Kz) : Nat :=
  ((m.age.ckpt ++ m.age.recs).map (fun p => p.2.num)).foldl max 0
/-- The number the next record takes. -/
def nextRecord (m : Kz) : Nat := if m.age.ckpt.isEmpty && m.age.recs.isEmpty then 0 else lastRecord m + 1
/-- A record put into slot `i` of a ring of `n`; entering a sector erases its eight slots (R665). -/
def putSlot (ring : Sparse LedgerRec) (i : Nat) (r : Option LedgerRec) : Sparse LedgerRec :=
  let kept := if i % 8 = 0 then ring.filter (fun p => decide (p.1 < i) || decide (i + 8 ≤ p.1)) else Sparse.del ring i
  match r with
  | some x => Sparse.set kept i x
  | none => kept
/-- R664, R665: a record written; where the first try fails its read-back, it goes to the next slot. -/
def writeLedger (m : Kz) (kind code skind idx : Nat) (ok : Bool) : Kz :=
  let r : LedgerRec := ⟨nextRecord m, kind, ledgerBytes m kind (nextRecord m) code skind idx⟩
  let m := if ok then m else m.mark F.MOD_AGE_STAT.LEDGER_FAIL_SEEN 0
  if kind = 3 then
    modAge m (fun a =>
      let (ring, i) := if ok then (a.ckpt, a.ckptAt) else (putSlot a.ckpt a.ckptAt none, (a.ckptAt + 1) % 64)
      { a with ckpt := putSlot ring i (some r), ckptAt := (i + 1) % 64 })
  else
    let m := modAge m (fun a =>
      let (ring, i) := if ok then (a.recs, a.recAt) else (putSlot a.recs a.recAt none, (a.recAt + 1) % 704)
      { a with recs := putSlot ring i (some r), recAt := (i + 1) % 704, unreg := 0, heatMean := 0, heatMin := 0, heatMax := 0 })
    m.eachRgn (fun m k => modRAge m k (fun a => { a with eccSum := 0, restarts := 0, vminMin := 0, vminMax := 0 }))
/-- The checkpoint of every 24 powered hours, and of every module reset the module starts. -/
def checkpoint (m : Kz) (ok : Bool) : Kz := writeLedger m 3 0 0 0 ok

/-- R647: one summary entry for each code that occurred since the last summary. -/
def archiveSummary (m : Kz) : Kz :=
  let l := m.log.since
  let m := l.foldl (fun m x => m.toArchive ⟨0, m.datum, m.tb.epochSeq, 0, 3, x.1, 0x0F00, x.2.2, x.2.1⟩) m
  { m with log := { m.log with since := [] } }

/-- Whether powered hours count (R664). -/
def powered (s : ModState) : Bool := s = .standby || s = .ready || s = .acquire || s = .hold

/-- ARCHIVE_SUMMARY (R647, R648): `ok` tells that every archive write verified. -/
def execArchiveSummary (t : Stamp) (ok : Bool) (s : State) : Host.Outcome State Fault Refusal :=
  s.at_ t (fun m =>
    if powered m.pwr.state then
      let m := archiveSummary m
      if ok then m else m.mark F.MOD_ERR_STAT.ARCHIVE_FAIL_SEEN 0
    else m)
/-- LEDGER_CHECKPOINT (R664): `ok` tells that the first try passed its read-back. -/
def execLedgerCheckpoint (t : Stamp) (ok : Bool) (s : State) : Host.Outcome State Fault Refusal :=
  s.at_ t (fun m => if powered m.pwr.state then checkpoint m ok else m)
/-- LEDGER_ACTION (R664): the oldest change that is owed a record. -/
def execLedgerAction (t : Stamp) (ok : Bool) (s : State) : Host.Outcome State Fault Refusal :=
  s.at_ t (fun m =>
    match m.age.actions with
    | (code, kind, idx) :: r => writeLedger (modAge m (fun a => { a with actions := r })) 2 code kind idx ok
    | [] => m)

end Sys2Proof.Machine
end

