-- ==== Sys2Proof/Machine/Prim.lean ====
section
/-! DEFINITION. The trigger-primitive lanes (R359 to R376). -/
namespace Sys2Proof.Machine

/-- Primitive lane `n`, and that lane changed. -/
def prim (m : Kz) (n : Nat) : Prim := Sparse.get {} m.prims n
def modPrim (m : Kz) (n : Nat) (f : Prim → Prim) : Kz := { m with prims := Sparse.mod {} m.prims n f }

/-- Frame length of a payload mode, bits (R363). -/
def primBits (mode : Nat) : Nat := match mode with | 0 => 416 | 1 => 224 | _ => 96
/-- R363: whether a machine clock lies above the highest one of a mode. -/
def rateHigh (mode hz : Nat) : Bool := decide (24960000000 < primBits mode * hz) || decide (120000000 < hz)
/-- The payload of a frame from its 24 feature words, the missing-feature code being 0xFFFF (R365, R366). -/
def primPayload (mode shift sumShift : Nat) (w : List Nat) : List Byte :=
  match mode with
  | 0 => w.flatMap (fun x => be 2 x)
  | 1 => w.map (fun x => BitVec.ofNat 8 (if x = 0xFFFF then 0xFF else min 254 (x >>> shift)))
  | _ =>
    let g (i : Nat) : List Nat := (w.drop (8 * i)).take 8
    let sum (l : List Nat) : Nat :=
      if l.all (fun x => x = 0xFFFF) then 0xFFFF
      else min 65534 (l.foldl (fun a x => if x = 0xFFFF then a else a + x >>> sumShift) 0)
    let bit_ (i : Nat) : Nat := if (g i).any (fun x => x = 0xFFFF) then 1 <<< i else 0
    be 2 (sum (g 0)) ++ be 2 (sum (g 1)) ++ be 2 (sum (g 2)) ++ be 2 (bit_ 0 ||| bit_ 1 ||| bit_ 2)

/-- A feature word released to the hub in fabric cycle `cyc` (R28, R369): one whose frame has gone is late, and one for a lane that sends no frames is dropped. -/
def primWord (m : Kz) (no c w cyc : Nat) : Kz :=
  let n := c / 24
  if !m.on F.MOD_PRIM_CFG.EN n then m else
  match (prim m n).sent with
  | some s => if no ≤ s then (m.count .MOD_PRIM_LATE 0 1).mark F.MOD_PRIM_STAT.LATE_SEEN n
    else modPrim m n (fun p => { p with words := p.words ++ [(no, c, w, cyc)] })
  | none => modPrim m n (fun p => { p with words := p.words ++ [(no, c, w, cyc)] })

/-- The first 32-bit boundary of a lane at or after an instant of HEARTH mode: 32 bits at 25.0 Gb/s are 134,217,728 of 10,000
parts of 1/1024 tick (R359, R367). -/
def primBoundary (n x : Nat) : Nat := (x * 10000 + Config.primPhase n % 134217728 + 134217727) / 134217728
/-- By how many 32-bit boundaries a frame with a scheduled start begins after the first one, and its boundary (R367, R368): from the
end of the frame before it in HEARTH mode; as the event tells where the ticks do not come from the hearth (entry 23). -/
def primStart (m : Kz) (n start slip : Nat) : Nat × Nat :=
  if tmode m = 0 then
    let b := primBoundary n start
    let e := (prim m n).endsAt.getD 0
    (e - b, max b e)
  else (slip, 0)

/-- PRIM_FRAME: the frame of crossing number `no` on lane `n`, at the edge of crossing `no` + LAT (R361, R362, R367 to R369). -/
def primFrame (m : Kz) (n no slip : Nat) : Kz :=
  let mode := m.fld F.MOD_PRIM_CFG.MODE n
  let again := match (prim m n).sent with | some s => decide (no ≤ s) | none => false
  match edgeNo m no, edgeNo m (no + m.fld F.MOD_PRIM_CFG.LAT n) with
  | some e, some start =>
    if !m.on F.MOD_PRIM_CFG.EN n || again || m.inst < start.at_ then m
    else
      let last := start.at_ / 16384
      let mine := (prim m n).words.filter (fun x => x.1 = no)
      let late := (mine.filter (fun x => decide (last < x.2.2.2 + 8))).length
      let word (i : Nat) : Nat :=
        match mine.find? (fun x => x.2.1 = 24 * n + i && decide (x.2.2.2 + 8 ≤ last)) with
        | some x => x.2.2.1
        | none => 0xFFFF
      let ws := (upTo 24).map word
      let first := primStart m n start.at_ slip
      let cut := 2 ≤ first.1
      let payload := if cut then [] else primPayload mode (m.fld F.MOD_PRIM_CFG.SHIFT n) (m.fld F.MOD_PRIM_CFG.SUM_SHIFT n) ws
      let h := (e.bcn % 4096) <<< 12 ||| n <<< 8 ||| 1 <<< 7 ||| mode <<< 5 ||| b2n cut <<< 4 ||| b2n e.mark <<< 3
        ||| b2n e.virt <<< 2 ||| b2n (ws.any (fun x => x = 0xFFFF)) <<< 1 ||| b2n e.hold
      let head := be 3 h
      let m := modPrim m n (fun p => { p with
        framing := true, sent := some no, words := p.words.filter (fun x => decide (no < x.1)),
        endsAt := if tmode m = 0 then some (first.2 + if cut then 1 else primBits mode / 32) else none })
      let m := if cut then (m.count .MOD_PRIM_CUT 0 1).mark F.MOD_PRIM_STAT.CUT_SEEN n else m
      let m := if late = 0 then m else (m.count .MOD_PRIM_LATE 0 late).mark F.MOD_PRIM_STAT.LATE_SEEN n
      m.emit (.primFrame n (head ++ be 1 (crc8 (head ++ payload)) ++ payload))
  | _, _ => m

/-- R361: a write that clears EN puts the lane back to idle control blocks. -/
def primWritten (m : Kz) (n : Nat) (w : Word) : Kz :=
  if F.MOD_PRIM_CFG.EN.of w = 0 then modPrim m n (fun p => { p with framing := false, words := [], endsAt := none }) else m
/-- R373: the check of a write to MOD_PRIM_CFG. -/
def primCheck (m : Kz) (n : Nat) (w : Word) : Option Status :=
  let k0 := 24 * n / 16
  let k1 := (24 * n + 23) / 16
  let mode := F.MOD_PRIM_CFG.MODE.of w
  if m.inRun k0 || m.inRun k1 then some .locked
  else if F.MOD_PRIM_CFG.LAT.of w = 0 || mode = 3 || rateHigh mode (mclkFreq m) then some .badValue
  else none
/-- R370: MIN_LAT of the lanes at a RUN entry of region `k`: the largest latency in force on each lane. -/
def minLat (m : Kz) : Kz :=
  (upTo 8).foldl (fun m n =>
    let l := (upTo 24).map (fun i =>
      let c := 24 * n + i
      if (m.fld F.ENG_CTRL.EN (c / 16)).testBit (c % 16) && m.inRun (c / 16) then (m.chan c).eng.need else 0)
    modPrim m n (fun p => { p with minLat := min 255 (l.foldl max 0) })) m

/-- PRIM_FRAME (R367). -/
def execPrimFrame (t : Stamp) (n : Fin 8) (no slip : Nat) (s : State) : Host.Outcome State Fault Refusal :=
  s.at_ t (fun m => primFrame m n no slip)

end Sys2Proof.Machine
end

