-- ==== Sys2Proof/Machine/Entry.lean ====
section
/-! DEFINITION. The checks of a RUN entry (R31, R151, R192, R234, R282, R302, R332, R370, R421, R607). -/
namespace Sys2Proof.Machine

/-- A refusal that names a region, and one that names a channel. -/
def refRgn (st : Status) (k : Nat) : Option Refuse := some ⟨st, ⟨2, k⟩⟩
def refChan (st : Status) (c : Nat) : Option Refuse := some ⟨st, ⟨1, c⟩⟩
/-- The lowest channel of a region with a property. -/
def firstChan (k : Nat) (p : Nat → Bool) : Option Nat := (chansOf k 0xFFFF).find? p

/-- The fabric rail of a region at present, mV: during a ramp it moves by 1 mV per µs (R597). -/
def railMv (m : Kz) (k : Nat) : Nat :=
  let p := (m.rgn k).pwr
  match p.rampFrom with
  | some (v, t) =>
    let d := (m.now.ns - t) / 1000
    let goal := m.fld F.RGN_RAIL.TARGET_MV k
    if v ≤ goal then min goal (v + d) else max goal (v - d)
  | none => p.nowMv
/-- Whether two voltages lie more than 40 mV apart. -/
def apart (a b : Nat) : Bool := decide (a + 40 < b) || decide (b + 40 < a)
/-- The lowest other region in RUN whose rail or target lies more than 40 mV from a voltage (R31, R607). -/
def spreadFrom (m : Kz) (k v : Nat) : Option Nat :=
  (upTo 12).find? (fun j => j != k && m.inRun j && (apart v (railMv m j) || apart v (m.fld F.RGN_RAIL.TARGET_MV j)))

/-- R151. -/
def bad151 (m : Kz) (c : Nat) : Bool :=
  let slot := m.on F.CH_CHAIN_CTRL.SLOT_EN c
  let tau := m.fld F.CH_SLOT_CFG.TAU_K c
  let nexp := m.fld F.CH_SLOT_CFG.NEXP c
  let k := m.fld F.CH_CHAIN_CTRL.RS_K c
  (slot && !wide m c && (tau < 8 || 24 < tau)) ||
    (slot && wide m c && (nexp < 8 || 16 < nexp || 0x800000 ≤ m.fld F.CH_SLOT_CFG.FREQ c)) ||
    (rsCross m c && (k = 0 || mclkFreq m = 0 ||
      !rsInRange (k * decim m c * convTicks m c * mclkFreq m, sampleHz m))) ||
    (!wide m c && m.on F.CH_SLOT_CFG.FRZ_WIN c && decide (4064 < recPre m c))
def check151 (m : Kz) (k : Nat) : Option Refuse :=
  match firstChan k (bad151 m) with
  | some c => refChan (if rsCross m c && mclkFreq m = 0 then .refAbsent else .badValue) c
  | none => none

/-- R192 for one comparator. -/
def bad192 (m : Kz) (c : Nat) (second : Bool) : Bool :=
  let p := profOf m c second
  let ty := m.fld F.RGN_TRIG_PROF_CFG.TYPE p
  let pol := m.fld F.RGN_TRIG_PROF_CFG.POL p
  let cond := m.fld F.RGN_TRIG_PROF_CFG.COND p
  let timed := ty = 4 || ty = 6
  let both := ty = 2 || ty = 3 || ty = 5 || ty = 6
  ty != 0 && (decide (7 < ty) || pol = 3 || (ty = 7 && pol = 2) || (timed && cond = 3) ||
    (timed && cond = 2 && decide (m.fld F.RGN_TRIG_PROF_LIM.T2 p ≤ m.fld F.RGN_TRIG_PROF_LIM.T1 p)) ||
    (ty = 7 && m.fld F.RGN_TRIG_PROF_CFG.CFD_FRAC p = 0) || (both && decide (levelHi m c second ≤ levelLo m c second)))
/-- R192, with the codes of COMB that R193 refuses. -/
def check192 (m : Kz) (k : Nat) : Option Refuse :=
  match firstChan k (fun c => bad192 m c false || bad192 m c true ||
      decide (4 < m.fld F.CH_TRIG_CTRL.COMB c) ||
      (m.on F.CH_TRIG_CTRL.HO_MODE c && decide (65535 < m.fld F.CH_TRIG_HOLD.HOLDOFF c))) with
  | some c => refChan .badValue c
  | none => none

/-- The banks of a region's channels, summed. -/
def bankSum (m : Kz) (k : Nat) : Nat := (chansOf k 0xFFFF).foldl (fun a c => a + m.fld F.CH_MEM_CTRL.BANKS c) 0
/-- Output samples per fabric cycle as a fraction, from the configured rates. -/
def perFabric (m : Kz) (c : Nat) : Nat × Nat :=
  if rsCross m c then (16 * m.fld F.CH_CHAIN_CTRL.RS_K c * mclkFreq m, max 1 (sampleHz m))
  else let s := gridStep m c; (16384 * s.2, s.1)
/-- A fraction rounded up. -/
def ceilDiv (a b : Nat) : Nat := (a + b - 1) / b
/-- R247: the least ring of a channel, output samples. -/
def ringNeed (m : Kz) (c : Nat) : Nat :=
  let s := perCrossing m c
  let f := perFabric m c
  (m.fld F.RGN_LAT_CFG.LOOKBACK (c / 16) + 2) * ceilDiv s.1 (max 1 s.2) + recPre m c + recLen m c + ceilDiv (1024 * f.1) f.2
/-- The channel rules of R234. -/
def bad234 (m : Kz) (c : Nat) : Bool :=
  let mode := acqMode m (c / 16)
  let f := perFabric m c
  let words := ceilDiv (f.1 * (if packed m c then 3 else 4)) (f.2 * 16)
  let banks := m.fld F.CH_MEM_CTRL.BANKS c
  let store := if mode = 1 then m.fld F.CH_MEM_CTRL.RING_BANKS c else banks
  (m.on F.CH_MEM_CTRL.REC_EN c &&
    (decide (store < 2 * words) || m.fld F.CH_REC_WIN.LEN c = 0 || decide (m.fld F.CH_REC_WIN.LEN c < m.fld F.CH_REC_WIN.PRE c) ||
      (mode = 1 && (decide (banks ≤ m.fld F.CH_MEM_CTRL.RING_BANKS c) || decide (ringSamples m c < ringNeed m c))) ||
      ((mode = 0 || mode = 3) && decide (banks * 81920 < (m.fld F.RGN_ACQ_CTRL.SEGS_M1 (c / 16) + 1) * slotBytes m c)))) ||
    (mode = 2 && m.fld F.CH_MEM_CTRL.STREAM_SEL c != 0 && !wide m c)
def check234 (m : Kz) (k : Nat) : Option Refuse :=
  if acqMode m k = 1 && mclkFreq m = 0 then refRgn .refAbsent k
  else if 128 < bankSum m k then refRgn .badValue k
  else match firstChan k (bad234 m) with
    | some c => refChan .badValue c
    | none => none

/-- Whether a mask's points break R282. -/
def badPoints : List (Int × Int × Int) → Bool
  | a :: b :: r => decide (a.2.1 < a.2.2) || decide (b.1 ≤ a.1) || badPoints (b :: r)
  | [a] => decide (a.2.1 < a.2.2)
  | [] => false
def check282 (m : Kz) (k : Nat) : Option Refuse :=
  match firstChan k (fun c => masking m c && (badPoints (maskPoints m c 0) || badPoints (maskPoints m c 1))) with
  | some c => refChan .badValue c
  | none => none

/-- Banks that the region's averager takes (R302). -/
def avgBanks (m : Kz) (k : Nat) : Nat := if acqMode m k ≠ 3 || m.fld F.RGN_ACC_SINK.AVG_EN k = 0 then 0 else 4
/-- R302. -/
def check302 (m : Kz) (k : Nat) : Option Refuse :=
  let avg := m.fld F.RGN_ACC_SINK.AVG_EN k
  if avgBanks m k = 0 then none
  else if 124 < bankSum m k then refRgn .badValue k
  else match (chansOf k avg).find? (fun c => decide (256 < m.fld F.CH_REC_WIN.LEN c)) with
    | some c => refChan .badValue c
    | none => none

/-- R332. -/
def check332 (m : Kz) (k : Nat) : Option Refuse :=
  let absent := mclkFreq m = 0 || bMeas m = 0
  let bad (c : Nat) : Bool :=
    let e := (m.chan c).eng
    let s := perCrossing m c
    absent || decide (e.state ≠ .ready) || decide (s.1 / max 1 s.2 < (e.image.map (fun g => g.winLen)).getD 0) ||
      decide (bMeas m < m.fld F.ENG_BUDGET.B_DECL k)
  match (chansOf k (m.fld F.ENG_CTRL.EN k)).find? bad with
  | some c => refChan (if absent then .refAbsent else .badValue) c
  | none => none
/-- R370. -/
def check370 (m : Kz) (k : Nat) : Option Refuse :=
  match (chansOf k (m.fld F.ENG_CTRL.EN k)).find? (fun c => decide (m.fld F.MOD_PRIM_CFG.LAT (c / 24) < primNeed m c)) with
  | some c => refChan .badValue c
  | none => none
/-- R421. -/
def check421 (m : Kz) (k : Nat) : Option Refuse :=
  let mode := acqMode m k
  if mode ≠ 3 && m.fld F.RGN_RO_CTRL.LANE_EN k = 0 then refRgn .badValue k
  else if m.on F.RGN_RO_CTRL.FMT k then none
  else match firstChan k (fun c => m.on F.CH_MEM_CTRL.REC_EN c &&
      ((mode = 2 && m.fld F.CH_MEM_CTRL.STREAM_SEL c != 0) || ((mode = 0 || mode = 1) && toneRec m c))) with
    | some c => refChan .badValue c
    | none => none

/-- The first of a list of checks that refuses. -/
def firstRefusal : List (Option Refuse) → Option Refuse
  | some r :: _ => some r
  | none :: l => firstRefusal l
  | [] => none
/-- R607: the checks of REGION_STATE RUN, in order. -/
def runChecks (m : Kz) (k : Nat) : Option Refuse :=
  if m.pwr.state ≠ .acquire || m.rstate k ≠ .idle then some ⟨.stateOrder, noDetail⟩
  else if m.tb.tb = .switching then some ⟨.regionsNotIdle, noDetail⟩
  else match firstChan k (fun c => (m.chan c).conv.calDue) with
    | some c => refChan .calDue c
    | none =>
      match spreadFrom m k (railMv m k), spreadFrom m k (m.fld F.RGN_RAIL.TARGET_MV k) with
      | some a, some b => refRgn .railSpread (min a b)
      | some a, none => refRgn .railSpread a
      | none, some b => refRgn .railSpread b
      | none, none => firstRefusal [check151 m k, check192 m k, check234 m k, check282 m k, check302 m k, check332 m k,
          check370 m k, check421 m k]

end Sys2Proof.Machine
end

