-- ==== Sys2Proof/Machine/Regions.lean ====
section
/-! DEFINITION. Module and region states, trips, channel and region restarts, MODULE_FATAL, module reset
(R589 to R610, R619 to R633, R719, R724). -/
namespace Sys2Proof.Machine

/-! ### Module reset (R593, R724) -/

/-- A failed boot attempt of a slot (R564): counted for the slot. -/
def attemptFails (f : Firmware) : Firmware :=
  let slot := match f.booting with | some b => b.1 | none => if f.aRefused then 1 else 0
  let f := { f with failed := match f.booting with | some b => b.2.version | none => f.failed }
  if slot = 0 then { f with failsA := f.failsA + 1 } else { f with failsB := f.failsB + 1 }
/-- A module reset with a cause bit: the module is OFF; what stays is what flash, OTP, the hub's failure counts and
the outside world hold. A reset in BOOT is a failed attempt (R564, R738). -/
def moduleReset (m : Kz) (cause : Nat) : Kz :=
  let f := if m.pwr.state = .boot then attemptFails m.fw else m.fw
  let fw : Firmware := { ({} : Firmware) with
    block0 := f.block0, block1 := f.block1, area0 := f.area0, area1 := f.area1, cfgArea := f.cfgArea,
    failsA := f.failsA, failsB := f.failsB, failed := f.failed, bootCount := (f.bootCount + 1) % 256 }
  let a := m.age
  let age : Ageing := { ({} : Ageing) with ckpt := a.ckpt, recs := a.recs, ckptAt := a.ckptAt, recAt := a.recAt }
  let trust : Trust := { ({} : Trust) with counter := m.trust.counter, owner0 := m.trust.owner0, owner1 := m.trust.owner1,
                                           nonces := m.trust.nonces }
  let log : EventLog := { ({} : EventLog) with archiveNext := m.log.archiveNext, archive := m.log.archive }
  { ({} : Kz) with
    now := ⟨0, m.now.ns⟩, fresh := m.fresh, wire := m.wire, fw := fw, age := age, trust := trust, log := log,
    pwr := { ({} : Power) with state := .off, pg := false, resetCause := cause, ovNow := m.pwr.ovNow, thermNow := m.pwr.thermNow,
                               nReset := m.pwr.nReset, resetComparator := m.pwr.resetComparator } }
/-- A module reset the module itself starts: the pending summaries and a checkpoint go to the flash first (R647, R664). -/
def ownReset (m : Kz) (cause : Nat) : Kz :=
  let m := if powered m.pwr.state then checkpoint (archiveSummary m) true else m
  moduleReset m cause

/-! ### HOLD (R601, R602, R604) -/

/-- The cause bits of MOD_PWR_STAT and of RGN_PWR_STAT, in their places. -/
def modCauses (m : Kz) : Nat :=
  (packFields [(F.MOD_PWR_STAT.CAUSE_FATAL, b2n m.pwr.causeFatal), (F.MOD_PWR_STAT.CAUSE_HOST, b2n m.pwr.causeHost),
    (F.MOD_PWR_STAT.CAUSE_THERMAL, b2n m.pwr.causeThermal), (F.MOD_PWR_STAT.CAUSE_OV, b2n m.pwr.causeOv)]).toNat
def rgnCauses (m : Kz) (k : Nat) : Nat :=
  let p := (m.rgn k).pwr
  (packFields [(F.RGN_PWR_STAT.CAUSE_MODULE, b2n p.causeModule), (F.RGN_PWR_STAT.CAUSE_THERMAL, b2n p.causeThermal),
    (F.RGN_PWR_STAT.CAUSE_RAIL, b2n p.causeRail)]).toNat

/-- Why a region is in HOLD. -/
inductive HoldCause where
  | module | thermal | rail
  deriving DecidableEq, Repr
/-- A cause bit set. -/
def addCause (m : Kz) (k : Nat) (c : HoldCause) : Kz :=
  m.modPwr k (fun p => match c with
    | .module => { p with causeModule := true }
    | .thermal => { p with causeThermal := true }
    | .rail => { p with causeRail := true })
/-- Everything a region does in CAL or RUN stops; open records become stubs with `flags` (R88, R207, R352, R604). -/
def stopWork (m : Kz) (k flags : Nat) : Kz :=
  let run := m.inRun k
  let m := m.eachChan k (fun m c =>
    let m := if run then endOpen (trigLeave m c) c flags else m
    rangeClear (chainLeave (engineLeave (rotStop m c) c) c) c)
  let m := m.modErr k (fun e => { e with maskBad := [] })
  let m := m.modAcq k (fun a => { a with pattern := false })
  let m := m.modLane k (fun l => { l with fire := none, feats := [] })
  m.modPower (fun p => { p with passRunning := p.passRunning && p.calQueue.head? != some k, calQueue := p.calQueue.erase k })
/-- The loads in execution for a region end with an answer. -/
def endLoads (m : Kz) (k : Nat) (a : Answer) : Kz :=
  (m.rgn k).eng.loads.foldl (fun m l => endWaits m (.engLoad k l.1) a) m
/-- The commands in execution for a region end with TRIP_ACTIVE (R609). -/
def tripEnds (m : Kz) (k : Nat) : Kz :=
  let a : Answer := { status := .tripActive, detail := ⟨2, k⟩ }
  (upTo 16).foldl (fun m i => endWaits m (.channelResume (16 * k + i)) a) (endLoads (endRegionWaits m k a) k a)
/-- R604: a region enters region HOLD, or gets a further cause; one in DOWN is left there. -/
def enterHold (m : Kz) (k : Nat) (c : HoldCause) : Kz :=
  match m.rstate k with
  | .down => if (m.rgn k).pwr.starting && c = .module then
      tripEnds (m.modPwr k (fun p => { p with starting := false })) k else m
  | .hold => let m := addCause m k c
      if (m.rgn k).pwr.draining then tripEnds (m.modPwr k (fun p => { p with draining := false })) k else m
  | _ =>
    let m := stopWork m k 0
    let m := addCause (m.modPwr k (fun p => { p with state := .hold, draining := false })) k c
    let m := tripEnds m k
    if c = .module then m else (m.notify 8 2 k []).logE 0x0702 0 2 k 0 (rgnCauses m k)
/-- R602: the module enters module HOLD from STANDBY, READY or ACQUIRE, every region that is not DOWN with it; in
HOLD a further cause has been added. `set` sets the cause bit. -/
def moduleHold (m : Kz) (set : Power → Power) : Kz :=
  match m.pwr.state with
  | .standby | .ready | .acquire =>
    let m := m.modPower (fun p => { set p with state := .hold })
    let m := m.eachRgn (fun m k => enterHold m k .module)
    (m.notify 8 0 0 []).logE 0x0702 0 0 0 0 (modCauses m)
  | .hold => m.modPower set
  | _ => m

/-! ### MODULE_FATAL (R632, R633) -/

/-- MOD_ERR_STAT (R648). -/
def errStat (m : Kz) : Nat :=
  let restarting := (upTo 12).foldl (fun a k => if (m.rgn k).err.restarting then a ||| 1 <<< k else a) 0
  m.seenWord .MOD_ERR_STAT 0 ||| (packFields [(F.MOD_ERR_STAT.FATAL, b2n m.errs.fatal),
    (F.MOD_ERR_STAT.FATAL_SRC, m.errs.fatalSrc), (F.MOD_ERR_STAT.RESTARTING, restarting)]).toNat
/-- A MODULE_FATAL error from a source. -/
def moduleFatal (m : Kz) (src : Nat) : Kz :=
  if powered m.pwr.state then
    let m := { m with errs := { fatal := true, fatalSrc := if m.errs.fatalSrc = 0 then src else m.errs.fatalSrc } }
    let m := moduleHold m (fun p => { p with causeFatal := true })
    (m.logE 0x0902 4 0 0 0 (errStat m)).notify 9 0 0 []
  else if m.pwr.state = .boot || m.pwr.state = .recovery then moduleReset m 16
  else m

/-! ### Region restart (R628 to R631) -/

/-- RGN_ERR_STAT (R652). -/
def rgnErrStat (m : Kz) (k : Nat) : Nat :=
  let e := (m.rgn k).err
  m.seenWord .RGN_ERR_STAT k ||| (packFields [(F.RGN_ERR_STAT.RESTARTS, e.restarts), (F.RGN_ERR_STAT.FRAME_WRAPS, e.frameWraps),
    (F.RGN_ERR_STAT.LAST_CAUSE, e.lastCause), (F.RGN_ERR_STAT.RESTARTING, b2n e.restarting)]).toNat
/-- R724: a register reloaded from the configuration image, its other stored bits at the reset column. -/
def reload (m : Kz) (r : RegKind) (i : Nat) : Kz :=
  let f := r.info
  if Kz.storedMask r = 0 then m
  else
    let voted := BitVec.ofNat 32 f.voted
    let w := (Sparse.get (Kz.resetWord r) m.regs.image (r.addr i) &&& voted) ||| (Kz.resetWord r &&& ~~~voted)
    { m with regs := { m.regs with cfg := Sparse.set m.regs.cfg (r.addr i) w } }
/-- The registers of a channel window, and the channel's coefficient sets, reloaded (R625, R626). -/
def reloadChan (m : Kz) (c : Nat) : Kz :=
  let m := channelKinds.foldl (fun m r => reload m r c) m
  m.modConv c (fun v => { v with coef := v.coefImage.foldl (fun t x =>
    if Sparse.get [] v.standby x.1 = [] then Sparse.set t x.1 x.2 else t) v.coef })
/-- The registers of a region and of its channels reloaded. -/
def reloadRgn (m : Kz) (k : Nat) : Kz :=
  let m := regionKinds.foldl (fun m r => (upTo r.info.cnt).foldl (fun m j => reload m r (k * r.info.cnt + j)) m) m
  m.eachChan k reloadChan
/-- R628: a region restart for a cause of R652. The ACCEPTs of the mirror that were not admitted yet are in transit (R264). -/
def startRestart (m : Kz) (k cause : Nat) : Kz :=
  let transit := (m.rgn k).acq.mirror.filter (fun e => decide ((m.rgn k).acq.admitted ≤ e.ser))
  let m := m.modErr k (fun e => { e with
    restarting := true, start := m.now.tick, restarts := (e.restarts + 1) % 256, lastCause := cause,
    times := (m.now.ns :: e.times).take 3,
    answered := ((m.rgn k).acq.mirror.map (fun e => e.ser + 1)).foldl max e.answered })
  let m := (m.openSpan (.regionRestart k)).mark F.RGN_ERR_STAT.FATAL_SEEN k
  let m := (m.logE 0x0901 3 2 k 0 (rgnErrStat m k)).notify 9 2 k []
  let m := modRAge m k (fun a => { a with restarts := a.restarts + 1 })
  let run := m.inRun k
  let m := reloadRgn m k
  let m := m.eachChan k (fun m c =>
    let m := if run then endOpen (trigLeave m c) c fRECOVERED else m
    let m := injCancel (rotStop m c) c
    let m := m.modChan c (fun x => { x with restart := {} })
    (engineRestart (chainLeave m c) c).closeSpan (.chanRestart c))
  let m := transit.foldl (fun m a => recoveredStubs m k a) m
  let m := m.modAcq k (fun a => { a with queue := [], mirror := [], pattern := false })
  let m := m.modLane k (fun l => { l with fire := none, feats := [], departing := false })
  let m := accRestart m k
  m.modPower (fun p => { p with passRunning := p.passRunning && p.calQueue.head? != some k })
/-- A REGION_FATAL error of a region (R620, R621): a third restart within 1 s is MODULE_FATAL. A region in DOWN is only
reloaded, and one that is restarting goes on restarting. -/
def regionFatal (m : Kz) (k cause : Nat) : Kz :=
  if m.rstate k = .down then reloadRgn m k
  else if (m.rgn k).err.restarting then m
  else
    let third := match (m.rgn k).err.times with | _ :: b :: _ => decide (m.now.ns < b + 1000000000) | _ => false
    let m := startRestart m k cause
    if third then moduleFatal m 4 else m
/-- The second datum count of the newest entry of a code and subject, where it is still 0 (R645: the resume). -/
def logResume (code idx d : Nat) : List LogEntry → List LogEntry
  | e :: r => if e.code = code && e.idx = idx && e.second = 0 then { e with second := d } :: r else e :: logResume code idx d r
  | [] => []
/-- RUN entry of a channel, and what a region restart resumes with (R152, R207, R330). -/
def chanEnter (m : Kz) (c : Nat) : Kz := trigEnter (memEnter (chainEnter m c) c) c
/-- R98, R99: slices assigned as planned, where the plan or the healthy slices have changed. -/
def assignIfDue (m : Kz) (c : Nat) : Kz := if assignDue m c then assignSlices m c else m
/-- R630: a restarting region resumes. The hub discards what the region has sent so far (R36). -/
def regionResume (m : Kz) (k : Nat) : Kz :=
  if (m.rgn k).err.restarting then
    let m := (m.modErr k (fun e => { e with restarting := false })).closeSpan (.regionRestart k)
    let m := { m with log := { m.log with entries := logResume 0x0901 k m.datum m.log.entries } }
    let m := m.modLane k (fun l => { l with
      departs := 0, hubDeparts := 0, badOut := 0, lostBefore := none, outQ := l.outQ.map (fun e => { e with old := true }) })
    let m := m.eachChan k assignIfDue
    let m := if m.inRun k then
        maskShare (m.eachChan k (fun m c => rotEnterRun (chanEnter m c) c)) k
      else m
    m.eachChan k (fun m c => endWaits m (.channelResume c) { status := .ok })
  else m
/-- REGION_RESTART_OVERDUE (R621, R630): 2 ms, or 6 ms after a fabric PLL unlock. -/
def regionOverdue (m : Kz) (k : Nat) : Kz :=
  let e := (m.rgn k).err
  let bound := if e.lastCause = 3 then 6000000 else 2000000
  if e.restarting && decide (e.times.headD 0 + bound ≤ m.now.ns) then moduleFatal m 4 else m

/-! ### Channel restart (R626, R627) -/

/-- CHANNEL_RESTART_BOUNDARY: the restart takes effect. -/
def restartBoundary (m : Kz) (c : Nat) : Kz :=
  let x := (m.chan c).restart
  let b := 16 * convTicks m c
  match x.due with
  | some cause =>
    if (m.rgn (c / 16)).err.restarting || (m.inRun (c / 16) && m.now.tick % b != 0) then m
    else
      let flags := restartFlags m c cause
      let run := m.inRun (c / 16)
      let m := m.logE 0x0160 2 1 c 0 cause
      let m := if run then endOpen (trigLeave m c) c flags else m
      let m := injCancel (rotStop m c) c
      let m := engineRestart (if run then chainLeave m c else m) c
      let m := reloadChan m c
      m.modChan c (fun x => { x with restart := ⟨none, some cause, m.now.tick, m.now.ns⟩ })
  | none => m
/-- CHANNEL_RESUME: an empty chain, a fresh arming state, slices as planned (R79, R99, R627). -/
def chanResume (m : Kz) (c : Nat) : Kz :=
  match (m.chan c).restart.active with
  | some _ =>
    let m := m.modChan c (fun x => { x with restart := { x.restart with active := none } })
    let m := { m with log := { m.log with entries := logResume 0x0160 c m.datum m.log.entries } }
    let m := assignIfDue m c
    let m := if m.inRun (c / 16) && !(m.rgn (c / 16)).err.restarting then
        rotEnterRun (trigEnter (memResume (chainEnter m c) c) c) c
      else m
    endWaits m (.channelResume c) { status := .ok }
  | none => m
/-- CHANNEL_RESTART_OVERDUE (R621): 100 µs after its boundary. -/
def chanOverdue (m : Kz) (c : Nat) : Kz :=
  let x := (m.chan c).restart
  if x.active.isSome && x.startNs + 100000 ≤ m.now.ns then
    regionFatal m (c / 16) 6 else m

/-! ### Region states (R603 to R608, R719, R759) -/

/-- Every channel of a region gets CAL_DUE. -/
def rgnCalDue (m : Kz) (k : Nat) : Kz := m.eachChan k (fun m c => m.modConv c (fun v => { v with calDue := true }))
/-- REGION_UP_DONE: rails, PLL and SRAM are ready (R603, R707). -/
def regionUp (m : Kz) (k : Nat) : Kz :=
  let p := (m.rgn k).pwr
  if p.starting && p.state = .down && decide (m.tb.tb ≠ .switching) then
    let m := m.modPwr k (fun p => { p with
      state := .idle, starting := false, causeModule := false, causeThermal := false, causeRail := false,
      nowMv := m.fld F.RGN_RAIL.TARGET_MV k, rampFrom := none })
    let m := m.modLane k (fun l => { l with departs := 0, hubDeparts := 0, badOut := 0 })
    endWaits (lanesUp (rgnCalDue m k) k) (.regionIdle k) { status := .ok }
  else m
/-- Whether a region's readout has drained (R759). -/
def drained (m : Kz) (k : Nat) : Bool :=
  let g := (m.rgn k).lg
  (chansOf k 0xFFFF).all (fun c => (m.chan c).mem.closed.isEmpty) && g.queue.isEmpty && g.resend.isEmpty &&
    (upTo 8).all (fun j => (roLane m k j).frame.isNone)
/-- The region goes DOWN: lanes off, SRAM and engine images lost (R603, R719). A scheduled or active step of an injector, which loses
its supply with the region, is cancelled (DESIGN CHOICE, entry 95: R66 names CAL entry and restarts alone). -/
def regionDown (m : Kz) (k : Nat) : Kz :=
  let m := m.modRgn k (fun r => { r with eng := { r.eng with loads := [] } })
  let m := m.modPwr k (fun p => { p with
    state := .down, draining := false, causeModule := false, causeThermal := false, causeRail := false })
  let m := m.eachChan k (fun m c =>
    let m := injCancel m c
    let m := m.modChan c (fun x => { x with eng := { loads := x.eng.loads }, avg := {}, restart := {} })
    m.modMem c (fun y => { y with open_ := [], closed := [], used := [], kept := [], writing := none, content := [],
                                  folds := [], slots := 0 }))
  let m := { m with mem := (m.mem.clear (0x01000000 + k * 0x100000) 0x100000).clear (engBase (16 * k)) (16 * 0x20000) }
  let m := m.modAcq k (fun a => { a with queue := [], mirror := [], order := [] })
  lanesDown m k
/-- REGION_DRAIN_DONE. -/
def drainDone (m : Kz) (k : Nat) : Kz :=
  if (m.rgn k).pwr.draining && drained m k then
    let m := endLoads m k { status := .regionDown, detail := ⟨2, k⟩ }
    endWaits (regionDown m k) (.regionDown k) { status := .ok }
  else m
/-- A region leaves region HOLD for IDLE (R603, R608). -/
def holdToIdle (m : Kz) (k : Nat) : Kz :=
  rgnCalDue (m.modPwr k (fun p => { p with state := .idle, causeModule := false, causeThermal := false, causeRail := false })) k
/-- Whether a cause of region HOLD still holds (R608). -/
def rgnTripped (m : Kz) (k : Nat) : Bool :=
  let p := (m.rgn k).pwr
  (p.causeThermal && p.thermNow) || (p.causeRail && p.railNow)
/-- RUN entry of a region (R603). -/
def enterRun (m : Kz) (k : Nat) : Kz :=
  let m := m.modPwr k (fun p => { p with state := .run })
  let m := m.eachChan k (fun m c => avgEnter (engineEnter (rotEnterRun (chanEnter m c) c) c) c)
  minLat (maskShare m k)
/-- R661: the WEAR_DUE slices of a region are retired when it enters CAL. -/
def wearRetire (m : Kz) (k : Nat) : Kz :=
  if m.on F.MOD_AGE_CTRL.EN_WEAR 0 then
    m.eachChan k (fun m c =>
      let w := Sparse.get 0 m.age.wear c
      if w = 0 then m
      else
        let m := (upTo 9).foldl (fun m s => if w.testBit s && !retired m c s then retire m c s 4 else m) m
        modAge m (fun a => { a with wear := Sparse.put 0 a.wear c 0 }))
  else m
/-- A region enters CAL: its pass is queued, the injectors are taken (R66, R606). -/
def enterCal (m : Kz) (k : Nat) : Kz :=
  let m := m.modPwr k (fun p => { p with state := .cal })
  let m := m.modPower (fun p => { p with calQueue := p.calQueue ++ [k] })
  wearRetire (m.eachChan k injCancel) k

/-- What a command that changes a state does: it ends, or it waits. -/
inductive Verdict where
  | done (a : Answer)
  | wait (w : Wait)
  deriving DecidableEq, Repr
/-- A refusal as the end of a command, and success. -/
def refused (st : Status) : Verdict := .done { status := st }
def refusedBy (r : Refuse) : Verdict := .done { status := r.status, detail := r.detail }
def done : Verdict := .done { status := .ok }

/-- REGION_STATE (R600, R603, R607, R608): region `k` to a target state code. -/
def regionState (m : Kz) (k target : Nat) : Verdict × Kz :=
  let p := (m.rgn k).pwr
  let live := m.pwr.state = .standby || m.pwr.state = .ready || m.pwr.state = .acquire
  match p.state, target with
  | .down, 0 => (done, m)
  | .down, 1 => if live then (.wait (.regionIdle k), m.modPwr k (fun p => { p with starting := true })) else (refused .stateOrder, m)
  | .idle, 1 => (done, m)
  | .idle, 0 => if p.draining then (.wait (.regionDown k), m)
      else (.wait (.regionDown k), m.modPwr k (fun p => { p with draining := true }))
  | .idle, 2 =>
    if p.draining || !(m.pwr.state = .ready || m.pwr.state = .acquire) then (refused .stateOrder, m)
    else if m.tb.tb = .switching then (refused .regionsNotIdle, m)
    else (done, enterCal m k)
  | .idle, 3 =>
    if p.draining then (refused .stateOrder, m)
    else match runChecks m k with
      | some r => (refusedBy r, m)
      | none => (done, enterRun m k)
  | .cal, 2 => (done, m)
  | .run, 3 => (done, m)
  | .run, 1 => (done, (stopWork m k 0).modPwr k (fun p => { p with state := .idle }))
  | .hold, 4 => (done, m)
  | .hold, 0 =>
    if m.pwr.state = .hold then (refused .stateOrder, m)
    else if rgnTripped m k then (refusedBy ⟨.tripActive, ⟨2, k⟩⟩, m)
    else (.wait (.regionDown k), m.modPwr k (fun p => { p with draining := true }))
  | .hold, 1 =>
    if m.pwr.state = .hold || p.draining then (refused .stateOrder, m)
    else if rgnTripped m k then (refusedBy ⟨.tripActive, ⟨2, k⟩⟩, m)
    else (done, holdToIdle m k)
  | _, _ => (refused (if target ≤ 4 then .stateOrder else .badValue), m)

/-- MODULE_STATE STANDBY from module HOLD (R608). -/
def leaveHold (m : Kz) : Verdict × Kz :=
  if m.pwr.ovNow || m.pwr.thermNow || m.errs.fatal then (refused .tripActive, m)
  else match (upTo 12).find? (fun k => m.rstate k = .hold && rgnTripped m k) with
    | some k => (refusedBy ⟨.tripActive, ⟨2, k⟩⟩, m)
    | none =>
      let m := m.eachRgn (fun m k => if m.rstate k = .hold then holdToIdle m k else m)
      (done, m.modPower (fun p => { p with
        state := .standby, causeFatal := false, causeHost := false, causeThermal := false, causeOv := false }))
/-- MODULE_STATE (R600, R601, R608, R708): the module to a target state code. -/
def moduleState (m : Kz) (target : Nat) : Verdict × Kz :=
  let go (s : ModState) : Kz := m.modPower (fun p => { p with state := s })
  match m.pwr.state, target with
  | .standby, 3 => (done, m)
  | .ready, 4 => (done, m)
  | .acquire, 5 => (done, m)
  | .hold, 6 => (done, m)
  | .standby, 4 => (done, go .ready)
  | .ready, 5 => if m.anyRgn (fun s => s = .cal) then (refused .stateOrder, m) else (done, go .acquire)
  | .ready, 3 => if m.anyRgn (fun s => s = .cal) then (refused .stateOrder, m) else (done, go .standby)
  | .acquire, 4 => if m.anyRgn (fun s => s = .run) then (refused .stateOrder, m) else (done, go .ready)
  | .standby, 6 | .ready, 6 | .acquire, 6 => (done, moduleHold m (fun p => { p with causeHost := true }))
  | .hold, 3 => leaveHold m
  | _, _ => (refused (if target ≤ 6 then .stateOrder else .badValue), m)

end Sys2Proof.Machine
end

