-- ==== Sys2Proof/Machine/Errors.lean ====
section
/-! DEFINITION. Supply, trips, scrubbing, voting and statistics periods (R589 to R597, R605, R620 to R625, R635 to
R641). -/
namespace Sys2Proof.Machine

/-! ### Supply and trips -/

/-- ALERTn is driven low (R594). -/
def alertLow (m : Kz) : Bool := m.pwr.dip.isSome || decide (m.pwr.state = .hold) || m.anyRgn (fun s => s = .hold)
/-- A measurement of VIN, 10 mV (R614). -/
def sawVin (m : Kz) (v : Nat) : Kz := m.modPower (fun p => { p with vinNow := v, vinMin := min p.vinMin v })
/-- SUPPLY_DIP_START: VIN below 4.35 V (R590, R591). -/
def dipStart (m : Kz) (vin : Nat) : Kz :=
  if m.pwr.dip.isSome || m.pwr.state = .off || 435 ≤ vin then m
  else
    let m := (sawVin m vin).modPower (fun p => { p with dip := some (m.now.tick, vin) })
    ((m.openSpan .dip).count .MOD_SUPPLY_WARN 0 1).mark F.MOD_PWR_STAT.SUPPLY_WARN_SEEN 0
/-- SUPPLY_DIP_END: VIN above 4.45 V; `low` is the lowest VIN of the dip (R590, R591). -/
def dipEnd (m : Kz) (low vin : Nat) : Kz :=
  match m.pwr.dip with
  | some (t, v) =>
    if vin ≤ 445 then m else
    let m := ((sawVin (sawVin m low) vin).modPower (fun p => { p with dip := none })).closeSpan .dip
    m.logFrom (t * 1024) 0x0701 0 0 0 m.datum (min v low)
  | none => m
/-- OVERVOLTAGE: VIN above 19.0 V (R590, R760): a level, which moves the module only from STANDBY on. -/
def overvoltage (m : Kz) (vin : Nat) : Kz :=
  if vin ≤ 1900 then m
  else
    let m := m.modPower (fun p => { p with ovNow := true })
    let m := if m.pwr.state = .off then m else (sawVin m vin).mark F.MOD_PWR_STAT.OV_SEEN 0
    moduleHold m (fun p => { p with causeOv := true })
/-- OVERVOLTAGE_CLEAR: VIN below 18.5 V (R590). -/
def overvoltageClear (m : Kz) (vin : Nat) : Kz :=
  if 1850 ≤ vin then m
  else (if m.pwr.state = .off then m else sawVin m vin).modPower (fun p => { p with ovNow := false })
/-- R595: whether a rail lies below 92 % of its target. -/
def under (mv target : Nat) : Bool := decide (mv * 100 < 92 * target)
/-- The target that the undervoltage comparator of a region's fabric rail follows (R597), and the targets of the other rails (R595). -/
def fabricTarget (m : Kz) (k : Nat) : Nat :=
  let goal := m.fld F.RGN_RAIL.TARGET_MV k
  if (m.rgn k).pwr.rampFrom.isSome then min goal (m.rgn k).pwr.rampOld else goal
def dieTarget : DieRail → Nat
  | .digital => 900 | .low => 1200 | .high => 1800
def hubTarget : HubRail → Nat
  | .core => 750 | .high => 1800 | .aux => 3300
/-- R596: a rail fault of one region. -/
def railFault (m : Kz) (k : Nat) : Kz :=
  if m.rstate k = .down then m
  else
    let m := (m.modPwr k (fun p => { p with railNow := true, railAt := m.now.ns })).mark F.MOD_PWR_STAT.RAIL_SEEN 0
    enterHold m k .rail
/-- RAIL_FAULT (R596). -/
def railUnder (m : Kz) (r : Rail) : Kz :=
  match r with
  | .fabric k mv => if under mv (fabricTarget m k.val) then railFault m k.val else m
  | .arrayDie d x mv => if under mv (dieTarget x) then (upTo 3).foldl (fun m i => railFault m (3 * d.val + i)) m else m
/-- RAIL_CAUSE_CLEAR: the rails have stood above their thresholds for 1 ms (R596). -/
def railCauseClear (m : Kz) (k : Nat) : Kz :=
  if (m.rgn k).pwr.railAt + 1000000 ≤ m.now.ns then m.modPwr k (fun p => { p with railNow := false }) else m
/-- HUB_RAIL_FAULT (R596). -/
def hubRailFault (m : Kz) (r : HubRail) (mv : Nat) : Kz :=
  if m.pwr.state = .off || !under mv (hubTarget r) then m else moduleReset m 32
/-- R605: region `k` at 155 °C. -/
def regionTrip (m : Kz) (k : Nat) (tj : Int) : Kz :=
  let m := m.modPwr k (fun p => { p with tj := tj })
  if m.rstate k = .down || tj < 155 then m
  else
    let m := (m.modPwr k (fun p => { p with thermNow := true })).mark F.MOD_PWR_STAT.THERM_SEEN 0
    enterHold m k .thermal
/-- A sensor's reading: region `k`'s, or the hub's. -/
def sawTj (m : Kz) (r : Option Nat) (tj : Int) : Kz :=
  match r with
  | some k => m.modPwr k (fun p => { p with tj := tj })
  | none => m.modPower (fun p => { p with hubTj := tj })
/-- R605: a sensor at 160 °C. -/
def moduleTrip (m : Kz) (r : Option Nat) (tj : Int) : Kz :=
  let m := sawTj m r tj
  if tj < 160 then m
  else
    let m := m.modPower (fun p => { p with thermNow := true })
    let m := if m.pwr.state = .off then m else m.mark F.MOD_PWR_STAT.THERM_SEEN 0
    moduleHold m (fun p => { p with causeThermal := true })
/-- THERMAL_CLEAR: a reading below 150 °C clears that region's cause; every sensor below 150 °C clears the module's. -/
def thermalClear (m : Kz) (r : Option Nat) (tj : Int) : Kz :=
  let m := sawTj m r tj
  if 150 ≤ tj then m
  else
    let m := match r with | some k => m.modPwr k (fun p => { p with thermNow := false }) | none => m
    if (upTo 12).all (fun k => decide ((m.rgn k).pwr.tj < 150)) && decide (m.pwr.hubTj < 150) then
      m.modPower (fun p => { p with thermNow := false })
    else m
/-- R597: the check of a write to RGN_RAIL. -/
def railCheck (m : Kz) (k : Nat) (w : Word) : Option Status :=
  let v := F.RGN_RAIL.TARGET_MV.of w
  if v < 720 || 850 < v || v % 5 ≠ 0 then some .badValue
  else if (spreadFrom m k v).isSome then some .railSpread
  else none
/-- R597: an accepted target starts a ramp from the present rail; `o` is what the register held. -/
def railWritten (m : Kz) (k : Nat) (o : Word) : Kz :=
  if m.rstate k = .down then m
  else
    let was := railMv { m with regs := { m.regs with cfg := Sparse.set m.regs.cfg (RegKind.addr .RGN_RAIL k) o } } k
    m.modPwr k (fun p => { p with rampFrom := some (was, m.now.ns), rampOld := F.RGN_RAIL.TARGET_MV.of o })
/-- RAIL_RAMP_DONE: the rail stands at its target. -/
def rampDone (m : Kz) (k : Nat) : Kz :=
  if (m.rgn k).pwr.rampFrom.isSome && railMv m k = m.fld F.RGN_RAIL.TARGET_MV k then
    m.modPwr k (fun p => { p with rampFrom := none, nowMv := m.fld F.RGN_RAIL.TARGET_MV k })
  else m

/-! ### Statistics periods -/

/-- R635: a boundary raised; the hub writes it with the next entries (R636). -/
def raiseBoundary (m : Kz) (src : BoundarySource) : Kz :=
  { m with stats := { m.stats with raised := m.stats.raised ++ [src] },
           hub := { m.hub with out := { m.hub.out with boundary := true } } }
/-- R635: whether the timer's period has passed. -/
def timerDue (m : Kz) : Bool :=
  let t := m.fld F.MOD_STAT_CTRL.TIMER_MS 0
  powered m.pwr.state && t != 0 && decide (m.stats.timerFrom + t * 1000000 ≤ m.now.ns) &&
    !m.stats.raised.contains .timer && !m.stats.due.any (fun d => d.2 = .timer)
/-- STAT_TIMER_EXPIRE, and a write of TIMER_MS that finds its period passed. -/
def statTimer (m : Kz) : Kz := if timerDue m then raiseBoundary m .timer else m
/-- Whether a counter's address lies in a region's window or in one of its channels'. -/
def ofRegion (k a : Nat) : Bool :=
  a / 0x100000 = 0x10 + k || (decide (0x02000000 + 16 * k * 0x1000 ≤ a) && decide (a < 0x02000000 + 16 * (k + 1) * 0x1000))
/-- R637: the counters whose address satisfies `p` copy into their snapshots and restart. -/
def latchWhere (s : Stats) (p : Nat → Bool) : Stats :=
  { s with
    snap := (s.live.filter (fun x => p x.1)).foldl (fun t x => Sparse.set t x.1 x.2) (s.snap.filter (fun x => !p x.1)),
    live := s.live.filter (fun x => !p x.1) }
/-- The corrected words of the ended period, added to the ledger's sum (R667). -/
def eccSums (m : Kz) (p : Nat → Bool) : Kz :=
  m.eachRgn (fun m k => if p (RegKind.addr .RGN_ECC_CORR k) then
    modRAge m k (fun a => { a with eccSum := (a.eccSum + m.counter .RGN_ECC_CORR k) % 2 ^ 32 }) else m)
/-- Code of a boundary's source (R640). -/
def BoundarySource.code : BoundarySource → Nat
  | .fast => 1 | .host => 2 | .timer => 3
/-- R638: whether a boundary at fabric cycle `fb` comes too soon after the last applied one. -/
def tooSoon (m : Kz) (fb : Nat) : Bool :=
  match m.stats.lastFb with | some l => decide (fb < l + 32000) | none => false
/-- Regions that have not read the entry of a boundary by F_b (R757). -/
def lateFor (m : Kz) (fb : Nat) : List Nat :=
  (upTo 12).filter (fun k => decide (m.rstate k ≠ .down) && (m.rgn k).lane.unread.any (fun s => s + 24 = fb))
/-- R757: a region latches its counters before F_b, for a boundary that a failed run of entries carried. -/
def earlyLatch (m : Kz) (k : Nat) : Kz :=
  let s := m.stats
  if s.early.any (fun x => x.1 = k) then m
  else { m with stats := { s with early := (k, s.live.filter (fun x => ofRegion k x.1)) :: s.early,
                                  live := s.live.filter (fun x => !ofRegion k x.1) } }
/-- The counters of regions that latched early: into their snapshots, or back where the boundary is not applied. -/
def settleEarly (s : Stats) (applied : Bool) : Stats :=
  let each (s : Stats) (x : Nat × Sparse Counter) : Stats :=
    if applied then { s with snap := x.2.foldl (fun t y => Sparse.set t y.1 y.2) (s.snap.filter (fun y => !ofRegion x.1 y.1)) }
    else { s with live := x.2.foldl (fun t y => Sparse.set t y.1
      (let c := Kz.Counter.add y.2 (Sparse.get {} t y.1).val
       { c with sat := c.sat || (Sparse.get {} t y.1).sat })) s.live }
  s.early.foldl each { s with early := [] }
/-- The answer to a host STAT_BOUNDARY (R641). -/
def answerBoundary (m : Kz) : Kz :=
  match m.stats.hostWait with
  | some ok =>
    if m.stats.busy then m
    else endWaits { m with stats := { m.stats with hostWait := none } } .boundary
      { status := .ok, body := be 4 m.stats.ended ++ be 1 (b2n ok) ++ be 3 0 }
  | none => m
/-- The moment of a fabric cycle that is past, ns (R635). -/
def fbNs (m : Kz) (fb : Nat) : Nat := m.now.ns - (m.now.tick - 16 * fb) * 1000000000 / max 1 (sampleHz m)
/-- STAT_LATCH: F_b of the oldest boundary has come (R636 to R638, R641). -/
def statLatch (m : Kz) : Kz :=
  match m.stats.due with
  | (fb, src) :: r =>
    if m.fabric < fb then m
    else
      let m := { m with stats := { m.stats with due := r } }
      let d := m.datumOf (16 * fb)
      if tooSoon m fb then
        let m := { m with stats := settleEarly m.stats false }
        let m := { m with stats := { m.stats with skipped := min 65535 (m.stats.skipped + 1),
                                                  hostWait := if src = BoundarySource.host then some false else m.stats.hostWait } }
        answerBoundary (m.logE 0x0904 0 0 0 d src.code)
      else
        let late := lateFor m fb
        let p (a : Nat) : Bool := !late.any (fun k => ofRegion k a) && !m.stats.early.any (fun x => ofRegion x.1 a)
        let m := eccSums m p
        let m := m.stats.early.foldl (fun m x => modRAge m x.1 (fun a =>
          { a with eccSum := (a.eccSum + (Sparse.get {} x.2 (RegKind.addr .RGN_ECC_CORR x.1)).val) % 2 ^ 32 })) m
        let s := settleEarly (latchWhere m.stats p) true
        let wrap := s.period + 1 = 2 ^ 32
        let m := { m with stats := { s with
          ended := s.period, period := if wrap then 0 else s.period + 1,
          wraps := if wrap then (s.wraps + 1) % 4096 else s.wraps, busy := true, source := src.code, hdrFb := d,
          lastFb := some fb, timerFrom := fbNs m fb, lateRegions := late,
          hostWait := if src = BoundarySource.host then some true else s.hostWait } }
        m.eachRgn (fun m k => m.modRgn k (fun r => { r with eng := { r.eng with overrunLogged := false } }))
  | [] => m
/-- R757: a region latches a boundary late. -/
def lateLatch (m : Kz) (k : Nat) : Kz :=
  if m.stats.lateRegions.contains k then
    let m := eccSums m (ofRegion k)
    { m with stats := { latchWhere m.stats (ofRegion k) with lateRegions := m.stats.lateRegions.erase k } }
  else m
/-- STAT_COPY_DONE (R641). -/
def statCopied (m : Kz) : Kz :=
  if m.stats.busy then answerBoundary { m with stats := { m.stats with busy := false, memory := m.stats.snap } } else m

/-! ### Scrubbing and voting (R620, R623 to R625) -/

/-- Whether the scrubber runs (R623). -/
def scrubs (m : Kz) : Bool := powered m.pwr.state
/-- Whether the region of a site is powered; the hub always is. -/
def sitePowered (m : Kz) (x : Site) : Bool :=
  let up (k : Nat) : Bool := decide (m.rstate k ≠ .down)
  match x with
  | .regionSram k => up k.val
  | .engine c | .maskPoints c _ | .coefficients c | .averager c => up (c.val / 16)
  | _ => true
/-- An uncorrectable averager sum, bin or cell: its entry in the event log, for which R645 names no code. -/
def uncorrLog (m : Kz) (kind idx : Nat) : Kz := let (code, m) := m.free 16; m.logE code 2 kind idx 0 0
/-- SCRUB_READ. -/
def scrubRead (m : Kz) (x : Site) (f : Found) : Kz :=
  if !scrubs m || !sitePowered m x then m
  else match f with
  | .clean => m
  | .corrected => match x with
    | .regionSram k => m.count .RGN_ECC_CORR k.val 1
    -- R620 names engine memory beside region SRAM, R328 counts it in RGN_ECC_CORR (entry 105); the averager is region SRAM (R302)
    | .engine c | .averager c => m.count .RGN_ECC_CORR (c.val / 16) 1
    | _ => m.count .MOD_ECC_CORR 0 1
  | .uncorrectable =>
    let m := (m.count .MOD_SCRUB_UNCORR 0 1).mark F.MOD_ERR_STAT.SCRUB_UNCORR_SEEN 0
    match x with
    | .regionSram _ | .hubSram => m
    | .hubState => moduleFatal m 2
    | .engine c => engineFault m c.val
    | .maskPoints c y =>
      let m := m.modErr (c.val / 16) (fun e => { e with maskBad := (c.val, y.val) :: e.maskBad })
      (m.mark F.RGN_ERR_STAT.MASK_MEM_SEEN (c.val / 16)).logE 0x0131 2 1 c.val 0 y.val
    | .coefficients c =>
      let m := m.modConv c.val (fun v => { v with coef := v.coefImage.foldl (fun t z => Sparse.set t z.1 z.2) v.coef })
      askRestart m c.val 4
    | .averager c => uncorrLog (avgClear m c.val) 1 c.val
    | .histogram c b => uncorrLog (modHist m c.val (fun h => { h with bins := Sparse.put 0 h.bins b.val 0 })) 1 c.val
    | .mapCell y b => uncorrLog (modMap m y.val (fun h => { h with cells := Sparse.put 0 h.cells b.val 0 })) 0 0
/-- The majority of three copies, where two agree. -/
def majority (a b c : Word) : Option Word := if a = b ∨ a = c then some a else if b = c then some b else none
/-- VOTE_SCRUB: the scrubber reads the three copies of the voted register at an address. -/
def voteScrub (m : Kz) (addr : Nat) (a b c : Word) : Kz :=
  match regAt addr with
  | some r =>
    let voted := BitVec.ofNat 32 r.kind.info.voted
    if !scrubs m || r.kind.info.voted = 0 then m
    else match majority (a &&& voted) (b &&& voted) (c &&& voted) with
      | some w =>
        let old := m.cfgWord r.kind r.inst
        let m := if a &&& voted = w ∧ b &&& voted = w ∧ c &&& voted = w then m else m.count .MOD_VOTE_FIX 0 1
        { m with regs := { m.regs with cfg := Sparse.set m.regs.cfg (r.kind.addr r.inst) (w ||| (old &&& ~~~voted)) } }
      | none =>
        let m := (reload m r.kind r.inst).mark F.MOD_ERR_STAT.VOTE_NOMAJ_SEEN 0
        match r.kind.info.win with
        | .channel => askRestart (m.logE 0x0903 2 1 r.inst 0 addr) r.inst 3
        | .region =>
          let k := r.inst / r.kind.info.cnt
          regionFatal (m.logE 0x0903 3 2 k 0 addr) k 1
        | .module => moduleFatal (m.logE 0x0903 4 0 0 0 addr) 3
  | none => m

end Sys2Proof.Machine
end

