-- ==== Sys2Proof/Machine/Tiu.lean ====
section
/-! DEFINITION. XTRIG converters, the time-interval unit and the frequency counter (R428 to R454). -/
namespace Sys2Proof.Machine

def modTiu (m : Kz) (f : Tiu → Tiu) : Kz := { m with tiu := f m.tiu }
/-- Context `n`, and that context changed. -/
def tiuCtx (m : Kz) (n : Nat) : TiuCtx := Sparse.get {} m.tiu.ctx n
def modCtx (m : Kz) (n : Nat) (f : TiuCtx → TiuCtx) : Kz := modTiu m (fun u => { u with ctx := Sparse.mod {} u.ctx n f })
/-- The judgement delay, 1/1024 tick (R433). -/
def jdelay (m : Kz) : Nat := m.fld F.TIM_TIU_CTRL.JDELAY 0 * 256 * 1024
/-- The acceptance window's ends after the start, 1/1024 tick (R435). -/
def tiuOpen (m : Kz) (n : Nat) : Nat := m.fld F.TIM_TIU_WIN.OPEN n * 2 ^ m.fld F.TIM_TIU_CFG.SCALE n * 1024
def tiuClose (m : Kz) (n : Nat) : Nat := m.fld F.TIM_TIU_WIN.CLOSE n * 2 ^ m.fld F.TIM_TIU_CFG.SCALE n * 1024
/-- Whether an event is of a source with its argument (R430). -/
def ofSource (e : TiuEvent) (src arg : Nat) : Bool := e.src == src && src != 0 && (!(src == 3 || src == 6) || e.arg == arg)

/-- R438, R439: a result of context `n`: 1 STOPPED with its interval, 2 TIMEOUT, 3 ABORTED. -/
def tiuResult (m : Kz) (n outcome d : Nat) : Kz :=
  let again := m.seen F.TIM_TIU_STAT.NEW n != 0
  let m := modCtx m n (fun x => { x with
    outcome := outcome, ticks := if outcome = 1 then d / 1024 else 0xFFFFFFFF, frac := if outcome = 1 then d % 1024 else 0x3FF,
    lost := if again then min 255 (x.lost + 1) else x.lost })
  m.mark F.TIM_TIU_STAT.NEW n
/-- The state after a result (R435). -/
def tiuAfter (m : Kz) (n : Nat) : Kz :=
  modCtx m n (fun x => { x with state := if m.on F.TIM_TIU_CFG.MODE n then .armed else .idle })
/-- A window whose close falls at or before an instant (R433, R435). -/
def tiuCloses (m : Kz) (n i : Nat) : Kz :=
  let x := tiuCtx m n
  if x.state = .open_ && decide (x.start + tiuClose m n ≤ i) then tiuAfter (tiuResult m n 2 0) n else m
/-- The events of one instant meet context `n`: its close, then a stop, then starts (R433, R435 to R437). -/
def tiuMeet (m : Kz) (n i : Nat) (es : List TiuEvent) : Kz :=
  let m := tiuCloses m n i
  let x := tiuCtx m n
  let start := (m.fld F.TIM_TIU_CFG.START_SRC n, m.fld F.TIM_TIU_CFG.START_ARG n)
  let stop := (m.fld F.TIM_TIU_CFG.STOP_SRC n, m.fld F.TIM_TIU_CFG.STOP_ARG n)
  let used := if x.state = .open_ && decide (x.start + tiuOpen m n ≤ i) && decide (x.start < i) then
      es.find? (fun e => ofSource e stop.1 stop.2) else none
  let m := match used with
    | some e =>
      let m := tiuAfter (tiuResult m n 1 (i - x.start)) n
      if m.on F.TIM_TIU_CFG.CHAIN n && m.on F.TIM_TIU_CFG.MODE n && ofSource e start.1 start.2 then
        modCtx m n (fun x => { x with state := .open_, start := i })
      else m
    | none => m
  let rest := match used with | some e => es.erase e | none => es
  (rest.filter (fun e => ofSource e start.1 start.2)).foldl (fun m _ =>
    match (tiuCtx m n).state with
    | .armed => modCtx m n (fun x => { x with state := .open_, start := i })
    | .open_ => m.count .TIM_TIU_IGNORED 0 1
    | .idle => m) m
/-- Every event whose judgement time has come is judged, in order of instants (R433). -/
def tiuRun : Nat → Kz → Kz
  | 0, m => m
  | f + 1, m =>
    match m.tiu.queue with
    | e :: _ =>
      if m.inst < e.inst + jdelay m then m
      else
        let same := m.tiu.queue.filter (fun x => x.inst = e.inst)
        let m := modTiu m (fun u => { u with queue := u.queue.filter (fun x => x.inst ≠ e.inst) })
        tiuRun f ((upTo 32).foldl (fun m n => tiuMeet m n e.inst same) m)
    | [] => m
def tiuJudge (m : Kz) : Kz := tiuRun m.tiu.queue.length m
/-- An event put in its place among those that wait. -/
def tiuPut (e : TiuEvent) : List TiuEvent → List TiuEvent
  | x :: r => if e.inst < x.inst then e :: x :: r else x :: tiuPut e r
  | [] => [e]
/-- R434: an event reaches the unit. -/
def tiuArrive (m : Kz) (src arg inst : Nat) : Kz :=
  if inst + jdelay m < m.inst then (m.count .TIM_TIU_LATE 0 1).mark F.TIM_TIU_EVT_STAT.LATE_SEEN 0
  else modTiu m (fun u => { u with queue := tiuPut ⟨src, arg, inst⟩ u.queue })
/-- TIU_EVENT_ARRIVAL: the oldest combiner instant of a channel that is on its way (R431). -/
def tiuChannel (m : Kz) (c : Nat) : Kz :=
  match (m.chan c).trig.tiuOut with
  | i :: _ => tiuArrive (m.modTrig c (fun x => { x with tiuOut := x.tiuOut.drop 1 })) 6 c i
  | [] => m
/-- TIU_TIMEOUT: the window of context `n` has closed (R435). -/
def tiuTimeout (m : Kz) (n : Nat) : Kz :=
  let m := tiuJudge m
  if m.inst < jdelay m then m else tiuCloses m n (m.inst - jdelay m)
/-- R435: an accepted change of the timing mode ends what is open. -/
def tiuAbort (m : Kz) : Kz :=
  (upTo 32).foldl (fun m n =>
    if (tiuCtx m n).state = .open_ then modCtx (tiuResult m n 3 0) n (fun x => { x with state := .idle }) else m) m

/-- R430: whether a source code and its argument are ones of the table. -/
def tiuSource (src arg : Nat) : Bool :=
  src ≤ 6 && (src != 3 || arg ≤ 7 || (decide (0x10 ≤ arg) && decide (arg ≤ 0x1F))) && (src != 6 || arg ≤ 191)
/-- R430, R440: the check of a write to TIM_TIU_CFGn. -/
def tiuCfgCheck (m : Kz) (n : Nat) (w : Word) : Option Status :=
  let o := m.cfgWord .TIM_TIU_CFG n
  if !tiuSource (F.TIM_TIU_CFG.START_SRC.of w) (F.TIM_TIU_CFG.START_ARG.of w) ||
      !tiuSource (F.TIM_TIU_CFG.STOP_SRC.of w) (F.TIM_TIU_CFG.STOP_ARG.of w) then some .badValue
  else if F.TIM_TIU_CFG.EN.of o = 1 && F.TIM_TIU_CFG.EN.of w = 1 && (o ^^^ w).toNat % 2 ^ 31 != 0 then some .badValue
  else none
/-- R440: the check of a write to TIM_TIU_WINn. -/
def tiuWinCheck (m : Kz) (n : Nat) (w : Word) : Option Status :=
  if F.TIM_TIU_WIN.CLOSE.of w ≤ F.TIM_TIU_WIN.OPEN.of w then some .badValue
  else if m.on F.TIM_TIU_CFG.EN n && decide (w ≠ m.cfgWord .TIM_TIU_WIN n) then some .badValue
  else none
/-- R435: contexts of a mask that are enabled and IDLE become ARMED. -/
def tiuArm (m : Kz) (mask : Nat) : Kz :=
  (upTo 32).foldl (fun m n =>
    if mask.testBit n && m.on F.TIM_TIU_CFG.EN n && decide ((tiuCtx m n).state = .idle) then
      modCtx m n (fun x => { x with state := .armed }) else m) m
/-- The effect of a write to TIM_TIU_CFGn: EN 1 arms, EN 0 ends without a result. -/
def tiuCfgWritten (m : Kz) (n : Nat) (w : Word) : Kz :=
  if F.TIM_TIU_CFG.EN.of w = 1 then tiuArm m (1 <<< n) else modCtx m n (fun x => { x with state := .idle })
/-- R439: a read of TIM_TIU_STATn latches the ticks of the same result. -/
def tiuLatch (m : Kz) (n : Nat) : Kz := modCtx m n (fun x => { x with latched := x.ticks })
/-- R447: NEW cleared sets LOST to 0. -/
def tiuStatCleared (m : Kz) (n : Nat) (w : Word) : Kz :=
  if F.TIM_TIU_STAT.NEW.of w = 1 then modCtx m n (fun x => { x with lost := 0 }) else m

/-! ### XTRIG (R205, R428, R429) -/

/-- XTRIG_EDGE: an edge at the land of input `x`, 1/1024 tick. -/
def xtrigEdge (m : Kz) (x : Nat) (falling : Bool) (inst : Nat) : Kz :=
  let en := m.on (if x = 0 then F.MOD_XTRIG_CTRL.EN0 else F.MOD_XTRIG_CTRL.EN1) 0
  let pol := m.fld (if x = 0 then F.MOD_XTRIG_CTRL.EDGE0 else F.MOD_XTRIG_CTRL.EDGE1) 0
  let last := if x = 0 then m.hub.xtrigLast0 else m.hub.xtrigLast1
  if !en || !(pol = 2 || pol = b2n falling) || m.inst < inst then m
  else match last with
  | some l =>
    if (inst - l) * 10000000000 < 16 * 1024 * sampleHz m then
      (m.count .TIM_XTRIG_DEAD 0 1).mark (if x = 0 then F.TIM_TIU_EVT_STAT.DEAD_SEEN0 else F.TIM_TIU_EVT_STAT.DEAD_SEEN1) 0
    else stamp m
  | none => stamp m
where
  /-- The edge stamped to 1/32 tick. -/
  stamp (m : Kz) : Kz :=
    let i := inst / 32 * 32
    let m := m.modHub (fun h => { h with
      out := { h.out with xtrig := h.out.xtrig ++ [(x, i)] },
      xtrigLast0 := if x = 0 then some inst else h.xtrigLast0, xtrigLast1 := if x = 0 then h.xtrigLast1 else some inst })
    tiuArrive m (4 + x) 0 i

/-! ### Frequency counter (R441 to R443) -/

/-- R441: the check of a write to TIM_FREQ_CFG. -/
def freqCheck (w : Word) : Option Status :=
  if 5 < F.TIM_FREQ_CFG.SRC.of w || F.TIM_FREQ_CFG.GATE_MS.of w = 0 || 10000 < F.TIM_FREQ_CFG.GATE_MS.of w then some .badValue
  else none
/-- R442, R443: a write ends a gate in progress; START begins one. -/
def freqWritten (m : Kz) (w : Word) : Kz :=
  modTiu m (fun u => { u with gating := F.TIM_FREQ_CFG.START.of w = 1, gateNs := m.now.ns })
/-- A result, and what follows it: the next gate in continuous mode. -/
def freqResult (m : Kz) (f : Nat) (none_ gap : Bool) (spanNs : Nat) : Kz :=
  let warm := m.tb.oven = .warm && decide (m.tb.warmAt + spanNs ≤ m.now.ns)
  (modTiu m (fun u => { u with
    freq := f % 2 ^ 64, noSignal := none_, gap := gap, warm := warm, freqSrc := m.fld F.TIM_FREQ_CFG.SRC 0,
    freqSeq := (u.freqSeq + 1) % 65536, gating := m.on F.TIM_FREQ_CFG.CONT 0, gateNs := m.now.ns })).mark F.TIM_FREQ_STAT.NEW 0
/-- FREQ_GATE_END: `n` periods between first and last edge, `span` and the longest interval `longest` in 1/32 of
97.65625 ps, which is 1/327,680,000,000 s. Whether the quotient is rounded up is left open by the spec. -/
def freqEnd (m : Kz) (n span longest : Nat) : Kz :=
  if m.tiu.gating && n != 0 && span != 0 && decide (m.fld F.TIM_FREQ_CFG.GATE_MS 0 * 327680000 ≤ span) then
    let (up, m) := m.free 1
    let k : Nat := 10 ^ 12
    let num := n * 327680000000 * 2 ^ 32 * ((k : Int) + hearthOff m).toNat
    let den := span * k
    freqResult m (num / den + (if num % den = 0 then 0 else up)) false (decide (4 * span < longest * n)) (span * 1000 / 327680)
  else m
/-- FREQ_NO_SIGNAL: fewer than two edges within GATE_MS ms plus 1 s. -/
def freqNone (m : Kz) : Kz :=
  let wait := m.fld F.TIM_FREQ_CFG.GATE_MS 0 * 1000000 + 1000000000
  if m.tiu.gating && decide (m.tiu.gateNs + wait ≤ m.now.ns) then freqResult m 0 true false wait else m
/-- R453: a read of TIM_FREQ_STAT latches the result. -/
def freqLatch (m : Kz) : Kz := modTiu m (fun u => { u with freqLatch := u.freq })

/-- XTRIG_EDGE (R428). -/
def execXtrigEdge (t : Stamp) (x : Fin 2) (falling : Bool) (inst : Nat) (s : State) : Host.Outcome State Fault Refusal :=
  s.at_ t (fun m => xtrigEdge m x falling inst)
/-- TIU_EVENT_ARRIVAL (R434). -/
def execTiuEventArrival (t : Stamp) (c : Chan) (s : State) : Host.Outcome State Fault Refusal := s.at_ t (fun m => tiuChannel m c)
/-- TIU_JUDGE (R433). -/
def execTiuJudge (t : Stamp) (s : State) : Host.Outcome State Fault Refusal := s.at_ t tiuJudge
/-- TIU_TIMEOUT (R435). -/
def execTiuTimeout (t : Stamp) (n : Fin 32) (s : State) : Host.Outcome State Fault Refusal := s.at_ t (fun m => tiuTimeout m n)
/-- FREQ_GATE_END (R442). -/
def execFreqGateEnd (t : Stamp) (n span longest : Nat) (s : State) : Host.Outcome State Fault Refusal :=
  s.at_ t (fun m => freqEnd m n span longest)
/-- FREQ_NO_SIGNAL (R443). -/
def execFreqNoSignal (t : Stamp) (s : State) : Host.Outcome State Fault Refusal := s.at_ t freqNone

end Sys2Proof.Machine
end

