-- ==== Sys2Proof/Machine/TimingLink.lean ====
section
/-! DEFINITION. The timing lanes: crossings, fast commands, accept sequence, inputs, return frames, violations
(R377 to R400, R128, R257). -/
namespace Sys2Proof.Machine

/-- A timing-lane violation or event answers WARN with its reason and makes an event-log entry, at most one per reason in each 1 ms
(R394, R395). -/
def warnLog (m : Kz) (r code value : Nat) : Kz :=
  let recent := m.tl.logged.any (fun p => p.1 = r && decide (m.now.ns < p.2 + 1000000))
  let m := m.modTl (fun l => { l with warnsNew := l.warnsNew ++ [r] })
  if recent then m
  else (m.modTl (fun l => { l with logged := (r, m.now.ns) :: l.logged.filter (fun p => p.1 ≠ r) })).logE code 0 0 0 0 value
/-- A violation of R395. -/
def violation (m : Kz) (r : Nat) : Kz := warnLog m r 0x0301 r

/-- R137: HOST_EPOCH written with 1; one that comes too soon is ignored and answered with WARN as R135 has it for a fast command. It
is no violation of the partner's, so R395's entry 0x0301 is not made (entry 108). -/
def hostEpoch (m : Kz) : Kz :=
  if epochTooSoon m then (epochIgnored m).modTl (fun l => { l with warnsNew := l.warnsNew ++ [8] })
  else epochAccept m m.inst true

/-! ### Inputs (R388 to R391) -/

def bothLocked (m : Kz) : Bool := decide (m.tl.tin0.state = .locked) && decide (m.tl.tin1.state = .locked)
/-- R390: the skew lies within ±5 ns as last measured within the past 1 s. -/
def skewOk (m : Kz) : Bool :=
  (match m.tl.skewAt with | some a => decide (m.now.ns ≤ a + 1000000000) | none => false) &&
    decide (m.tl.skew.natAbs * 200000000 ≤ sampleHz m)
def tin (m : Kz) (i : Nat) : Tin := if i = 0 then m.tl.tin0 else m.tl.tin1
def setTin (m : Kz) (i : Nat) (x : Tin) : Kz :=
  m.modTl (fun l => if i = 0 then { l with tin0 := x } else { l with tin1 := x })
def tinEnabled (m : Kz) (i : Nat) : Bool := m.on (if i = 0 then F.TIM_TL_CFG.TIN0_EN else F.TIM_TL_CFG.TIN1_EN) 0
/-- R125, R129, R390: the crossing edges follow another clock with a step in phase: the last skew measured, or, where none was, one
that no command tells. -/
def clockReturns (m : Kz) : Kz :=
  if tmode m = 1 then
    if m.tb.tb = .tracking then
      let (e, m) := if m.tl.skewAt.isSome then (m.tl.skew * 1024, m) else let (u, m) := m.free 18; (sext 18 u, m)
      relockBegin (m.modTb (fun b => { b with holdStart := m.now.tick, holdPhase := 0 })) e
    else m
  else if m.tl.edges.isEmpty then m
  else timeFlags ((m.modTb (fun b => { b with xingVirtual := true })).modTl (fun l => { l with slewErr := none }))
/-- R389, R390: input `i` becomes active by a failover or revert, which applies the skew where it is known. -/
def switchInput (m : Kz) (i : Nat) : Kz :=
  let m := if skewOk m then m.modTl (fun l => { l with offset := if i = 0 then l.offset - l.skew else l.offset + l.skew })
    else (clockReturns m).modTl (fun l => { l with offset := 0 })
  let m := (m.modTl (fun l => { l with active := i })).mark F.TIM_TL_STAT.FAILOVER_SEEN 0
  warnLog m 9 0x0303 i
/-- TIN_SIGNAL_DETECT: an input hunts once PG is high (R388, R702). -/
def tinDetect (m : Kz) (i : Nat) : Kz :=
  if (tin m i).state = .down && tinEnabled m i && m.pwr.pg then setTin m i ⟨.hunt, m.now.ns⟩ else m
/-- TIN_LOCK: 32 good frames. -/
def tinLock (m : Kz) (i : Nat) : Kz :=
  if (tin m i).state = .hunt then
    let lost := mclkLost m
    let m := setTin m i ⟨.locked, m.now.ns⟩
    if lost then m.modTl (fun l => { l with active := i, ref := none, offset := 0 }) else m
  else m
/-- An input leaves LOCKED for another state; the active one may fail over, or the machine clock is lost (R124, R128),
and its frequency reads 0 until a gate after its return has completed (R146, R704). -/
def tinLeaves (m : Kz) (i : Nat) (st : TinState) : Kz :=
  let was := (tin m i).state = .locked
  let m := setTin m i ⟨st, m.now.ns⟩
  if was then
    let m := (m.mark F.TIM_TL_STAT.LOCK_LOST_SEEN 0).logE 0x0302 0 0 0 0 i
    if m.tl.active = i && (tin m (1 - i)).state = .locked then switchInput m (1 - i)
    else if mclkLost m then
      let m := m.modTb (fun b => { b with mclkHz := 0 })
      let m := if m.tl.edges.isEmpty then m else timeFlags (m.modTb (fun b => { b with xingVirtual := true }))
      if tmode m = 1 then tbLost m else m
    else m
  else m
/-- TIN_LOCK_LOST: 8 consecutive bad frames. -/
def tinLockLost (m : Kz) (i : Nat) : Kz := if (tin m i).state = .locked then tinLeaves m i .hunt else m
/-- TIN_SIGNAL_LOST, or the input disabled. -/
def tinDown (m : Kz) (i : Nat) : Kz := if (tin m i).state = .down then m else tinLeaves m i .down
/-- TIN_REVERT: TIN0 has been LOCKED for 1 s. -/
def tinRevert (m : Kz) : Kz :=
  if m.on F.TIM_TL_CFG.REVERT 0 && m.tl.active = 1 && decide (m.tl.tin0.state = .locked) &&
      decide (m.tl.tin0.since + 1000000000 ≤ m.now.ns) then switchInput m 0 else m
/-- R396, R397: the check of a write to TIM_TL_CFG. -/
def tlCheck (m : Kz) (w : Word) : Option Status :=
  if 64 < F.TIM_TL_CFG.BUSY_THR.of w then some .badValue
  else if F.TIM_TL_CFG.PROTO.of w ≠ m.fld F.TIM_TL_CFG.PROTO 0 && m.regionsBusy then some .regionsNotIdle
  else none
/-- The effect of a write to TIM_TL_CFG (R387, R388); `o` is what it held. -/
def tlWritten (m : Kz) (o w : Word) : Kz :=
  let m := if F.TIM_TL_CFG.PROTO.of o = F.TIM_TL_CFG.PROTO.of w then m else m.modTl (fun l => { l with ref := none })
  let m := if tinEnabled m 0 then m else tinDown m 0
  if tinEnabled m 1 then m else tinDown m 1

/-! ### Return frames (R392 to R394) -/

/-- STATE and REASON of the conditions that stand by themselves; (0, 0) where none holds. -/
def retStanding (m : Kz) : Nat × Nat :=
  let thr := m.fld F.TIM_TL_CFG.BUSY_THR 0
  if m.pwr.state = .hold then (3, 1)
  else if m.anyRgn (fun s => s = .hold) then (3, 2)
  else if mclkLost m then (3, 3)
  else if m.tl.suspect then (3, 4)
  else if thr != 0 && (upTo 12).any (fun k => decide (thr ≤ (m.rgn k).acq.queue.length)) then (1, 1)
  else if (upTo 12).any (fun k => (m.rgn k).lg.ovf) then (1, 2)
  else (0, 0)
/-- The return frame of the newest crossing. -/
def returnFrame (m : Kz) : Kz :=
  let send := powered m.pwr.state && m.on F.TIM_TL_CFG.TOUT_EN 0
  let m := match send, m.tl.edges with
    | true, e :: _ =>
      let st := retStanding m
      let st := if st = (0, 0) then (match m.tl.warns with | r :: _ => (2, r) | [] => (0, 0)) else st
      let b := st.1 * 64 + m.tl.active * 32 + b2n (carried m) * 16 + st.2
      let m := m.modTl (fun l => { l with
        retState := st.1, retReason := st.2, warns := if st.1 = 2 then [] else l.warns })
      let crc := crc8 (be 1 b ++ be 1 m.tl.echoPrev ++ be 1 (e.bcn % 256))
      m.emit (.returnFrame (e.bcn == 0) b m.tl.echoPrev crc)
    | _, _ => m
  m.modTl (fun l => { l with echoPrev := l.echo, warns := l.warns ++ l.warnsNew, warnsNew := [] })

/-! ### Crossing edges (R381, R382, R128) -/

/-- BCN and orbit count that the next crossing takes of itself. -/
def nextBcn (m : Kz) : Nat × Nat := match m.tl.edges with | e :: _ => ((e.bcn + 1) % 65536, e.orbit) | [] => (0, 0)
/-- A crossing edge begins: its BCN and orbit, the crossing-driven sources, its return frame. -/
def newEdge (m : Kz) (at_ period : Nat) (mark reset virt : Bool) : Kz :=
  let (b, o) := nextBcn m
  let first := m.tl.edges.isEmpty
  let wrap := mark && !reset && !first && o + 1 = 2 ^ 32
  let bcn := if mark || reset then 0 else b
  let orbit := if reset || first then 0 else if mark then (o + 1) % 2 ^ 32 else o
  let no := match m.tl.edges with | e :: _ => e.no + 1 | [] => 0
  let e : Edge := ⟨no, at_, period, bcn, orbit, mark, virt || m.tb.xingVirtual, carried m⟩
  let m := m.modTl (fun l => { l with
    edges := (e :: l.edges).take 65600, bcn := bcn, orbit := orbit,
    orbitWraps := if wrap then (l.orbitWraps + 1) % 2 ^ 32 else l.orbitWraps })
  let len := m.fld F.TIM_TL_CFG.ORBIT_LEN 0
  let m := if mark && len != 0 && b != len then
      violation ((m.count .TIM_TL_PROTO_ERR 0 1).mark F.TIM_TL_STAT.ORBIT_ERR_SEEN 0) 7 else m
  let m := m.eachRgn (fun m k => if m.inRun k && periodicAt m k bcn then firePeriodic m k at_ else m)
  let m := m.allChans (fun m c => rsJudge m c e)
  let m := if virt then m else tiuArrive m 1 0 at_
  let m := if mark && !virt then tiuArrive m 2 0 at_ else m
  returnFrame m
/-- VIRTUAL_CROSSING_EDGE. -/
def virtualEdge (m : Kz) : Kz :=
  match m.tl.edges with
  | e :: _ =>
    if mclkLost m && decide (e.at_ + e.period ≤ m.inst) then
      newEdge (m.modTl (fun l => { l with slewErr := none })) (e.at_ + e.period) e.period false false true
    else m
  | [] => m

/-! ### Frames (R380, R383, R391, R395) -/

/-- An error in the crossing phase brought within half a period of 0. -/
def centred (d : Int) (p : Nat) : Int := let r := d % (p : Int); if (p : Int) < 2 * r then r - p else r
/-- The crossing edge as the active input's frame gives it (R390). -/
def measured (m : Kz) (f : Frame) : Nat := ((f.edge : Int) - m.tl.offset * 1024).toNat
/-- A frame whose comma is missing or out of place: its edge lies 40 bits, one period, after the edge before it (R382). -/
def uncomma (m : Kz) (f : Frame) : Frame :=
  match m.tl.edges with
  | e :: _ => { f with edge := ((e.at_ + f.period : Nat) + m.tl.slewErr.getD 0 + m.tl.offset * 1024).toNat }
  | [] => f
/-- Where the edge of a crossing stands, its period, and the error of the crossing phase at it. In MACHINE_LOCK mode it lies ML_M ticks after
the one before, the first one on a whole tick (R118, R128, R136); after a return of the machine clock in another mode the
phase slews from the projected edge towards the measured one (R129); else it is as measured. -/
def edgeAt (m : Kz) (f : Frame) : Nat × Nat × Int :=
  if tmode m = 1 then
    let p := m.fld F.TIM_MODE.ML_M 0 * 1024
    match m.tl.edges with
    | e :: _ => (if m.tl.grid then e.at_ + p else (measured m f + 512) / 1024 * 1024, p, 0)
    | [] => ((measured m f + 512) / 1024 * 1024, p, 0)
  else match m.tl.edges with
    | e :: _ =>
      if m.tb.xingVirtual then
        let d := centred ((measured m f : Int) - (e.at_ + f.period : Nat)) f.period
        let r := if d.natAbs ≤ 256 then 0 else slewBy (slewed m f.period) d
        (((e.at_ + f.period : Nat) + d - r).toNat, f.period, r)
      else (measured m f, f.period, 0)
    | [] => (measured m f, f.period, 0)
/-- A real crossing edge begins. -/
def realEdge (m : Kz) (f : Frame) (mark reset : Bool) : Kz :=
  let (a, p, r) := edgeAt m f
  newEdge (m.modTl (fun l => { l with grid := tmode m = 1 && m.tb.tb ≠ .switching, slewErr := some r })) a p mark reset false
/-- Whether a crossing's edge can be taken: an input is LOCKED, and the edge lies after the one before. -/
def edgeOk (m : Kz) (f : Frame) : Bool :=
  tinLocked m && decide (f.edge ≤ m.inst) && (match m.tl.edges with | e :: _ => decide (e.at_ < (edgeAt m f).1) | [] => true)
/-- A discarded frame, by cause: 1 code group or disparity, 2 CRC, 3 comma; 0 counts nothing. -/
def discard (m : Kz) (r : Nat) : Kz :=
  match r with
  | 0 => m
  | 2 =>
    let m := violation (m.count .TIM_TL_CRC_ERR 0 1) 2
    m.modTl (fun l => { l with badRun := l.badRun + 1, suspect := l.suspect || decide (64 ≤ l.badRun + 1) })
  | r => violation (m.count .TIM_TL_SYM_ERR 0 1) r
/-- What the receiver finds of a frame with a command code: whether its command acts, and the cause of a discard
(of the active input's frame, where the other one replaced it). -/
def judgeFrame (m : Kz) (f : Frame) (code : Nat) : Bool × Nat :=
  let b := if f.mark || code = 2 then 0 else (nextBcn m).1
  let ok := crc8 (be 1 code ++ be 1 f.data.toNat ++ be 1 (b % 256)) = f.crc.toNat
  match f.replaced with
  | none => (ok, if ok then 0 else 2)
  | some r => if r = 0 then (ok, if ok then 0 else 2) else (ok && bothLocked m && skewOk m, r)
/-- The skew as a frame brings it (R390). -/
def sawSkew (m : Kz) (f : Frame) : Kz :=
  match f.skew with
  | some x => if bothLocked m then m.modTl (fun l => { l with skew := x, skewAt := some m.now.ns }) else m
  | none => m
/-- A crossing with a frame of a command: the edge, the judgement, then the command's own effect `act` on the newest
edge. -/
def frameCmd (m : Kz) (f : Frame) (code : Nat) (act : Kz → Edge → Kz) : Kz :=
  let f := if f.replaced = some 3 then uncomma m f else f
  if !edgeOk m f then m
  else
    let m := sawSkew m f
    let live := powered m.pwr.state
    let (good, cause) := judgeFrame m f code
    let mark := f.mark && (good || f.replaced != some 3)
    let m := realEdge m f mark (live && good && code = 2)
    if !live then m
    else
      let m := if cause = 0 then m.modTl (fun l => { l with badRun := 0, suspect := false }) else discard m cause
      match good, m.tl.edges with
      | true, e :: _ => tiuArrive (act m e) 3 code e.at_
      | _, _ => m
/-- A decoded command goes onto the fixed lane with what it carries (R29). -/
def toLane (m : Kz) (e : Edge) (code data : Nat) (a : Option LaneAccept) : Kz :=
  let c : LaneCmd := ⟨code, data, e.mark, e.at_, e.bcn, e.orbit, e.no⟩
  m.modHub (fun h => { h with out := { h.out with cmds := h.out.cmds ++ [(c, a)] } })
/-- R257: `n` ACCEPTs take event numbers in the epoch that an instant lies in; the number of the first one. -/
def takeEvents (m : Kz) (i n : Nat) : Nat × Kz :=
  let now : Bool := m.tb.origin * 1024 ≤ i
  let first := if now then m.hub.eventNext else m.hub.eventPrev
  let next := (first + n) % 2 ^ 24
  (first, m.modHub (fun h => { h with
    eventNext := if now then next else h.eventNext, eventPrev := if now then h.eventPrev else next,
    eventWraps := (h.eventWraps + (first + n) / 2 ^ 24) % 2 ^ 32, serial := h.serial + n }))
/-- ACCEPT (R385 to R387). -/
def acceptCmd (m : Kz) (f : Frame) (e : Edge) : Kz :=
  let v2 := m.on F.TIM_TL_CFG.PROTO 0
  let s := f.data.toNat
  let g := match v2, m.tl.ref with | true, some r => (s + 511 - r) % 256 | _, _ => 0
  let lost := if g ≤ 127 then g else 0
  let m := if g = 0 then m else if g ≤ 127 then violation (m.count .TIM_TL_LOST_ACC 0 g) 5
    else violation (m.count .TIM_TL_PROTO_ERR 0 1) 6
  let m := m.modTl (fun l => { l with
    ref := if v2 then some s else l.ref, lastSeq := if v2 then s else l.lastSeq, accepts := (l.accepts + 1) % 256,
    echo := if v2 then s else (l.accepts + 1) % 256 })
  let ep := (m.stampOf e.at_).2
  let ser := m.hub.serial + lost
  let (first, m) := takeEvents m e.at_ (lost + 1)
  toLane m e 1 s (some ⟨ser, (first + lost) % 2 ^ 24, ep, lost⟩)
/-- EPOCH_RESET (R133 to R135). -/
def epochCmd (m : Kz) (f : Frame) (e : Edge) : Kz :=
  let m := if epochTooSoon m then violation (epochIgnored m) 8 else epochAccept m e.at_ false
  toLane m e 3 f.data.toNat none
/-- A command that only goes onto the fixed lane. -/
def laneCmd (code : Nat) (m : Kz) (f : Frame) (e : Edge) : Kz := toLane m e code f.data.toNat none
/-- Whether a code is reserved (R383). -/
def reservedCode (c : Nat) : Bool := decide (8 ≤ c) && !(decide (0x10 ≤ c) && decide (c ≤ 0x1F))
/-- CROSSING_EDGE: a crossing whose frame is discarded for a cause, or is not judged (0). -/
def crossingEdge (m : Kz) (f : Frame) (cause : Nat) : Kz :=
  let f := if cause = 3 then uncomma m f else f
  if !edgeOk m f then m
  else
    let m := realEdge (sawSkew m f) f (f.mark && cause != 3) false
    if powered m.pwr.state then discard m cause else m
/-- R399: a read of TIM_TL_XING latches the current crossing. -/
def xingLatch (m : Kz) : Kz := m.modTl (fun l => { l with latchBcn := l.bcn, latchOrbit := l.orbit })

/-! ### Meanings -/

/-- IDLE (R383). -/
def execIdle (t : Stamp) (f : Frame) (s : State) : Host.Outcome State Fault Refusal :=
  s.at_ t (fun m => frameCmd m f 0 (fun m _ => m))
/-- CROSSING_EDGE (R379, R381, R395). -/
def execCrossingEdge (t : Stamp) (f : Frame) (cause : Fin 4) (s : State) : Host.Outcome State Fault Refusal :=
  s.at_ t (fun m => crossingEdge m f cause)
/-- VIRTUAL_CROSSING_EDGE (R128). -/
def execVirtualCrossingEdge (t : Stamp) (s : State) : Host.Outcome State Fault Refusal := s.at_ t virtualEdge
/-- ACCEPT (R383, R385). -/
def execAccept (t : Stamp) (f : Frame) (s : State) : Host.Outcome State Fault Refusal :=
  s.at_ t (fun m => frameCmd m f 1 (fun m e => acceptCmd m f e))
/-- BCN_RESET (R381). -/
def execBcnReset (t : Stamp) (f : Frame) (s : State) : Host.Outcome State Fault Refusal :=
  s.at_ t (fun m => frameCmd m f 2 (fun m e => laneCmd 2 m f e))
/-- EPOCH_RESET (R133). -/
def execEpochReset (t : Stamp) (f : Frame) (s : State) : Host.Outcome State Fault Refusal :=
  s.at_ t (fun m => frameCmd m f 3 (fun m e => epochCmd m f e))
/-- RESYNC (R383, R387). -/
def execResync (t : Stamp) (f : Frame) (s : State) : Host.Outcome State Fault Refusal :=
  s.at_ t (fun m => frameCmd m f 4 (fun m e => laneCmd 4 (m.modTl (fun l => { l with ref := none })) f e))
/-- CAL_INJECT (R60). -/
def execCalInject (t : Stamp) (f : Frame) (s : State) : Host.Outcome State Fault Refusal :=
  s.at_ t (fun m => frameCmd m f 5 (fun m e => laneCmd 5 m f e))
/-- TEST_TRIGGER (R383). -/
def execTestTrigger (t : Stamp) (f : Frame) (s : State) : Host.Outcome State Fault Refusal :=
  s.at_ t (fun m => frameCmd m f 6 (fun m e => laneCmd 6 m f e))
/-- STAT_BOUNDARY as a fast command (R635). -/
def execStatBoundaryFast (t : Stamp) (f : Frame) (s : State) : Host.Outcome State Fault Refusal :=
  s.at_ t (fun m => frameCmd m f 7 (fun m e => laneCmd 7 (raiseBoundary m .fast) f e))
/-- A user code (R384). -/
def execUserCode (t : Stamp) (f : Frame) (u : Fin 16) (s : State) : Host.Outcome State Fault Refusal :=
  s.at_ t (fun m => frameCmd m f (16 + u) (fun m e => laneCmd (16 + u) m f e))
/-- A frame with a reserved command code (R395). -/
def execReservedFastCommand (t : Stamp) (f : Frame) (code : Byte) (s : State) : Host.Outcome State Fault Refusal :=
  s.at_ t (fun m => if reservedCode code.toNat then
    frameCmd m f code.toNat (fun m _ => violation (m.count .TIM_TL_PROTO_ERR 0 1) 4) else m)
/-- TIN_SIGNAL_DETECT (R388). -/
def execTinSignalDetect (t : Stamp) (i : Fin 2) (s : State) : Host.Outcome State Fault Refusal := s.at_ t (fun m => tinDetect m i)
/-- TIN_LOCK (R388). -/
def execTinLock (t : Stamp) (i : Fin 2) (s : State) : Host.Outcome State Fault Refusal := s.at_ t (fun m => tinLock m i)
/-- TIN_LOCK_LOST (R388). -/
def execTinLockLost (t : Stamp) (i : Fin 2) (s : State) : Host.Outcome State Fault Refusal := s.at_ t (fun m => tinLockLost m i)
/-- TIN_SIGNAL_LOST (R388). -/
def execTinSignalLost (t : Stamp) (i : Fin 2) (s : State) : Host.Outcome State Fault Refusal := s.at_ t (fun m => tinDown m i)
/-- TIN_REVERT (R389). -/
def execTinRevert (t : Stamp) (s : State) : Host.Outcome State Fault Refusal := s.at_ t tinRevert

end Sys2Proof.Machine
end

