-- ==== Sys2Proof/Machine/FixedLane.lean ====
section
/-! DEFINITION. The fixed lane between hub and regions, and the module pattern (R27 to R39, R200, R756, R757). -/
namespace Sys2Proof.Machine

/-! ### Sending (R29, R636, R757) -/

/-- The accept-mirror entry of an ACCEPT towards region `k` (R628). -/
def accEntry (m : Kz) (k : Nat) (c : LaneCmd) (a : LaneAccept) : AccEntry :=
  { ser := a.ser, event := a.event, epoch := a.epoch, lost := a.lost, no := c.no, edge := c.edge, orbit := c.orbit,
    bcn := c.bcn, owing := owing m k }
/-- The two entries of a fabric cycle on the link of region `k`. -/
def sendLink (m : Kz) (cyc : Nat) (o : HubOut) (k : Nat) : Kz :=
  let cmd := o.cmds.head?
  let l := (m.rgn k).lane
  let nc := (l.cmdCount + b2n cmd.isSome) % 16
  let nb := (l.bndCount + b2n o.boundary) % 4
  if m.rstate k = .down then
    m.modLane k (fun l => { l with
      cmdCount := nc, bndCount := nb, seenCmd := nc, seenBnd := nb, inQ := [], outQ := [], unread := [], badFrom := none,
      earlyAt := none, lostBefore := none })
  else
    let e : InEntry :=
      { stamp := cyc, cmd := cmd.map (fun p => p.1), accept := cmd.bind (fun p => p.2), boundary := o.boundary,
        xtrig := o.xtrig, modPat := o.modPat, cmdCount := nc, bndCount := nb }
    let r : OutEntry :=
      { stamp := cyc, pattern := patternNow m k, fire := l.fire, feats := l.feats,
        depart := l.departing, departs := l.departs, old := (m.rgn k).err.restarting }
    let m := m.modLane k (fun l => { l with
      inQ := l.inQ ++ [e], outQ := l.outQ ++ [r], cmdCount := nc, bndCount := nb,
      unread := if o.boundary then l.unread ++ [cyc] else l.unread, fire := none, feats := [], departing := false })
    match cmd with
    | some (c, some a) => m.modAcq k (fun x => { x with mirror := x.mirror ++ [accEntry m k c a] })
    | _ => m
/-- What a fabric cycle ends in a region: a pattern whose terms have lapsed is false again (R199), and a cut whose records are all
folded is latched (R316). -/
def cycleEnds (m : Kz) (k : Nat) : Kz :=
  cutSettle (m.modAcq k (fun a => { a with pattern := a.pattern && patternNow m k })) k
/-- FIXED_LANE_SEND: one entry in each direction of each link, once in each fabric cycle, and what the channels deliver in
that cycle. -/
def laneSend (m : Kz) (d : List Delivered) : Kz :=
  let cyc := m.fabric
  if !powered m.pwr.state || m.hub.lastSend.any (fun l => decide (cyc ≤ l)) then m
  else
    let o := m.hub.out
    let m := m.eachRgn (fun m k => sendLink m cyc o k)
    let m := m.modHub (fun h => { h with lastSend := some cyc, out := { cmds := o.cmds.drop 1 } })
    let m := { m with stats := { m.stats with
      due := m.stats.due ++ m.stats.raised.map (fun src => (cyc + 24, src)), raised := [] } }
    (d.foldl deliver m).eachRgn cycleEnds

/-! ### Arrival (R27, R32, R34, R35) -/

/-- The slack of an entry that arrives now (R27). -/
def slackOf (m : Kz) (stamp : Nat) : Int := ((stamp + 24 : Nat) : Int) - m.fabric
/-- What an entry's slack does to a link. -/
def sawSlack (m : Kz) (k stamp : Nat) (toHub : Bool) : Kz :=
  let s := slackOf m stamp
  let n := s.toNat
  let m := m.modLane k (fun l =>
    let l := if toHub then { l with minOut := min l.minOut n } else { l with minIn := min l.minIn n }
    if s < 4 then { l with lowAt := m.now.ns } else l)
  if s < 2 then
    let m := m.modLane k (fun l => if toHub then { l with skewOut := true } else { l with skewIn := true })
    (m.markBit F.MOD_REGION_SKEW.SKEW_SEEN 0 k).openSpanAt (.skew k) (16 * stamp)
  else m
/-- The departures of an entry that passes its CRC, taken from the mirror (R756). -/
def takeDepartures (m : Kz) (k departs : Nat) : Kz :=
  let n := (departs + 64 - (m.rgn k).lane.hubDeparts) % 64
  let m := m.modLane k (fun l => { l with hubDeparts := departs, badOut := 0 })
  m.modAcq k (fun a => { a with mirror := a.mirror.drop n })
/-- Entries that have arrived and wait in a queue; one that finds 32 of them is taken as one that fails its CRC (R27). -/
def queueFull (arrived : List (Option Nat)) : Bool := decide (32 ≤ (arrived.filter Option.isSome).length)
/-- A region-to-hub entry arrives. One that the region sent while it restarted is discarded (R36). -/
def arriveOut (m : Kz) (k : Nat) (e : OutEntry) (crcOk : Bool) : Kz :=
  let crcOk := crcOk && !queueFull ((m.rgn k).lane.outQ.map (fun x => x.arrived))
  let m := sawSlack m k e.stamp true
  let m := m.modLane k (fun l => { l with
    outQ := l.outQ.map (fun x => if x = e then { x with arrived := some m.fabric, crcOk := crcOk } else x) })
  if (m.rgn k).err.restarting || e.old then m
  else if crcOk then takeDepartures m k e.departs
  else
    let m := m.modLane k (fun l => { l with badOut := l.badOut + 1 })
    if (m.rgn k).lane.badOut = 32 then regionFatal m k 2 else m
/-- R757: what the counts of a passing entry show of the failed run before it. A region that restarts already answers a lost ACCEPT
when it releases that entry. -/
def afterBadRun (m : Kz) (k : Nat) (e : InEntry) : Kz :=
  let l := (m.rgn k).lane
  let more (n was own md : Nat) : Bool := (n + md - was) % md != own
  let m := m.modLane k (fun l => { l with
    seenCmd := e.cmdCount, seenBnd := e.bndCount, badFrom := none, unread := l.unread.filter (fun s => decide (e.stamp < s)) })
  match l.badFrom with
  | none => m
  | some s =>
    if more e.cmdCount l.seenCmd (b2n e.cmd.isSome) 16 then
      let m := if (m.rgn k).err.restarting then m.modLane k (fun l => { l with lostBefore := some e.stamp }) else m
      regionFatal (lateLatch m k) k 2
    else if more e.bndCount l.seenBnd (b2n e.boundary) 4 then
      if m.stats.lateRegions.contains k then lateLatch m k
      else if m.fabric ≤ s + 24 then m.modLane k (fun l => { l with earlyAt := some (s + 24) })
      else earlyLatch m k
    else m
/-- A hub-to-region entry arrives. -/
def arriveIn (m : Kz) (k : Nat) (e : InEntry) (crcOk : Bool) : Kz :=
  let crcOk := crcOk && !queueFull ((m.rgn k).lane.inQ.map (fun x => x.arrived))
  let m := sawSlack m k e.stamp false
  let m := m.modLane k (fun l => { l with
    inQ := l.inQ.map (fun x => if x = e then { x with arrived := some m.fabric, crcOk := crcOk } else x) })
  if crcOk then
    let late := e.boundary && decide (e.stamp + 24 ≤ m.fabric)
    let m' := afterBadRun m k e
    if late then m'.modLane k (fun l => { l with unread := if m.stats.lateRegions.contains k then l.unread else l.unread ++ [e.stamp] })
    else m'
  else m.modLane k (fun l => { l with badFrom := some (l.badFrom.getD e.stamp) })
/-- FIXED_LANE_ARRIVAL: the oldest entry in transit arrives. -/
def laneArrive (m : Kz) (k : Nat) (toHub crcOk : Bool) : Kz :=
  let l := (m.rgn k).lane
  if m.rstate k = .down then m
  else if toHub then match l.outQ.find? (fun e => e.arrived.isNone) with
    | some e => arriveOut m k e crcOk
    | none => m
  else match l.inQ.find? (fun e => e.arrived.isNone) with
    | some e => arriveIn m k e crcOk
    | none => m

/-! ### Release (R27, R33, R36) -/

/-- The cycle in which an entry is released, and whether it is late. -/
def releaseAt (stamp arrived : Nat) : Nat × Bool :=
  if arrived < stamp + 24 then (stamp + 24, false) else (arrived + 1, true)
/-- Whether the boundary of a cycle F_b is applied, and its period number (R316, R638). -/
def boundaryPeriod (m : Kz) (fb : Nat) : Option Nat :=
  if m.stats.due.any (fun d => d.1 = fb) then (if tooSoon m fb then none else some m.stats.period)
  else if m.stats.lastFb = some fb then some m.stats.ended else none
/-- A released fast command acts in a region. -/
def actCmd (m : Kz) (k stamp : Nat) (c : LaneCmd) (a : Option LaneAccept) : Kz :=
  match c.code, a with
  | 1, some a =>
    if a.ser < (m.rgn k).err.answered then m
    else
      let e := accEntry m k c a
      let r := takeAccept m k e
      if e.owing = 0 then r.1.modAcq k (fun x => { x with mirror := x.mirror.filter (fun y => y.ser != e.ser) })
      else if r.2 then regionFatal r.1 k 4 else r.1
  | 5, _ => m.eachChan k (fun m x => calInject m x c.data (c.edge / 1024))
  | 6, _ => if m.inRun k then firePeriodic m k c.edge else m
  | 7, _ => match boundaryPeriod m (stamp + 24) with | some p => accCut m k c.edge p | none => m
  | n, _ =>
    if 16 ≤ n && n ≤ 31 && m.inRun k then
      (chansOf k (m.fld F.ENG_CTRL.EN k)).foldl (fun m x =>
        m.modEng x (fun g => { g with user := some (n * 256 + c.data, c.bcn % 65536) })) m
    else m
/-- A released entry's contents act in a region (R29, R36, R629). -/
def actIn (m : Kz) (k : Nat) (e : InEntry) : Kz :=
  if (m.rgn k).err.restarting then
    match e.cmd, e.accept with
    | some c, some a =>
      if a.ser < (m.rgn k).err.answered then m
      else
        let x := accEntry m k c a
        (recoveredStubs m k x).modAcq k (fun y => { y with mirror := y.mirror.filter (fun z => z.ser != x.ser) })
    | _, _ => m
  else
    let m := match e.cmd with | some c => actCmd m k e.stamp c e.accept | none => m
    let m := e.xtrig.foldl (fun (m : Kz) (p : Nat × Nat) => m.eachChan k (fun m c => fireTrig m c (3 + p.1) p.2 m.fabric)) m
    match e.modPat with
    | some i => m.eachChan k (fun m c => fireTrig m c 2 i m.fabric)
    | none => m
/-- R629, R757: the ACCEPTs of the mirror that a failed run hid from a restarting region, those that no entry still queued carries,
are answered before the entry whose counts showed them. -/
def answerLost (m : Kz) (k stamp : Nat) (queued : List InEntry) : Kz :=
  if (m.rgn k).err.restarting && (m.rgn k).lane.lostBefore = some stamp then
    let known := queued.filterMap (fun e => e.accept.map (fun a => a.ser))
    let lost := (m.rgn k).acq.mirror.filter (fun a => !known.contains a.ser)
    let m := lost.foldl (fun m a => recoveredStubs m k a) m
    (m.modAcq k (fun x => { x with mirror := x.mirror.filter (fun a => known.contains a.ser) })).modLane k
      (fun l => { l with lostBefore := none })
  else m
/-- The oldest hub-to-region entry is released. -/
def releaseIn (m : Kz) (k : Nat) : Kz :=
  match (m.rgn k).lane.inQ with
  | e :: r =>
    match e.arrived with
    | some a =>
      let (at_, late) := releaseAt e.stamp a
      if m.fabric < at_ then m
      else
        let m := m.modLane k (fun l => { l with inQ := r })
        let m := if late then m.count .RGN_XQ_LATE k 1 else m
        let m := if (m.rgn k).lane.earlyAt = some (e.stamp + 24) then
            earlyLatch (m.modLane k (fun l => { l with earlyAt := none })) k else m
        if e.crcOk then
          let m := if e.boundary && late then
              lateLatch (m.modLane k (fun l => { l with unread := l.unread.erase e.stamp })) k else m
          actIn (answerLost m k e.stamp (e :: r)) k e
        else m
    | none => m
  | [] => m
/-- MOD_PATTERN in a fabric cycle: in that of a write still what it held before (R229). -/
def modPattern (m : Kz) (cyc : Nat) (f : Field) : Nat :=
  match m.hub.modOld with
  | some (w, t) => if cyc ≤ t then f.of (BitVec.ofNat 32 w) else m.fld f 0
  | none => m.fld f 0
/-- R229: MOD_PATTERN written. -/
def modPatternWritten (m : Kz) (o : Word) : Kz :=
  m.modHub (fun h => { h with modOld := match h.modOld with
    | some (w, t) => if t = m.fabric then some (w, t) else some (o.toNat, m.fabric)
    | none => some (o.toNat, m.fabric) })
/-- The fabric cycle of the newest region terms, and the terms of the regions of REGION_MASK released in it: one of another stamp is
not in the combination, a late one in that of its release (R28, R200, R201). -/
def termCycle (m : Kz) : Nat := (m.hub.regionTerm.map (fun p => p.2.1)).foldl max 0
def moduleTerms (m : Kz) : List (Bool × Nat) :=
  let cyc := termCycle m
  ((upTo 12).filter (fun k => (modPattern m cyc F.MOD_PATTERN.REGION_MASK).testBit k)).map (fun k =>
    let t := Sparse.get (0, false, 0) m.hub.regionTerm k
    (t.2.1 && t.1 = cyc && m.rstate k != .down, t.2.2))
/-- Whether the combination of those terms is true. -/
def moduleNow (m : Kz) : Bool :=
  let cyc := termCycle m
  let l := moduleTerms m
  modPattern m cyc F.MOD_PATTERN.EN != 0 && !l.isEmpty &&
    (if modPattern m cyc F.MOD_PATTERN.MODE != 0 then l.all (fun p => p.1) else l.any (fun p => p.1))
/-- A region's term released in a cycle; with the first of a cycle the combination of the one before is complete, and where it has
lapsed it may fire again. -/
def setTerm (m : Kz) (k cyc : Nat) (term : Bool) (inst : Nat) : Kz :=
  let m := if termCycle m < cyc then m.modHub (fun h => { h with modState := h.modState && moduleNow m }) else m
  m.modHub (fun h => { h with regionTerm := Sparse.set h.regionTerm k (cyc, term, inst) })
/-- The oldest region-to-hub entry is released: its pattern term, and its feature words (R28, R33, R36, R200). -/
def releaseOut (m : Kz) (k : Nat) : Kz :=
  match (m.rgn k).lane.outQ with
  | e :: r =>
    match e.arrived with
    | some a =>
      let (at_, late) := releaseAt e.stamp a
      if m.fabric < at_ then m
      else
        let m := m.modLane k (fun l => { l with outQ := r })
        let m := if late then m.count .RGN_XQ_LATE k 1 else m
        let dead := !e.crcOk || e.old || (m.rgn k).err.restarting
        let was := (Sparse.get (0, false, 0) m.hub.regionTerm k).2.2
        let m := setTerm m k at_ (e.pattern && !dead) (if dead then was else e.fire.getD was)
        if dead then m
        else e.feats.foldl (fun (m : Kz) (f : Nat × Nat × Nat) =>
          if late then (m.count .MOD_PRIM_LATE 0 1).mark F.MOD_PRIM_STAT.LATE_SEEN (f.2.1 / 24)
          else primWord m f.1 f.2.1 f.2.2 m.fabric) m
    | none => m
  | [] => m
/-- FIXED_LANE_RELEASE. -/
def laneRelease (m : Kz) (k : Nat) (toHub : Bool) : Kz :=
  if m.rstate k = .down then m else if toHub then releaseOut m k else releaseIn m k
/-- REGION_SKEW_CLEAR (R35). -/
def skewClear (m : Kz) (k : Nat) : Kz :=
  if m.spanOpen (.skew k) && decide ((m.rgn k).lane.lowAt + 1000000 ≤ m.now.ns) then
    (m.modLane k (fun l => { l with skewIn := false, skewOut := false })).closeSpan (.skew k)
  else m
/-- R38: RGN_XQ_STAT.CLR. -/
def slackClear (m : Kz) (k : Nat) : Kz := m.modLane k (fun l => { l with minIn := 24, minOut := 24 })

/-! ### Module pattern (R200, R201) -/

/-- MODULE_PATTERN_FIRE: the combination of a cycle turns from false to true and fires with its instant (R200). The hub writes it
towards the regions under a stamp of its own, 24 + 1 + 24 cycles in all (R194, 06_trigger.md), where the table of R26 gives 24
under one stamp (DEDUCED, entry 106). -/
def modulePattern (m : Kz) : Kz :=
  let now := moduleNow m
  let was := m.hub.modState
  let t := ((moduleTerms m).filter (fun p => p.1)).map (fun p => p.2)
  let m := m.modHub (fun h => { h with modState := now })
  if now && !was then
    let i := if modPattern m (termCycle m) F.MOD_PATTERN.MODE != 0 then t.foldl max 0 else t.foldl min (t.headD 0)
    m.modHub (fun h => { h with out := { h.out with modPat := some i } })
  else m

/-- FIXED_LANE_SEND (R29). -/
def execFixedLaneSend (t : Stamp) (d : List Delivered) (s : State) : Host.Outcome State Fault Refusal :=
  s.at_ t (fun m => laneSend m d)
/-- REGION_SKEW_CLEAR (R35). -/
def execRegionSkewClear (t : Stamp) (k : Rgn) (s : State) : Host.Outcome State Fault Refusal := s.at_ t (fun m => skewClear m k)
/-- MODULE_PATTERN_FIRE (R200). -/
def execModulePatternFire (t : Stamp) (s : State) : Host.Outcome State Fault Refusal := s.at_ t modulePattern

end Sys2Proof.Machine
end

