-- ==== Sys2Proof/Machine/Sns.lean ====
section
/-! DEFINITION. The sensor channels: outputs, open and short, impedance check, linearisation (R454 to R486). -/
namespace Sys2Proof.Machine

def sns (m : Kz) (n : Nat) : Sns := Sparse.get {} m.sns n
def modSns (m : Kz) (n : Nat) (f : Sns → Sns) : Kz := { m with sns := Sparse.mod {} m.sns n f }

/-! ### Linearisation (R473, R474, R476) -/

/-- Nearest whole number of `n / d`; a tie goes either way. -/
def roundFree (m : Kz) (n : Int) (d : Nat) : Int × Kz :=
  if 2 * (n % d) = d then let (b, m) := m.free 1; (n / d + (b : Int), m) else (roundUp n d, m)
/-- The scale of the fixed-point logarithms: 2^64. -/
def fx : Int := (2 ^ 64 : Nat)
/-- The inverse hyperbolic tangent of `z`, at scale 2^64, for |z| up to 1/3. -/
def atanhFix (z : Int) : Int :=
  ((upTo 30).foldl (fun (p : Int × Int) (i : Nat) => (p.1 + p.2 / (2 * i + 1 : Nat), p.2 * z / fx * z / fx)) (0, z)).1
/-- The natural logarithm of `x / y`, at scale 2^64; both positive. -/
def lnFix (x y : Nat) : Int :=
  let a := Nat.log2 x
  let b := Nat.log2 y
  let w : Int := (x * 2 ^ 64 * 2 ^ b / (y * 2 ^ a) : Nat)
  ((a : Int) - b) * (2 * atanhFix (fx / 3)) + 2 * atanhFix ((w - fx) * fx / (w + fx))
/-- The largest `h` of `lo ≤ h ≤ hi` with `p h`, where `p lo` holds and `p` once false stays false. -/
def lastOk (p : Int → Bool) : Nat → Int → Int → Int
  | 0, lo, _ => lo
  | f + 1, lo, hi =>
    if lo = hi then lo
    else
      let mid := (lo + hi + 1) / 2
      if p mid then lastOk p f mid hi else lastOk p f lo (mid - 1)
/-- Resistance of a platinum sensor of IEC 60751 at `h` half millikelvins above 0 °C, times 10^15 × 2000^4. -/
def ptR (r0 h : Int) : Int :=
  let d : Int := 2000
  r0 * (1000000000000000 * d ^ 4 + 3908300000000 * h * d ^ 3 - 577500000 * h ^ 2 * d ^ 2 +
    (if h < 0 then -4183 * (h - 100 * d) * h ^ 3 else 0))
/-- Resistance of the 6,180 ppm/K nickel sensor of DIN 43760, times 10^20 × 2000^6. -/
def niR (r0 h : Int) : Int :=
  let d : Int := 2000
  r0 * (100000000000000000000 * d ^ 6 + 548500000000000000 * h * d ^ 5 + 665000000000000 * h ^ 2 * d ^ 4 +
    2805000000 * h ^ 4 * d ^ 2 - 2000 * h ^ 6)
/-- A value of a rising curve given by its resistance at half units: nearest unit, and whether the input is out of
range. -/
def byCurve (f : Int → Int) (r scale lo hi : Int) : Int × Bool :=
  let x := r * scale
  if x < f (2 * lo) then (lo, true)
  else if f (2 * hi) < x then (hi, true)
  else ((lastOk (fun h => decide (f h ≤ x)) 24 (2 * lo) (2 * hi) + 1) / 2, false)
/-- A value in a range, the nearer end outside it. -/
def clampTo (v lo hi : Int) : Int × Bool := if v < lo then (lo, true) else if hi < v then (hi, true) else (v, false)
/-- Temperature, 0.001 °C rounded to nearest, whose reciprocal absolute temperature at scale 2^64 is `q`. -/
def ofRecip (q : Int) (lo hi : Int) : Int × Bool :=
  if q ≤ 0 then (hi, true) else clampTo ((2 * 1000 * fx * fx / (q * fx) + 1) / 2 - 273150) lo hi
/-- The NTC curves: 1/T from ln (R / R25) / β + 1 / 298.15. -/
def ntc (r : Int) (r25 beta : Nat) : Int × Bool :=
  if r ≤ 0 then (-55000, true)
  else ofRecip (lnFix r.toNat r25 / beta + fx * 100 / 29815) (-55000) 150000
/-- A binary32 as its value at scale 2^160; none for an infinity or a value that is no number. -/
def ofFloat (w : Nat) : Option Int :=
  let e := bits w 30 23
  let f := bits w 22 0
  if e = 255 then none
  else
    let mag : Int := if e = 0 then (f * 2 ^ 11 : Nat) else ((f + 2 ^ 23) * 2 ^ (e + 10) : Nat)
    some (if w.testBit 31 then -mag else mag)
/-- A Steinhart-Hart set at R in mΩ: none where a coefficient is no number. -/
def steinhart (m : Kz) (s : Nat) (r : Int) : Option (Int × Bool) :=
  match ofFloat (m.fld F.SNS_SH_A.DATA s), ofFloat (m.fld F.SNS_SH_B.DATA s), ofFloat (m.fld F.SNS_SH_C.DATA s) with
  | some a, some b, some c =>
    if r ≤ 0 then some (-100000, true)
    else
      let l := lnFix r.toNat 1000
      some (ofRecip ((a + b * l / fx + c * l / fx * l / fx * l / fx) / (2 ^ 96 : Nat)) (-100000) 300000)
  | _, _, _ => none
/-- Point `j` of user table `s` (R484): X unsigned, Y two's complement. -/
def tableX (m : Kz) (s j : Nat) : Nat := m.fld F.SNS_TABLE.DATA (64 * s + 2 * j)
def tableY (m : Kz) (s j : Nat) : Int := sext 32 (m.fld F.SNS_TABLE.DATA (64 * s + 2 * j + 1))
/-- A user table at R in mΩ. -/
def userTable (m : Kz) (s : Nat) (r : Int) : (Int × Bool) × Kz :=
  if r ≤ 0 || r < tableX m s 0 then ((tableY m s 0, true), m)
  else match (upTo 31).find? (fun j => decide (r ≤ tableX m s (j + 1))) with
    | some j =>
      let d := tableX m s (j + 1) - tableX m s j
      let (v, m) := roundFree m ((tableY m s (j + 1) - tableY m s j) * (r - tableX m s j)) (max 1 d)
      ((tableY m s j + v, false), m)
    | none => ((tableY m s 31, true), m)
/-- An inverted curve is within 0.001 of the exact value before rounding: the nearest unit or a neighbour in range. -/
def within (m : Kz) (v : Int × Bool) (lo hi : Int) : (Int × Bool) × Kz :=
  let (x, m) := m.free 2
  if v.2 then (v, m) else ((max lo (min hi (v.1 + (x % 3 : Nat) - 1)), false), m)
/-- VALUE and RANGE of an output (R473, R474): `re` and `im` in mΩ. -/
def linearise (m : Kz) (n : Nat) (cfg : Word) (re im : Int) : (Int × Bool) × Kz :=
  let r := re - m.fld F.SNS_LEAD.LEAD_R n
  let u := F.SNS_CFG.USET.of cfg
  let pt (r0 : Int) := within m (byCurve (ptR r0) r (1000000000000000 * 2000 ^ 4) (-200000) 850000) (-200000) 850000
  let nt (r25 beta : Nat) := within m (ntc r r25 beta) (-55000) 150000
  match F.SNS_CFG.CURVE.of cfg with
  | 0 =>
    let z := Nat.sqrt (4 * (re.natAbs ^ 2 + im.natAbs ^ 2))
    (clampTo (((z + 1) / 2 : Nat) : Int) 0 240000000, m)
  | 1 => pt 100000
  | 2 => pt 500000
  | 3 => pt 1000000
  | 4 => within m (byCurve (niR 1000000) r (100000000000000000000 * 2000 ^ 6) (-60000) 180000) (-60000) 180000
  | 5 => nt 10000000 3435
  | 6 => nt 10000000 3977
  | 7 => nt 5000000 3960
  | 8 =>
    if 0 ≤ im then ((0, true), m)
    else
      let num : Int := 1000 * 10 ^ 12 * 10 ^ 15 * 10000
      let den := 2 * 3141592653589793 * 8000 * im.natAbs
      let c := num / den
      within m (clampTo (roundUp (31 * 55000 * 100 + (c - 1800000) * 1000) 3100) 0 100000) 0 100000
  | 9 => userTable m u r
  | _ => match steinhart m u r with
    | some v => within m v (-100000) 300000
    | none => let (x, m) := m.free 33; ((((x / 2 : Nat) : Int), x % 2 = 1), m)

/-! ### Outputs (R459 to R466) -/

/-- Output period, ns, by RATE; excitation period, ns, by FREQ. -/
def snsPeriod (cfg : Word) : Nat :=
  ([1000000000, 500000000, 200000000, 100000000, 50000000, 20000000] : List Nat).getD (F.SNS_CFG.RATE.of cfg) 10000000
def snsExc (cfg : Word) : Nat := 1000000 / 2 ^ F.SNS_CFG.FREQ.of cfg
/-- SNS_STATn (R481). -/
def snsStat (m : Kz) (n : Nat) : Nat :=
  let x := sns m n
  m.seenWord .SNS_STAT n ||| (packFields [(F.SNS_STAT.VALID, b2n x.valid), (F.SNS_STAT.OPEN, b2n x.out.open_),
    (F.SNS_STAT.SHORT, b2n x.out.short), (F.SNS_STAT.SETTLING, b2n x.out.settling), (F.SNS_STAT.RANGE, b2n x.out.range),
    (F.SNS_STAT.CONTACT_WARN, b2n x.contactWarn), (F.SNS_STAT.CHK_SEQ, x.chkSeq), (F.SNS_STAT.SEQ, x.seq)]).toNat
/-- A SENSOR_ALERT notification (R541). -/
def snsAlert (m : Kz) (n : Nat) : Kz := m.notify 4 1 n (be 4 (snsStat m n))
/-- Whether a channel runs (R455). -/
def snsRuns (m : Kz) (n : Nat) : Bool := powered m.pwr.state && F.SNS_CFG.EN.of (sns m n).cfg == 1
/-- A check whose 64 periods have not ended at moment `b` is abandoned (R472): the next one is due once settling has ended. -/
def snsAbandon (m : Kz) (n b : Nat) : Kz :=
  if (sns m n).checking.any (fun e => decide (b < e)) then
    (modSns m n (fun x => { x with checking := none, chkDue := true })).mark F.SNS_STAT.CHK_ABANDON_SEEN n
  else m
/-- The configuration written takes effect at a boundary (R462, R463). -/
def snsApply (m : Kz) (n : Nat) : Kz :=
  let o := (sns m n).cfg
  let w := m.cfgWord .SNS_CFG n
  if o = w then m
  else
    let m := snsAbandon m n (sns m n).last
    let en := F.SNS_CFG.EN.of w = 1
    let fresh := en && F.SNS_CFG.EN.of o = 0
    let m := modSns m n (fun x => { x with cfg := w })
    if fresh then
      modSns m n (fun x => { x with settle := 4, valid := false, seq := 0, open_ := false, short := false, out := {},
                                    chkBase := x.last, chkDue := false, forming := none, spoiled := false, sums := [] })
    else if !en then modSns m n (fun x => { x with forming := none, spoiled := false, open_ := false, chkDue := false })
    else if F.SNS_CFG.FREQ.of o ≠ F.SNS_CFG.FREQ.of w || F.SNS_CFG.AMPL.of o ≠ F.SNS_CFG.AMPL.of w ||
        F.SNS_CFG.RATE.of o ≠ F.SNS_CFG.RATE.of w then modSns m n (fun x => { x with settle := 4 })
    else m
/-- Whether a check may start at a boundary (R467). -/
def snsClear (x : Sns) : Bool := !x.open_ && !x.out.open_ && !x.short && !x.out.settling && x.settle == 0
/-- Whether a check has fallen due by the last boundary (R467, R472). -/
def snsDue (m : Kz) (n : Nat) : Bool :=
  let x := sns m n
  let i := m.fld F.SNS_CHK.CHK_INT n
  i != 0 && (x.chkDue || decide (x.chkBase + i * 1000000000 ≤ x.last))
/-- SNS_BOUNDARY: an output-period boundary; `peak` is the peak differential voltage of the period before it, mV. -/
def snsBoundary (m : Kz) (n peak : Nat) : Kz :=
  let x := sns m n
  let b := x.last + snsPeriod x.cfg
  if !powered m.pwr.state || m.now.ns < b then m
  else
    let m := modSns m n (fun x => { x with last := b })
    let m := if F.SNS_CFG.EN.of x.cfg = 1 then
        modSns m n (fun x => { x with
          forming := some ⟨b + 2 * snsExc x.cfg + 1000000, x.open_ || x.spoiled, x.settle != 0⟩, spoiled := false,
          settle := x.settle - 1 })
      else m
    let clear := snsClear (sns m n) && x.settle == 0
    let m := snsApply m n
    let x := sns m n
    if snsRuns m n && snsDue m n && clear && snsClear x && x.checking.isNone then
      let m := modSns m n (fun x => { x with chkDue := false, chkBase := b })
      if 1800 < peak then m.count .SNS_CHK_SKIP 0 1
      else modSns m n (fun x => { x with checking := some (b + 64 * snsExc x.cfg) })
    else m
/-- R460: the sums of four output periods, newest first, weighted 1, 3, 3 and 1: in mΩ from µΩ, a broken value rounded either way. -/
def snsWeigh (m : Kz) (l : List Int) : Int × Kz :=
  let s := l.getD 0 0 + 3 * l.getD 1 0 + 3 * l.getD 2 0 + l.getD 3 0
  if s % 8000 = 0 then (s / 8000, m) else let (up, m) := m.free 1; (s / 8000 + (up : Nat), m)
/-- The sums with those of one more period. -/
def snsSums (x : Sns) (re im : Int) : List (Int × Int) := ((re, im) :: x.sums).take 4
/-- SNS_OUTPUT_PUBLISH: the output of the last boundary, with the demodulated impedance of the period that ended there, µΩ. -/
def snsPublish (m : Kz) (n : Nat) (re im : Int) : Kz :=
  let x := sns m n
  match x.forming with
  | none => m
  | some p =>
    if !snsRuns m n || m.now.ns < p.due then m
    else
      let l := snsSums x re im
      let m := modSns m n (fun x => { x with forming := none, seq := (x.seq + 1) % 65536, sums := l })
      if p.open_ || p.settling then
        modSns m n (fun x => { x with out := { x.out with open_ := p.open_, settling := p.settling, short := x.short } })
      else
        let (re, m) := snsWeigh m (l.map (fun p => p.1))
        let (im, m) := snsWeigh m (l.map (fun p => p.2))
        let re := satS 32 re
        let im := satS 32 im
        let short := decide (re.natAbs ^ 2 + im.natAbs ^ 2 < 1000000)
        let (v, m) := linearise m n x.cfg re im
        let held := short && F.SNS_CFG.CURVE.of x.cfg != 0
        let m := modSns m n (fun x => { x with
          short := short, valid := x.valid || !held,
          out := if held then { x.out with open_ := false, settling := false, short := true }
            else { open_ := false, settling := false, short := short, range := v.2, value := toU 32 v.1, re := re, im := im } })
        if short && !x.short then snsAlert (m.mark F.SNS_STAT.SHORT_SEEN n) n else m
/-- SNS_OPEN (R464). -/
def snsOpen (m : Kz) (n : Nat) : Kz :=
  if snsRuns m n && !(sns m n).open_ then
    let m := modSns m n (fun x => { x with
      open_ := true, spoiled := x.forming.isNone, forming := x.forming.map (fun p => { p with open_ := true }) })
    let m := snsAbandon ((m.mark F.SNS_STAT.OPEN_SEEN n).count .SNS_OPEN_COUNT 0 1) n m.now.ns
    snsAlert m n
  else m
/-- SNS_OPEN_CLEAR (R465). -/
def snsOpenClear (m : Kz) (n : Nat) : Kz :=
  if (sns m n).open_ then modSns m n (fun x => { x with open_ := false, settle := 4 }) else m

/-! ### Impedance check (R467 to R472) -/

/-- SNS_CHECK_DUE. -/
def snsCheckDue (m : Kz) (n : Nat) : Kz :=
  let i := m.fld F.SNS_CHK.CHK_INT n
  if snsRuns m n && i != 0 && decide ((sns m n).chkBase + i * 1000000000 ≤ m.now.ns) then
    modSns m n (fun x => { x with chkDue := true }) else m
/-- SNS_CHECK_DONE: the impedances at the test tone and at the excitation, mΩ. -/
def snsCheckDone (m : Kz) (n : Nat) (tr ti er ei : Int) : Kz :=
  let x := sns m n
  match x.checking with
  | none => m
  | some b =>
    if m.now.ns < b then m
    else
      let c := satS 16 (tr - er)
      let (up, m) := m.free 1
      let num := 6 * ti - 4 * ei
      let l := satS 16 (num / 5 + if num % 5 = 0 then 0 else up)
      let thr := m.fld F.SNS_CHK.CONTACT_THR n
      let warn := thr != 0 && decide (thr < c.natAbs)
      let m := modSns m n (fun x => { x with
        checking := none, chkSeq := (x.chkSeq + 1) % 16, contact := c, leadX := l, contactWarn := warn })
      if warn && !x.contactWarn then snsAlert (m.mark F.SNS_STAT.CONTACT_SEEN n) n else m

/-! ### Writes and reads -/

/-- The checks of a write to SNS_CFGn (R457, R459, R473, R475, R476). -/
def snsCfgCheck (m : Kz) (w : Word) : Option Status :=
  let a := F.SNS_CFG.AMPL.of w
  let cv := F.SNS_CFG.CURVE.of w
  let u := F.SNS_CFG.USET.of w
  if a = 0 || 100 < a || F.SNS_CFG.RATE.of w = 7 || 10 < cv || (cv = 8 && (F.SNS_CFG.FREQ.of w ≠ 3 || a ≠ 1)) ||
    (cv = 9 && (upTo 31).any (fun j => decide (tableX m u (j + 1) ≤ tableX m u j))) then some .badValue else none
/-- R476: whether an enabled channel uses a set through a curve. -/
def snsInUse (m : Kz) (curve set_ : Nat) : Bool :=
  let uses (w : Word) : Bool := F.SNS_CFG.EN.of w = 1 && F.SNS_CFG.CURVE.of w = curve && F.SNS_CFG.USET.of w = set_
  (upTo 24).any (fun n => uses (m.cfgWord .SNS_CFG n) || uses (sns m n).cfg)
/-- R461: a read of SNS_STATn latches the output. -/
def snsLatch (m : Kz) (n : Nat) : Kz := modSns m n (fun x => { x with latch := x.out })

/-- SNS_BOUNDARY (R460). -/
def execSnsBoundary (t : Stamp) (n : Fin 24) (peak : Nat) (s : State) : Host.Outcome State Fault Refusal :=
  s.at_ t (fun m => snsBoundary m n peak)
/-- SNS_OUTPUT_PUBLISH (R460). -/
def execSnsOutputPublish (t : Stamp) (n : Fin 24) (re im : Int) (s : State) : Host.Outcome State Fault Refusal :=
  s.at_ t (fun m => snsPublish m n re im)
/-- SNS_OPEN (R464). -/
def execSnsOpen (t : Stamp) (n : Fin 24) (s : State) : Host.Outcome State Fault Refusal := s.at_ t (fun m => snsOpen m n)
/-- SNS_OPEN_CLEAR (R465). -/
def execSnsOpenClear (t : Stamp) (n : Fin 24) (s : State) : Host.Outcome State Fault Refusal := s.at_ t (fun m => snsOpenClear m n)
/-- SNS_CHECK_DUE (R467). -/
def execSnsCheckDue (t : Stamp) (n : Fin 24) (s : State) : Host.Outcome State Fault Refusal := s.at_ t (fun m => snsCheckDue m n)
/-- SNS_CHECK_DONE (R470). -/
def execSnsCheckDone (t : Stamp) (n : Fin 24) (tr ti er ei : Int) (s : State) : Host.Outcome State Fault Refusal :=
  s.at_ t (fun m => snsCheckDone m n tr ti er ei)

end Sys2Proof.Machine
end

