-- ==== Sys2Proof/Machine/Hk.lean ====
section
/-! DEFINITION. The housekeeping converters: traverses, window comparators, cross-check, urgent conversions
(R486 to R517). A converter is 0 = HKA, 1 = HKB. -/
namespace Sys2Proof.Machine

def hkConv (m : Kz) (c : Nat) : HkConv := if c = 0 then m.hk.a else m.hk.b
def modHk (m : Kz) (f : Housekeeping → Housekeeping) : Kz := { m with hk := f m.hk }
def modConvHk (m : Kz) (c : Nat) (f : HkConv → HkConv) : Kz :=
  modHk m (fun h => if c = 0 then { h with a := f h.a } else { h with b := f h.b })
/-- The field of converter `c` of a pair of fields. -/
def hkOf (c : Nat) (a b : Field) : Field := if c = 0 then a else b
/-- Duration of a conversion, ns (R486). -/
def hkTime (ts : Nat) : Nat := 250 * 2 ^ ts + 250
/-- The code of a conversion and OVR (R487), from input and reference voltage in nV; with no reference voltage the code
is left open. -/
def hkCode (m : Kz) (gain vin vref : Nat) : (Nat × Bool) × Kz :=
  if vref = 0 then let (x, m) := m.free 14; ((x, x = 0 || x = 16383), m)
  else let x := min 16383 (vin * 2 ^ gain * 16384 / vref); ((x, x = 0 || x = 16383), m)
/-- BUSY (R504). -/
def hkBusy (m : Kz) (c : Nat) : Bool := (hkConv m c).running || (hkConv m c).urgent.isSome
/-- The start of an entry or slot at moment `b`: its sampling begins. -/
def hkBegin (m : Kz) (c e b : Nat) : Kz :=
  modConvHk m c (fun x => { x with entry := e, start := b, unsettled := !x.settled })
/-- R495: a traverse starts at moment `b` and latches; `cold` tells a start by RUN or RESTART (R499). -/
def hkTraverse (m : Kz) (c : Nat) (cold : Bool) (b : Nat) : Kz :=
  let x := m.cfgWord .HK_XCHK_CFG 0
  let changed := decide ((hkConv m c).xchk ≠ x)
  let m := modConvHk m c (fun h => { h with
    running := true, restartDue := false, tseq := (h.tseq + 1) % 256, xchk := x,
    len := m.fld (hkOf c F.HK_CTRL.LEN_A F.HK_CTRL.LEN_B) 0, refMv := m.fld F.HK_REF_EXT.REF_EXT_MV 0,
    ents := (upTo 16).map (fun e => m.cfgWord (if c = 0 then .HK_A_ENT else .HK_B_ENT) e),
    wins := (upTo 16).map (fun e => m.cfgWord (if c = 0 then .HK_A_WIN else .HK_B_WIN) e),
    fresh := if cold then 0xFFFF else h.fresh })
  let m := if changed then modHk m (fun h => { h with run := 0 }) else m
  hkBegin m c 0 b
/-- R495, R497: what follows the end of an entry at moment `b`, with no gap: a change of reference, a stop, a restart, the next entry. -/
def hkEnd (m : Kz) (c b : Nat) : Kz :=
  let r := m.fld (hkOf c F.HK_CTRL.REF_A F.HK_CTRL.REF_B) 0
  let m := if (hkConv m c).ref = r then m
    else modConvHk m c (fun x => { x with ref := r, settled := false, refFrom := b })
  let x := hkConv m c
  if x.stopDue then
    let m := modConvHk m c (fun x => { x with running := false, stopDue := false, restartDue := false })
    if m.on (hkOf c F.HK_CTRL.RUN_A F.HK_CTRL.RUN_B) 0 then hkTraverse m c true b else m
  else if x.restartDue then hkTraverse m c true b
  else if x.entry = 16 then hkTraverse m c false b
  else if x.entry < x.len then hkBegin m c (x.entry + 1) b
  else hkBegin m c 16 b
/-- A result register (R508). -/
def HkRes.word (r : HkRes) : Nat :=
  r.tseq <<< 24 ||| b2n r.valid <<< 23 ||| b2n r.unsettled <<< 22 ||| b2n r.ovr <<< 21 ||| b2n r.outside <<< 20 ||| r.code
/-- The nominal reference of a converter, µV (R501). -/
def hkNominal (x : HkConv) : Nat := match x.ref with | 0 => 2500000 | 1 => x.refMv * 1000 | _ => 1800000
/-- R654, R656: a settled reading of a benchmark reference against REF 0, for the hour's mean. -/
def benchReading (m : Kz) (r : HkRes) : Kz :=
  let i := F.HK_A_ENT.INPUT.of r.ent
  if !r.unsettled && r.ref == 0 && decide (0x32 ≤ i) && decide (i ≤ 0x3D) && decide (m.rstate (i - 0x32) ≠ .down) then
    modRAge m (i - 0x32) (fun a => { a with
      benchSum := a.benchSum + r.code * 8 / 2 ^ F.HK_A_ENT.GAIN.of r.ent, benchCount := a.benchCount + 1 })
  else m
/-- HK_CONVERSION_DONE: the conversion of the present entry completes (R498, R499). -/
def hkDone (m : Kz) (c vin vref : Nat) : Kz :=
  let x := hkConv m c
  let e := x.entry
  let w := x.ents.getD e 0
  let b := x.start + hkTime (F.HK_A_ENT.TS.of w)
  if !x.running || e = 16 || m.now.ns < b then m
  else
    let ((code, ovr), m) := hkCode m (F.HK_A_ENT.GAIN.of w) vin vref
    let old : HkRes := Sparse.get {} x.res e
    let win := x.wins.getD e 0x3FFF0000
    let out := decide (code < F.HK_A_WIN.LO.of win) || decide (F.HK_A_WIN.HI.of win < code)
    let was := old.outside && !x.fresh.testBit e
    let r : HkRes := ⟨x.tseq, true, x.unsettled, ovr, if x.unsettled then old.outside else out, code, w,
      b, hkNominal x, x.ref⟩
    let m := modConvHk m c (fun x => { x with res := Sparse.set x.res e r, fresh := withBit x.fresh e false })
    let m := benchReading m r
    let m := if x.unsettled then m.mark F.HK_STAT.UNSETTLED_SEEN 0
      else if out && !was then
        let m := m.markBit (hkOf c F.HK_WIN_STAT.OUT_SEEN_A F.HK_WIN_STAT.OUT_SEEN_B) 0 e
        let (kind, m) := m.free 8
        m.notify 5 kind (c * 16 + e) (be 4 r.word)
      else m
    hkEnd m c b
/-- HK_XCHK_RES (R514). -/
def xchkRes (m : Kz) : Nat :=
  (packFields [(F.HK_XCHK_RES.DIFF, toU 16 m.hk.diff), (F.HK_XCHK_RES.CMP_SEQ, m.hk.cmpSeq),
    (F.HK_XCHK_RES.MISMATCH_RUN, m.hk.run)]).toNat
/-- R502: a comparison of the two converters, under the configuration latched by the one that completes. -/
def hkCompare (m : Kz) (cfg : Word) : Kz :=
  let d : Int := (m.hk.a.slot : Int) - m.hk.b.slot
  let (q, m) := roundFree m d (16384 * 10)
  let bad := decide (F.HK_XCHK_CFG.THR.of cfg * 10 * 16384 < d.natAbs)
  let run := if bad then min 15 (m.hk.run + 1) else 0
  let trip := bad && decide (max 1 (F.HK_XCHK_CFG.CONSEC.of cfg) ≤ run) && !m.hk.plaus
  let m := modHk m (fun h => { h with
    diff := satS 16 q, cmpSeq := (h.cmpSeq + 1) % 256, run := run, plaus := bad && (h.plaus || trip),
    a := { h.a with slotNew := false }, b := { h.b with slotNew := false } })
  if trip then
    let m := (m.mark F.HK_STAT.PLAUS_SEEN 0).count .HK_XCHK_FAILS 0 1
    (m.logE 0x0801 0 0 0 0 (xchkRes m)).notify 6 0 0 (be 4 (xchkRes m))
  else m
/-- HK_XCHK_DONE: a cross-check slot completes. -/
def hkSlot (m : Kz) (c vin vref : Nat) : Kz :=
  let x := hkConv m c
  let b := x.start + hkTime (F.HK_XCHK_CFG.TS.of x.xchk)
  if !x.running || x.entry ≠ 16 || m.now.ns < b then m
  else
    let ((code, _), m) := hkCode m 0 vin vref
    let m := if x.unsettled then m.mark F.HK_STAT.UNSETTLED_SEEN 0
      else
        let m := modConvHk m c (fun x => { x with slot := code * hkNominal x, slotNew := true })
        if m.hk.a.running && m.hk.b.running && m.hk.a.slotNew && m.hk.b.slotNew then hkCompare m x.xchk else m
    hkEnd m c b

/-! ### Writes (R490 to R492, R496, R497, R504) -/

/-- The checks of a write to HK_CTRL, to an entry, to a window, to HK_XCHK_CFG and to HK_REF_EXT. -/
def hkCtrlCheck (w : Word) : Option Status :=
  if F.HK_CTRL.REF_A.of w = 3 || F.HK_CTRL.REF_B.of w = 3 then some .badValue else none
def hkEntCheck (w : Word) : Option Status := if 0x44 ≤ F.HK_A_ENT.INPUT.of w then some .badValue else none
def hkWinCheck (w : Word) : Option Status := if F.HK_A_WIN.HI.of w < F.HK_A_WIN.LO.of w then some .badValue else none
def hkXchkCheck (w : Word) : Option Status := if 0x44 ≤ F.HK_XCHK_CFG.INPUT.of w then some .badValue else none
def hkRefExtCheck (w : Word) : Option Status :=
  if F.HK_REF_EXT.REF_EXT_MV.of w < 1000 || 2600 < F.HK_REF_EXT.REF_EXT_MV.of w then some .badValue else none
/-- The effect of a write to HK_CTRL on one converter; `o` is what it held. -/
def hkCtrlConv (m : Kz) (c : Nat) (o w : Word) : Kz :=
  let run := hkOf c F.HK_CTRL.RUN_A F.HK_CTRL.RUN_B
  let ref := hkOf c F.HK_CTRL.REF_A F.HK_CTRL.REF_B
  let buf := hkOf c F.HK_CTRL.REFBUF_EN_A F.HK_CTRL.REFBUF_EN_B
  let res := hkOf c F.HK_CTRL.RESTART_A F.HK_CTRL.RESTART_B
  let m := if ref.of o ≠ ref.of w || buf.of o ≠ buf.of w then
      modConvHk m c (fun x => { x with
        settled := false, refFrom := m.now.ns, ref := if x.running then x.ref else ref.of w })
    else m
  let x := hkConv m c
  if x.running then
    modConvHk m c (fun x => { x with
      stopDue := x.stopDue || run.of w = 0, restartDue := x.restartDue || (res.of w = 1 && run.of w = 1) })
  else if run.of w = 1 && x.urgent.isNone then hkTraverse m c true m.now.ns
  else m
def hkCtrlWritten (m : Kz) (o w : Word) : Kz := hkCtrlConv (hkCtrlConv m 0 o w) 1 o w
/-- HK_REF_SETTLED (R492). -/
def hkRefSettled (m : Kz) (c : Nat) : Kz :=
  let x := hkConv m c
  if m.on (hkOf c F.HK_CTRL.REFBUF_EN_A F.HK_CTRL.REFBUF_EN_B) 0 && decide (x.refFrom + 2000000 ≤ m.now.ns) &&
      x.ref == m.fld (hkOf c F.HK_CTRL.REF_A F.HK_CTRL.REF_B) 0 then
    modConvHk m c (fun x => { x with settled := true }) else m
/-- R504, R515: a write to HK_URGENT; the answer is none where it is accepted. -/
def hkUrgent (m : Kz) (w : Word) : Option Status × Kz :=
  let c := F.HK_URGENT.CONV.of w
  if 0x44 ≤ F.HK_URGENT.INPUT.of w then (some .badValue, m)
  else if F.HK_URGENT.GO.of w = 0 then (none, m)
  else if hkBusy m c then
    (some .urgentDropped, (m.count .HK_URGENT_DROPPED 0 1).mark F.HK_STAT.URGENT_DROP_SEEN 0)
  else (none, modConvHk m c (fun x => { x with urgent := some ⟨w, !x.settled, m.now.ns⟩ }))
/-- HK_URGENT_DONE. -/
def hkUrgentDone (m : Kz) (c vin vref : Nat) : Kz :=
  match (hkConv m c).urgent with
  | none => m
  | some u =>
    let b := u.start + hkTime (F.HK_URGENT.TS.of u.req)
    if m.now.ns < b then m
    else
      let ((code, ovr), m) := hkCode m (F.HK_URGENT.GAIN.of u.req) vin vref
      let m := modConvHk m c (fun x => { x with urgent := none })
      let m := modHk m (fun h => { h with
        useq := (h.useq + 1) % 256, uconv := c, uunset := u.unsettled, uovr := ovr, ucode := code })
      let m := if u.unsettled then m.mark F.HK_STAT.UNSETTLED_SEEN 0 else m
      if m.on (hkOf c F.HK_CTRL.RUN_A F.HK_CTRL.RUN_B) 0 then hkTraverse m c true b else m

/-- HK_REF_SETTLED (R492). -/
def execHkRefSettled (t : Stamp) (c : Fin 2) (s : State) : Host.Outcome State Fault Refusal := s.at_ t (fun m => hkRefSettled m c)
/-- HK_CONVERSION_DONE (R498). -/
def execHkConversionDone (t : Stamp) (c : Fin 2) (vin vref : Nat) (s : State) : Host.Outcome State Fault Refusal :=
  s.at_ t (fun m => hkDone m c vin vref)
/-- HK_XCHK_DONE (R502). -/
def execHkXchkDone (t : Stamp) (c : Fin 2) (vin vref : Nat) (s : State) : Host.Outcome State Fault Refusal :=
  s.at_ t (fun m => hkSlot m c vin vref)
/-- HK_URGENT_DONE (R504). -/
def execHkUrgentDone (t : Stamp) (c : Fin 2) (vin vref : Nat) (s : State) : Host.Outcome State Fault Refusal :=
  s.at_ t (fun m => hkUrgentDone m c vin vref)

end Sys2Proof.Machine
end

