-- ==== Sys2Proof/Machine/Ageing.lean ====
section
/-! DEFINITION. Ageing monitors and policy actions (R654 to R663, R669 to R673). -/
namespace Sys2Proof.Machine

/-! ### Monitors -/

/-- AGE_RO_MEASURE (R654): the degradation of a region's ring-oscillator pair, ppm. -/
def ageRo (m : Kz) (k pair : Nat) (ppm : Int) : Kz :=
  if !powered m.pwr.state || m.rstate k = .down then m
  else modRAge m k (fun a => { a with deg := a.deg.zipIdx.map (fun p => if p.2 = pair then ppm else p.1) })
/-- The largest degradation of a region's pairs, and the lowest pair with it (R673). -/
def worstPair (m : Kz) (k : Nat) : Int × Nat :=
  let d := (m.rgn k).age.deg
  let w := d.foldl max (d.headD 0)
  (w, ((d.zipIdx.find? (fun p => p.1 = w)).map (fun p => p.2)).getD 0)
/-- VMIN_TEST (R654, R655): the lowest passing step, mV; none where the test was abandoned. -/
def vminTest (m : Kz) (k : Nat) (mv : Option Nat) : Kz :=
  if !powered m.pwr.state || m.rstate k = .down then m
  else if 128 ≤ bankSum m k + avgBanks m k then modRAge m k (fun a => { a with noVmin := true })
  else
    let m := modRAge m k (fun a => { a with noVmin := false })
    match mv with
    | some v => modRAge m k (fun a => { a with
        vmin := v, vminMin := if a.vminMax = 0 then v else min a.vminMin v, vminMax := max a.vminMax v })
    | none => m
/-- R656: the newest settled result of an input that is at most 10 min old; with `ref0`, made with REF 0. -/
def usable (m : Kz) (input : Nat) (ref0 : Bool) : Option HkRes :=
  let l := (m.hk.a.res ++ m.hk.b.res).map (fun p => p.2)
  (l.filter (fun r => r.valid && !r.unsettled && F.HK_A_ENT.INPUT.of r.ent == input && (!ref0 || r.ref == 0) &&
    decide (m.now.ns ≤ r.at_ + 600000000000))).foldl
      (fun a r => match a with | some b => if b.at_ < r.at_ then some r else a | none => some r) none
/-- The dose of sensor `i` (die × 2 + sensor), Gy. -/
def doseOf (m : Kz) (i : Nat) : Option Nat :=
  (usable m (0x28 + i) false).map (fun r =>
    Config.doseCurve i (r.code * r.nominal * 1000 / (16384 * 2 ^ F.HK_A_ENT.GAIN.of r.ent)))
/-- R656, R657: the hourly dose of a die. -/
def doseHour (m : Kz) (d : Nat) : Kz :=
  let a := doseOf m (2 * d)
  let b := doseOf m (2 * d + 1)
  let keep (m : Kz) (i : Nat) (v : Option Nat) : Kz :=
    match v with | some x => modAge m (fun g => { g with doseBy := Sparse.set g.doseBy i x }) | none => m
  let m := keep (keep m (2 * d) a) (2 * d + 1) b
  let src := match a, b with
    | some x, y => if x ≤ 10000 then some (0, x) else y.map (fun v => (1, v))
    | none, _ => none
  let m := if a.isNone || b.isNone then m.mark F.MOD_AGE_STAT.HK_MISSING_SEEN 0 else m
  modAge m (fun g => { g with dose := g.dose.zipIdx.map (fun p =>
    if p.2 = d then (match src with | some x => x | none => (2, p.1.2)) else p.1) })
/-- R656, R658: the hourly benchmark mean of a region. -/
def benchHour (m : Kz) (k : Nat) : Kz :=
  if m.rstate k = .down then m
  else
    let g := (m.rgn k).age
    let m := modRAge m k (fun a => { a with benchSum := 0, benchCount := 0 })
    if (usable m (0x32 + k) true).isNone || g.benchCount = 0 then m.mark F.MOD_AGE_STAT.HK_MISSING_SEEN 0
    else
      let num := g.benchSum * 2500000
      let den := 8 * 16384 * g.benchCount
      let (mean, m) := roundFree m num den
      modRAge m k (fun a => { a with
        bench := mean.toNat, benchDrift := decide (num < 1196400 * den) || decide (1203600 * den < num) })
/-- AGE_HOURLY: doses, benchmark means, and the heater power in WARM since the last summary (mean, least, greatest). -/
def ageHourly (m : Kz) (heat : Option (Nat × Nat × Nat)) : Kz :=
  if !powered m.pwr.state then m
  else
    let m := (upTo 5).foldl doseHour m
    let m := m.eachRgn benchHour
    match heat with
    | some (a, b, c) => modAge m (fun g => { g with heatMean := a, heatMin := b, heatMax := c })
    | none => m
/-- R659: whether a tuning word lies within 10 % of an end of the range. -/
def nearEnd (x : Nat) : Bool :=
  let span := Config.tuneHigh - Config.tuneLow
  decide (10 * x < 10 * Config.tuneLow + span) || decide (10 * Config.tuneHigh < 10 * x + span)
/-- AGE_DAILY: tuning words of the synthesiser and of the fabric PLLs (lowest, highest), and the hearth's deviation,
0.001 ppb, where it was measured (R654). -/
def ageDaily (m : Kz) (syn : Nat × Nat) (plls : List (Nat × Nat)) (dev : Option Int) : Kz :=
  if !powered m.pwr.state then m
  else
    let m := modAge m (fun g => { g with synMin := syn.1, synMax := syn.2 })
    let m := plls.zipIdx.foldl (fun (m : Kz) (p : (Nat × Nat) × Nat) =>
      if 12 ≤ p.2 || m.rstate p.2 = .down then m
      else modRAge m p.2 (fun a => { a with
        pllMin := p.1.1, pllMax := p.1.2, pllMargin := nearEnd p.1.1 || nearEnd p.1.2 })) m
    match dev with
    | some d => if tmode m = 0 && m.tb.tb = .tracking && m.tb.oven = .warm then
        modAge m (fun g => { g with hearthDev := d, devNew := true }) else m
    | none => m

/-! ### Policy actions (R660, R663) -/

/-- Whether the policy acts: pair 1 runs, in a powered module (R557, R663). -/
def policyRuns (m : Kz) : Bool := powered m.pwr.state && !m.sup.restarting1
/-- A policy write of a voted register, which counts as a configuration change (R727). -/
def policyWrite (m : Kz) (f : Field) (i v : Nat) : Kz :=
  let m := m.setFld f i v
  { m with regs := { m.regs with cfgGen := (m.regs.cfgGen + 1) % 2 ^ 32 } }
/-- The rail target that the rule of R660 computes, mV; none while no VMIN has been measured. -/
def railRule (m : Kz) (k : Nat) : Option Nat :=
  let a := (m.rgn k).age
  if a.noVmin then some (max 0 (750 + 5 * (((worstPair m k).1 + 1999) / 2000))).toNat
  else if a.vmin = 0 then none
  else some ((a.vmin + m.fld F.MOD_AGE_CTRL.GUARD_MV 0 + 4) / 5 * 5)
/-- The multiple of 5 mV inside the limits and the spread that lies nearest to a target. -/
def railInside (m : Kz) (k target : Nat) : Option Nat :=
  let dist (v : Nat) : Nat := max v target - min v target
  ((upTo 27).map (fun i => 720 + 5 * i)).foldl (fun a v =>
    if (spreadFrom m k v).isSome then a
    else match a with | some b => if dist v < dist b then some v else a | none => some v) none
/-- POLICY_RAIL. -/
def policyRail (m : Kz) (k : Nat) : Kz :=
  let st := m.rstate k
  let live := (st = .idle || st = .cal || st = .run) && !(m.rgn k).err.restarting && policyRuns m
  if !live || !m.on F.MOD_AGE_CTRL.EN_RAIL 0 || m.seen F.RGN_AGE_STAT.OVR_RAIL k != 0 then m
  else match railRule m k with
  | none => m
  | some t =>
    let want := max 720 (min 850 t)
    let m := modRAge m k (fun a => { a with
      marginLow := decide (850 < t), railLimited := decide (railInside m k want ≠ some want) })
    match railInside m k want with
    | none => m
    | some v =>
      let o := m.cfgWord .RGN_RAIL k
      let at_ := m.fld F.RGN_RAIL.TARGET_MV k
      let next := if at_ < v then min v (at_ + 5) else max v (at_ - 5)
      let w := BitVec.ofNat 32 (F.RGN_RAIL.TARGET_MV.put next)
      if next = at_ || (railCheck m k w).isSome then m
      else railWritten (policyWrite m F.RGN_RAIL.TARGET_MV k next) k o
/-- POLICY_STEP: the largest offset and gain rates of the last 10 s, in 10^-6 code/s and 10^-6 %/s. -/
def policyStep (m : Kz) (k ro rg : Nat) : Kz :=
  if !policyRuns m || !m.inRun k || (m.rgn k).err.restarting || !m.on F.MOD_AGE_CTRL.EN_STEP 0 ||
      m.seen F.RGN_AGE_STAT.OVR_STEP k != 0 then m
  else
    let n := (chansOf k 0xFFFF).foldl (fun a c => max a (slicesOf (m.chan c).conv.effMode)) 0
    -- T_cal / (N + 1) in 100 µs as a fraction: the smaller of 2·10^8 / ro and 2·10^7 / rg
    let (p, q) := if ro = 0 && rg = 0 then (200 * (n + 1), 1)
      else if 2 * 10 ^ 8 * rg < 2 * 10 ^ 7 * ro then (2 * 10 ^ 8, ro) else (2 * 10 ^ 7, rg)
    let d := q * (n + 1)
    let (up, m) := m.free 1
    let v := max 5 (min 200 (p / d + if p % d = 0 then 0 else up))
    if m.fld F.RGN_ROT_CTRL.STEP k = v then m else policyWrite m F.RGN_ROT_CTRL.STEP k v
/-- POLICY_OVEN: the mean heater power in WARM over 1 h and over 24 h, mW, where there is one. -/
def policyOven (m : Kz) (mean1 mean24 : Option Nat) : Kz :=
  if !policyRuns m || !m.on F.MOD_AGE_CTRL.EN_OVEN 0 || m.seen F.MOD_AGE_STAT.OVR_OVEN 0 != 0 then m
  else
    let twice := match m.age.unregAt with | _ :: b :: _ => decide (m.now.ns ≤ b + 86400000000000) | _ => false
    let now := if twice || mean1.any (fun x => decide (x < 100)) then 1
      else if mean24.any (fun x => decide (3000 < x)) then 2 else 0
    let sp := m.fld F.TIM_OVEN.SETPOINT 0
    let want := if now = 0 then m.age.ovenProp else now
    let goal := if want = 1 then min 2 (sp + 1) else if want = 2 then sp - 1 else sp
    if goal = sp then modAge m (fun a => { a with ovenProp := 0 })
    else if m.regionsBusy then modAge m (fun a => { a with ovenProp := want })
    else
      let o := m.cfgWord .TIM_OVEN 0
      let m := policyWrite (modAge m (fun a => { a with ovenProp := 0 })) F.TIM_OVEN.SETPOINT 0 goal
      (ovenWritten m o (m.cfgWord .TIM_OVEN 0)).ledgerAct 4 0 0
/-- POLICY_TRIM. -/
def policyTrim (m : Kz) : Kz :=
  if !policyRuns m then m else
  let new := m.age.devNew
  let m := modAge m (fun a => { a with devNew := false })
  let d := m.age.hearthDev
  if !new || !m.on F.MOD_AGE_CTRL.EN_TRIM 0 || m.seen F.MOD_AGE_STAT.OVR_TRIM 0 != 0 ||
      decide (d.natAbs ≤ 500) then m
  else
    let o := m.cfgWord .TIM_HEARTH_TRIM 0
    let v := satS 24 (sext 24 (m.fld F.TIM_HEARTH_TRIM.TRIM 0) - d)
    (trimWritten (policyWrite m F.TIM_HEARTH_TRIM.TRIM 0 (toU 24 v)) o).ledgerAct 5 0 0
/-- LEDGER_SUMMARY: drifts per 720 h of the channels, as the record gives them, and the slices whose projection
reaches 90 % of a trim range (R660, R664). -/
def ledgerSummary (m : Kz) (drift : List (Nat × List Int)) (wear : List (Nat × Nat)) (ok : Bool) : Kz :=
  if !powered m.pwr.state then m
  else
    let m := modAge m (fun a => { a with drift := drift.foldl (fun t p => Sparse.set t p.1 p.2) a.drift })
    let m := if m.on F.MOD_AGE_CTRL.EN_WEAR 0 then
        wear.foldl (fun (m : Kz) (p : Nat × Nat) =>
          let was := Sparse.get 0 m.age.wear p.1
          let now := was ||| (p.2 % 512)
          if now = was then m
          else (modAge m (fun a => { a with wear := Sparse.set a.wear p.1 now })).ledgerAct 3 1 p.1) m
      else m
    writeLedger m 1 0 0 0 ok
/-- R669: the check of a write to MOD_AGE_CTRL. -/
def ageCheck (w : Word) : Option Status :=
  if F.MOD_AGE_CTRL.GUARD_MV.of w < 40 || 200 < F.MOD_AGE_CTRL.GUARD_MV.of w then some .badValue else none

/-- AGE_RO_MEASURE (R654). -/
def execAgeRoMeasure (t : Stamp) (k : Rgn) (pair : Fin 4) (ppm : Int) (s : State) : Host.Outcome State Fault Refusal :=
  s.at_ t (fun m => ageRo m k pair ppm)
/-- VMIN_TEST (R655). -/
def execVminTest (t : Stamp) (k : Rgn) (mv : Option (BitVec 10)) (s : State) : Host.Outcome State Fault Refusal :=
  s.at_ t (fun m => vminTest m k (mv.map (fun v => v.toNat)))
/-- AGE_HOURLY (R656). -/
def execAgeHourly (t : Stamp) (heat : Option (BitVec 16 × BitVec 16 × BitVec 16)) (s : State) : Host.Outcome State Fault Refusal :=
  s.at_ t (fun m => ageHourly m (heat.map (fun h => (h.1.toNat, h.2.1.toNat, h.2.2.toNat))))
/-- AGE_DAILY (R659). -/
def execAgeDaily (t : Stamp) (syn : BitVec 16 × BitVec 16) (plls : List (BitVec 16 × BitVec 16)) (dev : Option Int)
    (s : State) : Host.Outcome State Fault Refusal :=
  s.at_ t (fun m => ageDaily m (syn.1.toNat, syn.2.toNat) (plls.map (fun p => (p.1.toNat, p.2.toNat))) dev)
/-- POLICY_RAIL (R660). -/
def execPolicyRail (t : Stamp) (k : Rgn) (s : State) : Host.Outcome State Fault Refusal := s.at_ t (fun m => policyRail m k)
/-- POLICY_STEP (R660). -/
def execPolicyStep (t : Stamp) (k : Rgn) (ro rg : Nat) (s : State) : Host.Outcome State Fault Refusal :=
  s.at_ t (fun m => policyStep m k ro rg)
/-- POLICY_OVEN (R660). -/
def execPolicyOven (t : Stamp) (mean1 mean24 : Option Nat) (s : State) : Host.Outcome State Fault Refusal :=
  s.at_ t (fun m => policyOven m mean1 mean24)
/-- POLICY_TRIM (R660). -/
def execPolicyTrim (t : Stamp) (s : State) : Host.Outcome State Fault Refusal := s.at_ t policyTrim
/-- LEDGER_SUMMARY (R664). -/
def execLedgerSummary (t : Stamp) (drift : List (Chan × List Int)) (wear : List (Chan × BitVec 9)) (ok : Bool) (s : State) :
    Host.Outcome State Fault Refusal :=
  s.at_ t (fun m => ledgerSummary m (drift.map (fun p => (p.1.val, p.2))) (wear.map (fun p => (p.1.val, p.2.toNat))) ok)

end Sys2Proof.Machine
end

