-- ==== Sys2Proof/Machine/Dsi.lean ====
section
/-! DEFINITION. The raster port and composer (R674 to R701). -/
namespace Sys2Proof.Machine

def modDsi (m : Kz) (f : Dsi → Dsi) : Kz := { m with dsi := f m.dsi }
/-- Whether the module is in a state in which the port runs (R678). -/
def dsiLive (m : Kz) : Bool := powered m.pwr.state
/-- Address of a frame buffer and of a colour table (R680, R682). -/
def frameBase (b : Nat) : Nat := 0x00C00000 + b * 0x200000
def colourBase (t : Nat) : Nat := 0x5000 + t * 0x200
/-- The registers of the timing block, in order (R691). -/
def dsiTimingKinds : List RegKind := [.DSI_CLK, .DSI_HTIM0, .DSI_HTIM1, .DSI_VTIM0, .DSI_VTIM1, .DSI_CMDP]
/-- R677: whether timing words pass the checks in a mode. -/
def timingOk (command : Bool) (w : List Word) : Bool :=
  let g (i : Nat) : Word := w.getD i 0
  let lanes := 2 ^ F.DSI_CLK.LANES.of (g 0)
  let mbps := F.DSI_CLK.LANE_MBPS.of (g 0)
  let pix := F.DSI_CLK.PIX_KHZ.of (g 0)
  let hact := F.DSI_HTIM0.HACT.of (g 1)
  let hsa := F.DSI_HTIM0.HSA.of (g 1)
  let hbp := F.DSI_HTIM1.HBP.of (g 2)
  let hfp := F.DSI_HTIM1.HFP.of (g 2)
  let vact := F.DSI_VTIM0.VACT.of (g 3)
  let vsa := F.DSI_VTIM0.VSA.of (g 3)
  let vbp := F.DSI_VTIM1.VBP.of (g 4)
  let vfp := F.DSI_VTIM1.VFP.of (g 4)
  let per := F.DSI_CMDP.PERIOD_US.of (g 5)
  lanes ≠ 8 && decide (80 ≤ mbps) && decide (mbps ≤ 1500) && decide (1000 ≤ pix) && decide (pix ≤ 120000) &&
    decide (64 ≤ hact) && decide (hact ≤ 1280) && hact % 8 == 0 && decide (64 ≤ vact) && decide (vact ≤ 800) &&
    hsa != 0 && hbp != 0 && hfp != 0 && vsa != 0 && vbp != 0 && vfp != 0 && decide (16393 ≤ per) && decide (per ≤ 100000) &&
    decide (12 * pix * 16 ≤ lanes * mbps * 10000) &&
    (command || decide (pix * 1000 ≤ 61 * (hsa + hbp + hact + hfp) * (vsa + vbp + vact + vfp)))

/-- Whether a number of lines of the timing in force have passed since the frame start (R676). -/
def linesSent (m : Kz) (lines : List Word → Nat) : Bool :=
  let w := m.dsi.timing
  let g (i : Nat) : Word := w.getD i 0
  let total := F.DSI_HTIM0.HSA.of (g 1) + F.DSI_HTIM1.HBP.of (g 2) + F.DSI_HTIM0.HACT.of (g 1) + F.DSI_HTIM1.HFP.of (g 2)
  decide (lines w * total * 1000000 ≤ (m.now.ns - m.dsi.started) * F.DSI_CLK.PIX_KHZ.of (g 0))
/-- The lines of a frame up to its latch edge (R686), and all of them (R676). -/
def edgeLines (w : List Word) : Nat :=
  F.DSI_VTIM0.VSA.of (w.getD 3 0) + F.DSI_VTIM1.VBP.of (w.getD 4 0) + F.DSI_VTIM0.VACT.of (w.getD 3 0)
def frameLines (w : List Word) : Nat := edgeLines w + F.DSI_VTIM1.VFP.of (w.getD 4 0)

/-- A flip (R688). -/
def flipNow (m : Kz) : Kz :=
  let d := m.datum
  modDsi m (fun x => { x with
    front := 1 - x.front, flipSeq := (x.flipSeq + 1) % 65536, flipDatum := d, pending := false, late := false, skip := false })
/-- A frame start (R687, R688, R691). -/
def frameStart (m : Kz) : Kz :=
  let m := modDsi m (fun x => { x with frames := (x.frames + 1) % 2 ^ 32, edge := false, started := m.now.ns })
  if m.dsi.timingPending then
    (modDsi m (fun x => { x with
      timingPending := false, skip := false, timing := dsiTimingKinds.map (fun k => m.cfgWord k 0) })).emit .blankFrame
  else
    let m := if m.dsi.pending && m.dsi.skip then modDsi m (fun x => { x with skip := false })
      else if m.dsi.pending then flipNow m
      else m
    m.emit (.rasterFrame m.dsi.front)
/-- A completed commit flips at once, or waits for a frame start (R685, R687). -/
def commitFlip (m : Kz) : Kz :=
  if m.dsi.state = .off || m.dsi.state = .stopping then flipNow m
  else if m.dsi.edge then
    let m := modDsi m (fun x => { x with pending := true, late := true, skip := true })
    (m.mark F.DSI_STAT.COMMIT_LATE_SEEN 0).count .DSI_COMMIT_LATE 0 1
  else modDsi m (fun x => { x with pending := true, late := false, skip := false })

/-- R677, R679: the check of a write to DSI_CTRL. -/
def dsiCtrlCheck (m : Kz) (w : Word) : Option Status :=
  let o := m.cfgWord .DSI_CTRL 0
  if F.DSI_CTRL.MODE.of w ≠ F.DSI_CTRL.MODE.of o && decide (m.dsi.state ≠ .off) then some .modeRunning
  else if F.DSI_CTRL.EN.of o = 0 && F.DSI_CTRL.EN.of w = 1 &&
      !timingOk (F.DSI_CTRL.MODE.of w = 1) (dsiTimingKinds.map (fun k => m.cfgWord k 0)) then some .badValue
  else none
/-- The effect of a write to DSI_CTRL (R678). -/
def dsiCtrlWritten (m : Kz) (w : Word) : Kz :=
  if F.DSI_CTRL.EN.of w = 1 then
    if m.dsi.state = .off && dsiLive m then modDsi m (fun x => { x with state := .starting, edge := false }) else m
  else match m.dsi.state with
    | .running => modDsi m (fun x => { x with state := .stopping })
    | .starting => modDsi (if m.dsi.pending then flipNow m else m) (fun x => { x with state := .off })
    | _ => m
/-- DSI_PLL_LOCK. -/
def dsiPllLock (m : Kz) : Kz :=
  if m.dsi.state = .starting && dsiLive m then
    frameStart (modDsi m (fun x => { x with
      state := .running, timingPending := false, timing := dsiTimingKinds.map (fun k => m.cfgWord k 0) }))
  else m
/-- DSI_FRAME_START: the raster reaches a frame start, or the frame in progress completes in STOPPING; in video mode that is
when its lines have been sent (R676). -/
def dsiFrameStart (m : Kz) : Kz :=
  match m.dsi.state with
  | .running => if m.on F.DSI_CTRL.MODE 0 || !linesSent m frameLines then m else frameStart m
  | .stopping =>
    if !m.on F.DSI_CTRL.MODE 0 && !linesSent m frameLines then m else
    let m := if m.dsi.pending then flipNow m else m
    modDsi m (fun x => { x with
      state := .off, timingPending := false, timing := dsiTimingKinds.map (fun k => m.cfgWord k 0) })
  | _ => m
/-- DSI_LATCH_EDGE: the end of the frame's last active line, in command mode of its transfer (R686). -/
def dsiLatchEdge (m : Kz) : Kz :=
  if (m.dsi.state = .running || m.dsi.state = .stopping) && (m.on F.DSI_CTRL.MODE 0 || linesSent m edgeLines) then
    modDsi m (fun x => { x with edge := true })
  else m
/-- DSI_TE_EDGE (R689). -/
def dsiTe (m : Kz) (falling : Bool) : Kz :=
  if m.dsi.state = .running && m.on F.DSI_CTRL.MODE 0 && m.dsi.edge && m.on F.DSI_CTRL.TE_POL 0 == falling then frameStart m else m
/-- DSI_TE_TIMEOUT (R690). -/
def dsiTeTimeout (m : Kz) : Kz :=
  let per := F.DSI_CMDP.PERIOD_US.of (m.dsi.timing.getD 5 0)
  if m.dsi.state = .running && m.on F.DSI_CTRL.MODE 0 && decide (m.dsi.started + 1500 * per ≤ m.now.ns) then
    frameStart ((m.count .DSI_TE_TIMEOUT 0 1).mark F.DSI_STAT.TE_TIMEOUT_SEEN 0) else m

/-! ### Composer (R683 to R685) -/

/-- The colour index of a count (R683). -/
def colourIndex (n shift : Nat) : Nat := min 255 ((n + 2 ^ shift - 1) / 2 ^ shift)
/-- The bytes of one row of pixels of a pass: row ROW0 + `j` of its map. -/
def passRow (m : Kz) (q : DsiPass) (j : Nat) : List Byte :=
  let cells := (pmap m (F.DSI_COMP0.MAP.of q.comp0)).cells
  let row := F.DSI_COMP0.ROW0.of q.comp0 + j
  (upTo (F.DSI_COMP1.W_M1.of q.comp1 + 1)).flatMap (fun i =>
    let n := Sparse.get 0 cells (row * 1024 + F.DSI_COMP0.COL0.of q.comp0 + i)
    slice q.table (2 * colourIndex n (F.DSI_COMP0.CSHIFT.of q.comp0)) 2)
/-- The back buffer painted by a pass. -/
def paint (m : Kz) (q : DsiPass) : Kz :=
  let h := F.DSI_COMP1.H_M1.of q.comp1 + 1
  let base := frameBase (1 - m.dsi.front) + F.DSI_COMP2.X0.of q.comp2 * 2
  (upTo h).foldl (fun (a : Kz) (j : Nat) =>
    { a with mem := a.mem.writes (base + (F.DSI_COMP2.Y0.of q.comp2 + h - 1 - j) * 2560) (passRow m q j) }) m
/-- What a write of DSI_COMMIT answers with: a refusal, an end at once, or a wait for the pass. -/
inductive Go where
  | refuse (s : Status)
  | ends
  | waits
  deriving DecidableEq, Repr
/-- R685: a write of DSI_COMMIT. -/
def dsiGo (m : Kz) (w : Word) : Go × Kz :=
  let compose := F.DSI_COMMIT.COMPOSE.of w = 1
  let flip := F.DSI_COMMIT.FLIP.of w = 1
  let c0 := m.cfgWord .DSI_COMP0 0
  let c1 := m.cfgWord .DSI_COMP1 0
  let c2 := m.cfgWord .DSI_COMP2 0
  let wd := F.DSI_COMP1.W_M1.of c1 + 1
  let ht := F.DSI_COMP1.H_M1.of c1 + 1
  if F.DSI_COMMIT.GO.of w = 0 || (!compose && !flip) then (.ends, m)
  else if m.dsi.pending then (.refuse .commitPending, m)
  else if m.dsi.pass.isSome then (.refuse .dsiBusy, m)
  else if 1024 < F.DSI_COMP0.COL0.of c0 + wd || 1024 < F.DSI_COMP0.ROW0.of c0 + ht || 1280 < F.DSI_COMP2.X0.of c2 + wd ||
      800 < F.DSI_COMP2.Y0.of c2 + ht then (.refuse .badValue, m)
  else if compose then
    (.waits, modDsi m (fun x => { x with
      pass := some ⟨c0, c1, c2, m.mem.reads (colourBase (F.DSI_COMP0.MAP.of c0)) 512, flip, m.now.ns⟩ }))
  else (.ends, commitFlip m)
/-- The hub cycles of 2 ns that a pass takes at least, ns: two cells in each (R684). -/
def passNs (q : DsiPass) : Nat := (F.DSI_COMP1.W_M1.of q.comp1 + 1) * (F.DSI_COMP1.H_M1.of q.comp1 + 1)
/-- Whether a pass is running whose time has passed. -/
def passDue (m : Kz) : Bool := m.dsi.pass.any (fun q => decide (q.since + passNs q ≤ m.now.ns))
/-- COMPOSER_PASS_DONE: the last pixel is written. -/
def passDone (m : Kz) : Kz :=
  match m.dsi.pass with
  | some q =>
    let m := modDsi (paint m q) (fun x => { x with pass := none })
    if q.flip then commitFlip m else m
  | none => m
/-- R691: the staged timing is committed; `w` is the block's new words. -/
def dsiCommitted (m : Kz) (w : List Word) : Kz :=
  if m.dsi.state = .off then modDsi m (fun x => { x with timing := w })
  else modDsi m (fun x => { x with timingPending := true })
/-- DSI_STAT (R693). -/
def dsiStat (m : Kz) : Nat :=
  let d := m.dsi
  let st := match d.state with | .off => 0 | .starting => 1 | .running => 2 | .stopping => 3
  m.seenWord .DSI_STAT 0 ||| (packFields [(F.DSI_STAT.STATE, st), (F.DSI_STAT.FRONT, d.front), (F.DSI_STAT.PENDING, b2n d.pending),
    (F.DSI_STAT.LATE, b2n d.late), (F.DSI_STAT.COMPOSING, b2n d.pass.isSome), (F.DSI_STAT.TIMING_PENDING, b2n d.timingPending),
    (F.DSI_STAT.FLIP_SEQ, d.flipSeq)]).toNat
/-- R688: a read of DSI_FLIP_LO latches both halves. -/
def flipLatch (m : Kz) : Kz := modDsi m (fun x => { x with flipLatch := x.flipDatum })

/-- DSI_PLL_LOCK (R678). -/
def execDsiPllLock (t : Stamp) (s : State) : Host.Outcome State Fault Refusal := s.at_ t dsiPllLock
/-- DSI_FRAME_START (R688). -/
def execDsiFrameStart (t : Stamp) (s : State) : Host.Outcome State Fault Refusal := s.at_ t dsiFrameStart
/-- DSI_LATCH_EDGE (R686). -/
def execDsiLatchEdge (t : Stamp) (s : State) : Host.Outcome State Fault Refusal := s.at_ t dsiLatchEdge
/-- DSI_TE_EDGE (R689). -/
def execDsiTeEdge (t : Stamp) (falling : Bool) (s : State) : Host.Outcome State Fault Refusal := s.at_ t (fun m => dsiTe m falling)
/-- DSI_TE_TIMEOUT (R690). -/
def execDsiTeTimeout (t : Stamp) (s : State) : Host.Outcome State Fault Refusal := s.at_ t dsiTeTimeout

end Sys2Proof.Machine
end

