-- ==== Sys2Proof/Machine/Registers.lean ====
section
/-! DEFINITION. What a read of a register returns (R8, R10, R761): its stored bits, its W1C bits, and the read-only
fields computed from the state of the unit that owns it. -/
namespace Sys2Proof.Machine

/-- MOD_STATE (R601). -/
def ModState.code : ModState → Nat
  | .off => 0 | .boot => 1 | .recovery => 2 | .standby => 3 | .ready => 4 | .acquire => 5 | .hold => 6
/-- RGN_PWR_STAT.STATE (R603). -/
def RgnState.code : RgnState → Nat
  | .down => 0 | .idle => 1 | .cal => 2 | .run => 3 | .hold => 4
/-- ROT_STATE (R88). -/
def RotState.code : RotState → Nat
  | .stopped => 0 | .calSpare => 1 | .shadow => 2 | .armed => 3 | .confirm => 4 | .checkShadow => 5 | .noSpare => 6
  | .emergArmed => 7
/-- BL_STATE (R163). -/
def BlState.code : BlState → Nat
  | .off => 0 | .acquire => 1 | .track => 2 | .frozen => 3 | .reacquire => 4
/-- TRIG_STATE (R207). -/
def ArmState.code : ArmState → Nat
  | .disarmed => 0 | .filling => 1 | .armed => 2 | .record => 3 | .holdoff => 4 | .rearm => 5 | .stopped | .maskStopped => 6
/-- TIN_STATE (R388). -/
def TinState.code : TinState → Nat
  | .down => 0 | .hunt => 1 | .locked => 2
/-- STATE of the engine descriptor (R352). -/
def EngState.code : EngState → Nat
  | .empty => 0 | .loading => 1 | .ready => 2 | .running => 3 | .fault => 4
/-- OWNER0 and OWNER1 (R585). -/
def OwnerState.code : OwnerState → Nat
  | .empty => 0 | .active => 1 | .revoked => 2

/-- Bit `i` for every index below `n` that satisfies `p`. -/
def maskOf (n : Nat) (p : Nat → Bool) : Nat := (upTo n).foldl (fun a i => if p i then a ||| 1 <<< i else a) 0
/-- The port whose session holds a lease. -/
def holderOf (m : Kz) (l : Lease) : Option Nat := (upTo 4).find? (fun p => (m.port p).session.leases.contains l)
/-- A lease's nibble (R551). -/
def leaseNibble (m : Kz) (l : Lease) : Nat := match holderOf m l with | some p => 8 + p | none => 0

/-- Whole seconds until debug locks (R586). -/
def debugLeft (m : Kz) : Nat :=
  if m.trust.debugLevel = 0 then 0 else (m.trust.debugUntil - m.now.ns + 999999999) / 1000000000
/-- The boot configuration block in use (R559): the valid copy with the higher sequence number, or the fixed mapping. -/
def bootBlock (f : Firmware) : BootBlock :=
  match f.block0, f.block1 with
  | some a, some b => if a.seq < b.seq then b else a
  | some a, none => a
  | none, some b => b
  | none, none => ⟨0, 0, false, 25⟩
/-- The firmware area that a slot (0 A, 1 B) is mapped to. -/
def slotArea (f : Firmware) (slot : Nat) : Nat := if slot = 0 then (bootBlock f).areaA else 1 - (bootBlock f).areaA

/-- The read-only fields of a module register. -/
def roModule (m : Kz) (k : RegKind) (i : Nat) : Nat :=
  let pk (l : List (Field × Nat)) : Nat := (packFields l).toNat
  match k with
  | .MOD_IDENT => pk [(F.MOD_IDENT.PART, 0x1920), (F.MOD_IDENT.GRADE, Config.grade.toNat), (F.MOD_IDENT.STEP_NUM, 2)]
  | .MOD_REGION_SKEW => F.MOD_REGION_SKEW.SKEW_NOW.put (maskOf 12 (fun k => (m.rgn k).lane.skewIn || (m.rgn k).lane.skewOut))
  | .TIM_STAT => timStat m
  | .TIM_OVEN => pk [(F.TIM_OVEN.HEATER_MW, m.tb.heaterMw), (F.TIM_OVEN.TEMP_ERR, toU 12 m.tb.tempErr)]
  | .TIM_DATUM_LO => m.tb.datumLatch % 2 ^ 32
  | .TIM_DATUM_HI => m.tb.datumLatch / 2 ^ 32
  | .TIM_EPOCH_STAT => pk [(F.TIM_EPOCH_STAT.SRC, b2n m.tb.epochHost), (F.TIM_EPOCH_STAT.EPOCH_SEQ, m.tb.epochSeq),
      (F.TIM_EPOCH_STAT.OFFSET_TICKS, m.tb.offTicks), (F.TIM_EPOCH_STAT.OFFSET_FRAC, m.tb.offFrac)]
  | .TIM_MCLK_FREQ => mclkFreq m
  | .TIM_TL_STAT => pk [(F.TIM_TL_STAT.TIN0_STATE, m.tl.tin0.state.code), (F.TIM_TL_STAT.TIN1_STATE, m.tl.tin1.state.code),
      (F.TIM_TL_STAT.ACTIVE, m.tl.active), (F.TIM_TL_STAT.BCN_SUSPECT, b2n m.tl.suspect), (F.TIM_TL_STAT.RET_STATE, m.tl.retState),
      (F.TIM_TL_STAT.LAST_SEQ, m.tl.lastSeq), (F.TIM_TL_STAT.SKEW, toU 8 m.tl.skew)]
  | .TIM_TL_XING => F.TIM_TL_XING.BCN.put m.tl.latchBcn
  | .TIM_TL_ORBIT => m.tl.latchOrbit
  | .MOD_EVENT_NEXT => pk [(F.MOD_EVENT_NEXT.EPOCH, m.hub.eventEpoch), (F.MOD_EVENT_NEXT.NEXT, m.hub.eventNext)]
  | .MOD_EVENT_WRAPS => m.hub.eventWraps
  | .MOD_PRIM_STAT => pk [(F.MOD_PRIM_STAT.MIN_LAT, (prim m i).minLat), (F.MOD_PRIM_STAT.FRAMING, b2n (prim m i).framing),
      (F.MOD_PRIM_STAT.RATE_HIGH, b2n (rateHigh (m.fld F.MOD_PRIM_CFG.MODE i) (mclkFreq m)))]
  | .TIM_TIU_STAT =>
    let x := tiuCtx m i
    pk [(F.TIM_TIU_STAT.OUTCOME, x.outcome), (F.TIM_TIU_STAT.ARMED, b2n (decide (x.state = .armed))),
      (F.TIM_TIU_STAT.OPEN, b2n (decide (x.state = .open_))), (F.TIM_TIU_STAT.LOST, x.lost), (F.TIM_TIU_STAT.FRAC, x.frac)]
  | .TIM_TIU_TICKS => (tiuCtx m i).latched
  | .TIM_FREQ_STAT => pk [(F.TIM_FREQ_STAT.BUSY, b2n m.tiu.gating), (F.TIM_FREQ_STAT.NO_SIGNAL, b2n m.tiu.noSignal),
      (F.TIM_FREQ_STAT.GAP, b2n m.tiu.gap), (F.TIM_FREQ_STAT.WARM, b2n m.tiu.warm), (F.TIM_FREQ_STAT.SRC, m.tiu.freqSrc),
      (F.TIM_FREQ_STAT.SEQ, m.tiu.freqSeq)]
  | .TIM_FREQ_HI => m.tiu.freqLatch / 2 ^ 32
  | .TIM_FREQ_LO => m.tiu.freqLatch % 2 ^ 32
  | .SNS_STAT => snsStat m i
  | .SNS_VALUE => (sns m i).latch.value
  | .SNS_Z_RE => toU 32 (sns m i).latch.re
  | .SNS_Z_IM => toU 32 (sns m i).latch.im
  | .SNS_CHK_RES => pk [(F.SNS_CHK_RES.CONTACT, toU 16 (sns m i).contact), (F.SNS_CHK_RES.LEAD_X, toU 16 (sns m i).leadX)]
  | .HK_A_RES => (Sparse.get ({} : HkRes) m.hk.a.res i).word
  | .HK_B_RES => (Sparse.get ({} : HkRes) m.hk.b.res i).word
  | .HK_STAT =>
    let entry (x : HkConv) : Nat := if x.running then x.entry else 31
    pk [(F.HK_STAT.REF_SETTLED_B, b2n m.hk.b.settled), (F.HK_STAT.REF_SETTLED_A, b2n m.hk.a.settled),
      (F.HK_STAT.BUSY_B, b2n (hkBusy m 1)), (F.HK_STAT.BUSY_A, b2n (hkBusy m 0)), (F.HK_STAT.HK_PLAUSIBILITY, b2n m.hk.plaus),
      (F.HK_STAT.ENTRY_B, entry m.hk.b), (F.HK_STAT.ENTRY_A, entry m.hk.a)]
  | .HK_XCHK_RES => xchkRes m
  | .HK_URGENT_RES => pk [(F.HK_URGENT_RES.USEQ, m.hk.useq), (F.HK_URGENT_RES.CONV, m.hk.uconv),
      (F.HK_URGENT_RES.UNSETTLED, b2n m.hk.uunset), (F.HK_URGENT_RES.OVR, b2n m.hk.uovr), (F.HK_URGENT_RES.CODE, m.hk.ucode)]
  | .HOST_PORT_STAT =>
    let q := m.port i
    pk [(F.HOST_PORT_STAT.LINK, b2n q.link), (F.HOST_PORT_STAT.SESSION, b2n q.session.isOpen),
      (F.HOST_PORT_STAT.VERSION, q.session.version.toNat), (F.HOST_PORT_STAT.SESSION_ID, q.sessionId.toNat)]
  | .HOST_PORT_SESS =>
    let x := (m.port i).session
    pk [(F.HOST_PORT_SESS.H, x.h.toNat), (F.HOST_PORT_SESS.TAGS, x.tags.length), (F.HOST_PORT_SESS.NOTIF, x.notifs.length)]
  | .HOST_LEASE_LO => (upTo 8).foldl (fun a k => a ||| leaseNibble m (.region k) <<< (4 * k)) 0
  | .HOST_LEASE_HI => (upTo 4).foldl (fun a k => a ||| leaseNibble m (.region (8 + k)) <<< (4 * k)) 0 |||
      F.HOST_LEASE_HI.MODULE.put (leaseNibble m .module)
  | .MOD_BOOT_STAT => pk [(F.MOD_BOOT_STAT.RUN_SLOT, m.fw.runSlot), (F.MOD_BOOT_STAT.AREA, m.fw.runArea),
      (F.MOD_BOOT_STAT.TRIAL, b2n m.fw.onTrial), (F.MOD_BOOT_STAT.A_REFUSED, b2n m.fw.aRefused),
      (F.MOD_BOOT_STAT.B_REFUSED, b2n m.fw.bRefused), (F.MOD_BOOT_STAT.B_ROLLBACK, b2n m.fw.bRollback),
      (F.MOD_BOOT_STAT.BOOT_COUNT, m.fw.bootCount), (F.MOD_BOOT_STAT.BOOT_MS, m.fw.bootMs)]
  | .MOD_FW_VERSION => m.fw.runImage.version.toNat
  | .MOD_TRUST_STAT => pk [(F.MOD_TRUST_STAT.SV_RUN, m.fw.runImage.sv), (F.MOD_TRUST_STAT.COUNTER, m.trust.counter),
      (F.MOD_TRUST_STAT.OWNER1, m.trust.owner1.state.code), (F.MOD_TRUST_STAT.OWNER0, m.trust.owner0.state.code),
      (F.MOD_TRUST_STAT.DEBUG_OPEN, b2n (m.trust.debugLevel != 0)), (F.MOD_TRUST_STAT.IDENT_OK, b2n m.trust.identOk),
      (F.MOD_TRUST_STAT.LOG_FULL, b2n m.trust.logFull), (F.MOD_TRUST_STAT.B_VERIFIED, b2n m.fw.verified.isSome)]
  | .MOD_DEBUG_STAT => pk [(F.MOD_DEBUG_STAT.LEVEL, m.trust.debugLevel), (F.MOD_DEBUG_STAT.REMAIN_S, debugLeft m)]
  | .MOD_SUP_STAT => pk [(F.MOD_SUP_STAT.PAIR1_RESTARTING, b2n m.sup.restarting1),
      (F.MOD_SUP_STAT.PAIR0_RESTARTING, b2n m.sup.restarting0)]
  | .MOD_PWR_STAT => modCauses m ||| pk [(F.MOD_PWR_STAT.MOD_STATE, m.pwr.state.code),
      (F.MOD_PWR_STAT.VIN_LOW, b2n m.pwr.dip.isSome), (F.MOD_PWR_STAT.OV_NOW, b2n m.pwr.ovNow),
      (F.MOD_PWR_STAT.THERM_NOW, b2n m.pwr.thermNow)]
  | .MOD_RESET_CAUSE => m.pwr.resetCause
  | .MOD_VIN => pk [(F.MOD_VIN.MIN_10MV, m.pwr.vinMin), (F.MOD_VIN.NOW_10MV, m.pwr.vinNow)]
  | .MOD_ERR_STAT => errStat m
  | .MOD_LOG_STAT => m.log.next
  | .MOD_ORBIT_WRAPS => m.tl.orbitWraps
  | .MOD_AGE_STAT => F.MOD_AGE_STAT.OVEN_PROP.put m.age.ovenProp
  | .MOD_AGE_HOURS => hoursNow m
  | .MOD_AGE_DOSE =>
    let d := m.age.dose.getD i (2, 0)
    pk [(F.MOD_AGE_DOSE.SRC, d.1), (F.MOD_AGE_DOSE.DOSE_GY, d.2)]
  | .DSI_STAT => dsiStat m
  | .DSI_FRAME_CNT => m.dsi.frames
  | .DSI_FLIP_LO => m.dsi.flipLatch % 2 ^ 32
  | .DSI_FLIP_HI => m.dsi.flipLatch / 2 ^ 32
  | .MOD_CFG_GEN => m.regs.cfgGen
  | .MOD_STAGE_STAT => F.MOD_STAGE_STAT.MOD_PEND.put (b2n m.regs.modPend)
  | .MOD_COMMIT_STAT => pk [(F.MOD_COMMIT_STAT.SEQ, m.regs.commitSeq), (F.MOD_COMMIT_STAT.KIND, m.regs.commitKind),
      (F.MOD_COMMIT_STAT.STATUS, m.regs.commitStatus)]
  | .MOD_ADDR_FAULT => pk [(F.MOD_ADDR_FAULT.ADDR, m.regs.faultAddr / 4), (F.MOD_ADDR_FAULT.WRITE, b2n m.regs.faultWrite),
      (F.MOD_ADDR_FAULT.VALID, b2n m.regs.faultValid)]
  | _ => 0

/-- The read-only fields of a region register; `k` is the region. -/
def roRegion (m : Kz) (r : RegKind) (k : Nat) : Nat :=
  let pk (l : List (Field × Nat)) : Nat := (packFields l).toNat
  match r with
  | .RGN_PWR_STAT =>
    let p := (m.rgn k).pwr
    rgnCauses m k ||| pk [(F.RGN_PWR_STAT.STATE, p.state.code), (F.RGN_PWR_STAT.THERM_NOW, b2n p.thermNow),
      (F.RGN_PWR_STAT.CAL_QUEUED, b2n (decide (p.state = .cal) && !(m.pwr.passRunning && m.pwr.calQueue.head? == some k))),
      (F.RGN_PWR_STAT.RAIL_NOW, b2n p.railNow), (F.RGN_PWR_STAT.TJ, toU 9 p.tj)]
  | .RGN_RAIL => F.RGN_RAIL.NOW_MV.put (railMv m k)
  | .RGN_XQ_STAT =>
    let l := (m.rgn k).lane
    pk [(F.RGN_XQ_STAT.MIN_SLACK_IN, l.minIn), (F.RGN_XQ_STAT.MIN_SLACK_OUT, l.minOut),
      (F.RGN_XQ_STAT.SKEW_OUT, b2n l.skewOut), (F.RGN_XQ_STAT.SKEW_IN, b2n l.skewIn)]
  | .RGN_ACCQ_STAT => pk [(F.RGN_ACCQ_STAT.HIGH_WATER, (m.rgn k).acq.highWater),
      (F.RGN_ACCQ_STAT.OCCUPANCY, (m.rgn k).acq.queue.length)]
  | .RGN_MASK_STAT => F.RGN_MASK_STAT.SHARE_OUT.put (m.rgn k).acc.shareOut
  | .RGN_ACC_STAT => pk [(F.RGN_ACC_STAT.PERIOD, (m.rgn k).acc.period),
      (F.RGN_ACC_STAT.DONE, maskOf 16 (fun i => (m.chan (16 * k + i)).avg.done))]
  | .ENG_STAT => F.ENG_STAT.LOADED.put (maskOf 16 (fun i =>
      let s := (m.chan (16 * k + i)).eng.state
      decide (s = .ready) || decide (s = .running) || decide (s = .fault)))
  | .ENG_BUDGET => F.ENG_BUDGET.B_MEAS.put (bMeas m)
  | .RGN_RO_LANE_STAT => (upTo 8).foldl (fun a j => a ||| (roLane m k j).state.code <<< (3 * j)) 0
  | .RGN_RO_OVF => pk [(F.RGN_RO_OVF.NO_LANE, b2n (m.rgn k).lg.noLane), (F.RGN_RO_OVF.OVF, b2n (m.rgn k).lg.ovf)]
  | .RGN_ERR_STAT => rgnErrStat m k
  | .RGN_AGE_STAT =>
    let a := (m.rgn k).age
    pk [(F.RGN_AGE_STAT.VMIN_MV, a.vmin), (F.RGN_AGE_STAT.NO_VMIN, b2n a.noVmin), (F.RGN_AGE_STAT.RAIL_LIMITED, b2n a.railLimited),
      (F.RGN_AGE_STAT.MARGIN_LOW, b2n a.marginLow), (F.RGN_AGE_STAT.BENCH_DRIFT, b2n a.benchDrift),
      (F.RGN_AGE_STAT.PLL_MARGIN, b2n a.pllMargin)]
  | .RGN_AGE_RO =>
    let w := worstPair m k
    pk [(F.RGN_AGE_RO.WORST_PPM, satU 16 w.1.toNat), (F.RGN_AGE_RO.WORST_PAIR, w.2)]
  | _ => 0

/-- The read-only fields of a channel register. -/
def roChannel (m : Kz) (r : RegKind) (c : Nat) : Nat :=
  let pk (l : List (Field × Nat)) : Nat := (packFields l).toNat
  match r with
  | .CH_FE_STAT => feStatRo m c
  | .CH_CONV_STAT =>
    let v := (m.chan c).conv
    pk [(F.CH_CONV_STAT.ROT_STATE, v.rot.code), (F.CH_CONV_STAT.SPARE, v.spare), (F.CH_CONV_STAT.TARGET, v.target),
      (F.CH_CONV_STAT.EFF_MODE, v.effMode), (F.CH_CONV_STAT.NO_SPARE, b2n (v.spare == 15)),
      (F.CH_CONV_STAT.DEGRADED, b2n (degraded m c)), (F.CH_CONV_STAT.CAL_DUE, b2n v.calDue)]
  | .CH_SLICE_MAP => (upTo 8).foldl (fun a p => a ||| (m.chan c).conv.pos.getD p 15 <<< (4 * p)) 0
  | .CH_SLICE_HEALTH =>
    let v := (m.chan c).conv
    pk [(F.CH_SLICE_HEALTH.LAST_SLICE, v.lastSlice), (F.CH_SLICE_HEALTH.LAST_REASON, v.lastReason),
      (F.CH_SLICE_HEALTH.SUSPECT, v.suspect)]
  | .CH_SHADOW_STAT =>
    let x := (m.chan c).conv.shadow
    pk [(F.CH_SHADOW_STAT.VERDICT, x.verdict), (F.CH_SHADOW_STAT.SPARE_SLICE, x.spare), (F.CH_SHADOW_STAT.TARGET_SLICE, x.target),
      (F.CH_SHADOW_STAT.MEAN_DIFF, toU 8 x.mean), (F.CH_SHADOW_STAT.DISAGREE, x.disagree)]
  | .CH_SLOT_RESULT => slotResult m c
  | .CH_CHAIN_STAT =>
    let x := (m.chan c).chain
    pk [(F.CH_CHAIN_STAT.BLOCK_SEQ, x.blockSeq), (F.CH_CHAIN_STAT.RS_RANGE, b2n x.rsRange),
      (F.CH_CHAIN_STAT.TONE_OUTSIDE, b2n x.outside), (F.CH_CHAIN_STAT.BL_FROZEN, b2n (decide (x.bl = .frozen)))]
  | .CH_TRIG_STAT =>
    let x := (m.chan c).trig
    pk [(F.CH_TRIG_STAT.TRIG_STATE, x.arm.code), (F.CH_TRIG_STAT.LAST_SRC, x.lastSrc),
      (F.CH_TRIG_STAT.OPEN, (m.chan c).mem.open_.length)]
  | .CH_MEM_CTRL => F.CH_MEM_CTRL.SEQ_WRAPS.put (m.chan c).mem.seqWraps
  | _ => 0

/-- The value a read of a register returns. -/
def readReg (m : Kz) (k : RegKind) (i : Nat) : Nat :=
  let f := k.info
  if f.counter then m.counter k i
  else
    let ro := match f.win with
      | .module => roModule m k i
      | .region => roRegion m k (i / f.cnt)
      | .channel => roChannel m k i
    (Sparse.get (m.cfgWord k i) m.regs.staged (k.addr i)).toNat ||| m.seenWord k i ||| ro

/-- What a read of a register does beside returning it: the latching of R138, R399, R439, R453, R461 and R688. -/
def readSide (m : Kz) (k : RegKind) (i : Nat) : Kz :=
  match k with
  | .TIM_DATUM_LO => m.modTb (fun b => { b with datumLatch := m.datum % 2 ^ 64 })
  | .TIM_TL_XING => xingLatch m
  | .TIM_TIU_STAT => tiuLatch m i
  | .TIM_FREQ_STAT => freqLatch m
  | .SNS_STAT => snsLatch m i
  | .DSI_FLIP_LO => flipLatch m
  | _ => m
/-- A read of a register. -/
def readRegister (m : Kz) (k : RegKind) (i : Nat) : Nat × Kz :=
  let m := readSide m k i
  (readReg m k i, m)

end Sys2Proof.Machine
end

