-- ==== Sys2Proof/Machine/Access.lean ====
section
/-! DEFINITION. The address space (R712 to R719), reads and writes of one word (R8, R534, R538, R713, R755), and
commits of staged registers (R720 to R723). -/
namespace Sys2Proof.Machine

/-- What an address names (R712). -/
inductive Place where
  | reg (k : RegKind) (i : Nat)
  /-- A word of a window that names no register and no memory location. -/
  | gap
  | colour
  | stat (o : Nat)
  | bin (c b : Nat)
  | histWord (c : Nat)
  | cell (x n : Nat)
  | frame (b : Nat)
  | avgSum (k j : Nat)
  | avgWord (k i : Nat)
  | maskPoint (k : Nat) (second : Bool)
  | aperture (k o : Nat)
  | program (c o : Nat)
  | data (c d : Nat)
  | lut (c e : Nat)
  | descriptor (c w : Nat)
  deriving DecidableEq, Repr

/-- A register window's word. -/
def regOr (a : Nat) : Place := match regAt a with | some r => .reg r.kind r.inst | none => .gap
/-- A word of region `k`'s window, at offset `o` (R712). -/
def regionPlace (a k o : Nat) : Place :=
  if o < 0x1000 then regOr a
  else if 0x30000 ≤ o ∧ o < 0x34000 then .avgSum k ((o - 0x30000) / 4)
  else if 0x34000 ≤ o ∧ o < 0x34040 then .avgWord k ((o - 0x34000) / 4)
  else if 0x40000 ≤ o ∧ o < 0x80000 then .maskPoint k (o / 4 % 2 = 1)
  else if 0x80000 ≤ o then .aperture k (o - 0x80000)
  else .gap
/-- A word of channel `c`'s engine window, at offset `o` (R353). -/
def enginePlace (c o : Nat) : Place :=
  if o < 0x8000 then .program c o
  else if o < 0x10000 then .data c (o - 0x8000)
  else if o < 0x10800 then .lut c ((o - 0x10000) / 2)
  else if 0x1F000 ≤ o ∧ o < 0x1F050 then .descriptor c ((o - 0x1F000) / 4)
  else .gap
/-- The place at an address: none where it lies in no window or is not a multiple of 4 (R713). -/
def placeOf (a : Nat) : Option Place :=
  if a % 4 ≠ 0 then none
  else if a < 0x5000 then some (regOr a)
  else if a < 0x5400 then some .colour
  else if 0x100000 ≤ a ∧ a < 0x120000 then some (.stat (a - 0x100000))
  else if 0x400000 ≤ a ∧ a < 0x700000 then some (.bin ((a - 0x400000) / 0x4000) (a % 0x4000 / 4))
  else if 0x700000 ≤ a ∧ a < 0x700300 then some (.histWord ((a - 0x700000) / 4))
  else if 0x800000 ≤ a ∧ a < 0xC00000 then some (.cell ((a - 0x800000) / 0x200000) (a % 0x200000 / 2))
  else if 0xC00000 ≤ a ∧ a < 0x1000000 then some (.frame ((a - 0xC00000) / 0x200000))
  else if 0x1000000 ≤ a ∧ a < 0x1C00000 then some (regionPlace a ((a - 0x1000000) / 0x100000) (a % 0x100000))
  else if 0x2000000 ≤ a ∧ a < 0x20C0000 then some (regOr a)
  else if 0x4000000 ≤ a ∧ a < 0x5800000 then some (enginePlace ((a - 0x4000000) / 0x20000) (a % 0x20000))
  else none
/-- The region whose windows an address lies in. -/
def regionOf (a : Nat) : Option Nat :=
  if 0x1000000 ≤ a ∧ a < 0x1C00000 then some ((a - 0x1000000) / 0x100000)
  else if 0x2000000 ≤ a ∧ a < 0x20C0000 then some ((a - 0x2000000) / 0x10000)
  else if 0x4000000 ≤ a ∧ a < 0x5800000 then some ((a - 0x4000000) / 0x200000)
  else none
/-- The lease that covers writes to an address (R534). -/
def leaseFor (a : Nat) : Lease :=
  if 0x1000000 ≤ a ∧ a < 0x1C00000 then .region ((a - 0x1000000) / 0x100000)
  else if 0x2000000 ≤ a ∧ a < 0x20C0000 then .channel ((a - 0x2000000) / 0x1000)
  else if 0x4000000 ≤ a ∧ a < 0x5800000 then .channel ((a - 0x4000000) / 0x20000)
  else .module
/-- Whether held leases cover one: a region's lease covers its channels. -/
def covers (held : List Lease) (l : Lease) : Bool :=
  held.contains l || (match l with | .channel c => held.contains (.region (c / 16)) | _ => false)

/-- R730: a word refused with BAD_ADDRESS under R713. -/
def addrFault (m : Kz) (a : Nat) (write : Bool) : Kz :=
  ({ m with regs := { m.regs with faultAddr := a, faultWrite := write, faultValid := true } }).count .MOD_ADDR_FAULTS 0 1

/-! ### Reads -/

/-- The entry of a counter in the statistics memory (R640). -/
def statEntry (m : Kz) (addr : Nat) (second : Bool) : Nat :=
  let s := Sparse.get ({} : Counter) m.stats.memory addr
  if second then b2n s.sat <<< 31 ||| b2n (Sparse.get ({} : Counter) m.stats.live addr).sat <<< 30 else s.val
/-- The counter at a register address, if one lies there. -/
def counterAt (a : Nat) : Bool := match regAt a with | some r => r.kind.info.counter | none => false
/-- A word of the statistics memory (R640). -/
def statWord (m : Kz) (o : Nat) : Nat :=
  let second : Bool := o / 4 % 2 = 1
  let s := m.stats
  if o < 0x600 then statEntry m (RegKind.addr .CH_SAT_COUNT (o / 8)) second
  else if o = 0x800 then s.ended
  else if o = 0x804 then b2n s.busy <<< 31 ||| s.source <<< 28 ||| s.wraps % 4096 <<< 16 ||| s.skipped
  else if o = 0x808 then s.hdrFb / 2 ^ 32 % 2 ^ 32
  else if o = 0x80C then s.hdrFb % 2 ^ 32
  else if 0x1000 ≤ o ∧ o < 0x4000 then
    let a := 0x1000000 + (o - 0x1000) / 0x400 * 0x100000 + o % 0x400 / 8 * 4
    if counterAt a then statEntry m a second else 0
  else if 0x10000 ≤ o ∧ o < 0x1A000 then
    let a := (o - 0x10000) / 8 * 4
    if counterAt a then statEntry m a second else 0
  else 0
/-- The bytes of a sample group of the ring: 16 samples in 24 bytes, or one in 2 (R235). The output sample in slot `s` is the newest one
whose place, counted from the first stored sample round the ring, is `s` (DESIGN CHOICE, entry 104). -/
def ringGroup (m : Kz) (c g : Nat) : List Byte :=
  let n := if packed m c then 16 else 1
  let size := ringSamples m c
  match (m.chan c).mem.store with
  | [] => []
  | w :: _ =>
    let q := w.idx - firstStored m c
    let l := (upTo n).map (fun j =>
      let back := (q + size - (g * n + j) % size) % size
      if back ≤ q then (storedAt m c (w.idx - back)).1 else (untold (keyOf c (m.chan c).chain 11 (g * n + j))).1)
    sampleBytes n (packed m c) l
/-- Eight bytes of a store from a byte position on, a multiple of 8. What a slot holds while it is written, and what no record or
sample has written, no rule gives: a free value for each 64-bit word, and of a slot being written for each fabric cycle
(R267, R268). -/
def storeBytes (m : Kz) (c pos : Nat) : List Byte :=
  let y := (m.chan c).mem
  let loose (key : List Nat) : List Byte := be 8 (toU 64 (Config.untoldWord (c :: key)))
  if m.on F.RGN_MEM_APERTURE.STORE (c / 16) then
    let s := pos / max 1 y.slotSize
    if y.writing = some s || y.open_.any (fun r => r.slot = some s) then loose [12, m.fabric, pos]
    else
      let b := Sparse.get [] y.content s
      (slice b (pos % y.slotSize) 8 ++ loose [13, (m.chan c).chain.grid, pos]).take 8
  else
    let n := if packed m c then 24 else 2
    let b := (upTo 8).map (fun j => (ringGroup m c ((pos + j) / n))[(pos + j) % n]?)
    if b.all Option.isSome then b.map (fun x => x.getD 0) else loose [14, (m.chan c).chain.grid, pos]
/-- A word of the aperture, consistent within its 64-bit word (R267, R268). -/
def apertureWord (m : Kz) (k o : Nat) : Nat :=
  let c := 16 * k + m.fld F.RGN_MEM_APERTURE.CH k
  let pos := m.fld F.RGN_MEM_APERTURE.BASE k * 65536 + o
  let size := if m.on F.RGN_MEM_APERTURE.STORE k then storeBanks m c * 81920
    else if acqMode m k = 1 then m.fld F.CH_MEM_CTRL.RING_BANKS c * 81920 else 0
  if size ≤ pos then 0 else ofBe (slice (storeBytes m c (pos / 8 * 8)) (pos % 8) 4)
/-- A word of the engine descriptor (R354). -/
def descriptorWord (e : Engine) (w : Nat) : Nat :=
  let g := e.image.getD {}
  match w with
  | 0 => e.state.code <<< 28 ||| b2n e.image.isSome <<< 24 ||| g.wcet % 256 <<< 16 ||| g.winLen / 8 % 256 <<< 8 ||| e.maxUsed % 256
  | 1 => e.handoffMax % 65536 <<< 16 ||| g.prog.length % 65536
  | 2 => e.rejectCode % 256 <<< 24 ||| e.rejectAddr % 4096 <<< 12
  | 3 => e.loads
  | n => (g.digest.toNat >>> (32 * (19 - n))) % 2 ^ 32
/-- Two 16-bit values as a word, the lower address most significant (R7). -/
def pair16 (a b : Nat) : Nat := a % 65536 * 65536 + b % 65536

/-- The word at a place, and what reading it does. Memory and engine windows of a region in DOWN read 0 (R719). -/
def readPlace (m : Kz) (a : Nat) (p : Place) : Nat × Kz :=
  let down : Bool := match regionOf a with | some k => m.rstate k = .down | none => false
  match p with
  | .reg k i => readRegister m k i
  | .gap => (0, m)
  | .colour | .frame _ => (m.mem.word a 4, m)
  | .stat o => (statWord m o, m)
  | .bin c b => (Sparse.get 0 (m.chan c).hist.bins b, m)
  | .histWord c => (b2n (m.chan c).hist.sat <<< 31 ||| (m.chan c).hist.count, m)
  | .cell x n => (pair16 (Sparse.get 0 (pmap m x).cells n) (Sparse.get 0 (pmap m x).cells (n + 1)), m)
  | .avgSum k j => (if down then 0 else toU 32 ((m.chan (16 * k + m.fld F.RGN_ACC_CTRL.VIEW_CH k)).avg.sums.getD j 0), m)
  | .avgWord k i =>
    let v := (m.chan (16 * k + i)).avg
    (if down then 0 else b2n v.sat <<< 31 ||| b2n v.done <<< 30 ||| b2n v.clip <<< 29 ||| v.count, m)
  | .maskPoint _ _ => (if down then 0 else m.mem.word a 4, m)
  | .aperture k o => (if down then 0 else apertureWord m k o, m)
  | .program c o =>
    let b := (((m.chan c).eng.image.getD {}).prog).getD (o / 8) 0
    (if down then 0 else if o / 4 % 2 = 0 then b / 2 ^ 32 else b % 2 ^ 32, m)
  | .data _ _ => (if down then 0 else m.mem.word a 4, m)
  | .lut c e =>
    let l := ((m.chan c).eng.image.getD {}).lut
    (if down then 0 else pair16 (l.getD e 0) (l.getD (e + 1) 0), m)
  | .descriptor c w => (if down then 0 else descriptorWord (m.chan c).eng w, m)

/-- One word read at an address: none where it is refused with BAD_ADDRESS (R713). -/
def readWord (m : Kz) (a : Nat) : Option Nat × Kz :=
  match placeOf a with
  | some p => let (v, m) := readPlace m a p; (some v, m)
  | none => (none, addrFault m a false)

/-! ### Writes of registers -/

/-- What a pair of a REG_WRITE ends with. -/
inductive PairEnd where
  | ok
  | refused (s : Status)
  | waits (w : Wait)
  deriving DecidableEq, Repr

/-- Whether a comparator's profile uses both levels (R187, R191). -/
def usesBoth (m : Kz) (c : Nat) (second : Bool) : Bool :=
  let ty := m.fld F.RGN_TRIG_PROF_CFG.TYPE (profOf m c second)
  ty = 2 || ty = 3 || ty = 5 || ty = 6
/-- A two's-complement level field. -/
def level (f : Field) (w : Word) : Int := sext 16 (f.of w)
/-- The checks that the owning chapters make of a write, each refusing it whole. -/
def regCheck (m : Kz) (k : RegKind) (i : Nat) (w : Word) : Option Status :=
  let bad (b : Bool) : Option Status := if b then some .badValue else none
  match k with
  | .TIM_MODE => modeCheck m w
  | .TIM_OVEN => ovenCheck m w
  | .TIM_TL_CFG => tlCheck m w
  | .MOD_XTRIG_CTRL => bad (F.MOD_XTRIG_CTRL.EDGE0.of w = 3 || F.MOD_XTRIG_CTRL.EDGE1.of w = 3)
  | .MOD_MAP_X => bad (F.MOD_MAP_X.X_STEP.of w = 0)
  | .MOD_MAP_Y => bad (F.MOD_MAP_Y.Y_SHIFT.of w = 7)
  | .MOD_PRIM_CFG => primCheck m i w
  | .TIM_TIU_CFG => tiuCfgCheck m i w
  | .TIM_TIU_WIN => tiuWinCheck m i w
  | .TIM_TIU_CTRL => bad (F.TIM_TIU_CTRL.JDELAY.of w = 0)
  | .TIM_FREQ_CFG => freqCheck w
  | .SNS_CFG => snsCfgCheck m w
  | .SNS_CHK => bad (decide (3600 < F.SNS_CHK.CHK_INT.of w))
  | .SNS_TABLE => if snsInUse m 9 (i / 64) then some .locked else none
  | .SNS_SH_A | .SNS_SH_B | .SNS_SH_C => if snsInUse m 10 i then some .locked else none
  | .HK_A_ENT | .HK_B_ENT => hkEntCheck w
  | .HK_A_WIN | .HK_B_WIN => hkWinCheck w
  | .HK_CTRL => hkCtrlCheck w
  | .HK_XCHK_CFG => hkXchkCheck w
  | .HK_REF_EXT => hkRefExtCheck w
  | .HOST_PORT_CFG => bad (F.HOST_PORT_CFG.UDP_PORT.of w = 0)
  | .HOST_CFG => bad (F.HOST_CFG.REJ_RATE.of w = 0)
  | .MOD_AGE_CTRL => ageCheck w
  | .DSI_CTRL => dsiCtrlCheck m w
  | .RGN_RAIL => railCheck m i w
  | .RGN_ROT_CTRL => bad (decide (F.RGN_ROT_CTRL.STEP.of w < 5))
  | .RGN_SHADOW_CFG => bad (F.RGN_SHADOW_CFG.THR.of w = 0)
  | .RGN_PERIODIC => bad (F.RGN_PERIODIC.N.of w != 0 && decide (F.RGN_PERIODIC.N.of w ≤ F.RGN_PERIODIC.OFFSET.of w))
  | .RGN_ACC_CTRL => bad (decide (8 < F.RGN_ACC_CTRL.SHIFT.of w) || decide (24 < F.RGN_ACC_CTRL.TARGET_LOG2.of w))
  | .ENG_BUDGET =>
    let b := F.ENG_BUDGET.B_DECL.of w
    bad (decide (b < 5) || decide (64 < b) || (chansOf i 0xFFFF).any (fun c =>
      match (m.chan c).eng.image with | some g => decide (b < g.wcet) | none => false))
  | .RGN_RO_CTRL => bad (F.RGN_RO_CTRL.FRAME_MAX.of w = 0 || decide (64 < F.RGN_RO_CTRL.FRAME_MAX.of w))
  | .RGN_DAMPER => bad (decide (2000 < F.RGN_DAMPER.RATE.of w) || F.RGN_DAMPER.BURST.of w = 0)
  | .CH_FE_CTRL => bad (decide (5 < F.CH_FE_CTRL.GAIN.of w))
  | .CH_CHAIN_CTRL => bad (decide (8 < F.CH_CHAIN_CTRL.DEC.of w))
  | .CH_RS_RATIO => bad (decide (w.toNat < 0x80000000))
  | .CH_SLOT_AUX => bad (decide (F.CH_SLOT_AUX.WIN_HI.of w < F.CH_SLOT_AUX.WIN_LO.of w))
  | .CH_TRIG_LEVEL_A => bad (usesBoth m i false &&
      decide (level F.CH_TRIG_LEVEL_A.HI w ≤ level F.CH_TRIG_LEVEL_A.LO w))
  | .CH_TRIG_LEVEL_B => bad (usesBoth m i true &&
      decide (level F.CH_TRIG_LEVEL_B.HI w ≤ level F.CH_TRIG_LEVEL_B.LO w))
  | .CH_MEM_CTRL => bad (decide (64 < F.CH_MEM_CTRL.BANKS.of w) || F.CH_MEM_CTRL.STREAM_SEL.of w = 3)
  | .CH_MASK_CTRL =>
    let odd (n : Nat) : Bool := n = 1 || decide (1024 < n)
    bad (odd (F.CH_MASK_CTRL.NPTS0.of w) || odd (F.CH_MASK_CTRL.NPTS1.of w) || F.CH_MASK_CTRL.ACT0.of w = 3 ||
      F.CH_MASK_CTRL.ACT1.of w = 3)
  | _ => none

/-- R662: an accepted host write of a quantity the policy steers. -/
def override (m : Kz) (f : Field) (i : Nat) (kind idx : Nat) : Kz := (m.mark f i).ledgerAct 6 kind idx
/-- R586: debug locks. -/
def debugLock (m : Kz) : Kz := { m with trust := { m.trust with debugLevel := 0, debugUntil := 0 } }
/-- What an accepted write does beside storing; `o` is what the register's stored bits held. -/
def regEffect (m : Kz) (k : RegKind) (i : Nat) (o w : Word) : Kz :=
  match k with
  | .TIM_MODE => let m := modeWritten m o w; if modeChange o w then tiuAbort m else m
  | .TIM_OVEN => override (ovenWritten m o w) F.MOD_AGE_STAT.OVR_OVEN 0 0 0
  | .TIM_HEARTH_TRIM => override (trimWritten m o) F.MOD_AGE_STAT.OVR_TRIM 0 0 0
  | .TIM_EPOCH_STAT => if F.TIM_EPOCH_STAT.HOST_EPOCH.of w = 1 then hostEpoch m else m
  | .TIM_TL_CFG => tlWritten m o w
  | .MOD_PATTERN => modPatternWritten m o
  | .MOD_MAP_CTRL => let m := decayWritten m i o w; if F.MOD_MAP_CTRL.CLR.of w = 1 then mapClear m i else m
  | .MOD_PRIM_CFG => primWritten m i w
  | .TIM_TIU_CFG => tiuCfgWritten m i w
  | .TIM_TIU_STAT => tiuStatCleared m i w
  | .TIM_TIU_ARM => tiuArm m w.toNat
  | .TIM_FREQ_CFG => freqWritten m w
  | .HK_CTRL => hkCtrlWritten m o w
  | .HOST_PORT_CFG =>
    if o = m.cfgWord .HOST_PORT_CFG i then m
    else m.modSess i (fun x => if x.isOpen then { x with resetDue := true } else x)
  | .MOD_DEBUG_STAT => if F.MOD_DEBUG_STAT.RELOCK.of w = 1 then debugLock m else m
  | .MOD_VIN => if F.MOD_VIN.CLR.of w = 1 then m.modPower (fun p => { p with vinMin := p.vinNow }) else m
  | .MOD_ERR_CTRL => if F.MOD_ERR_CTRL.FATAL_RESET.of w = 1 && m.errs.fatal then ownReset m 16 else m
  | .MOD_STAT_CTRL => statTimer m
  | .MOD_AGE_STAT =>
    if F.MOD_AGE_STAT.OVR_OVEN.of w = 1 || F.MOD_AGE_STAT.OVR_TRIM.of w = 1 then m.ledgerAct 6 0 0 else m
  | .DSI_CTRL => dsiCtrlWritten m w
  | .RGN_RAIL => override (railWritten m i o) F.RGN_AGE_STAT.OVR_RAIL i 2 i
  | .RGN_ROT_CTRL => override m F.RGN_AGE_STAT.OVR_STEP i 2 i
  | .RGN_SOFT_TRIG => softTrig m i (F.RGN_SOFT_TRIG.CH_MASK.of w)
  | .RGN_XQ_STAT => if F.RGN_XQ_STAT.CLR.of w = 1 then slackClear m i else m
  | .RGN_ACCQ_STAT => if F.RGN_ACCQ_STAT.CLR.of w = 1 then accqClear m i else m
  | .RGN_ACC_CLR => accClear m i (F.RGN_ACC_CLR.AVG_CLR.of w) (F.RGN_ACC_CLR.HIST_CLR.of w)
  | .RGN_RO_CTRL =>
    laneRetrain (laneEnable m i (F.RGN_RO_CTRL.LANE_EN.of o) (F.RGN_RO_CTRL.LANE_EN.of w)) i (F.RGN_RO_CTRL.RETRAIN.of w)
  | .RGN_RO_TEST => laneTest m i (F.RGN_RO_TEST.TEST_EN.of o) (F.RGN_RO_TEST.TEST_EN.of w)
  | .RGN_DAMPER => damperWritten m i o w
  | .RGN_AGE_STAT =>
    if F.RGN_AGE_STAT.OVR_RAIL.of w = 1 || F.RGN_AGE_STAT.OVR_STEP.of w = 1 then m.ledgerAct 6 2 i else m
  | .CH_FE_CTRL => if m.inRun (i / 16) then m else feSettleStart m i
  | .CH_CONV_CTRL =>
    let m := if F.CH_CONV_CTRL.MODE.of o = F.CH_CONV_CTRL.MODE.of w then m
      else assignIfDue (m.modConv i (fun v => { v with calDue := true })) i
    if F.CH_CONV_CTRL.STEP_NOW.of w = 1 then timerExpire m i else m
  | .CH_SLICE_HEALTH => healthChanged m i (F.CH_SLICE_HEALTH.RETIRED.of o) (F.CH_SLICE_HEALTH.RETIRED.of w)
  | .CH_INJ_CTRL => injEnWritten m i o w
  | .CH_CHAIN_CTRL => blFreezeWritten m i o w
  | .CH_TRIG_LEVEL_A => levelWritten m i false o
  | .CH_TRIG_LEVEL_B => levelWritten m i true o
  | .CH_TRIG_CTRL => if F.CH_TRIG_CTRL.ARM.of w = 1 then armWritten m i else m
  | _ => m

/-- The region that owns a register, where one does. -/
def ownerOf (k : RegKind) (i : Nat) : Option Nat :=
  match k.info.win with
  | .module => none
  | .region => some (i / k.info.cnt)
  | .channel => some (i / 16)
/-- R755: the write would change an RW-L field while the owning region is in RUN. -/
def lockedOut (m : Kz) (k : RegKind) (i : Nat) (w : Word) : Bool :=
  match ownerOf k i with
  | some r => m.inRun r && decide (w.toNat &&& k.info.rwl ≠ (m.cfgWord k i).toNat &&& k.info.rwl)
  | none => false
/-- R8, R10, R12, R718, R723, R727: the word stored: RW and RW-L bits in force, RW-S bits staged, W1C bits cleared. -/
def storeReg (m : Kz) (k : RegKind) (i : Nat) (w : Word) : Kz :=
  let f := k.info
  let m := if f.voted = 0 then m else { m with regs := { m.regs with cfgGen := (m.regs.cfgGen + 1) % 2 ^ 32 } }
  let m := if f.w1c = 0 then m else m.clearSeen k i (w.toNat &&& f.w1c)
  if f.rws ≠ 0 then
    { m with regs := { m.regs with staged := Sparse.set m.regs.staged (k.addr i) (BitVec.ofNat 32 (w.toNat &&& f.rws)),
                                   modPend := true } }
  else if f.rw ||| f.rwl = 0 then m
  else m.setCfg k i (BitVec.ofNat 32 (w.toNat &&& (f.rw ||| f.rwl)))
/-- A write of a register by a session that may make it (R718). HK_URGENT and DSI_COMMIT answer by rules of their own. -/
def writeReg (m : Kz) (k : RegKind) (i : Nat) (w : Word) : PairEnd × Kz :=
  if lockedOut m k i w then (.refused .locked, m)
  else match k with
  | .HK_URGENT => match hkUrgent m w with | (some s, m) => (.refused s, m) | (none, m) => (.ok, m)
  | .DSI_COMMIT => match dsiGo m w with
    | (.refuse s, m) => (.refused s, m)
    | (.ends, m) => (.ok, m)
    | (.waits, m) => (.waits .compose, m)
  | _ => match regCheck m k i w with
    | some s => (.refused s, m)
    | none => (.ok, regEffect (storeReg m k i w) k i (m.cfgWord k i) w)

/-! ### Writes -/

/-- A word stored in an addressed memory. -/
def storeMem (m : Kz) (a : Nat) (w : Nat) : Kz := { m with mem := m.mem.writes a (be 4 w) }
/-- A write of a place whose lease the session holds. -/
def writePlace (m : Kz) (a : Nat) (p : Place) (w : Word) : PairEnd × Kz :=
  let k := (regionOf a).getD 12
  let down : Bool := m.rstate k = .down && decide (k < 12)
  let nowhere : PairEnd × Kz := (.refused .badAddress, addrFault m a true)
  match p with
  | .reg k i => writeReg m k i w
  | .gap | .stat _ | .bin _ _ | .histWord _ | .cell _ _ => nowhere
  | .colour => (.ok, storeMem m a w.toNat)
  | .frame b =>
    if b = m.dsi.front then (.refused .locked, m)
    else if m.dsi.pending || m.dsi.pass.isSome then (.refused .dsiBusy, m)
    else (.ok, storeMem m a w.toNat)
  | .avgSum _ _ | .avgWord _ _ | .aperture _ _ | .program _ _ | .lut _ _ | .descriptor _ _ =>
    if down then (.refused .regionDown, m) else nowhere
  | .maskPoint k second =>
    if down then (.refused .regionDown, m)
    else if m.inRun k then (.refused .locked, m)
    else (.ok, storeMem m a (if second then w.toNat else w.toNat / 65536 * 65536))
  | .data c d =>
    if down then (.refused .regionDown, m)
    else if d < 0x7C00 && m.inRun (c / 16) then (.refused .locked, m)
    else (.ok, storeMem m a w.toNat)
/-- One pair of a REG_WRITE: the address, the lease, the wait for a restarting region, the place (R534, R629, R713). -/
def writeWord (m : Kz) (held : List Lease) (a : Nat) (w : Word) : PairEnd × Kz :=
  match placeOf a with
  | none => (.refused .badAddress, addrFault m a true)
  | some p => if covers held (leaseFor a) then writePlace m a p w else (.refused .noLease, m)
/-- R629: the region an access has to wait for. -/
def restartOf (m : Kz) (a : Nat) : Option Nat :=
  match regionOf a with
  | some k => if (m.rgn k).err.restarting && (placeOf a).isSome then some k else none
  | none => none

/-! ### Commits (R720 to R723, R729) -/

/-- The lease of a commit block, or none where kind or index is out of range. -/
def blockLease (kind idx : Nat) : Option Lease :=
  match kind with
  | 0 => some .module
  | 1 => if idx < 12 then some (.region idx) else none
  | 2 => if idx < 192 then some (.channel idx) else none
  | _ => none
/-- The words of the timing block as staged. -/
def stagedTiming (m : Kz) : List Word := dsiTimingKinds.map (fun k => Sparse.get (m.cfgWord k 0) m.regs.staged (k.addr 0))
/-- R721: every staged value of the module block applied. -/
def applyStaged (m : Kz) : Kz :=
  let w := stagedTiming m
  let m := (dsiTimingKinds.zip w).foldl (fun (m : Kz) (x : RegKind × Word) => m.setCfg x.1 0 x.2) m
  let m := { m with regs := { m.regs with staged := [], modPend := false, cfgGen := (m.regs.cfgGen + 1) % 2 ^ 32,
                                          commitSeq := (m.regs.commitSeq + 1) % 65536 } }
  dsiCommitted m w
/-- A COMMIT: its status and what it does. -/
def commit (m : Kz) (held : List Lease) (kind idx : Nat) : Status × Kz :=
  let (s, m) : Status × Kz := match blockLease kind idx with
    | none => (.badValue, m)
    | some l =>
      if !covers held l then (.noLease, m)
      else if kind ≠ 0 || !m.regs.modPend then (.ok, m)
      else if m.dsi.state ≠ .off && !timingOk (m.on F.DSI_CTRL.MODE 0) (stagedTiming m) then (.badValue, m)
      else (.ok, applyStaged m)
  (s, { m with regs := { m.regs with commitKind := kind % 4, commitStatus := s.code % 256 } })

end Sys2Proof.Machine
end

