-- ==== Sys2Proof/Machine/Firmware.lean ====
section
/-! DEFINITION. Supervisor pairs, firmware images and slots, boot, owner keys, identity, the measurement chain,
signed blocks and debug (R552 to R581, R601, R760). -/
namespace Sys2Proof.Machine

/-- A part of the firmware's and of the trust state changed. -/
def modFw (m : Kz) (f : Firmware → Firmware) : Kz := { m with fw := f m.fw }
def modTrust (m : Kz) (f : Trust → Trust) : Kz := { m with trust := f m.trust }
/-- A byte string of exactly `n` bytes. -/
def fit (n : Nat) (l : List Byte) : List Byte := (padTo n l).take n

/-! ### Measurement chain (R576) -/

/-- An event: type, argument, digest. -/
def chainEvent (kind : Nat) (arg : List Byte) (digest : BitVec 512) : List Byte :=
  be 1 kind ++ fit 3 arg ++ be 4 0 ++ be 64 digest.toNat
/-- The chain extended by an event; the log keeps the first 1,024. -/
def extend (m : Kz) (kind : Nat) (arg : List Byte) (digest : BitVec 512) : Kz :=
  let e := chainEvent kind arg digest
  modTrust m (fun t => { t with
    chain := Config.sha512 (be 64 t.chain.toNat ++ e),
    events := if t.events.length < 1024 then t.events ++ [e] else t.events,
    logFull := t.logFull || decide (1024 ≤ t.events.length) })

/-! ### Images and slots (R559 to R565) -/

/-- Size of a firmware area and of the configuration area (R558). -/
def fwSize : Nat := 4194304
def cfgSize : Nat := 1048576
/-- R561: an image in a firmware area: its fields, and whether steps 1 to 5 hold. -/
def verifyArea (a : Mem) : ImageInfo :=
  let b := a.word 16 4
  let digest := Config.sha512 (a.reads 0 (128 + b))
  let ed := a.reads (192 + b) 32
  let ml := a.reads (224 + b) 1952
  let d := be 64 digest.toNat
  let form := a.word 0 4 = 0x4B5A4657 && a.word 4 2 = 1 && decide (a.word 6 2 ≤ 1) && decide (a.word 12 1 ≤ 64)
    && decide (5549 + b ≤ fwSize) && decide (a.word 20 4 < b)
  { valid := form && Config.sha512 ed == Config.vendorEdHash && Config.sha512 ml == Config.vendorMlHash
      && a.word (128 + b) 64 = digest.toNat && Config.ed25519Verify ed d (a.reads (2176 + b) 64)
      && Config.mldsaVerify ml d (a.reads (2240 + b) 3309),
    version := BitVec.ofNat 32 (a.word 8 4), sv := a.word 12 1, advance := a.word 6 2 % 2 = 1, digest := digest }
/-- The contents of a firmware area. -/
def areaOf (f : Firmware) (i : Nat) : Mem := if i = 0 then f.area0 else f.area1
/-- What the area of an image holds: what was written into it, or what the flash came with. -/
def imageIn (m : Kz) (area : Nat) (img : ImageInfo) : ImageInfo :=
  if (areaOf m.fw area).isEmpty then img else verifyArea (areaOf m.fw area)
/-- R561 step 6 with the rest: the image verifies. -/
def verifies (m : Kz) (img : ImageInfo) : Bool := img.valid && decide (m.trust.counter ≤ img.sv)
/-- R559: an update of the boot configuration block writes the older copy. -/
def writeBlock (f : Firmware) (areaA : Nat) (trial : Bool) : Firmware :=
  let b := bootBlock f
  let n : BootBlock := ⟨b.seq + 1, areaA, trial, b.qspi⟩
  match f.block0, f.block1 with
  | some x, some y => if x.seq < y.seq then { f with block0 := some n } else { f with block1 := some n }
  | some _, none => { f with block1 := some n }
  | none, _ => { f with block0 := some n }
/-- R564: the start of a boot attempt: a trial image whose attempt failed is demoted. -/
def startAttempt (m : Kz) : Kz :=
  let b := bootBlock m.fw
  let m := modFw m (fun f => { f with booting := none, aRefused := false, bRefused := false, demoted := none })
  if b.trial && decide (0 < m.fw.failsA) then
    modFw m (fun f => { writeBlock f (1 - b.areaA) false with
      demoted := some f.failed, failsA := 0, aRefused := true })
  else m
/-- RESET_RELEASE (R590, R593, R594, R601, R702): VIN is above 4.25 V and OFF is left for BOOT; the rails are up and PG goes high. With
TEST_EN high the module stays in OFF (R739). -/
def resetRelease (m : Kz) (testEn : Bool) (vin : Nat) : Kz :=
  let m := m.modPower (fun p => { p with testEn := testEn })
  if m.pwr.state = .off && !testEn && decide (425 < vin) then
    let m := m.modPower (fun p => { p with state := .boot, pg := true, nReset := true, resetComparator := false })
    startAttempt (modFw m (fun f => { f with released := m.now.ns }))
  else m
/-- The area that a slot is read from in the present attempt: a demotion boots the area that slot B was mapped to. -/
def attemptArea (f : Firmware) (slot : Nat) : Nat := if f.demoted.isSome then slotArea f 0 else slotArea f slot
/-- The identity keys of the certificate, Ed25519 and ML-DSA-65 (R575). -/
def certEd : List Byte := slice Config.certificate 20 32
def certMl : List Byte := slice Config.certificate 52 1952
/-- IDENT_OK: the derived keys are those of the certificate (R574). -/
def identMatch (k : IdentKeys) : Bool := decide (k.ed = certEd) && decide (k.ml = certMl)
/-- BOOT_SLOT_VERIFIED (R562 to R564): `img` is what the flash came with in the slot's area, `keys` the identity
keys derived from the seed, which are compared with the certificate (R574). -/
def slotVerified (m : Kz) (slot : Nat) (img : ImageInfo) (keys : IdentKeys) : Kz :=
  let due := if m.fw.aRefused then 1 else 0
  if m.pwr.state ≠ .boot || m.fw.booting.isSome || slot ≠ due then m
  else
    let m := if m.trust.events.isEmpty then
        extend (modTrust m (fun t => { t with identOk := identMatch keys })) 1 [] Config.romDigest
      else m
    let area := attemptArea m.fw slot
    let g := imageIn m area img
    let skip := if slot = 0 then decide (2 ≤ m.fw.failsA) else decide (2 ≤ m.fw.failsB)
    if skip || !verifies m g then
      if slot = 0 then modFw m (fun f => { f with aRefused := true })
      else (modFw m (fun f => { f with bRefused := true, runSlot := 3, onTrial := false })).modPower
        (fun p => { p with state := .recovery })
    else
      let m := extend m 2 [0, BitVec.ofNat 8 slot, BitVec.ofNat 8 g.sv] g.digest
      let m := extend m 3 [] (Config.sha512 (m.fw.cfgArea.reads 0 cfgSize))
      modFw m (fun f => { f with booting := some (slot, g), runArea := area, started := m.now.ns })
/-- BOOT_ATTEMPT_TIMEOUT (R564): firmware has not reached STANDBY 2 s after its start; the ROM tries again. -/
def attemptTimeout (m : Kz) : Kz :=
  if m.pwr.state = .boot && m.fw.booting.isSome && decide (m.fw.started + 2000000000 ≤ m.now.ns) then
    startAttempt (modFw m attemptFails)
  else m
/-- ACTIVATION_RESET (R569): 100 ms after the activation. -/
def activationReset (m : Kz) : Kz :=
  match m.fw.activationDue with
  | some d => if d ≤ m.now.ns then ownReset m 8 else m
  | none => m

/-! ### Reaching STANDBY (R562, R565, R666, R703, R760) -/

/-- The record or checkpoint with the highest number. -/
def newestRecord (m : Kz) : Option LedgerRec :=
  (m.age.ckpt ++ m.age.recs).foldl (fun (a : Option LedgerRec) (p : Nat × LedgerRec) =>
    match a with | some r => if r.num < p.2.num then some p.2 else a | none => some p.2) none
/-- A firmware write of a field (R625). -/
def restoreFld (m : Kz) (f : Field) (i v : Nat) : Kz := m.setFld f i v
/-- An override bit restored. -/
def restoreBit (m : Kz) (f : Field) (i : Nat) (b : Bool) : Kz := if b then m.mark f i else m
/-- R666, R671: what the newest record restores. -/
def restoreLedger (m : Kz) : Kz :=
  match newestRecord m with
  | none => m
  | some r =>
    let f (o n : Nat) : Nat := ofBe (slice r.bytes o n)
    let m := modAge m (fun a => { a with hours := f 12 4 })
    let m := restoreFld (restoreFld m F.TIM_HEARTH_TRIM.TRIM 0 (f 0x20 4)) F.TIM_OVEN.SETPOINT 0 (f 0x24 1)
    let m := restoreBit (restoreBit m F.MOD_AGE_STAT.OVR_OVEN 0 (f 0x25 1 % 2 = 1)) F.MOD_AGE_STAT.OVR_TRIM 0 (f 0x25 1 / 2 % 2 = 1)
    let m := m.eachRgn (fun m k =>
      let o := 0x80 + 0x100 * k
      let m := restoreFld (restoreFld m F.RGN_RAIL.TARGET_MV k (f o 2)) F.RGN_ROT_CTRL.STEP k (f (o + 2) 2)
      restoreBit (restoreBit m F.RGN_AGE_STAT.OVR_RAIL k (f (o + 4) 1 % 2 = 1)) F.RGN_AGE_STAT.OVR_STEP k (f (o + 4) 1 / 2 % 2 = 1))
    let m := (upTo 5).foldl (fun (m : Kz) (d : Nat) =>
      let a := f (0xC80 + 8 * d) 4
      let b := f (0xC84 + 8 * d) 4
      modAge m (fun g => { g with
        doseBy := Sparse.set (Sparse.set g.doseBy (2 * d) a) (2 * d + 1) b,
        dose := g.dose.zipIdx.map (fun p => if p.2 = d then (2, if a ≤ 10000 then a else b) else p.1) })) m
    (upTo 192).foldl (fun (m : Kz) (c : Nat) =>
      let ret := f (0xD00 + 24 * c) 2 % 512
      let wear := f (0xD02 + 24 * c) 2 % 512
      let m := if ret = 0 then m else assignIfDue (restoreFld m F.CH_SLICE_HEALTH.RETIRED c ret) c
      if wear = 0 then m else modAge m (fun a => { a with wear := Sparse.set a.wear c wear })) m
/-- R519, R520: what the configuration gives each port: a UDP port of 0 leaves the default. -/
def restorePorts (m : Kz) (net : List PortNet) : Kz :=
  (net.zipIdx.take 4).foldl (fun (m : Kz) (x : PortNet × Nat) =>
    let m := m.modPort x.2 (fun q => { q with ipv4 := x.1.ipv4, ipv6 := x.1.ipv6 })
    if x.1.udp = 0 then m else m.setFld F.HOST_PORT_CFG.UDP_PORT x.2 x.1.udp.toNat) m
/-- R565: an image on trial that reaches STANDBY is confirmed, and may advance the counter. -/
def confirmTrial (m : Kz) (g : ImageInfo) : Kz :=
  let m := modFw m (fun f => writeBlock f (bootBlock f).areaA false)
  if g.advance && decide (m.trust.counter < g.sv) then modTrust m (fun t => { t with counter := g.sv }) else m
/-- R703: housekeeping references and sensor boundaries as firmware leaves them. -/
def standbyUnits (m : Kz) : Kz :=
  let m := m.setFld F.HK_CTRL.REFBUF_EN_A 0 1
  let m := m.setFld F.HK_CTRL.REFBUF_EN_B 0 1
  let m := modHk m (fun h => { h with a := { h.a with settled := true }, b := { h.b with settled := true } })
  (upTo 24).foldl (fun (m : Kz) (n : Nat) => modSns m n (fun x => { x with last := m.now.ns })) m
/-- BOOT_REACH_STANDBY: `net` is what the configuration gives (empty where it fails its check), `b` what the flash came
with in slot B's area. -/
def reachStandby (m : Kz) (net : List PortNet) (b : ImageInfo) : Kz :=
  match m.pwr.state, m.fw.booting with
  | .boot, some (slot, g) =>
    if m.fw.started + 2000000000 < m.now.ns then m
    else
      let trial := (bootBlock m.fw).trial && slot = 0
      let m := modFw m (fun f => { f with
        booting := none, runSlot := slot, runImage := g, onTrial := trial,
        bootMs := (m.now.ns - f.released) / 1000000 % 65536,
        failsA := if slot = 0 then 0 else f.failsA, failsB := if slot = 1 then 0 else f.failsB })
      let m := if trial then confirmTrial m g else m
      let other := imageIn m (slotArea m.fw 1) b
      let m := modFw m (fun f => { f with
        bRefused := slot = 0 && !verifies m other, bRollback := other.valid && decide (other.sv < m.trust.counter) })
      let m := match m.fw.demoted with
        | some v => (m.mark F.MOD_BOOT_STAT.TRIAL_FAIL_SEEN 0).logE 0x0602 0 0 0 0 v.toNat
        | none => m
      let m := restorePorts (standbyUnits (restoreLedger m)) net
      let m := m.modTb (fun x => { x with
        tb := .tracking, synLocked := true, trimFrom := sext 24 (m.fld F.TIM_HEARTH_TRIM.TRIM 0), trimAt := m.now.ns })
      let m := modAge m (fun a => { a with poweredFrom := some m.now.ns })
      -- the datum count counts from here on (R138); the first origin is a whole multiple of 4,096 ticks, as R133 has it (entry 108)
      let m := m.modTb (fun x => { x with origin := ceilTo m.now.tick 4096, prevOrigin := ceilTo m.now.tick 4096 })
      let m := { m with stats := { m.stats with timerFrom := m.now.ns } }
      let m := timeFlags (m.modPower (fun p => { p with state := .standby }))
      if m.pwr.ovNow || m.pwr.thermNow then
        moduleHold m (fun p => { p with causeOv := p.causeOv || p.ovNow, causeThermal := p.causeThermal || p.thermNow })
      else m
  | _, _ => m

/-! ### Supervisor pairs (R554 to R557) -/

/-- Whether the pairs run: from the start of firmware on. -/
def pairsRun (m : Kz) : Bool := powered m.pwr.state || (decide (m.pwr.state = .boot) && m.fw.booting.isSome)
/-- R557: every request in execution ends with SUPERVISOR_RESTART. -/
def restartEnds (m : Kz) : Kz :=
  (upTo 4).foldl (fun (m : Kz) (p : Nat) =>
    let m := m.modPort p (fun q => { q with orphans := [] })
    match (m.port p).session.running with
    | some r =>
      let d : Detail := match r.req with | .regWrite _ => ⟨3, r.from_⟩ | _ => noDetail
      endRunning m p { status := .supervisorRestart, detail := d }
    | none => m) m
/-- R554 to R556: a pair restarts, by divergence or watchdog; the second restart within 1 s is MODULE_FATAL. -/
def pairRestart (m : Kz) (second : Bool) : Kz :=
  if !pairsRun m then m
  else
    let i := b2n second
    let near (t : Option Nat) : Bool := match t with | some x => decide (m.now.ns < x + 1000000000) | none => false
    let fatal := near m.sup.last0 || near m.sup.last1
    let m := (m.count .MOD_LOCKSTEP_ERR 0 1).mark (if second then F.MOD_SUP_STAT.PAIR1_ERR_SEEN else F.MOD_SUP_STAT.PAIR0_ERR_SEEN) 0
    let m := m.logE 0x0601 2 0 0 0 i
    let m := { m with sup := if second then { m.sup with restarting1 := true, last1 := some m.now.ns }
                             else { m.sup with restarting0 := true, last0 := some m.now.ns } }
    let m := if second then m else restartEnds m
    if fatal then moduleFatal m 1 else m
/-- PAIR_RESTART_DONE: the pair is back at its warm entry. -/
def pairBack (m : Kz) (second : Bool) : Kz :=
  { m with sup := if second then { m.sup with restarting1 := false } else { m.sup with restarting0 := false } }

/-! ### Nonces and signed blocks (R544, R573, R581) -/

/-- A nonce is valid for 60 s. -/
def nonceLife : Nat := 60000000000
/-- CHALLENGE and DBG_NONCE: the next nonce. -/
def newNonce (m : Kz) : Nonce × Kz :=
  (⟨fit 32 (Config.nonce m.trust.nonces), m.now.ns⟩, modTrust m (fun t => { t with nonces := t.nonces + 1 }))
/-- A signed block's fields. -/
structure Signed where
  op : Nat
  slot : Nat
  nonce : List Byte
  binding : List Byte
  arg : List Byte
  covered : List Byte
  ed : List Byte
  ml : List Byte
  block : List Byte
  deriving DecidableEq, Repr
/-- A block laid out as R544 gives: none where its magic or length is wrong. -/
def parseSigned (b : List Byte) : Option Signed :=
  let n := ofBe (slice b 6 2)
  if ofBe (slice b 0 4) ≠ 0x4B5A5347 || b.length ≠ 72 + n + 64 + 3309 then none
  else some ⟨ofBe (slice b 4 1), ofBe (slice b 5 1), slice b 8 32, slice b 40 32, slice b 72 n, b.take (72 + n),
             slice b (72 + n) 64, slice b (136 + n) 3309, b⟩
/-- An owner-key slot. -/
def ownerSlot (t : Trust) (i : Nat) : OwnerSlot := if i = 0 then t.owner0 else if i = 1 then t.owner1 else {}
def setOwner (t : Trust) (i : Nat) (o : OwnerSlot) : Trust := if i = 0 then { t with owner0 := o } else { t with owner1 := o }
/-- The first 32 bytes of the SHA-512 of the module's identity key (R544), which SIGNED needs to be the certificate's (R574). -/
def deviceBinding : List Byte := (be 64 (Config.sha512 certEd).toNat).take 32
/-- Whether a key pair signs a block. -/
def signs (ed ml : List Byte) (g : Signed) : Bool := Config.ed25519Verify ed g.covered g.ed && Config.mldsaVerify ml g.covered g.ml
/-- R544, R573: both signatures verify with keys the module may use. -/
def sigOk (t : Trust) (g : Signed) : Bool :=
  let o := ownerSlot t g.slot
  let first := t.owner0.state = .empty && t.owner1.state = .empty && g.slot = 0 && g.op = 2 &&
    g.arg.take 2 = [1, 0] && g.arg.length = 1988
  if first then signs (slice g.arg 4 32) (slice g.arg 36 1952) g
  else o.state = .active && Config.sha512 o.edKey == o.edHash && Config.sha512 o.mlKey == o.mlHash && signs o.edKey o.mlKey g
/-- R569: the activation of slot B's image, once its conditions hold. -/
def activate (m : Kz) : Status × Kz :=
  if m.pwr.state ≠ .recovery && m.regionsBusy then (.regionsNotIdle, m)
  else (.ok, modFw m (fun f => { writeBlock f (1 - (bootBlock f).areaA) true with activationDue := some (m.now.ns + 100000000) }))
/-- Operation 0x01. -/
def opActivate (m : Kz) (g : Signed) : Status × Kz :=
  if g.arg.length ≠ 64 then (.badValue, m)
  else match m.fw.verified with
    | some i => if i.digest.toNat = ofBe g.arg then activate m else (.notVerified, m)
    | none => (.notVerified, m)
/-- Operation 0x02 (R572). -/
def opOwner (m : Kz) (g : Signed) : Status × Kz :=
  let action := ofBe (slice g.arg 0 1)
  let slot := ofBe (slice g.arg 1 1)
  let o := ownerSlot m.trust slot
  let event (m : Kz) : Kz := extend m 6 [BitVec.ofNat 8 action, BitVec.ofNat 8 slot] (Config.sha512 g.block)
  if action = 1 && g.arg.length = 1988 then
    if 1 < slot || o.state ≠ .empty then (.ownerSlot, m)
    else
      let ed := slice g.arg 4 32
      let ml := slice g.arg 36 1952
      (.ok, event (modTrust m (fun t => setOwner t slot ⟨.active, Config.sha512 ed, Config.sha512 ml, ed, ml⟩)))
  else if action = 2 && g.arg.length = 4 then
    if 1 < slot || o.state ≠ .active then (.ownerSlot, m)
    else if (ownerSlot m.trust (1 - slot)).state ≠ .active then (.lastOwner, m)
    else (.ok, event (modTrust m (fun t => setOwner t slot { o with state := .revoked })))
  else (.badValue, m)
/-- Operation 0x03 (R580). -/
def opDebug (m : Kz) (g : Signed) : Status × Kz :=
  let level := ofBe (slice g.arg 0 1)
  let mins := ofBe (slice g.arg 2 2)
  if g.arg.length ≠ 4 || level = 0 || 2 < level || mins = 0 || 1440 < mins then (.badValue, m)
  else (.ok, extend (modTrust m (fun t => { t with debugLevel := level, debugUntil := m.now.ns + mins * 60000000000 }))
    5 [BitVec.ofNat 8 level] (Config.sha512 g.block))
/-- The operations that a signed block may name: all of them, or the one JTAG takes. -/
inductive SignedOps where
  | all | debug
  deriving DecidableEq, Repr
/-- R544: the checks of a signed block against a nonce, in their order, and its operation. -/
def runSigned (m : Kz) (nonce : Option Nonce) (b : List Byte) (may : SignedOps) : Status × Kz :=
  if !m.trust.identOk then (.identFault, m)
  else match parseSigned b with
  | none => (.badValue, m)
  | some g =>
    let fresh := match nonce with | some n => n.bytes = g.nonce && decide (m.now.ns < n.issued + nonceLife) | none => false
    if !fresh then (.nonceInvalid, m)
    else if g.binding ≠ deviceBinding then (.bindingMismatch, m)
    else if !sigOk m.trust g then (.sigInvalid, m)
    else match g.op with
      | 1 => if may = .debug then (.badValue, m) else opActivate m g
      | 2 => if may = .debug then (.badValue, m) else opOwner m g
      | 3 => opDebug m g
      | _ => (.badValue, m)
/-- R544: every attempt writes an event-log entry. -/
def signedLog (m : Kz) (b : List Byte) (st : Status) : Kz :=
  m.logE 0x0503 0 0 0 0 (ofBe (slice b 4 1) * 256 + st.code % 256)
/-- SIGNED in a session (its nonce is used up); in RECOVERY any operation but 0x01 is no request that is accepted (R545). -/
def signedCmd (m : Kz) (p off len : Nat) : Status × Kz :=
  let x := (m.port p).session
  if 131072 < off + len then (.badValue, m)
  else
    let b := x.staging.reads off len
    if m.pwr.state = .recovery && ofBe (slice b 4 1) ≠ 1 then (.notInRecovery, m)
    else
      let m := m.modSess p (fun x => { x with nonce := none })
      let (st, m) := runSigned m x.nonce b .all
      (st, signedLog m b st)
/-- The data registers of the JTAG port (R579). -/
inductive JtagReg where
  | idcode | boundaryScan | debug
  deriving DecidableEq, Repr
/-- What a JTAG data register reads as: IDCODE and boundary scan always, a debug instruction's 0 while debug is locked (R579). -/
def jtagData (m : Kz) : JtagReg → Nat
  | .idcode => Config.idcode.toNat
  | .boundaryScan => m.trust.scanData
  | .debug => if m.trust.debugLevel = 0 then 0 else m.trust.debugData
/-- DBG_NONCE and DBG_TOKEN (R581). -/
def dbgNonce (m : Kz) : Kz :=
  if m.pwr.state = .off then m
  else
    let (n, m) := newNonce m
    (modTrust m (fun t => { t with jtagNonce := some n })).emit (.jtagNonce n.bytes)
def dbgToken (m : Kz) (b : List Byte) : Kz :=
  if m.pwr.state = .off then m
  else
    let n := m.trust.jtagNonce
    let (st, m) := runSigned (modTrust m (fun t => { t with jtagNonce := none })) n b .debug
    (signedLog m b st).emit (.jtagStatus st)
/-- NONCE_EXPIRY: of a session's nonce, or of the JTAG port's. -/
def nonceExpiry (m : Kz) (p : Option Nat) : Kz :=
  let keep (n : Option Nonce) : Option Nonce :=
    match n with | some x => if x.issued + nonceLife ≤ m.now.ns then none else n | none => none
  match p with
  | some p => m.modSess p (fun x => { x with nonce := keep x.nonce })
  | none => modTrust m (fun t => { t with jtagNonce := keep t.jtagNonce })
/-- DEBUG_EXPIRY (R580). -/
def debugExpiry (m : Kz) : Kz :=
  if m.trust.debugLevel ≠ 0 && decide (m.trust.debugUntil ≤ m.now.ns) then debugLock m else m

/-! ### Firmware update (R566 to R570) -/

/-- The area that a chunk's target names: the firmware area mapped to slot B, or the configuration area. -/
def targetArea (m : Kz) (target : Nat) : Mem := if target = 0 then areaOf m.fw (slotArea m.fw 1) else m.fw.cfgArea
def setTarget (m : Kz) (target : Nat) (a : Mem) : Kz :=
  modFw m (fun f => if target = 1 then { f with cfgArea := a }
    else if slotArea f 1 = 0 then { f with area0 := a } else { f with area1 := a })
def writePtr (m : Kz) (target : Nat) : Nat := if target = 0 then m.fw.fwPtr else m.fw.cfgPtr
def setPtr (m : Kz) (target v : Nat) : Kz := modFw m (fun f => if target = 0 then { f with fwPtr := v } else { f with cfgPtr := v })
/-- The sectors whose start the write pointer reaches while `n` bytes are written from `off` on. -/
def newSectors (off n : Nat) : List Nat := (upTo 64).filter (fun i => decide (off ≤ i * 65536) && decide (i * 65536 < off + n))
/-- R567: a chunk is checked and written; whether a sector was erased. -/
def chunkWrite (m : Kz) (off target flags : Nat) (data : List Byte) : Except Status Bool × Kz :=
  if 1 < target || data.isEmpty || 1204 < data.length then (.error .badValue, m)
  else
    let m := if flags.testBit 0 then
        let m := setPtr m target 0
        if target = 0 then modFw m (fun f => { f with verified := none }) else m
      else m
    let size := if target = 0 then fwSize else cfgSize
    if off ≠ writePtr m target then (.error .chunkOffset, m)
    else if size < off + data.length then (.error .badValue, m)
    else
      let s := newSectors off data.length
      let a := s.foldl (fun (a : Mem) (i : Nat) => a.clear (i * 65536) 65536) (targetArea m target)
      (.ok (!s.isEmpty), setPtr (setTarget m target (a.writes off data)) target (off + data.length))
/-- The body of the response to a last chunk of a firmware image (R568). -/
def imageBody (g : ImageInfo) : List Byte := be 4 g.version.toNat ++ be 1 g.sv ++ be 3 0 ++ be 64 g.digest.toNat
/-- R568, R570: what follows the write of a chunk with LAST. -/
def chunkLast (m : Kz) (target flags : Nat) : Answer × Kz :=
  if !flags.testBit 1 then ({ status := .ok }, m)
  else if target = 1 then
    let n := m.fw.cfgPtr
    if 4 ≤ n && m.fw.cfgArea.word (n - 4) 4 = crc32c (m.fw.cfgArea.reads 0 (n - 4)) then ({ status := .ok }, m)
    else ({ status := .badValue }, m)
  else
    let g := verifyArea (targetArea m 0)
    if !g.valid then ({ status := .imageInvalid }, m)
    else if g.sv < m.trust.counter then ({ status := .rollback }, m)
    else
      let m := modFw m (fun f => { f with verified := some g })
      if !flags.testBit 2 then ({ status := .ok, body := imageBody g }, m)
      else if m.trust.owner0.state = .active || m.trust.owner1.state = .active then ({ status := .ownerRequired }, m)
      else
        let (st, m) := activate m
        ({ status := st, body := if st = .ok then imageBody g else [] }, m)

/-! ### Attestation (R575, R577, R578) -/

/-- A quote for a nonce. -/
def quoteOf (m : Kz) (nonce : List Byte) : List Byte :=
  let t := m.trust
  let b := be 4 0x4B5A5154 ++ be 2 1 ++ be 1 (b2n t.logFull + 2 * b2n (t.debugLevel != 0)) ++ be 1 0 ++ fit 32 nonce
    ++ be 64 t.chain.toNat ++ be 8 m.datum ++ be 4 m.fw.runImage.version.toNat ++ be 4 t.events.length ++ t.events.flatten
  b ++ fit 64 (Config.ed25519Sign b) ++ fit 3309 (Config.mldsaSign b)
/-- ATTEST. -/
def attest (m : Kz) (p : Nat) (nonce : List Byte) (obj part : Nat) : Answer × Kz :=
  if !m.trust.identOk then ({ status := .identFault }, m)
  else if 1 < obj then ({ status := .badValue }, m)
  else
    let old := (m.port p).session.quote
    let known := match old with | some q => q.2 = nonce | none => false
    let m := if obj = 0 && !known then m.modSess p (fun x => { x with quote := some (quoteOf m nonce, nonce) }) else m
    let b := if obj = 1 then fit 5377 Config.certificate else ((m.port p).session.quote.map (fun q => q.1)).getD []
    let parts := (b.length + 1199) / 1200
    if parts ≤ part then ({ status := .badValue }, m)
    else ({ status := .ok, body := be 4 b.length ++ be 1 parts ++ be 3 0 ++ slice b (1200 * part) 1200 }, m)

end Sys2Proof.Machine
end

