-- ==== Sys2Proof/Machine/Host.lean ====
section
/-! DEFINITION. Host ports and sessions: judging of messages, the request mailbox, execution of requests in turn,
acknowledgements, notifications and rejections (R518 to R545, R629, R646, R668). -/
namespace Sys2Proof.Machine

/-! ### Messages (R521, R522, R527, R537) -/

/-- The body of a request, as the chapters lay it out. -/
def bodyBytes : Request → List Byte
  | .nop | .closeSession | .statBoundary | .challenge => []
  | .openSession lo hi timeout mask => [lo, hi] ++ be 2 timeout.toNat ++ be 4 mask.toNat
  | .leaseAcquire k i | .leaseRelease k i | .leaseQuery k i | .commit k i => [k, 0] ++ be 2 i.toNat
  | .subscribe mask => be 4 mask.toNat
  | .regRead l => be 2 l.length ++ l.flatMap (fun a => be 4 a.toNat)
  | .regWrite l => be 2 l.length ++ l.flatMap (fun x => be 4 x.1.toNat ++ be 4 x.2.toNat)
  | .blockRead a n => be 4 a.toNat ++ be 2 n.toNat
  | .moduleState t => [t]
  | .regionState k t => [k, t]
  | .channelRestart c => be 2 c.toNat ++ be 2 0
  | .stageWrite off d => be 4 off.toNat ++ d
  | .engLoad k mask off len => [k, 0] ++ be 2 mask.toNat ++ be 4 off.toNat ++ be 4 len.toNat
  | .logRead src n first => [src, n] ++ be 2 0 ++ be 4 first.toNat
  | .ledgerRead n part => be 4 n.toNat ++ [part] ++ be 3 0
  | .attest n obj part => n ++ [obj, part] ++ be 2 0
  | .signed off len => be 4 off.toNat ++ be 4 len.toNat
  | .fwChunk off target flags d => be 4 off.toNat ++ [target, flags] ++ be 2 0 ++ d
  | .unknown _ b => b
/-- R522: the digest of a request: command, status 0, length, body. -/
def digestOf (r : Request) : Nat :=
  let b := bodyBytes r
  crc32c (be 2 (cmdCode r) ++ be 2 0 ++ be 2 b.length ++ b)
/-- The first version that has a command (R527, R537). -/
def sinceVersion : Request → Nat
  | .leaseQuery .. => 0x31
  | .stageWrite .. | .engLoad .. | .ledgerRead .. | .attest .. | .challenge | .signed .. | .fwChunk .. => 0x30
  | _ => 0x20
/-- R523: a typed request that is malformed all the same: it does not fit a message, a fixed field has another size,
or a reserved bit is set. -/
def malformedBody (r : Request) : Bool :=
  decide (1212 < (bodyBytes r).length) || (match r with
    | .attest n _ _ => n.length != 32
    | .fwChunk _ _ flags _ => decide (8 ≤ flags.toNat)
    | _ => false)

/-! ### Rejections (R532) -/

/-- Where a message that arrives was received (R520). -/
def viaOf (m : Kz) (h : Hdr) : Via := ⟨h.addr, m.fld F.HOST_PORT_CFG.UDP_PORT h.port.val⟩
/-- The header of the answer to a message: with no session open its own version byte comes back (entry 110). -/
def answerHead (m : Kz) (h : Hdr) : Head :=
  let s := (m.port h.port.val).session
  ⟨viaOf m h, if s.isOpen then s.version.toNat else h.version.toNat, h.session.toNat⟩
/-- A rejection: counted; sent unless the port has sent REJ_RATE in this second; logged once a second for each status. -/
def reject (m : Kz) (h : Hdr) (cmd : Nat) (st : Status) : Kz :=
  let p := h.port.val
  let sec := m.now.ns / 1000000000
  let m := m.count .HOST_REJECT p 1
  let m := if (m.port p).rejSecond = sec then m
    else m.modPort p (fun q => { q with rejSecond := sec, rejSent := 0, rejLogged := [] })
  let q := m.port p
  let m := if q.rejLogged.contains st then m
    else (m.modPort p (fun q => { q with rejLogged := st :: q.rejLogged })).logE 0x0502 0 5 p 0 st.code
  if q.rejSent < m.fld F.HOST_CFG.REJ_RATE 0 then
    (m.modPort p (fun q => { q with rejSent := q.rejSent + 1 })).emit (.rejection p (answerHead m h) h.seq.toNat h.tag.toNat cmd st)
  else m
/-- A message discarded without reply and counted in HOST_LATE. -/
def late (m : Kz) (p : Nat) : Kz := m.count .HOST_LATE p 1

/-! ### Leases (R535) -/

/-- The lease that a kind and an index name. -/
def leaseOf (kind idx : Nat) (version : Nat) : Option Lease :=
  match kind with
  | 0 => if idx = 0 then some .module else none
  | 1 => if idx < 12 then some (.region idx) else none
  | 2 => if idx < 192 && decide (0x30 ≤ version) then some (.channel idx) else none
  | _ => none
/-- R534: whether two leases overlap. -/
def overlapping (a b : Lease) : Bool :=
  match a, b with
  | .region k, .channel c => k = c / 16
  | .channel c, .region k => k = c / 16
  | _, _ => a = b
/-- The port of another session that holds an overlapping lease; leases of a session that was reset are free. -/
def heldElsewhere (m : Kz) (p : Nat) (l : Lease) : Option Nat :=
  (upTo 4).find? (fun q => q ≠ p && (m.port q).session.leases.any (overlapping l))
/-- The port whose session holds a lease or one that overlaps it. -/
def holderPort (m : Kz) (l : Lease) : Option Nat := (upTo 4).find? (fun q => (m.port q).session.leases.any (overlapping l))

/-! ### Reads and writes (R538, R539, R629) -/

/-- How far a request got: it ends, or it waits, with the values read so far and the word to go on from. -/
structure Ran where
  verdict : Verdict
  body : List Byte := []
  from_ : Nat := 0
  deriving DecidableEq, Repr
/-- The words of a read from index `i` on. -/
def readGo (m : Kz) (i : Nat) (acc : List Byte) : List Nat → Ran × Kz
  | [] => (⟨done, acc, i⟩, m)
  | a :: r =>
    match restartOf m a with
    | some k => (⟨.wait (.regionResume k), acc, i⟩, m)
    | none => match readWord m a with
      | (some v, m) => readGo m (i + 1) (acc ++ be 4 v) r
      | (none, m) => (⟨.done { status := .badAddress, detail := ⟨3, i⟩ }, acc, i⟩, m)
/-- The pairs of a write from index `i` on; a module reset by one of them ends the request. -/
def writeGo (m : Kz) (held : List Lease) (i : Nat) : List (Word × Word) → Ran × Kz
  | [] => (⟨done, [], i⟩, m)
  | x :: r =>
    match restartOf m x.1.toNat with
    | some k => (⟨.wait (.regionResume k), [], i⟩, m)
    | none => match writeWord m held x.1.toNat x.2 with
      | (.ok, m) => if m.pwr.state = .off then (⟨done, [], i⟩, m) else writeGo m held (i + 1) r
      | (.refused s, m) => (⟨.done { status := s, detail := ⟨3, i⟩ }, [], i⟩, m)
      | (.waits w, m) => (⟨.wait w, [], i + 1⟩, m)

/-! ### Logs (R644, R646, R668) -/

/-- An entry's 32 bytes. -/
def LogEntry.bytes (e : LogEntry) : List Byte :=
  be 4 e.num ++ be 8 e.datum ++ be 1 e.epochSeq ++ be 1 e.cls ++ be 1 e.kind ++ be 1 0 ++ be 2 e.idx ++ be 2 e.code
    ++ be 8 e.second ++ be 4 e.value
/-- A ring of entries (newest first) read from number `n` on; `next` is the number the next entry will take. -/
def ringRead (l : List LogEntry) (next count n : Nat) : List Byte :=
  let reply (first : Nat) (es : List LogEntry) (gone : Bool) : List Byte :=
    be 4 first ++ be 1 es.length ++ be 1 (b2n gone) ++ be 2 0 ++ es.flatMap LogEntry.bytes
  let old := l.reverse
  let ahead (x : Nat) : Nat := (x + 2 ^ 32 - next) % 2 ^ 32
  if ahead n < 2 ^ 31 then reply n [] false
  else if old.any (fun e => e.num = n) then reply n ((old.dropWhile (fun e => e.num ≠ n)).take count) false
  else reply ((old.head?.map (fun e => e.num)).getD next) (old.take count) true
/-- LOG_READ. -/
def logRead (m : Kz) (src count first : Nat) : Answer :=
  if 1 < src || count = 0 || 37 < count then { status := .badValue }
  else { status := .ok, body := if src = 0 then ringRead m.log.entries m.log.next count first
                                else ringRead m.log.archive m.log.archiveNext count first }
/-- LEDGER_READ. -/
def ledgerRead (m : Kz) (n part : Nat) : Answer :=
  if 7 < part then { status := .badValue }
  else
    let r := if n = 0xFFFFFFFF then newestRecord m else ((m.age.ckpt ++ m.age.recs).map (fun p => p.2)).find? (fun r => r.num = n)
    match r with
    | some r => { status := .ok, body := be 4 r.num ++ be 1 part ++ be 1 8 ++ be 2 0 ++ slice r.bytes (1024 * part) 1024 }
    | none => { status := .notInLedger }

/-! ### Engine loads (R348, R350, R543) -/

/-- A refusal of the loader (R539): the bundle is named where the check names one. -/
def loadStatus (code addr : Nat) : Answer :=
  match code with
  | 1 => { status := .engFormat }
  | 2 => { status := .engAbi }
  | 3 => { status := .engOpcode, detail := ⟨4, addr⟩ }
  | 4 => { status := .engFlow, detail := ⟨4, addr⟩ }
  | _ => { status := .engBudget, detail := ⟨4, addr⟩ }
/-- ENG_LOAD. -/
def engLoad (m : Kz) (p : Nat) (held : List Lease) (k mask off len : Nat) : Verdict × Kz :=
  if 11 < k || 131072 < off + len then (refused .badValue, m)
  else match (chansOf k mask).find? (fun c => !covers held (.channel c)) with
  | some c => (refusedBy ⟨.noLease, ⟨1, c⟩⟩, m)
  | none =>
    if (m.rgn k).err.restarting then (.wait (.regionResume k), m)
    else if m.rstate k = .down then (refusedBy ⟨.regionDown, ⟨2, k⟩⟩, m)
    else if m.inRun k then (refusedBy ⟨.locked, ⟨2, k⟩⟩, m)
    else match checkImage ((m.port p).session.staging.reads off len) (m.fld F.ENG_BUDGET.B_DECL k) with
      | .error (code, addr) => (.done (loadStatus code addr), loadRefused m k mask code addr)
      | .ok g => (.wait (.engLoad k (m.rgn k).eng.nextLoad),
          let m := loadAccepted m k mask g
          { m with regs := { m.regs with cfgGen := (m.regs.cfgGen + 1) % 2 ^ 32 } })
/-- ENG_LOAD_DONE: the memories of the region's oldest load are written and its image measured with the channel mask; its command ends
(R350, R576). -/
def engLoadDone (m : Kz) (k : Nat) : Kz :=
  match (m.rgn k).eng.loads with
  | [] => m
  | (n, mask, g) :: rest =>
    let m := loadWritten (m.modRgn k (fun r => { r with eng := { r.eng with loads := rest } })) k mask g
    endWaits (extend m 4 (be 1 k ++ be 2 mask) g.digest) (.engLoad k n) { status := .ok }

/-! ### Execution (R526, R527, R534, R537, R545) -/

/-- What RECOVERY accepts (R545); which SIGNED it takes is judged with the block. -/
def inRecovery : Request → Bool
  | .nop | .closeSession | .stageWrite .. | .challenge | .signed .. | .fwChunk .. => true
  | _ => false
/-- The lease that a command needs as a whole (R537). -/
def needs : Request → Option Lease
  | .moduleState _ | .statBoundary | .challenge | .signed .. | .fwChunk .. => some .module
  | .regionState k _ => some (.region k.toNat)
  | .channelRestart c => some (.channel c.toNat)
  | _ => none
/-- A request that names a region or channel that does not exist, or a count outside its range in the version. -/
def badBody (version : Nat) : Request → Bool
  | .regionState k _ => decide (11 < k.toNat)
  | .channelRestart c => decide (191 < c.toNat)
  | .regRead l => l.isEmpty || decide (64 < l.length)
  | .regWrite l => l.isEmpty || decide ((if version = 0x20 then 1 else 64) < l.length)
  | .blockRead _ n => decide (n.toNat = 0) || decide ((if version < 0x30 then 64 else 256) < n.toNat)
  | _ => false
/-- The region a command of its own waits for while it restarts (R626, R629). -/
def waitsFor : Request → Option Nat
  | .regionState k _ => some k.toNat
  | .channelRestart c => some (c.toNat / 16)
  | _ => none
/-- One request of port `p`'s session, from word `i` on, with the values read before. -/
def runReq (m : Kz) (p : Nat) (held : List Lease) (version : Nat) (r : Request) (i : Nat) (acc : List Byte) : Ran × Kz :=
  let ends (a : Answer) (m : Kz) : Ran × Kz := (⟨.done a, acc, i⟩, m)
  let no (s : Status) : Ran × Kz := ends { status := s } m
  let from2 (x : Verdict × Kz) : Ran × Kz := (⟨x.1, acc, i⟩, x.2)
  let recovery : Bool := m.pwr.state = .recovery
  let restarting : Option Nat := match waitsFor r with | some k => if (m.rgn k).err.restarting then some k else none | none => none
  if recovery && !inRecovery r then no .notInRecovery
  else if version < sinceVersion r then no .unknownCommand
  else if badBody version r then no .badValue
  else if !recovery && (match needs r with | some l => !covers held l | none => false) then no .noLease
  else match restarting with
  | some k => (⟨.wait (.regionResume k), acc, i⟩, m)
  | none => match r with
  | .nop | .closeSession | .openSession .. => ends { status := .ok } m
  | .leaseAcquire kind idx => match leaseOf kind.toNat idx.toNat version with
    | none => no .badValue
    | some l => match heldElsewhere m p l with
      | some q => ends { status := .leaseHeld, detail := ⟨5, q⟩ } m
      | none => ends { status := .ok } (m.modSess p (fun x => { x with leases := if x.leases.contains l then x.leases else l :: x.leases }))
  | .leaseRelease kind idx => match leaseOf kind.toNat idx.toNat version with
    | none => no .badValue
    | some l => ends { status := .ok } (m.modSess p (fun x => { x with leases := x.leases.filter (fun y => y ≠ l) }))
  | .leaseQuery kind idx => match leaseOf kind.toNat idx.toNat version with
    | none => no .badValue
    | some l => ends { status := .ok, body := be 1 5 ++ be 1 0 ++ be 2 ((holderPort m l).getD 0xFF) } m
  | .subscribe mask => ends { status := .ok } (m.modSess p (fun x => { x with mask := mask }))
  | .regRead l => readGo m i acc ((l.drop i).map (fun a => a.toNat))
  | .regWrite l => writeGo m held i (l.drop i)
  | .blockRead a n => readGo m i acc (((upTo n.toNat).drop i).map (fun j => a.toNat + 4 * j))
  | .commit kind idx => let (st, m) := commit m held kind.toNat idx.toNat; ends { status := st } m
  | .moduleState t => from2 (moduleState m t.toNat)
  | .regionState k t => from2 (regionState m k.toNat t.toNat)
  | .channelRestart c => (⟨.wait (.channelResume c.toNat), acc, i⟩, askRestart m c.toNat 1)
  | .statBoundary => (⟨.wait .boundary, acc, i⟩, raiseBoundary m .host)
  | .stageWrite off d =>
    if d.isEmpty || 1024 < d.length || 131072 < off.toNat + d.length then no .badValue
    else ends { status := .ok } (m.modSess p (fun x => { x with staging := x.staging.writes off.toNat d }))
  | .engLoad k mask off len => from2 (engLoad m p held k.toNat mask.toNat off.toNat len.toNat)
  | .logRead src n first => ends (logRead m src.toNat n.toNat first.toNat) m
  | .ledgerRead n part => ends (ledgerRead m n.toNat part.toNat) m
  | .attest n obj part => let (a, m) := attest m p n obj.toNat part.toNat; ends a m
  | .challenge =>
    let (n, m) := newNonce m
    ends { status := .ok, body := n.bytes } (m.modSess p (fun x => { x with nonce := some n }))
  | .signed off len => let (st, m) := signedCmd m p off.toNat len.toNat; ends { status := st } m
  | .fwChunk off target flags d =>
    if i = 0 then match chunkWrite m off.toNat target.toNat flags.toNat d with
      | (.error s, m) => ends { status := s } m
      | (.ok true, m) => (⟨.wait .erase, acc, 1⟩, m)
      | (.ok false, m) => let (a, m) := chunkLast m target.toNat flags.toNat; ends a m
    else let (a, m) := chunkLast m target.toNat flags.toNat; ends a m
  | .unknown .. => no .unknownCommand
/-- What a request ends with, its values read put after the detail or before the body. -/
def Ran.answer (r : Ran) (a : Answer) : Answer := { a with body := r.body ++ a.body }
/-- A request's result: its one response, or it goes on waiting. -/
def settleRun (m : Kz) (p : Nat) (q : Running) (r : Ran) : Kz :=
  match r.verdict with
  | .done a =>
    if (m.port p).session.isOpen then
      let m := respond m p q.via q.seq.toNat q.tag.toNat (cmdCode q.req) (r.answer a)
      match q.req with | .closeSession => resetSession m p | _ => m
    else m
  | .wait w => m.modSess p (fun x => { x with running := some { q with wait := w, body := r.body, from_ := r.from_ } })
/-- The request in slot H starts: H moves past it (R530). -/
def startReq (m : Kz) (p : Nat) (s : Slot) : Kz :=
  let x := (m.port p).session
  let m := m.modSess p (fun x => { x with h := x.h + 1, slots := x.slots.filter (fun y => y.seq ≠ s.seq), gapSince := none })
  let q : Running := { seq := s.seq, tag := s.tag, req := s.req, via := s.via, wait := .boundary, body := [], from_ := 0 }
  let (r, m) := runReq m p x.leases x.version.toNat s.req 0 []
  settleRun m p q r
/-- R530, R531, R557: whether a session starts its next request. -/
def ready (m : Kz) (p : Nat) : Option Slot :=
  let x := (m.port p).session
  if !x.isOpen || x.running.isSome || m.sup.restarting0 || decide (64 ≤ (x.tags.filter (fun t => t.resp.isSome)).length) then none
  else x.slots.find? (fun s => s.seq = x.h)
/-- One turn of the hub: each port in turn starts one request at most (R21, R536). -/
def turn (m : Kz) : Kz := (upTo 4).foldl (fun m p => match ready m p with | some s => startReq m p s | none => m) m
/-- R530: since when slot H has stood empty with a later slot occupied. -/
def gaps (m : Kz) : Kz :=
  (upTo 4).foldl (fun m p =>
    let x := (m.port p).session
    let gap : Bool := x.isOpen && !x.slots.isEmpty && !x.slots.any (fun s => s.seq = x.h)
    if gap then (if x.gapSince.isSome then m else m.modSess p (fun x => { x with gapSince := some m.now.ns }))
    else if x.gapSince.isSome then m.modSess p (fun x => { x with gapSince := none })
    else m) m
/-- Turns until no session has a request to start; each slot holds one of at most 64. -/
def turns : Nat → Kz → Kz
  | 0, m => m
  | n + 1, m => if (upTo 4).any (fun p => (ready m p).isSome) then turns n (turn m) else m
/-- The hub serves what the sessions have waiting. -/
def pump (m : Kz) : Kz := gaps (turns 64 m)
/-- Requests that wait for `w` go on from the word they had come to (R530, R629). -/
def goOn (m : Kz) (w : Wait) : Kz :=
  (upTo 4).foldl (fun m p =>
    let m := match (m.port p).session.running with
      | some q => if q.wait = w then
          let x := (m.port p).session
          let (r, m) := runReq m p x.leases x.version.toNat q.req q.from_ q.body
          settleRun m p q r
        else m
      | none => m
    ((m.port p).orphans.filter (fun o => o.1.wait = w)).foldl (fun m o =>
      let m := m.modPort p (fun y => { y with orphans := y.orphans.erase o })
      let (r, m) := runReq m p o.2 0x32 o.1.req o.1.from_ o.1.body
      match r.verdict with
      | .done _ => m
      | .wait w => m.modPort p (fun y => { y with orphans := y.orphans ++ [({ o.1 with wait := w, body := r.body, from_ := r.from_ }, o.2)] })) m) m

/-! ### Arrival (R523 to R525, R529, R545) -/

/-- Whether a port answers: the module is in a state in which it does, and the port is enabled. -/
def answers (m : Kz) (p : Nat) : Bool :=
  m.on F.HOST_PORT_CFG.EN p && (powered m.pwr.state || (decide (m.pwr.state = .recovery) && p == 0))
/-- R525: the highest version within both ranges. -/
def chooseVersion (lo hi : Nat) : Option Nat := [0x32, 0x31, 0x30, 0x21, 0x20].find? (fun v => decide (lo ≤ v) && decide (v ≤ hi))
/-- R524, R525: an OPEN at a port with no session. -/
def openAt (m : Kz) (h : Hdr) (lo hi : Byte) (timeout : BitVec 16) (mask : Word) : Kz :=
  let p := h.port.val
  match chooseVersion lo.toNat hi.toNat with
  | none => reject m h 2 .version
  | some v =>
    let id := if (m.port p).sessionId + 1 = 0 then 1 else (m.port p).sessionId + 1
    let granted := max 1 (min 600 timeout.toNat)
    let x : Session := { isOpen := true, origin := h.origin, via := viaOf m h, version := BitVec.ofNat 8 v, timeout := granted, mask := mask,
                         h := h.seq + 1, timer := m.now.ns }
    let m := m.modPort p (fun q => { q with session := x, sessionId := id })
    let ident := readReg m .MOD_IDENT 0
    m.emit (.response p ⟨viaOf m h, v, 0⟩ h.seq.toNat h.tag.toNat 2 .ok
      (be 1 v ++ be 1 0 ++ be 2 id.toNat ++ be 2 granted ++ be 2 0 ++ be 4 ident ++ be 4 m.fw.runImage.version.toNat) false)
/-- The session timer restarts (R525). -/
def restartTimer (m : Kz) (p : Nat) : Kz := m.modSess p (fun x => { x with timer := m.now.ns })
/-- R529: a request that belongs to the open session is judged. -/
def judge (m : Kz) (h : Hdr) (r : Request) : Kz :=
  let p := h.port.val
  let x := (m.port p).session
  let d := (h.seq - x.h).toNat
  match x.tags.find? (fun t => t.tag = h.tag) with
  | some t =>
    if t.seq = h.seq then
      let m := restartTimer m p
      if t.digest = digestOf r then
        let m := m.count .HOST_DUPLICATE p 1
        match t.resp with
        | some a => m.emit (.response p (answerHead m h) h.seq.toNat h.tag.toNat a.cmd a.status a.body true)
        | none => m
      else reject m h (cmdCode r) .tagConflict
    else if 32768 ≤ d then late m p
    else reject (restartTimer m p) h (cmdCode r) (if 64 ≤ d then .seqWindow else .tagConflict)
  | none =>
    if 32768 ≤ d then late m p
    else
      let m := restartTimer m p
      if 64 ≤ d then reject m h (cmdCode r) .seqWindow
      else if x.slots.any (fun s => s.seq = h.seq) then reject m h (cmdCode r) .seqConflict
      else pump (m.modSess p (fun x => { x with
        slots := x.slots ++ [⟨h.seq, h.tag, r, viaOf m h⟩], tags := x.tags ++ [⟨h.tag, h.seq, digestOf r, none⟩] }))
/-- R523: a malformed message: rejected where it names an open session from its address, else discarded. -/
def malformed (m : Kz) (h : Hdr) (cmd : Nat) : Kz :=
  let q := m.port h.port.val
  if !answers m h.port.val then m
  else if q.session.isOpen && q.session.origin == h.origin && q.sessionId == h.session then reject m h cmd .malformed
  else late m h.port.val
/-- A request that arrives at a port (R524, R545). -/
def arrive (m : Kz) (h : Hdr) (r : Request) : Kz :=
  let p := h.port.val
  let q := m.port p
  let isOpen : Bool := match r with | .openSession .. => true | _ => false
  if !answers m p then m
  else if malformedBody r || (!isOpen && q.session.isOpen && h.version ≠ q.session.version) then malformed m h (cmdCode r)
  else if q.session.isOpen && q.session.origin ≠ h.origin then reject m h (cmdCode r) .sessionBusy
  else match r with
  | .openSession lo hi timeout mask => pump (openAt (resetSession m p) h lo hi timeout mask)
  | r =>
    if !q.session.isOpen then reject m h (cmdCode r) .noSession
    else if h.session ≠ q.sessionId then late m p
    else judge m h r
/-- An acknowledgement, whose command code is 0 (entry 110; R524, R533): a response's sequence number and a notification's number, each where valid. -/
def acknowledge (m : Kz) (h : Hdr) (a : Option (BitVec 16)) (n : Option Word) : Kz :=
  let p := h.port.val
  let q := m.port p
  if !answers m p then m
  else if !q.session.isOpen then late m p
  else if h.version ≠ q.session.version then malformed m h 0
  else if q.session.origin ≠ h.origin then reject m h 0 .sessionBusy
  else if h.session ≠ q.sessionId then late m p
  else
    let m := restartTimer m p
    let m := match a with
      | some a => m.modSess p (fun x => { x with
          tags := x.tags.filter (fun t => !(t.resp.isSome && decide ((a - t.seq).toNat < 128))) })
      | none => m
    let m := match n with
      | some n => m.modSess p (fun x => { x with
          notifs := x.notifs.filter (fun y => !decide ((n - y.num).toNat < 2 ^ 31)) })
      | none => m
    pump m

/-! ### Timers of a session -/

/-- SESSION_TIMEOUT (R524). -/
def sessionTimeout (m : Kz) (p : Nat) : Kz :=
  let x := (m.port p).session
  if x.isOpen && decide (x.timer + x.timeout * 1000000000 ≤ m.now.ns) then
    (resetSession m p).mark F.HOST_PORT_STAT.TIMEOUT_SEEN p
  else m
/-- SEQ_GAP_SKIP (R530). -/
def gapSkip (m : Kz) (p : Nat) : Kz :=
  let x := (m.port p).session
  let ms := m.fld F.HOST_CFG.GAP_MS 0
  match x.gapSince with
  | some a =>
    if x.isOpen && ms != 0 && decide (a + ms * 1000000 ≤ m.now.ns) then
      let m := (m.modSess p (fun x => { x with h := x.h + 1, gapSince := none })).count .HOST_GAP_SKIP p 1
      let m := if x.version = 0x32 then m.notifyPort m.datum p 7 6 x.h.toNat [] else m
      pump m
    else m
  | none => m
/-- Whether a queued notification was last sent NOTIF_RETRY × 10 ms ago or longer; 0 is treated as 1 (R542, R550). -/
def retryDue (m : Kz) (n : Notif) : Bool :=
  decide (n.sent + max 1 (m.fld F.HOST_CFG.NOTIF_RETRY 0) * 10000000 ≤ m.now.ns)
/-- NOTIFICATION_RESEND (R542): every queued notification that is due is sent again. -/
def resendNotifs (m : Kz) (p : Nat) : Kz :=
  let x := (m.port p).session
  if x.isOpen && decide (0x30 ≤ x.version.toNat) then
    let m := m.modSess p (fun x => { x with
      notifs := x.notifs.map (fun n => if retryDue m n then { n with sent := m.now.ns } else n) })
    (x.notifs.filter (retryDue m)).foldl (fun m n => m.emit (.notification p (m.headOf p) n.code n.body true)) m
  else m

/-! ### The network side of a port (R518, R519, R547) -/

/-- ICMP_ECHO: at most 10 replies a second for a port. -/
def echo (m : Kz) (p : Nat) (v6 : Bool) : Kz :=
  let sec := m.now.ns / 1000000000
  if !answers m p then m
  else
    let m := if (m.port p).echoSecond = sec then m else m.modPort p (fun q => { q with echoSecond := sec, echoSent := 0 })
    if (m.port p).echoSent < 10 then
      (m.modPort p (fun q => { q with echoSent := q.echoSent + 1 })).emit (.echoReply p v6)
    else m
/-- HOST_LINK_LOSS and HOST_LINK_LOCK. -/
def linkLost (m : Kz) (p : Nat) : Kz :=
  if (m.port p).link then (m.modPort p (fun q => { q with link := false })).mark F.HOST_PORT_STAT.LINK_DOWN_SEEN p else m
def linkLocked (m : Kz) (p : Nat) : Kz :=
  if m.pwr.state = .off then m else m.modPort p (fun q => { q with link := true })

/-- A register row: one pair of a REG_WRITE in port `p`'s session, and its status. -/
def pairWrite (m : Kz) (p : Nat) (k : RegKind) (i : Nat) (w : Word) : Kz :=
  let a := k.addr i
  let x := (m.port p).session
  if !x.isOpen || !powered m.pwr.state || (restartOf m a).isSome then m
  else match writeWord m x.leases a w with
    | (.ok, m) => pump (resetsDue (m.emit (.pairStatus p a .ok noDetail)))
    | (.refused s, m) => m.emit (.pairStatus p a s ⟨3, 0⟩)
    | (.waits _, m) => m
/-- A register row that reads: one word of a REG_READ in port `p`'s session. -/
def wordRead (m : Kz) (p : Nat) (k : RegKind) (i : Nat) : Kz :=
  let a := k.addr i
  if !(m.port p).session.isOpen || !powered m.pwr.state || (restartOf m a).isSome then m
  else match readWord m a with
    | (some v, m) => m.emit (.readValue p a v)
    | (none, m) => m

end Sys2Proof.Machine
end

