-- ==== Sys2Proof/Machine/HostRows.lean ====
section
/-! DEFINITION. The rows of the host ports: each host command is the arrival of its request, each register row one
pair of a REG_WRITE or one word of a REG_READ in a port's session (R518 to R551, R718). -/
namespace Sys2Proof.Machine

/-- The outcome of a meaning after which the hub serves what the sessions have waiting. -/
def State.served (s : State) (t : Stamp) (f : Kz → Kz) : Host.Outcome State Fault Refusal := s.at_ t (fun m => pump (f m))
/-- HOST_FRAME_DROP (R519): a port that receives frames counts the one it discards. -/
def frameDrop (m : Kz) (p : Nat) : Kz := if answers m p then m.count .HOST_FRAME_DROP p 1 else m

/-! ### Host commands and events of the ports -/

/-- NOP (R537). -/
def execNop (t : Stamp) (h : Hdr) (s : State) : Host.Outcome State Fault Refusal := s.at_ t (fun m => arrive m h .nop)
/-- OPEN (R525). -/
def execOpen (t : Stamp) (h : Hdr) (lo hi : Byte) (timeout : BitVec 16) (mask : Word) (s : State) : Host.Outcome State Fault Refusal :=
  s.at_ t (fun m => arrive m h (.openSession lo hi timeout mask))
/-- CLOSE (R524). -/
def execClose (t : Stamp) (h : Hdr) (s : State) : Host.Outcome State Fault Refusal := s.at_ t (fun m => arrive m h .closeSession)
/-- LEASE_ACQUIRE (R535). -/
def execLeaseAcquire (t : Stamp) (h : Hdr) (kind : Byte) (idx : BitVec 16) (s : State) : Host.Outcome State Fault Refusal :=
  s.at_ t (fun m => arrive m h (.leaseAcquire kind idx))
/-- LEASE_RELEASE (R535). -/
def execLeaseRelease (t : Stamp) (h : Hdr) (kind : Byte) (idx : BitVec 16) (s : State) : Host.Outcome State Fault Refusal :=
  s.at_ t (fun m => arrive m h (.leaseRelease kind idx))
/-- LEASE_QUERY (R535). -/
def execLeaseQuery (t : Stamp) (h : Hdr) (kind : Byte) (idx : BitVec 16) (s : State) : Host.Outcome State Fault Refusal :=
  s.at_ t (fun m => arrive m h (.leaseQuery kind idx))
/-- SUBSCRIBE (R537). -/
def execSubscribe (t : Stamp) (h : Hdr) (mask : Word) (s : State) : Host.Outcome State Fault Refusal :=
  s.at_ t (fun m => arrive m h (.subscribe mask))
/-- REG_READ (R538). -/
def execRegRead (t : Stamp) (h : Hdr) (addrs : List Word) (s : State) : Host.Outcome State Fault Refusal :=
  s.at_ t (fun m => arrive m h (.regRead addrs))
/-- REG_WRITE (R538). -/
def execRegWrite (t : Stamp) (h : Hdr) (pairs : List (Word × Word)) (s : State) : Host.Outcome State Fault Refusal :=
  s.at_ t (fun m => arrive m h (.regWrite pairs))
/-- BLOCK_READ (R538). -/
def execBlockRead (t : Stamp) (h : Hdr) (addr : Word) (count : BitVec 16) (s : State) : Host.Outcome State Fault Refusal :=
  s.at_ t (fun m => arrive m h (.blockRead addr count))
/-- COMMIT (R721). -/
def execCommit (t : Stamp) (h : Hdr) (kind : Byte) (idx : BitVec 16) (s : State) : Host.Outcome State Fault Refusal :=
  s.at_ t (fun m => arrive m h (.commit kind idx))
/-- MODULE_STATE (R601). -/
def execModuleState (t : Stamp) (h : Hdr) (target : Byte) (s : State) : Host.Outcome State Fault Refusal :=
  s.at_ t (fun m => arrive m h (.moduleState target))
/-- REGION_STATE (R603). -/
def execRegionState (t : Stamp) (h : Hdr) (region target : Byte) (s : State) : Host.Outcome State Fault Refusal :=
  s.at_ t (fun m => arrive m h (.regionState region target))
/-- CHANNEL_RESTART (R626). -/
def execChannelRestart (t : Stamp) (h : Hdr) (ch : BitVec 16) (s : State) : Host.Outcome State Fault Refusal :=
  s.at_ t (fun m => arrive m h (.channelRestart ch))
/-- STAT_BOUNDARY (R635). -/
def execStatBoundary (t : Stamp) (h : Hdr) (s : State) : Host.Outcome State Fault Refusal := s.at_ t (fun m => arrive m h .statBoundary)
/-- STAGE_WRITE (R543). -/
def execStageWrite (t : Stamp) (h : Hdr) (off : Word) (data : List Byte) (s : State) : Host.Outcome State Fault Refusal :=
  s.at_ t (fun m => arrive m h (.stageWrite off data))
/-- ENG_LOAD (R350). -/
def execEngLoad (t : Stamp) (h : Hdr) (region : Byte) (mask : BitVec 16) (off len : Word) (s : State) : Host.Outcome State Fault Refusal :=
  s.at_ t (fun m => arrive m h (.engLoad region mask off len))
/-- LOG_READ (R646). -/
def execLogRead (t : Stamp) (h : Hdr) (src count : Byte) (first : Word) (s : State) : Host.Outcome State Fault Refusal :=
  s.at_ t (fun m => arrive m h (.logRead src count first))
/-- LEDGER_READ (R668). -/
def execLedgerRead (t : Stamp) (h : Hdr) (recNum : Word) (part : Byte) (s : State) : Host.Outcome State Fault Refusal :=
  s.at_ t (fun m => arrive m h (.ledgerRead recNum part))
/-- ATTEST (R577). -/
def execAttest (t : Stamp) (h : Hdr) (nonce : List Byte) (obj part : Byte) (s : State) : Host.Outcome State Fault Refusal :=
  s.at_ t (fun m => arrive m h (.attest nonce obj part))
/-- CHALLENGE (R544). -/
def execChallenge (t : Stamp) (h : Hdr) (s : State) : Host.Outcome State Fault Refusal := s.at_ t (fun m => arrive m h .challenge)
/-- FIRMWARE_ACTIVATION (R569). -/
def execFirmwareActivation (t : Stamp) (h : Hdr) (off len : Word) (s : State) : Host.Outcome State Fault Refusal :=
  s.at_ t (fun m => arrive m h (.signed off len))
/-- OWNER_KEY_WRITE (R572). -/
def execOwnerKeyWrite (t : Stamp) (h : Hdr) (off len : Word) (s : State) : Host.Outcome State Fault Refusal :=
  s.at_ t (fun m => arrive m h (.signed off len))
/-- OWNER_KEY_REVOKE (R572). -/
def execOwnerKeyRevoke (t : Stamp) (h : Hdr) (off len : Word) (s : State) : Host.Outcome State Fault Refusal :=
  s.at_ t (fun m => arrive m h (.signed off len))
/-- DEBUG_UNLOCK (R580). -/
def execDebugUnlock (t : Stamp) (h : Hdr) (off len : Word) (s : State) : Host.Outcome State Fault Refusal :=
  s.at_ t (fun m => arrive m h (.signed off len))
/-- FW_CHUNK_FIRMWARE (R567). -/
def execFwChunkFirmware (t : Stamp) (h : Hdr) (off : Word) (flags : Byte) (data : List Byte) (s : State) : Host.Outcome State Fault Refusal :=
  s.at_ t (fun m => arrive m h (.fwChunk off 0 flags data))
/-- FW_CHUNK_CONFIGURATION (R568). -/
def execFwChunkConfiguration (t : Stamp) (h : Hdr) (off : Word) (flags : Byte) (data : List Byte) (s : State) : Host.Outcome State Fault Refusal :=
  s.at_ t (fun m => arrive m h (.fwChunk off 1 flags data))
/-- FW_CHUNK_ACTIVATE (R570). -/
def execFwChunkActivate (t : Stamp) (h : Hdr) (off : Word) (first : Bool) (data : List Byte) (s : State) : Host.Outcome State Fault Refusal :=
  s.at_ t (fun m => arrive m h (.fwChunk off 0 (if first then 7 else 6) data))
/-- UNKNOWN_COMMAND (R537). -/
def execUnknownCommand (t : Stamp) (h : Hdr) (code : BitVec 16) (body : List Byte) (s : State) : Host.Outcome State Fault Refusal :=
  s.at_ t (fun m => arrive m h (.unknown code body))
/-- MALFORMED_MESSAGE (R523). -/
def execMalformedMessage (t : Stamp) (h : BadHdr) (s : State) : Host.Outcome State Fault Refusal :=
  s.at_ t (fun m => malformed m h.hdr h.code.toNat)
/-- ACKNOWLEDGEMENT (R533). -/
def execAcknowledgement (t : Stamp) (h : Hdr) (a : Option (BitVec 16)) (n : Option Word) (s : State) : Host.Outcome State Fault Refusal :=
  s.at_ t (fun m => acknowledge m h a n)
/-- SESSION_TIMEOUT (R524). -/
def execSessionTimeout (t : Stamp) (p : Port) (s : State) : Host.Outcome State Fault Refusal := s.at_ t (fun m => sessionTimeout m p.val)
/-- SEQ_GAP_SKIP (R530). -/
def execSeqGapSkip (t : Stamp) (p : Port) (s : State) : Host.Outcome State Fault Refusal := s.at_ t (fun m => gapSkip m p.val)
/-- NOTIFICATION_RESEND (R542). -/
def execNotificationResend (t : Stamp) (p : Port) (s : State) : Host.Outcome State Fault Refusal := s.at_ t (fun m => resendNotifs m p.val)
/-- NONCE_EXPIRY (R544). -/
def execNonceExpiry (t : Stamp) (p : Option Port) (s : State) : Host.Outcome State Fault Refusal :=
  s.at_ t (fun m => nonceExpiry m (p.map (fun p => p.val)))
/-- DEBUG_EXPIRY (R580). -/
def execDebugExpiry (t : Stamp) (s : State) : Host.Outcome State Fault Refusal := s.at_ t (fun m => debugExpiry m)
/-- DBG_NONCE (R581). -/
def execDbgNonce (t : Stamp) (s : State) : Host.Outcome State Fault Refusal := s.at_ t (fun m => dbgNonce m)
/-- DBG_TOKEN (R581). -/
def execDbgToken (t : Stamp) (block : List Byte) (s : State) : Host.Outcome State Fault Refusal := s.at_ t (fun m => dbgToken m block)
/-- HOST_FRAME_DROP (R519). -/
def execHostFrameDrop (t : Stamp) (p : Port) (s : State) : Host.Outcome State Fault Refusal := s.at_ t (fun m => frameDrop m p.val)
/-- NEIGHBOUR_REQUEST (R518). -/
def execNeighbourRequest (t : Stamp) (p : Port) (v6 : Bool) (s : State) : Host.Outcome State Fault Refusal :=
  s.at_ t (fun m => if answers m p.val then m.emit (.neighbourReply p.val v6 (macOf p.val)) else m)
/-- ICMP_ECHO (R518). -/
def execIcmpEcho (t : Stamp) (p : Port) (v6 : Bool) (s : State) : Host.Outcome State Fault Refusal := s.at_ t (fun m => echo m p.val v6)
/-- HOST_LINK_LOSS (R547). -/
def execHostLinkLoss (t : Stamp) (p : Port) (s : State) : Host.Outcome State Fault Refusal := s.at_ t (fun m => linkLost m p.val)
/-- HOST_LINK_LOCK (R547). -/
def execHostLinkLock (t : Stamp) (p : Port) (s : State) : Host.Outcome State Fault Refusal := s.at_ t (fun m => linkLocked m p.val)
/-- SECTOR_ERASE_DONE (R567). -/
def execSectorEraseDone (t : Stamp) (s : State) : Host.Outcome State Fault Refusal := s.served t (fun m => goOn m .erase)

/-! ### Register rows -/

/-- HOST_EPOCH (R137). -/
def execHostEpoch (t : Stamp) (p : Port) (v : Word) (s : State) : Host.Outcome State Fault Refusal :=
  s.at_ t (fun m => pairWrite m p.val .TIM_EPOCH_STAT 0 v)
/-- TL_CFG_WRITE (R396). -/
def execTlCfgWrite (t : Stamp) (p : Port) (v : Word) (s : State) : Host.Outcome State Fault Refusal :=
  s.at_ t (fun m => pairWrite m p.val .TIM_TL_CFG 0 v)
/-- TIM_MODE_WRITE (R120). -/
def execTimModeWrite (t : Stamp) (p : Port) (v : Word) (refHz : Nat) (s : State) : Host.Outcome State Fault Refusal :=
  s.at_ t (fun m => pairWrite (m.modTb (fun b => { b with refHz := refHz })) p.val .TIM_MODE 0 v)
/-- OVEN_SETPOINT_WRITE (R115). -/
def execOvenSetpointWrite (t : Stamp) (p : Port) (v : Word) (s : State) : Host.Outcome State Fault Refusal :=
  s.at_ t (fun m => pairWrite m p.val .TIM_OVEN 0 v)
/-- HEARTH_TRIM_WRITE (R117). -/
def execHearthTrimWrite (t : Stamp) (p : Port) (v : Word) (s : State) : Host.Outcome State Fault Refusal :=
  s.at_ t (fun m => pairWrite m p.val .TIM_HEARTH_TRIM 0 v)
/-- DATUM_LATCH_READ (R138). -/
def execDatumLatchRead (t : Stamp) (p : Port) (s : State) : Host.Outcome State Fault Refusal := s.at_ t (fun m => wordRead m p.val .TIM_DATUM_LO 0)
/-- XING_LATCH_READ (R399). -/
def execXingLatchRead (t : Stamp) (p : Port) (s : State) : Host.Outcome State Fault Refusal := s.at_ t (fun m => wordRead m p.val .TIM_TL_XING 0)
/-- XQ_STAT_CLR (R38). -/
def execXqStatClr (t : Stamp) (p : Port) (k : Rgn) (v : Word) (s : State) : Host.Outcome State Fault Refusal :=
  s.at_ t (fun m => pairWrite m p.val .RGN_XQ_STAT k.val v)
/-- STEP_NOW (R104). -/
def execStepNow (t : Stamp) (p : Port) (c : Chan) (v : Word) (s : State) : Host.Outcome State Fault Refusal :=
  s.at_ t (fun m => pairWrite m p.val .CH_CONV_CTRL c.val v)
/-- SLICE_HEALTH_WRITE (R102). -/
def execSliceHealthWrite (t : Stamp) (p : Port) (c : Chan) (v : Word) (s : State) : Host.Outcome State Fault Refusal :=
  s.at_ t (fun m => pairWrite m p.val .CH_SLICE_HEALTH c.val v)
/-- BL_FREEZE_WRITE (R162). -/
def execBlFreezeWrite (t : Stamp) (p : Port) (c : Chan) (v : Word) (s : State) : Host.Outcome State Fault Refusal :=
  s.at_ t (fun m => pairWrite m p.val .CH_CHAIN_CTRL c.val v)
/-- ARM (R207). -/
def execArm (t : Stamp) (p : Port) (c : Chan) (v : Word) (s : State) : Host.Outcome State Fault Refusal :=
  s.at_ t (fun m => pairWrite m p.val .CH_TRIG_CTRL c.val v)
/-- SOFT_TRIG (R204). -/
def execSoftTrig (t : Stamp) (p : Port) (k : Rgn) (v : Word) (s : State) : Host.Outcome State Fault Refusal :=
  s.at_ t (fun m => pairWrite m p.val .RGN_SOFT_TRIG k.val v)
/-- ACCQ_HIGH_WATER_CLR (R273). -/
def execAccqHighWaterClr (t : Stamp) (p : Port) (k : Rgn) (v : Word) (s : State) : Host.Outcome State Fault Refusal :=
  s.at_ t (fun m => pairWrite m p.val .RGN_ACCQ_STAT k.val v)
/-- AVG_CLR (R305). -/
def execAvgClr (t : Stamp) (p : Port) (k : Rgn) (v : Word) (s : State) : Host.Outcome State Fault Refusal :=
  s.at_ t (fun m => pairWrite m p.val .RGN_ACC_CLR k.val v)
/-- HIST_CLR (R310). -/
def execHistClr (t : Stamp) (p : Port) (k : Rgn) (v : Word) (s : State) : Host.Outcome State Fault Refusal :=
  s.at_ t (fun m => pairWrite m p.val .RGN_ACC_CLR k.val v)
/-- MAP_CLR (R313). -/
def execMapClr (t : Stamp) (p : Port) (x : Fin 2) (v : Word) (s : State) : Host.Outcome State Fault Refusal :=
  s.at_ t (fun m => pairWrite m p.val .MOD_MAP_CTRL x.val v)
/-- LANE_EN_WRITE (R402). -/
def execLaneEnWrite (t : Stamp) (p : Port) (k : Rgn) (v : Word) (s : State) : Host.Outcome State Fault Refusal :=
  s.at_ t (fun m => pairWrite m p.val .RGN_RO_CTRL k.val v)
/-- LANE_TEST_EN_WRITE (R402). -/
def execLaneTestEnWrite (t : Stamp) (p : Port) (k : Rgn) (v : Word) (s : State) : Host.Outcome State Fault Refusal :=
  s.at_ t (fun m => pairWrite m p.val .RGN_RO_TEST k.val v)
/-- LANE_RETRAIN (R402). -/
def execLaneRetrain (t : Stamp) (p : Port) (k : Rgn) (v : Word) (s : State) : Host.Outcome State Fault Refusal :=
  s.at_ t (fun m => pairWrite m p.val .RGN_RO_CTRL k.val v)
/-- DAMPER_WRITE (R416). -/
def execDamperWrite (t : Stamp) (p : Port) (k : Rgn) (v : Word) (s : State) : Host.Outcome State Fault Refusal :=
  s.at_ t (fun m => pairWrite m p.val .RGN_DAMPER k.val v)
/-- TIU_CFG_WRITE (R440). -/
def execTiuCfgWrite (t : Stamp) (p : Port) (n : Fin 32) (win : Bool) (v : Word) (s : State) : Host.Outcome State Fault Refusal :=
  s.at_ t (fun m => pairWrite m p.val (if win then .TIM_TIU_WIN else .TIM_TIU_CFG) n.val v)
/-- TIU_ARM (R449). -/
def execTiuArm (t : Stamp) (p : Port) (v : Word) (s : State) : Host.Outcome State Fault Refusal :=
  s.at_ t (fun m => pairWrite m p.val .TIM_TIU_ARM 0 v)
/-- TIU_STAT_READ (R439). -/
def execTiuStatRead (t : Stamp) (p : Port) (n : Fin 32) (s : State) : Host.Outcome State Fault Refusal :=
  s.at_ t (fun m => wordRead m p.val .TIM_TIU_STAT n.val)
/-- FREQ_START (R442). -/
def execFreqStart (t : Stamp) (p : Port) (v : Word) (s : State) : Host.Outcome State Fault Refusal :=
  s.at_ t (fun m => pairWrite m p.val .TIM_FREQ_CFG 0 v)
/-- FREQ_CFG_WRITE (R443). -/
def execFreqCfgWrite (t : Stamp) (p : Port) (v : Word) (s : State) : Host.Outcome State Fault Refusal :=
  s.at_ t (fun m => pairWrite m p.val .TIM_FREQ_CFG 0 v)
/-- FREQ_STAT_READ (R453). -/
def execFreqStatRead (t : Stamp) (p : Port) (s : State) : Host.Outcome State Fault Refusal := s.at_ t (fun m => wordRead m p.val .TIM_FREQ_STAT 0)
/-- SNS_CFG_WRITE (R462). -/
def execSnsCfgWrite (t : Stamp) (p : Port) (n : Fin 24) (v : Word) (s : State) : Host.Outcome State Fault Refusal :=
  s.at_ t (fun m => pairWrite m p.val .SNS_CFG n.val v)
/-- SNS_STAT_READ (R461). -/
def execSnsStatRead (t : Stamp) (p : Port) (n : Fin 24) (s : State) : Host.Outcome State Fault Refusal :=
  s.at_ t (fun m => wordRead m p.val .SNS_STAT n.val)
/-- HK_RUN_START (R496). -/
def execHkRunStart (t : Stamp) (p : Port) (v : Word) (s : State) : Host.Outcome State Fault Refusal :=
  s.at_ t (fun m => pairWrite m p.val .HK_CTRL 0 v)
/-- HK_RUN_STOP (R497). -/
def execHkRunStop (t : Stamp) (p : Port) (v : Word) (s : State) : Host.Outcome State Fault Refusal :=
  s.at_ t (fun m => pairWrite m p.val .HK_CTRL 0 v)
/-- HK_RESTART (R497). -/
def execHkRestart (t : Stamp) (p : Port) (v : Word) (s : State) : Host.Outcome State Fault Refusal :=
  s.at_ t (fun m => pairWrite m p.val .HK_CTRL 0 v)
/-- HK_REF_WRITE (R492). -/
def execHkRefWrite (t : Stamp) (p : Port) (v : Word) (s : State) : Host.Outcome State Fault Refusal :=
  s.at_ t (fun m => pairWrite m p.val .HK_CTRL 0 v)
/-- HK_URGENT (R504). -/
def execHkUrgent (t : Stamp) (p : Port) (v : Word) (s : State) : Host.Outcome State Fault Refusal :=
  s.at_ t (fun m => pairWrite m p.val .HK_URGENT 0 v)
/-- VIN_MIN_CLR (R614). -/
def execVinMinClr (t : Stamp) (p : Port) (v : Word) (s : State) : Host.Outcome State Fault Refusal :=
  s.at_ t (fun m => pairWrite m p.val .MOD_VIN 0 v)
/-- RAIL_TARGET_WRITE (R597). -/
def execRailTargetWrite (t : Stamp) (p : Port) (k : Rgn) (v : Word) (s : State) : Host.Outcome State Fault Refusal :=
  s.at_ t (fun m => pairWrite m p.val .RGN_RAIL k.val v)
/-- FATAL_RESET (R649). -/
def execFatalReset (t : Stamp) (p : Port) (v : Word) (s : State) : Host.Outcome State Fault Refusal :=
  s.at_ t (fun m => pairWrite m p.val .MOD_ERR_CTRL 0 v)
/-- STAT_TIMER_WRITE (R635). -/
def execStatTimerWrite (t : Stamp) (p : Port) (v : Word) (s : State) : Host.Outcome State Fault Refusal :=
  s.at_ t (fun m => pairWrite m p.val .MOD_STAT_CTRL 0 v)
/-- OVERRIDE_RELEASE (R662). -/
def execOverrideRelease (t : Stamp) (p : Port) (k : Option Rgn) (v : Word) (s : State) : Host.Outcome State Fault Refusal :=
  s.at_ t (fun m => match k with
    | some k => pairWrite m p.val .RGN_AGE_STAT k.val v
    | none => pairWrite m p.val .MOD_AGE_STAT 0 v)
/-- DSI_ENABLE (R677). -/
def execDsiEnable (t : Stamp) (p : Port) (v : Word) (s : State) : Host.Outcome State Fault Refusal :=
  s.at_ t (fun m => pairWrite m p.val .DSI_CTRL 0 v)
/-- DSI_DISABLE (R678). -/
def execDsiDisable (t : Stamp) (p : Port) (v : Word) (s : State) : Host.Outcome State Fault Refusal :=
  s.at_ t (fun m => pairWrite m p.val .DSI_CTRL 0 v)
/-- DSI_COMPOSE_FLIP (R685). -/
def execDsiComposeFlip (t : Stamp) (p : Port) (v : Word) (s : State) : Host.Outcome State Fault Refusal :=
  s.at_ t (fun m => pairWrite m p.val .DSI_COMMIT 0 v)
/-- DSI_COMPOSE (R685). -/
def execDsiCompose (t : Stamp) (p : Port) (v : Word) (s : State) : Host.Outcome State Fault Refusal :=
  s.at_ t (fun m => pairWrite m p.val .DSI_COMMIT 0 v)
/-- DSI_FLIP (R685). -/
def execDsiFlip (t : Stamp) (p : Port) (v : Word) (s : State) : Host.Outcome State Fault Refusal :=
  s.at_ t (fun m => pairWrite m p.val .DSI_COMMIT 0 v)
/-- DSI_FLIP_READ (R688). -/
def execDsiFlipRead (t : Stamp) (p : Port) (s : State) : Host.Outcome State Fault Refusal := s.at_ t (fun m => wordRead m p.val .DSI_FLIP_LO 0)
/-- DEBUG_RELOCK (R586). -/
def execDebugRelock (t : Stamp) (p : Port) (v : Word) (s : State) : Host.Outcome State Fault Refusal :=
  s.at_ t (fun m => pairWrite m p.val .MOD_DEBUG_STAT 0 v)
/-- HOST_PORT_CFG_WRITE (R524). -/
def execHostPortCfgWrite (t : Stamp) (p : Port) (q : Port) (v : Word) (s : State) : Host.Outcome State Fault Refusal :=
  s.at_ t (fun m => pairWrite m p.val .HOST_PORT_CFG q.val v)

end Sys2Proof.Machine
end

