-- ==== Sys2Proof/Machine/Events.lean ====
section
/-! DEFINITION. The rows of supply, trips, boot, restarts, scrubbing, statistics and of completions after which waiting
requests are answered. -/
namespace Sys2Proof.Machine

/-- MODULE_RESET (R593): power-on starts the hub's counts of failed attempts and of resets afresh (R564, R583); the
reset comparator asserts below 4.05 V (R590). -/
def outsideReset (m : Kz) (c : ResetCause) : Kz :=
  match c with
  | .powerOn => modFw (moduleReset m 1) (fun f => { f with failsA := 0, failsB := 0, bootCount := 0 })
  | .brownOut vin => if 405 ≤ vin.toNat then m else moduleReset (m.modPower (fun p => { p with resetComparator := true })) 2
  | .nReset => moduleReset (m.modPower (fun p => { p with nReset := false })) 4

/-- SUPPLY_DIP_START (R591). -/
def execSupplyDipStart (t : Stamp) (vin : BitVec 11) (s : State) : Host.Outcome State Fault Refusal := s.at_ t (fun m => dipStart m vin.toNat)
/-- SUPPLY_DIP_END (R591). -/
def execSupplyDipEnd (t : Stamp) (vin : DipVin) (s : State) : Host.Outcome State Fault Refusal :=
  s.at_ t (fun m => dipEnd m vin.low.toNat vin.vin.toNat)
/-- OVERVOLTAGE (R590). -/
def execOvervoltage (e : VinEvent) (s : State) : Host.Outcome State Fault Refusal := s.served e.at_ (fun m => overvoltage m e.vin.toNat)
/-- OVERVOLTAGE_CLEAR (R590). -/
def execOvervoltageClear (e : VinEvent) (s : State) : Host.Outcome State Fault Refusal :=
  s.at_ e.at_ (fun m => overvoltageClear m e.vin.toNat)
/-- RAIL_FAULT (R596). -/
def execRailFault (t : Stamp) (r : Rail) (s : State) : Host.Outcome State Fault Refusal :=
  s.served t (fun m => railUnder m r)
/-- HUB_RAIL_FAULT (R596). -/
def execHubRailFault (f : HubFault) (s : State) : Host.Outcome State Fault Refusal :=
  s.at_ f.at_ (fun m => hubRailFault m f.rail f.mv)
/-- RAIL_CAUSE_CLEAR (R596). -/
def execRailCauseClear (t : Stamp) (k : Rgn) (s : State) : Host.Outcome State Fault Refusal :=
  s.at_ t (fun m => railCauseClear m k.val)
/-- RAIL_RAMP_DONE (R597). -/
def execRailRampDone (t : Stamp) (k : Rgn) (s : State) : Host.Outcome State Fault Refusal := s.at_ t (fun m => rampDone m k.val)
/-- REGION_THERMAL_TRIP (R605). -/
def execRegionThermalTrip (t : Stamp) (k : Rgn) (tj : Int) (s : State) : Host.Outcome State Fault Refusal :=
  s.served t (fun m => regionTrip m k.val tj)
/-- MODULE_THERMAL_TRIP (R605). -/
def execModuleThermalTrip (t : Stamp) (r : Option Rgn) (tj : Int) (s : State) : Host.Outcome State Fault Refusal :=
  s.served t (fun m => moduleTrip m (r.map (fun k => k.val)) tj)
/-- THERMAL_CLEAR (R605). -/
def execThermalClear (t : Stamp) (r : Option Rgn) (tj : Int) (s : State) : Host.Outcome State Fault Refusal :=
  s.at_ t (fun m => thermalClear m (r.map (fun k => k.val)) tj)
/-- REGION_UP_DONE (R603). -/
def execRegionUpDone (t : Stamp) (k : Rgn) (s : State) : Host.Outcome State Fault Refusal := s.served t (fun m => regionUp m k.val)
/-- REGION_DRAIN_DONE (R759). -/
def execRegionDrainDone (t : Stamp) (k : Rgn) (s : State) : Host.Outcome State Fault Refusal := s.served t (fun m => drainDone m k.val)
/-- FIXED_LANE_ARRIVAL (R27). -/
def execFixedLaneArrival (t : Stamp) (k : Rgn) (toHub crcOk : Bool) (s : State) : Host.Outcome State Fault Refusal :=
  s.served t (fun m => laneArrive m k.val toHub crcOk)
/-- FIXED_LANE_RELEASE (R27). -/
def execFixedLaneRelease (t : Stamp) (k : Rgn) (toHub : Bool) (s : State) : Host.Outcome State Fault Refusal :=
  s.served t (fun m => laneRelease m k.val toHub)
/-- FABRIC_PLL_UNLOCK (R127). -/
def execFabricPllUnlock (t : Stamp) (k : Rgn) (s : State) : Host.Outcome State Fault Refusal := s.served t (fun m => regionFatal m k.val 3)
/-- SCRUB_READ (R623). -/
def execScrubRead (t : Stamp) (site : Site) (found : Found) (s : State) : Host.Outcome State Fault Refusal :=
  s.served t (fun m => scrubRead m site found)
/-- VOTE_SCRUB (R624). -/
def execVoteScrub (t : Stamp) (addr : Word) (a b c : Word) (s : State) : Host.Outcome State Fault Refusal :=
  s.served t (fun m => voteScrub m addr.toNat a b c)
/-- CHANNEL_RESTART_BOUNDARY (R627). -/
def execChannelRestartBoundary (t : Stamp) (c : Chan) (s : State) : Host.Outcome State Fault Refusal := s.at_ t (fun m => restartBoundary m c.val)
/-- CHANNEL_RESUME (R627). -/
def execChannelResume (t : Stamp) (c : Chan) (s : State) : Host.Outcome State Fault Refusal := s.served t (fun m => chanResume m c.val)
/-- CHANNEL_RESTART_OVERDUE (R621). -/
def execChannelRestartOverdue (t : Stamp) (c : Chan) (s : State) : Host.Outcome State Fault Refusal := s.served t (fun m => chanOverdue m c.val)
/-- REGION_RESTART (R628). -/
def execRegionRestart (t : Stamp) (k : Rgn) (cause : Fin 6) (s : State) : Host.Outcome State Fault Refusal :=
  s.served t (fun m => regionFatal m k.val (cause.val + 1))
/-- REGION_RESUME (R630). -/
def execRegionResume (t : Stamp) (k : Rgn) (s : State) : Host.Outcome State Fault Refusal :=
  s.served t (fun m => goOn (regionResume m k.val) (.regionResume k.val))
/-- REGION_RESTART_OVERDUE (R621). -/
def execRegionRestartOverdue (t : Stamp) (k : Rgn) (s : State) : Host.Outcome State Fault Refusal := s.served t (fun m => regionOverdue m k.val)
/-- MODULE_FATAL (R632). -/
def execModuleFatal (t : Stamp) (src : Fin 4) (s : State) : Host.Outcome State Fault Refusal := s.served t (fun m => moduleFatal m (src.val + 1))
/-- STAT_TIMER_EXPIRE (R635). -/
def execStatTimerExpire (t : Stamp) (s : State) : Host.Outcome State Fault Refusal := s.at_ t (fun m => statTimer m)
/-- STAT_LATCH (R637). -/
def execStatLatch (t : Stamp) (s : State) : Host.Outcome State Fault Refusal := s.served t (fun m => statLatch m)
/-- STAT_COPY_DONE (R641). -/
def execStatCopyDone (t : Stamp) (s : State) : Host.Outcome State Fault Refusal := s.served t (fun m => statCopied m)
/-- COMPOSER_PASS_DONE (R684). -/
def execComposerPassDone (t : Stamp) (s : State) : Host.Outcome State Fault Refusal :=
  s.served t (fun m => if passDue m then goOn (passDone m) .compose else m)
/-- ENG_LOAD_DONE (R350). -/
def execEngLoadDone (t : Stamp) (k : Rgn) (s : State) : Host.Outcome State Fault Refusal :=
  s.served t (fun m => engLoadDone m k.val)
/-- MODULE_RESET (R593). -/
def execModuleReset (t : Stamp) (cause : ResetCause) (s : State) : Host.Outcome State Fault Refusal := s.at_ t (fun m => outsideReset m cause)
/-- RESET_RELEASE (R601). -/
def execResetRelease (r : Release) (s : State) : Host.Outcome State Fault Refusal :=
  s.at_ r.at_ (fun m => resetRelease m r.testEn r.vin.toNat)
/-- BOOT_SLOT_VERIFIED (R561). -/
def execBootSlotVerified (t : Stamp) (slot : Fin 2) (img : ImageInfo) (keys : IdentKeys) (s : State) : Host.Outcome State Fault Refusal :=
  s.at_ t (fun m => slotVerified m slot.val img keys)
/-- BOOT_REACH_STANDBY (R565). -/
def execBootReachStandby (t : Stamp) (net : List PortNet) (b : ImageInfo) (s : State) : Host.Outcome State Fault Refusal :=
  s.at_ t (fun m => reachStandby m net b)
/-- BOOT_ATTEMPT_TIMEOUT (R564). -/
def execBootAttemptTimeout (t : Stamp) (s : State) : Host.Outcome State Fault Refusal := s.at_ t (fun m => attemptTimeout m)
/-- ACTIVATION_RESET (R569). -/
def execActivationReset (t : Stamp) (s : State) : Host.Outcome State Fault Refusal := s.at_ t (fun m => activationReset m)
/-- LOCKSTEP_DIVERGENCE (R554). -/
def execLockstepDivergence (t : Stamp) (second : Bool) (s : State) : Host.Outcome State Fault Refusal := s.served t (fun m => pairRestart m second)
/-- SUPERVISOR_WATCHDOG (R555). -/
def execSupervisorWatchdog (t : Stamp) (second : Bool) (s : State) : Host.Outcome State Fault Refusal := s.served t (fun m => pairRestart m second)
/-- PAIR_RESTART_DONE (R557). -/
def execPairRestartDone (t : Stamp) (second : Bool) (s : State) : Host.Outcome State Fault Refusal := s.served t (fun m => pairBack m second)

end Sys2Proof.Machine
end

