-- ==== Sys2Proof/Machine/Dispatch.lean ====
section
/-! DEFINITION. One arm per command: its meaning, or a refusal by name. -/
namespace Sys2Proof.Machine

/-- What a command does to everything but the queue. -/
def exec (i : Instr) (s : State) : Host.Outcome State Fault Refusal :=
  match i with
  | .nop t h => Sys2Proof.Machine.execNop t h s
  | .openSession t h lo hi timeout mask => Sys2Proof.Machine.execOpen t h lo hi timeout mask s
  | .closeSession t h => Sys2Proof.Machine.execClose t h s
  | .leaseAcquire t h kind idx => Sys2Proof.Machine.execLeaseAcquire t h kind idx s
  | .leaseRelease t h kind idx => Sys2Proof.Machine.execLeaseRelease t h kind idx s
  | .leaseQuery t h kind idx => Sys2Proof.Machine.execLeaseQuery t h kind idx s
  | .subscribe t h mask => Sys2Proof.Machine.execSubscribe t h mask s
  | .regRead t h addrs => Sys2Proof.Machine.execRegRead t h addrs s
  | .regWrite t h pairs => Sys2Proof.Machine.execRegWrite t h pairs s
  | .blockRead t h addr count => Sys2Proof.Machine.execBlockRead t h addr count s
  | .commit t h kind idx => Sys2Proof.Machine.execCommit t h kind idx s
  | .moduleState t h target => Sys2Proof.Machine.execModuleState t h target s
  | .regionState t h region target => Sys2Proof.Machine.execRegionState t h region target s
  | .channelRestart t h ch => Sys2Proof.Machine.execChannelRestart t h ch s
  | .statBoundary t h => Sys2Proof.Machine.execStatBoundary t h s
  | .stageWrite t h off data => Sys2Proof.Machine.execStageWrite t h off data s
  | .engLoad t h region mask off len => Sys2Proof.Machine.execEngLoad t h region mask off len s
  | .logRead t h src count first => Sys2Proof.Machine.execLogRead t h src count first s
  | .ledgerRead t h recNum part => Sys2Proof.Machine.execLedgerRead t h recNum part s
  | .attest t h nonce obj part => Sys2Proof.Machine.execAttest t h nonce obj part s
  | .challenge t h => Sys2Proof.Machine.execChallenge t h s
  | .firmwareActivation t h off len => Sys2Proof.Machine.execFirmwareActivation t h off len s
  | .ownerKeyWrite t h off len => Sys2Proof.Machine.execOwnerKeyWrite t h off len s
  | .ownerKeyRevoke t h off len => Sys2Proof.Machine.execOwnerKeyRevoke t h off len s
  | .debugUnlock t h off len => Sys2Proof.Machine.execDebugUnlock t h off len s
  | .fwChunkFirmware t h off flags data => Sys2Proof.Machine.execFwChunkFirmware t h off flags data s
  | .fwChunkConfiguration t h off flags data => Sys2Proof.Machine.execFwChunkConfiguration t h off flags data s
  | .fwChunkActivate t h off first data => Sys2Proof.Machine.execFwChunkActivate t h off first data s
  | .sectorEraseDone t => Sys2Proof.Machine.execSectorEraseDone t s
  | .acknowledgement t h a n => Sys2Proof.Machine.execAcknowledgement t h a n s
  | .sessionTimeout t p => Sys2Proof.Machine.execSessionTimeout t p s
  | .seqGapSkip t p => Sys2Proof.Machine.execSeqGapSkip t p s
  | .notificationResend t p => Sys2Proof.Machine.execNotificationResend t p s
  | .nonceExpiry t p => Sys2Proof.Machine.execNonceExpiry t p s
  | .debugExpiry t => Sys2Proof.Machine.execDebugExpiry t s
  | .debugRelock t p v => Sys2Proof.Machine.execDebugRelock t p v s
  | .dbgNonce t => Sys2Proof.Machine.execDbgNonce t s
  | .dbgToken t block => Sys2Proof.Machine.execDbgToken t block s
  | .hostFrameDrop t p => Sys2Proof.Machine.execHostFrameDrop t p s
  | .neighbourRequest t p v6 => Sys2Proof.Machine.execNeighbourRequest t p v6 s
  | .icmpEcho t p v6 => Sys2Proof.Machine.execIcmpEcho t p v6 s
  | .hostLinkLoss t p => Sys2Proof.Machine.execHostLinkLoss t p s
  | .hostPortCfgWrite t p q v => Sys2Proof.Machine.execHostPortCfgWrite t p q v s
  | .idle t f => Sys2Proof.Machine.execIdle t f s
  | .crossingEdge t f cause => Sys2Proof.Machine.execCrossingEdge t f cause s
  | .virtualCrossingEdge t => Sys2Proof.Machine.execVirtualCrossingEdge t s
  | .accept t f => Sys2Proof.Machine.execAccept t f s
  | .bcnReset t f => Sys2Proof.Machine.execBcnReset t f s
  | .epochReset t f => Sys2Proof.Machine.execEpochReset t f s
  | .resync t f => Sys2Proof.Machine.execResync t f s
  | .calInject t f => Sys2Proof.Machine.execCalInject t f s
  | .testTrigger t f => Sys2Proof.Machine.execTestTrigger t f s
  | .statBoundaryFast t f => Sys2Proof.Machine.execStatBoundaryFast t f s
  | .userCode t f u => Sys2Proof.Machine.execUserCode t f u s
  | .reservedFastCommand t f code => Sys2Proof.Machine.execReservedFastCommand t f code s
  | .epochOrigin t => Sys2Proof.Machine.execEpochOrigin t s
  | .hostEpoch t p v => Sys2Proof.Machine.execHostEpoch t p v s
  | .tinSignalDetect t ix => Sys2Proof.Machine.execTinSignalDetect t ix s
  | .tinLock t ix => Sys2Proof.Machine.execTinLock t ix s
  | .tinLockLost t ix => Sys2Proof.Machine.execTinLockLost t ix s
  | .tinSignalLost t ix => Sys2Proof.Machine.execTinSignalLost t ix s
  | .tinRevert t => Sys2Proof.Machine.execTinRevert t s
  | .tlCfgWrite t p v => Sys2Proof.Machine.execTlCfgWrite t p v s
  | .mclkFreqGateDone t hz => Sys2Proof.Machine.execMclkFreqGateDone t hz s
  | .timModeWrite t p v refHz => Sys2Proof.Machine.execTimModeWrite t p v refHz s
  | .synSwitchLocked t => Sys2Proof.Machine.execSynSwitchLocked t s
  | .refLost t refHz => Sys2Proof.Machine.execRefLost t refHz s
  | .refReturn t hz phase => Sys2Proof.Machine.execRefReturn t hz phase s
  | .relockDone t since => Sys2Proof.Machine.execRelockDone t since s
  | .xingSlewDone t => Sys2Proof.Machine.execXingSlewDone t s
  | .synUnlock t => Sys2Proof.Machine.execSynUnlock t s
  | .synLockRegained t => Sys2Proof.Machine.execSynLockRegained t s
  | .fabricPllUnlock t k => Sys2Proof.Machine.execFabricPllUnlock t k s
  | .ovenSetpointWrite t p v => Sys2Proof.Machine.execOvenSetpointWrite t p v s
  | .ovenWarm t mw err => Sys2Proof.Machine.execOvenWarm t mw err s
  | .ovenUnreg t mw err => Sys2Proof.Machine.execOvenUnreg t mw err s
  | .ovenBandLeft t mw err => Sys2Proof.Machine.execOvenBandLeft t mw err s
  | .heaterFault t mw err => Sys2Proof.Machine.execHeaterFault t mw err s
  | .hearthTrimWrite t p v => Sys2Proof.Machine.execHearthTrimWrite t p v s
  | .datumLatchRead t p => Sys2Proof.Machine.execDatumLatchRead t p s
  | .xingLatchRead t p => Sys2Proof.Machine.execXingLatchRead t p s
  | .fixedLaneSend t d => Sys2Proof.Machine.execFixedLaneSend t d s
  | .fixedLaneArrival t k toHub crcOk => Sys2Proof.Machine.execFixedLaneArrival t k toHub crcOk s
  | .fixedLaneRelease t k toHub => Sys2Proof.Machine.execFixedLaneRelease t k toHub s
  | .regionSkewClear t k => Sys2Proof.Machine.execRegionSkewClear t k s
  | .xqStatClr t p k v => Sys2Proof.Machine.execXqStatClr t p k v s
  | .cmAlarm t c uv => Sys2Proof.Machine.execCmAlarm t c uv s
  | .cmAlarmClear t c uv => Sys2Proof.Machine.execCmAlarmClear t c uv s
  | .feSettleDone t c => Sys2Proof.Machine.execFeSettleDone t c s
  | .injectEdge t c => Sys2Proof.Machine.execInjectEdge t c s
  | .injectReturn t c => Sys2Proof.Machine.execInjectReturn t c s
  | .benchmarkCalDone t c sl coef rms => Sys2Proof.Machine.execBenchmarkCalDone t c sl coef rms s
  | .shadowWindowClose t c pairs disagree sum => Sys2Proof.Machine.execShadowWindowClose t c pairs disagree sum s
  | .shadowWindowStarved t c => Sys2Proof.Machine.execShadowWindowStarved t c s
  | .stepTimerExpire t c => Sys2Proof.Machine.execStepTimerExpire t c s
  | .stepNow t p c v => Sys2Proof.Machine.execStepNow t p c v s
  | .handover t c => Sys2Proof.Machine.execHandover t c s
  | .confirmDone t c disagree => Sys2Proof.Machine.execConfirmDone t c disagree s
  | .confirmRevert t c disagree => Sys2Proof.Machine.execConfirmRevert t c disagree s
  | .revertBoundary t c => Sys2Proof.Machine.execRevertBoundary t c s
  | .stuckSlice t c sl first => Sys2Proof.Machine.execStuckSlice t c sl first s
  | .emergHandover t c => Sys2Proof.Machine.execEmergHandover t c s
  | .sliceHealthWrite t p c v => Sys2Proof.Machine.execSliceHealthWrite t p c v s
  | .calPassStart t k => Sys2Proof.Machine.execCalPassStart t k s
  | .calPassDone t k front => Sys2Proof.Machine.execCalPassDone t k front s
  | .blFreezeWrite t p c v => Sys2Proof.Machine.execBlFreezeWrite t p c v s
  | .blAcquireDone t c est => Sys2Proof.Machine.execBlAcquireDone t c est s
  | .blFreezeBegin t c cause => Sys2Proof.Machine.execBlFreezeBegin t c cause s
  | .blFreezeEnd t c cause => Sys2Proof.Machine.execBlFreezeEnd t c cause s
  | .blReacquire t c => Sys2Proof.Machine.execBlReacquire t c s
  | .blReacquireDone t c resid => Sys2Proof.Machine.execBlReacquireDone t c resid s
  | .toneBlockResult t c last mag2 phase sat => Sys2Proof.Machine.execToneBlockResult t c last mag2 phase sat s
  | .comparatorQualify t c second => Sys2Proof.Machine.execComparatorQualify t c second s
  | .triggerDecide t c => Sys2Proof.Machine.execTriggerDecide t c s
  | .pretriggerFilled t c => Sys2Proof.Machine.execPretriggerFilled t c s
  | .holdoffExpire t c => Sys2Proof.Machine.execHoldoffExpire t c s
  | .rearmDone t c => Sys2Proof.Machine.execRearmDone t c s
  | .arm t p c v => Sys2Proof.Machine.execArm t p c v s
  | .softTrig t p k v => Sys2Proof.Machine.execSoftTrig t p k v s
  | .regionPatternFire t k => Sys2Proof.Machine.execRegionPatternFire t k s
  | .modulePatternFire t => Sys2Proof.Machine.execModulePatternFire t s
  | .xtrigEdge t x falling inst => Sys2Proof.Machine.execXtrigEdge t x falling inst s
  | .extractionStart t c => Sys2Proof.Machine.execExtractionStart t c s
  | .recordClose t c d => Sys2Proof.Machine.execRecordClose t c d s
  | .streamRecordStart t c => Sys2Proof.Machine.execStreamRecordStart t c s
  | .acceptQueueDepart t k => Sys2Proof.Machine.execAcceptQueueDepart t k s
  | .recordRelease t c => Sys2Proof.Machine.execRecordRelease t c s
  | .accqHighWaterClr t p k v => Sys2Proof.Machine.execAccqHighWaterClr t p k v s
  | .maskVerdict t c => Sys2Proof.Machine.execMaskVerdict t c s
  | .measurementDone t c => Sys2Proof.Machine.execMeasurementDone t c s
  | .avgFold t c => Sys2Proof.Machine.execAvgFold t c s
  | .histFold t c => Sys2Proof.Machine.execHistFold t c s
  | .mapFold t c => Sys2Proof.Machine.execMapFold t c s
  | .mapDecay t x => Sys2Proof.Machine.execMapDecay t x s
  | .avgClr t p k v => Sys2Proof.Machine.execAvgClr t p k v s
  | .histClr t p k v => Sys2Proof.Machine.execHistClr t p k v s
  | .mapClr t p x v => Sys2Proof.Machine.execMapClr t p x v s
  | .mapClrDone t x => Sys2Proof.Machine.execMapClrDone t x s
  | .engineActivationStart t c no window => Sys2Proof.Machine.execEngineActivationStart t c no window s
  | .engineBundle t c => Sys2Proof.Machine.execEngineBundle t c s
  | .engineWatchdog t c => Sys2Proof.Machine.execEngineWatchdog t c s
  | .featureHandoff t c => Sys2Proof.Machine.execFeatureHandoff t c s
  | .engineMemFault t c => Sys2Proof.Machine.execEngineMemFault t c s
  | .engineReloadDone t c => Sys2Proof.Machine.execEngineReloadDone t c s
  | .primFrame t n no slip => Sys2Proof.Machine.execPrimFrame t n no slip s
  | .laneEnWrite t p k v => Sys2Proof.Machine.execLaneEnWrite t p k v s
  | .laneTestEnWrite t p k v => Sys2Proof.Machine.execLaneTestEnWrite t p k v s
  | .laneRetrain t p k v => Sys2Proof.Machine.execLaneRetrain t p k v s
  | .lanePllLock t k j => Sys2Proof.Machine.execLanePllLock t k j s
  | .laneSyncDone t k j => Sys2Proof.Machine.execLaneSyncDone t k j s
  | .laneRetrainDone t k j => Sys2Proof.Machine.execLaneRetrainDone t k j s
  | .lanePllUnlock t k j => Sys2Proof.Machine.execLanePllUnlock t k j s
  | .frameOpen t k => Sys2Proof.Machine.execFrameOpen t k s
  | .frameComplete t k j => Sys2Proof.Machine.execFrameComplete t k j s
  | .damperWrite t p k v => Sys2Proof.Machine.execDamperWrite t p k v s
  | .overflowEnter t k => Sys2Proof.Machine.execOverflowEnter t k s
  | .overflowExit t k => Sys2Proof.Machine.execOverflowExit t k s
  | .tiuCfgWrite t p n win v => Sys2Proof.Machine.execTiuCfgWrite t p n win v s
  | .tiuArm t p v => Sys2Proof.Machine.execTiuArm t p v s
  | .tiuEventArrival t c => Sys2Proof.Machine.execTiuEventArrival t c s
  | .tiuJudge t => Sys2Proof.Machine.execTiuJudge t s
  | .tiuTimeout t n => Sys2Proof.Machine.execTiuTimeout t n s
  | .tiuStatRead t p n => Sys2Proof.Machine.execTiuStatRead t p n s
  | .freqStart t p v => Sys2Proof.Machine.execFreqStart t p v s
  | .freqCfgWrite t p v => Sys2Proof.Machine.execFreqCfgWrite t p v s
  | .freqGateEnd t n span longest => Sys2Proof.Machine.execFreqGateEnd t n span longest s
  | .freqNoSignal t => Sys2Proof.Machine.execFreqNoSignal t s
  | .freqStatRead t p => Sys2Proof.Machine.execFreqStatRead t p s
  | .snsCfgWrite t p n v => Sys2Proof.Machine.execSnsCfgWrite t p n v s
  | .snsBoundary t n peak => Sys2Proof.Machine.execSnsBoundary t n peak s
  | .snsOutputPublish t n re im => Sys2Proof.Machine.execSnsOutputPublish t n re im s
  | .snsOpen t n => Sys2Proof.Machine.execSnsOpen t n s
  | .snsOpenClear t n => Sys2Proof.Machine.execSnsOpenClear t n s
  | .snsCheckDue t n => Sys2Proof.Machine.execSnsCheckDue t n s
  | .snsCheckDone t n tr ti er ei => Sys2Proof.Machine.execSnsCheckDone t n tr ti er ei s
  | .snsStatRead t p n => Sys2Proof.Machine.execSnsStatRead t p n s
  | .hkRunStart t p v => Sys2Proof.Machine.execHkRunStart t p v s
  | .hkRunStop t p v => Sys2Proof.Machine.execHkRunStop t p v s
  | .hkRestart t p v => Sys2Proof.Machine.execHkRestart t p v s
  | .hkRefWrite t p v => Sys2Proof.Machine.execHkRefWrite t p v s
  | .hkRefSettled t c => Sys2Proof.Machine.execHkRefSettled t c s
  | .hkConversionDone t c vin vref => Sys2Proof.Machine.execHkConversionDone t c vin vref s
  | .hkXchkDone t c vin vref => Sys2Proof.Machine.execHkXchkDone t c vin vref s
  | .hkUrgent t p v => Sys2Proof.Machine.execHkUrgent t p v s
  | .hkUrgentDone t c vin vref => Sys2Proof.Machine.execHkUrgentDone t c vin vref s
  | .supplyDipStart t vin => Sys2Proof.Machine.execSupplyDipStart t vin s
  | .supplyDipEnd t vin => Sys2Proof.Machine.execSupplyDipEnd t vin s
  | .vinMinClr t p v => Sys2Proof.Machine.execVinMinClr t p v s
  | .moduleReset t cause => Sys2Proof.Machine.execModuleReset t cause s
  | .resetRelease r => Sys2Proof.Machine.execResetRelease r s
  | .bootSlotVerified t slot img keys => Sys2Proof.Machine.execBootSlotVerified t slot img keys s
  | .bootReachStandby t net b => Sys2Proof.Machine.execBootReachStandby t net b s
  | .bootAttemptTimeout t => Sys2Proof.Machine.execBootAttemptTimeout t s
  | .activationReset t => Sys2Proof.Machine.execActivationReset t s
  | .overvoltage e => Sys2Proof.Machine.execOvervoltage e s
  | .overvoltageClear e => Sys2Proof.Machine.execOvervoltageClear e s
  | .railFault t r => Sys2Proof.Machine.execRailFault t r s
  | .hubRailFault f => Sys2Proof.Machine.execHubRailFault f s
  | .railCauseClear t k => Sys2Proof.Machine.execRailCauseClear t k s
  | .railTargetWrite t p k v => Sys2Proof.Machine.execRailTargetWrite t p k v s
  | .railRampDone t k => Sys2Proof.Machine.execRailRampDone t k s
  | .regionThermalTrip t k tj => Sys2Proof.Machine.execRegionThermalTrip t k tj s
  | .moduleThermalTrip t r tj => Sys2Proof.Machine.execModuleThermalTrip t r tj s
  | .thermalClear t r tj => Sys2Proof.Machine.execThermalClear t r tj s
  | .regionUpDone t k => Sys2Proof.Machine.execRegionUpDone t k s
  | .regionDrainDone t k => Sys2Proof.Machine.execRegionDrainDone t k s
  | .lockstepDivergence t second => Sys2Proof.Machine.execLockstepDivergence t second s
  | .supervisorWatchdog t second => Sys2Proof.Machine.execSupervisorWatchdog t second s
  | .pairRestartDone t second => Sys2Proof.Machine.execPairRestartDone t second s
  | .scrubRead t site found => Sys2Proof.Machine.execScrubRead t site found s
  | .voteScrub t addr a b c => Sys2Proof.Machine.execVoteScrub t addr a b c s
  | .channelRestartBoundary t c => Sys2Proof.Machine.execChannelRestartBoundary t c s
  | .channelResume t c => Sys2Proof.Machine.execChannelResume t c s
  | .channelRestartOverdue t c => Sys2Proof.Machine.execChannelRestartOverdue t c s
  | .regionRestart t k cause => Sys2Proof.Machine.execRegionRestart t k cause s
  | .regionResume t k => Sys2Proof.Machine.execRegionResume t k s
  | .regionRestartOverdue t k => Sys2Proof.Machine.execRegionRestartOverdue t k s
  | .moduleFatal t src => Sys2Proof.Machine.execModuleFatal t src s
  | .fatalReset t p v => Sys2Proof.Machine.execFatalReset t p v s
  | .statTimerExpire t => Sys2Proof.Machine.execStatTimerExpire t s
  | .statTimerWrite t p v => Sys2Proof.Machine.execStatTimerWrite t p v s
  | .statLatch t => Sys2Proof.Machine.execStatLatch t s
  | .statCopyDone t => Sys2Proof.Machine.execStatCopyDone t s
  | .archiveSummary t ok => Sys2Proof.Machine.execArchiveSummary t ok s
  | .ageRoMeasure t k pair ppm => Sys2Proof.Machine.execAgeRoMeasure t k pair ppm s
  | .vminTest t k mv => Sys2Proof.Machine.execVminTest t k mv s
  | .ageHourly t heat => Sys2Proof.Machine.execAgeHourly t heat s
  | .ageDaily t syn plls dev => Sys2Proof.Machine.execAgeDaily t syn plls dev s
  | .policyRail t k => Sys2Proof.Machine.execPolicyRail t k s
  | .policyStep t k ro rg => Sys2Proof.Machine.execPolicyStep t k ro rg s
  | .policyOven t mean1 mean24 => Sys2Proof.Machine.execPolicyOven t mean1 mean24 s
  | .policyTrim t => Sys2Proof.Machine.execPolicyTrim t s
  | .overrideRelease t p k v => Sys2Proof.Machine.execOverrideRelease t p k v s
  | .ledgerCheckpoint t ok => Sys2Proof.Machine.execLedgerCheckpoint t ok s
  | .ledgerSummary t drift wear ok => Sys2Proof.Machine.execLedgerSummary t drift wear ok s
  | .ledgerAction t ok => Sys2Proof.Machine.execLedgerAction t ok s
  | .dsiEnable t p v => Sys2Proof.Machine.execDsiEnable t p v s
  | .dsiDisable t p v => Sys2Proof.Machine.execDsiDisable t p v s
  | .dsiPllLock t => Sys2Proof.Machine.execDsiPllLock t s
  | .dsiFrameStart t => Sys2Proof.Machine.execDsiFrameStart t s
  | .dsiLatchEdge t => Sys2Proof.Machine.execDsiLatchEdge t s
  | .dsiTeEdge t falling => Sys2Proof.Machine.execDsiTeEdge t falling s
  | .dsiTeTimeout t => Sys2Proof.Machine.execDsiTeTimeout t s
  | .dsiComposeFlip t p v => Sys2Proof.Machine.execDsiComposeFlip t p v s
  | .dsiCompose t p v => Sys2Proof.Machine.execDsiCompose t p v s
  | .dsiFlip t p v => Sys2Proof.Machine.execDsiFlip t p v s
  | .composerPassDone t => Sys2Proof.Machine.execComposerPassDone t s
  | .dsiFlipRead t p => Sys2Proof.Machine.execDsiFlipRead t p s
  | .hostLinkLock t p => Sys2Proof.Machine.execHostLinkLock t p s
  | .malformedMessage t h => Sys2Proof.Machine.execMalformedMessage t h s
  | .unknownCommand t h code body => Sys2Proof.Machine.execUnknownCommand t h code body s
  | .engLoadDone t k => Sys2Proof.Machine.execEngLoadDone t k s

end Sys2Proof.Machine
end

