-- ==== Sys2Proof/Safety.lean ====
section
/-! DEFINITION. The terms in which the statements are made: a command that completes, and the conditions on the state
under which the rows of the host ports do. -/
namespace Sys2Proof.Safety
open Machine

/-- The command completes: it answers a next state whose queue is untouched and whose block satisfies `P`. -/
def After (c : Instr) (s : State) (P : Kz → Prop) : Prop := ∃ n : Kz, exec c s = .next { s with kz := n } ∧ P n

/-- No session has a request that waits for its turn, and none is to be reset. -/
abbrev Quiet (m : Kz) : Prop := ∀ p, p < 4 →
  (m.port p).session.slots = [] ∧ (m.port p).session.resetDue = false ∧ (m.port p).session.gapSince = none

/-- A register row reaches its register: port `p` has a session, the module is powered, and the register's region is
not restarting (R524, R601, R629). -/
abbrev Reaches (m : Kz) (p : Nat) (k : RegKind) (i : Nat) : Prop :=
  (m.port p).session.isOpen = true ∧ powered m.pwr.state = true ∧ restartOf m (k.addr i) = none

/-- The write of a register row is accepted: the session holds a lease that covers the register, the write changes no
locked field, and the checks that the register's chapter makes of the value pass (R8, R534, R755). -/
abbrev Accepts (m : Kz) (p : Nat) (k : RegKind) (i : Nat) (w : Word) : Prop :=
  Quiet m ∧ Reaches m p k i ∧ covers (m.port p).session.leases (leaseFor (k.addr i)) = true ∧
    lockedOut m k i w = false ∧ regCheck m k i w = none

/-- The answer to an accepted register row. -/
def okPair (p : Nat) (k : RegKind) (i : Nat) : Emission := .pairStatus p (k.addr i) .ok noDetail

/-- The session of the port that a message arrives at. -/
abbrev sess (m : Kz) (h : Hdr) : Session := (m.port h.port.val).session

/-- A request with this header is the next one of an open session, and it starts at once (R524, R529, R530, R557). -/
abbrev Due (m : Kz) (h : Hdr) (r : Request) : Prop :=
  Quiet m ∧ answers m h.port.val = true ∧ malformedBody r = false ∧ (sess m h).isOpen = true ∧
    (sess m h).origin = h.origin ∧ (sess m h).version = h.version ∧ (m.port h.port.val).sessionId = h.session ∧
    (sess m h).h = h.seq ∧ (sess m h).running = none ∧ (∀ t ∈ (sess m h).tags, t.tag ≠ h.tag) ∧
    ((sess m h).tags.filter (fun t => t.resp.isSome)).length < 64 ∧ m.sup.restarting0 = false

/-- The edge that a frame's crossing makes (R118, R129, R381, R382): its BCN is 0 at an orbit mark or a BCN_RESET, else one more than the
last one's; the orbit count is 0 at the first edge and at a BCN_RESET, and goes up at an orbit mark. -/
def frameEdge (m : Kz) (f : Frame) (mark reset : Bool) : Edge :=
  { no := match m.tl.edges with | e :: _ => e.no + 1 | [] => 0
    at_ := (edgeAt m f).1
    period := (edgeAt m f).2.1
    bcn := if mark || reset then 0 else (nextBcn m).1
    orbit := if reset || m.tl.edges.isEmpty then 0 else if mark then ((nextBcn m).2 + 1) % 2 ^ 32 else (nextBcn m).2
    mark := mark
    virt := m.tb.xingVirtual
    hold := carried m }

/-- A frame of a command code that can be taken, arrives in a powered module and passes its check (R380, R391). -/
abbrev GoodFrame (m : Kz) (f : Frame) (code : Nat) : Prop :=
  edgeOk m f = true ∧ powered m.pwr.state = true ∧ f.replaced = none ∧
    f.crc.toNat = crc8 (be 1 code ++ be 1 f.data.toNat ++
      be 1 ((if f.mark = true ∨ code = 2 then 0 else (nextBcn m).1) % 256))

/-- The crossing is the newest one, and nothing outside the timing lanes, the channels' range marks and periodic triggers,
the time-interval unit, counters, log and output has changed but the hub and the time base, which are as given. -/
abbrev Crossed (m n : Kz) (f : Frame) (mark reset : Bool) (hub : Hub) (tb : TimeBase) : Prop :=
  n = { m with tl := n.tl, chans := n.chans, regs := n.regs, stats := n.stats, log := n.log, spans := n.spans, tiu := n.tiu,
               wire := n.wire, hub := hub, tb := tb } ∧
    n.tl.edges.head? = some (frameEdge m f mark reset) ∧ n.tl.bcn = (frameEdge m f mark reset).bcn ∧
    n.tl.orbit = (frameEdge m f mark reset).orbit ∧ n.regs.cfg = m.regs.cfg

/-- What a fast command puts onto the fixed lane (R29). -/
def laneOf (e : Edge) (code data : Nat) : LaneCmd := ⟨code, data, e.mark, e.at_, e.bcn, e.orbit, e.no⟩

/-- The hub with one more command waiting for the fixed lane. -/
def hubWith (h : Hub) (c : LaneCmd) (a : Option LaneAccept) : Hub := { h with out := { h.out with cmds := h.out.cmds ++ [(c, a)] } }

/-- A trigger of a source reaches a channel that can be triggered: its region in RUN, in SCOPE or ACCUMULATE mode, its
records and the source enabled (R190, R195). -/
abbrev Takes (m : Kz) (c src : Nat) : Prop :=
  m.inRun (c / 16) = true ∧ (acqMode m (c / 16) = 0 ∨ acqMode m (c / 16) = 3) ∧ running m c = true ∧
    m.on F.CH_MEM_CTRL.REC_EN c = true ∧ (m.fld F.CH_TRIG_CTRL.SRC_EN c).testBit src = true

/-- A channel with one more trigger to decide: its source, its instant, the fabric cycle in which it qualified. -/
def triggered (x : Channel) (src inst cycle : Nat) : Channel :=
  { x with trig := { x.trig with pending := x.trig.pending ++ [(src, inst, cycle)] } }

/-- Whether a waiting trigger belongs to the one that is decided with fabric cycle `cyc` and earliest instant `inst`: it qualified in
that cycle, or its sample lies in the fabric cycle of that one's sample and finds the unit ARMED (R196, R213). -/
def joins (m : Kz) (c cyc inst : Nat) (y : Nat × Nat × Nat) : Bool :=
  decide (y.2.2 = cyc) || (decide (armAt (m.chan c).trig (sampleInst m c (sampleAt m c y.2.1)) = .armed) &&
    decide (sampleCycle m c (sampleAt m c y.2.1) = sampleCycle m c (sampleAt m c inst)))

/-- A comparator after crossings at their positions, none of a CFD (R187). -/
def crossAll (m : Kz) (p : Nat) (ys : List (Crossing × Nat)) (q : Comp) : Comp :=
  ys.foldl (fun q y => (compCross m p y.1 y.2 (false, false) q).2) q

/-- One stub joined a channel's closed records, with a flag of R414; the channel is otherwise as `x` (R255, R259). -/
abbrev OneStub (m n : Kz) (c : Nat) (x : Channel) (kind : RecKind) (flag : Nat) : Prop :=
  n = { m with chans := n.chans, rgns := n.rgns, stats := (m.count .RGN_STUB_COUNT (c / 16) 1).stats } ∧
    (∀ y : Nat, y < 192 → y ≠ c → n.chan y = m.chan y) ∧
    (∀ k : Nat, k < 12 → n.rgn k = { m.rgn k with acq := { (m.rgn k).acq with order := (n.rgn k).acq.order } }) ∧
    n.chan c = { x with mem := { x.mem with closed := (n.chan c).mem.closed } } ∧
    (n.chan c).mem.closed.length = (m.chan c).mem.closed.length + 1 ∧
    ∀ r ∈ (n.chan c).mem.closed, r ∈ (m.chan c).mem.closed ∨
      (r.kind = kind ∧ r.ch = c ∧ r.samples = [] ∧ r.flags.testBit 0 = true ∧ r.flags.testBit flag = true)

/-- No request is in execution. -/
abbrev Idle (m : Kz) : Prop := ∀ p, p < 4 → (m.port p).session.running = none ∧ (m.port p).orphans = []

/-- The ports are as they were. -/
abbrev SamePorts (m n : Kz) : Prop := ∀ p, p < 4 → n.port p = m.port p

/-- A housekeeping converter at the start of a traverse at moment `b`, which latches its configuration (R495, R499). -/
def traverse (m : Kz) (c : Nat) (cold : Bool) (b : Nat) (x : HkConv) : HkConv :=
  { x with running := true, restartDue := false, tseq := (x.tseq + 1) % 256, xchk := m.cfgWord .HK_XCHK_CFG 0,
           len := m.fld (hkOf c F.HK_CTRL.LEN_A F.HK_CTRL.LEN_B) 0, refMv := m.fld F.HK_REF_EXT.REF_EXT_MV 0,
           ents := (upTo 16).map (fun e => m.cfgWord (if c = 0 then .HK_A_ENT else .HK_B_ENT) e),
           wins := (upTo 16).map (fun e => m.cfgWord (if c = 0 then .HK_A_WIN else .HK_B_WIN) e),
           fresh := if cold then 0xFFFF else x.fresh, entry := 0, start := b, unsettled := !x.settled }

/-- The housekeeping part once converter `c` has become `x` and starts a traverse at moment `b`: a changed cross-check configuration
ends the run of mismatches (R502). -/
def traversed (m : Kz) (c : Nat) (cold : Bool) (b : Nat) (h : Housekeeping) : Housekeeping :=
  let x := if c = 0 then h.a else h.b
  let g := if c = 0 then { h with a := traverse m c cold b x } else { h with b := traverse m c cold b x }
  { g with run := if x.xchk = m.cfgWord .HK_XCHK_CFG 0 then h.run else 0 }

/-- A write of HK_CTRL asks nothing of converter `c`. -/
abbrev HkStill (m : Kz) (c : Nat) (w : Word) : Prop :=
  (hkOf c F.HK_CTRL.REF_A F.HK_CTRL.REF_B).of w = m.fld (hkOf c F.HK_CTRL.REF_A F.HK_CTRL.REF_B) 0 ∧
    (hkOf c F.HK_CTRL.REFBUF_EN_A F.HK_CTRL.REFBUF_EN_B).of w = m.fld (hkOf c F.HK_CTRL.REFBUF_EN_A F.HK_CTRL.REFBUF_EN_B) 0 ∧
    if (hkConv m c).running = true then (hkOf c F.HK_CTRL.RUN_A F.HK_CTRL.RUN_B).of w = 1 ∧
        (hkOf c F.HK_CTRL.RESTART_A F.HK_CTRL.RESTART_B).of w = 0
      else (hkOf c F.HK_CTRL.RUN_A F.HK_CTRL.RUN_B).of w = 0

/-- A request with this header runs to its own meaning: it is due, and the module's state, the session's version and
leases, its operands' ranges and a restart of its region do not stop it (R527, R534, R537, R545, R629). -/
abbrev Runs (m : Kz) (h : Hdr) (r : Request) : Prop :=
  Due m h r ∧ ((powered m.pwr.state = true ∧ (needs r).all (fun l => covers (sess m h).leases l) = true) ∨
      (m.pwr.state = .recovery ∧ inRecovery r = true)) ∧
    sinceVersion r ≤ (sess m h).version.toNat ∧ badBody (sess m h).version.toNat r = false ∧
    (waitsFor r).all (fun k => !(m.rgn k).err.restarting) = true

/-- A session in which a request has started: it has moved past the sequence number, the tag is in use and the timer has
restarted (R525, R528, R530). -/
def begun (m : Kz) (h : Hdr) (r : Request) (a : Option Resp) : Session :=
  { sess m h with h := h.seq + 1, tags := (sess m h).tags ++ [⟨h.tag, h.seq, digestOf r, a⟩], timer := m.now.ns }

/-- The block in which a request executes. -/
def started (m : Kz) (h : Hdr) (r : Request) : Kz := m.modSess h.port.val (fun _ => begun m h r none)

/-- The request got its one response, the newest message, which is kept with its tag (R528, R531); `f` is what the
command did to its session, and no other port has changed. -/
abbrev Answered (m n : Kz) (h : Hdr) (r : Request) (st : Status) (body : List Byte) (f : Session → Session) : Prop :=
  n.wire = .response h.port.val (answerHead m h) h.seq.toNat h.tag.toNat (cmdCode r) st body false :: m.wire ∧
    n.port h.port.val = { m.port h.port.val with session := f (begun m h r (some ⟨cmdCode r, st, body⟩)) } ∧
    ∀ y, y < 4 → y ≠ h.port.val → n.port y = m.port y

/-- The request is in execution and waits, without a response (R530). -/
abbrev Waiting (m n : Kz) (h : Hdr) (r : Request) (w : Wait) : Prop :=
  n.wire = m.wire ∧
    n.port h.port.val = { m.port h.port.val with session :=
      { begun m h r none with running := some { seq := h.seq, tag := h.tag, req := r, via := viaOf m h, wait := w, body := [], from_ := 0 } } } ∧
    ∀ y, y < 4 → y ≠ h.port.val → n.port y = m.port y

/-- A message that got a rejection: counted, sent, and logged where its status was not yet in this second (R532). -/
abbrev Rejected (m n : Kz) (h : Hdr) (cmd : Nat) (st : Status) : Prop :=
  n = { m with stats := (m.count .HOST_REJECT h.port.val 1).stats, ports := n.ports, log := n.log, wire := n.wire } ∧
    n.wire = .rejection h.port.val (answerHead m h) h.seq.toNat h.tag.toNat cmd st :: m.wire ∧
    (∀ y, y < 4 → y ≠ h.port.val → n.port y = m.port y) ∧
    n.port h.port.val = { m.port h.port.val with
      rejSecond := m.now.ns / 1000000000, rejSent := (n.port h.port.val).rejSent, rejLogged := (n.port h.port.val).rejLogged }

/-- The port may still send a rejection in this second (R532). -/
abbrev MayReject (m : Kz) (p : Nat) : Prop :=
  0 < m.fld F.HOST_CFG.REJ_RATE 0 ∧ ((m.port p).rejSecond = m.now.ns / 1000000000 → (m.port p).rejSent < m.fld F.HOST_CFG.REJ_RATE 0)

/-- A staged signed block that is judged: it parses, the module's identity keys are good, and it answers the session's nonce
within its life (R544). -/
abbrev Judged (m : Kz) (h : Hdr) (off len : Word) (g : Signed) : Prop :=
  Runs m h (.signed off len) ∧ m.pwr.state ≠ .recovery ∧ off.toNat + len.toNat ≤ 131072 ∧ m.trust.identOk = true ∧
    (sess m h).nonce.any (fun x => decide (x.bytes = g.nonce) && decide (m.now.ns < x.issued + nonceLife)) = true

/-- The end of a signed command: its response, its nonce used up, and the attempt in the event log (R544). -/
abbrev SignedEnd (m n : Kz) (h : Hdr) (off len : Word) (g : Signed) (st : Status) : Prop :=
  Answered m n h (.signed off len) st (if st = .ok then [] else noDetail.bytes) (fun x => { x with nonce := none }) ∧
    n.log.entries.head?.map (fun e => (e.code, e.value)) =
      some (0x0503, ofBe (slice g.block 4 1) * 256 + st.code % 256) ∧ n.log.next = (m.log.next + 1) % 2 ^ 32

/-- A signed command's outcome: refused for its binding or its signatures with nothing else changed, or its operation
with status `st` and effect `P` (R544). What the signature schemes accept is opaque, so both branches stand. -/
abbrev SignedBy (m n : Kz) (h : Hdr) (off len : Word) (g : Signed) (st : Status) (P : Prop) : Prop :=
  if g.binding ≠ deviceBinding then
    n = { m with ports := n.ports, wire := n.wire, log := n.log } ∧ SignedEnd m n h off len g .bindingMismatch
  else if sigOk m.trust g = false then
    n = { m with ports := n.ports, wire := n.wire, log := n.log } ∧ SignedEnd m n h off len g .sigInvalid
  else P ∧ SignedEnd m n h off len g st

/-- What every step keeps: the memory of the block in its canonical form, an event log of at most 4,096 entries (R643), one
reset cause (R613), and a raster port that sends one of its two buffers (R688). -/
abbrev Inv (m : Kz) : Prop :=
  m.mem.wf = true ∧ m.log.entries.length ≤ 4096 ∧ m.pwr.resetCause ∈ [1, 2, 4, 8, 16, 32] ∧ m.dsi.front < 2

end Sys2Proof.Safety
end

