-- ==== Sys2Proof/Certificates/Slice0/Obligations.lean ====
section
/-! DEFINITION. The statements for the provers. A clause `After c s fun n => P` says that command `c` completes from state
`s`, touches nothing of the queue, and leaves a block `n` with `P`; `m` is the block at the command's moment. Where `P`
gives `n` as a whole, all that it does not name is unchanged. -/
open Sys2Proof Sys2Proof.Machine Sys2Proof.Safety

/-- R113, R124, R126, R128, R129, R142, R387 to R389, R758: what the synthesiser's, the oven's and the timing inputs' events make of the time base. -/
def Obligations.SynthesiserOvenAndTimingInputs : Prop := ∀ (s : State) (t : Stamp) (m : Kz), s.kz.advance t = m →
  (m.tb.tb = .switching →
    After (.synSwitchLocked t) s fun n => n = { m with
        tb := { m.tb with tb := .tracking, synLocked := true, lockHz := if sampleHz m = 0 then m.tb.lockHz else sampleHz m },
        spans := n.spans }) ∧
  (∀ hz, tmode m = 2 → m.tb.tb = .tracking → (hz = 0 ∨ m.tb.entryHz < (max hz m.tb.entryHz - min hz m.tb.entryHz) * 10000) →
    After (.refLost t hz) s fun n => n = { m with
        tb := { m.tb with refHz := hz, tb := .holdover, holdStart := m.now.tick, holdPhase := 0 },
        regs := (m.mark F.TIM_STAT.REF_LOST_SEEN 0).regs,
        log := (m.logE 0x0202 0 0 0 ((m.stampOf m.inst).1 / 1024) 0).log,
        spans := n.spans }) ∧
  (∀ (hz : Nat) (phase : Int), m.tb.tb = .holdover → tmode m = 2 → refInRange { m with tb := { m.tb with refHz := hz } } hz
      = true →
    After (.refReturn t hz phase) s fun n => n = { m with
        tb := { m.tb with
            refHz := hz,
            tb := .relock,
            holdPhase := max m.tb.holdPhase phase.natAbs,
            relockErr := phase,
            relockAt := m.now.ns },
        spans := n.spans }) ∧
  (∀ (since : Nat), m.tb.tb = .relock → slewEnd m ≤ since → since + 1000000 ≤ m.now.ns → tmode m ≠ 1 →
    After (.relockDone t since) s fun n => n = { m with
        tb := { m.tb with tb := .tracking, lockHz := if sampleHz m = 0 then m.tb.lockHz else sampleHz m },
        log := (m.logE 0x0202 0 0 0 ((m.stampOf (m.tb.holdStart * 1024)).1 / 1024) m.tb.holdPhase).log,
        spans := n.spans }) ∧
  (∀ (since : Nat), m.tb.tb = .relock → slewEnd m ≤ since → since + 1000000 ≤ m.now.ns → tmode m = 1 → mclkLost m = false →
    After (.relockDone t since) s fun n => n = { m with
        tb := { m.tb with
            tb := .tracking,
            lockHz := if sampleHz m = 0 then m.tb.lockHz else sampleHz m,
            xingVirtual := false },
        log := (m.logE 0x0202 0 0 0 ((m.stampOf (m.tb.holdStart * 1024)).1 / 1024) m.tb.holdPhase).log,
        spans := n.spans }) ∧
  (∀ (e : Int), m.tb.xingVirtual = true → mclkLost m = false → tmode m ≠ 1 → m.tl.slewErr = some e → e.natAbs ≤ 256 →
    After (.xingSlewDone t) s fun n => n = { m with tb := { m.tb with xingVirtual := false }, spans := n.spans }) ∧
  (m.tb.xingVirtual = true → mclkLost m = false → tmode m = 1 → m.tb.tb = .relock → slewEnd m ≤ m.now.ns →
    After (.xingSlewDone t) s fun n => n = { m with tb := { m.tb with xingVirtual := false }, spans := n.spans }) ∧
  (m.tb.tb ≠ .switching → m.tb.synLocked = true →
    After (.synUnlock t) s fun n => n = { m with
        tb := { m.tb with synLocked := false },
        regs := (m.mark F.TIM_STAT.SYN_UNLOCK_SEEN 0).regs,
        log := (m.logE 0x0202 0 0 0 0 0).log,
        spans := n.spans }) ∧
  (m.tb.tb ≠ .switching →
    After (.synLockRegained t) s fun n => n = { m with tb := { m.tb with synLocked := true }, spans := n.spans }) ∧
  (∀ (mw : BitVec 16) (err : Int), m.tb.oven ≠ .warm → err.natAbs ≤ 10 →
    After (.ovenWarm t mw err) s fun n => n = { m with
        tb := { m.tb with heaterMw := mw.toNat, tempErr := satS 12 err, oven := .warm, warmAt := m.now.ns },
        spans := n.spans }) ∧
  (∀ (mw : BitVec 16) (err : Int), m.tb.oven = .warm → mw = 0 → 10 < err →
    After (.ovenUnreg t mw err) s fun n => n = { m with
        tb := { m.tb with heaterMw := 0, tempErr := satS 12 err, oven := .unreg },
        regs := (m.mark F.TIM_STAT.UNREG_SEEN 0).regs,
        age := { m.age with unreg := m.age.unreg + 1, unregAt := m.now.ns :: m.age.unregAt },
        log := (m.logE 0x0201 0 0 0 0 (timStat n)).log,
        spans := n.spans }) ∧
  (∀ (mw : BitVec 16) (err : Int), m.tb.oven = .warm → 10 < err.natAbs →
    After (.ovenBandLeft t mw err) s fun n => n = { m with
        tb := { m.tb with heaterMw := mw.toNat, tempErr := satS 12 err, oven := .warming },
        log := (m.logE 0x0201 0 0 0 0 (timStat n)).log,
        spans := n.spans }) ∧
  (∀ (mw : BitVec 16) (err : Int), m.tb.oven = .warming → 100 < err.natAbs →
    After (.heaterFault t mw err) s fun n => n = { m with
        tb := { m.tb with heaterMw := mw.toNat, tempErr := satS 12 err, heaterFault := true },
        regs := (m.mark F.TIM_STAT.HEATER_FAULT_SEEN 0).regs,
        log := (m.logE 0x0201 0 0 0 0 (timStat n)).log }) ∧
  (∀ (i : Fin 2), (tin m i.val).state = .down → tinEnabled m i.val = true → m.pwr.pg = true →
    After (.tinSignalDetect t i) s fun n => n = setTin m i.val ⟨.hunt, m.now.ns⟩) ∧
  (∀ (i : Fin 2), (tin m i.val).state = .hunt → mclkLost m = false →
    After (.tinLock t i) s fun n => n = setTin m i.val ⟨.locked, m.now.ns⟩) ∧
  (∀ (i : Fin 2), (tin m i.val).state = .hunt → mclkLost m = true →
    After (.tinLock t i) s fun n => n = (setTin m i.val ⟨.locked, m.now.ns⟩).modTl (fun l => { l with
        active := i.val,
        ref := none,
        offset := 0 })) ∧
  (∀ (i : Fin 2), (tin m i.val).state = .locked → m.tl.active = i.val → (tin m (1 - i.val)).state = .locked →
    After (.tinLockLost t i) s fun n => (tin n i.val).state = .hunt ∧ n.tl.active = 1 - i.val ∧ 9 ∈ n.tl.warnsNew ∧
      n.tl.offset = (if skewOk m = true then (if i.val = 1 then m.tl.offset - m.tl.skew else m.tl.offset + m.tl.skew) else
      0) ∧ n = { m with
        tl := n.tl,
        tb := n.tb,
        spans := n.spans,
        fresh := n.fresh,
        regs := ((m.mark F.TIM_TL_STAT.LOCK_LOST_SEEN 0).mark F.TIM_TL_STAT.FAILOVER_SEEN 0).regs,
        log := (if m.tl.logged.any (fun p => p.1 = 9 && decide (m.now.ns < p.2 + 1000000)) = true then m.logE 0x0302 0 0 0 0
          i.val else (m.logE 0x0302 0 0 0 0 i.val).logE 0x0303 0 0 0 0 (1 - i.val)).log }) ∧
  (∀ (i : Fin 2), (tin m i.val).state = .locked → (tin m (1 - i.val)).state ≠ .locked →
    After (.tinSignalLost t i) s fun n => (tin n i.val).state = .down ∧ mclkLost n = true ∧ n.tb.mclkHz = 0 ∧ n = { m with
        tl := n.tl,
        tb := n.tb,
        spans := n.spans,
        regs := n.regs,
        log := n.log } ∧ (m.tl.edges ≠ [] → n.tb.xingVirtual = true) ∧ (tmode m = 1 → m.tb.tb = .tracking → n.tb.tb =
      .holdover)) ∧
  (m.on F.TIM_TL_CFG.REVERT 0 = true → m.tl.active = 1 → m.tl.tin0.state = .locked → m.tl.tin0.since + 1000000000 ≤ m.now.ns
      →
    After (.tinRevert t) s fun n => n.tl.active = 0 ∧ 9 ∈ n.tl.warnsNew ∧ n.tl.offset = (if skewOk m = true then m.tl.offset
      - m.tl.skew else 0) ∧ n = { m with
        tl := n.tl,
        tb := n.tb,
        spans := n.spans,
        fresh := n.fresh,
        regs := (m.mark F.TIM_TL_STAT.FAILOVER_SEEN 0).regs,
        log := (if m.tl.logged.any (fun p => p.1 = 9 && decide (m.now.ns < p.2 + 1000000)) = true then m else m.logE 0x0303
          0 0 0 0 0).log })

/-- R115, R117, R120, R122, R133 to R138, R146, R387, R396, R399: an epoch's origin, the epoch the host asks for, the machine-clock gate, and the
reads that latch the datum count and the crossing; the rows that write the time base's registers store the word and do what the rules say. -/
def Obligations.EpochsLatchesAndTimeWrites : Prop := ∀ (s : State) (t : Stamp) (m : Kz), s.kz.advance t = m →
  (∀ e, m.tb.pendingEpoch = some e → e.origin ≤ m.now.tick →
    After (.epochOrigin t) s fun n => n = { m with
        tb := { m.tb with
            prevOrigin := m.tb.origin,
            origin := e.origin,
            prevSeq := m.tb.epochSeq,
            epochSeq := if m.tb.epochSeq = 255 then 1 else m.tb.epochSeq + 1,
            epochHost := e.host,
            offTicks := e.offTicks,
            offFrac := e.offFrac,
            pendingEpoch := none },
        hub := { m.hub with
            eventPrev := m.hub.eventNext,
            eventNext := 0,
            eventEpoch := if m.tb.epochSeq = 255 then 1 else m.tb.epochSeq + 1 } }) ∧
  (∀ (p : Port) v, Accepts m p .TIM_EPOCH_STAT 0 v → F.TIM_EPOCH_STAT.HOST_EPOCH.of v = 1 → epochTooSoon m = false →
    After (.hostEpoch t p v) s fun n => n = { m with
        tb := { m.tb with pendingEpoch := some ⟨epochAfter m.inst, true, 0, 0⟩, lastEpoch := some m.now.ns },
        wire := okPair p .TIM_EPOCH_STAT 0 :: m.wire }) ∧
  (∀ (p : Port) v, Accepts m p .TIM_EPOCH_STAT 0 v → F.TIM_EPOCH_STAT.HOST_EPOCH.of v = 1 → epochTooSoon m = true →
    After (.hostEpoch t p v) s fun n => n = { m with
        stats := (m.count .TIM_EPOCH_REJ 0 1).stats,
        log := (m.logE 0x0203 0 0 0 0 0).log,
        tl := { m.tl with warnsNew := m.tl.warnsNew ++ [8] },
        wire := okPair p .TIM_EPOCH_STAT 0 :: m.wire }) ∧
  (∀ hz, mclkLost m = false → m.tl.edges ≠ [] →
    After (.mclkFreqGateDone t hz) s fun n => n = { m with
        tb := { m.tb with mclkHz := hz % 2 ^ 32, lockHz := n.tb.lockHz } } ∧ n.tb.lockHz = (if m.tb.tb = .tracking ∧
      sampleHz n ≠ 0 then sampleHz n else m.tb.lockHz)) ∧
  (∀ (p : Port), Reaches m p .TIM_DATUM_LO 0 →
    After (.datumLatchRead t p) s fun n => n = { m with
        tb := { m.tb with datumLatch := m.datum % 2 ^ 64 },
        wire := .readValue p (RegKind.addr .TIM_DATUM_LO 0) (readReg n .TIM_DATUM_LO 0) :: m.wire }) ∧
  (∀ (p : Port), Reaches m p .TIM_TL_XING 0 →
    After (.xingLatchRead t p) s fun n => n = { m with
        tl := { m.tl with latchBcn := m.tl.bcn, latchOrbit := m.tl.orbit },
        wire := .readValue p (RegKind.addr .TIM_TL_XING 0) (readReg n .TIM_TL_XING 0) :: m.wire }) ∧
  (∀ (p : Port) (v : Word) hz, Accepts { m with tb := { m.tb with refHz := hz } } p .TIM_MODE 0 v → modeChange (m.cfgWord
      .TIM_MODE 0) v = true →
    After (.timModeWrite t p v hz) s fun n => n.tb = { m.tb with
        refHz := hz,
        entryHz := hz,
        tb := .switching,
        synLocked := false } ∧ n.regs = (storeReg m .TIM_MODE 0 v).regs ∧ (∀ c : Nat, c < 192 → (n.chan c).conv.calDue =
      true) ∧ n.rgns = m.rgns ∧ n.tl = { m.tl with grid := false } ∧ n.log = m.log ∧ n.stats = m.stats ∧ n.mem = m.mem ∧
      n.ports = m.ports ∧ n.wire = okPair p .TIM_MODE 0 :: m.wire) ∧
  (∀ (p : Port) (v : Word), Accepts m p .TIM_OVEN 0 v → m.tb.oven = .warm → F.TIM_OVEN.SETPOINT.of (m.cfgWord .TIM_OVEN 0) ≠
      F.TIM_OVEN.SETPOINT.of v →
    After (.ovenSetpointWrite t p v) s fun n => n = { m with
        regs := ((storeReg m .TIM_OVEN 0 v).mark F.MOD_AGE_STAT.OVR_OVEN 0).regs,
        tb := { m.tb with oven := .warming },
        log := (m.logE 0x0201 0 0 0 0 (timStat n)).log,
        spans := n.spans,
        age := { m.age with actions := m.age.actions ++ [(6, 0, 0)] },
        wire := okPair p .TIM_OVEN 0 :: m.wire }) ∧
  (∀ (p : Port) (v : Word), Accepts m p .TIM_HEARTH_TRIM 0 v →
    After (.hearthTrimWrite t p v) s fun n => n = { m with
        regs := ((storeReg m .TIM_HEARTH_TRIM 0 v).mark F.MOD_AGE_STAT.OVR_TRIM 0).regs,
        tb := { m.tb with trimFrom := trimNow m, trimAt := m.now.ns },
        age := { m.age with actions := m.age.actions ++ [(6, 0, 0)] },
        wire := okPair p .TIM_HEARTH_TRIM 0 :: m.wire }) ∧
  (∀ (p : Port) (v : Word), Accepts m p .TIM_TL_CFG 0 v → F.TIM_TL_CFG.TIN0_EN.of v = 1 → F.TIM_TL_CFG.TIN1_EN.of v = 1 →
    After (.tlCfgWrite t p v) s fun n => n = { m with
        regs := (storeReg m .TIM_TL_CFG 0 v).regs,
        tl := { m.tl with
            ref := if F.TIM_TL_CFG.PROTO.of (m.cfgWord .TIM_TL_CFG 0) = F.TIM_TL_CFG.PROTO.of v then m.tl.ref else none },
        wire := okPair p .TIM_TL_CFG 0 :: m.wire })

/-- R29, R133, R135, R257, R381 to R387, R393: a good frame makes its crossing the newest one and ends a run of bad frames; IDLE does nothing more, the other
commands go onto the fixed lane with their data and crossing; an ACCEPT takes event numbers and carries the numbers it lost; an EPOCH_RESET fixes the next
origin, or is ignored within 10 s of the last one. -/
def Obligations.CrossingsAndCommands : Prop := ∀ (s : State) (t : Stamp) (m : Kz) (f : Frame), s.kz.advance t = m →
  (GoodFrame m f 0 →
    After (.idle t f) s fun n => Crossed m n f f.mark false m.hub m.tb ∧ n.tl.badRun = 0 ∧ n.tl.suspect = false) ∧
  (GoodFrame m f 2 →
    After (.bcnReset t f) s fun n => Crossed m n f f.mark true (hubWith m.hub (laneOf (frameEdge m f f.mark true) 2
      f.data.toNat) none) m.tb ∧ n.tl.bcn = 0 ∧ n.tl.orbit = 0) ∧
  (GoodFrame m f 4 →
    After (.resync t f) s fun n => Crossed m n f f.mark false (hubWith m.hub (laneOf (frameEdge m f f.mark false) 4
      f.data.toNat) none) m.tb ∧ n.tl.ref = none) ∧
  (GoodFrame m f 5 →
    After (.calInject t f) s fun n => Crossed m n f f.mark false (hubWith m.hub (laneOf (frameEdge m f f.mark false) 5
      f.data.toNat) none) m.tb) ∧
  (GoodFrame m f 6 →
    After (.testTrigger t f) s fun n => Crossed m n f f.mark false (hubWith m.hub (laneOf (frameEdge m f f.mark false) 6
      f.data.toNat) none) m.tb) ∧
  (GoodFrame m f 7 →
    After (.statBoundaryFast t f) s fun n => Crossed m n f f.mark false (hubWith { m.hub with
        out := { m.hub.out with boundary := true } } (laneOf (frameEdge m f f.mark false) 7 f.data.toNat) none) m.tb ∧
      n.stats.raised = m.stats.raised ++ [.fast]) ∧
  (∀ (u : Fin 16), GoodFrame m f (16 + u.val) →
    After (.userCode t f u) s fun n => Crossed m n f f.mark false (hubWith m.hub (laneOf (frameEdge m f f.mark false) (16 +
      u.val) f.data.toNat) none) m.tb) ∧
  (∀ (code : Byte), reservedCode code.toNat = true → GoodFrame m f code.toNat → f.mark = false →
    After (.reservedFastCommand t f code) s fun n => Crossed m n f f.mark false m.hub m.tb ∧ n.counter .TIM_TL_PROTO_ERR 0 =
      (m.count .TIM_TL_PROTO_ERR 0 1).counter .TIM_TL_PROTO_ERR 0 ∧ 4 ∈ n.tl.warnsNew) ∧
  (edgeOk m f = true →
    After (.crossingEdge t f 0) s fun n => Crossed m n f f.mark false m.hub m.tb ∧ n.tl.badRun = m.tl.badRun) ∧
  (edgeOk m f = true → powered m.pwr.state = true →
    After (.crossingEdge t f 2) s fun n => Crossed m n f f.mark false m.hub m.tb ∧ n.tl.badRun = m.tl.badRun + 1 ∧ n.counter
      .TIM_TL_CRC_ERR 0 = (m.count .TIM_TL_CRC_ERR 0 1).counter .TIM_TL_CRC_ERR 0 ∧ (63 ≤ m.tl.badRun → n.tl.suspect =
      true)) ∧
  (∀ (e : Edge), m.tl.edges.head? = some e → mclkLost m = true → e.at_ + e.period ≤ m.inst →
    After (.virtualCrossingEdge t) s fun n => n = { m with
        tl := n.tl,
        chans := n.chans,
        regs := n.regs,
        stats := n.stats,
        log := n.log,
        spans := n.spans,
        wire := n.wire } ∧ n.tl.edges.head? = some ⟨e.no + 1, e.at_ + e.period, e.period, (e.bcn + 1) % 65536, e.orbit,
      false, true, carried m⟩) ∧
  (GoodFrame m f 1 → m.on F.TIM_TL_CFG.PROTO 0 = false →
    After (.accept t f) s fun n => (let e := frameEdge m f f.mark false; let ep := (m.stampOf e.at_).2; let first := if
      m.tb.origin * 1024 ≤ e.at_ then m.hub.eventNext else m.hub.eventPrev; Crossed m n f f.mark false (hubWith { m.hub with
        eventNext := if m.tb.origin * 1024 ≤ e.at_ then (first + 1) % 2 ^ 24 else m.hub.eventNext,
        eventPrev := if m.tb.origin * 1024 ≤ e.at_ then m.hub.eventPrev else (first + 1) % 2 ^ 24,
        eventWraps := (m.hub.eventWraps + (first + 1) / 2 ^ 24) % 2 ^ 32,
        serial := m.hub.serial + 1 } (laneOf e 1 f.data.toNat) (some ⟨m.hub.serial, first % 2 ^ 24, ep, 0⟩)) m.tb ∧
      n.tl.accepts = (m.tl.accepts + 1) % 256)) ∧
  (∀ (r : Nat), GoodFrame m f 1 → m.on F.TIM_TL_CFG.PROTO 0 = true → m.tl.ref = some r → (f.data.toNat + 511 - r) % 256 ≤
      127 →
    After (.accept t f) s fun n => (let e := frameEdge m f f.mark false; let ep := (m.stampOf e.at_).2; let first := if
      m.tb.origin * 1024 ≤ e.at_ then m.hub.eventNext else m.hub.eventPrev; let g := (f.data.toNat + 511 - r) % 256; Crossed
      m n f f.mark false (hubWith { m.hub with
        eventNext := if m.tb.origin * 1024 ≤ e.at_ then (first + (g + 1)) % 2 ^ 24 else m.hub.eventNext,
        eventPrev := if m.tb.origin * 1024 ≤ e.at_ then m.hub.eventPrev else (first + (g + 1)) % 2 ^ 24,
        eventWraps := (m.hub.eventWraps + (first + (g + 1)) / 2 ^ 24) % 2 ^ 32,
        serial := m.hub.serial + (g + 1) } (laneOf e 1 f.data.toNat) (some ⟨m.hub.serial + g, (first + g) % 2 ^ 24, ep, g⟩))
      m.tb ∧ n.counter .TIM_TL_LOST_ACC 0 = (m.count .TIM_TL_LOST_ACC 0 g).counter .TIM_TL_LOST_ACC 0 ∧ n.tl.ref = some
      f.data.toNat ∧ n.tl.lastSeq = f.data.toNat)) ∧
  (GoodFrame m f 3 → epochTooSoon m = false →
    After (.epochReset t f) s fun n => (let i := (frameEdge m f f.mark false).at_; let d := epochAfter i * 1024 - i; Crossed
      m n f f.mark false (hubWith m.hub (laneOf (frameEdge m f f.mark false) 3 f.data.toNat) none) { m.tb with
        pendingEpoch := some ⟨epochAfter i, false, d / 1024, d % 1024⟩,
        lastEpoch := some m.now.ns })) ∧
  (GoodFrame m f 3 → epochTooSoon m = true →
    After (.epochReset t f) s fun n => Crossed m n f f.mark false (hubWith m.hub (laneOf (frameEdge m f f.mark false) 3
      f.data.toNat) none) m.tb ∧ 8 ∈ n.tl.warnsNew ∧ n.counter .TIM_EPOCH_REJ 0 = (m.count .TIM_EPOCH_REJ 0 1).counter
      .TIM_EPOCH_REJ 0)

/-- R27, R29, R34, R38, R636, R756, R757: once in a fabric cycle every link takes one entry each way, stamped with the cycle; an entry that arrives in
time updates the smallest slack and what was seen, and is released 24 cycles after its stamp, or one cycle after it arrived late, which is counted. -/
def Obligations.FixedLane : Prop := ∀ (s : State) (t : Stamp) (m : Kz), s.kz.advance t = m →
  (∀ (d : List Delivered), powered m.pwr.state = true → m.hub.lastSend.any (fun l => decide (m.fabric ≤ l)) = false →
    After (.fixedLaneSend t d) s fun n => n.hub = { m.hub with
        lastSend := some m.fabric,
        out := { cmds := m.hub.out.cmds.drop 1 } } ∧ n.stats.due = m.stats.due ++ m.stats.raised.map (fun src => (m.fabric +
      24, src)) ∧ n.stats.raised = [] ∧ (∀ k : Nat, k < 12 → m.rstate k ≠ .down → (n.rgn k).lane.inQ = (m.rgn k).lane.inQ ++
      [{
        stamp := m.fabric,
        cmd := m.hub.out.cmds.head?.map (fun c => c.1),
        accept := m.hub.out.cmds.head?.bind (fun c => c.2),
        boundary := m.hub.out.boundary,
        xtrig := m.hub.out.xtrig,
        modPat := m.hub.out.modPat,
        cmdCount := ((m.rgn k).lane.cmdCount + b2n m.hub.out.cmds.head?.isSome) % 16,
        bndCount := ((m.rgn k).lane.bndCount + b2n m.hub.out.boundary) % 4 }] ∧ (n.rgn k).lane.outQ.length = (m.rgn
      k).lane.outQ.length + 1 ∧ (n.rgn k).pwr = (m.rgn k).pwr) ∧ (∀ k : Nat, k < 12 → m.rstate k = .down → (n.rgn
      k).lane.inQ = [] ∧ (n.rgn k).lane.outQ = [])) ∧
  (powered m.pwr.state = true → m.hub.lastSend.any (fun l => decide (m.fabric ≤ l)) = false → (∀ k : Nat, k < 12 → (m.rgn
      k).acc.cuts = []) →
    After (.fixedLaneSend t []) s fun n => n = { m with
        rgns := n.rgns,
        hub := { m.hub with lastSend := some m.fabric, out := { cmds := m.hub.out.cmds.drop 1 } },
        stats := { m.stats with due := m.stats.due ++ m.stats.raised.map (fun src => (m.fabric + 24, src)), raised := [] } }) ∧
  (∀ (k : Rgn) (e : InEntry), Quiet m → m.rstate k.val ≠ .down → (m.rgn k.val).lane.inQ.find? (fun x => x.arrived.isNone) =
      some e → m.fabric ≤ e.stamp + 22 → ((m.rgn k.val).lane.inQ.filter (fun x => x.arrived.isSome)).length < 32 →
      e.boundary = false → (m.rgn k.val).lane.badFrom = none →
    After (.fixedLaneArrival t k false true) s fun n => n = m.modLane k.val (fun l => { l with
        minIn := min l.minIn (e.stamp + 24 - m.fabric),
        lowAt := if m.fabric = e.stamp + 21 ∨ m.fabric = e.stamp + 22 then m.now.ns else l.lowAt,
        inQ := l.inQ.map (fun x => if x = e then { x with arrived := some m.fabric, crcOk := true } else x),
        seenCmd := e.cmdCount,
        seenBnd := e.bndCount,
        badFrom := none,
        unread := l.unread.filter (fun q => decide (e.stamp < q)) })) ∧
  (∀ (k : Rgn) (e : OutEntry), Quiet m → m.rstate k.val ≠ .down → (m.rgn k.val).lane.outQ.find? (fun x => x.arrived.isNone)
      = some e → m.fabric ≤ e.stamp + 22 → ((m.rgn k.val).lane.outQ.filter (fun x => x.arrived.isSome)).length < 32 → (m.rgn
      k.val).err.restarting = false → e.old = false →
    After (.fixedLaneArrival t k true true) s fun n => n = (m.modLane k.val (fun l => { l with
        minOut := min l.minOut (e.stamp + 24 - m.fabric),
        lowAt := if m.fabric = e.stamp + 21 ∨ m.fabric = e.stamp + 22 then m.now.ns else l.lowAt,
        outQ := l.outQ.map (fun x => if x = e then { x with arrived := some m.fabric, crcOk := true } else x),
        hubDeparts := e.departs,
        badOut := 0 })).modAcq k.val (fun a => { a with
        mirror := a.mirror.drop ((e.departs + 64 - (m.rgn k.val).lane.hubDeparts) % 64) })) ∧
  (∀ (k : Rgn) (ok : Bool) (e : InEntry), Quiet m → m.rstate k.val ≠ .down → (m.rgn k.val).lane.inQ.find? (fun x =>
      x.arrived.isNone) = some e → m.fabric ≤ e.stamp + 22 → ok = false ∨ 32 ≤ ((m.rgn k.val).lane.inQ.filter (fun x =>
      x.arrived.isSome)).length →
    After (.fixedLaneArrival t k false ok) s fun n => n = m.modLane k.val (fun l => { l with
        minIn := min l.minIn (e.stamp + 24 - m.fabric),
        lowAt := if m.fabric = e.stamp + 21 ∨ m.fabric = e.stamp + 22 then m.now.ns else l.lowAt,
        inQ := l.inQ.map (fun x => if x = e then { x with arrived := some m.fabric, crcOk := false } else x),
        badFrom := some (l.badFrom.getD e.stamp) })) ∧
  (∀ (k : Rgn) (ok : Bool) (e : OutEntry), Quiet m → m.rstate k.val ≠ .down → (m.rgn k.val).lane.outQ.find? (fun x =>
      x.arrived.isNone) = some e → m.fabric ≤ e.stamp + 22 → ok = false ∨ 32 ≤ ((m.rgn k.val).lane.outQ.filter (fun x =>
      x.arrived.isSome)).length → (m.rgn k.val).err.restarting = false → e.old = false → (m.rgn k.val).lane.badOut + 1 < 32
      →
    After (.fixedLaneArrival t k true ok) s fun n => n = m.modLane k.val (fun l => { l with
        minOut := min l.minOut (e.stamp + 24 - m.fabric),
        lowAt := if m.fabric = e.stamp + 21 ∨ m.fabric = e.stamp + 22 then m.now.ns else l.lowAt,
        outQ := l.outQ.map (fun x => if x = e then { x with arrived := some m.fabric, crcOk := false } else x),
        badOut := l.badOut + 1 })) ∧
  (∀ (k : Rgn) (e : InEntry), Quiet m → m.rstate k.val ≠ .down → (m.rgn k.val).lane.inQ.find? (fun x => x.arrived.isNone) =
      some e → e.stamp + 22 < m.fabric → (m.rgn k.val).lane.badFrom = none →
    After (.fixedLaneArrival t k false true) s fun n => n = { m with
        rgns := n.rgns,
        regs := (m.markBit F.MOD_REGION_SKEW.SKEW_SEEN 0 k.val).regs,
        spans := (m.openSpanAt (.skew k.val) (16 * e.stamp)).spans } ∧ (n.rgn k.val).lane.skewIn = true ∧ (n.rgn
      k.val).lane.minIn = min (m.rgn k.val).lane.minIn (e.stamp + 24 - m.fabric) ∧ (n.rgn k.val).lane.lowAt = m.now.ns) ∧
  (∀ (k : Rgn) (e : InEntry) (r : List InEntry) (a : Nat) (d : LaneCmd), Quiet m → m.rstate k.val ≠ .down → (m.rgn
      k.val).lane.inQ = e :: r → e.arrived = some a → (releaseAt e.stamp a).1 ≤ m.fabric → (m.rgn k.val).lane.earlyAt = none
      → e.crcOk = true → (m.rgn k.val).err.restarting = false → e.cmd = some d → d.code = 5 → e.xtrig = [] → e.modPat = none
      → e.boundary = false →
    After (.fixedLaneRelease t k false) s fun n => n = ((if a < e.stamp + 24 then m else m.count .RGN_XQ_LATE k.val
      1).modLane k.val (fun l => { l with inQ := r })).eachChan k.val (fun m x => Machine.calInject m x d.data (d.edge /
      1024))) ∧
  (∀ (k : Rgn) (e : InEntry) (r : List InEntry) (a : Nat), Quiet m → m.rstate k.val ≠ .down → (m.rgn k.val).lane.inQ = e ::
      r → e.arrived = some a → (releaseAt e.stamp a).1 ≤ m.fabric → (m.rgn k.val).lane.earlyAt = none → e.crcOk = false ∨
      (e.cmd = none ∧ e.xtrig = [] ∧ e.modPat = none ∧ e.boundary = false) →
    After (.fixedLaneRelease t k false) s fun n => n = (if a < e.stamp + 24 then m else m.count .RGN_XQ_LATE k.val
      1).modLane k.val (fun l => { l with inQ := r })) ∧
  (∀ (k : Rgn) (e : OutEntry) (r : List OutEntry) (a : Nat), Quiet m → m.rstate k.val ≠ .down → (m.rgn k.val).lane.outQ = e
      :: r → e.arrived = some a → (releaseAt e.stamp a).1 ≤ m.fabric → e.crcOk = true → e.old = false → e.feats = [] →
      (m.rgn k.val).err.restarting = false →
    After (.fixedLaneRelease t k true) s fun n => n = ((if a < e.stamp + 24 then m else m.count .RGN_XQ_LATE k.val
      1).modLane k.val (fun l => { l with outQ := r })).modHub (fun h => { h with
        modState := n.hub.modState,
        regionTerm := Sparse.set h.regionTerm k.val ((releaseAt e.stamp a).1, e.pattern, e.fire.getD (Sparse.get (0, false,
          0) h.regionTerm k.val).2.2) }) ∧ (n.hub.modState = m.hub.modState ∨ n.hub.modState = false)) ∧
  (∀ (k : Rgn), m.spanOpen (.skew k.val) = true → (m.rgn k.val).lane.lowAt + 1000000 ≤ m.now.ns →
    After (.regionSkewClear t k) s fun n => n = (m.modLane k.val (fun l => { l with skewIn := false, skewOut := false })).closeSpan
      (.skew k.val)) ∧
  (∀ (k : Rgn) (p : Port) (v : Word), Accepts m p .RGN_XQ_STAT k.val v → F.RGN_XQ_STAT.CLR.of v = 1 →
    After (.xqStatClr t p k v) s fun n => n = (m.modLane k.val (fun l => { l with minIn := 24, minOut := 24 })).emit (okPair
      p .RGN_XQ_STAT k.val))

/-- R80 to R90, R104, R108: a spare that calibrates within its limits opens its window, a passing window after the step timer arms the
handover, the handover puts the spare into its position, and after its confirmation the next step starts. -/
def Obligations.RotationSteps : Prop := ∀ (s : State) (t : Stamp) (m : Kz) (c : Chan), s.kz.advance t = m →
  (∀ (sl : Slice) (coef : List Int) (rms : Nat), (m.chan c.val).conv.rot = .calSpare → (m.chan c.val).conv.spare = sl.val →
      retired m c.val sl.val = false → (m.chan c.val).conv.suspect.testBit sl.val = false → (m.chan c.val).conv.stuck = [] →
      calPasses coef rms = true → Sparse.get 0 (m.chan c.val).conv.calFrom sl.val + calNs ≤ m.now.ns →
    After (.benchmarkCalDone t c sl coef rms) s fun n => n = m.modConv c.val (fun v => { v with
        standby := Sparse.set v.standby sl.val coef,
        coefImage := Sparse.set v.coefImage sl.val coef,
        attempts := v.attempts.set sl.val 0,
        calDone := withBit v.calDone sl.val true,
        rot := .shadow,
        windowFrom := m.now.ns,
        windowAt := m.now.tick,
        passed := false,
        pairs := {},
        phase := v.target })) ∧
  (∀ (sl : Slice) (coef : List Int) (rms : Nat), (m.chan c.val).conv.rot = .calSpare → (m.chan c.val).conv.spare = sl.val →
      retired m c.val sl.val = false → calPasses coef rms = false → Sparse.get 0 (m.chan c.val).conv.calFrom sl.val + calNs
      ≤ m.now.ns → (m.chan c.val).conv.attempts.getD sl.val 0 + 1 < calRetry m c.val →
    After (.benchmarkCalDone t c sl coef rms) s fun n => n = m.modConv c.val (fun v => { v with
        attempts := v.attempts.set sl.val (v.attempts.getD sl.val 0 + 1),
        calFrom := Sparse.set v.calFrom sl.val m.now.ns })) ∧
  (∀ (sl : Slice) (coef : List Int) (rms : Nat), inPass m (c.val / 16) = true → (m.chan c.val).conv.rot ≠ .calSpare →
      (m.chan c.val).conv.calDone.testBit sl.val = false → retired m c.val sl.val = false → (m.chan
      c.val).conv.suspect.testBit sl.val = false → calPasses coef rms = true → Sparse.get 0 (m.chan c.val).conv.calFrom
      sl.val + calNs ≤ m.now.ns →
    After (.benchmarkCalDone t c sl coef rms) s fun n => n = m.modConv c.val (fun v => { v with
        standby := Sparse.set v.standby sl.val coef,
        coefImage := Sparse.set v.coefImage sl.val coef,
        attempts := v.attempts.set sl.val 0,
        calDone := withBit v.calDone sl.val true })) ∧
  (∀ (pairs disagree : Nat) (sum : Int) (q : Pairs), (m.chan c.val).conv.rot = .shadow → (q = (if 65536 ≤ (m.chan
      c.val).conv.pairs.count then (m.chan c.val).conv.pairs else { count := pairs, disagree := disagree, sum := sum })) →
      65536 ≤ q.count → windowPasses m c.val q = true → (m.chan c.val).conv.expired = true → (m.chan
      c.val).conv.timerFrom.isSome = true →
    After (.shadowWindowClose t c pairs disagree sum) s fun n => n = { m.modConv c.val (fun v => { v with shadow := ⟨1, v.spare, v.pos.getD v.phase 15, satS 8 (max (m.freeQuot (q).sum (q).count).1 (-127)), min (q).disagree 0x3FFF⟩, pairs := q, passed := true, rot := .armed, phase := v.target, boundary := boundaryAfter m c.val }) with
        fresh := (m.freeQuot q.sum q.count).2.fresh }) ∧
  (∀ (pairs disagree : Nat) (sum : Int) (q : Pairs), (m.chan c.val).conv.rot = .shadow → (q = (if 65536 ≤ (m.chan
      c.val).conv.pairs.count then (m.chan c.val).conv.pairs else { count := pairs, disagree := disagree, sum := sum })) →
      65536 ≤ q.count → windowPasses m c.val q = false → (m.chan c.val).conv.recal = false →
    After (.shadowWindowClose t c pairs disagree sum) s fun n => n = { m.modConv c.val (fun v => { v with shadow := ⟨2, v.spare, v.pos.getD v.phase 15, satS 8 (max (m.freeQuot (q).sum (q).count).1 (-127)), min (q).disagree 0x3FFF⟩, pairs := q, rot := .calSpare, recal := true, calFrom := Sparse.set v.calFrom v.spare m.now.ns, attempts := v.attempts.set v.spare 0 }) with
        fresh := (m.freeQuot q.sum q.count).2.fresh,
        log := (rotLog m c.val 1 ((m.chan c.val).conv.pos.getD (m.chan c.val).conv.phase 15) (m.chan c.val).conv.phase
          (m.datumOf (m.chan c.val).conv.windowAt)).log,
        stats := (m.count .RGN_ROT_FAULTS (c.val / 16) 1).stats }) ∧
  (∀ (pairs disagree : Nat) (sum : Int) (q : Pairs) (tgt : Nat), (m.chan c.val).conv.rot = .shadow → (q = (if 65536 ≤
      (m.chan c.val).conv.pairs.count then (m.chan c.val).conv.pairs else {
        count := pairs,
        disagree := disagree,
        sum := sum })) → 65536 ≤ q.count → windowPasses m c.val q = false → (m.chan c.val).conv.recal = true → tgt = (m.chan
      c.val).conv.pos.getD (m.chan c.val).conv.target 15 → tgt < 9 → slicesOf (m.chan c.val).conv.effMode ≠ 1 →
    After (.shadowWindowClose t c pairs disagree sum) s fun n => n = { m.modConv c.val (fun v => { v with shadow := ⟨2, v.spare, v.pos.getD v.phase 15, satS 8 (max (m.freeQuot (q).sum (q).count).1 (-127)), min (q).disagree 0x3FFF⟩, pairs := {}, rot := .checkShadow, suspect := withBit v.suspect tgt true, windowFrom := m.now.ns, windowAt := m.now.tick, passed := false, phase := (v.target + 1) % slicesOf v.effMode }) with
        fresh := (m.freeQuot q.sum q.count).2.fresh,
        log := (rotLog m c.val 1 ((m.chan c.val).conv.pos.getD (m.chan c.val).conv.phase 15) (m.chan c.val).conv.phase
          (m.datumOf (m.chan c.val).conv.windowAt)).log,
        stats := (m.count .RGN_ROT_FAULTS (c.val / 16) 1).stats,
        spans := (m.openSpan (.suspect c.val)).spans }) ∧
  (∀ (pairs disagree : Nat) (sum : Int) (q : Pairs) (tgt : Nat), (m.chan c.val).conv.rot = .checkShadow → (q = (if 65536 ≤
      (m.chan c.val).conv.pairs.count then (m.chan c.val).conv.pairs else {
        count := pairs,
        disagree := disagree,
        sum := sum })) → 65536 ≤ q.count → windowPasses m c.val q = false → tgt = (m.chan c.val).conv.pos.getD (m.chan
      c.val).conv.target 15 → tgt < 9 → (m.chan c.val).conv.spare < 9 → m.inRun (c.val / 16) = true →
    After (.shadowWindowClose t c pairs disagree sum) s fun n => (n.chan c.val).conv.suspect.testBit tgt = false ∧ (n.fld
      F.CH_SLICE_HEALTH.RETIRED c.val).testBit (m.chan c.val).conv.spare = true ∧ (n.chan c.val).conv.lastSlice = (m.chan
      c.val).conv.spare ∧ (n.chan c.val).conv.lastReason = 2 ∧ n.seen F.CH_CONV_STAT.DISPUTE_SEEN c.val = 1 ∧ n.seen
      F.CH_CONV_STAT.RETIRE_SEEN c.val = 1 ∧ n.counter .RGN_ROT_FAULTS (c.val / 16) = (m.count .RGN_ROT_FAULTS (c.val / 16)
      3).counter .RGN_ROT_FAULTS (c.val / 16) ∧ (∀ y : Nat, y < 192 → y ≠ c.val → n.chan y = m.chan y)) ∧
  ((m.chan c.val).conv.rot = .shadow ∨ (m.chan c.val).conv.rot = .checkShadow → (m.chan c.val).conv.windowFrom + 4 * (m.fld
      F.RGN_ROT_CTRL.STEP (c.val / 16) * 100000) ≤ m.now.ns →
    After (.shadowWindowStarved t c) s fun n => n = { m.modConv c.val (fun v => { v with shadow := ⟨3, v.spare, v.pos.getD v.phase 15, satS 8 (max (m.freeQuot (v.pairs).sum (v.pairs).count).1 (-127)), min (v.pairs).disagree 0x3FFF⟩, windowFrom := m.now.ns, windowAt := m.now.tick, passed := false, pairs := {}, phase := if v.rot = .checkShadow then (v.target + 1) % slicesOf v.effMode else v.target }) with
        fresh := (m.freeQuot (m.chan c.val).conv.pairs.sum (m.chan c.val).conv.pairs.count).2.fresh,
        regs := (m.mark F.CH_CONV_STAT.STARVED_SEEN c.val).regs }) ∧
  (∀ f, (m.chan c.val).conv.timerFrom = some f → f + m.fld F.RGN_ROT_CTRL.STEP (c.val / 16) * 100000 ≤ m.now.ns → (m.chan
      c.val).conv.expired = false → (m.chan c.val).conv.rot = .shadow → (m.chan c.val).conv.passed = true →
    After (.stepTimerExpire t c) s fun n => n = m.modConv c.val (fun v => { v with
        expired := true,
        rot := .armed,
        phase := v.target,
        boundary := boundaryAfter m c.val })) ∧
  (∀ f, (m.chan c.val).conv.timerFrom = some f → f + m.fld F.RGN_ROT_CTRL.STEP (c.val / 16) * 100000 ≤ m.now.ns → (m.chan
      c.val).conv.expired = false → (m.chan c.val).conv.rot ≠ .shadow ∨ (m.chan c.val).conv.passed = false →
    After (.stepTimerExpire t c) s fun n => n = m.modConv c.val (fun v => { v with expired := true })) ∧
  (∀ (p : Port) (v : Word), Accepts m p .CH_CONV_CTRL c.val v → F.CH_CONV_CTRL.STEP_NOW.of v = 1 → F.CH_CONV_CTRL.MODE.of
      (m.cfgWord .CH_CONV_CTRL c.val) = F.CH_CONV_CTRL.MODE.of v → (m.chan c.val).conv.timerFrom.isSome = true → (m.chan
      c.val).conv.expired = false → (m.chan c.val).conv.rot = .shadow → (m.chan c.val).conv.passed = true →
    After (.stepNow t p c v) s fun n => n = ((storeReg m .CH_CONV_CTRL c.val v).modConv c.val (fun v => { v with
        expired := true,
        rot := .armed,
        phase := v.target,
        boundary := boundaryAfter m c.val })).emit (okPair p .CH_CONV_CTRL c.val)) ∧
  ((m.chan c.val).conv.rot = .armed → (m.chan c.val).conv.boundary ≤ m.now.tick → (m.chan c.val).conv.stuck.erase (m.chan
      c.val).conv.target = [] → retired m c.val ((m.chan c.val).conv.pos.getD (m.chan c.val).conv.target 15) = false →
    After (.handover t c) s fun n => n = { m.modConv c.val (fun v => { v with pos := v.pos.set v.target v.spare, relieved := v.pos.getD v.target 15, spare := v.pos.getD v.target 15, handoverAt := v.boundary, coef := Sparse.set v.coef v.spare (Sparse.get (Sparse.get [] v.coef v.spare) v.standby v.spare), standby := Sparse.del v.standby v.spare, runs := Sparse.del v.runs (v.pos.getD v.target 15), rot := .confirm, phase := v.target, pairs := {}, stuck := [] }) with
        spans := n.spans }) ∧
  (∀ (x : Nat) (r : List Nat), (m.chan c.val).conv.rot = .armed → (m.chan c.val).conv.boundary ≤ m.now.tick → (m.chan
      c.val).conv.stuck.erase (m.chan c.val).conv.target = x :: r → retired m c.val ((m.chan c.val).conv.pos.getD (m.chan
      c.val).conv.target 15) = false →
    After (.handover t c) s fun n => n = { m.modConv c.val (fun v => { v with pos := v.pos.set v.target v.spare, relieved := v.pos.getD v.target 15, spare := v.pos.getD v.target 15, handoverAt := v.boundary, coef := Sparse.set v.coef v.spare (Sparse.get (Sparse.get [] v.coef v.spare) v.standby v.spare), standby := Sparse.del v.standby v.spare, runs := Sparse.del v.runs (v.pos.getD v.target 15), rot := .emergArmed, target := x, phase := x, boundary := nextBoundary m c.val, pairs := {}, stuck := x :: r }) with
        spans := n.spans }) ∧
  (∀ disagree, (m.chan c.val).conv.rot = .confirm → (m.chan c.val).conv.reverting = false → max (m.chan
      c.val).conv.pairs.disagree disagree ≤ m.fld F.RGN_SHADOW_CFG.CONFIRM_LIMIT (c.val / 16) → (m.chan
      c.val).conv.handoverAt + 1024 ≤ m.now.tick → m.on F.CH_CONV_CTRL.ROT_EN c.val = true → retired m c.val (m.chan
      c.val).conv.spare = false →
    After (.confirmDone t c disagree) s fun n => n = m.modConv c.val (fun v => { v with
        rot := .calSpare,
        target := (v.target + 1) % slicesOf v.effMode,
        phase := (v.target + 1) % slicesOf v.effMode,
        expired := false,
        timerFrom := some m.now.ns,
        passed := false,
        recal := false,
        calFrom := Sparse.set v.calFrom v.spare m.now.ns,
        attempts := v.attempts.set v.spare 0,
        relieved := 15 }))

/-- R42, R48, R62, R63, R78, R79, R83, R88, R92, R95, R102, R606: common-mode alarms, the end of settling, the injector's edge and return; the first
region in the queue begins its pass, which returns it to IDLE and clears CAL_DUE where the channel passed; a broken confirmation reverts, a stuck slice is
suspect and is replaced by the spare, RETIRED written by the host retires or reinstates a slice. -/
def Obligations.CalibrationRotationFaultsAndInjection : Prop := ∀ (s : State) (t : Stamp) (m : Kz), s.kz.advance t = m →
  (∀ (c : Chan) disagree, (m.chan c.val).conv.rot = .confirm → (m.chan c.val).conv.reverting = false → m.fld
      F.RGN_SHADOW_CFG.CONFIRM_LIMIT (c.val / 16) < max (m.chan c.val).conv.pairs.disagree disagree → ((m.chan
      c.val).conv.pos.getD (m.chan c.val).conv.target 15) < (m.chan c.val).conv.strikes.length → (m.chan
      c.val).conv.strikes.getD ((m.chan c.val).conv.pos.getD (m.chan c.val).conv.target 15) 0 + 1 < m.fld
      F.RGN_ROT_CTRL.STRIKES (c.val / 16) →
    After (.confirmRevert t c disagree) s fun n => n = { m.modConv c.val (fun v => { v with reverting := true, boundary := (boundaryFrom m c.val ((m.chan c.val).conv.pairs.brokeAt.getD m.now.tick)), strikes := v.strikes.set ((m.chan c.val).conv.pos.getD (m.chan c.val).conv.target 15) (v.strikes.getD ((m.chan c.val).conv.pos.getD (m.chan c.val).conv.target 15) 0 + 1) }) with
        regs := (m.mark F.CH_CONV_STAT.REVERT_SEEN c.val).regs,
        spans := (m.addSpan (.revert c.val) (m.chan c.val).conv.handoverAt (boundaryFrom m c.val ((m.chan
          c.val).conv.pairs.brokeAt.getD m.now.tick))).spans,
        stats := (m.count .RGN_ROT_FAULTS (c.val / 16) 1).stats,
        log := (m.logFrom ((m.chan c.val).conv.handoverAt * 1024) 0x0110 2 1 c.val (m.datumOf (boundaryFrom m c.val ((m.chan
          c.val).conv.pairs.brokeAt.getD m.now.tick))) (3 <<< 24 ||| ((m.chan c.val).conv.pos.getD (m.chan
          c.val).conv.target 15) <<< 20 ||| (m.chan c.val).conv.target <<< 16)).log }) ∧
  (∀ (c : Chan), (m.chan c.val).conv.reverting = true → (m.chan c.val).conv.boundary ≤ m.now.tick → retired m c.val ((m.chan
      c.val).conv.pos.getD (m.chan c.val).conv.target 15) = false → (m.chan c.val).conv.rot ≠ .noSpare →
    After (.revertBoundary t c) s fun n => n = m.modConv c.val (fun v => { v with
        pos := v.pos.set v.target v.relieved,
        spare := ((m.chan c.val).conv.pos.getD (m.chan c.val).conv.target 15),
        reverting := false,
        relieved := 15,
        rot := .calSpare,
        target := v.stuck.headD v.target,
        phase := v.stuck.headD v.target,
        expired := false,
        timerFrom := (if m.on F.CH_CONV_CTRL.ROT_EN c.val then some m.now.ns else none),
        passed := false,
        recal := false,
        calFrom := Sparse.set v.calFrom ((m.chan c.val).conv.pos.getD (m.chan c.val).conv.target 15) m.now.ns,
        attempts := v.attempts.set ((m.chan c.val).conv.pos.getD (m.chan c.val).conv.target 15) 0 })) ∧
  (∀ (c : Chan) (sl : Slice) (first : Nat), m.on F.CH_CONV_CTRL.STUCK_EN c.val = true → posOf (m.chan c.val).conv sl.val ≠
      15 → m.inRun (c.val / 16) = true → (Sparse.get ({} : SliceRun) (m.chan c.val).conv.runs sl.val).told = false → ((if
      1024 ≤ (Sparse.get ({} : SliceRun) (m.chan c.val).conv.runs sl.val).count then (Sparse.get ({} : SliceRun) (m.chan
      c.val).conv.runs sl.val).first else first) + 1023 * slicesOf (m.chan c.val).conv.effMode * ticksOf (m.chan
      c.val).conv.effMode ≤ m.now.tick) → (m.chan c.val).conv.spare ≠ 15 → (m.chan c.val).conv.rot = .shadow ∨ (m.chan
      c.val).conv.rot = .checkShadow ∨ (m.chan c.val).conv.rot = .stopped → sl.val < (m.chan c.val).conv.strikes.length →
      (m.chan c.val).conv.strikes.getD sl.val 0 + 1 < m.fld F.RGN_ROT_CTRL.STRIKES (c.val / 16) →
    After (.stuckSlice t c sl first) s fun n => n = { m.modConv c.val (fun v => { v with runs := Sparse.set v.runs sl.val { Sparse.get ({} : SliceRun) v.runs sl.val with first := (if 1024 ≤ (Sparse.get ({} : SliceRun) (m.chan c.val).conv.runs sl.val).count then (Sparse.get ({} : SliceRun) (m.chan c.val).conv.runs sl.val).first else first), told := true }, suspect := withBit v.suspect sl.val true, strikes := v.strikes.set sl.val (v.strikes.getD sl.val 0 + 1), stuck := (if v.stuck.contains (posOf (m.chan c.val).conv sl.val) then v.stuck else v.stuck ++ [posOf (m.chan c.val).conv sl.val]), rot := .emergArmed, target := posOf (m.chan c.val).conv sl.val, phase := posOf (m.chan c.val).conv sl.val, boundary := boundaryAfter m c.val }) with
        regs := (m.mark F.CH_CONV_STAT.STUCK_SEEN c.val).regs,
        stats := (m.count .RGN_ROT_FAULTS (c.val / 16) 1).stats,
        log := (rotLog m c.val 4 sl.val (posOf (m.chan c.val).conv sl.val) (m.datumOf (if 1024 ≤ (Sparse.get ({} : SliceRun)
          (m.chan c.val).conv.runs sl.val).count then (Sparse.get ({} : SliceRun) (m.chan c.val).conv.runs sl.val).first
          else first))).log,
        spans := (m.openSpan (.suspect c.val)).spans }) ∧
  (∀ (c : Chan), (m.chan c.val).conv.rot = .emergArmed → (m.chan c.val).conv.boundary ≤ m.now.tick → retired m c.val
      ((m.chan c.val).conv.pos.getD (m.chan c.val).conv.target 15) = false →
    After (.emergHandover t c) s fun n => n = { m.modConv c.val (fun v => { v with pos := v.pos.set v.target v.spare, relieved := 15, spare := ((m.chan c.val).conv.pos.getD (m.chan c.val).conv.target 15), handoverAt := v.boundary, coef := Sparse.set v.coef v.spare (Sparse.get (Sparse.get [] v.coef v.spare) v.standby v.spare), standby := Sparse.del v.standby v.spare, runs := Sparse.del v.runs ((m.chan c.val).conv.pos.getD (m.chan c.val).conv.target 15), stuck := v.stuck.erase v.target, rot := .calSpare, target := (v.stuck.erase v.target).headD ((v.target + 1) % slicesOf v.effMode), phase := (v.stuck.erase v.target).headD ((v.target + 1) % slicesOf v.effMode), expired := false, timerFrom := (if m.on F.CH_CONV_CTRL.ROT_EN c.val then some m.now.ns else none), passed := false, recal := false, calFrom := Sparse.set v.calFrom ((m.chan c.val).conv.pos.getD (m.chan c.val).conv.target 15) m.now.ns, attempts := v.attempts.set ((m.chan c.val).conv.pos.getD (m.chan c.val).conv.target 15) 0 }) with
        spans := n.spans }) ∧
  (∀ (c : Chan) (p : Port) (v : Word), Accepts m p .CH_SLICE_HEALTH c.val v → m.fld F.CH_SLICE_HEALTH.RETIRED c.val ≠ 0 →
      F.CH_SLICE_HEALTH.RETIRED.of v = 0 →
    After (.sliceHealthWrite t p c v) s fun n => n = { ((storeReg m .CH_SLICE_HEALTH c.val v).modConv c.val (fun v => { v with effMode := m.fld F.CH_CONV_CTRL.MODE c.val, calDue := true, pos := (upTo 8).map (fun q => if q < 8 >>> m.fld F.CH_CONV_CTRL.MODE c.val then q else 15), spare := 8 >>> m.fld F.CH_CONV_CTRL.MODE c.val, target := 0, coef := (n.chan c.val).conv.coef, standby := (n.chan c.val).conv.standby })).ledgerAct 2 1 c.val |>.emit (okPair p .CH_SLICE_HEALTH c.val) with
        spans := n.spans } ∧ (∀ q : Nat, q < 9 → Sparse.get (Sparse.get [] (n.chan c.val).conv.coef q) (n.chan
      c.val).conv.standby q = Sparse.get (Sparse.get [] (m.chan c.val).conv.coef q) (m.chan c.val).conv.standby q)) ∧
  (∀ (c : Chan) (p : Port) (v : Word) (sl : Slice), Accepts m p .CH_SLICE_HEALTH c.val v → m.fld F.CH_SLICE_HEALTH.RETIRED
      c.val = 0 → F.CH_SLICE_HEALTH.RETIRED.of v = 1 <<< sl.val →
    After (.sliceHealthWrite t p c v) s fun n => n = { (storeReg m .CH_SLICE_HEALTH c.val v).modConv c.val (fun v => { v with lastSlice := sl.val, lastReason := 4, suspect := withBit v.suspect sl.val false, effMode := m.fld F.CH_CONV_CTRL.MODE c.val, pos := (upTo 8).map (fun q => if q < 8 >>> m.fld F.CH_CONV_CTRL.MODE c.val then (if q < sl.val then q else q + 1) else 15), spare := (if 8 >>> m.fld F.CH_CONV_CTRL.MODE c.val < sl.val then 8 >>> m.fld F.CH_CONV_CTRL.MODE c.val else if 8 >>> m.fld F.CH_CONV_CTRL.MODE c.val < 8 then 8 >>> m.fld F.CH_CONV_CTRL.MODE c.val + 1 else 15), target := 0, coef := (n.chan c.val).conv.coef, standby := (n.chan c.val).conv.standby }) with
        spans := n.spans,
        regs := ((storeReg m .CH_SLICE_HEALTH c.val v).mark F.CH_CONV_STAT.RETIRE_SEEN c.val).regs,
        stats := (m.count .RGN_ROT_FAULTS (c.val / 16) 1).stats,
        log := (rotLog m c.val 6 sl.val (posOf (m.chan c.val).conv sl.val) 0).log,
        age := { m.age with actions := m.age.actions ++ [(1, 1, c.val)] },
        wire := okPair p .CH_SLICE_HEALTH c.val :: m.wire } ∧ (withBit (m.chan c.val).conv.suspect sl.val false = 0 →
      n.spanOpen (.suspect c.val) = false) ∧ (∀ q : Nat, q < 9 → Sparse.get (Sparse.get [] (n.chan c.val).conv.coef q)
      (n.chan c.val).conv.standby q = Sparse.get (Sparse.get [] (m.chan c.val).conv.coef q) (m.chan c.val).conv.standby q)) ∧
  (∀ (k : Rgn), m.pwr.calQueue.head? = some k.val → m.pwr.passRunning = false → m.rstate k.val = .cal → (m.rgn
      k.val).err.restarting = false →
    After (.calPassStart t k) s fun n => n = { m with pwr := { m.pwr with passRunning := true }, chans := n.chans } ∧ (∀ i :
      Nat, i < 16 → (n.chan (16 * k.val + i)).conv = { (m.chan (16 * k.val + i)).conv with
        attempts := List.replicate 9 0,
        strikes := List.replicate 9 0,
        calDone := 0,
        calFrom := (upTo 9).map (fun q => (q, m.now.ns)) }) ∧ (∀ c : Nat, c < 192 → c / 16 ≠ k.val → n.chan c = m.chan c)) ∧
  (∀ (k : Rgn) (front : List (List (List Int))), inPass m k.val = true → passComplete m k.val = true →
    After (.calPassDone t k front) s fun n => m.pwr.calQueue.drop 1 = n.pwr.calQueue ∧ n.pwr.passRunning = false ∧ n.rstate
      k.val = .idle ∧ (∀ i : Nat, i < 16 → (n.chan (16 * k.val + i)).conv.calDue = false ∧ (n.chan (16 * k.val +
      i)).conv.front = front.getD i (m.chan (16 * k.val + i)).conv.front ∧ (n.chan (16 * k.val + i)).conv.effMode =
      plannedMode m (16 * k.val + i)) ∧ n = { m with pwr := n.pwr, chans := n.chans, rgns := n.rgns, spans := n.spans } ∧ (∀
      c : Nat, c < 192 → c / 16 ≠ k.val → n.chan c = m.chan c)) ∧
  (∀ (k : Rgn) (front : List (List (List Int))), inPass m k.val = false ∨ passComplete m k.val = false →
    After (.calPassDone t k front) s fun n => n = m) ∧
  (∀ (c : Chan) (uv : Nat), (uv < 650000 ∧ (m.chan c.val).fe.cmLow = false) ∨ (1350000 < uv ∧ (m.chan c.val).fe.cmHigh =
      false) →
    After (.cmAlarm t c uv) s fun n => n = ((m.modFe c.val (fun f => { f with
        cmLow := f.cmLow || decide (uv < 650000),
        cmHigh := f.cmHigh || decide (1350000 < uv) })).mark F.CH_FE_STAT.CM_SEEN c.val).logE 0x0101 0 1 c.val 0 (feStat n
      c.val)) ∧
  (∀ (c : Chan) (uv : Nat), 650000 ≤ uv ∨ (m.chan c.val).fe.cmLow = true → uv ≤ 1350000 ∨ (m.chan c.val).fe.cmHigh = true →
    After (.cmAlarm t c uv) s fun n => n = m) ∧
  (∀ (c : Chan) (uv : Nat),
    After (.cmAlarmClear t c uv) s fun n => n = m.modFe c.val (fun f => { f with
        cmLow := f.cmLow && decide (uv < 670000),
        cmHigh := f.cmHigh && decide (1330000 < uv) })) ∧
  (∀ (c : Chan), (m.chan c.val).fe.settling = true → (m.chan c.val).fe.settleAt ≤ m.now.ns →
    After (.feSettleDone t c) s fun n => n = m.modFe c.val (fun f => { f with settling := false })) ∧
  (∀ (c : Chan), (m.chan c.val).fe.inj.phase = .scheduled → (m.chan c.val).fe.inj.edge ≤ m.now.tick →
    After (.injectEdge t c) s fun n => n = m.modFe c.val (fun f => { f with inj := { f.inj with phase := .active } })) ∧
  (∀ (c : Chan), (m.chan c.val).fe.inj.phase = .active → (m.chan c.val).fe.inj.width ≠ 0 → (m.chan c.val).fe.inj.edge + 16 *
      (m.chan c.val).fe.inj.width ≤ m.now.tick →
    After (.injectReturn t c) s fun n => n = m.modFe c.val (fun f => { f with inj := {} })) ∧
  (∀ (c : Chan), (m.chan c.val).fe.inj.phase = .active → (m.chan c.val).fe.inj.width = 0 → (m.chan c.val).fe.inj.released =
      true →
    After (.injectReturn t c) s fun n => n = m.modFe c.val (fun f => { f with inj := {} }))

/-- R50, R54, R55, R150, R161 to R164, R166, R169, R170, R172: the baseline stage acquires, freezes, tracks and reacquires, and each lagged block mean
moves its estimate by its share; tone blocks follow each other without a gap, each with its word and its window's verdict; the marks of a fabric
cycle's converter samples give SAT_NOW, SAT_SEEN and CH_SAT_COUNT, and a saturation in the chain sets ARITH_SAT_SEEN. -/
def Obligations.BaselineAndSaturation : Prop := ∀ (s : State) (t : Stamp) (m : Kz) (c : Chan), s.kz.advance t = m →
  (∀ (est : Int), (m.chan c.val).chain.bl = .acquire → (m.chan c.val).chain.acqCount = 256 ∨ (m.chan c.val).chain.start.getD
      0 + 256 * decim m c.val * convTicks m c.val ≤ m.now.tick →
    After (.blAcquireDone t c est) s fun n => n = m.modChain c.val (fun x => { x with
        est := (if x.acqCount = 256 then x.est else est),
        acqCount := 256,
        bl := if x.frzCmd || x.frzWin || x.frzExc then .frozen else .track })) ∧
  ((m.chan c.val).chain.bl = .track → (m.chan c.val).chain.frzCmd = true →
    After (.blFreezeBegin t c .command) s fun n => n = m.modChain c.val (fun x => { x with bl := .frozen, excFrom := none })) ∧
  ((m.chan c.val).chain.bl = .track ∨ (m.chan c.val).chain.bl = .reacquire → m.on F.CH_SLOT_CFG.FRZ_WIN c.val = true →
    After (.blFreezeBegin t c .window) s fun n => n = m.modChain c.val (fun x => { x with
        bl := .frozen,
        frzWin := true,
        excFrom := none })) ∧
  ((m.chan c.val).chain.bl = .track → m.on F.CH_SLOT_CFG.FRZ_EXC c.val = true →
    After (.blFreezeBegin t c .excursion) s fun n => n = m.modChain c.val (fun x => { x with
        bl := .frozen,
        frzExc := true,
        excFrom := if x.frzCmd || x.frzWin then none else some (x.excFrom.getD m.now.tick) })) ∧
  ((m.chan c.val).chain.bl = .reacquire → (m.chan c.val).chain.frzCmd = false → (m.chan c.val).chain.frzWin = false →
    After (.blFreezeBegin t c .excursion) s fun n => n = m.modChain c.val (fun x => { x with frzExc := false })) ∧
  ((m.chan c.val).chain.bl = .frozen → (m.chan c.val).chain.frzCmd = false → (m.chan c.val).chain.frzExc = false →
    After (.blFreezeEnd t c .window) s fun n => n = m.modChain c.val (fun x => { x with
        bl := .track,
        frzWin := false,
        excFrom := none })) ∧
  ((m.chan c.val).chain.bl = .frozen →
    After (.blFreezeEnd t c .excursion) s fun n => n = m.modChain c.val (fun x => { x with
        bl := (if x.frzCmd || x.frzWin then .frozen else .track),
        frzExc := false,
        excTail := 0,
        excFrom := none })) ∧
  ((m.chan c.val).chain.bl = .frozen → (m.chan c.val).chain.frzCmd = false → (m.chan c.val).chain.frzExc = false → (m.chan
      c.val).chain.frzWin = false →
    After (.blFreezeEnd t c .command) s fun n => n = m.modChain c.val (fun x => { x with bl := .track, excFrom := none })) ∧
  (∀ (f : Nat), (m.chan c.val).chain.bl = .frozen → (m.chan c.val).chain.excFrom = some f → f + 2 ^ (m.fld
      F.CH_SLOT_CFG.TAU_K c.val + 2) * decim m c.val * convTicks m c.val ≤ m.now.tick →
    After (.blReacquire t c) s fun n => n = { m.modChain c.val (fun x => { x with bl := .reacquire, frzExc := false, excTail := 0, excFrom := none }) with
        regs := (m.mark F.CH_CHAIN_STAT.BL_REACQ_SEEN c.val).regs,
        log := (m.logE 0x0120 0 1 c.val 0 (slotResult n c.val)).log }) ∧
  (∀ (resid : Nat), (m.chan c.val).chain.bl = .reacquire → (2 * (if blLag m c.val < (m.chan c.val).chain.means.length then
      (m.chan c.val).chain.resid else resid) < excThr m c.val) →
    After (.blReacquireDone t c resid) s fun n => n = m.modChain c.val (fun x => { x with bl := .track })) ∧
  (∀ (resid : Nat), (m.chan c.val).chain.bl = .reacquire → (excThr m c.val ≤ 2 * (if blLag m c.val < (m.chan
      c.val).chain.means.length then (m.chan c.val).chain.resid else resid)) →
    After (.blReacquireDone t c resid) s fun n => n = m) ∧
  (∀ (p : Port) (v : Word), Accepts m p .CH_CHAIN_CTRL c.val v → m.fld F.CH_CHAIN_CTRL.BL_FREEZE c.val = 0 →
      F.CH_CHAIN_CTRL.BL_FREEZE.of v = 1 → (m.chan c.val).chain.bl = .track → (m.chan c.val).chain.start.isSome = true →
    After (.blFreezeWrite t p c v) s fun n => n = ((storeReg m .CH_CHAIN_CTRL c.val v).modChain c.val (fun x => { x with
        frzCmd := true,
        bl := .frozen,
        excFrom := none })).emit (okPair p .CH_CHAIN_CTRL c.val)) ∧
  (∀ (first last mag2 phase : Nat) (sat : Bool), (m.chan c.val).chain.start.isSome = true → wide m c.val = true → m.on
      F.CH_CHAIN_CTRL.SLOT_EN c.val = true → first = nextBlock m c.val (m.chan c.val).chain.toneFrom → last + convTicks m
      c.val = first + (2 ^ m.fld F.CH_SLOT_CFG.NEXP c.val) * convTicks m c.val → last + 48 * convTicks m c.val ≤ m.now.tick
      → (∀ b ∈ (m.chan c.val).chain.toneDone, b.first ≠ first) →
    After (.toneBlockResult t c last mag2 phase sat) s fun n => n.chans = (m.modChain c.val (fun _ => (n.chan
      c.val).chain)).chans ∧ (n.chan c.val).chain.blockSeq = (m.chan c.val).chain.blockSeq + 1 ∧ (n.chan
      c.val).chain.toneFrom = last + convTicks m c.val ∧ (n.chan c.val).chain.outside = decide ((n.chan c.val).chain.mag2 /
      65536 < m.fld F.CH_SLOT_AUX.WIN_LO c.val ∨ m.fld F.CH_SLOT_AUX.WIN_HI c.val < (n.chan c.val).chain.mag2 / 65536) ∧
      ((n.chan c.val).chain.outside = true → (m.chan c.val).chain.outside = false → n.regs = (m.mark
      F.CH_CHAIN_STAT.TONE_EXIT_SEEN c.val).regs) ∧ ((n.chan c.val).chain.outside = false → n.regs = m.regs ∧ n.wire =
      m.wire) ∧ n.rgns = m.rgns ∧ n.mem = m.mem ∧ n.log = m.log ∧ (n.chan c.val).chain.mag2 = satU 32 mag2 ∧ (n.chan
      c.val).chain.phase = phase % 65536 ∧ (n.chan c.val).chain.toneWords.head? = some (satU 32 mag2 <<< 32 ||| (phase %
      65536) <<< 16 ||| b2n sat <<< 15 ||| b2n (n.chan c.val).chain.outside <<< 14 ||| (m.chan c.val).chain.blockSeq %
      16384, last * 1024)) ∧
  (∀ (first last mag2 phase : Nat) (sat : Bool) (b : ToneBlock) (q : Nat), (m.chan c.val).chain.start.isSome = true → wide m
      c.val = true → m.on F.CH_CHAIN_CTRL.SLOT_EN c.val = true → first = nextBlock m c.val (m.chan c.val).chain.toneFrom →
      last + convTicks m c.val = first + (2 ^ m.fld F.CH_SLOT_CFG.NEXP c.val) * convTicks m c.val → last + 48 * convTicks m
      c.val ≤ m.now.tick → (m.chan c.val).chain.toneDone.find? (fun b => decide (b.first = first)) = some b → b.hole = false
      → q = (4 * (b.re * b.re + b.im * b.im)).toNat / ((2 ^ m.fld F.CH_SLOT_CFG.NEXP c.val) * (2 ^ m.fld F.CH_SLOT_CFG.NEXP
      c.val) * 2 ^ 60) →
    After (.toneBlockResult t c last mag2 phase sat) s fun n => n.chans = (m.modChain c.val (fun _ => (n.chan
      c.val).chain)).chans ∧ (n.chan c.val).chain.blockSeq = (m.chan c.val).chain.blockSeq + 1 ∧ (n.chan
      c.val).chain.toneFrom = last + convTicks m c.val ∧ (n.chan c.val).chain.outside = decide ((n.chan c.val).chain.mag2 /
      65536 < m.fld F.CH_SLOT_AUX.WIN_LO c.val ∨ m.fld F.CH_SLOT_AUX.WIN_HI c.val < (n.chan c.val).chain.mag2 / 65536) ∧
      ((n.chan c.val).chain.outside = true → (m.chan c.val).chain.outside = false → n.regs = (m.mark
      F.CH_CHAIN_STAT.TONE_EXIT_SEEN c.val).regs) ∧ ((n.chan c.val).chain.outside = false → n.regs = m.regs ∧ n.wire =
      m.wire) ∧ n.rgns = m.rgns ∧ n.mem = m.mem ∧ n.log = m.log ∧ (n.chan c.val).chain.phase = Config.angle b.re b.im %
      65536 ∧ (q < 2 ^ 32 - 1 → (n.chan c.val).chain.mag2 = q ∨ (n.chan c.val).chain.mag2 = q + 1) ∧ (n.chan
      c.val).chain.toneWords.head? = some ((n.chan c.val).chain.mag2 <<< 32 ||| (n.chan c.val).chain.phase <<< 16 ||| b2n
      b.sat <<< 15 ||| b2n (n.chan c.val).chain.outside <<< 14 ||| (m.chan c.val).chain.blockSeq % 16384, last * 1024)) ∧
  (∀ (codes spare : List (BitVec 12)), powered m.pwr.state = true → m.hub.lastSend.any (fun l => decide (m.fabric ≤ l)) =
      false → m.rstate (c.val / 16) ≠ .down → chanFailed m c.val = false → (∀ k : Nat, k < 12 → (m.rgn k).acc.cuts = []) →
      codes.length ≤ 16 / convTicks m c.val → (m.chan c.val).chain.start = none →
    After (.fixedLaneSend t [⟨c, codes, spare⟩]) s fun n => (n.chan c.val) = { m.chan c.val with
        fe := { (m.chan c.val).fe with
            satNow := (codes.map (fun x => rawMarked x.toInt)).getLastD (m.chan c.val).fe.satNow },
        conv := (n.chan c.val).conv } ∧ n.counter .CH_SAT_COUNT c.val = (m.count .CH_SAT_COUNT c.val (((m.chan
      c.val).fe.satNow :: codes.map (fun x => rawMarked x.toInt)).zip (codes.map (fun x => rawMarked x.toInt)) |>.countP
      (fun z => !z.1 && z.2))).counter .CH_SAT_COUNT c.val ∧ (n.seen F.CH_FE_STAT.SAT_SEEN c.val = 1 ↔ codes.any (fun x =>
      rawMarked x.toInt) = true ∨ m.seen F.CH_FE_STAT.SAT_SEEN c.val = 1) ∧ (∀ i : Nat, i < 192 → i ≠ c.val → n.chan i =
      m.chan i)) ∧
  (∀ (a : BitVec 12) (i : Nat), powered m.pwr.state = true → m.hub.lastSend.any (fun l => decide (m.fabric ≤ l)) = false →
      m.rstate (c.val / 16) ≠ .down → chanFailed m c.val = false → (∀ k : Nat, k < 12 → (m.rgn k).acc.cuts = []) → (m.chan
      c.val).chain.start = none → m.inRun (c.val / 16) = false → partner (m.chan c.val).conv = 15 → i = (m.fabric * 16 /
      convTicks m c.val) →
    After (.fixedLaneSend t [⟨c, [a], []⟩]) s fun n => (n.chan c.val).conv = { (m.chan c.val).conv with
        line := (((corrected (coefOf (m.chan c.val).conv (sliceAt (m.chan c.val).conv i)) ((m.chan c.val).conv.front.getD
          (m.fld F.CH_FE_CTRL.GAIN c.val) []) a.toInt), rawMarked a.toInt) :: if i = (m.chan c.val).conv.nextIdx then
          (m.chan c.val).conv.line else []).take 49,
        nextIdx := i + 1 }) ∧
  (∀ (a b : BitVec 12) (i : Nat), powered m.pwr.state = true → m.hub.lastSend.any (fun l => decide (m.fabric ≤ l)) = false →
      m.rstate (c.val / 16) ≠ .down → chanFailed m c.val = false → (∀ k : Nat, k < 12 → (m.rgn k).acc.cuts = []) → (m.chan
      c.val).chain.start = none → (m.chan c.val).conv.rot = .shadow ∨ (m.chan c.val).conv.rot = .checkShadow → (m.chan
      c.val).conv.spare ≠ 15 → i = (m.fabric * 16 / convTicks m c.val) → i % slicesOf (m.chan c.val).conv.effMode = (m.chan
      c.val).conv.phase → (m.chan c.val).conv.windowAt ≤ i * convTicks m c.val →
    After (.fixedLaneSend t [⟨c, [a], [b]⟩]) s fun n => (let x := (corrected (coefOf (m.chan c.val).conv (sliceAt (m.chan
      c.val).conv i)) ((m.chan c.val).conv.front.getD (m.fld F.CH_FE_CTRL.GAIN c.val) []) a.toInt); let y := (corrected
      (coefOf (m.chan c.val).conv (m.chan c.val).conv.spare) ((m.chan c.val).conv.front.getD (m.fld F.CH_FE_CTRL.GAIN c.val)
      []) b.toInt); (n.chan c.val).conv.pairs = if rawMarked a.toInt = true ∨ rawMarked b.toInt = true then (m.chan
      c.val).conv.pairs else { (m.chan c.val).conv.pairs with
        count := (m.chan c.val).conv.pairs.count + 1,
        sum := (m.chan c.val).conv.pairs.sum + (y - x),
        brokeAt := (n.chan c.val).conv.pairs.brokeAt,
        disagree := (m.chan c.val).conv.pairs.disagree + if m.fld F.RGN_SHADOW_CFG.THR (c.val / 16) < (x - y).natAbs then 1
          else 0 })) ∧
  (∀ (a : BitVec 12) (st i j : Nat) (y : Int × Bool), powered m.pwr.state = true → m.hub.lastSend.any (fun l => decide
      (m.fabric ≤ l)) = false → m.rstate (c.val / 16) ≠ .down → chanFailed m c.val = false → (∀ k : Nat, k < 12 → (m.rgn
      k).acc.cuts = []) → (m.chan c.val).chain.start = some st → (m.chan c.val).chain.stages = [] → m.fld
      F.CH_CHAIN_CTRL.DEC c.val = 0 → m.on F.CH_CHAIN_CTRL.SLOT_EN c.val = false → rsOn m c.val = false → (m.chan
      c.val).conv.nextIdx = i + 48 → (m.chan c.val).conv.line[47]? = some y → i + 48 = (m.fabric * 16 / convTicks m c.val) →
      st ≤ i * convTicks m c.val → i = gridStart m c.val / (1024 * convTicks m c.val) + j → firstDelivered m c.val ≤ j →
    After (.fixedLaneSend t [⟨c, [a], []⟩]) s fun n => (n.chan c.val).chain.ring = (⟨j, y.1, y.2⟩ :: (m.chan
      c.val).chain.ring).take 256 ∧ (n.chan c.val).chain.readTrig = j + 1 ∧ (n.chan c.val).chain.readEng = j + 1 ∧ (n.chan
      c.val).chain.readMem = j + 1) ∧
  (∀ (codes spare : List (BitVec 12)), m.rstate (c.val / 16) = .down ∨ chanFailed m c.val = true ∨ powered m.pwr.state =
      false → (∀ k : Nat, k < 12 → (m.rgn k).acc.cuts = []) →
    After (.fixedLaneSend t [⟨c, codes, spare⟩]) s fun n => (∀ i : Nat, i < 192 → n.chan i = m.chan i) ∧ n.regs = m.regs)

/-- R195, R196, R207 to R210, R213, R243, R244: the triggers of the earliest fabric cycle are one trigger with the earliest instant, and those whose samples lie in the
same fabric cycle join it; the arming state at its sample decides: it opens a record, or it is ignored and counted, or it is dropped; and the other moves of the arming machine. -/
def Obligations.TriggersAndArming : Prop := ∀ (s : State) (t : Stamp) (m : Kz) (c : Chan), s.kz.advance t = m →
  ((m.chan c.val).trig.pending = [] →
    After (.triggerDecide t c) s fun n => n = m) ∧
  (∀ (cyc inst : Nat), cyc ∈ (m.chan c.val).trig.pending.map (fun z => z.2.2) → (∀ y ∈ (m.chan c.val).trig.pending, cyc ≤
      y.2.2) → inst ∈ ((m.chan c.val).trig.pending.filter (fun z => z.2.2 = cyc)).map (fun z => z.2.1) → (∀ y ∈ (m.chan
      c.val).trig.pending, y.2.2 = cyc → inst ≤ y.2.1) → armAt (m.chan c.val).trig (sampleInst m c.val (sampleAt m c.val
      inst)) = .filling →
    After (.triggerDecide t c) s fun n => n = { m.modTrig c.val (fun x => { x with pending := x.pending.filter (fun y => y.2.2 != cyc) }) with
        stats := (m.count .RGN_TRIG_IGNORED_PRE (c.val / 16) 1).stats,
        regs := (m.mark F.CH_TRIG_STAT.IGN_PRE_SEEN c.val).regs }) ∧
  (∀ (cyc inst : Nat), cyc ∈ (m.chan c.val).trig.pending.map (fun z => z.2.2) → (∀ y ∈ (m.chan c.val).trig.pending, cyc ≤
      y.2.2) → inst ∈ ((m.chan c.val).trig.pending.filter (fun z => z.2.2 = cyc)).map (fun z => z.2.1) → (∀ y ∈ (m.chan
      c.val).trig.pending, y.2.2 = cyc → inst ≤ y.2.1) → armAt (m.chan c.val).trig (sampleInst m c.val (sampleAt m c.val
      inst)) = .record ∨ armAt (m.chan c.val).trig (sampleInst m c.val (sampleAt m c.val inst)) = .holdoff ∨ armAt (m.chan
      c.val).trig (sampleInst m c.val (sampleAt m c.val inst)) = .rearm → (m.chan c.val).trig.openCycle ≠ some (sampleCycle
      m c.val (sampleAt m c.val inst)) →
    After (.triggerDecide t c) s fun n => n = { m.modTrig c.val (fun x => { x with pending := x.pending.filter (fun y => y.2.2 != cyc), holdCount := x.holdCount + 1 }) with
        stats := (m.count .RGN_TRIG_IGNORED_HOLD (c.val / 16) 1).stats,
        regs := (m.mark F.CH_TRIG_STAT.IGN_HOLD_SEEN c.val).regs }) ∧
  (∀ (cyc inst f : Nat), cyc ∈ (m.chan c.val).trig.pending.map (fun z => z.2.2) → (∀ y ∈ (m.chan c.val).trig.pending, cyc ≤
      y.2.2) → inst ∈ ((m.chan c.val).trig.pending.filter (fun z => z.2.2 = cyc)).map (fun z => z.2.1) → (∀ y ∈ (m.chan
      c.val).trig.pending, y.2.2 = cyc → inst ≤ y.2.1) → armAt (m.chan c.val).trig (sampleInst m c.val (sampleAt m c.val
      inst)) = .armed → (m.chan c.val).trig.openCycle ≠ some (sampleCycle m c.val (sampleAt m c.val inst)) → f ∈ ((m.chan
      c.val).trig.pending.filter (joins m c.val cyc inst)).map (fun z => z.2.1) → (∀ y ∈ (m.chan c.val).trig.pending.filter
      (joins m c.val cyc inst), f ≤ y.2.1) → ((m.chan c.val).trig.arm ≠ .armed ∧ (m.chan c.val).trig.maskStop = false) ∨ (∃
      e ∈ (m.chan c.val).trig.past, e.2 = .record ∧ sampleInst m c.val (sampleAt m c.val f) < e.1) →
    After (.triggerDecide t c) s fun n => n = { m.modTrig c.val (fun x => { x with pending := x.pending.filter (fun y => !joins m c.val cyc inst y), holdCount := x.holdCount + 1 }) with
        stats := (m.count .RGN_TRIG_IGNORED_HOLD (c.val / 16) 1).stats,
        regs := (m.mark F.CH_TRIG_STAT.IGN_HOLD_SEEN c.val).regs }) ∧
  (∀ (cyc inst : Nat), cyc ∈ (m.chan c.val).trig.pending.map (fun z => z.2.2) → (∀ y ∈ (m.chan c.val).trig.pending, cyc ≤
      y.2.2) → inst ∈ ((m.chan c.val).trig.pending.filter (fun z => z.2.2 = cyc)).map (fun z => z.2.1) → (∀ y ∈ (m.chan
      c.val).trig.pending, y.2.2 = cyc → inst ≤ y.2.1) → armAt (m.chan c.val).trig (sampleInst m c.val (sampleAt m c.val
      inst)) = .disarmed ∨ armAt (m.chan c.val).trig (sampleInst m c.val (sampleAt m c.val inst)) = .stopped ∨ armAt (m.chan
      c.val).trig (sampleInst m c.val (sampleAt m c.val inst)) = .maskStopped →
    After (.triggerDecide t c) s fun n => n = m.modTrig c.val (fun x => { x with
        pending := x.pending.filter (fun y => y.2.2 != cyc) })) ∧
  (∀ (cyc inst : Nat), cyc ∈ (m.chan c.val).trig.pending.map (fun z => z.2.2) → (∀ y ∈ (m.chan c.val).trig.pending, cyc ≤
      y.2.2) → inst ∈ ((m.chan c.val).trig.pending.filter (fun z => z.2.2 = cyc)).map (fun z => z.2.1) → (∀ y ∈ (m.chan
      c.val).trig.pending, y.2.2 = cyc → inst ≤ y.2.1) → armAt (m.chan c.val).trig (sampleInst m c.val (sampleAt m c.val
      inst)) = .record → (m.chan c.val).trig.openCycle = some (sampleCycle m c.val (sampleAt m c.val inst)) →
    After (.triggerDecide t c) s fun n => n = m.modTrig c.val (fun x => { x with
        pending := x.pending.filter (fun y => y.2.2 != cyc),
        lastSrc := x.lastSrc ||| ((m.chan c.val).trig.pending.filter (fun y => y.2.2 = cyc)).foldl (fun a y => a ||| 1 <<<
          y.1) 0 })) ∧
  (∀ (cyc inst : Nat), cyc ∈ (m.chan c.val).trig.pending.map (fun z => z.2.2) → (∀ y ∈ (m.chan c.val).trig.pending, cyc ≤
      y.2.2) → inst ∈ ((m.chan c.val).trig.pending.filter (fun z => z.2.2 = cyc)).map (fun z => z.2.1) → (∀ y ∈ (m.chan
      c.val).trig.pending, y.2.2 = cyc → inst ≤ y.2.1) → armAt (m.chan c.val).trig (sampleInst m c.val (sampleAt m c.val
      inst)) = .armed → (m.chan c.val).trig.openCycle = some (sampleCycle m c.val (sampleAt m c.val inst)) →
    After (.triggerDecide t c) s fun n => n = m.modTrig c.val (fun x => { x with
        pending := x.pending.filter (fun y => !joins m c.val cyc inst y),
        lastSrc := x.lastSrc ||| ((m.chan c.val).trig.pending.filter (joins m c.val cyc inst)).foldl (fun a y => a ||| 1 <<<
          y.1) 0 })) ∧
  (∀ (cyc inst f : Nat), cyc ∈ (m.chan c.val).trig.pending.map (fun z => z.2.2) → (∀ y ∈ (m.chan c.val).trig.pending, cyc ≤
      y.2.2) → inst ∈ ((m.chan c.val).trig.pending.filter (fun z => z.2.2 = cyc)).map (fun z => z.2.1) → (∀ y ∈ (m.chan
      c.val).trig.pending, y.2.2 = cyc → inst ≤ y.2.1) → armAt (m.chan c.val).trig (sampleInst m c.val (sampleAt m c.val
      inst)) = .armed → (m.chan c.val).trig.openCycle ≠ some (sampleCycle m c.val (sampleAt m c.val inst)) → f ∈ ((m.chan
      c.val).trig.pending.filter (joins m c.val cyc inst)).map (fun z => z.2.1) → (∀ y ∈ (m.chan c.val).trig.pending.filter
      (joins m c.val cyc inst), f ≤ y.2.1) → (m.chan c.val).trig.arm = .armed → (m.chan c.val).trig.maskStop = false → (∀ e
      ∈ (m.chan c.val).trig.past, e.2 = .record → e.1 ≤ sampleInst m c.val (sampleAt m c.val f)) → (m.chan
      c.val).mem.open_.length < 4 →
    After (.triggerDecide t c) s fun n => n = { m.modChan c.val (fun x => { x with trig := { armTo { x.trig with pending := x.trig.pending.filter (fun y => !joins m c.val cyc inst y) } (sampleInst m c.val (sampleAt m c.val f)) .record with lastSrc := ((m.chan c.val).trig.pending.filter (joins m c.val cyc inst)).foldl (fun a y => a ||| 1 <<< y.1) 0, openCycle := some (sampleCycle m c.val (sampleAt m c.val f)), holding := m.fld F.CH_TRIG_HOLD.HOLDOFF c.val != 0, holdInst := f, holdCount := 0 }, chain := { x.chain with windows := ((sampleInst m c.val (sampleAt m c.val f - recPre m c.val), sampleInst m c.val (sampleAt m c.val f + recLen m c.val - recPre m c.val - 1)) :: x.chain.windows).take 64 }, mem := { x.mem with writing := none, open_ := x.mem.open_ ++ (n.chan c.val).mem.open_.drop x.mem.open_.length } }) with
        regs := (m.mark F.CH_TRIG_STAT.TRIG_SEEN c.val).regs } ∧ ((n.chan c.val).mem.open_.drop (m.chan
      c.val).mem.open_.length).map (fun r => (r.kind, r.idx, r.len, r.time.ticks, r.ref, r.refIdx, r.slot)) =
      [(RecKind.triggered, sampleAt m c.val f - recPre m c.val, recLen m c.val, some (m.stampOf f).1, f, recPre m c.val,
      (m.chan c.val).mem.writing)]) ∧
  (∀ (cyc inst f i : Nat), cyc ∈ (m.chan c.val).trig.pending.map (fun z => z.2.2) → (∀ y ∈ (m.chan c.val).trig.pending, cyc
      ≤ y.2.2) → inst ∈ ((m.chan c.val).trig.pending.filter (fun z => z.2.2 = cyc)).map (fun z => z.2.1) → (∀ y ∈ (m.chan
      c.val).trig.pending, y.2.2 = cyc → inst ≤ y.2.1) → armAt (m.chan c.val).trig (sampleInst m c.val (sampleAt m c.val
      inst)) = .armed → (m.chan c.val).trig.openCycle ≠ some (sampleCycle m c.val (sampleAt m c.val inst)) → f ∈ ((m.chan
      c.val).trig.pending.filter (joins m c.val cyc inst)).map (fun z => z.2.1) → (∀ y ∈ (m.chan c.val).trig.pending.filter
      (joins m c.val cyc inst), f ≤ y.2.1) → (m.chan c.val).trig.arm = .armed → (m.chan c.val).trig.maskStop = false → (∀ e
      ∈ (m.chan c.val).trig.past, e.2 = .record → e.1 ≤ sampleInst m c.val (sampleAt m c.val f)) → 4 ≤ (m.chan
      c.val).mem.open_.length → (m.chan c.val).mem.writing = some i → m.on F.CH_TRIG_CTRL.HO_MODE c.val = true → m.fld
      F.CH_TRIG_HOLD.HOLDOFF c.val ≠ 0 → acqMode m (c.val / 16) ≠ 3 →
    After (.triggerDecide t c) s fun n => OneStub m n c.val { m.chan c.val with
        trig := { armTo (armTo { (m.chan c.val).trig with pending := (m.chan c.val).trig.pending.filter (fun y => !joins m c.val cyc inst y) } (sampleInst m c.val (sampleAt m c.val f)) .record) (sampleInst m c.val (sampleAt m c.val f) + 1) .holdoff with
            lastSrc := ((m.chan c.val).trig.pending.filter (joins m c.val cyc inst)).foldl (fun a y => a ||| 1 <<< y.1) 0,
            openCycle := some (sampleCycle m c.val (sampleAt m c.val f)),
            holding := true,
            holdInst := f,
            holdCount := 0 },
        mem := { (m.chan c.val).mem with writing := none, used := (m.chan c.val).mem.used.erase i } } .triggered 2) ∧
  (∀ (cyc inst f : Nat), cyc ∈ (m.chan c.val).trig.pending.map (fun z => z.2.2) → (∀ y ∈ (m.chan c.val).trig.pending, cyc ≤
      y.2.2) → inst ∈ ((m.chan c.val).trig.pending.filter (fun z => z.2.2 = cyc)).map (fun z => z.2.1) → (∀ y ∈ (m.chan
      c.val).trig.pending, y.2.2 = cyc → inst ≤ y.2.1) → armAt (m.chan c.val).trig (sampleInst m c.val (sampleAt m c.val
      inst)) = .armed → (m.chan c.val).trig.openCycle ≠ some (sampleCycle m c.val (sampleAt m c.val inst)) → f ∈ ((m.chan
      c.val).trig.pending.filter (joins m c.val cyc inst)).map (fun z => z.2.1) → (∀ y ∈ (m.chan c.val).trig.pending.filter
      (joins m c.val cyc inst), f ≤ y.2.1) → (m.chan c.val).trig.maskStop = true → (∀ e ∈ (m.chan c.val).trig.past, e.2 =
      .record → e.1 ≤ sampleInst m c.val (sampleAt m c.val f)) → acqMode m (c.val / 16) ≠ 3 →
    After (.triggerDecide t c) s fun n => OneStub m n c.val { m.chan c.val with
        trig := armBelow { (m.chan c.val).trig with
            pending := (m.chan c.val).trig.pending.filter (fun y => !joins m c.val cyc inst y) } (sampleInst m c.val
          (sampleAt m c.val f)) .record } .triggered 7) ∧
  (∀ (cyc inst f : Nat), cyc ∈ (m.chan c.val).trig.pending.map (fun z => z.2.2) → (∀ y ∈ (m.chan c.val).trig.pending, cyc ≤
      y.2.2) → inst ∈ ((m.chan c.val).trig.pending.filter (fun z => z.2.2 = cyc)).map (fun z => z.2.1) → (∀ y ∈ (m.chan
      c.val).trig.pending, y.2.2 = cyc → inst ≤ y.2.1) → armAt (m.chan c.val).trig (sampleInst m c.val (sampleAt m c.val
      inst)) = .armed → (m.chan c.val).trig.openCycle ≠ some (sampleCycle m c.val (sampleAt m c.val inst)) → f ∈ ((m.chan
      c.val).trig.pending.filter (joins m c.val cyc inst)).map (fun z => z.2.1) → (∀ y ∈ (m.chan c.val).trig.pending.filter
      (joins m c.val cyc inst), f ≤ y.2.1) → (m.chan c.val).trig.maskStop = true → (∀ e ∈ (m.chan c.val).trig.past, e.2 =
      .record → e.1 ≤ sampleInst m c.val (sampleAt m c.val f)) → acqMode m (c.val / 16) = 3 →
    After (.triggerDecide t c) s fun n => n = m.modTrig c.val (fun x => armBelow { x with
        pending := x.pending.filter (fun y => !joins m c.val cyc inst y) } (sampleInst m c.val (sampleAt m c.val f))
      .record)) ∧
  ((m.chan c.val).trig.arm = .filling → sampleInst m c.val ((m.chan c.val).trig.fillFrom + recPre m c.val) ≤ ringInst m
      c.val →
    After (.pretriggerFilled t c) s fun n => n = m.modTrig c.val (fun x => armTo x (sampleInst m c.val (x.fillFrom + recPre
      m c.val)) .armed)) ∧
  ((m.chan c.val).trig.holding = true → (m.chan c.val).trig.arm = .holdoff → m.on F.CH_TRIG_CTRL.HO_MODE c.val = false →
      sampleInst m c.val (sampleAt m c.val ((m.chan c.val).trig.holdInst + m.fld F.CH_TRIG_HOLD.HOLDOFF c.val * 1024)) ≤
      ringInst m c.val →
    After (.holdoffExpire t c) s fun n => n = m.modTrig c.val (fun x => { armTo { x with holding := false } (sampleInst m c.val (sampleAt m c.val ((m.chan c.val).trig.holdInst + m.fld F.CH_TRIG_HOLD.HOLDOFF c.val * 1024))) .rearm with
        rearmAt := (sampleInst m c.val (sampleAt m c.val ((m.chan c.val).trig.holdInst + m.fld F.CH_TRIG_HOLD.HOLDOFF c.val
          * 1024)) + delay m c.val) / 16384 + 5 })) ∧
  ((m.chan c.val).trig.holding = true → (m.chan c.val).trig.arm = .holdoff → m.on F.CH_TRIG_CTRL.HO_MODE c.val = true →
      m.fld F.CH_TRIG_HOLD.HOLDOFF c.val ≤ (m.chan c.val).trig.holdCount →
    After (.holdoffExpire t c) s fun n => n = m.modTrig c.val (fun x => { armTo { x with holding := false } (ringInst m c.val) .rearm with
        rearmAt := (ringInst m c.val + delay m c.val) / 16384 + 5 })) ∧
  ((m.chan c.val).trig.holding = true → (m.chan c.val).trig.arm = .record → m.on F.CH_TRIG_CTRL.HO_MODE c.val = true → m.fld
      F.CH_TRIG_HOLD.HOLDOFF c.val ≤ (m.chan c.val).trig.holdCount →
    After (.holdoffExpire t c) s fun n => n = m.modTrig c.val (fun x => { x with holding := false })) ∧
  ((m.chan c.val).trig.arm = .rearm → (m.chan c.val).trig.rearmAt ≤ m.fabric → m.on F.CH_TRIG_CTRL.ARM_MODE c.val = true →
      m.fld F.RGN_ACQ_CTRL.SEGS_M1 (c.val / 16) + 1 ≤ (m.chan c.val).trig.seqClosed →
    After (.rearmDone t c) s fun n => n = m.modTrig c.val (fun x => armTo x (ringInst m c.val) .stopped)) ∧
  ((m.chan c.val).trig.arm = .rearm → (m.chan c.val).trig.rearmAt ≤ m.fabric → m.on F.CH_TRIG_CTRL.ARM_MODE c.val = false →
      freeSlot m c.val = none →
    After (.rearmDone t c) s fun n => n = { m with regs := (m.mark F.CH_MEM_CTRL.SEG_WAIT_SEEN c.val).regs }) ∧
  (∀ (i : Nat), (m.chan c.val).trig.arm = .rearm → (m.chan c.val).trig.rearmAt ≤ m.fabric → m.on F.CH_TRIG_CTRL.ARM_MODE
      c.val = false ∨ (m.chan c.val).trig.seqClosed < m.fld F.RGN_ACQ_CTRL.SEGS_M1 (c.val / 16) + 1 → freeSlot m c.val =
      some i → recPre m c.val ≠ 0 →
    After (.rearmDone t c) s fun n => n = m.modChan c.val (fun x => { x with
        trig := { armTo x.trig (ringInst m c.val) .filling with
            fillFrom := max (sampleAt m c.val (ringInst m c.val)) (firstStored m c.val) },
        mem := { x.mem with used := i :: x.mem.used, writing := some i } })) ∧
  (∀ (i : Nat), (m.chan c.val).trig.arm = .rearm → (m.chan c.val).trig.rearmAt ≤ m.fabric → m.on F.CH_TRIG_CTRL.ARM_MODE
      c.val = false ∨ (m.chan c.val).trig.seqClosed < m.fld F.RGN_ACQ_CTRL.SEGS_M1 (c.val / 16) + 1 → freeSlot m c.val =
      some i → recPre m c.val = 0 →
    After (.rearmDone t c) s fun n => n = m.modChan c.val (fun x => { x with
        trig := { armTo (armTo x.trig (ringInst m c.val) .filling) (sampleInst m c.val (max (sampleAt m c.val (ringInst m c.val)) (firstStored m c.val))) .armed with
            fillFrom := max (sampleAt m c.val (ringInst m c.val)) (firstStored m c.val) },
        mem := { x.mem with used := i :: x.mem.used, writing := some i } })) ∧
  (∀ (p : Port) (v : Word) (i : Nat), Accepts m p .CH_TRIG_CTRL c.val v → F.CH_TRIG_CTRL.ARM.of v = 1 → m.inRun (c.val / 16)
      = true → running m c.val = true → m.on F.CH_MEM_CTRL.REC_EN c.val = true → (m.chan c.val).trig.arm = .stopped ∨
      (m.chan c.val).trig.arm = .maskStopped → (acqMode m (c.val / 16) = 0 ∧ F.CH_TRIG_CTRL.ARM_MODE.of v = 0) ∨ acqMode m
      (c.val / 16) = 3 → (m.chan c.val).trig.maskStop = false → freeSlot m c.val = some i → recPre m c.val ≠ 0 →
    After (.arm t p c v) s fun n => n = { (storeReg m .CH_TRIG_CTRL c.val v).modChan c.val (fun x => { x with trig := { armTo { x.trig with seqClosed := 0, maskStop := false, holding := false, holdCount := 0 } (ringInst m c.val) .filling with fillFrom := max (sampleAt m c.val (ringInst m c.val)) (firstStored m c.val) }, mem := { x.mem with used := i :: x.mem.used, writing := some i } }) with
        wire := okPair p .CH_TRIG_CTRL c.val :: m.wire }) ∧
  (∀ (p : Port) (v : Word) (i : Nat), Accepts m p .CH_TRIG_CTRL c.val v → F.CH_TRIG_CTRL.ARM.of v = 1 → m.inRun (c.val / 16)
      = true → running m c.val = true → m.on F.CH_MEM_CTRL.REC_EN c.val = true → ((m.chan c.val).trig.maskStop = true ∧
      ((m.chan c.val).trig.arm = .stopped ∨ (m.chan c.val).trig.arm = .maskStopped) ∧ (acqMode m (c.val / 16) = 0 ∨ acqMode
      m (c.val / 16) = 3)) ∨ (acqMode m (c.val / 16) = 0 ∧ F.CH_TRIG_CTRL.ARM_MODE.of v = 1 ∧ ((m.chan c.val).trig.arm =
      .disarmed ∨ (m.chan c.val).trig.arm = .stopped ∨ (m.chan c.val).trig.arm = .maskStopped)) → freeSlot (freeSegments m
      c.val) c.val = some i → recPre m c.val ≠ 0 →
    After (.arm t p c v) s fun n => n = { (freeSegments (storeReg m .CH_TRIG_CTRL c.val v) c.val).modChan c.val (fun x => { x with trig := { armTo { x.trig with seqClosed := 0, maskStop := false, holding := false, holdCount := 0 } (ringInst m c.val) .filling with fillFrom := max (sampleAt m c.val (ringInst m c.val)) (firstStored m c.val) }, mem := { x.mem with used := i :: x.mem.used, writing := some i } }) with
        wire := okPair p .CH_TRIG_CTRL c.val :: m.wire } ∧ (n.chan c.val).mem.used = i :: ((m.chan
      c.val).mem.open_.filterMap (fun r => r.slot) ++ (m.chan c.val).mem.writing.toList) ∧ (n.chan c.val).mem.kept = []) ∧
  (∀ (p : Port) (v : Word), Accepts m p .CH_TRIG_CTRL c.val v → F.CH_TRIG_CTRL.ARM.of v = 1 → m.inRun (c.val / 16) = true →
      running m c.val = true → m.on F.CH_MEM_CTRL.REC_EN c.val = true → (m.chan c.val).trig.arm = .stopped ∨ (m.chan
      c.val).trig.arm = .maskStopped → (acqMode m (c.val / 16) = 0 ∧ F.CH_TRIG_CTRL.ARM_MODE.of v = 0) ∨ acqMode m (c.val /
      16) = 3 → (m.chan c.val).trig.maskStop = false → freeSlot m c.val = none →
    After (.arm t p c v) s fun n => n = { (storeReg m .CH_TRIG_CTRL c.val v).modTrig c.val (fun x => { armTo { x with seqClosed := 0, maskStop := false, holding := false, holdCount := 0 } (ringInst m c.val) .rearm with rearmAt := m.fabric }) with
        wire := okPair p .CH_TRIG_CTRL c.val :: m.wire }) ∧
  (∀ (p : Port) (v : Word), Accepts m p .CH_TRIG_CTRL c.val v → (m.chan c.val).trig.maskStop = false →
      F.CH_TRIG_CTRL.ARM_MODE.of v = 0 → m.inRun (c.val / 16) = false ∨ running m c.val = false ∨ m.on F.CH_MEM_CTRL.REC_EN
      c.val = false ∨ (m.chan c.val).trig.arm = .disarmed →
    After (.arm t p c v) s fun n => n = { (storeReg m .CH_TRIG_CTRL c.val v).modTrig c.val (fun x => { x with maskStop := false }) with
        wire := okPair p .CH_TRIG_CTRL c.val :: m.wire })

/-- R190, R193, R198, R431: the oldest qualification that a comparator has met enters the combiner; one that COMB lets through is the
channel's term, goes to the time-interval unit and is a trigger of source 0; AND and THEN wait for a partner. -/
def Obligations.ComparatorsAndCombiner : Prop := ∀ (s : State) (t : Stamp) (m : Kz) (c : Chan), s.kz.advance t = m →
  (∀ (second : Bool) (q : Met), (m.chan c.val).trig.found.find? (fun f => decide (f.second = second)) = some q → (m.chan
      c.val).trig.termUntil ≠ q.cycle + max 1 (m.fld F.RGN_PATTERN.COINC (c.val / 16)) → (m.fld F.CH_TRIG_CTRL.COMB c.val =
      0 ∧ second = false) ∨ (m.fld F.CH_TRIG_CTRL.COMB c.val = 1 ∧ second = true) ∨ m.fld F.CH_TRIG_CTRL.COMB c.val = 2 →
    After (.comparatorQualify t c second) s fun n => n = (fun z : Kz => if Takes m c.val 0 then z.modTrig c.val (fun x => { x with
        pending := x.pending ++ [(0, q.inst, q.cycle)] }) else z) (m.modTrig c.val (fun x => { x with
        found := x.found.erase q,
        termInst := q.inst,
        termUntil := q.cycle + max 1 (m.fld F.RGN_PATTERN.COINC (c.val / 16)),
        tiuOut := x.tiuOut ++ [q.inst] }))) ∧
  (∀ (second : Bool) (q : Met), (m.chan c.val).trig.found.find? (fun f => decide (f.second = second)) = some q → (m.fld
      F.CH_TRIG_CTRL.COMB c.val = 0 ∧ second = true) ∨ (m.fld F.CH_TRIG_CTRL.COMB c.val = 1 ∧ second = false) →
    After (.comparatorQualify t c second) s fun n => n = m.modTrig c.val (fun x => { x with found := x.found.erase q })) ∧
  (∀ (second : Bool) (q : Met) (y : List Nat), (m.chan c.val).trig.found.find? (fun f => decide (f.second = second)) = some
      q → (m.chan c.val).trig.termUntil = q.cycle + max 1 (m.fld F.RGN_PATTERN.COINC (c.val / 16)) → (m.chan
      c.val).trig.tiuOut = y ++ [(m.chan c.val).trig.termInst] → m.fld F.CH_TRIG_CTRL.COMB c.val = 2 →
    After (.comparatorQualify t c second) s fun n => n = (fun z : Kz => if Takes m c.val 0 then z.modTrig c.val (fun x => { x with
        pending := x.pending ++ [(0, q.inst, q.cycle)] }) else z) (m.modTrig c.val (fun x => { x with
        found := x.found.erase q,
        termInst := min x.termInst q.inst,
        tiuOut := y ++ [min x.termInst q.inst] }))) ∧
  (∀ (second : Bool) (q : Met) (y : Qual), (m.chan c.val).trig.found.find? (fun f => decide (f.second = second)) = some q →
      (m.chan c.val).trig.termUntil ≠ q.cycle + max 1 (m.fld F.RGN_PATTERN.COINC (c.val / 16)) → m.fld F.CH_TRIG_CTRL.COMB
      c.val = 3 → second = false → (m.chan c.val).trig.qualsB.reverse.find? (fun z => decide (max z.cycle q.cycle - min
      z.cycle q.cycle < max 1 (m.fld F.CH_TRIG_CTRL.COINC c.val))) = some y →
    After (.comparatorQualify t c second) s fun n => n = (fun z : Kz => if Takes m c.val 0 then z.modTrig c.val (fun x => { x with
        pending := x.pending ++ [(0, (max q.inst y.inst), q.cycle)] }) else z) (m.modTrig c.val (fun x => { x with
        found := x.found.erase q,
        qualsB := x.qualsB.erase y,
        termInst := (max q.inst y.inst),
        termUntil := q.cycle + max 1 (m.fld F.RGN_PATTERN.COINC (c.val / 16)),
        tiuOut := x.tiuOut ++ [(max q.inst y.inst)] }))) ∧
  (∀ (second : Bool) (q : Met) (y : Qual), (m.chan c.val).trig.found.find? (fun f => decide (f.second = second)) = some q →
      (m.chan c.val).trig.termUntil ≠ q.cycle + max 1 (m.fld F.RGN_PATTERN.COINC (c.val / 16)) → m.fld F.CH_TRIG_CTRL.COMB
      c.val = 3 → second = true → (m.chan c.val).trig.qualsA.reverse.find? (fun z => decide (max z.cycle q.cycle - min
      z.cycle q.cycle < max 1 (m.fld F.CH_TRIG_CTRL.COINC c.val))) = some y →
    After (.comparatorQualify t c second) s fun n => n = (fun z : Kz => if Takes m c.val 0 then z.modTrig c.val (fun x => { x with
        pending := x.pending ++ [(0, (max q.inst y.inst), q.cycle)] }) else z) (m.modTrig c.val (fun x => { x with
        found := x.found.erase q,
        qualsA := x.qualsA.erase y,
        termInst := (max q.inst y.inst),
        termUntil := q.cycle + max 1 (m.fld F.RGN_PATTERN.COINC (c.val / 16)),
        tiuOut := x.tiuOut ++ [(max q.inst y.inst)] }))) ∧
  (∀ (second : Bool) (q : Met), (m.chan c.val).trig.found.find? (fun f => decide (f.second = second)) = some q → second =
      false → (m.fld F.CH_TRIG_CTRL.COMB c.val = 3 ∧ ∀ z ∈ (m.chan c.val).trig.qualsB, decide (max z.cycle q.cycle - min
      z.cycle q.cycle < max 1 (m.fld F.CH_TRIG_CTRL.COINC c.val)) = false) ∨ (m.fld F.CH_TRIG_CTRL.COMB c.val = 4 ∧ ∀ z ∈
      (m.chan c.val).trig.qualsB, z.cycle ≠ q.cycle ∨ z.inst < q.inst) →
    After (.comparatorQualify t c second) s fun n => n = m.modTrig c.val (fun x => { x with
        found := x.found.erase q,
        qualsA := (x.qualsA ++ [(⟨q.inst, q.cycle⟩ : Qual)]).filter (fun y => decide (q.cycle ≤ y.cycle + max 1 (m.fld
          F.CH_TRIG_CTRL.COINC c.val))) })) ∧
  (∀ (second : Bool) (q : Met), (m.chan c.val).trig.found.find? (fun f => decide (f.second = second)) = some q → second =
      true → (m.fld F.CH_TRIG_CTRL.COMB c.val = 3 ∧ ∀ z ∈ (m.chan c.val).trig.qualsA, decide (max z.cycle q.cycle - min
      z.cycle q.cycle < max 1 (m.fld F.CH_TRIG_CTRL.COINC c.val)) = false) ∨ (m.fld F.CH_TRIG_CTRL.COMB c.val = 4 ∧ ∀ z ∈
      (m.chan c.val).trig.qualsA, decide (max z.cycle q.cycle - min z.cycle q.cycle < max 1 (m.fld F.CH_TRIG_CTRL.COINC
      c.val)) = false ∨ q.cycle < z.cycle ∨ q.inst < z.inst) →
    After (.comparatorQualify t c second) s fun n => n = m.modTrig c.val (fun x => { x with
        found := x.found.erase q,
        qualsB := (x.qualsB ++ [(⟨q.inst, q.cycle⟩ : Qual)]).filter (fun y => decide (q.cycle ≤ y.cycle + max 1 (m.fld
          F.CH_TRIG_CTRL.COINC c.val))) })) ∧
  (∀ (second : Bool) (q : Met) (y : Qual), (m.chan c.val).trig.found.find? (fun f => decide (f.second = second)) = some q →
      (m.chan c.val).trig.termUntil ≠ q.cycle + max 1 (m.fld F.RGN_PATTERN.COINC (c.val / 16)) → m.fld F.CH_TRIG_CTRL.COMB
      c.val = 4 → second = true → (m.chan c.val).trig.qualsA.reverse.find? (fun z => decide (max z.cycle q.cycle - min
      z.cycle q.cycle < max 1 (m.fld F.CH_TRIG_CTRL.COINC c.val)) && decide (z.cycle ≤ q.cycle) && decide (z.inst ≤ q.inst))
      = some y →
    After (.comparatorQualify t c second) s fun n => n = (fun z : Kz => if Takes m c.val 0 then z.modTrig c.val (fun x => { x with
        pending := x.pending ++ [(0, q.inst, q.cycle)] }) else z) (m.modTrig c.val (fun x => { x with
        found := x.found.erase q,
        qualsA := x.qualsA.erase y,
        termInst := q.inst,
        termUntil := q.cycle + max 1 (m.fld F.RGN_PATTERN.COINC (c.val / 16)),
        tiuOut := x.tiuOut ++ [q.inst] }))) ∧
  (∀ (second : Bool) (q : Met) (y : Qual), (m.chan c.val).trig.found.find? (fun f => decide (f.second = second)) = some q →
      (m.chan c.val).trig.termUntil ≠ q.cycle + max 1 (m.fld F.RGN_PATTERN.COINC (c.val / 16)) → m.fld F.CH_TRIG_CTRL.COMB
      c.val = 4 → second = false → (m.chan c.val).trig.qualsB.reverse.find? (fun z => decide (z.cycle = q.cycle) && decide
      (q.inst ≤ z.inst)) = some y →
    After (.comparatorQualify t c second) s fun n => n = (fun z : Kz => if Takes m c.val 0 then z.modTrig c.val (fun x => { x with
        pending := x.pending ++ [(0, y.inst, q.cycle)] }) else z) (m.modTrig c.val (fun x => { x with
        found := x.found.erase q,
        qualsB := x.qualsB.erase y,
        termInst := y.inst,
        termUntil := q.cycle + max 1 (m.fld F.RGN_PATTERN.COINC (c.val / 16)),
        tiuOut := x.tiuOut ++ [y.inst] }))) ∧
  (∀ (second : Bool), (∀ f ∈ (m.chan c.val).trig.found, f.second ≠ second) →
    After (.comparatorQualify t c second) s fun n => n = m)

/-- R199 to R205, R428, R429, R434: a pattern fires once when it turns true, with its instant; a soft trigger reaches the channels of its
mask; an XTRIG edge of the selected polarity goes to every region and to the time-interval unit unless it falls in the dead time. -/
def Obligations.PatternsAndTriggerSources : Prop := ∀ (s : State) (t : Stamp) (m : Kz), s.kz.advance t = m →
  (∀ (p : Port) (v : Word) (k : Rgn), Accepts m p .RGN_SOFT_TRIG k.val v →
    After (.softTrig t p k v) s fun n => n = { storeReg m .RGN_SOFT_TRIG k.val v with
        chans := n.chans,
        wire := okPair p .RGN_SOFT_TRIG k.val :: m.wire } ∧ (∀ c : Nat, c < 192 → n.chan c = if c / 16 = k.val ∧
      (F.RGN_SOFT_TRIG.CH_MASK.of v).testBit (c % 16) = true ∧ Takes m c 5 then triggered (m.chan c) 5 (m.fabric * 16384)
      m.fabric else m.chan c)) ∧
  (∀ (k : Rgn), patternNow m k.val = true → (m.rgn k.val).acq.pattern = false →
    After (.regionPatternFire t k) s fun n => n = { m with
        rgns := (m.modRgn k.val (fun r => { r with
            acq := { r.acq with pattern := true },
            lane := { r.lane with
                fire := some (if m.on F.RGN_PATTERN.MODE k.val = true then ((terms m k.val).map (fun y => y.2)).foldl max 0
                  else (((terms m k.val).filter (fun y => y.1 = ((terms m k.val).map (fun z => z.1)).foldl max 0)).map (fun
                  y => y.2)).foldl min (((terms m k.val).head?.map (fun y => y.2)).getD 0)) } })).rgns,
        chans := n.chans } ∧ (∀ c : Nat, c < 192 → n.chan c = if c / 16 = k.val ∧ Takes m c 1 then triggered (m.chan c) 1
      (if m.on F.RGN_PATTERN.MODE k.val = true then ((terms m k.val).map (fun y => y.2)).foldl max 0 else (((terms m
      k.val).filter (fun y => y.1 = ((terms m k.val).map (fun z => z.1)).foldl max 0)).map (fun y => y.2)).foldl min
      (((terms m k.val).head?.map (fun y => y.2)).getD 0)) m.fabric else m.chan c)) ∧
  (∀ (k : Rgn), patternNow m k.val = false ∨ (m.rgn k.val).acq.pattern = true →
    After (.regionPatternFire t k) s fun n => n = m.modAcq k.val (fun a => { a with pattern := patternNow m k.val })) ∧
  (∀ (cyc : Nat), termCycle m = cyc → modPattern m cyc F.MOD_PATTERN.EN ≠ 0 → modPattern m cyc F.MOD_PATTERN.MODE ≠ 0 →
      modPattern m cyc F.MOD_PATTERN.REGION_MASK ≠ 0 → (∀ k : Nat, k < 12 → (modPattern m cyc
      F.MOD_PATTERN.REGION_MASK).testBit k = true → m.rstate k ≠ .down ∧ (Sparse.get (0, false, 0) m.hub.regionTerm k).1 =
      cyc ∧ (Sparse.get (0, false, 0) m.hub.regionTerm k).2.1 = true) → m.hub.modState = false →
    After (.modulePatternFire t) s fun n => n = m.modHub (fun h => { h with
        modState := true,
        out := { h.out with
            modPat := some ((((upTo 12).filter (fun k => (modPattern m cyc F.MOD_PATTERN.REGION_MASK).testBit k)).map (fun k
              => (Sparse.get (0, false, 0) m.hub.regionTerm k).2.2)).foldl max 0) } })) ∧
  (∀ (cyc i r : Nat), termCycle m = cyc → modPattern m cyc F.MOD_PATTERN.EN ≠ 0 → modPattern m cyc F.MOD_PATTERN.MODE = 0 →
      r ∈ (upTo 12).filter (fun k => (modPattern m cyc F.MOD_PATTERN.REGION_MASK).testBit k) → m.rstate r ≠ .down →
      (Sparse.get (0, false, 0) m.hub.regionTerm r) = (cyc, true, i) → (∀ k ∈ (upTo 12).filter (fun k => (modPattern m cyc
      F.MOD_PATTERN.REGION_MASK).testBit k), m.rstate k ≠ .down → (Sparse.get (0, false, 0) m.hub.regionTerm k).1 = cyc →
      (Sparse.get (0, false, 0) m.hub.regionTerm k).2.1 = true → i ≤ (Sparse.get (0, false, 0) m.hub.regionTerm k).2.2) →
      m.hub.modState = false →
    After (.modulePatternFire t) s fun n => n = m.modHub (fun h => { h with
        modState := true,
        out := { h.out with modPat := some (i) } })) ∧
  (∀ (cyc : Nat), termCycle m = cyc → modPattern m cyc F.MOD_PATTERN.EN = 0 ∨ ∀ k ∈ (upTo 12).filter (fun k => (modPattern m
      cyc F.MOD_PATTERN.REGION_MASK).testBit k), (Sparse.get (0, false, 0) m.hub.regionTerm k).1 ≠ cyc ∨ (Sparse.get (0,
      false, 0) m.hub.regionTerm k).2.1 = false →
    After (.modulePatternFire t) s fun n => n = m.modHub (fun h => { h with modState := false })) ∧
  (∀ (x : Fin 2) (falling : Bool) (inst : Nat), ((m.on (if x.val = 0 then F.MOD_XTRIG_CTRL.EN0 else F.MOD_XTRIG_CTRL.EN1) 0)
      = true) → ((m.fld (if x.val = 0 then F.MOD_XTRIG_CTRL.EDGE0 else F.MOD_XTRIG_CTRL.EDGE1) 0) = 2 ∨ (m.fld (if x.val = 0
      then F.MOD_XTRIG_CTRL.EDGE0 else F.MOD_XTRIG_CTRL.EDGE1) 0) = b2n falling) → inst ≤ m.inst → (∀ l ∈ (if x.val = 0 then
      m.hub.xtrigLast0 else m.hub.xtrigLast1), 16 * 1024 * sampleHz m ≤ (inst - l) * 10000000000) → m.inst ≤ inst / 32 * 32
      + jdelay m →
    After (.xtrigEdge t x falling inst) s fun n => n = { m.modHub (fun h => { h with out := { h.out with xtrig := h.out.xtrig ++ [(x.val, inst / 32 * 32)] }, xtrigLast0 := if x.val = 0 then some inst else h.xtrigLast0, xtrigLast1 := if x.val = 0 then h.xtrigLast1 else some inst }) with
        tiu := { m.tiu with queue := tiuPut ⟨4 + x.val, 0, inst / 32 * 32⟩ m.tiu.queue } }) ∧
  (∀ (x : Fin 2) (falling : Bool) (inst l : Nat), ((m.on (if x.val = 0 then F.MOD_XTRIG_CTRL.EN0 else F.MOD_XTRIG_CTRL.EN1)
      0) = true) → ((m.fld (if x.val = 0 then F.MOD_XTRIG_CTRL.EDGE0 else F.MOD_XTRIG_CTRL.EDGE1) 0) = 2 ∨ (m.fld (if x.val
      = 0 then F.MOD_XTRIG_CTRL.EDGE0 else F.MOD_XTRIG_CTRL.EDGE1) 0) = b2n falling) → inst ≤ m.inst → ((if x.val = 0 then
      m.hub.xtrigLast0 else m.hub.xtrigLast1) = some l) → (inst - l) * 10000000000 < 16 * 1024 * sampleHz m →
    After (.xtrigEdge t x falling inst) s fun n => n = { m with
        stats := (m.count .TIM_XTRIG_DEAD 0 1).stats,
        regs := (m.mark (if x.val = 0 then F.TIM_TIU_EVT_STAT.DEAD_SEEN0 else F.TIM_TIU_EVT_STAT.DEAD_SEEN1) 0).regs }) ∧
  (∀ (x : Fin 2) (falling : Bool) (inst : Nat), (m.on (if x.val = 0 then F.MOD_XTRIG_CTRL.EN0 else F.MOD_XTRIG_CTRL.EN1) 0 =
      false ∨ ((m.fld (if x.val = 0 then F.MOD_XTRIG_CTRL.EDGE0 else F.MOD_XTRIG_CTRL.EDGE1) 0) ≠ 2 ∧ (m.fld (if x.val = 0
      then F.MOD_XTRIG_CTRL.EDGE0 else F.MOD_XTRIG_CTRL.EDGE1) 0) ≠ b2n falling)) →
    After (.xtrigEdge t x falling inst) s fun n => n = m)

/-- R184, R187: a level is crossed by a sample that reaches it after one that armed the crossing, on its own side of the level and at least
H away from it, with none reaching it in between; an edge, a window, a width, a runt and a slope qualify by the crossings that their rows
of the table name, with positive polarity. -/
def Obligations.ComparatorTypes : Prop :=
  (∀ (l h v : Int) (vs : List Int), 0 ≤ h →
    ((crossStep true l h v (vs.foldl (fun a y => (crossStep true l h y a).2) false)).1 = true ↔
      l ≤ v ∧ ∃ a w b, vs = a ++ w :: b ∧ w ≤ l - h ∧ w < l ∧ ∀ y ∈ b, y < l) ∧
    ((crossStep false l h v (vs.foldl (fun a y => (crossStep false l h y a).2) false)).1 = true ↔
      v ≤ l ∧ ∃ a w b, vs = a ++ w :: b ∧ l + h ≤ w ∧ l < w ∧ ∀ y ∈ b, l < y)) ∧
  ∀ (m : Kz) (p : Nat) (q : Comp) (r : Bool × Bool), m.fld F.RGN_TRIG_PROF_CFG.POL p = 0 →
    (∀ (x : Crossing) (i : Nat),
      (m.fld F.RGN_TRIG_PROF_CFG.TYPE p = 0 → (compCross m p x i r q).1 = false) ∧
      (m.fld F.RGN_TRIG_PROF_CFG.TYPE p = 1 →
        ((compCross m p x i r q).1 = true ↔ x.zero = false ∧ x.low = false ∧ x.up = true)) ∧
      (m.fld F.RGN_TRIG_PROF_CFG.TYPE p = 2 → ((compCross m p x i r q).1 = true ↔
        x.zero = false ∧ ((x.low = true ∧ x.up = true) ∨ (x.low = false ∧ x.up = false)))) ∧
      (m.fld F.RGN_TRIG_PROF_CFG.TYPE p = 3 → ((compCross m p x i r q).1 = true ↔
        x.zero = false ∧ ((x.low = false ∧ x.up = true) ∨ (x.low = true ∧ x.up = false)))) ∧
      (m.fld F.RGN_TRIG_PROF_CFG.TYPE p = 7 →
        ((compCross m p x i r q).1 = true ↔ x.zero = true ∧ x.up = true ∧ r.1 = true))) ∧
    ∀ (i j : Nat) (l k : Int) (ys : List (Crossing × Nat)), (∀ y ∈ ys, y.1.zero = false) →
      (m.fld F.RGN_TRIG_PROF_CFG.TYPE p = 4 → (∀ y ∈ ys, y.1.low = true) →
        (compCross m p ⟨false, false, false, k⟩ j r (crossAll m p ys (compCross m p ⟨false, false, true, l⟩ i r q).2)).1 =
          condMeets m p (j - i)) ∧
      (m.fld F.RGN_TRIG_PROF_CFG.TYPE p = 5 → (∀ y ∈ ys, y.1.low = false) →
        (compCross m p ⟨true, false, false, k⟩ j r (crossAll m p ys (compCross m p ⟨true, false, true, l⟩ i r q).2)).1 =
          !ys.any (fun y => y.1.up)) ∧
      (m.fld F.RGN_TRIG_PROF_CFG.TYPE p = 6 → (∀ y ∈ ys, y.1.low = false) →
        (compCross m p ⟨false, false, true, k⟩ j r (crossAll m p ys (compCross m p ⟨true, false, true, l⟩ i r q).2)).1 =
          condMeets m p (j - i))

/-- R241, R248, R252, R255, R265, R266: a record closes once its last sample is stored or copied: its samples as stored, its window and its
flags join the channel's closed records, and after a triggered record the arming machine goes on; a lost descriptor makes a stub. -/
def Obligations.RecordsClose : Prop := ∀ (s : State) (t : Stamp) (m : Kz) (c : Chan), s.kz.advance t = m →
  (∀ (d : RecData) (r : OpenRec), (m.chan c.val).mem.open_[d.which]? = some r → r.extracting = true → r.last + delay m c.val
      ≤ m.inst → d.lostDescriptor = false → r.kind ≠ .triggered →
    After (.recordClose t c d) s fun n => n = { m with
        chans := n.chans,
        rgns := n.rgns,
        stats := (m.count .RGN_ECC_CORR (c.val / 16) d.corrected).stats } ∧ (∀ x : Nat, x < 192 → x ≠ c.val → n.chan x =
      m.chan x) ∧ (∀ k : Nat, k < 12 → n.rgn k = { m.rgn k with acq := { (m.rgn k).acq with order := (n.rgn k).acq.order } })
      ∧ n.chan c.val = { m.chan c.val with
        mem := { (m.chan c.val).mem with
            open_ := (m.chan c.val).mem.open_.erase r,
            closed := (n.chan c.val).mem.closed,
            content := (n.chan c.val).mem.content },
        trig := (m.chan c.val).trig } ∧ (n.chan c.val).mem.closed.length = (m.chan c.val).mem.closed.length + 1 ∧ (∀ x ∈
      (n.chan c.val).mem.closed, x ∈ (m.chan c.val).mem.closed ∨ (x.kind = r.kind ∧ x.ch = c.val ∧ x.ser = r.ser ∧ x.time =
      r.time ∧ x.win = some (r.first, r.last) ∧ x.slot = r.slot ∧ x.refPos = r.refPos ∧ x.ref = r.ref ∧ x.flags.testBit 0 =
      r.flags.testBit 0 ∧ (∀ y : Nat, y < (if r.kind = .stream ∧ m.fld F.CH_MEM_CTRL.STREAM_SEL c.val = 1 then 0 else r.len)
      → y ∉ x.filled → x.samples.getD y 0 = (storedAt m c.val (r.idx + y)).1) ∧ x.samples.length = (if r.kind = .stream ∧
      m.fld F.CH_MEM_CTRL.STREAM_SEL c.val = 1 then 0 else r.len) ∧ (∀ y ∈ x.filled, x.samples.getD y 0 = -32768) ∧
      (d.lostWords = [] → x.filled = []) ∧ (x.flags.testBit 9 = (r.flags.testBit 9 || (upTo r.len).any (fun y => (storedAt m
      c.val (r.idx + y)).2))) ∧ (x.flags.testBit 5 = (r.flags.testBit 5 || !d.lostWords.isEmpty)) ∧ (x.flags.testBit 4 =
      (r.flags.testBit 4 || d.corrected != 0)) ∧ (x.toTest = (masking m c.val && decide (r.len ≤ 4096) && !((m.rgn (c.val /
      16)).acc.shareOut.testBit (c.val % 16))))))) ∧
  (∀ (d : RecData) (r : OpenRec), (m.chan c.val).mem.open_[d.which]? = some r → r.extracting = true → r.last + delay m c.val
      ≤ m.inst → d.lostDescriptor = false → r.kind = .triggered → (m.chan c.val).trig.arm = .record → (m.chan
      c.val).trig.holding = false ∨ holdOver m c.val r.last = true →
    After (.recordClose t c d) s fun n => n = { m with
        chans := n.chans,
        rgns := n.rgns,
        stats := (m.count .RGN_ECC_CORR (c.val / 16) d.corrected).stats } ∧ (∀ x : Nat, x < 192 → x ≠ c.val → n.chan x =
      m.chan x) ∧ (∀ k : Nat, k < 12 → n.rgn k = { m.rgn k with acq := { (m.rgn k).acq with order := (n.rgn k).acq.order } })
      ∧ n.chan c.val = { m.chan c.val with
        mem := { (m.chan c.val).mem with
            open_ := (m.chan c.val).mem.open_.erase r,
            closed := (n.chan c.val).mem.closed,
            content := (n.chan c.val).mem.content },
        trig := { armTo { (m.chan c.val).trig with seqClosed := (m.chan c.val).trig.seqClosed + 1, holding := false } r.last .rearm with
            rearmAt := (r.last + delay m c.val) / 16384 + 5 } } ∧ (n.chan c.val).mem.closed.length = (m.chan
      c.val).mem.closed.length + 1 ∧ (∀ x ∈ (n.chan c.val).mem.closed, x ∈ (m.chan c.val).mem.closed ∨ (x.kind = r.kind ∧
      x.ch = c.val ∧ x.ser = r.ser ∧ x.time = r.time ∧ x.win = some (r.first, r.last) ∧ x.slot = r.slot ∧ x.refPos =
      r.refPos ∧ x.ref = r.ref ∧ x.flags.testBit 0 = r.flags.testBit 0 ∧ (∀ y : Nat, y < (if r.kind = .stream ∧ m.fld
      F.CH_MEM_CTRL.STREAM_SEL c.val = 1 then 0 else r.len) → y ∉ x.filled → x.samples.getD y 0 = (storedAt m c.val (r.idx +
      y)).1) ∧ x.samples.length = (if r.kind = .stream ∧ m.fld F.CH_MEM_CTRL.STREAM_SEL c.val = 1 then 0 else r.len) ∧ (∀ y
      ∈ x.filled, x.samples.getD y 0 = -32768) ∧ (d.lostWords = [] → x.filled = []) ∧ (x.flags.testBit 9 = (r.flags.testBit
      9 || (upTo r.len).any (fun y => (storedAt m c.val (r.idx + y)).2))) ∧ (x.flags.testBit 5 = (r.flags.testBit 5 ||
      !d.lostWords.isEmpty)) ∧ (x.flags.testBit 4 = (r.flags.testBit 4 || d.corrected != 0)) ∧ (x.toTest = (masking m c.val
      && decide (r.len ≤ 4096) && !((m.rgn (c.val / 16)).acc.shareOut.testBit (c.val % 16))))))) ∧
  (∀ (d : RecData) (r : OpenRec), (m.chan c.val).mem.open_[d.which]? = some r → r.extracting = true → r.last + delay m c.val
      ≤ m.inst → d.lostDescriptor = false → r.kind = .triggered → (m.chan c.val).trig.arm = .record → (m.chan
      c.val).trig.holding = true → holdOver m c.val r.last = false →
    After (.recordClose t c d) s fun n => n = { m with
        chans := n.chans,
        rgns := n.rgns,
        stats := (m.count .RGN_ECC_CORR (c.val / 16) d.corrected).stats } ∧ (∀ x : Nat, x < 192 → x ≠ c.val → n.chan x =
      m.chan x) ∧ (∀ k : Nat, k < 12 → n.rgn k = { m.rgn k with acq := { (m.rgn k).acq with order := (n.rgn k).acq.order } })
      ∧ n.chan c.val = { m.chan c.val with
        mem := { (m.chan c.val).mem with
            open_ := (m.chan c.val).mem.open_.erase r,
            closed := (n.chan c.val).mem.closed,
            content := (n.chan c.val).mem.content },
        trig := armTo { (m.chan c.val).trig with seqClosed := (m.chan c.val).trig.seqClosed + 1 } (r.last + 1) .holdoff } ∧
      (n.chan c.val).mem.closed.length = (m.chan c.val).mem.closed.length + 1 ∧ (∀ x ∈ (n.chan c.val).mem.closed, x ∈
      (m.chan c.val).mem.closed ∨ (x.kind = r.kind ∧ x.ch = c.val ∧ x.ser = r.ser ∧ x.time = r.time ∧ x.win = some (r.first,
      r.last) ∧ x.slot = r.slot ∧ x.refPos = r.refPos ∧ x.ref = r.ref ∧ x.flags.testBit 0 = r.flags.testBit 0 ∧ (∀ y : Nat,
      y < (if r.kind = .stream ∧ m.fld F.CH_MEM_CTRL.STREAM_SEL c.val = 1 then 0 else r.len) → y ∉ x.filled → x.samples.getD
      y 0 = (storedAt m c.val (r.idx + y)).1) ∧ x.samples.length = (if r.kind = .stream ∧ m.fld F.CH_MEM_CTRL.STREAM_SEL
      c.val = 1 then 0 else r.len) ∧ (∀ y ∈ x.filled, x.samples.getD y 0 = -32768) ∧ (d.lostWords = [] → x.filled = []) ∧
      (x.flags.testBit 9 = (r.flags.testBit 9 || (upTo r.len).any (fun y => (storedAt m c.val (r.idx + y)).2))) ∧
      (x.flags.testBit 5 = (r.flags.testBit 5 || !d.lostWords.isEmpty)) ∧ (x.flags.testBit 4 = (r.flags.testBit 4 ||
      d.corrected != 0)) ∧ (x.toTest = (masking m c.val && decide (r.len ≤ 4096) && !((m.rgn (c.val /
      16)).acc.shareOut.testBit (c.val % 16))))))) ∧
  (∀ (d : RecData) (r : OpenRec), (m.chan c.val).mem.open_[d.which]? = some r → r.extracting = true → r.last + delay m c.val
      ≤ m.inst → d.lostDescriptor = false → r.kind = .triggered → (m.chan c.val).trig.arm ≠ .record →
    After (.recordClose t c d) s fun n => n = { m with
        chans := n.chans,
        rgns := n.rgns,
        stats := (m.count .RGN_ECC_CORR (c.val / 16) d.corrected).stats } ∧ (∀ x : Nat, x < 192 → x ≠ c.val → n.chan x =
      m.chan x) ∧ (∀ k : Nat, k < 12 → n.rgn k = { m.rgn k with acq := { (m.rgn k).acq with order := (n.rgn k).acq.order } })
      ∧ n.chan c.val = { m.chan c.val with
        mem := { (m.chan c.val).mem with
            open_ := (m.chan c.val).mem.open_.erase r,
            closed := (n.chan c.val).mem.closed,
            content := (n.chan c.val).mem.content },
        trig := { (m.chan c.val).trig with seqClosed := (m.chan c.val).trig.seqClosed + 1 } } ∧ (n.chan
      c.val).mem.closed.length = (m.chan c.val).mem.closed.length + 1 ∧ (∀ x ∈ (n.chan c.val).mem.closed, x ∈ (m.chan
      c.val).mem.closed ∨ (x.kind = r.kind ∧ x.ch = c.val ∧ x.ser = r.ser ∧ x.time = r.time ∧ x.win = some (r.first, r.last)
      ∧ x.slot = r.slot ∧ x.refPos = r.refPos ∧ x.ref = r.ref ∧ x.flags.testBit 0 = r.flags.testBit 0 ∧ (∀ y : Nat, y < (if
      r.kind = .stream ∧ m.fld F.CH_MEM_CTRL.STREAM_SEL c.val = 1 then 0 else r.len) → y ∉ x.filled → x.samples.getD y 0 =
      (storedAt m c.val (r.idx + y)).1) ∧ x.samples.length = (if r.kind = .stream ∧ m.fld F.CH_MEM_CTRL.STREAM_SEL c.val = 1
      then 0 else r.len) ∧ (∀ y ∈ x.filled, x.samples.getD y 0 = -32768) ∧ (d.lostWords = [] → x.filled = []) ∧
      (x.flags.testBit 9 = (r.flags.testBit 9 || (upTo r.len).any (fun y => (storedAt m c.val (r.idx + y)).2))) ∧
      (x.flags.testBit 5 = (r.flags.testBit 5 || !d.lostWords.isEmpty)) ∧ (x.flags.testBit 4 = (r.flags.testBit 4 ||
      d.corrected != 0)) ∧ (x.toTest = (masking m c.val && decide (r.len ≤ 4096) && !((m.rgn (c.val /
      16)).acc.shareOut.testBit (c.val % 16))))))) ∧
  (∀ (d : RecData) (r : OpenRec) (i : Nat), (m.chan c.val).mem.open_[d.which]? = some r → r.extracting = true → r.last +
      delay m c.val ≤ m.inst → d.lostDescriptor = true → acqMode m (c.val / 16) ≠ 3 → r.kind ≠ .triggered → r.slot = some i
      →
    After (.recordClose t c d) s fun n => OneStub (m.count .RGN_ECC_CORR (c.val / 16) d.corrected) n c.val { m.chan c.val with
        mem := { (m.chan c.val).mem with
            open_ := (m.chan c.val).mem.open_.erase r,
            used := (m.chan c.val).mem.used.erase i } } r.kind 5) ∧
  (∀ (d : RecData) (r : OpenRec), (m.chan c.val).mem.open_[d.which]? = some r → r.extracting = false ∨ m.inst < r.last +
      delay m c.val →
    After (.recordClose t c d) s fun n => n = m)

/-- R245, R248 to R250, R253, R258, R262, R263, R273, R299, R342, R756: an accept record's copying begins once its window is whole in the ring, the next
stream record takes a free slot or is a stub, the accept queue's oldest entry leaves once every owing channel has closed or stubbed; the channel's next
record is given its sequence number and joins its lane group's queue, or goes to the enabled sinks. -/
def Obligations.RecordQueues : Prop := ∀ (s : State) (t : Stamp) (m : Kz) (c : Chan), s.kz.advance t = m →
  (∀ (r : OpenRec), (m.chan c.val).mem.open_.find? (fun x => !x.extracting && decide (x.last + delay m c.val ≤ m.inst)) =
      some r → sampleAt m c.val (ringInst m c.val + 1) - 1 < r.idx + ringSamples m c.val →
    After (.extractionStart t c) s fun n => n = m.modMem c.val (fun y => { y with
        open_ := y.open_.map (fun x => if x = r then { x with extracting := true } else x) })) ∧
  (∀ (r : OpenRec) (i : Nat), (m.chan c.val).mem.open_.find? (fun x => !x.extracting && decide (x.last + delay m c.val ≤
      m.inst)) = some r → r.idx + ringSamples m c.val ≤ sampleAt m c.val (ringInst m c.val + 1) - 1 → r.slot = some i →
    After (.extractionStart t c) s fun n => OneStub m n c.val { m.chan c.val with
        mem := { (m.chan c.val).mem with
            open_ := (m.chan c.val).mem.open_.erase r,
            used := (m.chan c.val).mem.used.erase i } } r.kind 2) ∧
  (∀ (i : Nat), acqMode m (c.val / 16) = 2 → (m.chan c.val).chain.start.isSome = true → m.on F.CH_MEM_CTRL.REC_EN c.val =
      true → sampleInst m c.val (m.chan c.val).mem.streamNext + delay m c.val ≤ m.inst → chanFailed m c.val = false →
      freeSlot m c.val = some i →
    After (.streamRecordStart t c) s fun n => n = m.modMem c.val (fun y => { y with
        streamNext := y.streamNext + recLen m c.val,
        used := i :: y.used,
        open_ := y.open_ ++ [{
            kind := .stream,
            ser := 0,
            time := {
                ticks := some (m.stampOf (sampleInst m c.val y.streamNext)).1,
                xing := some (((edgeBefore m (sampleInst m c.val y.streamNext)).map (fun e => (e.orbit, e.bcn))).getD (0,
                  0)),
                event := 0,
                epoch := m.tb.epochSeq },
            idx := y.streamNext,
            len := recLen m c.val,
            first := sampleInst m c.val y.streamNext,
            last := sampleInst m c.val (y.streamNext + recLen m c.val - 1),
            refPos := 0,
            refIdx := 0,
            ref := sampleInst m c.val y.streamNext,
            slot := some i,
            extracting := true,
            flags := 0 }] })) ∧
  (acqMode m (c.val / 16) = 2 → (m.chan c.val).chain.start.isSome = true → m.on F.CH_MEM_CTRL.REC_EN c.val = true →
      sampleInst m c.val (m.chan c.val).mem.streamNext + delay m c.val ≤ m.inst → chanFailed m c.val = false → freeSlot m
      c.val = none →
    After (.streamRecordStart t c) s fun n => OneStub m n c.val { m.chan c.val with
        mem := { (m.chan c.val).mem with streamNext := (m.chan c.val).mem.streamNext + recLen m c.val } } .stream 2) ∧
  (acqMode m (c.val / 16) = 2 → (m.chan c.val).chain.start.isSome = true → m.on F.CH_MEM_CTRL.REC_EN c.val = true →
      sampleInst m c.val (m.chan c.val).mem.streamNext + delay m c.val ≤ m.inst → chanFailed m c.val = true →
    After (.streamRecordStart t c) s fun n => OneStub m n c.val { m.chan c.val with
        mem := { (m.chan c.val).mem with streamNext := (m.chan c.val).mem.streamNext + recLen m c.val } } .stream 10) ∧
  (∀ (k : Rgn) (e : AccEntry) (r : List AccEntry), (m.rgn k.val).acq.queue = e :: r → ((m.rgn k.val).acq.order.find? (fun x
      => x.ser = e.ser)).all (fun o => decide (o.owing &&& o.done = o.owing)) = true → (m.rgn k.val).lane.departing = false
      → (m.rgn k.val).err.restarting = false →
    After (.acceptQueueDepart t k) s fun n => n = m.modRgn k.val (fun x => { x with
        acq := { x.acq with queue := r },
        lane := { x.lane with departing := true, departs := (x.lane.departs + 1) % 64 } })) ∧
  (∀ (k : Rgn) (e : AccEntry) (r : List AccEntry) (o : EvOrder), (m.rgn k.val).acq.queue = e :: r → (m.rgn
      k.val).acq.order.find? (fun x => x.ser = e.ser) = some o → o.owing &&& o.done ≠ o.owing →
    After (.acceptQueueDepart t k) s fun n => n = m) ∧
  (∀ (p : Port) (k : Rgn) (v : Word), Accepts m p .RGN_ACCQ_STAT k.val v → F.RGN_ACCQ_STAT.CLR.of v = 1 →
    After (.accqHighWaterClr t p k v) s fun n => n = ((storeReg m .RGN_ACCQ_STAT k.val v).modAcq k.val (fun x => { x with
        highWater := x.queue.length })).emit (okPair p .RGN_ACCQ_STAT k.val)) ∧
  (∀ (r : Rec) (rest : List Rec), (m.chan c.val).mem.closed = r :: rest → r.toTest = false → r.toMeasure = false → r.toTone
      = false → (m.chan c.val).mem.open_.any (opensBefore r) = false → eventReady m c.val r = true → r.flags.testBit 0 =
      true →
    After (.recordRelease t c) s fun n => n = { m with
        chans := n.chans,
        rgns := n.rgns,
        stats := n.stats,
        log := (logLost m c.val (m.chan c.val).mem.nextSeq r).log } ∧ (∀ x : Nat, x < 192 → x ≠ c.val → n.chan x = m.chan x)
      ∧ n.chan c.val = { m.chan c.val with
        mem := { nextSeq (m.chan c.val).mem with closed := rest, content := (n.chan c.val).mem.content } } ∧ (∀ k : Nat, k <
      12 → n.rgn k = if k = c.val / 16 then { m.rgn k with
        acq := { (m.rgn k).acq with order := (n.rgn k).acq.order },
        lg := { (m.rgn k).lg with queue := (m.rgn k).lg.queue ++ [{ r with seq := (m.chan c.val).mem.nextSeq }] } } else
      m.rgn k) ∧ n.stats = m.stats) ∧
  (∀ (r : Rec) (rest : List Rec) (w : Nat × Nat), (m.chan c.val).mem.closed = r :: rest → r.toTest = false → r.toMeasure =
      false → r.toTone = false → (m.chan c.val).mem.open_.any (opensBefore r) = false → eventReady m c.val r = true →
      r.flags.testBit 0 = false → r.win = some w → annotReady m c.val w = true → acqMode m (c.val / 16) = 1 ∨ acqMode m
      (c.val / 16) = 2 ∨ (acqMode m (c.val / 16) = 0 ∧ (sinks m c.val).2.1 = false ∧ (sinks m c.val).2.2 = false) →
    After (.recordRelease t c) s fun n => n = { m with
        chans := n.chans,
        rgns := n.rgns,
        stats := n.stats,
        log := (logLost m c.val (m.chan c.val).mem.nextSeq r).log } ∧ (∀ x : Nat, x < 192 → x ≠ c.val → n.chan x = m.chan x)
      ∧ n.chan c.val = { m.chan c.val with
        mem := { nextSeq (m.chan c.val).mem with closed := rest, content := (n.chan c.val).mem.content } } ∧ (∀ k : Nat, k <
      12 → n.rgn k = if k = c.val / 16 then { m.rgn k with
        acq := { (m.rgn k).acq with order := (n.rgn k).acq.order },
        lg := { (m.rgn k).lg with
            queue := (m.rgn k).lg.queue ++ [{ r with
                seq := (m.chan c.val).mem.nextSeq,
                words := r.words ++ (((m.chan c.val).eng.annots.filter (fun x => decide (w.1 ≤ x.2) && decide (x.2 ≤
                  w.2))).map (fun x => x.1)).take 8 }] } } else m.rgn k)) ∧
  (∀ (r : Rec) (rest : List Rec), (m.chan c.val).mem.closed = r :: rest → r.toTest = false → r.toMeasure = false → r.toTone
      = false → (m.chan c.val).mem.open_.any (opensBefore r) = false → eventReady m c.val r = true → r.flags.testBit 0 =
      false → r.flags.testBit 5 = false → r.kind = .triggered → acqMode m (c.val / 16) = 3 → (sinks m c.val).1 = true ∨
      (sinks m c.val).2.1 = true ∨ (sinks m c.val).2.2 = true →
    After (.recordRelease t c) s fun n => n = { handOver (m.modMem c.val (fun y => { y with closed := rest })) c.val r (sinks m c.val).1 (sinks m c.val).2.1 (sinks m c.val).2.2 false with
        log := (logLost m c.val 0xFFFFFFFF r).log } ∧ (n.rgn (c.val / 16)).acc.handed = (m.rgn (c.val / 16)).acc.handed + 1
      ∧ (n.chan c.val).mem.folds.map (fun f => f.rcd) = (m.chan c.val).mem.folds.map (fun f => f.rcd) ++ [r]) ∧
  (∀ (r : Rec) (rest : List Rec) (i : Nat), (m.chan c.val).mem.closed = r :: rest → r.toTest = false → r.toMeasure = false →
      r.toTone = false → (m.chan c.val).mem.open_.any (opensBefore r) = false → eventReady m c.val r = true →
      r.flags.testBit 0 = false → r.flags.testBit 5 = true → r.kind = .triggered → acqMode m (c.val / 16) = 3 → r.slot =
      some i → (m.chan c.val).trig.maskStop = false →
    After (.recordRelease t c) s fun n => n = { m.modMem c.val (fun y => { y with closed := rest, used := y.used.erase i }) with
        stats := (if (sinks m c.val).1 = true ∨ (sinks m c.val).2.1 = true ∨ (sinks m c.val).2.2 = true then m.count
          .RGN_ACC_DROPPED (c.val / 16) 1 else m).stats,
        log := (logLost m c.val 0xFFFFFFFF r).log }) ∧
  (∀ (r : Rec) (rest : List Rec), (m.chan c.val).mem.closed = r :: rest → r.toTest = true ∨ r.toMeasure = true ∨ (m.chan
      c.val).mem.open_.any (opensBefore r) = true ∨ eventReady m c.val r = false →
    After (.recordRelease t c) s fun n => n = m)

/-- R281 to R293: a tested record gets its mask word; a violated mask with TAG flags it and counts a failure, with STOP it also stops the
channel; a measured record gets its measurement words before its other words. -/
def Obligations.MaskAndMeasurement : Prop := ∀ (s : State) (t : Stamp) (m : Kz) (c : Chan), s.kz.advance t = m →
  (∀ (r : Rec), (m.chan c.val).mem.closed.find? (fun x => x.toTest) = some r → violators m c.val 0 r = [] → violators m
      c.val 1 r = [] →
    After (.maskVerdict t c) s fun n => n = (m.modMem c.val (fun y => { y with
        closed := y.closed.map (fun x => if x = r then { r with
            toTest := false,
            words := maskWord (violators m c.val 0 r) (violators m c.val 1 r) :: r.words } else x) }))) ∧
  (∀ (r : Rec), (m.chan c.val).mem.closed.find? (fun x => x.toTest) = some r → violators m c.val 0 r ≠ [] → violators m
      c.val 1 r = [] → m.fld F.CH_MASK_CTRL.ACT0 c.val = 0 →
    After (.maskVerdict t c) s fun n => n = { (m.modMem c.val (fun y => { y with closed := y.closed.map (fun x => if x = r then { r with toTest := false, words := maskWord (violators m c.val 0 r) (violators m c.val 1 r) :: r.words } else x) })) with
        stats := (m.count .RGN_MASK_FAILS (c.val / 16) 1).stats,
        regs := (m.markBit F.RGN_MASK_STAT.FAIL_SEEN (c.val / 16) (c.val % 16)).regs }) ∧
  (∀ (r : Rec), (m.chan c.val).mem.closed.find? (fun x => x.toTest) = some r → violators m c.val 0 r ≠ [] → violators m
      c.val 1 r = [] → m.fld F.CH_MASK_CTRL.ACT0 c.val = 1 ∨ (m.fld F.CH_MASK_CTRL.ACT0 c.val = 2 ∧ (acqMode m (c.val / 16)
      = 1 ∨ acqMode m (c.val / 16) = 2)) →
    After (.maskVerdict t c) s fun n => n = { (m.modMem c.val (fun y => { y with closed := y.closed.map (fun x => if x = r then { r with toTest := false, words := maskWord (violators m c.val 0 r) (violators m c.val 1 r) :: r.words, flags := r.flags ||| fMASK } else x) })) with
        stats := (m.count .RGN_MASK_FAILS (c.val / 16) 1).stats,
        regs := (m.markBit F.RGN_MASK_STAT.FAIL_SEEN (c.val / 16) (c.val % 16)).regs }) ∧
  (∀ (r q : Rec), (m.chan c.val).mem.closed.find? (fun x => x.toTest) = some r → violators m c.val 0 r ≠ [] → violators m
      c.val 1 r = [] → m.fld F.CH_MASK_CTRL.ACT0 c.val = 2 → acqMode m (c.val / 16) = 0 ∨ acqMode m (c.val / 16) = 3 →
      (m.chan c.val).trig.maskStop = false → (m.chan c.val).mem.open_ = [] → q = { r with
        toTest := false,
        words := maskWord (violators m c.val 0 r) (violators m c.val 1 r) :: r.words,
        flags := r.flags ||| fMASK } →
    After (.maskVerdict t c) s fun n => n = Kz.notify { m with
        chans := n.chans,
        stats := (m.count .RGN_MASK_FAILS (c.val / 16) 1).stats,
        regs := (m.markBit F.RGN_MASK_STAT.FAIL_SEEN (c.val / 16) (c.val % 16)).regs,
        log := (m.logE 0x0140 0 1 c.val 0 (if acqMode m (c.val / 16) = 3 then 0xFFFFFFFF else ((m.chan c.val).mem.nextSeq +
          ((m.chan c.val).mem.closed.map (fun x => if x = r then q else x)).idxOf q) % 2 ^ 32)).log } 2 1 c.val [] ∧ (∀ x :
      Nat, x < 192 → x ≠ c.val → n.chan x = m.chan x) ∧ n.chan c.val = { m.chan c.val with
        trig := { (if (m.chan c.val).trig.arm = .disarmed then (m.chan c.val).trig else armTo (m.chan c.val).trig (m.fabric * 16384 - delay m c.val) .maskStopped) with
            maskStop := true,
            holding := false },
        mem := { (m.chan c.val).mem with
            kept := (n.chan c.val).mem.kept,
            writing := none,
            closed := (m.chan c.val).mem.closed.map (fun x => if x = r then q else x) } } ∧ (n.chan c.val).mem.kept =
      (m.chan c.val).mem.writing.toList ++ (m.chan c.val).mem.kept) ∧
  (∀ (r : Rec), (m.chan c.val).mem.closed.find? (fun x => x.toMeasure) = some r →
    After (.measurementDone t c) s fun n => n = m.modMem c.val (fun y => { y with
        closed := y.closed.map (fun x => if x = r then { r with toMeasure := false, words := r.meas ++ r.words, meas := [] }
          else x) })) ∧
  ((m.chan c.val).mem.closed.find? (fun x => x.toMeasure) = none →
    After (.measurementDone t c) s fun n => n = m)

/-- R245, R299 to R305, R309 to R313, R316: a record folded into a sink that is not done changes the sums or bins as its samples say and counts one
record; the last sink it waits for frees its segment; reaching the target sets DONE; a decay halves every cell. RGN_ACC_CLR clears the averagers and the
histograms of its masks and nothing else; a map's CLR starts its clearing, and when it is done every cell is 0. -/
def Obligations.Accumulation : Prop := ∀ (s : State) (t : Stamp) (m : Kz), s.kz.advance t = m →
  (∀ (c : Chan) (f : Fold), avgNext m (c.val / 16) = some f → f.rcd.ch = c.val → (m.rgn (c.val / 16)).acc.cuts = [] →
      (m.chan c.val).avg.cut.all (fun e => decide (f.rcd.ref < e)) = true → (m.chan c.val).avg.done = false → f.hist = true
      ∨ f.map = true → (m.chan c.val).avg.count + 1 < 2 ^ m.fld F.RGN_ACC_CTRL.TARGET_LOG2 (c.val / 16) →
    After (.avgFold t c) s fun n => n = m.modChan c.val (fun x => { x with
        mem := { x.mem with folds := x.mem.folds.map (fun z => if z = f then { f with avg := false } else z) },
        avg := { x.avg with
            sums := (addSums (m.fld F.RGN_ACC_CTRL.SHIFT (c.val / 16)) x.avg.sums f.rcd.samples).1,
            count := x.avg.count + 1,
            sat := x.avg.sat || (addSums (m.fld F.RGN_ACC_CTRL.SHIFT (c.val / 16)) x.avg.sums f.rcd.samples).2,
            clip := x.avg.clip || f.rcd.flags.testBit 9,
            config := some (avgConfig m c.val) } })) ∧
  (∀ (c : Chan) (f : Fold) (i : Nat), avgNext m (c.val / 16) = some f → f.rcd.ch = c.val → (m.rgn (c.val / 16)).acc.cuts =
      [] → (m.chan c.val).avg.cut.all (fun e => decide (f.rcd.ref < e)) = true → (m.chan c.val).avg.done = false → f.hist =
      false → f.map = false → (m.chan c.val).avg.count + 1 = 2 ^ m.fld F.RGN_ACC_CTRL.TARGET_LOG2 (c.val / 16) → (∀ z ∈
      (m.chan c.val).mem.folds.erase f, z.avg = false) → f.copy = false → f.rcd.slot = some i → acqMode m (c.val / 16) = 3 →
      (m.chan c.val).trig.maskStop = false →
    After (.avgFold t c) s fun n => n = Kz.notify (m.modChan c.val (fun x => { x with
        mem := { x.mem with folds := x.mem.folds.erase f, used := x.mem.used.erase i },
        avg := { x.avg with
            sums := (addSums (m.fld F.RGN_ACC_CTRL.SHIFT (c.val / 16)) x.avg.sums f.rcd.samples).1,
            count := x.avg.count + 1,
            done := true,
            sat := x.avg.sat || (addSums (m.fld F.RGN_ACC_CTRL.SHIFT (c.val / 16)) x.avg.sums f.rcd.samples).2,
            clip := x.avg.clip || f.rcd.flags.testBit 9,
            config := some (avgConfig m c.val) } })) 3 1 c.val []) ∧
  (∀ (c : Chan) (f : Fold) (e : Nat), avgNext m (c.val / 16) = some f → f.rcd.ch = c.val → (m.rgn (c.val / 16)).acc.cuts =
      [] → (m.chan c.val).avg.done = true ∨ ((m.chan c.val).avg.cut = some e ∧ e ≤ f.rcd.ref ∧ (m.chan c.val).avg.count < 2
      ^ m.fld F.RGN_ACC_CTRL.TARGET_LOG2 (c.val / 16)) → f.hist = true ∨ f.map = true →
    After (.avgFold t c) s fun n => n = m.modChan c.val (fun x => { x with
        mem := { x.mem with folds := x.mem.folds.map (fun z => if z = f then { f with avg := false } else z) } })) ∧
  (∀ (c : Chan), (∀ f, avgNext m (c.val / 16) = some f → f.rcd.ch ≠ c.val) →
    After (.avgFold t c) s fun n => n = m) ∧
  (∀ (c : Chan) (f : Fold) (k i : Nat), hubNext m = some (k, f) → f.rcd.ch = c.val → f.hist = true → (m.chan
      c.val).hist.cut.all (fun e => decide (f.rcd.ref < e)) = true → f.avg = false → f.map = false → (m.rgn (c.val /
      16)).acc.cuts = [] → f.copy = false → f.rcd.slot = some i → acqMode m (c.val / 16) = 3 → (m.chan c.val).trig.maskStop
      = false →
    After (.histFold t c) s fun n => n = { m.modChan c.val (fun x => { x with mem := { x.mem with folds := x.mem.folds.erase f, used := x.mem.used.erase i }, hist := { (if m.on F.RGN_ACC_CTRL.HIST_SRC (c.val / 16) = true then f.rcd.samples.take 1 |>.map (fun y => f.rcd.samples.foldl max y) else f.rcd.samples).foldl (fun h y => binAdd h (binOf y)) x.hist with count := min (x.hist.count + 1) (2 ^ 31 - 1) } }) with
        hub := { m.hub with foldTurn := (k + 1) % 12 } }) ∧
  (∀ (c : Chan) (f : Fold) (k : Nat), hubNext m = some (k, f) → f.rcd.ch = c.val → f.hist = true → (m.chan
      c.val).hist.cut.all (fun e => decide (f.rcd.ref < e)) = true → f.avg = true ∨ f.map = true → (m.rgn (c.val /
      16)).acc.cuts = [] →
    After (.histFold t c) s fun n => n = { m.modChan c.val (fun x => { x with mem := { x.mem with folds := x.mem.folds.map (fun z => if z = f then { f with hist := false } else z) }, hist := { (if m.on F.RGN_ACC_CTRL.HIST_SRC (c.val / 16) = true then f.rcd.samples.take 1 |>.map (fun y => f.rcd.samples.foldl max y) else f.rcd.samples).foldl (fun h y => binAdd h (binOf y)) x.hist with count := min (x.hist.count + 1) (2 ^ 31 - 1) } }) with
        hub := { m.hub with foldTurn := if f.map = true then k else (k + 1) % 12 } }) ∧
  (∀ (c : Chan) (f : Fold) (k e : Nat), hubNext m = some (k, f) → f.rcd.ch = c.val → f.hist = true → (m.chan c.val).hist.cut
      = some e → e ≤ f.rcd.ref → f.avg = true ∨ f.map = true → (m.rgn (c.val / 16)).acc.cuts = [] →
    After (.histFold t c) s fun n => n = { m.modChan c.val (fun x => { x with mem := { x.mem with folds := x.mem.folds.map (fun z => if z = f then { f with hist := false } else z) } }) with
        hub := { m.hub with foldTurn := if f.map = true then k else (k + 1) % 12 } }) ∧
  (∀ (c : Chan) (f : Fold) (k x : Nat), hubNext m = some (k, f) → f.rcd.ch = c.val → f.map = true → f.avg = false → f.hist =
      false → f.copy = true → x = b2n f.sel → m.on F.MOD_MAP_CTRL.EN x = true → (pmap m x).clearing = false → (∀ y ∈ (pmap m
      x).cells, y.2 ≤ 0xFFFF) →
    After (.mapFold t c) s fun n => n = { m with
        chans := n.chans,
        maps := n.maps,
        regs := n.regs,
        hub := { m.hub with foldTurn := (k + 1) % 12 } } ∧ n.chans = (m.modMem c.val (fun y => { y with
        folds := y.folds.erase f })).chans ∧ n.regs.cfg = m.regs.cfg ∧ (∀ y : Nat, y < 2 → y ≠ x → pmap n y = pmap m y) ∧ (∀
      a : Nat, a < 1048576 → Sparse.get 0 (pmap n x).cells a = min 0xFFFF (Sparse.get 0 (pmap m x).cells a +
      (f.rcd.samples.zipIdx.filter (fun y => decide (cellOf m x ((y.2 : Int) * 1024 - f.rcd.refPos) y.1 = some
      a))).length))) ∧
  (∀ (c : Chan) (f : Fold) (k : Nat), hubNext m = some (k, f) → f.rcd.ch = c.val → f.map = true → f.avg = true ∨ f.hist =
      true → m.on F.MOD_MAP_CTRL.EN (b2n f.sel) = false ∨ (pmap m (b2n f.sel)).clearing = true →
    After (.mapFold t c) s fun n => n = { m.modChan c.val (fun x => { x with mem := { x.mem with folds := x.mem.folds.map (fun z => if z = f then { f with map := false } else z) } }) with
        hub := { m.hub with foldTurn := if f.hist = true then k else (k + 1) % 12 } }) ∧
  (∀ (y : Fin 2), m.on F.MOD_MAP_CTRL.DECAY y.val = true → (pmap m y.val).halvedAt + m.fld F.MOD_MAP_CTRL.DECAY y.val *
      10000000 ≤ m.now.ns →
    After (.mapDecay t y) s fun n => n = modMap m y (fun q => { q with
        cells := (q.cells.map (fun z => (z.1, z.2 / 2))).filter (fun z => z.2 != 0),
        halvedAt := q.halvedAt + m.fld F.MOD_MAP_CTRL.DECAY y.val * 10000000 })) ∧
  (∀ (y : Fin 2), m.on F.MOD_MAP_CTRL.DECAY y.val = false ∨ m.now.ns < (pmap m y.val).halvedAt + m.fld F.MOD_MAP_CTRL.DECAY
      y.val * 10000000 →
    After (.mapDecay t y) s fun n => n = m) ∧
  (∀ (p : Port) (k : Rgn) (v : Word), Accepts m p .RGN_ACC_CLR k.val v →
    After (.avgClr t p k v) s fun n => n = { storeReg m .RGN_ACC_CLR k.val v with
        chans := n.chans,
        wire := okPair p .RGN_ACC_CLR k.val :: m.wire } ∧ (∀ c : Nat, c < 192 → n.chan c = { m.chan c with
        avg := if c / 16 = k.val ∧ (F.RGN_ACC_CLR.AVG_CLR.of v).testBit (c % 16) = true then { (m.chan c).avg with
            sums := [],
            count := 0,
            done := false,
            sat := false,
            clip := false,
            cut := none } else (m.chan c).avg,
        hist := if c / 16 = k.val ∧ (F.RGN_ACC_CLR.HIST_CLR.of v).testBit (c % 16) = true then {} else (m.chan c).hist })) ∧
  (∀ (p : Port) (k : Rgn) (v : Word), Accepts m p .RGN_ACC_CLR k.val v →
    After (.histClr t p k v) s fun n => n = { storeReg m .RGN_ACC_CLR k.val v with
        chans := n.chans,
        wire := okPair p .RGN_ACC_CLR k.val :: m.wire } ∧ (∀ c : Nat, c < 192 → n.chan c = { m.chan c with
        avg := if c / 16 = k.val ∧ (F.RGN_ACC_CLR.AVG_CLR.of v).testBit (c % 16) = true then { (m.chan c).avg with
            sums := [],
            count := 0,
            done := false,
            sat := false,
            clip := false,
            cut := none } else (m.chan c).avg,
        hist := if c / 16 = k.val ∧ (F.RGN_ACC_CLR.HIST_CLR.of v).testBit (c % 16) = true then {} else (m.chan c).hist })) ∧
  (∀ (p : Port) (x : Fin 2) (v : Word), Accepts m p .MOD_MAP_CTRL x.val v → F.MOD_MAP_CTRL.CLR.of v = 1 →
    After (.mapClr t p x v) s fun n => n = (modMap (storeReg m .MOD_MAP_CTRL x.val v) x.val (fun q => { q with
        clearing := true,
        halvedAt := if F.MOD_MAP_CTRL.DECAY.of v = m.fld F.MOD_MAP_CTRL.DECAY x.val then q.halvedAt else m.now.ns })).emit
      (okPair p .MOD_MAP_CTRL x.val)) ∧
  (∀ (x : Fin 2), (pmap m x.val).clearing = true →
    After (.mapClrDone t x) s fun n => n = modMap m x.val (fun q => { halvedAt := q.halvedAt }))

/-- R303, R309, R310: folding a record adds each sample, shifted right by SHIFT, to the sum at its index, and a sum holds at the ends of 32 bits;
after a record is counted every bin holds its old value and the number of samples that fall into it, up to 0xFFFF_FFFF. -/
def Obligations.SumsHoldAndBinsCount : Prop :=
  (∀ (sh : Nat) (sums samples : List Int), (addSums sh sums samples).1.length = max sums.length samples.length ∧
    ((∀ a ∈ samples, satS 32 a = a) → ∀ i : Nat, i < samples.length →
      (addSums sh sums samples).1.getD i 0 = satS 32 (sums.getD i 0 + samples.getD i 0 / (2 ^ sh : Nat))) ∧
    (∀ i : Nat, samples.length ≤ i → (addSums sh sums samples).1.getD i 0 = sums.getD i 0)) ∧
  (∀ (h : Hist) (xs : List Int) (b : Nat), Sparse.get 0 h.bins b < 2 ^ 32 →
    Sparse.get 0 (xs.foldl (fun h x => binAdd h (binOf x)) h).bins b =
      min (2 ^ 32 - 1) (Sparse.get 0 h.bins b + (xs.filter (fun x => binOf x = b)).length))


/-- R334 to R344: a bundle reads both slots' operands as they were, writes their results, takes one cycle and one more for a taken branch,
and goes on to the next bundle, to its target, or back to the start of a loop with runs left. -/
def Obligations.EngineBundles : Prop := ∀ (s : State) (t : Stamp) (m : Kz) (c : Chan), s.kz.advance t = m →
  (∀ (a : Activation) (g : EngImage) (b : Nat) (l : List Int) (z : Int), (m.chan c.val).eng.state = .running → (m.chan
      c.val).eng.act = some a → (m.chan c.val).eng.image = some g → a.used < m.fld F.ENG_BUDGET.B_DECL (c.val / 16) →
      g.prog.getD a.pc 0 = b → vop b ≠ 0x0D → vecOp m c.val (m.chan c.val).eng a.window 0 b = .vec l → scalarOp m c.val
      (m.chan c.val).eng b = some z →
    After (.engineBundle t c) s fun n => n = m.modEng c.val (fun x => { setS (setV x (vd b) l) (sd b) z with
        act := some { a with pc := (afterBundle a.pc a.loops).1, loops := (afterBundle a.pc a.loops).2, used := a.used + 1 } })) ∧
  (∀ (a : Activation) (g : EngImage) (b : Nat) (k : Nat) (l : List Int), (m.chan c.val).eng.state = .running → (m.chan
      c.val).eng.act = some a → (m.chan c.val).eng.image = some g → a.used < m.fld F.ENG_BUDGET.B_DECL (c.val / 16) →
      g.prog.getD a.pc 0 = b → vecOp m c.val (m.chan c.val).eng a.window 0 b = .acc k l → sop b = 0 →
    After (.engineBundle t c) s fun n => n = m.modEng c.val (fun x => { setA x k l with
        act := some { a with pc := (afterBundle a.pc a.loops).1, loops := (afterBundle a.pc a.loops).2, used := a.used + 1 } })) ∧
  (∀ (a : Activation) (g : EngImage) (b : Nat) (k : Nat) (l : List Int), (m.chan c.val).eng.state = .running → (m.chan
      c.val).eng.act = some a → (m.chan c.val).eng.image = some g → a.used < m.fld F.ENG_BUDGET.B_DECL (c.val / 16) →
      g.prog.getD a.pc 0 = b → vecOp m c.val (m.chan c.val).eng a.window 0 b = .store k l → sop b = 0 →
    After (.engineBundle t c) s fun n => n = { m.modEng c.val (fun x => { x with act := some { a with pc := (afterBundle a.pc a.loops).1, loops := (afterBundle a.pc a.loops).2, used := a.used + 1 } }) with
        mem := (l.zipIdx.foldl (fun (z : Kz) (y : Int × Nat) => setDataWord z c.val ((k + 2 * y.2) % 32768) (toU 16 y.1))
          m).mem }) ∧
  (∀ (a : Activation) (g : EngImage) (b : Nat), (m.chan c.val).eng.state = .running → (m.chan c.val).eng.act = some a →
      (m.chan c.val).eng.image = some g → a.used < m.fld F.ENG_BUDGET.B_DECL (c.val / 16) → g.prog.getD a.pc 0 = b → vop b =
      0 → sop b = 0x0A →
    After (.engineBundle t c) s fun n => n = { m.modEng c.val (fun x => { x with act := some { a with pc := (afterBundle a.pc a.loops).1, loops := (afterBundle a.pc a.loops).2, used := a.used + 1 } }) with
        mem := (setDataWord m c.val (dataAddr (sregS (m.chan c.val).eng (sa b % 16) + sext 13 (simm b))) (sreg (m.chan
          c.val).eng (sd b))).mem }) ∧
  (∀ (a : Activation) (g : EngImage) (b : Nat), (m.chan c.val).eng.state = .running → (m.chan c.val).eng.act = some a →
      (m.chan c.val).eng.image = some g → a.used < m.fld F.ENG_BUDGET.B_DECL (c.val / 16) → g.prog.getD a.pc 0 = b → vop b =
      0 → sop b = 0x10 ∨ (sop b = 0x11 ∧ (sreg (m.chan c.val).eng (sa b % 16)) = 0) ∨ (sop b = 0x12 ∧ (sreg (m.chan
      c.val).eng (sa b % 16)) ≠ 0) →
    After (.engineBundle t c) s fun n => n = m.modEng c.val (fun x => { x with
        act := some { a with pc := starget b, used := a.used + 2 } })) ∧
  (∀ (a : Activation) (g : EngImage) (b : Nat), (m.chan c.val).eng.state = .running → (m.chan c.val).eng.act = some a →
      (m.chan c.val).eng.image = some g → a.used < m.fld F.ENG_BUDGET.B_DECL (c.val / 16) → g.prog.getD a.pc 0 = b → vop b =
      0 → sop b = 0 ∨ (sop b = 0x11 ∧ (sreg (m.chan c.val).eng (sa b % 16)) ≠ 0) ∨ (sop b = 0x12 ∧ (sreg (m.chan c.val).eng
      (sa b % 16)) = 0) →
    After (.engineBundle t c) s fun n => n = m.modEng c.val (fun x => { x with
        act := some { a with pc := (afterBundle a.pc a.loops).1, loops := (afterBundle a.pc a.loops).2, used := a.used + 1 } })) ∧
  (∀ (a : Activation) (g : EngImage) (b : Nat), (m.chan c.val).eng.state = .running → (m.chan c.val).eng.act = some a →
      (m.chan c.val).eng.image = some g → a.used < m.fld F.ENG_BUDGET.B_DECL (c.val / 16) → g.prog.getD a.pc 0 = b → vop b =
      0 → sop b = 0x0F →
    After (.engineBundle t c) s fun n => n = m.modEng c.val (fun x => { x with
        act := some { a with pc := a.pc + 1, loops := (a.pc + 1, starget b, scnt b) :: a.loops, used := a.used + 1 } })) ∧
  (∀ (a : Activation) (g : EngImage) (b : Nat), (m.chan c.val).eng.state = .running → (m.chan c.val).eng.act = some a →
      (m.chan c.val).eng.image = some g → a.used < m.fld F.ENG_BUDGET.B_DECL (c.val / 16) → g.prog.getD a.pc 0 = b → vop b =
      0 → sop b = 0x14 →
    After (.engineBundle t c) s fun n => n = m.modEng c.val (fun x => { x with
        act := some { a with
            pc := (afterBundle a.pc a.loops).1,
            loops := (afterBundle a.pc a.loops).2,
            used := a.used + 1,
            feature := (min (max (sregS (m.chan c.val).eng (sa b % 16)) 0) 65534).toNat } })) ∧
  (∀ (a : Activation) (g : EngImage) (b : Nat), (m.chan c.val).eng.state = .running → (m.chan c.val).eng.act = some a →
      (m.chan c.val).eng.image = some g → a.used < m.fld F.ENG_BUDGET.B_DECL (c.val / 16) → g.prog.getD a.pc 0 = b → vop b =
      0 → sop b = 0x15 →
    After (.engineBundle t c) s fun n => n = m.modEng c.val (fun x => { x with
        act := some { a with pc := (afterBundle a.pc a.loops).1, loops := (afterBundle a.pc a.loops).2, used := a.used + 1 },
        annots := x.annots ++ [((0x80 + simm b % 128) <<< 56 ||| (a.bcn % 65536) <<< 40 ||| ((sreg (m.chan c.val).eng (sa b
          % 16)) % 65536) <<< 16 ||| sreg (m.chan c.val).eng (ssb b) % 65536, a.mark)] })) ∧
  (∀ (a : Activation) (g : EngImage) (b : Nat), (m.chan c.val).eng.state = .running → (m.chan c.val).eng.act = some a →
      (m.chan c.val).eng.image = some g → a.used < m.fld F.ENG_BUDGET.B_DECL (c.val / 16) → g.prog.getD a.pc 0 = b → vop b =
      0 → sop b = 0x13 →
    After (.engineBundle t c) s fun n => n = m.modEng c.val (fun x => { x with
        act := none,
        maxUsed := max x.maxUsed (a.used + 1),
        handoffs := x.handoffs.map (fun h => if h.1 = a.crossing then (h.1, h.2.1, a.feature) else h) })) ∧
  (∀ (a : Activation) (g : EngImage) (b : Nat), (m.chan c.val).eng.state = .running → (m.chan c.val).eng.act = some a →
      (m.chan c.val).eng.image = some g → a.used < m.fld F.ENG_BUDGET.B_DECL (c.val / 16) → g.prog.getD a.pc 0 = b → vop b =
      0 → sop b = 0x16 → (m.fld F.CH_TRIG_CTRL.SRC_EN c.val).testBit 7 = true → a.raised = false → (sreg (m.chan c.val).eng
      (sa b % 16)) ≤ (g.winLen - 1) * 1024 → g.winLen < 2 ^ 16 → 1 ≤ g.winLen →
    After (.engineBundle t c) s fun n => n = (fun z : Kz => if Takes m c.val 7 then { z with
        chans := (z.modTrig c.val (fun x => { x with
            pending := x.pending ++ [(7, posInst m c.val (a.idx + (sreg (m.chan c.val).eng (sa b % 16)) / 1024 + 1) ((sreg
              (m.chan c.val).eng (sa b % 16)) % 1024), m.fabric + 1)] })).chans } else z) (m.modEng c.val (fun x => { x with
        act := some { a with
            pc := (afterBundle a.pc a.loops).1,
            loops := (afterBundle a.pc a.loops).2,
            used := a.used + 1,
            raised := true } }))) ∧
  ((m.chan c.val).eng.act = none ∨ (m.chan c.val).eng.image = none ∨ (m.chan c.val).eng.state ≠ .running ∨ (m.chan
      c.val).eng.act.any (fun a => decide (m.fld F.ENG_BUDGET.B_DECL (c.val / 16) ≤ a.used)) = true →
    After (.engineBundle t c) s fun n => n = m)

/-- R328, R330, R331, R333, R345, R346, R350, R352, R361, R363, R365, R369: an activation starts at its crossing with its window; one that uses up its
budget is an overrun; the feature word goes to the fixed lane at its hand-off cycle. The frame of a crossing leaves at the edge LAT crossings later with the
words that arrived in time; words that came too late are counted, and a frame that starts two or more blocks late is cut. -/
def Obligations.ActivationsAndPrimitives : Prop := ∀ (s : State) (t : Stamp) (m : Kz), s.kz.advance t = m →
  (∀ (c : Chan) (no : Nat) (w : List Int) (y : Edge) (g : EngImage) (l : List (Nat × Int)), edgeNo m no = some y → (m.chan
      c.val).eng.image = some g → (m.chan c.val).eng.state = .running → engineOn m c.val = true → running m c.val = true →
      (l = if (Sparse.get ({} : WinBank) (m.chan c.val).eng.banks (no % 3)).crossing = no then (Sparse.get ({} : WinBank)
      (m.chan c.val).eng.banks (no % 3)).samples else []) → activationCycle m c.val y ≤ m.fabric → firstDelivered m c.val ≤
      markSample m c.val y → (m.chan c.val).eng.handoffs.any (fun h => h.1 = no) = false → (m.chan c.val).eng.act = none →
      (m.chan c.val).eng.user = none →
    After (.engineActivationStart t c no w) s fun n => n = m.modEng c.val (fun x => { x with
        act := some {
            crossing := no,
            bcn := y.bcn,
            idx := markSample m c.val y,
            mark := sampleInst m c.val (markSample m c.val y),
            window := (upTo g.winLen).map (fun j => ((l.find? (fun x => decide (x.1 = j))).map (fun x => x.2)).getD (satS 16
              (w.getD j 0))),
            start := activationCycle m c.val y,
            pc := 0,
            used := 0,
            loops := [],
            feature := 0,
            raised := false },
        handoffs := x.handoffs ++ [(no, activationCycle m c.val y + m.fld F.ENG_BUDGET.B_DECL (c.val / 16), 0xFFFF)] })) ∧
  (∀ (c : Chan) (no : Nat) (w : List Int) (y : Edge) (g : EngImage) (u : Nat × Nat) (l : List (Nat × Int)), edgeNo m no =
      some y → (m.chan c.val).eng.image = some g → (m.chan c.val).eng.state = .running → engineOn m c.val = true → running m
      c.val = true → (l = if (Sparse.get ({} : WinBank) (m.chan c.val).eng.banks (no % 3)).crossing = no then (Sparse.get ({
         } : WinBank) (m.chan c.val).eng.banks (no % 3)).samples else []) → activationCycle m c.val y ≤ m.fabric →
      firstDelivered m c.val ≤ markSample m c.val y → (m.chan c.val).eng.handoffs.any (fun h => h.1 = no) = false → (m.chan
      c.val).eng.act = none → (m.chan c.val).eng.user = some u →
    After (.engineActivationStart t c no w) s fun n => n = { m.modEng c.val (fun x => { x with user := none, act := some { crossing := no, bcn := y.bcn, idx := markSample m c.val y, mark := sampleInst m c.val (markSample m c.val y), window := (upTo g.winLen).map (fun j => ((l.find? (fun x => decide (x.1 = j))).map (fun x => x.2)).getD (satS 16 (w.getD j 0))), start := activationCycle m c.val y, pc := 0, used := 0, loops := [], feature := 0, raised := false }, handoffs := x.handoffs ++ [(no, activationCycle m c.val y + m.fld F.ENG_BUDGET.B_DECL (c.val / 16), 0xFFFF)] }) with
        mem := (setDataWord (setDataWord m c.val 0x7FFE u.1) c.val 0x7FFC u.2).mem }) ∧
  (∀ (c : Chan) (a : Activation), (m.chan c.val).eng.act = some a → m.fld F.ENG_BUDGET.B_DECL (c.val / 16) ≤ a.used → (m.rgn
      (c.val / 16)).eng.overrunLogged = false →
    After (.engineWatchdog t c) s fun n => n = { m.modEng c.val (fun x => { x with act := none, maxUsed := max x.maxUsed (min a.used 255) }) with
        regs := (m.markBit F.ENG_STAT.FAULT_SEEN (c.val / 16) (c.val % 16)).regs,
        stats := (m.count .ENG_OVERRUNS (c.val / 16) 1).stats,
        rgns := (m.modRgn (c.val / 16) (fun x => { x with eng := { x.eng with overrunLogged := true } })).rgns,
        log := (m.logE 0x0150 2 1 c.val 0 ((m.count .ENG_OVERRUNS (c.val / 16) 1).counter .ENG_OVERRUNS (c.val / 16))).log }) ∧
  (∀ (c : Chan) (a : Activation), (m.chan c.val).eng.act = some a → m.fld F.ENG_BUDGET.B_DECL (c.val / 16) ≤ a.used → (m.rgn
      (c.val / 16)).eng.overrunLogged = true →
    After (.engineWatchdog t c) s fun n => n = { m.modEng c.val (fun x => { x with act := none, maxUsed := max x.maxUsed (min a.used 255) }) with
        regs := (m.markBit F.ENG_STAT.FAULT_SEEN (c.val / 16) (c.val % 16)).regs,
        stats := (m.count .ENG_OVERRUNS (c.val / 16) 1).stats }) ∧
  (∀ (c : Chan) (h : Nat × Nat × Nat) (r : List (Nat × Nat × Nat)), (m.chan c.val).eng.handoffs = h :: r → h.2.1 ≤ m.fabric
      →
    After (.featureHandoff t c) s fun n => n = (m.modEng c.val (fun x => { x with handoffs := r })).modLane (c.val / 16)
      (fun l => { l with feats := l.feats ++ [(h.1, c.val, h.2.2)] })) ∧
  (∀ (c : Chan), (m.chan c.val).eng.handoffs.head?.any (fun h => decide (h.2.1 ≤ m.fabric)) = false →
    After (.featureHandoff t c) s fun n => n = m) ∧
  (∀ (c : Chan), (m.chan c.val).eng.state = .running →
    After (.engineMemFault t c) s fun n => n = { m.modEng c.val (fun x => { x with state := .fault, act := none, handoffs := [] }) with
        regs := (m.markBit F.ENG_STAT.FAULT_SEEN (c.val / 16) (c.val % 16)).regs,
        log := (m.logE 0x0151 2 1 c.val 0 0).log }) ∧
  (∀ (c : Chan) (g : EngImage), (m.chan c.val).eng.state = .fault → (m.chan c.val).eng.image = some g →
    After (.engineReloadDone t c) s fun n => n = { m.modEng c.val (fun x => { x with v := [], s := [], a := [], act := none, handoffs := [], state := if m.inRun (c.val / 16) = true then .running else .ready }) with
        mem := (m.mem.clear (engData c.val 0) 0x8000).writes (engData c.val 0) g.data }) ∧
  (∀ (c : Chan) (k : Rgn) (no mask : Nat) (g : EngImage) (rest : List (Nat × Nat × EngImage)), Quiet m → Idle m → (m.rgn
      k.val).eng.loads = (no, mask, g) :: rest →
    After (.engLoadDone t k) s fun n => n = { m with
        ports := n.ports,
        chans := n.chans,
        mem := n.mem,
        trust := (extend m 4 (be 1 k.val ++ be 2 mask) g.digest).trust,
        rgns := (m.modRgn k.val (fun r => { r with eng := { r.eng with loads := rest } })).rgns } ∧ SamePorts m n ∧ (∀ c :
      Nat, c < 192 → n.chan c = if c / 16 = k.val ∧ mask.testBit (c % 16) = true ∧ (m.chan c).eng.state = .loading ∧ (m.chan
      c).eng.loading = some g then { m.chan c with
        eng := { (m.chan c).eng with state := .ready, image := some g, loading := none, handoffMax := 0xFFFF } } else m.chan
      c)) ∧
  (∀ (k : Rgn), Quiet m → (m.rgn k.val).eng.loads = [] →
    After (.engLoadDone t k) s fun n => n = m) ∧
  (∀ (k : Fin 8) (no slip : Nat) (e y : Edge), edgeNo m no = some e → edgeNo m (no + m.fld F.MOD_PRIM_CFG.LAT k.val) = some
      y → m.on F.MOD_PRIM_CFG.EN k.val = true → y.at_ ≤ m.inst → ((prim m k.val).sent).all (fun z => decide (z < no)) = true
      → (primStart m k.val y.at_ slip).1 < 2 →
    After (.primFrame t k no slip) s fun n => n = { (modPrim m k.val (fun x => { x with framing := true, sent := some no, words := x.words.filter (fun x => decide (no < x.1)), endsAt := if tmode m = 0 then some ((primStart m k.val y.at_ slip).2 + if 2 ≤ (primStart m k.val y.at_ slip).1 then 1 else primBits (m.fld F.MOD_PRIM_CFG.MODE k.val) / 32) else none })) with
        stats := (if (((prim m k.val).words.filter (fun x => x.1 = no)).filter (fun x => decide (y.at_ / 16384 < x.2.2.2 +
          8))).length = 0 then m else m.count .MOD_PRIM_LATE 0 (((prim m k.val).words.filter (fun x => x.1 = no)).filter
          (fun x => decide (y.at_ / 16384 < x.2.2.2 + 8))).length).stats,
        regs := (if (((prim m k.val).words.filter (fun x => x.1 = no)).filter (fun x => decide (y.at_ / 16384 < x.2.2.2 +
          8))).length = 0 then m else m.mark F.MOD_PRIM_STAT.LATE_SEEN k.val).regs,
        wire := .primFrame k.val (be 3 ((e.bcn % 4096) <<< 12 ||| k.val <<< 8 ||| 1 <<< 7 ||| m.fld F.MOD_PRIM_CFG.MODE
          k.val <<< 5 ||| b2n (decide (2 ≤ (primStart m k.val y.at_ slip).1)) <<< 4 ||| b2n e.mark <<< 3 ||| b2n e.virt <<<
          2 ||| b2n (((upTo 24).map (fun i : Nat => ((((prim m k.val).words.filter (fun x => x.1 = no)).find? (fun x =>
          x.2.1 = 24 * k.val + i && decide (x.2.2.2 + 8 ≤ y.at_ / 16384))).map (fun x => x.2.2.1)).getD 0xFFFF)).any (fun x
          => x = 0xFFFF)) <<< 1 ||| b2n e.hold) ++ be 1 (crc8 (be 3 ((e.bcn % 4096) <<< 12 ||| k.val <<< 8 ||| 1 <<< 7 |||
          m.fld F.MOD_PRIM_CFG.MODE k.val <<< 5 ||| b2n (decide (2 ≤ (primStart m k.val y.at_ slip).1)) <<< 4 ||| b2n e.mark
          <<< 3 ||| b2n e.virt <<< 2 ||| b2n (((upTo 24).map (fun i : Nat => ((((prim m k.val).words.filter (fun x => x.1 =
          no)).find? (fun x => x.2.1 = 24 * k.val + i && decide (x.2.2.2 + 8 ≤ y.at_ / 16384))).map (fun x => x.2.2.1)).getD
          0xFFFF)).any (fun x => x = 0xFFFF)) <<< 1 ||| b2n e.hold) ++ (if 2 ≤ (primStart m k.val y.at_ slip).1 then [] else
          primPayload (m.fld F.MOD_PRIM_CFG.MODE k.val) (m.fld F.MOD_PRIM_CFG.SHIFT k.val) (m.fld F.MOD_PRIM_CFG.SUM_SHIFT
          k.val) ((upTo 24).map (fun i : Nat => ((((prim m k.val).words.filter (fun x => x.1 = no)).find? (fun x => x.2.1 =
          24 * k.val + i && decide (x.2.2.2 + 8 ≤ y.at_ / 16384))).map (fun x => x.2.2.1)).getD 0xFFFF))))) ++ (if 2 ≤
          (primStart m k.val y.at_ slip).1 then [] else primPayload (m.fld F.MOD_PRIM_CFG.MODE k.val) (m.fld
          F.MOD_PRIM_CFG.SHIFT k.val) (m.fld F.MOD_PRIM_CFG.SUM_SHIFT k.val) ((upTo 24).map (fun i : Nat => ((((prim m
          k.val).words.filter (fun x => x.1 = no)).find? (fun x => x.2.1 = 24 * k.val + i && decide (x.2.2.2 + 8 ≤ y.at_ /
          16384))).map (fun x => x.2.2.1)).getD 0xFFFF)))) :: m.wire }) ∧
  (∀ (k : Fin 8) (no slip : Nat) (e y : Edge), edgeNo m no = some e → edgeNo m (no + m.fld F.MOD_PRIM_CFG.LAT k.val) = some
      y → m.on F.MOD_PRIM_CFG.EN k.val = true → y.at_ ≤ m.inst → ((prim m k.val).sent).all (fun z => decide (z < no)) = true
      → 2 ≤ (primStart m k.val y.at_ slip).1 →
    After (.primFrame t k no slip) s fun n => n = { (modPrim m k.val (fun x => { x with framing := true, sent := some no, words := x.words.filter (fun x => decide (no < x.1)), endsAt := if tmode m = 0 then some ((primStart m k.val y.at_ slip).2 + if 2 ≤ (primStart m k.val y.at_ slip).1 then 1 else primBits (m.fld F.MOD_PRIM_CFG.MODE k.val) / 32) else none })) with
        stats := ((if (((prim m k.val).words.filter (fun x => x.1 = no)).filter (fun x => decide (y.at_ / 16384 < x.2.2.2 +
          8))).length = 0 then id else fun z => z.count .MOD_PRIM_LATE 0 (((prim m k.val).words.filter (fun x => x.1 =
          no)).filter (fun x => decide (y.at_ / 16384 < x.2.2.2 + 8))).length) (m.count .MOD_PRIM_CUT 0 1)).stats,
        regs := ((if (((prim m k.val).words.filter (fun x => x.1 = no)).filter (fun x => decide (y.at_ / 16384 < x.2.2.2 +
          8))).length = 0 then id else fun z => z.mark F.MOD_PRIM_STAT.LATE_SEEN k.val) (m.mark F.MOD_PRIM_STAT.CUT_SEEN
          k.val)).regs,
        wire := .primFrame k.val (be 3 ((e.bcn % 4096) <<< 12 ||| k.val <<< 8 ||| 1 <<< 7 ||| m.fld F.MOD_PRIM_CFG.MODE
          k.val <<< 5 ||| b2n (decide (2 ≤ (primStart m k.val y.at_ slip).1)) <<< 4 ||| b2n e.mark <<< 3 ||| b2n e.virt <<<
          2 ||| b2n (((upTo 24).map (fun i : Nat => ((((prim m k.val).words.filter (fun x => x.1 = no)).find? (fun x =>
          x.2.1 = 24 * k.val + i && decide (x.2.2.2 + 8 ≤ y.at_ / 16384))).map (fun x => x.2.2.1)).getD 0xFFFF)).any (fun x
          => x = 0xFFFF)) <<< 1 ||| b2n e.hold) ++ be 1 (crc8 (be 3 ((e.bcn % 4096) <<< 12 ||| k.val <<< 8 ||| 1 <<< 7 |||
          m.fld F.MOD_PRIM_CFG.MODE k.val <<< 5 ||| b2n (decide (2 ≤ (primStart m k.val y.at_ slip).1)) <<< 4 ||| b2n e.mark
          <<< 3 ||| b2n e.virt <<< 2 ||| b2n (((upTo 24).map (fun i : Nat => ((((prim m k.val).words.filter (fun x => x.1 =
          no)).find? (fun x => x.2.1 = 24 * k.val + i && decide (x.2.2.2 + 8 ≤ y.at_ / 16384))).map (fun x => x.2.2.1)).getD
          0xFFFF)).any (fun x => x = 0xFFFF)) <<< 1 ||| b2n e.hold)))) :: m.wire }) ∧
  (∀ (k : Fin 8) (no slip : Nat), m.on F.MOD_PRIM_CFG.EN k.val = false ∨ edgeNo m no = none ∨ ((prim m k.val).sent).any (fun
      z => decide (no ≤ z)) = true →
    After (.primFrame t k no slip) s fun n => n = m)

/-- R338, R339: what the lane-wise vector instructions give, lane by lane: wrapping and saturating sums, scaled products, least and
greatest, shifts, saturation to a width, comparisons, a multiply-accumulate held to 40 bits. -/
def Obligations.VectorOperations : Prop :=
  ∀ (m : Kz) (c : Nat) (e : Engine) (w : List Int) (fr b : Nat),
    (vop b = 0x06 → (vecOp m c e w fr b = .vec ((upTo 16).map (fun l => wrap16 ((vreg e (va b)).getD l 0 + (vreg e (vb b)).getD l 0))))) ∧
    (vop b = 0x07 → (vecOp m c e w fr b = .vec ((upTo 16).map (fun l => wrap16 ((vreg e (va b)).getD l 0 - (vreg e (vb b)).getD l 0))))) ∧
    (vop b = 0x08 → (vecOp m c e w fr b = .vec ((upTo 16).map (fun l => satS 16 ((vreg e (va b)).getD l 0 + (vreg e (vb b)).getD l 0))))) ∧
    (vop b = 0x09 → (vecOp m c e w fr b = .vec ((upTo 16).map (fun l => satS 16 ((vreg e (va b)).getD l 0 - (vreg e (vb b)).getD l 0))))) ∧
    (vop b = 0x0A → (vecOp m c e w fr b = .vec ((upTo 16).map (fun l => satS 16 ((vreg e (va b)).getD l 0 * (vreg e (vb b)).getD l 0 / (2 ^ (vx b % 16) : Nat)))))) ∧
    (vop b = 0x0B → vecOp m c e w fr b = .acc (vx b % 4) ((upTo 16).map (fun l => satS 40 ((areg e (vx b % 4)).getD l 0 + (vreg e (va b)).getD l 0 * (vreg e (vb b)).getD l 0)))) ∧
    (vop b = 0x0D → bits (vx b) 7 2 < 40 → vecOp m c e w fr b = .vec ((upTo 16).map (fun l =>
      satS 16 ((areg e (vx b % 4)).getD l 0 / (2 ^ bits (vx b) 7 2 : Nat))))) ∧
    (vop b = 0x0F → (vecOp m c e w fr b = .vec ((upTo 16).map (fun l => min ((vreg e (va b)).getD l 0) ((vreg e (vb b)).getD l 0))))) ∧
    (vop b = 0x10 → (vecOp m c e w fr b = .vec ((upTo 16).map (fun l => max ((vreg e (va b)).getD l 0) ((vreg e (vb b)).getD l 0))))) ∧
    (vop b = 0x11 → (vecOp m c e w fr b = .vec ((upTo 16).map (fun l => (vreg e (va b)).getD l 0 / (2 ^ (vx b % 16) : Nat))))) ∧
    (vop b = 0x12 → (vecOp m c e w fr b = .vec ((upTo 16).map (fun l => satS 16 ((vreg e (va b)).getD l 0 * (2 ^ (vx b % 16) : Nat)))))) ∧
    (vop b = 0x13 → (vecOp m c e w fr b = .vec ((upTo 16).map (fun l => satS (vx b % 16 + 1) ((vreg e (va b)).getD l 0))))) ∧
    (vop b = 0x17 → (vecOp m c e w fr b = .vec ((upTo 16).map (fun l => if (vreg e (vb b)).getD l 0 < (vreg e (va b)).getD l 0 then -1 else 0)))) ∧
    (vop b = 0x18 → (vecOp m c e w fr b = .vec ((upTo 16).map (fun l => if (vreg e (va b)).getD l 0 = (vreg e (vb b)).getD l 0 then -1 else 0)))) ∧
    (vop b = 0x19 → (vecOp m c e w fr b = .vec ((upTo 16).map (fun l => if (vreg e (vx b % 32)).getD l 0 ≠ 0 then (vreg e (va b)).getD l 0 else (vreg e (vb b)).getD l 0))))

/-- R402, R409, R410: enabling starts a lane, disabling, retraining and testing take an ACTIVE one away once its frame has gone, each lane
moves on when its clock locks, its training is done or its clock is lost; a frame cut by a lost clock is sent again. -/
def Obligations.LaneStates : Prop := ∀ (s : State) (t : Stamp) (m : Kz), s.kz.advance t = m →
  (∀ (p : Port) (k : Rgn) (v : Word), Accepts m p .RGN_RO_CTRL k.val v → F.RGN_RO_CTRL.RETRAIN.of v = 0 →
    After (.laneEnWrite t p k v) s fun n => n = { storeReg m .RGN_RO_CTRL k.val v with
        rgns := n.rgns,
        wire := okPair p .RGN_RO_CTRL k.val :: m.wire } ∧ (∀ x : Nat, x < 12 → x ≠ k.val → n.rgn x = m.rgn x) ∧ n.rgn k.val
      = { m.rgn k.val with lg := { (m.rgn k.val).lg with lanes := (n.rgn k.val).lg.lanes } } ∧ (∀ j : Nat, j < 8 → roLane n
      k.val j = if (F.RGN_RO_CTRL.LANE_EN.of v).testBit j = true ∧ (m.fld F.RGN_RO_CTRL.LANE_EN k.val).testBit j = false
      then (if (roLane m k.val j).state = .off ∧ m.rstate k.val ≠ .down then { (roLane m k.val j) with
        state := .starting,
        after := none } else if (roLane m k.val j).after = some .off then { (roLane m k.val j) with
        after := some .starting } else (roLane m k.val j)) else if (m.fld F.RGN_RO_CTRL.LANE_EN k.val).testBit j = true ∧
      (F.RGN_RO_CTRL.LANE_EN.of v).testBit j = false ∧ (roLane m k.val j).state ≠ .off then (if (roLane m k.val
      j).frame.isSome = true then { (roLane m k.val j) with after := some .off } else { (roLane m k.val j) with
        state := .off,
        after := none }) else (roLane m k.val j))) ∧
  (∀ (p : Port) (k : Rgn) (v : Word), Accepts m p .RGN_RO_CTRL k.val v → F.RGN_RO_CTRL.LANE_EN.of v = m.fld
      F.RGN_RO_CTRL.LANE_EN k.val →
    After (.laneRetrain t p k v) s fun n => n = { storeReg m .RGN_RO_CTRL k.val v with
        rgns := n.rgns,
        wire := okPair p .RGN_RO_CTRL k.val :: m.wire } ∧ (∀ x : Nat, x < 12 → x ≠ k.val → n.rgn x = m.rgn x) ∧ n.rgn k.val
      = { m.rgn k.val with lg := { (m.rgn k.val).lg with lanes := (n.rgn k.val).lg.lanes } } ∧ (∀ j : Nat, j < 8 → roLane n
      k.val j = if (F.RGN_RO_CTRL.RETRAIN.of v).testBit j = true ∧ (roLane m k.val j).state = .active then (if (roLane m
      k.val j).frame.isSome = true then { (roLane m k.val j) with after := some ((roLane m k.val j).after.getD .retrain) }
      else { (roLane m k.val j) with state := .retrain, after := none }) else (roLane m k.val j))) ∧
  (∀ (p : Port) (k : Rgn) (v : Word), Accepts m p .RGN_RO_TEST k.val v →
    After (.laneTestEnWrite t p k v) s fun n => n = { storeReg m .RGN_RO_TEST k.val v with
        rgns := n.rgns,
        wire := okPair p .RGN_RO_TEST k.val :: m.wire } ∧ (∀ x : Nat, x < 12 → x ≠ k.val → n.rgn x = m.rgn x) ∧ n.rgn k.val
      = { m.rgn k.val with lg := { (m.rgn k.val).lg with lanes := (n.rgn k.val).lg.lanes } } ∧ (∀ j : Nat, j < 8 → roLane n
      k.val j = if (F.RGN_RO_TEST.TEST_EN.of v).testBit j = true ∧ (m.fld F.RGN_RO_TEST.TEST_EN k.val).testBit j = false ∧
      (roLane m k.val j).state = .active then (if (roLane m k.val j).frame.isSome = true then { (roLane m k.val j) with
        after := some ((roLane m k.val j).after.getD .test) } else { (roLane m k.val j) with state := .test, after := none })
      else if (m.fld F.RGN_RO_TEST.TEST_EN k.val).testBit j = true ∧ (F.RGN_RO_TEST.TEST_EN.of v).testBit j = false ∧
      (roLane m k.val j).state = .test then { (roLane m k.val j) with state := .sync, after := none } else if (m.fld
      F.RGN_RO_TEST.TEST_EN k.val).testBit j = true ∧ (F.RGN_RO_TEST.TEST_EN.of v).testBit j = false ∧ (roLane m k.val
      j).after = some .test then { (roLane m k.val j) with after := none } else (roLane m k.val j))) ∧
  (∀ (k : Rgn) (j : Fin 8), (roLane m k.val j.val).state = .starting ∨ (roLane m k.val j.val).state = .fault →
    After (.lanePllLock t k j) s fun n => n = modROLane m k.val j.val (fun l => { l with state := .sync, after := none })) ∧
  (∀ (k : Rgn) (j : Fin 8), (roLane m k.val j.val).state = .sync → (m.fld F.RGN_RO_TEST.TEST_EN k.val).testBit j.val = false
      →
    After (.laneSyncDone t k j) s fun n => n = (modROLane m k.val j.val (fun l => { l with state := .active, after := none })).modLg
      k.val (fun g => { g with noLane := false })) ∧
  (∀ (k : Rgn) (j : Fin 8), (roLane m k.val j.val).state = .sync → (m.fld F.RGN_RO_TEST.TEST_EN k.val).testBit j.val = true
      →
    After (.laneSyncDone t k j) s fun n => n = modROLane m k.val j.val (fun l => { l with state := .test, after := none })) ∧
  (∀ (k : Rgn) (j : Fin 8), (roLane m k.val j.val).state = .retrain → (m.fld F.RGN_RO_TEST.TEST_EN k.val).testBit j.val =
      true →
    After (.laneRetrainDone t k j) s fun n => n = (modROLane m k.val j.val (fun l => { l with
        state := .test,
        after := none })).modLg k.val (fun g => { g with noLane := false })) ∧
  (∀ (k : Rgn) (j : Fin 8), (roLane m k.val j.val).state = .retrain → (m.fld F.RGN_RO_TEST.TEST_EN k.val).testBit j.val =
      false →
    After (.laneRetrainDone t k j) s fun n => n = (modROLane m k.val j.val (fun l => { l with
        state := .active,
        after := none })).modLg k.val (fun g => { g with noLane := false })) ∧
  (∀ (k : Rgn) (j : Fin 8), (roLane m k.val j.val).state ≠ .off →
    After (.lanePllUnlock t k j) s fun n => n = { m.modLg k.val (fun g => { g with lanes := Sparse.mod {} g.lanes j.val (fun _ => { state := if (roLane m k.val j.val).after = some .off then .off else if (roLane m k.val j.val).after = some .starting then .starting else .fault }), resend := g.resend ++ (roLane m k.val j.val).frame.toList }) with
        regs := (m.markBit F.RGN_RO_LANE_STAT.LANE_FAULT_SEEN k.val j.val).regs,
        log := (m.logE 0x0401 2 2 k.val 0 (8 * k.val + j.val)).log }) ∧
  (∀ (k : Rgn) (j : Fin 8), (roLane m k.val j.val).state = .off →
    After (.lanePllUnlock t k j) s fun n => n = m)

/-- R404, R406, R407, R409 to R411, R415 to R418: the lowest free ACTIVE lane takes a frame to be sent again, else a frame of the waiting records that fit,
each too old one as an OVERFLOW stub; the damper may make it wait; a completed frame frees its records' slots. A write of RGN_DAMPER settles the bucket;
OVERFLOW begins when the oldest waiting record is older than OVF_AGE and ends at half of it. -/
def Obligations.FlueFramesAndDamper : Prop := ∀ (s : State) (t : Stamp) (m : Kz) (k : Rgn), s.kz.advance t = m →
  (∀ (f : FlueFrame) (fs : List FlueFrame) (j : Nat), (m.rgn k.val).lg.resend = f :: fs → freeLane m k.val = some j →
    After (.frameOpen t k) s fun n => n = (m.modLg k.val (fun g => { g with
        resend := fs,
        lanes := Sparse.mod {} g.lanes j (fun l => { l with
            frame := some { f with lane := j, status := if f.fmt = 2 then f.status ||| 4 else 0 } }) })).emit (.flueFrame
      (some (8 * k.val + j)) (FlueFrame.bytes { f with lane := j, status := if f.fmt = 2 then f.status ||| 4 else 0 } k.val
      j))) ∧
  (∀ (j : Nat), (m.rgn k.val).lg.resend = [] → (m.rgn k.val).lg.queue ≠ [] → freeLane m k.val = some j → (m.fld
      F.RGN_DAMPER.RATE k.val = 0 ∨ ((80 * min (20 + ((((m.rgn k.val).lg.queue.map (fun r => if ovfHits m k.val r = true
      then ovfStub r else r)).take (max 1 (takeRecs (m.fld F.RGN_RO_CTRL.FRAME_MAX k.val * 1024) 20 ((m.rgn
      k.val).lg.queue.map (fun r => if ovfHits m k.val r = true then ovfStub r else r))).length)).map recSize).foldl (· + ·)
      0) (m.fld F.RGN_DAMPER.BURST k.val * 1024) : Nat) : Int) ≤ bucketNow m k.val) → (m.rgn k.val).lg.nextFrame + 1 < 2 ^
      32 →
    After (.frameOpen t k) s fun n => n = { m.modLg k.val (fun g => { g with queue := g.queue.drop (max 1 (takeRecs (m.fld F.RGN_RO_CTRL.FRAME_MAX k.val * 1024) 20 ((m.rgn k.val).lg.queue.map (fun r => if ovfHits m k.val r = true then ovfStub r else r))).length), nextFrame := g.nextFrame + 1, waited := false, bucket := if m.fld F.RGN_DAMPER.RATE k.val = 0 then g.bucket else bucketNow m k.val - (80 * (20 + ((((m.rgn k.val).lg.queue.map (fun r => if ovfHits m k.val r = true then ovfStub r else r)).take (max 1 (takeRecs (m.fld F.RGN_RO_CTRL.FRAME_MAX k.val * 1024) 20 ((m.rgn k.val).lg.queue.map (fun r => if ovfHits m k.val r = true then ovfStub r else r))).length)).map recSize).foldl (· + ·) 0) : Nat), filledAt := m.now.ns, lanes := Sparse.mod {} g.lanes j (fun l => { l with frame := some { seq := (m.rgn k.val).lg.nextFrame, lane := j, recs := (((m.rgn k.val).lg.queue.map (fun r => if ovfHits m k.val r = true then ovfStub r else r)).take (max 1 (takeRecs (m.fld F.RGN_RO_CTRL.FRAME_MAX k.val * 1024) 20 ((m.rgn k.val).lg.queue.map (fun r => if ovfHits m k.val r = true then ovfStub r else r))).length)), fmt := 1 + m.fld F.RGN_RO_CTRL.FMT k.val, status := if m.fld F.RGN_RO_CTRL.FMT k.val = 1 then b2n (m.rgn k.val).lg.ovf + 2 * b2n (m.rgn k.val).lg.waited else 0, openTime := m.datum / 16 % 2 ^ 32 } }) }) with
        stats := ((m.count .RGN_RO_OVF_STUBS k.val (((m.rgn k.val).lg.queue.take (max 1 (takeRecs (m.fld
          F.RGN_RO_CTRL.FRAME_MAX k.val * 1024) 20 ((m.rgn k.val).lg.queue.map (fun r => if ovfHits m k.val r = true then
          ovfStub r else r))).length)).filter (ovfHits m k.val)).length).count .RGN_STUB_COUNT k.val (((m.rgn
          k.val).lg.queue.take (max 1 (takeRecs (m.fld F.RGN_RO_CTRL.FRAME_MAX k.val * 1024) 20 ((m.rgn k.val).lg.queue.map
          (fun r => if ovfHits m k.val r = true then ovfStub r else r))).length)).filter (ovfHits m k.val)).length).stats,
        wire := .flueFrame (some (8 * k.val + j)) (FlueFrame.bytes {
            seq := (m.rgn k.val).lg.nextFrame,
            lane := j,
            recs := (((m.rgn k.val).lg.queue.map (fun r => if ovfHits m k.val r = true then ovfStub r else r)).take (max 1
              (takeRecs (m.fld F.RGN_RO_CTRL.FRAME_MAX k.val * 1024) 20 ((m.rgn k.val).lg.queue.map (fun r => if ovfHits m
              k.val r = true then ovfStub r else r))).length)),
            fmt := 1 + m.fld F.RGN_RO_CTRL.FMT k.val,
            status := if m.fld F.RGN_RO_CTRL.FMT k.val = 1 then b2n (m.rgn k.val).lg.ovf + 2 * b2n (m.rgn k.val).lg.waited
              else 0,
            openTime := m.datum / 16 % 2 ^ 32 } k.val j) :: m.wire }) ∧
  ((m.rgn k.val).lg.resend = [] → (m.rgn k.val).lg.queue ≠ [] → (freeLane m k.val).isSome = true ∨ anyActive m k.val = false
      → m.fld F.RGN_DAMPER.RATE k.val ≠ 0 → (bucketNow m k.val < ((80 * min (20 + ((((m.rgn k.val).lg.queue.map (fun r => if
      ovfHits m k.val r = true then ovfStub r else r)).take (max 1 (takeRecs (m.fld F.RGN_RO_CTRL.FRAME_MAX k.val * 1024) 20
      ((m.rgn k.val).lg.queue.map (fun r => if ovfHits m k.val r = true then ovfStub r else r))).length)).map recSize).foldl
      (· + ·) 0) (m.fld F.RGN_DAMPER.BURST k.val * 1024) : Nat) : Int)) →
    After (.frameOpen t k) s fun n => n = m.modLg k.val (fun g => { g with
        waited := true,
        bucket := bucketNow m k.val,
        filledAt := m.now.ns })) ∧
  ((m.rgn k.val).lg.resend = [] → (m.rgn k.val).lg.queue ≠ [] → anyActive m k.val = false → (m.fld F.RGN_DAMPER.RATE k.val =
      0 ∨ ((80 * min (20 + ((((m.rgn k.val).lg.queue.map (fun r => if ovfHits m k.val r = true then ovfStub r else r)).take
      (max 1 (takeRecs (m.fld F.RGN_RO_CTRL.FRAME_MAX k.val * 1024) 20 ((m.rgn k.val).lg.queue.map (fun r => if ovfHits m
      k.val r = true then ovfStub r else r))).length)).map recSize).foldl (· + ·) 0) (m.fld F.RGN_DAMPER.BURST k.val * 1024)
      : Nat) : Int) ≤ bucketNow m k.val) → (m.rgn k.val).lg.nextFrame + 1 < 2 ^ 32 →
    After (.frameOpen t k) s fun n => n = { m with
        rgns := n.rgns,
        chans := n.chans,
        stats := n.stats,
        regs := (m.mark F.RGN_RO_OVF.NO_LANE_SEEN k.val).regs,
        wire := .flueFrame none (FlueFrame.bytes {
            seq := (m.rgn k.val).lg.nextFrame,
            lane := 0,
            recs := (((m.rgn k.val).lg.queue.map (fun r => if ovfHits m k.val r = true then ovfStub r else r)).take (max 1
              (takeRecs (m.fld F.RGN_RO_CTRL.FRAME_MAX k.val * 1024) 20 ((m.rgn k.val).lg.queue.map (fun r => if ovfHits m
              k.val r = true then ovfStub r else r))).length)),
            fmt := 1 + m.fld F.RGN_RO_CTRL.FMT k.val,
            status := if m.fld F.RGN_RO_CTRL.FMT k.val = 1 then b2n (m.rgn k.val).lg.ovf + 2 * b2n (m.rgn k.val).lg.waited
              else 0,
            openTime := m.datum / 16 % 2 ^ 32 } k.val 0) :: m.wire,
        log := (if (m.rgn k.val).lg.noLane = true then m else m.logE 0x0402 2 2 k.val 0 0).log } ∧ n.rgn k.val = { m.rgn k.val with
        lg := { (fun g : LaneGroup => { g with queue := g.queue.drop (max 1 (takeRecs (m.fld F.RGN_RO_CTRL.FRAME_MAX k.val * 1024) 20 ((m.rgn k.val).lg.queue.map (fun r => if ovfHits m k.val r = true then ovfStub r else r))).length), nextFrame := g.nextFrame + 1, waited := false, bucket := if m.fld F.RGN_DAMPER.RATE k.val = 0 then g.bucket else bucketNow m k.val - (80 * (20 + ((((m.rgn k.val).lg.queue.map (fun r => if ovfHits m k.val r = true then ovfStub r else r)).take (max 1 (takeRecs (m.fld F.RGN_RO_CTRL.FRAME_MAX k.val * 1024) 20 ((m.rgn k.val).lg.queue.map (fun r => if ovfHits m k.val r = true then ovfStub r else r))).length)).map recSize).foldl (· + ·) 0) : Nat), filledAt := m.now.ns }) (m.rgn k.val).lg with
            noLane := true } } ∧ (∀ x : Nat, x < 12 → x ≠ k.val → n.rgn x = m.rgn x) ∧ n.counter .RGN_RO_DISCARDED k.val =
      (m.count .RGN_RO_DISCARDED k.val 1).counter .RGN_RO_DISCARDED k.val ∧ (∀ c : Nat, c < 192 → n.chan c = { m.chan c with
        mem := { (m.chan c).mem with
            used := (n.chan c).mem.used,
            kept := (n.chan c).mem.kept,
            folds := (n.chan c).mem.folds } })) ∧
  (∀ (f : FlueFrame) (fs : List FlueFrame), (m.rgn k.val).lg.resend = f :: fs → anyActive m k.val = false →
    After (.frameOpen t k) s fun n => n = { m with
        rgns := n.rgns,
        chans := n.chans,
        stats := n.stats,
        regs := (m.mark F.RGN_RO_OVF.NO_LANE_SEEN k.val).regs,
        wire := .flueFrame none (FlueFrame.bytes { f with lane := 0, status := if f.fmt = 2 then f.status ||| 4 else 0 }
          k.val 0) :: m.wire,
        log := (if (m.rgn k.val).lg.noLane = true then m else m.logE 0x0402 2 2 k.val 0 0).log } ∧ n.rgn k.val = { m.rgn k.val with
        lg := { (m.rgn k.val).lg with resend := fs, noLane := true } } ∧ (∀ x : Nat, x < 12 → x ≠ k.val → n.rgn x = m.rgn x)
      ∧ n.counter .RGN_RO_DISCARDED k.val = (m.count .RGN_RO_DISCARDED k.val 1).counter .RGN_RO_DISCARDED k.val) ∧
  ((m.rgn k.val).lg.resend ≠ [] → freeLane m k.val = none → anyActive m k.val = true →
    After (.frameOpen t k) s fun n => n = m) ∧
  ((m.rgn k.val).lg.resend = [] → (m.rgn k.val).lg.queue = [] ∨ (freeLane m k.val = none ∧ anyActive m k.val = true) →
    After (.frameOpen t k) s fun n => n = m) ∧
  (∀ (j : Fin 8) (f : FlueFrame), (roLane m k.val j.val).frame = some f → (roLane m k.val j.val).after = none →
    After (.frameComplete t k j) s fun n => n = { m with rgns := n.rgns, chans := n.chans, stats := n.stats } ∧ n.rgn k.val
      = { m.rgn k.val with
        lg := { (m.rgn k.val).lg with
            lanes := Sparse.mod {} (m.rgn k.val).lg.lanes j.val (fun l => { l with frame := none }) } } ∧ (∀ x : Nat, x < 12
      → x ≠ k.val → n.rgn x = m.rgn x) ∧ (∀ c : Nat, c < 192 → n.chan c = { m.chan c with
        mem := { (m.chan c).mem with
            used := (n.chan c).mem.used,
            kept := (n.chan c).mem.kept,
            folds := (n.chan c).mem.folds } }) ∧ n.counter .RGN_RO_FRAMES k.val = (m.count .RGN_RO_FRAMES k.val 1).counter
      .RGN_RO_FRAMES k.val) ∧
  (∀ (j : Fin 8) (f : FlueFrame) (r : Rec) (i : Nat), (roLane m k.val j.val).frame = some f → (roLane m k.val j.val).after =
      none → f.recs = [r] → r.slot = some i → acqMode m (r.ch / 16) ≠ 0 → (m.chan r.ch).trig.maskStop = false → (m.chan
      r.ch).mem.folds = [] →
    After (.frameComplete t k j) s fun n => n = { (modROLane m k.val j.val (fun l => { l with frame := none })).modMem r.ch (fun y => { y with used := y.used.erase i }) with
        stats := (m.count .RGN_RO_FRAMES k.val 1).stats }) ∧
  (∀ (j : Fin 8) (f : FlueFrame) (r : Rec) (i : Nat) (st : LaneState), (roLane m k.val j.val).frame = some f → (roLane m
      k.val j.val).after = some st → st ≠ .active → f.recs = [r] → r.slot = some i → acqMode m (r.ch / 16) = 0 → m.on
      F.CH_TRIG_CTRL.ARM_MODE r.ch = true → (m.chan r.ch).mem.folds = [] →
    After (.frameComplete t k j) s fun n => n = { (modROLane m k.val j.val (fun l => { l with frame := none, state := st, after := none })).modMem r.ch (fun y => { y with kept := i :: y.kept }) with
        stats := (m.count .RGN_RO_FRAMES k.val 1).stats }) ∧
  (∀ (p : Port) (v : Word), Accepts m p .RGN_DAMPER k.val v →
    After (.damperWrite t p k v) s fun n => n = ((storeReg m .RGN_DAMPER k.val v).modLg k.val (fun g => { g with
        bucket := if m.fld F.RGN_DAMPER.RATE k.val = 0 ∧ F.RGN_DAMPER.RATE.of v ≠ 0 then ((F.RGN_DAMPER.BURST.of v * 1024 *
          80 : Nat) : Int) else min (g.bucket + (m.fld F.RGN_DAMPER.RATE k.val * (m.now.ns - g.filledAt) : Nat))
          ((F.RGN_DAMPER.BURST.of v * 1024 * 80 : Nat) : Int),
        filledAt := m.now.ns })).emit (okPair p .RGN_DAMPER k.val)) ∧
  (∀ a, oldestAge m k.val = some a → m.fld F.RGN_RO_OVF.OVF_AGE k.val ≠ 0 → (m.rgn k.val).lg.ovf = false → m.fld
      F.RGN_RO_OVF.OVF_AGE k.val * 1000 < a →
    After (.overflowEnter t k) s fun n => n = { m.modLg k.val (fun g => { g with ovf := true }) with
        regs := (m.mark F.RGN_RO_OVF.OVF_SEEN k.val).regs,
        log := (m.logE 0x0403 2 2 k.val 0 (a / 1000)).log }) ∧
  ((m.rgn k.val).lg.ovf = true ∨ m.fld F.RGN_RO_OVF.OVF_AGE k.val = 0 ∨ (oldestAge m k.val).any (fun a => decide (m.fld
      F.RGN_RO_OVF.OVF_AGE k.val * 1000 < a)) = false →
    After (.overflowEnter t k) s fun n => n = m) ∧
  ((m.rgn k.val).lg.ovf = true → m.fld F.RGN_RO_OVF.OVF_AGE k.val = 0 ∨ (oldestAge m k.val).all (fun a => decide (a ≤ m.fld
      F.RGN_RO_OVF.OVF_AGE k.val * 500)) = true →
    After (.overflowExit t k) s fun n => n = m.modLg k.val (fun g => { g with ovf := false })) ∧
  (∀ a, (m.rgn k.val).lg.ovf = true → m.fld F.RGN_RO_OVF.OVF_AGE k.val ≠ 0 → oldestAge m k.val = some a → m.fld
      F.RGN_RO_OVF.OVF_AGE k.val * 500 < a →
    After (.overflowExit t k) s fun n => n = m)

/-- R430, R433 to R440, R447, R449: an event is judged JDELAY after its instant: it starts an armed context, stops an open one inside its window, or is
counted; a window that closes gives a TIMEOUT. Enabling a context arms it, disabling it ends it without a result, TIM_TIU_ARM arms the enabled idle contexts
of its mask, a read of TIM_TIU_STAT latches the ticks of the same result. -/
def Obligations.TimeIntervals : Prop := ∀ (s : State) (t : Stamp) (m : Kz), s.kz.advance t = m →
  (∀ (c : Chan) (i : Nat) (r : List Nat), (m.chan c.val).trig.tiuOut = i :: r →
    After (.tiuEventArrival t c) s fun n => n = (if i + jdelay m < m.inst then { m.modTrig c.val (fun x => { x with tiuOut := r }) with
        stats := (m.count .TIM_TIU_LATE 0 1).stats,
        regs := (m.mark F.TIM_TIU_EVT_STAT.LATE_SEEN 0).regs } else { m.modTrig c.val (fun x => { x with tiuOut := r }) with
        tiu := { m.tiu with queue := tiuPut ⟨6, c.val, i⟩ m.tiu.queue } })) ∧
  (m.tiu.queue.head?.any (fun e => decide (e.inst + jdelay m ≤ m.inst)) = false →
    After (.tiuJudge t) s fun n => n = m) ∧
  (∀ (x : Fin 32) (e : TiuEvent), m.tiu.queue = [e] → e.inst + jdelay m ≤ m.inst → (tiuCtx m x.val).state = .armed →
      ofSource e (m.fld F.TIM_TIU_CFG.START_SRC x.val) (m.fld F.TIM_TIU_CFG.START_ARG x.val) = true →
    After (.tiuJudge t) s fun n => n = { m with tiu := n.tiu, regs := n.regs, stats := n.stats } ∧ n.tiu = { m.tiu with
        queue := [],
        ctx := n.tiu.ctx } ∧ n.regs.cfg = m.regs.cfg ∧ tiuCtx n x.val = { (tiuCtx m x.val) with
        state := .open_,
        start := e.inst }) ∧
  (∀ (x : Fin 32) (e : TiuEvent), m.tiu.queue = [e] → e.inst + jdelay m ≤ m.inst → (tiuCtx m x.val).state = .idle ∨ ((tiuCtx
      m x.val).state = .armed ∧ ofSource e (m.fld F.TIM_TIU_CFG.START_SRC x.val) (m.fld F.TIM_TIU_CFG.START_ARG x.val) =
      false) →
    After (.tiuJudge t) s fun n => n = { m with tiu := n.tiu, regs := n.regs, stats := n.stats } ∧ n.tiu = { m.tiu with
        queue := [],
        ctx := n.tiu.ctx } ∧ n.regs.cfg = m.regs.cfg ∧ tiuCtx n x.val = (tiuCtx m x.val)) ∧
  (∀ (x : Fin 32) (e : TiuEvent), m.tiu.queue = [e] → e.inst + jdelay m ≤ m.inst → (tiuCtx m x.val).state = .open_ → (tiuCtx
      m x.val).start + tiuOpen m x.val ≤ e.inst → (tiuCtx m x.val).start < e.inst → e.inst < (tiuCtx m x.val).start +
      tiuClose m x.val → ofSource e (m.fld F.TIM_TIU_CFG.STOP_SRC x.val) (m.fld F.TIM_TIU_CFG.STOP_ARG x.val) = true → m.on
      F.TIM_TIU_CFG.CHAIN x.val = false ∨ m.on F.TIM_TIU_CFG.MODE x.val = false ∨ ofSource e (m.fld F.TIM_TIU_CFG.START_SRC
      x.val) (m.fld F.TIM_TIU_CFG.START_ARG x.val) = false →
    After (.tiuJudge t) s fun n => n = { m with tiu := n.tiu, regs := n.regs, stats := n.stats } ∧ n.tiu = { m.tiu with
        queue := [],
        ctx := n.tiu.ctx } ∧ n.regs.cfg = m.regs.cfg ∧ tiuCtx n x.val = { (tiuCtx m x.val) with
        outcome := 1,
        ticks := (e.inst - (tiuCtx m x.val).start) / 1024,
        frac := (e.inst - (tiuCtx m x.val).start) % 1024,
        lost := (if m.seen F.TIM_TIU_STAT.NEW x.val = 0 then (tiuCtx m x.val).lost else min 255 ((tiuCtx m x.val).lost + 1)),
        state := (if m.on F.TIM_TIU_CFG.MODE x.val = true then .armed else .idle) }) ∧
  (∀ (x : Fin 32) (e : TiuEvent), m.tiu.queue = [e] → e.inst + jdelay m ≤ m.inst → (tiuCtx m x.val).state = .open_ → (tiuCtx
      m x.val).start + tiuOpen m x.val ≤ e.inst → (tiuCtx m x.val).start < e.inst → e.inst < (tiuCtx m x.val).start +
      tiuClose m x.val → ofSource e (m.fld F.TIM_TIU_CFG.STOP_SRC x.val) (m.fld F.TIM_TIU_CFG.STOP_ARG x.val) = true → m.on
      F.TIM_TIU_CFG.CHAIN x.val = true → m.on F.TIM_TIU_CFG.MODE x.val = true → ofSource e (m.fld F.TIM_TIU_CFG.START_SRC
      x.val) (m.fld F.TIM_TIU_CFG.START_ARG x.val) = true →
    After (.tiuJudge t) s fun n => n = { m with tiu := n.tiu, regs := n.regs, stats := n.stats } ∧ n.tiu = { m.tiu with
        queue := [],
        ctx := n.tiu.ctx } ∧ n.regs.cfg = m.regs.cfg ∧ tiuCtx n x.val = { (tiuCtx m x.val) with
        outcome := 1,
        ticks := (e.inst - (tiuCtx m x.val).start) / 1024,
        frac := (e.inst - (tiuCtx m x.val).start) % 1024,
        lost := (if m.seen F.TIM_TIU_STAT.NEW x.val = 0 then (tiuCtx m x.val).lost else min 255 ((tiuCtx m x.val).lost + 1)),
        state := .open_,
        start := e.inst }) ∧
  (∀ (x : Fin 32) (e : TiuEvent), m.tiu.queue = [e] → e.inst + jdelay m ≤ m.inst → (tiuCtx m x.val).state = .open_ → e.inst
      < (tiuCtx m x.val).start + tiuClose m x.val → ofSource e (m.fld F.TIM_TIU_CFG.STOP_SRC x.val) (m.fld
      F.TIM_TIU_CFG.STOP_ARG x.val) = false ∨ e.inst < (tiuCtx m x.val).start + tiuOpen m x.val ∨ e.inst ≤ (tiuCtx m
      x.val).start →
    After (.tiuJudge t) s fun n => n = { m with tiu := n.tiu, regs := n.regs, stats := n.stats } ∧ n.tiu = { m.tiu with
        queue := [],
        ctx := n.tiu.ctx } ∧ n.regs.cfg = m.regs.cfg ∧ tiuCtx n x.val = (tiuCtx m x.val)) ∧
  (∀ (x : Fin 32), m.tiu.queue = [] → (tiuCtx m x.val).state = .open_ → (tiuCtx m x.val).start + tiuClose m x.val + jdelay m
      ≤ m.inst →
    After (.tiuTimeout t x) s fun n => n = { m with tiu := n.tiu, regs := n.regs, stats := n.stats } ∧ n.tiu = { m.tiu with
        queue := [],
        ctx := n.tiu.ctx } ∧ n.regs.cfg = m.regs.cfg ∧ (∀ y : Nat, y < 32 → y ≠ x.val → tiuCtx n y = tiuCtx m y) ∧ tiuCtx n
      x.val = { (tiuCtx m x.val) with
        outcome := 2,
        ticks := 0xFFFFFFFF,
        frac := 0x3FF,
        lost := (if m.seen F.TIM_TIU_STAT.NEW x.val = 0 then (tiuCtx m x.val).lost else min 255 ((tiuCtx m x.val).lost + 1)),
        state := (if m.on F.TIM_TIU_CFG.MODE x.val = true then .armed else .idle) } ∧ n.seen F.TIM_TIU_STAT.NEW x.val = 1) ∧
  (∀ (x : Fin 32), m.tiu.queue = [] → (tiuCtx m x.val).state ≠ .open_ ∨ m.inst < (tiuCtx m x.val).start + tiuClose m x.val +
      jdelay m →
    After (.tiuTimeout t x) s fun n => n = m) ∧
  (∀ (p : Port) (x : Fin 32) (v : Word), Accepts m p .TIM_TIU_CFG x.val v →
    After (.tiuCfgWrite t p x false v) s fun n => n = ({ storeReg m .TIM_TIU_CFG x.val v with tiu := n.tiu }).emit (okPair p
      .TIM_TIU_CFG x.val) ∧ n.tiu = { m.tiu with ctx := n.tiu.ctx } ∧ (∀ y : Nat, y < 32 → y ≠ x.val → tiuCtx n y = tiuCtx m
      y) ∧ tiuCtx n x.val = (if F.TIM_TIU_CFG.EN.of v = 0 then { (tiuCtx m x.val) with state := .idle } else if (tiuCtx m
      x.val).state = .idle then { (tiuCtx m x.val) with state := .armed } else (tiuCtx m x.val))) ∧
  (∀ (p : Port) (x : Fin 32) (v : Word), Accepts m p .TIM_TIU_WIN x.val v →
    After (.tiuCfgWrite t p x true v) s fun n => n = (storeReg m .TIM_TIU_WIN x.val v).emit (okPair p .TIM_TIU_WIN x.val)) ∧
  (∀ (p : Port) (v : Word), Accepts m p .TIM_TIU_ARM 0 v →
    After (.tiuArm t p v) s fun n => n = ({ storeReg m .TIM_TIU_ARM 0 v with tiu := n.tiu }).emit (okPair p .TIM_TIU_ARM 0)
      ∧ n.tiu = { m.tiu with ctx := n.tiu.ctx } ∧ (∀ y : Nat, y < 32 → tiuCtx n y = if v.toNat.testBit y = true ∧ m.on
      F.TIM_TIU_CFG.EN y = true ∧ (tiuCtx m y).state = .idle then { tiuCtx m y with state := .armed } else tiuCtx m y)) ∧
  (∀ (p : Port) (x : Fin 32), Reaches m p .TIM_TIU_STAT x.val →
    After (.tiuStatRead t p x) s fun n => n = { m with
        tiu := n.tiu,
        wire := .readValue p (RegKind.addr .TIM_TIU_STAT x.val) (readReg n .TIM_TIU_STAT x.val) :: m.wire } ∧ n.tiu = { m.tiu with
        ctx := n.tiu.ctx } ∧ (∀ y : Nat, y < 32 → y ≠ x.val → tiuCtx n y = tiuCtx m y) ∧ tiuCtx n x.val = { (tiuCtx m x.val) with
        latched := (tiuCtx m x.val).ticks } ∧ roModule n .TIM_TIU_TICKS x.val = (tiuCtx m x.val).ticks)

/-- R441 to R443, R453: START begins a gate and any other write ends the one in progress; a gate's end gives the frequency of its periods,
rounded to one of the two nearest steps, or NO_SIGNAL when no edge came; a read of the status latches the result. -/
def Obligations.FrequencyCounter : Prop := ∀ (s : State) (t : Stamp) (m : Kz), s.kz.advance t = m →
  (∀ (p : Port) (v : Word), Accepts m p .TIM_FREQ_CFG 0 v →
    After (.freqStart t p v) s fun n => n = ({ storeReg m .TIM_FREQ_CFG 0 v with
        tiu := { m.tiu with gating := decide (F.TIM_FREQ_CFG.START.of v = 1), gateNs := m.now.ns } }).emit (okPair p
      .TIM_FREQ_CFG 0)) ∧
  (∀ (p : Port) (v : Word), Accepts m p .TIM_FREQ_CFG 0 v →
    After (.freqCfgWrite t p v) s fun n => n = ({ storeReg m .TIM_FREQ_CFG 0 v with
        tiu := { m.tiu with gating := decide (F.TIM_FREQ_CFG.START.of v = 1), gateNs := m.now.ns } }).emit (okPair p
      .TIM_FREQ_CFG 0)) ∧
  (∀ (k span longest : Nat), m.tiu.gating = true → k ≠ 0 → span ≠ 0 → m.fld F.TIM_FREQ_CFG.GATE_MS 0 * 327680000 ≤ span →
    After (.freqGateEnd t k span longest) s fun n => n = { m with
        tiu := n.tiu,
        fresh := m.fresh + 1,
        regs := (m.mark F.TIM_FREQ_STAT.NEW 0).regs } ∧ n.tiu = { m.tiu with
        freq := n.tiu.freq,
        noSignal := false,
        gap := decide (4 * span < longest * k),
        warm := decide (m.tb.oven = .warm) && decide (m.tb.warmAt + span * 1000 / 327680 ≤ m.now.ns),
        freqSrc := m.fld F.TIM_FREQ_CFG.SRC 0,
        freqSeq := (m.tiu.freqSeq + 1) % 65536,
        gating := m.on F.TIM_FREQ_CFG.CONT 0,
        gateNs := m.now.ns } ∧ (n.tiu.freq = ((k * 327680000000 * 2 ^ 32 * (((10 ^ 12 : Nat) : Int) + trimNow m).toNat) /
      (span * 10 ^ 12)) % 2 ^ 64 ∨ n.tiu.freq = (((k * 327680000000 * 2 ^ 32 * (((10 ^ 12 : Nat) : Int) + trimNow m).toNat)
      / (span * 10 ^ 12)) + 1) % 2 ^ 64) ∧ ((k * 327680000000 * 2 ^ 32 * (((10 ^ 12 : Nat) : Int) + trimNow m).toNat) %
      (span * 10 ^ 12) = 0 → n.tiu.freq = ((k * 327680000000 * 2 ^ 32 * (((10 ^ 12 : Nat) : Int) + trimNow m).toNat) / (span
      * 10 ^ 12)) % 2 ^ 64)) ∧
  (m.tiu.gating = true → m.tiu.gateNs + (m.fld F.TIM_FREQ_CFG.GATE_MS 0 * 1000000 + 1000000000) ≤ m.now.ns →
    After (.freqNoSignal t) s fun n => n = { m with tiu := n.tiu, regs := (m.mark F.TIM_FREQ_STAT.NEW 0).regs } ∧ n.tiu = { m.tiu with
        freq := n.tiu.freq,
        noSignal := true,
        gap := false,
        warm := decide (m.tb.oven = .warm) && decide (m.tb.warmAt + (m.fld F.TIM_FREQ_CFG.GATE_MS 0 * 1000000 + 1000000000)
          ≤ m.now.ns),
        freqSrc := m.fld F.TIM_FREQ_CFG.SRC 0,
        freqSeq := (m.tiu.freqSeq + 1) % 65536,
        gating := m.on F.TIM_FREQ_CFG.CONT 0,
        gateNs := m.now.ns } ∧ n.tiu.freq = 0) ∧
  (m.tiu.gating = false ∨ m.now.ns < m.tiu.gateNs + (m.fld F.TIM_FREQ_CFG.GATE_MS 0 * 1000000 + 1000000000) →
    After (.freqNoSignal t) s fun n => n = m) ∧
  (∀ (p : Port), Reaches m p .TIM_FREQ_STAT 0 →
    After (.freqStatRead t p) s fun n => n = { m with
        tiu := { m.tiu with freqLatch := m.tiu.freq },
        wire := .readValue p (RegKind.addr .TIM_FREQ_STAT 0) (readReg n .TIM_FREQ_STAT 0) :: m.wire } ∧ roModule n
      .TIM_FREQ_HI 0 = m.tiu.freq / 2 ^ 32 ∧ roModule n .TIM_FREQ_LO 0 = m.tiu.freq % 2 ^ 32)

/-- R459 to R463, R467, R469: at an output-period boundary the output of the period is formed, a changed configuration takes effect and
settles, and a due check starts unless the peak is too large, when it is skipped and counted. -/
def Obligations.SensorBoundaries : Prop := ∀ (s : State) (t : Stamp) (m : Kz) (k : Fin 24), s.kz.advance t = m →
  (∀ (p : Port) (v : Word), Accepts m p .SNS_CFG k.val v →
    After (.snsCfgWrite t p k v) s fun n => n = (storeReg m .SNS_CFG k.val v).emit (okPair p .SNS_CFG k.val)) ∧
  (∀ peak, powered m.pwr.state = false ∨ m.now.ns < ((sns m k.val).last + snsPeriod (sns m k.val).cfg) →
    After (.snsBoundary t k peak) s fun n => n = m) ∧
  (∀ peak, powered m.pwr.state = true → ((sns m k.val).last + snsPeriod (sns m k.val).cfg) ≤ m.now.ns → F.SNS_CFG.EN.of (sns
      m k.val).cfg = 1 → (m.cfgWord .SNS_CFG k.val) = (sns m k.val).cfg → m.fld F.SNS_CHK.CHK_INT k.val = 0 ∨ ((sns m
      k.val).chkDue = false ∧ ((sns m k.val).last + snsPeriod (sns m k.val).cfg) < (sns m k.val).chkBase + m.fld
      F.SNS_CHK.CHK_INT k.val * 1000000000) →
    After (.snsBoundary t k peak) s fun n => n = modSns m k.val (fun x => { x with
        last := ((sns m k.val).last + snsPeriod (sns m k.val).cfg),
        forming := some ⟨((sns m k.val).last + snsPeriod (sns m k.val).cfg) + 2 * snsExc x.cfg + 1000000, x.open_ ||
          x.spoiled, x.settle != 0⟩,
        spoiled := false,
        settle := x.settle - 1 })) ∧
  (∀ peak, powered m.pwr.state = true → ((sns m k.val).last + snsPeriod (sns m k.val).cfg) ≤ m.now.ns → F.SNS_CFG.EN.of (sns
      m k.val).cfg = 0 → (m.cfgWord .SNS_CFG k.val) = (sns m k.val).cfg →
    After (.snsBoundary t k peak) s fun n => n = modSns m k.val (fun x => { x with
        last := ((sns m k.val).last + snsPeriod (sns m k.val).cfg) })) ∧
  (∀ peak, powered m.pwr.state = true → ((sns m k.val).last + snsPeriod (sns m k.val).cfg) ≤ m.now.ns → F.SNS_CFG.EN.of (sns
      m k.val).cfg = 0 → F.SNS_CFG.EN.of (m.cfgWord .SNS_CFG k.val) = 1 → (sns m k.val).checking = none →
    After (.snsBoundary t k peak) s fun n => n = modSns m k.val (fun x => { x with
        last := ((sns m k.val).last + snsPeriod (sns m k.val).cfg),
        cfg := (m.cfgWord .SNS_CFG k.val),
        settle := 4,
        valid := false,
        seq := 0,
        open_ := false,
        short := false,
        out := {},
        chkBase := ((sns m k.val).last + snsPeriod (sns m k.val).cfg),
        chkDue := false,
        forming := none,
        spoiled := false,
        sums := [] })) ∧
  (∀ peak, powered m.pwr.state = true → ((sns m k.val).last + snsPeriod (sns m k.val).cfg) ≤ m.now.ns → F.SNS_CFG.EN.of (sns
      m k.val).cfg = 1 → F.SNS_CFG.EN.of (m.cfgWord .SNS_CFG k.val) = 0 → (sns m k.val).checking = none →
    After (.snsBoundary t k peak) s fun n => n = modSns m k.val (fun x => { x with
        last := ((sns m k.val).last + snsPeriod (sns m k.val).cfg),
        cfg := (m.cfgWord .SNS_CFG k.val),
        settle := x.settle - 1,
        spoiled := false,
        forming := none,
        open_ := false,
        chkDue := false })) ∧
  (∀ peak, powered m.pwr.state = true → ((sns m k.val).last + snsPeriod (sns m k.val).cfg) ≤ m.now.ns → F.SNS_CFG.EN.of (sns
      m k.val).cfg = 1 → F.SNS_CFG.EN.of (m.cfgWord .SNS_CFG k.val) = 1 → F.SNS_CFG.FREQ.of (sns m k.val).cfg ≠
      F.SNS_CFG.FREQ.of (m.cfgWord .SNS_CFG k.val) ∨ F.SNS_CFG.AMPL.of (sns m k.val).cfg ≠ F.SNS_CFG.AMPL.of (m.cfgWord
      .SNS_CFG k.val) ∨ F.SNS_CFG.RATE.of (sns m k.val).cfg ≠ F.SNS_CFG.RATE.of (m.cfgWord .SNS_CFG k.val) → (sns m
      k.val).checking = none →
    After (.snsBoundary t k peak) s fun n => n = modSns m k.val (fun x => { x with
        last := ((sns m k.val).last + snsPeriod (sns m k.val).cfg),
        forming := some ⟨((sns m k.val).last + snsPeriod (sns m k.val).cfg) + 2 * snsExc x.cfg + 1000000, x.open_ ||
          x.spoiled, x.settle != 0⟩,
        spoiled := false,
        cfg := (m.cfgWord .SNS_CFG k.val),
        settle := 4 })) ∧
  (∀ peak, powered m.pwr.state = true → ((sns m k.val).last + snsPeriod (sns m k.val).cfg) ≤ m.now.ns → F.SNS_CFG.EN.of (sns
      m k.val).cfg = 1 → (m.cfgWord .SNS_CFG k.val) = (sns m k.val).cfg → m.fld F.SNS_CHK.CHK_INT k.val ≠ 0 → (sns m
      k.val).chkDue = true ∨ (sns m k.val).chkBase + m.fld F.SNS_CHK.CHK_INT k.val * 1000000000 ≤ ((sns m k.val).last +
      snsPeriod (sns m k.val).cfg) → (sns m k.val).open_ = false ∧ (sns m k.val).out.open_ = false ∧ (sns m k.val).short =
      false ∧ (sns m k.val).out.settling = false ∧ (sns m k.val).settle = 0 → (sns m k.val).checking = none → peak ≤ 1800 →
    After (.snsBoundary t k peak) s fun n => n = modSns m k.val (fun x => { x with
        last := ((sns m k.val).last + snsPeriod (sns m k.val).cfg),
        forming := some ⟨((sns m k.val).last + snsPeriod (sns m k.val).cfg) + 2 * snsExc x.cfg + 1000000, x.open_ ||
          x.spoiled, x.settle != 0⟩,
        spoiled := false,
        settle := x.settle - 1,
        chkDue := false,
        chkBase := ((sns m k.val).last + snsPeriod (sns m k.val).cfg),
        checking := some (((sns m k.val).last + snsPeriod (sns m k.val).cfg) + 64 * snsExc x.cfg) })) ∧
  (∀ peak, powered m.pwr.state = true → ((sns m k.val).last + snsPeriod (sns m k.val).cfg) ≤ m.now.ns → F.SNS_CFG.EN.of (sns
      m k.val).cfg = 1 → (m.cfgWord .SNS_CFG k.val) = (sns m k.val).cfg → m.fld F.SNS_CHK.CHK_INT k.val ≠ 0 → (sns m
      k.val).chkDue = true ∨ (sns m k.val).chkBase + m.fld F.SNS_CHK.CHK_INT k.val * 1000000000 ≤ ((sns m k.val).last +
      snsPeriod (sns m k.val).cfg) → (sns m k.val).open_ = false ∧ (sns m k.val).out.open_ = false ∧ (sns m k.val).short =
      false ∧ (sns m k.val).out.settling = false ∧ (sns m k.val).settle = 0 → (sns m k.val).checking = none → 1800 < peak →
    After (.snsBoundary t k peak) s fun n => n = { modSns m k.val (fun x => { x with last := ((sns m k.val).last + snsPeriod (sns m k.val).cfg), forming := some ⟨((sns m k.val).last + snsPeriod (sns m k.val).cfg) + 2 * snsExc x.cfg + 1000000, x.open_ || x.spoiled, x.settle != 0⟩, spoiled := false, settle := x.settle - 1, chkDue := false, chkBase := ((sns m k.val).last + snsPeriod (sns m k.val).cfg) }) with
        stats := (m.count .SNS_CHK_SKIP 0 1).stats })

/-- R460 to R466, R470, R481: an output is published with its value and its impedance, or with OPEN or SETTLING and its old value; a new
SHORT, a new OPEN and a bad contact notify; a read of SNS_STAT latches the output. -/
def Obligations.SensorOutputs : Prop := ∀ (s : State) (t : Stamp) (m : Kz) (k : Fin 24), s.kz.advance t = m →
  (∀ (re im : Int) (q : SnsForming), snsRuns m k.val = true → (sns m k.val).forming = some q → q.due ≤ m.now.ns → q.open_ =
      true ∨ q.settling = true →
    After (.snsOutputPublish t k re im) s fun n => n = modSns m k.val (fun x => { x with
        forming := none,
        seq := (x.seq + 1) % 65536,
        sums := snsSums (sns m k.val) re im,
        out := { x.out with open_ := q.open_, settling := q.settling, short := x.short } })) ∧
  (∀ (re im : Int) (q : SnsForming), snsRuns m k.val = true → (sns m k.val).forming = some q → q.due ≤ m.now.ns → q.open_ =
      false → q.settling = false → (decide ((satS 32 (snsWeigh m ((snsSums (sns m k.val) re im).map (fun z =>
      z.1))).1).natAbs ^ 2 + (satS 32 (snsWeigh (snsWeigh m ((snsSums (sns m k.val) re im).map (fun z => z.1))).2 ((snsSums
      (sns m k.val) re im).map (fun z => z.2))).1).natAbs ^ 2 < 1000000)) = false →
    After (.snsOutputPublish t k re im) s fun n => n = { modSns m k.val (fun x => { x with forming := none, seq := (x.seq + 1) % 65536, sums := snsSums (sns m k.val) re im, short := false, valid := true, out := { open_ := false, settling := false, short := false, range := (linearise (snsWeigh (snsWeigh m ((snsSums (sns m k.val) re im).map (fun z => z.1))).2 ((snsSums (sns m k.val) re im).map (fun z => z.2))).2 k.val (sns m k.val).cfg (satS 32 (snsWeigh m ((snsSums (sns m k.val) re im).map (fun z => z.1))).1) (satS 32 (snsWeigh (snsWeigh m ((snsSums (sns m k.val) re im).map (fun z => z.1))).2 ((snsSums (sns m k.val) re im).map (fun z => z.2))).1)).1.2, value := toU 32 (linearise (snsWeigh (snsWeigh m ((snsSums (sns m k.val) re im).map (fun z => z.1))).2 ((snsSums (sns m k.val) re im).map (fun z => z.2))).2 k.val (sns m k.val).cfg (satS 32 (snsWeigh m ((snsSums (sns m k.val) re im).map (fun z => z.1))).1) (satS 32 (snsWeigh (snsWeigh m ((snsSums (sns m k.val) re im).map (fun z => z.1))).2 ((snsSums (sns m k.val) re im).map (fun z => z.2))).1)).1.1, re := (satS 32 (snsWeigh m ((snsSums (sns m k.val) re im).map (fun z => z.1))).1), im := (satS 32 (snsWeigh (snsWeigh m ((snsSums (sns m k.val) re im).map (fun z => z.1))).2 ((snsSums (sns m k.val) re im).map (fun z => z.2))).1) } }) with
        fresh := (linearise (snsWeigh (snsWeigh m ((snsSums (sns m k.val) re im).map (fun z => z.1))).2 ((snsSums (sns m
          k.val) re im).map (fun z => z.2))).2 k.val (sns m k.val).cfg (satS 32 (snsWeigh m ((snsSums (sns m k.val) re
          im).map (fun z => z.1))).1) (satS 32 (snsWeigh (snsWeigh m ((snsSums (sns m k.val) re im).map (fun z => z.1))).2
          ((snsSums (sns m k.val) re im).map (fun z => z.2))).1)).2.fresh }) ∧
  (∀ (re im : Int) (q : SnsForming), snsRuns m k.val = true → (sns m k.val).forming = some q → q.due ≤ m.now.ns → q.open_ =
      false → q.settling = false → (decide ((satS 32 (snsWeigh m ((snsSums (sns m k.val) re im).map (fun z =>
      z.1))).1).natAbs ^ 2 + (satS 32 (snsWeigh (snsWeigh m ((snsSums (sns m k.val) re im).map (fun z => z.1))).2 ((snsSums
      (sns m k.val) re im).map (fun z => z.2))).1).natAbs ^ 2 < 1000000)) = true → F.SNS_CFG.CURVE.of (sns m k.val).cfg ≠ 0
      → (sns m k.val).short = true →
    After (.snsOutputPublish t k re im) s fun n => n = { modSns m k.val (fun x => { x with forming := none, seq := (x.seq + 1) % 65536, sums := snsSums (sns m k.val) re im, out := { x.out with open_ := false, settling := false, short := true } }) with
        fresh := (linearise (snsWeigh (snsWeigh m ((snsSums (sns m k.val) re im).map (fun z => z.1))).2 ((snsSums (sns m
          k.val) re im).map (fun z => z.2))).2 k.val (sns m k.val).cfg (satS 32 (snsWeigh m ((snsSums (sns m k.val) re
          im).map (fun z => z.1))).1) (satS 32 (snsWeigh (snsWeigh m ((snsSums (sns m k.val) re im).map (fun z => z.1))).2
          ((snsSums (sns m k.val) re im).map (fun z => z.2))).1)).2.fresh }) ∧
  (∀ (re im : Int) (q : SnsForming), snsRuns m k.val = true → (sns m k.val).forming = some q → q.due ≤ m.now.ns → q.open_ =
      false → q.settling = false → (decide ((satS 32 (snsWeigh m ((snsSums (sns m k.val) re im).map (fun z =>
      z.1))).1).natAbs ^ 2 + (satS 32 (snsWeigh (snsWeigh m ((snsSums (sns m k.val) re im).map (fun z => z.1))).2 ((snsSums
      (sns m k.val) re im).map (fun z => z.2))).1).natAbs ^ 2 < 1000000)) = true → F.SNS_CFG.CURVE.of (sns m k.val).cfg = 0
      → (sns m k.val).short = false →
    After (.snsOutputPublish t k re im) s fun n => n = snsAlert { modSns m k.val (fun x => { x with forming := none, seq := (x.seq + 1) % 65536, sums := snsSums (sns m k.val) re im, short := true, valid := true, out := { open_ := false, settling := false, short := true, range := (linearise (snsWeigh (snsWeigh m ((snsSums (sns m k.val) re im).map (fun z => z.1))).2 ((snsSums (sns m k.val) re im).map (fun z => z.2))).2 k.val (sns m k.val).cfg (satS 32 (snsWeigh m ((snsSums (sns m k.val) re im).map (fun z => z.1))).1) (satS 32 (snsWeigh (snsWeigh m ((snsSums (sns m k.val) re im).map (fun z => z.1))).2 ((snsSums (sns m k.val) re im).map (fun z => z.2))).1)).1.2, value := toU 32 (linearise (snsWeigh (snsWeigh m ((snsSums (sns m k.val) re im).map (fun z => z.1))).2 ((snsSums (sns m k.val) re im).map (fun z => z.2))).2 k.val (sns m k.val).cfg (satS 32 (snsWeigh m ((snsSums (sns m k.val) re im).map (fun z => z.1))).1) (satS 32 (snsWeigh (snsWeigh m ((snsSums (sns m k.val) re im).map (fun z => z.1))).2 ((snsSums (sns m k.val) re im).map (fun z => z.2))).1)).1.1, re := (satS 32 (snsWeigh m ((snsSums (sns m k.val) re im).map (fun z => z.1))).1), im := (satS 32 (snsWeigh (snsWeigh m ((snsSums (sns m k.val) re im).map (fun z => z.1))).2 ((snsSums (sns m k.val) re im).map (fun z => z.2))).1) } }) with
        fresh := (linearise (snsWeigh (snsWeigh m ((snsSums (sns m k.val) re im).map (fun z => z.1))).2 ((snsSums (sns m
          k.val) re im).map (fun z => z.2))).2 k.val (sns m k.val).cfg (satS 32 (snsWeigh m ((snsSums (sns m k.val) re
          im).map (fun z => z.1))).1) (satS 32 (snsWeigh (snsWeigh m ((snsSums (sns m k.val) re im).map (fun z => z.1))).2
          ((snsSums (sns m k.val) re im).map (fun z => z.2))).1)).2.fresh,
        regs := (m.mark F.SNS_STAT.SHORT_SEEN k.val).regs } k.val) ∧
  (∀ (re im : Int), snsRuns m k.val = false ∨ (sns m k.val).forming = none →
    After (.snsOutputPublish t k re im) s fun n => n = m) ∧
  (snsRuns m k.val = true → (sns m k.val).open_ = false → (sns m k.val).checking.all (fun e => decide (e ≤ m.now.ns)) = true
      →
    After (.snsOpen t k) s fun n => n = snsAlert { modSns m k.val (fun x => { x with open_ := true, spoiled := x.forming.isNone, forming := x.forming.map (fun q => { q with open_ := true }) }) with
        regs := (m.mark F.SNS_STAT.OPEN_SEEN k.val).regs,
        stats := (m.count .SNS_OPEN_COUNT 0 1).stats } k.val) ∧
  (snsRuns m k.val = true → (sns m k.val).open_ = false → (sns m k.val).checking.any (fun e => decide (m.now.ns < e)) = true
      →
    After (.snsOpen t k) s fun n => n = snsAlert { modSns m k.val (fun x => { x with open_ := true, spoiled := x.forming.isNone, forming := x.forming.map (fun q => { q with open_ := true }), checking := none, chkDue := true }) with
        regs := ((m.mark F.SNS_STAT.OPEN_SEEN k.val).mark F.SNS_STAT.CHK_ABANDON_SEEN k.val).regs,
        stats := (m.count .SNS_OPEN_COUNT 0 1).stats } k.val) ∧
  (snsRuns m k.val = false ∨ (sns m k.val).open_ = true →
    After (.snsOpen t k) s fun n => n = m) ∧
  ((sns m k.val).open_ = true →
    After (.snsOpenClear t k) s fun n => n = modSns m k.val (fun x => { x with open_ := false, settle := 4 })) ∧
  (snsRuns m k.val = true → m.fld F.SNS_CHK.CHK_INT k.val ≠ 0 → (sns m k.val).chkBase + m.fld F.SNS_CHK.CHK_INT k.val *
      1000000000 ≤ m.now.ns →
    After (.snsCheckDue t k) s fun n => n = modSns m k.val (fun x => { x with chkDue := true })) ∧
  (snsRuns m k.val = false ∨ m.fld F.SNS_CHK.CHK_INT k.val = 0 ∨ m.now.ns < (sns m k.val).chkBase + m.fld F.SNS_CHK.CHK_INT
      k.val * 1000000000 →
    After (.snsCheckDue t k) s fun n => n = m) ∧
  (∀ (tr ti er ei : Int) (b : Nat), (sns m k.val).checking = some b → b ≤ m.now.ns → m.fld F.SNS_CHK.CONTACT_THR k.val = 0 ∨
      (satS 16 (tr - er)).natAbs ≤ m.fld F.SNS_CHK.CONTACT_THR k.val →
    After (.snsCheckDone t k tr ti er ei) s fun n => n = { modSns m k.val (fun x => { x with checking := none, chkSeq := (x.chkSeq + 1) % 16, contact := satS 16 (tr - er), leadX := (sns n k.val).leadX, contactWarn := false }) with
        fresh := m.fresh + 1 } ∧ (sns n k.val).leadX ∈ [satS 16 ((6 * ti - 4 * ei) / 5), satS 16 ((6 * ti - 4 * ei) / 5 +
      1)]) ∧
  (∀ (tr ti er ei : Int) (b : Nat), (sns m k.val).checking = some b → b ≤ m.now.ns → m.fld F.SNS_CHK.CONTACT_THR k.val ≠ 0 →
      m.fld F.SNS_CHK.CONTACT_THR k.val < (satS 16 (tr - er)).natAbs → (sns m k.val).contactWarn = false →
    After (.snsCheckDone t k tr ti er ei) s fun n => n = snsAlert { modSns m k.val (fun x => { x with checking := none, chkSeq := (x.chkSeq + 1) % 16, contact := satS 16 (tr - er), leadX := (sns n k.val).leadX, contactWarn := true }) with
        fresh := m.fresh + 1,
        regs := (m.mark F.SNS_STAT.CONTACT_SEEN k.val).regs } k.val) ∧
  (∀ (p : Port), Reaches m p .SNS_STAT k.val →
    After (.snsStatRead t p k) s fun n => n = { modSns m k.val (fun x => { x with latch := x.out }) with
        wire := .readValue p (RegKind.addr .SNS_STAT k.val) (readReg n .SNS_STAT k.val) :: m.wire })

/-- R473, R474, R487: the magnitude curve gives the whole milliohm nearest to |Z|, held at 240 kΩ; a platinum sensor at its nominal
resistance reads 0 °C to within one unit, and below its range -200 °C with RANGE; a user table gives its points' values at its points. A
housekeeping code is the input times its gain over the reference, in 1/16,384, rounded down and held at 16,383; OVR tells that it lies at an end. -/
def Obligations.SensorValuesAndConversionCodes : Prop :=
  (∀ (m : Kz) (n : Nat) (w : Word) (re im : Int),
  (F.SNS_CFG.CURVE.of w = 0 → re ^ 2 + im ^ 2 ≤ 57600000000000000 → ∃ v : Nat, linearise m n w re im = (((v : Int), false), m) ∧
    4 * (re ^ 2 + im ^ 2) < (2 * (v : Int) + 1) ^ 2 ∧ (v ≠ 0 → (2 * (v : Int) - 1) ^ 2 ≤ 4 * (re ^ 2 + im ^ 2))) ∧
  (F.SNS_CFG.CURVE.of w = 0 → 57600240000250000 ≤ re ^ 2 + im ^ 2 → linearise m n w re im = ((240000000, true), m)) ∧
  (F.SNS_CFG.CURVE.of w = 1 → re = m.fld F.SNS_LEAD.LEAD_R n + 100000 →
    (linearise m n w re im).1.1 ∈ [-1, 0, 1] ∧ (linearise m n w re im).1.2 = false) ∧
  (F.SNS_CFG.CURVE.of w = 1 → re = m.fld F.SNS_LEAD.LEAD_R n → (linearise m n w re im).1 = (-200000, true)) ∧
  (F.SNS_CFG.CURVE.of w = 9 → ∀ j : Nat, j < 31 → (∀ i : Nat, i < 31 →
      tableX m (F.SNS_CFG.USET.of w) i < tableX m (F.SNS_CFG.USET.of w) (i + 1)) →
    re = (m.fld F.SNS_LEAD.LEAD_R n + tableX m (F.SNS_CFG.USET.of w) (j + 1) : Nat) →
    (linearise m n w re im).1 = (tableY m (F.SNS_CFG.USET.of w) (j + 1), false))) ∧
  (∀ (m : Kz) (gain vin vref : Nat), 0 < vref →
    hkCode m gain vin vref = ((min 16383 (vin * 2 ^ gain * 16384 / vref),
      decide (vin * 2 ^ gain * 16384 < vref) || decide (16383 * vref ≤ vin * 2 ^ gain * 16384)), m))


/-- R487, R490 to R497, R499, R508, R515: RUN starts a traverse that latches the configuration, RUN 0 stops at the end of the entry and RESTART starts afresh;
a change of the reference or its buffer makes the converter unsettled for 2 ms. A conversion's end stores its result with its flags and goes on to the next
entry, the cross-check slot, or the end of the traverse; the first settled result outside its window is marked and notified. -/
def Obligations.HousekeepingTraverses : Prop := ∀ (s : State) (t : Stamp) (m : Kz) (c : Fin 2), s.kz.advance t = m →
  (∀ (p : Port) (v : Word), Accepts m p .HK_CTRL 0 v → HkStill m (1 - c.val) v → (hkOf c.val F.HK_CTRL.REF_A
      F.HK_CTRL.REF_B).of v = m.fld (hkOf c.val F.HK_CTRL.REF_A F.HK_CTRL.REF_B) 0 → (hkOf c.val F.HK_CTRL.REFBUF_EN_A
      F.HK_CTRL.REFBUF_EN_B).of v = m.fld (hkOf c.val F.HK_CTRL.REFBUF_EN_A F.HK_CTRL.REFBUF_EN_B) 0 → (hkOf c.val
      F.HK_CTRL.RUN_A F.HK_CTRL.RUN_B).of v = 1 → (hkConv m c.val).running = false → (hkConv m c.val).urgent = none →
    After (.hkRunStart t p v) s fun n => n = { (storeReg m .HK_CTRL 0 v) with
        hk := traversed (storeReg m .HK_CTRL 0 v) c.val true m.now.ns m.hk }.emit (okPair p .HK_CTRL 0)) ∧
  (∀ (p : Port) (v : Word), Accepts m p .HK_CTRL 0 v → HkStill m (1 - c.val) v → (hkOf c.val F.HK_CTRL.REF_A
      F.HK_CTRL.REF_B).of v = m.fld (hkOf c.val F.HK_CTRL.REF_A F.HK_CTRL.REF_B) 0 → (hkOf c.val F.HK_CTRL.REFBUF_EN_A
      F.HK_CTRL.REFBUF_EN_B).of v = m.fld (hkOf c.val F.HK_CTRL.REFBUF_EN_A F.HK_CTRL.REFBUF_EN_B) 0 → (hkOf c.val
      F.HK_CTRL.RUN_A F.HK_CTRL.RUN_B).of v = 0 → (hkConv m c.val).running = true →
    After (.hkRunStop t p v) s fun n => n = (modConvHk (storeReg m .HK_CTRL 0 v) c.val (fun x => { x with stopDue := true })).emit
      (okPair p .HK_CTRL 0)) ∧
  (∀ (p : Port) (v : Word), Accepts m p .HK_CTRL 0 v → HkStill m (1 - c.val) v → (hkOf c.val F.HK_CTRL.REF_A
      F.HK_CTRL.REF_B).of v = m.fld (hkOf c.val F.HK_CTRL.REF_A F.HK_CTRL.REF_B) 0 → (hkOf c.val F.HK_CTRL.REFBUF_EN_A
      F.HK_CTRL.REFBUF_EN_B).of v = m.fld (hkOf c.val F.HK_CTRL.REFBUF_EN_A F.HK_CTRL.REFBUF_EN_B) 0 → (hkOf c.val
      F.HK_CTRL.RUN_A F.HK_CTRL.RUN_B).of v = 1 → (hkOf c.val F.HK_CTRL.RESTART_A F.HK_CTRL.RESTART_B).of v = 1 → (hkConv m
      c.val).running = true →
    After (.hkRestart t p v) s fun n => n = (modConvHk (storeReg m .HK_CTRL 0 v) c.val (fun x => { x with
        restartDue := true })).emit (okPair p .HK_CTRL 0)) ∧
  (∀ (p : Port) (v : Word), Accepts m p .HK_CTRL 0 v → HkStill m (1 - c.val) v → (hkOf c.val F.HK_CTRL.REF_A
      F.HK_CTRL.REF_B).of v ≠ m.fld (hkOf c.val F.HK_CTRL.REF_A F.HK_CTRL.REF_B) 0 ∨ (hkOf c.val F.HK_CTRL.REFBUF_EN_A
      F.HK_CTRL.REFBUF_EN_B).of v ≠ m.fld (hkOf c.val F.HK_CTRL.REFBUF_EN_A F.HK_CTRL.REFBUF_EN_B) 0 → (hkOf c.val
      F.HK_CTRL.RUN_A F.HK_CTRL.RUN_B).of v = 1 → (hkOf c.val F.HK_CTRL.RESTART_A F.HK_CTRL.RESTART_B).of v = 0 → (hkConv m
      c.val).running = true →
    After (.hkRefWrite t p v) s fun n => n = (modConvHk (storeReg m .HK_CTRL 0 v) c.val (fun x => { x with
        settled := false,
        refFrom := m.now.ns })).emit (okPair p .HK_CTRL 0)) ∧
  (∀ (p : Port) (v : Word), Accepts m p .HK_CTRL 0 v → HkStill m (1 - c.val) v → (hkOf c.val F.HK_CTRL.REF_A
      F.HK_CTRL.REF_B).of v ≠ m.fld (hkOf c.val F.HK_CTRL.REF_A F.HK_CTRL.REF_B) 0 ∨ (hkOf c.val F.HK_CTRL.REFBUF_EN_A
      F.HK_CTRL.REFBUF_EN_B).of v ≠ m.fld (hkOf c.val F.HK_CTRL.REFBUF_EN_A F.HK_CTRL.REFBUF_EN_B) 0 → (hkOf c.val
      F.HK_CTRL.RUN_A F.HK_CTRL.RUN_B).of v = 0 → (hkConv m c.val).running = false →
    After (.hkRefWrite t p v) s fun n => n = (modConvHk (storeReg m .HK_CTRL 0 v) c.val (fun x => { x with
        settled := false,
        refFrom := m.now.ns,
        ref := (hkOf c.val F.HK_CTRL.REF_A F.HK_CTRL.REF_B).of v })).emit (okPair p .HK_CTRL 0)) ∧
  (m.on (hkOf c.val F.HK_CTRL.REFBUF_EN_A F.HK_CTRL.REFBUF_EN_B) 0 = true → (hkConv m c.val).refFrom + 2000000 ≤ m.now.ns →
      (hkConv m c.val).ref = m.fld (hkOf c.val F.HK_CTRL.REF_A F.HK_CTRL.REF_B) 0 →
    After (.hkRefSettled t c) s fun n => n = modConvHk m c.val (fun x => { x with settled := true })) ∧
  (m.on (hkOf c.val F.HK_CTRL.REFBUF_EN_A F.HK_CTRL.REFBUF_EN_B) 0 = false ∨ m.now.ns < (hkConv m c.val).refFrom + 2000000 →
    After (.hkRefSettled t c) s fun n => n = m) ∧
  (∀ (vin vref : Nat), (hkConv m c.val).running = true → (hkConv m c.val).entry ≠ 16 → (hkConv m c.val).start + hkTime
      (F.HK_A_ENT.TS.of ((hkConv m c.val).ents.getD (hkConv m c.val).entry 0)) ≤ m.now.ns → (hkConv m c.val).ref = m.fld
      (hkOf c.val F.HK_CTRL.REF_A F.HK_CTRL.REF_B) 0 → (hkConv m c.val).stopDue = false → (hkConv m c.val).restartDue =
      false → (hkConv m c.val).unsettled = false → (hkConv m c.val).entry < (hkConv m c.val).len → (decide ((hkCode m
      (F.HK_A_ENT.GAIN.of ((hkConv m c.val).ents.getD (hkConv m c.val).entry 0)) vin vref).1.1 < F.HK_A_WIN.LO.of ((hkConv m
      c.val).wins.getD (hkConv m c.val).entry 0x3FFF0000)) || decide (F.HK_A_WIN.HI.of ((hkConv m c.val).wins.getD (hkConv m
      c.val).entry 0x3FFF0000) < (hkCode m (F.HK_A_ENT.GAIN.of ((hkConv m c.val).ents.getD (hkConv m c.val).entry 0)) vin
      vref).1.1)) = false ∨ ((Sparse.get ({} : HkRes) (hkConv m c.val).res (hkConv m c.val).entry).outside = true ∧ (hkConv
      m c.val).fresh.testBit (hkConv m c.val).entry = false) → F.HK_A_ENT.INPUT.of ((hkConv m c.val).ents.getD (hkConv m
      c.val).entry 0) < 0x32 ∨ 0x3D < F.HK_A_ENT.INPUT.of ((hkConv m c.val).ents.getD (hkConv m c.val).entry 0) →
    After (.hkConversionDone t c vin vref) s fun n => n = { modConvHk m c.val (fun x => { x with res := Sparse.set x.res x.entry (⟨x.tseq, true, x.unsettled, (hkCode m (F.HK_A_ENT.GAIN.of ((hkConv m c.val).ents.getD (hkConv m c.val).entry 0)) vin vref).1.2, (decide ((hkCode m (F.HK_A_ENT.GAIN.of ((hkConv m c.val).ents.getD (hkConv m c.val).entry 0)) vin vref).1.1 < F.HK_A_WIN.LO.of ((hkConv m c.val).wins.getD (hkConv m c.val).entry 0x3FFF0000)) || decide (F.HK_A_WIN.HI.of ((hkConv m c.val).wins.getD (hkConv m c.val).entry 0x3FFF0000) < (hkCode m (F.HK_A_ENT.GAIN.of ((hkConv m c.val).ents.getD (hkConv m c.val).entry 0)) vin vref).1.1)), (hkCode m (F.HK_A_ENT.GAIN.of ((hkConv m c.val).ents.getD (hkConv m c.val).entry 0)) vin vref).1.1, ((hkConv m c.val).ents.getD (hkConv m c.val).entry 0), ((hkConv m c.val).start + hkTime (F.HK_A_ENT.TS.of ((hkConv m c.val).ents.getD (hkConv m c.val).entry 0))), hkNominal (hkConv m c.val), x.ref⟩), fresh := withBit x.fresh x.entry false, entry := x.entry + 1, start := ((hkConv m c.val).start + hkTime (F.HK_A_ENT.TS.of ((hkConv m c.val).ents.getD (hkConv m c.val).entry 0))), unsettled := !x.settled }) with
        fresh := (hkCode m (F.HK_A_ENT.GAIN.of ((hkConv m c.val).ents.getD (hkConv m c.val).entry 0)) vin vref).2.fresh }) ∧
  (∀ (vin vref : Nat), (hkConv m c.val).running = true → (hkConv m c.val).entry ≠ 16 → (hkConv m c.val).start + hkTime
      (F.HK_A_ENT.TS.of ((hkConv m c.val).ents.getD (hkConv m c.val).entry 0)) ≤ m.now.ns → (hkConv m c.val).ref = m.fld
      (hkOf c.val F.HK_CTRL.REF_A F.HK_CTRL.REF_B) 0 → (hkConv m c.val).stopDue = false → (hkConv m c.val).restartDue =
      false → (hkConv m c.val).unsettled = true → (hkConv m c.val).len ≤ (hkConv m c.val).entry →
    After (.hkConversionDone t c vin vref) s fun n => n = { modConvHk m c.val (fun x => { x with res := Sparse.set x.res x.entry (⟨x.tseq, true, x.unsettled, (hkCode m (F.HK_A_ENT.GAIN.of ((hkConv m c.val).ents.getD (hkConv m c.val).entry 0)) vin vref).1.2, (Sparse.get ({} : HkRes) (hkConv m c.val).res (hkConv m c.val).entry).outside, (hkCode m (F.HK_A_ENT.GAIN.of ((hkConv m c.val).ents.getD (hkConv m c.val).entry 0)) vin vref).1.1, ((hkConv m c.val).ents.getD (hkConv m c.val).entry 0), ((hkConv m c.val).start + hkTime (F.HK_A_ENT.TS.of ((hkConv m c.val).ents.getD (hkConv m c.val).entry 0))), hkNominal (hkConv m c.val), x.ref⟩), fresh := withBit x.fresh x.entry false, entry := 16, start := ((hkConv m c.val).start + hkTime (F.HK_A_ENT.TS.of ((hkConv m c.val).ents.getD (hkConv m c.val).entry 0))), unsettled := !x.settled }) with
        fresh := (hkCode m (F.HK_A_ENT.GAIN.of ((hkConv m c.val).ents.getD (hkConv m c.val).entry 0)) vin vref).2.fresh,
        regs := (m.mark F.HK_STAT.UNSETTLED_SEEN 0).regs }) ∧
  (∀ (vin vref : Nat), (hkConv m c.val).running = true → (hkConv m c.val).entry ≠ 16 → (hkConv m c.val).start + hkTime
      (F.HK_A_ENT.TS.of ((hkConv m c.val).ents.getD (hkConv m c.val).entry 0)) ≤ m.now.ns → (hkConv m c.val).ref = m.fld
      (hkOf c.val F.HK_CTRL.REF_A F.HK_CTRL.REF_B) 0 → (hkConv m c.val).stopDue = false → (hkConv m c.val).restartDue =
      false → (hkConv m c.val).unsettled = false → (hkConv m c.val).entry < (hkConv m c.val).len → (decide ((hkCode m
      (F.HK_A_ENT.GAIN.of ((hkConv m c.val).ents.getD (hkConv m c.val).entry 0)) vin vref).1.1 < F.HK_A_WIN.LO.of ((hkConv m
      c.val).wins.getD (hkConv m c.val).entry 0x3FFF0000)) || decide (F.HK_A_WIN.HI.of ((hkConv m c.val).wins.getD (hkConv m
      c.val).entry 0x3FFF0000) < (hkCode m (F.HK_A_ENT.GAIN.of ((hkConv m c.val).ents.getD (hkConv m c.val).entry 0)) vin
      vref).1.1)) = true → (Sparse.get ({} : HkRes) (hkConv m c.val).res (hkConv m c.val).entry).outside = false ∨ (hkConv m
      c.val).fresh.testBit (hkConv m c.val).entry = true → F.HK_A_ENT.INPUT.of ((hkConv m c.val).ents.getD (hkConv m
      c.val).entry 0) < 0x32 ∨ 0x3D < F.HK_A_ENT.INPUT.of ((hkConv m c.val).ents.getD (hkConv m c.val).entry 0) → (hkConv m
      c.val).entry < 16 →
    After (.hkConversionDone t c vin vref) s fun n => n = { m with
        hk := n.hk,
        regs := n.regs,
        age := m.age,
        ports := n.ports,
        wire := n.wire,
        stats := n.stats,
        fresh := n.fresh } ∧ n.hk = (modConvHk m c.val (fun x => { x with
        res := Sparse.set x.res x.entry (⟨x.tseq, true, x.unsettled, (hkCode m (F.HK_A_ENT.GAIN.of ((hkConv m
          c.val).ents.getD (hkConv m c.val).entry 0)) vin vref).1.2, true, (hkCode m (F.HK_A_ENT.GAIN.of ((hkConv m
          c.val).ents.getD (hkConv m c.val).entry 0)) vin vref).1.1, ((hkConv m c.val).ents.getD (hkConv m c.val).entry 0),
          ((hkConv m c.val).start + hkTime (F.HK_A_ENT.TS.of ((hkConv m c.val).ents.getD (hkConv m c.val).entry 0))),
          hkNominal (hkConv m c.val), x.ref⟩),
        fresh := withBit x.fresh x.entry false,
        entry := x.entry + 1,
        start := ((hkConv m c.val).start + hkTime (F.HK_A_ENT.TS.of ((hkConv m c.val).ents.getD (hkConv m c.val).entry 0))),
        unsettled := !x.settled })).hk ∧ n.seen (hkOf c.val F.HK_WIN_STAT.OUT_SEEN_A F.HK_WIN_STAT.OUT_SEEN_B) 0 = m.seen
      (hkOf c.val F.HK_WIN_STAT.OUT_SEEN_A F.HK_WIN_STAT.OUT_SEEN_B) 0 ||| 1 <<< (hkConv m c.val).entry ∧ n.regs.cfg =
      m.regs.cfg) ∧
  (∀ (vin vref : Nat), (hkConv m c.val).running = true → (hkConv m c.val).entry ≠ 16 → (hkConv m c.val).start + hkTime
      (F.HK_A_ENT.TS.of ((hkConv m c.val).ents.getD (hkConv m c.val).entry 0)) ≤ m.now.ns → (hkConv m c.val).ref = m.fld
      (hkOf c.val F.HK_CTRL.REF_A F.HK_CTRL.REF_B) 0 → (hkConv m c.val).stopDue = false → (hkConv m c.val).restartDue =
      false → (hkConv m c.val).unsettled = false → (hkConv m c.val).entry < (hkConv m c.val).len → (decide ((hkCode m
      (F.HK_A_ENT.GAIN.of ((hkConv m c.val).ents.getD (hkConv m c.val).entry 0)) vin vref).1.1 < F.HK_A_WIN.LO.of ((hkConv m
      c.val).wins.getD (hkConv m c.val).entry 0x3FFF0000)) || decide (F.HK_A_WIN.HI.of ((hkConv m c.val).wins.getD (hkConv m
      c.val).entry 0x3FFF0000) < (hkCode m (F.HK_A_ENT.GAIN.of ((hkConv m c.val).ents.getD (hkConv m c.val).entry 0)) vin
      vref).1.1)) = false → 0x32 ≤ F.HK_A_ENT.INPUT.of ((hkConv m c.val).ents.getD (hkConv m c.val).entry 0) →
      F.HK_A_ENT.INPUT.of ((hkConv m c.val).ents.getD (hkConv m c.val).entry 0) ≤ 0x3D → m.rstate (F.HK_A_ENT.INPUT.of
      ((hkConv m c.val).ents.getD (hkConv m c.val).entry 0) - 0x32) ≠ .down → (hkConv m c.val).ref = 0 →
    After (.hkConversionDone t c vin vref) s fun n => n = { modConvHk m c.val (fun x => { x with res := Sparse.set x.res x.entry (⟨x.tseq, true, x.unsettled, (hkCode m (F.HK_A_ENT.GAIN.of ((hkConv m c.val).ents.getD (hkConv m c.val).entry 0)) vin vref).1.2, (decide ((hkCode m (F.HK_A_ENT.GAIN.of ((hkConv m c.val).ents.getD (hkConv m c.val).entry 0)) vin vref).1.1 < F.HK_A_WIN.LO.of ((hkConv m c.val).wins.getD (hkConv m c.val).entry 0x3FFF0000)) || decide (F.HK_A_WIN.HI.of ((hkConv m c.val).wins.getD (hkConv m c.val).entry 0x3FFF0000) < (hkCode m (F.HK_A_ENT.GAIN.of ((hkConv m c.val).ents.getD (hkConv m c.val).entry 0)) vin vref).1.1)), (hkCode m (F.HK_A_ENT.GAIN.of ((hkConv m c.val).ents.getD (hkConv m c.val).entry 0)) vin vref).1.1, ((hkConv m c.val).ents.getD (hkConv m c.val).entry 0), ((hkConv m c.val).start + hkTime (F.HK_A_ENT.TS.of ((hkConv m c.val).ents.getD (hkConv m c.val).entry 0))), hkNominal (hkConv m c.val), x.ref⟩), fresh := withBit x.fresh x.entry false, entry := x.entry + 1, start := ((hkConv m c.val).start + hkTime (F.HK_A_ENT.TS.of ((hkConv m c.val).ents.getD (hkConv m c.val).entry 0))), unsettled := !x.settled }) with
        fresh := (hkCode m (F.HK_A_ENT.GAIN.of ((hkConv m c.val).ents.getD (hkConv m c.val).entry 0)) vin vref).2.fresh,
        rgns := n.rgns } ∧ n.rgn (F.HK_A_ENT.INPUT.of ((hkConv m c.val).ents.getD (hkConv m c.val).entry 0) - 0x32) = { m.rgn (F.HK_A_ENT.INPUT.of ((hkConv m c.val).ents.getD (hkConv m c.val).entry 0) - 0x32) with
        age := { (m.rgn (F.HK_A_ENT.INPUT.of ((hkConv m c.val).ents.getD (hkConv m c.val).entry 0) - 0x32)).age with
            benchSum := (m.rgn (F.HK_A_ENT.INPUT.of ((hkConv m c.val).ents.getD (hkConv m c.val).entry 0) -
              0x32)).age.benchSum + (hkCode m (F.HK_A_ENT.GAIN.of ((hkConv m c.val).ents.getD (hkConv m c.val).entry 0)) vin
              vref).1.1 * 8 / 2 ^ F.HK_A_ENT.GAIN.of ((hkConv m c.val).ents.getD (hkConv m c.val).entry 0),
            benchCount := (m.rgn (F.HK_A_ENT.INPUT.of ((hkConv m c.val).ents.getD (hkConv m c.val).entry 0) -
              0x32)).age.benchCount + 1 } } ∧ (∀ k : Nat, k < 12 → k ≠ F.HK_A_ENT.INPUT.of ((hkConv m c.val).ents.getD
      (hkConv m c.val).entry 0) - 0x32 → n.rgn k = m.rgn k)) ∧
  (∀ (vin vref : Nat), (hkConv m c.val).running = true → (hkConv m c.val).entry ≠ 16 → (hkConv m c.val).start + hkTime
      (F.HK_A_ENT.TS.of ((hkConv m c.val).ents.getD (hkConv m c.val).entry 0)) ≤ m.now.ns → (hkConv m c.val).ref = m.fld
      (hkOf c.val F.HK_CTRL.REF_A F.HK_CTRL.REF_B) 0 → (hkConv m c.val).stopDue = true → m.on (hkOf c.val F.HK_CTRL.RUN_A
      F.HK_CTRL.RUN_B) 0 = false → (hkConv m c.val).unsettled = false → (decide ((hkCode m (F.HK_A_ENT.GAIN.of ((hkConv m
      c.val).ents.getD (hkConv m c.val).entry 0)) vin vref).1.1 < F.HK_A_WIN.LO.of ((hkConv m c.val).wins.getD (hkConv m
      c.val).entry 0x3FFF0000)) || decide (F.HK_A_WIN.HI.of ((hkConv m c.val).wins.getD (hkConv m c.val).entry 0x3FFF0000) <
      (hkCode m (F.HK_A_ENT.GAIN.of ((hkConv m c.val).ents.getD (hkConv m c.val).entry 0)) vin vref).1.1)) = false →
      F.HK_A_ENT.INPUT.of ((hkConv m c.val).ents.getD (hkConv m c.val).entry 0) < 0x32 ∨ 0x3D < F.HK_A_ENT.INPUT.of ((hkConv
      m c.val).ents.getD (hkConv m c.val).entry 0) →
    After (.hkConversionDone t c vin vref) s fun n => n = { modConvHk m c.val (fun x => { x with res := Sparse.set x.res x.entry (⟨x.tseq, true, x.unsettled, (hkCode m (F.HK_A_ENT.GAIN.of ((hkConv m c.val).ents.getD (hkConv m c.val).entry 0)) vin vref).1.2, (decide ((hkCode m (F.HK_A_ENT.GAIN.of ((hkConv m c.val).ents.getD (hkConv m c.val).entry 0)) vin vref).1.1 < F.HK_A_WIN.LO.of ((hkConv m c.val).wins.getD (hkConv m c.val).entry 0x3FFF0000)) || decide (F.HK_A_WIN.HI.of ((hkConv m c.val).wins.getD (hkConv m c.val).entry 0x3FFF0000) < (hkCode m (F.HK_A_ENT.GAIN.of ((hkConv m c.val).ents.getD (hkConv m c.val).entry 0)) vin vref).1.1)), (hkCode m (F.HK_A_ENT.GAIN.of ((hkConv m c.val).ents.getD (hkConv m c.val).entry 0)) vin vref).1.1, ((hkConv m c.val).ents.getD (hkConv m c.val).entry 0), ((hkConv m c.val).start + hkTime (F.HK_A_ENT.TS.of ((hkConv m c.val).ents.getD (hkConv m c.val).entry 0))), hkNominal (hkConv m c.val), x.ref⟩), fresh := withBit x.fresh x.entry false, running := false, stopDue := false, restartDue := false }) with
        fresh := (hkCode m (F.HK_A_ENT.GAIN.of ((hkConv m c.val).ents.getD (hkConv m c.val).entry 0)) vin vref).2.fresh }) ∧
  (∀ (vin vref : Nat), (hkConv m c.val).running = true → (hkConv m c.val).entry ≠ 16 → (hkConv m c.val).start + hkTime
      (F.HK_A_ENT.TS.of ((hkConv m c.val).ents.getD (hkConv m c.val).entry 0)) ≤ m.now.ns → (hkConv m c.val).ref = m.fld
      (hkOf c.val F.HK_CTRL.REF_A F.HK_CTRL.REF_B) 0 → (hkConv m c.val).stopDue = false → (hkConv m c.val).restartDue = true
      → (hkConv m c.val).unsettled = false → (decide ((hkCode m (F.HK_A_ENT.GAIN.of ((hkConv m c.val).ents.getD (hkConv m
      c.val).entry 0)) vin vref).1.1 < F.HK_A_WIN.LO.of ((hkConv m c.val).wins.getD (hkConv m c.val).entry 0x3FFF0000)) ||
      decide (F.HK_A_WIN.HI.of ((hkConv m c.val).wins.getD (hkConv m c.val).entry 0x3FFF0000) < (hkCode m
      (F.HK_A_ENT.GAIN.of ((hkConv m c.val).ents.getD (hkConv m c.val).entry 0)) vin vref).1.1)) = false →
      F.HK_A_ENT.INPUT.of ((hkConv m c.val).ents.getD (hkConv m c.val).entry 0) < 0x32 ∨ 0x3D < F.HK_A_ENT.INPUT.of ((hkConv
      m c.val).ents.getD (hkConv m c.val).entry 0) →
    After (.hkConversionDone t c vin vref) s fun n => n = { m with
        fresh := (hkCode m (F.HK_A_ENT.GAIN.of ((hkConv m c.val).ents.getD (hkConv m c.val).entry 0)) vin vref).2.fresh,
        hk := traversed m c.val true ((hkConv m c.val).start + hkTime (F.HK_A_ENT.TS.of ((hkConv m c.val).ents.getD (hkConv
          m c.val).entry 0))) (modConvHk m c.val (fun x => { x with
            res := Sparse.set x.res x.entry (⟨x.tseq, true, x.unsettled, (hkCode m (F.HK_A_ENT.GAIN.of ((hkConv m
              c.val).ents.getD (hkConv m c.val).entry 0)) vin vref).1.2, (decide ((hkCode m (F.HK_A_ENT.GAIN.of ((hkConv m
              c.val).ents.getD (hkConv m c.val).entry 0)) vin vref).1.1 < F.HK_A_WIN.LO.of ((hkConv m c.val).wins.getD
              (hkConv m c.val).entry 0x3FFF0000)) || decide (F.HK_A_WIN.HI.of ((hkConv m c.val).wins.getD (hkConv m
              c.val).entry 0x3FFF0000) < (hkCode m (F.HK_A_ENT.GAIN.of ((hkConv m c.val).ents.getD (hkConv m c.val).entry
              0)) vin vref).1.1)), (hkCode m (F.HK_A_ENT.GAIN.of ((hkConv m c.val).ents.getD (hkConv m c.val).entry 0)) vin
              vref).1.1, ((hkConv m c.val).ents.getD (hkConv m c.val).entry 0), ((hkConv m c.val).start + hkTime
              (F.HK_A_ENT.TS.of ((hkConv m c.val).ents.getD (hkConv m c.val).entry 0))), hkNominal (hkConv m c.val), x.ref⟩),
            fresh := withBit x.fresh x.entry false })).hk }) ∧
  (∀ (vin vref : Nat), (hkConv m c.val).running = false ∨ (hkConv m c.val).entry = 16 ∨ m.now.ns < (hkConv m c.val).start +
      hkTime (F.HK_A_ENT.TS.of ((hkConv m c.val).ents.getD (hkConv m c.val).entry 0)) →
    After (.hkConversionDone t c vin vref) s fun n => n = m)

/-- R500 to R502, R504, R514, R515: the end of a settled cross-check slot stores its microvolts, and two new ones are compared; CONSEC mismatches in a row
raise PLAUS, once. An urgent conversion starts on an idle converter and is dropped, and counted, on a busy one; its end gives the urgent result. -/
def Obligations.CrossCheckAndUrgentConversions : Prop := ∀ (s : State) (t : Stamp) (m : Kz) (c : Fin 2), s.kz.advance t = m →
  (∀ (vin vref : Nat), (hkConv m c.val).running = true → (hkConv m c.val).entry = 16 → (hkConv m c.val).start + hkTime
      (F.HK_XCHK_CFG.TS.of (hkConv m c.val).xchk) ≤ m.now.ns → (hkConv m c.val).ref = m.fld (hkOf c.val F.HK_CTRL.REF_A
      F.HK_CTRL.REF_B) 0 → (hkConv m c.val).stopDue = false → (hkConv m c.val).restartDue = false → (hkConv m
      c.val).unsettled = true →
    After (.hkXchkDone t c vin vref) s fun n => n = { m with
        fresh := (hkCode m 0 vin vref).2.fresh,
        regs := (m.mark F.HK_STAT.UNSETTLED_SEEN 0).regs,
        hk := traversed m c.val false ((hkConv m c.val).start + hkTime (F.HK_XCHK_CFG.TS.of (hkConv m c.val).xchk)) m.hk }) ∧
  (∀ (vin vref : Nat), (hkConv m c.val).running = true → (hkConv m c.val).entry = 16 → (hkConv m c.val).start + hkTime
      (F.HK_XCHK_CFG.TS.of (hkConv m c.val).xchk) ≤ m.now.ns → (hkConv m c.val).ref = m.fld (hkOf c.val F.HK_CTRL.REF_A
      F.HK_CTRL.REF_B) 0 → (hkConv m c.val).stopDue = false → (hkConv m c.val).restartDue = false → (hkConv m
      c.val).unsettled = false → (hkConv m (1 - c.val)).running = false ∨ (hkConv m (1 - c.val)).slotNew = false →
    After (.hkXchkDone t c vin vref) s fun n => n = { m with
        fresh := (hkCode m 0 vin vref).2.fresh,
        hk := traversed m c.val false ((hkConv m c.val).start + hkTime (F.HK_XCHK_CFG.TS.of (hkConv m c.val).xchk))
          (modConvHk m c.val (fun x => { x with
            slot := ((hkCode m 0 vin vref).1.1 * hkNominal (hkConv m c.val)),
            slotNew := true })).hk }) ∧
  (∀ (vin vref : Nat), (hkConv m c.val).running = true → (hkConv m c.val).entry = 16 → (hkConv m c.val).start + hkTime
      (F.HK_XCHK_CFG.TS.of (hkConv m c.val).xchk) ≤ m.now.ns → (hkConv m c.val).ref = m.fld (hkOf c.val F.HK_CTRL.REF_A
      F.HK_CTRL.REF_B) 0 → (hkConv m c.val).stopDue = false → (hkConv m c.val).restartDue = false → (hkConv m
      c.val).unsettled = false → (hkConv m (1 - c.val)).running = true → (hkConv m (1 - c.val)).slotNew = true → (((((if
      c.val = 0 then ((hkCode m 0 vin vref).1.1 * hkNominal (hkConv m c.val)) else m.hk.a.slot) : Int) - (if c.val = 0 then
      m.hk.b.slot else ((hkCode m 0 vin vref).1.1 * hkNominal (hkConv m c.val))))).natAbs ≤ F.HK_XCHK_CFG.THR.of (hkConv m
      c.val).xchk * 10 * 16384) →
    After (.hkXchkDone t c vin vref) s fun n => n = { m with hk := n.hk, fresh := n.fresh } ∧ n.hk = traversed m c.val false
      ((hkConv m c.val).start + hkTime (F.HK_XCHK_CFG.TS.of (hkConv m c.val).xchk)) { m.hk with
        diff := n.hk.diff,
        cmpSeq := (m.hk.cmpSeq + 1) % 256,
        run := 0,
        plaus := false,
        a := { m.hk.a with
            slot := (if c.val = 0 then ((hkCode m 0 vin vref).1.1 * hkNominal (hkConv m c.val)) else m.hk.a.slot),
            slotNew := false },
        b := { m.hk.b with
            slot := (if c.val = 0 then m.hk.b.slot else ((hkCode m 0 vin vref).1.1 * hkNominal (hkConv m c.val))),
            slotNew := false } } ∧ n.hk.diff ∈ [satS 16 ((((if c.val = 0 then ((hkCode m 0 vin vref).1.1 * hkNominal (hkConv
      m c.val)) else m.hk.a.slot) : Int) - (if c.val = 0 then m.hk.b.slot else ((hkCode m 0 vin vref).1.1 * hkNominal
      (hkConv m c.val)))) / 163840), satS 16 ((((if c.val = 0 then ((hkCode m 0 vin vref).1.1 * hkNominal (hkConv m c.val))
      else m.hk.a.slot) : Int) - (if c.val = 0 then m.hk.b.slot else ((hkCode m 0 vin vref).1.1 * hkNominal (hkConv m
      c.val)))) / 163840 + 1)]) ∧
  (∀ (vin vref : Nat), (hkConv m c.val).running = true → (hkConv m c.val).entry = 16 → (hkConv m c.val).start + hkTime
      (F.HK_XCHK_CFG.TS.of (hkConv m c.val).xchk) ≤ m.now.ns → (hkConv m c.val).ref = m.fld (hkOf c.val F.HK_CTRL.REF_A
      F.HK_CTRL.REF_B) 0 → (hkConv m c.val).stopDue = false → (hkConv m c.val).restartDue = false → (hkConv m
      c.val).unsettled = false → (hkConv m (1 - c.val)).running = true → (hkConv m (1 - c.val)).slotNew = true →
      (F.HK_XCHK_CFG.THR.of (hkConv m c.val).xchk * 10 * 16384 < ((((if c.val = 0 then ((hkCode m 0 vin vref).1.1 *
      hkNominal (hkConv m c.val)) else m.hk.a.slot) : Int) - (if c.val = 0 then m.hk.b.slot else ((hkCode m 0 vin vref).1.1
      * hkNominal (hkConv m c.val))))).natAbs) → m.hk.plaus = true ∨ min 15 (m.hk.run + 1) < max 1 (F.HK_XCHK_CFG.CONSEC.of
      (hkConv m c.val).xchk) →
    After (.hkXchkDone t c vin vref) s fun n => n = { m with hk := n.hk, fresh := n.fresh } ∧ n.hk = traversed m c.val false
      ((hkConv m c.val).start + hkTime (F.HK_XCHK_CFG.TS.of (hkConv m c.val).xchk)) { m.hk with
        diff := n.hk.diff,
        cmpSeq := (m.hk.cmpSeq + 1) % 256,
        run := min 15 (m.hk.run + 1),
        plaus := m.hk.plaus,
        a := { m.hk.a with
            slot := (if c.val = 0 then ((hkCode m 0 vin vref).1.1 * hkNominal (hkConv m c.val)) else m.hk.a.slot),
            slotNew := false },
        b := { m.hk.b with
            slot := (if c.val = 0 then m.hk.b.slot else ((hkCode m 0 vin vref).1.1 * hkNominal (hkConv m c.val))),
            slotNew := false } }) ∧
  (∀ (vin vref : Nat), (hkConv m c.val).running = true → (hkConv m c.val).entry = 16 → (hkConv m c.val).start + hkTime
      (F.HK_XCHK_CFG.TS.of (hkConv m c.val).xchk) ≤ m.now.ns → (hkConv m c.val).ref = m.fld (hkOf c.val F.HK_CTRL.REF_A
      F.HK_CTRL.REF_B) 0 → (hkConv m c.val).stopDue = false → (hkConv m c.val).restartDue = false → (hkConv m
      c.val).unsettled = false → (hkConv m (1 - c.val)).running = true → (hkConv m (1 - c.val)).slotNew = true →
      (F.HK_XCHK_CFG.THR.of (hkConv m c.val).xchk * 10 * 16384 < ((((if c.val = 0 then ((hkCode m 0 vin vref).1.1 *
      hkNominal (hkConv m c.val)) else m.hk.a.slot) : Int) - (if c.val = 0 then m.hk.b.slot else ((hkCode m 0 vin vref).1.1
      * hkNominal (hkConv m c.val))))).natAbs) → m.hk.plaus = false → max 1 (F.HK_XCHK_CFG.CONSEC.of (hkConv m c.val).xchk)
      ≤ min 15 (m.hk.run + 1) →
    After (.hkXchkDone t c vin vref) s fun n => n = { m with
        hk := n.hk,
        fresh := n.fresh,
        regs := (m.mark F.HK_STAT.PLAUS_SEEN 0).regs,
        stats := n.stats,
        log := n.log,
        ports := n.ports,
        wire := n.wire } ∧ n.hk = traversed m c.val false ((hkConv m c.val).start + hkTime (F.HK_XCHK_CFG.TS.of (hkConv m
      c.val).xchk)) { m.hk with
        diff := n.hk.diff,
        cmpSeq := (m.hk.cmpSeq + 1) % 256,
        run := min 15 (m.hk.run + 1),
        plaus := true,
        a := { m.hk.a with
            slot := (if c.val = 0 then ((hkCode m 0 vin vref).1.1 * hkNominal (hkConv m c.val)) else m.hk.a.slot),
            slotNew := false },
        b := { m.hk.b with
            slot := (if c.val = 0 then m.hk.b.slot else ((hkCode m 0 vin vref).1.1 * hkNominal (hkConv m c.val))),
            slotNew := false } } ∧ n.log.next = (m.log.next + 1) % 2 ^ 32 ∧ n.log.entries.head?.map (fun x => x.code) = some
      0x0801 ∧ n.counter .HK_XCHK_FAILS 0 = (m.count .HK_XCHK_FAILS 0 1).counter .HK_XCHK_FAILS 0) ∧
  (∀ (p : Port) (v : Word), Quiet m → Reaches m p .HK_URGENT 0 → covers (m.port p).session.leases .module = true →
      F.HK_URGENT.INPUT.of v < 0x44 → F.HK_URGENT.GO.of v = 1 → hkBusy m (F.HK_URGENT.CONV.of v) = false →
    After (.hkUrgent t p v) s fun n => n = (modConvHk m (F.HK_URGENT.CONV.of v) (fun x => { x with
        urgent := some ⟨v, !x.settled, m.now.ns⟩ })).emit (okPair p .HK_URGENT 0)) ∧
  (∀ (p : Port) (v : Word), Quiet m → Reaches m p .HK_URGENT 0 → covers (m.port p).session.leases .module = true →
      F.HK_URGENT.INPUT.of v < 0x44 → F.HK_URGENT.GO.of v = 1 → hkBusy m (F.HK_URGENT.CONV.of v) = true →
    After (.hkUrgent t p v) s fun n => n = { m with
        stats := (m.count .HK_URGENT_DROPPED 0 1).stats,
        regs := (m.mark F.HK_STAT.URGENT_DROP_SEEN 0).regs,
        wire := n.wire } ∧ n.wire = .pairStatus p (RegKind.addr .HK_URGENT 0) .urgentDropped ⟨3, 0⟩ :: m.wire) ∧
  (∀ (vin vref : Nat) (u : HkUrgent), (hkConv m c.val).urgent = some u → u.start + hkTime (F.HK_URGENT.TS.of u.req) ≤
      m.now.ns → m.on (hkOf c.val F.HK_CTRL.RUN_A F.HK_CTRL.RUN_B) 0 = false →
    After (.hkUrgentDone t c vin vref) s fun n => n = { m with
        fresh := (hkCode m (F.HK_URGENT.GAIN.of u.req) vin vref).2.fresh,
        hk := { (modConvHk m c.val (fun x => { x with urgent := none })).hk with
            useq := (m.hk.useq + 1) % 256,
            uconv := c.val,
            uunset := u.unsettled,
            uovr := (hkCode m (F.HK_URGENT.GAIN.of u.req) vin vref).1.2,
            ucode := (hkCode m (F.HK_URGENT.GAIN.of u.req) vin vref).1.1 },
        regs := (if u.unsettled = true then m.mark F.HK_STAT.UNSETTLED_SEEN 0 else m).regs }) ∧
  (∀ (vin vref : Nat) (u : HkUrgent), (hkConv m c.val).urgent = some u → u.start + hkTime (F.HK_URGENT.TS.of u.req) ≤
      m.now.ns → m.on (hkOf c.val F.HK_CTRL.RUN_A F.HK_CTRL.RUN_B) 0 = true →
    After (.hkUrgentDone t c vin vref) s fun n => n = { m with
        fresh := (hkCode m (F.HK_URGENT.GAIN.of u.req) vin vref).2.fresh,
        hk := traversed m c.val true (u.start + hkTime (F.HK_URGENT.TS.of u.req)) { (modConvHk m c.val (fun x => { x with urgent := none })).hk with
            useq := (m.hk.useq + 1) % 256,
            uconv := c.val,
            uunset := u.unsettled,
            uovr := (hkCode m (F.HK_URGENT.GAIN.of u.req) vin vref).1.2,
            ucode := (hkCode m (F.HK_URGENT.GAIN.of u.req) vin vref).1.1 },
        regs := (if u.unsettled = true then m.mark F.HK_STAT.UNSETTLED_SEEN 0 else m).regs }) ∧
  (∀ (vin vref : Nat), (hkConv m c.val).urgent = none →
    After (.hkUrgentDone t c vin vref) s fun n => n = m)

/-- R564, R583, R591, R593, R596, R613, R614, R649, R664: the warning comparator starts a supply dip, which is counted and marked; its end logs the
dip. A module reset ends everything but what flash, OTP, the hub's counts and the outside hold, and names its cause; a reset the module starts itself
first writes a checkpoint into the ledger; without FATAL there is no FATAL_RESET. -/
def Obligations.SupplyWarningsAndResets : Prop := ∀ (s : State) (t : Stamp) (m : Kz), s.kz.advance t = m →
  (∀ (vin : BitVec 11), m.pwr.dip = none → m.pwr.state ≠ .off → vin.toNat < 435 →
    After (.supplyDipStart t vin) s fun n => n = { m with
        pwr := { m.pwr with vinNow := vin.toNat, vinMin := min m.pwr.vinMin vin.toNat, dip := some (m.now.tick, vin.toNat) },
        stats := (m.count .MOD_SUPPLY_WARN 0 1).stats,
        regs := (m.mark F.MOD_PWR_STAT.SUPPLY_WARN_SEEN 0).regs,
        spans := (m.openSpan .dip).spans }) ∧
  (∀ (vin : BitVec 11), m.pwr.dip.isSome = true ∨ m.pwr.state = .off ∨ 435 ≤ vin.toNat →
    After (.supplyDipStart t vin) s fun n => n = m) ∧
  (∀ (low vin : BitVec 11) (x : Nat × Nat), m.pwr.dip = some x → 445 < vin.toNat →
    After (.supplyDipEnd t ⟨low, vin⟩) s fun n => n = { m with
        pwr := { m.pwr with vinNow := vin.toNat, vinMin := min (min m.pwr.vinMin low.toNat) vin.toNat, dip := none },
        spans := (m.closeSpan .dip).spans,
        log := n.log } ∧ n.log.next = (m.log.next + 1) % 2 ^ 32 ∧ n.log.entries.head? = some ⟨m.log.next, (m.stampOf (x.1 *
      1024)).1 / 1024, (m.stampOf (x.1 * 1024)).2, 0, 0, 0, 0x0701, m.datum, min x.2 low.toNat⟩) ∧
  (∀ (low vin : BitVec 11), m.pwr.dip = none ∨ vin.toNat ≤ 445 →
    After (.supplyDipEnd t ⟨low, vin⟩) s fun n => n = m) ∧
  (∀ (p : Port) (v : Word), Accepts m p .MOD_VIN 0 v → F.MOD_VIN.CLR.of v = 1 →
    After (.vinMinClr t p v) s fun n => n = ({ m with pwr := { m.pwr with vinMin := m.pwr.vinNow } }).emit (okPair p
      .MOD_VIN 0)) ∧
  (∀ (p : Port) (v : Word), Accepts m p .MOD_VIN 0 v → F.MOD_VIN.CLR.of v = 0 →
    After (.vinMinClr t p v) s fun n => n = m.emit (okPair p .MOD_VIN 0)) ∧
  (∀ (v : BitVec 11), m.pwr.state ≠ .boot → v.toNat < 405 →
    After (.moduleReset t (.brownOut v)) s fun n => n = { ({} : Kz) with
        now := ⟨0, m.now.ns⟩,
        fresh := m.fresh,
        wire := m.wire,
        fw := { ({} : Firmware) with
            block0 := m.fw.block0,
            block1 := m.fw.block1,
            area0 := m.fw.area0,
            area1 := m.fw.area1,
            cfgArea := m.fw.cfgArea,
            failsA := m.fw.failsA,
            failsB := m.fw.failsB,
            failed := m.fw.failed,
            bootCount := (m.fw.bootCount + 1) % 256 },
        age := { ({} : Ageing) with ckpt := m.age.ckpt, recs := m.age.recs, ckptAt := m.age.ckptAt, recAt := m.age.recAt },
        trust := { ({} : Trust) with
            counter := m.trust.counter,
            owner0 := m.trust.owner0,
            owner1 := m.trust.owner1,
            nonces := m.trust.nonces },
        log := { ({} : EventLog) with archiveNext := m.log.archiveNext, archive := m.log.archive },
        pwr := { ({} : Power) with
            state := .off,
            pg := false,
            resetCause := 2,
            ovNow := m.pwr.ovNow,
            thermNow := m.pwr.thermNow,
            nReset := m.pwr.nReset,
            resetComparator := true } }) ∧
  (m.pwr.state ≠ .boot →
    After (.moduleReset t .nReset) s fun n => n = { ({} : Kz) with
        now := ⟨0, m.now.ns⟩,
        fresh := m.fresh,
        wire := m.wire,
        fw := { ({} : Firmware) with
            block0 := m.fw.block0,
            block1 := m.fw.block1,
            area0 := m.fw.area0,
            area1 := m.fw.area1,
            cfgArea := m.fw.cfgArea,
            failsA := m.fw.failsA,
            failsB := m.fw.failsB,
            failed := m.fw.failed,
            bootCount := (m.fw.bootCount + 1) % 256 },
        age := { ({} : Ageing) with ckpt := m.age.ckpt, recs := m.age.recs, ckptAt := m.age.ckptAt, recAt := m.age.recAt },
        trust := { ({} : Trust) with
            counter := m.trust.counter,
            owner0 := m.trust.owner0,
            owner1 := m.trust.owner1,
            nonces := m.trust.nonces },
        log := { ({} : EventLog) with archiveNext := m.log.archiveNext, archive := m.log.archive },
        pwr := { ({} : Power) with
            state := .off,
            pg := false,
            resetCause := 4,
            ovNow := m.pwr.ovNow,
            thermNow := m.pwr.thermNow,
            nReset := false,
            resetComparator := m.pwr.resetComparator } }) ∧
  (m.pwr.state ≠ .boot →
    After (.moduleReset t .powerOn) s fun n => n = { ({} : Kz) with
        now := ⟨0, m.now.ns⟩,
        fresh := m.fresh,
        wire := m.wire,
        fw := { ({} : Firmware) with
            block0 := m.fw.block0,
            block1 := m.fw.block1,
            area0 := m.fw.area0,
            area1 := m.fw.area1,
            cfgArea := m.fw.cfgArea,
            failed := m.fw.failed },
        age := { ({} : Ageing) with ckpt := m.age.ckpt, recs := m.age.recs, ckptAt := m.age.ckptAt, recAt := m.age.recAt },
        trust := { ({} : Trust) with
            counter := m.trust.counter,
            owner0 := m.trust.owner0,
            owner1 := m.trust.owner1,
            nonces := m.trust.nonces },
        log := { ({} : EventLog) with archiveNext := m.log.archiveNext, archive := m.log.archive },
        pwr := { ({} : Power) with
            state := .off,
            pg := false,
            resetCause := 1,
            ovNow := m.pwr.ovNow,
            thermNow := m.pwr.thermNow,
            nReset := m.pwr.nReset,
            resetComparator := m.pwr.resetComparator } }) ∧
  (∀ (x : ImageInfo), m.pwr.state = .boot → m.fw.booting = some (0, x) →
    After (.moduleReset t .nReset) s fun n => n.pwr = { ({} : Power) with
        state := .off,
        pg := false,
        resetCause := 4,
        ovNow := m.pwr.ovNow,
        thermNow := m.pwr.thermNow,
        nReset := false,
        resetComparator := m.pwr.resetComparator } ∧ n.fw.failsA = m.fw.failsA + 1 ∧ n.fw.failsB = m.fw.failsB ∧ n.fw.failed
      = x.version ∧ n.fw.bootCount = (m.fw.bootCount + 1) % 256) ∧
  (∀ (v : BitVec 11), 405 ≤ v.toNat →
    After (.moduleReset t (.brownOut v)) s fun n => n = m) ∧
  (∀ (r : HubRail) (mv : Nat), m.pwr.state ≠ .boot → m.pwr.state ≠ .off → mv * 100 < 92 * hubTarget r →
    After (.hubRailFault ⟨t, r, mv⟩) s fun n => n = { ({} : Kz) with
        now := ⟨0, m.now.ns⟩,
        fresh := m.fresh,
        wire := m.wire,
        fw := { ({} : Firmware) with
            block0 := m.fw.block0,
            block1 := m.fw.block1,
            area0 := m.fw.area0,
            area1 := m.fw.area1,
            cfgArea := m.fw.cfgArea,
            failsA := m.fw.failsA,
            failsB := m.fw.failsB,
            failed := m.fw.failed,
            bootCount := (m.fw.bootCount + 1) % 256 },
        age := { ({} : Ageing) with ckpt := m.age.ckpt, recs := m.age.recs, ckptAt := m.age.ckptAt, recAt := m.age.recAt },
        trust := { ({} : Trust) with
            counter := m.trust.counter,
            owner0 := m.trust.owner0,
            owner1 := m.trust.owner1,
            nonces := m.trust.nonces },
        log := { ({} : EventLog) with archiveNext := m.log.archiveNext, archive := m.log.archive },
        pwr := { ({} : Power) with
            state := .off,
            pg := false,
            resetCause := 32,
            ovNow := m.pwr.ovNow,
            thermNow := m.pwr.thermNow,
            nReset := m.pwr.nReset,
            resetComparator := m.pwr.resetComparator } }) ∧
  (∀ (r : HubRail) (mv : Nat), m.pwr.state = .off ∨ 92 * hubTarget r ≤ mv * 100 →
    After (.hubRailFault ⟨t, r, mv⟩) s fun n => n = m) ∧
  (∀ (d : Nat), m.fw.activationDue = some d → d ≤ m.now.ns →
    After (.activationReset t) s fun n => n.pwr = { ({} : Power) with
        state := .off,
        pg := false,
        resetCause := 8,
        ovNow := m.pwr.ovNow,
        thermNow := m.pwr.thermNow,
        nReset := m.pwr.nReset,
        resetComparator := m.pwr.resetComparator } ∧ n.ports = [] ∧ n.rgns = [] ∧ n.chans = [] ∧ n.regs = {} ∧
      n.trust.counter = m.trust.counter ∧ n.fw.activationDue = none ∧ n.age.recs = m.age.recs ∧ (powered m.pwr.state = true
      → n.age.ckpt = (checkpoint (archiveSummary m) true).age.ckpt)) ∧
  (∀ (d : Nat), m.fw.activationDue = none ∨ m.fw.activationDue = some d ∧ m.now.ns < d →
    After (.activationReset t) s fun n => n = m) ∧
  (∀ (p : Port) (v : Word), Accepts m p .MOD_ERR_CTRL 0 v → F.MOD_ERR_CTRL.FATAL_RESET.of v = 1 → m.errs.fatal = true →
    After (.fatalReset t p v) s fun n => n.pwr = { ({} : Power) with
        state := .off,
        pg := false,
        resetCause := 16,
        ovNow := m.pwr.ovNow,
        thermNow := m.pwr.thermNow,
        nReset := m.pwr.nReset,
        resetComparator := m.pwr.resetComparator } ∧ n.ports = [] ∧ n.rgns = [] ∧ n.chans = [] ∧ n.regs = {} ∧
      n.trust.counter = m.trust.counter) ∧
  (∀ (p : Port) (v : Word), Accepts m p .MOD_ERR_CTRL 0 v → F.MOD_ERR_CTRL.FATAL_RESET.of v = 0 ∨ m.errs.fatal = false →
    After (.fatalReset t p v) s fun n => n = (storeReg m .MOD_ERR_CTRL 0 v).emit (okPair p .MOD_ERR_CTRL 0))

/-- R590, R596, R597, R602, R604, R605: an overvoltage or a module thermal trip puts the module and every region that is not DOWN into HOLD; a rail
or region thermal trip puts its regions into HOLD with its cause; a cleared cause only clears its level; a rail target starts a ramp. -/
def Obligations.TripsAndRails : Prop := ∀ (s : State) (t : Stamp) (m : Kz), s.kz.advance t = m →
  (∀ (v : BitVec 11), Quiet m → m.pwr.state = .standby ∨ m.pwr.state = .ready ∨ m.pwr.state = .acquire → 1900 < v.toNat →
    After (.overvoltage ⟨t, v⟩) s fun n => n = { m with
        pwr := n.pwr,
        rgns := n.rgns,
        chans := n.chans,
        regs := n.regs,
        stats := n.stats,
        log := n.log,
        spans := n.spans,
        ports := n.ports,
        wire := n.wire } ∧ n.regs.cfg = m.regs.cfg ∧ n.pwr = { m.pwr with
        state := .hold,
        vinNow := v.toNat,
        vinMin := min m.pwr.vinMin v.toNat,
        ovNow := true,
        causeOv := true,
        calQueue := n.pwr.calQueue,
        passRunning := n.pwr.passRunning } ∧ (∀ j : Nat, j < 12 → (n.rgn j).pwr = if m.rstate j = .down then { (m.rgn j).pwr with
        starting := false } else { (m.rgn j).pwr with state := .hold, causeModule := true, draining := false }) ∧
      n.log.entries.head?.map (fun x => (x.code, x.cls, x.kind, x.idx)) = some (0x0702, 0, 0, 0)) ∧
  (∀ (v : BitVec 11), Quiet m → m.pwr.state = .hold → 1900 < v.toNat →
    After (.overvoltage ⟨t, v⟩) s fun n => n = { m with
        pwr := { m.pwr with vinNow := v.toNat, vinMin := min m.pwr.vinMin v.toNat, ovNow := true, causeOv := true },
        regs := (m.mark F.MOD_PWR_STAT.OV_SEEN 0).regs }) ∧
  (∀ (v : BitVec 11), Quiet m → m.pwr.state = .off ∨ m.pwr.state = .boot ∨ m.pwr.state = .recovery → 1900 < v.toNat →
    After (.overvoltage ⟨t, v⟩) s fun n => n = { m with
        pwr := { (if m.pwr.state = .off then m.pwr else { m.pwr with vinNow := v.toNat, vinMin := min m.pwr.vinMin v.toNat }) with
            ovNow := true },
        regs := (if m.pwr.state = .off then m else m.mark F.MOD_PWR_STAT.OV_SEEN 0).regs }) ∧
  (∀ (v : BitVec 11), Quiet m → v.toNat ≤ 1900 →
    After (.overvoltage ⟨t, v⟩) s fun n => n = m) ∧
  (∀ (v : BitVec 11), v.toNat < 1850 →
    After (.overvoltageClear ⟨t, v⟩) s fun n => n = { m with
        pwr := { (if m.pwr.state = .off then m.pwr else { m.pwr with vinNow := v.toNat, vinMin := min m.pwr.vinMin v.toNat }) with
            ovNow := false } }) ∧
  (∀ (v : BitVec 11), 1850 ≤ v.toNat →
    After (.overvoltageClear ⟨t, v⟩) s fun n => n = m) ∧
  (∀ (k : Rgn) (mv : Nat), Quiet m → mv * 100 < 92 * fabricTarget m k.val →
    After (.railFault t (.fabric k mv)) s fun n => n = { m with
        pwr := n.pwr,
        rgns := n.rgns,
        chans := n.chans,
        regs := n.regs,
        stats := n.stats,
        log := n.log,
        spans := n.spans,
        ports := n.ports,
        wire := n.wire } ∧ n.regs.cfg = m.regs.cfg ∧ n.pwr = { m.pwr with
        calQueue := n.pwr.calQueue,
        passRunning := n.pwr.passRunning } ∧ (∀ j : Nat, j < 12 → (n.rgn j).pwr = if j = k.val ∧ m.rstate j ≠ .down then { (m.rgn j).pwr with
        railNow := true,
        railAt := m.now.ns,
        state := .hold,
        causeRail := true,
        draining := false } else (m.rgn j).pwr) ∧ n.seen F.MOD_PWR_STAT.RAIL_SEEN 0 = (if m.rstate k.val = .down then m.seen
      F.MOD_PWR_STAT.RAIL_SEEN 0 else 1)) ∧
  (∀ (k : Rgn) (mv : Nat), Quiet m → 92 * fabricTarget m k.val ≤ mv * 100 →
    After (.railFault t (.fabric k mv)) s fun n => n = m) ∧
  (∀ (d : Fin 4) (r : DieRail) (mv : Nat), Quiet m → mv * 100 < 92 * dieTarget r →
    After (.railFault t (.arrayDie d r mv)) s fun n => n = { m with
        pwr := n.pwr,
        rgns := n.rgns,
        chans := n.chans,
        regs := n.regs,
        stats := n.stats,
        log := n.log,
        spans := n.spans,
        ports := n.ports,
        wire := n.wire } ∧ n.regs.cfg = m.regs.cfg ∧ n.pwr = { m.pwr with
        calQueue := n.pwr.calQueue,
        passRunning := n.pwr.passRunning } ∧ (∀ j : Nat, j < 12 → (n.rgn j).pwr = if j / 3 = d.val ∧ m.rstate j ≠ .down then
      { (m.rgn j).pwr with railNow := true, railAt := m.now.ns, state := .hold, causeRail := true, draining := false } else
      (m.rgn j).pwr)) ∧
  (∀ (k : Rgn) (mv : Nat), Quiet m → mv * 100 < 92 * fabricTarget m k.val → m.rstate k.val = .idle ∨ m.rstate k.val = .cal ∨
      m.rstate k.val = .run →
    After (.railFault t (.fabric k mv)) s fun n => n.log.entries.head?.map (fun x => (x.code, x.cls, x.kind, x.idx)) = some
      (0x0702, 0, 2, k.val)) ∧
  (∀ (k : Rgn), (m.rgn k.val).pwr.railAt + 1000000 ≤ m.now.ns →
    After (.railCauseClear t k) s fun n => n = m.modPwr k.val (fun x => { x with railNow := false })) ∧
  (∀ (k : Rgn), m.now.ns < (m.rgn k.val).pwr.railAt + 1000000 →
    After (.railCauseClear t k) s fun n => n = m) ∧
  (∀ (k : Rgn) (tj : Int), Quiet m → m.rstate k.val ≠ .down → 155 ≤ tj →
    After (.regionThermalTrip t k tj) s fun n => n = { m with
        pwr := n.pwr,
        rgns := n.rgns,
        chans := n.chans,
        regs := n.regs,
        stats := n.stats,
        log := n.log,
        spans := n.spans,
        ports := n.ports,
        wire := n.wire } ∧ n.regs.cfg = m.regs.cfg ∧ n.pwr = { m.pwr with
        calQueue := n.pwr.calQueue,
        passRunning := n.pwr.passRunning } ∧ (∀ j : Nat, j < 12 → (n.rgn j).pwr = if j = k.val ∧ m.rstate j ≠ .down then { (m.rgn j).pwr with
        tj := tj,
        thermNow := true,
        state := .hold,
        causeThermal := true,
        draining := false } else (m.rgn j).pwr) ∧ n.seen F.MOD_PWR_STAT.THERM_SEEN 0 = 1) ∧
  (∀ (k : Rgn) (tj : Int), Quiet m → m.rstate k.val = .down ∨ tj < 155 →
    After (.regionThermalTrip t k tj) s fun n => n = m.modPwr k.val (fun x => { x with tj := tj })) ∧
  (∀ (tj : Int), Quiet m → m.pwr.state = .standby ∨ m.pwr.state = .ready ∨ m.pwr.state = .acquire → 160 ≤ tj →
    After (.moduleThermalTrip t none tj) s fun n => n = { m with
        pwr := n.pwr,
        rgns := n.rgns,
        chans := n.chans,
        regs := n.regs,
        stats := n.stats,
        log := n.log,
        spans := n.spans,
        ports := n.ports,
        wire := n.wire } ∧ n.regs.cfg = m.regs.cfg ∧ n.pwr = { m.pwr with
        state := .hold,
        hubTj := tj,
        thermNow := true,
        causeThermal := true,
        calQueue := n.pwr.calQueue,
        passRunning := n.pwr.passRunning } ∧ (∀ j : Nat, j < 12 → (n.rgn j).pwr = if m.rstate j = .down then { (m.rgn j).pwr with
        starting := false } else { (m.rgn j).pwr with state := .hold, causeModule := true, draining := false })) ∧
  (∀ (k : Rgn) (tj : Int), Quiet m → m.pwr.state = .standby ∨ m.pwr.state = .ready ∨ m.pwr.state = .acquire → 160 ≤ tj →
    After (.moduleThermalTrip t (some k) tj) s fun n => n = { m with
        pwr := n.pwr,
        rgns := n.rgns,
        chans := n.chans,
        regs := n.regs,
        stats := n.stats,
        log := n.log,
        spans := n.spans,
        ports := n.ports,
        wire := n.wire } ∧ n.regs.cfg = m.regs.cfg ∧ n.pwr = { m.pwr with
        state := .hold,
        thermNow := true,
        causeThermal := true,
        calQueue := n.pwr.calQueue,
        passRunning := n.pwr.passRunning } ∧ (∀ j : Nat, j < 12 → (n.rgn j).pwr = if m.rstate j = .down then { (m.rgn j).pwr with
        starting := false,
        tj := if j = k.val then tj else (m.rgn j).pwr.tj } else { (m.rgn j).pwr with
        state := .hold,
        causeModule := true,
        draining := false,
        tj := if j = k.val then tj else (m.rgn j).pwr.tj })) ∧
  (∀ (tj : Int), Quiet m → tj < 160 →
    After (.moduleThermalTrip t none tj) s fun n => n = { m with pwr := { m.pwr with hubTj := tj } }) ∧
  (∀ (k : Rgn) (tj : Int), tj < 150 →
    After (.thermalClear t (some k) tj) s fun n => n = { (m.modPwr k.val (fun x => { x with tj := tj, thermNow := false })) with
        pwr := { m.pwr with
            thermNow := if m.pwr.hubTj < 150 ∧ (∀ j : Nat, j < 12 → j = k.val ∨ (m.rgn j).pwr.tj < 150) then false else
              m.pwr.thermNow } }) ∧
  (∀ (k : Rgn) (tj : Int), 150 ≤ tj →
    After (.thermalClear t (some k) tj) s fun n => n = m.modPwr k.val (fun x => { x with tj := tj })) ∧
  (∀ (tj : Int),
    After (.thermalClear t none tj) s fun n => n = { m with
        pwr := { m.pwr with
            hubTj := tj,
            thermNow := if tj < 150 ∧ (∀ j : Nat, j < 12 → (m.rgn j).pwr.tj < 150) then false else m.pwr.thermNow } }) ∧
  (∀ (p : Port) (k : Rgn) (v : Word), Accepts m p .RGN_RAIL k.val v → m.rstate k.val ≠ .down →
    After (.railTargetWrite t p k v) s fun n => n = ((((storeReg m .RGN_RAIL k.val v).modPwr k.val (fun x => { x with
        rampFrom := some (railMv m k.val, m.now.ns),
        rampOld := m.fld F.RGN_RAIL.TARGET_MV k.val })).mark F.RGN_AGE_STAT.OVR_RAIL k.val).ledgerAct 6 2 k.val).emit
      (okPair p .RGN_RAIL k.val)) ∧
  (∀ (p : Port) (k : Rgn) (v : Word), Accepts m p .RGN_RAIL k.val v → m.rstate k.val = .down →
    After (.railTargetWrite t p k v) s fun n => n = (((storeReg m .RGN_RAIL k.val v).mark F.RGN_AGE_STAT.OVR_RAIL
      k.val).ledgerAct 6 2 k.val).emit (okPair p .RGN_RAIL k.val)) ∧
  (∀ (p : Port) (k : Rgn) (v : Word), Reaches m p .RGN_RAIL k.val → covers (m.port p).session.leases (leaseFor (RegKind.addr
      .RGN_RAIL k.val)) = true → F.RGN_RAIL.TARGET_MV.of v < 720 ∨ 850 < F.RGN_RAIL.TARGET_MV.of v ∨ F.RGN_RAIL.TARGET_MV.of
      v % 5 ≠ 0 →
    After (.railTargetWrite t p k v) s fun n => n = m.emit (.pairStatus p (RegKind.addr .RGN_RAIL k.val) .badValue ⟨3, 0⟩)) ∧
  (∀ (p : Port) (k : Rgn) (v : Word) (j : Nat), Reaches m p .RGN_RAIL k.val → covers (m.port p).session.leases (leaseFor
      (RegKind.addr .RGN_RAIL k.val)) = true → 720 ≤ F.RGN_RAIL.TARGET_MV.of v → F.RGN_RAIL.TARGET_MV.of v ≤ 850 →
      F.RGN_RAIL.TARGET_MV.of v % 5 = 0 → j < 12 → j ≠ k.val → m.inRun j = true → F.RGN_RAIL.TARGET_MV.of v + 40 < railMv m
      j →
    After (.railTargetWrite t p k v) s fun n => n = m.emit (.pairStatus p (RegKind.addr .RGN_RAIL k.val) .railSpread ⟨3,
      0⟩)) ∧
  (∀ (k : Rgn), (m.rgn k.val).pwr.rampFrom.isSome = true → railMv m k.val = m.fld F.RGN_RAIL.TARGET_MV k.val →
    After (.railRampDone t k) s fun n => n = m.modPwr k.val (fun x => { x with
        rampFrom := none,
        nowMv := m.fld F.RGN_RAIL.TARGET_MV k.val })) ∧
  (∀ (k : Rgn), (m.rgn k.val).pwr.rampFrom = none ∨ railMv m k.val ≠ m.fld F.RGN_RAIL.TARGET_MV k.val →
    After (.railRampDone t k) s fun n => n = m)

/-- R559, R561 to R565, R594, R601: the reset's release starts BOOT and demotes an image on trial whose attempt failed; the slots are tried in turn;
an image that verifies is started, and reaching STANDBY within 2 s confirms it; a later attempt fails. -/
def Obligations.BootAttempts : Prop := ∀ (s : State) (t : Stamp) (m : Kz), s.kz.advance t = m →
  (∀ (v : BitVec 11), m.pwr.state = .off → 425 < v.toNat → (bootBlock m.fw).trial = false ∨ m.fw.failsA = 0 →
    After (.resetRelease ⟨t, false, v⟩) s fun n => n = { m with
        pwr := { m.pwr with state := .boot, pg := true, nReset := true, resetComparator := false, testEn := false },
        fw := { m.fw with released := m.now.ns, booting := none, aRefused := false, bRefused := false, demoted := none } }) ∧
  (∀ (v : BitVec 11), m.pwr.state = .off → 425 < v.toNat → (bootBlock m.fw).trial = true → 0 < m.fw.failsA →
    After (.resetRelease ⟨t, false, v⟩) s fun n => n = { m with
        pwr := { m.pwr with state := .boot, pg := true, nReset := true, resetComparator := false, testEn := false },
        fw := n.fw } ∧ n.fw.demoted = some m.fw.failed ∧ n.fw.failsA = 0 ∧ n.fw.failsB = m.fw.failsB ∧ n.fw.aRefused = true
      ∧ n.fw.booting = none ∧ bootBlock n.fw = ⟨(bootBlock m.fw).seq + 1, 1 - (bootBlock m.fw).areaA, false, (bootBlock
      m.fw).qspi⟩) ∧
  (∀ (x : Bool) (v : BitVec 11), m.pwr.state ≠ .off ∨ x = true ∨ v.toNat ≤ 425 →
    After (.resetRelease ⟨t, x, v⟩) s fun n => n = m.modPower (fun p => { p with testEn := x })) ∧
  (∀ (slot : Fin 2) (img : ImageInfo) (keys : IdentKeys), m.pwr.state = .boot → m.fw.booting = none → m.trust.events ≠ [] →
      (areaOf m.fw (attemptArea m.fw slot.val)).isEmpty = true → (slot.val = if m.fw.aRefused = true then 1 else 0) →
      img.valid = true → m.trust.counter ≤ img.sv → ((if slot.val = 0 then m.fw.failsA else m.fw.failsB) < 2) →
    After (.bootSlotVerified t slot img keys) s fun n => n = { m with
        fw := { m.fw with booting := some (slot.val, img), runArea := attemptArea m.fw slot.val, started := m.now.ns },
        trust := n.trust } ∧ n.trust = (extend (extend m 2 [0, BitVec.ofNat 8 slot.val, BitVec.ofNat 8 img.sv] img.digest) 3
      [] (Config.sha512 (m.fw.cfgArea.reads 0 cfgSize))).trust) ∧
  (∀ (slot : Fin 2) (img : ImageInfo) (keys : IdentKeys), m.pwr.state = .boot → m.fw.booting = none → m.trust.events ≠ [] →
      (areaOf m.fw (attemptArea m.fw slot.val)).isEmpty = true → (slot.val = if m.fw.aRefused = true then 1 else 0) →
      img.valid = false ∨ img.sv < m.trust.counter ∨ 2 ≤ m.fw.failsA → slot.val = 0 →
    After (.bootSlotVerified t slot img keys) s fun n => n = { m with fw := { m.fw with aRefused := true } }) ∧
  (∀ (slot : Fin 2) (img : ImageInfo) (keys : IdentKeys), m.pwr.state = .boot → m.fw.booting = none → m.trust.events ≠ [] →
      (areaOf m.fw (attemptArea m.fw slot.val)).isEmpty = true → (slot.val = if m.fw.aRefused = true then 1 else 0) →
      img.valid = false ∨ img.sv < m.trust.counter ∨ 2 ≤ m.fw.failsB → slot.val = 1 →
    After (.bootSlotVerified t slot img keys) s fun n => n = { m with
        fw := { m.fw with bRefused := true, runSlot := 3, onTrial := false },
        pwr := { m.pwr with state := .recovery } }) ∧
  (∀ (slot : Fin 2) (img : ImageInfo) (keys : IdentKeys), m.pwr.state = .boot → m.fw.booting = none → m.trust.events = [] →
      (slot.val = if m.fw.aRefused = true then 1 else 0) →
    After (.bootSlotVerified t slot img keys) s fun n => n.trust.identOk = (decide (keys.ed = slice Config.certificate 20
      32) && decide (keys.ml = slice Config.certificate 52 1952)) ∧ n.trust.events.head? = some (chainEvent 1 []
      Config.romDigest)) ∧
  (∀ (slot : Fin 2) (img : ImageInfo) (keys : IdentKeys), (m.pwr.state ≠ .boot ∨ m.fw.booting.isSome = true ∨ slot.val ≠ if
      m.fw.aRefused = true then 1 else 0) →
    After (.bootSlotVerified t slot img keys) s fun n => n = m) ∧
  (∀ (net : List PortNet) (b : ImageInfo) (x : Nat) (g : ImageInfo), m.pwr.state = .boot → m.fw.booting = some (x, g) →
      m.now.ns ≤ m.fw.started + 2000000000 → m.pwr.ovNow = false → m.pwr.thermNow = false → (bootBlock m.fw).trial = false ∨
      x = 1 →
    After (.bootReachStandby t net b) s fun n => n.pwr = { m.pwr with state := .standby } ∧ n.now = m.now ∧ n.tb.origin =
      ceilTo m.now.tick 4096 ∧ (∀ y : Nat, y < 4 → ((n.port y).ipv4, (n.port y).ipv6) = ((net[y]?).map (fun z => (z.ipv4,
      z.ipv6))).getD ((m.port y).ipv4, (m.port y).ipv6)) ∧ n.fw.booting = none ∧ n.fw.runSlot = x ∧ n.fw.runImage = g ∧
      n.fw.bootMs = (m.now.ns - m.fw.released) / 1000000 % 65536 ∧ n.tb.tb = .tracking ∧ n.tb.synLocked = true ∧ (∀ k : Nat,
      k < 12 → n.rstate k = m.rstate k) ∧ n.trust = m.trust ∧ (n.fw.failsA, n.fw.failsB) = (if x = 0 then 0 else
      m.fw.failsA, if x = 1 then 0 else m.fw.failsB) ∧ n.fw.block0 = m.fw.block0 ∧ n.fw.block1 = m.fw.block1) ∧
  (∀ (net : List PortNet) (b : ImageInfo) (x : Nat) (g : ImageInfo), m.pwr.state = .boot → m.fw.booting = some (x, g) →
      m.now.ns ≤ m.fw.started + 2000000000 → m.pwr.ovNow = false → m.pwr.thermNow = false → (bootBlock m.fw).trial = true →
      x = 0 →
    After (.bootReachStandby t net b) s fun n => n.pwr = { m.pwr with state := .standby } ∧ n.now = m.now ∧ n.tb.origin =
      ceilTo m.now.tick 4096 ∧ (∀ y : Nat, y < 4 → ((n.port y).ipv4, (n.port y).ipv6) = ((net[y]?).map (fun z => (z.ipv4,
      z.ipv6))).getD ((m.port y).ipv4, (m.port y).ipv6)) ∧ n.fw.booting = none ∧ n.fw.runSlot = x ∧ n.fw.runImage = g ∧
      n.fw.bootMs = (m.now.ns - m.fw.released) / 1000000 % 65536 ∧ n.tb.tb = .tracking ∧ n.tb.synLocked = true ∧ (∀ k : Nat,
      k < 12 → n.rstate k = m.rstate k) ∧ n.fw.onTrial = true ∧ n.trust = { m.trust with
        counter := if g.advance = true then max m.trust.counter g.sv else m.trust.counter } ∧ bootBlock n.fw = ⟨(bootBlock
      m.fw).seq + 1, (bootBlock m.fw).areaA, false, (bootBlock m.fw).qspi⟩) ∧
  (∀ (net : List PortNet) (b : ImageInfo) (x : Nat) (g : ImageInfo), m.pwr.state = .boot → m.fw.booting = some (x, g) →
      m.now.ns ≤ m.fw.started + 2000000000 → m.pwr.ovNow = true ∨ m.pwr.thermNow = true →
    After (.bootReachStandby t net b) s fun n => n.pwr = { m.pwr with
        state := .hold,
        causeOv := m.pwr.causeOv || m.pwr.ovNow,
        causeThermal := m.pwr.causeThermal || m.pwr.thermNow,
        calQueue := n.pwr.calQueue,
        passRunning := n.pwr.passRunning }) ∧
  (∀ (net : List PortNet) (b : ImageInfo), m.pwr.state ≠ .boot ∨ m.fw.booting = none ∨ m.fw.started + 2000000000 < m.now.ns
      →
    After (.bootReachStandby t net b) s fun n => n = m) ∧
  (∀ (x : Nat) (g : ImageInfo), m.pwr.state = .boot → m.fw.booting = some (x, g) → m.fw.started + 2000000000 ≤ m.now.ns →
      (bootBlock m.fw).trial = false →
    After (.bootAttemptTimeout t) s fun n => n = { m with
        fw := { m.fw with
            failed := g.version,
            failsA := if x = 0 then m.fw.failsA + 1 else m.fw.failsA,
            failsB := if x = 0 then m.fw.failsB else m.fw.failsB + 1,
            booting := none,
            aRefused := false,
            bRefused := false,
            demoted := none } }) ∧
  (m.pwr.state ≠ .boot ∨ m.fw.booting = none ∨ m.now.ns < m.fw.started + 2000000000 →
    After (.bootAttemptTimeout t) s fun n => n = m)

/-- R554 to R557, R615: a pair that diverges or whose watchdog expires restarts: counted, marked and logged; the restart of pair 0 ends every
request in execution; a second restart within 1 s is MODULE_FATAL; a restarted pair is back at its warm entry. -/
def Obligations.SupervisorPairs : Prop := ∀ (s : State) (t : Stamp) (m : Kz), s.kz.advance t = m →
  (pairsRun m = true → (∀ z ∈ m.sup.last0.toList ++ m.sup.last1.toList, z + 1000000000 ≤ m.now.ns) → Quiet m →
    After (.lockstepDivergence t true) s fun n => n = { m with
        sup := { m.sup with restarting1 := true, last1 := some m.now.ns },
        stats := (m.count .MOD_LOCKSTEP_ERR 0 1).stats,
        regs := (m.mark F.MOD_SUP_STAT.PAIR1_ERR_SEEN 0).regs,
        log := n.log } ∧ n.log.entries.head?.map (fun x => (x.code, x.cls, x.value)) = some (0x0601, 2, 1) ∧ n.log.next =
      (m.log.next + 1) % 2 ^ 32) ∧
  (pairsRun m = true → (∀ z ∈ m.sup.last0.toList ++ m.sup.last1.toList, z + 1000000000 ≤ m.now.ns) → Quiet m →
    After (.lockstepDivergence t false) s fun n => n = { m with
        sup := { m.sup with restarting0 := true, last0 := some m.now.ns },
        stats := (m.count .MOD_LOCKSTEP_ERR 0 1).stats,
        regs := (m.mark F.MOD_SUP_STAT.PAIR0_ERR_SEEN 0).regs,
        log := n.log,
        ports := n.ports,
        wire := n.wire } ∧ n.log.entries.head?.map (fun x => (x.code, x.cls, x.value)) = some (0x0601, 2, 0) ∧ n.log.next =
      (m.log.next + 1) % 2 ^ 32 ∧ (∀ x : Nat, x < 4 → (n.port x).session.running = none ∧ (n.port x).orphans = [])) ∧
  (∀ (p : Port) (q : Running), pairsRun m = true → (∀ z ∈ m.sup.last0.toList ++ m.sup.last1.toList, z + 1000000000 ≤
      m.now.ns) → Quiet m → (m.port p.val).session.running = some q → cmdCode q.req < 0x80 → q.req ≠ .unknown 0x11 [] →
    After (.lockstepDivergence t false) s fun n => .response p.val ⟨q.via, (m.port p.val).session.version.toNat, (m.port
      p.val).sessionId.toNat⟩ q.seq.toNat q.tag.toNat (cmdCode q.req) .supervisorRestart (Detail.bytes (if cmdCode q.req =
      0x11 then ⟨3, q.from_⟩ else noDetail)) false ∈ n.wire) ∧
  (∀ (x : Bool) (z : Nat), pairsRun m = true → Quiet m → m.pwr.state = .hold → z ∈ m.sup.last0.toList ++ m.sup.last1.toList
      → m.now.ns < z + 1000000000 →
    After (.lockstepDivergence t x) s fun n => n.errs = ⟨true, if m.errs.fatalSrc = 0 then 1 else m.errs.fatalSrc⟩ ∧ n.pwr =
      { m.pwr with causeFatal := true } ∧ (if x = true then n.sup.restarting1 else n.sup.restarting0) = true) ∧
  (∀ (x : Bool), pairsRun m = false → Quiet m →
    After (.lockstepDivergence t x) s fun n => n = m) ∧
  (pairsRun m = true → (∀ z ∈ m.sup.last0.toList ++ m.sup.last1.toList, z + 1000000000 ≤ m.now.ns) → Quiet m →
    After (.supervisorWatchdog t true) s fun n => n = { m with
        sup := { m.sup with restarting1 := true, last1 := some m.now.ns },
        stats := (m.count .MOD_LOCKSTEP_ERR 0 1).stats,
        regs := (m.mark F.MOD_SUP_STAT.PAIR1_ERR_SEEN 0).regs,
        log := n.log } ∧ n.log.entries.head?.map (fun x => (x.code, x.cls, x.value)) = some (0x0601, 2, 1) ∧ n.log.next =
      (m.log.next + 1) % 2 ^ 32) ∧
  (pairsRun m = true → (∀ z ∈ m.sup.last0.toList ++ m.sup.last1.toList, z + 1000000000 ≤ m.now.ns) → Quiet m →
    After (.supervisorWatchdog t false) s fun n => n = { m with
        sup := { m.sup with restarting0 := true, last0 := some m.now.ns },
        stats := (m.count .MOD_LOCKSTEP_ERR 0 1).stats,
        regs := (m.mark F.MOD_SUP_STAT.PAIR0_ERR_SEEN 0).regs,
        log := n.log,
        ports := n.ports,
        wire := n.wire } ∧ n.log.entries.head?.map (fun x => (x.code, x.cls, x.value)) = some (0x0601, 2, 0) ∧ n.log.next =
      (m.log.next + 1) % 2 ^ 32 ∧ (∀ x : Nat, x < 4 → (n.port x).session.running = none ∧ (n.port x).orphans = [])) ∧
  (∀ (p : Port) (q : Running), pairsRun m = true → (∀ z ∈ m.sup.last0.toList ++ m.sup.last1.toList, z + 1000000000 ≤
      m.now.ns) → Quiet m → (m.port p.val).session.running = some q → cmdCode q.req < 0x80 → q.req ≠ .unknown 0x11 [] →
    After (.supervisorWatchdog t false) s fun n => .response p.val ⟨q.via, (m.port p.val).session.version.toNat, (m.port
      p.val).sessionId.toNat⟩ q.seq.toNat q.tag.toNat (cmdCode q.req) .supervisorRestart (Detail.bytes (if cmdCode q.req =
      0x11 then ⟨3, q.from_⟩ else noDetail)) false ∈ n.wire) ∧
  (∀ (x : Bool) (z : Nat), pairsRun m = true → Quiet m → m.pwr.state = .hold → z ∈ m.sup.last0.toList ++ m.sup.last1.toList
      → m.now.ns < z + 1000000000 →
    After (.supervisorWatchdog t x) s fun n => n.errs = ⟨true, if m.errs.fatalSrc = 0 then 1 else m.errs.fatalSrc⟩ ∧ n.pwr =
      { m.pwr with causeFatal := true } ∧ (if x = true then n.sup.restarting1 else n.sup.restarting0) = true) ∧
  (∀ (x : Bool), pairsRun m = false → Quiet m →
    After (.supervisorWatchdog t x) s fun n => n = m) ∧
  (Quiet m →
    After (.pairRestartDone t true) s fun n => n = { m with sup := { m.sup with restarting1 := false } }) ∧
  (Quiet m →
    After (.pairRestartDone t false) s fun n => n = { m with sup := { m.sup with restarting0 := false } })

/-- R62, R207, R603, R621, R626, R627, R707, R719, R759: a region whose rails, PLL and SRAM are ready enters IDLE with CAL_DUE on every channel; one whose
readout has drained switches off and loses its SRAM. A channel restart takes effect at its next 16-sample boundary and resumes with an empty chain and a
fresh arming state; one that has not resumed within 100 us restarts its region. -/
def Obligations.RegionStartsAndChannelRestarts : Prop := ∀ (s : State) (t : Stamp) (m : Kz), s.kz.advance t = m →
  (∀ (k : Rgn), Quiet m → (m.rgn k.val).pwr.starting = true → m.rstate k.val = .down → m.tb.tb ≠ .switching →
    After (.regionUpDone t k) s fun n => n = { m with rgns := n.rgns, chans := n.chans, ports := n.ports, wire := n.wire } ∧
      (n.rgn k.val).pwr = { (m.rgn k.val).pwr with
        state := .idle,
        starting := false,
        causeModule := false,
        causeThermal := false,
        causeRail := false,
        nowMv := m.fld F.RGN_RAIL.TARGET_MV k.val,
        rampFrom := none } ∧ (∀ j : Nat, j < 12 → j ≠ k.val → n.rgn j = m.rgn j) ∧ (∀ j : Nat, j < 16 → n.chan (16 * k.val +
      j) = { m.chan (16 * k.val + j) with conv := { (m.chan (16 * k.val + j)).conv with calDue := true } })) ∧
  (∀ (k : Rgn) (p : Port) (q : Running), Quiet m → (m.port p.val).session.running = some q → q.wait = .regionIdle k.val →
      (m.rgn k.val).pwr.starting = true → m.rstate k.val = .down → m.tb.tb ≠ .switching →
    After (.regionUpDone t k) s fun n => .response p.val ⟨q.via, (m.port p.val).session.version.toNat, (m.port
      p.val).sessionId.toNat⟩ q.seq.toNat q.tag.toNat (cmdCode q.req) .ok q.body false ∈ n.wire) ∧
  (∀ (k : Rgn), Quiet m → (m.rgn k.val).pwr.starting = false ∨ m.rstate k.val ≠ .down ∨ m.tb.tb = .switching →
    After (.regionUpDone t k) s fun n => n = m) ∧
  (∀ (k : Rgn), Quiet m → (m.rgn k.val).pwr.draining = true → drained m k.val = true →
    After (.regionDrainDone t k) s fun n => n = { m with
        rgns := n.rgns,
        chans := n.chans,
        mem := (m.mem.clear (0x01000000 + k.val * 0x100000) 0x100000).clear (engBase (16 * k.val)) (16 * 0x20000),
        ports := n.ports,
        wire := n.wire } ∧ (n.rgn k.val).pwr = { (m.rgn k.val).pwr with
        state := .down,
        draining := false,
        causeModule := false,
        causeThermal := false,
        causeRail := false } ∧ (∀ j : Nat, j < 12 → j ≠ k.val → n.rgn j = m.rgn j) ∧ (∀ j : Nat, j < 16 → (n.chan (16 *
      k.val + j)).eng = { loads := (m.chan (16 * k.val + j)).eng.loads } ∧ (n.chan (16 * k.val + j)).avg = {} ∧ (n.chan (16
      * k.val + j)).mem.closed = [] ∧ (n.chan (16 * k.val + j)).mem.content = [])) ∧
  (∀ (k : Rgn) (p : Port) (q : Running), Quiet m → (m.port p.val).session.running = some q → q.wait = .regionDown k.val →
      (m.rgn k.val).pwr.draining = true → drained m k.val = true →
    After (.regionDrainDone t k) s fun n => .response p.val ⟨q.via, (m.port p.val).session.version.toNat, (m.port
      p.val).sessionId.toNat⟩ q.seq.toNat q.tag.toNat (cmdCode q.req) .ok q.body false ∈ n.wire) ∧
  (∀ (k : Rgn), Quiet m → (m.rgn k.val).pwr.draining = false ∨ drained m k.val = false →
    After (.regionDrainDone t k) s fun n => n = m) ∧
  (∀ (c : Chan) (x : Nat), (m.chan c.val).restart.due = some x → (m.rgn (c.val / 16)).err.restarting = false → (m.inRun
      (c.val / 16) = false ∨ m.now.tick % (16 * convTicks m c.val) = 0) →
    After (.channelRestartBoundary t c) s fun n => n = { m with
        chans := n.chans,
        regs := n.regs,
        rgns := n.rgns,
        stats := n.stats,
        spans := n.spans,
        log := n.log,
        mem := n.mem } ∧ (∀ j : Nat, j < 192 → j ≠ c.val → n.chan j = m.chan j) ∧ (n.chan c.val).restart = ⟨none, some x,
      m.now.tick, m.now.ns⟩ ∧ (n.chan c.val).fe.inj = {} ∧ (n.chan c.val).conv.rot = .stopped ∧ (m.inRun (c.val / 16) = true
      → (n.chan c.val).mem.open_ = [] ∧ (n.chan c.val).chain.start = none ∧ (n.chan c.val).trig = {
        lastSrc := (m.chan c.val).trig.lastSrc }) ∧ n.log.entries.head?.map (fun z => (z.code, z.cls, z.kind, z.idx,
      z.value)) = some (0x0160, 2, 1, c.val, x)) ∧
  (∀ (c : Chan), (m.chan c.val).restart.due = none ∨ (m.rgn (c.val / 16)).err.restarting = true ∨ (m.inRun (c.val / 16) =
      true ∧ m.now.tick % (16 * convTicks m c.val) ≠ 0) →
    After (.channelRestartBoundary t c) s fun n => n = m) ∧
  (∀ (c : Chan) (x : Nat), Quiet m → Idle m → (m.chan c.val).restart.active = some x → m.inRun (c.val / 16) = false →
    After (.channelResume t c) s fun n => n = { m with
        chans := n.chans,
        ports := n.ports,
        log := { m.log with entries := logResume 0x0160 c.val m.datum m.log.entries } } ∧ (∀ j : Nat, j < 192 → j ≠ c.val →
      n.chan j = m.chan j) ∧ (n.chan c.val).restart = { (m.chan c.val).restart with active := none } ∧ (assignDue m c.val =
      false → (n.chan c.val) = { (m.chan c.val) with restart := (n.chan c.val).restart }) ∧ SamePorts m n) ∧
  (∀ (c : Chan) (x : Nat), Quiet m → Idle m → (m.chan c.val).restart.active = some x → m.inRun (c.val / 16) = true → (m.rgn
      (c.val / 16)).err.restarting = false →
    After (.channelResume t c) s fun n => (n.chan c.val).restart.active = none ∧ (n.chan c.val).chain.start = some
      m.now.tick ∧ (n.chan c.val).mem.open_ = [] ∧ (n.chan c.val).mem.used.length ≤ 1 ∧ (∀ j : Nat, j < 192 → j ≠ c.val →
      n.chan j = m.chan j)) ∧
  (∀ (c : Chan) (x : Nat) (p : Port) (q : Running), Quiet m → (m.port p.val).session.running = some q → q.wait =
      .channelResume c.val → (m.chan c.val).restart.active = some x →
    After (.channelResume t c) s fun n => .response p.val ⟨q.via, (m.port p.val).session.version.toNat, (m.port
      p.val).sessionId.toNat⟩ q.seq.toNat q.tag.toNat (cmdCode q.req) .ok q.body false ∈ n.wire) ∧
  (∀ (c : Chan), Quiet m → (m.chan c.val).restart.active = none →
    After (.channelResume t c) s fun n => n = m) ∧
  (∀ (c : Chan) (x : Nat), Quiet m → (m.chan c.val).restart.active = some x → (m.chan c.val).restart.startNs + 100000 ≤
      m.now.ns → m.rstate (c.val / 16) ≠ .down → (m.rgn (c.val / 16)).err.restarting = false →
    After (.channelRestartOverdue t c) s fun n => (n.rgn (c.val / 16)).err.restarting = true ∧ (n.rgn (c.val /
      16)).err.lastCause = 6 ∧ (n.chan c.val).restart = {}) ∧
  (∀ (c : Chan), Quiet m → (m.chan c.val).restart.active = none ∨ m.now.ns < (m.chan c.val).restart.startNs + 100000 →
    After (.channelRestartOverdue t c) s fun n => n = m)

/-- R127, R621, R628 to R631, R652: a REGION_FATAL error restarts its region, which is reloaded, stubs its owed records, and names the cause; the third
restart within 1 s is MODULE_FATAL; the region resumes in its state, and one that does not within its bound is MODULE_FATAL. -/
def Obligations.RegionRestarts : Prop := ∀ (s : State) (t : Stamp) (m : Kz), s.kz.advance t = m →
  (∀ (k : Rgn) (cause : Fin 6), Quiet m → m.rstate k.val ≠ .down → (m.rgn k.val).err.restarting = false → ((m.rgn
      k.val).err.times.length < 2 ∨ (m.rgn k.val).err.times.getD 1 0 + 1000000000 ≤ m.now.ns) →
    After (.regionRestart t k cause) s fun n => n = { m with
        pwr := { m.pwr with passRunning := n.pwr.passRunning },
        regs := n.regs,
        rgns := n.rgns,
        chans := n.chans,
        stats := n.stats,
        spans := n.spans,
        log := n.log,
        ports := n.ports,
        wire := n.wire,
        mem := n.mem } ∧ (n.rgn k.val).pwr = (m.rgn k.val).pwr ∧ (n.rgn k.val).err = { (m.rgn k.val).err with
        restarting := true,
        start := m.now.tick,
        restarts := ((m.rgn k.val).err.restarts + 1) % 256,
        lastCause := cause.val + 1,
        times := (m.now.ns :: (m.rgn k.val).err.times).take 3,
        answered := (n.rgn k.val).err.answered } ∧ (n.rgn k.val).acq.queue = [] ∧ (n.rgn k.val).acq.mirror = [] ∧ (∀ x ∈
      (m.rgn k.val).acq.mirror, x.ser < (n.rgn k.val).err.answered) ∧ (∀ j : Nat, j < 16 → (n.chan (16 * k.val +
      j)).chain.start = none) ∧ (n.log.entries.head?.map (fun x => (x.code, x.cls, x.kind, x.idx)) = some (0x0901, 3, 2,
      k.val)) ∧ n.seen F.RGN_ERR_STAT.FATAL_SEEN k.val = 1) ∧
  (∀ (k : Rgn) (cause : Fin 6), Quiet m → powered m.pwr.state = true → m.rstate k.val ≠ .down → (m.rgn k.val).err.restarting
      = false → 2 ≤ (m.rgn k.val).err.times.length → m.now.ns < (m.rgn k.val).err.times.getD 1 0 + 1000000000 →
    After (.regionRestart t k cause) s fun n => n.errs = ⟨true, if m.errs.fatalSrc = 0 then 4 else m.errs.fatalSrc⟩ ∧
      n.pwr.causeFatal = true ∧ n.pwr.state = .hold ∧ (n.rgn k.val).err.restarting = true ∧ (n.rgn k.val).err.lastCause =
      cause.val + 1) ∧
  (∀ (k : Rgn) (cause : Fin 6), Quiet m → (m.rgn k.val).err.restarting = true → m.rstate k.val ≠ .down →
    After (.regionRestart t k cause) s fun n => n = m) ∧
  (∀ (k : Rgn) (cause : Fin 6), Quiet m → m.rstate k.val = .down →
    After (.regionRestart t k cause) s fun n => n = { m with regs := n.regs, chans := n.chans } ∧ n.regs.image =
      m.regs.image ∧ n.regs.seen = m.regs.seen) ∧
  (∀ (k : Rgn), Quiet m → m.rstate k.val ≠ .down → (m.rgn k.val).err.restarting = false → ((m.rgn k.val).err.times.length <
      2 ∨ (m.rgn k.val).err.times.getD 1 0 + 1000000000 ≤ m.now.ns) →
    After (.fabricPllUnlock t k) s fun n => n = { m with
        pwr := { m.pwr with passRunning := n.pwr.passRunning },
        regs := n.regs,
        rgns := n.rgns,
        chans := n.chans,
        stats := n.stats,
        spans := n.spans,
        log := n.log,
        ports := n.ports,
        wire := n.wire,
        mem := n.mem } ∧ (n.rgn k.val).pwr = (m.rgn k.val).pwr ∧ (n.rgn k.val).err = { (m.rgn k.val).err with
        restarting := true,
        start := m.now.tick,
        restarts := ((m.rgn k.val).err.restarts + 1) % 256,
        lastCause := 3,
        times := (m.now.ns :: (m.rgn k.val).err.times).take 3,
        answered := (n.rgn k.val).err.answered } ∧ (n.rgn k.val).acq.queue = [] ∧ (n.rgn k.val).acq.mirror = [] ∧ (∀ x ∈
      (m.rgn k.val).acq.mirror, x.ser < (n.rgn k.val).err.answered) ∧ (∀ j : Nat, j < 16 → (n.chan (16 * k.val +
      j)).chain.start = none) ∧ (n.log.entries.head?.map (fun x => (x.code, x.cls, x.kind, x.idx)) = some (0x0901, 3, 2,
      k.val)) ∧ n.seen F.RGN_ERR_STAT.FATAL_SEEN k.val = 1) ∧
  (∀ (k : Rgn), Quiet m → powered m.pwr.state = true → m.rstate k.val ≠ .down → (m.rgn k.val).err.restarting = false → 2 ≤
      (m.rgn k.val).err.times.length → m.now.ns < (m.rgn k.val).err.times.getD 1 0 + 1000000000 →
    After (.fabricPllUnlock t k) s fun n => n.errs = ⟨true, if m.errs.fatalSrc = 0 then 4 else m.errs.fatalSrc⟩ ∧
      n.pwr.causeFatal = true ∧ n.pwr.state = .hold ∧ (n.rgn k.val).err.restarting = true ∧ (n.rgn k.val).err.lastCause = 3) ∧
  (∀ (k : Rgn), Quiet m → (m.rgn k.val).err.restarting = true → m.rstate k.val ≠ .down →
    After (.fabricPllUnlock t k) s fun n => n = m) ∧
  (∀ (k : Rgn), Quiet m → m.rstate k.val = .down →
    After (.fabricPllUnlock t k) s fun n => n = { m with regs := n.regs, chans := n.chans } ∧ n.regs.image = m.regs.image ∧
      n.regs.seen = m.regs.seen) ∧
  (∀ (k : Rgn), Quiet m → Idle m → (m.rgn k.val).err.restarting = true → m.inRun k.val = false →
    After (.regionResume t k) s fun n => n = { m with
        rgns := n.rgns,
        ports := n.ports,
        spans := (m.closeSpan (.regionRestart k.val)).spans,
        log := { m.log with entries := n.log.entries } } ∧ n.log.entries = logResume 0x0901 k.val m.datum m.log.entries ∧ (∀
      j : Nat, j < 12 → j ≠ k.val → n.rgn j = m.rgn j) ∧ (n.rgn k.val) = { (m.rgn k.val) with
        err := { (m.rgn k.val).err with restarting := false },
        lane := { (m.rgn k.val).lane with
            departs := 0,
            hubDeparts := 0,
            badOut := 0,
            lostBefore := none,
            outQ := (m.rgn k.val).lane.outQ.map (fun x => { x with old := true }) } } ∧ SamePorts m n) ∧
  (∀ (k : Rgn), Quiet m → Idle m → (m.rgn k.val).err.restarting = true → m.inRun k.val = true →
    After (.regionResume t k) s fun n => (n.rgn k.val).err.restarting = false ∧ (n.rgn k.val).pwr = (m.rgn k.val).pwr ∧ (∀ j
      : Nat, j < 16 → (n.chan (16 * k.val + j)).chain.start = some m.now.tick) ∧ (∀ j : Nat, j < 16 → (n.chan (16 * k.val +
      j)).mem.open_ = [])) ∧
  (∀ (k : Rgn), Quiet m → Idle m → (m.rgn k.val).err.restarting = false →
    After (.regionResume t k) s fun n => n = m) ∧
  (∀ (k : Rgn), Quiet m → powered m.pwr.state = true → (m.rgn k.val).err.restarting = true → ((m.rgn k.val).err.times.headD
      0 + (if (m.rgn k.val).err.lastCause = 3 then 6000000 else 2000000) ≤ m.now.ns) →
    After (.regionRestartOverdue t k) s fun n => n.errs = ⟨true, if m.errs.fatalSrc = 0 then 4 else m.errs.fatalSrc⟩ ∧
      n.pwr.state = .hold ∧ n.pwr.causeFatal = true) ∧
  (∀ (k : Rgn), Quiet m → ((m.rgn k.val).err.restarting = false ∨ m.now.ns < (m.rgn k.val).err.times.headD 0 + (if (m.rgn
      k.val).err.lastCause = 3 then 6000000 else 2000000)) →
    After (.regionRestartOverdue t k) s fun n => n = m)

/-- R265, R303, R311, R348, R620, R623: the scrubber of a powered module counts a corrected word, and handles an uncorrectable one by where it lies;
what is lost is cleared, reloaded or restarted, and the rest stays as it was. -/
def Obligations.ScrubbedMemory : Prop := ∀ (s : State) (t : Stamp) (m : Kz), s.kz.advance t = m →
  (∀ (site : Site), Quiet m →
    After (.scrubRead t site .clean) s fun n => n = m) ∧
  (∀ (site : Site) (found : Found), Quiet m → powered m.pwr.state = false ∨ sitePowered m site = false →
    After (.scrubRead t site found) s fun n => n = m) ∧
  (∀ (k : Rgn), Quiet m → powered m.pwr.state = true → m.rstate k.val ≠ .down →
    After (.scrubRead t (.regionSram k) .corrected) s fun n => n = m.count .RGN_ECC_CORR k.val 1) ∧
  (∀ (site : Site) (k : Rgn), Quiet m → powered m.pwr.state = true → sitePowered m site = true → site ≠ .regionSram k → (∀ z
      : Rgn, site ≠ .regionSram z) →
    After (.scrubRead t site .corrected) s fun n => n = m.count .MOD_ECC_CORR 0 1) ∧
  (∀ (k : Rgn), Quiet m → powered m.pwr.state = true → m.rstate k.val ≠ .down →
    After (.scrubRead t (.regionSram k) .uncorrectable) s fun n => n = { m with
        stats := (m.count .MOD_SCRUB_UNCORR 0 1).stats,
        regs := (m.mark F.MOD_ERR_STAT.SCRUB_UNCORR_SEEN 0).regs }) ∧
  (Quiet m → powered m.pwr.state = true →
    After (.scrubRead t .hubSram .uncorrectable) s fun n => n = { m with
        stats := (m.count .MOD_SCRUB_UNCORR 0 1).stats,
        regs := (m.mark F.MOD_ERR_STAT.SCRUB_UNCORR_SEEN 0).regs }) ∧
  (Quiet m → powered m.pwr.state = true →
    After (.scrubRead t .hubState .uncorrectable) s fun n => n.errs = ⟨true, if m.errs.fatalSrc = 0 then 2 else
      m.errs.fatalSrc⟩ ∧ n.pwr.state = .hold ∧ n.pwr.causeFatal = true ∧ n.counter .MOD_SCRUB_UNCORR 0 = (m.count
      .MOD_SCRUB_UNCORR 0 1).counter .MOD_SCRUB_UNCORR 0) ∧
  (∀ (c : Chan), Quiet m → powered m.pwr.state = true → m.rstate (c.val / 16) ≠ .down → (m.chan c.val).eng.state = .running
      →
    After (.scrubRead t (.engine c) .uncorrectable) s fun n => n = { m with
        stats := (m.count .MOD_SCRUB_UNCORR 0 1).stats,
        regs := ((m.mark F.MOD_ERR_STAT.SCRUB_UNCORR_SEEN 0).markBit F.ENG_STAT.FAULT_SEEN (c.val / 16) (c.val % 16)).regs,
        chans := (m.modEng c.val (fun e => { e with state := .fault, act := none, handoffs := [] })).chans,
        log := n.log } ∧ n.log.next = (m.log.next + 1) % 2 ^ 32 ∧ n.log.entries.head?.map (fun z => (z.code, z.cls, z.kind,
      z.idx)) = some (0x0151, 2, 1, c.val)) ∧
  (∀ (c : Chan), Quiet m → powered m.pwr.state = true → m.rstate (c.val / 16) ≠ .down → (m.chan c.val).eng.state ≠ .running
      →
    After (.scrubRead t (.engine c) .uncorrectable) s fun n => n = { m with
        stats := (m.count .MOD_SCRUB_UNCORR 0 1).stats,
        regs := (m.mark F.MOD_ERR_STAT.SCRUB_UNCORR_SEEN 0).regs }) ∧
  (∀ (c : Chan) (y : Fin 2), Quiet m → powered m.pwr.state = true → m.rstate (c.val / 16) ≠ .down →
    After (.scrubRead t (.maskPoints c y) .uncorrectable) s fun n => n = { m with
        stats := (m.count .MOD_SCRUB_UNCORR 0 1).stats,
        regs := ((m.mark F.MOD_ERR_STAT.SCRUB_UNCORR_SEEN 0).mark F.RGN_ERR_STAT.MASK_MEM_SEEN (c.val / 16)).regs,
        rgns := (m.modErr (c.val / 16) (fun e => { e with maskBad := (c.val, y.val) :: e.maskBad })).rgns,
        log := n.log } ∧ n.log.next = (m.log.next + 1) % 2 ^ 32 ∧ n.log.entries.head?.map (fun z => (z.code, z.cls, z.kind,
      z.idx)) = some (0x0131, 2, 1, c.val)) ∧
  (∀ (c : Chan), Quiet m → powered m.pwr.state = true → m.rstate (c.val / 16) ≠ .down →
    After (.scrubRead t (.coefficients c) .uncorrectable) s fun n => n = { m with
        stats := (m.count .MOD_SCRUB_UNCORR 0 1).stats,
        regs := (m.mark F.MOD_ERR_STAT.SCRUB_UNCORR_SEEN 0).regs,
        chans := n.chans } ∧ (∀ z : Nat, z < 192 → z ≠ c.val → n.chan z = m.chan z) ∧ (n.chan c.val) = { (m.chan c.val) with
        conv := { (m.chan c.val).conv with
            coef := (m.chan c.val).conv.coefImage.foldl (fun x z => Sparse.set x z.1 z.2) (m.chan c.val).conv.coef },
        restart := if (m.rgn (c.val / 16)).err.restarting = true then (m.chan c.val).restart else { (m.chan c.val).restart with
            due := some ((m.chan c.val).restart.due.getD 4) } }) ∧
  (∀ (c : Chan), Quiet m → powered m.pwr.state = true → m.rstate (c.val / 16) ≠ .down →
    After (.scrubRead t (.averager c) .uncorrectable) s fun n => n = { m with
        stats := (m.count .MOD_SCRUB_UNCORR 0 1).stats,
        regs := (m.mark F.MOD_ERR_STAT.SCRUB_UNCORR_SEEN 0).regs,
        chans := (modAvg m c.val (fun x => { x with
            sums := [],
            count := 0,
            done := false,
            sat := false,
            clip := false,
            cut := none })).chans,
        log := n.log,
        fresh := m.fresh + 1 } ∧ n.log.next = (m.log.next + 1) % 2 ^ 32 ∧ n.log.entries.head?.map (fun z => (z.cls, z.kind,
      z.idx)) = some (2, 1, c.val)) ∧
  (∀ (c : Chan) (b : Fin 4096), Quiet m → powered m.pwr.state = true →
    After (.scrubRead t (.histogram c b) .uncorrectable) s fun n => n = { m with
        stats := (m.count .MOD_SCRUB_UNCORR 0 1).stats,
        regs := (m.mark F.MOD_ERR_STAT.SCRUB_UNCORR_SEEN 0).regs,
        chans := (modHist m c.val (fun x => { x with bins := Sparse.put 0 x.bins b.val 0 })).chans,
        log := n.log,
        fresh := m.fresh + 1 } ∧ n.log.next = (m.log.next + 1) % 2 ^ 32 ∧ n.log.entries.head?.map (fun z => (z.cls, z.kind,
      z.idx)) = some (2, 1, c.val)) ∧
  (∀ (y : Fin 2) (b : Fin 1048576), Quiet m → powered m.pwr.state = true →
    After (.scrubRead t (.mapCell y b) .uncorrectable) s fun n => n = { m with
        stats := (m.count .MOD_SCRUB_UNCORR 0 1).stats,
        regs := (m.mark F.MOD_ERR_STAT.SCRUB_UNCORR_SEEN 0).regs,
        maps := (modMap m y.val (fun x => { x with cells := Sparse.put 0 x.cells b.val 0 })).maps,
        log := n.log,
        fresh := m.fresh + 1 } ∧ n.log.next = (m.log.next + 1) % 2 ^ 32 ∧ n.log.entries.head?.map (fun z => (z.cls, z.kind,
      z.idx)) = some (2, 0, 0))

/-- R620, R621, R624, R625, R632: an upset copy of a voted register is rewritten from the two that agree and counted; without a majority the register
is reloaded and its channel, region or module restarts; a MODULE_FATAL error puts the module into HOLD with its source. -/
def Obligations.VotedRegistersAndFatalErrors : Prop := ∀ (s : State) (t : Stamp) (m : Kz), s.kz.advance t = m →
  (∀ (a b c : Word) (r : Reg) (x : Word), powered m.pwr.state = true → Quiet m → regAt x.toNat = some r → r.kind.info.voted
      ≠ 0 → a &&& (BitVec.ofNat 32 r.kind.info.voted) = b &&& (BitVec.ofNat 32 r.kind.info.voted) ∨ a &&& (BitVec.ofNat 32
      r.kind.info.voted) = c &&& (BitVec.ofNat 32 r.kind.info.voted) →
    After (.voteScrub t x a b c) s fun n => n = { m with
        regs := { m.regs with
            cfg := Sparse.set m.regs.cfg (r.kind.addr r.inst) ((a &&& (BitVec.ofNat 32 r.kind.info.voted)) ||| (m.cfgWord
              r.kind r.inst &&& ~~~(BitVec.ofNat 32 r.kind.info.voted))) },
        stats := (if a &&& (BitVec.ofNat 32 r.kind.info.voted) = b &&& (BitVec.ofNat 32 r.kind.info.voted) ∧ a &&&
          (BitVec.ofNat 32 r.kind.info.voted) = c &&& (BitVec.ofNat 32 r.kind.info.voted) then m.stats else (m.count
          .MOD_VOTE_FIX 0 1).stats) }) ∧
  (∀ (a b c : Word) (r : Reg) (x : Word), powered m.pwr.state = true → Quiet m → regAt x.toNat = some r → r.kind.info.voted
      ≠ 0 → b &&& (BitVec.ofNat 32 r.kind.info.voted) = c &&& (BitVec.ofNat 32 r.kind.info.voted) → a &&& (BitVec.ofNat 32
      r.kind.info.voted) ≠ b &&& (BitVec.ofNat 32 r.kind.info.voted) →
    After (.voteScrub t x a b c) s fun n => n = { m with
        regs := { m.regs with
            cfg := Sparse.set m.regs.cfg (r.kind.addr r.inst) ((b &&& (BitVec.ofNat 32 r.kind.info.voted)) ||| (m.cfgWord
              r.kind r.inst &&& ~~~(BitVec.ofNat 32 r.kind.info.voted))) },
        stats := (if a &&& (BitVec.ofNat 32 r.kind.info.voted) = b &&& (BitVec.ofNat 32 r.kind.info.voted) ∧ a &&&
          (BitVec.ofNat 32 r.kind.info.voted) = c &&& (BitVec.ofNat 32 r.kind.info.voted) then m.stats else (m.count
          .MOD_VOTE_FIX 0 1).stats) }) ∧
  (∀ (a b c : Word) (r : Reg) (x : Word), powered m.pwr.state = true → Quiet m → regAt x.toNat = some r → r.kind.info.voted
      ≠ 0 → a &&& (BitVec.ofNat 32 r.kind.info.voted) ≠ b &&& (BitVec.ofNat 32 r.kind.info.voted) → a &&& (BitVec.ofNat 32
      r.kind.info.voted) ≠ c &&& (BitVec.ofNat 32 r.kind.info.voted) → b &&& (BitVec.ofNat 32 r.kind.info.voted) ≠ c &&&
      (BitVec.ofNat 32 r.kind.info.voted) → r.kind.info.win = .channel →
    After (.voteScrub t x a b c) s fun n => n = { m with chans := n.chans, regs := n.regs, log := n.log } ∧ n.regs.cfg =
      (reload m r.kind r.inst).regs.cfg ∧ (∀ z : Nat, z < 192 → n.chan z = if z = r.inst ∧ (m.rgn (z / 16)).err.restarting =
      false then { m.chan z with restart := { (m.chan z).restart with due := some ((m.chan z).restart.due.getD 3) } } else
      m.chan z) ∧ n.seen F.MOD_ERR_STAT.VOTE_NOMAJ_SEEN 0 = 1 ∧ n.log.entries.head?.map (fun z => (z.code, z.cls, z.kind,
      z.idx)) = some (0x0903, 2, 1, r.inst)) ∧
  (∀ (a b c : Word) (r : Reg) (x : Word), powered m.pwr.state = true → Quiet m → regAt x.toNat = some r → r.kind.info.voted
      ≠ 0 → a &&& (BitVec.ofNat 32 r.kind.info.voted) ≠ b &&& (BitVec.ofNat 32 r.kind.info.voted) → a &&& (BitVec.ofNat 32
      r.kind.info.voted) ≠ c &&& (BitVec.ofNat 32 r.kind.info.voted) → b &&& (BitVec.ofNat 32 r.kind.info.voted) ≠ c &&&
      (BitVec.ofNat 32 r.kind.info.voted) → r.kind.info.win = .region → m.rstate (r.inst / r.kind.info.cnt) ≠ .down → (m.rgn
      (r.inst / r.kind.info.cnt)).err.restarting = false →
    After (.voteScrub t x a b c) s fun n => (n.rgn (r.inst / r.kind.info.cnt)).err.restarting = true ∧ (n.rgn (r.inst /
      r.kind.info.cnt)).err.lastCause = 1) ∧
  (∀ (a b c : Word) (r : Reg) (x : Word), powered m.pwr.state = true → Quiet m → regAt x.toNat = some r → r.kind.info.voted
      ≠ 0 → a &&& (BitVec.ofNat 32 r.kind.info.voted) ≠ b &&& (BitVec.ofNat 32 r.kind.info.voted) → a &&& (BitVec.ofNat 32
      r.kind.info.voted) ≠ c &&& (BitVec.ofNat 32 r.kind.info.voted) → b &&& (BitVec.ofNat 32 r.kind.info.voted) ≠ c &&&
      (BitVec.ofNat 32 r.kind.info.voted) → r.kind.info.win = .module →
    After (.voteScrub t x a b c) s fun n => n.errs = ⟨true, if m.errs.fatalSrc = 0 then 3 else m.errs.fatalSrc⟩ ∧
      n.pwr.state = .hold ∧ n.pwr.causeFatal = true) ∧
  (∀ (a b c : Word) (r : Reg) (x : Word), Quiet m → powered m.pwr.state = false ∨ r.kind.info.voted = 0 → regAt x.toNat =
      some r →
    After (.voteScrub t x a b c) s fun n => n = m) ∧
  (∀ (src : Fin 4), Quiet m → m.pwr.state = .standby ∨ m.pwr.state = .ready ∨ m.pwr.state = .acquire →
    After (.moduleFatal t src) s fun n => n = { m with
        errs := n.errs,
        pwr := n.pwr,
        rgns := n.rgns,
        chans := n.chans,
        stats := n.stats,
        spans := n.spans,
        log := n.log,
        ports := n.ports,
        wire := n.wire } ∧ n.errs = ⟨true, if m.errs.fatalSrc = 0 then src.val + 1 else m.errs.fatalSrc⟩ ∧ n.pwr = { m.pwr with
        state := .hold,
        causeFatal := true,
        calQueue := n.pwr.calQueue,
        passRunning := n.pwr.passRunning } ∧ (∀ j : Nat, j < 12 → (n.rgn j).pwr = if m.rstate j = .down then { (m.rgn j).pwr with
        starting := false } else { (m.rgn j).pwr with state := .hold, causeModule := true, draining := false }) ∧
      n.log.entries.head?.map (fun z => (z.code, z.cls, z.kind, z.idx)) = some (0x0902, 4, 0, 0) ∧ n.log.archive.head?.map
      (fun z => z.code) = some 0x0902) ∧
  (∀ (src : Fin 4), Quiet m → m.pwr.state = .hold →
    After (.moduleFatal t src) s fun n => n = { m with
        errs := n.errs,
        pwr := { m.pwr with causeFatal := true },
        stats := n.stats,
        log := n.log,
        ports := n.ports,
        wire := n.wire } ∧ n.errs = ⟨true, if m.errs.fatalSrc = 0 then src.val + 1 else m.errs.fatalSrc⟩ ∧ n.log.next =
      (m.log.next + 1) % 2 ^ 32) ∧
  (∀ (src : Fin 4), Quiet m → m.pwr.state = .boot ∨ m.pwr.state = .recovery →
    After (.moduleFatal t src) s fun n => n.pwr.state = .off ∧ n.pwr.resetCause = 16 ∧ n.ports = []) ∧
  (∀ (src : Fin 4), Quiet m → m.pwr.state = .off →
    After (.moduleFatal t src) s fun n => n = m)

/-- R635 to R641, R646, R647, R757: the timer raises a boundary when its period has passed; at F_b every counter is copied into its snapshot and
restarts, and the period goes up; a boundary too soon after the last one is skipped and logged; the copy's end is answered. -/
def Obligations.StatisticsPeriods : Prop := ∀ (s : State) (t : Stamp) (m : Kz), s.kz.advance t = m →
  (powered m.pwr.state = true → m.fld F.MOD_STAT_CTRL.TIMER_MS 0 ≠ 0 → m.stats.timerFrom + (m.fld F.MOD_STAT_CTRL.TIMER_MS
      0) * 1000000 ≤ m.now.ns → BoundarySource.timer ∉ m.stats.raised → (∀ z ∈ m.stats.due, z.2 ≠ BoundarySource.timer) →
    After (.statTimerExpire t) s fun n => n = { m with
        stats := { m.stats with raised := m.stats.raised ++ [BoundarySource.timer] },
        hub := { m.hub with out := { m.hub.out with boundary := true } } }) ∧
  (powered m.pwr.state = false ∨ m.fld F.MOD_STAT_CTRL.TIMER_MS 0 = 0 ∨ m.now.ns < m.stats.timerFrom + m.fld
      F.MOD_STAT_CTRL.TIMER_MS 0 * 1000000 ∨ BoundarySource.timer ∈ m.stats.raised →
    After (.statTimerExpire t) s fun n => n = m) ∧
  (∀ (p : Port) (v : Word), Accepts m p .MOD_STAT_CTRL 0 v → F.MOD_STAT_CTRL.TIMER_MS.of v ≠ 0 → m.stats.timerFrom +
      F.MOD_STAT_CTRL.TIMER_MS.of v * 1000000 ≤ m.now.ns → BoundarySource.timer ∉ m.stats.raised → (∀ z ∈ m.stats.due, z.2 ≠
      BoundarySource.timer) →
    After (.statTimerWrite t p v) s fun n => n = ({ (storeReg m .MOD_STAT_CTRL 0 v) with
        stats := { m.stats with raised := m.stats.raised ++ [BoundarySource.timer] },
        hub := { m.hub with out := { m.hub.out with boundary := true } } }).emit (okPair p .MOD_STAT_CTRL 0)) ∧
  (∀ (p : Port) (v : Word), Accepts m p .MOD_STAT_CTRL 0 v → F.MOD_STAT_CTRL.TIMER_MS.of v = 0 ∨ m.now.ns <
      m.stats.timerFrom + F.MOD_STAT_CTRL.TIMER_MS.of v * 1000000 →
    After (.statTimerWrite t p v) s fun n => n = (storeReg m .MOD_STAT_CTRL 0 v).emit (okPair p .MOD_STAT_CTRL 0)) ∧
  (∀ (fb : Nat) (x : BoundarySource) (l : List (Nat × BoundarySource)), Quiet m → m.stats.due = (fb, x) :: l → fb ≤ m.fabric
      → tooSoon m fb = false → m.stats.period < 2 ^ 32 → Sparse.sortedFrom 0 m.stats.live = true → m.stats.early = [] →
      lateFor m fb = [] →
    After (.statLatch t) s fun n => n = { m with stats := n.stats, rgns := n.rgns } ∧ n.stats.due = l ∧ n.stats.live = [] ∧
      (∀ z ∈ m.stats.live, Sparse.get ({} : Counter) n.stats.snap z.1 = z.2) ∧ n.stats.ended = m.stats.period ∧
      n.stats.period = (m.stats.period + 1) % 2 ^ 32 ∧ n.stats.busy = true ∧ n.stats.source = x.code ∧ n.stats.hdrFb =
      m.datumOf (16 * fb) ∧ n.stats.lastFb = some fb ∧ n.stats.timerFrom = fbNs m fb ∧ n.stats.skipped = m.stats.skipped) ∧
  (∀ (fb : Nat) (x : BoundarySource) (l : List (Nat × BoundarySource)), Quiet m → m.stats.due = (fb, x) :: l → fb ≤ m.fabric
      → tooSoon m fb = true → x ≠ .host → m.stats.early = [] → m.stats.hostWait = none →
    After (.statLatch t) s fun n => n = { m with
        stats := { m.stats with due := l, skipped := min 65535 (m.stats.skipped + 1) },
        log := n.log } ∧ n.log.entries.head?.map (fun z => (z.code, z.cls, z.second, z.value)) = some (0x0904, 0, m.datumOf
      (16 * fb), x.code)) ∧
  (∀ (fb : Nat) (x : BoundarySource) (l : List (Nat × BoundarySource)), Quiet m → m.stats.due = [] ∨ m.stats.due = (fb, x)
      :: l ∧ m.fabric < fb →
    After (.statLatch t) s fun n => n = m) ∧
  (Quiet m → m.stats.busy = true → m.stats.hostWait = none →
    After (.statCopyDone t) s fun n => n = { m with stats := { m.stats with busy := false, memory := m.stats.snap } }) ∧
  (∀ (p : Port) (q : Running) (x : Bool), Quiet m → m.stats.busy = true → m.stats.hostWait = some x → (m.port
      p.val).session.running = some q → q.wait = .boundary →
    After (.statCopyDone t) s fun n => n.stats = { m.stats with busy := false, memory := m.stats.snap, hostWait := none } ∧
      .response p.val ⟨q.via, (m.port p.val).session.version.toNat, (m.port p.val).sessionId.toNat⟩ q.seq.toNat q.tag.toNat
      (cmdCode q.req) .ok (q.body ++ (be 4 m.stats.ended ++ be 1 (b2n x) ++ be 3 0)) false ∈ n.wire) ∧
  (Quiet m → m.stats.busy = false →
    After (.statCopyDone t) s fun n => n = m) ∧
  (powered m.pwr.state = true → m.log.archiveNext < 2 ^ 32 →
    After (.archiveSummary t true) s fun n => n = { m with log := n.log } ∧ n.log.next = m.log.next ∧ n.log.entries =
      m.log.entries ∧ n.log.since = [] ∧ n.log.archiveNext = (m.log.archiveNext + m.log.since.length) % 2 ^ 32 ∧
      (m.log.archive.length + m.log.since.length ≤ Kz.archiveSize → (n.log.archive.take m.log.since.length).reverse.map (fun
      z => (z.idx, z.value, z.second, z.code)) = m.log.since.map (fun z => (z.1, z.2.1, z.2.2, 0x0F00)) ∧ n.log.archive.drop
      m.log.since.length = m.log.archive)) ∧
  (powered m.pwr.state = true →
    After (.archiveSummary t false) s fun n => n.log.since = [] ∧ n.regs = (m.mark F.MOD_ERR_STAT.ARCHIVE_FAIL_SEEN 0).regs) ∧
  (∀ (x : Bool), powered m.pwr.state = false →
    After (.archiveSummary t x) s fun n => n = m)

/-- R654 to R659: a pair's degradation, a bank's minimum voltage, the hourly doses, benchmark means and heater power, and the daily tuning words and
hearth deviation are kept for the policy; a region in DOWN is not measured. -/
def Obligations.AgeingMonitors : Prop := ∀ (s : State) (t : Stamp) (m : Kz), s.kz.advance t = m →
  (∀ (k : Rgn) (pair : Fin 4) (ppm : Int), powered m.pwr.state = true → m.rstate k.val ≠ .down → (m.rgn
      k.val).age.deg.length = 4 →
    After (.ageRoMeasure t k pair ppm) s fun n => n = modRAge m k.val (fun x => { x with deg := x.deg.set pair.val ppm })) ∧
  (∀ (k : Rgn) (pair : Fin 4) (ppm : Int), powered m.pwr.state = false ∨ m.rstate k.val = .down →
    After (.ageRoMeasure t k pair ppm) s fun n => n = m) ∧
  (∀ (k : Rgn) (mv : BitVec 10), powered m.pwr.state = true → m.rstate k.val ≠ .down → bankSum m k.val < 128 →
    After (.vminTest t k (some mv)) s fun n => n = modRAge m k.val (fun x => { x with
        noVmin := false,
        vmin := mv.toNat,
        vminMin := if x.vminMax = 0 then mv.toNat else min x.vminMin mv.toNat,
        vminMax := max x.vminMax mv.toNat })) ∧
  (∀ (k : Rgn), powered m.pwr.state = true → m.rstate k.val ≠ .down → bankSum m k.val < 128 →
    After (.vminTest t k none) s fun n => n = modRAge m k.val (fun x => { x with noVmin := false })) ∧
  (∀ (k : Rgn) (mv : Option (BitVec 10)), powered m.pwr.state = true → m.rstate k.val ≠ .down → 128 ≤ bankSum m k.val →
    After (.vminTest t k mv) s fun n => n = modRAge m k.val (fun x => { x with noVmin := true })) ∧
  (∀ (k : Rgn) (mv : Option (BitVec 10)), powered m.pwr.state = false ∨ m.rstate k.val = .down →
    After (.vminTest t k mv) s fun n => n = m) ∧
  (powered m.pwr.state = true → m.age.dose.length = 5 →
    After (.ageHourly t none) s fun n => n = { m with
        age := { m.age with dose := n.age.dose, doseBy := n.age.doseBy },
        regs := n.regs,
        rgns := n.rgns,
        fresh := n.fresh } ∧ n.regs.cfg = m.regs.cfg ∧ (∀ d : Nat, d < 5 → (n.age.dose.getD d (7, 7)) = if (doseOf m (2 *
      d)).any (fun x => decide (x ≤ 10000)) = true then (0, (doseOf m (2 * d)).getD 0) else if (doseOf m (2 * d)).isSome =
      true ∧ (doseOf m (2 * d + 1)).isSome = true then (1, (doseOf m (2 * d + 1)).getD 0) else (2, (m.age.dose.getD d (7,
      7)).2)) ∧ (∀ j : Nat, j < 12 → m.rstate j = .down → n.rgn j = m.rgn j) ∧ (∀ j : Nat, j < 12 → m.rstate j ≠ .down →
      (n.rgn j).age.benchSum = 0 ∧ (n.rgn j).age.benchCount = 0)) ∧
  (∀ (x : BitVec 16 × BitVec 16 × BitVec 16), powered m.pwr.state = true → m.age.dose.length = 5 →
    After (.ageHourly t (some x)) s fun n => n = { m with
        age := { m.age with
            dose := n.age.dose,
            doseBy := n.age.doseBy,
            heatMean := x.1.toNat,
            heatMin := x.2.1.toNat,
            heatMax := x.2.2.toNat },
        regs := n.regs,
        rgns := n.rgns,
        fresh := n.fresh } ∧ (∀ d : Nat, d < 5 → (n.age.dose.getD d (7, 7)) = if (doseOf m (2 * d)).any (fun x => decide (x
      ≤ 10000)) = true then (0, (doseOf m (2 * d)).getD 0) else if (doseOf m (2 * d)).isSome = true ∧ (doseOf m (2 * d +
      1)).isSome = true then (1, (doseOf m (2 * d + 1)).getD 0) else (2, (m.age.dose.getD d (7, 7)).2))) ∧
  (∀ (k : Rgn), powered m.pwr.state = true → m.rstate k.val ≠ .down → (usable m (0x32 + k.val) true).isSome = true → (m.rgn
      k.val).age.benchCount ≠ 0 →
    After (.ageHourly t none) s fun n => (n.rgn k.val).age = { (m.rgn k.val).age with
        benchSum := 0,
        benchCount := 0,
        bench := (n.rgn k.val).age.bench,
        benchDrift := decide ((m.rgn k.val).age.benchSum * 2500000 < 1196400 * (8 * 16384 * (m.rgn k.val).age.benchCount) ∨
          1203600 * (8 * 16384 * (m.rgn k.val).age.benchCount) < (m.rgn k.val).age.benchSum * 2500000) } ∧ ((n.rgn
      k.val).age.bench = (m.rgn k.val).age.benchSum * 2500000 / (8 * 16384 * (m.rgn k.val).age.benchCount) ∨ (n.rgn
      k.val).age.bench = (m.rgn k.val).age.benchSum * 2500000 / (8 * 16384 * (m.rgn k.val).age.benchCount) + 1)) ∧
  (∀ (syn : BitVec 16 × BitVec 16) (plls : List (BitVec 16 × BitVec 16)) (dev : Option Int), powered m.pwr.state = true →
    After (.ageDaily t syn plls dev) s fun n => n = { m with
        age := { m.age with
            synMin := syn.1.toNat,
            synMax := syn.2.toNat,
            hearthDev := n.age.hearthDev,
            devNew := n.age.devNew },
        rgns := n.rgns } ∧ (∀ j : Nat, j < 12 → n.rgn j = if m.rstate j = .down ∨ plls.length ≤ j then m.rgn j else { m.rgn j with
        age := { (m.rgn j).age with
            pllMin := (plls.getD j (0, 0)).1.toNat,
            pllMax := (plls.getD j (0, 0)).2.toNat,
            pllMargin := nearEnd (plls.getD j (0, 0)).1.toNat || nearEnd (plls.getD j (0, 0)).2.toNat } }) ∧
      (n.age.hearthDev, n.age.devNew) = if dev.isSome = true ∧ tmode m = 0 ∧ m.tb.tb = .tracking ∧ m.tb.oven = .warm then
      (dev.getD 0, true) else (m.age.hearthDev, m.age.devNew)) ∧
  (∀ (syn : BitVec 16 × BitVec 16) (plls : List (BitVec 16 × BitVec 16)) (dev : Option Int), powered m.pwr.state = false →
    After (.ageDaily t syn plls dev) s fun n => n = m)

/-- R660 to R663: every action writes only what it is enabled for and the host has not overridden: the rail by 5 mV towards VMIN and guard, the step
from the drift rates, the oven set-point by one with no region busy, the trim by the deviation; a released override is recorded. -/
def Obligations.PolicyActions : Prop := ∀ (s : State) (t : Stamp) (m : Kz), s.kz.advance t = m →
  (∀ (k : Rgn) (u y : Nat), policyRuns m = true → m.rstate k.val = .idle ∨ m.rstate k.val = .cal ∨ m.rstate k.val = .run →
      (m.rgn k.val).err.restarting = false → m.on F.MOD_AGE_CTRL.EN_RAIL 0 = true → m.seen F.RGN_AGE_STAT.OVR_RAIL k.val = 0
      → railRule m k.val = some u → railInside m k.val (max 720 (min 850 u)) = some y → y = m.fld F.RGN_RAIL.TARGET_MV k.val
      →
    After (.policyRail t k) s fun n => n = modRAge m k.val (fun x => { x with
        marginLow := decide (850 < u),
        railLimited := decide (railInside m k.val (max 720 (min 850 u)) ≠ some (max 720 (min 850 u))) })) ∧
  (∀ (k : Rgn) (u y : Nat), policyRuns m = true → m.rstate k.val = .idle ∨ m.rstate k.val = .cal ∨ m.rstate k.val = .run →
      (m.rgn k.val).err.restarting = false → m.on F.MOD_AGE_CTRL.EN_RAIL 0 = true → m.seen F.RGN_AGE_STAT.OVR_RAIL k.val = 0
      → railRule m k.val = some u → railInside m k.val (max 720 (min 850 u)) = some y → y ≠ m.fld F.RGN_RAIL.TARGET_MV k.val
      → (spreadFrom m k.val (if m.fld F.RGN_RAIL.TARGET_MV k.val < y then min y (m.fld F.RGN_RAIL.TARGET_MV k.val + 5) else
      max y (m.fld F.RGN_RAIL.TARGET_MV k.val - 5)) = none) → 720 ≤ m.fld F.RGN_RAIL.TARGET_MV k.val → m.fld
      F.RGN_RAIL.TARGET_MV k.val ≤ 850 → m.fld F.RGN_RAIL.TARGET_MV k.val % 5 = 0 →
    After (.policyRail t k) s fun n => n = { (policyWrite m F.RGN_RAIL.TARGET_MV k.val (if m.fld F.RGN_RAIL.TARGET_MV k.val < y then min y (m.fld F.RGN_RAIL.TARGET_MV k.val + 5) else max y (m.fld F.RGN_RAIL.TARGET_MV k.val - 5))) with
        rgns := (m.modRgn k.val (fun z => { z with
            age := { z.age with
                marginLow := decide (850 < u),
                railLimited := decide (railInside m k.val (max 720 (min 850 u)) ≠ some (max 720 (min 850 u))) },
            pwr := { z.pwr with rampFrom := some (railMv m k.val, m.now.ns), rampOld := m.fld F.RGN_RAIL.TARGET_MV k.val } })).rgns }) ∧
  (∀ (k : Rgn), policyRuns m = false ∨ m.on F.MOD_AGE_CTRL.EN_RAIL 0 = false ∨ m.seen F.RGN_AGE_STAT.OVR_RAIL k.val ≠ 0 ∨
      m.rstate k.val = .down ∨ m.rstate k.val = .hold ∨ (m.rgn k.val).err.restarting = true ∨ railRule m k.val = none →
    After (.policyRail t k) s fun n => n = m) ∧
  (∀ (k : Rgn) (ro rg : Nat), policyRuns m = true → m.inRun k.val = true → (m.rgn k.val).err.restarting = false → m.on
      F.MOD_AGE_CTRL.EN_STEP 0 = true → m.seen F.RGN_AGE_STAT.OVR_STEP k.val = 0 → 0 < ro ∨ 0 < rg →
    After (.policyStep t k ro rg) s fun n => n.fresh = m.fresh + 1 ∧ { n with fresh := m.fresh } = { (if n.fld F.RGN_ROT_CTRL.STEP k.val = m.fld F.RGN_ROT_CTRL.STEP k.val then m else (policyWrite m F.RGN_ROT_CTRL.STEP k.val (n.fld F.RGN_ROT_CTRL.STEP k.val))) with
        fresh := m.fresh } ∧ 5 ≤ n.fld F.RGN_ROT_CTRL.STEP k.val ∧ n.fld F.RGN_ROT_CTRL.STEP k.val ≤ 200 ∧ n.fld
      F.RGN_ROT_CTRL.STEP k.val ∈ [max 5 (min 200 (2 * 10 ^ 8 / (max ro (10 * rg) * ((chansOf k.val 0xFFFF).foldl (fun a c
      => max a (slicesOf (m.chan c).conv.effMode)) 0 + 1)))), max 5 (min 200 (2 * 10 ^ 8 / (max ro (10 * rg) * ((chansOf
      k.val 0xFFFF).foldl (fun a c => max a (slicesOf (m.chan c).conv.effMode)) 0 + 1)) + 1))]) ∧
  (∀ (k : Rgn), policyRuns m = true → m.inRun k.val = true → (m.rgn k.val).err.restarting = false → m.on
      F.MOD_AGE_CTRL.EN_STEP 0 = true → m.seen F.RGN_AGE_STAT.OVR_STEP k.val = 0 →
    After (.policyStep t k 0 0) s fun n => n.fld F.RGN_ROT_CTRL.STEP k.val = 200) ∧
  (∀ (k : Rgn) (ro rg : Nat), policyRuns m = false ∨ m.inRun k.val = false ∨ (m.rgn k.val).err.restarting = true ∨ m.on
      F.MOD_AGE_CTRL.EN_STEP 0 = false ∨ m.seen F.RGN_AGE_STAT.OVR_STEP k.val ≠ 0 →
    After (.policyStep t k ro rg) s fun n => n = m) ∧
  (∀ (mean1 mean24 : Option Nat), policyRuns m = true → m.on F.MOD_AGE_CTRL.EN_OVEN 0 = true → m.seen
      F.MOD_AGE_STAT.OVR_OVEN 0 = 0 → m.regionsBusy = false → mean1.any (fun x => decide (x < 100)) = true → m.fld
      F.TIM_OVEN.SETPOINT 0 < 2 →
    After (.policyOven t mean1 mean24) s fun n => n = { ((policyWrite m F.TIM_OVEN.SETPOINT 0 (min 2 (m.fld F.TIM_OVEN.SETPOINT 0 + 1)))) with
        tb := n.tb,
        spans := n.spans,
        log := (if m.tb.oven = .warm then (m.logE 0x0201 0 0 0 0 (timStat n)).log else m.log),
        age := { m.age with ovenProp := 0, actions := m.age.actions ++ [(4, 0, 0)] } } ∧ n.tb.oven = (if m.tb.oven = .warm
      then .warming else m.tb.oven)) ∧
  (∀ (mean1 mean24 : Option Nat), policyRuns m = true → m.on F.MOD_AGE_CTRL.EN_OVEN 0 = true → m.seen
      F.MOD_AGE_STAT.OVR_OVEN 0 = 0 → m.regionsBusy = false → m.age.unregAt = [] → mean1.any (fun x => decide (x < 100)) =
      false → mean24.any (fun x => decide (3000 < x)) = true → m.fld F.TIM_OVEN.SETPOINT 0 ≠ 0 →
    After (.policyOven t mean1 mean24) s fun n => n = { ((policyWrite m F.TIM_OVEN.SETPOINT 0 (m.fld F.TIM_OVEN.SETPOINT 0 - 1))) with
        tb := n.tb,
        spans := n.spans,
        log := (if m.tb.oven = .warm then (m.logE 0x0201 0 0 0 0 (timStat n)).log else m.log),
        age := { m.age with ovenProp := 0, actions := m.age.actions ++ [(4, 0, 0)] } } ∧ n.tb.oven = (if m.tb.oven = .warm
      then .warming else m.tb.oven)) ∧
  (∀ (mean1 mean24 : Option Nat), policyRuns m = true → m.on F.MOD_AGE_CTRL.EN_OVEN 0 = true → m.seen
      F.MOD_AGE_STAT.OVR_OVEN 0 = 0 → m.regionsBusy = true → mean1.any (fun x => decide (x < 100)) = true → m.fld
      F.TIM_OVEN.SETPOINT 0 < 2 →
    After (.policyOven t mean1 mean24) s fun n => n = { m with age := { m.age with ovenProp := 1 } }) ∧
  (∀ (mean1 mean24 : Option Nat), policyRuns m = true → m.on F.MOD_AGE_CTRL.EN_OVEN 0 = true → m.seen
      F.MOD_AGE_STAT.OVR_OVEN 0 = 0 → m.age.unregAt = [] → mean1.any (fun x => decide (x < 100)) = false → mean24.any (fun x
      => decide (3000 < x)) = false → m.age.ovenProp = 0 →
    After (.policyOven t mean1 mean24) s fun n => n = { m with age := { m.age with ovenProp := 0 } }) ∧
  (∀ (mean1 mean24 : Option Nat), policyRuns m = false ∨ m.on F.MOD_AGE_CTRL.EN_OVEN 0 = false ∨ m.seen
      F.MOD_AGE_STAT.OVR_OVEN 0 ≠ 0 →
    After (.policyOven t mean1 mean24) s fun n => n = m) ∧
  (policyRuns m = true → m.on F.MOD_AGE_CTRL.EN_TRIM 0 = true → m.seen F.MOD_AGE_STAT.OVR_TRIM 0 = 0 → m.age.devNew = true →
      500 < m.age.hearthDev.natAbs →
    After (.policyTrim t) s fun n => n = { (policyWrite m F.TIM_HEARTH_TRIM.TRIM 0 (toU 24 (satS 24 (sext 24 (m.fld F.TIM_HEARTH_TRIM.TRIM 0) - m.age.hearthDev)))) with
        tb := n.tb,
        age := { m.age with devNew := false, actions := m.age.actions ++ [(5, 0, 0)] } } ∧ n.tb.trimAt = m.now.ns) ∧
  (policyRuns m = true → m.age.devNew = false ∨ m.on F.MOD_AGE_CTRL.EN_TRIM 0 = false ∨ m.seen F.MOD_AGE_STAT.OVR_TRIM 0 ≠ 0
      ∨ m.age.hearthDev.natAbs ≤ 500 →
    After (.policyTrim t) s fun n => n = { m with age := { m.age with devNew := false } }) ∧
  (policyRuns m = false →
    After (.policyTrim t) s fun n => n = m) ∧
  (∀ (p : Port) (v : Word), Accepts m p .MOD_AGE_STAT 0 v → F.MOD_AGE_STAT.OVR_OVEN.of v = 1 ∨ F.MOD_AGE_STAT.OVR_TRIM.of v
      = 1 →
    After (.overrideRelease t p none v) s fun n => n = ((storeReg m .MOD_AGE_STAT 0 v).ledgerAct 6 0 0).emit (okPair p
      .MOD_AGE_STAT 0) ∧ (F.MOD_AGE_STAT.OVR_OVEN.of v = 1 → n.seen F.MOD_AGE_STAT.OVR_OVEN 0 = 0) ∧
      (F.MOD_AGE_STAT.OVR_TRIM.of v = 1 → n.seen F.MOD_AGE_STAT.OVR_TRIM 0 = 0)) ∧
  (∀ (p : Port) (k : Rgn) (v : Word), Accepts m p .RGN_AGE_STAT k.val v → F.RGN_AGE_STAT.OVR_RAIL.of v = 1 ∨
      F.RGN_AGE_STAT.OVR_STEP.of v = 1 →
    After (.overrideRelease t p (some k) v) s fun n => n = ((storeReg m .RGN_AGE_STAT k.val v).ledgerAct 6 2 k.val).emit
      (okPair p .RGN_AGE_STAT k.val) ∧ (F.RGN_AGE_STAT.OVR_RAIL.of v = 1 → n.seen F.RGN_AGE_STAT.OVR_RAIL k.val = 0) ∧
      (F.RGN_AGE_STAT.OVR_STEP.of v = 1 → n.seen F.RGN_AGE_STAT.OVR_STEP k.val = 0))

/-- R664, R665, R667: a checkpoint goes to its own ring, a summary and an action to the other; where the first try fails its read-back the record goes to
the next slot and the failure is marked; the sums of the ended stretch start afresh; an action is written for the oldest change owed. -/
def Obligations.LedgerRecords : Prop := ∀ (s : State) (t : Stamp) (m : Kz), s.kz.advance t = m →
  (powered m.pwr.state = true →
    After (.ledgerCheckpoint t true) s fun n => n = { m with
        age := { m.age with ckpt := n.age.ckpt, ckptAt := n.age.ckptAt },
        regs := n.regs } ∧ n.regs = m.regs ∧ n.age.ckptAt = (m.age.ckptAt + 1) % 64 ∧ n.age.ckpt = putSlot m.age.ckpt
      m.age.ckptAt (some ⟨nextRecord m, 3, ledgerBytes m 3 (nextRecord m) 0 0 0⟩)) ∧
  (powered m.pwr.state = true →
    After (.ledgerCheckpoint t false) s fun n => n = { m with
        age := { m.age with ckpt := n.age.ckpt, ckptAt := n.age.ckptAt },
        regs := n.regs } ∧ n.regs = (m.mark F.MOD_AGE_STAT.LEDGER_FAIL_SEEN 0).regs ∧ n.age.ckptAt = ((m.age.ckptAt + 1) %
      64 + 1) % 64 ∧ n.age.ckpt = putSlot (putSlot m.age.ckpt m.age.ckptAt none) ((m.age.ckptAt + 1) % 64) (some ⟨nextRecord
      m, 3, ledgerBytes m 3 (nextRecord m) 0 0 0⟩)) ∧
  (∀ (x : Bool), powered m.pwr.state = false →
    After (.ledgerCheckpoint t x) s fun n => n = m) ∧
  (∀ (code skind idx : Nat) (l : List (Nat × Nat × Nat)), m.age.actions = (code, skind, idx) :: l →
    After (.ledgerAction t true) s fun n => n = { m with
        age := { m.age with
            actions := l,
            recs := putSlot m.age.recs m.age.recAt (some ⟨nextRecord m, 2, ledgerBytes m 2 (nextRecord m) code skind idx⟩),
            recAt := (m.age.recAt + 1) % 704,
            unreg := 0,
            heatMean := 0,
            heatMin := 0,
            heatMax := 0 },
        rgns := n.rgns } ∧ (∀ j : Nat, j < 12 → n.rgn j = { m.rgn j with
        age := { (m.rgn j).age with eccSum := 0, restarts := 0, vminMin := 0, vminMax := 0 } })) ∧
  (∀ (code skind idx : Nat) (l : List (Nat × Nat × Nat)), m.age.actions = (code, skind, idx) :: l →
    After (.ledgerAction t false) s fun n => n = { m with
        age := { m.age with
            actions := l,
            recs := putSlot (putSlot m.age.recs m.age.recAt none) ((m.age.recAt + 1) % 704) (some ⟨nextRecord m, 2,
              ledgerBytes m 2 (nextRecord m) code skind idx⟩),
            recAt := ((m.age.recAt + 1) % 704 + 1) % 704,
            unreg := 0,
            heatMean := 0,
            heatMin := 0,
            heatMax := 0 },
        regs := (m.mark F.MOD_AGE_STAT.LEDGER_FAIL_SEEN 0).regs,
        rgns := n.rgns } ∧ (∀ j : Nat, j < 12 → n.rgn j = { m.rgn j with
        age := { (m.rgn j).age with eccSum := 0, restarts := 0, vminMin := 0, vminMax := 0 } })) ∧
  (∀ (x : Bool), m.age.actions = [] →
    After (.ledgerAction t x) s fun n => n = m) ∧
  (powered m.pwr.state = true →
    After (.ledgerSummary t [] [] true) s fun n => n = { m with
        age := { m.age with
            recs := putSlot m.age.recs m.age.recAt (some ⟨nextRecord m, 1, ledgerBytes m 1 (nextRecord m) 0 0 0⟩),
            recAt := (m.age.recAt + 1) % 704,
            unreg := 0,
            heatMean := 0,
            heatMin := 0,
            heatMax := 0 },
        rgns := n.rgns } ∧ (∀ j : Nat, j < 12 → n.rgn j = { m.rgn j with
        age := { (m.rgn j).age with eccSum := 0, restarts := 0, vminMin := 0, vminMax := 0 } })) ∧
  (∀ (drift : List (Chan × List Int)) (c : Chan) (w : BitVec 9) (x : Bool), powered m.pwr.state = true → m.on
      F.MOD_AGE_CTRL.EN_WEAR 0 = true → Sparse.get 0 m.age.wear c.val ||| w.toNat ≠ Sparse.get 0 m.age.wear c.val →
    After (.ledgerSummary t drift [(c, w)] x) s fun n => n.age.wear = Sparse.set m.age.wear c.val (Sparse.get 0 m.age.wear
      c.val ||| w.toNat) ∧ n.age.actions = m.age.actions ++ [(3, 1, c.val)] ∧ (∀ j : Nat, j < 12 → n.rgn j = { m.rgn j with
        age := { (m.rgn j).age with eccSum := 0, restarts := 0, vminMin := 0, vminMax := 0 } }) ∧ n.regs.cfg = m.regs.cfg) ∧
  (∀ (c : Chan) (l : List Int) (w : List (Chan × BitVec 9)) (x : Bool), powered m.pwr.state = true →
    After (.ledgerSummary t [(c, l)] w x) s fun n => Sparse.get [] n.age.drift c.val = l) ∧
  (∀ (drift : List (Chan × List Int)) (w : List (Chan × BitVec 9)) (x : Bool), powered m.pwr.state = false →
    After (.ledgerSummary t drift w x) s fun n => n = m)

/-- R675, R677, R678, R686, R688 to R691: DSI_CTRL starts and stops the port, a wrong mode or timing is refused; every frame start counts, takes over
a new timing, lets a late flip pass one frame, or flips the buffers; the latch edge and the TE edge divide the frames. -/
def Obligations.RasterPort : Prop := ∀ (s : State) (t : Stamp) (m : Kz), s.kz.advance t = m →
  (∀ (p : Port) (v : Word), Accepts m p .DSI_CTRL 0 v → F.DSI_CTRL.EN.of v = 1 → m.dsi.state = .off →
    After (.dsiEnable t p v) s fun n => n = { (storeReg m .DSI_CTRL 0 v) with
        dsi := { m.dsi with state := .starting, edge := false } }.emit (okPair p .DSI_CTRL 0)) ∧
  (∀ (p : Port) (v : Word), Accepts m p .DSI_CTRL 0 v → F.DSI_CTRL.EN.of v = 1 → m.dsi.state ≠ .off →
    After (.dsiEnable t p v) s fun n => n = (storeReg m .DSI_CTRL 0 v).emit (okPair p .DSI_CTRL 0)) ∧
  (∀ (p : Port) (v : Word), Reaches m p .DSI_CTRL 0 → covers (m.port p).session.leases .module = true → F.DSI_CTRL.MODE.of v
      ≠ m.fld F.DSI_CTRL.MODE 0 → m.dsi.state ≠ .off →
    After (.dsiEnable t p v) s fun n => n = m.emit (.pairStatus p (RegKind.addr .DSI_CTRL 0) .modeRunning ⟨3, 0⟩)) ∧
  (∀ (p : Port) (v : Word), Reaches m p .DSI_CTRL 0 → covers (m.port p).session.leases .module = true → F.DSI_CTRL.MODE.of v
      = m.fld F.DSI_CTRL.MODE 0 ∨ m.dsi.state = .off → m.fld F.DSI_CTRL.EN 0 = 0 → F.DSI_CTRL.EN.of v = 1 → timingOk (decide
      (F.DSI_CTRL.MODE.of v = 1)) (dsiTimingKinds.map (fun x => m.cfgWord x 0)) = false →
    After (.dsiEnable t p v) s fun n => n = m.emit (.pairStatus p (RegKind.addr .DSI_CTRL 0) .badValue ⟨3, 0⟩)) ∧
  (∀ (p : Port) (v : Word), Accepts m p .DSI_CTRL 0 v → F.DSI_CTRL.EN.of v = 0 → m.dsi.state = .running →
    After (.dsiDisable t p v) s fun n => n = { (storeReg m .DSI_CTRL 0 v) with dsi := { m.dsi with state := .stopping } }.emit
      (okPair p .DSI_CTRL 0)) ∧
  (∀ (p : Port) (v : Word), Accepts m p .DSI_CTRL 0 v → F.DSI_CTRL.EN.of v = 0 → m.dsi.state = .starting →
    After (.dsiDisable t p v) s fun n => n = { (storeReg m .DSI_CTRL 0 v) with
        dsi := if m.dsi.pending = true then { m.dsi with
            front := 1 - m.dsi.front,
            flipSeq := (m.dsi.flipSeq + 1) % 65536,
            flipDatum := m.datum,
            pending := false,
            late := false,
            skip := false,
            state := .off } else { m.dsi with state := .off } }.emit (okPair p .DSI_CTRL 0)) ∧
  (∀ (p : Port) (v : Word), Accepts m p .DSI_CTRL 0 v → F.DSI_CTRL.EN.of v = 0 → m.dsi.state = .off ∨ m.dsi.state =
      .stopping →
    After (.dsiDisable t p v) s fun n => n = (storeReg m .DSI_CTRL 0 v).emit (okPair p .DSI_CTRL 0)) ∧
  (m.dsi.state = .starting → powered m.pwr.state = true → m.dsi.timingPending = false → m.dsi.pending = true → m.dsi.skip =
      true →
    After (.dsiPllLock t) s fun n => n = { m with
        dsi := { m.dsi with
            state := .running,
            timingPending := false,
            timing := dsiTimingKinds.map (fun x => m.cfgWord x 0),
            frames := (m.dsi.frames + 1) % 2 ^ 32,
            edge := false,
            started := m.now.ns,
            skip := false },
        wire := .rasterFrame m.dsi.front :: m.wire }) ∧
  (m.dsi.state = .starting → powered m.pwr.state = true → m.dsi.timingPending = false → m.dsi.pending = true → m.dsi.skip =
      false →
    After (.dsiPllLock t) s fun n => n = { m with
        dsi := { m.dsi with
            state := .running,
            timingPending := false,
            timing := dsiTimingKinds.map (fun x => m.cfgWord x 0),
            frames := (m.dsi.frames + 1) % 2 ^ 32,
            edge := false,
            started := m.now.ns,
            front := 1 - m.dsi.front,
            flipSeq := (m.dsi.flipSeq + 1) % 65536,
            flipDatum := m.datum,
            pending := false,
            late := false,
            skip := false },
        wire := .rasterFrame (1 - m.dsi.front) :: m.wire }) ∧
  (m.dsi.state = .starting → powered m.pwr.state = true → m.dsi.timingPending = false → m.dsi.pending = false →
    After (.dsiPllLock t) s fun n => n = { m with
        dsi := { m.dsi with
            state := .running,
            timingPending := false,
            timing := dsiTimingKinds.map (fun x => m.cfgWord x 0),
            frames := (m.dsi.frames + 1) % 2 ^ 32,
            edge := false,
            started := m.now.ns },
        wire := .rasterFrame m.dsi.front :: m.wire }) ∧
  (m.dsi.state ≠ .starting ∨ powered m.pwr.state = false →
    After (.dsiPllLock t) s fun n => n = m) ∧
  (m.dsi.state = .running → m.on F.DSI_CTRL.MODE 0 = false → linesSent m frameLines = true → m.dsi.timingPending = true →
    After (.dsiFrameStart t) s fun n => n = { m with
        dsi := { m.dsi with
            frames := (m.dsi.frames + 1) % 2 ^ 32,
            edge := false,
            started := m.now.ns,
            timingPending := false,
            skip := false,
            timing := dsiTimingKinds.map (fun x => m.cfgWord x 0) },
        wire := .blankFrame :: m.wire }) ∧
  (m.dsi.state = .running → m.on F.DSI_CTRL.MODE 0 = false → linesSent m frameLines = true → m.dsi.timingPending = false →
      m.dsi.pending = true → m.dsi.skip = true →
    After (.dsiFrameStart t) s fun n => n = { m with
        dsi := { m.dsi with frames := (m.dsi.frames + 1) % 2 ^ 32, edge := false, started := m.now.ns, skip := false },
        wire := .rasterFrame m.dsi.front :: m.wire }) ∧
  (m.dsi.state = .running → m.on F.DSI_CTRL.MODE 0 = false → linesSent m frameLines = true → m.dsi.timingPending = false →
      m.dsi.pending = true → m.dsi.skip = false →
    After (.dsiFrameStart t) s fun n => n = { m with
        dsi := { m.dsi with
            frames := (m.dsi.frames + 1) % 2 ^ 32,
            edge := false,
            started := m.now.ns,
            front := 1 - m.dsi.front,
            flipSeq := (m.dsi.flipSeq + 1) % 65536,
            flipDatum := m.datum,
            pending := false,
            late := false,
            skip := false },
        wire := .rasterFrame (1 - m.dsi.front) :: m.wire }) ∧
  (m.dsi.state = .running → m.on F.DSI_CTRL.MODE 0 = false → linesSent m frameLines = true → m.dsi.timingPending = false →
      m.dsi.pending = false →
    After (.dsiFrameStart t) s fun n => n = { m with
        dsi := { m.dsi with frames := (m.dsi.frames + 1) % 2 ^ 32, edge := false, started := m.now.ns },
        wire := .rasterFrame m.dsi.front :: m.wire }) ∧
  (m.dsi.state = .stopping → m.on F.DSI_CTRL.MODE 0 = true ∨ linesSent m frameLines = true →
    After (.dsiFrameStart t) s fun n => n = { m with
        dsi := if m.dsi.pending = true then { m.dsi with
            front := 1 - m.dsi.front,
            flipSeq := (m.dsi.flipSeq + 1) % 65536,
            flipDatum := m.datum,
            pending := false,
            late := false,
            skip := false,
            state := .off,
            timingPending := false,
            timing := dsiTimingKinds.map (fun x => m.cfgWord x 0) } else { m.dsi with
            state := .off,
            timingPending := false,
            timing := dsiTimingKinds.map (fun x => m.cfgWord x 0) } }) ∧
  (m.dsi.state = .off ∨ m.dsi.state = .starting ∨ (m.dsi.state = .running ∧ m.on F.DSI_CTRL.MODE 0 = true) ∨ (m.on
      F.DSI_CTRL.MODE 0 = false ∧ linesSent m frameLines = false) →
    After (.dsiFrameStart t) s fun n => n = m) ∧
  (m.dsi.state = .running ∨ m.dsi.state = .stopping → m.on F.DSI_CTRL.MODE 0 = true ∨ linesSent m edgeLines = true →
    After (.dsiLatchEdge t) s fun n => n = { m with dsi := { m.dsi with edge := true } }) ∧
  (m.dsi.state = .off ∨ m.dsi.state = .starting ∨ (m.on F.DSI_CTRL.MODE 0 = false ∧ linesSent m edgeLines = false) →
    After (.dsiLatchEdge t) s fun n => n = m) ∧
  (∀ (falling : Bool), m.dsi.state = .running → m.on F.DSI_CTRL.MODE 0 = true → m.dsi.edge = true → m.on F.DSI_CTRL.TE_POL 0
      = falling → m.dsi.timingPending = true →
    After (.dsiTeEdge t falling) s fun n => n = { m with
        dsi := { m.dsi with
            frames := (m.dsi.frames + 1) % 2 ^ 32,
            edge := false,
            started := m.now.ns,
            timingPending := false,
            skip := false,
            timing := dsiTimingKinds.map (fun x => m.cfgWord x 0) },
        wire := .blankFrame :: m.wire }) ∧
  (∀ (falling : Bool), m.dsi.state = .running → m.on F.DSI_CTRL.MODE 0 = true → m.dsi.edge = true → m.on F.DSI_CTRL.TE_POL 0
      = falling → m.dsi.timingPending = false → m.dsi.pending = true → m.dsi.skip = true →
    After (.dsiTeEdge t falling) s fun n => n = { m with
        dsi := { m.dsi with frames := (m.dsi.frames + 1) % 2 ^ 32, edge := false, started := m.now.ns, skip := false },
        wire := .rasterFrame m.dsi.front :: m.wire }) ∧
  (∀ (falling : Bool), m.dsi.state = .running → m.on F.DSI_CTRL.MODE 0 = true → m.dsi.edge = true → m.on F.DSI_CTRL.TE_POL 0
      = falling → m.dsi.timingPending = false → m.dsi.pending = true → m.dsi.skip = false →
    After (.dsiTeEdge t falling) s fun n => n = { m with
        dsi := { m.dsi with
            frames := (m.dsi.frames + 1) % 2 ^ 32,
            edge := false,
            started := m.now.ns,
            front := 1 - m.dsi.front,
            flipSeq := (m.dsi.flipSeq + 1) % 65536,
            flipDatum := m.datum,
            pending := false,
            late := false,
            skip := false },
        wire := .rasterFrame (1 - m.dsi.front) :: m.wire }) ∧
  (∀ (falling : Bool), m.dsi.state = .running → m.on F.DSI_CTRL.MODE 0 = true → m.dsi.edge = true → m.on F.DSI_CTRL.TE_POL 0
      = falling → m.dsi.timingPending = false → m.dsi.pending = false →
    After (.dsiTeEdge t falling) s fun n => n = { m with
        dsi := { m.dsi with frames := (m.dsi.frames + 1) % 2 ^ 32, edge := false, started := m.now.ns },
        wire := .rasterFrame m.dsi.front :: m.wire }) ∧
  (∀ (falling : Bool), m.dsi.state ≠ .running ∨ m.on F.DSI_CTRL.MODE 0 = false ∨ m.dsi.edge = false ∨ m.on F.DSI_CTRL.TE_POL
      0 ≠ falling →
    After (.dsiTeEdge t falling) s fun n => n = m) ∧
  (m.dsi.state = .running → m.on F.DSI_CTRL.MODE 0 = true → m.dsi.started + 1500 * F.DSI_CMDP.PERIOD_US.of
      (m.dsi.timing.getD 5 0) ≤ m.now.ns → m.dsi.timingPending = true →
    After (.dsiTeTimeout t) s fun n => n = { m with
        dsi := { m.dsi with
            frames := (m.dsi.frames + 1) % 2 ^ 32,
            edge := false,
            started := m.now.ns,
            timingPending := false,
            skip := false,
            timing := dsiTimingKinds.map (fun x => m.cfgWord x 0) },
        wire := .blankFrame :: m.wire,
        stats := (m.count .DSI_TE_TIMEOUT 0 1).stats,
        regs := (m.mark F.DSI_STAT.TE_TIMEOUT_SEEN 0).regs }) ∧
  (m.dsi.state = .running → m.on F.DSI_CTRL.MODE 0 = true → m.dsi.started + 1500 * F.DSI_CMDP.PERIOD_US.of
      (m.dsi.timing.getD 5 0) ≤ m.now.ns → m.dsi.timingPending = false → m.dsi.pending = true → m.dsi.skip = true →
    After (.dsiTeTimeout t) s fun n => n = { m with
        dsi := { m.dsi with frames := (m.dsi.frames + 1) % 2 ^ 32, edge := false, started := m.now.ns, skip := false },
        wire := .rasterFrame m.dsi.front :: m.wire,
        stats := (m.count .DSI_TE_TIMEOUT 0 1).stats,
        regs := (m.mark F.DSI_STAT.TE_TIMEOUT_SEEN 0).regs }) ∧
  (m.dsi.state = .running → m.on F.DSI_CTRL.MODE 0 = true → m.dsi.started + 1500 * F.DSI_CMDP.PERIOD_US.of
      (m.dsi.timing.getD 5 0) ≤ m.now.ns → m.dsi.timingPending = false → m.dsi.pending = true → m.dsi.skip = false →
    After (.dsiTeTimeout t) s fun n => n = { m with
        dsi := { m.dsi with
            frames := (m.dsi.frames + 1) % 2 ^ 32,
            edge := false,
            started := m.now.ns,
            front := 1 - m.dsi.front,
            flipSeq := (m.dsi.flipSeq + 1) % 65536,
            flipDatum := m.datum,
            pending := false,
            late := false,
            skip := false },
        wire := .rasterFrame (1 - m.dsi.front) :: m.wire,
        stats := (m.count .DSI_TE_TIMEOUT 0 1).stats,
        regs := (m.mark F.DSI_STAT.TE_TIMEOUT_SEEN 0).regs }) ∧
  (m.dsi.state = .running → m.on F.DSI_CTRL.MODE 0 = true → m.dsi.started + 1500 * F.DSI_CMDP.PERIOD_US.of
      (m.dsi.timing.getD 5 0) ≤ m.now.ns → m.dsi.timingPending = false → m.dsi.pending = false →
    After (.dsiTeTimeout t) s fun n => n = { m with
        dsi := { m.dsi with frames := (m.dsi.frames + 1) % 2 ^ 32, edge := false, started := m.now.ns },
        wire := .rasterFrame m.dsi.front :: m.wire,
        stats := (m.count .DSI_TE_TIMEOUT 0 1).stats,
        regs := (m.mark F.DSI_STAT.TE_TIMEOUT_SEEN 0).regs }) ∧
  (m.dsi.state ≠ .running ∨ m.on F.DSI_CTRL.MODE 0 = false ∨ m.now.ns < m.dsi.started + 1500 * F.DSI_CMDP.PERIOD_US.of
      (m.dsi.timing.getD 5 0) →
    After (.dsiTeTimeout t) s fun n => n = m)

/-- R680 to R685, R687, R688: GO is refused while a flip is pending, a pass runs or the rectangle does not fit; COMPOSE latches the pass, which paints
the back buffer; a flip is done at once, at the next frame start, or one frame late. -/
def Obligations.ComposerAndFlips : Prop := ∀ (s : State) (t : Stamp) (m : Kz), s.kz.advance t = m →
  (∀ (p : Port) (v : Word), Quiet m → Reaches m p .DSI_COMMIT 0 → covers (m.port p).session.leases .module = true →
      F.DSI_COMMIT.GO.of v = 1 → F.DSI_COMMIT.COMPOSE.of v = 0 → F.DSI_COMMIT.FLIP.of v = 1 → m.dsi.pending = true →
    After (.dsiFlip t p v) s fun n => n = m.emit (.pairStatus p (RegKind.addr .DSI_COMMIT 0) .commitPending ⟨3, 0⟩)) ∧
  (∀ (p : Port) (v : Word), Quiet m → Reaches m p .DSI_COMMIT 0 → covers (m.port p).session.leases .module = true →
      F.DSI_COMMIT.GO.of v = 1 → F.DSI_COMMIT.COMPOSE.of v = 0 → F.DSI_COMMIT.FLIP.of v = 1 → m.dsi.pending = false →
      m.dsi.pass.isSome = true →
    After (.dsiFlip t p v) s fun n => n = m.emit (.pairStatus p (RegKind.addr .DSI_COMMIT 0) .dsiBusy ⟨3, 0⟩)) ∧
  (∀ (p : Port) (v : Word), Quiet m → Reaches m p .DSI_COMMIT 0 → covers (m.port p).session.leases .module = true →
      F.DSI_COMMIT.GO.of v = 1 → F.DSI_COMMIT.COMPOSE.of v = 0 → F.DSI_COMMIT.FLIP.of v = 1 → m.dsi.pending = false →
      m.dsi.pass = none → 1280 < F.DSI_COMP2.X0.of (m.cfgWord .DSI_COMP2 0) + F.DSI_COMP1.W_M1.of (m.cfgWord .DSI_COMP1 0) +
      1 →
    After (.dsiFlip t p v) s fun n => n = m.emit (.pairStatus p (RegKind.addr .DSI_COMMIT 0) .badValue ⟨3, 0⟩)) ∧
  (∀ (p : Port) (v : Word), Quiet m → Reaches m p .DSI_COMMIT 0 → covers (m.port p).session.leases .module = true →
      F.DSI_COMMIT.GO.of v = 1 → F.DSI_COMMIT.COMPOSE.of v = 1 → F.DSI_COMMIT.FLIP.of v = 0 → m.dsi.pending = true →
    After (.dsiCompose t p v) s fun n => n = m.emit (.pairStatus p (RegKind.addr .DSI_COMMIT 0) .commitPending ⟨3, 0⟩)) ∧
  (∀ (p : Port) (v : Word), Quiet m → Reaches m p .DSI_COMMIT 0 → covers (m.port p).session.leases .module = true →
      F.DSI_COMMIT.GO.of v = 1 → F.DSI_COMMIT.COMPOSE.of v = 1 → F.DSI_COMMIT.FLIP.of v = 0 → m.dsi.pending = false →
      m.dsi.pass.isSome = true →
    After (.dsiCompose t p v) s fun n => n = m.emit (.pairStatus p (RegKind.addr .DSI_COMMIT 0) .dsiBusy ⟨3, 0⟩)) ∧
  (∀ (p : Port) (v : Word), Quiet m → Reaches m p .DSI_COMMIT 0 → covers (m.port p).session.leases .module = true →
      F.DSI_COMMIT.GO.of v = 1 → F.DSI_COMMIT.COMPOSE.of v = 1 → F.DSI_COMMIT.FLIP.of v = 0 → m.dsi.pending = false →
      m.dsi.pass = none → 1280 < F.DSI_COMP2.X0.of (m.cfgWord .DSI_COMP2 0) + F.DSI_COMP1.W_M1.of (m.cfgWord .DSI_COMP1 0) +
      1 →
    After (.dsiCompose t p v) s fun n => n = m.emit (.pairStatus p (RegKind.addr .DSI_COMMIT 0) .badValue ⟨3, 0⟩)) ∧
  (∀ (p : Port) (v : Word), Quiet m → Reaches m p .DSI_COMMIT 0 → covers (m.port p).session.leases .module = true →
      F.DSI_COMMIT.GO.of v = 1 → F.DSI_COMMIT.COMPOSE.of v = 1 → F.DSI_COMMIT.FLIP.of v = 1 → m.dsi.pending = true →
    After (.dsiComposeFlip t p v) s fun n => n = m.emit (.pairStatus p (RegKind.addr .DSI_COMMIT 0) .commitPending ⟨3, 0⟩)) ∧
  (∀ (p : Port) (v : Word), Quiet m → Reaches m p .DSI_COMMIT 0 → covers (m.port p).session.leases .module = true →
      F.DSI_COMMIT.GO.of v = 1 → F.DSI_COMMIT.COMPOSE.of v = 1 → F.DSI_COMMIT.FLIP.of v = 1 → m.dsi.pending = false →
      m.dsi.pass.isSome = true →
    After (.dsiComposeFlip t p v) s fun n => n = m.emit (.pairStatus p (RegKind.addr .DSI_COMMIT 0) .dsiBusy ⟨3, 0⟩)) ∧
  (∀ (p : Port) (v : Word), Quiet m → Reaches m p .DSI_COMMIT 0 → covers (m.port p).session.leases .module = true →
      F.DSI_COMMIT.GO.of v = 1 → F.DSI_COMMIT.COMPOSE.of v = 1 → F.DSI_COMMIT.FLIP.of v = 1 → m.dsi.pending = false →
      m.dsi.pass = none → 1280 < F.DSI_COMP2.X0.of (m.cfgWord .DSI_COMP2 0) + F.DSI_COMP1.W_M1.of (m.cfgWord .DSI_COMP1 0) +
      1 →
    After (.dsiComposeFlip t p v) s fun n => n = m.emit (.pairStatus p (RegKind.addr .DSI_COMMIT 0) .badValue ⟨3, 0⟩)) ∧
  (∀ (p : Port) (v : Word), Quiet m → Reaches m p .DSI_COMMIT 0 → covers (m.port p).session.leases .module = true →
      F.DSI_COMMIT.GO.of v = 1 → F.DSI_COMMIT.COMPOSE.of v = 1 → F.DSI_COMMIT.FLIP.of v = 0 → m.dsi.pending = false →
      m.dsi.pass = none → F.DSI_COMP0.COL0.of (m.cfgWord .DSI_COMP0 0) + F.DSI_COMP1.W_M1.of (m.cfgWord .DSI_COMP1 0) + 1 ≤
      1024 → F.DSI_COMP0.ROW0.of (m.cfgWord .DSI_COMP0 0) + F.DSI_COMP1.H_M1.of (m.cfgWord .DSI_COMP1 0) + 1 ≤ 1024 →
      F.DSI_COMP2.X0.of (m.cfgWord .DSI_COMP2 0) + F.DSI_COMP1.W_M1.of (m.cfgWord .DSI_COMP1 0) + 1 ≤ 1280 →
      F.DSI_COMP2.Y0.of (m.cfgWord .DSI_COMP2 0) + F.DSI_COMP1.H_M1.of (m.cfgWord .DSI_COMP1 0) + 1 ≤ 800 →
    After (.dsiCompose t p v) s fun n => n = { m with
        dsi := { m.dsi with
            pass := some ⟨(m.cfgWord .DSI_COMP0 0), (m.cfgWord .DSI_COMP1 0), (m.cfgWord .DSI_COMP2 0), m.mem.reads
              (colourBase (F.DSI_COMP0.MAP.of (m.cfgWord .DSI_COMP0 0))) 512, false, m.now.ns⟩ } }) ∧
  (∀ (p : Port) (v : Word), Quiet m → Reaches m p .DSI_COMMIT 0 → covers (m.port p).session.leases .module = true →
      F.DSI_COMMIT.GO.of v = 1 → F.DSI_COMMIT.COMPOSE.of v = 1 → F.DSI_COMMIT.FLIP.of v = 1 → m.dsi.pending = false →
      m.dsi.pass = none → F.DSI_COMP0.COL0.of (m.cfgWord .DSI_COMP0 0) + F.DSI_COMP1.W_M1.of (m.cfgWord .DSI_COMP1 0) + 1 ≤
      1024 → F.DSI_COMP0.ROW0.of (m.cfgWord .DSI_COMP0 0) + F.DSI_COMP1.H_M1.of (m.cfgWord .DSI_COMP1 0) + 1 ≤ 1024 →
      F.DSI_COMP2.X0.of (m.cfgWord .DSI_COMP2 0) + F.DSI_COMP1.W_M1.of (m.cfgWord .DSI_COMP1 0) + 1 ≤ 1280 →
      F.DSI_COMP2.Y0.of (m.cfgWord .DSI_COMP2 0) + F.DSI_COMP1.H_M1.of (m.cfgWord .DSI_COMP1 0) + 1 ≤ 800 →
    After (.dsiComposeFlip t p v) s fun n => n = { m with
        dsi := { m.dsi with
            pass := some ⟨(m.cfgWord .DSI_COMP0 0), (m.cfgWord .DSI_COMP1 0), (m.cfgWord .DSI_COMP2 0), m.mem.reads
              (colourBase (F.DSI_COMP0.MAP.of (m.cfgWord .DSI_COMP0 0))) 512, true, m.now.ns⟩ } }) ∧
  (∀ (p : Port) (v : Word), Quiet m → Reaches m p .DSI_COMMIT 0 → covers (m.port p).session.leases .module = true →
      F.DSI_COMMIT.GO.of v = 1 → F.DSI_COMMIT.COMPOSE.of v = 0 → F.DSI_COMMIT.FLIP.of v = 1 → m.dsi.pending = false →
      m.dsi.pass = none → F.DSI_COMP0.COL0.of (m.cfgWord .DSI_COMP0 0) + F.DSI_COMP1.W_M1.of (m.cfgWord .DSI_COMP1 0) + 1 ≤
      1024 → F.DSI_COMP0.ROW0.of (m.cfgWord .DSI_COMP0 0) + F.DSI_COMP1.H_M1.of (m.cfgWord .DSI_COMP1 0) + 1 ≤ 1024 →
      F.DSI_COMP2.X0.of (m.cfgWord .DSI_COMP2 0) + F.DSI_COMP1.W_M1.of (m.cfgWord .DSI_COMP1 0) + 1 ≤ 1280 →
      F.DSI_COMP2.Y0.of (m.cfgWord .DSI_COMP2 0) + F.DSI_COMP1.H_M1.of (m.cfgWord .DSI_COMP1 0) + 1 ≤ 800 → m.dsi.state =
      .off ∨ m.dsi.state = .stopping →
    After (.dsiFlip t p v) s fun n => n = { m with
        dsi := { m.dsi with
            front := 1 - m.dsi.front,
            flipSeq := (m.dsi.flipSeq + 1) % 65536,
            flipDatum := m.datum,
            pending := false,
            late := false,
            skip := false } }.emit (okPair p .DSI_COMMIT 0)) ∧
  (∀ (p : Port) (v : Word), Quiet m → Reaches m p .DSI_COMMIT 0 → covers (m.port p).session.leases .module = true →
      F.DSI_COMMIT.GO.of v = 1 → F.DSI_COMMIT.COMPOSE.of v = 0 → F.DSI_COMMIT.FLIP.of v = 1 → m.dsi.pending = false →
      m.dsi.pass = none → F.DSI_COMP0.COL0.of (m.cfgWord .DSI_COMP0 0) + F.DSI_COMP1.W_M1.of (m.cfgWord .DSI_COMP1 0) + 1 ≤
      1024 → F.DSI_COMP0.ROW0.of (m.cfgWord .DSI_COMP0 0) + F.DSI_COMP1.H_M1.of (m.cfgWord .DSI_COMP1 0) + 1 ≤ 1024 →
      F.DSI_COMP2.X0.of (m.cfgWord .DSI_COMP2 0) + F.DSI_COMP1.W_M1.of (m.cfgWord .DSI_COMP1 0) + 1 ≤ 1280 →
      F.DSI_COMP2.Y0.of (m.cfgWord .DSI_COMP2 0) + F.DSI_COMP1.H_M1.of (m.cfgWord .DSI_COMP1 0) + 1 ≤ 800 → m.dsi.state =
      .running ∨ m.dsi.state = .starting → m.dsi.edge = false →
    After (.dsiFlip t p v) s fun n => n = { m with dsi := { m.dsi with pending := true, late := false, skip := false } }.emit
      (okPair p .DSI_COMMIT 0)) ∧
  (∀ (p : Port) (v : Word), Quiet m → Reaches m p .DSI_COMMIT 0 → covers (m.port p).session.leases .module = true →
      F.DSI_COMMIT.GO.of v = 1 → F.DSI_COMMIT.COMPOSE.of v = 0 → F.DSI_COMMIT.FLIP.of v = 1 → m.dsi.pending = false →
      m.dsi.pass = none → F.DSI_COMP0.COL0.of (m.cfgWord .DSI_COMP0 0) + F.DSI_COMP1.W_M1.of (m.cfgWord .DSI_COMP1 0) + 1 ≤
      1024 → F.DSI_COMP0.ROW0.of (m.cfgWord .DSI_COMP0 0) + F.DSI_COMP1.H_M1.of (m.cfgWord .DSI_COMP1 0) + 1 ≤ 1024 →
      F.DSI_COMP2.X0.of (m.cfgWord .DSI_COMP2 0) + F.DSI_COMP1.W_M1.of (m.cfgWord .DSI_COMP1 0) + 1 ≤ 1280 →
      F.DSI_COMP2.Y0.of (m.cfgWord .DSI_COMP2 0) + F.DSI_COMP1.H_M1.of (m.cfgWord .DSI_COMP1 0) + 1 ≤ 800 → m.dsi.state =
      .running ∨ m.dsi.state = .starting → m.dsi.edge = true →
    After (.dsiFlip t p v) s fun n => n = { m with
        dsi := { m.dsi with pending := true, late := true, skip := true },
        stats := (m.count .DSI_COMMIT_LATE 0 1).stats,
        regs := (m.mark F.DSI_STAT.COMMIT_LATE_SEEN 0).regs }.emit (okPair p .DSI_COMMIT 0)) ∧
  (∀ (q : DsiPass), Quiet m → Idle m → m.dsi.pass = some q → passDue m = true → q.flip = false →
    After (.composerPassDone t) s fun n => n = { paint m q with dsi := { m.dsi with pass := none } }) ∧
  (∀ (q : DsiPass), Quiet m → Idle m → m.dsi.pass = some q → passDue m = true → q.flip = true → m.dsi.state = .off ∨
      m.dsi.state = .stopping →
    After (.composerPassDone t) s fun n => n = { { paint m q with dsi := { m.dsi with pass := none } } with
        dsi := { { paint m q with dsi := { m.dsi with pass := none } }.dsi with
            front := 1 - m.dsi.front,
            flipSeq := (m.dsi.flipSeq + 1) % 65536,
            flipDatum := m.datum,
            pending := false,
            late := false,
            skip := false } }) ∧
  (∀ (q : DsiPass), Quiet m → Idle m → m.dsi.pass = some q → passDue m = true → q.flip = true → m.dsi.state = .running ∨
      m.dsi.state = .starting → m.dsi.edge = false →
    After (.composerPassDone t) s fun n => n = { { paint m q with dsi := { m.dsi with pass := none } } with
        dsi := { { paint m q with dsi := { m.dsi with pass := none } }.dsi with
            pending := true,
            late := false,
            skip := false } }) ∧
  (∀ (q : DsiPass), Quiet m → Idle m → m.dsi.pass = some q → passDue m = true → q.flip = true → m.dsi.state = .running ∨
      m.dsi.state = .starting → m.dsi.edge = true →
    After (.composerPassDone t) s fun n => n = { { paint m q with dsi := { m.dsi with pass := none } } with
        dsi := { { paint m q with dsi := { m.dsi with pass := none } }.dsi with
            pending := true,
            late := true,
            skip := true },
        stats := (m.count .DSI_COMMIT_LATE 0 1).stats,
        regs := (m.mark F.DSI_STAT.COMMIT_LATE_SEEN 0).regs }) ∧
  (∀ (q : DsiPass) (x y z : Nat), Quiet m → Idle m → m.dsi.pass = some q → passDue m = true → x ≤ F.DSI_COMP1.W_M1.of
      q.comp1 → y ≤ F.DSI_COMP1.H_M1.of q.comp1 → z < 2 → q.table.length = 512 → F.DSI_COMP2.X0.of q.comp2 +
      F.DSI_COMP1.W_M1.of q.comp1 < 1280 →
    After (.composerPassDone t) s fun n => n.mem.read (frameBase (1 - m.dsi.front) + (F.DSI_COMP2.Y0.of q.comp2 +
      F.DSI_COMP1.H_M1.of q.comp1 - y) * 2560 + (F.DSI_COMP2.X0.of q.comp2 + x) * 2 + z) = q.table.getD (2 * colourIndex
      (Sparse.get 0 (pmap m (F.DSI_COMP0.MAP.of q.comp0)).cells ((F.DSI_COMP0.ROW0.of q.comp0 + y) * 1024 +
      F.DSI_COMP0.COL0.of q.comp0 + x)) (F.DSI_COMP0.CSHIFT.of q.comp0) + z) 0) ∧
  (Quiet m → passDue m = false →
    After (.composerPassDone t) s fun n => n = m) ∧
  (∀ (p : Port) (q : Running) (l : List (Word × Word)), Quiet m → passDue m = true → (m.port p.val).session.running = some q
      → q.req = .regWrite l → q.from_ = l.length → 1 ≤ l.length → l.length ≤ 64 → (m.port p.val).session.version = 0x32 →
      q.wait = .compose → powered m.pwr.state = true → (∀ x : Nat, x < 4 → x ≠ p.val → (m.port x).session.running = none) →
      (∀ x : Nat, x < 4 → (m.port x).orphans = []) → (m.port p.val).session.isOpen = true →
    After (.composerPassDone t) s fun n => .response p.val ⟨q.via, (m.port p.val).session.version.toNat, (m.port
      p.val).sessionId.toNat⟩ q.seq.toNat q.tag.toNat (cmdCode q.req) .ok (q.body ++ []) false ∈ n.wire ∧ (n.port
      p.val).session.running = none) ∧
  (∀ (p : Port), Reaches m p .DSI_FLIP_LO 0 →
    After (.dsiFlipRead t p) s fun n => n = { m with
        dsi := { m.dsi with flipLatch := m.dsi.flipDatum },
        wire := .readValue p.val (RegKind.addr .DSI_FLIP_LO 0) (readReg n .DSI_FLIP_LO 0) :: m.wire } ∧ roModule n
      .DSI_FLIP_LO 0 = m.dsi.flipDatum % 2 ^ 32 ∧ roModule n .DSI_FLIP_HI 0 = m.dsi.flipDatum / 2 ^ 32)

/-- R522, R524, R525, R527, R533 to R537: OPEN negotiates version and timeout; each command of a session gets one response, which is kept with its tag;
a lease is granted unless another session holds an overlapping one; CLOSE resets the session after its response. -/
def Obligations.SessionsAndLeases : Prop := ∀ (s : State) (t : Stamp) (m : Kz), s.kz.advance t = m →
  (∀ (h : Hdr), Runs m h (.nop) →
    After (.nop t h) s fun n => n = { m with ports := n.ports, wire := n.wire } ∧ Answered m n h (.nop) .ok [] (fun x => x)) ∧
  (∀ (h : Hdr) (lo hi : Byte) (timeout : BitVec 16) (mask : Word) (x : Nat), Quiet m → answers m h.port.val = true → (m.port
      h.port.val).session.isOpen = false → chooseVersion lo.toNat hi.toNat = some x →
    After (.openSession t h lo hi timeout mask) s fun n => n = { m with ports := n.ports, wire := n.wire } ∧ n.wire =
      .response h.port.val ⟨viaOf m h, x, 0⟩ h.seq.toNat h.tag.toNat 2 .ok (be 1 x ++ be 1 0 ++ be 2 (if (m.port
      h.port.val).sessionId + 1 = 0 then 1 else (m.port h.port.val).sessionId + 1).toNat ++ be 2 (max 1 (min 600
      timeout.toNat)) ++ be 2 0 ++ be 4 (readReg n .MOD_IDENT 0) ++ be 4 m.fw.runImage.version.toNat) false :: m.wire ∧
      n.port h.port.val = { m.port h.port.val with
        session := {
            isOpen := true,
            origin := h.origin,
            via := viaOf m h,
            version := BitVec.ofNat 8 x,
            timeout := max 1 (min 600 timeout.toNat),
            mask := mask,
            h := h.seq + 1,
            timer := m.now.ns },
        sessionId := (if (m.port h.port.val).sessionId + 1 = 0 then 1 else (m.port h.port.val).sessionId + 1) } ∧ (∀ y :
      Nat, y < 4 → y ≠ h.port.val → n.port y = m.port y)) ∧
  (∀ (h : Hdr) (lo hi : Byte) (timeout : BitVec 16) (mask : Word) (x : Nat), Quiet m → answers m h.port.val = true → (sess m
      h).isOpen = true → (sess m h).origin = h.origin → chooseVersion lo.toNat hi.toNat = some x →
    After (.openSession t h lo hi timeout mask) s fun n => n = { m with ports := n.ports, wire := n.wire, log := n.log } ∧
      (n.port h.port.val).session = {
        isOpen := true,
        origin := h.origin,
        via := viaOf m h,
        version := BitVec.ofNat 8 x,
        timeout := max 1 (min 600 timeout.toNat),
        mask := mask,
        h := h.seq + 1,
        timer := m.now.ns } ∧ (n.port h.port.val).orphans = (m.port h.port.val).orphans ++ ((m.port
      h.port.val).session.running.map (fun q => (q, (sess m h).leases))).toList ∧ n.log.entries.head?.map (fun z => (z.code,
      z.kind, z.idx)) = some (0x0501, 5, h.port.val)) ∧
  (∀ (h : Hdr) (lo hi : Byte) (timeout : BitVec 16) (mask : Word), Quiet m → answers m h.port.val = true → (sess m h).isOpen
      = false → chooseVersion lo.toNat hi.toNat = none → MayReject m h.port.val →
    After (.openSession t h lo hi timeout mask) s fun n => Rejected m n h 2 .version) ∧
  (∀ (h : Hdr) (lo hi : Byte) (timeout : BitVec 16) (mask : Word), Quiet m → answers m h.port.val = true → (sess m h).isOpen
      = true → (sess m h).origin ≠ h.origin → MayReject m h.port.val →
    After (.openSession t h lo hi timeout mask) s fun n => Rejected m n h 2 .sessionBusy) ∧
  (∀ (h : Hdr), Runs m h .closeSession →
    After (.closeSession t h) s fun n => n = { m with ports := n.ports, wire := n.wire, log := n.log } ∧ n.wire = .response
      h.port.val (answerHead m h) h.seq.toNat h.tag.toNat 3 .ok [] false :: m.wire ∧ n.port h.port.val = { m.port h.port.val with
        session := {} } ∧ (∀ y : Nat, y < 4 → y ≠ h.port.val → n.port y = m.port y) ∧ n.log.entries.head?.map (fun z =>
      (z.code, z.kind, z.idx)) = some (0x0501, 5, h.port.val)) ∧
  (∀ (h : Hdr) (kind : Byte) (idx : BitVec 16) (l : Lease), Runs m h ((.leaseAcquire kind idx)) → leaseOf kind.toNat
      idx.toNat (sess m h).version.toNat = some l → heldElsewhere m h.port.val l = none →
    After (.leaseAcquire t h kind idx) s fun n => n = { m with ports := n.ports, wire := n.wire } ∧ Answered m n h
      ((.leaseAcquire kind idx)) .ok [] (fun x => { x with
        leases := if x.leases.contains l then x.leases else l :: x.leases })) ∧
  (∀ (h : Hdr) (kind : Byte) (idx : BitVec 16) (l : Lease) (q : Nat), Runs m h ((.leaseAcquire kind idx)) → leaseOf
      kind.toNat idx.toNat (sess m h).version.toNat = some l → heldElsewhere m h.port.val l = some q →
    After (.leaseAcquire t h kind idx) s fun n => n = { m with ports := n.ports, wire := n.wire } ∧ Answered m n h
      ((.leaseAcquire kind idx)) .leaseHeld (Detail.bytes ⟨5, q⟩) (fun x => x)) ∧
  (∀ (h : Hdr) (kind : Byte) (idx : BitVec 16), Runs m h ((.leaseAcquire kind idx)) → leaseOf kind.toNat idx.toNat (sess m
      h).version.toNat = none →
    After (.leaseAcquire t h kind idx) s fun n => n = { m with ports := n.ports, wire := n.wire } ∧ Answered m n h
      ((.leaseAcquire kind idx)) .badValue (Detail.bytes noDetail) (fun x => x)) ∧
  (∀ (h : Hdr) (kind : Byte) (idx : BitVec 16) (l : Lease), Runs m h ((.leaseRelease kind idx)) → leaseOf kind.toNat
      idx.toNat (sess m h).version.toNat = some l →
    After (.leaseRelease t h kind idx) s fun n => n = { m with ports := n.ports, wire := n.wire } ∧ Answered m n h
      ((.leaseRelease kind idx)) .ok [] (fun x => { x with leases := x.leases.filter (fun y => decide (y ≠ l)) })) ∧
  (∀ (h : Hdr) (kind : Byte) (idx : BitVec 16), Runs m h ((.leaseRelease kind idx)) → leaseOf kind.toNat idx.toNat (sess m
      h).version.toNat = none →
    After (.leaseRelease t h kind idx) s fun n => n = { m with ports := n.ports, wire := n.wire } ∧ Answered m n h
      ((.leaseRelease kind idx)) .badValue (Detail.bytes noDetail) (fun x => x)) ∧
  (∀ (h : Hdr) (kind : Byte) (idx : BitVec 16) (l : Lease), Runs m h ((.leaseQuery kind idx)) → leaseOf kind.toNat idx.toNat
      (sess m h).version.toNat = some l →
    After (.leaseQuery t h kind idx) s fun n => n = { m with ports := n.ports, wire := n.wire } ∧ Answered m n h
      ((.leaseQuery kind idx)) .ok (be 1 5 ++ be 1 0 ++ be 2 ((holderPort m l).getD 0xFF)) (fun x => x)) ∧
  (∀ (h : Hdr) (kind : Byte) (idx : BitVec 16), Runs m h ((.leaseQuery kind idx)) → leaseOf kind.toNat idx.toNat (sess m
      h).version.toNat = none →
    After (.leaseQuery t h kind idx) s fun n => n = { m with ports := n.ports, wire := n.wire } ∧ Answered m n h
      ((.leaseQuery kind idx)) .badValue (Detail.bytes noDetail) (fun x => x)) ∧
  (∀ (h : Hdr) (mask : Word), Runs m h ((.subscribe mask)) →
    After (.subscribe t h mask) s fun n => n = { m with ports := n.ports, wire := n.wire } ∧ Answered m n h ((.subscribe
      mask)) .ok [] (fun x => { x with mask := mask })) ∧
  (∀ (h : Hdr) (code : BitVec 16) (body : List Byte), Runs m h ((.unknown code body)) →
    After (.unknownCommand t h code body) s fun n => n = { m with ports := n.ports, wire := n.wire } ∧ Answered m n h
      ((.unknown code body)) .unknownCommand (Detail.bytes noDetail) (fun x => x))

/-- R7, R8, R538, R539, R629, R713, R720 to R723, R729, R730: a read answers the words read in order, or BAD_ADDRESS with those before the fault; a write
stores pair by pair and stops at the first refusal; a commit applies every staged value, or none. -/
def Obligations.RegisterRequests : Prop := ∀ (s : State) (t : Stamp) (m : Kz), s.kz.advance t = m →
  (∀ (h : Hdr) (addrs : List Word) (b : List Byte) (j : Nat) (x : Kz), Runs m h (.regRead addrs) → readGo (started m h
      (.regRead addrs)) 0 [] (addrs.map (fun z => z.toNat)) = (⟨done, b, j⟩, x) →
    After (.regRead t h addrs) s fun n => n = { x with ports := n.ports, wire := n.wire } ∧ Answered m n h (.regRead addrs)
      .ok b (fun x => x)) ∧
  (∀ (h : Hdr) (addrs : List Word) (b : List Byte) (j : Nat) (x : Kz), Runs m h (.regRead addrs) → readGo (started m h
      (.regRead addrs)) 0 [] (addrs.map (fun z => z.toNat)) = (⟨.done { status := .badAddress, detail := ⟨3, j⟩ }, b, j⟩, x)
      →
    After (.regRead t h addrs) s fun n => n = { x with ports := n.ports, wire := n.wire } ∧ Answered m n h (.regRead addrs)
      .badAddress (Detail.bytes ⟨3, j⟩ ++ b) (fun x => x) ∧ x.regs.faultValid = true) ∧
  (∀ (h : Hdr) (addr : Word) (count : BitVec 16) (b : List Byte) (j : Nat) (x : Kz), Runs m h (.blockRead addr count) →
      readGo (started m h (.blockRead addr count)) 0 [] ((upTo count.toNat).map (fun z => addr.toNat + 4 * z)) = (⟨done, b,
      j⟩, x) →
    After (.blockRead t h addr count) s fun n => n = { x with ports := n.ports, wire := n.wire } ∧ Answered m n h
      (.blockRead addr count) .ok b (fun x => x)) ∧
  (∀ (h : Hdr) (addr : Word) (count : BitVec 16) (b : List Byte) (j : Nat) (x : Kz), Runs m h (.blockRead addr count) →
      readGo (started m h (.blockRead addr count)) 0 [] ((upTo count.toNat).map (fun z => addr.toNat + 4 * z)) = (⟨.done {
        status := .badAddress,
        detail := ⟨3, j⟩ }, b, j⟩, x) →
    After (.blockRead t h addr count) s fun n => n = { x with ports := n.ports, wire := n.wire } ∧ Answered m n h
      (.blockRead addr count) .badAddress (Detail.bytes ⟨3, j⟩ ++ b) (fun x => x) ∧ x.regs.faultValid = true) ∧
  (∀ (h : Hdr) (pairs : List (Word × Word)) (j : Nat) (x : Kz), Runs m h (.regWrite pairs) → writeGo (started m h (.regWrite
      pairs)) (sess m h).leases 0 pairs = (⟨done, [], j⟩, x) → x.pwr.state ≠ .off → Quiet x → x.ports = (started m h
      (.regWrite pairs)).ports → x.wire = m.wire →
    After (.regWrite t h pairs) s fun n => n = { x with ports := n.ports, wire := n.wire } ∧ Answered m n h (.regWrite
      pairs) .ok [] (fun x => x)) ∧
  (∀ (h : Hdr) (pairs : List (Word × Word)) (a v : Word) (k : RegKind) (i : Nat), Runs m h (.regWrite pairs) → pairs = [(a,
      v)] → placeOf a.toNat = some (.reg k i) → k ∈ [.HK_XCHK_CFG, .CH_TRIG_HOLD, .CH_REC_WIN, .CH_MASK_CTRL, .RGN_PATTERN,
      .MOD_XTRIG_CTRL] → restartOf m a.toNat = none → covers (sess m h).leases (leaseFor a.toNat) = true → lockedOut m k i v
      = false → regCheck m k i v = none →
    After (.regWrite t h pairs) s fun n => n = { storeReg m k i v with ports := n.ports, wire := n.wire } ∧ Answered m n h
      (.regWrite pairs) .ok [] (fun x => x)) ∧
  (∀ (h : Hdr) (addrs : List Word) (a : Word) (x : Place), Runs m h (.regRead addrs) → addrs = [a] → placeOf a.toNat = some
      x → restartOf m a.toNat = none →
    After (.regRead t h addrs) s fun n => n = { (readPlace (started m h (.regRead addrs)) a.toNat x).2 with
        ports := n.ports,
        wire := n.wire } ∧ Answered m n h (.regRead addrs) .ok (be 4 (readPlace (started m h (.regRead addrs)) a.toNat x).1)
      (fun x => x)) ∧
  (∀ (h : Hdr) (a : Word) (count : BitVec 16) (x : Place), Runs m h (.blockRead a count) → count = 1 → placeOf a.toNat =
      some x → restartOf m a.toNat = none →
    After (.blockRead t h a count) s fun n => n = { (readPlace (started m h (.blockRead a count)) a.toNat x).2 with
        ports := n.ports,
        wire := n.wire } ∧ Answered m n h (.blockRead a count) .ok (be 4 (readPlace (started m h (.blockRead a count))
      a.toNat x).1) (fun x => x)) ∧
  (∀ (h : Hdr) (pairs : List (Word × Word)) (j : Nat) (x : Kz) (st : Status), Runs m h (.regWrite pairs) → writeGo (started
      m h (.regWrite pairs)) (sess m h).leases 0 pairs = (⟨.done { status := st, detail := ⟨3, j⟩ }, [], j⟩, x) → st ≠ .ok →
      Quiet x → x.ports = (started m h (.regWrite pairs)).ports → x.wire = m.wire →
    After (.regWrite t h pairs) s fun n => n = { x with ports := n.ports, wire := n.wire } ∧ Answered m n h (.regWrite
      pairs) st (Detail.bytes ⟨3, j⟩) (fun x => x)) ∧
  (∀ (h : Hdr) (kind : Byte) (idx : BitVec 16), Runs m h ((.commit kind idx)) → kind = 0 → m.regs.modPend = true → covers
      (sess m h).leases .module = true → m.dsi.state = .off →
    After (.commit t h kind idx) s fun n => n = { m with ports := n.ports, wire := n.wire, regs := n.regs, dsi := n.dsi } ∧
      Answered m n h ((.commit kind idx)) .ok [] (fun x => x) ∧ n.dsi = { m.dsi with timing := stagedTiming m } ∧ (∀ z ∈
      dsiTimingKinds, n.cfgWord z 0 = Sparse.get (m.cfgWord z 0) m.regs.staged (z.addr 0)) ∧ n.regs.staged = [] ∧
      n.regs.modPend = false ∧ n.regs.commitSeq = (m.regs.commitSeq + 1) % 65536 ∧ n.regs.cfgGen = (m.regs.cfgGen + 1) % 2 ^
      32 ∧ n.regs.commitKind = 0 ∧ n.regs.commitStatus = 0) ∧
  (∀ (h : Hdr) (kind : Byte) (idx : BitVec 16), Runs m h ((.commit kind idx)) → kind = 0 → m.regs.modPend = true → covers
      (sess m h).leases .module = true → m.dsi.state ≠ .off → timingOk (m.on F.DSI_CTRL.MODE 0) (stagedTiming m) = true →
    After (.commit t h kind idx) s fun n => n = { m with ports := n.ports, wire := n.wire, regs := n.regs, dsi := n.dsi } ∧
      Answered m n h ((.commit kind idx)) .ok [] (fun x => x) ∧ n.dsi = { m.dsi with timingPending := true } ∧ (∀ z ∈
      dsiTimingKinds, n.cfgWord z 0 = Sparse.get (m.cfgWord z 0) m.regs.staged (z.addr 0)) ∧ n.regs.staged = []) ∧
  (∀ (h : Hdr) (kind : Byte) (idx : BitVec 16), Runs m h ((.commit kind idx)) → kind = 0 → m.regs.modPend = true → covers
      (sess m h).leases .module = true → m.dsi.state ≠ .off → timingOk (m.on F.DSI_CTRL.MODE 0) (stagedTiming m) = false →
    After (.commit t h kind idx) s fun n => n = { m with
        ports := n.ports,
        wire := n.wire,
        regs := { m.regs with commitKind := 0, commitStatus := 1 } } ∧ Answered m n h ((.commit kind idx)) .badValue
      (Detail.bytes noDetail) (fun x => x)) ∧
  (∀ (h : Hdr) (kind : Byte) (idx : BitVec 16), Runs m h ((.commit kind idx)) → (blockLease kind.toNat idx.toNat).any (fun z
      => covers (sess m h).leases z) = true → kind ≠ 0 ∨ m.regs.modPend = false →
    After (.commit t h kind idx) s fun n => n = { m with
        ports := n.ports,
        wire := n.wire,
        regs := { m.regs with commitKind := kind.toNat % 4, commitStatus := 0 } } ∧ Answered m n h ((.commit kind idx)) .ok
      [] (fun x => x)) ∧
  (∀ (h : Hdr) (kind : Byte) (idx : BitVec 16), Runs m h ((.commit kind idx)) → (blockLease kind.toNat idx.toNat).any (fun z
      => !covers (sess m h).leases z) = true →
    After (.commit t h kind idx) s fun n => n = { m with
        ports := n.ports,
        wire := n.wire,
        regs := { m.regs with commitKind := kind.toNat % 4, commitStatus := 4 } } ∧ Answered m n h ((.commit kind idx))
      .noLease (Detail.bytes noDetail) (fun x => x))

/-- R600 to R603, R606 to R608, R719, R759: MODULE_STATE moves the module along its states and out of HOLD once nothing trips; REGION_STATE moves a
region and answers when it is there; what does not follow the state order, or fails a check, is refused and changes nothing. -/
def Obligations.ModuleAndRegionStates : Prop := ∀ (s : State) (t : Stamp) (m : Kz), s.kz.advance t = m →
  (∀ (h : Hdr) (target : Byte), Runs m h (.moduleState target) → (m.pwr.state, target) ∈ ([(.standby, 3), (.ready, 4),
      (.acquire, 5), (.hold, 6)] : List (ModState × Byte)) →
    After (.moduleState t h target) s fun n => n = { m with ports := n.ports, wire := n.wire } ∧ Answered m n h
      (.moduleState target) .ok [] (fun x => x)) ∧
  (∀ (h : Hdr) (target : Byte), Runs m h (.moduleState target) → m.pwr.state = .standby → target = 4 →
    After (.moduleState t h target) s fun n => n = { m with
        ports := n.ports,
        wire := n.wire,
        pwr := { m.pwr with state := .ready } } ∧ Answered m n h (.moduleState target) .ok [] (fun x => x)) ∧
  (∀ (h : Hdr) (target : Byte), Runs m h (.moduleState target) → m.pwr.state = .ready → target = 5 → m.anyRgn (fun z =>
      decide (z = .cal)) = false →
    After (.moduleState t h target) s fun n => n = { m with
        ports := n.ports,
        wire := n.wire,
        pwr := { m.pwr with state := .acquire } } ∧ Answered m n h (.moduleState target) .ok [] (fun x => x)) ∧
  (∀ (h : Hdr) (target : Byte), Runs m h (.moduleState target) → m.pwr.state = .ready → target = 3 → m.anyRgn (fun z =>
      decide (z = .cal)) = false →
    After (.moduleState t h target) s fun n => n = { m with
        ports := n.ports,
        wire := n.wire,
        pwr := { m.pwr with state := .standby } } ∧ Answered m n h (.moduleState target) .ok [] (fun x => x)) ∧
  (∀ (h : Hdr) (target : Byte), Runs m h (.moduleState target) → m.pwr.state = .acquire → target = 4 → m.anyRgn (fun z =>
      decide (z = .run)) = false →
    After (.moduleState t h target) s fun n => n = { m with
        ports := n.ports,
        wire := n.wire,
        pwr := { m.pwr with state := .ready } } ∧ Answered m n h (.moduleState target) .ok [] (fun x => x)) ∧
  (∀ (h : Hdr) (target : Byte), Runs m h (.moduleState target) → m.pwr.state = .standby ∨ m.pwr.state = .ready ∨ m.pwr.state
      = .acquire → target = 6 →
    After (.moduleState t h target) s fun n => n.pwr = { m.pwr with
        state := .hold,
        causeHost := true,
        calQueue := n.pwr.calQueue,
        passRunning := n.pwr.passRunning } ∧ (∀ z : Nat, z < 12 → (n.rgn z).pwr = if m.rstate z = .down then { (m.rgn z).pwr with
        starting := false } else { (m.rgn z).pwr with state := .hold, causeModule := true, draining := false }) ∧
      n.wire.head? = some (.response h.port.val (answerHead m h) h.seq.toNat h.tag.toNat 0x20 .ok [] false) ∧ n.regs.cfg =
      m.regs.cfg) ∧
  (∀ (h : Hdr) (target : Byte), Runs m h (.moduleState target) → (m.pwr.state, target) ∈ ([(.standby, 5), (.ready, 0),
      (.ready, 1), (.acquire, 3), (.standby, 2), (.hold, 4), (.hold, 5), (.acquire, 0)] : List (ModState × Byte)) ∨
      (m.pwr.state = .ready ∧ (target = 5 ∨ target = 3) ∧ m.anyRgn (fun z => decide (z = .cal)) = true) ∨ (m.pwr.state =
      .acquire ∧ target = 4 ∧ m.anyRgn (fun z => decide (z = .run)) = true) →
    After (.moduleState t h target) s fun n => n = { m with ports := n.ports, wire := n.wire } ∧ Answered m n h
      (.moduleState target) .stateOrder (Detail.bytes noDetail) (fun x => x)) ∧
  (∀ (h : Hdr) (target : Byte), Runs m h (.moduleState target) → 6 < target.toNat →
    After (.moduleState t h target) s fun n => n = { m with ports := n.ports, wire := n.wire } ∧ Answered m n h
      (.moduleState target) .badValue (Detail.bytes noDetail) (fun x => x)) ∧
  (∀ (h : Hdr) (target : Byte), Runs m h (.moduleState target) → m.pwr.state = .hold → target = 3 → m.pwr.ovNow = true ∨
      m.pwr.thermNow = true ∨ m.errs.fatal = true →
    After (.moduleState t h target) s fun n => n = { m with ports := n.ports, wire := n.wire } ∧ Answered m n h
      (.moduleState target) .tripActive (Detail.bytes noDetail) (fun x => x)) ∧
  (∀ (h : Hdr) (target : Byte) (k : Nat), Runs m h (.moduleState target) → m.pwr.state = .hold → target = 3 → m.pwr.ovNow =
      false → m.pwr.thermNow = false → m.errs.fatal = false → (upTo 12).find? (fun z => decide (m.rstate z = .hold) &&
      rgnTripped m z) = some k →
    After (.moduleState t h target) s fun n => n = { m with ports := n.ports, wire := n.wire } ∧ Answered m n h
      (.moduleState target) .tripActive (Detail.bytes ⟨2, k⟩) (fun x => x)) ∧
  (∀ (h : Hdr) (target : Byte), Runs m h (.moduleState target) → m.pwr.state = .hold → target = 3 → m.pwr.ovNow = false →
      m.pwr.thermNow = false → m.errs.fatal = false → (upTo 12).find? (fun z => decide (m.rstate z = .hold) && rgnTripped m
      z) = none →
    After (.moduleState t h target) s fun n => n = { m with
        ports := n.ports,
        wire := n.wire,
        pwr := { m.pwr with
            state := .standby,
            causeFatal := false,
            causeHost := false,
            causeThermal := false,
            causeOv := false },
        rgns := n.rgns,
        chans := n.chans } ∧ Answered m n h (.moduleState target) .ok [] (fun x => x) ∧ (∀ z : Nat, z < 12 → n.rgn z = if
      m.rstate z = .hold then { m.rgn z with
        pwr := { (m.rgn z).pwr with state := .idle, causeModule := false, causeThermal := false, causeRail := false } } else
      m.rgn z) ∧ (∀ c : Nat, c < 192 → n.chan c = if m.rstate (c / 16) = .hold then { m.chan c with
        conv := { (m.chan c).conv with calDue := true } } else m.chan c)) ∧
  (∀ (h : Hdr) (region target : Byte), Runs m h (.regionState region target) → target = 1 → (m.rgn region.toNat).pwr.state =
      .idle →
    After (.regionState t h region target) s fun n => n = { m with ports := n.ports, wire := n.wire } ∧ Answered m n h
      (.regionState region target) .ok [] (fun x => x)) ∧
  (∀ (h : Hdr) (region target : Byte), Runs m h (.regionState region target) → target = 0 → (m.rgn region.toNat).pwr.state =
      .down →
    After (.regionState t h region target) s fun n => n = { m with ports := n.ports, wire := n.wire } ∧ Answered m n h
      (.regionState region target) .ok [] (fun x => x)) ∧
  (∀ (h : Hdr) (region target : Byte), Runs m h (.regionState region target) → target = 2 → (m.rgn region.toNat).pwr.state =
      .cal →
    After (.regionState t h region target) s fun n => n = { m with ports := n.ports, wire := n.wire } ∧ Answered m n h
      (.regionState region target) .ok [] (fun x => x)) ∧
  (∀ (h : Hdr) (region target : Byte), Runs m h (.regionState region target) → target = 3 → (m.rgn region.toNat).pwr.state =
      .run →
    After (.regionState t h region target) s fun n => n = { m with ports := n.ports, wire := n.wire } ∧ Answered m n h
      (.regionState region target) .ok [] (fun x => x)) ∧
  (∀ (h : Hdr) (region target : Byte), Runs m h (.regionState region target) → target = 4 → (m.rgn region.toNat).pwr.state =
      .hold →
    After (.regionState t h region target) s fun n => n = { m with ports := n.ports, wire := n.wire } ∧ Answered m n h
      (.regionState region target) .ok [] (fun x => x)) ∧
  (∀ (h : Hdr) (region target : Byte), Runs m h (.regionState region target) → target = 1 → (m.rgn region.toNat).pwr.state =
      .down → m.pwr.state = .standby ∨ m.pwr.state = .ready ∨ m.pwr.state = .acquire →
    After (.regionState t h region target) s fun n => n = { m with
        ports := n.ports,
        wire := n.wire,
        rgns := (m.modPwr region.toNat (fun z => { z with starting := true })).rgns } ∧ Waiting m n h (.regionState region
      target) (.regionIdle region.toNat)) ∧
  (∀ (h : Hdr) (region target : Byte), Runs m h (.regionState region target) → target = 0 → (m.rgn region.toNat).pwr.state =
      .idle →
    After (.regionState t h region target) s fun n => n = { m with ports := n.ports, wire := n.wire, rgns := n.rgns } ∧
      Waiting m n h (.regionState region target) (.regionDown region.toNat) ∧ (∀ z : Nat, z < 12 → n.rgn z = if z =
      region.toNat then { m.rgn z with pwr := { (m.rgn z).pwr with draining := true } } else m.rgn z)) ∧
  (∀ (h : Hdr) (region target : Byte), Runs m h (.regionState region target) → target = 0 → (m.rgn region.toNat).pwr.state =
      .hold → m.pwr.state ≠ .hold → rgnTripped m region.toNat = false →
    After (.regionState t h region target) s fun n => n = { m with
        ports := n.ports,
        wire := n.wire,
        rgns := (m.modPwr region.toNat (fun z => { z with draining := true })).rgns } ∧ Waiting m n h (.regionState region
      target) (.regionDown region.toNat)) ∧
  (∀ (h : Hdr) (region target : Byte), Runs m h (.regionState region target) → target = 2 → (m.rgn region.toNat).pwr.state =
      .idle → (m.rgn region.toNat).pwr.draining = false → m.pwr.state = .ready ∨ m.pwr.state = .acquire → m.tb.tb ≠
      .switching → m.on F.MOD_AGE_CTRL.EN_WEAR 0 = false ∨ (∀ c : Nat, c < 192 → Sparse.get 0 m.age.wear c = 0) →
    After (.regionState t h region target) s fun n => n = { m with
        ports := n.ports,
        wire := n.wire,
        rgns := (m.modPwr region.toNat (fun z => { z with state := .cal })).rgns,
        chans := n.chans,
        pwr := { m.pwr with calQueue := m.pwr.calQueue ++ [region.toNat] } } ∧ Answered m n h (.regionState region target)
      .ok [] (fun x => x) ∧ (∀ c : Nat, c < 192 → n.chan c = if c / 16 = region.toNat then { m.chan c with
        fe := { (m.chan c).fe with inj := {} } } else m.chan c)) ∧
  (∀ (h : Hdr) (region target : Byte), Runs m h (.regionState region target) → target = 3 → (m.rgn region.toNat).pwr.state =
      .idle → (m.rgn region.toNat).pwr.draining = false → runChecks m region.toNat = none →
    After (.regionState t h region target) s fun n => n = { m with
        ports := n.ports,
        wire := n.wire,
        pwr := n.pwr,
        rgns := n.rgns,
        chans := n.chans,
        stats := n.stats,
        spans := n.spans,
        regs := n.regs,
        mem := n.mem,
        prims := n.prims,
        log := n.log,
        age := n.age } ∧ Answered m n h (.regionState region target) .ok [] (fun x => x) ∧ n.pwr = m.pwr ∧ n.regs.cfg =
      m.regs.cfg ∧ (∀ z : Nat, z < 12 → (n.rgn z).pwr = if z = region.toNat then { (m.rgn region.toNat).pwr with
        state := .run } else (m.rgn z).pwr) ∧ (∀ z : Nat, z < 16 → (n.chan (16 * region.toNat + z)).chain.start = some
      m.now.tick) ∧ (∀ z : Nat, z < 16 → (n.chan (16 * region.toNat + z)).mem.open_ = [])) ∧
  (∀ (h : Hdr) (region target : Byte) (r : Refuse), Runs m h (.regionState region target) → target = 3 → (m.rgn
      region.toNat).pwr.state = .idle → (m.rgn region.toNat).pwr.draining = false → runChecks m region.toNat = some r →
      r.status ≠ .ok →
    After (.regionState t h region target) s fun n => n = { m with ports := n.ports, wire := n.wire } ∧ Answered m n h
      (.regionState region target) r.status r.detail.bytes (fun x => x)) ∧
  (∀ (h : Hdr) (region target : Byte), Runs m h (.regionState region target) → target = 1 → (m.rgn region.toNat).pwr.state =
      .run →
    After (.regionState t h region target) s fun n => n = { m with
        ports := n.ports,
        wire := n.wire,
        pwr := n.pwr,
        rgns := n.rgns,
        chans := n.chans,
        stats := n.stats,
        spans := n.spans } ∧ Answered m n h (.regionState region target) .ok [] (fun x => x) ∧ n.pwr = { m.pwr with
        calQueue := n.pwr.calQueue,
        passRunning := n.pwr.passRunning } ∧ (∀ z : Nat, z < 12 → (n.rgn z).pwr = if z = region.toNat then { (m.rgn region.toNat).pwr with
        state := .idle } else (m.rgn z).pwr) ∧ (∀ z : Nat, z < 16 → (n.chan (16 * region.toNat + z)).chain.start = none) ∧
      (∀ z : Nat, z < 16 → (n.chan (16 * region.toNat + z)).mem.open_ = [])) ∧
  (∀ (h : Hdr) (region target : Byte), Runs m h (.regionState region target) → target = 1 → (m.rgn region.toNat).pwr.state =
      .hold → m.pwr.state ≠ .hold → (m.rgn region.toNat).pwr.draining = false → rgnTripped m region.toNat = false →
    After (.regionState t h region target) s fun n => n = { m with
        ports := n.ports,
        wire := n.wire,
        rgns := (m.modPwr region.toNat (fun z => { z with
            state := .idle,
            causeModule := false,
            causeThermal := false,
            causeRail := false })).rgns,
        chans := n.chans } ∧ Answered m n h (.regionState region target) .ok [] (fun x => x) ∧ (∀ c : Nat, c < 192 → n.chan
      c = if c / 16 = region.toNat then { m.chan c with conv := { (m.chan c).conv with calDue := true } } else m.chan c)) ∧
  (∀ (h : Hdr) (region target : Byte), Runs m h (.regionState region target) → target = 1 → (m.rgn region.toNat).pwr.state =
      .hold → (m.rgn region.toNat).pwr.draining = false → m.pwr.state ≠ .hold → rgnTripped m region.toNat = true →
    After (.regionState t h region target) s fun n => n = { m with ports := n.ports, wire := n.wire } ∧ Answered m n h
      (.regionState region target) .tripActive (Detail.bytes ⟨2, region.toNat⟩) (fun x => x)) ∧
  (∀ (h : Hdr) (region target : Byte), Runs m h (.regionState region target) → target = 2 → (m.rgn region.toNat).pwr.state =
      .idle → (m.rgn region.toNat).pwr.draining = true ∨ m.pwr.state = .standby ∨ m.pwr.state = .hold →
    After (.regionState t h region target) s fun n => n = { m with ports := n.ports, wire := n.wire } ∧ Answered m n h
      (.regionState region target) .stateOrder (Detail.bytes noDetail) (fun x => x)) ∧
  (∀ (h : Hdr) (region target : Byte), Runs m h (.regionState region target) → target = 2 → (m.rgn region.toNat).pwr.state =
      .idle → (m.rgn region.toNat).pwr.draining = false → m.pwr.state = .ready ∨ m.pwr.state = .acquire → m.tb.tb =
      .switching →
    After (.regionState t h region target) s fun n => n = { m with ports := n.ports, wire := n.wire } ∧ Answered m n h
      (.regionState region target) .regionsNotIdle (Detail.bytes noDetail) (fun x => x)) ∧
  (∀ (h : Hdr) (region target : Byte), Runs m h (.regionState region target) → (m.rstate region.toNat, target) ∈ ([(.down,
      2), (.down, 3), (.down, 4), (.cal, 0), (.cal, 1), (.cal, 3), (.run, 0), (.run, 2), (.hold, 2), (.hold, 3), (.idle, 4)]
      : List (RgnState × Byte)) ∨ (m.pwr.state = .hold ∧ m.rstate region.toNat = .hold ∧ (target = 0 ∨ target = 1)) →
    After (.regionState t h region target) s fun n => n = { m with ports := n.ports, wire := n.wire } ∧ Answered m n h
      (.regionState region target) .stateOrder (Detail.bytes noDetail) (fun x => x)) ∧
  (∀ (h : Hdr) (region target : Byte), Runs m h (.regionState region target) → 4 < target.toNat →
    After (.regionState t h region target) s fun n => n = { m with ports := n.ports, wire := n.wire } ∧ Answered m n h
      (.regionState region target) .badValue (Detail.bytes noDetail) (fun x => x))

/-- R348, R350, R352, R354, R543, R544, R626, R635, R641, R646, R668: CHANNEL_RESTART, STAT_BOUNDARY and an accepted ENG_LOAD wait for their completion;
a refused image leaves its targets EMPTY; STAGE_WRITE, LOG_READ and LEDGER_READ answer at once. -/
def Obligations.RestartBoundaryAndLoadCommands : Prop := ∀ (s : State) (t : Stamp) (m : Kz), s.kz.advance t = m →
  (∀ (h : Hdr) (ch : BitVec 16), Runs m h (.channelRestart ch) →
    After (.channelRestart t h ch) s fun n => n = { m with ports := n.ports, wire := n.wire, chans := n.chans } ∧ Waiting m
      n h (.channelRestart ch) (.channelResume ch.toNat) ∧ (∀ c : Nat, c < 192 → n.chan c = if c = ch.toNat then { m.chan c with
        restart := { (m.chan c).restart with due := some ((m.chan c).restart.due.getD 1) } } else m.chan c)) ∧
  (∀ (h : Hdr) (ch : BitVec 16), Due m h (.channelRestart ch) → powered m.pwr.state = true → ch.toNat < 192 → covers (sess m
      h).leases (.channel ch.toNat) = true → (m.rgn (ch.toNat / 16)).err.restarting = true → 0x20 ≤ (sess m h).version.toNat
      →
    After (.channelRestart t h ch) s fun n => n = { m with ports := n.ports, wire := n.wire } ∧ Waiting m n h
      (.channelRestart ch) (.regionResume (ch.toNat / 16))) ∧
  (∀ (h : Hdr), Runs m h .statBoundary →
    After (.statBoundary t h) s fun n => n = { m with
        ports := n.ports,
        wire := n.wire,
        stats := { m.stats with raised := m.stats.raised ++ [.host] },
        hub := { m.hub with out := { m.hub.out with boundary := true } } } ∧ Waiting m n h .statBoundary .boundary) ∧
  (∀ (h : Hdr) (region : Byte) (mask : BitVec 16) (off len : Word) (g : EngImage), Runs m h (.engLoad region mask off len) →
      region.toNat < 12 → off.toNat + len.toNat ≤ 131072 → (∀ c ∈ chansOf region.toNat mask.toNat, covers (sess m h).leases
      (.channel c) = true) → (m.rgn region.toNat).err.restarting = false → m.rstate region.toNat ≠ .down → m.rstate
      region.toNat ≠ .run → checkImage ((sess m h).staging.reads off.toNat len.toNat) (m.fld F.ENG_BUDGET.B_DECL
      region.toNat) = .ok g →
    After (.engLoad t h region mask off len) s fun n => n = { m with
        ports := n.ports,
        wire := n.wire,
        chans := n.chans,
        rgns := (m.modRgn region.toNat (fun r => { r with
            eng := { r.eng with loads := r.eng.loads ++ [(r.eng.nextLoad, mask.toNat, g)], nextLoad := r.eng.nextLoad + 1 } })).rgns,
        regs := { m.regs with cfgGen := (m.regs.cfgGen + 1) % 2 ^ 32 } } ∧ Waiting m n h (.engLoad region mask off len)
      (.engLoad region.toNat (m.rgn region.toNat).eng.nextLoad) ∧ (∀ c : Nat, c < 192 → n.chan c = if c ∈ chansOf
      region.toNat mask.toNat then { m.chan c with
        eng := { loads := ((m.chan c).eng.loads + 1) % 2 ^ 32, state := .loading, loading := some g } } else m.chan c)) ∧
  (∀ (h : Hdr) (region : Byte) (mask : BitVec 16) (off len : Word) (x : Nat × Nat), Runs m h (.engLoad region mask off len)
      → region.toNat < 12 → off.toNat + len.toNat ≤ 131072 → (∀ c ∈ chansOf region.toNat mask.toNat, covers (sess m
      h).leases (.channel c) = true) → (m.rgn region.toNat).err.restarting = false → m.rstate region.toNat ≠ .down →
      m.rstate region.toNat ≠ .run → checkImage ((sess m h).staging.reads off.toNat len.toNat) (m.fld F.ENG_BUDGET.B_DECL
      region.toNat) = .error x →
    After (.engLoad t h region mask off len) s fun n => n = { m with
        ports := n.ports,
        wire := n.wire,
        chans := n.chans,
        mem := n.mem } ∧ Answered m n h (.engLoad region mask off len) (loadStatus x.1 x.2).status (Detail.bytes (loadStatus
      x.1 x.2).detail) (fun x => x) ∧ (∀ c : Nat, c < 192 → n.chan c = if c ∈ chansOf region.toNat mask.toNat then { m.chan c with
        eng := { loads := (m.chan c).eng.loads, annots := (m.chan c).eng.annots, rejectCode := x.1, rejectAddr := x.2 } }
      else m.chan c)) ∧
  (∀ (h : Hdr) (region : Byte) (mask : BitVec 16) (off len : Word), Runs m h (.engLoad region mask off len) → region.toNat <
      12 → off.toNat + len.toNat ≤ 131072 → (∀ c ∈ chansOf region.toNat mask.toNat, covers (sess m h).leases (.channel c) =
      true) → (m.rgn region.toNat).err.restarting = false → m.rstate region.toNat = .run →
    After (.engLoad t h region mask off len) s fun n => n = { m with ports := n.ports, wire := n.wire } ∧ Answered m n h
      (.engLoad region mask off len) .locked (Detail.bytes ⟨2, region.toNat⟩) (fun x => x)) ∧
  (∀ (h : Hdr) (region : Byte) (mask : BitVec 16) (off len : Word), Runs m h (.engLoad region mask off len) → region.toNat <
      12 → off.toNat + len.toNat ≤ 131072 → (∀ c ∈ chansOf region.toNat mask.toNat, covers (sess m h).leases (.channel c) =
      true) → (m.rgn region.toNat).err.restarting = false → m.rstate region.toNat = .down →
    After (.engLoad t h region mask off len) s fun n => n = { m with ports := n.ports, wire := n.wire } ∧ Answered m n h
      (.engLoad region mask off len) .regionDown (Detail.bytes ⟨2, region.toNat⟩) (fun x => x)) ∧
  (∀ (h : Hdr) (region : Byte) (mask : BitVec 16) (off len : Word) (c : Nat), Runs m h (.engLoad region mask off len) →
      region.toNat < 12 → off.toNat + len.toNat ≤ 131072 → (chansOf region.toNat mask.toNat).find? (fun z => !covers (sess m
      h).leases (.channel z)) = some c →
    After (.engLoad t h region mask off len) s fun n => n = { m with ports := n.ports, wire := n.wire } ∧ Answered m n h
      (.engLoad region mask off len) .noLease (Detail.bytes ⟨1, c⟩) (fun x => x)) ∧
  (∀ (h : Hdr) (region : Byte) (mask : BitVec 16) (off len : Word), Runs m h (.engLoad region mask off len) → 11 <
      region.toNat ∨ 131072 < off.toNat + len.toNat →
    After (.engLoad t h region mask off len) s fun n => n = { m with ports := n.ports, wire := n.wire } ∧ Answered m n h
      (.engLoad region mask off len) .badValue (Detail.bytes noDetail) (fun x => x)) ∧
  (∀ (h : Hdr) (off : Word) (data : List Byte), Runs m h (.stageWrite off data) → data ≠ [] → data.length ≤ 1024 → off.toNat
      + data.length ≤ 131072 →
    After (.stageWrite t h off data) s fun n => n = { m with ports := n.ports, wire := n.wire } ∧ Answered m n h
      (.stageWrite off data) .ok [] (fun x => { x with staging := x.staging.writes off.toNat data })) ∧
  (∀ (h : Hdr) (off : Word) (data : List Byte), Runs m h (.stageWrite off data) → data = [] ∨ 1024 < data.length ∨ 131072 <
      off.toNat + data.length →
    After (.stageWrite t h off data) s fun n => n = { m with ports := n.ports, wire := n.wire } ∧ Answered m n h
      (.stageWrite off data) .badValue (Detail.bytes noDetail) (fun x => x)) ∧
  (∀ (h : Hdr) (src count : Byte) (first : Word), Runs m h (.logRead src count first) → src.toNat ≤ 1 → 1 ≤ count.toNat →
      count.toNat ≤ 37 →
    After (.logRead t h src count first) s fun n => n = { m with ports := n.ports, wire := n.wire } ∧ Answered m n h
      (.logRead src count first) .ok (if src = 0 then ringRead m.log.entries m.log.next count.toNat first.toNat else
      ringRead m.log.archive m.log.archiveNext count.toNat first.toNat) (fun x => x)) ∧
  (∀ (h : Hdr) (src count : Byte) (first : Word), Runs m h (.logRead src count first) → 1 < src.toNat ∨ count.toNat = 0 ∨ 37
      < count.toNat →
    After (.logRead t h src count first) s fun n => n = { m with ports := n.ports, wire := n.wire } ∧ Answered m n h
      (.logRead src count first) .badValue (Detail.bytes noDetail) (fun x => x)) ∧
  (∀ (h : Hdr) (x : Word) (part : Byte) (r : LedgerRec), Runs m h (.ledgerRead x part) → part.toNat ≤ 7 → x ≠ 0xFFFFFFFF →
      ((m.age.ckpt ++ m.age.recs).map (fun z => z.2)).find? (fun z => decide (z.num = x.toNat)) = some r →
    After (.ledgerRead t h x part) s fun n => n = { m with ports := n.ports, wire := n.wire } ∧ Answered m n h (.ledgerRead
      x part) .ok (be 4 r.num ++ be 1 part.toNat ++ be 1 8 ++ be 2 0 ++ slice r.bytes (1024 * part.toNat) 1024) (fun x =>
      x)) ∧
  (∀ (h : Hdr) (x : Word) (part : Byte) (r : LedgerRec), Runs m h (.ledgerRead x part) → part.toNat ≤ 7 → x = 0xFFFFFFFF →
      newestRecord m = some r →
    After (.ledgerRead t h x part) s fun n => n = { m with ports := n.ports, wire := n.wire } ∧ Answered m n h (.ledgerRead
      x part) .ok (be 4 r.num ++ be 1 part.toNat ++ be 1 8 ++ be 2 0 ++ slice r.bytes (1024 * part.toNat) 1024) (fun x =>
      x)) ∧
  (∀ (h : Hdr) (x : Word) (part : Byte), Runs m h (.ledgerRead x part) → part.toNat ≤ 7 → x ≠ 0xFFFFFFFF → (∀ z ∈ m.age.ckpt
      ++ m.age.recs, z.2.num ≠ x.toNat) →
    After (.ledgerRead t h x part) s fun n => n = { m with ports := n.ports, wire := n.wire } ∧ Answered m n h (.ledgerRead
      x part) .notInLedger (Detail.bytes noDetail) (fun x => x))

/-- R544, R569, R571 to R573, R576, R580: a staged block that names the session's nonce and whose binding and signatures hold runs its operation once: it
activates slot B's verified image, writes or revokes an owner key, or unlocks debug; whatever comes of it, the nonce is used up and the attempt logged; RECOVERY
refuses every operation but the first. -/
def Obligations.SignedOperations : Prop := ∀ (s : State) (t : Stamp) (m : Kz), s.kz.advance t = m →
  (∀ (h : Hdr) (off len : Word) (g : Signed) (i : ImageInfo), parseSigned ((sess m h).staging.reads off.toNat len.toNat) =
      some g → Judged m h off len g → g.op = 1 → g.arg.length = 64 → m.fw.verified = some i → i.digest.toNat = ofBe g.arg →
      m.regionsBusy = false →
    After (.firmwareActivation t h off len) s fun n => SignedBy m n h off len g .ok (n = { m with
        ports := n.ports,
        wire := n.wire,
        log := n.log,
        fw := n.fw } ∧ n.fw = { m.fw with
        block0 := n.fw.block0,
        block1 := n.fw.block1,
        activationDue := some (m.now.ns + 100000000) } ∧ bootBlock n.fw = ⟨(bootBlock m.fw).seq + 1, 1 - (bootBlock
      m.fw).areaA, true, (bootBlock m.fw).qspi⟩)) ∧
  (∀ (h : Hdr) (off len : Word) (g : Signed), parseSigned ((sess m h).staging.reads off.toNat len.toNat) = some g → Judged m
      h off len g → g.op = 1 → g.arg.length = 64 → m.fw.verified = none →
    After (.firmwareActivation t h off len) s fun n => SignedBy m n h off len g .notVerified (n = { m with
        ports := n.ports,
        wire := n.wire,
        log := n.log })) ∧
  (∀ (h : Hdr) (off len : Word) (g : Signed) (i : ImageInfo), parseSigned ((sess m h).staging.reads off.toNat len.toNat) =
      some g → Judged m h off len g → g.op = 1 → g.arg.length = 64 → m.fw.verified = some i → i.digest.toNat = ofBe g.arg →
      m.regionsBusy = true →
    After (.firmwareActivation t h off len) s fun n => SignedBy m n h off len g .regionsNotIdle (n = { m with
        ports := n.ports,
        wire := n.wire,
        log := n.log })) ∧
  (∀ (h : Hdr) (off len : Word) (g : Signed), parseSigned ((sess m h).staging.reads off.toNat len.toNat) = some g → Judged m
      h off len g → g.op = 2 → g.arg.length = 1988 → ofBe (slice g.arg 0 1) = 1 → ofBe (slice g.arg 1 1) ≤ 1 → (ownerSlot
      m.trust (ofBe (slice g.arg 1 1))).state = .empty →
    After (.ownerKeyWrite t h off len) s fun n => SignedBy m n h off len g .ok (n = { m with
        ports := n.ports,
        wire := n.wire,
        log := n.log,
        trust := n.trust } ∧ n.trust = (extend (modTrust m (fun x => setOwner x (ofBe (slice g.arg 1 1)) ⟨.active,
      Config.sha512 (slice g.arg 4 32), Config.sha512 (slice g.arg 36 1952), slice g.arg 4 32, slice g.arg 36 1952⟩)) 6
      [BitVec.ofNat 8 1, BitVec.ofNat 8 (ofBe (slice g.arg 1 1))] (Config.sha512 g.block)).trust)) ∧
  (∀ (h : Hdr) (off len : Word) (g : Signed), parseSigned ((sess m h).staging.reads off.toNat len.toNat) = some g → Judged m
      h off len g → g.op = 2 → g.arg.length = 1988 → ofBe (slice g.arg 0 1) = 1 → 1 < ofBe (slice g.arg 1 1) ∨ (ownerSlot
      m.trust (ofBe (slice g.arg 1 1))).state ≠ .empty →
    After (.ownerKeyWrite t h off len) s fun n => SignedBy m n h off len g .ownerSlot (n = { m with
        ports := n.ports,
        wire := n.wire,
        log := n.log })) ∧
  (∀ (h : Hdr) (off len : Word) (g : Signed), parseSigned ((sess m h).staging.reads off.toNat len.toNat) = some g → Judged m
      h off len g → g.op = 2 → g.arg.length = 4 → ofBe (slice g.arg 0 1) = 2 → ofBe (slice g.arg 1 1) ≤ 1 → (ownerSlot
      m.trust (ofBe (slice g.arg 1 1))).state = .active → (ownerSlot m.trust (1 - ofBe (slice g.arg 1 1))).state = .active →
    After (.ownerKeyRevoke t h off len) s fun n => SignedBy m n h off len g .ok (n = { m with
        ports := n.ports,
        wire := n.wire,
        log := n.log,
        trust := n.trust } ∧ n.trust = (extend (modTrust m (fun x => setOwner x (ofBe (slice g.arg 1 1)) { ownerSlot m.trust (ofBe (slice g.arg 1 1)) with
        state := .revoked })) 6 [BitVec.ofNat 8 2, BitVec.ofNat 8 (ofBe (slice g.arg 1 1))] (Config.sha512 g.block)).trust)) ∧
  (∀ (h : Hdr) (off len : Word) (g : Signed), parseSigned ((sess m h).staging.reads off.toNat len.toNat) = some g → Judged m
      h off len g → g.op = 2 → g.arg.length = 4 → ofBe (slice g.arg 0 1) = 2 → ofBe (slice g.arg 1 1) ≤ 1 → (ownerSlot
      m.trust (ofBe (slice g.arg 1 1))).state = .active → (ownerSlot m.trust (1 - ofBe (slice g.arg 1 1))).state ≠ .active →
    After (.ownerKeyRevoke t h off len) s fun n => SignedBy m n h off len g .lastOwner (n = { m with
        ports := n.ports,
        wire := n.wire,
        log := n.log })) ∧
  (∀ (h : Hdr) (off len : Word) (g : Signed), parseSigned ((sess m h).staging.reads off.toNat len.toNat) = some g → Judged m
      h off len g → g.op = 3 → g.arg.length = 4 → 1 ≤ ofBe (slice g.arg 0 1) → ofBe (slice g.arg 0 1) ≤ 2 → 1 ≤ ofBe (slice
      g.arg 2 2) → ofBe (slice g.arg 2 2) ≤ 1440 →
    After (.debugUnlock t h off len) s fun n => SignedBy m n h off len g .ok (n = { m with
        ports := n.ports,
        wire := n.wire,
        log := n.log,
        trust := n.trust } ∧ n.trust = (extend (modTrust m (fun x => { x with
        debugLevel := ofBe (slice g.arg 0 1),
        debugUntil := m.now.ns + ofBe (slice g.arg 2 2) * 60000000000 })) 5 [BitVec.ofNat 8 (ofBe (slice g.arg 0 1))]
      (Config.sha512 g.block)).trust)) ∧
  (∀ (h : Hdr) (off len : Word) (g : Signed), parseSigned ((sess m h).staging.reads off.toNat len.toNat) = some g → Judged m
      h off len g → g.op = 3 → ofBe (slice g.arg 0 1) = 0 ∨ 2 < ofBe (slice g.arg 0 1) ∨ ofBe (slice g.arg 2 2) = 0 ∨ 1440 <
      ofBe (slice g.arg 2 2) →
    After (.debugUnlock t h off len) s fun n => SignedBy m n h off len g .badValue (n = { m with
        ports := n.ports,
        wire := n.wire,
        log := n.log })) ∧
  (∀ (h : Hdr) (off len : Word) (g : Signed), parseSigned ((sess m h).staging.reads off.toNat len.toNat) = some g → Runs m h
      (.signed off len) → m.pwr.state ≠ .recovery → off.toNat + len.toNat ≤ 131072 → m.trust.identOk = true → (sess m
      h).nonce.any (fun x => decide (x.bytes = g.nonce) && decide (m.now.ns < x.issued + nonceLife)) = false →
    After (.debugUnlock t h off len) s fun n => n = { m with ports := n.ports, wire := n.wire, log := n.log } ∧ SignedEnd m
      n h off len g .nonceInvalid) ∧
  (∀ (h : Hdr) (off len : Word), Runs m h (.signed off len) → m.pwr.state ≠ .recovery → m.trust.identOk = false → off.toNat
      + len.toNat ≤ 131072 →
    After (.firmwareActivation t h off len) s fun n => n = { m with ports := n.ports, wire := n.wire, log := n.log } ∧
      Answered m n h (.signed off len) .identFault (Detail.bytes noDetail) (fun x => { x with nonce := none })) ∧
  (∀ (h : Hdr) (off len : Word), Runs m h (.signed off len) → m.pwr.state = .recovery → off.toNat + len.toNat ≤ 131072 →
      ofBe (slice ((sess m h).staging.reads off.toNat len.toNat) 4 1) ≠ 1 →
    After (.ownerKeyWrite t h off len) s fun n => n = { m with ports := n.ports, wire := n.wire, log := n.log } ∧ n.log =
      m.log ∧ Answered m n h (.signed off len) .notInRecovery (Detail.bytes noDetail) id) ∧
  (∀ (x : List Byte) (g : Signed), parseSigned x = some g → m.pwr.state ≠ .off → m.trust.identOk = true →
      m.trust.jtagNonce.any (fun z => decide (z.bytes = g.nonce) && decide (m.now.ns < z.issued + nonceLife)) = true → g.op
      = 3 → g.arg.length = 4 → 1 ≤ ofBe (slice g.arg 0 1) → ofBe (slice g.arg 0 1) ≤ 2 → 1 ≤ ofBe (slice g.arg 2 2) → ofBe
      (slice g.arg 2 2) ≤ 1440 →
    After (.dbgToken t x) s fun n => if g.binding ≠ deviceBinding then n = { m with
        trust := { m.trust with jtagNonce := none },
        log := n.log,
        wire := .jtagStatus .bindingMismatch :: m.wire } else if sigOk m.trust g = false then n = { m with
        trust := { m.trust with jtagNonce := none },
        log := n.log,
        wire := .jtagStatus .sigInvalid :: m.wire } else n = { m with
        trust := n.trust,
        log := n.log,
        wire := .jtagStatus .ok :: m.wire } ∧ n.trust = (extend (modTrust m (fun x => { x with
        jtagNonce := none,
        debugLevel := ofBe (slice g.arg 0 1),
        debugUntil := m.now.ns + ofBe (slice g.arg 2 2) * 60000000000 })) 5 [BitVec.ofNat 8 (ofBe (slice g.arg 0 1))]
      (Config.sha512 x)).trust) ∧
  (∀ (x : List Byte), m.pwr.state ≠ .off → parseSigned x = none →
    After (.dbgToken t x) s fun n => n = { m with
        trust := { m.trust with jtagNonce := none },
        log := n.log,
        wire := .jtagStatus (if m.trust.identOk = false then .identFault else .badValue) :: m.wire }) ∧
  (∀ (x : List Byte), m.pwr.state = .off →
    After (.dbgToken t x) s fun n => n = m) ∧
  (m.pwr.state ≠ .off →
    After (.dbgNonce t) s fun n => n = { m with
        trust := { m.trust with
            nonces := m.trust.nonces + 1,
            jtagNonce := some ⟨fit 32 (Config.nonce m.trust.nonces), m.now.ns⟩ },
        wire := .jtagNonce (fit 32 (Config.nonce m.trust.nonces)) :: m.wire }) ∧
  (m.pwr.state = .off →
    After (.dbgNonce t) s fun n => n = m) ∧
  (∀ (h : Hdr), Runs m h .challenge →
    After (.challenge t h) s fun n => n = { m with
        ports := n.ports,
        wire := n.wire,
        trust := { m.trust with nonces := m.trust.nonces + 1 } } ∧ Answered m n h .challenge .ok (fit 32 (Config.nonce
      m.trust.nonces)) (fun x => { x with nonce := some ⟨fit 32 (Config.nonce m.trust.nonces), m.now.ns⟩ })) ∧
  (∀ (p : Port),
    After (.nonceExpiry t (some p)) s fun n => n = m.modSess p.val (fun x => { x with
        nonce := x.nonce.filter (fun z => decide (m.now.ns < z.issued + 60000000000)) })) ∧
  (After (.nonceExpiry t none) s fun n => n = { m with
        trust := { m.trust with
            jtagNonce := m.trust.jtagNonce.filter (fun z => decide (m.now.ns < z.issued + 60000000000)) } }) ∧
  (m.trust.debugLevel ≠ 0 → m.trust.debugUntil ≤ m.now.ns →
    After (.debugExpiry t) s fun n => n = { m with trust := { m.trust with debugLevel := 0, debugUntil := 0 } }) ∧
  (m.trust.debugLevel = 0 ∨ m.now.ns < m.trust.debugUntil →
    After (.debugExpiry t) s fun n => n = m) ∧
  (∀ (p : Port) (v : Word), Accepts m p .MOD_DEBUG_STAT 0 v → F.MOD_DEBUG_STAT.RELOCK.of v = 1 →
    After (.debugRelock t p v) s fun n => n = ({ storeReg m .MOD_DEBUG_STAT 0 v with
        trust := { m.trust with debugLevel := 0, debugUntil := 0 } }).emit (okPair p .MOD_DEBUG_STAT 0)) ∧
  (∀ (p : Port) (v : Word), Accepts m p .MOD_DEBUG_STAT 0 v → F.MOD_DEBUG_STAT.RELOCK.of v = 0 →
    After (.debugRelock t p v) s fun n => n = (storeReg m .MOD_DEBUG_STAT 0 v).emit (okPair p .MOD_DEBUG_STAT 0))

/-- R558, R566 to R570, R575 to R578: a chunk is written at its target's write pointer, erasing each sector it enters first; LAST verifies the image or the
configuration's CRC, ACTIVATE activates a verified image while no owner slot is ACTIVE; ATTEST signs a quote for a new nonce. -/
def Obligations.FirmwareChunksAndAttestation : Prop := ∀ (s : State) (t : Stamp) (m : Kz), s.kz.advance t = m →
  (∀ (h : Hdr) (off : Word) (flags : Byte) (data : List Byte), Runs m h (.fwChunk off 0 flags data) → data ≠ [] →
      data.length ≤ 1204 → off.toNat + data.length ≤ fwSize → flags.toNat.testBit 0 = false → flags.toNat.testBit 1 = false
      → off.toNat = m.fw.fwPtr → newSectors off.toNat data.length = [] →
    After (.fwChunkFirmware t h off flags data) s fun n => n = { m with ports := n.ports, wire := n.wire, fw := n.fw } ∧
      n.fw = { m.fw with
        fwPtr := off.toNat + data.length,
        verified := m.fw.verified,
        area0 := n.fw.area0,
        area1 := n.fw.area1 } ∧ areaOf n.fw (slotArea m.fw 0) = areaOf m.fw (slotArea m.fw 0) ∧ targetArea n 0 = (targetArea
      m 0).writes off.toNat data ∧ Answered m n h (.fwChunk off 0 flags data) .ok [] (fun x => x)) ∧
  (∀ (h : Hdr) (off : Word) (flags : Byte) (data : List Byte), Runs m h (.fwChunk off 0 flags data) → data ≠ [] →
      data.length ≤ 1204 → off.toNat + data.length ≤ fwSize → (off.toNat = if flags.toNat.testBit 0 = true then 0 else
      m.fw.fwPtr) → newSectors off.toNat data.length ≠ [] →
    After (.fwChunkFirmware t h off flags data) s fun n => n = { m with ports := n.ports, wire := n.wire, fw := n.fw } ∧
      n.fw = { m.fw with
        fwPtr := off.toNat + data.length,
        verified := if flags.toNat.testBit 0 = true then none else m.fw.verified,
        area0 := n.fw.area0,
        area1 := n.fw.area1 } ∧ areaOf n.fw (slotArea m.fw 0) = areaOf m.fw (slotArea m.fw 0) ∧ targetArea n 0 = Mem.writes
      ((newSectors off.toNat data.length).foldl (fun a i => Mem.clear a (i * 65536) 65536) (targetArea m 0)) off.toNat data
      ∧ n.wire = m.wire ∧ n.port h.port.val = { m.port h.port.val with
        session := { begun m h (.fwChunk off 0 flags data) none with
            running := some {
                seq := h.seq,
                tag := h.tag,
                req := (.fwChunk off 0 flags data),
                via := viaOf m h,
                wait := .erase,
                body := [],
                from_ := 1 } } }) ∧
  (∀ (h : Hdr) (off : Word) (flags : Byte) (data : List Byte), Runs m h (.fwChunk off 0 flags data) → data ≠ [] →
      data.length ≤ 1204 → flags.toNat.testBit 0 = false → off.toNat ≠ m.fw.fwPtr →
    After (.fwChunkFirmware t h off flags data) s fun n => n = { m with ports := n.ports, wire := n.wire } ∧ Answered m n h
      (.fwChunk off 0 flags data) .chunkOffset (Detail.bytes noDetail) (fun x => x)) ∧
  (∀ (h : Hdr) (off : Word) (flags : Byte) (data : List Byte), Runs m h (.fwChunk off 0 flags data) → data = [] ∨ 1204 <
      data.length ∨ (flags.toNat.testBit 0 = false ∧ off.toNat = m.fw.fwPtr ∧ fwSize < off.toNat + data.length) →
    After (.fwChunkFirmware t h off flags data) s fun n => n = { m with ports := n.ports, wire := n.wire } ∧ Answered m n h
      (.fwChunk off 0 flags data) .badValue (Detail.bytes noDetail) (fun x => x)) ∧
  (∀ (h : Hdr) (off : Word) (flags : Byte) (data : List Byte), Runs m h (.fwChunk off 0 flags data) → data ≠ [] →
      data.length ≤ 1204 → off.toNat + data.length ≤ fwSize → flags.toNat.testBit 0 = false → flags.toNat.testBit 1 = true →
      flags.toNat.testBit 2 = false → off.toNat = m.fw.fwPtr → newSectors off.toNat data.length = [] →
    After (.fwChunkFirmware t h off flags data) s fun n => n = { m with ports := n.ports, wire := n.wire, fw := n.fw } ∧
      targetArea n 0 = (targetArea m 0).writes off.toNat data ∧ n.fw.fwPtr = off.toNat + data.length ∧ (if (verifyArea
      (targetArea n 0)).valid = false then n.fw.verified = m.fw.verified ∧ Answered m n h (.fwChunk off 0 flags data)
      .imageInvalid (Detail.bytes noDetail) (fun x => x) else if (verifyArea (targetArea n 0)).sv < m.trust.counter then
      n.fw.verified = m.fw.verified ∧ Answered m n h (.fwChunk off 0 flags data) .rollback (Detail.bytes noDetail) (fun x =>
      x) else n.fw.verified = some (verifyArea (targetArea n 0)) ∧ Answered m n h (.fwChunk off 0 flags data) .ok (imageBody
      (verifyArea (targetArea n 0))) (fun x => x))) ∧
  (∀ (h : Hdr) (off : Word) (flags : Byte) (data : List Byte), Runs m h (.fwChunk off 1 flags data) → data ≠ [] →
      data.length ≤ 1204 → off.toNat + data.length ≤ cfgSize → flags.toNat.testBit 0 = false → flags.toNat.testBit 1 = false
      → off.toNat = m.fw.cfgPtr → newSectors off.toNat data.length = [] →
    After (.fwChunkConfiguration t h off flags data) s fun n => n = { m with
        ports := n.ports,
        wire := n.wire,
        fw := { m.fw with cfgPtr := off.toNat + data.length, cfgArea := m.fw.cfgArea.writes off.toNat data } } ∧ Answered m
      n h (.fwChunk off 1 flags data) .ok [] (fun x => x)) ∧
  (∀ (h : Hdr) (off : Word) (flags : Byte) (data : List Byte), Runs m h (.fwChunk off 1 flags data) → data ≠ [] →
      data.length ≤ 1204 → off.toNat + data.length ≤ cfgSize → (off.toNat = if flags.toNat.testBit 0 = true then 0 else
      m.fw.cfgPtr) → newSectors off.toNat data.length ≠ [] →
    After (.fwChunkConfiguration t h off flags data) s fun n => n = { m with
        ports := n.ports,
        wire := n.wire,
        fw := { m.fw with
            cfgPtr := off.toNat + data.length,
            cfgArea := Mem.writes ((newSectors off.toNat data.length).foldl (fun a i => Mem.clear a (i * 65536) 65536)
              (targetArea m 1)) off.toNat data } } ∧ n.wire = m.wire ∧ n.port h.port.val = { m.port h.port.val with
        session := { begun m h (.fwChunk off 1 flags data) none with
            running := some {
                seq := h.seq,
                tag := h.tag,
                req := (.fwChunk off 1 flags data),
                via := viaOf m h,
                wait := .erase,
                body := [],
                from_ := 1 } } }) ∧
  (∀ (h : Hdr) (off : Word) (flags : Byte) (data : List Byte), Runs m h (.fwChunk off 1 flags data) → data ≠ [] →
      data.length ≤ 1204 → off.toNat + data.length ≤ cfgSize → flags.toNat.testBit 0 = false → flags.toNat.testBit 1 = true
      → off.toNat = m.fw.cfgPtr → newSectors off.toNat data.length = [] →
    After (.fwChunkConfiguration t h off flags data) s fun n => n = { m with
        ports := n.ports,
        wire := n.wire,
        fw := { m.fw with cfgPtr := off.toNat + data.length, cfgArea := m.fw.cfgArea.writes off.toNat data } } ∧ Answered m
      n h (.fwChunk off 1 flags data) (if 4 ≤ off.toNat + data.length ∧ n.fw.cfgArea.word (off.toNat + data.length - 4) 4 =
      crc32c (n.fw.cfgArea.reads 0 (off.toNat + data.length - 4)) then .ok else .badValue) (if 4 ≤ off.toNat + data.length ∧
      n.fw.cfgArea.word (off.toNat + data.length - 4) 4 = crc32c (n.fw.cfgArea.reads 0 (off.toNat + data.length - 4)) then
      [] else (Detail.bytes noDetail)) (fun x => x)) ∧
  (∀ (h : Hdr) (off : Word) (flags : Byte) (data : List Byte), Runs m h (.fwChunk off 1 flags data) → data ≠ [] →
      data.length ≤ 1204 → flags.toNat.testBit 0 = false → off.toNat ≠ m.fw.cfgPtr →
    After (.fwChunkConfiguration t h off flags data) s fun n => n = { m with ports := n.ports, wire := n.wire } ∧ Answered m
      n h (.fwChunk off 1 flags data) .chunkOffset (Detail.bytes noDetail) (fun x => x)) ∧
  (∀ (h : Hdr) (off : Word) (first : Bool) (data : List Byte), (Runs m h (.fwChunk off 0 (if first = true then 7 else 6)
      data)) → data ≠ [] → data.length ≤ 1204 → off.toNat + data.length ≤ fwSize → first = false → off.toNat = m.fw.fwPtr →
      newSectors off.toNat data.length = [] → m.trust.owner0.state ≠ .active ∧ m.trust.owner1.state ≠ .active → m.pwr.state
      = .recovery ∨ m.regionsBusy = false →
    After (.fwChunkActivate t h off first data) s fun n => n = { m with ports := n.ports, wire := n.wire, fw := n.fw } ∧
      areaOf n.fw (slotArea m.fw 1) = (targetArea m 0).writes off.toNat data ∧ (if (verifyArea ((targetArea m 0).writes
      off.toNat data)).valid = false then n.fw.verified = m.fw.verified ∧ Answered m n h (.fwChunk off 0 (if first = true
      then 7 else 6) data) .imageInvalid (Detail.bytes noDetail) (fun x => x) else if (verifyArea ((targetArea m 0).writes
      off.toNat data)).sv < m.trust.counter then n.fw.verified = m.fw.verified ∧ Answered m n h (.fwChunk off 0 (if first =
      true then 7 else 6) data) .rollback (Detail.bytes noDetail) (fun x => x) else n.fw.verified = some (verifyArea
      ((targetArea m 0).writes off.toNat data)) ∧ n.fw = { m.fw with
        fwPtr := off.toNat + data.length,
        verified := some (verifyArea ((targetArea m 0).writes off.toNat data)),
        area0 := n.fw.area0,
        area1 := n.fw.area1,
        block0 := n.fw.block0,
        block1 := n.fw.block1,
        activationDue := some (m.now.ns + 100000000) } ∧ bootBlock n.fw = ⟨(bootBlock m.fw).seq + 1, 1 - (bootBlock
      m.fw).areaA, true, (bootBlock m.fw).qspi⟩ ∧ Answered m n h (.fwChunk off 0 (if first = true then 7 else 6) data) .ok
      (imageBody (verifyArea ((targetArea m 0).writes off.toNat data))) (fun x => x))) ∧
  (∀ (h : Hdr) (off : Word) (first : Bool) (data : List Byte), (Runs m h (.fwChunk off 0 (if first = true then 7 else 6)
      data)) → data ≠ [] → data.length ≤ 1204 → off.toNat + data.length ≤ fwSize → first = false → off.toNat = m.fw.fwPtr →
      newSectors off.toNat data.length = [] → m.trust.owner0.state = .active ∨ m.trust.owner1.state = .active →
    After (.fwChunkActivate t h off first data) s fun n => n = { m with ports := n.ports, wire := n.wire, fw := n.fw } ∧
      areaOf n.fw (slotArea m.fw 1) = (targetArea m 0).writes off.toNat data ∧ (if (verifyArea ((targetArea m 0).writes
      off.toNat data)).valid = false then n.fw.verified = m.fw.verified ∧ Answered m n h (.fwChunk off 0 (if first = true
      then 7 else 6) data) .imageInvalid (Detail.bytes noDetail) (fun x => x) else if (verifyArea ((targetArea m 0).writes
      off.toNat data)).sv < m.trust.counter then n.fw.verified = m.fw.verified ∧ Answered m n h (.fwChunk off 0 (if first =
      true then 7 else 6) data) .rollback (Detail.bytes noDetail) (fun x => x) else n.fw.verified = some (verifyArea
      ((targetArea m 0).writes off.toNat data)) ∧ n.fw = { m.fw with
        fwPtr := off.toNat + data.length,
        verified := some (verifyArea ((targetArea m 0).writes off.toNat data)),
        area0 := n.fw.area0,
        area1 := n.fw.area1 } ∧ Answered m n h (.fwChunk off 0 (if first = true then 7 else 6) data) .ownerRequired
      (Detail.bytes noDetail) (fun x => x))) ∧
  (∀ (h : Hdr) (off : Word) (data : List Byte), Runs m h (.fwChunk off 0 7 data) → data ≠ [] → data.length ≤ 1204 → off = 0
      →
    After (.fwChunkActivate t h off true data) s fun n => n = { m with ports := n.ports, wire := n.wire, fw := n.fw } ∧ n.fw
      = { m.fw with fwPtr := off.toNat + data.length, verified := none, area0 := n.fw.area0, area1 := n.fw.area1 } ∧ areaOf
      n.fw (slotArea m.fw 0) = areaOf m.fw (slotArea m.fw 0) ∧ n.wire = m.wire ∧ n.port h.port.val = { m.port h.port.val with
        session := { begun m h (.fwChunk off 0 7 data) none with
            running := some {
                seq := h.seq,
                tag := h.tag,
                req := (.fwChunk off 0 7 data),
                via := viaOf m h,
                wait := .erase,
                body := [],
                from_ := 1 } } }) ∧
  (∀ (p : Port) (q : Running) (off : Word) (target flags : Byte) (data : List Byte), Quiet m → (m.port
      p.val).session.running = some q → q.req = .fwChunk off target flags data → q.wait = .erase → q.from_ = 1 → q.body = []
      → flags.toNat.testBit 1 = false → (m.port p.val).session.isOpen = true → 0x30 ≤ (m.port p.val).session.version.toNat →
      (m.pwr.state = .recovery ∨ covers (m.port p.val).session.leases .module = true) → (∀ x : Nat, x < 4 → x ≠ p.val →
      (m.port x).session.running = none) → (∀ x : Nat, x < 4 → (m.port x).orphans = []) →
    After (.sectorEraseDone t) s fun n => n = { m with ports := n.ports, wire := n.wire } ∧ .response p.val ⟨q.via, (m.port
      p.val).session.version.toNat, (m.port p.val).sessionId.toNat⟩ q.seq.toNat q.tag.toNat 0x62 .ok [] false ∈ n.wire ∧
      (n.port p.val).session.running = none) ∧
  (Quiet m → Idle m →
    After (.sectorEraseDone t) s fun n => n = m) ∧
  (∀ (h : Hdr) (nonce : List Byte) (obj part : Byte), Runs m h (.attest nonce obj part) → m.trust.identOk = true → obj = 0 →
      (sess m h).quote = none ∨ (sess m h).quote.map (fun x => x.2) ≠ some nonce →
    After (.attest t h nonce obj part) s fun n => n = { m with ports := n.ports, wire := n.wire } ∧ (if (part.toNat <
      ((quoteOf m nonce).length + 1199) / 1200) then Answered m n h (.attest nonce obj part) .ok (be 4 (quoteOf m
      nonce).length ++ be 1 (((quoteOf m nonce).length + 1199) / 1200) ++ be 3 0 ++ slice (quoteOf m nonce) (1200 *
      part.toNat) 1200) (fun x => { x with quote := some (quoteOf m nonce, nonce) }) else Answered m n h (.attest nonce obj
      part) .badValue (Detail.bytes noDetail) (fun x => { x with quote := some (quoteOf m nonce, nonce) }))) ∧
  (∀ (h : Hdr) (nonce : List Byte) (obj part : Byte) (q : List Byte), Runs m h (.attest nonce obj part) → m.trust.identOk =
      true → obj = 0 ∧ (sess m h).quote = some (q, nonce) ∨ obj = 1 ∧ q = fit 5377 Config.certificate →
    After (.attest t h nonce obj part) s fun n => n = { m with ports := n.ports, wire := n.wire } ∧ (if part.toNat <
      (q.length + 1199) / 1200 then Answered m n h (.attest nonce obj part) .ok (be 4 q.length ++ be 1 ((q.length + 1199) /
      1200) ++ be 3 0 ++ slice q (1200 * part.toNat) 1200) (fun x => x) else Answered m n h (.attest nonce obj part)
      .badValue (Detail.bytes noDetail) (fun x => x))) ∧
  (∀ (h : Hdr) (nonce : List Byte) (obj part : Byte), Runs m h (.attest nonce obj part) → m.trust.identOk = false ∨ 1 <
      obj.toNat →
    After (.attest t h nonce obj part) s fun n => n = { m with ports := n.ports, wire := n.wire } ∧ Answered m n h (.attest
      nonce obj part) (if m.trust.identOk = false then .identFault else .badValue) (Detail.bytes noDetail) (fun x => x))

/-- R523, R524, R528 to R532: where a request or a malformed message arrives, the session, its tags and its sequence numbers decide whether it is placed,
answered again, rejected or discarded and counted. -/
def Obligations.RequestsJudged : Prop := ∀ (s : State) (t : Stamp) (m : Kz), s.kz.advance t = m →
  (∀ (h : Hdr), answers m h.port.val = true → (sess m h).isOpen = false → MayReject m h.port.val →
    After (.nop t h) s fun n => Rejected m n h (cmdCode .nop) .noSession) ∧
  (∀ (h : Hdr), answers m h.port.val = true → (sess m h).isOpen = true → h.version ≠ (sess m h).version → h.origin = (sess m
      h).origin → h.session = (m.port h.port.val).sessionId → MayReject m h.port.val →
    After (.nop t h) s fun n => Rejected m n h (cmdCode .nop) .malformed) ∧
  (∀ (h : Hdr), answers m h.port.val = true → (sess m h).isOpen = true → h.version = (sess m h).version → h.origin ≠ (sess m
      h).origin → MayReject m h.port.val →
    After (.nop t h) s fun n => Rejected m n h (cmdCode .nop) .sessionBusy) ∧
  (∀ (h : Hdr), answers m h.port.val = true → (sess m h).isOpen = true → h.version = (sess m h).version → h.origin = (sess m
      h).origin → h.session ≠ (m.port h.port.val).sessionId →
    After (.nop t h) s fun n => n = m.count .HOST_LATE h.port.val 1) ∧
  (∀ (h : Hdr), answers m h.port.val = false →
    After (.nop t h) s fun n => n = m) ∧
  (∀ (h : Hdr) (a : Resp), answers m h.port.val = true → (sess m h).isOpen = true → (sess m h).version = h.version → (sess m
      h).origin = h.origin → (m.port h.port.val).sessionId = h.session → (sess m h).tags.find? (fun y => y.tag = h.tag) =
      some ⟨h.tag, h.seq, digestOf .nop, some a⟩ →
    After (.nop t h) s fun n => n = { m with
        ports := n.ports,
        stats := (m.count .HOST_DUPLICATE h.port.val 1).stats,
        wire := .response h.port.val (answerHead m h) h.seq.toNat h.tag.toNat a.cmd a.status a.body true :: m.wire } ∧
      n.port h.port.val = { m.port h.port.val with session := { sess m h with timer := m.now.ns } } ∧ (∀ y : Nat, y < 4 → y
      ≠ h.port.val → n.port y = m.port y)) ∧
  (∀ (h : Hdr), answers m h.port.val = true → (sess m h).isOpen = true → (sess m h).version = h.version → (sess m h).origin
      = h.origin → (m.port h.port.val).sessionId = h.session → (sess m h).tags.find? (fun y => y.tag = h.tag) = some ⟨h.tag,
      h.seq, digestOf .nop, none⟩ →
    After (.nop t h) s fun n => n = { m with ports := n.ports, stats := (m.count .HOST_DUPLICATE h.port.val 1).stats } ∧
      n.port h.port.val = { m.port h.port.val with session := { sess m h with timer := m.now.ns } } ∧ (∀ y : Nat, y < 4 → y
      ≠ h.port.val → n.port y = m.port y)) ∧
  (∀ (h : Hdr) (q : TagRec), answers m h.port.val = true → (sess m h).isOpen = true → (sess m h).version = h.version → (sess
      m h).origin = h.origin → (m.port h.port.val).sessionId = h.session → (sess m h).tags.find? (fun y => y.tag = h.tag) =
      some q → (q.seq = h.seq ∧ q.digest ≠ digestOf .nop) ∨ (q.seq ≠ h.seq ∧ (h.seq - (sess m h).h).toNat < 64) → MayReject
      m h.port.val →
    After (.nop t h) s fun n => Rejected (m.modSess h.port.val (fun y => { y with timer := m.now.ns })) n h (cmdCode .nop)
      .tagConflict) ∧
  (∀ (h : Hdr), answers m h.port.val = true → (sess m h).isOpen = true → (sess m h).version = h.version → (sess m h).origin
      = h.origin → (m.port h.port.val).sessionId = h.session → (∀ y ∈ (sess m h).tags, y.tag = h.tag → y.seq ≠ h.seq) → 64 ≤
      (h.seq - (sess m h).h).toNat → (h.seq - (sess m h).h).toNat < 32768 → MayReject m h.port.val →
    After (.nop t h) s fun n => Rejected (m.modSess h.port.val (fun y => { y with timer := m.now.ns })) n h (cmdCode .nop)
      .seqWindow) ∧
  (∀ (h : Hdr), answers m h.port.val = true → (sess m h).isOpen = true → (sess m h).version = h.version → (sess m h).origin
      = h.origin → (m.port h.port.val).sessionId = h.session → (∀ y ∈ (sess m h).tags, y.tag = h.tag → y.seq ≠ h.seq) →
      32768 ≤ (h.seq - (sess m h).h).toNat →
    After (.nop t h) s fun n => n = m.count .HOST_LATE h.port.val 1) ∧
  (∀ (h : Hdr), answers m h.port.val = true → (sess m h).isOpen = true → (sess m h).version = h.version → (sess m h).origin
      = h.origin → (m.port h.port.val).sessionId = h.session → (∀ y ∈ (sess m h).tags, y.tag ≠ h.tag) → (h.seq - (sess m
      h).h).toNat < 64 → (∃ y ∈ (sess m h).slots, y.seq = h.seq) → MayReject m h.port.val →
    After (.nop t h) s fun n => Rejected (m.modSess h.port.val (fun y => { y with timer := m.now.ns })) n h (cmdCode .nop)
      .seqConflict) ∧
  (∀ (h : Hdr), Quiet m → answers m h.port.val = true → (sess m h).isOpen = true → (sess m h).version = h.version → (sess m
      h).origin = h.origin → (m.port h.port.val).sessionId = h.session → (∀ y ∈ (sess m h).tags, y.tag ≠ h.tag) → (h.seq -
      (sess m h).h).toNat < 64 → h.seq ≠ (sess m h).h →
    After (.nop t h) s fun n => n = { m with ports := n.ports } ∧ n.port h.port.val = { m.port h.port.val with
        session := { sess m h with
            timer := m.now.ns,
            slots := [⟨h.seq, h.tag, .nop, viaOf m h⟩],
            tags := (sess m h).tags ++ [⟨h.tag, h.seq, digestOf .nop, none⟩],
            gapSince := some m.now.ns } } ∧ (∀ y : Nat, y < 4 → y ≠ h.port.val → n.port y = m.port y)) ∧
  (∀ (h : Hdr) (code : BitVec 16), answers m h.port.val = true → (sess m h).isOpen = true → (sess m h).origin = h.origin →
      (m.port h.port.val).sessionId = h.session → MayReject m h.port.val →
    After (.malformedMessage t ⟨h, code⟩) s fun n => Rejected m n h code.toNat .malformed) ∧
  (∀ (h : Hdr) (code : BitVec 16), answers m h.port.val = true → (sess m h).isOpen = false ∨ (sess m h).origin ≠ h.origin ∨
      (m.port h.port.val).sessionId ≠ h.session →
    After (.malformedMessage t ⟨h, code⟩) s fun n => n = m.count .HOST_LATE h.port.val 1) ∧
  (∀ (h : Hdr) (code : BitVec 16), answers m h.port.val = true → (sess m h).isOpen = true → (sess m h).origin = h.origin →
      (m.port h.port.val).sessionId = h.session → (m.port h.port.val).rejSecond = m.now.ns / 1000000000 → m.fld
      F.HOST_CFG.REJ_RATE 0 ≤ (m.port h.port.val).rejSent →
    After (.malformedMessage t ⟨h, code⟩) s fun n => n.stats = (m.count .HOST_REJECT h.port.val 1).stats ∧ n.wire = m.wire)

/-- R518, R519, R524, R526, R530, R533, R541, R542, R546, R547: an acknowledgement frees what it covers; a silent session is reset, a slot that stays empty is
skipped, notifications are sent again; the network side of a port answers, drops and counts. -/
def Obligations.PortsAndAcknowledgements : Prop := ∀ (s : State) (t : Stamp) (m : Kz), s.kz.advance t = m →
  (∀ (h : Hdr) (a : Option (BitVec 16)) (x : Option Word), Quiet m → answers m h.port.val = true → (sess m h).isOpen = true
      → (sess m h).version = h.version → (sess m h).origin = h.origin → (m.port h.port.val).sessionId = h.session →
    After (.acknowledgement t h a x) s fun n => n = { m with ports := n.ports } ∧ n.port h.port.val = { m.port h.port.val with
        session := { sess m h with
            timer := m.now.ns,
            tags := a.elim (sess m h).tags (fun b => (sess m h).tags.filter (fun y => !(y.resp.isSome && decide ((b -
              y.seq).toNat < 128)))),
            notifs := x.elim (sess m h).notifs (fun b => (sess m h).notifs.filter (fun y => !decide ((b - y.num).toNat < 2 ^
              31))) } } ∧ (∀ y : Nat, y < 4 → y ≠ h.port.val → n.port y = m.port y)) ∧
  (∀ (h : Hdr) (a : Option (BitVec 16)) (x : Option Word), answers m h.port.val = true → (sess m h).isOpen = false →
    After (.acknowledgement t h a x) s fun n => n = m.count .HOST_LATE h.port.val 1) ∧
  (∀ (h : Hdr) (a : Option (BitVec 16)) (x : Option Word), answers m h.port.val = true → (sess m h).isOpen = true → (sess m
      h).version = h.version → (sess m h).origin = h.origin → (m.port h.port.val).sessionId ≠ h.session →
    After (.acknowledgement t h a x) s fun n => n = m.count .HOST_LATE h.port.val 1) ∧
  (∀ (h : Hdr) (a : Option (BitVec 16)) (x : Option Word), answers m h.port.val = true → (sess m h).isOpen = true → (sess m
      h).version = h.version → (sess m h).origin ≠ h.origin → MayReject m h.port.val →
    After (.acknowledgement t h a x) s fun n => Rejected m n h 0 .sessionBusy) ∧
  (∀ (p : Port), (m.port p.val).session.isOpen = true → (m.port p.val).session.timer + (m.port p.val).session.timeout *
      1000000000 ≤ m.now.ns →
    After (.sessionTimeout t p) s fun n => n = { m with
        ports := n.ports,
        log := n.log,
        regs := { m.regs with seen := n.regs.seen, setIn := n.regs.setIn } } ∧ n.seen F.HOST_PORT_STAT.TIMEOUT_SEEN p.val =
      1 ∧ (n.port p.val).session = {} ∧ (n.port p.val).sessionId = (m.port p.val).sessionId ∧ (n.port p.val).orphans =
      (m.port p.val).orphans ++ ((m.port p.val).session.running.map (fun q => (q, (m.port p.val).session.leases))).toList ∧
      (∀ y : Nat, y < 4 → y ≠ p.val → n.port y = m.port y) ∧ n.log.entries.head?.map (fun z => (z.code, z.kind, z.idx)) =
      some (0x0501, 5, p.val)) ∧
  (∀ (p : Port), (m.port p.val).session.isOpen = false ∨ m.now.ns < (m.port p.val).session.timer + (m.port
      p.val).session.timeout * 1000000000 →
    After (.sessionTimeout t p) s fun n => n = m) ∧
  (∀ (p : Port) (g : Nat), m.now.ns ≥ g + m.fld F.HOST_CFG.GAP_MS 0 * 1000000 → m.fld F.HOST_CFG.GAP_MS 0 ≠ 0 → (m.port
      p.val).session.gapSince = some g → (m.port p.val).session.isOpen = true → (m.port p.val).session.slots ≠ [] → (∀ y ∈
      (m.port p.val).session.slots, y.seq ≠ (m.port p.val).session.h + 1) → (∀ y : Nat, y < 4 → y ≠ p.val → (m.port
      y).session.slots = [] ∧ (m.port y).session.gapSince = none) → (m.port p.val).session.version ≠ 0x32 ∨ (m.port
      p.val).session.mask.toNat.testBit 7 = false →
    After (.seqGapSkip t p) s fun n => n = { m with ports := n.ports, stats := (m.count .HOST_GAP_SKIP p.val 1).stats } ∧
      n.port p.val = { m.port p.val with
        session := { (m.port p.val).session with h := (m.port p.val).session.h + 1, gapSince := some m.now.ns } } ∧ (∀ y :
      Nat, y < 4 → y ≠ p.val → n.port y = m.port y)) ∧
  (∀ (p : Port) (g : Nat), m.now.ns ≥ g + m.fld F.HOST_CFG.GAP_MS 0 * 1000000 → m.fld F.HOST_CFG.GAP_MS 0 ≠ 0 → (m.port
      p.val).session.gapSince = some g → (m.port p.val).session.isOpen = true → (m.port p.val).session.slots ≠ [] → (∀ y ∈
      (m.port p.val).session.slots, y.seq ≠ (m.port p.val).session.h + 1) → (∀ y : Nat, y < 4 → y ≠ p.val → (m.port
      y).session.slots = [] ∧ (m.port y).session.gapSince = none) → (m.port p.val).session.version = 0x32 → (m.port
      p.val).session.mask.toNat.testBit 7 = true → (m.port p.val).session.notifs.length < 64 →
    After (.seqGapSkip t p) s fun n => n = { m with
        ports := n.ports,
        stats := (m.count .HOST_GAP_SKIP p.val 1).stats,
        wire := .notification p.val (m.headOf p.val) 7 (Kz.notifBody (m.port p.val).session.nextNotif.toNat m.datum (m.port
          p.val).session.lost 6 (m.port p.val).session.h.toNat []) false :: m.wire } ∧ n.port p.val = { m.port p.val with
        session := { (m.port p.val).session with
            h := (m.port p.val).session.h + 1,
            gapSince := some m.now.ns,
            lost := false,
            nextNotif := Kz.nextNum (m.port p.val).session.nextNotif,
            notifs := (m.port p.val).session.notifs ++ [⟨(m.port p.val).session.nextNotif, (Kz.notifBody (m.port
              p.val).session.nextNotif.toNat m.datum (m.port p.val).session.lost 6 (m.port p.val).session.h.toNat []), 7,
              m.now.ns⟩] } } ∧ (∀ y : Nat, y < 4 → y ≠ p.val → n.port y = m.port y)) ∧
  (∀ (p : Port), (m.port p.val).session.gapSince = none ∨ (m.port p.val).session.isOpen = false ∨ m.fld F.HOST_CFG.GAP_MS 0
      = 0 →
    After (.seqGapSkip t p) s fun n => n = m) ∧
  (∀ (p : Port) (due : List Notif), (m.port p.val).session.isOpen = true → 0x30 ≤ (m.port p.val).session.version.toNat → due
      = (m.port p.val).session.notifs.filter (fun y => decide (y.sent + max 1 (m.fld F.HOST_CFG.NOTIF_RETRY 0) * 10000000 ≤
      m.now.ns)) →
    After (.notificationResend t p) s fun n => n = { m with
        ports := n.ports,
        wire := (due.map (fun y => Emission.notification p.val (m.headOf p.val) y.code y.body true)).reverse ++ m.wire } ∧
      n.port p.val = { m.port p.val with
        session := { (m.port p.val).session with
            notifs := (m.port p.val).session.notifs.map (fun y => if y ∈ due then { y with sent := m.now.ns } else y) } } ∧
      (∀ y : Nat, y < 4 → y ≠ p.val → n.port y = m.port y)) ∧
  (∀ (p : Port), answers m p.val = true →
    After (.hostFrameDrop t p) s fun n => n = m.count .HOST_FRAME_DROP p.val 1) ∧
  (∀ (p : Port) (v6 : Bool), answers m p.val = true →
    After (.neighbourRequest t p v6) s fun n => n = m.emit (.neighbourReply p.val v6 (macOf p.val)) ∧ (macOf p.val).getLsbD
      41 = true ∧ (macOf p.val).getLsbD 40 = false) ∧
  (∀ (p : Port) (v6 : Bool), answers m p.val = true → (m.port p.val).echoSecond ≠ m.now.ns / 1000000000 ∨ (m.port
      p.val).echoSent < 10 →
    After (.icmpEcho t p v6) s fun n => n = { m with ports := n.ports, wire := .echoReply p.val v6 :: m.wire } ∧ n.port
      p.val = { m.port p.val with
        echoSecond := m.now.ns / 1000000000,
        echoSent := (if (m.port p.val).echoSecond = m.now.ns / 1000000000 then (m.port p.val).echoSent else 0) + 1 } ∧ (∀ y
      : Nat, y < 4 → y ≠ p.val → n.port y = m.port y)) ∧
  (∀ (p : Port) (v6 : Bool), answers m p.val = true → (m.port p.val).echoSecond = m.now.ns / 1000000000 → 10 ≤ (m.port
      p.val).echoSent →
    After (.icmpEcho t p v6) s fun n => n = m) ∧
  (∀ (p : Port), (m.port p.val).link = true →
    After (.hostLinkLoss t p) s fun n => n = { m with
        ports := n.ports,
        regs := { m.regs with seen := n.regs.seen, setIn := n.regs.setIn } } ∧ n.port p.val = { m.port p.val with
        link := false } ∧ n.seen F.HOST_PORT_STAT.LINK_DOWN_SEEN p.val = 1 ∧ (∀ y : Nat, y < 4 → y ≠ p.val → n.port y =
      m.port y)) ∧
  (∀ (p : Port), m.pwr.state ≠ .off →
    After (.hostLinkLock t p) s fun n => n = { m with ports := n.ports } ∧ n.port p.val = { m.port p.val with link := true }
      ∧ (∀ y : Nat, y < 4 → y ≠ p.val → n.port y = m.port y)) ∧
  (∀ (p q : Port) (v : Word), Accepts m p .HOST_PORT_CFG q v → (m.port q.val).session.isOpen = true → (storeReg m
      .HOST_PORT_CFG q v).cfgWord .HOST_PORT_CFG q ≠ m.cfgWord .HOST_PORT_CFG q →
    After (.hostPortCfgWrite t p q v) s fun n => n = { storeReg m .HOST_PORT_CFG q.val v with
        ports := n.ports,
        log := n.log,
        wire := okPair p .HOST_PORT_CFG q.val :: m.wire } ∧ (n.port q.val).session = {} ∧ (n.port q.val).orphans = (m.port
      q.val).orphans ++ ((m.port q.val).session.running.map (fun z => (z, (m.port q.val).session.leases))).toList ∧ (∀ y :
      Nat, y < 4 → y ≠ q.val → n.port y = m.port y) ∧ n.log.entries.head?.map (fun z => (z.code, z.kind, z.idx)) = some
      (0x0501, 5, q.val)) ∧
  (∀ (p q : Port) (v : Word), Accepts m p .HOST_PORT_CFG q v → (storeReg m .HOST_PORT_CFG q v).cfgWord .HOST_PORT_CFG q =
      m.cfgWord .HOST_PORT_CFG q →
    After (.hostPortCfgWrite t p q v) s fun n => n = (storeReg m .HOST_PORT_CFG q.val v).emit (okPair p .HOST_PORT_CFG
      q.val))

/-- A step is the command at the front of the queue, run on the block with the queue's rest; a command never touches the queue and always answers a next
state; with no command waiting the block idles (assumption 3: the model's choice). -/
def Obligations.StepRunsTheFront : Prop :=
  (∀ (c : Instr) (r : List Instr) (s : State), s.pending = c :: r → step s = exec c { s with pending := r }) ∧
  (∀ (c : Instr) (s : State), ∃ n : Kz, exec c s = .next { s with kz := n }) ∧
  ∀ s : State, s.pending = [] → step s = .next s


/-- R8, R524, R534, R718, R755: a register write reaches its register only from an open session of a powered module; without a covering lease, where it would
change a locked field, or where its register's check refuses the value, it answers that status and changes nothing. -/
def Obligations.RegisterRowsRefused : Prop :=
  ∀ (s : State) (t : Stamp) (m : Kz) (p : Port) (v : Word) (k : Rgn) (c : Chan) (x : Fin 2) (y : Fin 32) (z : Fin 24) (q : Port),
    s.kz.advance t = m →
  (∀ r ∈ ([(.hostEpoch t p v, .TIM_EPOCH_STAT, 0), (.tlCfgWrite t p v, .TIM_TL_CFG, 0), (.ovenSetpointWrite t p v, .TIM_OVEN, 0),
     (.hearthTrimWrite t p v, .TIM_HEARTH_TRIM, 0), (.xqStatClr t p k v, .RGN_XQ_STAT, k.val), (.stepNow t p c v, .CH_CONV_CTRL, c.val),
     (.sliceHealthWrite t p c v, .CH_SLICE_HEALTH, c.val), (.blFreezeWrite t p c v, .CH_CHAIN_CTRL, c.val), (.arm t p c v, .CH_TRIG_CTRL, c.val),
     (.softTrig t p k v, .RGN_SOFT_TRIG, k.val), (.accqHighWaterClr t p k v, .RGN_ACCQ_STAT, k.val), (.avgClr t p k v, .RGN_ACC_CLR, k.val),
     (.histClr t p k v, .RGN_ACC_CLR, k.val), (.mapClr t p x v, .MOD_MAP_CTRL, x.val), (.laneEnWrite t p k v, .RGN_RO_CTRL, k.val),
     (.laneTestEnWrite t p k v, .RGN_RO_TEST, k.val), (.laneRetrain t p k v, .RGN_RO_CTRL, k.val), (.damperWrite t p k v, .RGN_DAMPER, k.val),
     (.tiuCfgWrite t p y false v, .TIM_TIU_CFG, y.val), (.tiuCfgWrite t p y true v, .TIM_TIU_WIN, y.val), (.tiuArm t p v, .TIM_TIU_ARM, 0),
     (.freqStart t p v, .TIM_FREQ_CFG, 0), (.freqCfgWrite t p v, .TIM_FREQ_CFG, 0), (.snsCfgWrite t p z v, .SNS_CFG, z.val),
     (.hkRunStart t p v, .HK_CTRL, 0), (.hkRunStop t p v, .HK_CTRL, 0), (.hkRestart t p v, .HK_CTRL, 0),
     (.hkRefWrite t p v, .HK_CTRL, 0), (.hkUrgent t p v, .HK_URGENT, 0), (.vinMinClr t p v, .MOD_VIN, 0),
     (.railTargetWrite t p k v, .RGN_RAIL, k.val), (.fatalReset t p v, .MOD_ERR_CTRL, 0), (.statTimerWrite t p v, .MOD_STAT_CTRL, 0),
     (.dsiEnable t p v, .DSI_CTRL, 0), (.dsiDisable t p v, .DSI_CTRL, 0), (.dsiComposeFlip t p v, .DSI_COMMIT, 0),
     (.dsiCompose t p v, .DSI_COMMIT, 0), (.dsiFlip t p v, .DSI_COMMIT, 0), (.debugRelock t p v, .MOD_DEBUG_STAT, 0),
     (.hostPortCfgWrite t p q v, .HOST_PORT_CFG, q.val)] : List (Instr × RegKind × Nat)),
    ((m.port p).session.isOpen = false ∨ powered m.pwr.state = false → After r.1 s fun n => n = m) ∧
    (Reaches m p r.2.1 r.2.2 →
      (covers (m.port p).session.leases (leaseFor (r.2.1.addr r.2.2)) = false →
        After r.1 s fun n => n = m.emit (.pairStatus p (r.2.1.addr r.2.2) .noLease ⟨3, 0⟩)) ∧
      (covers (m.port p).session.leases (leaseFor (r.2.1.addr r.2.2)) = true → lockedOut m r.2.1 r.2.2 v = true →
        After r.1 s fun n => n = m.emit (.pairStatus p (r.2.1.addr r.2.2) .locked ⟨3, 0⟩)) ∧
      ∀ st : Status, covers (m.port p).session.leases (leaseFor (r.2.1.addr r.2.2)) = true → lockedOut m r.2.1 r.2.2 v = false →
        regCheck m r.2.1 r.2.2 v = some st → r.2.1 ≠ .HK_URGENT → r.2.1 ≠ .DSI_COMMIT →
        After r.1 s fun n => n = m.emit (.pairStatus p (r.2.1.addr r.2.2) st ⟨3, 0⟩))) ∧
  ∀ r ∈ ([.datumLatchRead t p, .xingLatchRead t p, .tiuStatRead t p y, .freqStatRead t p, .snsStatRead t p z, .dsiFlipRead t p] : List Instr),
    (m.port p).session.isOpen = false ∨ powered m.pwr.state = false → After r s fun n => n = m


/-- R639: a statistics counter counts its events up to 0xFFFF_FFFF, holds there, and has SAT set from reaching that value; no other counter, and nothing
else, changes. -/
def Obligations.CountersHold : Prop :=
  ∀ (m : Kz) (k : RegKind) (i e : Nat), m.counter k i < 2 ^ 32 →
    (m.count k i e).counter k i = min 0xFFFFFFFF (m.counter k i + e) ∧
    (0 < e → 0xFFFFFFFF ≤ m.counter k i + e → (Sparse.get ({} : Counter) (m.count k i e).stats.live (k.addr i)).sat = true) ∧
    (m.counter k i + e < 0xFFFFFFFF → (Sparse.get ({} : Counter) (m.count k i e).stats.live (k.addr i)).sat =
      (Sparse.get ({} : Counter) m.stats.live (k.addr i)).sat) ∧
    (∀ a : Nat, a ≠ k.addr i → Sparse.get ({} : Counter) (m.count k i e).stats.live a = Sparse.get ({} : Counter) m.stats.live a) ∧
    m.count k i e = { m with stats := { m.stats with live := (m.count k i e).stats.live } }


/-- R12: of two values staged in a register of the timing block before a commit, the commit applies the second, and of the other registers what was staged. -/
def Obligations.LastStagedValueApplies : Prop :=
  ∀ (m : Kz) (v w : Word), ∀ k ∈ dsiTimingKinds,
    (storeReg (storeReg m k 0 v) k 0 w).cfgWord k 0 = m.cfgWord k 0 ∧
    (applyStaged (storeReg (storeReg m k 0 v) k 0 w)).cfgWord k 0 = BitVec.ofNat 32 (w.toNat &&& k.info.rws) ∧
    ∀ l ∈ dsiTimingKinds, l ≠ k →
      (applyStaged (storeReg (storeReg m k 0 v) k 0 w)).cfgWord l 0 = Sparse.get (m.cfgWord l 0) m.regs.staged (l.addr 0)


/-- R546, R550, R601, R603, R612 and the reset columns: after reset the module is in BOOT and every region DOWN, no session is open, nothing is counted,
logged or commanded, registers read their reset values, and the invariant holds. -/
def Obligations.ResetState : Prop :=
  State.reset.pending = [] ∧ Inv State.reset.kz ∧ State.reset.kz.pwr.state = .boot ∧
  (∀ k : Nat, State.reset.kz.rstate k = .down) ∧ (∀ p : Nat, (State.reset.kz.port p).session.isOpen = false) ∧
  (∀ (k : RegKind) (i : Nat), State.reset.kz.counter k i = 0 ∧ State.reset.kz.cfgWord k i = k.info.reset ∧ State.reset.kz.seenWord k i = 0) ∧
  State.reset.kz.log.entries = [] ∧ State.reset.kz.mem = [] ∧
  ∀ r ∈ ([(.TIM_OVEN, 0x00000001), (.TIM_HEARTH_TRIM, 0x0A000000), (.HK_CTRL, 0x000000FF),
      (.HOST_PORT_CFG, 0x80004B5A), (.HOST_CFG, 0x400A00C8), (.MOD_PWR_STAT, 0x20000000), (.DSI_CLK, 0x83E915C3),
      (.RGN_RAIL, 0x000002EE), (.RGN_RO_CTRL, 0x00008400), (.RGN_DAMPER, 0x40000000), (.ENG_BUDGET, 0x0000000C),
      (.CH_FE_CTRL, 0x00000001), (.CH_SLICE_MAP, 0x76543210), (.CH_TRIG_CTRL, 0x00800040), (.CH_MEM_CTRL, 0x00080401),
      (.SNS_CFG, 0x0300000A), (.TIM_TIU_WIN, 0x00000001)] : List (RegKind × Nat)),
    readReg State.reset.kz r.1 0 = r.2


/-- The invariant that every step keeps, from every state that has it: memory stays in its canonical form (the model's own, Mem.wf), the
event log holds at most 4,096 entries (R643), the reset cause names one cause (R613), and the raster port sends one of its two buffers (R688). -/
def Obligations.EveryStepKeepsTheInvariant : Prop :=
  ∀ (s n : State), Inv s.kz → step s = .next n → Inv n.kz


/-- R133, R613 (assumption 2: instants are operands of the commands): over every step of every state the moment in nanoseconds goes on and never runs
back; the count of internal ticks does so too but where it starts afresh, which is at a module reset. -/
def Obligations.TimeNeverRunsBack : Prop :=
  ∀ (s n : State), step s = .next n → s.kz.now.ns ≤ n.kz.now.ns ∧ (s.kz.now.tick ≤ n.kz.now.tick ∨ n.kz.now.tick = 0)


/-- R565, R571, R572: over every step of every state the anti-rollback counter never falls, an owner slot that is written keeps its key hashes and goes at
most from ACTIVE to REVOKED, and a module with an ACTIVE owner key keeps one. -/
def Obligations.FusesAreNeverUnmade : Prop :=
  ∀ (s n : State), step s = .next n →
    s.kz.trust.counter ≤ n.kz.trust.counter ∧
    (∀ i : Nat, (ownerSlot s.kz.trust i).state ≠ .empty →
      (ownerSlot n.kz.trust i).edHash = (ownerSlot s.kz.trust i).edHash ∧ (ownerSlot n.kz.trust i).mlHash = (ownerSlot s.kz.trust i).mlHash ∧
      ((ownerSlot n.kz.trust i).state = (ownerSlot s.kz.trust i).state ∨ (ownerSlot n.kz.trust i).state = .revoked)) ∧
    ((∃ i : Nat, i < 2 ∧ (ownerSlot s.kz.trust i).state = .active) → ∃ i : Nat, i < 2 ∧ (ownerSlot n.kz.trust i).state = .active)


/-- R45, R91, R172: a write of GAIN above 0b101, of STEP below 5, or of WIN_LO above WIN_HI is refused with BAD_VALUE and leaves its register, and all
else, as it was. -/
def Obligations.RefusedValues : Prop := ∀ (s : State) (t : Stamp) (m : Kz), s.kz.advance t = m →
  (∀ (h : Hdr) (pairs : List (Word × Word)) (v : Word) (i : Fin 192), Runs m h (.regWrite pairs) → pairs = [(BitVec.ofNat 32
      (RegKind.addr .CH_FE_CTRL i.val), v)] → covers (sess m h).leases (leaseFor (RegKind.addr .CH_FE_CTRL i.val)) = true →
      restartOf m (RegKind.addr .CH_FE_CTRL i.val) = none → lockedOut m .CH_FE_CTRL i.val v = false → 5 <
      F.CH_FE_CTRL.GAIN.of v →
    After (.regWrite t h pairs) s fun n => n = { m with ports := n.ports, wire := n.wire } ∧ Answered m n h (.regWrite
      pairs) .badValue (Detail.bytes ⟨3, 0⟩) (fun x => x) ∧ n.cfgWord .CH_FE_CTRL i.val = m.cfgWord .CH_FE_CTRL i.val) ∧
  (∀ (h : Hdr) (pairs : List (Word × Word)) (v : Word) (i : Fin 12), Runs m h (.regWrite pairs) → pairs = [(BitVec.ofNat 32
      (RegKind.addr .RGN_ROT_CTRL i.val), v)] → covers (sess m h).leases (leaseFor (RegKind.addr .RGN_ROT_CTRL i.val)) =
      true → restartOf m (RegKind.addr .RGN_ROT_CTRL i.val) = none → lockedOut m .RGN_ROT_CTRL i.val v = false →
      F.RGN_ROT_CTRL.STEP.of v < 5 →
    After (.regWrite t h pairs) s fun n => n = { m with ports := n.ports, wire := n.wire } ∧ Answered m n h (.regWrite
      pairs) .badValue (Detail.bytes ⟨3, 0⟩) (fun x => x) ∧ n.cfgWord .RGN_ROT_CTRL i.val = m.cfgWord .RGN_ROT_CTRL i.val) ∧
  (∀ (h : Hdr) (pairs : List (Word × Word)) (v : Word) (i : Fin 192), Runs m h (.regWrite pairs) → pairs = [(BitVec.ofNat 32
      (RegKind.addr .CH_SLOT_AUX i.val), v)] → covers (sess m h).leases (leaseFor (RegKind.addr .CH_SLOT_AUX i.val)) = true
      → restartOf m (RegKind.addr .CH_SLOT_AUX i.val) = none → lockedOut m .CH_SLOT_AUX i.val v = false →
      F.CH_SLOT_AUX.WIN_HI.of v < F.CH_SLOT_AUX.WIN_LO.of v →
    After (.regWrite t h pairs) s fun n => n = { m with ports := n.ports, wire := n.wire } ∧ Answered m n h (.regWrite
      pairs) .badValue (Detail.bytes ⟨3, 0⟩) (fun x => x) ∧ n.cfgWord .CH_SLOT_AUX i.val = m.cfgWord .CH_SLOT_AUX i.val)
end

