-- ==== Sys2Proof/Laws/Sparse.lean ====
section
/-! SUPPORT. Laws of sparse tables: reading after writing, and the rising order of keys. -/
namespace Sys2Proof.Machine

variable {α : Type}

@[simp] theorem Sparse.get_nil (d : α) (i : Nat) : Sparse.get d [] i = d := rfl

@[simp] theorem Sparse.get_set_same (d : α) (t : Sparse α) (k : Nat) (v : α) :
    Sparse.get d (Sparse.set t k v) k = v := by
  induction t with
  | nil => simp [Sparse.set, Sparse.get]
  | cons p r ih =>
    obtain ⟨k', v'⟩ := p
    simp only [Sparse.set]
    split
    · simp [Sparse.get]
    · split
      · simp [Sparse.get]
      · rename_i h1 h2
        simp [Sparse.get, Ne.symm h2, ih]

theorem Sparse.get_set_ne (d : α) (t : Sparse α) (k i : Nat) (v : α) (h : i ≠ k) :
    Sparse.get d (Sparse.set t k v) i = Sparse.get d t i := by
  induction t with
  | nil => simp [Sparse.set, Sparse.get, Ne.symm h]
  | cons p r ih =>
    obtain ⟨k', v'⟩ := p
    simp only [Sparse.set]
    split
    · simp [Sparse.get, Ne.symm h]
    · split
      · rename_i h1 h2; subst h2; simp [Sparse.get, Ne.symm h]
      · simp only [Sparse.get]; split
        · rfl
        · exact ih

theorem Sparse.get_set (d : α) (t : Sparse α) (k i : Nat) (v : α) :
    Sparse.get d (Sparse.set t k v) i = if i = k then v else Sparse.get d t i := by
  split
  · subst_vars; simp
  · exact Sparse.get_set_ne _ _ _ _ _ ‹_›

@[simp] theorem Sparse.get_mod_same (d : α) (t : Sparse α) (k : Nat) (f : α → α) :
    Sparse.get d (Sparse.mod d t k f) k = f (Sparse.get d t k) := by simp [Sparse.mod]

theorem Sparse.get_mod_ne (d : α) (t : Sparse α) (k i : Nat) (f : α → α) (h : i ≠ k) :
    Sparse.get d (Sparse.mod d t k f) i = Sparse.get d t i := by
  simp [Sparse.mod, Sparse.get_set_ne _ _ _ _ _ h]

theorem Sparse.get_mod (d : α) (t : Sparse α) (k i : Nat) (f : α → α) :
    Sparse.get d (Sparse.mod d t k f) i = if i = k then f (Sparse.get d t k) else Sparse.get d t i := by
  simp [Sparse.mod, Sparse.get_set]

theorem Sparse.get_del (d : α) (t : Sparse α) (k i : Nat) :
    Sparse.get d (Sparse.del t k) i = if i = k then d else Sparse.get d t i := by
  induction t with
  | nil => simp [Sparse.del]
  | cons p r ih =>
    obtain ⟨k', v'⟩ := p
    by_cases hk : k' = k
    · subst hk
      have : Sparse.del ((k', v') :: r) k' = Sparse.del r k' := by simp [Sparse.del]
      rw [this, ih]
      by_cases h : i = k'
      · simp [h]
      · simp [h, Sparse.get, Ne.symm h]
    · have : Sparse.del ((k', v') :: r) k = (k', v') :: Sparse.del r k := by simp [Sparse.del, hk]
      rw [this]
      simp only [Sparse.get, ih]
      by_cases h : k' = i
      · subst h; simp [hk]
      · simp [h]

theorem Sparse.get_put [DecidableEq α] (d : α) (t : Sparse α) (k i : Nat) (v : α) :
    Sparse.get d (Sparse.put d t k v) i = if i = k then v else Sparse.get d t i := by
  unfold Sparse.put
  split
  · rename_i h; rw [Sparse.get_del]; simp [h]
  · rw [Sparse.get_set]

/-- A list of keys that rises from `lo` on rises from any lower bound on. -/
theorem Sparse.sortedFrom_mono {lo lo' : Nat} (h : lo' ≤ lo) (t : Sparse α) (hs : Sparse.sortedFrom lo t = true) :
    Sparse.sortedFrom lo' t = true := by
  cases t with
  | nil => rfl
  | cons p r =>
    obtain ⟨k, v⟩ := p
    simp only [Sparse.sortedFrom, Bool.and_eq_true, decide_eq_true_eq] at hs ⊢
    exact ⟨le_trans h hs.1, hs.2⟩

theorem Sparse.sortedFrom_set (lo : Nat) (t : Sparse α) (k : Nat) (v : α) (hk : lo ≤ k)
    (hs : Sparse.sortedFrom lo t = true) : Sparse.sortedFrom lo (Sparse.set t k v) = true := by
  induction t generalizing lo with
  | nil => simp [Sparse.set, Sparse.sortedFrom, hk]
  | cons p r ih =>
    obtain ⟨k', v'⟩ := p
    simp only [Sparse.sortedFrom, Bool.and_eq_true, decide_eq_true_eq] at hs
    simp only [Sparse.set]
    split
    · simp only [Sparse.sortedFrom, Bool.and_eq_true, decide_eq_true_eq]
      exact ⟨hk, by omega, hs.2⟩
    · split
      · subst_vars; simp only [Sparse.sortedFrom, Bool.and_eq_true, decide_eq_true_eq]; exact ⟨hk, hs.2⟩
      · simp only [Sparse.sortedFrom, Bool.and_eq_true, decide_eq_true_eq]
        exact ⟨hs.1, ih (k' + 1) (by omega) hs.2⟩

theorem Sparse.sortedFrom_filter (lo : Nat) (t : Sparse α) (p : Nat × α → Bool)
    (hs : Sparse.sortedFrom lo t = true) : Sparse.sortedFrom lo (t.filter p) = true := by
  induction t generalizing lo with
  | nil => rfl
  | cons q r ih =>
    obtain ⟨k', v'⟩ := q
    simp only [Sparse.sortedFrom, Bool.and_eq_true, decide_eq_true_eq] at hs
    rw [List.filter_cons]
    split
    · simp only [Sparse.sortedFrom, Bool.and_eq_true, decide_eq_true_eq]; exact ⟨hs.1, ih _ hs.2⟩
    · exact ih lo (Sparse.sortedFrom_mono (by omega) r hs.2)

/-- Every value of a table after a write is the value written or was in the table before. -/
theorem Sparse.mem_set {t : Sparse α} {k : Nat} {v : α} {p : Nat × α} (h : p ∈ Sparse.set t k v) :
    p = (k, v) ∨ p ∈ t := by
  induction t with
  | nil => simpa [Sparse.set] using h
  | cons q r ih =>
    obtain ⟨k', v'⟩ := q
    simp only [Sparse.set] at h
    split at h
    · simpa using h
    · split at h
      · rcases List.mem_cons.1 h with h | h
        · exact .inl h
        · exact .inr (List.mem_cons_of_mem _ h)
      · rcases List.mem_cons.1 h with h | h
        · exact .inr (h ▸ List.mem_cons_self)
        · rcases ih h with h | h
          · exact .inl h
          · exact .inr (List.mem_cons_of_mem _ h)

end Sys2Proof.Machine
end

