-- ==== Sys2Proof/Laws/State.lean ====
section
/-! SUPPORT. What every named operation leaves alone: one lemma per field of the state that the operation does not touch. -/
namespace Sys2Proof.Machine

/-- A fold keeps what each of its steps keeps. -/
theorem foldl_same {σ α β : Type} (g : σ → β) {f : σ → α → σ} (h : ∀ s a, g (f s a) = g s) (l : List α) (s : σ) :
    g (l.foldl f s) = g s := by
  induction l generalizing s with
  | nil => rfl
  | cons a r ih => rw [List.foldl_cons, ih, h]

@[simp] theorem Kz.advance_fresh (m : Kz) (t : Stamp) : (m.advance t).fresh = m.fresh := rfl
@[simp] theorem Kz.advance_regs (m : Kz) (t : Stamp) : (m.advance t).regs = m.regs := rfl
@[simp] theorem Kz.advance_stats (m : Kz) (t : Stamp) : (m.advance t).stats = m.stats := rfl
@[simp] theorem Kz.advance_log (m : Kz) (t : Stamp) : (m.advance t).log = m.log := rfl
@[simp] theorem Kz.advance_errs (m : Kz) (t : Stamp) : (m.advance t).errs = m.errs := rfl
@[simp] theorem Kz.advance_pwr (m : Kz) (t : Stamp) : (m.advance t).pwr = m.pwr := rfl
@[simp] theorem Kz.advance_sup (m : Kz) (t : Stamp) : (m.advance t).sup = m.sup := rfl
@[simp] theorem Kz.advance_fw (m : Kz) (t : Stamp) : (m.advance t).fw = m.fw := rfl
@[simp] theorem Kz.advance_trust (m : Kz) (t : Stamp) : (m.advance t).trust = m.trust := rfl
@[simp] theorem Kz.advance_tb (m : Kz) (t : Stamp) : (m.advance t).tb = m.tb := rfl
@[simp] theorem Kz.advance_tl (m : Kz) (t : Stamp) : (m.advance t).tl = m.tl := rfl
@[simp] theorem Kz.advance_hub (m : Kz) (t : Stamp) : (m.advance t).hub = m.hub := rfl
@[simp] theorem Kz.advance_ports (m : Kz) (t : Stamp) : (m.advance t).ports = m.ports := rfl
@[simp] theorem Kz.advance_rgns (m : Kz) (t : Stamp) : (m.advance t).rgns = m.rgns := rfl
@[simp] theorem Kz.advance_chans (m : Kz) (t : Stamp) : (m.advance t).chans = m.chans := rfl
@[simp] theorem Kz.advance_maps (m : Kz) (t : Stamp) : (m.advance t).maps = m.maps := rfl
@[simp] theorem Kz.advance_prims (m : Kz) (t : Stamp) : (m.advance t).prims = m.prims := rfl
@[simp] theorem Kz.advance_tiu (m : Kz) (t : Stamp) : (m.advance t).tiu = m.tiu := rfl
@[simp] theorem Kz.advance_sns (m : Kz) (t : Stamp) : (m.advance t).sns = m.sns := rfl
@[simp] theorem Kz.advance_hk (m : Kz) (t : Stamp) : (m.advance t).hk = m.hk := rfl
@[simp] theorem Kz.advance_age (m : Kz) (t : Stamp) : (m.advance t).age = m.age := rfl
@[simp] theorem Kz.advance_dsi (m : Kz) (t : Stamp) : (m.advance t).dsi = m.dsi := rfl
@[simp] theorem Kz.advance_mem (m : Kz) (t : Stamp) : (m.advance t).mem = m.mem := rfl
@[simp] theorem Kz.advance_spans (m : Kz) (t : Stamp) : (m.advance t).spans = m.spans := rfl
@[simp] theorem Kz.advance_wire (m : Kz) (t : Stamp) : (m.advance t).wire = m.wire := rfl
@[simp] theorem Kz.modRgn_now (m : Kz) (k : Nat) (f : Region → Region) : (m.modRgn k f).now = m.now := rfl
@[simp] theorem Kz.modRgn_fresh (m : Kz) (k : Nat) (f : Region → Region) : (m.modRgn k f).fresh = m.fresh := rfl
@[simp] theorem Kz.modRgn_regs (m : Kz) (k : Nat) (f : Region → Region) : (m.modRgn k f).regs = m.regs := rfl
@[simp] theorem Kz.modRgn_stats (m : Kz) (k : Nat) (f : Region → Region) : (m.modRgn k f).stats = m.stats := rfl
@[simp] theorem Kz.modRgn_log (m : Kz) (k : Nat) (f : Region → Region) : (m.modRgn k f).log = m.log := rfl
@[simp] theorem Kz.modRgn_errs (m : Kz) (k : Nat) (f : Region → Region) : (m.modRgn k f).errs = m.errs := rfl
@[simp] theorem Kz.modRgn_pwr (m : Kz) (k : Nat) (f : Region → Region) : (m.modRgn k f).pwr = m.pwr := rfl
@[simp] theorem Kz.modRgn_sup (m : Kz) (k : Nat) (f : Region → Region) : (m.modRgn k f).sup = m.sup := rfl
@[simp] theorem Kz.modRgn_fw (m : Kz) (k : Nat) (f : Region → Region) : (m.modRgn k f).fw = m.fw := rfl
@[simp] theorem Kz.modRgn_trust (m : Kz) (k : Nat) (f : Region → Region) : (m.modRgn k f).trust = m.trust := rfl
@[simp] theorem Kz.modRgn_tb (m : Kz) (k : Nat) (f : Region → Region) : (m.modRgn k f).tb = m.tb := rfl
@[simp] theorem Kz.modRgn_tl (m : Kz) (k : Nat) (f : Region → Region) : (m.modRgn k f).tl = m.tl := rfl
@[simp] theorem Kz.modRgn_hub (m : Kz) (k : Nat) (f : Region → Region) : (m.modRgn k f).hub = m.hub := rfl
@[simp] theorem Kz.modRgn_ports (m : Kz) (k : Nat) (f : Region → Region) : (m.modRgn k f).ports = m.ports := rfl
@[simp] theorem Kz.modRgn_chans (m : Kz) (k : Nat) (f : Region → Region) : (m.modRgn k f).chans = m.chans := rfl
@[simp] theorem Kz.modRgn_maps (m : Kz) (k : Nat) (f : Region → Region) : (m.modRgn k f).maps = m.maps := rfl
@[simp] theorem Kz.modRgn_prims (m : Kz) (k : Nat) (f : Region → Region) : (m.modRgn k f).prims = m.prims := rfl
@[simp] theorem Kz.modRgn_tiu (m : Kz) (k : Nat) (f : Region → Region) : (m.modRgn k f).tiu = m.tiu := rfl
@[simp] theorem Kz.modRgn_sns (m : Kz) (k : Nat) (f : Region → Region) : (m.modRgn k f).sns = m.sns := rfl
@[simp] theorem Kz.modRgn_hk (m : Kz) (k : Nat) (f : Region → Region) : (m.modRgn k f).hk = m.hk := rfl
@[simp] theorem Kz.modRgn_age (m : Kz) (k : Nat) (f : Region → Region) : (m.modRgn k f).age = m.age := rfl
@[simp] theorem Kz.modRgn_dsi (m : Kz) (k : Nat) (f : Region → Region) : (m.modRgn k f).dsi = m.dsi := rfl
@[simp] theorem Kz.modRgn_mem (m : Kz) (k : Nat) (f : Region → Region) : (m.modRgn k f).mem = m.mem := rfl
@[simp] theorem Kz.modRgn_spans (m : Kz) (k : Nat) (f : Region → Region) : (m.modRgn k f).spans = m.spans := rfl
@[simp] theorem Kz.modRgn_wire (m : Kz) (k : Nat) (f : Region → Region) : (m.modRgn k f).wire = m.wire := rfl
@[simp] theorem Kz.modChan_now (m : Kz) (c : Nat) (f : Channel → Channel) : (m.modChan c f).now = m.now := rfl
@[simp] theorem Kz.modChan_fresh (m : Kz) (c : Nat) (f : Channel → Channel) : (m.modChan c f).fresh = m.fresh := rfl
@[simp] theorem Kz.modChan_regs (m : Kz) (c : Nat) (f : Channel → Channel) : (m.modChan c f).regs = m.regs := rfl
@[simp] theorem Kz.modChan_stats (m : Kz) (c : Nat) (f : Channel → Channel) : (m.modChan c f).stats = m.stats := rfl
@[simp] theorem Kz.modChan_log (m : Kz) (c : Nat) (f : Channel → Channel) : (m.modChan c f).log = m.log := rfl
@[simp] theorem Kz.modChan_errs (m : Kz) (c : Nat) (f : Channel → Channel) : (m.modChan c f).errs = m.errs := rfl
@[simp] theorem Kz.modChan_pwr (m : Kz) (c : Nat) (f : Channel → Channel) : (m.modChan c f).pwr = m.pwr := rfl
@[simp] theorem Kz.modChan_sup (m : Kz) (c : Nat) (f : Channel → Channel) : (m.modChan c f).sup = m.sup := rfl
@[simp] theorem Kz.modChan_fw (m : Kz) (c : Nat) (f : Channel → Channel) : (m.modChan c f).fw = m.fw := rfl
@[simp] theorem Kz.modChan_trust (m : Kz) (c : Nat) (f : Channel → Channel) : (m.modChan c f).trust = m.trust := rfl
@[simp] theorem Kz.modChan_tb (m : Kz) (c : Nat) (f : Channel → Channel) : (m.modChan c f).tb = m.tb := rfl
@[simp] theorem Kz.modChan_tl (m : Kz) (c : Nat) (f : Channel → Channel) : (m.modChan c f).tl = m.tl := rfl
@[simp] theorem Kz.modChan_hub (m : Kz) (c : Nat) (f : Channel → Channel) : (m.modChan c f).hub = m.hub := rfl
@[simp] theorem Kz.modChan_ports (m : Kz) (c : Nat) (f : Channel → Channel) : (m.modChan c f).ports = m.ports := rfl
@[simp] theorem Kz.modChan_rgns (m : Kz) (c : Nat) (f : Channel → Channel) : (m.modChan c f).rgns = m.rgns := rfl
@[simp] theorem Kz.modChan_maps (m : Kz) (c : Nat) (f : Channel → Channel) : (m.modChan c f).maps = m.maps := rfl
@[simp] theorem Kz.modChan_prims (m : Kz) (c : Nat) (f : Channel → Channel) : (m.modChan c f).prims = m.prims := rfl
@[simp] theorem Kz.modChan_tiu (m : Kz) (c : Nat) (f : Channel → Channel) : (m.modChan c f).tiu = m.tiu := rfl
@[simp] theorem Kz.modChan_sns (m : Kz) (c : Nat) (f : Channel → Channel) : (m.modChan c f).sns = m.sns := rfl
@[simp] theorem Kz.modChan_hk (m : Kz) (c : Nat) (f : Channel → Channel) : (m.modChan c f).hk = m.hk := rfl
@[simp] theorem Kz.modChan_age (m : Kz) (c : Nat) (f : Channel → Channel) : (m.modChan c f).age = m.age := rfl
@[simp] theorem Kz.modChan_dsi (m : Kz) (c : Nat) (f : Channel → Channel) : (m.modChan c f).dsi = m.dsi := rfl
@[simp] theorem Kz.modChan_mem (m : Kz) (c : Nat) (f : Channel → Channel) : (m.modChan c f).mem = m.mem := rfl
@[simp] theorem Kz.modChan_spans (m : Kz) (c : Nat) (f : Channel → Channel) : (m.modChan c f).spans = m.spans := rfl
@[simp] theorem Kz.modChan_wire (m : Kz) (c : Nat) (f : Channel → Channel) : (m.modChan c f).wire = m.wire := rfl
@[simp] theorem Kz.modPort_now (m : Kz) (p : Nat) (f : PortState → PortState) : (m.modPort p f).now = m.now := rfl
@[simp] theorem Kz.modPort_fresh (m : Kz) (p : Nat) (f : PortState → PortState) : (m.modPort p f).fresh = m.fresh := rfl
@[simp] theorem Kz.modPort_regs (m : Kz) (p : Nat) (f : PortState → PortState) : (m.modPort p f).regs = m.regs := rfl
@[simp] theorem Kz.modPort_stats (m : Kz) (p : Nat) (f : PortState → PortState) : (m.modPort p f).stats = m.stats := rfl
@[simp] theorem Kz.modPort_log (m : Kz) (p : Nat) (f : PortState → PortState) : (m.modPort p f).log = m.log := rfl
@[simp] theorem Kz.modPort_errs (m : Kz) (p : Nat) (f : PortState → PortState) : (m.modPort p f).errs = m.errs := rfl
@[simp] theorem Kz.modPort_pwr (m : Kz) (p : Nat) (f : PortState → PortState) : (m.modPort p f).pwr = m.pwr := rfl
@[simp] theorem Kz.modPort_sup (m : Kz) (p : Nat) (f : PortState → PortState) : (m.modPort p f).sup = m.sup := rfl
@[simp] theorem Kz.modPort_fw (m : Kz) (p : Nat) (f : PortState → PortState) : (m.modPort p f).fw = m.fw := rfl
@[simp] theorem Kz.modPort_trust (m : Kz) (p : Nat) (f : PortState → PortState) : (m.modPort p f).trust = m.trust := rfl
@[simp] theorem Kz.modPort_tb (m : Kz) (p : Nat) (f : PortState → PortState) : (m.modPort p f).tb = m.tb := rfl
@[simp] theorem Kz.modPort_tl (m : Kz) (p : Nat) (f : PortState → PortState) : (m.modPort p f).tl = m.tl := rfl
@[simp] theorem Kz.modPort_hub (m : Kz) (p : Nat) (f : PortState → PortState) : (m.modPort p f).hub = m.hub := rfl
@[simp] theorem Kz.modPort_rgns (m : Kz) (p : Nat) (f : PortState → PortState) : (m.modPort p f).rgns = m.rgns := rfl
@[simp] theorem Kz.modPort_chans (m : Kz) (p : Nat) (f : PortState → PortState) : (m.modPort p f).chans = m.chans := rfl
@[simp] theorem Kz.modPort_maps (m : Kz) (p : Nat) (f : PortState → PortState) : (m.modPort p f).maps = m.maps := rfl
@[simp] theorem Kz.modPort_prims (m : Kz) (p : Nat) (f : PortState → PortState) : (m.modPort p f).prims = m.prims := rfl
@[simp] theorem Kz.modPort_tiu (m : Kz) (p : Nat) (f : PortState → PortState) : (m.modPort p f).tiu = m.tiu := rfl
@[simp] theorem Kz.modPort_sns (m : Kz) (p : Nat) (f : PortState → PortState) : (m.modPort p f).sns = m.sns := rfl
@[simp] theorem Kz.modPort_hk (m : Kz) (p : Nat) (f : PortState → PortState) : (m.modPort p f).hk = m.hk := rfl
@[simp] theorem Kz.modPort_age (m : Kz) (p : Nat) (f : PortState → PortState) : (m.modPort p f).age = m.age := rfl
@[simp] theorem Kz.modPort_dsi (m : Kz) (p : Nat) (f : PortState → PortState) : (m.modPort p f).dsi = m.dsi := rfl
@[simp] theorem Kz.modPort_mem (m : Kz) (p : Nat) (f : PortState → PortState) : (m.modPort p f).mem = m.mem := rfl
@[simp] theorem Kz.modPort_spans (m : Kz) (p : Nat) (f : PortState → PortState) : (m.modPort p f).spans = m.spans := rfl
@[simp] theorem Kz.modPort_wire (m : Kz) (p : Nat) (f : PortState → PortState) : (m.modPort p f).wire = m.wire := rfl
@[simp] theorem Kz.modSess_now (m : Kz) (p : Nat) (f : Session → Session) : (m.modSess p f).now = m.now := rfl
@[simp] theorem Kz.modSess_fresh (m : Kz) (p : Nat) (f : Session → Session) : (m.modSess p f).fresh = m.fresh := rfl
@[simp] theorem Kz.modSess_regs (m : Kz) (p : Nat) (f : Session → Session) : (m.modSess p f).regs = m.regs := rfl
@[simp] theorem Kz.modSess_stats (m : Kz) (p : Nat) (f : Session → Session) : (m.modSess p f).stats = m.stats := rfl
@[simp] theorem Kz.modSess_log (m : Kz) (p : Nat) (f : Session → Session) : (m.modSess p f).log = m.log := rfl
@[simp] theorem Kz.modSess_errs (m : Kz) (p : Nat) (f : Session → Session) : (m.modSess p f).errs = m.errs := rfl
@[simp] theorem Kz.modSess_pwr (m : Kz) (p : Nat) (f : Session → Session) : (m.modSess p f).pwr = m.pwr := rfl
@[simp] theorem Kz.modSess_sup (m : Kz) (p : Nat) (f : Session → Session) : (m.modSess p f).sup = m.sup := rfl
@[simp] theorem Kz.modSess_fw (m : Kz) (p : Nat) (f : Session → Session) : (m.modSess p f).fw = m.fw := rfl
@[simp] theorem Kz.modSess_trust (m : Kz) (p : Nat) (f : Session → Session) : (m.modSess p f).trust = m.trust := rfl
@[simp] theorem Kz.modSess_tb (m : Kz) (p : Nat) (f : Session → Session) : (m.modSess p f).tb = m.tb := rfl
@[simp] theorem Kz.modSess_tl (m : Kz) (p : Nat) (f : Session → Session) : (m.modSess p f).tl = m.tl := rfl
@[simp] theorem Kz.modSess_hub (m : Kz) (p : Nat) (f : Session → Session) : (m.modSess p f).hub = m.hub := rfl
@[simp] theorem Kz.modSess_rgns (m : Kz) (p : Nat) (f : Session → Session) : (m.modSess p f).rgns = m.rgns := rfl
@[simp] theorem Kz.modSess_chans (m : Kz) (p : Nat) (f : Session → Session) : (m.modSess p f).chans = m.chans := rfl
@[simp] theorem Kz.modSess_maps (m : Kz) (p : Nat) (f : Session → Session) : (m.modSess p f).maps = m.maps := rfl
@[simp] theorem Kz.modSess_prims (m : Kz) (p : Nat) (f : Session → Session) : (m.modSess p f).prims = m.prims := rfl
@[simp] theorem Kz.modSess_tiu (m : Kz) (p : Nat) (f : Session → Session) : (m.modSess p f).tiu = m.tiu := rfl
@[simp] theorem Kz.modSess_sns (m : Kz) (p : Nat) (f : Session → Session) : (m.modSess p f).sns = m.sns := rfl
@[simp] theorem Kz.modSess_hk (m : Kz) (p : Nat) (f : Session → Session) : (m.modSess p f).hk = m.hk := rfl
@[simp] theorem Kz.modSess_age (m : Kz) (p : Nat) (f : Session → Session) : (m.modSess p f).age = m.age := rfl
@[simp] theorem Kz.modSess_dsi (m : Kz) (p : Nat) (f : Session → Session) : (m.modSess p f).dsi = m.dsi := rfl
@[simp] theorem Kz.modSess_mem (m : Kz) (p : Nat) (f : Session → Session) : (m.modSess p f).mem = m.mem := rfl
@[simp] theorem Kz.modSess_spans (m : Kz) (p : Nat) (f : Session → Session) : (m.modSess p f).spans = m.spans := rfl
@[simp] theorem Kz.modSess_wire (m : Kz) (p : Nat) (f : Session → Session) : (m.modSess p f).wire = m.wire := rfl
@[simp] theorem Kz.modTb_now (m : Kz) (f : TimeBase → TimeBase) : (m.modTb f).now = m.now := rfl
@[simp] theorem Kz.modTb_fresh (m : Kz) (f : TimeBase → TimeBase) : (m.modTb f).fresh = m.fresh := rfl
@[simp] theorem Kz.modTb_regs (m : Kz) (f : TimeBase → TimeBase) : (m.modTb f).regs = m.regs := rfl
@[simp] theorem Kz.modTb_stats (m : Kz) (f : TimeBase → TimeBase) : (m.modTb f).stats = m.stats := rfl
@[simp] theorem Kz.modTb_log (m : Kz) (f : TimeBase → TimeBase) : (m.modTb f).log = m.log := rfl
@[simp] theorem Kz.modTb_errs (m : Kz) (f : TimeBase → TimeBase) : (m.modTb f).errs = m.errs := rfl
@[simp] theorem Kz.modTb_pwr (m : Kz) (f : TimeBase → TimeBase) : (m.modTb f).pwr = m.pwr := rfl
@[simp] theorem Kz.modTb_sup (m : Kz) (f : TimeBase → TimeBase) : (m.modTb f).sup = m.sup := rfl
@[simp] theorem Kz.modTb_fw (m : Kz) (f : TimeBase → TimeBase) : (m.modTb f).fw = m.fw := rfl
@[simp] theorem Kz.modTb_trust (m : Kz) (f : TimeBase → TimeBase) : (m.modTb f).trust = m.trust := rfl
@[simp] theorem Kz.modTb_tl (m : Kz) (f : TimeBase → TimeBase) : (m.modTb f).tl = m.tl := rfl
@[simp] theorem Kz.modTb_hub (m : Kz) (f : TimeBase → TimeBase) : (m.modTb f).hub = m.hub := rfl
@[simp] theorem Kz.modTb_ports (m : Kz) (f : TimeBase → TimeBase) : (m.modTb f).ports = m.ports := rfl
@[simp] theorem Kz.modTb_rgns (m : Kz) (f : TimeBase → TimeBase) : (m.modTb f).rgns = m.rgns := rfl
@[simp] theorem Kz.modTb_chans (m : Kz) (f : TimeBase → TimeBase) : (m.modTb f).chans = m.chans := rfl
@[simp] theorem Kz.modTb_maps (m : Kz) (f : TimeBase → TimeBase) : (m.modTb f).maps = m.maps := rfl
@[simp] theorem Kz.modTb_prims (m : Kz) (f : TimeBase → TimeBase) : (m.modTb f).prims = m.prims := rfl
@[simp] theorem Kz.modTb_tiu (m : Kz) (f : TimeBase → TimeBase) : (m.modTb f).tiu = m.tiu := rfl
@[simp] theorem Kz.modTb_sns (m : Kz) (f : TimeBase → TimeBase) : (m.modTb f).sns = m.sns := rfl
@[simp] theorem Kz.modTb_hk (m : Kz) (f : TimeBase → TimeBase) : (m.modTb f).hk = m.hk := rfl
@[simp] theorem Kz.modTb_age (m : Kz) (f : TimeBase → TimeBase) : (m.modTb f).age = m.age := rfl
@[simp] theorem Kz.modTb_dsi (m : Kz) (f : TimeBase → TimeBase) : (m.modTb f).dsi = m.dsi := rfl
@[simp] theorem Kz.modTb_mem (m : Kz) (f : TimeBase → TimeBase) : (m.modTb f).mem = m.mem := rfl
@[simp] theorem Kz.modTb_spans (m : Kz) (f : TimeBase → TimeBase) : (m.modTb f).spans = m.spans := rfl
@[simp] theorem Kz.modTb_wire (m : Kz) (f : TimeBase → TimeBase) : (m.modTb f).wire = m.wire := rfl
@[simp] theorem Kz.modTl_now (m : Kz) (f : TimingLink → TimingLink) : (m.modTl f).now = m.now := rfl
@[simp] theorem Kz.modTl_fresh (m : Kz) (f : TimingLink → TimingLink) : (m.modTl f).fresh = m.fresh := rfl
@[simp] theorem Kz.modTl_regs (m : Kz) (f : TimingLink → TimingLink) : (m.modTl f).regs = m.regs := rfl
@[simp] theorem Kz.modTl_stats (m : Kz) (f : TimingLink → TimingLink) : (m.modTl f).stats = m.stats := rfl
@[simp] theorem Kz.modTl_log (m : Kz) (f : TimingLink → TimingLink) : (m.modTl f).log = m.log := rfl
@[simp] theorem Kz.modTl_errs (m : Kz) (f : TimingLink → TimingLink) : (m.modTl f).errs = m.errs := rfl
@[simp] theorem Kz.modTl_pwr (m : Kz) (f : TimingLink → TimingLink) : (m.modTl f).pwr = m.pwr := rfl
@[simp] theorem Kz.modTl_sup (m : Kz) (f : TimingLink → TimingLink) : (m.modTl f).sup = m.sup := rfl
@[simp] theorem Kz.modTl_fw (m : Kz) (f : TimingLink → TimingLink) : (m.modTl f).fw = m.fw := rfl
@[simp] theorem Kz.modTl_trust (m : Kz) (f : TimingLink → TimingLink) : (m.modTl f).trust = m.trust := rfl
@[simp] theorem Kz.modTl_tb (m : Kz) (f : TimingLink → TimingLink) : (m.modTl f).tb = m.tb := rfl
@[simp] theorem Kz.modTl_hub (m : Kz) (f : TimingLink → TimingLink) : (m.modTl f).hub = m.hub := rfl
@[simp] theorem Kz.modTl_ports (m : Kz) (f : TimingLink → TimingLink) : (m.modTl f).ports = m.ports := rfl
@[simp] theorem Kz.modTl_rgns (m : Kz) (f : TimingLink → TimingLink) : (m.modTl f).rgns = m.rgns := rfl
@[simp] theorem Kz.modTl_chans (m : Kz) (f : TimingLink → TimingLink) : (m.modTl f).chans = m.chans := rfl
@[simp] theorem Kz.modTl_maps (m : Kz) (f : TimingLink → TimingLink) : (m.modTl f).maps = m.maps := rfl
@[simp] theorem Kz.modTl_prims (m : Kz) (f : TimingLink → TimingLink) : (m.modTl f).prims = m.prims := rfl
@[simp] theorem Kz.modTl_tiu (m : Kz) (f : TimingLink → TimingLink) : (m.modTl f).tiu = m.tiu := rfl
@[simp] theorem Kz.modTl_sns (m : Kz) (f : TimingLink → TimingLink) : (m.modTl f).sns = m.sns := rfl
@[simp] theorem Kz.modTl_hk (m : Kz) (f : TimingLink → TimingLink) : (m.modTl f).hk = m.hk := rfl
@[simp] theorem Kz.modTl_age (m : Kz) (f : TimingLink → TimingLink) : (m.modTl f).age = m.age := rfl
@[simp] theorem Kz.modTl_dsi (m : Kz) (f : TimingLink → TimingLink) : (m.modTl f).dsi = m.dsi := rfl
@[simp] theorem Kz.modTl_mem (m : Kz) (f : TimingLink → TimingLink) : (m.modTl f).mem = m.mem := rfl
@[simp] theorem Kz.modTl_spans (m : Kz) (f : TimingLink → TimingLink) : (m.modTl f).spans = m.spans := rfl
@[simp] theorem Kz.modTl_wire (m : Kz) (f : TimingLink → TimingLink) : (m.modTl f).wire = m.wire := rfl
@[simp] theorem Kz.modHub_now (m : Kz) (f : Hub → Hub) : (m.modHub f).now = m.now := rfl
@[simp] theorem Kz.modHub_fresh (m : Kz) (f : Hub → Hub) : (m.modHub f).fresh = m.fresh := rfl
@[simp] theorem Kz.modHub_regs (m : Kz) (f : Hub → Hub) : (m.modHub f).regs = m.regs := rfl
@[simp] theorem Kz.modHub_stats (m : Kz) (f : Hub → Hub) : (m.modHub f).stats = m.stats := rfl
@[simp] theorem Kz.modHub_log (m : Kz) (f : Hub → Hub) : (m.modHub f).log = m.log := rfl
@[simp] theorem Kz.modHub_errs (m : Kz) (f : Hub → Hub) : (m.modHub f).errs = m.errs := rfl
@[simp] theorem Kz.modHub_pwr (m : Kz) (f : Hub → Hub) : (m.modHub f).pwr = m.pwr := rfl
@[simp] theorem Kz.modHub_sup (m : Kz) (f : Hub → Hub) : (m.modHub f).sup = m.sup := rfl
@[simp] theorem Kz.modHub_fw (m : Kz) (f : Hub → Hub) : (m.modHub f).fw = m.fw := rfl
@[simp] theorem Kz.modHub_trust (m : Kz) (f : Hub → Hub) : (m.modHub f).trust = m.trust := rfl
@[simp] theorem Kz.modHub_tb (m : Kz) (f : Hub → Hub) : (m.modHub f).tb = m.tb := rfl
@[simp] theorem Kz.modHub_tl (m : Kz) (f : Hub → Hub) : (m.modHub f).tl = m.tl := rfl
@[simp] theorem Kz.modHub_ports (m : Kz) (f : Hub → Hub) : (m.modHub f).ports = m.ports := rfl
@[simp] theorem Kz.modHub_rgns (m : Kz) (f : Hub → Hub) : (m.modHub f).rgns = m.rgns := rfl
@[simp] theorem Kz.modHub_chans (m : Kz) (f : Hub → Hub) : (m.modHub f).chans = m.chans := rfl
@[simp] theorem Kz.modHub_maps (m : Kz) (f : Hub → Hub) : (m.modHub f).maps = m.maps := rfl
@[simp] theorem Kz.modHub_prims (m : Kz) (f : Hub → Hub) : (m.modHub f).prims = m.prims := rfl
@[simp] theorem Kz.modHub_tiu (m : Kz) (f : Hub → Hub) : (m.modHub f).tiu = m.tiu := rfl
@[simp] theorem Kz.modHub_sns (m : Kz) (f : Hub → Hub) : (m.modHub f).sns = m.sns := rfl
@[simp] theorem Kz.modHub_hk (m : Kz) (f : Hub → Hub) : (m.modHub f).hk = m.hk := rfl
@[simp] theorem Kz.modHub_age (m : Kz) (f : Hub → Hub) : (m.modHub f).age = m.age := rfl
@[simp] theorem Kz.modHub_dsi (m : Kz) (f : Hub → Hub) : (m.modHub f).dsi = m.dsi := rfl
@[simp] theorem Kz.modHub_mem (m : Kz) (f : Hub → Hub) : (m.modHub f).mem = m.mem := rfl
@[simp] theorem Kz.modHub_spans (m : Kz) (f : Hub → Hub) : (m.modHub f).spans = m.spans := rfl
@[simp] theorem Kz.modHub_wire (m : Kz) (f : Hub → Hub) : (m.modHub f).wire = m.wire := rfl
@[simp] theorem Kz.modPower_now (m : Kz) (f : Power → Power) : (m.modPower f).now = m.now := rfl
@[simp] theorem Kz.modPower_fresh (m : Kz) (f : Power → Power) : (m.modPower f).fresh = m.fresh := rfl
@[simp] theorem Kz.modPower_regs (m : Kz) (f : Power → Power) : (m.modPower f).regs = m.regs := rfl
@[simp] theorem Kz.modPower_stats (m : Kz) (f : Power → Power) : (m.modPower f).stats = m.stats := rfl
@[simp] theorem Kz.modPower_log (m : Kz) (f : Power → Power) : (m.modPower f).log = m.log := rfl
@[simp] theorem Kz.modPower_errs (m : Kz) (f : Power → Power) : (m.modPower f).errs = m.errs := rfl
@[simp] theorem Kz.modPower_sup (m : Kz) (f : Power → Power) : (m.modPower f).sup = m.sup := rfl
@[simp] theorem Kz.modPower_fw (m : Kz) (f : Power → Power) : (m.modPower f).fw = m.fw := rfl
@[simp] theorem Kz.modPower_trust (m : Kz) (f : Power → Power) : (m.modPower f).trust = m.trust := rfl
@[simp] theorem Kz.modPower_tb (m : Kz) (f : Power → Power) : (m.modPower f).tb = m.tb := rfl
@[simp] theorem Kz.modPower_tl (m : Kz) (f : Power → Power) : (m.modPower f).tl = m.tl := rfl
@[simp] theorem Kz.modPower_hub (m : Kz) (f : Power → Power) : (m.modPower f).hub = m.hub := rfl
@[simp] theorem Kz.modPower_ports (m : Kz) (f : Power → Power) : (m.modPower f).ports = m.ports := rfl
@[simp] theorem Kz.modPower_rgns (m : Kz) (f : Power → Power) : (m.modPower f).rgns = m.rgns := rfl
@[simp] theorem Kz.modPower_chans (m : Kz) (f : Power → Power) : (m.modPower f).chans = m.chans := rfl
@[simp] theorem Kz.modPower_maps (m : Kz) (f : Power → Power) : (m.modPower f).maps = m.maps := rfl
@[simp] theorem Kz.modPower_prims (m : Kz) (f : Power → Power) : (m.modPower f).prims = m.prims := rfl
@[simp] theorem Kz.modPower_tiu (m : Kz) (f : Power → Power) : (m.modPower f).tiu = m.tiu := rfl
@[simp] theorem Kz.modPower_sns (m : Kz) (f : Power → Power) : (m.modPower f).sns = m.sns := rfl
@[simp] theorem Kz.modPower_hk (m : Kz) (f : Power → Power) : (m.modPower f).hk = m.hk := rfl
@[simp] theorem Kz.modPower_age (m : Kz) (f : Power → Power) : (m.modPower f).age = m.age := rfl
@[simp] theorem Kz.modPower_dsi (m : Kz) (f : Power → Power) : (m.modPower f).dsi = m.dsi := rfl
@[simp] theorem Kz.modPower_mem (m : Kz) (f : Power → Power) : (m.modPower f).mem = m.mem := rfl
@[simp] theorem Kz.modPower_spans (m : Kz) (f : Power → Power) : (m.modPower f).spans = m.spans := rfl
@[simp] theorem Kz.modPower_wire (m : Kz) (f : Power → Power) : (m.modPower f).wire = m.wire := rfl
@[simp] theorem Kz.modPwr_now (m : Kz) (k : Nat) (f : RgnPower → RgnPower) : (m.modPwr k f).now = m.now := rfl
@[simp] theorem Kz.modPwr_fresh (m : Kz) (k : Nat) (f : RgnPower → RgnPower) : (m.modPwr k f).fresh = m.fresh := rfl
@[simp] theorem Kz.modPwr_regs (m : Kz) (k : Nat) (f : RgnPower → RgnPower) : (m.modPwr k f).regs = m.regs := rfl
@[simp] theorem Kz.modPwr_stats (m : Kz) (k : Nat) (f : RgnPower → RgnPower) : (m.modPwr k f).stats = m.stats := rfl
@[simp] theorem Kz.modPwr_log (m : Kz) (k : Nat) (f : RgnPower → RgnPower) : (m.modPwr k f).log = m.log := rfl
@[simp] theorem Kz.modPwr_errs (m : Kz) (k : Nat) (f : RgnPower → RgnPower) : (m.modPwr k f).errs = m.errs := rfl
@[simp] theorem Kz.modPwr_pwr (m : Kz) (k : Nat) (f : RgnPower → RgnPower) : (m.modPwr k f).pwr = m.pwr := rfl
@[simp] theorem Kz.modPwr_sup (m : Kz) (k : Nat) (f : RgnPower → RgnPower) : (m.modPwr k f).sup = m.sup := rfl
@[simp] theorem Kz.modPwr_fw (m : Kz) (k : Nat) (f : RgnPower → RgnPower) : (m.modPwr k f).fw = m.fw := rfl
@[simp] theorem Kz.modPwr_trust (m : Kz) (k : Nat) (f : RgnPower → RgnPower) : (m.modPwr k f).trust = m.trust := rfl
@[simp] theorem Kz.modPwr_tb (m : Kz) (k : Nat) (f : RgnPower → RgnPower) : (m.modPwr k f).tb = m.tb := rfl
@[simp] theorem Kz.modPwr_tl (m : Kz) (k : Nat) (f : RgnPower → RgnPower) : (m.modPwr k f).tl = m.tl := rfl
@[simp] theorem Kz.modPwr_hub (m : Kz) (k : Nat) (f : RgnPower → RgnPower) : (m.modPwr k f).hub = m.hub := rfl
@[simp] theorem Kz.modPwr_ports (m : Kz) (k : Nat) (f : RgnPower → RgnPower) : (m.modPwr k f).ports = m.ports := rfl
@[simp] theorem Kz.modPwr_chans (m : Kz) (k : Nat) (f : RgnPower → RgnPower) : (m.modPwr k f).chans = m.chans := rfl
@[simp] theorem Kz.modPwr_maps (m : Kz) (k : Nat) (f : RgnPower → RgnPower) : (m.modPwr k f).maps = m.maps := rfl
@[simp] theorem Kz.modPwr_prims (m : Kz) (k : Nat) (f : RgnPower → RgnPower) : (m.modPwr k f).prims = m.prims := rfl
@[simp] theorem Kz.modPwr_tiu (m : Kz) (k : Nat) (f : RgnPower → RgnPower) : (m.modPwr k f).tiu = m.tiu := rfl
@[simp] theorem Kz.modPwr_sns (m : Kz) (k : Nat) (f : RgnPower → RgnPower) : (m.modPwr k f).sns = m.sns := rfl
@[simp] theorem Kz.modPwr_hk (m : Kz) (k : Nat) (f : RgnPower → RgnPower) : (m.modPwr k f).hk = m.hk := rfl
@[simp] theorem Kz.modPwr_age (m : Kz) (k : Nat) (f : RgnPower → RgnPower) : (m.modPwr k f).age = m.age := rfl
@[simp] theorem Kz.modPwr_dsi (m : Kz) (k : Nat) (f : RgnPower → RgnPower) : (m.modPwr k f).dsi = m.dsi := rfl
@[simp] theorem Kz.modPwr_mem (m : Kz) (k : Nat) (f : RgnPower → RgnPower) : (m.modPwr k f).mem = m.mem := rfl
@[simp] theorem Kz.modPwr_spans (m : Kz) (k : Nat) (f : RgnPower → RgnPower) : (m.modPwr k f).spans = m.spans := rfl
@[simp] theorem Kz.modPwr_wire (m : Kz) (k : Nat) (f : RgnPower → RgnPower) : (m.modPwr k f).wire = m.wire := rfl
@[simp] theorem Kz.modErr_now (m : Kz) (k : Nat) (f : RgnErr → RgnErr) : (m.modErr k f).now = m.now := rfl
@[simp] theorem Kz.modErr_fresh (m : Kz) (k : Nat) (f : RgnErr → RgnErr) : (m.modErr k f).fresh = m.fresh := rfl
@[simp] theorem Kz.modErr_regs (m : Kz) (k : Nat) (f : RgnErr → RgnErr) : (m.modErr k f).regs = m.regs := rfl
@[simp] theorem Kz.modErr_stats (m : Kz) (k : Nat) (f : RgnErr → RgnErr) : (m.modErr k f).stats = m.stats := rfl
@[simp] theorem Kz.modErr_log (m : Kz) (k : Nat) (f : RgnErr → RgnErr) : (m.modErr k f).log = m.log := rfl
@[simp] theorem Kz.modErr_errs (m : Kz) (k : Nat) (f : RgnErr → RgnErr) : (m.modErr k f).errs = m.errs := rfl
@[simp] theorem Kz.modErr_pwr (m : Kz) (k : Nat) (f : RgnErr → RgnErr) : (m.modErr k f).pwr = m.pwr := rfl
@[simp] theorem Kz.modErr_sup (m : Kz) (k : Nat) (f : RgnErr → RgnErr) : (m.modErr k f).sup = m.sup := rfl
@[simp] theorem Kz.modErr_fw (m : Kz) (k : Nat) (f : RgnErr → RgnErr) : (m.modErr k f).fw = m.fw := rfl
@[simp] theorem Kz.modErr_trust (m : Kz) (k : Nat) (f : RgnErr → RgnErr) : (m.modErr k f).trust = m.trust := rfl
@[simp] theorem Kz.modErr_tb (m : Kz) (k : Nat) (f : RgnErr → RgnErr) : (m.modErr k f).tb = m.tb := rfl
@[simp] theorem Kz.modErr_tl (m : Kz) (k : Nat) (f : RgnErr → RgnErr) : (m.modErr k f).tl = m.tl := rfl
@[simp] theorem Kz.modErr_hub (m : Kz) (k : Nat) (f : RgnErr → RgnErr) : (m.modErr k f).hub = m.hub := rfl
@[simp] theorem Kz.modErr_ports (m : Kz) (k : Nat) (f : RgnErr → RgnErr) : (m.modErr k f).ports = m.ports := rfl
@[simp] theorem Kz.modErr_chans (m : Kz) (k : Nat) (f : RgnErr → RgnErr) : (m.modErr k f).chans = m.chans := rfl
@[simp] theorem Kz.modErr_maps (m : Kz) (k : Nat) (f : RgnErr → RgnErr) : (m.modErr k f).maps = m.maps := rfl
@[simp] theorem Kz.modErr_prims (m : Kz) (k : Nat) (f : RgnErr → RgnErr) : (m.modErr k f).prims = m.prims := rfl
@[simp] theorem Kz.modErr_tiu (m : Kz) (k : Nat) (f : RgnErr → RgnErr) : (m.modErr k f).tiu = m.tiu := rfl
@[simp] theorem Kz.modErr_sns (m : Kz) (k : Nat) (f : RgnErr → RgnErr) : (m.modErr k f).sns = m.sns := rfl
@[simp] theorem Kz.modErr_hk (m : Kz) (k : Nat) (f : RgnErr → RgnErr) : (m.modErr k f).hk = m.hk := rfl
@[simp] theorem Kz.modErr_age (m : Kz) (k : Nat) (f : RgnErr → RgnErr) : (m.modErr k f).age = m.age := rfl
@[simp] theorem Kz.modErr_dsi (m : Kz) (k : Nat) (f : RgnErr → RgnErr) : (m.modErr k f).dsi = m.dsi := rfl
@[simp] theorem Kz.modErr_mem (m : Kz) (k : Nat) (f : RgnErr → RgnErr) : (m.modErr k f).mem = m.mem := rfl
@[simp] theorem Kz.modErr_spans (m : Kz) (k : Nat) (f : RgnErr → RgnErr) : (m.modErr k f).spans = m.spans := rfl
@[simp] theorem Kz.modErr_wire (m : Kz) (k : Nat) (f : RgnErr → RgnErr) : (m.modErr k f).wire = m.wire := rfl
@[simp] theorem Kz.modLane_now (m : Kz) (k : Nat) (f : Lane → Lane) : (m.modLane k f).now = m.now := rfl
@[simp] theorem Kz.modLane_fresh (m : Kz) (k : Nat) (f : Lane → Lane) : (m.modLane k f).fresh = m.fresh := rfl
@[simp] theorem Kz.modLane_regs (m : Kz) (k : Nat) (f : Lane → Lane) : (m.modLane k f).regs = m.regs := rfl
@[simp] theorem Kz.modLane_stats (m : Kz) (k : Nat) (f : Lane → Lane) : (m.modLane k f).stats = m.stats := rfl
@[simp] theorem Kz.modLane_log (m : Kz) (k : Nat) (f : Lane → Lane) : (m.modLane k f).log = m.log := rfl
@[simp] theorem Kz.modLane_errs (m : Kz) (k : Nat) (f : Lane → Lane) : (m.modLane k f).errs = m.errs := rfl
@[simp] theorem Kz.modLane_pwr (m : Kz) (k : Nat) (f : Lane → Lane) : (m.modLane k f).pwr = m.pwr := rfl
@[simp] theorem Kz.modLane_sup (m : Kz) (k : Nat) (f : Lane → Lane) : (m.modLane k f).sup = m.sup := rfl
@[simp] theorem Kz.modLane_fw (m : Kz) (k : Nat) (f : Lane → Lane) : (m.modLane k f).fw = m.fw := rfl
@[simp] theorem Kz.modLane_trust (m : Kz) (k : Nat) (f : Lane → Lane) : (m.modLane k f).trust = m.trust := rfl
@[simp] theorem Kz.modLane_tb (m : Kz) (k : Nat) (f : Lane → Lane) : (m.modLane k f).tb = m.tb := rfl
@[simp] theorem Kz.modLane_tl (m : Kz) (k : Nat) (f : Lane → Lane) : (m.modLane k f).tl = m.tl := rfl
@[simp] theorem Kz.modLane_hub (m : Kz) (k : Nat) (f : Lane → Lane) : (m.modLane k f).hub = m.hub := rfl
@[simp] theorem Kz.modLane_ports (m : Kz) (k : Nat) (f : Lane → Lane) : (m.modLane k f).ports = m.ports := rfl
@[simp] theorem Kz.modLane_chans (m : Kz) (k : Nat) (f : Lane → Lane) : (m.modLane k f).chans = m.chans := rfl
@[simp] theorem Kz.modLane_maps (m : Kz) (k : Nat) (f : Lane → Lane) : (m.modLane k f).maps = m.maps := rfl
@[simp] theorem Kz.modLane_prims (m : Kz) (k : Nat) (f : Lane → Lane) : (m.modLane k f).prims = m.prims := rfl
@[simp] theorem Kz.modLane_tiu (m : Kz) (k : Nat) (f : Lane → Lane) : (m.modLane k f).tiu = m.tiu := rfl
@[simp] theorem Kz.modLane_sns (m : Kz) (k : Nat) (f : Lane → Lane) : (m.modLane k f).sns = m.sns := rfl
@[simp] theorem Kz.modLane_hk (m : Kz) (k : Nat) (f : Lane → Lane) : (m.modLane k f).hk = m.hk := rfl
@[simp] theorem Kz.modLane_age (m : Kz) (k : Nat) (f : Lane → Lane) : (m.modLane k f).age = m.age := rfl
@[simp] theorem Kz.modLane_dsi (m : Kz) (k : Nat) (f : Lane → Lane) : (m.modLane k f).dsi = m.dsi := rfl
@[simp] theorem Kz.modLane_mem (m : Kz) (k : Nat) (f : Lane → Lane) : (m.modLane k f).mem = m.mem := rfl
@[simp] theorem Kz.modLane_spans (m : Kz) (k : Nat) (f : Lane → Lane) : (m.modLane k f).spans = m.spans := rfl
@[simp] theorem Kz.modLane_wire (m : Kz) (k : Nat) (f : Lane → Lane) : (m.modLane k f).wire = m.wire := rfl
@[simp] theorem Kz.modAcq_now (m : Kz) (k : Nat) (f : RgnAcq → RgnAcq) : (m.modAcq k f).now = m.now := rfl
@[simp] theorem Kz.modAcq_fresh (m : Kz) (k : Nat) (f : RgnAcq → RgnAcq) : (m.modAcq k f).fresh = m.fresh := rfl
@[simp] theorem Kz.modAcq_regs (m : Kz) (k : Nat) (f : RgnAcq → RgnAcq) : (m.modAcq k f).regs = m.regs := rfl
@[simp] theorem Kz.modAcq_stats (m : Kz) (k : Nat) (f : RgnAcq → RgnAcq) : (m.modAcq k f).stats = m.stats := rfl
@[simp] theorem Kz.modAcq_log (m : Kz) (k : Nat) (f : RgnAcq → RgnAcq) : (m.modAcq k f).log = m.log := rfl
@[simp] theorem Kz.modAcq_errs (m : Kz) (k : Nat) (f : RgnAcq → RgnAcq) : (m.modAcq k f).errs = m.errs := rfl
@[simp] theorem Kz.modAcq_pwr (m : Kz) (k : Nat) (f : RgnAcq → RgnAcq) : (m.modAcq k f).pwr = m.pwr := rfl
@[simp] theorem Kz.modAcq_sup (m : Kz) (k : Nat) (f : RgnAcq → RgnAcq) : (m.modAcq k f).sup = m.sup := rfl
@[simp] theorem Kz.modAcq_fw (m : Kz) (k : Nat) (f : RgnAcq → RgnAcq) : (m.modAcq k f).fw = m.fw := rfl
@[simp] theorem Kz.modAcq_trust (m : Kz) (k : Nat) (f : RgnAcq → RgnAcq) : (m.modAcq k f).trust = m.trust := rfl
@[simp] theorem Kz.modAcq_tb (m : Kz) (k : Nat) (f : RgnAcq → RgnAcq) : (m.modAcq k f).tb = m.tb := rfl
@[simp] theorem Kz.modAcq_tl (m : Kz) (k : Nat) (f : RgnAcq → RgnAcq) : (m.modAcq k f).tl = m.tl := rfl
@[simp] theorem Kz.modAcq_hub (m : Kz) (k : Nat) (f : RgnAcq → RgnAcq) : (m.modAcq k f).hub = m.hub := rfl
@[simp] theorem Kz.modAcq_ports (m : Kz) (k : Nat) (f : RgnAcq → RgnAcq) : (m.modAcq k f).ports = m.ports := rfl
@[simp] theorem Kz.modAcq_chans (m : Kz) (k : Nat) (f : RgnAcq → RgnAcq) : (m.modAcq k f).chans = m.chans := rfl
@[simp] theorem Kz.modAcq_maps (m : Kz) (k : Nat) (f : RgnAcq → RgnAcq) : (m.modAcq k f).maps = m.maps := rfl
@[simp] theorem Kz.modAcq_prims (m : Kz) (k : Nat) (f : RgnAcq → RgnAcq) : (m.modAcq k f).prims = m.prims := rfl
@[simp] theorem Kz.modAcq_tiu (m : Kz) (k : Nat) (f : RgnAcq → RgnAcq) : (m.modAcq k f).tiu = m.tiu := rfl
@[simp] theorem Kz.modAcq_sns (m : Kz) (k : Nat) (f : RgnAcq → RgnAcq) : (m.modAcq k f).sns = m.sns := rfl
@[simp] theorem Kz.modAcq_hk (m : Kz) (k : Nat) (f : RgnAcq → RgnAcq) : (m.modAcq k f).hk = m.hk := rfl
@[simp] theorem Kz.modAcq_age (m : Kz) (k : Nat) (f : RgnAcq → RgnAcq) : (m.modAcq k f).age = m.age := rfl
@[simp] theorem Kz.modAcq_dsi (m : Kz) (k : Nat) (f : RgnAcq → RgnAcq) : (m.modAcq k f).dsi = m.dsi := rfl
@[simp] theorem Kz.modAcq_mem (m : Kz) (k : Nat) (f : RgnAcq → RgnAcq) : (m.modAcq k f).mem = m.mem := rfl
@[simp] theorem Kz.modAcq_spans (m : Kz) (k : Nat) (f : RgnAcq → RgnAcq) : (m.modAcq k f).spans = m.spans := rfl
@[simp] theorem Kz.modAcq_wire (m : Kz) (k : Nat) (f : RgnAcq → RgnAcq) : (m.modAcq k f).wire = m.wire := rfl
@[simp] theorem Kz.modLg_now (m : Kz) (k : Nat) (f : LaneGroup → LaneGroup) : (m.modLg k f).now = m.now := rfl
@[simp] theorem Kz.modLg_fresh (m : Kz) (k : Nat) (f : LaneGroup → LaneGroup) : (m.modLg k f).fresh = m.fresh := rfl
@[simp] theorem Kz.modLg_regs (m : Kz) (k : Nat) (f : LaneGroup → LaneGroup) : (m.modLg k f).regs = m.regs := rfl
@[simp] theorem Kz.modLg_stats (m : Kz) (k : Nat) (f : LaneGroup → LaneGroup) : (m.modLg k f).stats = m.stats := rfl
@[simp] theorem Kz.modLg_log (m : Kz) (k : Nat) (f : LaneGroup → LaneGroup) : (m.modLg k f).log = m.log := rfl
@[simp] theorem Kz.modLg_errs (m : Kz) (k : Nat) (f : LaneGroup → LaneGroup) : (m.modLg k f).errs = m.errs := rfl
@[simp] theorem Kz.modLg_pwr (m : Kz) (k : Nat) (f : LaneGroup → LaneGroup) : (m.modLg k f).pwr = m.pwr := rfl
@[simp] theorem Kz.modLg_sup (m : Kz) (k : Nat) (f : LaneGroup → LaneGroup) : (m.modLg k f).sup = m.sup := rfl
@[simp] theorem Kz.modLg_fw (m : Kz) (k : Nat) (f : LaneGroup → LaneGroup) : (m.modLg k f).fw = m.fw := rfl
@[simp] theorem Kz.modLg_trust (m : Kz) (k : Nat) (f : LaneGroup → LaneGroup) : (m.modLg k f).trust = m.trust := rfl
@[simp] theorem Kz.modLg_tb (m : Kz) (k : Nat) (f : LaneGroup → LaneGroup) : (m.modLg k f).tb = m.tb := rfl
@[simp] theorem Kz.modLg_tl (m : Kz) (k : Nat) (f : LaneGroup → LaneGroup) : (m.modLg k f).tl = m.tl := rfl
@[simp] theorem Kz.modLg_hub (m : Kz) (k : Nat) (f : LaneGroup → LaneGroup) : (m.modLg k f).hub = m.hub := rfl
@[simp] theorem Kz.modLg_ports (m : Kz) (k : Nat) (f : LaneGroup → LaneGroup) : (m.modLg k f).ports = m.ports := rfl
@[simp] theorem Kz.modLg_chans (m : Kz) (k : Nat) (f : LaneGroup → LaneGroup) : (m.modLg k f).chans = m.chans := rfl
@[simp] theorem Kz.modLg_maps (m : Kz) (k : Nat) (f : LaneGroup → LaneGroup) : (m.modLg k f).maps = m.maps := rfl
@[simp] theorem Kz.modLg_prims (m : Kz) (k : Nat) (f : LaneGroup → LaneGroup) : (m.modLg k f).prims = m.prims := rfl
@[simp] theorem Kz.modLg_tiu (m : Kz) (k : Nat) (f : LaneGroup → LaneGroup) : (m.modLg k f).tiu = m.tiu := rfl
@[simp] theorem Kz.modLg_sns (m : Kz) (k : Nat) (f : LaneGroup → LaneGroup) : (m.modLg k f).sns = m.sns := rfl
@[simp] theorem Kz.modLg_hk (m : Kz) (k : Nat) (f : LaneGroup → LaneGroup) : (m.modLg k f).hk = m.hk := rfl
@[simp] theorem Kz.modLg_age (m : Kz) (k : Nat) (f : LaneGroup → LaneGroup) : (m.modLg k f).age = m.age := rfl
@[simp] theorem Kz.modLg_dsi (m : Kz) (k : Nat) (f : LaneGroup → LaneGroup) : (m.modLg k f).dsi = m.dsi := rfl
@[simp] theorem Kz.modLg_mem (m : Kz) (k : Nat) (f : LaneGroup → LaneGroup) : (m.modLg k f).mem = m.mem := rfl
@[simp] theorem Kz.modLg_spans (m : Kz) (k : Nat) (f : LaneGroup → LaneGroup) : (m.modLg k f).spans = m.spans := rfl
@[simp] theorem Kz.modLg_wire (m : Kz) (k : Nat) (f : LaneGroup → LaneGroup) : (m.modLg k f).wire = m.wire := rfl
@[simp] theorem Kz.modAcc_now (m : Kz) (k : Nat) (f : RgnAccum → RgnAccum) : (m.modAcc k f).now = m.now := rfl
@[simp] theorem Kz.modAcc_fresh (m : Kz) (k : Nat) (f : RgnAccum → RgnAccum) : (m.modAcc k f).fresh = m.fresh := rfl
@[simp] theorem Kz.modAcc_regs (m : Kz) (k : Nat) (f : RgnAccum → RgnAccum) : (m.modAcc k f).regs = m.regs := rfl
@[simp] theorem Kz.modAcc_stats (m : Kz) (k : Nat) (f : RgnAccum → RgnAccum) : (m.modAcc k f).stats = m.stats := rfl
@[simp] theorem Kz.modAcc_log (m : Kz) (k : Nat) (f : RgnAccum → RgnAccum) : (m.modAcc k f).log = m.log := rfl
@[simp] theorem Kz.modAcc_errs (m : Kz) (k : Nat) (f : RgnAccum → RgnAccum) : (m.modAcc k f).errs = m.errs := rfl
@[simp] theorem Kz.modAcc_pwr (m : Kz) (k : Nat) (f : RgnAccum → RgnAccum) : (m.modAcc k f).pwr = m.pwr := rfl
@[simp] theorem Kz.modAcc_sup (m : Kz) (k : Nat) (f : RgnAccum → RgnAccum) : (m.modAcc k f).sup = m.sup := rfl
@[simp] theorem Kz.modAcc_fw (m : Kz) (k : Nat) (f : RgnAccum → RgnAccum) : (m.modAcc k f).fw = m.fw := rfl
@[simp] theorem Kz.modAcc_trust (m : Kz) (k : Nat) (f : RgnAccum → RgnAccum) : (m.modAcc k f).trust = m.trust := rfl
@[simp] theorem Kz.modAcc_tb (m : Kz) (k : Nat) (f : RgnAccum → RgnAccum) : (m.modAcc k f).tb = m.tb := rfl
@[simp] theorem Kz.modAcc_tl (m : Kz) (k : Nat) (f : RgnAccum → RgnAccum) : (m.modAcc k f).tl = m.tl := rfl
@[simp] theorem Kz.modAcc_hub (m : Kz) (k : Nat) (f : RgnAccum → RgnAccum) : (m.modAcc k f).hub = m.hub := rfl
@[simp] theorem Kz.modAcc_ports (m : Kz) (k : Nat) (f : RgnAccum → RgnAccum) : (m.modAcc k f).ports = m.ports := rfl
@[simp] theorem Kz.modAcc_chans (m : Kz) (k : Nat) (f : RgnAccum → RgnAccum) : (m.modAcc k f).chans = m.chans := rfl
@[simp] theorem Kz.modAcc_maps (m : Kz) (k : Nat) (f : RgnAccum → RgnAccum) : (m.modAcc k f).maps = m.maps := rfl
@[simp] theorem Kz.modAcc_prims (m : Kz) (k : Nat) (f : RgnAccum → RgnAccum) : (m.modAcc k f).prims = m.prims := rfl
@[simp] theorem Kz.modAcc_tiu (m : Kz) (k : Nat) (f : RgnAccum → RgnAccum) : (m.modAcc k f).tiu = m.tiu := rfl
@[simp] theorem Kz.modAcc_sns (m : Kz) (k : Nat) (f : RgnAccum → RgnAccum) : (m.modAcc k f).sns = m.sns := rfl
@[simp] theorem Kz.modAcc_hk (m : Kz) (k : Nat) (f : RgnAccum → RgnAccum) : (m.modAcc k f).hk = m.hk := rfl
@[simp] theorem Kz.modAcc_age (m : Kz) (k : Nat) (f : RgnAccum → RgnAccum) : (m.modAcc k f).age = m.age := rfl
@[simp] theorem Kz.modAcc_dsi (m : Kz) (k : Nat) (f : RgnAccum → RgnAccum) : (m.modAcc k f).dsi = m.dsi := rfl
@[simp] theorem Kz.modAcc_mem (m : Kz) (k : Nat) (f : RgnAccum → RgnAccum) : (m.modAcc k f).mem = m.mem := rfl
@[simp] theorem Kz.modAcc_spans (m : Kz) (k : Nat) (f : RgnAccum → RgnAccum) : (m.modAcc k f).spans = m.spans := rfl
@[simp] theorem Kz.modAcc_wire (m : Kz) (k : Nat) (f : RgnAccum → RgnAccum) : (m.modAcc k f).wire = m.wire := rfl
@[simp] theorem Kz.modFe_now (m : Kz) (c : Nat) (f : FrontEnd → FrontEnd) : (m.modFe c f).now = m.now := rfl
@[simp] theorem Kz.modFe_fresh (m : Kz) (c : Nat) (f : FrontEnd → FrontEnd) : (m.modFe c f).fresh = m.fresh := rfl
@[simp] theorem Kz.modFe_regs (m : Kz) (c : Nat) (f : FrontEnd → FrontEnd) : (m.modFe c f).regs = m.regs := rfl
@[simp] theorem Kz.modFe_stats (m : Kz) (c : Nat) (f : FrontEnd → FrontEnd) : (m.modFe c f).stats = m.stats := rfl
@[simp] theorem Kz.modFe_log (m : Kz) (c : Nat) (f : FrontEnd → FrontEnd) : (m.modFe c f).log = m.log := rfl
@[simp] theorem Kz.modFe_errs (m : Kz) (c : Nat) (f : FrontEnd → FrontEnd) : (m.modFe c f).errs = m.errs := rfl
@[simp] theorem Kz.modFe_pwr (m : Kz) (c : Nat) (f : FrontEnd → FrontEnd) : (m.modFe c f).pwr = m.pwr := rfl
@[simp] theorem Kz.modFe_sup (m : Kz) (c : Nat) (f : FrontEnd → FrontEnd) : (m.modFe c f).sup = m.sup := rfl
@[simp] theorem Kz.modFe_fw (m : Kz) (c : Nat) (f : FrontEnd → FrontEnd) : (m.modFe c f).fw = m.fw := rfl
@[simp] theorem Kz.modFe_trust (m : Kz) (c : Nat) (f : FrontEnd → FrontEnd) : (m.modFe c f).trust = m.trust := rfl
@[simp] theorem Kz.modFe_tb (m : Kz) (c : Nat) (f : FrontEnd → FrontEnd) : (m.modFe c f).tb = m.tb := rfl
@[simp] theorem Kz.modFe_tl (m : Kz) (c : Nat) (f : FrontEnd → FrontEnd) : (m.modFe c f).tl = m.tl := rfl
@[simp] theorem Kz.modFe_hub (m : Kz) (c : Nat) (f : FrontEnd → FrontEnd) : (m.modFe c f).hub = m.hub := rfl
@[simp] theorem Kz.modFe_ports (m : Kz) (c : Nat) (f : FrontEnd → FrontEnd) : (m.modFe c f).ports = m.ports := rfl
@[simp] theorem Kz.modFe_rgns (m : Kz) (c : Nat) (f : FrontEnd → FrontEnd) : (m.modFe c f).rgns = m.rgns := rfl
@[simp] theorem Kz.modFe_maps (m : Kz) (c : Nat) (f : FrontEnd → FrontEnd) : (m.modFe c f).maps = m.maps := rfl
@[simp] theorem Kz.modFe_prims (m : Kz) (c : Nat) (f : FrontEnd → FrontEnd) : (m.modFe c f).prims = m.prims := rfl
@[simp] theorem Kz.modFe_tiu (m : Kz) (c : Nat) (f : FrontEnd → FrontEnd) : (m.modFe c f).tiu = m.tiu := rfl
@[simp] theorem Kz.modFe_sns (m : Kz) (c : Nat) (f : FrontEnd → FrontEnd) : (m.modFe c f).sns = m.sns := rfl
@[simp] theorem Kz.modFe_hk (m : Kz) (c : Nat) (f : FrontEnd → FrontEnd) : (m.modFe c f).hk = m.hk := rfl
@[simp] theorem Kz.modFe_age (m : Kz) (c : Nat) (f : FrontEnd → FrontEnd) : (m.modFe c f).age = m.age := rfl
@[simp] theorem Kz.modFe_dsi (m : Kz) (c : Nat) (f : FrontEnd → FrontEnd) : (m.modFe c f).dsi = m.dsi := rfl
@[simp] theorem Kz.modFe_mem (m : Kz) (c : Nat) (f : FrontEnd → FrontEnd) : (m.modFe c f).mem = m.mem := rfl
@[simp] theorem Kz.modFe_spans (m : Kz) (c : Nat) (f : FrontEnd → FrontEnd) : (m.modFe c f).spans = m.spans := rfl
@[simp] theorem Kz.modFe_wire (m : Kz) (c : Nat) (f : FrontEnd → FrontEnd) : (m.modFe c f).wire = m.wire := rfl
@[simp] theorem Kz.modConv_now (m : Kz) (c : Nat) (f : Conv → Conv) : (m.modConv c f).now = m.now := rfl
@[simp] theorem Kz.modConv_fresh (m : Kz) (c : Nat) (f : Conv → Conv) : (m.modConv c f).fresh = m.fresh := rfl
@[simp] theorem Kz.modConv_regs (m : Kz) (c : Nat) (f : Conv → Conv) : (m.modConv c f).regs = m.regs := rfl
@[simp] theorem Kz.modConv_stats (m : Kz) (c : Nat) (f : Conv → Conv) : (m.modConv c f).stats = m.stats := rfl
@[simp] theorem Kz.modConv_log (m : Kz) (c : Nat) (f : Conv → Conv) : (m.modConv c f).log = m.log := rfl
@[simp] theorem Kz.modConv_errs (m : Kz) (c : Nat) (f : Conv → Conv) : (m.modConv c f).errs = m.errs := rfl
@[simp] theorem Kz.modConv_pwr (m : Kz) (c : Nat) (f : Conv → Conv) : (m.modConv c f).pwr = m.pwr := rfl
@[simp] theorem Kz.modConv_sup (m : Kz) (c : Nat) (f : Conv → Conv) : (m.modConv c f).sup = m.sup := rfl
@[simp] theorem Kz.modConv_fw (m : Kz) (c : Nat) (f : Conv → Conv) : (m.modConv c f).fw = m.fw := rfl
@[simp] theorem Kz.modConv_trust (m : Kz) (c : Nat) (f : Conv → Conv) : (m.modConv c f).trust = m.trust := rfl
@[simp] theorem Kz.modConv_tb (m : Kz) (c : Nat) (f : Conv → Conv) : (m.modConv c f).tb = m.tb := rfl
@[simp] theorem Kz.modConv_tl (m : Kz) (c : Nat) (f : Conv → Conv) : (m.modConv c f).tl = m.tl := rfl
@[simp] theorem Kz.modConv_hub (m : Kz) (c : Nat) (f : Conv → Conv) : (m.modConv c f).hub = m.hub := rfl
@[simp] theorem Kz.modConv_ports (m : Kz) (c : Nat) (f : Conv → Conv) : (m.modConv c f).ports = m.ports := rfl
@[simp] theorem Kz.modConv_rgns (m : Kz) (c : Nat) (f : Conv → Conv) : (m.modConv c f).rgns = m.rgns := rfl
@[simp] theorem Kz.modConv_maps (m : Kz) (c : Nat) (f : Conv → Conv) : (m.modConv c f).maps = m.maps := rfl
@[simp] theorem Kz.modConv_prims (m : Kz) (c : Nat) (f : Conv → Conv) : (m.modConv c f).prims = m.prims := rfl
@[simp] theorem Kz.modConv_tiu (m : Kz) (c : Nat) (f : Conv → Conv) : (m.modConv c f).tiu = m.tiu := rfl
@[simp] theorem Kz.modConv_sns (m : Kz) (c : Nat) (f : Conv → Conv) : (m.modConv c f).sns = m.sns := rfl
@[simp] theorem Kz.modConv_hk (m : Kz) (c : Nat) (f : Conv → Conv) : (m.modConv c f).hk = m.hk := rfl
@[simp] theorem Kz.modConv_age (m : Kz) (c : Nat) (f : Conv → Conv) : (m.modConv c f).age = m.age := rfl
@[simp] theorem Kz.modConv_dsi (m : Kz) (c : Nat) (f : Conv → Conv) : (m.modConv c f).dsi = m.dsi := rfl
@[simp] theorem Kz.modConv_mem (m : Kz) (c : Nat) (f : Conv → Conv) : (m.modConv c f).mem = m.mem := rfl
@[simp] theorem Kz.modConv_spans (m : Kz) (c : Nat) (f : Conv → Conv) : (m.modConv c f).spans = m.spans := rfl
@[simp] theorem Kz.modConv_wire (m : Kz) (c : Nat) (f : Conv → Conv) : (m.modConv c f).wire = m.wire := rfl
@[simp] theorem Kz.modChain_now (m : Kz) (c : Nat) (f : Chain → Chain) : (m.modChain c f).now = m.now := rfl
@[simp] theorem Kz.modChain_fresh (m : Kz) (c : Nat) (f : Chain → Chain) : (m.modChain c f).fresh = m.fresh := rfl
@[simp] theorem Kz.modChain_regs (m : Kz) (c : Nat) (f : Chain → Chain) : (m.modChain c f).regs = m.regs := rfl
@[simp] theorem Kz.modChain_stats (m : Kz) (c : Nat) (f : Chain → Chain) : (m.modChain c f).stats = m.stats := rfl
@[simp] theorem Kz.modChain_log (m : Kz) (c : Nat) (f : Chain → Chain) : (m.modChain c f).log = m.log := rfl
@[simp] theorem Kz.modChain_errs (m : Kz) (c : Nat) (f : Chain → Chain) : (m.modChain c f).errs = m.errs := rfl
@[simp] theorem Kz.modChain_pwr (m : Kz) (c : Nat) (f : Chain → Chain) : (m.modChain c f).pwr = m.pwr := rfl
@[simp] theorem Kz.modChain_sup (m : Kz) (c : Nat) (f : Chain → Chain) : (m.modChain c f).sup = m.sup := rfl
@[simp] theorem Kz.modChain_fw (m : Kz) (c : Nat) (f : Chain → Chain) : (m.modChain c f).fw = m.fw := rfl
@[simp] theorem Kz.modChain_trust (m : Kz) (c : Nat) (f : Chain → Chain) : (m.modChain c f).trust = m.trust := rfl
@[simp] theorem Kz.modChain_tb (m : Kz) (c : Nat) (f : Chain → Chain) : (m.modChain c f).tb = m.tb := rfl
@[simp] theorem Kz.modChain_tl (m : Kz) (c : Nat) (f : Chain → Chain) : (m.modChain c f).tl = m.tl := rfl
@[simp] theorem Kz.modChain_hub (m : Kz) (c : Nat) (f : Chain → Chain) : (m.modChain c f).hub = m.hub := rfl
@[simp] theorem Kz.modChain_ports (m : Kz) (c : Nat) (f : Chain → Chain) : (m.modChain c f).ports = m.ports := rfl
@[simp] theorem Kz.modChain_rgns (m : Kz) (c : Nat) (f : Chain → Chain) : (m.modChain c f).rgns = m.rgns := rfl
@[simp] theorem Kz.modChain_maps (m : Kz) (c : Nat) (f : Chain → Chain) : (m.modChain c f).maps = m.maps := rfl
@[simp] theorem Kz.modChain_prims (m : Kz) (c : Nat) (f : Chain → Chain) : (m.modChain c f).prims = m.prims := rfl
@[simp] theorem Kz.modChain_tiu (m : Kz) (c : Nat) (f : Chain → Chain) : (m.modChain c f).tiu = m.tiu := rfl
@[simp] theorem Kz.modChain_sns (m : Kz) (c : Nat) (f : Chain → Chain) : (m.modChain c f).sns = m.sns := rfl
@[simp] theorem Kz.modChain_hk (m : Kz) (c : Nat) (f : Chain → Chain) : (m.modChain c f).hk = m.hk := rfl
@[simp] theorem Kz.modChain_age (m : Kz) (c : Nat) (f : Chain → Chain) : (m.modChain c f).age = m.age := rfl
@[simp] theorem Kz.modChain_dsi (m : Kz) (c : Nat) (f : Chain → Chain) : (m.modChain c f).dsi = m.dsi := rfl
@[simp] theorem Kz.modChain_mem (m : Kz) (c : Nat) (f : Chain → Chain) : (m.modChain c f).mem = m.mem := rfl
@[simp] theorem Kz.modChain_spans (m : Kz) (c : Nat) (f : Chain → Chain) : (m.modChain c f).spans = m.spans := rfl
@[simp] theorem Kz.modChain_wire (m : Kz) (c : Nat) (f : Chain → Chain) : (m.modChain c f).wire = m.wire := rfl
@[simp] theorem Kz.modTrig_now (m : Kz) (c : Nat) (f : Trig → Trig) : (m.modTrig c f).now = m.now := rfl
@[simp] theorem Kz.modTrig_fresh (m : Kz) (c : Nat) (f : Trig → Trig) : (m.modTrig c f).fresh = m.fresh := rfl
@[simp] theorem Kz.modTrig_regs (m : Kz) (c : Nat) (f : Trig → Trig) : (m.modTrig c f).regs = m.regs := rfl
@[simp] theorem Kz.modTrig_stats (m : Kz) (c : Nat) (f : Trig → Trig) : (m.modTrig c f).stats = m.stats := rfl
@[simp] theorem Kz.modTrig_log (m : Kz) (c : Nat) (f : Trig → Trig) : (m.modTrig c f).log = m.log := rfl
@[simp] theorem Kz.modTrig_errs (m : Kz) (c : Nat) (f : Trig → Trig) : (m.modTrig c f).errs = m.errs := rfl
@[simp] theorem Kz.modTrig_pwr (m : Kz) (c : Nat) (f : Trig → Trig) : (m.modTrig c f).pwr = m.pwr := rfl
@[simp] theorem Kz.modTrig_sup (m : Kz) (c : Nat) (f : Trig → Trig) : (m.modTrig c f).sup = m.sup := rfl
@[simp] theorem Kz.modTrig_fw (m : Kz) (c : Nat) (f : Trig → Trig) : (m.modTrig c f).fw = m.fw := rfl
@[simp] theorem Kz.modTrig_trust (m : Kz) (c : Nat) (f : Trig → Trig) : (m.modTrig c f).trust = m.trust := rfl
@[simp] theorem Kz.modTrig_tb (m : Kz) (c : Nat) (f : Trig → Trig) : (m.modTrig c f).tb = m.tb := rfl
@[simp] theorem Kz.modTrig_tl (m : Kz) (c : Nat) (f : Trig → Trig) : (m.modTrig c f).tl = m.tl := rfl
@[simp] theorem Kz.modTrig_hub (m : Kz) (c : Nat) (f : Trig → Trig) : (m.modTrig c f).hub = m.hub := rfl
@[simp] theorem Kz.modTrig_ports (m : Kz) (c : Nat) (f : Trig → Trig) : (m.modTrig c f).ports = m.ports := rfl
@[simp] theorem Kz.modTrig_rgns (m : Kz) (c : Nat) (f : Trig → Trig) : (m.modTrig c f).rgns = m.rgns := rfl
@[simp] theorem Kz.modTrig_maps (m : Kz) (c : Nat) (f : Trig → Trig) : (m.modTrig c f).maps = m.maps := rfl
@[simp] theorem Kz.modTrig_prims (m : Kz) (c : Nat) (f : Trig → Trig) : (m.modTrig c f).prims = m.prims := rfl
@[simp] theorem Kz.modTrig_tiu (m : Kz) (c : Nat) (f : Trig → Trig) : (m.modTrig c f).tiu = m.tiu := rfl
@[simp] theorem Kz.modTrig_sns (m : Kz) (c : Nat) (f : Trig → Trig) : (m.modTrig c f).sns = m.sns := rfl
@[simp] theorem Kz.modTrig_hk (m : Kz) (c : Nat) (f : Trig → Trig) : (m.modTrig c f).hk = m.hk := rfl
@[simp] theorem Kz.modTrig_age (m : Kz) (c : Nat) (f : Trig → Trig) : (m.modTrig c f).age = m.age := rfl
@[simp] theorem Kz.modTrig_dsi (m : Kz) (c : Nat) (f : Trig → Trig) : (m.modTrig c f).dsi = m.dsi := rfl
@[simp] theorem Kz.modTrig_mem (m : Kz) (c : Nat) (f : Trig → Trig) : (m.modTrig c f).mem = m.mem := rfl
@[simp] theorem Kz.modTrig_spans (m : Kz) (c : Nat) (f : Trig → Trig) : (m.modTrig c f).spans = m.spans := rfl
@[simp] theorem Kz.modTrig_wire (m : Kz) (c : Nat) (f : Trig → Trig) : (m.modTrig c f).wire = m.wire := rfl
@[simp] theorem Kz.modMem_now (m : Kz) (c : Nat) (f : Memory → Memory) : (m.modMem c f).now = m.now := rfl
@[simp] theorem Kz.modMem_fresh (m : Kz) (c : Nat) (f : Memory → Memory) : (m.modMem c f).fresh = m.fresh := rfl
@[simp] theorem Kz.modMem_regs (m : Kz) (c : Nat) (f : Memory → Memory) : (m.modMem c f).regs = m.regs := rfl
@[simp] theorem Kz.modMem_stats (m : Kz) (c : Nat) (f : Memory → Memory) : (m.modMem c f).stats = m.stats := rfl
@[simp] theorem Kz.modMem_log (m : Kz) (c : Nat) (f : Memory → Memory) : (m.modMem c f).log = m.log := rfl
@[simp] theorem Kz.modMem_errs (m : Kz) (c : Nat) (f : Memory → Memory) : (m.modMem c f).errs = m.errs := rfl
@[simp] theorem Kz.modMem_pwr (m : Kz) (c : Nat) (f : Memory → Memory) : (m.modMem c f).pwr = m.pwr := rfl
@[simp] theorem Kz.modMem_sup (m : Kz) (c : Nat) (f : Memory → Memory) : (m.modMem c f).sup = m.sup := rfl
@[simp] theorem Kz.modMem_fw (m : Kz) (c : Nat) (f : Memory → Memory) : (m.modMem c f).fw = m.fw := rfl
@[simp] theorem Kz.modMem_trust (m : Kz) (c : Nat) (f : Memory → Memory) : (m.modMem c f).trust = m.trust := rfl
@[simp] theorem Kz.modMem_tb (m : Kz) (c : Nat) (f : Memory → Memory) : (m.modMem c f).tb = m.tb := rfl
@[simp] theorem Kz.modMem_tl (m : Kz) (c : Nat) (f : Memory → Memory) : (m.modMem c f).tl = m.tl := rfl
@[simp] theorem Kz.modMem_hub (m : Kz) (c : Nat) (f : Memory → Memory) : (m.modMem c f).hub = m.hub := rfl
@[simp] theorem Kz.modMem_ports (m : Kz) (c : Nat) (f : Memory → Memory) : (m.modMem c f).ports = m.ports := rfl
@[simp] theorem Kz.modMem_rgns (m : Kz) (c : Nat) (f : Memory → Memory) : (m.modMem c f).rgns = m.rgns := rfl
@[simp] theorem Kz.modMem_maps (m : Kz) (c : Nat) (f : Memory → Memory) : (m.modMem c f).maps = m.maps := rfl
@[simp] theorem Kz.modMem_prims (m : Kz) (c : Nat) (f : Memory → Memory) : (m.modMem c f).prims = m.prims := rfl
@[simp] theorem Kz.modMem_tiu (m : Kz) (c : Nat) (f : Memory → Memory) : (m.modMem c f).tiu = m.tiu := rfl
@[simp] theorem Kz.modMem_sns (m : Kz) (c : Nat) (f : Memory → Memory) : (m.modMem c f).sns = m.sns := rfl
@[simp] theorem Kz.modMem_hk (m : Kz) (c : Nat) (f : Memory → Memory) : (m.modMem c f).hk = m.hk := rfl
@[simp] theorem Kz.modMem_age (m : Kz) (c : Nat) (f : Memory → Memory) : (m.modMem c f).age = m.age := rfl
@[simp] theorem Kz.modMem_dsi (m : Kz) (c : Nat) (f : Memory → Memory) : (m.modMem c f).dsi = m.dsi := rfl
@[simp] theorem Kz.modMem_mem (m : Kz) (c : Nat) (f : Memory → Memory) : (m.modMem c f).mem = m.mem := rfl
@[simp] theorem Kz.modMem_spans (m : Kz) (c : Nat) (f : Memory → Memory) : (m.modMem c f).spans = m.spans := rfl
@[simp] theorem Kz.modMem_wire (m : Kz) (c : Nat) (f : Memory → Memory) : (m.modMem c f).wire = m.wire := rfl
@[simp] theorem Kz.modEng_now (m : Kz) (c : Nat) (f : Engine → Engine) : (m.modEng c f).now = m.now := rfl
@[simp] theorem Kz.modEng_fresh (m : Kz) (c : Nat) (f : Engine → Engine) : (m.modEng c f).fresh = m.fresh := rfl
@[simp] theorem Kz.modEng_regs (m : Kz) (c : Nat) (f : Engine → Engine) : (m.modEng c f).regs = m.regs := rfl
@[simp] theorem Kz.modEng_stats (m : Kz) (c : Nat) (f : Engine → Engine) : (m.modEng c f).stats = m.stats := rfl
@[simp] theorem Kz.modEng_log (m : Kz) (c : Nat) (f : Engine → Engine) : (m.modEng c f).log = m.log := rfl
@[simp] theorem Kz.modEng_errs (m : Kz) (c : Nat) (f : Engine → Engine) : (m.modEng c f).errs = m.errs := rfl
@[simp] theorem Kz.modEng_pwr (m : Kz) (c : Nat) (f : Engine → Engine) : (m.modEng c f).pwr = m.pwr := rfl
@[simp] theorem Kz.modEng_sup (m : Kz) (c : Nat) (f : Engine → Engine) : (m.modEng c f).sup = m.sup := rfl
@[simp] theorem Kz.modEng_fw (m : Kz) (c : Nat) (f : Engine → Engine) : (m.modEng c f).fw = m.fw := rfl
@[simp] theorem Kz.modEng_trust (m : Kz) (c : Nat) (f : Engine → Engine) : (m.modEng c f).trust = m.trust := rfl
@[simp] theorem Kz.modEng_tb (m : Kz) (c : Nat) (f : Engine → Engine) : (m.modEng c f).tb = m.tb := rfl
@[simp] theorem Kz.modEng_tl (m : Kz) (c : Nat) (f : Engine → Engine) : (m.modEng c f).tl = m.tl := rfl
@[simp] theorem Kz.modEng_hub (m : Kz) (c : Nat) (f : Engine → Engine) : (m.modEng c f).hub = m.hub := rfl
@[simp] theorem Kz.modEng_ports (m : Kz) (c : Nat) (f : Engine → Engine) : (m.modEng c f).ports = m.ports := rfl
@[simp] theorem Kz.modEng_rgns (m : Kz) (c : Nat) (f : Engine → Engine) : (m.modEng c f).rgns = m.rgns := rfl
@[simp] theorem Kz.modEng_maps (m : Kz) (c : Nat) (f : Engine → Engine) : (m.modEng c f).maps = m.maps := rfl
@[simp] theorem Kz.modEng_prims (m : Kz) (c : Nat) (f : Engine → Engine) : (m.modEng c f).prims = m.prims := rfl
@[simp] theorem Kz.modEng_tiu (m : Kz) (c : Nat) (f : Engine → Engine) : (m.modEng c f).tiu = m.tiu := rfl
@[simp] theorem Kz.modEng_sns (m : Kz) (c : Nat) (f : Engine → Engine) : (m.modEng c f).sns = m.sns := rfl
@[simp] theorem Kz.modEng_hk (m : Kz) (c : Nat) (f : Engine → Engine) : (m.modEng c f).hk = m.hk := rfl
@[simp] theorem Kz.modEng_age (m : Kz) (c : Nat) (f : Engine → Engine) : (m.modEng c f).age = m.age := rfl
@[simp] theorem Kz.modEng_dsi (m : Kz) (c : Nat) (f : Engine → Engine) : (m.modEng c f).dsi = m.dsi := rfl
@[simp] theorem Kz.modEng_mem (m : Kz) (c : Nat) (f : Engine → Engine) : (m.modEng c f).mem = m.mem := rfl
@[simp] theorem Kz.modEng_spans (m : Kz) (c : Nat) (f : Engine → Engine) : (m.modEng c f).spans = m.spans := rfl
@[simp] theorem Kz.modEng_wire (m : Kz) (c : Nat) (f : Engine → Engine) : (m.modEng c f).wire = m.wire := rfl
@[simp] theorem Kz.setCfg_now (m : Kz) (k : RegKind) (i : Nat) (w : Word) : (m.setCfg k i w).now = m.now := rfl
@[simp] theorem Kz.setCfg_fresh (m : Kz) (k : RegKind) (i : Nat) (w : Word) : (m.setCfg k i w).fresh = m.fresh := rfl
@[simp] theorem Kz.setCfg_stats (m : Kz) (k : RegKind) (i : Nat) (w : Word) : (m.setCfg k i w).stats = m.stats := rfl
@[simp] theorem Kz.setCfg_log (m : Kz) (k : RegKind) (i : Nat) (w : Word) : (m.setCfg k i w).log = m.log := rfl
@[simp] theorem Kz.setCfg_errs (m : Kz) (k : RegKind) (i : Nat) (w : Word) : (m.setCfg k i w).errs = m.errs := rfl
@[simp] theorem Kz.setCfg_pwr (m : Kz) (k : RegKind) (i : Nat) (w : Word) : (m.setCfg k i w).pwr = m.pwr := rfl
@[simp] theorem Kz.setCfg_sup (m : Kz) (k : RegKind) (i : Nat) (w : Word) : (m.setCfg k i w).sup = m.sup := rfl
@[simp] theorem Kz.setCfg_fw (m : Kz) (k : RegKind) (i : Nat) (w : Word) : (m.setCfg k i w).fw = m.fw := rfl
@[simp] theorem Kz.setCfg_trust (m : Kz) (k : RegKind) (i : Nat) (w : Word) : (m.setCfg k i w).trust = m.trust := rfl
@[simp] theorem Kz.setCfg_tb (m : Kz) (k : RegKind) (i : Nat) (w : Word) : (m.setCfg k i w).tb = m.tb := rfl
@[simp] theorem Kz.setCfg_tl (m : Kz) (k : RegKind) (i : Nat) (w : Word) : (m.setCfg k i w).tl = m.tl := rfl
@[simp] theorem Kz.setCfg_hub (m : Kz) (k : RegKind) (i : Nat) (w : Word) : (m.setCfg k i w).hub = m.hub := rfl
@[simp] theorem Kz.setCfg_ports (m : Kz) (k : RegKind) (i : Nat) (w : Word) : (m.setCfg k i w).ports = m.ports := rfl
@[simp] theorem Kz.setCfg_rgns (m : Kz) (k : RegKind) (i : Nat) (w : Word) : (m.setCfg k i w).rgns = m.rgns := rfl
@[simp] theorem Kz.setCfg_chans (m : Kz) (k : RegKind) (i : Nat) (w : Word) : (m.setCfg k i w).chans = m.chans := rfl
@[simp] theorem Kz.setCfg_maps (m : Kz) (k : RegKind) (i : Nat) (w : Word) : (m.setCfg k i w).maps = m.maps := rfl
@[simp] theorem Kz.setCfg_prims (m : Kz) (k : RegKind) (i : Nat) (w : Word) : (m.setCfg k i w).prims = m.prims := rfl
@[simp] theorem Kz.setCfg_tiu (m : Kz) (k : RegKind) (i : Nat) (w : Word) : (m.setCfg k i w).tiu = m.tiu := rfl
@[simp] theorem Kz.setCfg_sns (m : Kz) (k : RegKind) (i : Nat) (w : Word) : (m.setCfg k i w).sns = m.sns := rfl
@[simp] theorem Kz.setCfg_hk (m : Kz) (k : RegKind) (i : Nat) (w : Word) : (m.setCfg k i w).hk = m.hk := rfl
@[simp] theorem Kz.setCfg_age (m : Kz) (k : RegKind) (i : Nat) (w : Word) : (m.setCfg k i w).age = m.age := rfl
@[simp] theorem Kz.setCfg_dsi (m : Kz) (k : RegKind) (i : Nat) (w : Word) : (m.setCfg k i w).dsi = m.dsi := rfl
@[simp] theorem Kz.setCfg_mem (m : Kz) (k : RegKind) (i : Nat) (w : Word) : (m.setCfg k i w).mem = m.mem := rfl
@[simp] theorem Kz.setCfg_spans (m : Kz) (k : RegKind) (i : Nat) (w : Word) : (m.setCfg k i w).spans = m.spans := rfl
@[simp] theorem Kz.setCfg_wire (m : Kz) (k : RegKind) (i : Nat) (w : Word) : (m.setCfg k i w).wire = m.wire := rfl
@[simp] theorem Kz.setFld_now (m : Kz) (f : Field) (i v : Nat) : (m.setFld f i v).now = m.now := rfl
@[simp] theorem Kz.setFld_fresh (m : Kz) (f : Field) (i v : Nat) : (m.setFld f i v).fresh = m.fresh := rfl
@[simp] theorem Kz.setFld_stats (m : Kz) (f : Field) (i v : Nat) : (m.setFld f i v).stats = m.stats := rfl
@[simp] theorem Kz.setFld_log (m : Kz) (f : Field) (i v : Nat) : (m.setFld f i v).log = m.log := rfl
@[simp] theorem Kz.setFld_errs (m : Kz) (f : Field) (i v : Nat) : (m.setFld f i v).errs = m.errs := rfl
@[simp] theorem Kz.setFld_pwr (m : Kz) (f : Field) (i v : Nat) : (m.setFld f i v).pwr = m.pwr := rfl
@[simp] theorem Kz.setFld_sup (m : Kz) (f : Field) (i v : Nat) : (m.setFld f i v).sup = m.sup := rfl
@[simp] theorem Kz.setFld_fw (m : Kz) (f : Field) (i v : Nat) : (m.setFld f i v).fw = m.fw := rfl
@[simp] theorem Kz.setFld_trust (m : Kz) (f : Field) (i v : Nat) : (m.setFld f i v).trust = m.trust := rfl
@[simp] theorem Kz.setFld_tb (m : Kz) (f : Field) (i v : Nat) : (m.setFld f i v).tb = m.tb := rfl
@[simp] theorem Kz.setFld_tl (m : Kz) (f : Field) (i v : Nat) : (m.setFld f i v).tl = m.tl := rfl
@[simp] theorem Kz.setFld_hub (m : Kz) (f : Field) (i v : Nat) : (m.setFld f i v).hub = m.hub := rfl
@[simp] theorem Kz.setFld_ports (m : Kz) (f : Field) (i v : Nat) : (m.setFld f i v).ports = m.ports := rfl
@[simp] theorem Kz.setFld_rgns (m : Kz) (f : Field) (i v : Nat) : (m.setFld f i v).rgns = m.rgns := rfl
@[simp] theorem Kz.setFld_chans (m : Kz) (f : Field) (i v : Nat) : (m.setFld f i v).chans = m.chans := rfl
@[simp] theorem Kz.setFld_maps (m : Kz) (f : Field) (i v : Nat) : (m.setFld f i v).maps = m.maps := rfl
@[simp] theorem Kz.setFld_prims (m : Kz) (f : Field) (i v : Nat) : (m.setFld f i v).prims = m.prims := rfl
@[simp] theorem Kz.setFld_tiu (m : Kz) (f : Field) (i v : Nat) : (m.setFld f i v).tiu = m.tiu := rfl
@[simp] theorem Kz.setFld_sns (m : Kz) (f : Field) (i v : Nat) : (m.setFld f i v).sns = m.sns := rfl
@[simp] theorem Kz.setFld_hk (m : Kz) (f : Field) (i v : Nat) : (m.setFld f i v).hk = m.hk := rfl
@[simp] theorem Kz.setFld_age (m : Kz) (f : Field) (i v : Nat) : (m.setFld f i v).age = m.age := rfl
@[simp] theorem Kz.setFld_dsi (m : Kz) (f : Field) (i v : Nat) : (m.setFld f i v).dsi = m.dsi := rfl
@[simp] theorem Kz.setFld_mem (m : Kz) (f : Field) (i v : Nat) : (m.setFld f i v).mem = m.mem := rfl
@[simp] theorem Kz.setFld_spans (m : Kz) (f : Field) (i v : Nat) : (m.setFld f i v).spans = m.spans := rfl
@[simp] theorem Kz.setFld_wire (m : Kz) (f : Field) (i v : Nat) : (m.setFld f i v).wire = m.wire := rfl
@[simp] theorem Kz.markBit_now (m : Kz) (f : Field) (i b : Nat) : (m.markBit f i b).now = m.now := rfl
@[simp] theorem Kz.markBit_fresh (m : Kz) (f : Field) (i b : Nat) : (m.markBit f i b).fresh = m.fresh := rfl
@[simp] theorem Kz.markBit_stats (m : Kz) (f : Field) (i b : Nat) : (m.markBit f i b).stats = m.stats := rfl
@[simp] theorem Kz.markBit_log (m : Kz) (f : Field) (i b : Nat) : (m.markBit f i b).log = m.log := rfl
@[simp] theorem Kz.markBit_errs (m : Kz) (f : Field) (i b : Nat) : (m.markBit f i b).errs = m.errs := rfl
@[simp] theorem Kz.markBit_pwr (m : Kz) (f : Field) (i b : Nat) : (m.markBit f i b).pwr = m.pwr := rfl
@[simp] theorem Kz.markBit_sup (m : Kz) (f : Field) (i b : Nat) : (m.markBit f i b).sup = m.sup := rfl
@[simp] theorem Kz.markBit_fw (m : Kz) (f : Field) (i b : Nat) : (m.markBit f i b).fw = m.fw := rfl
@[simp] theorem Kz.markBit_trust (m : Kz) (f : Field) (i b : Nat) : (m.markBit f i b).trust = m.trust := rfl
@[simp] theorem Kz.markBit_tb (m : Kz) (f : Field) (i b : Nat) : (m.markBit f i b).tb = m.tb := rfl
@[simp] theorem Kz.markBit_tl (m : Kz) (f : Field) (i b : Nat) : (m.markBit f i b).tl = m.tl := rfl
@[simp] theorem Kz.markBit_hub (m : Kz) (f : Field) (i b : Nat) : (m.markBit f i b).hub = m.hub := rfl
@[simp] theorem Kz.markBit_ports (m : Kz) (f : Field) (i b : Nat) : (m.markBit f i b).ports = m.ports := rfl
@[simp] theorem Kz.markBit_rgns (m : Kz) (f : Field) (i b : Nat) : (m.markBit f i b).rgns = m.rgns := rfl
@[simp] theorem Kz.markBit_chans (m : Kz) (f : Field) (i b : Nat) : (m.markBit f i b).chans = m.chans := rfl
@[simp] theorem Kz.markBit_maps (m : Kz) (f : Field) (i b : Nat) : (m.markBit f i b).maps = m.maps := rfl
@[simp] theorem Kz.markBit_prims (m : Kz) (f : Field) (i b : Nat) : (m.markBit f i b).prims = m.prims := rfl
@[simp] theorem Kz.markBit_tiu (m : Kz) (f : Field) (i b : Nat) : (m.markBit f i b).tiu = m.tiu := rfl
@[simp] theorem Kz.markBit_sns (m : Kz) (f : Field) (i b : Nat) : (m.markBit f i b).sns = m.sns := rfl
@[simp] theorem Kz.markBit_hk (m : Kz) (f : Field) (i b : Nat) : (m.markBit f i b).hk = m.hk := rfl
@[simp] theorem Kz.markBit_age (m : Kz) (f : Field) (i b : Nat) : (m.markBit f i b).age = m.age := rfl
@[simp] theorem Kz.markBit_dsi (m : Kz) (f : Field) (i b : Nat) : (m.markBit f i b).dsi = m.dsi := rfl
@[simp] theorem Kz.markBit_mem (m : Kz) (f : Field) (i b : Nat) : (m.markBit f i b).mem = m.mem := rfl
@[simp] theorem Kz.markBit_spans (m : Kz) (f : Field) (i b : Nat) : (m.markBit f i b).spans = m.spans := rfl
@[simp] theorem Kz.markBit_wire (m : Kz) (f : Field) (i b : Nat) : (m.markBit f i b).wire = m.wire := rfl
@[simp] theorem Kz.mark_now (m : Kz) (f : Field) (i : Nat) : (m.mark f i).now = m.now := rfl
@[simp] theorem Kz.mark_fresh (m : Kz) (f : Field) (i : Nat) : (m.mark f i).fresh = m.fresh := rfl
@[simp] theorem Kz.mark_stats (m : Kz) (f : Field) (i : Nat) : (m.mark f i).stats = m.stats := rfl
@[simp] theorem Kz.mark_log (m : Kz) (f : Field) (i : Nat) : (m.mark f i).log = m.log := rfl
@[simp] theorem Kz.mark_errs (m : Kz) (f : Field) (i : Nat) : (m.mark f i).errs = m.errs := rfl
@[simp] theorem Kz.mark_pwr (m : Kz) (f : Field) (i : Nat) : (m.mark f i).pwr = m.pwr := rfl
@[simp] theorem Kz.mark_sup (m : Kz) (f : Field) (i : Nat) : (m.mark f i).sup = m.sup := rfl
@[simp] theorem Kz.mark_fw (m : Kz) (f : Field) (i : Nat) : (m.mark f i).fw = m.fw := rfl
@[simp] theorem Kz.mark_trust (m : Kz) (f : Field) (i : Nat) : (m.mark f i).trust = m.trust := rfl
@[simp] theorem Kz.mark_tb (m : Kz) (f : Field) (i : Nat) : (m.mark f i).tb = m.tb := rfl
@[simp] theorem Kz.mark_tl (m : Kz) (f : Field) (i : Nat) : (m.mark f i).tl = m.tl := rfl
@[simp] theorem Kz.mark_hub (m : Kz) (f : Field) (i : Nat) : (m.mark f i).hub = m.hub := rfl
@[simp] theorem Kz.mark_ports (m : Kz) (f : Field) (i : Nat) : (m.mark f i).ports = m.ports := rfl
@[simp] theorem Kz.mark_rgns (m : Kz) (f : Field) (i : Nat) : (m.mark f i).rgns = m.rgns := rfl
@[simp] theorem Kz.mark_chans (m : Kz) (f : Field) (i : Nat) : (m.mark f i).chans = m.chans := rfl
@[simp] theorem Kz.mark_maps (m : Kz) (f : Field) (i : Nat) : (m.mark f i).maps = m.maps := rfl
@[simp] theorem Kz.mark_prims (m : Kz) (f : Field) (i : Nat) : (m.mark f i).prims = m.prims := rfl
@[simp] theorem Kz.mark_tiu (m : Kz) (f : Field) (i : Nat) : (m.mark f i).tiu = m.tiu := rfl
@[simp] theorem Kz.mark_sns (m : Kz) (f : Field) (i : Nat) : (m.mark f i).sns = m.sns := rfl
@[simp] theorem Kz.mark_hk (m : Kz) (f : Field) (i : Nat) : (m.mark f i).hk = m.hk := rfl
@[simp] theorem Kz.mark_age (m : Kz) (f : Field) (i : Nat) : (m.mark f i).age = m.age := rfl
@[simp] theorem Kz.mark_dsi (m : Kz) (f : Field) (i : Nat) : (m.mark f i).dsi = m.dsi := rfl
@[simp] theorem Kz.mark_mem (m : Kz) (f : Field) (i : Nat) : (m.mark f i).mem = m.mem := rfl
@[simp] theorem Kz.mark_spans (m : Kz) (f : Field) (i : Nat) : (m.mark f i).spans = m.spans := rfl
@[simp] theorem Kz.mark_wire (m : Kz) (f : Field) (i : Nat) : (m.mark f i).wire = m.wire := rfl
@[simp] theorem Kz.clearSeen_now (m : Kz) (k : RegKind) (i w : Nat) : (m.clearSeen k i w).now = m.now := rfl
@[simp] theorem Kz.clearSeen_fresh (m : Kz) (k : RegKind) (i w : Nat) : (m.clearSeen k i w).fresh = m.fresh := rfl
@[simp] theorem Kz.clearSeen_stats (m : Kz) (k : RegKind) (i w : Nat) : (m.clearSeen k i w).stats = m.stats := rfl
@[simp] theorem Kz.clearSeen_log (m : Kz) (k : RegKind) (i w : Nat) : (m.clearSeen k i w).log = m.log := rfl
@[simp] theorem Kz.clearSeen_errs (m : Kz) (k : RegKind) (i w : Nat) : (m.clearSeen k i w).errs = m.errs := rfl
@[simp] theorem Kz.clearSeen_pwr (m : Kz) (k : RegKind) (i w : Nat) : (m.clearSeen k i w).pwr = m.pwr := rfl
@[simp] theorem Kz.clearSeen_sup (m : Kz) (k : RegKind) (i w : Nat) : (m.clearSeen k i w).sup = m.sup := rfl
@[simp] theorem Kz.clearSeen_fw (m : Kz) (k : RegKind) (i w : Nat) : (m.clearSeen k i w).fw = m.fw := rfl
@[simp] theorem Kz.clearSeen_trust (m : Kz) (k : RegKind) (i w : Nat) : (m.clearSeen k i w).trust = m.trust := rfl
@[simp] theorem Kz.clearSeen_tb (m : Kz) (k : RegKind) (i w : Nat) : (m.clearSeen k i w).tb = m.tb := rfl
@[simp] theorem Kz.clearSeen_tl (m : Kz) (k : RegKind) (i w : Nat) : (m.clearSeen k i w).tl = m.tl := rfl
@[simp] theorem Kz.clearSeen_hub (m : Kz) (k : RegKind) (i w : Nat) : (m.clearSeen k i w).hub = m.hub := rfl
@[simp] theorem Kz.clearSeen_ports (m : Kz) (k : RegKind) (i w : Nat) : (m.clearSeen k i w).ports = m.ports := rfl
@[simp] theorem Kz.clearSeen_rgns (m : Kz) (k : RegKind) (i w : Nat) : (m.clearSeen k i w).rgns = m.rgns := rfl
@[simp] theorem Kz.clearSeen_chans (m : Kz) (k : RegKind) (i w : Nat) : (m.clearSeen k i w).chans = m.chans := rfl
@[simp] theorem Kz.clearSeen_maps (m : Kz) (k : RegKind) (i w : Nat) : (m.clearSeen k i w).maps = m.maps := rfl
@[simp] theorem Kz.clearSeen_prims (m : Kz) (k : RegKind) (i w : Nat) : (m.clearSeen k i w).prims = m.prims := rfl
@[simp] theorem Kz.clearSeen_tiu (m : Kz) (k : RegKind) (i w : Nat) : (m.clearSeen k i w).tiu = m.tiu := rfl
@[simp] theorem Kz.clearSeen_sns (m : Kz) (k : RegKind) (i w : Nat) : (m.clearSeen k i w).sns = m.sns := rfl
@[simp] theorem Kz.clearSeen_hk (m : Kz) (k : RegKind) (i w : Nat) : (m.clearSeen k i w).hk = m.hk := rfl
@[simp] theorem Kz.clearSeen_age (m : Kz) (k : RegKind) (i w : Nat) : (m.clearSeen k i w).age = m.age := rfl
@[simp] theorem Kz.clearSeen_dsi (m : Kz) (k : RegKind) (i w : Nat) : (m.clearSeen k i w).dsi = m.dsi := rfl
@[simp] theorem Kz.clearSeen_mem (m : Kz) (k : RegKind) (i w : Nat) : (m.clearSeen k i w).mem = m.mem := rfl
@[simp] theorem Kz.clearSeen_spans (m : Kz) (k : RegKind) (i w : Nat) : (m.clearSeen k i w).spans = m.spans := rfl
@[simp] theorem Kz.clearSeen_wire (m : Kz) (k : RegKind) (i w : Nat) : (m.clearSeen k i w).wire = m.wire := rfl
@[simp] theorem Kz.count_now (m : Kz) (k : RegKind) (i n : Nat) : (m.count k i n).now = m.now := rfl
@[simp] theorem Kz.count_fresh (m : Kz) (k : RegKind) (i n : Nat) : (m.count k i n).fresh = m.fresh := rfl
@[simp] theorem Kz.count_regs (m : Kz) (k : RegKind) (i n : Nat) : (m.count k i n).regs = m.regs := rfl
@[simp] theorem Kz.count_log (m : Kz) (k : RegKind) (i n : Nat) : (m.count k i n).log = m.log := rfl
@[simp] theorem Kz.count_errs (m : Kz) (k : RegKind) (i n : Nat) : (m.count k i n).errs = m.errs := rfl
@[simp] theorem Kz.count_pwr (m : Kz) (k : RegKind) (i n : Nat) : (m.count k i n).pwr = m.pwr := rfl
@[simp] theorem Kz.count_sup (m : Kz) (k : RegKind) (i n : Nat) : (m.count k i n).sup = m.sup := rfl
@[simp] theorem Kz.count_fw (m : Kz) (k : RegKind) (i n : Nat) : (m.count k i n).fw = m.fw := rfl
@[simp] theorem Kz.count_trust (m : Kz) (k : RegKind) (i n : Nat) : (m.count k i n).trust = m.trust := rfl
@[simp] theorem Kz.count_tb (m : Kz) (k : RegKind) (i n : Nat) : (m.count k i n).tb = m.tb := rfl
@[simp] theorem Kz.count_tl (m : Kz) (k : RegKind) (i n : Nat) : (m.count k i n).tl = m.tl := rfl
@[simp] theorem Kz.count_hub (m : Kz) (k : RegKind) (i n : Nat) : (m.count k i n).hub = m.hub := rfl
@[simp] theorem Kz.count_ports (m : Kz) (k : RegKind) (i n : Nat) : (m.count k i n).ports = m.ports := rfl
@[simp] theorem Kz.count_rgns (m : Kz) (k : RegKind) (i n : Nat) : (m.count k i n).rgns = m.rgns := rfl
@[simp] theorem Kz.count_chans (m : Kz) (k : RegKind) (i n : Nat) : (m.count k i n).chans = m.chans := rfl
@[simp] theorem Kz.count_maps (m : Kz) (k : RegKind) (i n : Nat) : (m.count k i n).maps = m.maps := rfl
@[simp] theorem Kz.count_prims (m : Kz) (k : RegKind) (i n : Nat) : (m.count k i n).prims = m.prims := rfl
@[simp] theorem Kz.count_tiu (m : Kz) (k : RegKind) (i n : Nat) : (m.count k i n).tiu = m.tiu := rfl
@[simp] theorem Kz.count_sns (m : Kz) (k : RegKind) (i n : Nat) : (m.count k i n).sns = m.sns := rfl
@[simp] theorem Kz.count_hk (m : Kz) (k : RegKind) (i n : Nat) : (m.count k i n).hk = m.hk := rfl
@[simp] theorem Kz.count_age (m : Kz) (k : RegKind) (i n : Nat) : (m.count k i n).age = m.age := rfl
@[simp] theorem Kz.count_dsi (m : Kz) (k : RegKind) (i n : Nat) : (m.count k i n).dsi = m.dsi := rfl
@[simp] theorem Kz.count_mem (m : Kz) (k : RegKind) (i n : Nat) : (m.count k i n).mem = m.mem := rfl
@[simp] theorem Kz.count_spans (m : Kz) (k : RegKind) (i n : Nat) : (m.count k i n).spans = m.spans := rfl
@[simp] theorem Kz.count_wire (m : Kz) (k : RegKind) (i n : Nat) : (m.count k i n).wire = m.wire := rfl
@[simp] theorem Kz.emit_now (m : Kz) (e : Emission) : (m.emit e).now = m.now := rfl
@[simp] theorem Kz.emit_fresh (m : Kz) (e : Emission) : (m.emit e).fresh = m.fresh := rfl
@[simp] theorem Kz.emit_regs (m : Kz) (e : Emission) : (m.emit e).regs = m.regs := rfl
@[simp] theorem Kz.emit_stats (m : Kz) (e : Emission) : (m.emit e).stats = m.stats := rfl
@[simp] theorem Kz.emit_log (m : Kz) (e : Emission) : (m.emit e).log = m.log := rfl
@[simp] theorem Kz.emit_errs (m : Kz) (e : Emission) : (m.emit e).errs = m.errs := rfl
@[simp] theorem Kz.emit_pwr (m : Kz) (e : Emission) : (m.emit e).pwr = m.pwr := rfl
@[simp] theorem Kz.emit_sup (m : Kz) (e : Emission) : (m.emit e).sup = m.sup := rfl
@[simp] theorem Kz.emit_fw (m : Kz) (e : Emission) : (m.emit e).fw = m.fw := rfl
@[simp] theorem Kz.emit_trust (m : Kz) (e : Emission) : (m.emit e).trust = m.trust := rfl
@[simp] theorem Kz.emit_tb (m : Kz) (e : Emission) : (m.emit e).tb = m.tb := rfl
@[simp] theorem Kz.emit_tl (m : Kz) (e : Emission) : (m.emit e).tl = m.tl := rfl
@[simp] theorem Kz.emit_hub (m : Kz) (e : Emission) : (m.emit e).hub = m.hub := rfl
@[simp] theorem Kz.emit_ports (m : Kz) (e : Emission) : (m.emit e).ports = m.ports := rfl
@[simp] theorem Kz.emit_rgns (m : Kz) (e : Emission) : (m.emit e).rgns = m.rgns := rfl
@[simp] theorem Kz.emit_chans (m : Kz) (e : Emission) : (m.emit e).chans = m.chans := rfl
@[simp] theorem Kz.emit_maps (m : Kz) (e : Emission) : (m.emit e).maps = m.maps := rfl
@[simp] theorem Kz.emit_prims (m : Kz) (e : Emission) : (m.emit e).prims = m.prims := rfl
@[simp] theorem Kz.emit_tiu (m : Kz) (e : Emission) : (m.emit e).tiu = m.tiu := rfl
@[simp] theorem Kz.emit_sns (m : Kz) (e : Emission) : (m.emit e).sns = m.sns := rfl
@[simp] theorem Kz.emit_hk (m : Kz) (e : Emission) : (m.emit e).hk = m.hk := rfl
@[simp] theorem Kz.emit_age (m : Kz) (e : Emission) : (m.emit e).age = m.age := rfl
@[simp] theorem Kz.emit_dsi (m : Kz) (e : Emission) : (m.emit e).dsi = m.dsi := rfl
@[simp] theorem Kz.emit_mem (m : Kz) (e : Emission) : (m.emit e).mem = m.mem := rfl
@[simp] theorem Kz.emit_spans (m : Kz) (e : Emission) : (m.emit e).spans = m.spans := rfl
@[simp] theorem Kz.toArchive_now (m : Kz) (e : LogEntry) : (m.toArchive e).now = m.now := rfl
@[simp] theorem Kz.toArchive_fresh (m : Kz) (e : LogEntry) : (m.toArchive e).fresh = m.fresh := rfl
@[simp] theorem Kz.toArchive_regs (m : Kz) (e : LogEntry) : (m.toArchive e).regs = m.regs := rfl
@[simp] theorem Kz.toArchive_stats (m : Kz) (e : LogEntry) : (m.toArchive e).stats = m.stats := rfl
@[simp] theorem Kz.toArchive_errs (m : Kz) (e : LogEntry) : (m.toArchive e).errs = m.errs := rfl
@[simp] theorem Kz.toArchive_pwr (m : Kz) (e : LogEntry) : (m.toArchive e).pwr = m.pwr := rfl
@[simp] theorem Kz.toArchive_sup (m : Kz) (e : LogEntry) : (m.toArchive e).sup = m.sup := rfl
@[simp] theorem Kz.toArchive_fw (m : Kz) (e : LogEntry) : (m.toArchive e).fw = m.fw := rfl
@[simp] theorem Kz.toArchive_trust (m : Kz) (e : LogEntry) : (m.toArchive e).trust = m.trust := rfl
@[simp] theorem Kz.toArchive_tb (m : Kz) (e : LogEntry) : (m.toArchive e).tb = m.tb := rfl
@[simp] theorem Kz.toArchive_tl (m : Kz) (e : LogEntry) : (m.toArchive e).tl = m.tl := rfl
@[simp] theorem Kz.toArchive_hub (m : Kz) (e : LogEntry) : (m.toArchive e).hub = m.hub := rfl
@[simp] theorem Kz.toArchive_ports (m : Kz) (e : LogEntry) : (m.toArchive e).ports = m.ports := rfl
@[simp] theorem Kz.toArchive_rgns (m : Kz) (e : LogEntry) : (m.toArchive e).rgns = m.rgns := rfl
@[simp] theorem Kz.toArchive_chans (m : Kz) (e : LogEntry) : (m.toArchive e).chans = m.chans := rfl
@[simp] theorem Kz.toArchive_maps (m : Kz) (e : LogEntry) : (m.toArchive e).maps = m.maps := rfl
@[simp] theorem Kz.toArchive_prims (m : Kz) (e : LogEntry) : (m.toArchive e).prims = m.prims := rfl
@[simp] theorem Kz.toArchive_tiu (m : Kz) (e : LogEntry) : (m.toArchive e).tiu = m.tiu := rfl
@[simp] theorem Kz.toArchive_sns (m : Kz) (e : LogEntry) : (m.toArchive e).sns = m.sns := rfl
@[simp] theorem Kz.toArchive_hk (m : Kz) (e : LogEntry) : (m.toArchive e).hk = m.hk := rfl
@[simp] theorem Kz.toArchive_age (m : Kz) (e : LogEntry) : (m.toArchive e).age = m.age := rfl
@[simp] theorem Kz.toArchive_dsi (m : Kz) (e : LogEntry) : (m.toArchive e).dsi = m.dsi := rfl
@[simp] theorem Kz.toArchive_mem (m : Kz) (e : LogEntry) : (m.toArchive e).mem = m.mem := rfl
@[simp] theorem Kz.toArchive_spans (m : Kz) (e : LogEntry) : (m.toArchive e).spans = m.spans := rfl
@[simp] theorem Kz.toArchive_wire (m : Kz) (e : LogEntry) : (m.toArchive e).wire = m.wire := rfl
@[simp] theorem Kz.logEntry_now (m : Kz) (d epoch code cls kind idx second value : Nat) : (m.logEntry d epoch code cls kind idx second value).now = m.now := by unfold Kz.logEntry; dsimp only; split <;> rfl
@[simp] theorem Kz.logEntry_fresh (m : Kz) (d epoch code cls kind idx second value : Nat) : (m.logEntry d epoch code cls kind idx second value).fresh = m.fresh := by unfold Kz.logEntry; dsimp only; split <;> rfl
@[simp] theorem Kz.logEntry_regs (m : Kz) (d epoch code cls kind idx second value : Nat) : (m.logEntry d epoch code cls kind idx second value).regs = m.regs := by unfold Kz.logEntry; dsimp only; split <;> rfl
@[simp] theorem Kz.logEntry_stats (m : Kz) (d epoch code cls kind idx second value : Nat) : (m.logEntry d epoch code cls kind idx second value).stats = m.stats := by unfold Kz.logEntry; dsimp only; split <;> rfl
@[simp] theorem Kz.logEntry_errs (m : Kz) (d epoch code cls kind idx second value : Nat) : (m.logEntry d epoch code cls kind idx second value).errs = m.errs := by unfold Kz.logEntry; dsimp only; split <;> rfl
@[simp] theorem Kz.logEntry_pwr (m : Kz) (d epoch code cls kind idx second value : Nat) : (m.logEntry d epoch code cls kind idx second value).pwr = m.pwr := by unfold Kz.logEntry; dsimp only; split <;> rfl
@[simp] theorem Kz.logEntry_sup (m : Kz) (d epoch code cls kind idx second value : Nat) : (m.logEntry d epoch code cls kind idx second value).sup = m.sup := by unfold Kz.logEntry; dsimp only; split <;> rfl
@[simp] theorem Kz.logEntry_fw (m : Kz) (d epoch code cls kind idx second value : Nat) : (m.logEntry d epoch code cls kind idx second value).fw = m.fw := by unfold Kz.logEntry; dsimp only; split <;> rfl
@[simp] theorem Kz.logEntry_trust (m : Kz) (d epoch code cls kind idx second value : Nat) : (m.logEntry d epoch code cls kind idx second value).trust = m.trust := by unfold Kz.logEntry; dsimp only; split <;> rfl
@[simp] theorem Kz.logEntry_tb (m : Kz) (d epoch code cls kind idx second value : Nat) : (m.logEntry d epoch code cls kind idx second value).tb = m.tb := by unfold Kz.logEntry; dsimp only; split <;> rfl
@[simp] theorem Kz.logEntry_tl (m : Kz) (d epoch code cls kind idx second value : Nat) : (m.logEntry d epoch code cls kind idx second value).tl = m.tl := by unfold Kz.logEntry; dsimp only; split <;> rfl
@[simp] theorem Kz.logEntry_hub (m : Kz) (d epoch code cls kind idx second value : Nat) : (m.logEntry d epoch code cls kind idx second value).hub = m.hub := by unfold Kz.logEntry; dsimp only; split <;> rfl
@[simp] theorem Kz.logEntry_ports (m : Kz) (d epoch code cls kind idx second value : Nat) : (m.logEntry d epoch code cls kind idx second value).ports = m.ports := by unfold Kz.logEntry; dsimp only; split <;> rfl
@[simp] theorem Kz.logEntry_rgns (m : Kz) (d epoch code cls kind idx second value : Nat) : (m.logEntry d epoch code cls kind idx second value).rgns = m.rgns := by unfold Kz.logEntry; dsimp only; split <;> rfl
@[simp] theorem Kz.logEntry_chans (m : Kz) (d epoch code cls kind idx second value : Nat) : (m.logEntry d epoch code cls kind idx second value).chans = m.chans := by unfold Kz.logEntry; dsimp only; split <;> rfl
@[simp] theorem Kz.logEntry_maps (m : Kz) (d epoch code cls kind idx second value : Nat) : (m.logEntry d epoch code cls kind idx second value).maps = m.maps := by unfold Kz.logEntry; dsimp only; split <;> rfl
@[simp] theorem Kz.logEntry_prims (m : Kz) (d epoch code cls kind idx second value : Nat) : (m.logEntry d epoch code cls kind idx second value).prims = m.prims := by unfold Kz.logEntry; dsimp only; split <;> rfl
@[simp] theorem Kz.logEntry_tiu (m : Kz) (d epoch code cls kind idx second value : Nat) : (m.logEntry d epoch code cls kind idx second value).tiu = m.tiu := by unfold Kz.logEntry; dsimp only; split <;> rfl
@[simp] theorem Kz.logEntry_sns (m : Kz) (d epoch code cls kind idx second value : Nat) : (m.logEntry d epoch code cls kind idx second value).sns = m.sns := by unfold Kz.logEntry; dsimp only; split <;> rfl
@[simp] theorem Kz.logEntry_hk (m : Kz) (d epoch code cls kind idx second value : Nat) : (m.logEntry d epoch code cls kind idx second value).hk = m.hk := by unfold Kz.logEntry; dsimp only; split <;> rfl
@[simp] theorem Kz.logEntry_age (m : Kz) (d epoch code cls kind idx second value : Nat) : (m.logEntry d epoch code cls kind idx second value).age = m.age := by unfold Kz.logEntry; dsimp only; split <;> rfl
@[simp] theorem Kz.logEntry_dsi (m : Kz) (d epoch code cls kind idx second value : Nat) : (m.logEntry d epoch code cls kind idx second value).dsi = m.dsi := by unfold Kz.logEntry; dsimp only; split <;> rfl
@[simp] theorem Kz.logEntry_mem (m : Kz) (d epoch code cls kind idx second value : Nat) : (m.logEntry d epoch code cls kind idx second value).mem = m.mem := by unfold Kz.logEntry; dsimp only; split <;> rfl
@[simp] theorem Kz.logEntry_spans (m : Kz) (d epoch code cls kind idx second value : Nat) : (m.logEntry d epoch code cls kind idx second value).spans = m.spans := by unfold Kz.logEntry; dsimp only; split <;> rfl
@[simp] theorem Kz.logEntry_wire (m : Kz) (d epoch code cls kind idx second value : Nat) : (m.logEntry d epoch code cls kind idx second value).wire = m.wire := by unfold Kz.logEntry; dsimp only; split <;> rfl
@[simp] theorem Kz.logFrom_now (m : Kz) (i code cls kind idx second value : Nat) : (m.logFrom i code cls kind idx second value).now = m.now := Kz.logEntry_now ..
@[simp] theorem Kz.logFrom_fresh (m : Kz) (i code cls kind idx second value : Nat) : (m.logFrom i code cls kind idx second value).fresh = m.fresh := Kz.logEntry_fresh ..
@[simp] theorem Kz.logFrom_regs (m : Kz) (i code cls kind idx second value : Nat) : (m.logFrom i code cls kind idx second value).regs = m.regs := Kz.logEntry_regs ..
@[simp] theorem Kz.logFrom_stats (m : Kz) (i code cls kind idx second value : Nat) : (m.logFrom i code cls kind idx second value).stats = m.stats := Kz.logEntry_stats ..
@[simp] theorem Kz.logFrom_errs (m : Kz) (i code cls kind idx second value : Nat) : (m.logFrom i code cls kind idx second value).errs = m.errs := Kz.logEntry_errs ..
@[simp] theorem Kz.logFrom_pwr (m : Kz) (i code cls kind idx second value : Nat) : (m.logFrom i code cls kind idx second value).pwr = m.pwr := Kz.logEntry_pwr ..
@[simp] theorem Kz.logFrom_sup (m : Kz) (i code cls kind idx second value : Nat) : (m.logFrom i code cls kind idx second value).sup = m.sup := Kz.logEntry_sup ..
@[simp] theorem Kz.logFrom_fw (m : Kz) (i code cls kind idx second value : Nat) : (m.logFrom i code cls kind idx second value).fw = m.fw := Kz.logEntry_fw ..
@[simp] theorem Kz.logFrom_trust (m : Kz) (i code cls kind idx second value : Nat) : (m.logFrom i code cls kind idx second value).trust = m.trust := Kz.logEntry_trust ..
@[simp] theorem Kz.logFrom_tb (m : Kz) (i code cls kind idx second value : Nat) : (m.logFrom i code cls kind idx second value).tb = m.tb := Kz.logEntry_tb ..
@[simp] theorem Kz.logFrom_tl (m : Kz) (i code cls kind idx second value : Nat) : (m.logFrom i code cls kind idx second value).tl = m.tl := Kz.logEntry_tl ..
@[simp] theorem Kz.logFrom_hub (m : Kz) (i code cls kind idx second value : Nat) : (m.logFrom i code cls kind idx second value).hub = m.hub := Kz.logEntry_hub ..
@[simp] theorem Kz.logFrom_ports (m : Kz) (i code cls kind idx second value : Nat) : (m.logFrom i code cls kind idx second value).ports = m.ports := Kz.logEntry_ports ..
@[simp] theorem Kz.logFrom_rgns (m : Kz) (i code cls kind idx second value : Nat) : (m.logFrom i code cls kind idx second value).rgns = m.rgns := Kz.logEntry_rgns ..
@[simp] theorem Kz.logFrom_chans (m : Kz) (i code cls kind idx second value : Nat) : (m.logFrom i code cls kind idx second value).chans = m.chans := Kz.logEntry_chans ..
@[simp] theorem Kz.logFrom_maps (m : Kz) (i code cls kind idx second value : Nat) : (m.logFrom i code cls kind idx second value).maps = m.maps := Kz.logEntry_maps ..
@[simp] theorem Kz.logFrom_prims (m : Kz) (i code cls kind idx second value : Nat) : (m.logFrom i code cls kind idx second value).prims = m.prims := Kz.logEntry_prims ..
@[simp] theorem Kz.logFrom_tiu (m : Kz) (i code cls kind idx second value : Nat) : (m.logFrom i code cls kind idx second value).tiu = m.tiu := Kz.logEntry_tiu ..
@[simp] theorem Kz.logFrom_sns (m : Kz) (i code cls kind idx second value : Nat) : (m.logFrom i code cls kind idx second value).sns = m.sns := Kz.logEntry_sns ..
@[simp] theorem Kz.logFrom_hk (m : Kz) (i code cls kind idx second value : Nat) : (m.logFrom i code cls kind idx second value).hk = m.hk := Kz.logEntry_hk ..
@[simp] theorem Kz.logFrom_age (m : Kz) (i code cls kind idx second value : Nat) : (m.logFrom i code cls kind idx second value).age = m.age := Kz.logEntry_age ..
@[simp] theorem Kz.logFrom_dsi (m : Kz) (i code cls kind idx second value : Nat) : (m.logFrom i code cls kind idx second value).dsi = m.dsi := Kz.logEntry_dsi ..
@[simp] theorem Kz.logFrom_mem (m : Kz) (i code cls kind idx second value : Nat) : (m.logFrom i code cls kind idx second value).mem = m.mem := Kz.logEntry_mem ..
@[simp] theorem Kz.logFrom_spans (m : Kz) (i code cls kind idx second value : Nat) : (m.logFrom i code cls kind idx second value).spans = m.spans := Kz.logEntry_spans ..
@[simp] theorem Kz.logFrom_wire (m : Kz) (i code cls kind idx second value : Nat) : (m.logFrom i code cls kind idx second value).wire = m.wire := Kz.logEntry_wire ..
@[simp] theorem Kz.logAt_now (m : Kz) (d code cls kind idx second value : Nat) : (m.logAt d code cls kind idx second value).now = m.now := Kz.logEntry_now ..
@[simp] theorem Kz.logAt_fresh (m : Kz) (d code cls kind idx second value : Nat) : (m.logAt d code cls kind idx second value).fresh = m.fresh := Kz.logEntry_fresh ..
@[simp] theorem Kz.logAt_regs (m : Kz) (d code cls kind idx second value : Nat) : (m.logAt d code cls kind idx second value).regs = m.regs := Kz.logEntry_regs ..
@[simp] theorem Kz.logAt_stats (m : Kz) (d code cls kind idx second value : Nat) : (m.logAt d code cls kind idx second value).stats = m.stats := Kz.logEntry_stats ..
@[simp] theorem Kz.logAt_errs (m : Kz) (d code cls kind idx second value : Nat) : (m.logAt d code cls kind idx second value).errs = m.errs := Kz.logEntry_errs ..
@[simp] theorem Kz.logAt_pwr (m : Kz) (d code cls kind idx second value : Nat) : (m.logAt d code cls kind idx second value).pwr = m.pwr := Kz.logEntry_pwr ..
@[simp] theorem Kz.logAt_sup (m : Kz) (d code cls kind idx second value : Nat) : (m.logAt d code cls kind idx second value).sup = m.sup := Kz.logEntry_sup ..
@[simp] theorem Kz.logAt_fw (m : Kz) (d code cls kind idx second value : Nat) : (m.logAt d code cls kind idx second value).fw = m.fw := Kz.logEntry_fw ..
@[simp] theorem Kz.logAt_trust (m : Kz) (d code cls kind idx second value : Nat) : (m.logAt d code cls kind idx second value).trust = m.trust := Kz.logEntry_trust ..
@[simp] theorem Kz.logAt_tb (m : Kz) (d code cls kind idx second value : Nat) : (m.logAt d code cls kind idx second value).tb = m.tb := Kz.logEntry_tb ..
@[simp] theorem Kz.logAt_tl (m : Kz) (d code cls kind idx second value : Nat) : (m.logAt d code cls kind idx second value).tl = m.tl := Kz.logEntry_tl ..
@[simp] theorem Kz.logAt_hub (m : Kz) (d code cls kind idx second value : Nat) : (m.logAt d code cls kind idx second value).hub = m.hub := Kz.logEntry_hub ..
@[simp] theorem Kz.logAt_ports (m : Kz) (d code cls kind idx second value : Nat) : (m.logAt d code cls kind idx second value).ports = m.ports := Kz.logEntry_ports ..
@[simp] theorem Kz.logAt_rgns (m : Kz) (d code cls kind idx second value : Nat) : (m.logAt d code cls kind idx second value).rgns = m.rgns := Kz.logEntry_rgns ..
@[simp] theorem Kz.logAt_chans (m : Kz) (d code cls kind idx second value : Nat) : (m.logAt d code cls kind idx second value).chans = m.chans := Kz.logEntry_chans ..
@[simp] theorem Kz.logAt_maps (m : Kz) (d code cls kind idx second value : Nat) : (m.logAt d code cls kind idx second value).maps = m.maps := Kz.logEntry_maps ..
@[simp] theorem Kz.logAt_prims (m : Kz) (d code cls kind idx second value : Nat) : (m.logAt d code cls kind idx second value).prims = m.prims := Kz.logEntry_prims ..
@[simp] theorem Kz.logAt_tiu (m : Kz) (d code cls kind idx second value : Nat) : (m.logAt d code cls kind idx second value).tiu = m.tiu := Kz.logEntry_tiu ..
@[simp] theorem Kz.logAt_sns (m : Kz) (d code cls kind idx second value : Nat) : (m.logAt d code cls kind idx second value).sns = m.sns := Kz.logEntry_sns ..
@[simp] theorem Kz.logAt_hk (m : Kz) (d code cls kind idx second value : Nat) : (m.logAt d code cls kind idx second value).hk = m.hk := Kz.logEntry_hk ..
@[simp] theorem Kz.logAt_age (m : Kz) (d code cls kind idx second value : Nat) : (m.logAt d code cls kind idx second value).age = m.age := Kz.logEntry_age ..
@[simp] theorem Kz.logAt_dsi (m : Kz) (d code cls kind idx second value : Nat) : (m.logAt d code cls kind idx second value).dsi = m.dsi := Kz.logEntry_dsi ..
@[simp] theorem Kz.logAt_mem (m : Kz) (d code cls kind idx second value : Nat) : (m.logAt d code cls kind idx second value).mem = m.mem := Kz.logEntry_mem ..
@[simp] theorem Kz.logAt_spans (m : Kz) (d code cls kind idx second value : Nat) : (m.logAt d code cls kind idx second value).spans = m.spans := Kz.logEntry_spans ..
@[simp] theorem Kz.logAt_wire (m : Kz) (d code cls kind idx second value : Nat) : (m.logAt d code cls kind idx second value).wire = m.wire := Kz.logEntry_wire ..
@[simp] theorem Kz.logE_now (m : Kz) (code cls kind idx second value : Nat) : (m.logE code cls kind idx second value).now = m.now := Kz.logAt_now ..
@[simp] theorem Kz.logE_fresh (m : Kz) (code cls kind idx second value : Nat) : (m.logE code cls kind idx second value).fresh = m.fresh := Kz.logAt_fresh ..
@[simp] theorem Kz.logE_regs (m : Kz) (code cls kind idx second value : Nat) : (m.logE code cls kind idx second value).regs = m.regs := Kz.logAt_regs ..
@[simp] theorem Kz.logE_stats (m : Kz) (code cls kind idx second value : Nat) : (m.logE code cls kind idx second value).stats = m.stats := Kz.logAt_stats ..
@[simp] theorem Kz.logE_errs (m : Kz) (code cls kind idx second value : Nat) : (m.logE code cls kind idx second value).errs = m.errs := Kz.logAt_errs ..
@[simp] theorem Kz.logE_pwr (m : Kz) (code cls kind idx second value : Nat) : (m.logE code cls kind idx second value).pwr = m.pwr := Kz.logAt_pwr ..
@[simp] theorem Kz.logE_sup (m : Kz) (code cls kind idx second value : Nat) : (m.logE code cls kind idx second value).sup = m.sup := Kz.logAt_sup ..
@[simp] theorem Kz.logE_fw (m : Kz) (code cls kind idx second value : Nat) : (m.logE code cls kind idx second value).fw = m.fw := Kz.logAt_fw ..
@[simp] theorem Kz.logE_trust (m : Kz) (code cls kind idx second value : Nat) : (m.logE code cls kind idx second value).trust = m.trust := Kz.logAt_trust ..
@[simp] theorem Kz.logE_tb (m : Kz) (code cls kind idx second value : Nat) : (m.logE code cls kind idx second value).tb = m.tb := Kz.logAt_tb ..
@[simp] theorem Kz.logE_tl (m : Kz) (code cls kind idx second value : Nat) : (m.logE code cls kind idx second value).tl = m.tl := Kz.logAt_tl ..
@[simp] theorem Kz.logE_hub (m : Kz) (code cls kind idx second value : Nat) : (m.logE code cls kind idx second value).hub = m.hub := Kz.logAt_hub ..
@[simp] theorem Kz.logE_ports (m : Kz) (code cls kind idx second value : Nat) : (m.logE code cls kind idx second value).ports = m.ports := Kz.logAt_ports ..
@[simp] theorem Kz.logE_rgns (m : Kz) (code cls kind idx second value : Nat) : (m.logE code cls kind idx second value).rgns = m.rgns := Kz.logAt_rgns ..
@[simp] theorem Kz.logE_chans (m : Kz) (code cls kind idx second value : Nat) : (m.logE code cls kind idx second value).chans = m.chans := Kz.logAt_chans ..
@[simp] theorem Kz.logE_maps (m : Kz) (code cls kind idx second value : Nat) : (m.logE code cls kind idx second value).maps = m.maps := Kz.logAt_maps ..
@[simp] theorem Kz.logE_prims (m : Kz) (code cls kind idx second value : Nat) : (m.logE code cls kind idx second value).prims = m.prims := Kz.logAt_prims ..
@[simp] theorem Kz.logE_tiu (m : Kz) (code cls kind idx second value : Nat) : (m.logE code cls kind idx second value).tiu = m.tiu := Kz.logAt_tiu ..
@[simp] theorem Kz.logE_sns (m : Kz) (code cls kind idx second value : Nat) : (m.logE code cls kind idx second value).sns = m.sns := Kz.logAt_sns ..
@[simp] theorem Kz.logE_hk (m : Kz) (code cls kind idx second value : Nat) : (m.logE code cls kind idx second value).hk = m.hk := Kz.logAt_hk ..
@[simp] theorem Kz.logE_age (m : Kz) (code cls kind idx second value : Nat) : (m.logE code cls kind idx second value).age = m.age := Kz.logAt_age ..
@[simp] theorem Kz.logE_dsi (m : Kz) (code cls kind idx second value : Nat) : (m.logE code cls kind idx second value).dsi = m.dsi := Kz.logAt_dsi ..
@[simp] theorem Kz.logE_mem (m : Kz) (code cls kind idx second value : Nat) : (m.logE code cls kind idx second value).mem = m.mem := Kz.logAt_mem ..
@[simp] theorem Kz.logE_spans (m : Kz) (code cls kind idx second value : Nat) : (m.logE code cls kind idx second value).spans = m.spans := Kz.logAt_spans ..
@[simp] theorem Kz.logE_wire (m : Kz) (code cls kind idx second value : Nat) : (m.logE code cls kind idx second value).wire = m.wire := Kz.logAt_wire ..
@[simp] theorem Kz.notifyPort_now (m : Kz) (d p code kind idx : Nat) (data : List Byte) : (m.notifyPort d p code kind idx data).now = m.now := by unfold Kz.notifyPort; dsimp only; split <;> (try split) <;> rfl
@[simp] theorem Kz.notifyPort_fresh (m : Kz) (d p code kind idx : Nat) (data : List Byte) : (m.notifyPort d p code kind idx data).fresh = m.fresh := by unfold Kz.notifyPort; dsimp only; split <;> (try split) <;> rfl
@[simp] theorem Kz.notifyPort_regs (m : Kz) (d p code kind idx : Nat) (data : List Byte) : (m.notifyPort d p code kind idx data).regs = m.regs := by unfold Kz.notifyPort; dsimp only; split <;> (try split) <;> rfl
@[simp] theorem Kz.notifyPort_log (m : Kz) (d p code kind idx : Nat) (data : List Byte) : (m.notifyPort d p code kind idx data).log = m.log := by unfold Kz.notifyPort; dsimp only; split <;> (try split) <;> rfl
@[simp] theorem Kz.notifyPort_errs (m : Kz) (d p code kind idx : Nat) (data : List Byte) : (m.notifyPort d p code kind idx data).errs = m.errs := by unfold Kz.notifyPort; dsimp only; split <;> (try split) <;> rfl
@[simp] theorem Kz.notifyPort_pwr (m : Kz) (d p code kind idx : Nat) (data : List Byte) : (m.notifyPort d p code kind idx data).pwr = m.pwr := by unfold Kz.notifyPort; dsimp only; split <;> (try split) <;> rfl
@[simp] theorem Kz.notifyPort_sup (m : Kz) (d p code kind idx : Nat) (data : List Byte) : (m.notifyPort d p code kind idx data).sup = m.sup := by unfold Kz.notifyPort; dsimp only; split <;> (try split) <;> rfl
@[simp] theorem Kz.notifyPort_fw (m : Kz) (d p code kind idx : Nat) (data : List Byte) : (m.notifyPort d p code kind idx data).fw = m.fw := by unfold Kz.notifyPort; dsimp only; split <;> (try split) <;> rfl
@[simp] theorem Kz.notifyPort_trust (m : Kz) (d p code kind idx : Nat) (data : List Byte) : (m.notifyPort d p code kind idx data).trust = m.trust := by unfold Kz.notifyPort; dsimp only; split <;> (try split) <;> rfl
@[simp] theorem Kz.notifyPort_tb (m : Kz) (d p code kind idx : Nat) (data : List Byte) : (m.notifyPort d p code kind idx data).tb = m.tb := by unfold Kz.notifyPort; dsimp only; split <;> (try split) <;> rfl
@[simp] theorem Kz.notifyPort_tl (m : Kz) (d p code kind idx : Nat) (data : List Byte) : (m.notifyPort d p code kind idx data).tl = m.tl := by unfold Kz.notifyPort; dsimp only; split <;> (try split) <;> rfl
@[simp] theorem Kz.notifyPort_hub (m : Kz) (d p code kind idx : Nat) (data : List Byte) : (m.notifyPort d p code kind idx data).hub = m.hub := by unfold Kz.notifyPort; dsimp only; split <;> (try split) <;> rfl
@[simp] theorem Kz.notifyPort_rgns (m : Kz) (d p code kind idx : Nat) (data : List Byte) : (m.notifyPort d p code kind idx data).rgns = m.rgns := by unfold Kz.notifyPort; dsimp only; split <;> (try split) <;> rfl
@[simp] theorem Kz.notifyPort_chans (m : Kz) (d p code kind idx : Nat) (data : List Byte) : (m.notifyPort d p code kind idx data).chans = m.chans := by unfold Kz.notifyPort; dsimp only; split <;> (try split) <;> rfl
@[simp] theorem Kz.notifyPort_maps (m : Kz) (d p code kind idx : Nat) (data : List Byte) : (m.notifyPort d p code kind idx data).maps = m.maps := by unfold Kz.notifyPort; dsimp only; split <;> (try split) <;> rfl
@[simp] theorem Kz.notifyPort_prims (m : Kz) (d p code kind idx : Nat) (data : List Byte) : (m.notifyPort d p code kind idx data).prims = m.prims := by unfold Kz.notifyPort; dsimp only; split <;> (try split) <;> rfl
@[simp] theorem Kz.notifyPort_tiu (m : Kz) (d p code kind idx : Nat) (data : List Byte) : (m.notifyPort d p code kind idx data).tiu = m.tiu := by unfold Kz.notifyPort; dsimp only; split <;> (try split) <;> rfl
@[simp] theorem Kz.notifyPort_sns (m : Kz) (d p code kind idx : Nat) (data : List Byte) : (m.notifyPort d p code kind idx data).sns = m.sns := by unfold Kz.notifyPort; dsimp only; split <;> (try split) <;> rfl
@[simp] theorem Kz.notifyPort_hk (m : Kz) (d p code kind idx : Nat) (data : List Byte) : (m.notifyPort d p code kind idx data).hk = m.hk := by unfold Kz.notifyPort; dsimp only; split <;> (try split) <;> rfl
@[simp] theorem Kz.notifyPort_age (m : Kz) (d p code kind idx : Nat) (data : List Byte) : (m.notifyPort d p code kind idx data).age = m.age := by unfold Kz.notifyPort; dsimp only; split <;> (try split) <;> rfl
@[simp] theorem Kz.notifyPort_dsi (m : Kz) (d p code kind idx : Nat) (data : List Byte) : (m.notifyPort d p code kind idx data).dsi = m.dsi := by unfold Kz.notifyPort; dsimp only; split <;> (try split) <;> rfl
@[simp] theorem Kz.notifyPort_mem (m : Kz) (d p code kind idx : Nat) (data : List Byte) : (m.notifyPort d p code kind idx data).mem = m.mem := by unfold Kz.notifyPort; dsimp only; split <;> (try split) <;> rfl
@[simp] theorem Kz.notifyPort_spans (m : Kz) (d p code kind idx : Nat) (data : List Byte) : (m.notifyPort d p code kind idx data).spans = m.spans := by unfold Kz.notifyPort; dsimp only; split <;> (try split) <;> rfl
@[simp] theorem Kz.notifyAt_now (m : Kz) (d code kind idx : Nat) (data : List Byte) : (m.notifyAt d code kind idx data).now = m.now := foldl_same Kz.now (fun m p => Kz.notifyPort_now m d p code kind idx data) _ m
@[simp] theorem Kz.notifyAt_fresh (m : Kz) (d code kind idx : Nat) (data : List Byte) : (m.notifyAt d code kind idx data).fresh = m.fresh := foldl_same Kz.fresh (fun m p => Kz.notifyPort_fresh m d p code kind idx data) _ m
@[simp] theorem Kz.notifyAt_regs (m : Kz) (d code kind idx : Nat) (data : List Byte) : (m.notifyAt d code kind idx data).regs = m.regs := foldl_same Kz.regs (fun m p => Kz.notifyPort_regs m d p code kind idx data) _ m
@[simp] theorem Kz.notifyAt_log (m : Kz) (d code kind idx : Nat) (data : List Byte) : (m.notifyAt d code kind idx data).log = m.log := foldl_same Kz.log (fun m p => Kz.notifyPort_log m d p code kind idx data) _ m
@[simp] theorem Kz.notifyAt_errs (m : Kz) (d code kind idx : Nat) (data : List Byte) : (m.notifyAt d code kind idx data).errs = m.errs := foldl_same Kz.errs (fun m p => Kz.notifyPort_errs m d p code kind idx data) _ m
@[simp] theorem Kz.notifyAt_pwr (m : Kz) (d code kind idx : Nat) (data : List Byte) : (m.notifyAt d code kind idx data).pwr = m.pwr := foldl_same Kz.pwr (fun m p => Kz.notifyPort_pwr m d p code kind idx data) _ m
@[simp] theorem Kz.notifyAt_sup (m : Kz) (d code kind idx : Nat) (data : List Byte) : (m.notifyAt d code kind idx data).sup = m.sup := foldl_same Kz.sup (fun m p => Kz.notifyPort_sup m d p code kind idx data) _ m
@[simp] theorem Kz.notifyAt_fw (m : Kz) (d code kind idx : Nat) (data : List Byte) : (m.notifyAt d code kind idx data).fw = m.fw := foldl_same Kz.fw (fun m p => Kz.notifyPort_fw m d p code kind idx data) _ m
@[simp] theorem Kz.notifyAt_trust (m : Kz) (d code kind idx : Nat) (data : List Byte) : (m.notifyAt d code kind idx data).trust = m.trust := foldl_same Kz.trust (fun m p => Kz.notifyPort_trust m d p code kind idx data) _ m
@[simp] theorem Kz.notifyAt_tb (m : Kz) (d code kind idx : Nat) (data : List Byte) : (m.notifyAt d code kind idx data).tb = m.tb := foldl_same Kz.tb (fun m p => Kz.notifyPort_tb m d p code kind idx data) _ m
@[simp] theorem Kz.notifyAt_tl (m : Kz) (d code kind idx : Nat) (data : List Byte) : (m.notifyAt d code kind idx data).tl = m.tl := foldl_same Kz.tl (fun m p => Kz.notifyPort_tl m d p code kind idx data) _ m
@[simp] theorem Kz.notifyAt_hub (m : Kz) (d code kind idx : Nat) (data : List Byte) : (m.notifyAt d code kind idx data).hub = m.hub := foldl_same Kz.hub (fun m p => Kz.notifyPort_hub m d p code kind idx data) _ m
@[simp] theorem Kz.notifyAt_rgns (m : Kz) (d code kind idx : Nat) (data : List Byte) : (m.notifyAt d code kind idx data).rgns = m.rgns := foldl_same Kz.rgns (fun m p => Kz.notifyPort_rgns m d p code kind idx data) _ m
@[simp] theorem Kz.notifyAt_chans (m : Kz) (d code kind idx : Nat) (data : List Byte) : (m.notifyAt d code kind idx data).chans = m.chans := foldl_same Kz.chans (fun m p => Kz.notifyPort_chans m d p code kind idx data) _ m
@[simp] theorem Kz.notifyAt_maps (m : Kz) (d code kind idx : Nat) (data : List Byte) : (m.notifyAt d code kind idx data).maps = m.maps := foldl_same Kz.maps (fun m p => Kz.notifyPort_maps m d p code kind idx data) _ m
@[simp] theorem Kz.notifyAt_prims (m : Kz) (d code kind idx : Nat) (data : List Byte) : (m.notifyAt d code kind idx data).prims = m.prims := foldl_same Kz.prims (fun m p => Kz.notifyPort_prims m d p code kind idx data) _ m
@[simp] theorem Kz.notifyAt_tiu (m : Kz) (d code kind idx : Nat) (data : List Byte) : (m.notifyAt d code kind idx data).tiu = m.tiu := foldl_same Kz.tiu (fun m p => Kz.notifyPort_tiu m d p code kind idx data) _ m
@[simp] theorem Kz.notifyAt_sns (m : Kz) (d code kind idx : Nat) (data : List Byte) : (m.notifyAt d code kind idx data).sns = m.sns := foldl_same Kz.sns (fun m p => Kz.notifyPort_sns m d p code kind idx data) _ m
@[simp] theorem Kz.notifyAt_hk (m : Kz) (d code kind idx : Nat) (data : List Byte) : (m.notifyAt d code kind idx data).hk = m.hk := foldl_same Kz.hk (fun m p => Kz.notifyPort_hk m d p code kind idx data) _ m
@[simp] theorem Kz.notifyAt_age (m : Kz) (d code kind idx : Nat) (data : List Byte) : (m.notifyAt d code kind idx data).age = m.age := foldl_same Kz.age (fun m p => Kz.notifyPort_age m d p code kind idx data) _ m
@[simp] theorem Kz.notifyAt_dsi (m : Kz) (d code kind idx : Nat) (data : List Byte) : (m.notifyAt d code kind idx data).dsi = m.dsi := foldl_same Kz.dsi (fun m p => Kz.notifyPort_dsi m d p code kind idx data) _ m
@[simp] theorem Kz.notifyAt_mem (m : Kz) (d code kind idx : Nat) (data : List Byte) : (m.notifyAt d code kind idx data).mem = m.mem := foldl_same Kz.mem (fun m p => Kz.notifyPort_mem m d p code kind idx data) _ m
@[simp] theorem Kz.notifyAt_spans (m : Kz) (d code kind idx : Nat) (data : List Byte) : (m.notifyAt d code kind idx data).spans = m.spans := foldl_same Kz.spans (fun m p => Kz.notifyPort_spans m d p code kind idx data) _ m
@[simp] theorem Kz.notify_now (m : Kz) (code kind idx : Nat) (data : List Byte) : (m.notify code kind idx data).now = m.now := Kz.notifyAt_now ..
@[simp] theorem Kz.notify_fresh (m : Kz) (code kind idx : Nat) (data : List Byte) : (m.notify code kind idx data).fresh = m.fresh := Kz.notifyAt_fresh ..
@[simp] theorem Kz.notify_regs (m : Kz) (code kind idx : Nat) (data : List Byte) : (m.notify code kind idx data).regs = m.regs := Kz.notifyAt_regs ..
@[simp] theorem Kz.notify_log (m : Kz) (code kind idx : Nat) (data : List Byte) : (m.notify code kind idx data).log = m.log := Kz.notifyAt_log ..
@[simp] theorem Kz.notify_errs (m : Kz) (code kind idx : Nat) (data : List Byte) : (m.notify code kind idx data).errs = m.errs := Kz.notifyAt_errs ..
@[simp] theorem Kz.notify_pwr (m : Kz) (code kind idx : Nat) (data : List Byte) : (m.notify code kind idx data).pwr = m.pwr := Kz.notifyAt_pwr ..
@[simp] theorem Kz.notify_sup (m : Kz) (code kind idx : Nat) (data : List Byte) : (m.notify code kind idx data).sup = m.sup := Kz.notifyAt_sup ..
@[simp] theorem Kz.notify_fw (m : Kz) (code kind idx : Nat) (data : List Byte) : (m.notify code kind idx data).fw = m.fw := Kz.notifyAt_fw ..
@[simp] theorem Kz.notify_trust (m : Kz) (code kind idx : Nat) (data : List Byte) : (m.notify code kind idx data).trust = m.trust := Kz.notifyAt_trust ..
@[simp] theorem Kz.notify_tb (m : Kz) (code kind idx : Nat) (data : List Byte) : (m.notify code kind idx data).tb = m.tb := Kz.notifyAt_tb ..
@[simp] theorem Kz.notify_tl (m : Kz) (code kind idx : Nat) (data : List Byte) : (m.notify code kind idx data).tl = m.tl := Kz.notifyAt_tl ..
@[simp] theorem Kz.notify_hub (m : Kz) (code kind idx : Nat) (data : List Byte) : (m.notify code kind idx data).hub = m.hub := Kz.notifyAt_hub ..
@[simp] theorem Kz.notify_rgns (m : Kz) (code kind idx : Nat) (data : List Byte) : (m.notify code kind idx data).rgns = m.rgns := Kz.notifyAt_rgns ..
@[simp] theorem Kz.notify_chans (m : Kz) (code kind idx : Nat) (data : List Byte) : (m.notify code kind idx data).chans = m.chans := Kz.notifyAt_chans ..
@[simp] theorem Kz.notify_maps (m : Kz) (code kind idx : Nat) (data : List Byte) : (m.notify code kind idx data).maps = m.maps := Kz.notifyAt_maps ..
@[simp] theorem Kz.notify_prims (m : Kz) (code kind idx : Nat) (data : List Byte) : (m.notify code kind idx data).prims = m.prims := Kz.notifyAt_prims ..
@[simp] theorem Kz.notify_tiu (m : Kz) (code kind idx : Nat) (data : List Byte) : (m.notify code kind idx data).tiu = m.tiu := Kz.notifyAt_tiu ..
@[simp] theorem Kz.notify_sns (m : Kz) (code kind idx : Nat) (data : List Byte) : (m.notify code kind idx data).sns = m.sns := Kz.notifyAt_sns ..
@[simp] theorem Kz.notify_hk (m : Kz) (code kind idx : Nat) (data : List Byte) : (m.notify code kind idx data).hk = m.hk := Kz.notifyAt_hk ..
@[simp] theorem Kz.notify_age (m : Kz) (code kind idx : Nat) (data : List Byte) : (m.notify code kind idx data).age = m.age := Kz.notifyAt_age ..
@[simp] theorem Kz.notify_dsi (m : Kz) (code kind idx : Nat) (data : List Byte) : (m.notify code kind idx data).dsi = m.dsi := Kz.notifyAt_dsi ..
@[simp] theorem Kz.notify_mem (m : Kz) (code kind idx : Nat) (data : List Byte) : (m.notify code kind idx data).mem = m.mem := Kz.notifyAt_mem ..
@[simp] theorem Kz.notify_spans (m : Kz) (code kind idx : Nat) (data : List Byte) : (m.notify code kind idx data).spans = m.spans := Kz.notifyAt_spans ..
@[simp] theorem Kz.openSpanAt_now (m : Kz) (k : SpanKind) (t : Nat) : (m.openSpanAt k t).now = m.now := by unfold Kz.openSpanAt; split <;> rfl
@[simp] theorem Kz.openSpanAt_fresh (m : Kz) (k : SpanKind) (t : Nat) : (m.openSpanAt k t).fresh = m.fresh := by unfold Kz.openSpanAt; split <;> rfl
@[simp] theorem Kz.openSpanAt_regs (m : Kz) (k : SpanKind) (t : Nat) : (m.openSpanAt k t).regs = m.regs := by unfold Kz.openSpanAt; split <;> rfl
@[simp] theorem Kz.openSpanAt_stats (m : Kz) (k : SpanKind) (t : Nat) : (m.openSpanAt k t).stats = m.stats := by unfold Kz.openSpanAt; split <;> rfl
@[simp] theorem Kz.openSpanAt_log (m : Kz) (k : SpanKind) (t : Nat) : (m.openSpanAt k t).log = m.log := by unfold Kz.openSpanAt; split <;> rfl
@[simp] theorem Kz.openSpanAt_errs (m : Kz) (k : SpanKind) (t : Nat) : (m.openSpanAt k t).errs = m.errs := by unfold Kz.openSpanAt; split <;> rfl
@[simp] theorem Kz.openSpanAt_pwr (m : Kz) (k : SpanKind) (t : Nat) : (m.openSpanAt k t).pwr = m.pwr := by unfold Kz.openSpanAt; split <;> rfl
@[simp] theorem Kz.openSpanAt_sup (m : Kz) (k : SpanKind) (t : Nat) : (m.openSpanAt k t).sup = m.sup := by unfold Kz.openSpanAt; split <;> rfl
@[simp] theorem Kz.openSpanAt_fw (m : Kz) (k : SpanKind) (t : Nat) : (m.openSpanAt k t).fw = m.fw := by unfold Kz.openSpanAt; split <;> rfl
@[simp] theorem Kz.openSpanAt_trust (m : Kz) (k : SpanKind) (t : Nat) : (m.openSpanAt k t).trust = m.trust := by unfold Kz.openSpanAt; split <;> rfl
@[simp] theorem Kz.openSpanAt_tb (m : Kz) (k : SpanKind) (t : Nat) : (m.openSpanAt k t).tb = m.tb := by unfold Kz.openSpanAt; split <;> rfl
@[simp] theorem Kz.openSpanAt_tl (m : Kz) (k : SpanKind) (t : Nat) : (m.openSpanAt k t).tl = m.tl := by unfold Kz.openSpanAt; split <;> rfl
@[simp] theorem Kz.openSpanAt_hub (m : Kz) (k : SpanKind) (t : Nat) : (m.openSpanAt k t).hub = m.hub := by unfold Kz.openSpanAt; split <;> rfl
@[simp] theorem Kz.openSpanAt_ports (m : Kz) (k : SpanKind) (t : Nat) : (m.openSpanAt k t).ports = m.ports := by unfold Kz.openSpanAt; split <;> rfl
@[simp] theorem Kz.openSpanAt_rgns (m : Kz) (k : SpanKind) (t : Nat) : (m.openSpanAt k t).rgns = m.rgns := by unfold Kz.openSpanAt; split <;> rfl
@[simp] theorem Kz.openSpanAt_chans (m : Kz) (k : SpanKind) (t : Nat) : (m.openSpanAt k t).chans = m.chans := by unfold Kz.openSpanAt; split <;> rfl
@[simp] theorem Kz.openSpanAt_maps (m : Kz) (k : SpanKind) (t : Nat) : (m.openSpanAt k t).maps = m.maps := by unfold Kz.openSpanAt; split <;> rfl
@[simp] theorem Kz.openSpanAt_prims (m : Kz) (k : SpanKind) (t : Nat) : (m.openSpanAt k t).prims = m.prims := by unfold Kz.openSpanAt; split <;> rfl
@[simp] theorem Kz.openSpanAt_tiu (m : Kz) (k : SpanKind) (t : Nat) : (m.openSpanAt k t).tiu = m.tiu := by unfold Kz.openSpanAt; split <;> rfl
@[simp] theorem Kz.openSpanAt_sns (m : Kz) (k : SpanKind) (t : Nat) : (m.openSpanAt k t).sns = m.sns := by unfold Kz.openSpanAt; split <;> rfl
@[simp] theorem Kz.openSpanAt_hk (m : Kz) (k : SpanKind) (t : Nat) : (m.openSpanAt k t).hk = m.hk := by unfold Kz.openSpanAt; split <;> rfl
@[simp] theorem Kz.openSpanAt_age (m : Kz) (k : SpanKind) (t : Nat) : (m.openSpanAt k t).age = m.age := by unfold Kz.openSpanAt; split <;> rfl
@[simp] theorem Kz.openSpanAt_dsi (m : Kz) (k : SpanKind) (t : Nat) : (m.openSpanAt k t).dsi = m.dsi := by unfold Kz.openSpanAt; split <;> rfl
@[simp] theorem Kz.openSpanAt_mem (m : Kz) (k : SpanKind) (t : Nat) : (m.openSpanAt k t).mem = m.mem := by unfold Kz.openSpanAt; split <;> rfl
@[simp] theorem Kz.openSpanAt_wire (m : Kz) (k : SpanKind) (t : Nat) : (m.openSpanAt k t).wire = m.wire := by unfold Kz.openSpanAt; split <;> rfl
@[simp] theorem Kz.openSpan_now (m : Kz) (k : SpanKind) : (m.openSpan k).now = m.now := Kz.openSpanAt_now ..
@[simp] theorem Kz.openSpan_fresh (m : Kz) (k : SpanKind) : (m.openSpan k).fresh = m.fresh := Kz.openSpanAt_fresh ..
@[simp] theorem Kz.openSpan_regs (m : Kz) (k : SpanKind) : (m.openSpan k).regs = m.regs := Kz.openSpanAt_regs ..
@[simp] theorem Kz.openSpan_stats (m : Kz) (k : SpanKind) : (m.openSpan k).stats = m.stats := Kz.openSpanAt_stats ..
@[simp] theorem Kz.openSpan_log (m : Kz) (k : SpanKind) : (m.openSpan k).log = m.log := Kz.openSpanAt_log ..
@[simp] theorem Kz.openSpan_errs (m : Kz) (k : SpanKind) : (m.openSpan k).errs = m.errs := Kz.openSpanAt_errs ..
@[simp] theorem Kz.openSpan_pwr (m : Kz) (k : SpanKind) : (m.openSpan k).pwr = m.pwr := Kz.openSpanAt_pwr ..
@[simp] theorem Kz.openSpan_sup (m : Kz) (k : SpanKind) : (m.openSpan k).sup = m.sup := Kz.openSpanAt_sup ..
@[simp] theorem Kz.openSpan_fw (m : Kz) (k : SpanKind) : (m.openSpan k).fw = m.fw := Kz.openSpanAt_fw ..
@[simp] theorem Kz.openSpan_trust (m : Kz) (k : SpanKind) : (m.openSpan k).trust = m.trust := Kz.openSpanAt_trust ..
@[simp] theorem Kz.openSpan_tb (m : Kz) (k : SpanKind) : (m.openSpan k).tb = m.tb := Kz.openSpanAt_tb ..
@[simp] theorem Kz.openSpan_tl (m : Kz) (k : SpanKind) : (m.openSpan k).tl = m.tl := Kz.openSpanAt_tl ..
@[simp] theorem Kz.openSpan_hub (m : Kz) (k : SpanKind) : (m.openSpan k).hub = m.hub := Kz.openSpanAt_hub ..
@[simp] theorem Kz.openSpan_ports (m : Kz) (k : SpanKind) : (m.openSpan k).ports = m.ports := Kz.openSpanAt_ports ..
@[simp] theorem Kz.openSpan_rgns (m : Kz) (k : SpanKind) : (m.openSpan k).rgns = m.rgns := Kz.openSpanAt_rgns ..
@[simp] theorem Kz.openSpan_chans (m : Kz) (k : SpanKind) : (m.openSpan k).chans = m.chans := Kz.openSpanAt_chans ..
@[simp] theorem Kz.openSpan_maps (m : Kz) (k : SpanKind) : (m.openSpan k).maps = m.maps := Kz.openSpanAt_maps ..
@[simp] theorem Kz.openSpan_prims (m : Kz) (k : SpanKind) : (m.openSpan k).prims = m.prims := Kz.openSpanAt_prims ..
@[simp] theorem Kz.openSpan_tiu (m : Kz) (k : SpanKind) : (m.openSpan k).tiu = m.tiu := Kz.openSpanAt_tiu ..
@[simp] theorem Kz.openSpan_sns (m : Kz) (k : SpanKind) : (m.openSpan k).sns = m.sns := Kz.openSpanAt_sns ..
@[simp] theorem Kz.openSpan_hk (m : Kz) (k : SpanKind) : (m.openSpan k).hk = m.hk := Kz.openSpanAt_hk ..
@[simp] theorem Kz.openSpan_age (m : Kz) (k : SpanKind) : (m.openSpan k).age = m.age := Kz.openSpanAt_age ..
@[simp] theorem Kz.openSpan_dsi (m : Kz) (k : SpanKind) : (m.openSpan k).dsi = m.dsi := Kz.openSpanAt_dsi ..
@[simp] theorem Kz.openSpan_mem (m : Kz) (k : SpanKind) : (m.openSpan k).mem = m.mem := Kz.openSpanAt_mem ..
@[simp] theorem Kz.openSpan_wire (m : Kz) (k : SpanKind) : (m.openSpan k).wire = m.wire := Kz.openSpanAt_wire ..
@[simp] theorem Kz.closeSpanAt_now (m : Kz) (k : SpanKind) (t : Nat) : (m.closeSpanAt k t).now = m.now := rfl
@[simp] theorem Kz.closeSpanAt_fresh (m : Kz) (k : SpanKind) (t : Nat) : (m.closeSpanAt k t).fresh = m.fresh := rfl
@[simp] theorem Kz.closeSpanAt_regs (m : Kz) (k : SpanKind) (t : Nat) : (m.closeSpanAt k t).regs = m.regs := rfl
@[simp] theorem Kz.closeSpanAt_stats (m : Kz) (k : SpanKind) (t : Nat) : (m.closeSpanAt k t).stats = m.stats := rfl
@[simp] theorem Kz.closeSpanAt_log (m : Kz) (k : SpanKind) (t : Nat) : (m.closeSpanAt k t).log = m.log := rfl
@[simp] theorem Kz.closeSpanAt_errs (m : Kz) (k : SpanKind) (t : Nat) : (m.closeSpanAt k t).errs = m.errs := rfl
@[simp] theorem Kz.closeSpanAt_pwr (m : Kz) (k : SpanKind) (t : Nat) : (m.closeSpanAt k t).pwr = m.pwr := rfl
@[simp] theorem Kz.closeSpanAt_sup (m : Kz) (k : SpanKind) (t : Nat) : (m.closeSpanAt k t).sup = m.sup := rfl
@[simp] theorem Kz.closeSpanAt_fw (m : Kz) (k : SpanKind) (t : Nat) : (m.closeSpanAt k t).fw = m.fw := rfl
@[simp] theorem Kz.closeSpanAt_trust (m : Kz) (k : SpanKind) (t : Nat) : (m.closeSpanAt k t).trust = m.trust := rfl
@[simp] theorem Kz.closeSpanAt_tb (m : Kz) (k : SpanKind) (t : Nat) : (m.closeSpanAt k t).tb = m.tb := rfl
@[simp] theorem Kz.closeSpanAt_tl (m : Kz) (k : SpanKind) (t : Nat) : (m.closeSpanAt k t).tl = m.tl := rfl
@[simp] theorem Kz.closeSpanAt_hub (m : Kz) (k : SpanKind) (t : Nat) : (m.closeSpanAt k t).hub = m.hub := rfl
@[simp] theorem Kz.closeSpanAt_ports (m : Kz) (k : SpanKind) (t : Nat) : (m.closeSpanAt k t).ports = m.ports := rfl
@[simp] theorem Kz.closeSpanAt_rgns (m : Kz) (k : SpanKind) (t : Nat) : (m.closeSpanAt k t).rgns = m.rgns := rfl
@[simp] theorem Kz.closeSpanAt_chans (m : Kz) (k : SpanKind) (t : Nat) : (m.closeSpanAt k t).chans = m.chans := rfl
@[simp] theorem Kz.closeSpanAt_maps (m : Kz) (k : SpanKind) (t : Nat) : (m.closeSpanAt k t).maps = m.maps := rfl
@[simp] theorem Kz.closeSpanAt_prims (m : Kz) (k : SpanKind) (t : Nat) : (m.closeSpanAt k t).prims = m.prims := rfl
@[simp] theorem Kz.closeSpanAt_tiu (m : Kz) (k : SpanKind) (t : Nat) : (m.closeSpanAt k t).tiu = m.tiu := rfl
@[simp] theorem Kz.closeSpanAt_sns (m : Kz) (k : SpanKind) (t : Nat) : (m.closeSpanAt k t).sns = m.sns := rfl
@[simp] theorem Kz.closeSpanAt_hk (m : Kz) (k : SpanKind) (t : Nat) : (m.closeSpanAt k t).hk = m.hk := rfl
@[simp] theorem Kz.closeSpanAt_age (m : Kz) (k : SpanKind) (t : Nat) : (m.closeSpanAt k t).age = m.age := rfl
@[simp] theorem Kz.closeSpanAt_dsi (m : Kz) (k : SpanKind) (t : Nat) : (m.closeSpanAt k t).dsi = m.dsi := rfl
@[simp] theorem Kz.closeSpanAt_mem (m : Kz) (k : SpanKind) (t : Nat) : (m.closeSpanAt k t).mem = m.mem := rfl
@[simp] theorem Kz.closeSpanAt_wire (m : Kz) (k : SpanKind) (t : Nat) : (m.closeSpanAt k t).wire = m.wire := rfl
@[simp] theorem Kz.closeSpan_now (m : Kz) (k : SpanKind) : (m.closeSpan k).now = m.now := rfl
@[simp] theorem Kz.closeSpan_fresh (m : Kz) (k : SpanKind) : (m.closeSpan k).fresh = m.fresh := rfl
@[simp] theorem Kz.closeSpan_regs (m : Kz) (k : SpanKind) : (m.closeSpan k).regs = m.regs := rfl
@[simp] theorem Kz.closeSpan_stats (m : Kz) (k : SpanKind) : (m.closeSpan k).stats = m.stats := rfl
@[simp] theorem Kz.closeSpan_log (m : Kz) (k : SpanKind) : (m.closeSpan k).log = m.log := rfl
@[simp] theorem Kz.closeSpan_errs (m : Kz) (k : SpanKind) : (m.closeSpan k).errs = m.errs := rfl
@[simp] theorem Kz.closeSpan_pwr (m : Kz) (k : SpanKind) : (m.closeSpan k).pwr = m.pwr := rfl
@[simp] theorem Kz.closeSpan_sup (m : Kz) (k : SpanKind) : (m.closeSpan k).sup = m.sup := rfl
@[simp] theorem Kz.closeSpan_fw (m : Kz) (k : SpanKind) : (m.closeSpan k).fw = m.fw := rfl
@[simp] theorem Kz.closeSpan_trust (m : Kz) (k : SpanKind) : (m.closeSpan k).trust = m.trust := rfl
@[simp] theorem Kz.closeSpan_tb (m : Kz) (k : SpanKind) : (m.closeSpan k).tb = m.tb := rfl
@[simp] theorem Kz.closeSpan_tl (m : Kz) (k : SpanKind) : (m.closeSpan k).tl = m.tl := rfl
@[simp] theorem Kz.closeSpan_hub (m : Kz) (k : SpanKind) : (m.closeSpan k).hub = m.hub := rfl
@[simp] theorem Kz.closeSpan_ports (m : Kz) (k : SpanKind) : (m.closeSpan k).ports = m.ports := rfl
@[simp] theorem Kz.closeSpan_rgns (m : Kz) (k : SpanKind) : (m.closeSpan k).rgns = m.rgns := rfl
@[simp] theorem Kz.closeSpan_chans (m : Kz) (k : SpanKind) : (m.closeSpan k).chans = m.chans := rfl
@[simp] theorem Kz.closeSpan_maps (m : Kz) (k : SpanKind) : (m.closeSpan k).maps = m.maps := rfl
@[simp] theorem Kz.closeSpan_prims (m : Kz) (k : SpanKind) : (m.closeSpan k).prims = m.prims := rfl
@[simp] theorem Kz.closeSpan_tiu (m : Kz) (k : SpanKind) : (m.closeSpan k).tiu = m.tiu := rfl
@[simp] theorem Kz.closeSpan_sns (m : Kz) (k : SpanKind) : (m.closeSpan k).sns = m.sns := rfl
@[simp] theorem Kz.closeSpan_hk (m : Kz) (k : SpanKind) : (m.closeSpan k).hk = m.hk := rfl
@[simp] theorem Kz.closeSpan_age (m : Kz) (k : SpanKind) : (m.closeSpan k).age = m.age := rfl
@[simp] theorem Kz.closeSpan_dsi (m : Kz) (k : SpanKind) : (m.closeSpan k).dsi = m.dsi := rfl
@[simp] theorem Kz.closeSpan_mem (m : Kz) (k : SpanKind) : (m.closeSpan k).mem = m.mem := rfl
@[simp] theorem Kz.closeSpan_wire (m : Kz) (k : SpanKind) : (m.closeSpan k).wire = m.wire := rfl
@[simp] theorem Kz.addSpan_now (m : Kz) (k : SpanKind) (a b : Nat) : (m.addSpan k a b).now = m.now := rfl
@[simp] theorem Kz.addSpan_fresh (m : Kz) (k : SpanKind) (a b : Nat) : (m.addSpan k a b).fresh = m.fresh := rfl
@[simp] theorem Kz.addSpan_regs (m : Kz) (k : SpanKind) (a b : Nat) : (m.addSpan k a b).regs = m.regs := rfl
@[simp] theorem Kz.addSpan_stats (m : Kz) (k : SpanKind) (a b : Nat) : (m.addSpan k a b).stats = m.stats := rfl
@[simp] theorem Kz.addSpan_log (m : Kz) (k : SpanKind) (a b : Nat) : (m.addSpan k a b).log = m.log := rfl
@[simp] theorem Kz.addSpan_errs (m : Kz) (k : SpanKind) (a b : Nat) : (m.addSpan k a b).errs = m.errs := rfl
@[simp] theorem Kz.addSpan_pwr (m : Kz) (k : SpanKind) (a b : Nat) : (m.addSpan k a b).pwr = m.pwr := rfl
@[simp] theorem Kz.addSpan_sup (m : Kz) (k : SpanKind) (a b : Nat) : (m.addSpan k a b).sup = m.sup := rfl
@[simp] theorem Kz.addSpan_fw (m : Kz) (k : SpanKind) (a b : Nat) : (m.addSpan k a b).fw = m.fw := rfl
@[simp] theorem Kz.addSpan_trust (m : Kz) (k : SpanKind) (a b : Nat) : (m.addSpan k a b).trust = m.trust := rfl
@[simp] theorem Kz.addSpan_tb (m : Kz) (k : SpanKind) (a b : Nat) : (m.addSpan k a b).tb = m.tb := rfl
@[simp] theorem Kz.addSpan_tl (m : Kz) (k : SpanKind) (a b : Nat) : (m.addSpan k a b).tl = m.tl := rfl
@[simp] theorem Kz.addSpan_hub (m : Kz) (k : SpanKind) (a b : Nat) : (m.addSpan k a b).hub = m.hub := rfl
@[simp] theorem Kz.addSpan_ports (m : Kz) (k : SpanKind) (a b : Nat) : (m.addSpan k a b).ports = m.ports := rfl
@[simp] theorem Kz.addSpan_rgns (m : Kz) (k : SpanKind) (a b : Nat) : (m.addSpan k a b).rgns = m.rgns := rfl
@[simp] theorem Kz.addSpan_chans (m : Kz) (k : SpanKind) (a b : Nat) : (m.addSpan k a b).chans = m.chans := rfl
@[simp] theorem Kz.addSpan_maps (m : Kz) (k : SpanKind) (a b : Nat) : (m.addSpan k a b).maps = m.maps := rfl
@[simp] theorem Kz.addSpan_prims (m : Kz) (k : SpanKind) (a b : Nat) : (m.addSpan k a b).prims = m.prims := rfl
@[simp] theorem Kz.addSpan_tiu (m : Kz) (k : SpanKind) (a b : Nat) : (m.addSpan k a b).tiu = m.tiu := rfl
@[simp] theorem Kz.addSpan_sns (m : Kz) (k : SpanKind) (a b : Nat) : (m.addSpan k a b).sns = m.sns := rfl
@[simp] theorem Kz.addSpan_hk (m : Kz) (k : SpanKind) (a b : Nat) : (m.addSpan k a b).hk = m.hk := rfl
@[simp] theorem Kz.addSpan_age (m : Kz) (k : SpanKind) (a b : Nat) : (m.addSpan k a b).age = m.age := rfl
@[simp] theorem Kz.addSpan_dsi (m : Kz) (k : SpanKind) (a b : Nat) : (m.addSpan k a b).dsi = m.dsi := rfl
@[simp] theorem Kz.addSpan_mem (m : Kz) (k : SpanKind) (a b : Nat) : (m.addSpan k a b).mem = m.mem := rfl
@[simp] theorem Kz.addSpan_wire (m : Kz) (k : SpanKind) (a b : Nat) : (m.addSpan k a b).wire = m.wire := rfl
@[simp] theorem Kz.ledgerAct_now (m : Kz) (code kind idx : Nat) : (m.ledgerAct code kind idx).now = m.now := rfl
@[simp] theorem Kz.ledgerAct_fresh (m : Kz) (code kind idx : Nat) : (m.ledgerAct code kind idx).fresh = m.fresh := rfl
@[simp] theorem Kz.ledgerAct_regs (m : Kz) (code kind idx : Nat) : (m.ledgerAct code kind idx).regs = m.regs := rfl
@[simp] theorem Kz.ledgerAct_stats (m : Kz) (code kind idx : Nat) : (m.ledgerAct code kind idx).stats = m.stats := rfl
@[simp] theorem Kz.ledgerAct_log (m : Kz) (code kind idx : Nat) : (m.ledgerAct code kind idx).log = m.log := rfl
@[simp] theorem Kz.ledgerAct_errs (m : Kz) (code kind idx : Nat) : (m.ledgerAct code kind idx).errs = m.errs := rfl
@[simp] theorem Kz.ledgerAct_pwr (m : Kz) (code kind idx : Nat) : (m.ledgerAct code kind idx).pwr = m.pwr := rfl
@[simp] theorem Kz.ledgerAct_sup (m : Kz) (code kind idx : Nat) : (m.ledgerAct code kind idx).sup = m.sup := rfl
@[simp] theorem Kz.ledgerAct_fw (m : Kz) (code kind idx : Nat) : (m.ledgerAct code kind idx).fw = m.fw := rfl
@[simp] theorem Kz.ledgerAct_trust (m : Kz) (code kind idx : Nat) : (m.ledgerAct code kind idx).trust = m.trust := rfl
@[simp] theorem Kz.ledgerAct_tb (m : Kz) (code kind idx : Nat) : (m.ledgerAct code kind idx).tb = m.tb := rfl
@[simp] theorem Kz.ledgerAct_tl (m : Kz) (code kind idx : Nat) : (m.ledgerAct code kind idx).tl = m.tl := rfl
@[simp] theorem Kz.ledgerAct_hub (m : Kz) (code kind idx : Nat) : (m.ledgerAct code kind idx).hub = m.hub := rfl
@[simp] theorem Kz.ledgerAct_ports (m : Kz) (code kind idx : Nat) : (m.ledgerAct code kind idx).ports = m.ports := rfl
@[simp] theorem Kz.ledgerAct_rgns (m : Kz) (code kind idx : Nat) : (m.ledgerAct code kind idx).rgns = m.rgns := rfl
@[simp] theorem Kz.ledgerAct_chans (m : Kz) (code kind idx : Nat) : (m.ledgerAct code kind idx).chans = m.chans := rfl
@[simp] theorem Kz.ledgerAct_maps (m : Kz) (code kind idx : Nat) : (m.ledgerAct code kind idx).maps = m.maps := rfl
@[simp] theorem Kz.ledgerAct_prims (m : Kz) (code kind idx : Nat) : (m.ledgerAct code kind idx).prims = m.prims := rfl
@[simp] theorem Kz.ledgerAct_tiu (m : Kz) (code kind idx : Nat) : (m.ledgerAct code kind idx).tiu = m.tiu := rfl
@[simp] theorem Kz.ledgerAct_sns (m : Kz) (code kind idx : Nat) : (m.ledgerAct code kind idx).sns = m.sns := rfl
@[simp] theorem Kz.ledgerAct_hk (m : Kz) (code kind idx : Nat) : (m.ledgerAct code kind idx).hk = m.hk := rfl
@[simp] theorem Kz.ledgerAct_dsi (m : Kz) (code kind idx : Nat) : (m.ledgerAct code kind idx).dsi = m.dsi := rfl
@[simp] theorem Kz.ledgerAct_mem (m : Kz) (code kind idx : Nat) : (m.ledgerAct code kind idx).mem = m.mem := rfl
@[simp] theorem Kz.ledgerAct_spans (m : Kz) (code kind idx : Nat) : (m.ledgerAct code kind idx).spans = m.spans := rfl
@[simp] theorem Kz.ledgerAct_wire (m : Kz) (code kind idx : Nat) : (m.ledgerAct code kind idx).wire = m.wire := rfl

/-! ### What the operations change -/

@[simp] theorem Kz.tb_modTb (m : Kz) (f : TimeBase → TimeBase) : (m.modTb f).tb = f m.tb := rfl
@[simp] theorem Kz.tl_modTl (m : Kz) (f : TimingLink → TimingLink) : (m.modTl f).tl = f m.tl := rfl
@[simp] theorem Kz.hub_modHub (m : Kz) (f : Hub → Hub) : (m.modHub f).hub = f m.hub := rfl
@[simp] theorem Kz.pwr_modPower (m : Kz) (f : Power → Power) : (m.modPower f).pwr = f m.pwr := rfl
@[simp] theorem Kz.wire_emit (m : Kz) (e : Emission) : (m.emit e).wire = e :: m.wire := rfl
@[simp] theorem Kz.now_advance (m : Kz) (t : Stamp) : (m.advance t).now = ⟨max m.now.tick t.tick, max m.now.ns t.ns⟩ := rfl
theorem Kz.chan_modChan (m : Kz) (c x : Nat) (f : Channel → Channel) :
    (m.modChan c f).chan x = if x = c then f (m.chan c) else m.chan x := Sparse.get_mod ..
@[simp] theorem Kz.chan_modChan_same (m : Kz) (c : Nat) (f : Channel → Channel) : (m.modChan c f).chan c = f (m.chan c) :=
  Sparse.get_mod_same ..
theorem Kz.rgn_modRgn (m : Kz) (k x : Nat) (f : Region → Region) :
    (m.modRgn k f).rgn x = if x = k then f (m.rgn k) else m.rgn x := Sparse.get_mod ..
@[simp] theorem Kz.rgn_modRgn_same (m : Kz) (k : Nat) (f : Region → Region) : (m.modRgn k f).rgn k = f (m.rgn k) :=
  Sparse.get_mod_same ..
theorem Kz.port_modPort (m : Kz) (p x : Nat) (f : PortState → PortState) :
    (m.modPort p f).port x = if x = p then f (m.port p) else m.port x := Sparse.get_mod ..
@[simp] theorem Kz.port_modPort_same (m : Kz) (p : Nat) (f : PortState → PortState) : (m.modPort p f).port p = f (m.port p) :=
  Sparse.get_mod_same ..
theorem Kz.port_modSess (m : Kz) (p x : Nat) (f : Session → Session) :
    (m.modSess p f).port x = if x = p then { m.port p with session := f (m.port p).session } else m.port x :=
  Kz.port_modPort m p x (fun q => { q with session := f q.session })
@[simp] theorem Kz.port_modSess_same (m : Kz) (p : Nat) (f : Session → Session) :
    (m.modSess p f).port p = { m.port p with session := f (m.port p).session } :=
  Kz.port_modPort_same m p (fun q => { q with session := f q.session })
theorem Kz.counter_count (m : Kz) (k : RegKind) (i n : Nat) :
    (m.count k i n).counter k i = (Kz.Counter.add (Sparse.get ({} : Counter) m.stats.live (k.addr i)) n).val := by
  simp [Kz.counter, Kz.count]
theorem Kz.seenWord_markBit (m : Kz) (f : Field) (i b : Nat) :
    (m.markBit f i b).seenWord f.kind i = m.seenWord f.kind i ||| 1 <<< (f.lo + b) := by
  simp [Kz.seenWord, Kz.markBit]
theorem Kz.cfgWord_setCfg (m : Kz) (k : RegKind) (i : Nat) (w : Word) : (m.setCfg k i w).cfgWord k i = w := by
  simp [Kz.cfgWord, Kz.setCfg]
theorem Kz.seenWord_clearSeen (m : Kz) (k : RegKind) (i w : Nat) :
    (m.clearSeen k i w).seenWord k i = m.seenWord k i &&& ((0xFFFFFFFF ^^^ w) ||| m.setNow (k.addr i)) := by
  simp [Kz.seenWord, Kz.clearSeen]
theorem Kz.rgn_modPwr (m : Kz) (k x : Nat) (f : RgnPower → RgnPower) :
    (m.modPwr k f).rgn x = if x = k then { m.rgn k with pwr := f (m.rgn k).pwr } else m.rgn x :=
  Kz.rgn_modRgn m k x (fun r => { r with pwr := f r.pwr })
@[simp] theorem Kz.rgn_modPwr_same (m : Kz) (k : Nat) (f : RgnPower → RgnPower) :
    (m.modPwr k f).rgn k = { m.rgn k with pwr := f (m.rgn k).pwr } :=
  Kz.rgn_modRgn_same m k (fun r => { r with pwr := f r.pwr })
theorem Kz.rgn_modErr (m : Kz) (k x : Nat) (f : RgnErr → RgnErr) :
    (m.modErr k f).rgn x = if x = k then { m.rgn k with err := f (m.rgn k).err } else m.rgn x :=
  Kz.rgn_modRgn m k x (fun r => { r with err := f r.err })
@[simp] theorem Kz.rgn_modErr_same (m : Kz) (k : Nat) (f : RgnErr → RgnErr) :
    (m.modErr k f).rgn k = { m.rgn k with err := f (m.rgn k).err } :=
  Kz.rgn_modRgn_same m k (fun r => { r with err := f r.err })
theorem Kz.rgn_modLane (m : Kz) (k x : Nat) (f : Lane → Lane) :
    (m.modLane k f).rgn x = if x = k then { m.rgn k with lane := f (m.rgn k).lane } else m.rgn x :=
  Kz.rgn_modRgn m k x (fun r => { r with lane := f r.lane })
@[simp] theorem Kz.rgn_modLane_same (m : Kz) (k : Nat) (f : Lane → Lane) :
    (m.modLane k f).rgn k = { m.rgn k with lane := f (m.rgn k).lane } :=
  Kz.rgn_modRgn_same m k (fun r => { r with lane := f r.lane })
theorem Kz.rgn_modAcq (m : Kz) (k x : Nat) (f : RgnAcq → RgnAcq) :
    (m.modAcq k f).rgn x = if x = k then { m.rgn k with acq := f (m.rgn k).acq } else m.rgn x :=
  Kz.rgn_modRgn m k x (fun r => { r with acq := f r.acq })
@[simp] theorem Kz.rgn_modAcq_same (m : Kz) (k : Nat) (f : RgnAcq → RgnAcq) :
    (m.modAcq k f).rgn k = { m.rgn k with acq := f (m.rgn k).acq } :=
  Kz.rgn_modRgn_same m k (fun r => { r with acq := f r.acq })
theorem Kz.rgn_modLg (m : Kz) (k x : Nat) (f : LaneGroup → LaneGroup) :
    (m.modLg k f).rgn x = if x = k then { m.rgn k with lg := f (m.rgn k).lg } else m.rgn x :=
  Kz.rgn_modRgn m k x (fun r => { r with lg := f r.lg })
@[simp] theorem Kz.rgn_modLg_same (m : Kz) (k : Nat) (f : LaneGroup → LaneGroup) :
    (m.modLg k f).rgn k = { m.rgn k with lg := f (m.rgn k).lg } :=
  Kz.rgn_modRgn_same m k (fun r => { r with lg := f r.lg })
theorem Kz.rgn_modAcc (m : Kz) (k x : Nat) (f : RgnAccum → RgnAccum) :
    (m.modAcc k f).rgn x = if x = k then { m.rgn k with acc := f (m.rgn k).acc } else m.rgn x :=
  Kz.rgn_modRgn m k x (fun r => { r with acc := f r.acc })
@[simp] theorem Kz.rgn_modAcc_same (m : Kz) (k : Nat) (f : RgnAccum → RgnAccum) :
    (m.modAcc k f).rgn k = { m.rgn k with acc := f (m.rgn k).acc } :=
  Kz.rgn_modRgn_same m k (fun r => { r with acc := f r.acc })
theorem Kz.chan_modFe (m : Kz) (k x : Nat) (f : FrontEnd → FrontEnd) :
    (m.modFe k f).chan x = if x = k then { m.chan k with fe := f (m.chan k).fe } else m.chan x :=
  Kz.chan_modChan m k x (fun r => { r with fe := f r.fe })
@[simp] theorem Kz.chan_modFe_same (m : Kz) (k : Nat) (f : FrontEnd → FrontEnd) :
    (m.modFe k f).chan k = { m.chan k with fe := f (m.chan k).fe } :=
  Kz.chan_modChan_same m k (fun r => { r with fe := f r.fe })
theorem Kz.chan_modConv (m : Kz) (k x : Nat) (f : Conv → Conv) :
    (m.modConv k f).chan x = if x = k then { m.chan k with conv := f (m.chan k).conv } else m.chan x :=
  Kz.chan_modChan m k x (fun r => { r with conv := f r.conv })
@[simp] theorem Kz.chan_modConv_same (m : Kz) (k : Nat) (f : Conv → Conv) :
    (m.modConv k f).chan k = { m.chan k with conv := f (m.chan k).conv } :=
  Kz.chan_modChan_same m k (fun r => { r with conv := f r.conv })
theorem Kz.chan_modChain (m : Kz) (k x : Nat) (f : Chain → Chain) :
    (m.modChain k f).chan x = if x = k then { m.chan k with chain := f (m.chan k).chain } else m.chan x :=
  Kz.chan_modChan m k x (fun r => { r with chain := f r.chain })
@[simp] theorem Kz.chan_modChain_same (m : Kz) (k : Nat) (f : Chain → Chain) :
    (m.modChain k f).chan k = { m.chan k with chain := f (m.chan k).chain } :=
  Kz.chan_modChan_same m k (fun r => { r with chain := f r.chain })
theorem Kz.chan_modTrig (m : Kz) (k x : Nat) (f : Trig → Trig) :
    (m.modTrig k f).chan x = if x = k then { m.chan k with trig := f (m.chan k).trig } else m.chan x :=
  Kz.chan_modChan m k x (fun r => { r with trig := f r.trig })
@[simp] theorem Kz.chan_modTrig_same (m : Kz) (k : Nat) (f : Trig → Trig) :
    (m.modTrig k f).chan k = { m.chan k with trig := f (m.chan k).trig } :=
  Kz.chan_modChan_same m k (fun r => { r with trig := f r.trig })
theorem Kz.chan_modMem (m : Kz) (k x : Nat) (f : Memory → Memory) :
    (m.modMem k f).chan x = if x = k then { m.chan k with mem := f (m.chan k).mem } else m.chan x :=
  Kz.chan_modChan m k x (fun r => { r with mem := f r.mem })
@[simp] theorem Kz.chan_modMem_same (m : Kz) (k : Nat) (f : Memory → Memory) :
    (m.modMem k f).chan k = { m.chan k with mem := f (m.chan k).mem } :=
  Kz.chan_modChan_same m k (fun r => { r with mem := f r.mem })
theorem Kz.chan_modEng (m : Kz) (k x : Nat) (f : Engine → Engine) :
    (m.modEng k f).chan x = if x = k then { m.chan k with eng := f (m.chan k).eng } else m.chan x :=
  Kz.chan_modChan m k x (fun r => { r with eng := f r.eng })
@[simp] theorem Kz.chan_modEng_same (m : Kz) (k : Nat) (f : Engine → Engine) :
    (m.modEng k f).chan k = { m.chan k with eng := f (m.chan k).eng } :=
  Kz.chan_modChan_same m k (fun r => { r with eng := f r.eng })

/-! ### Derived readings -/

@[simp] theorem Kz.chan_advance (m : Kz) (t : Stamp) (x : Nat) : (m.advance t).chan x = m.chan x := rfl
@[simp] theorem Kz.rgn_advance (m : Kz) (t : Stamp) (x : Nat) : (m.advance t).rgn x = m.rgn x := rfl
@[simp] theorem Kz.port_advance (m : Kz) (t : Stamp) (x : Nat) : (m.advance t).port x = m.port x := rfl
@[simp] theorem Kz.rstate_advance (m : Kz) (t : Stamp) (x : Nat) : (m.advance t).rstate x = m.rstate x := rfl
@[simp] theorem Kz.inRun_advance (m : Kz) (t : Stamp) (x : Nat) : (m.advance t).inRun x = m.inRun x := rfl
@[simp] theorem Kz.cfgWord_advance (m : Kz) (t : Stamp) (q : RegKind) (x : Nat) : (m.advance t).cfgWord q x = m.cfgWord q x := rfl
@[simp] theorem Kz.fld_advance (m : Kz) (t : Stamp) (q : Field) (x : Nat) : (m.advance t).fld q x = m.fld q x := rfl
@[simp] theorem Kz.on_advance (m : Kz) (t : Stamp) (q : Field) (x : Nat) : (m.advance t).on q x = m.on q x := rfl
@[simp] theorem Kz.seenWord_advance (m : Kz) (t : Stamp) (q : RegKind) (x : Nat) : (m.advance t).seenWord q x = m.seenWord q x := rfl
@[simp] theorem Kz.counter_advance (m : Kz) (t : Stamp) (q : RegKind) (x : Nat) : (m.advance t).counter q x = m.counter q x := rfl
@[simp] theorem Kz.stampOf_advance (m : Kz) (t : Stamp) (x : Nat) : (m.advance t).stampOf x = m.stampOf x := rfl
@[simp] theorem Kz.chan_modRgn (m : Kz) (k : Nat) (f : Region → Region) (x : Nat) : (m.modRgn k f).chan x = m.chan x := rfl
@[simp] theorem Kz.port_modRgn (m : Kz) (k : Nat) (f : Region → Region) (x : Nat) : (m.modRgn k f).port x = m.port x := rfl
@[simp] theorem Kz.cfgWord_modRgn (m : Kz) (k : Nat) (f : Region → Region) (q : RegKind) (x : Nat) : (m.modRgn k f).cfgWord q x = m.cfgWord q x := rfl
@[simp] theorem Kz.fld_modRgn (m : Kz) (k : Nat) (f : Region → Region) (q : Field) (x : Nat) : (m.modRgn k f).fld q x = m.fld q x := rfl
@[simp] theorem Kz.on_modRgn (m : Kz) (k : Nat) (f : Region → Region) (q : Field) (x : Nat) : (m.modRgn k f).on q x = m.on q x := rfl
@[simp] theorem Kz.seenWord_modRgn (m : Kz) (k : Nat) (f : Region → Region) (q : RegKind) (x : Nat) : (m.modRgn k f).seenWord q x = m.seenWord q x := rfl
@[simp] theorem Kz.counter_modRgn (m : Kz) (k : Nat) (f : Region → Region) (q : RegKind) (x : Nat) : (m.modRgn k f).counter q x = m.counter q x := rfl
@[simp] theorem Kz.datum_modRgn (m : Kz) (k : Nat) (f : Region → Region)  : (m.modRgn k f).datum = m.datum := rfl
@[simp] theorem Kz.inst_modRgn (m : Kz) (k : Nat) (f : Region → Region)  : (m.modRgn k f).inst = m.inst := rfl
@[simp] theorem Kz.fabric_modRgn (m : Kz) (k : Nat) (f : Region → Region)  : (m.modRgn k f).fabric = m.fabric := rfl
@[simp] theorem Kz.stampOf_modRgn (m : Kz) (k : Nat) (f : Region → Region) (x : Nat) : (m.modRgn k f).stampOf x = m.stampOf x := rfl
@[simp] theorem Kz.rgn_modChan (m : Kz) (c : Nat) (f : Channel → Channel) (x : Nat) : (m.modChan c f).rgn x = m.rgn x := rfl
@[simp] theorem Kz.port_modChan (m : Kz) (c : Nat) (f : Channel → Channel) (x : Nat) : (m.modChan c f).port x = m.port x := rfl
@[simp] theorem Kz.rstate_modChan (m : Kz) (c : Nat) (f : Channel → Channel) (x : Nat) : (m.modChan c f).rstate x = m.rstate x := rfl
@[simp] theorem Kz.inRun_modChan (m : Kz) (c : Nat) (f : Channel → Channel) (x : Nat) : (m.modChan c f).inRun x = m.inRun x := rfl
@[simp] theorem Kz.cfgWord_modChan (m : Kz) (c : Nat) (f : Channel → Channel) (q : RegKind) (x : Nat) : (m.modChan c f).cfgWord q x = m.cfgWord q x := rfl
@[simp] theorem Kz.fld_modChan (m : Kz) (c : Nat) (f : Channel → Channel) (q : Field) (x : Nat) : (m.modChan c f).fld q x = m.fld q x := rfl
@[simp] theorem Kz.on_modChan (m : Kz) (c : Nat) (f : Channel → Channel) (q : Field) (x : Nat) : (m.modChan c f).on q x = m.on q x := rfl
@[simp] theorem Kz.seenWord_modChan (m : Kz) (c : Nat) (f : Channel → Channel) (q : RegKind) (x : Nat) : (m.modChan c f).seenWord q x = m.seenWord q x := rfl
@[simp] theorem Kz.counter_modChan (m : Kz) (c : Nat) (f : Channel → Channel) (q : RegKind) (x : Nat) : (m.modChan c f).counter q x = m.counter q x := rfl
@[simp] theorem Kz.datum_modChan (m : Kz) (c : Nat) (f : Channel → Channel)  : (m.modChan c f).datum = m.datum := rfl
@[simp] theorem Kz.inst_modChan (m : Kz) (c : Nat) (f : Channel → Channel)  : (m.modChan c f).inst = m.inst := rfl
@[simp] theorem Kz.fabric_modChan (m : Kz) (c : Nat) (f : Channel → Channel)  : (m.modChan c f).fabric = m.fabric := rfl
@[simp] theorem Kz.stampOf_modChan (m : Kz) (c : Nat) (f : Channel → Channel) (x : Nat) : (m.modChan c f).stampOf x = m.stampOf x := rfl
@[simp] theorem Kz.chan_modPort (m : Kz) (p : Nat) (f : PortState → PortState) (x : Nat) : (m.modPort p f).chan x = m.chan x := rfl
@[simp] theorem Kz.rgn_modPort (m : Kz) (p : Nat) (f : PortState → PortState) (x : Nat) : (m.modPort p f).rgn x = m.rgn x := rfl
@[simp] theorem Kz.rstate_modPort (m : Kz) (p : Nat) (f : PortState → PortState) (x : Nat) : (m.modPort p f).rstate x = m.rstate x := rfl
@[simp] theorem Kz.inRun_modPort (m : Kz) (p : Nat) (f : PortState → PortState) (x : Nat) : (m.modPort p f).inRun x = m.inRun x := rfl
@[simp] theorem Kz.cfgWord_modPort (m : Kz) (p : Nat) (f : PortState → PortState) (q : RegKind) (x : Nat) : (m.modPort p f).cfgWord q x = m.cfgWord q x := rfl
@[simp] theorem Kz.fld_modPort (m : Kz) (p : Nat) (f : PortState → PortState) (q : Field) (x : Nat) : (m.modPort p f).fld q x = m.fld q x := rfl
@[simp] theorem Kz.on_modPort (m : Kz) (p : Nat) (f : PortState → PortState) (q : Field) (x : Nat) : (m.modPort p f).on q x = m.on q x := rfl
@[simp] theorem Kz.seenWord_modPort (m : Kz) (p : Nat) (f : PortState → PortState) (q : RegKind) (x : Nat) : (m.modPort p f).seenWord q x = m.seenWord q x := rfl
@[simp] theorem Kz.counter_modPort (m : Kz) (p : Nat) (f : PortState → PortState) (q : RegKind) (x : Nat) : (m.modPort p f).counter q x = m.counter q x := rfl
@[simp] theorem Kz.datum_modPort (m : Kz) (p : Nat) (f : PortState → PortState)  : (m.modPort p f).datum = m.datum := rfl
@[simp] theorem Kz.inst_modPort (m : Kz) (p : Nat) (f : PortState → PortState)  : (m.modPort p f).inst = m.inst := rfl
@[simp] theorem Kz.fabric_modPort (m : Kz) (p : Nat) (f : PortState → PortState)  : (m.modPort p f).fabric = m.fabric := rfl
@[simp] theorem Kz.stampOf_modPort (m : Kz) (p : Nat) (f : PortState → PortState) (x : Nat) : (m.modPort p f).stampOf x = m.stampOf x := rfl
@[simp] theorem Kz.chan_modSess (m : Kz) (p : Nat) (f : Session → Session) (x : Nat) : (m.modSess p f).chan x = m.chan x := rfl
@[simp] theorem Kz.rgn_modSess (m : Kz) (p : Nat) (f : Session → Session) (x : Nat) : (m.modSess p f).rgn x = m.rgn x := rfl
@[simp] theorem Kz.rstate_modSess (m : Kz) (p : Nat) (f : Session → Session) (x : Nat) : (m.modSess p f).rstate x = m.rstate x := rfl
@[simp] theorem Kz.inRun_modSess (m : Kz) (p : Nat) (f : Session → Session) (x : Nat) : (m.modSess p f).inRun x = m.inRun x := rfl
@[simp] theorem Kz.cfgWord_modSess (m : Kz) (p : Nat) (f : Session → Session) (q : RegKind) (x : Nat) : (m.modSess p f).cfgWord q x = m.cfgWord q x := rfl
@[simp] theorem Kz.fld_modSess (m : Kz) (p : Nat) (f : Session → Session) (q : Field) (x : Nat) : (m.modSess p f).fld q x = m.fld q x := rfl
@[simp] theorem Kz.on_modSess (m : Kz) (p : Nat) (f : Session → Session) (q : Field) (x : Nat) : (m.modSess p f).on q x = m.on q x := rfl
@[simp] theorem Kz.seenWord_modSess (m : Kz) (p : Nat) (f : Session → Session) (q : RegKind) (x : Nat) : (m.modSess p f).seenWord q x = m.seenWord q x := rfl
@[simp] theorem Kz.counter_modSess (m : Kz) (p : Nat) (f : Session → Session) (q : RegKind) (x : Nat) : (m.modSess p f).counter q x = m.counter q x := rfl
@[simp] theorem Kz.datum_modSess (m : Kz) (p : Nat) (f : Session → Session)  : (m.modSess p f).datum = m.datum := rfl
@[simp] theorem Kz.inst_modSess (m : Kz) (p : Nat) (f : Session → Session)  : (m.modSess p f).inst = m.inst := rfl
@[simp] theorem Kz.fabric_modSess (m : Kz) (p : Nat) (f : Session → Session)  : (m.modSess p f).fabric = m.fabric := rfl
@[simp] theorem Kz.stampOf_modSess (m : Kz) (p : Nat) (f : Session → Session) (x : Nat) : (m.modSess p f).stampOf x = m.stampOf x := rfl
@[simp] theorem Kz.chan_modTb (m : Kz) (f : TimeBase → TimeBase) (x : Nat) : (m.modTb f).chan x = m.chan x := rfl
@[simp] theorem Kz.rgn_modTb (m : Kz) (f : TimeBase → TimeBase) (x : Nat) : (m.modTb f).rgn x = m.rgn x := rfl
@[simp] theorem Kz.port_modTb (m : Kz) (f : TimeBase → TimeBase) (x : Nat) : (m.modTb f).port x = m.port x := rfl
@[simp] theorem Kz.rstate_modTb (m : Kz) (f : TimeBase → TimeBase) (x : Nat) : (m.modTb f).rstate x = m.rstate x := rfl
@[simp] theorem Kz.inRun_modTb (m : Kz) (f : TimeBase → TimeBase) (x : Nat) : (m.modTb f).inRun x = m.inRun x := rfl
@[simp] theorem Kz.cfgWord_modTb (m : Kz) (f : TimeBase → TimeBase) (q : RegKind) (x : Nat) : (m.modTb f).cfgWord q x = m.cfgWord q x := rfl
@[simp] theorem Kz.fld_modTb (m : Kz) (f : TimeBase → TimeBase) (q : Field) (x : Nat) : (m.modTb f).fld q x = m.fld q x := rfl
@[simp] theorem Kz.on_modTb (m : Kz) (f : TimeBase → TimeBase) (q : Field) (x : Nat) : (m.modTb f).on q x = m.on q x := rfl
@[simp] theorem Kz.seenWord_modTb (m : Kz) (f : TimeBase → TimeBase) (q : RegKind) (x : Nat) : (m.modTb f).seenWord q x = m.seenWord q x := rfl
@[simp] theorem Kz.counter_modTb (m : Kz) (f : TimeBase → TimeBase) (q : RegKind) (x : Nat) : (m.modTb f).counter q x = m.counter q x := rfl
@[simp] theorem Kz.inst_modTb (m : Kz) (f : TimeBase → TimeBase)  : (m.modTb f).inst = m.inst := rfl
@[simp] theorem Kz.fabric_modTb (m : Kz) (f : TimeBase → TimeBase)  : (m.modTb f).fabric = m.fabric := rfl
@[simp] theorem Kz.chan_modTl (m : Kz) (f : TimingLink → TimingLink) (x : Nat) : (m.modTl f).chan x = m.chan x := rfl
@[simp] theorem Kz.rgn_modTl (m : Kz) (f : TimingLink → TimingLink) (x : Nat) : (m.modTl f).rgn x = m.rgn x := rfl
@[simp] theorem Kz.port_modTl (m : Kz) (f : TimingLink → TimingLink) (x : Nat) : (m.modTl f).port x = m.port x := rfl
@[simp] theorem Kz.rstate_modTl (m : Kz) (f : TimingLink → TimingLink) (x : Nat) : (m.modTl f).rstate x = m.rstate x := rfl
@[simp] theorem Kz.inRun_modTl (m : Kz) (f : TimingLink → TimingLink) (x : Nat) : (m.modTl f).inRun x = m.inRun x := rfl
@[simp] theorem Kz.cfgWord_modTl (m : Kz) (f : TimingLink → TimingLink) (q : RegKind) (x : Nat) : (m.modTl f).cfgWord q x = m.cfgWord q x := rfl
@[simp] theorem Kz.fld_modTl (m : Kz) (f : TimingLink → TimingLink) (q : Field) (x : Nat) : (m.modTl f).fld q x = m.fld q x := rfl
@[simp] theorem Kz.on_modTl (m : Kz) (f : TimingLink → TimingLink) (q : Field) (x : Nat) : (m.modTl f).on q x = m.on q x := rfl
@[simp] theorem Kz.seenWord_modTl (m : Kz) (f : TimingLink → TimingLink) (q : RegKind) (x : Nat) : (m.modTl f).seenWord q x = m.seenWord q x := rfl
@[simp] theorem Kz.counter_modTl (m : Kz) (f : TimingLink → TimingLink) (q : RegKind) (x : Nat) : (m.modTl f).counter q x = m.counter q x := rfl
@[simp] theorem Kz.datum_modTl (m : Kz) (f : TimingLink → TimingLink)  : (m.modTl f).datum = m.datum := rfl
@[simp] theorem Kz.inst_modTl (m : Kz) (f : TimingLink → TimingLink)  : (m.modTl f).inst = m.inst := rfl
@[simp] theorem Kz.fabric_modTl (m : Kz) (f : TimingLink → TimingLink)  : (m.modTl f).fabric = m.fabric := rfl
@[simp] theorem Kz.stampOf_modTl (m : Kz) (f : TimingLink → TimingLink) (x : Nat) : (m.modTl f).stampOf x = m.stampOf x := rfl
@[simp] theorem Kz.chan_modHub (m : Kz) (f : Hub → Hub) (x : Nat) : (m.modHub f).chan x = m.chan x := rfl
@[simp] theorem Kz.rgn_modHub (m : Kz) (f : Hub → Hub) (x : Nat) : (m.modHub f).rgn x = m.rgn x := rfl
@[simp] theorem Kz.port_modHub (m : Kz) (f : Hub → Hub) (x : Nat) : (m.modHub f).port x = m.port x := rfl
@[simp] theorem Kz.rstate_modHub (m : Kz) (f : Hub → Hub) (x : Nat) : (m.modHub f).rstate x = m.rstate x := rfl
@[simp] theorem Kz.inRun_modHub (m : Kz) (f : Hub → Hub) (x : Nat) : (m.modHub f).inRun x = m.inRun x := rfl
@[simp] theorem Kz.cfgWord_modHub (m : Kz) (f : Hub → Hub) (q : RegKind) (x : Nat) : (m.modHub f).cfgWord q x = m.cfgWord q x := rfl
@[simp] theorem Kz.fld_modHub (m : Kz) (f : Hub → Hub) (q : Field) (x : Nat) : (m.modHub f).fld q x = m.fld q x := rfl
@[simp] theorem Kz.on_modHub (m : Kz) (f : Hub → Hub) (q : Field) (x : Nat) : (m.modHub f).on q x = m.on q x := rfl
@[simp] theorem Kz.seenWord_modHub (m : Kz) (f : Hub → Hub) (q : RegKind) (x : Nat) : (m.modHub f).seenWord q x = m.seenWord q x := rfl
@[simp] theorem Kz.counter_modHub (m : Kz) (f : Hub → Hub) (q : RegKind) (x : Nat) : (m.modHub f).counter q x = m.counter q x := rfl
@[simp] theorem Kz.datum_modHub (m : Kz) (f : Hub → Hub)  : (m.modHub f).datum = m.datum := rfl
@[simp] theorem Kz.inst_modHub (m : Kz) (f : Hub → Hub)  : (m.modHub f).inst = m.inst := rfl
@[simp] theorem Kz.fabric_modHub (m : Kz) (f : Hub → Hub)  : (m.modHub f).fabric = m.fabric := rfl
@[simp] theorem Kz.stampOf_modHub (m : Kz) (f : Hub → Hub) (x : Nat) : (m.modHub f).stampOf x = m.stampOf x := rfl
@[simp] theorem Kz.chan_modPower (m : Kz) (f : Power → Power) (x : Nat) : (m.modPower f).chan x = m.chan x := rfl
@[simp] theorem Kz.rgn_modPower (m : Kz) (f : Power → Power) (x : Nat) : (m.modPower f).rgn x = m.rgn x := rfl
@[simp] theorem Kz.port_modPower (m : Kz) (f : Power → Power) (x : Nat) : (m.modPower f).port x = m.port x := rfl
@[simp] theorem Kz.rstate_modPower (m : Kz) (f : Power → Power) (x : Nat) : (m.modPower f).rstate x = m.rstate x := rfl
@[simp] theorem Kz.inRun_modPower (m : Kz) (f : Power → Power) (x : Nat) : (m.modPower f).inRun x = m.inRun x := rfl
@[simp] theorem Kz.cfgWord_modPower (m : Kz) (f : Power → Power) (q : RegKind) (x : Nat) : (m.modPower f).cfgWord q x = m.cfgWord q x := rfl
@[simp] theorem Kz.fld_modPower (m : Kz) (f : Power → Power) (q : Field) (x : Nat) : (m.modPower f).fld q x = m.fld q x := rfl
@[simp] theorem Kz.on_modPower (m : Kz) (f : Power → Power) (q : Field) (x : Nat) : (m.modPower f).on q x = m.on q x := rfl
@[simp] theorem Kz.seenWord_modPower (m : Kz) (f : Power → Power) (q : RegKind) (x : Nat) : (m.modPower f).seenWord q x = m.seenWord q x := rfl
@[simp] theorem Kz.counter_modPower (m : Kz) (f : Power → Power) (q : RegKind) (x : Nat) : (m.modPower f).counter q x = m.counter q x := rfl
@[simp] theorem Kz.datum_modPower (m : Kz) (f : Power → Power)  : (m.modPower f).datum = m.datum := rfl
@[simp] theorem Kz.inst_modPower (m : Kz) (f : Power → Power)  : (m.modPower f).inst = m.inst := rfl
@[simp] theorem Kz.fabric_modPower (m : Kz) (f : Power → Power)  : (m.modPower f).fabric = m.fabric := rfl
@[simp] theorem Kz.stampOf_modPower (m : Kz) (f : Power → Power) (x : Nat) : (m.modPower f).stampOf x = m.stampOf x := rfl
@[simp] theorem Kz.chan_modPwr (m : Kz) (k : Nat) (f : RgnPower → RgnPower) (x : Nat) : (m.modPwr k f).chan x = m.chan x := rfl
@[simp] theorem Kz.port_modPwr (m : Kz) (k : Nat) (f : RgnPower → RgnPower) (x : Nat) : (m.modPwr k f).port x = m.port x := rfl
@[simp] theorem Kz.cfgWord_modPwr (m : Kz) (k : Nat) (f : RgnPower → RgnPower) (q : RegKind) (x : Nat) : (m.modPwr k f).cfgWord q x = m.cfgWord q x := rfl
@[simp] theorem Kz.fld_modPwr (m : Kz) (k : Nat) (f : RgnPower → RgnPower) (q : Field) (x : Nat) : (m.modPwr k f).fld q x = m.fld q x := rfl
@[simp] theorem Kz.on_modPwr (m : Kz) (k : Nat) (f : RgnPower → RgnPower) (q : Field) (x : Nat) : (m.modPwr k f).on q x = m.on q x := rfl
@[simp] theorem Kz.seenWord_modPwr (m : Kz) (k : Nat) (f : RgnPower → RgnPower) (q : RegKind) (x : Nat) : (m.modPwr k f).seenWord q x = m.seenWord q x := rfl
@[simp] theorem Kz.counter_modPwr (m : Kz) (k : Nat) (f : RgnPower → RgnPower) (q : RegKind) (x : Nat) : (m.modPwr k f).counter q x = m.counter q x := rfl
@[simp] theorem Kz.datum_modPwr (m : Kz) (k : Nat) (f : RgnPower → RgnPower)  : (m.modPwr k f).datum = m.datum := rfl
@[simp] theorem Kz.inst_modPwr (m : Kz) (k : Nat) (f : RgnPower → RgnPower)  : (m.modPwr k f).inst = m.inst := rfl
@[simp] theorem Kz.fabric_modPwr (m : Kz) (k : Nat) (f : RgnPower → RgnPower)  : (m.modPwr k f).fabric = m.fabric := rfl
@[simp] theorem Kz.stampOf_modPwr (m : Kz) (k : Nat) (f : RgnPower → RgnPower) (x : Nat) : (m.modPwr k f).stampOf x = m.stampOf x := rfl
@[simp] theorem Kz.chan_modErr (m : Kz) (k : Nat) (f : RgnErr → RgnErr) (x : Nat) : (m.modErr k f).chan x = m.chan x := rfl
@[simp] theorem Kz.port_modErr (m : Kz) (k : Nat) (f : RgnErr → RgnErr) (x : Nat) : (m.modErr k f).port x = m.port x := rfl
@[simp] theorem Kz.cfgWord_modErr (m : Kz) (k : Nat) (f : RgnErr → RgnErr) (q : RegKind) (x : Nat) : (m.modErr k f).cfgWord q x = m.cfgWord q x := rfl
@[simp] theorem Kz.fld_modErr (m : Kz) (k : Nat) (f : RgnErr → RgnErr) (q : Field) (x : Nat) : (m.modErr k f).fld q x = m.fld q x := rfl
@[simp] theorem Kz.on_modErr (m : Kz) (k : Nat) (f : RgnErr → RgnErr) (q : Field) (x : Nat) : (m.modErr k f).on q x = m.on q x := rfl
@[simp] theorem Kz.seenWord_modErr (m : Kz) (k : Nat) (f : RgnErr → RgnErr) (q : RegKind) (x : Nat) : (m.modErr k f).seenWord q x = m.seenWord q x := rfl
@[simp] theorem Kz.counter_modErr (m : Kz) (k : Nat) (f : RgnErr → RgnErr) (q : RegKind) (x : Nat) : (m.modErr k f).counter q x = m.counter q x := rfl
@[simp] theorem Kz.datum_modErr (m : Kz) (k : Nat) (f : RgnErr → RgnErr)  : (m.modErr k f).datum = m.datum := rfl
@[simp] theorem Kz.inst_modErr (m : Kz) (k : Nat) (f : RgnErr → RgnErr)  : (m.modErr k f).inst = m.inst := rfl
@[simp] theorem Kz.fabric_modErr (m : Kz) (k : Nat) (f : RgnErr → RgnErr)  : (m.modErr k f).fabric = m.fabric := rfl
@[simp] theorem Kz.stampOf_modErr (m : Kz) (k : Nat) (f : RgnErr → RgnErr) (x : Nat) : (m.modErr k f).stampOf x = m.stampOf x := rfl
@[simp] theorem Kz.chan_modLane (m : Kz) (k : Nat) (f : Lane → Lane) (x : Nat) : (m.modLane k f).chan x = m.chan x := rfl
@[simp] theorem Kz.port_modLane (m : Kz) (k : Nat) (f : Lane → Lane) (x : Nat) : (m.modLane k f).port x = m.port x := rfl
@[simp] theorem Kz.cfgWord_modLane (m : Kz) (k : Nat) (f : Lane → Lane) (q : RegKind) (x : Nat) : (m.modLane k f).cfgWord q x = m.cfgWord q x := rfl
@[simp] theorem Kz.fld_modLane (m : Kz) (k : Nat) (f : Lane → Lane) (q : Field) (x : Nat) : (m.modLane k f).fld q x = m.fld q x := rfl
@[simp] theorem Kz.on_modLane (m : Kz) (k : Nat) (f : Lane → Lane) (q : Field) (x : Nat) : (m.modLane k f).on q x = m.on q x := rfl
@[simp] theorem Kz.seenWord_modLane (m : Kz) (k : Nat) (f : Lane → Lane) (q : RegKind) (x : Nat) : (m.modLane k f).seenWord q x = m.seenWord q x := rfl
@[simp] theorem Kz.counter_modLane (m : Kz) (k : Nat) (f : Lane → Lane) (q : RegKind) (x : Nat) : (m.modLane k f).counter q x = m.counter q x := rfl
@[simp] theorem Kz.datum_modLane (m : Kz) (k : Nat) (f : Lane → Lane)  : (m.modLane k f).datum = m.datum := rfl
@[simp] theorem Kz.inst_modLane (m : Kz) (k : Nat) (f : Lane → Lane)  : (m.modLane k f).inst = m.inst := rfl
@[simp] theorem Kz.fabric_modLane (m : Kz) (k : Nat) (f : Lane → Lane)  : (m.modLane k f).fabric = m.fabric := rfl
@[simp] theorem Kz.stampOf_modLane (m : Kz) (k : Nat) (f : Lane → Lane) (x : Nat) : (m.modLane k f).stampOf x = m.stampOf x := rfl
@[simp] theorem Kz.chan_modAcq (m : Kz) (k : Nat) (f : RgnAcq → RgnAcq) (x : Nat) : (m.modAcq k f).chan x = m.chan x := rfl
@[simp] theorem Kz.port_modAcq (m : Kz) (k : Nat) (f : RgnAcq → RgnAcq) (x : Nat) : (m.modAcq k f).port x = m.port x := rfl
@[simp] theorem Kz.cfgWord_modAcq (m : Kz) (k : Nat) (f : RgnAcq → RgnAcq) (q : RegKind) (x : Nat) : (m.modAcq k f).cfgWord q x = m.cfgWord q x := rfl
@[simp] theorem Kz.fld_modAcq (m : Kz) (k : Nat) (f : RgnAcq → RgnAcq) (q : Field) (x : Nat) : (m.modAcq k f).fld q x = m.fld q x := rfl
@[simp] theorem Kz.on_modAcq (m : Kz) (k : Nat) (f : RgnAcq → RgnAcq) (q : Field) (x : Nat) : (m.modAcq k f).on q x = m.on q x := rfl
@[simp] theorem Kz.seenWord_modAcq (m : Kz) (k : Nat) (f : RgnAcq → RgnAcq) (q : RegKind) (x : Nat) : (m.modAcq k f).seenWord q x = m.seenWord q x := rfl
@[simp] theorem Kz.counter_modAcq (m : Kz) (k : Nat) (f : RgnAcq → RgnAcq) (q : RegKind) (x : Nat) : (m.modAcq k f).counter q x = m.counter q x := rfl
@[simp] theorem Kz.datum_modAcq (m : Kz) (k : Nat) (f : RgnAcq → RgnAcq)  : (m.modAcq k f).datum = m.datum := rfl
@[simp] theorem Kz.inst_modAcq (m : Kz) (k : Nat) (f : RgnAcq → RgnAcq)  : (m.modAcq k f).inst = m.inst := rfl
@[simp] theorem Kz.fabric_modAcq (m : Kz) (k : Nat) (f : RgnAcq → RgnAcq)  : (m.modAcq k f).fabric = m.fabric := rfl
@[simp] theorem Kz.stampOf_modAcq (m : Kz) (k : Nat) (f : RgnAcq → RgnAcq) (x : Nat) : (m.modAcq k f).stampOf x = m.stampOf x := rfl
@[simp] theorem Kz.chan_modLg (m : Kz) (k : Nat) (f : LaneGroup → LaneGroup) (x : Nat) : (m.modLg k f).chan x = m.chan x := rfl
@[simp] theorem Kz.port_modLg (m : Kz) (k : Nat) (f : LaneGroup → LaneGroup) (x : Nat) : (m.modLg k f).port x = m.port x := rfl
@[simp] theorem Kz.cfgWord_modLg (m : Kz) (k : Nat) (f : LaneGroup → LaneGroup) (q : RegKind) (x : Nat) : (m.modLg k f).cfgWord q x = m.cfgWord q x := rfl
@[simp] theorem Kz.fld_modLg (m : Kz) (k : Nat) (f : LaneGroup → LaneGroup) (q : Field) (x : Nat) : (m.modLg k f).fld q x = m.fld q x := rfl
@[simp] theorem Kz.on_modLg (m : Kz) (k : Nat) (f : LaneGroup → LaneGroup) (q : Field) (x : Nat) : (m.modLg k f).on q x = m.on q x := rfl
@[simp] theorem Kz.seenWord_modLg (m : Kz) (k : Nat) (f : LaneGroup → LaneGroup) (q : RegKind) (x : Nat) : (m.modLg k f).seenWord q x = m.seenWord q x := rfl
@[simp] theorem Kz.counter_modLg (m : Kz) (k : Nat) (f : LaneGroup → LaneGroup) (q : RegKind) (x : Nat) : (m.modLg k f).counter q x = m.counter q x := rfl
@[simp] theorem Kz.datum_modLg (m : Kz) (k : Nat) (f : LaneGroup → LaneGroup)  : (m.modLg k f).datum = m.datum := rfl
@[simp] theorem Kz.inst_modLg (m : Kz) (k : Nat) (f : LaneGroup → LaneGroup)  : (m.modLg k f).inst = m.inst := rfl
@[simp] theorem Kz.fabric_modLg (m : Kz) (k : Nat) (f : LaneGroup → LaneGroup)  : (m.modLg k f).fabric = m.fabric := rfl
@[simp] theorem Kz.stampOf_modLg (m : Kz) (k : Nat) (f : LaneGroup → LaneGroup) (x : Nat) : (m.modLg k f).stampOf x = m.stampOf x := rfl
@[simp] theorem Kz.chan_modAcc (m : Kz) (k : Nat) (f : RgnAccum → RgnAccum) (x : Nat) : (m.modAcc k f).chan x = m.chan x := rfl
@[simp] theorem Kz.port_modAcc (m : Kz) (k : Nat) (f : RgnAccum → RgnAccum) (x : Nat) : (m.modAcc k f).port x = m.port x := rfl
@[simp] theorem Kz.cfgWord_modAcc (m : Kz) (k : Nat) (f : RgnAccum → RgnAccum) (q : RegKind) (x : Nat) : (m.modAcc k f).cfgWord q x = m.cfgWord q x := rfl
@[simp] theorem Kz.fld_modAcc (m : Kz) (k : Nat) (f : RgnAccum → RgnAccum) (q : Field) (x : Nat) : (m.modAcc k f).fld q x = m.fld q x := rfl
@[simp] theorem Kz.on_modAcc (m : Kz) (k : Nat) (f : RgnAccum → RgnAccum) (q : Field) (x : Nat) : (m.modAcc k f).on q x = m.on q x := rfl
@[simp] theorem Kz.seenWord_modAcc (m : Kz) (k : Nat) (f : RgnAccum → RgnAccum) (q : RegKind) (x : Nat) : (m.modAcc k f).seenWord q x = m.seenWord q x := rfl
@[simp] theorem Kz.counter_modAcc (m : Kz) (k : Nat) (f : RgnAccum → RgnAccum) (q : RegKind) (x : Nat) : (m.modAcc k f).counter q x = m.counter q x := rfl
@[simp] theorem Kz.datum_modAcc (m : Kz) (k : Nat) (f : RgnAccum → RgnAccum)  : (m.modAcc k f).datum = m.datum := rfl
@[simp] theorem Kz.inst_modAcc (m : Kz) (k : Nat) (f : RgnAccum → RgnAccum)  : (m.modAcc k f).inst = m.inst := rfl
@[simp] theorem Kz.fabric_modAcc (m : Kz) (k : Nat) (f : RgnAccum → RgnAccum)  : (m.modAcc k f).fabric = m.fabric := rfl
@[simp] theorem Kz.stampOf_modAcc (m : Kz) (k : Nat) (f : RgnAccum → RgnAccum) (x : Nat) : (m.modAcc k f).stampOf x = m.stampOf x := rfl
@[simp] theorem Kz.rgn_modFe (m : Kz) (c : Nat) (f : FrontEnd → FrontEnd) (x : Nat) : (m.modFe c f).rgn x = m.rgn x := rfl
@[simp] theorem Kz.port_modFe (m : Kz) (c : Nat) (f : FrontEnd → FrontEnd) (x : Nat) : (m.modFe c f).port x = m.port x := rfl
@[simp] theorem Kz.rstate_modFe (m : Kz) (c : Nat) (f : FrontEnd → FrontEnd) (x : Nat) : (m.modFe c f).rstate x = m.rstate x := rfl
@[simp] theorem Kz.inRun_modFe (m : Kz) (c : Nat) (f : FrontEnd → FrontEnd) (x : Nat) : (m.modFe c f).inRun x = m.inRun x := rfl
@[simp] theorem Kz.cfgWord_modFe (m : Kz) (c : Nat) (f : FrontEnd → FrontEnd) (q : RegKind) (x : Nat) : (m.modFe c f).cfgWord q x = m.cfgWord q x := rfl
@[simp] theorem Kz.fld_modFe (m : Kz) (c : Nat) (f : FrontEnd → FrontEnd) (q : Field) (x : Nat) : (m.modFe c f).fld q x = m.fld q x := rfl
@[simp] theorem Kz.on_modFe (m : Kz) (c : Nat) (f : FrontEnd → FrontEnd) (q : Field) (x : Nat) : (m.modFe c f).on q x = m.on q x := rfl
@[simp] theorem Kz.seenWord_modFe (m : Kz) (c : Nat) (f : FrontEnd → FrontEnd) (q : RegKind) (x : Nat) : (m.modFe c f).seenWord q x = m.seenWord q x := rfl
@[simp] theorem Kz.counter_modFe (m : Kz) (c : Nat) (f : FrontEnd → FrontEnd) (q : RegKind) (x : Nat) : (m.modFe c f).counter q x = m.counter q x := rfl
@[simp] theorem Kz.datum_modFe (m : Kz) (c : Nat) (f : FrontEnd → FrontEnd)  : (m.modFe c f).datum = m.datum := rfl
@[simp] theorem Kz.inst_modFe (m : Kz) (c : Nat) (f : FrontEnd → FrontEnd)  : (m.modFe c f).inst = m.inst := rfl
@[simp] theorem Kz.fabric_modFe (m : Kz) (c : Nat) (f : FrontEnd → FrontEnd)  : (m.modFe c f).fabric = m.fabric := rfl
@[simp] theorem Kz.stampOf_modFe (m : Kz) (c : Nat) (f : FrontEnd → FrontEnd) (x : Nat) : (m.modFe c f).stampOf x = m.stampOf x := rfl
@[simp] theorem Kz.rgn_modConv (m : Kz) (c : Nat) (f : Conv → Conv) (x : Nat) : (m.modConv c f).rgn x = m.rgn x := rfl
@[simp] theorem Kz.port_modConv (m : Kz) (c : Nat) (f : Conv → Conv) (x : Nat) : (m.modConv c f).port x = m.port x := rfl
@[simp] theorem Kz.rstate_modConv (m : Kz) (c : Nat) (f : Conv → Conv) (x : Nat) : (m.modConv c f).rstate x = m.rstate x := rfl
@[simp] theorem Kz.inRun_modConv (m : Kz) (c : Nat) (f : Conv → Conv) (x : Nat) : (m.modConv c f).inRun x = m.inRun x := rfl
@[simp] theorem Kz.cfgWord_modConv (m : Kz) (c : Nat) (f : Conv → Conv) (q : RegKind) (x : Nat) : (m.modConv c f).cfgWord q x = m.cfgWord q x := rfl
@[simp] theorem Kz.fld_modConv (m : Kz) (c : Nat) (f : Conv → Conv) (q : Field) (x : Nat) : (m.modConv c f).fld q x = m.fld q x := rfl
@[simp] theorem Kz.on_modConv (m : Kz) (c : Nat) (f : Conv → Conv) (q : Field) (x : Nat) : (m.modConv c f).on q x = m.on q x := rfl
@[simp] theorem Kz.seenWord_modConv (m : Kz) (c : Nat) (f : Conv → Conv) (q : RegKind) (x : Nat) : (m.modConv c f).seenWord q x = m.seenWord q x := rfl
@[simp] theorem Kz.counter_modConv (m : Kz) (c : Nat) (f : Conv → Conv) (q : RegKind) (x : Nat) : (m.modConv c f).counter q x = m.counter q x := rfl
@[simp] theorem Kz.datum_modConv (m : Kz) (c : Nat) (f : Conv → Conv)  : (m.modConv c f).datum = m.datum := rfl
@[simp] theorem Kz.inst_modConv (m : Kz) (c : Nat) (f : Conv → Conv)  : (m.modConv c f).inst = m.inst := rfl
@[simp] theorem Kz.fabric_modConv (m : Kz) (c : Nat) (f : Conv → Conv)  : (m.modConv c f).fabric = m.fabric := rfl
@[simp] theorem Kz.stampOf_modConv (m : Kz) (c : Nat) (f : Conv → Conv) (x : Nat) : (m.modConv c f).stampOf x = m.stampOf x := rfl
@[simp] theorem Kz.rgn_modChain (m : Kz) (c : Nat) (f : Chain → Chain) (x : Nat) : (m.modChain c f).rgn x = m.rgn x := rfl
@[simp] theorem Kz.port_modChain (m : Kz) (c : Nat) (f : Chain → Chain) (x : Nat) : (m.modChain c f).port x = m.port x := rfl
@[simp] theorem Kz.rstate_modChain (m : Kz) (c : Nat) (f : Chain → Chain) (x : Nat) : (m.modChain c f).rstate x = m.rstate x := rfl
@[simp] theorem Kz.inRun_modChain (m : Kz) (c : Nat) (f : Chain → Chain) (x : Nat) : (m.modChain c f).inRun x = m.inRun x := rfl
@[simp] theorem Kz.cfgWord_modChain (m : Kz) (c : Nat) (f : Chain → Chain) (q : RegKind) (x : Nat) : (m.modChain c f).cfgWord q x = m.cfgWord q x := rfl
@[simp] theorem Kz.fld_modChain (m : Kz) (c : Nat) (f : Chain → Chain) (q : Field) (x : Nat) : (m.modChain c f).fld q x = m.fld q x := rfl
@[simp] theorem Kz.on_modChain (m : Kz) (c : Nat) (f : Chain → Chain) (q : Field) (x : Nat) : (m.modChain c f).on q x = m.on q x := rfl
@[simp] theorem Kz.seenWord_modChain (m : Kz) (c : Nat) (f : Chain → Chain) (q : RegKind) (x : Nat) : (m.modChain c f).seenWord q x = m.seenWord q x := rfl
@[simp] theorem Kz.counter_modChain (m : Kz) (c : Nat) (f : Chain → Chain) (q : RegKind) (x : Nat) : (m.modChain c f).counter q x = m.counter q x := rfl
@[simp] theorem Kz.datum_modChain (m : Kz) (c : Nat) (f : Chain → Chain)  : (m.modChain c f).datum = m.datum := rfl
@[simp] theorem Kz.inst_modChain (m : Kz) (c : Nat) (f : Chain → Chain)  : (m.modChain c f).inst = m.inst := rfl
@[simp] theorem Kz.fabric_modChain (m : Kz) (c : Nat) (f : Chain → Chain)  : (m.modChain c f).fabric = m.fabric := rfl
@[simp] theorem Kz.stampOf_modChain (m : Kz) (c : Nat) (f : Chain → Chain) (x : Nat) : (m.modChain c f).stampOf x = m.stampOf x := rfl
@[simp] theorem Kz.rgn_modTrig (m : Kz) (c : Nat) (f : Trig → Trig) (x : Nat) : (m.modTrig c f).rgn x = m.rgn x := rfl
@[simp] theorem Kz.port_modTrig (m : Kz) (c : Nat) (f : Trig → Trig) (x : Nat) : (m.modTrig c f).port x = m.port x := rfl
@[simp] theorem Kz.rstate_modTrig (m : Kz) (c : Nat) (f : Trig → Trig) (x : Nat) : (m.modTrig c f).rstate x = m.rstate x := rfl
@[simp] theorem Kz.inRun_modTrig (m : Kz) (c : Nat) (f : Trig → Trig) (x : Nat) : (m.modTrig c f).inRun x = m.inRun x := rfl
@[simp] theorem Kz.cfgWord_modTrig (m : Kz) (c : Nat) (f : Trig → Trig) (q : RegKind) (x : Nat) : (m.modTrig c f).cfgWord q x = m.cfgWord q x := rfl
@[simp] theorem Kz.fld_modTrig (m : Kz) (c : Nat) (f : Trig → Trig) (q : Field) (x : Nat) : (m.modTrig c f).fld q x = m.fld q x := rfl
@[simp] theorem Kz.on_modTrig (m : Kz) (c : Nat) (f : Trig → Trig) (q : Field) (x : Nat) : (m.modTrig c f).on q x = m.on q x := rfl
@[simp] theorem Kz.seenWord_modTrig (m : Kz) (c : Nat) (f : Trig → Trig) (q : RegKind) (x : Nat) : (m.modTrig c f).seenWord q x = m.seenWord q x := rfl
@[simp] theorem Kz.counter_modTrig (m : Kz) (c : Nat) (f : Trig → Trig) (q : RegKind) (x : Nat) : (m.modTrig c f).counter q x = m.counter q x := rfl
@[simp] theorem Kz.datum_modTrig (m : Kz) (c : Nat) (f : Trig → Trig)  : (m.modTrig c f).datum = m.datum := rfl
@[simp] theorem Kz.inst_modTrig (m : Kz) (c : Nat) (f : Trig → Trig)  : (m.modTrig c f).inst = m.inst := rfl
@[simp] theorem Kz.fabric_modTrig (m : Kz) (c : Nat) (f : Trig → Trig)  : (m.modTrig c f).fabric = m.fabric := rfl
@[simp] theorem Kz.stampOf_modTrig (m : Kz) (c : Nat) (f : Trig → Trig) (x : Nat) : (m.modTrig c f).stampOf x = m.stampOf x := rfl
@[simp] theorem Kz.rgn_modMem (m : Kz) (c : Nat) (f : Memory → Memory) (x : Nat) : (m.modMem c f).rgn x = m.rgn x := rfl
@[simp] theorem Kz.port_modMem (m : Kz) (c : Nat) (f : Memory → Memory) (x : Nat) : (m.modMem c f).port x = m.port x := rfl
@[simp] theorem Kz.rstate_modMem (m : Kz) (c : Nat) (f : Memory → Memory) (x : Nat) : (m.modMem c f).rstate x = m.rstate x := rfl
@[simp] theorem Kz.inRun_modMem (m : Kz) (c : Nat) (f : Memory → Memory) (x : Nat) : (m.modMem c f).inRun x = m.inRun x := rfl
@[simp] theorem Kz.cfgWord_modMem (m : Kz) (c : Nat) (f : Memory → Memory) (q : RegKind) (x : Nat) : (m.modMem c f).cfgWord q x = m.cfgWord q x := rfl
@[simp] theorem Kz.fld_modMem (m : Kz) (c : Nat) (f : Memory → Memory) (q : Field) (x : Nat) : (m.modMem c f).fld q x = m.fld q x := rfl
@[simp] theorem Kz.on_modMem (m : Kz) (c : Nat) (f : Memory → Memory) (q : Field) (x : Nat) : (m.modMem c f).on q x = m.on q x := rfl
@[simp] theorem Kz.seenWord_modMem (m : Kz) (c : Nat) (f : Memory → Memory) (q : RegKind) (x : Nat) : (m.modMem c f).seenWord q x = m.seenWord q x := rfl
@[simp] theorem Kz.counter_modMem (m : Kz) (c : Nat) (f : Memory → Memory) (q : RegKind) (x : Nat) : (m.modMem c f).counter q x = m.counter q x := rfl
@[simp] theorem Kz.datum_modMem (m : Kz) (c : Nat) (f : Memory → Memory)  : (m.modMem c f).datum = m.datum := rfl
@[simp] theorem Kz.inst_modMem (m : Kz) (c : Nat) (f : Memory → Memory)  : (m.modMem c f).inst = m.inst := rfl
@[simp] theorem Kz.fabric_modMem (m : Kz) (c : Nat) (f : Memory → Memory)  : (m.modMem c f).fabric = m.fabric := rfl
@[simp] theorem Kz.stampOf_modMem (m : Kz) (c : Nat) (f : Memory → Memory) (x : Nat) : (m.modMem c f).stampOf x = m.stampOf x := rfl
@[simp] theorem Kz.rgn_modEng (m : Kz) (c : Nat) (f : Engine → Engine) (x : Nat) : (m.modEng c f).rgn x = m.rgn x := rfl
@[simp] theorem Kz.port_modEng (m : Kz) (c : Nat) (f : Engine → Engine) (x : Nat) : (m.modEng c f).port x = m.port x := rfl
@[simp] theorem Kz.rstate_modEng (m : Kz) (c : Nat) (f : Engine → Engine) (x : Nat) : (m.modEng c f).rstate x = m.rstate x := rfl
@[simp] theorem Kz.inRun_modEng (m : Kz) (c : Nat) (f : Engine → Engine) (x : Nat) : (m.modEng c f).inRun x = m.inRun x := rfl
@[simp] theorem Kz.cfgWord_modEng (m : Kz) (c : Nat) (f : Engine → Engine) (q : RegKind) (x : Nat) : (m.modEng c f).cfgWord q x = m.cfgWord q x := rfl
@[simp] theorem Kz.fld_modEng (m : Kz) (c : Nat) (f : Engine → Engine) (q : Field) (x : Nat) : (m.modEng c f).fld q x = m.fld q x := rfl
@[simp] theorem Kz.on_modEng (m : Kz) (c : Nat) (f : Engine → Engine) (q : Field) (x : Nat) : (m.modEng c f).on q x = m.on q x := rfl
@[simp] theorem Kz.seenWord_modEng (m : Kz) (c : Nat) (f : Engine → Engine) (q : RegKind) (x : Nat) : (m.modEng c f).seenWord q x = m.seenWord q x := rfl
@[simp] theorem Kz.counter_modEng (m : Kz) (c : Nat) (f : Engine → Engine) (q : RegKind) (x : Nat) : (m.modEng c f).counter q x = m.counter q x := rfl
@[simp] theorem Kz.datum_modEng (m : Kz) (c : Nat) (f : Engine → Engine)  : (m.modEng c f).datum = m.datum := rfl
@[simp] theorem Kz.inst_modEng (m : Kz) (c : Nat) (f : Engine → Engine)  : (m.modEng c f).inst = m.inst := rfl
@[simp] theorem Kz.fabric_modEng (m : Kz) (c : Nat) (f : Engine → Engine)  : (m.modEng c f).fabric = m.fabric := rfl
@[simp] theorem Kz.stampOf_modEng (m : Kz) (c : Nat) (f : Engine → Engine) (x : Nat) : (m.modEng c f).stampOf x = m.stampOf x := rfl
@[simp] theorem Kz.chan_setCfg (m : Kz) (k : RegKind) (i : Nat) (w : Word) (x : Nat) : (m.setCfg k i w).chan x = m.chan x := rfl
@[simp] theorem Kz.rgn_setCfg (m : Kz) (k : RegKind) (i : Nat) (w : Word) (x : Nat) : (m.setCfg k i w).rgn x = m.rgn x := rfl
@[simp] theorem Kz.port_setCfg (m : Kz) (k : RegKind) (i : Nat) (w : Word) (x : Nat) : (m.setCfg k i w).port x = m.port x := rfl
@[simp] theorem Kz.rstate_setCfg (m : Kz) (k : RegKind) (i : Nat) (w : Word) (x : Nat) : (m.setCfg k i w).rstate x = m.rstate x := rfl
@[simp] theorem Kz.inRun_setCfg (m : Kz) (k : RegKind) (i : Nat) (w : Word) (x : Nat) : (m.setCfg k i w).inRun x = m.inRun x := rfl
@[simp] theorem Kz.seenWord_setCfg (m : Kz) (k : RegKind) (i : Nat) (w : Word) (q : RegKind) (x : Nat) : (m.setCfg k i w).seenWord q x = m.seenWord q x := rfl
@[simp] theorem Kz.counter_setCfg (m : Kz) (k : RegKind) (i : Nat) (w : Word) (q : RegKind) (x : Nat) : (m.setCfg k i w).counter q x = m.counter q x := rfl
@[simp] theorem Kz.datum_setCfg (m : Kz) (k : RegKind) (i : Nat) (w : Word)  : (m.setCfg k i w).datum = m.datum := rfl
@[simp] theorem Kz.inst_setCfg (m : Kz) (k : RegKind) (i : Nat) (w : Word)  : (m.setCfg k i w).inst = m.inst := rfl
@[simp] theorem Kz.fabric_setCfg (m : Kz) (k : RegKind) (i : Nat) (w : Word)  : (m.setCfg k i w).fabric = m.fabric := rfl
@[simp] theorem Kz.stampOf_setCfg (m : Kz) (k : RegKind) (i : Nat) (w : Word) (x : Nat) : (m.setCfg k i w).stampOf x = m.stampOf x := rfl
@[simp] theorem Kz.chan_setFld (m : Kz) (f : Field) (i v : Nat) (x : Nat) : (m.setFld f i v).chan x = m.chan x := rfl
@[simp] theorem Kz.rgn_setFld (m : Kz) (f : Field) (i v : Nat) (x : Nat) : (m.setFld f i v).rgn x = m.rgn x := rfl
@[simp] theorem Kz.port_setFld (m : Kz) (f : Field) (i v : Nat) (x : Nat) : (m.setFld f i v).port x = m.port x := rfl
@[simp] theorem Kz.rstate_setFld (m : Kz) (f : Field) (i v : Nat) (x : Nat) : (m.setFld f i v).rstate x = m.rstate x := rfl
@[simp] theorem Kz.inRun_setFld (m : Kz) (f : Field) (i v : Nat) (x : Nat) : (m.setFld f i v).inRun x = m.inRun x := rfl
@[simp] theorem Kz.seenWord_setFld (m : Kz) (f : Field) (i v : Nat) (q : RegKind) (x : Nat) : (m.setFld f i v).seenWord q x = m.seenWord q x := rfl
@[simp] theorem Kz.counter_setFld (m : Kz) (f : Field) (i v : Nat) (q : RegKind) (x : Nat) : (m.setFld f i v).counter q x = m.counter q x := rfl
@[simp] theorem Kz.datum_setFld (m : Kz) (f : Field) (i v : Nat)  : (m.setFld f i v).datum = m.datum := rfl
@[simp] theorem Kz.inst_setFld (m : Kz) (f : Field) (i v : Nat)  : (m.setFld f i v).inst = m.inst := rfl
@[simp] theorem Kz.fabric_setFld (m : Kz) (f : Field) (i v : Nat)  : (m.setFld f i v).fabric = m.fabric := rfl
@[simp] theorem Kz.stampOf_setFld (m : Kz) (f : Field) (i v : Nat) (x : Nat) : (m.setFld f i v).stampOf x = m.stampOf x := rfl
@[simp] theorem Kz.chan_markBit (m : Kz) (f : Field) (i b : Nat) (x : Nat) : (m.markBit f i b).chan x = m.chan x := rfl
@[simp] theorem Kz.rgn_markBit (m : Kz) (f : Field) (i b : Nat) (x : Nat) : (m.markBit f i b).rgn x = m.rgn x := rfl
@[simp] theorem Kz.port_markBit (m : Kz) (f : Field) (i b : Nat) (x : Nat) : (m.markBit f i b).port x = m.port x := rfl
@[simp] theorem Kz.rstate_markBit (m : Kz) (f : Field) (i b : Nat) (x : Nat) : (m.markBit f i b).rstate x = m.rstate x := rfl
@[simp] theorem Kz.inRun_markBit (m : Kz) (f : Field) (i b : Nat) (x : Nat) : (m.markBit f i b).inRun x = m.inRun x := rfl
@[simp] theorem Kz.cfgWord_markBit (m : Kz) (f : Field) (i b : Nat) (q : RegKind) (x : Nat) : (m.markBit f i b).cfgWord q x = m.cfgWord q x := rfl
@[simp] theorem Kz.fld_markBit (m : Kz) (f : Field) (i b : Nat) (q : Field) (x : Nat) : (m.markBit f i b).fld q x = m.fld q x := rfl
@[simp] theorem Kz.on_markBit (m : Kz) (f : Field) (i b : Nat) (q : Field) (x : Nat) : (m.markBit f i b).on q x = m.on q x := rfl
@[simp] theorem Kz.counter_markBit (m : Kz) (f : Field) (i b : Nat) (q : RegKind) (x : Nat) : (m.markBit f i b).counter q x = m.counter q x := rfl
@[simp] theorem Kz.datum_markBit (m : Kz) (f : Field) (i b : Nat)  : (m.markBit f i b).datum = m.datum := rfl
@[simp] theorem Kz.inst_markBit (m : Kz) (f : Field) (i b : Nat)  : (m.markBit f i b).inst = m.inst := rfl
@[simp] theorem Kz.fabric_markBit (m : Kz) (f : Field) (i b : Nat)  : (m.markBit f i b).fabric = m.fabric := rfl
@[simp] theorem Kz.stampOf_markBit (m : Kz) (f : Field) (i b : Nat) (x : Nat) : (m.markBit f i b).stampOf x = m.stampOf x := rfl
@[simp] theorem Kz.chan_mark (m : Kz) (f : Field) (i : Nat) (x : Nat) : (m.mark f i).chan x = m.chan x := rfl
@[simp] theorem Kz.rgn_mark (m : Kz) (f : Field) (i : Nat) (x : Nat) : (m.mark f i).rgn x = m.rgn x := rfl
@[simp] theorem Kz.port_mark (m : Kz) (f : Field) (i : Nat) (x : Nat) : (m.mark f i).port x = m.port x := rfl
@[simp] theorem Kz.rstate_mark (m : Kz) (f : Field) (i : Nat) (x : Nat) : (m.mark f i).rstate x = m.rstate x := rfl
@[simp] theorem Kz.inRun_mark (m : Kz) (f : Field) (i : Nat) (x : Nat) : (m.mark f i).inRun x = m.inRun x := rfl
@[simp] theorem Kz.cfgWord_mark (m : Kz) (f : Field) (i : Nat) (q : RegKind) (x : Nat) : (m.mark f i).cfgWord q x = m.cfgWord q x := rfl
@[simp] theorem Kz.fld_mark (m : Kz) (f : Field) (i : Nat) (q : Field) (x : Nat) : (m.mark f i).fld q x = m.fld q x := rfl
@[simp] theorem Kz.on_mark (m : Kz) (f : Field) (i : Nat) (q : Field) (x : Nat) : (m.mark f i).on q x = m.on q x := rfl
@[simp] theorem Kz.counter_mark (m : Kz) (f : Field) (i : Nat) (q : RegKind) (x : Nat) : (m.mark f i).counter q x = m.counter q x := rfl
@[simp] theorem Kz.datum_mark (m : Kz) (f : Field) (i : Nat)  : (m.mark f i).datum = m.datum := rfl
@[simp] theorem Kz.inst_mark (m : Kz) (f : Field) (i : Nat)  : (m.mark f i).inst = m.inst := rfl
@[simp] theorem Kz.fabric_mark (m : Kz) (f : Field) (i : Nat)  : (m.mark f i).fabric = m.fabric := rfl
@[simp] theorem Kz.stampOf_mark (m : Kz) (f : Field) (i : Nat) (x : Nat) : (m.mark f i).stampOf x = m.stampOf x := rfl
@[simp] theorem Kz.chan_clearSeen (m : Kz) (k : RegKind) (i w : Nat) (x : Nat) : (m.clearSeen k i w).chan x = m.chan x := rfl
@[simp] theorem Kz.rgn_clearSeen (m : Kz) (k : RegKind) (i w : Nat) (x : Nat) : (m.clearSeen k i w).rgn x = m.rgn x := rfl
@[simp] theorem Kz.port_clearSeen (m : Kz) (k : RegKind) (i w : Nat) (x : Nat) : (m.clearSeen k i w).port x = m.port x := rfl
@[simp] theorem Kz.rstate_clearSeen (m : Kz) (k : RegKind) (i w : Nat) (x : Nat) : (m.clearSeen k i w).rstate x = m.rstate x := rfl
@[simp] theorem Kz.inRun_clearSeen (m : Kz) (k : RegKind) (i w : Nat) (x : Nat) : (m.clearSeen k i w).inRun x = m.inRun x := rfl
@[simp] theorem Kz.cfgWord_clearSeen (m : Kz) (k : RegKind) (i w : Nat) (q : RegKind) (x : Nat) : (m.clearSeen k i w).cfgWord q x = m.cfgWord q x := rfl
@[simp] theorem Kz.fld_clearSeen (m : Kz) (k : RegKind) (i w : Nat) (q : Field) (x : Nat) : (m.clearSeen k i w).fld q x = m.fld q x := rfl
@[simp] theorem Kz.on_clearSeen (m : Kz) (k : RegKind) (i w : Nat) (q : Field) (x : Nat) : (m.clearSeen k i w).on q x = m.on q x := rfl
@[simp] theorem Kz.counter_clearSeen (m : Kz) (k : RegKind) (i w : Nat) (q : RegKind) (x : Nat) : (m.clearSeen k i w).counter q x = m.counter q x := rfl
@[simp] theorem Kz.datum_clearSeen (m : Kz) (k : RegKind) (i w : Nat)  : (m.clearSeen k i w).datum = m.datum := rfl
@[simp] theorem Kz.inst_clearSeen (m : Kz) (k : RegKind) (i w : Nat)  : (m.clearSeen k i w).inst = m.inst := rfl
@[simp] theorem Kz.fabric_clearSeen (m : Kz) (k : RegKind) (i w : Nat)  : (m.clearSeen k i w).fabric = m.fabric := rfl
@[simp] theorem Kz.stampOf_clearSeen (m : Kz) (k : RegKind) (i w : Nat) (x : Nat) : (m.clearSeen k i w).stampOf x = m.stampOf x := rfl
@[simp] theorem Kz.chan_count (m : Kz) (k : RegKind) (i n : Nat) (x : Nat) : (m.count k i n).chan x = m.chan x := rfl
@[simp] theorem Kz.rgn_count (m : Kz) (k : RegKind) (i n : Nat) (x : Nat) : (m.count k i n).rgn x = m.rgn x := rfl
@[simp] theorem Kz.port_count (m : Kz) (k : RegKind) (i n : Nat) (x : Nat) : (m.count k i n).port x = m.port x := rfl
@[simp] theorem Kz.rstate_count (m : Kz) (k : RegKind) (i n : Nat) (x : Nat) : (m.count k i n).rstate x = m.rstate x := rfl
@[simp] theorem Kz.inRun_count (m : Kz) (k : RegKind) (i n : Nat) (x : Nat) : (m.count k i n).inRun x = m.inRun x := rfl
@[simp] theorem Kz.cfgWord_count (m : Kz) (k : RegKind) (i n : Nat) (q : RegKind) (x : Nat) : (m.count k i n).cfgWord q x = m.cfgWord q x := rfl
@[simp] theorem Kz.fld_count (m : Kz) (k : RegKind) (i n : Nat) (q : Field) (x : Nat) : (m.count k i n).fld q x = m.fld q x := rfl
@[simp] theorem Kz.on_count (m : Kz) (k : RegKind) (i n : Nat) (q : Field) (x : Nat) : (m.count k i n).on q x = m.on q x := rfl
@[simp] theorem Kz.seenWord_count (m : Kz) (k : RegKind) (i n : Nat) (q : RegKind) (x : Nat) : (m.count k i n).seenWord q x = m.seenWord q x := rfl
@[simp] theorem Kz.datum_count (m : Kz) (k : RegKind) (i n : Nat)  : (m.count k i n).datum = m.datum := rfl
@[simp] theorem Kz.inst_count (m : Kz) (k : RegKind) (i n : Nat)  : (m.count k i n).inst = m.inst := rfl
@[simp] theorem Kz.fabric_count (m : Kz) (k : RegKind) (i n : Nat)  : (m.count k i n).fabric = m.fabric := rfl
@[simp] theorem Kz.stampOf_count (m : Kz) (k : RegKind) (i n : Nat) (x : Nat) : (m.count k i n).stampOf x = m.stampOf x := rfl
@[simp] theorem Kz.chan_emit (m : Kz) (e : Emission) (x : Nat) : (m.emit e).chan x = m.chan x := rfl
@[simp] theorem Kz.rgn_emit (m : Kz) (e : Emission) (x : Nat) : (m.emit e).rgn x = m.rgn x := rfl
@[simp] theorem Kz.port_emit (m : Kz) (e : Emission) (x : Nat) : (m.emit e).port x = m.port x := rfl
@[simp] theorem Kz.rstate_emit (m : Kz) (e : Emission) (x : Nat) : (m.emit e).rstate x = m.rstate x := rfl
@[simp] theorem Kz.inRun_emit (m : Kz) (e : Emission) (x : Nat) : (m.emit e).inRun x = m.inRun x := rfl
@[simp] theorem Kz.cfgWord_emit (m : Kz) (e : Emission) (q : RegKind) (x : Nat) : (m.emit e).cfgWord q x = m.cfgWord q x := rfl
@[simp] theorem Kz.fld_emit (m : Kz) (e : Emission) (q : Field) (x : Nat) : (m.emit e).fld q x = m.fld q x := rfl
@[simp] theorem Kz.on_emit (m : Kz) (e : Emission) (q : Field) (x : Nat) : (m.emit e).on q x = m.on q x := rfl
@[simp] theorem Kz.seenWord_emit (m : Kz) (e : Emission) (q : RegKind) (x : Nat) : (m.emit e).seenWord q x = m.seenWord q x := rfl
@[simp] theorem Kz.counter_emit (m : Kz) (e : Emission) (q : RegKind) (x : Nat) : (m.emit e).counter q x = m.counter q x := rfl
@[simp] theorem Kz.datum_emit (m : Kz) (e : Emission)  : (m.emit e).datum = m.datum := rfl
@[simp] theorem Kz.inst_emit (m : Kz) (e : Emission)  : (m.emit e).inst = m.inst := rfl
@[simp] theorem Kz.fabric_emit (m : Kz) (e : Emission)  : (m.emit e).fabric = m.fabric := rfl
@[simp] theorem Kz.stampOf_emit (m : Kz) (e : Emission) (x : Nat) : (m.emit e).stampOf x = m.stampOf x := rfl
@[simp] theorem Kz.chan_toArchive (m : Kz) (e : LogEntry) (x : Nat) : (m.toArchive e).chan x = m.chan x := rfl
@[simp] theorem Kz.rgn_toArchive (m : Kz) (e : LogEntry) (x : Nat) : (m.toArchive e).rgn x = m.rgn x := rfl
@[simp] theorem Kz.port_toArchive (m : Kz) (e : LogEntry) (x : Nat) : (m.toArchive e).port x = m.port x := rfl
@[simp] theorem Kz.rstate_toArchive (m : Kz) (e : LogEntry) (x : Nat) : (m.toArchive e).rstate x = m.rstate x := rfl
@[simp] theorem Kz.inRun_toArchive (m : Kz) (e : LogEntry) (x : Nat) : (m.toArchive e).inRun x = m.inRun x := rfl
@[simp] theorem Kz.cfgWord_toArchive (m : Kz) (e : LogEntry) (q : RegKind) (x : Nat) : (m.toArchive e).cfgWord q x = m.cfgWord q x := rfl
@[simp] theorem Kz.fld_toArchive (m : Kz) (e : LogEntry) (q : Field) (x : Nat) : (m.toArchive e).fld q x = m.fld q x := rfl
@[simp] theorem Kz.on_toArchive (m : Kz) (e : LogEntry) (q : Field) (x : Nat) : (m.toArchive e).on q x = m.on q x := rfl
@[simp] theorem Kz.seenWord_toArchive (m : Kz) (e : LogEntry) (q : RegKind) (x : Nat) : (m.toArchive e).seenWord q x = m.seenWord q x := rfl
@[simp] theorem Kz.counter_toArchive (m : Kz) (e : LogEntry) (q : RegKind) (x : Nat) : (m.toArchive e).counter q x = m.counter q x := rfl
@[simp] theorem Kz.datum_toArchive (m : Kz) (e : LogEntry)  : (m.toArchive e).datum = m.datum := rfl
@[simp] theorem Kz.inst_toArchive (m : Kz) (e : LogEntry)  : (m.toArchive e).inst = m.inst := rfl
@[simp] theorem Kz.fabric_toArchive (m : Kz) (e : LogEntry)  : (m.toArchive e).fabric = m.fabric := rfl
@[simp] theorem Kz.stampOf_toArchive (m : Kz) (e : LogEntry) (x : Nat) : (m.toArchive e).stampOf x = m.stampOf x := rfl
@[simp] theorem Kz.chan_logEntry (m : Kz) (d epoch code cls kind idx second value : Nat) (x : Nat) : (m.logEntry d epoch code cls kind idx second value).chan x = m.chan x := by simp [Kz.chan]
@[simp] theorem Kz.rgn_logEntry (m : Kz) (d epoch code cls kind idx second value : Nat) (x : Nat) : (m.logEntry d epoch code cls kind idx second value).rgn x = m.rgn x := by simp [Kz.rgn]
@[simp] theorem Kz.port_logEntry (m : Kz) (d epoch code cls kind idx second value : Nat) (x : Nat) : (m.logEntry d epoch code cls kind idx second value).port x = m.port x := by simp [Kz.port]
@[simp] theorem Kz.rstate_logEntry (m : Kz) (d epoch code cls kind idx second value : Nat) (x : Nat) : (m.logEntry d epoch code cls kind idx second value).rstate x = m.rstate x := by simp [Kz.rstate, Kz.rgn]
@[simp] theorem Kz.inRun_logEntry (m : Kz) (d epoch code cls kind idx second value : Nat) (x : Nat) : (m.logEntry d epoch code cls kind idx second value).inRun x = m.inRun x := congrArg (fun s => decide (s = RgnState.run)) (Kz.rstate_logEntry ..)
@[simp] theorem Kz.cfgWord_logEntry (m : Kz) (d epoch code cls kind idx second value : Nat) (q : RegKind) (x : Nat) : (m.logEntry d epoch code cls kind idx second value).cfgWord q x = m.cfgWord q x := by simp [Kz.cfgWord]
@[simp] theorem Kz.fld_logEntry (m : Kz) (d epoch code cls kind idx second value : Nat) (q : Field) (x : Nat) : (m.logEntry d epoch code cls kind idx second value).fld q x = m.fld q x := by simp [Kz.fld, Kz.cfgWord]
@[simp] theorem Kz.on_logEntry (m : Kz) (d epoch code cls kind idx second value : Nat) (q : Field) (x : Nat) : (m.logEntry d epoch code cls kind idx second value).on q x = m.on q x := by simp [Kz.on, Kz.fld, Kz.cfgWord]
@[simp] theorem Kz.seenWord_logEntry (m : Kz) (d epoch code cls kind idx second value : Nat) (q : RegKind) (x : Nat) : (m.logEntry d epoch code cls kind idx second value).seenWord q x = m.seenWord q x := by simp [Kz.seenWord]
@[simp] theorem Kz.counter_logEntry (m : Kz) (d epoch code cls kind idx second value : Nat) (q : RegKind) (x : Nat) : (m.logEntry d epoch code cls kind idx second value).counter q x = m.counter q x := by simp [Kz.counter]
@[simp] theorem Kz.datum_logEntry (m : Kz) (d epoch code cls kind idx second value : Nat)  : (m.logEntry d epoch code cls kind idx second value).datum = m.datum := by simp [Kz.datum]
@[simp] theorem Kz.inst_logEntry (m : Kz) (d epoch code cls kind idx second value : Nat)  : (m.logEntry d epoch code cls kind idx second value).inst = m.inst := by simp [Kz.inst]
@[simp] theorem Kz.fabric_logEntry (m : Kz) (d epoch code cls kind idx second value : Nat)  : (m.logEntry d epoch code cls kind idx second value).fabric = m.fabric := by simp [Kz.fabric]
@[simp] theorem Kz.stampOf_logEntry (m : Kz) (d epoch code cls kind idx second value : Nat) (x : Nat) : (m.logEntry d epoch code cls kind idx second value).stampOf x = m.stampOf x := by simp [Kz.stampOf]
@[simp] theorem Kz.chan_logFrom (m : Kz) (i code cls kind idx second value : Nat) (x : Nat) : (m.logFrom i code cls kind idx second value).chan x = m.chan x := by simp [Kz.chan]
@[simp] theorem Kz.rgn_logFrom (m : Kz) (i code cls kind idx second value : Nat) (x : Nat) : (m.logFrom i code cls kind idx second value).rgn x = m.rgn x := by simp [Kz.rgn]
@[simp] theorem Kz.port_logFrom (m : Kz) (i code cls kind idx second value : Nat) (x : Nat) : (m.logFrom i code cls kind idx second value).port x = m.port x := by simp [Kz.port]
@[simp] theorem Kz.rstate_logFrom (m : Kz) (i code cls kind idx second value : Nat) (x : Nat) : (m.logFrom i code cls kind idx second value).rstate x = m.rstate x := by simp [Kz.rstate, Kz.rgn]
@[simp] theorem Kz.inRun_logFrom (m : Kz) (i code cls kind idx second value : Nat) (x : Nat) : (m.logFrom i code cls kind idx second value).inRun x = m.inRun x := congrArg (fun s => decide (s = RgnState.run)) (Kz.rstate_logFrom ..)
@[simp] theorem Kz.cfgWord_logFrom (m : Kz) (i code cls kind idx second value : Nat) (q : RegKind) (x : Nat) : (m.logFrom i code cls kind idx second value).cfgWord q x = m.cfgWord q x := by simp [Kz.cfgWord]
@[simp] theorem Kz.fld_logFrom (m : Kz) (i code cls kind idx second value : Nat) (q : Field) (x : Nat) : (m.logFrom i code cls kind idx second value).fld q x = m.fld q x := by simp [Kz.fld, Kz.cfgWord]
@[simp] theorem Kz.on_logFrom (m : Kz) (i code cls kind idx second value : Nat) (q : Field) (x : Nat) : (m.logFrom i code cls kind idx second value).on q x = m.on q x := by simp [Kz.on, Kz.fld, Kz.cfgWord]
@[simp] theorem Kz.seenWord_logFrom (m : Kz) (i code cls kind idx second value : Nat) (q : RegKind) (x : Nat) : (m.logFrom i code cls kind idx second value).seenWord q x = m.seenWord q x := by simp [Kz.seenWord]
@[simp] theorem Kz.counter_logFrom (m : Kz) (i code cls kind idx second value : Nat) (q : RegKind) (x : Nat) : (m.logFrom i code cls kind idx second value).counter q x = m.counter q x := by simp [Kz.counter]
@[simp] theorem Kz.datum_logFrom (m : Kz) (i code cls kind idx second value : Nat)  : (m.logFrom i code cls kind idx second value).datum = m.datum := by simp [Kz.datum]
@[simp] theorem Kz.inst_logFrom (m : Kz) (i code cls kind idx second value : Nat)  : (m.logFrom i code cls kind idx second value).inst = m.inst := by simp [Kz.inst]
@[simp] theorem Kz.fabric_logFrom (m : Kz) (i code cls kind idx second value : Nat)  : (m.logFrom i code cls kind idx second value).fabric = m.fabric := by simp [Kz.fabric]
@[simp] theorem Kz.stampOf_logFrom (m : Kz) (i code cls kind idx second value : Nat) (x : Nat) : (m.logFrom i code cls kind idx second value).stampOf x = m.stampOf x := by simp [Kz.stampOf]
@[simp] theorem Kz.chan_logAt (m : Kz) (d code cls kind idx second value : Nat) (x : Nat) : (m.logAt d code cls kind idx second value).chan x = m.chan x := by simp [Kz.chan]
@[simp] theorem Kz.rgn_logAt (m : Kz) (d code cls kind idx second value : Nat) (x : Nat) : (m.logAt d code cls kind idx second value).rgn x = m.rgn x := by simp [Kz.rgn]
@[simp] theorem Kz.port_logAt (m : Kz) (d code cls kind idx second value : Nat) (x : Nat) : (m.logAt d code cls kind idx second value).port x = m.port x := by simp [Kz.port]
@[simp] theorem Kz.rstate_logAt (m : Kz) (d code cls kind idx second value : Nat) (x : Nat) : (m.logAt d code cls kind idx second value).rstate x = m.rstate x := by simp [Kz.rstate, Kz.rgn]
@[simp] theorem Kz.inRun_logAt (m : Kz) (d code cls kind idx second value : Nat) (x : Nat) : (m.logAt d code cls kind idx second value).inRun x = m.inRun x := congrArg (fun s => decide (s = RgnState.run)) (Kz.rstate_logAt ..)
@[simp] theorem Kz.cfgWord_logAt (m : Kz) (d code cls kind idx second value : Nat) (q : RegKind) (x : Nat) : (m.logAt d code cls kind idx second value).cfgWord q x = m.cfgWord q x := by simp [Kz.cfgWord]
@[simp] theorem Kz.fld_logAt (m : Kz) (d code cls kind idx second value : Nat) (q : Field) (x : Nat) : (m.logAt d code cls kind idx second value).fld q x = m.fld q x := by simp [Kz.fld, Kz.cfgWord]
@[simp] theorem Kz.on_logAt (m : Kz) (d code cls kind idx second value : Nat) (q : Field) (x : Nat) : (m.logAt d code cls kind idx second value).on q x = m.on q x := by simp [Kz.on, Kz.fld, Kz.cfgWord]
@[simp] theorem Kz.seenWord_logAt (m : Kz) (d code cls kind idx second value : Nat) (q : RegKind) (x : Nat) : (m.logAt d code cls kind idx second value).seenWord q x = m.seenWord q x := by simp [Kz.seenWord]
@[simp] theorem Kz.counter_logAt (m : Kz) (d code cls kind idx second value : Nat) (q : RegKind) (x : Nat) : (m.logAt d code cls kind idx second value).counter q x = m.counter q x := by simp [Kz.counter]
@[simp] theorem Kz.datum_logAt (m : Kz) (d code cls kind idx second value : Nat)  : (m.logAt d code cls kind idx second value).datum = m.datum := by simp [Kz.datum]
@[simp] theorem Kz.inst_logAt (m : Kz) (d code cls kind idx second value : Nat)  : (m.logAt d code cls kind idx second value).inst = m.inst := by simp [Kz.inst]
@[simp] theorem Kz.fabric_logAt (m : Kz) (d code cls kind idx second value : Nat)  : (m.logAt d code cls kind idx second value).fabric = m.fabric := by simp [Kz.fabric]
@[simp] theorem Kz.stampOf_logAt (m : Kz) (d code cls kind idx second value : Nat) (x : Nat) : (m.logAt d code cls kind idx second value).stampOf x = m.stampOf x := by simp [Kz.stampOf]
@[simp] theorem Kz.chan_logE (m : Kz) (code cls kind idx second value : Nat) (x : Nat) : (m.logE code cls kind idx second value).chan x = m.chan x := by simp [Kz.chan]
@[simp] theorem Kz.rgn_logE (m : Kz) (code cls kind idx second value : Nat) (x : Nat) : (m.logE code cls kind idx second value).rgn x = m.rgn x := by simp [Kz.rgn]
@[simp] theorem Kz.port_logE (m : Kz) (code cls kind idx second value : Nat) (x : Nat) : (m.logE code cls kind idx second value).port x = m.port x := by simp [Kz.port]
@[simp] theorem Kz.rstate_logE (m : Kz) (code cls kind idx second value : Nat) (x : Nat) : (m.logE code cls kind idx second value).rstate x = m.rstate x := by simp [Kz.rstate, Kz.rgn]
@[simp] theorem Kz.inRun_logE (m : Kz) (code cls kind idx second value : Nat) (x : Nat) : (m.logE code cls kind idx second value).inRun x = m.inRun x := congrArg (fun s => decide (s = RgnState.run)) (Kz.rstate_logE ..)
@[simp] theorem Kz.cfgWord_logE (m : Kz) (code cls kind idx second value : Nat) (q : RegKind) (x : Nat) : (m.logE code cls kind idx second value).cfgWord q x = m.cfgWord q x := by simp [Kz.cfgWord]
@[simp] theorem Kz.fld_logE (m : Kz) (code cls kind idx second value : Nat) (q : Field) (x : Nat) : (m.logE code cls kind idx second value).fld q x = m.fld q x := by simp [Kz.fld, Kz.cfgWord]
@[simp] theorem Kz.on_logE (m : Kz) (code cls kind idx second value : Nat) (q : Field) (x : Nat) : (m.logE code cls kind idx second value).on q x = m.on q x := by simp [Kz.on, Kz.fld, Kz.cfgWord]
@[simp] theorem Kz.seenWord_logE (m : Kz) (code cls kind idx second value : Nat) (q : RegKind) (x : Nat) : (m.logE code cls kind idx second value).seenWord q x = m.seenWord q x := by simp [Kz.seenWord]
@[simp] theorem Kz.counter_logE (m : Kz) (code cls kind idx second value : Nat) (q : RegKind) (x : Nat) : (m.logE code cls kind idx second value).counter q x = m.counter q x := by simp [Kz.counter]
@[simp] theorem Kz.datum_logE (m : Kz) (code cls kind idx second value : Nat)  : (m.logE code cls kind idx second value).datum = m.datum := by simp [Kz.datum]
@[simp] theorem Kz.inst_logE (m : Kz) (code cls kind idx second value : Nat)  : (m.logE code cls kind idx second value).inst = m.inst := by simp [Kz.inst]
@[simp] theorem Kz.fabric_logE (m : Kz) (code cls kind idx second value : Nat)  : (m.logE code cls kind idx second value).fabric = m.fabric := by simp [Kz.fabric]
@[simp] theorem Kz.stampOf_logE (m : Kz) (code cls kind idx second value : Nat) (x : Nat) : (m.logE code cls kind idx second value).stampOf x = m.stampOf x := by simp [Kz.stampOf]
@[simp] theorem Kz.chan_notifyPort (m : Kz) (d p code kind idx : Nat) (data : List Byte) (x : Nat) : (m.notifyPort d p code kind idx data).chan x = m.chan x := by simp [Kz.chan]
@[simp] theorem Kz.rgn_notifyPort (m : Kz) (d p code kind idx : Nat) (data : List Byte) (x : Nat) : (m.notifyPort d p code kind idx data).rgn x = m.rgn x := by simp [Kz.rgn]
@[simp] theorem Kz.rstate_notifyPort (m : Kz) (d p code kind idx : Nat) (data : List Byte) (x : Nat) : (m.notifyPort d p code kind idx data).rstate x = m.rstate x := by simp [Kz.rstate, Kz.rgn]
@[simp] theorem Kz.inRun_notifyPort (m : Kz) (d p code kind idx : Nat) (data : List Byte) (x : Nat) : (m.notifyPort d p code kind idx data).inRun x = m.inRun x := congrArg (fun s => decide (s = RgnState.run)) (Kz.rstate_notifyPort ..)
@[simp] theorem Kz.cfgWord_notifyPort (m : Kz) (d p code kind idx : Nat) (data : List Byte) (q : RegKind) (x : Nat) : (m.notifyPort d p code kind idx data).cfgWord q x = m.cfgWord q x := by simp [Kz.cfgWord]
@[simp] theorem Kz.fld_notifyPort (m : Kz) (d p code kind idx : Nat) (data : List Byte) (q : Field) (x : Nat) : (m.notifyPort d p code kind idx data).fld q x = m.fld q x := by simp [Kz.fld, Kz.cfgWord]
@[simp] theorem Kz.on_notifyPort (m : Kz) (d p code kind idx : Nat) (data : List Byte) (q : Field) (x : Nat) : (m.notifyPort d p code kind idx data).on q x = m.on q x := by simp [Kz.on, Kz.fld, Kz.cfgWord]
@[simp] theorem Kz.seenWord_notifyPort (m : Kz) (d p code kind idx : Nat) (data : List Byte) (q : RegKind) (x : Nat) : (m.notifyPort d p code kind idx data).seenWord q x = m.seenWord q x := by simp [Kz.seenWord]
@[simp] theorem Kz.datum_notifyPort (m : Kz) (d p code kind idx : Nat) (data : List Byte)  : (m.notifyPort d p code kind idx data).datum = m.datum := by simp [Kz.datum]
@[simp] theorem Kz.inst_notifyPort (m : Kz) (d p code kind idx : Nat) (data : List Byte)  : (m.notifyPort d p code kind idx data).inst = m.inst := by simp [Kz.inst]
@[simp] theorem Kz.fabric_notifyPort (m : Kz) (d p code kind idx : Nat) (data : List Byte)  : (m.notifyPort d p code kind idx data).fabric = m.fabric := by simp [Kz.fabric]
@[simp] theorem Kz.stampOf_notifyPort (m : Kz) (d p code kind idx : Nat) (data : List Byte) (x : Nat) : (m.notifyPort d p code kind idx data).stampOf x = m.stampOf x := by simp [Kz.stampOf]
@[simp] theorem Kz.chan_notifyAt (m : Kz) (d code kind idx : Nat) (data : List Byte) (x : Nat) : (m.notifyAt d code kind idx data).chan x = m.chan x := by simp [Kz.chan]
@[simp] theorem Kz.rgn_notifyAt (m : Kz) (d code kind idx : Nat) (data : List Byte) (x : Nat) : (m.notifyAt d code kind idx data).rgn x = m.rgn x := by simp [Kz.rgn]
@[simp] theorem Kz.rstate_notifyAt (m : Kz) (d code kind idx : Nat) (data : List Byte) (x : Nat) : (m.notifyAt d code kind idx data).rstate x = m.rstate x := by simp [Kz.rstate, Kz.rgn]
@[simp] theorem Kz.inRun_notifyAt (m : Kz) (d code kind idx : Nat) (data : List Byte) (x : Nat) : (m.notifyAt d code kind idx data).inRun x = m.inRun x := congrArg (fun s => decide (s = RgnState.run)) (Kz.rstate_notifyAt ..)
@[simp] theorem Kz.cfgWord_notifyAt (m : Kz) (d code kind idx : Nat) (data : List Byte) (q : RegKind) (x : Nat) : (m.notifyAt d code kind idx data).cfgWord q x = m.cfgWord q x := by simp [Kz.cfgWord]
@[simp] theorem Kz.fld_notifyAt (m : Kz) (d code kind idx : Nat) (data : List Byte) (q : Field) (x : Nat) : (m.notifyAt d code kind idx data).fld q x = m.fld q x := by simp [Kz.fld, Kz.cfgWord]
@[simp] theorem Kz.on_notifyAt (m : Kz) (d code kind idx : Nat) (data : List Byte) (q : Field) (x : Nat) : (m.notifyAt d code kind idx data).on q x = m.on q x := by simp [Kz.on, Kz.fld, Kz.cfgWord]
@[simp] theorem Kz.seenWord_notifyAt (m : Kz) (d code kind idx : Nat) (data : List Byte) (q : RegKind) (x : Nat) : (m.notifyAt d code kind idx data).seenWord q x = m.seenWord q x := by simp [Kz.seenWord]
@[simp] theorem Kz.datum_notifyAt (m : Kz) (d code kind idx : Nat) (data : List Byte)  : (m.notifyAt d code kind idx data).datum = m.datum := by simp [Kz.datum]
@[simp] theorem Kz.inst_notifyAt (m : Kz) (d code kind idx : Nat) (data : List Byte)  : (m.notifyAt d code kind idx data).inst = m.inst := by simp [Kz.inst]
@[simp] theorem Kz.fabric_notifyAt (m : Kz) (d code kind idx : Nat) (data : List Byte)  : (m.notifyAt d code kind idx data).fabric = m.fabric := by simp [Kz.fabric]
@[simp] theorem Kz.stampOf_notifyAt (m : Kz) (d code kind idx : Nat) (data : List Byte) (x : Nat) : (m.notifyAt d code kind idx data).stampOf x = m.stampOf x := by simp [Kz.stampOf]
@[simp] theorem Kz.chan_notify (m : Kz) (code kind idx : Nat) (data : List Byte) (x : Nat) : (m.notify code kind idx data).chan x = m.chan x := by simp [Kz.chan]
@[simp] theorem Kz.rgn_notify (m : Kz) (code kind idx : Nat) (data : List Byte) (x : Nat) : (m.notify code kind idx data).rgn x = m.rgn x := by simp [Kz.rgn]
@[simp] theorem Kz.rstate_notify (m : Kz) (code kind idx : Nat) (data : List Byte) (x : Nat) : (m.notify code kind idx data).rstate x = m.rstate x := by simp [Kz.rstate, Kz.rgn]
@[simp] theorem Kz.inRun_notify (m : Kz) (code kind idx : Nat) (data : List Byte) (x : Nat) : (m.notify code kind idx data).inRun x = m.inRun x := congrArg (fun s => decide (s = RgnState.run)) (Kz.rstate_notify ..)
@[simp] theorem Kz.cfgWord_notify (m : Kz) (code kind idx : Nat) (data : List Byte) (q : RegKind) (x : Nat) : (m.notify code kind idx data).cfgWord q x = m.cfgWord q x := by simp [Kz.cfgWord]
@[simp] theorem Kz.fld_notify (m : Kz) (code kind idx : Nat) (data : List Byte) (q : Field) (x : Nat) : (m.notify code kind idx data).fld q x = m.fld q x := by simp [Kz.fld, Kz.cfgWord]
@[simp] theorem Kz.on_notify (m : Kz) (code kind idx : Nat) (data : List Byte) (q : Field) (x : Nat) : (m.notify code kind idx data).on q x = m.on q x := by simp [Kz.on, Kz.fld, Kz.cfgWord]
@[simp] theorem Kz.seenWord_notify (m : Kz) (code kind idx : Nat) (data : List Byte) (q : RegKind) (x : Nat) : (m.notify code kind idx data).seenWord q x = m.seenWord q x := by simp [Kz.seenWord]
@[simp] theorem Kz.datum_notify (m : Kz) (code kind idx : Nat) (data : List Byte)  : (m.notify code kind idx data).datum = m.datum := by simp [Kz.datum]
@[simp] theorem Kz.inst_notify (m : Kz) (code kind idx : Nat) (data : List Byte)  : (m.notify code kind idx data).inst = m.inst := by simp [Kz.inst]
@[simp] theorem Kz.fabric_notify (m : Kz) (code kind idx : Nat) (data : List Byte)  : (m.notify code kind idx data).fabric = m.fabric := by simp [Kz.fabric]
@[simp] theorem Kz.stampOf_notify (m : Kz) (code kind idx : Nat) (data : List Byte) (x : Nat) : (m.notify code kind idx data).stampOf x = m.stampOf x := by simp [Kz.stampOf]
@[simp] theorem Kz.chan_openSpanAt (m : Kz) (k : SpanKind) (t : Nat) (x : Nat) : (m.openSpanAt k t).chan x = m.chan x := by simp [Kz.chan]
@[simp] theorem Kz.rgn_openSpanAt (m : Kz) (k : SpanKind) (t : Nat) (x : Nat) : (m.openSpanAt k t).rgn x = m.rgn x := by simp [Kz.rgn]
@[simp] theorem Kz.port_openSpanAt (m : Kz) (k : SpanKind) (t : Nat) (x : Nat) : (m.openSpanAt k t).port x = m.port x := by simp [Kz.port]
@[simp] theorem Kz.rstate_openSpanAt (m : Kz) (k : SpanKind) (t : Nat) (x : Nat) : (m.openSpanAt k t).rstate x = m.rstate x := by simp [Kz.rstate, Kz.rgn]
@[simp] theorem Kz.inRun_openSpanAt (m : Kz) (k : SpanKind) (t : Nat) (x : Nat) : (m.openSpanAt k t).inRun x = m.inRun x := congrArg (fun s => decide (s = RgnState.run)) (Kz.rstate_openSpanAt ..)
@[simp] theorem Kz.cfgWord_openSpanAt (m : Kz) (k : SpanKind) (t : Nat) (q : RegKind) (x : Nat) : (m.openSpanAt k t).cfgWord q x = m.cfgWord q x := by simp [Kz.cfgWord]
@[simp] theorem Kz.fld_openSpanAt (m : Kz) (k : SpanKind) (t : Nat) (q : Field) (x : Nat) : (m.openSpanAt k t).fld q x = m.fld q x := by simp [Kz.fld, Kz.cfgWord]
@[simp] theorem Kz.on_openSpanAt (m : Kz) (k : SpanKind) (t : Nat) (q : Field) (x : Nat) : (m.openSpanAt k t).on q x = m.on q x := by simp [Kz.on, Kz.fld, Kz.cfgWord]
@[simp] theorem Kz.seenWord_openSpanAt (m : Kz) (k : SpanKind) (t : Nat) (q : RegKind) (x : Nat) : (m.openSpanAt k t).seenWord q x = m.seenWord q x := by simp [Kz.seenWord]
@[simp] theorem Kz.counter_openSpanAt (m : Kz) (k : SpanKind) (t : Nat) (q : RegKind) (x : Nat) : (m.openSpanAt k t).counter q x = m.counter q x := by simp [Kz.counter]
@[simp] theorem Kz.datum_openSpanAt (m : Kz) (k : SpanKind) (t : Nat)  : (m.openSpanAt k t).datum = m.datum := by simp [Kz.datum]
@[simp] theorem Kz.inst_openSpanAt (m : Kz) (k : SpanKind) (t : Nat)  : (m.openSpanAt k t).inst = m.inst := by simp [Kz.inst]
@[simp] theorem Kz.fabric_openSpanAt (m : Kz) (k : SpanKind) (t : Nat)  : (m.openSpanAt k t).fabric = m.fabric := by simp [Kz.fabric]
@[simp] theorem Kz.stampOf_openSpanAt (m : Kz) (k : SpanKind) (t : Nat) (x : Nat) : (m.openSpanAt k t).stampOf x = m.stampOf x := by simp [Kz.stampOf]
@[simp] theorem Kz.chan_openSpan (m : Kz) (k : SpanKind) (x : Nat) : (m.openSpan k).chan x = m.chan x := by simp [Kz.chan]
@[simp] theorem Kz.rgn_openSpan (m : Kz) (k : SpanKind) (x : Nat) : (m.openSpan k).rgn x = m.rgn x := by simp [Kz.rgn]
@[simp] theorem Kz.port_openSpan (m : Kz) (k : SpanKind) (x : Nat) : (m.openSpan k).port x = m.port x := by simp [Kz.port]
@[simp] theorem Kz.rstate_openSpan (m : Kz) (k : SpanKind) (x : Nat) : (m.openSpan k).rstate x = m.rstate x := by simp [Kz.rstate, Kz.rgn]
@[simp] theorem Kz.inRun_openSpan (m : Kz) (k : SpanKind) (x : Nat) : (m.openSpan k).inRun x = m.inRun x := congrArg (fun s => decide (s = RgnState.run)) (Kz.rstate_openSpan ..)
@[simp] theorem Kz.cfgWord_openSpan (m : Kz) (k : SpanKind) (q : RegKind) (x : Nat) : (m.openSpan k).cfgWord q x = m.cfgWord q x := by simp [Kz.cfgWord]
@[simp] theorem Kz.fld_openSpan (m : Kz) (k : SpanKind) (q : Field) (x : Nat) : (m.openSpan k).fld q x = m.fld q x := by simp [Kz.fld, Kz.cfgWord]
@[simp] theorem Kz.on_openSpan (m : Kz) (k : SpanKind) (q : Field) (x : Nat) : (m.openSpan k).on q x = m.on q x := by simp [Kz.on, Kz.fld, Kz.cfgWord]
@[simp] theorem Kz.seenWord_openSpan (m : Kz) (k : SpanKind) (q : RegKind) (x : Nat) : (m.openSpan k).seenWord q x = m.seenWord q x := by simp [Kz.seenWord]
@[simp] theorem Kz.counter_openSpan (m : Kz) (k : SpanKind) (q : RegKind) (x : Nat) : (m.openSpan k).counter q x = m.counter q x := by simp [Kz.counter]
@[simp] theorem Kz.datum_openSpan (m : Kz) (k : SpanKind)  : (m.openSpan k).datum = m.datum := by simp [Kz.datum]
@[simp] theorem Kz.inst_openSpan (m : Kz) (k : SpanKind)  : (m.openSpan k).inst = m.inst := by simp [Kz.inst]
@[simp] theorem Kz.fabric_openSpan (m : Kz) (k : SpanKind)  : (m.openSpan k).fabric = m.fabric := by simp [Kz.fabric]
@[simp] theorem Kz.stampOf_openSpan (m : Kz) (k : SpanKind) (x : Nat) : (m.openSpan k).stampOf x = m.stampOf x := by simp [Kz.stampOf]
@[simp] theorem Kz.chan_closeSpanAt (m : Kz) (k : SpanKind) (t : Nat) (x : Nat) : (m.closeSpanAt k t).chan x = m.chan x := rfl
@[simp] theorem Kz.rgn_closeSpanAt (m : Kz) (k : SpanKind) (t : Nat) (x : Nat) : (m.closeSpanAt k t).rgn x = m.rgn x := rfl
@[simp] theorem Kz.port_closeSpanAt (m : Kz) (k : SpanKind) (t : Nat) (x : Nat) : (m.closeSpanAt k t).port x = m.port x := rfl
@[simp] theorem Kz.rstate_closeSpanAt (m : Kz) (k : SpanKind) (t : Nat) (x : Nat) : (m.closeSpanAt k t).rstate x = m.rstate x := rfl
@[simp] theorem Kz.inRun_closeSpanAt (m : Kz) (k : SpanKind) (t : Nat) (x : Nat) : (m.closeSpanAt k t).inRun x = m.inRun x := rfl
@[simp] theorem Kz.cfgWord_closeSpanAt (m : Kz) (k : SpanKind) (t : Nat) (q : RegKind) (x : Nat) : (m.closeSpanAt k t).cfgWord q x = m.cfgWord q x := rfl
@[simp] theorem Kz.fld_closeSpanAt (m : Kz) (k : SpanKind) (t : Nat) (q : Field) (x : Nat) : (m.closeSpanAt k t).fld q x = m.fld q x := rfl
@[simp] theorem Kz.on_closeSpanAt (m : Kz) (k : SpanKind) (t : Nat) (q : Field) (x : Nat) : (m.closeSpanAt k t).on q x = m.on q x := rfl
@[simp] theorem Kz.seenWord_closeSpanAt (m : Kz) (k : SpanKind) (t : Nat) (q : RegKind) (x : Nat) : (m.closeSpanAt k t).seenWord q x = m.seenWord q x := rfl
@[simp] theorem Kz.counter_closeSpanAt (m : Kz) (k : SpanKind) (t : Nat) (q : RegKind) (x : Nat) : (m.closeSpanAt k t).counter q x = m.counter q x := rfl
@[simp] theorem Kz.datum_closeSpanAt (m : Kz) (k : SpanKind) (t : Nat)  : (m.closeSpanAt k t).datum = m.datum := rfl
@[simp] theorem Kz.inst_closeSpanAt (m : Kz) (k : SpanKind) (t : Nat)  : (m.closeSpanAt k t).inst = m.inst := rfl
@[simp] theorem Kz.fabric_closeSpanAt (m : Kz) (k : SpanKind) (t : Nat)  : (m.closeSpanAt k t).fabric = m.fabric := rfl
@[simp] theorem Kz.stampOf_closeSpanAt (m : Kz) (k : SpanKind) (t : Nat) (x : Nat) : (m.closeSpanAt k t).stampOf x = m.stampOf x := rfl
@[simp] theorem Kz.chan_closeSpan (m : Kz) (k : SpanKind) (x : Nat) : (m.closeSpan k).chan x = m.chan x := rfl
@[simp] theorem Kz.rgn_closeSpan (m : Kz) (k : SpanKind) (x : Nat) : (m.closeSpan k).rgn x = m.rgn x := rfl
@[simp] theorem Kz.port_closeSpan (m : Kz) (k : SpanKind) (x : Nat) : (m.closeSpan k).port x = m.port x := rfl
@[simp] theorem Kz.rstate_closeSpan (m : Kz) (k : SpanKind) (x : Nat) : (m.closeSpan k).rstate x = m.rstate x := rfl
@[simp] theorem Kz.inRun_closeSpan (m : Kz) (k : SpanKind) (x : Nat) : (m.closeSpan k).inRun x = m.inRun x := rfl
@[simp] theorem Kz.cfgWord_closeSpan (m : Kz) (k : SpanKind) (q : RegKind) (x : Nat) : (m.closeSpan k).cfgWord q x = m.cfgWord q x := rfl
@[simp] theorem Kz.fld_closeSpan (m : Kz) (k : SpanKind) (q : Field) (x : Nat) : (m.closeSpan k).fld q x = m.fld q x := rfl
@[simp] theorem Kz.on_closeSpan (m : Kz) (k : SpanKind) (q : Field) (x : Nat) : (m.closeSpan k).on q x = m.on q x := rfl
@[simp] theorem Kz.seenWord_closeSpan (m : Kz) (k : SpanKind) (q : RegKind) (x : Nat) : (m.closeSpan k).seenWord q x = m.seenWord q x := rfl
@[simp] theorem Kz.counter_closeSpan (m : Kz) (k : SpanKind) (q : RegKind) (x : Nat) : (m.closeSpan k).counter q x = m.counter q x := rfl
@[simp] theorem Kz.datum_closeSpan (m : Kz) (k : SpanKind)  : (m.closeSpan k).datum = m.datum := rfl
@[simp] theorem Kz.inst_closeSpan (m : Kz) (k : SpanKind)  : (m.closeSpan k).inst = m.inst := rfl
@[simp] theorem Kz.fabric_closeSpan (m : Kz) (k : SpanKind)  : (m.closeSpan k).fabric = m.fabric := rfl
@[simp] theorem Kz.stampOf_closeSpan (m : Kz) (k : SpanKind) (x : Nat) : (m.closeSpan k).stampOf x = m.stampOf x := rfl
@[simp] theorem Kz.chan_addSpan (m : Kz) (k : SpanKind) (a b : Nat) (x : Nat) : (m.addSpan k a b).chan x = m.chan x := rfl
@[simp] theorem Kz.rgn_addSpan (m : Kz) (k : SpanKind) (a b : Nat) (x : Nat) : (m.addSpan k a b).rgn x = m.rgn x := rfl
@[simp] theorem Kz.port_addSpan (m : Kz) (k : SpanKind) (a b : Nat) (x : Nat) : (m.addSpan k a b).port x = m.port x := rfl
@[simp] theorem Kz.rstate_addSpan (m : Kz) (k : SpanKind) (a b : Nat) (x : Nat) : (m.addSpan k a b).rstate x = m.rstate x := rfl
@[simp] theorem Kz.inRun_addSpan (m : Kz) (k : SpanKind) (a b : Nat) (x : Nat) : (m.addSpan k a b).inRun x = m.inRun x := rfl
@[simp] theorem Kz.cfgWord_addSpan (m : Kz) (k : SpanKind) (a b : Nat) (q : RegKind) (x : Nat) : (m.addSpan k a b).cfgWord q x = m.cfgWord q x := rfl
@[simp] theorem Kz.fld_addSpan (m : Kz) (k : SpanKind) (a b : Nat) (q : Field) (x : Nat) : (m.addSpan k a b).fld q x = m.fld q x := rfl
@[simp] theorem Kz.on_addSpan (m : Kz) (k : SpanKind) (a b : Nat) (q : Field) (x : Nat) : (m.addSpan k a b).on q x = m.on q x := rfl
@[simp] theorem Kz.seenWord_addSpan (m : Kz) (k : SpanKind) (a b : Nat) (q : RegKind) (x : Nat) : (m.addSpan k a b).seenWord q x = m.seenWord q x := rfl
@[simp] theorem Kz.counter_addSpan (m : Kz) (k : SpanKind) (a b : Nat) (q : RegKind) (x : Nat) : (m.addSpan k a b).counter q x = m.counter q x := rfl
@[simp] theorem Kz.datum_addSpan (m : Kz) (k : SpanKind) (a b : Nat)  : (m.addSpan k a b).datum = m.datum := rfl
@[simp] theorem Kz.inst_addSpan (m : Kz) (k : SpanKind) (a b : Nat)  : (m.addSpan k a b).inst = m.inst := rfl
@[simp] theorem Kz.fabric_addSpan (m : Kz) (k : SpanKind) (a b : Nat)  : (m.addSpan k a b).fabric = m.fabric := rfl
@[simp] theorem Kz.stampOf_addSpan (m : Kz) (k : SpanKind) (a b : Nat) (x : Nat) : (m.addSpan k a b).stampOf x = m.stampOf x := rfl
@[simp] theorem Kz.chan_ledgerAct (m : Kz) (code kind idx : Nat) (x : Nat) : (m.ledgerAct code kind idx).chan x = m.chan x := rfl
@[simp] theorem Kz.rgn_ledgerAct (m : Kz) (code kind idx : Nat) (x : Nat) : (m.ledgerAct code kind idx).rgn x = m.rgn x := rfl
@[simp] theorem Kz.port_ledgerAct (m : Kz) (code kind idx : Nat) (x : Nat) : (m.ledgerAct code kind idx).port x = m.port x := rfl
@[simp] theorem Kz.rstate_ledgerAct (m : Kz) (code kind idx : Nat) (x : Nat) : (m.ledgerAct code kind idx).rstate x = m.rstate x := rfl
@[simp] theorem Kz.inRun_ledgerAct (m : Kz) (code kind idx : Nat) (x : Nat) : (m.ledgerAct code kind idx).inRun x = m.inRun x := rfl
@[simp] theorem Kz.cfgWord_ledgerAct (m : Kz) (code kind idx : Nat) (q : RegKind) (x : Nat) : (m.ledgerAct code kind idx).cfgWord q x = m.cfgWord q x := rfl
@[simp] theorem Kz.fld_ledgerAct (m : Kz) (code kind idx : Nat) (q : Field) (x : Nat) : (m.ledgerAct code kind idx).fld q x = m.fld q x := rfl
@[simp] theorem Kz.on_ledgerAct (m : Kz) (code kind idx : Nat) (q : Field) (x : Nat) : (m.ledgerAct code kind idx).on q x = m.on q x := rfl
@[simp] theorem Kz.seenWord_ledgerAct (m : Kz) (code kind idx : Nat) (q : RegKind) (x : Nat) : (m.ledgerAct code kind idx).seenWord q x = m.seenWord q x := rfl
@[simp] theorem Kz.counter_ledgerAct (m : Kz) (code kind idx : Nat) (q : RegKind) (x : Nat) : (m.ledgerAct code kind idx).counter q x = m.counter q x := rfl
@[simp] theorem Kz.datum_ledgerAct (m : Kz) (code kind idx : Nat)  : (m.ledgerAct code kind idx).datum = m.datum := rfl
@[simp] theorem Kz.inst_ledgerAct (m : Kz) (code kind idx : Nat)  : (m.ledgerAct code kind idx).inst = m.inst := rfl
@[simp] theorem Kz.fabric_ledgerAct (m : Kz) (code kind idx : Nat)  : (m.ledgerAct code kind idx).fabric = m.fabric := rfl
@[simp] theorem Kz.stampOf_ledgerAct (m : Kz) (code kind idx : Nat) (x : Nat) : (m.ledgerAct code kind idx).stampOf x = m.stampOf x := rfl

end Sys2Proof.Machine
end

