-- ==== Sys2Proof/Laws/Host.lean ====
section
/-! SUPPORT. Laws of the host ports: the hub serves nothing where nothing waits, and what an accepted register row
answers. -/
namespace Sys2Proof.Machine
open Safety

/-- A fold whose every step leaves its state alone leaves it alone. -/
theorem foldl_id {σ α : Type} {f : σ → α → σ} (l : List α) (s : σ) (h : ∀ a ∈ l, f s a = s) : l.foldl f s = s := by
  induction l with
  | nil => rfl
  | cons a r ih => rw [List.foldl_cons, h a (by simp), ih (fun b hb => h b (by simp [hb]))]

theorem mem_upTo {n i : Nat} : i ∈ upTo n ↔ i < n := by simp [upTo]

theorem quiet_ofPorts {m n : Kz} (h : Quiet m) (hp : n.ports = m.ports) : Quiet n := by
  intro p hl; simpa [Kz.port, hp] using h p hl

theorem ready_quiet {m : Kz} (h : Quiet m) {p : Nat} (hp : p < 4) : ready m p = none := by
  simp [ready, (h p hp).1]

theorem pump_quiet {m : Kz} (h : Quiet m) : pump m = m := by
  have ht : turns 64 m = m := by
    simp only [turns, List.any_eq_true, mem_upTo]
    rw [if_neg]; rintro ⟨p, hp, hr⟩; simp [ready_quiet h hp] at hr
  unfold pump; rw [ht]
  unfold gaps
  refine foldl_id _ _ fun p hp => ?_
  have := h p (mem_upTo.1 hp)
  simp [this]

theorem resetsDue_quiet {m : Kz} (h : Quiet m) : resetsDue m = m :=
  foldl_id _ _ fun p hp => by simp [(h p (mem_upTo.1 hp)).2.1]

/-- An accepted register row writes its register and answers OK. -/
theorem pairWrite_accepts {m : Kz} {p i : Nat} {k : RegKind} {w : Word} (h : Accepts m p k i w)
    (hp : placeOf (k.addr i) = some (.reg k i)) (hu : k ≠ .HK_URGENT) (hd : k ≠ .DSI_COMMIT)
    (hq : (regEffect (storeReg m k i w) k i (m.cfgWord k i) w).ports = m.ports) :
    pairWrite m p k i w = (regEffect (storeReg m k i w) k i (m.cfgWord k i) w).emit (okPair p k i) := by
  obtain ⟨q, ⟨ho, hpw, hr⟩, hc, hl, hk⟩ := h
  have hw : writeReg m k i w = (.ok, regEffect (storeReg m k i w) k i (m.cfgWord k i) w) := by
    unfold writeReg; rw [if_neg (by simp [hl])]
    cases k <;> simp_all
  have : writeWord m (m.port p).session.leases (k.addr i) w = (.ok, regEffect (storeReg m k i w) k i (m.cfgWord k i) w) := by
    simp [writeWord, hp, hc, writePlace, hw]
  unfold pairWrite
  simp only [ho, hpw, hr, this]
  have hq' : Quiet ((regEffect (storeReg m k i w) k i (m.cfgWord k i) w).emit (.pairStatus p (k.addr i) .ok noDetail)) :=
    quiet_ofPorts q hq
  simp only [Bool.not_true, Option.isSome_none, Bool.or_false, Bool.false_eq_true, if_false]
  rw [resetsDue_quiet hq', pump_quiet hq']; rfl

/-- A register row that reads answers with the word it reads. -/
theorem wordRead_reaches {m : Kz} {p i : Nat} {k : RegKind} (h : Reaches m p k i)
    (hp : placeOf (k.addr i) = some (.reg k i)) :
    wordRead m p k i = (readSide m k i).emit (.readValue p (k.addr i) (readReg (readSide m k i) k i)) := by
  obtain ⟨ho, hpw, hr⟩ := h
  simp [wordRead, ho, hpw, hr, readWord, hp, readPlace, readRegister]

end Sys2Proof.Machine
end

