-- ==== Sys2Proof/Laws/Memory.lean ====
section
/-! SUPPORT. Laws of the addressed memories: a read after a write, and the canonical form kept by every operation. -/
namespace Sys2Proof.Machine

theorem Mem.read_write (m : Mem) (a b : Nat) (v : Byte) :
    (m.write a v).read b = if b = a then v else m.read b := by
  simp [Mem.read, Mem.write, Sparse.get_put]

@[simp] theorem Mem.read_write_same (m : Mem) (a : Nat) (v : Byte) : (m.write a v).read a = v := by simp [Mem.read_write]

theorem Mem.read_write_ne (m : Mem) {a b : Nat} (v : Byte) (h : b ≠ a) : (m.write a v).read b = m.read b := by
  simp [Mem.read_write, h]

/-- Outside the bytes stored, a store changes nothing. -/
theorem Mem.read_writes_out (l : List Byte) (m : Mem) (a b : Nat) (h : b < a ∨ a + l.length ≤ b) :
    (m.writes a l).read b = m.read b := by
  induction l generalizing m a with
  | nil => rfl
  | cons x r ih =>
    simp only [List.length_cons] at h
    rw [Mem.writes, ih _ _ (by omega), Mem.read_write_ne _ _ (by omega)]

/-- A byte stored reads back. -/
theorem Mem.read_writes_in (l : List Byte) (m : Mem) (a i : Nat) (h : i < l.length) :
    (m.writes a l).read (a + i) = l.getD i 0 := by
  induction l generalizing m a i with
  | nil => simp at h
  | cons x r ih =>
    rw [Mem.writes]
    cases i with
    | zero => rw [Nat.add_zero, Mem.read_writes_out _ _ _ _ (.inl (by omega))]; simp
    | succ j =>
      have := ih (m.write a x) (a + 1) j (by simpa using h)
      rw [show a + (j + 1) = a + 1 + j by omega, this]; simp

theorem Mem.wf_write (m : Mem) (a : Nat) (v : Byte) (h : m.wf = true) : (m.write a v).wf = true := by
  simp only [Mem.wf, Bool.and_eq_true, List.all_eq_true, bne_iff_ne, ne_eq] at h ⊢
  unfold Mem.write Sparse.put
  split
  · exact ⟨Sparse.sortedFrom_filter _ _ _ h.1, fun p hp => h.2 p (List.mem_filter.1 hp).1⟩
  · rename_i hv
    refine ⟨Sparse.sortedFrom_set _ _ _ _ (Nat.zero_le _) h.1, fun p hp => ?_⟩
    rcases Sparse.mem_set hp with rfl | hp
    · exact hv
    · exact h.2 p hp

theorem Mem.wf_writes (l : List Byte) (m : Mem) (a : Nat) (h : m.wf = true) : (m.writes a l).wf = true := by
  induction l generalizing m a with
  | nil => exact h
  | cons x r ih => exact ih _ _ (Mem.wf_write _ _ _ h)

theorem Mem.wf_clear (m : Mem) (a n : Nat) (h : m.wf = true) : (m.clear a n).wf = true := by
  simp only [Mem.wf, Bool.and_eq_true, List.all_eq_true, bne_iff_ne, ne_eq] at h ⊢
  exact ⟨Sparse.sortedFrom_filter _ _ _ h.1, fun p hp => h.2 p (List.mem_filter.1 hp).1⟩

/-- A cleared cell reads 0; the others are unchanged. -/
theorem Mem.read_clear (m : Mem) (a n b : Nat) :
    (m.clear a n).read b = if a ≤ b ∧ b < a + n then 0 else m.read b := by
  unfold Mem.clear Mem.read
  induction m with
  | nil => simp
  | cons p r ih =>
    obtain ⟨k, v⟩ := p
    by_cases hk : a ≤ k ∧ k < a + n
    · rw [List.filter_cons_of_neg (by simpa using hk), ih]
      by_cases hb : k = b
      · subst hb; simp [hk]
      · simp [Sparse.get, hb]
    · rw [List.filter_cons_of_pos (by simp only [Bool.not_eq_true', Bool.and_eq_false_iff, decide_eq_false_iff_not]; omega)]
      simp only [Sparse.get, ih]
      by_cases hb : k = b
      · subst hb; simp [hk]
      · simp [hb]

end Sys2Proof.Machine
end

