-- ==== Sys2Proof/Laws/Place.lean ====
section
/-! SUPPORT. Where the registers of the register rows lie: the address of each names it (R712, R715, R716). -/
namespace Sys2Proof.Machine

set_option maxRecDepth 100000

theorem place_CH_CHAIN_CTRL : ∀ i : Fin 192, placeOf (RegKind.addr .CH_CHAIN_CTRL i.val) = some (.reg .CH_CHAIN_CTRL i.val) := by decide
theorem place_CH_CONV_CTRL : ∀ i : Fin 192, placeOf (RegKind.addr .CH_CONV_CTRL i.val) = some (.reg .CH_CONV_CTRL i.val) := by decide
theorem place_CH_SLICE_HEALTH : ∀ i : Fin 192, placeOf (RegKind.addr .CH_SLICE_HEALTH i.val) = some (.reg .CH_SLICE_HEALTH i.val) := by decide
theorem place_CH_TRIG_CTRL : ∀ i : Fin 192, placeOf (RegKind.addr .CH_TRIG_CTRL i.val) = some (.reg .CH_TRIG_CTRL i.val) := by decide
theorem place_DSI_COMMIT : placeOf (RegKind.addr .DSI_COMMIT 0) = some (.reg .DSI_COMMIT 0) := by decide
theorem place_DSI_CTRL : placeOf (RegKind.addr .DSI_CTRL 0) = some (.reg .DSI_CTRL 0) := by decide
theorem place_DSI_FLIP_LO : placeOf (RegKind.addr .DSI_FLIP_LO 0) = some (.reg .DSI_FLIP_LO 0) := by decide
theorem place_HK_CTRL : placeOf (RegKind.addr .HK_CTRL 0) = some (.reg .HK_CTRL 0) := by decide
theorem place_HK_URGENT : placeOf (RegKind.addr .HK_URGENT 0) = some (.reg .HK_URGENT 0) := by decide
theorem place_HOST_PORT_CFG : ∀ i : Fin 4, placeOf (RegKind.addr .HOST_PORT_CFG i.val) = some (.reg .HOST_PORT_CFG i.val) := by decide
theorem place_MOD_AGE_STAT : placeOf (RegKind.addr .MOD_AGE_STAT 0) = some (.reg .MOD_AGE_STAT 0) := by decide
theorem place_MOD_DEBUG_STAT : placeOf (RegKind.addr .MOD_DEBUG_STAT 0) = some (.reg .MOD_DEBUG_STAT 0) := by decide
theorem place_MOD_ERR_CTRL : placeOf (RegKind.addr .MOD_ERR_CTRL 0) = some (.reg .MOD_ERR_CTRL 0) := by decide
theorem place_MOD_MAP_CTRL : ∀ i : Fin 2, placeOf (RegKind.addr .MOD_MAP_CTRL i.val) = some (.reg .MOD_MAP_CTRL i.val) := by decide
theorem place_MOD_STAT_CTRL : placeOf (RegKind.addr .MOD_STAT_CTRL 0) = some (.reg .MOD_STAT_CTRL 0) := by decide
theorem place_MOD_VIN : placeOf (RegKind.addr .MOD_VIN 0) = some (.reg .MOD_VIN 0) := by decide
theorem place_RGN_ACCQ_STAT : ∀ i : Fin 12, placeOf (RegKind.addr .RGN_ACCQ_STAT i.val) = some (.reg .RGN_ACCQ_STAT i.val) := by decide
theorem place_RGN_ACC_CLR : ∀ i : Fin 12, placeOf (RegKind.addr .RGN_ACC_CLR i.val) = some (.reg .RGN_ACC_CLR i.val) := by decide
theorem place_RGN_AGE_STAT : ∀ i : Fin 12, placeOf (RegKind.addr .RGN_AGE_STAT i.val) = some (.reg .RGN_AGE_STAT i.val) := by decide
theorem place_RGN_DAMPER : ∀ i : Fin 12, placeOf (RegKind.addr .RGN_DAMPER i.val) = some (.reg .RGN_DAMPER i.val) := by decide
theorem place_RGN_RAIL : ∀ i : Fin 12, placeOf (RegKind.addr .RGN_RAIL i.val) = some (.reg .RGN_RAIL i.val) := by decide
theorem place_RGN_RO_CTRL : ∀ i : Fin 12, placeOf (RegKind.addr .RGN_RO_CTRL i.val) = some (.reg .RGN_RO_CTRL i.val) := by decide
theorem place_RGN_RO_TEST : ∀ i : Fin 12, placeOf (RegKind.addr .RGN_RO_TEST i.val) = some (.reg .RGN_RO_TEST i.val) := by decide
theorem place_RGN_SOFT_TRIG : ∀ i : Fin 12, placeOf (RegKind.addr .RGN_SOFT_TRIG i.val) = some (.reg .RGN_SOFT_TRIG i.val) := by decide
theorem place_RGN_XQ_STAT : ∀ i : Fin 12, placeOf (RegKind.addr .RGN_XQ_STAT i.val) = some (.reg .RGN_XQ_STAT i.val) := by decide
theorem place_SNS_CFG : ∀ i : Fin 24, placeOf (RegKind.addr .SNS_CFG i.val) = some (.reg .SNS_CFG i.val) := by decide
theorem place_SNS_STAT : ∀ i : Fin 24, placeOf (RegKind.addr .SNS_STAT i.val) = some (.reg .SNS_STAT i.val) := by decide
theorem place_TIM_DATUM_LO : placeOf (RegKind.addr .TIM_DATUM_LO 0) = some (.reg .TIM_DATUM_LO 0) := by decide
theorem place_TIM_EPOCH_STAT : placeOf (RegKind.addr .TIM_EPOCH_STAT 0) = some (.reg .TIM_EPOCH_STAT 0) := by decide
theorem place_TIM_FREQ_CFG : placeOf (RegKind.addr .TIM_FREQ_CFG 0) = some (.reg .TIM_FREQ_CFG 0) := by decide
theorem place_TIM_FREQ_STAT : placeOf (RegKind.addr .TIM_FREQ_STAT 0) = some (.reg .TIM_FREQ_STAT 0) := by decide
theorem place_TIM_HEARTH_TRIM : placeOf (RegKind.addr .TIM_HEARTH_TRIM 0) = some (.reg .TIM_HEARTH_TRIM 0) := by decide
theorem place_TIM_MODE : placeOf (RegKind.addr .TIM_MODE 0) = some (.reg .TIM_MODE 0) := by decide
theorem place_TIM_OVEN : placeOf (RegKind.addr .TIM_OVEN 0) = some (.reg .TIM_OVEN 0) := by decide
theorem place_TIM_TIU_ARM : placeOf (RegKind.addr .TIM_TIU_ARM 0) = some (.reg .TIM_TIU_ARM 0) := by decide
theorem place_TIM_TIU_CFG : ∀ i : Fin 32, placeOf (RegKind.addr .TIM_TIU_CFG i.val) = some (.reg .TIM_TIU_CFG i.val) := by decide
theorem place_TIM_TIU_STAT : ∀ i : Fin 32, placeOf (RegKind.addr .TIM_TIU_STAT i.val) = some (.reg .TIM_TIU_STAT i.val) := by decide
theorem place_TIM_TIU_WIN : ∀ i : Fin 32, placeOf (RegKind.addr .TIM_TIU_WIN i.val) = some (.reg .TIM_TIU_WIN i.val) := by decide
theorem place_TIM_TL_CFG : placeOf (RegKind.addr .TIM_TL_CFG 0) = some (.reg .TIM_TL_CFG 0) := by decide
theorem place_TIM_TL_XING : placeOf (RegKind.addr .TIM_TL_XING 0) = some (.reg .TIM_TL_XING 0) := by decide

end Sys2Proof.Machine
end

