-- ==== Sys2Proof/Laws/TimeBase.lean ====
section
/-! SUPPORT. What the operations of the time base touch. -/
namespace Sys2Proof.Machine

/-- R442: the hearth as corrected is off by what TRIM has come to. -/
theorem hearthOff_eq (m : Kz) : hearthOff m = trimNow m := by unfold hearthOff hearthCorrection; omega
theorem setSpan_eq (m : Kz) (k : SpanKind) (b : Bool) : setSpan m k b = { m with spans := (setSpan m k b).spans } := by
  unfold setSpan Kz.openSpan Kz.openSpanAt Kz.closeSpan; split <;> (try split) <;> rfl
/-- The intervals of R130 to R132 are all that `timeFlags` touches. -/
theorem timeFlags_eq (m : Kz) : timeFlags m = { m with spans := (timeFlags m).spans } := by
  unfold timeFlags; simp only; rw [setSpan_eq, setSpan_eq (setSpan _ _ _), setSpan_eq (setSpan _ _ _), setSpan_eq m]

end Sys2Proof.Machine
end

