-- ==== Sys2Proof/WellFormed.lean ====
section
/-! DEFINITION. Well-formed commands: operands that a host, a partner on the timing link or the block's own units can
bring. The decoder spells no command (Decode.lean); the meanings are total and ask for none of this. -/
namespace Sys2Proof

/-- The command codes that standard firmware 3.2 provides (R537). -/
def providedCodes : List Nat :=
  [0x01, 0x02, 0x03, 0x04, 0x05, 0x06, 0x07, 0x10, 0x11, 0x12, 0x13, 0x20, 0x21, 0x22, 0x23, 0x30, 0x31, 0x40, 0x41, 0x50, 0x60,
   0x61, 0x62]
/-- Whether a command is well formed: its message holds its body (R521), fixed fields have their size (R567, R577), an unknown
code is one that is not provided (R537), an edge does not lie after the moment it is told at and its crossing has a period, a cycle's
codes are no more than it has samples (R72), and what a unit reports lies in its range (R49, R520, R560, R659). -/
def Instr.wf : Instr → Bool
  | .regRead _ _ addrs => decide (addrs.length ≤ 302)
  | .regWrite _ _ pairs => decide (pairs.length ≤ 151)
  | .stageWrite _ _ _ data => decide (data.length ≤ 1208)
  | .attest _ _ nonce _ _ => decide (nonce.length = 32)
  | .fwChunkFirmware _ _ _ flags data | .fwChunkConfiguration _ _ _ flags data =>
    decide (flags.toNat < 8) && decide (data.length ≤ 1204)
  | .fwChunkActivate _ _ _ _ data => decide (data.length ≤ 1204)
  | .unknownCommand _ _ code body => !providedCodes.contains code.toNat && decide (body.length ≤ 1212)
  | .idle t f | .crossingEdge t f _ | .accept t f | .bcnReset t f | .epochReset t f | .resync t f | .calInject t f
  | .testTrigger t f | .statBoundaryFast t f | .userCode t f _ | .reservedFastCommand t f _ => decide (f.edge ≤ t.tick * 1024 + 1023) && decide (0 < f.period)
  | .fixedLaneSend _ d => d.all (fun x => decide (x.codes.length ≤ 16) && decide (x.spare.length ≤ x.codes.length))
  | .xtrigEdge t _ _ inst => decide (inst ≤ t.tick * 1024 + 1023)
  | .calPassDone _ _ front => decide (front.length ≤ 16) && front.all (fun c => decide (c.length = 6))
  | .bootSlotVerified _ _ img _ => decide (img.sv ≤ 64)
  | .bootReachStandby _ net b => decide (net.length ≤ 4) && decide (b.sv ≤ 64)
  | .shadowWindowClose _ _ pairs disagree _ => decide (disagree ≤ pairs)
  | .ageDaily _ _ plls _ => decide (plls.length ≤ 12)
  | .nop .. | .openSession .. | .closeSession .. | .leaseAcquire .. | .leaseRelease .. | .leaseQuery ..
  | .subscribe .. | .blockRead .. | .commit .. | .moduleState .. | .regionState .. | .channelRestart ..
  | .statBoundary .. | .engLoad .. | .logRead .. | .ledgerRead .. | .challenge .. | .firmwareActivation ..
  | .ownerKeyWrite .. | .ownerKeyRevoke .. | .debugUnlock .. | .sectorEraseDone .. | .acknowledgement ..
  | .sessionTimeout .. | .seqGapSkip .. | .notificationResend .. | .nonceExpiry .. | .debugExpiry ..
  | .debugRelock .. | .dbgNonce .. | .dbgToken .. | .hostFrameDrop .. | .neighbourRequest .. | .icmpEcho ..
  | .hostLinkLoss .. | .hostPortCfgWrite .. | .virtualCrossingEdge .. | .epochOrigin .. | .hostEpoch ..
  | .tinSignalDetect .. | .tinLock .. | .tinLockLost .. | .tinSignalLost .. | .tinRevert .. | .tlCfgWrite ..
  | .mclkFreqGateDone .. | .timModeWrite .. | .synSwitchLocked .. | .refLost .. | .refReturn .. | .relockDone ..
  | .xingSlewDone .. | .synUnlock .. | .synLockRegained .. | .fabricPllUnlock .. | .ovenSetpointWrite ..
  | .ovenWarm .. | .ovenUnreg .. | .ovenBandLeft .. | .heaterFault .. | .hearthTrimWrite .. | .datumLatchRead ..
  | .xingLatchRead .. | .fixedLaneArrival .. | .fixedLaneRelease .. | .regionSkewClear ..
  | .xqStatClr .. | .cmAlarm .. | .cmAlarmClear .. | .feSettleDone .. | .injectEdge .. | .injectReturn ..
  | .benchmarkCalDone .. | .shadowWindowStarved .. | .stepTimerExpire .. | .stepNow .. | .handover ..
  | .confirmDone .. | .confirmRevert .. | .revertBoundary .. | .stuckSlice .. | .emergHandover ..
  | .sliceHealthWrite .. | .calPassStart .. | .blFreezeWrite .. | .blAcquireDone .. | .blFreezeBegin ..
  | .blFreezeEnd .. | .blReacquire .. | .blReacquireDone .. | .triggerDecide .. | .pretriggerFilled ..
  | .holdoffExpire .. | .rearmDone .. | .arm .. | .softTrig .. | .regionPatternFire .. | .modulePatternFire ..
  | .extractionStart .. | .streamRecordStart .. | .acceptQueueDepart .. | .recordRelease .. | .accqHighWaterClr ..
  | .maskVerdict .. | .measurementDone .. | .avgFold .. | .histFold .. | .mapFold .. | .mapDecay .. | .avgClr ..
  | .histClr .. | .mapClr .. | .mapClrDone .. | .engineBundle .. | .engineWatchdog .. | .featureHandoff ..
  | .toneBlockResult .. | .comparatorQualify .. | .recordClose .. | .engineActivationStart ..
  | .engineMemFault .. | .engineReloadDone .. | .primFrame .. | .laneEnWrite .. | .laneTestEnWrite ..
  | .laneRetrain .. | .lanePllLock .. | .laneSyncDone .. | .laneRetrainDone .. | .lanePllUnlock .. | .frameOpen ..
  | .frameComplete .. | .damperWrite .. | .overflowEnter .. | .overflowExit .. | .tiuCfgWrite .. | .tiuArm ..
  | .tiuEventArrival .. | .tiuJudge .. | .tiuTimeout .. | .tiuStatRead .. | .freqStart .. | .freqCfgWrite ..
  | .freqGateEnd .. | .freqNoSignal .. | .freqStatRead .. | .snsCfgWrite .. | .snsBoundary .. | .snsOutputPublish ..
  | .snsOpen .. | .snsOpenClear .. | .snsCheckDue .. | .snsCheckDone .. | .snsStatRead .. | .hkRunStart ..
  | .hkRunStop .. | .hkRestart .. | .hkRefWrite .. | .hkRefSettled .. | .hkConversionDone .. | .hkXchkDone ..
  | .hkUrgent .. | .hkUrgentDone .. | .supplyDipStart .. | .supplyDipEnd .. | .vinMinClr .. | .moduleReset ..
  | .resetRelease .. | .bootAttemptTimeout .. | .activationReset .. | .overvoltage .. | .overvoltageClear ..
  | .railFault .. | .hubRailFault .. | .railCauseClear .. | .railTargetWrite .. | .railRampDone ..
  | .regionThermalTrip .. | .moduleThermalTrip .. | .thermalClear .. | .regionUpDone .. | .regionDrainDone ..
  | .lockstepDivergence .. | .supervisorWatchdog .. | .pairRestartDone .. | .scrubRead .. | .voteScrub ..
  | .channelRestartBoundary .. | .channelResume .. | .channelRestartOverdue .. | .regionRestart .. | .regionResume ..
  | .regionRestartOverdue .. | .moduleFatal .. | .fatalReset .. | .statTimerExpire .. | .statTimerWrite ..
  | .statLatch .. | .statCopyDone .. | .archiveSummary .. | .ageRoMeasure .. | .vminTest .. | .ageHourly ..
  | .policyRail .. | .policyStep .. | .policyOven .. | .policyTrim .. | .overrideRelease .. | .ledgerCheckpoint ..
  | .ledgerSummary .. | .ledgerAction .. | .dsiEnable .. | .dsiDisable .. | .dsiPllLock .. | .dsiFrameStart ..
  | .dsiLatchEdge .. | .dsiTeEdge .. | .dsiTeTimeout .. | .dsiComposeFlip .. | .dsiCompose .. | .dsiFlip ..
  | .composerPassDone .. | .dsiFlipRead .. | .hostLinkLock .. | .malformedMessage .. | .engLoadDone .. => true

end Sys2Proof
end

