-- ==== Sys2Proof/Tests/Slice0.lean ====
section
/-! SUPPORT. Own tests: the spec's worked examples, a few single steps, well-formed and ill-formed commands, and for every
statement of Certificates/Slice0/Obligations.lean states and operands that meet its hypotheses. -/
namespace Sys2Proof.Tests
open Machine Safety

/-! ### States the tests start from -/

/-- A session with every lease. -/
def wSess : Session :=
  { isOpen := true, origin := 7, version := 0x32, timeout := 10, mask := 0x3FE, h := 5, leases := .module :: (upTo 12).map Lease.region }
/-- A block in a module state with a session on port 0. -/
def wKz (st : ModState) : Kz :=
  { now := ⟨1000000, 5000000000⟩, pwr := { state := st }, ports := [(0, { session := wSess, sessionId := 1, link := true })] }
/-- A block as a state. -/
def wSt (m : Kz) : State := { kz := m }
def wTb (f : TimeBase → TimeBase) : State := wSt ((wKz .ready).modTb f)
def wCal (r : Bool) : State :=
  wSt ((((wKz .ready).modPwr 1 (fun p => { p with state := .cal })).modPower
    (fun p => { p with calQueue := [1, 4], passRunning := r })).eachChan 1 (fun m c => m.modConv c (fun v => { v with calDue := true })))
/-- Region 1 in RUN with channel 17 running in an acquisition mode, its records enabled, sources in a mask. -/
def wRun (mode srcs : Nat) (f : Channel → Channel) : Kz :=
  (((((wKz .acquire).modPwr 1 (fun p => { p with state := .run })).setFld F.RGN_ACQ_CTRL.MODE 1 mode).setFld
    F.CH_MEM_CTRL.REC_EN 17 1).setFld F.CH_TRIG_CTRL.SRC_EN 17 srcs).modChan 17 (fun x =>
      f { x with chain := { x.chain with start := some 900000 }, mem := { x.mem with slots := 4, slotSize := 4096 } })
/-- The bytes of a smallest engine image: one bundle, END. -/
def wImg : List Byte :=
  let b := be 4 0x4B5A4550 ++ ([1, 0] : List Byte) ++ be 2 1 ++ be 2 8 ++ be 2 1 ++ be 2 0 ++ be 2 0 ++ be 8 (0x13 <<< 26)
  b ++ be 4 (crc32c b)
/-- The numbers of an accepted image. -/
def wGood (r : Except (Nat × Nat) EngImage) : EngImage := match r with | .ok g => g | .error _ => {}
/-- A staged signed block: operation, key slot, and the first bytes of an argument of `n` bytes; the rest is 0. -/
def wSigned (op slot n : Nat) (arg : List Byte) : Mem := Mem.writes [] 0 (be 4 0x4B5A5347 ++ be 1 op ++ be 1 slot ++ be 2 n ++ be 64 0 ++ arg)
/-- The fields of a block of bytes laid out as a signed block. -/
def wFields (b : List Byte) : Signed :=
  let n := ofBe (slice b 6 2)
  ⟨ofBe (slice b 4 1), ofBe (slice b 5 1), slice b 8 32, slice b 40 32, slice b 72 n, b.take (72 + n), slice b (72 + n) 64,
    slice b (136 + n) 3309, b⟩
theorem parse_fields (b : List Byte) (h1 : ofBe (slice b 0 4) = 0x4B5A5347) (h2 : b.length = 72 + ofBe (slice b 6 2) + 64 + 3309) :
    parseSigned b = some (wFields b) := by unfold parseSigned wFields; rw [if_neg (by simp [h1, h2])]

/-! ### The spec's worked examples -/

/-- R393's worked ACCEPT: the CRC over 0x01, 0x3E and 0x00 is 0x6F. -/
theorem test_crc8_worked_accept : crc8 [0x01, 0x3E, 0x00] = 0x6F := by decide
/-- R715's worked addresses of CH137 and region 8. -/
theorem test_addresses_worked : RegKind.addr .CH_TRIG_LEVEL_A 137 = 0x02089044 ∧ RegKind.addr .RGN_PATTERN 8 = 0x01800060 ∧
    engData 137 0x7C00 = 0x0512FC00 := by decide
/-- R133's worked epoch: the origin of a crossing at 1,000,050 ticks lies at 1,003,520. -/
theorem test_epoch_worked : epochAfter (1000050 * 1024) = 1003520 := by decide
set_option maxRecDepth 20000 in
/-- R185's worked crossing: the cubic through 2,000, 6,100, 9,700 and 12,900 passes 8,000 at 524/1024. -/
theorem test_cubic_worked : crossPos 8000 true (some 2000) 6100 9700 (some 12900) = 524 := by decide
/-- R186: a sample equal to the level lies at the end of its interval. -/
theorem test_cross_on_sample : crossPos 9700 true none 6100 9700 (some 12900) = 1024 := by decide
/-- R487's worked cross-check: 1.2375 V reads 8,110 against 2.5 V, 11,264 against 1.8 V and 11,585 against 1.75 V. -/
theorem test_hkcode_worked : (hkCode {} 0 1237500000 2500000000).1.1 = 8110 ∧ (hkCode {} 0 1237500000 1800000000).1.1 = 11264 ∧
    (hkCode {} 0 1237500000 1750000000).1.1 = 11585 := by decide
set_option maxRecDepth 20000 in
/-- R237's worked record header of CH020, event 1,000. -/
theorem test_record_header_worked :
    (Rec.bytes { kind := .accept, ch := 20, time := { ticks := some (19835733 * 1024 + 341), xing := some (0x1234, 0x100), event := 1000, epoch := 1 },
                 win := none, flags := 0, fmt := 2, samples := List.replicate 384 0, config := 0x1C200000, seq := 100000 } 2).take 40 =
      [0x4B, 0x5A, 0x21, 0x14, 0x00, 0x01, 0x86, 0xA0, 0x00, 0x03, 0xE8, 0x01, 0x00, 0x00, 0x12, 0x34, 0x01, 0x00, 0x00, 0x00,
       0x00, 0x00, 0x00, 0x00, 0x01, 0x2E, 0xAB, 0x55, 0x01, 0x55, 0x20, 0x00, 0x00, 0x00, 0x03, 0x00, 0x1C, 0x20, 0x00, 0x00] := by
  decide
/-- R174's worked write of CH_CHAIN_CTRL 0x00060180: DEC 0, RS_EN 1, RS_MODE 1, RS_K 24. -/
theorem test_chain_ctrl_worked : F.CH_CHAIN_CTRL.DEC.of 0x00060180 = 0 ∧ F.CH_CHAIN_CTRL.RS_EN.of 0x00060180 = 1 ∧
    F.CH_CHAIN_CTRL.RS_MODE.of 0x00060180 = 1 ∧ F.CH_CHAIN_CTRL.RS_K.of 0x00060180 = 24 := by decide
/-- R445's worked context: TIM_TIU_CFG3 0xC0100400. -/
theorem test_tiu_cfg_worked : F.TIM_TIU_CFG.EN.of 0xC0100400 = 1 ∧ F.TIM_TIU_CFG.MODE.of 0xC0100400 = 1 := by decide
/-- R478's worked channel: SNS_CFG7 0x83010064 has CURVE 1. -/
theorem test_sns_cfg_worked : F.SNS_CFG.EN.of 0x83010064 = 1 ∧ F.SNS_CFG.CURVE.of 0x83010064 = 1 := by decide

/-! ### One step -/

/-- A NOP of an open session is answered OK, with its sequence number and tag. -/
theorem test_nop_answered : ∃ n, step { wSt (wKz .ready) with pending := [.nop ⟨2000000, 6000000000⟩ ⟨0, .ipv4, 7, 0x32, 1, 5, 9⟩] } = .next n ∧ n.pending = [] ∧
    n.kz.wire.head? = some (.response 0 ⟨⟨.ipv4, 0x4B5A⟩, 0x32, 1⟩ 5 9 1 .ok [] false) :=
  ⟨_, rfl, by decide⟩
/-- A port with no session refuses it, and counts. -/
theorem test_nop_no_session : ∃ n, exec (.nop ⟨2000000, 6000000000⟩ ⟨1, .ipv4, 7, 0x32, 1, 5, 9⟩) (wSt (wKz .ready)) = .next n ∧ n.kz.counter .HOST_REJECT 1 = 1 ∧
    n.kz.wire.head? = some (.rejection 1 ⟨⟨.ipv4, 0x4B5A⟩, 0x32, 1⟩ 5 9 1 .noSession) :=
  ⟨_, rfl, by decide⟩
/-- Lost light on a port is seen, once. -/
theorem test_link_loss : ∃ n, exec (.hostLinkLoss ⟨2000000, 6000000000⟩ 0) (wSt (wKz .ready)) = .next n ∧ (n.kz.port 0).link = false ∧
    n.kz.seen F.HOST_PORT_STAT.LINK_DOWN_SEEN 0 = 1 :=
  ⟨_, rfl, by decide⟩
/-- The block idles on an empty queue, and no word spells a command. -/
theorem test_idle : step State.reset = .next State.reset ∧ State.reset.withFetchWord 16 7 = State.reset :=
  ⟨rfl, rfl⟩

/-! ### Well-formed and ill-formed commands -/

/-- A command of each kind that WellFormed checks, well formed. -/
theorem test_wf : (Instr.regRead ⟨0, 0⟩ ⟨0, .ipv4, 7, 0x32, 1, 5, 9⟩ [0x408]).wf = true ∧ (Instr.accept ⟨5, 0⟩ ⟨5 * 1024, 1, false, 0, 0, none, none⟩).wf = true ∧
    (Instr.calPassDone ⟨0, 0⟩ 3 (List.replicate 16 (List.replicate 6 [0]))).wf = true ∧ (Instr.unknownCommand ⟨0, 0⟩ ⟨0, .ipv4, 7, 0x32, 1, 5, 9⟩ 0x99 []).wf = true := by decide
set_option maxRecDepth 20000 in
/-- An ill-formed command for each check, refused. -/
theorem test_ill_formed : ∀ c ∈ ([
    .regRead ⟨0, 0⟩ ⟨0, .ipv4, 7, 0x32, 1, 5, 9⟩ (List.replicate 303 0), .regWrite ⟨0, 0⟩ ⟨0, .ipv4, 7, 0x32, 1, 5, 9⟩ (List.replicate 152 (0, 0)),
    .stageWrite ⟨0, 0⟩ ⟨0, .ipv4, 7, 0x32, 1, 5, 9⟩ 0 (List.replicate 1209 0), .attest ⟨0, 0⟩ ⟨0, .ipv4, 7, 0x32, 1, 5, 9⟩ [1] 0 0,
    .fwChunkFirmware ⟨0, 0⟩ ⟨0, .ipv4, 7, 0x32, 1, 5, 9⟩ 0 8 [1], .fwChunkConfiguration ⟨0, 0⟩ ⟨0, .ipv4, 7, 0x32, 1, 5, 9⟩ 0 0 (List.replicate 1205 0),
    .fwChunkActivate ⟨0, 0⟩ ⟨0, .ipv4, 7, 0x32, 1, 5, 9⟩ 0 true (List.replicate 1205 0), .unknownCommand ⟨0, 0⟩ ⟨0, .ipv4, 7, 0x32, 1, 5, 9⟩ 0x10 [],
    .unknownCommand ⟨0, 0⟩ ⟨0, .ipv4, 7, 0x32, 1, 5, 9⟩ 0x99 (List.replicate 1213 0), .idle ⟨5, 0⟩ ⟨6 * 1024, 1, false, 0, 0, none, none⟩,
    .idle ⟨5, 0⟩ ⟨0, 0, false, 0, 0, none, none⟩, .fixedLaneSend ⟨0, 0⟩ [⟨0, List.replicate 17 0, []⟩], .fixedLaneSend ⟨0, 0⟩ [⟨0, [], [0]⟩],
    .xtrigEdge ⟨5, 0⟩ 0 false (6 * 1024), .shadowWindowClose ⟨0, 0⟩ 0 1 2 0, .calPassDone ⟨0, 0⟩ 3 [[]],
    .calPassDone ⟨0, 0⟩ 3 (List.replicate 17 (List.replicate 6 [])), .bootSlotVerified ⟨0, 0⟩ 0 ⟨true, 0, 65, false, 0⟩ ⟨[], []⟩,
    .bootReachStandby ⟨0, 0⟩ (List.replicate 5 ⟨0, 0, 0⟩) ⟨true, 0, 0, false, 0⟩, .bootReachStandby ⟨0, 0⟩ [] ⟨true, 0, 65, false, 0⟩,
    .ageDaily ⟨0, 0⟩ (0, 0) (List.replicate 13 (0, 0)) none] : List Instr), c.wf = false := by decide

/-! ### Witnesses of the statements' hypotheses -/

/-- Witness of the hypotheses of SynthesiserOvenAndTimingInputs. -/
theorem witness_SynthesiserOvenAndTimingInputs :
  (∃ (s : State) (t : Stamp) (m : Kz), s.kz.advance t = m ∧ m.tb.tb = .switching) ∧
  (∃ (s : State) (t : Stamp) (m : Kz) (hz : _), s.kz.advance t = m ∧ tmode m = 2 ∧ m.tb.tb = .tracking ∧ ((hz = 0 ∨
    m.tb.entryHz < (max hz m.tb.entryHz - min hz m.tb.entryHz) * 10000))) ∧
  (∃ (s : State) (t : Stamp) (m : Kz) (hz : Nat), s.kz.advance t = m ∧ m.tb.tb = .holdover ∧ tmode m = 2 ∧ refInRange { m with
      tb := { m.tb with refHz := hz } } hz = true) ∧
  (∃ (s : State) (t : Stamp) (m : Kz) (since : Nat), s.kz.advance t = m ∧ m.tb.tb = .relock ∧ slewEnd m ≤ since ∧ since +
    1000000 ≤ m.now.ns ∧ tmode m ≠ 1) ∧
  (∃ (s : State) (t : Stamp) (m : Kz) (since : Nat), s.kz.advance t = m ∧ m.tb.tb = .relock ∧ slewEnd m ≤ since ∧ since +
    1000000 ≤ m.now.ns ∧ tmode m = 1 ∧ mclkLost m = false) ∧
  (∃ (s : State) (t : Stamp) (m : Kz) (e : Int), s.kz.advance t = m ∧ m.tb.xingVirtual = true ∧ mclkLost m = false ∧ tmode m
    ≠ 1 ∧ m.tl.slewErr = some e ∧ e.natAbs ≤ 256) ∧
  (∃ (s : State) (t : Stamp) (m : Kz), s.kz.advance t = m ∧ m.tb.xingVirtual = true ∧ mclkLost m = false ∧ tmode m = 1 ∧
    m.tb.tb = .relock ∧ slewEnd m ≤ m.now.ns) ∧
  (∃ (s : State) (t : Stamp) (m : Kz), s.kz.advance t = m ∧ m.tb.tb ≠ .switching ∧ m.tb.synLocked = true) ∧
  (∃ (s : State) (t : Stamp) (m : Kz), s.kz.advance t = m ∧ m.tb.tb ≠ .switching) ∧
  (∃ (s : State) (t : Stamp) (m : Kz) (err : Int), s.kz.advance t = m ∧ m.tb.oven ≠ .warm ∧ err.natAbs ≤ 10) ∧
  (∃ (s : State) (t : Stamp) (m : Kz) (mw : BitVec 16) (err : Int), s.kz.advance t = m ∧ m.tb.oven = .warm ∧ mw = 0 ∧ 10 <
    err) ∧
  (∃ (s : State) (t : Stamp) (m : Kz) (err : Int), s.kz.advance t = m ∧ m.tb.oven = .warm ∧ 10 < err.natAbs) ∧
  (∃ (s : State) (t : Stamp) (m : Kz) (err : Int), s.kz.advance t = m ∧ m.tb.oven = .warming ∧ 100 < err.natAbs) ∧
  (∃ (s : State) (t : Stamp) (m : Kz) (i : Fin 2), s.kz.advance t = m ∧ (tin m i.val).state = .down ∧ tinEnabled m i.val =
    true ∧ m.pwr.pg = true) ∧
  (∃ (s : State) (t : Stamp) (m : Kz) (i : Fin 2), s.kz.advance t = m ∧ (tin m i.val).state = .hunt ∧ mclkLost m = false) ∧
  (∃ (s : State) (t : Stamp) (m : Kz) (i : Fin 2), s.kz.advance t = m ∧ (tin m i.val).state = .hunt ∧ mclkLost m = true) ∧
  (∃ (s : State) (t : Stamp) (m : Kz) (i : Fin 2), s.kz.advance t = m ∧ (tin m i.val).state = .locked ∧ m.tl.active = i.val
    ∧ (tin m (1 - i.val)).state = .locked) ∧
  (∃ (s : State) (t : Stamp) (m : Kz) (i : Fin 2), s.kz.advance t = m ∧ (tin m i.val).state = .locked ∧ (tin m (1 -
    i.val)).state ≠ .locked) ∧
  (∃ (s : State) (t : Stamp) (m : Kz), s.kz.advance t = m ∧ m.on F.TIM_TL_CFG.REVERT 0 = true ∧ m.tl.active = 1 ∧
    m.tl.tin0.state = .locked ∧ m.tl.tin0.since + 1000000000 ≤ m.now.ns) :=
  ⟨
    ⟨wTb (fun b => { b with tb := .switching }), ⟨2000000, 6000000000⟩, _, rfl, by decide⟩,
    ⟨wSt (((wKz .ready).modTb (fun b => { b with tb := .tracking, entryHz := 100000000 })).setFld F.TIM_MODE.MODE 0 2),
    ⟨2000000, 6000000000⟩, _, 100010001, rfl, by decide⟩,
    ⟨wSt ((((wKz .ready).modTb (fun b => { b with tb := .holdover, entryHz := 100000000, holdPhase := 4 })).setFld
    F.TIM_MODE.MODE 0 2).setFld F.TIM_MODE.EXT_N 0 100), ⟨2000000, 6000000000⟩, _, 100010000, rfl, by decide⟩,
    ⟨wTb (fun b => { b with tb := .relock, holdStart := 700, origin := 200 }), ⟨2000000, 6000000000⟩, _, 5000000000, rfl, by
    decide⟩,
    ⟨wSt (((wKz .ready).modTb (fun b => { b with tb := .relock, holdStart := 700, origin := 200, xingVirtual := true })).setFld
    F.TIM_MODE.MODE 0 1 |>.modTl (fun l => { l with tin0 := ⟨.locked, 0⟩ })), ⟨2000000, 6000000000⟩, _, 5000000000, rfl, by
    decide⟩,
    ⟨wSt (((wKz .ready).modTb (fun b => { b with xingVirtual := true })).modTl (fun l => { l with
      tin1 := ⟨.locked, 0⟩,
      slewErr := some (-256) })), ⟨2000000, 6000000000⟩, _, (-256 : Int), rfl, by decide⟩,
    ⟨wSt (((wKz .ready).modTb (fun b => { b with tb := .relock, xingVirtual := true })).setFld F.TIM_MODE.MODE 0 1 |>.modTl
    (fun l => { l with tin0 := ⟨.locked, 0⟩ })), ⟨2000000, 6000000000⟩, _, rfl, by decide⟩,
    ⟨wTb (fun b => { b with tb := .holdover, synLocked := true }), ⟨2000000, 6000000000⟩, _, rfl, by decide⟩,
    ⟨wTb (fun b => { b with tb := .relock }), ⟨2000000, 6000000000⟩, _, rfl, by decide⟩,
    ⟨wTb id, ⟨2000000, 6000000000⟩, _, (-10 : Int), rfl, by decide⟩,
    ⟨wTb (fun b => { b with oven := .warm }), ⟨2000000, 6000000000⟩, _, 0#16, (11 : Int), rfl, by decide⟩,
    ⟨wTb (fun b => { b with oven := .warm }), ⟨2000000, 6000000000⟩, _, (-11 : Int), rfl, by decide⟩,
    ⟨wTb id, ⟨2000000, 6000000000⟩, _, (-101 : Int), rfl, by decide⟩,
    ⟨wTb id, ⟨2000000, 6000000000⟩, _, 0, rfl, by decide⟩,
    ⟨wSt ((wKz .ready).modTl (fun l => { l with tin0 := ⟨.locked, 0⟩, tin1 := ⟨.hunt, 0⟩ })), ⟨2000000, 6000000000⟩, _, 1,
    rfl, by decide⟩,
    ⟨wSt ((wKz .ready).modTl (fun l => { l with tin1 := ⟨.hunt, 0⟩ })), ⟨2000000, 6000000000⟩, _, 1, rfl, by decide⟩,
    ⟨wSt ((wKz .ready).modTl (fun l => { l with tin0 := ⟨.locked, 0⟩, tin1 := ⟨.locked, 0⟩ })), ⟨2000000, 6000000000⟩, _, 0,
    rfl, by decide⟩,
    ⟨wSt (((wKz .ready).modTl (fun l => { l with
      tin0 := ⟨.locked, 0⟩,
      edges := [⟨41, 2047000000, 300000, 3563, 8, false, false, false⟩] })).setFld F.TIM_MODE.MODE 0 1 |>.modTb (fun b => { b with
      tb := .tracking })), ⟨2000000, 6000000000⟩, _, 0, rfl, by decide⟩,
    ⟨wSt (((wKz .ready).modTl (fun l => { l with active := 1, tin0 := ⟨.locked, 5000000000⟩ })).setFld F.TIM_TL_CFG.REVERT 0
    1), ⟨2000000, 6000000000⟩, _, rfl, by decide⟩⟩

/-- Witness of the hypotheses of EpochsLatchesAndTimeWrites. -/
theorem witness_EpochsLatchesAndTimeWrites :
  (∃ (s : State) (t : Stamp) (m : Kz) (e : _), s.kz.advance t = m ∧ m.tb.pendingEpoch = some e ∧ e.origin ≤ m.now.tick) ∧
  (∃ (s : State) (t : Stamp) (m : Kz) (p : Port) (v : _), s.kz.advance t = m ∧ Accepts m p .TIM_EPOCH_STAT 0 v ∧
    F.TIM_EPOCH_STAT.HOST_EPOCH.of v = 1 ∧ epochTooSoon m = false) ∧
  (∃ (s : State) (t : Stamp) (m : Kz) (p : Port) (v : _), s.kz.advance t = m ∧ Accepts m p .TIM_EPOCH_STAT 0 v ∧
    F.TIM_EPOCH_STAT.HOST_EPOCH.of v = 1 ∧ epochTooSoon m = true) ∧
  (∃ (s : State) (t : Stamp) (m : Kz), s.kz.advance t = m ∧ mclkLost m = false ∧ m.tl.edges ≠ []) ∧
  (∃ (s : State) (t : Stamp) (m : Kz) (p : Port), s.kz.advance t = m ∧ Reaches m p .TIM_DATUM_LO 0) ∧
  (∃ (s : State) (t : Stamp) (m : Kz) (p : Port), s.kz.advance t = m ∧ Reaches m p .TIM_TL_XING 0) ∧
  (∃ (s : State) (t : Stamp) (m : Kz) (p : Port) (v : Word) (hz : _), s.kz.advance t = m ∧ Accepts { m with
      tb := { m.tb with refHz := hz } } p .TIM_MODE 0 v ∧ modeChange (m.cfgWord .TIM_MODE 0) v = true) ∧
  (∃ (s : State) (t : Stamp) (m : Kz) (p : Port) (v : Word), s.kz.advance t = m ∧ Accepts m p .TIM_OVEN 0 v ∧ m.tb.oven =
    .warm ∧ F.TIM_OVEN.SETPOINT.of (m.cfgWord .TIM_OVEN 0) ≠ F.TIM_OVEN.SETPOINT.of v) ∧
  (∃ (s : State) (t : Stamp) (m : Kz) (p : Port) (v : Word), s.kz.advance t = m ∧ Accepts m p .TIM_HEARTH_TRIM 0 v) ∧
  (∃ (s : State) (t : Stamp) (m : Kz) (p : Port) (v : Word), s.kz.advance t = m ∧ Accepts m p .TIM_TL_CFG 0 v ∧
    F.TIM_TL_CFG.TIN0_EN.of v = 1 ∧ F.TIM_TL_CFG.TIN1_EN.of v = 1) :=
  ⟨
    ⟨wTb (fun b => { b with pendingEpoch := some ⟨1999990, true, 3, 4⟩, epochSeq := 255, origin := 8 }), ⟨2000000,
    6000000000⟩, _, ⟨1999990, true, 3, 4⟩, rfl, by decide⟩,
    ⟨wTb id, ⟨2000000, 6000000000⟩, _, 0, BitVec.ofNat 32 (F.TIM_EPOCH_STAT.HOST_EPOCH.put 1), rfl, by decide⟩,
    ⟨wTb (fun b => { b with lastEpoch := some 1 }), ⟨2000000, 6000000000⟩, _, 0, BitVec.ofNat 32
    (F.TIM_EPOCH_STAT.HOST_EPOCH.put 1), rfl, by decide⟩,
    ⟨wSt ((wKz .ready).modTl (fun l => { l with tin0 := ⟨.locked, 0⟩, edges := [⟨0, 1, 2, 3, 4, false, false, false⟩] })),
    ⟨2000000, 6000000000⟩, _, rfl, by decide⟩,
    ⟨wTb (fun b => { b with origin := 77 }), ⟨2000000, 6000000000⟩, _, 0, rfl, by decide⟩,
    ⟨wSt ((wKz .ready).modTl (fun l => { l with bcn := 5, orbit := 9 })), ⟨2000000, 6000000000⟩, _, 0, rfl, by decide⟩,
    ⟨wTb (fun b => { b with tb := .tracking, synLocked := true }), ⟨2000000, 6000000000⟩, _, 0, BitVec.ofNat 32
    (F.TIM_MODE.MODE.put 2 ||| F.TIM_MODE.EXT_N.put 104), 100000000, rfl, by decide⟩,
    ⟨wTb (fun b => { b with oven := .warm }), ⟨2000000, 6000000000⟩, _, 0, 2#32, rfl, by decide⟩,
    ⟨wTb id, ⟨2000000, 6000000000⟩, _, 0, 0xFFFF00#32, rfl, by decide⟩,
    ⟨wSt ((wKz .ready).modTl (fun l => { l with ref := some 4 })), ⟨2000000, 6000000000⟩, _, 0, BitVec.ofNat 32
    (F.TIM_TL_CFG.TIN0_EN.put 1 ||| F.TIM_TL_CFG.TIN1_EN.put 1), rfl, by decide⟩⟩

/-- Witness of the hypotheses of CrossingsAndCommands. -/
theorem witness_CrossingsAndCommands :
  (∃ (s : State) (t : Stamp) (m : Kz) (f : Frame), s.kz.advance t = m ∧ GoodFrame m f 0) ∧
  (∃ (s : State) (t : Stamp) (m : Kz) (f : Frame), s.kz.advance t = m ∧ GoodFrame m f 2) ∧
  (∃ (s : State) (t : Stamp) (m : Kz) (f : Frame), s.kz.advance t = m ∧ GoodFrame m f 4) ∧
  (∃ (s : State) (t : Stamp) (m : Kz) (f : Frame), s.kz.advance t = m ∧ GoodFrame m f 5) ∧
  (∃ (s : State) (t : Stamp) (m : Kz) (f : Frame), s.kz.advance t = m ∧ GoodFrame m f 6) ∧
  (∃ (s : State) (t : Stamp) (m : Kz) (f : Frame), s.kz.advance t = m ∧ GoodFrame m f 7) ∧
  (∃ (s : State) (t : Stamp) (m : Kz) (f : Frame) (u : Fin 16), s.kz.advance t = m ∧ GoodFrame m f (16 + u.val)) ∧
  (∃ (s : State) (t : Stamp) (m : Kz) (f : Frame) (code : Byte), s.kz.advance t = m ∧ reservedCode code.toNat = true ∧
    GoodFrame m f code.toNat ∧ f.mark = false) ∧
  (∃ (s : State) (t : Stamp) (m : Kz) (f : Frame), s.kz.advance t = m ∧ edgeOk m f = true) ∧
  (∃ (s : State) (t : Stamp) (m : Kz) (f : Frame), s.kz.advance t = m ∧ edgeOk m f = true ∧ powered m.pwr.state = true) ∧
  (∃ (s : State) (t : Stamp) (m : Kz) (e : Edge), s.kz.advance t = m ∧ m.tl.edges.head? = some e ∧ mclkLost m = true ∧ e.at_
    + e.period ≤ m.inst) ∧
  (∃ (s : State) (t : Stamp) (m : Kz) (f : Frame), s.kz.advance t = m ∧ GoodFrame m f 1 ∧ m.on F.TIM_TL_CFG.PROTO 0 = false) ∧
  (∃ (s : State) (t : Stamp) (m : Kz) (f : Frame) (r : Nat), s.kz.advance t = m ∧ GoodFrame m f 1 ∧ m.on F.TIM_TL_CFG.PROTO
    0 = true ∧ m.tl.ref = some r ∧ (f.data.toNat + 511 - r) % 256 ≤ 127) ∧
  (∃ (s : State) (t : Stamp) (m : Kz) (f : Frame), s.kz.advance t = m ∧ GoodFrame m f 3 ∧ epochTooSoon m = false) ∧
  (∃ (s : State) (t : Stamp) (m : Kz) (f : Frame), s.kz.advance t = m ∧ GoodFrame m f 3 ∧ epochTooSoon m = true) :=
  ⟨
    ⟨wSt ((wKz .ready).modTl (fun l => { l with
      tin0 := ⟨.locked, 0⟩,
      edges := [⟨41, 2047000000, 300000, 3563, 8, false, false, false⟩] })), ⟨2000000, 6000000000⟩, _, ⟨2047300000, 300001,
    true, 0, 43, none, none⟩, rfl, by decide⟩,
    ⟨wSt ((wKz .ready).modTl (fun l => { l with
      tin0 := ⟨.locked, 0⟩,
      edges := [⟨41, 2047000000, 300000, 3563, 8, false, false, false⟩] })), ⟨2000000, 6000000000⟩, _, ⟨2047300000, 300001,
    false, 5, 188, none, none⟩, rfl, by decide⟩,
    ⟨wSt ((wKz .ready).modTl (fun l => { l with
      tin0 := ⟨.locked, 0⟩,
      edges := [⟨41, 2047000000, 300000, 3563, 8, false, false, false⟩] })), ⟨2000000, 6000000000⟩, _, ⟨2047300000, 300001,
    false, 5, 75, none, none⟩, rfl, by decide⟩,
    ⟨wSt ((wKz .ready).modTl (fun l => { l with
      tin0 := ⟨.locked, 0⟩,
      edges := [⟨41, 2047000000, 300000, 3563, 8, false, false, false⟩] })), ⟨2000000, 6000000000⟩, _, ⟨2047300000, 300001,
    false, 170, 251, none, none⟩, rfl, by decide⟩,
    ⟨wSt ((wKz .ready).modTl (fun l => { l with
      tin0 := ⟨.locked, 0⟩,
      edges := [⟨41, 2047000000, 300000, 3563, 8, false, false, false⟩] })), ⟨2000000, 6000000000⟩, _, ⟨2047300000, 300001,
    false, 1, 201, none, none⟩, rfl, by decide⟩,
    ⟨wSt ((wKz .ready).modTl (fun l => { l with
      tin0 := ⟨.locked, 0⟩,
      edges := [⟨41, 2047000000, 300000, 3563, 8, false, false, false⟩] })), ⟨2000000, 6000000000⟩, _, ⟨2047300000, 300001,
    false, 1, 162, none, none⟩, rfl, by decide⟩,
    ⟨wSt ((wKz .ready).modTl (fun l => { l with
      tin0 := ⟨.locked, 0⟩,
      edges := [⟨41, 2047000000, 300000, 3563, 8, false, false, false⟩] })), ⟨2000000, 6000000000⟩, _, ⟨2047300000, 300001,
    false, 77, 246, none, none⟩, 15, rfl, by decide⟩,
    ⟨wSt ((wKz .ready).modTl (fun l => { l with
      tin0 := ⟨.locked, 0⟩,
      edges := [⟨41, 2047000000, 300000, 3563, 8, false, false, false⟩] })), ⟨2000000, 6000000000⟩, _, ⟨2047300000, 300001,
    false, 77, 80, none, none⟩, 0x20, rfl, by decide⟩,
    ⟨wSt ((wKz .ready).modTl (fun l => { l with
      tin0 := ⟨.locked, 0⟩,
      edges := [⟨41, 2047000000, 300000, 3563, 8, false, false, false⟩] })), ⟨2000000, 6000000000⟩, _, ⟨2047300000, 300001,
    false, 77, 19, none, none⟩, rfl, by decide⟩,
    ⟨wSt ((wKz .ready).modTl (fun l => { l with
      tin0 := ⟨.locked, 0⟩,
      edges := [⟨41, 2047000000, 300000, 3563, 8, false, false, false⟩] })), ⟨2000000, 6000000000⟩, _, ⟨2047300000, 300001,
    false, 77, 19, none, none⟩, rfl, by decide⟩,
    ⟨wSt ((wKz .ready).modTl (fun l => { l with edges := [⟨41, 2047000000, 300000, 65535, 8, true, false, false⟩] })),
    ⟨2000000, 6000000000⟩, _, ⟨41, 2047000000, 300000, 65535, 8, true, false, false⟩, rfl, by decide⟩,
    ⟨wSt (((wKz .ready).modTl (fun l => { l with
      tin0 := ⟨.locked, 0⟩,
      edges := [⟨41, 2047000000, 300000, 3563, 8, false, false, false⟩] })).modHub (fun h => { h with
      eventNext := 16777215 }) |>.setFld F.TIM_TL_CFG.PROTO 0 0), ⟨2000000, 6000000000⟩, _, ⟨2047300000, 300001, false, 9,
    119, none, none⟩, rfl, by decide⟩,
    ⟨wSt (((wKz .ready).modTl (fun l => { l with
      ref := some 250,
      tin0 := ⟨.locked, 0⟩,
      edges := [⟨41, 2047000000, 300000, 3563, 8, false, false, false⟩] })).modHub (fun h => { h with
      eventNext := 16777214 }) |>.setFld F.TIM_TL_CFG.PROTO 0 1), ⟨2000000, 6000000000⟩, _, ⟨2047300000, 300001, false, 4,
    158, none, none⟩, 250, rfl, by decide⟩,
    ⟨wSt ((wKz .ready).modTl (fun l => { l with
      tin0 := ⟨.locked, 0⟩,
      edges := [⟨41, 2047000000, 300000, 3563, 8, false, false, false⟩] })), ⟨2000000, 6000000000⟩, _, ⟨2047300000, 300001,
    false, 0, 28, none, none⟩, rfl, by decide⟩,
    ⟨wSt (((wKz .ready).modTl (fun l => { l with
      tin0 := ⟨.locked, 0⟩,
      edges := [⟨41, 2047000000, 300000, 3563, 8, false, false, false⟩] })).modTb (fun b => { b with lastEpoch := some 0 })),
    ⟨2000000, 6000000000⟩, _, ⟨2047300000, 300001, false, 0, 28, none, none⟩, rfl, by decide⟩⟩

/-- Witness of the hypotheses of FixedLane. -/
theorem witness_FixedLane :
  (∃ (s : State) (t : Stamp) (m : Kz), s.kz.advance t = m ∧ powered m.pwr.state = true ∧ m.hub.lastSend.any (fun l => decide
    (m.fabric ≤ l)) = false) ∧
  (∃ (s : State) (t : Stamp) (m : Kz), s.kz.advance t = m ∧ powered m.pwr.state = true ∧ m.hub.lastSend.any (fun l => decide
    (m.fabric ≤ l)) = false ∧ (∀ k : Nat, k < 12 → (m.rgn k).acc.cuts = [])) ∧
  (∃ (s : State) (t : Stamp) (m : Kz) (k : Rgn) (e : InEntry), s.kz.advance t = m ∧ Quiet m ∧ m.rstate k.val ≠ .down ∧
    (m.rgn k.val).lane.inQ.find? (fun x => x.arrived.isNone) = some e ∧ m.fabric ≤ e.stamp + 22 ∧ ((m.rgn
    k.val).lane.inQ.filter (fun x => x.arrived.isSome)).length < 32 ∧ e.boundary = false ∧ (m.rgn k.val).lane.badFrom = none) ∧
  (∃ (s : State) (t : Stamp) (m : Kz) (k : Rgn) (e : OutEntry), s.kz.advance t = m ∧ Quiet m ∧ m.rstate k.val ≠ .down ∧
    (m.rgn k.val).lane.outQ.find? (fun x => x.arrived.isNone) = some e ∧ m.fabric ≤ e.stamp + 22 ∧ ((m.rgn
    k.val).lane.outQ.filter (fun x => x.arrived.isSome)).length < 32 ∧ (m.rgn k.val).err.restarting = false ∧ e.old = false) ∧
  (∃ (s : State) (t : Stamp) (m : Kz) (k : Rgn) (ok : Bool) (e : InEntry), s.kz.advance t = m ∧ Quiet m ∧ m.rstate k.val ≠
    .down ∧ (m.rgn k.val).lane.inQ.find? (fun x => x.arrived.isNone) = some e ∧ m.fabric ≤ e.stamp + 22 ∧ (ok = false ∨ 32 ≤
    ((m.rgn k.val).lane.inQ.filter (fun x => x.arrived.isSome)).length)) ∧
  (∃ (s : State) (t : Stamp) (m : Kz) (k : Rgn) (ok : Bool) (e : OutEntry), s.kz.advance t = m ∧ Quiet m ∧ m.rstate k.val ≠
    .down ∧ (m.rgn k.val).lane.outQ.find? (fun x => x.arrived.isNone) = some e ∧ m.fabric ≤ e.stamp + 22 ∧ (ok = false ∨ 32
    ≤ ((m.rgn k.val).lane.outQ.filter (fun x => x.arrived.isSome)).length) ∧ (m.rgn k.val).err.restarting = false ∧ e.old =
    false ∧ (m.rgn k.val).lane.badOut + 1 < 32) ∧
  (∃ (s : State) (t : Stamp) (m : Kz) (k : Rgn) (e : InEntry), s.kz.advance t = m ∧ Quiet m ∧ m.rstate k.val ≠ .down ∧
    (m.rgn k.val).lane.inQ.find? (fun x => x.arrived.isNone) = some e ∧ e.stamp + 22 < m.fabric ∧ (m.rgn k.val).lane.badFrom
    = none) ∧
  (∃ (s : State) (t : Stamp) (m : Kz) (k : Rgn) (e : InEntry) (r : List InEntry) (a : Nat) (d : LaneCmd), s.kz.advance t = m
    ∧ Quiet m ∧ m.rstate k.val ≠ .down ∧ (m.rgn k.val).lane.inQ = e :: r ∧ e.arrived = some a ∧ (releaseAt e.stamp a).1 ≤
    m.fabric ∧ (m.rgn k.val).lane.earlyAt = none ∧ e.crcOk = true ∧ (m.rgn k.val).err.restarting = false ∧ e.cmd = some d ∧
    d.code = 5 ∧ e.xtrig = [] ∧ e.modPat = none ∧ e.boundary = false) ∧
  (∃ (s : State) (t : Stamp) (m : Kz) (k : Rgn) (e : InEntry) (r : List InEntry) (a : Nat), s.kz.advance t = m ∧ Quiet m ∧
    m.rstate k.val ≠ .down ∧ (m.rgn k.val).lane.inQ = e :: r ∧ e.arrived = some a ∧ (releaseAt e.stamp a).1 ≤ m.fabric ∧
    (m.rgn k.val).lane.earlyAt = none ∧ (e.crcOk = false ∨ (e.cmd = none ∧ e.xtrig = [] ∧ e.modPat = none ∧ e.boundary =
    false))) ∧
  (∃ (s : State) (t : Stamp) (m : Kz) (k : Rgn) (e : OutEntry) (r : List OutEntry) (a : Nat), s.kz.advance t = m ∧ Quiet m ∧
    m.rstate k.val ≠ .down ∧ (m.rgn k.val).lane.outQ = e :: r ∧ e.arrived = some a ∧ (releaseAt e.stamp a).1 ≤ m.fabric ∧
    e.crcOk = true ∧ e.old = false ∧ e.feats = [] ∧ (m.rgn k.val).err.restarting = false) ∧
  (∃ (s : State) (t : Stamp) (m : Kz) (k : Rgn), s.kz.advance t = m ∧ m.spanOpen (.skew k.val) = true ∧ (m.rgn
    k.val).lane.lowAt + 1000000 ≤ m.now.ns) ∧
  (∃ (s : State) (t : Stamp) (m : Kz) (k : Rgn) (p : Port) (v : Word), s.kz.advance t = m ∧ Accepts m p .RGN_XQ_STAT k.val v
    ∧ F.RGN_XQ_STAT.CLR.of v = 1) :=
  ⟨
    ⟨wSt (((wKz .ready).modPwr 3 (fun p => { p with state := .idle })).modHub (fun h => { h with
      out := { cmds := [(⟨5, 1, false, 3, 4, 5, 6⟩, none)], boundary := true } }) |> fun m => { m with
      stats := { m.stats with raised := [.host] } }), ⟨2000000, 6000000000⟩, _, rfl, by decide⟩,
    ⟨wSt (((wKz .ready).modPwr 3 (fun p => { p with state := .idle })).modHub (fun h => { h with
      out := { cmds := [(⟨5, 1, false, 3, 4, 5, 6⟩, none)], boundary := true } }) |> fun m => { m with
      stats := { m.stats with raised := [.host] } }), ⟨2000000, 6000000000⟩, _, rfl, by decide⟩,
    ⟨wSt (((wKz .ready).modPwr 3 (fun p => { p with state := .idle })).modLane 3 (fun l => { l with
      inQ := [{ stamp := 124978, cmdCount := 3 }] })), ⟨2000000, 6000000000⟩, _, 3, { stamp := 124978, cmdCount := 3 }, rfl,
    by decide⟩,
    ⟨wSt (((wKz .ready).modPwr 3 (fun p => { p with state := .idle })).modLane 3 (fun l => { l with
      outQ := [{ stamp := 124979, departs := 3 }] })), ⟨2000000, 6000000000⟩, _, 3, { stamp := 124979, departs := 3 }, rfl,
    by decide⟩,
    ⟨wSt (((wKz .ready).modPwr 3 (fun p => { p with state := .idle })).modLane 3 (fun l => { l with
      inQ := [{ stamp := 124978, cmdCount := 3 }] })), ⟨2000000, 6000000000⟩, _, 3, false, {
      stamp := 124978,
      cmdCount := 3 }, rfl, by decide⟩,
    ⟨wSt (((wKz .ready).modPwr 3 (fun p => { p with state := .idle })).modLane 3 (fun l => { l with
      outQ := [{ stamp := 124979, departs := 3 }],
      badOut := 30 })), ⟨2000000, 6000000000⟩, _, 3, false, { stamp := 124979, departs := 3 }, rfl, by decide⟩,
    ⟨wSt (((wKz .ready).modPwr 3 (fun p => { p with state := .idle })).modLane 3 (fun l => { l with
      inQ := [{ stamp := 124977, cmdCount := 3 }] })), ⟨2000000, 6000000000⟩, _, 3, { stamp := 124977, cmdCount := 3 }, rfl,
    by decide⟩,
    ⟨wSt (((wKz .ready).modPwr 3 (fun p => { p with state := .idle })).modLane 3 (fun l => { l with
      inQ := [{ stamp := 124900, arrived := some 124999, cmd := some ⟨5, 9, false, 1990000000, 7, 8, 9⟩ }] }) |>.setFld
    F.CH_INJ_CTRL.EN 50 1 |>.setFld F.CH_INJ_CTRL.MATCH_ALL 50 1), ⟨2000000, 6000000000⟩, _, 3, {
      stamp := 124900,
      arrived := some 124999,
      cmd := some ⟨5, 9, false, 1990000000, 7, 8, 9⟩ }, [], 124999, ⟨5, 9, false, 1990000000, 7, 8, 9⟩, rfl, by decide⟩,
    ⟨wSt (((wKz .ready).modPwr 3 (fun p => { p with state := .idle })).modLane 3 (fun l => { l with
      inQ := [{ stamp := 124900, arrived := some 124999 }] })), ⟨2000000, 6000000000⟩, _, 3, {
      stamp := 124900,
      arrived := some 124999 }, [], 124999, rfl, by decide⟩,
    ⟨wSt (((wKz .ready).modPwr 3 (fun p => { p with state := .idle })).modLane 3 (fun l => { l with
      outQ := [{ stamp := 124976, arrived := some 124999, pattern := true, fire := some 77 }] })), ⟨2000000, 6000000000⟩, _,
    3, { stamp := 124976, arrived := some 124999, pattern := true, fire := some 77 }, [], 124999, rfl, by decide⟩,
    ⟨wSt (((wKz .ready).modPwr 3 (fun p => { p with state := .idle }) |>.openSpan (.skew 3)).modLane 3 (fun l => { l with
      skewIn := true,
      lowAt := 5000000000 }) |>.openSpan (.skew 3)), ⟨2000000, 6000000000⟩, _, 3, rfl, by decide⟩,
    ⟨wSt (((wKz .ready).modPwr 3 (fun p => { p with state := .idle })).modLane 3 (fun l => { l with minIn := 3 })),
    ⟨2000000, 6000000000⟩, _, 3, 0, BitVec.ofNat 32 (F.RGN_XQ_STAT.CLR.put 1), rfl, by decide⟩⟩

/-- Witness of the hypotheses of RotationSteps. -/
theorem witness_RotationSteps :
  (∃ (s : State) (t : Stamp) (m : Kz) (c : Chan) (sl : Slice) (coef : List Int) (rms : Nat), s.kz.advance t = m ∧ (m.chan
    c.val).conv.rot = .calSpare ∧ (m.chan c.val).conv.spare = sl.val ∧ retired m c.val sl.val = false ∧ (m.chan
    c.val).conv.suspect.testBit sl.val = false ∧ (m.chan c.val).conv.stuck = [] ∧ calPasses coef rms = true ∧ Sparse.get 0
    (m.chan c.val).conv.calFrom sl.val + calNs ≤ m.now.ns) ∧
  (∃ (s : State) (t : Stamp) (m : Kz) (c : Chan) (sl : Slice) (coef : List Int) (rms : Nat), s.kz.advance t = m ∧ (m.chan
    c.val).conv.rot = .calSpare ∧ (m.chan c.val).conv.spare = sl.val ∧ retired m c.val sl.val = false ∧ calPasses coef rms =
    false ∧ Sparse.get 0 (m.chan c.val).conv.calFrom sl.val + calNs ≤ m.now.ns ∧ (m.chan c.val).conv.attempts.getD sl.val 0
    + 1 < calRetry m c.val) ∧
  (∃ (s : State) (t : Stamp) (m : Kz) (c : Chan) (sl : Slice) (coef : List Int) (rms : Nat), s.kz.advance t = m ∧ inPass m
    (c.val / 16) = true ∧ (m.chan c.val).conv.rot ≠ .calSpare ∧ (m.chan c.val).conv.calDone.testBit sl.val = false ∧ retired
    m c.val sl.val = false ∧ (m.chan c.val).conv.suspect.testBit sl.val = false ∧ calPasses coef rms = true ∧ Sparse.get 0
    (m.chan c.val).conv.calFrom sl.val + calNs ≤ m.now.ns) ∧
  (∃ (s : State) (t : Stamp) (m : Kz) (c : Chan) (pairs : Nat) (disagree : Nat) (sum : Int) (q : Pairs), s.kz.advance t = m
    ∧ (m.chan c.val).conv.rot = .shadow ∧ (q = (if 65536 ≤ (m.chan c.val).conv.pairs.count then (m.chan c.val).conv.pairs
    else { count := pairs, disagree := disagree, sum := sum })) ∧ 65536 ≤ q.count ∧ windowPasses m c.val q = true ∧ (m.chan
    c.val).conv.expired = true ∧ (m.chan c.val).conv.timerFrom.isSome = true) ∧
  (∃ (s : State) (t : Stamp) (m : Kz) (c : Chan) (pairs : Nat) (disagree : Nat) (sum : Int) (q : Pairs), s.kz.advance t = m
    ∧ (m.chan c.val).conv.rot = .shadow ∧ (q = (if 65536 ≤ (m.chan c.val).conv.pairs.count then (m.chan c.val).conv.pairs
    else { count := pairs, disagree := disagree, sum := sum })) ∧ 65536 ≤ q.count ∧ windowPasses m c.val q = false ∧ (m.chan
    c.val).conv.recal = false) ∧
  (∃ (s : State) (t : Stamp) (m : Kz) (c : Chan) (pairs : Nat) (disagree : Nat) (sum : Int) (q : Pairs) (tgt : Nat),
    s.kz.advance t = m ∧ (m.chan c.val).conv.rot = .shadow ∧ (q = (if 65536 ≤ (m.chan c.val).conv.pairs.count then (m.chan
    c.val).conv.pairs else { count := pairs, disagree := disagree, sum := sum })) ∧ 65536 ≤ q.count ∧ windowPasses m c.val q
    = false ∧ (m.chan c.val).conv.recal = true ∧ tgt = (m.chan c.val).conv.pos.getD (m.chan c.val).conv.target 15 ∧ tgt < 9
    ∧ slicesOf (m.chan c.val).conv.effMode ≠ 1) ∧
  (∃ (s : State) (t : Stamp) (m : Kz) (c : Chan) (pairs : Nat) (disagree : Nat) (sum : Int) (q : Pairs) (tgt : Nat),
    s.kz.advance t = m ∧ (m.chan c.val).conv.rot = .checkShadow ∧ (q = (if 65536 ≤ (m.chan c.val).conv.pairs.count then
    (m.chan c.val).conv.pairs else { count := pairs, disagree := disagree, sum := sum })) ∧ 65536 ≤ q.count ∧ windowPasses m
    c.val q = false ∧ tgt = (m.chan c.val).conv.pos.getD (m.chan c.val).conv.target 15 ∧ tgt < 9 ∧ (m.chan c.val).conv.spare
    < 9 ∧ m.inRun (c.val / 16) = true) ∧
  (∃ (s : State) (t : Stamp) (m : Kz) (c : Chan), s.kz.advance t = m ∧ ((m.chan c.val).conv.rot = .shadow ∨ (m.chan
    c.val).conv.rot = .checkShadow) ∧ (m.chan c.val).conv.windowFrom + 4 * (m.fld F.RGN_ROT_CTRL.STEP (c.val / 16) * 100000)
    ≤ m.now.ns) ∧
  (∃ (s : State) (t : Stamp) (m : Kz) (c : Chan) (f : _), s.kz.advance t = m ∧ (m.chan c.val).conv.timerFrom = some f ∧ f +
    m.fld F.RGN_ROT_CTRL.STEP (c.val / 16) * 100000 ≤ m.now.ns ∧ (m.chan c.val).conv.expired = false ∧ (m.chan
    c.val).conv.rot = .shadow ∧ (m.chan c.val).conv.passed = true) ∧
  (∃ (s : State) (t : Stamp) (m : Kz) (c : Chan) (f : _), s.kz.advance t = m ∧ (m.chan c.val).conv.timerFrom = some f ∧ f +
    m.fld F.RGN_ROT_CTRL.STEP (c.val / 16) * 100000 ≤ m.now.ns ∧ (m.chan c.val).conv.expired = false ∧ ((m.chan
    c.val).conv.rot ≠ .shadow ∨ (m.chan c.val).conv.passed = false)) ∧
  (∃ (s : State) (t : Stamp) (m : Kz) (c : Chan) (p : Port) (v : Word), s.kz.advance t = m ∧ Accepts m p .CH_CONV_CTRL c.val
    v ∧ F.CH_CONV_CTRL.STEP_NOW.of v = 1 ∧ F.CH_CONV_CTRL.MODE.of (m.cfgWord .CH_CONV_CTRL c.val) = F.CH_CONV_CTRL.MODE.of v
    ∧ (m.chan c.val).conv.timerFrom.isSome = true ∧ (m.chan c.val).conv.expired = false ∧ (m.chan c.val).conv.rot = .shadow
    ∧ (m.chan c.val).conv.passed = true) ∧
  (∃ (s : State) (t : Stamp) (m : Kz) (c : Chan), s.kz.advance t = m ∧ (m.chan c.val).conv.rot = .armed ∧ (m.chan
    c.val).conv.boundary ≤ m.now.tick ∧ (m.chan c.val).conv.stuck.erase (m.chan c.val).conv.target = [] ∧ retired m c.val
    ((m.chan c.val).conv.pos.getD (m.chan c.val).conv.target 15) = false) ∧
  (∃ (s : State) (t : Stamp) (m : Kz) (c : Chan) (x : Nat) (r : List Nat), s.kz.advance t = m ∧ (m.chan c.val).conv.rot =
    .armed ∧ (m.chan c.val).conv.boundary ≤ m.now.tick ∧ (m.chan c.val).conv.stuck.erase (m.chan c.val).conv.target = x :: r
    ∧ retired m c.val ((m.chan c.val).conv.pos.getD (m.chan c.val).conv.target 15) = false) ∧
  (∃ (s : State) (t : Stamp) (m : Kz) (c : Chan) (disagree : _), s.kz.advance t = m ∧ (m.chan c.val).conv.rot = .confirm ∧
    (m.chan c.val).conv.reverting = false ∧ max (m.chan c.val).conv.pairs.disagree disagree ≤ m.fld
    F.RGN_SHADOW_CFG.CONFIRM_LIMIT (c.val / 16) ∧ (m.chan c.val).conv.handoverAt + 1024 ≤ m.now.tick ∧ m.on
    F.CH_CONV_CTRL.ROT_EN c.val = true ∧ retired m c.val (m.chan c.val).conv.spare = false) :=
  ⟨
    ⟨wSt (((wKz .acquire).modPwr 1 (fun p => { p with state := .run })).modConv 17 (fun v => { v with
      rot := .calSpare,
      attempts := [0,0,0,0,0,0,0,0,1] })), ⟨2000000, 6000000000⟩, _, 17, 8, List.replicate 35 0, 500, rfl, by decide⟩,
    ⟨wSt (((wKz .acquire).modPwr 1 (fun p => { p with state := .run })).modConv 17 (fun v => { v with
      rot := .calSpare,
      attempts := [0,0,0,0,0,0,0,0,1] }) |>.setFld F.RGN_ROT_CTRL.CAL_RETRY 1 3), ⟨2000000, 6000000000⟩, _, 17, 8,
    List.replicate 35 0, 501, rfl, by decide⟩,
    ⟨wCal true, ⟨2000000, 6000000000⟩, _, 17, 8, List.replicate 35 0, 500, rfl, by decide⟩,
    ⟨wSt (((wKz .acquire).modPwr 1 (fun p => { p with state := .run })).modConv 17 (fun v => { v with
      rot := .shadow,
      expired := true,
      timerFrom := some 5,
      target := 3,
      phase := 3 })), ⟨2000000, 6000000000⟩, _, 17, 65536, 0, (0 : Int), { count := 65536 }, rfl, by decide⟩,
    ⟨wSt (((wKz .acquire).modPwr 1 (fun p => { p with state := .run })).modConv 17 (fun v => { v with
      rot := .shadow,
      target := 3,
      phase := 3,
      windowFrom := 99,
      pairs := { count := 65537, disagree := 16383, sum := 0 } })), ⟨2000000, 6000000000⟩, _, 17, 65536, 0, (0 : Int), {
      count := 65537,
      disagree := 16383,
      sum := 0 }, rfl, by decide⟩,
    ⟨wSt (((wKz .acquire).modPwr 1 (fun p => { p with state := .run })).modConv 17 (fun v => { v with
      rot := .shadow,
      target := 3,
      phase := 3,
      recal := true })), ⟨2000000, 6000000000⟩, _, 17, 65536, 16383, (0 : Int), {
      count := 65536,
      disagree := 16383,
      sum := 0 }, 3, rfl, by decide⟩,
    ⟨wSt (((wKz .acquire).modPwr 1 (fun p => { p with state := .run })).modConv 17 (fun v => { v with
      rot := .checkShadow,
      target := 3,
      phase := 4,
      recal := true,
      suspect := 8 })), ⟨2000000, 6000000000⟩, _, 17, 65536, 16383, (0 : Int), {
      count := 65536,
      disagree := 16383,
      sum := 0 }, 3, rfl, by decide⟩,
    ⟨wSt (((wKz .acquire).modPwr 1 (fun p => { p with state := .run })).modConv 17 (fun v => { v with
      rot := .checkShadow,
      target := 3,
      windowFrom := 99 })), ⟨2000000, 6000000000⟩, _, 17, rfl, by decide⟩,
    ⟨wSt (((wKz .acquire).modPwr 1 (fun p => { p with state := .run })).modConv 17 (fun v => { v with
      rot := .shadow,
      timerFrom := some 5,
      passed := true })), ⟨2000000, 6000000000⟩, _, 17, 5, rfl, by decide⟩,
    ⟨wSt (((wKz .acquire).modPwr 1 (fun p => { p with state := .run })).modConv 17 (fun v => { v with
      rot := .calSpare,
      timerFrom := some 5,
      passed := true })), ⟨2000000, 6000000000⟩, _, 17, 5, rfl, by decide⟩,
    ⟨wSt (((wKz .acquire).modPwr 1 (fun p => { p with state := .run })).modConv 17 (fun v => { v with
      rot := .shadow,
      timerFrom := some 5,
      passed := true })), ⟨2000000, 6000000000⟩, _, 17, 0, BitVec.ofNat 32 (F.CH_CONV_CTRL.STEP_NOW.put 1) ||| 0#32, rfl, by
    decide⟩,
    ⟨wSt (((wKz .acquire).modPwr 1 (fun p => { p with state := .run })).modConv 17 (fun v => { v with
      rot := .armed,
      boundary := 2000000,
      target := 2 })), ⟨2000000, 6000000000⟩, _, 17, rfl, by decide⟩,
    ⟨wSt (((wKz .acquire).modPwr 1 (fun p => { p with state := .run })).modConv 17 (fun v => { v with
      rot := .armed,
      boundary := 2000000,
      target := 2,
      stuck := [5] })), ⟨2000000, 6000000000⟩, _, 17, 5, [], rfl, by decide⟩,
    ⟨wSt (((wKz .acquire).modPwr 1 (fun p => { p with state := .run })).modConv 17 (fun v => { v with
      rot := .confirm,
      handoverAt := 1998976,
      target := 7 }) |>.setFld F.CH_CONV_CTRL.ROT_EN 17 1), ⟨2000000, 6000000000⟩, _, 17, 0, rfl, by decide⟩⟩

/-- Witness of the hypotheses of CalibrationRotationFaultsAndInjection. -/
theorem witness_CalibrationRotationFaultsAndInjection :
  (∃ (s : State) (t : Stamp) (m : Kz) (c : Chan) (disagree : _), s.kz.advance t = m ∧ (m.chan c.val).conv.rot = .confirm ∧
    (m.chan c.val).conv.reverting = false ∧ m.fld F.RGN_SHADOW_CFG.CONFIRM_LIMIT (c.val / 16) < max (m.chan
    c.val).conv.pairs.disagree disagree ∧ ((m.chan c.val).conv.pos.getD (m.chan c.val).conv.target 15) < (m.chan
    c.val).conv.strikes.length ∧ (m.chan c.val).conv.strikes.getD ((m.chan c.val).conv.pos.getD (m.chan c.val).conv.target
    15) 0 + 1 < m.fld F.RGN_ROT_CTRL.STRIKES (c.val / 16)) ∧
  (∃ (s : State) (t : Stamp) (m : Kz) (c : Chan), s.kz.advance t = m ∧ (m.chan c.val).conv.reverting = true ∧ (m.chan
    c.val).conv.boundary ≤ m.now.tick ∧ retired m c.val ((m.chan c.val).conv.pos.getD (m.chan c.val).conv.target 15) = false
    ∧ (m.chan c.val).conv.rot ≠ .noSpare) ∧
  (∃ (s : State) (t : Stamp) (m : Kz) (c : Chan) (sl : Slice) (first : Nat), s.kz.advance t = m ∧ m.on
    F.CH_CONV_CTRL.STUCK_EN c.val = true ∧ posOf (m.chan c.val).conv sl.val ≠ 15 ∧ m.inRun (c.val / 16) = true ∧ (Sparse.get
    ({} : SliceRun) (m.chan c.val).conv.runs sl.val).told = false ∧ ((if 1024 ≤ (Sparse.get ({} : SliceRun) (m.chan
    c.val).conv.runs sl.val).count then (Sparse.get ({} : SliceRun) (m.chan c.val).conv.runs sl.val).first else first) +
    1023 * slicesOf (m.chan c.val).conv.effMode * ticksOf (m.chan c.val).conv.effMode ≤ m.now.tick) ∧ (m.chan
    c.val).conv.spare ≠ 15 ∧ ((m.chan c.val).conv.rot = .shadow ∨ (m.chan c.val).conv.rot = .checkShadow ∨ (m.chan
    c.val).conv.rot = .stopped) ∧ sl.val < (m.chan c.val).conv.strikes.length ∧ (m.chan c.val).conv.strikes.getD sl.val 0 +
    1 < m.fld F.RGN_ROT_CTRL.STRIKES (c.val / 16)) ∧
  (∃ (s : State) (t : Stamp) (m : Kz) (c : Chan), s.kz.advance t = m ∧ (m.chan c.val).conv.rot = .emergArmed ∧ (m.chan
    c.val).conv.boundary ≤ m.now.tick ∧ retired m c.val ((m.chan c.val).conv.pos.getD (m.chan c.val).conv.target 15) = false) ∧
  (∃ (s : State) (t : Stamp) (m : Kz) (c : Chan) (p : Port) (v : Word), s.kz.advance t = m ∧ Accepts m p .CH_SLICE_HEALTH
    c.val v ∧ m.fld F.CH_SLICE_HEALTH.RETIRED c.val ≠ 0 ∧ F.CH_SLICE_HEALTH.RETIRED.of v = 0) ∧
  (∃ (s : State) (t : Stamp) (m : Kz) (c : Chan) (p : Port) (v : Word) (sl : Slice), s.kz.advance t = m ∧ Accepts m p
    .CH_SLICE_HEALTH c.val v ∧ m.fld F.CH_SLICE_HEALTH.RETIRED c.val = 0 ∧ F.CH_SLICE_HEALTH.RETIRED.of v = 1 <<< sl.val) ∧
  (∃ (s : State) (t : Stamp) (m : Kz) (k : Rgn), s.kz.advance t = m ∧ m.pwr.calQueue.head? = some k.val ∧ m.pwr.passRunning
    = false ∧ m.rstate k.val = .cal ∧ (m.rgn k.val).err.restarting = false) ∧
  (∃ (s : State) (t : Stamp) (m : Kz) (k : Rgn), s.kz.advance t = m ∧ inPass m k.val = true ∧ passComplete m k.val = true) ∧
  (∃ (s : State) (t : Stamp) (m : Kz) (k : Rgn), s.kz.advance t = m ∧ (inPass m k.val = false ∨ passComplete m k.val =
    false)) ∧
  (∃ (s : State) (t : Stamp) (m : Kz) (c : Chan) (uv : Nat), s.kz.advance t = m ∧ ((uv < 650000 ∧ (m.chan c.val).fe.cmLow =
    false) ∨ (1350000 < uv ∧ (m.chan c.val).fe.cmHigh = false))) ∧
  (∃ (s : State) (t : Stamp) (m : Kz) (c : Chan) (uv : Nat), s.kz.advance t = m ∧ (650000 ≤ uv ∨ (m.chan c.val).fe.cmLow =
    true) ∧ (uv ≤ 1350000 ∨ (m.chan c.val).fe.cmHigh = true)) ∧
  (∃ (s : State) (t : Stamp) (m : Kz) (c : Chan), s.kz.advance t = m ∧ (m.chan c.val).fe.settling = true ∧ (m.chan
    c.val).fe.settleAt ≤ m.now.ns) ∧
  (∃ (s : State) (t : Stamp) (m : Kz) (c : Chan), s.kz.advance t = m ∧ (m.chan c.val).fe.inj.phase = .scheduled ∧ (m.chan
    c.val).fe.inj.edge ≤ m.now.tick) ∧
  (∃ (s : State) (t : Stamp) (m : Kz) (c : Chan), s.kz.advance t = m ∧ (m.chan c.val).fe.inj.phase = .active ∧ (m.chan
    c.val).fe.inj.width ≠ 0 ∧ (m.chan c.val).fe.inj.edge + 16 * (m.chan c.val).fe.inj.width ≤ m.now.tick) ∧
  (∃ (s : State) (t : Stamp) (m : Kz) (c : Chan), s.kz.advance t = m ∧ (m.chan c.val).fe.inj.phase = .active ∧ (m.chan
    c.val).fe.inj.width = 0 ∧ (m.chan c.val).fe.inj.released = true) :=
  ⟨
    ⟨wSt (((wKz .acquire).modPwr 1 (fun p => { p with state := .run })).modConv 17 (fun v => { v with
      rot := .confirm,
      handoverAt := 1999976,
      target := 7 }) |>.setFld F.RGN_ROT_CTRL.STRIKES 1 3), ⟨2000000, 6000000000⟩, _, 17, 256, rfl, by decide⟩,
    ⟨wSt (((wKz .acquire).modPwr 1 (fun p => { p with state := .run })).modConv 17 (fun v => { v with
      rot := .confirm,
      reverting := true,
      relieved := 7,
      spare := 7,
      pos := [0,1,2,3,4,5,6,8],
      target := 7,
      boundary := 1999999 })), ⟨2000000, 6000000000⟩, _, 17, rfl, by decide⟩,
    ⟨wSt (((wKz .acquire).modPwr 1 (fun p => { p with state := .run })).modConv 17 (fun v => { v with rot := .shadow })
    |>.setFld F.RGN_ROT_CTRL.STRIKES 1 3 |>.setFld F.CH_CONV_CTRL.STUCK_EN 17 1), ⟨2000000, 6000000000⟩, _, 17, 7, 1990000,
    rfl, by decide⟩,
    ⟨wSt (((wKz .acquire).modPwr 1 (fun p => { p with state := .run })).modConv 17 (fun v => { v with
      rot := .emergArmed,
      boundary := 2000000,
      target := 2,
      stuck := [2] })), ⟨2000000, 6000000000⟩, _, 17, rfl, by decide⟩,
    ⟨wSt ((wKz .ready).setFld F.CH_SLICE_HEALTH.RETIRED 17 256), ⟨2000000, 6000000000⟩, _, 17, 0, 0, rfl, by decide⟩,
    ⟨wSt (wKz .ready), ⟨2000000, 6000000000⟩, _, 17, 0, BitVec.ofNat 32 (F.CH_SLICE_HEALTH.RETIRED.put 256), 8, rfl, by
    decide⟩,
    ⟨wCal false, ⟨2000000, 6000000000⟩, _, 1, rfl, by decide⟩,
    ⟨wSt ((wCal true).kz.eachChan 1 (fun m c => m.modConv c (fun v => { v with calDone := 0x1FF }))), ⟨2000000, 6000000000⟩,
    _, 1, rfl, by decide⟩,
    ⟨wCal true, ⟨2000000, 6000000000⟩, _, 1, rfl, by decide⟩,
    ⟨wTb id, ⟨2000000, 6000000000⟩, _, 17, 1350001, rfl, by decide⟩,
    ⟨wTb id, ⟨2000000, 6000000000⟩, _, 17, 1350000, rfl, by decide⟩,
    ⟨wSt ((wKz .ready).modFe 17 (fun f => { f with settling := true, settleAt := 5000002000 })), ⟨2000000, 6000000000⟩, _,
    17, rfl, by decide⟩,
    ⟨wSt ((wKz .ready).modFe 17 (fun f => { f with inj := { phase := .scheduled, edge := 2000000, ampl := 7 } })), ⟨2000000,
    6000000000⟩, _, 17, rfl, by decide⟩,
    ⟨wSt ((wKz .ready).modFe 17 (fun f => { f with inj := { phase := .active, edge := 1999000, ampl := 7, width := 3 } })),
    ⟨2000000, 6000000000⟩, _, 17, rfl, by decide⟩,
    ⟨wSt ((wKz .ready).modFe 17 (fun f => { f with
      inj := { phase := .active, edge := 1999000, ampl := 7, width := 0, released := true } })), ⟨2000000, 6000000000⟩, _,
    17, rfl, by decide⟩⟩

/-- Witness of the hypotheses of BaselineAndSaturation. -/
theorem witness_BaselineAndSaturation :
  (∃ (s : State) (t : Stamp) (m : Kz) (c : Chan), s.kz.advance t = m ∧ (m.chan c.val).chain.bl = .acquire ∧ ((m.chan
    c.val).chain.acqCount = 256 ∨ (m.chan c.val).chain.start.getD 0 + 256 * decim m c.val * convTicks m c.val ≤ m.now.tick)) ∧
  (∃ (s : State) (t : Stamp) (m : Kz) (c : Chan), s.kz.advance t = m ∧ (m.chan c.val).chain.bl = .track ∧ (m.chan
    c.val).chain.frzCmd = true) ∧
  (∃ (s : State) (t : Stamp) (m : Kz) (c : Chan), s.kz.advance t = m ∧ ((m.chan c.val).chain.bl = .track ∨ (m.chan
    c.val).chain.bl = .reacquire) ∧ m.on F.CH_SLOT_CFG.FRZ_WIN c.val = true) ∧
  (∃ (s : State) (t : Stamp) (m : Kz) (c : Chan), s.kz.advance t = m ∧ (m.chan c.val).chain.bl = .track ∧ m.on
    F.CH_SLOT_CFG.FRZ_EXC c.val = true) ∧
  (∃ (s : State) (t : Stamp) (m : Kz) (c : Chan), s.kz.advance t = m ∧ (m.chan c.val).chain.bl = .reacquire ∧ (m.chan
    c.val).chain.frzCmd = false ∧ (m.chan c.val).chain.frzWin = false) ∧
  (∃ (s : State) (t : Stamp) (m : Kz) (c : Chan), s.kz.advance t = m ∧ (m.chan c.val).chain.bl = .frozen ∧ (m.chan
    c.val).chain.frzCmd = false ∧ (m.chan c.val).chain.frzExc = false) ∧
  (∃ (s : State) (t : Stamp) (m : Kz) (c : Chan), s.kz.advance t = m ∧ (m.chan c.val).chain.bl = .frozen) ∧
  (∃ (s : State) (t : Stamp) (m : Kz) (c : Chan), s.kz.advance t = m ∧ (m.chan c.val).chain.bl = .frozen ∧ (m.chan
    c.val).chain.frzCmd = false ∧ (m.chan c.val).chain.frzExc = false ∧ (m.chan c.val).chain.frzWin = false) ∧
  (∃ (s : State) (t : Stamp) (m : Kz) (c : Chan) (f : Nat), s.kz.advance t = m ∧ (m.chan c.val).chain.bl = .frozen ∧ (m.chan
    c.val).chain.excFrom = some f ∧ f + 2 ^ (m.fld F.CH_SLOT_CFG.TAU_K c.val + 2) * decim m c.val * convTicks m c.val ≤
    m.now.tick) ∧
  (∃ (s : State) (t : Stamp) (m : Kz) (c : Chan) (resid : Nat), s.kz.advance t = m ∧ (m.chan c.val).chain.bl = .reacquire ∧
    (2 * (if blLag m c.val < (m.chan c.val).chain.means.length then (m.chan c.val).chain.resid else resid) < excThr m c.val)) ∧
  (∃ (s : State) (t : Stamp) (m : Kz) (c : Chan) (resid : Nat), s.kz.advance t = m ∧ (m.chan c.val).chain.bl = .reacquire ∧
    (excThr m c.val ≤ 2 * (if blLag m c.val < (m.chan c.val).chain.means.length then (m.chan c.val).chain.resid else resid))) ∧
  (∃ (s : State) (t : Stamp) (m : Kz) (c : Chan) (p : Port) (v : Word), s.kz.advance t = m ∧ Accepts m p .CH_CHAIN_CTRL
    c.val v ∧ m.fld F.CH_CHAIN_CTRL.BL_FREEZE c.val = 0 ∧ F.CH_CHAIN_CTRL.BL_FREEZE.of v = 1 ∧ (m.chan c.val).chain.bl =
    .track ∧ (m.chan c.val).chain.start.isSome = true) ∧
  (∃ (s : State) (t : Stamp) (m : Kz) (c : Chan) (first : Nat) (last : Nat), s.kz.advance t = m ∧ (m.chan
    c.val).chain.start.isSome = true ∧ wide m c.val = true ∧ m.on F.CH_CHAIN_CTRL.SLOT_EN c.val = true ∧ first = nextBlock m
    c.val (m.chan c.val).chain.toneFrom ∧ last + convTicks m c.val = first + (2 ^ m.fld F.CH_SLOT_CFG.NEXP c.val) *
    convTicks m c.val ∧ last + 48 * convTicks m c.val ≤ m.now.tick ∧ (∀ b ∈ (m.chan c.val).chain.toneDone, b.first ≠ first)) ∧
  (∃ (s : State) (t : Stamp) (m : Kz) (c : Chan) (first : Nat) (last : Nat) (b : ToneBlock) (q : Nat), s.kz.advance t = m ∧
    (m.chan c.val).chain.start.isSome = true ∧ wide m c.val = true ∧ m.on F.CH_CHAIN_CTRL.SLOT_EN c.val = true ∧ first =
    nextBlock m c.val (m.chan c.val).chain.toneFrom ∧ last + convTicks m c.val = first + (2 ^ m.fld F.CH_SLOT_CFG.NEXP
    c.val) * convTicks m c.val ∧ last + 48 * convTicks m c.val ≤ m.now.tick ∧ (m.chan c.val).chain.toneDone.find? (fun b =>
    decide (b.first = first)) = some b ∧ b.hole = false ∧ q = (4 * (b.re * b.re + b.im * b.im)).toNat / ((2 ^ m.fld
    F.CH_SLOT_CFG.NEXP c.val) * (2 ^ m.fld F.CH_SLOT_CFG.NEXP c.val) * 2 ^ 60)) ∧
  (∃ (s : State) (t : Stamp) (m : Kz) (c : Chan) (codes : List (BitVec 12)), s.kz.advance t = m ∧ powered m.pwr.state = true
    ∧ m.hub.lastSend.any (fun l => decide (m.fabric ≤ l)) = false ∧ m.rstate (c.val / 16) ≠ .down ∧ chanFailed m c.val =
    false ∧ (∀ k : Nat, k < 12 → (m.rgn k).acc.cuts = []) ∧ codes.length ≤ 16 / convTicks m c.val ∧ (m.chan
    c.val).chain.start = none) ∧
  (∃ (s : State) (t : Stamp) (m : Kz) (c : Chan) (i : Nat), s.kz.advance t = m ∧ powered m.pwr.state = true ∧
    m.hub.lastSend.any (fun l => decide (m.fabric ≤ l)) = false ∧ m.rstate (c.val / 16) ≠ .down ∧ chanFailed m c.val = false
    ∧ (∀ k : Nat, k < 12 → (m.rgn k).acc.cuts = []) ∧ (m.chan c.val).chain.start = none ∧ m.inRun (c.val / 16) = false ∧
    partner (m.chan c.val).conv = 15 ∧ i = (m.fabric * 16 / convTicks m c.val)) ∧
  (∃ (s : State) (t : Stamp) (m : Kz) (c : Chan) (i : Nat), s.kz.advance t = m ∧ powered m.pwr.state = true ∧
    m.hub.lastSend.any (fun l => decide (m.fabric ≤ l)) = false ∧ m.rstate (c.val / 16) ≠ .down ∧ chanFailed m c.val = false
    ∧ (∀ k : Nat, k < 12 → (m.rgn k).acc.cuts = []) ∧ (m.chan c.val).chain.start = none ∧ ((m.chan c.val).conv.rot = .shadow
    ∨ (m.chan c.val).conv.rot = .checkShadow) ∧ (m.chan c.val).conv.spare ≠ 15 ∧ i = (m.fabric * 16 / convTicks m c.val) ∧ i
    % slicesOf (m.chan c.val).conv.effMode = (m.chan c.val).conv.phase ∧ (m.chan c.val).conv.windowAt ≤ i * convTicks m
    c.val) ∧
  (∃ (s : State) (t : Stamp) (m : Kz) (c : Chan) (st : Nat) (i : Nat) (j : Nat) (y : Int × Bool), s.kz.advance t = m ∧
    powered m.pwr.state = true ∧ m.hub.lastSend.any (fun l => decide (m.fabric ≤ l)) = false ∧ m.rstate (c.val / 16) ≠ .down
    ∧ chanFailed m c.val = false ∧ (∀ k : Nat, k < 12 → (m.rgn k).acc.cuts = []) ∧ (m.chan c.val).chain.start = some st ∧
    (m.chan c.val).chain.stages = [] ∧ m.fld F.CH_CHAIN_CTRL.DEC c.val = 0 ∧ m.on F.CH_CHAIN_CTRL.SLOT_EN c.val = false ∧
    rsOn m c.val = false ∧ (m.chan c.val).conv.nextIdx = i + 48 ∧ (m.chan c.val).conv.line[47]? = some y ∧ i + 48 =
    (m.fabric * 16 / convTicks m c.val) ∧ st ≤ i * convTicks m c.val ∧ i = gridStart m c.val / (1024 * convTicks m c.val) +
    j ∧ firstDelivered m c.val ≤ j) ∧
  (∃ (s : State) (t : Stamp) (m : Kz) (c : Chan), s.kz.advance t = m ∧ (m.rstate (c.val / 16) = .down ∨ chanFailed m c.val =
    true ∨ powered m.pwr.state = false) ∧ (∀ k : Nat, k < 12 → (m.rgn k).acc.cuts = [])) :=
  ⟨
    ⟨wSt ((wRun 0 0 (fun x => { x with chain := { x.chain with bl := .acquire, frzWin := true } }))), ⟨2000000, 6000000000⟩,
    _, 17, rfl, by decide⟩,
    ⟨wSt ((wRun 0 0 (fun x => { x with chain := { x.chain with bl := .track, frzCmd := true } }))), ⟨2000000, 6000000000⟩,
    _, 17, rfl, by decide⟩,
    ⟨wSt ((wRun 0 0 (fun x => { x with chain := { x.chain with bl := .reacquire } })) |>.setFld F.CH_SLOT_CFG.FRZ_WIN 17 1),
    ⟨2000000, 6000000000⟩, _, 17, rfl, by decide⟩,
    ⟨wSt ((wRun 0 0 (fun x => { x with chain := { x.chain with bl := .track } })) |>.setFld F.CH_SLOT_CFG.FRZ_EXC 17 1),
    ⟨2000000, 6000000000⟩, _, 17, rfl, by decide⟩,
    ⟨wSt ((wRun 0 0 (fun x => { x with chain := { x.chain with bl := .reacquire } }))), ⟨2000000, 6000000000⟩, _, 17, rfl,
    by decide⟩,
    ⟨wSt ((wRun 0 0 (fun x => { x with chain := { x.chain with bl := .frozen, frzWin := true } }))), ⟨2000000, 6000000000⟩,
    _, 17, rfl, by decide⟩,
    ⟨wSt ((wRun 0 0 (fun x => { x with chain := { x.chain with bl := .frozen, frzExc := true, excTail := 9 } }))), ⟨2000000,
    6000000000⟩, _, 17, rfl, by decide⟩,
    ⟨wSt ((wRun 0 0 (fun x => { x with chain := { x.chain with bl := .frozen } }))), ⟨2000000, 6000000000⟩, _, 17, rfl, by
    decide⟩,
    ⟨wSt ((wRun 0 0 (fun x => { x with chain := { x.chain with bl := .frozen, frzExc := true, excFrom := some 1000000 } }))),
    ⟨2000000, 6000000000⟩, _, 17, 1000000, rfl, by decide⟩,
    ⟨wSt ((wRun 0 0 (fun x => { x with chain := { x.chain with bl := .reacquire } })) |>.setFld F.CH_SLOT_CFG.EXC_THR 17 3),
    ⟨2000000, 6000000000⟩, _, 17, 5, rfl, by decide⟩,
    ⟨wSt ((wRun 0 0 (fun x => { x with chain := { x.chain with bl := .reacquire, means := [5], resid := 9999999 } }))),
    ⟨2000000, 6000000000⟩, _, 17, 0, rfl, by decide⟩,
    ⟨wSt ((wRun 0 0 (fun x => { x with chain := { x.chain with bl := .track } }))), ⟨2000000, 6000000000⟩, _, 17, 0,
    BitVec.ofNat 32 ((Kz.resetWord .CH_CHAIN_CTRL).toNat ||| F.CH_CHAIN_CTRL.BL_FREEZE.put 1), rfl, by decide⟩,
    ⟨wSt ((wRun 0 0 (fun x => { x with chain := { x.chain with bl := .off, toneFrom := 1900000 } })) |>.setFld
    F.CH_CHAIN_CTRL.SLOT_EN 17 1 |>.setFld F.CH_SLOT_CFG.NEXP 17 10), ⟨2000000, 6000000000⟩, _, 17, 1900544, 1900544 + 1023,
    rfl, by decide⟩,
    ⟨wSt ((wRun 0 0 (fun x => { x with
      chain := { x.chain with
          bl := .off,
          toneFrom := 1900000,
          toneDone := [⟨1900544, 1856, 1024, 2 ^ 50, 2 ^ 49, true, false⟩] } })) |>.setFld F.CH_CHAIN_CTRL.SLOT_EN 17 1
    |>.setFld F.CH_SLOT_CFG.NEXP 17 10), ⟨2000000, 6000000000⟩, _, 17, 1900544, 1900544 + 1023, ⟨1900544, 1856, 1024, 2 ^
    50, 2 ^ 49, true, false⟩, 5242880, rfl, by decide⟩,
    ⟨wSt (((wKz .ready).modPwr 3 (fun p => { p with state := .idle })).modFe 50 (fun f => { f with satNow := true })),
    ⟨2000000, 6000000000⟩, _, 50, [2047#12, 1#12, 2048#12, 2047#12, 0#12, 2047#12], rfl, by decide⟩,
    ⟨wSt (((wKz .ready).modPwr 3 (fun p => { p with state := .idle })).modConv 50 (fun v => { v with
      coef := [(0, [1, 2])],
      line := [(5, true)],
      nextIdx := 2000000 })), ⟨2000000, 6000000000⟩, _, 50, 2000000, rfl, by decide⟩,
    ⟨wSt (((wKz .ready).modPwr 3 (fun p => { p with state := .idle })).modConv 50 (fun v => { v with rot := .shadow })),
    ⟨2000000, 6000000000⟩, _, 50, 2000000, rfl, by decide⟩,
    ⟨wSt (((wKz .ready).modPwr 3 (fun p => { p with state := .idle })).modConv 50 (fun v => { v with
      line := List.replicate 48 (7, true),
      nextIdx := 2000000 }) |>.modChain 50 (fun x => { x with start := some 1900000 })), ⟨2000000, 6000000000⟩, _, 50,
    1900000, 1999952, 99952, ((7 : Int), true), rfl, by decide⟩,
    ⟨wSt (wKz .ready), ⟨2000000, 6000000000⟩, _, 50, rfl, by decide⟩⟩

/-- Witness of the hypotheses of TriggersAndArming. -/
theorem witness_TriggersAndArming :
  (∃ (s : State) (t : Stamp) (m : Kz) (c : Chan), s.kz.advance t = m ∧ (m.chan c.val).trig.pending = []) ∧
  (∃ (s : State) (t : Stamp) (m : Kz) (c : Chan) (cyc : Nat) (inst : Nat), s.kz.advance t = m ∧ cyc ∈ (m.chan
    c.val).trig.pending.map (fun z => z.2.2) ∧ (∀ y ∈ (m.chan c.val).trig.pending, cyc ≤ y.2.2) ∧ inst ∈ ((m.chan
    c.val).trig.pending.filter (fun z => z.2.2 = cyc)).map (fun z => z.2.1) ∧ (∀ y ∈ (m.chan c.val).trig.pending, y.2.2 =
    cyc → inst ≤ y.2.1) ∧ armAt (m.chan c.val).trig (sampleInst m c.val (sampleAt m c.val inst)) = .filling) ∧
  (∃ (s : State) (t : Stamp) (m : Kz) (c : Chan) (cyc : Nat) (inst : Nat), s.kz.advance t = m ∧ cyc ∈ (m.chan
    c.val).trig.pending.map (fun z => z.2.2) ∧ (∀ y ∈ (m.chan c.val).trig.pending, cyc ≤ y.2.2) ∧ inst ∈ ((m.chan
    c.val).trig.pending.filter (fun z => z.2.2 = cyc)).map (fun z => z.2.1) ∧ (∀ y ∈ (m.chan c.val).trig.pending, y.2.2 =
    cyc → inst ≤ y.2.1) ∧ (armAt (m.chan c.val).trig (sampleInst m c.val (sampleAt m c.val inst)) = .record ∨ armAt (m.chan
    c.val).trig (sampleInst m c.val (sampleAt m c.val inst)) = .holdoff ∨ armAt (m.chan c.val).trig (sampleInst m c.val
    (sampleAt m c.val inst)) = .rearm) ∧ (m.chan c.val).trig.openCycle ≠ some (sampleCycle m c.val (sampleAt m c.val inst))) ∧
  (∃ (s : State) (t : Stamp) (m : Kz) (c : Chan) (cyc : Nat) (inst : Nat) (f : Nat), s.kz.advance t = m ∧ cyc ∈ (m.chan
    c.val).trig.pending.map (fun z => z.2.2) ∧ (∀ y ∈ (m.chan c.val).trig.pending, cyc ≤ y.2.2) ∧ inst ∈ ((m.chan
    c.val).trig.pending.filter (fun z => z.2.2 = cyc)).map (fun z => z.2.1) ∧ (∀ y ∈ (m.chan c.val).trig.pending, y.2.2 =
    cyc → inst ≤ y.2.1) ∧ armAt (m.chan c.val).trig (sampleInst m c.val (sampleAt m c.val inst)) = .armed ∧ (m.chan
    c.val).trig.openCycle ≠ some (sampleCycle m c.val (sampleAt m c.val inst)) ∧ f ∈ ((m.chan c.val).trig.pending.filter
    (joins m c.val cyc inst)).map (fun z => z.2.1) ∧ (∀ y ∈ (m.chan c.val).trig.pending.filter (joins m c.val cyc inst), f ≤
    y.2.1) ∧ (((m.chan c.val).trig.arm ≠ .armed ∧ (m.chan c.val).trig.maskStop = false) ∨ (∃ e ∈ (m.chan c.val).trig.past,
    e.2 = .record ∧ sampleInst m c.val (sampleAt m c.val f) < e.1))) ∧
  (∃ (s : State) (t : Stamp) (m : Kz) (c : Chan) (cyc : Nat) (inst : Nat), s.kz.advance t = m ∧ cyc ∈ (m.chan
    c.val).trig.pending.map (fun z => z.2.2) ∧ (∀ y ∈ (m.chan c.val).trig.pending, cyc ≤ y.2.2) ∧ inst ∈ ((m.chan
    c.val).trig.pending.filter (fun z => z.2.2 = cyc)).map (fun z => z.2.1) ∧ (∀ y ∈ (m.chan c.val).trig.pending, y.2.2 =
    cyc → inst ≤ y.2.1) ∧ (armAt (m.chan c.val).trig (sampleInst m c.val (sampleAt m c.val inst)) = .disarmed ∨ armAt
    (m.chan c.val).trig (sampleInst m c.val (sampleAt m c.val inst)) = .stopped ∨ armAt (m.chan c.val).trig (sampleInst m
    c.val (sampleAt m c.val inst)) = .maskStopped)) ∧
  (∃ (s : State) (t : Stamp) (m : Kz) (c : Chan) (cyc : Nat) (inst : Nat), s.kz.advance t = m ∧ cyc ∈ (m.chan
    c.val).trig.pending.map (fun z => z.2.2) ∧ (∀ y ∈ (m.chan c.val).trig.pending, cyc ≤ y.2.2) ∧ inst ∈ ((m.chan
    c.val).trig.pending.filter (fun z => z.2.2 = cyc)).map (fun z => z.2.1) ∧ (∀ y ∈ (m.chan c.val).trig.pending, y.2.2 =
    cyc → inst ≤ y.2.1) ∧ armAt (m.chan c.val).trig (sampleInst m c.val (sampleAt m c.val inst)) = .record ∧ (m.chan
    c.val).trig.openCycle = some (sampleCycle m c.val (sampleAt m c.val inst))) ∧
  (∃ (s : State) (t : Stamp) (m : Kz) (c : Chan) (cyc : Nat) (inst : Nat), s.kz.advance t = m ∧ cyc ∈ (m.chan
    c.val).trig.pending.map (fun z => z.2.2) ∧ (∀ y ∈ (m.chan c.val).trig.pending, cyc ≤ y.2.2) ∧ inst ∈ ((m.chan
    c.val).trig.pending.filter (fun z => z.2.2 = cyc)).map (fun z => z.2.1) ∧ (∀ y ∈ (m.chan c.val).trig.pending, y.2.2 =
    cyc → inst ≤ y.2.1) ∧ armAt (m.chan c.val).trig (sampleInst m c.val (sampleAt m c.val inst)) = .armed ∧ (m.chan
    c.val).trig.openCycle = some (sampleCycle m c.val (sampleAt m c.val inst))) ∧
  (∃ (s : State) (t : Stamp) (m : Kz) (c : Chan) (cyc : Nat) (inst : Nat) (f : Nat), s.kz.advance t = m ∧ cyc ∈ (m.chan
    c.val).trig.pending.map (fun z => z.2.2) ∧ (∀ y ∈ (m.chan c.val).trig.pending, cyc ≤ y.2.2) ∧ inst ∈ ((m.chan
    c.val).trig.pending.filter (fun z => z.2.2 = cyc)).map (fun z => z.2.1) ∧ (∀ y ∈ (m.chan c.val).trig.pending, y.2.2 =
    cyc → inst ≤ y.2.1) ∧ armAt (m.chan c.val).trig (sampleInst m c.val (sampleAt m c.val inst)) = .armed ∧ (m.chan
    c.val).trig.openCycle ≠ some (sampleCycle m c.val (sampleAt m c.val inst)) ∧ f ∈ ((m.chan c.val).trig.pending.filter
    (joins m c.val cyc inst)).map (fun z => z.2.1) ∧ (∀ y ∈ (m.chan c.val).trig.pending.filter (joins m c.val cyc inst), f ≤
    y.2.1) ∧ (m.chan c.val).trig.arm = .armed ∧ (m.chan c.val).trig.maskStop = false ∧ (∀ e ∈ (m.chan c.val).trig.past, e.2
    = .record → e.1 ≤ sampleInst m c.val (sampleAt m c.val f)) ∧ (m.chan c.val).mem.open_.length < 4) ∧
  (∃ (s : State) (t : Stamp) (m : Kz) (c : Chan) (cyc : Nat) (inst : Nat) (f : Nat) (i : Nat), s.kz.advance t = m ∧ cyc ∈
    (m.chan c.val).trig.pending.map (fun z => z.2.2) ∧ (∀ y ∈ (m.chan c.val).trig.pending, cyc ≤ y.2.2) ∧ inst ∈ ((m.chan
    c.val).trig.pending.filter (fun z => z.2.2 = cyc)).map (fun z => z.2.1) ∧ (∀ y ∈ (m.chan c.val).trig.pending, y.2.2 =
    cyc → inst ≤ y.2.1) ∧ armAt (m.chan c.val).trig (sampleInst m c.val (sampleAt m c.val inst)) = .armed ∧ (m.chan
    c.val).trig.openCycle ≠ some (sampleCycle m c.val (sampleAt m c.val inst)) ∧ f ∈ ((m.chan c.val).trig.pending.filter
    (joins m c.val cyc inst)).map (fun z => z.2.1) ∧ (∀ y ∈ (m.chan c.val).trig.pending.filter (joins m c.val cyc inst), f ≤
    y.2.1) ∧ (m.chan c.val).trig.arm = .armed ∧ (m.chan c.val).trig.maskStop = false ∧ (∀ e ∈ (m.chan c.val).trig.past, e.2
    = .record → e.1 ≤ sampleInst m c.val (sampleAt m c.val f)) ∧ 4 ≤ (m.chan c.val).mem.open_.length ∧ (m.chan
    c.val).mem.writing = some i ∧ m.on F.CH_TRIG_CTRL.HO_MODE c.val = true ∧ m.fld F.CH_TRIG_HOLD.HOLDOFF c.val ≠ 0 ∧
    acqMode m (c.val / 16) ≠ 3) ∧
  (∃ (s : State) (t : Stamp) (m : Kz) (c : Chan) (cyc : Nat) (inst : Nat) (f : Nat), s.kz.advance t = m ∧ cyc ∈ (m.chan
    c.val).trig.pending.map (fun z => z.2.2) ∧ (∀ y ∈ (m.chan c.val).trig.pending, cyc ≤ y.2.2) ∧ inst ∈ ((m.chan
    c.val).trig.pending.filter (fun z => z.2.2 = cyc)).map (fun z => z.2.1) ∧ (∀ y ∈ (m.chan c.val).trig.pending, y.2.2 =
    cyc → inst ≤ y.2.1) ∧ armAt (m.chan c.val).trig (sampleInst m c.val (sampleAt m c.val inst)) = .armed ∧ (m.chan
    c.val).trig.openCycle ≠ some (sampleCycle m c.val (sampleAt m c.val inst)) ∧ f ∈ ((m.chan c.val).trig.pending.filter
    (joins m c.val cyc inst)).map (fun z => z.2.1) ∧ (∀ y ∈ (m.chan c.val).trig.pending.filter (joins m c.val cyc inst), f ≤
    y.2.1) ∧ (m.chan c.val).trig.maskStop = true ∧ (∀ e ∈ (m.chan c.val).trig.past, e.2 = .record → e.1 ≤ sampleInst m c.val
    (sampleAt m c.val f)) ∧ acqMode m (c.val / 16) ≠ 3) ∧
  (∃ (s : State) (t : Stamp) (m : Kz) (c : Chan) (cyc : Nat) (inst : Nat) (f : Nat), s.kz.advance t = m ∧ cyc ∈ (m.chan
    c.val).trig.pending.map (fun z => z.2.2) ∧ (∀ y ∈ (m.chan c.val).trig.pending, cyc ≤ y.2.2) ∧ inst ∈ ((m.chan
    c.val).trig.pending.filter (fun z => z.2.2 = cyc)).map (fun z => z.2.1) ∧ (∀ y ∈ (m.chan c.val).trig.pending, y.2.2 =
    cyc → inst ≤ y.2.1) ∧ armAt (m.chan c.val).trig (sampleInst m c.val (sampleAt m c.val inst)) = .armed ∧ (m.chan
    c.val).trig.openCycle ≠ some (sampleCycle m c.val (sampleAt m c.val inst)) ∧ f ∈ ((m.chan c.val).trig.pending.filter
    (joins m c.val cyc inst)).map (fun z => z.2.1) ∧ (∀ y ∈ (m.chan c.val).trig.pending.filter (joins m c.val cyc inst), f ≤
    y.2.1) ∧ (m.chan c.val).trig.maskStop = true ∧ (∀ e ∈ (m.chan c.val).trig.past, e.2 = .record → e.1 ≤ sampleInst m c.val
    (sampleAt m c.val f)) ∧ acqMode m (c.val / 16) = 3) ∧
  (∃ (s : State) (t : Stamp) (m : Kz) (c : Chan), s.kz.advance t = m ∧ (m.chan c.val).trig.arm = .filling ∧ sampleInst m
    c.val ((m.chan c.val).trig.fillFrom + recPre m c.val) ≤ ringInst m c.val) ∧
  (∃ (s : State) (t : Stamp) (m : Kz) (c : Chan), s.kz.advance t = m ∧ (m.chan c.val).trig.holding = true ∧ (m.chan
    c.val).trig.arm = .holdoff ∧ m.on F.CH_TRIG_CTRL.HO_MODE c.val = false ∧ sampleInst m c.val (sampleAt m c.val ((m.chan
    c.val).trig.holdInst + m.fld F.CH_TRIG_HOLD.HOLDOFF c.val * 1024)) ≤ ringInst m c.val) ∧
  (∃ (s : State) (t : Stamp) (m : Kz) (c : Chan), s.kz.advance t = m ∧ (m.chan c.val).trig.holding = true ∧ (m.chan
    c.val).trig.arm = .holdoff ∧ m.on F.CH_TRIG_CTRL.HO_MODE c.val = true ∧ m.fld F.CH_TRIG_HOLD.HOLDOFF c.val ≤ (m.chan
    c.val).trig.holdCount) ∧
  (∃ (s : State) (t : Stamp) (m : Kz) (c : Chan), s.kz.advance t = m ∧ (m.chan c.val).trig.holding = true ∧ (m.chan
    c.val).trig.arm = .record ∧ m.on F.CH_TRIG_CTRL.HO_MODE c.val = true ∧ m.fld F.CH_TRIG_HOLD.HOLDOFF c.val ≤ (m.chan
    c.val).trig.holdCount) ∧
  (∃ (s : State) (t : Stamp) (m : Kz) (c : Chan), s.kz.advance t = m ∧ (m.chan c.val).trig.arm = .rearm ∧ (m.chan
    c.val).trig.rearmAt ≤ m.fabric ∧ m.on F.CH_TRIG_CTRL.ARM_MODE c.val = true ∧ m.fld F.RGN_ACQ_CTRL.SEGS_M1 (c.val / 16) +
    1 ≤ (m.chan c.val).trig.seqClosed) ∧
  (∃ (s : State) (t : Stamp) (m : Kz) (c : Chan), s.kz.advance t = m ∧ (m.chan c.val).trig.arm = .rearm ∧ (m.chan
    c.val).trig.rearmAt ≤ m.fabric ∧ m.on F.CH_TRIG_CTRL.ARM_MODE c.val = false ∧ freeSlot m c.val = none) ∧
  (∃ (s : State) (t : Stamp) (m : Kz) (c : Chan) (i : Nat), s.kz.advance t = m ∧ (m.chan c.val).trig.arm = .rearm ∧ (m.chan
    c.val).trig.rearmAt ≤ m.fabric ∧ (m.on F.CH_TRIG_CTRL.ARM_MODE c.val = false ∨ (m.chan c.val).trig.seqClosed < m.fld
    F.RGN_ACQ_CTRL.SEGS_M1 (c.val / 16) + 1) ∧ freeSlot m c.val = some i ∧ recPre m c.val ≠ 0) ∧
  (∃ (s : State) (t : Stamp) (m : Kz) (c : Chan) (i : Nat), s.kz.advance t = m ∧ (m.chan c.val).trig.arm = .rearm ∧ (m.chan
    c.val).trig.rearmAt ≤ m.fabric ∧ (m.on F.CH_TRIG_CTRL.ARM_MODE c.val = false ∨ (m.chan c.val).trig.seqClosed < m.fld
    F.RGN_ACQ_CTRL.SEGS_M1 (c.val / 16) + 1) ∧ freeSlot m c.val = some i ∧ recPre m c.val = 0) ∧
  (∃ (s : State) (t : Stamp) (m : Kz) (c : Chan) (p : Port) (v : Word) (i : Nat), s.kz.advance t = m ∧ Accepts m p
    .CH_TRIG_CTRL c.val v ∧ F.CH_TRIG_CTRL.ARM.of v = 1 ∧ m.inRun (c.val / 16) = true ∧ running m c.val = true ∧ m.on
    F.CH_MEM_CTRL.REC_EN c.val = true ∧ ((m.chan c.val).trig.arm = .stopped ∨ (m.chan c.val).trig.arm = .maskStopped) ∧
    ((acqMode m (c.val / 16) = 0 ∧ F.CH_TRIG_CTRL.ARM_MODE.of v = 0) ∨ acqMode m (c.val / 16) = 3) ∧ (m.chan
    c.val).trig.maskStop = false ∧ freeSlot m c.val = some i ∧ recPre m c.val ≠ 0) ∧
  (∃ (s : State) (t : Stamp) (m : Kz) (c : Chan) (p : Port) (v : Word) (i : Nat), s.kz.advance t = m ∧ Accepts m p
    .CH_TRIG_CTRL c.val v ∧ F.CH_TRIG_CTRL.ARM.of v = 1 ∧ m.inRun (c.val / 16) = true ∧ running m c.val = true ∧ m.on
    F.CH_MEM_CTRL.REC_EN c.val = true ∧ (((m.chan c.val).trig.maskStop = true ∧ ((m.chan c.val).trig.arm = .stopped ∨
    (m.chan c.val).trig.arm = .maskStopped) ∧ (acqMode m (c.val / 16) = 0 ∨ acqMode m (c.val / 16) = 3)) ∨ (acqMode m (c.val
    / 16) = 0 ∧ F.CH_TRIG_CTRL.ARM_MODE.of v = 1 ∧ ((m.chan c.val).trig.arm = .disarmed ∨ (m.chan c.val).trig.arm = .stopped
    ∨ (m.chan c.val).trig.arm = .maskStopped))) ∧ freeSlot (freeSegments m c.val) c.val = some i ∧ recPre m c.val ≠ 0) ∧
  (∃ (s : State) (t : Stamp) (m : Kz) (c : Chan) (p : Port) (v : Word), s.kz.advance t = m ∧ Accepts m p .CH_TRIG_CTRL c.val
    v ∧ F.CH_TRIG_CTRL.ARM.of v = 1 ∧ m.inRun (c.val / 16) = true ∧ running m c.val = true ∧ m.on F.CH_MEM_CTRL.REC_EN c.val
    = true ∧ ((m.chan c.val).trig.arm = .stopped ∨ (m.chan c.val).trig.arm = .maskStopped) ∧ ((acqMode m (c.val / 16) = 0 ∧
    F.CH_TRIG_CTRL.ARM_MODE.of v = 0) ∨ acqMode m (c.val / 16) = 3) ∧ (m.chan c.val).trig.maskStop = false ∧ freeSlot m
    c.val = none) ∧
  (∃ (s : State) (t : Stamp) (m : Kz) (c : Chan) (p : Port) (v : Word), s.kz.advance t = m ∧ Accepts m p .CH_TRIG_CTRL c.val
    v ∧ (m.chan c.val).trig.maskStop = false ∧ F.CH_TRIG_CTRL.ARM_MODE.of v = 0 ∧ (m.inRun (c.val / 16) = false ∨ running m
    c.val = false ∨ m.on F.CH_MEM_CTRL.REC_EN c.val = false ∨ (m.chan c.val).trig.arm = .disarmed)) :=
  ⟨
    ⟨wSt ((wRun 0 511 (fun x => x))), ⟨2000000, 6000000000⟩, _, 17, rfl, by decide⟩,
    ⟨wSt ((wRun 0 511 (fun x => { x with
      chain := { x.chain with start := some 900000 },
      trig := { x.trig with
          pending := [(3, 1900000000, 124000), (5, 1900000512, 124000), (6, 1800000000, 124001)],
          past := [(0, .filling)] } }))), ⟨2000000, 6000000000⟩, _, 17, 124000, 1900000000, rfl, by decide⟩,
    ⟨wSt ((wRun 0 511 (fun x => { x with
      chain := { x.chain with start := some 900000 },
      trig := { x.trig with
          pending := [(3, 1900000000, 124000), (5, 1900000512, 124000), (6, 1800000000, 124001)],
          past := [(0, .holdoff)] } }))), ⟨2000000, 6000000000⟩, _, 17, 124000, 1900000000, rfl, by decide⟩,
    ⟨wSt ((wRun 0 511 (fun x => { x with
      chain := { x.chain with start := some 900000 },
      trig := { x.trig with
          pending := [(3, 1900000000, 124000), (5, 1900000512, 124000), (6, 1899999990, 124001), (7, 1800000000, 124002)],
          past := [(2000000000, .record), (0, .armed)],
          arm := .holdoff } }))), ⟨2000000, 6000000000⟩, _, 17, 124000, 1900000000, 1899999990, rfl, by decide⟩,
    ⟨wSt ((wRun 0 511 (fun x => { x with
      chain := { x.chain with start := some 900000 },
      trig := { x.trig with
          pending := [(3, 1900000000, 124000), (5, 1900000512, 124000), (6, 1800000000, 124001)],
          past := [(0, .maskStopped)] } }))), ⟨2000000, 6000000000⟩, _, 17, 124000, 1900000000, rfl, by decide⟩,
    ⟨wSt ((wRun 0 511 (fun x => { x with
      chain := { x.chain with start := some 900000 },
      trig := { x.trig with
          pending := [(3, 1900000000, 124000), (5, 1900000512, 124000), (6, 1800000000, 124001)],
          past := [(0, .record)],
          openCycle := some 115969 } }))), ⟨2000000, 6000000000⟩, _, 17, 124000, 1900000000, rfl, by decide⟩,
    ⟨wSt ((wRun 0 511 (fun x => { x with
      chain := { x.chain with start := some 900000 },
      trig := { x.trig with
          pending := [(3, 1900000000, 124000), (5, 1900000512, 124000), (6, 1899999990, 124001), (7, 1800000000, 124002)],
          past := [(0, .armed)],
          openCycle := some 115969 } }))), ⟨2000000, 6000000000⟩, _, 17, 124000, 1900000000, rfl, by decide⟩,
    ⟨wSt ((wRun 0 511 (fun x => { x with
      chain := { x.chain with start := some 900000 },
      trig := { x.trig with
          pending := [(3, 1900000000, 124000), (5, 1900000512, 124000), (6, 1899999990, 124001), (7, 1800000000, 124002)],
          past := [(0, .armed)],
          arm := .armed } }))|>.setFld F.CH_REC_WIN.LEN 17 4 |>.setFld F.CH_REC_WIN.PRE 17 1), ⟨2000000, 6000000000⟩, _, 17,
    124000, 1900000000, 1899999990, rfl, by decide⟩,
    ⟨wSt ((wRun 0 511 (fun x => { x with
      chain := { x.chain with start := some 900000 },
      trig := { x.trig with
          pending := [(3, 1900000000, 124000), (5, 1900000512, 124000), (6, 1899999990, 124001), (7, 1800000000, 124002)],
          past := [(0, .armed)],
          arm := .armed } }))|>.setFld F.CH_REC_WIN.LEN 17 4 |>.setFld F.CH_REC_WIN.PRE 17 1 |>.setFld
    F.CH_TRIG_HOLD.HOLDOFF 17 5 |>.setFld F.CH_TRIG_CTRL.HO_MODE 17 1 |>.modMem 17 (fun y => { y with
      used := [1, 2],
      writing := some 2,
      open_ := (upTo 4).map (fun i => {
          kind := .triggered,
          ser := 0,
          time := ⟨none, none, 0, 0⟩,
          idx := i,
          len := 4,
          first := i,
          last := i,
          refPos := 0,
          refIdx := 0,
          ref := i,
          slot := none,
          extracting := true,
          flags := 0 }) })), ⟨2000000, 6000000000⟩, _, 17, 124000, 1900000000, 1899999990, 2, rfl, by decide⟩,
    ⟨wSt ((wRun 0 511 (fun x => { x with
      chain := { x.chain with start := some 900000 },
      trig := { x.trig with
          pending := [(3, 1900000000, 124000), (5, 1900000512, 124000), (6, 1899999990, 124001), (7, 1800000000, 124002)],
          past := [(1950000000, .maskStopped), (0, .armed)],
          arm := .maskStopped,
          maskStop := true } }))), ⟨2000000, 6000000000⟩, _, 17, 124000, 1900000000, 1899999990, rfl, by decide⟩,
    ⟨wSt ((wRun 3 511 (fun x => { x with
      chain := { x.chain with start := some 900000 },
      trig := { x.trig with
          pending := [(3, 1900000000, 124000), (5, 1900000512, 124000), (6, 1899999990, 124001), (7, 1800000000, 124002)],
          past := [(1950000000, .maskStopped), (0, .armed)],
          arm := .maskStopped,
          maskStop := true } }))), ⟨2000000, 6000000000⟩, _, 17, 124000, 1900000000, 1899999990, rfl, by decide⟩,
    ⟨wSt ((wRun 0 0 (fun x => { x with
      chain := { x.chain with start := some 900000 },
      trig := { x.trig with arm := .filling, fillFrom := 3 } }))|>.setFld F.CH_REC_WIN.PRE 17 2), ⟨2000000, 6000000000⟩, _,
    17, rfl, by decide⟩,
    ⟨wSt ((wRun 0 0 (fun x => { x with
      chain := { x.chain with start := some 900000 },
      trig := { x.trig with arm := .holdoff, holding := true, holdInst := 1900000000 } }))|>.setFld F.CH_TRIG_HOLD.HOLDOFF
    17 20), ⟨2000000, 6000000000⟩, _, 17, rfl, by decide⟩,
    ⟨wSt ((wRun 0 0 (fun x => { x with
      chain := { x.chain with start := some 900000 },
      trig := { x.trig with arm := .holdoff, holding := true, holdCount := 20 } }))|>.setFld F.CH_TRIG_HOLD.HOLDOFF 17 20
    |>.setFld F.CH_TRIG_CTRL.HO_MODE 17 1), ⟨2000000, 6000000000⟩, _, 17, rfl, by decide⟩,
    ⟨wSt ((wRun 0 0 (fun x => { x with
      chain := { x.chain with start := some 900000 },
      trig := { x.trig with arm := .record, holding := true, holdCount := 20 } }))|>.setFld F.CH_TRIG_HOLD.HOLDOFF 17 20
    |>.setFld F.CH_TRIG_CTRL.HO_MODE 17 1), ⟨2000000, 6000000000⟩, _, 17, rfl, by decide⟩,
    ⟨wSt ((wRun 0 0 (fun x => { x with
      chain := { x.chain with start := some 900000 },
      trig := { x.trig with arm := .rearm, rearmAt := 125000, seqClosed := 4 } }))|>.setFld F.RGN_ACQ_CTRL.SEGS_M1 1 3
    |>.setFld F.CH_TRIG_CTRL.ARM_MODE 17 1), ⟨2000000, 6000000000⟩, _, 17, rfl, by decide⟩,
    ⟨wSt ((wRun 0 0 (fun x => { x with trig := { x.trig with arm := .rearm, rearmAt := 125000 } })) |>.modMem 17 (fun y => { y with
      used := [0, 1, 2, 3] })), ⟨2000000, 6000000000⟩, _, 17, rfl, by decide⟩,
    ⟨wSt ((wRun 0 0 (fun x => { x with
      chain := { x.chain with start := some 900000 },
      trig := { x.trig with arm := .rearm, rearmAt := 125000 } }))|>.setFld F.CH_REC_WIN.PRE 17 2), ⟨2000000, 6000000000⟩,
    _, 17, 0, rfl, by decide⟩,
    ⟨wSt ((wRun 0 0 (fun x => { x with
      chain := { x.chain with start := some 900000 },
      trig := { x.trig with arm := .rearm, rearmAt := 125000 } }))|>.setFld F.CH_REC_WIN.PRE 17 0), ⟨2000000, 6000000000⟩,
    _, 17, 0, rfl, by decide⟩,
    ⟨wSt ((wRun 0 1 (fun x => { x with
      chain := { x.chain with start := some 900000 },
      trig := { x.trig with arm := .stopped } })) |>.modMem 17 (fun y => { y with used := [1, 0], kept := [0] }) |>.setFld
    F.CH_REC_WIN.PRE 17 2), ⟨2000000, 6000000000⟩, _, 17, 0, BitVec.ofNat 32 ((Kz.resetWord .CH_TRIG_CTRL).toNat |||
    F.CH_TRIG_CTRL.ARM.put 1), 2, rfl, by decide⟩,
    ⟨wSt ((wRun 0 1 (fun x => { x with
      chain := { x.chain with start := some 900000 },
      trig := { x.trig with arm := .disarmed } })) |>.modMem 17 (fun y => { y with used := [0, 1, 2, 3], kept := [1, 0] })
    |>.setFld F.CH_REC_WIN.PRE 17 2 |>.setFld F.CH_TRIG_CTRL.ARM_MODE 17 1), ⟨2000000, 6000000000⟩, _, 17, 0, BitVec.ofNat
    32 ((Kz.resetWord .CH_TRIG_CTRL).toNat ||| F.CH_TRIG_CTRL.ARM.put 1 ||| F.CH_TRIG_CTRL.ARM_MODE.put 1), 0, rfl, by
    decide⟩,
    ⟨wSt ((wRun 0 1 (fun x => { x with
      chain := { x.chain with start := some 900000 },
      trig := { x.trig with arm := .stopped } })) |>.modMem 17 (fun y => { y with used := [1, 0, 3, 2], kept := [0] })),
    ⟨2000000, 6000000000⟩, _, 17, 0, BitVec.ofNat 32 ((Kz.resetWord .CH_TRIG_CTRL).toNat ||| F.CH_TRIG_CTRL.ARM.put 1), rfl,
    by decide⟩,
    ⟨wSt (wKz .acquire), ⟨2000000, 6000000000⟩, _, 17, 0, BitVec.ofNat 32 ((Kz.resetWord .CH_TRIG_CTRL).toNat |||
    F.CH_TRIG_CTRL.ARM.put 1), rfl, by decide⟩⟩

/-- Witness of the hypotheses of ComparatorsAndCombiner. -/
theorem witness_ComparatorsAndCombiner :
  (∃ (s : State) (t : Stamp) (m : Kz) (c : Chan) (second : Bool) (q : Met), s.kz.advance t = m ∧ (m.chan
    c.val).trig.found.find? (fun f => decide (f.second = second)) = some q ∧ (m.chan c.val).trig.termUntil ≠ q.cycle + max 1
    (m.fld F.RGN_PATTERN.COINC (c.val / 16)) ∧ ((m.fld F.CH_TRIG_CTRL.COMB c.val = 0 ∧ second = false) ∨ (m.fld
    F.CH_TRIG_CTRL.COMB c.val = 1 ∧ second = true) ∨ m.fld F.CH_TRIG_CTRL.COMB c.val = 2)) ∧
  (∃ (s : State) (t : Stamp) (m : Kz) (c : Chan) (second : Bool) (q : Met), s.kz.advance t = m ∧ (m.chan
    c.val).trig.found.find? (fun f => decide (f.second = second)) = some q ∧ ((m.fld F.CH_TRIG_CTRL.COMB c.val = 0 ∧ second
    = true) ∨ (m.fld F.CH_TRIG_CTRL.COMB c.val = 1 ∧ second = false))) ∧
  (∃ (s : State) (t : Stamp) (m : Kz) (c : Chan) (second : Bool) (q : Met) (y : List Nat), s.kz.advance t = m ∧ (m.chan
    c.val).trig.found.find? (fun f => decide (f.second = second)) = some q ∧ (m.chan c.val).trig.termUntil = q.cycle + max 1
    (m.fld F.RGN_PATTERN.COINC (c.val / 16)) ∧ (m.chan c.val).trig.tiuOut = y ++ [(m.chan c.val).trig.termInst] ∧ m.fld
    F.CH_TRIG_CTRL.COMB c.val = 2) ∧
  (∃ (s : State) (t : Stamp) (m : Kz) (c : Chan) (second : Bool) (q : Met) (y : Qual), s.kz.advance t = m ∧ (m.chan
    c.val).trig.found.find? (fun f => decide (f.second = second)) = some q ∧ (m.chan c.val).trig.termUntil ≠ q.cycle + max 1
    (m.fld F.RGN_PATTERN.COINC (c.val / 16)) ∧ m.fld F.CH_TRIG_CTRL.COMB c.val = 3 ∧ second = false ∧ (m.chan
    c.val).trig.qualsB.reverse.find? (fun z => decide (max z.cycle q.cycle - min z.cycle q.cycle < max 1 (m.fld
    F.CH_TRIG_CTRL.COINC c.val))) = some y) ∧
  (∃ (s : State) (t : Stamp) (m : Kz) (c : Chan) (second : Bool) (q : Met) (y : Qual), s.kz.advance t = m ∧ (m.chan
    c.val).trig.found.find? (fun f => decide (f.second = second)) = some q ∧ (m.chan c.val).trig.termUntil ≠ q.cycle + max 1
    (m.fld F.RGN_PATTERN.COINC (c.val / 16)) ∧ m.fld F.CH_TRIG_CTRL.COMB c.val = 3 ∧ second = true ∧ (m.chan
    c.val).trig.qualsA.reverse.find? (fun z => decide (max z.cycle q.cycle - min z.cycle q.cycle < max 1 (m.fld
    F.CH_TRIG_CTRL.COINC c.val))) = some y) ∧
  (∃ (s : State) (t : Stamp) (m : Kz) (c : Chan) (second : Bool) (q : Met), s.kz.advance t = m ∧ (m.chan
    c.val).trig.found.find? (fun f => decide (f.second = second)) = some q ∧ second = false ∧ ((m.fld F.CH_TRIG_CTRL.COMB
    c.val = 3 ∧ ∀ z ∈ (m.chan c.val).trig.qualsB, decide (max z.cycle q.cycle - min z.cycle q.cycle < max 1 (m.fld
    F.CH_TRIG_CTRL.COINC c.val)) = false) ∨ (m.fld F.CH_TRIG_CTRL.COMB c.val = 4 ∧ ∀ z ∈ (m.chan c.val).trig.qualsB, z.cycle
    ≠ q.cycle ∨ z.inst < q.inst))) ∧
  (∃ (s : State) (t : Stamp) (m : Kz) (c : Chan) (second : Bool) (q : Met), s.kz.advance t = m ∧ (m.chan
    c.val).trig.found.find? (fun f => decide (f.second = second)) = some q ∧ second = true ∧ ((m.fld F.CH_TRIG_CTRL.COMB
    c.val = 3 ∧ ∀ z ∈ (m.chan c.val).trig.qualsA, decide (max z.cycle q.cycle - min z.cycle q.cycle < max 1 (m.fld
    F.CH_TRIG_CTRL.COINC c.val)) = false) ∨ (m.fld F.CH_TRIG_CTRL.COMB c.val = 4 ∧ ∀ z ∈ (m.chan c.val).trig.qualsA, decide
    (max z.cycle q.cycle - min z.cycle q.cycle < max 1 (m.fld F.CH_TRIG_CTRL.COINC c.val)) = false ∨ q.cycle < z.cycle ∨
    q.inst < z.inst))) ∧
  (∃ (s : State) (t : Stamp) (m : Kz) (c : Chan) (second : Bool) (q : Met) (y : Qual), s.kz.advance t = m ∧ (m.chan
    c.val).trig.found.find? (fun f => decide (f.second = second)) = some q ∧ (m.chan c.val).trig.termUntil ≠ q.cycle + max 1
    (m.fld F.RGN_PATTERN.COINC (c.val / 16)) ∧ m.fld F.CH_TRIG_CTRL.COMB c.val = 4 ∧ second = true ∧ (m.chan
    c.val).trig.qualsA.reverse.find? (fun z => decide (max z.cycle q.cycle - min z.cycle q.cycle < max 1 (m.fld
    F.CH_TRIG_CTRL.COINC c.val)) && decide (z.cycle ≤ q.cycle) && decide (z.inst ≤ q.inst)) = some y) ∧
  (∃ (s : State) (t : Stamp) (m : Kz) (c : Chan) (second : Bool) (q : Met) (y : Qual), s.kz.advance t = m ∧ (m.chan
    c.val).trig.found.find? (fun f => decide (f.second = second)) = some q ∧ (m.chan c.val).trig.termUntil ≠ q.cycle + max 1
    (m.fld F.RGN_PATTERN.COINC (c.val / 16)) ∧ m.fld F.CH_TRIG_CTRL.COMB c.val = 4 ∧ second = false ∧ (m.chan
    c.val).trig.qualsB.reverse.find? (fun z => decide (z.cycle = q.cycle) && decide (q.inst ≤ z.inst)) = some y) ∧
  (∃ (s : State) (t : Stamp) (m : Kz) (c : Chan) (second : Bool), s.kz.advance t = m ∧ (∀ f ∈ (m.chan c.val).trig.found,
    f.second ≠ second)) :=
  ⟨
    ⟨wSt ((wRun 0 1 (fun x => { x with
      chain := { x.chain with start := some 900000 },
      trig := { x.trig with found := [⟨true, 7, 3⟩, ⟨false, 1000, 500⟩], arm := .armed } })) |>.setFld F.CH_TRIG_CTRL.SRC_EN
    17 1), ⟨2000000, 6000000000⟩, _, 17, false, ⟨false, 1000, 500⟩, rfl, by decide⟩,
    ⟨wSt ((wRun 0 1 (fun x => { x with
      chain := { x.chain with start := some 900000 },
      trig := { x.trig with found := [⟨true, 7, 3⟩, ⟨false, 1000, 500⟩], arm := .armed } })) |>.setFld F.CH_TRIG_CTRL.SRC_EN
    17 1 |>.setFld F.CH_TRIG_CTRL.COMB 17 1), ⟨2000000, 6000000000⟩, _, 17, false, ⟨false, 1000, 500⟩, rfl, by decide⟩,
    ⟨wSt ((wRun 0 1 (fun x => { x with
      chain := { x.chain with start := some 900000 },
      trig := { x.trig with
          found := [⟨true, 7, 3⟩, ⟨false, 1000, 500⟩],
          termUntil := 501,
          termInst := 1024,
          tiuOut := [5, 1024] } })) |>.setFld F.CH_TRIG_CTRL.SRC_EN 17 1 |>.setFld F.CH_TRIG_CTRL.COMB 17 2), ⟨2000000,
    6000000000⟩, _, 17, false, ⟨false, 1000, 500⟩, [5], rfl, by decide⟩,
    ⟨wSt ((wRun 0 1 (fun x => { x with
      chain := { x.chain with start := some 900000 },
      trig := { x.trig with found := [⟨true, 7, 3⟩, ⟨false, 1000, 500⟩], qualsB := [⟨9, 3⟩, ⟨10, 498⟩, ⟨11, 57⟩] } }))
    |>.setFld F.CH_TRIG_CTRL.SRC_EN 17 1 |>.setFld F.CH_TRIG_CTRL.COMB 17 3 |>.setFld F.CH_TRIG_CTRL.COINC 17 5), ⟨2000000,
    6000000000⟩, _, 17, false, ⟨false, 1000, 500⟩, ⟨10, 498⟩, rfl, by decide⟩,
    ⟨wSt ((wRun 0 1 (fun x => { x with
      chain := { x.chain with start := some 900000 },
      trig := { x.trig with found := [⟨false, 7, 3⟩, ⟨true, 1000, 500⟩], qualsA := [⟨9, 3⟩, ⟨10, 498⟩, ⟨11, 57⟩] } }))
    |>.setFld F.CH_TRIG_CTRL.SRC_EN 17 1 |>.setFld F.CH_TRIG_CTRL.COMB 17 3 |>.setFld F.CH_TRIG_CTRL.COINC 17 5), ⟨2000000,
    6000000000⟩, _, 17, true, ⟨true, 1000, 500⟩, ⟨10, 498⟩, rfl, by decide⟩,
    ⟨wSt ((wRun 0 1 (fun x => { x with
      chain := { x.chain with start := some 900000 },
      trig := { x.trig with found := [⟨true, 7, 3⟩, ⟨false, 1000, 500⟩], qualsA := [⟨4, 4⟩] } })) |>.setFld
    F.CH_TRIG_CTRL.SRC_EN 17 1 |>.setFld F.CH_TRIG_CTRL.COMB 17 4), ⟨2000000, 6000000000⟩, _, 17, false, ⟨false, 1000, 500⟩,
    rfl, by decide⟩,
    ⟨wSt ((wRun 0 1 (fun x => { x with
      chain := { x.chain with start := some 900000 },
      trig := { x.trig with found := [⟨false, 7, 3⟩, ⟨true, 1000, 500⟩], qualsB := [⟨4, 4⟩] } })) |>.setFld
    F.CH_TRIG_CTRL.SRC_EN 17 1 |>.setFld F.CH_TRIG_CTRL.COMB 17 3), ⟨2000000, 6000000000⟩, _, 17, true, ⟨true, 1000, 500⟩,
    rfl, by decide⟩,
    ⟨wSt ((wRun 0 1 (fun x => { x with
      chain := { x.chain with start := some 900000 },
      trig := { x.trig with found := [⟨false, 7, 3⟩, ⟨true, 1000, 500⟩], qualsA := [⟨900, 490⟩] } })) |>.setFld
    F.CH_TRIG_CTRL.SRC_EN 17 1 |>.setFld F.CH_TRIG_CTRL.COMB 17 4 |>.setFld F.CH_TRIG_CTRL.COINC 17 20), ⟨2000000,
    6000000000⟩, _, 17, true, ⟨true, 1000, 500⟩, ⟨900, 490⟩, rfl, by decide⟩,
    ⟨wSt ((wRun 0 1 (fun x => { x with
      chain := { x.chain with start := some 900000 },
      trig := { x.trig with found := [⟨true, 7, 3⟩, ⟨false, 1000, 500⟩], qualsB := [⟨1001, 500⟩] } })) |>.setFld
    F.CH_TRIG_CTRL.SRC_EN 17 1 |>.setFld F.CH_TRIG_CTRL.COMB 17 4 |>.setFld F.CH_TRIG_CTRL.COINC 17 20), ⟨2000000,
    6000000000⟩, _, 17, false, ⟨false, 1000, 500⟩, ⟨1001, 500⟩, rfl, by decide⟩,
    ⟨wSt ((wRun 0 1 (fun x => { x with
      chain := { x.chain with start := some 900000 },
      trig := { x.trig with found := [⟨false, 7, 3⟩] } }))), ⟨2000000, 6000000000⟩, _, 17, true, rfl, by decide⟩⟩

/-- Witness of the hypotheses of PatternsAndTriggerSources. -/
theorem witness_PatternsAndTriggerSources :
  (∃ (s : State) (t : Stamp) (m : Kz) (p : Port) (v : Word) (k : Rgn), s.kz.advance t = m ∧ Accepts m p .RGN_SOFT_TRIG k.val
    v) ∧
  (∃ (s : State) (t : Stamp) (m : Kz) (k : Rgn), s.kz.advance t = m ∧ patternNow m k.val = true ∧ (m.rgn k.val).acq.pattern
    = false) ∧
  (∃ (s : State) (t : Stamp) (m : Kz) (k : Rgn), s.kz.advance t = m ∧ (patternNow m k.val = false ∨ (m.rgn
    k.val).acq.pattern = true)) ∧
  (∃ (s : State) (t : Stamp) (m : Kz) (cyc : Nat), s.kz.advance t = m ∧ termCycle m = cyc ∧ modPattern m cyc
    F.MOD_PATTERN.EN ≠ 0 ∧ modPattern m cyc F.MOD_PATTERN.MODE ≠ 0 ∧ modPattern m cyc F.MOD_PATTERN.REGION_MASK ≠ 0 ∧ (∀ k :
    Nat, k < 12 → (modPattern m cyc F.MOD_PATTERN.REGION_MASK).testBit k = true → m.rstate k ≠ .down ∧ (Sparse.get (0,
    false, 0) m.hub.regionTerm k).1 = cyc ∧ (Sparse.get (0, false, 0) m.hub.regionTerm k).2.1 = true) ∧ m.hub.modState =
    false) ∧
  (∃ (s : State) (t : Stamp) (m : Kz) (cyc : Nat) (i : Nat) (r : Nat), s.kz.advance t = m ∧ termCycle m = cyc ∧ modPattern m
    cyc F.MOD_PATTERN.EN ≠ 0 ∧ modPattern m cyc F.MOD_PATTERN.MODE = 0 ∧ r ∈ (upTo 12).filter (fun k => (modPattern m cyc
    F.MOD_PATTERN.REGION_MASK).testBit k) ∧ m.rstate r ≠ .down ∧ (Sparse.get (0, false, 0) m.hub.regionTerm r) = (cyc, true,
    i) ∧ (∀ k ∈ (upTo 12).filter (fun k => (modPattern m cyc F.MOD_PATTERN.REGION_MASK).testBit k), m.rstate k ≠ .down →
    (Sparse.get (0, false, 0) m.hub.regionTerm k).1 = cyc → (Sparse.get (0, false, 0) m.hub.regionTerm k).2.1 = true → i ≤
    (Sparse.get (0, false, 0) m.hub.regionTerm k).2.2) ∧ m.hub.modState = false) ∧
  (∃ (s : State) (t : Stamp) (m : Kz) (cyc : Nat), s.kz.advance t = m ∧ termCycle m = cyc ∧ (modPattern m cyc
    F.MOD_PATTERN.EN = 0 ∨ ∀ k ∈ (upTo 12).filter (fun k => (modPattern m cyc F.MOD_PATTERN.REGION_MASK).testBit k),
    (Sparse.get (0, false, 0) m.hub.regionTerm k).1 ≠ cyc ∨ (Sparse.get (0, false, 0) m.hub.regionTerm k).2.1 = false)) ∧
  (∃ (s : State) (t : Stamp) (m : Kz) (x : Fin 2) (falling : Bool) (inst : Nat), s.kz.advance t = m ∧ ((m.on (if x.val = 0
    then F.MOD_XTRIG_CTRL.EN0 else F.MOD_XTRIG_CTRL.EN1) 0) = true) ∧ ((m.fld (if x.val = 0 then F.MOD_XTRIG_CTRL.EDGE0 else
    F.MOD_XTRIG_CTRL.EDGE1) 0) = 2 ∨ (m.fld (if x.val = 0 then F.MOD_XTRIG_CTRL.EDGE0 else F.MOD_XTRIG_CTRL.EDGE1) 0) = b2n
    falling) ∧ inst ≤ m.inst ∧ (∀ l ∈ (if x.val = 0 then m.hub.xtrigLast0 else m.hub.xtrigLast1), 16 * 1024 * sampleHz m ≤
    (inst - l) * 10000000000) ∧ m.inst ≤ inst / 32 * 32 + jdelay m) ∧
  (∃ (s : State) (t : Stamp) (m : Kz) (x : Fin 2) (falling : Bool) (inst : Nat) (l : Nat), s.kz.advance t = m ∧ ((m.on (if
    x.val = 0 then F.MOD_XTRIG_CTRL.EN0 else F.MOD_XTRIG_CTRL.EN1) 0) = true) ∧ ((m.fld (if x.val = 0 then
    F.MOD_XTRIG_CTRL.EDGE0 else F.MOD_XTRIG_CTRL.EDGE1) 0) = 2 ∨ (m.fld (if x.val = 0 then F.MOD_XTRIG_CTRL.EDGE0 else
    F.MOD_XTRIG_CTRL.EDGE1) 0) = b2n falling) ∧ inst ≤ m.inst ∧ ((if x.val = 0 then m.hub.xtrigLast0 else m.hub.xtrigLast1)
    = some l) ∧ (inst - l) * 10000000000 < 16 * 1024 * sampleHz m) ∧
  (∃ (s : State) (t : Stamp) (m : Kz) (x : Fin 2) (falling : Bool), s.kz.advance t = m ∧ (m.on (if x.val = 0 then
    F.MOD_XTRIG_CTRL.EN0 else F.MOD_XTRIG_CTRL.EN1) 0 = false ∨ ((m.fld (if x.val = 0 then F.MOD_XTRIG_CTRL.EDGE0 else
    F.MOD_XTRIG_CTRL.EDGE1) 0) ≠ 2 ∧ (m.fld (if x.val = 0 then F.MOD_XTRIG_CTRL.EDGE0 else F.MOD_XTRIG_CTRL.EDGE1) 0) ≠ b2n
    falling))) :=
  ⟨
    ⟨wSt ((wRun 0 32 (fun x => x))), ⟨2000000, 6000000000⟩, _, 0, 0xFFFF, 1, rfl, by decide⟩,
    ⟨wSt ((wRun 0 2 (fun x => { x with
      chain := { x.chain with start := some 900000 },
      trig := { x.trig with termInst := 77, termUntil := 9000000 } })) |>.setFld F.RGN_PATTERN.EN 1 1 |>.setFld
    F.RGN_PATTERN.MODE 1 1 |>.setFld F.RGN_PATTERN.CH_MASK 1 2), ⟨2000000, 6000000000⟩, _, 1, rfl, by decide⟩,
    ⟨wSt ((wRun 0 2 (fun x => { x with
      chain := { x.chain with start := some 900000 },
      trig := { x.trig with termInst := 77, termUntil := 9 } })) |>.setFld F.RGN_PATTERN.EN 1 1 |>.setFld F.RGN_PATTERN.MODE
    1 1 |>.setFld F.RGN_PATTERN.CH_MASK 1 2 |>.modAcq 1 (fun a => { a with pattern := true })), ⟨2000000, 6000000000⟩, _, 1,
    rfl, by decide⟩,
    ⟨wSt ((wRun 0 2 (fun x => x)) |>.setFld F.MOD_PATTERN.EN 0 1 |>.setFld F.MOD_PATTERN.MODE 0 1 |>.setFld
    F.MOD_PATTERN.REGION_MASK 0 3 |>.modPwr 0 (fun p => { p with state := .cal }) |>.modHub (fun h => { h with
      regionTerm := [(1, (9000, true, 55)), (0, (9000, true, 54)), (3, (9000, false, 54))] })), ⟨2000000, 6000000000⟩, _,
    9000, rfl, by decide⟩,
    ⟨wSt ((wRun 0 2 (fun x => x)) |>.setFld F.MOD_PATTERN.EN 0 1 |>.setFld F.MOD_PATTERN.MODE 0 0 |>.setFld
    F.MOD_PATTERN.REGION_MASK 0 3 |>.modPwr 0 (fun p => { p with state := .cal }) |>.modHub (fun h => { h with
      regionTerm := [(1, (9000, true, 55)), (0, (8999, true, 54))] })), ⟨2000000, 6000000000⟩, _, 9000, 55, 1, rfl, by
    decide⟩,
    ⟨wSt ((wRun 0 2 (fun x => x)) |>.modHub (fun h => { h with modState := true })), ⟨2000000, 6000000000⟩, _, 0, rfl, by
    decide⟩,
    ⟨wSt ((wRun 0 2 (fun x => x)) |>.setFld F.MOD_XTRIG_CTRL.EN1 0 1 |>.setFld F.MOD_XTRIG_CTRL.EDGE1 0 1 |>.modHub (fun h
    => { h with xtrigLast1 := some 5 })), ⟨2000000, 6000000000⟩, _, 1, true, 2048000000, rfl, by decide⟩,
    ⟨wSt ((wRun 0 2 (fun x => x)) |>.setFld F.MOD_XTRIG_CTRL.EN0 0 1 |>.setFld F.MOD_XTRIG_CTRL.EDGE0 0 2 |>.modHub (fun h
    => { h with xtrigLast0 := some 2047999000 })), ⟨2000000, 6000000000⟩, _, 0, true, 2048000000, 2047999000, rfl, by
    decide⟩,
    ⟨wSt ((wRun 0 2 (fun x => x))), ⟨2000000, 6000000000⟩, _, 0, true, rfl, by decide⟩⟩

/-- Witness of the hypotheses of ComparatorTypes, for each type. -/
theorem witness_ComparatorTypes : ∀ ty ∈ [0, 1, 2, 3, 4, 5, 6, 7], ∃ m : Kz, m.fld F.RGN_TRIG_PROF_CFG.TYPE 4 = ty ∧
    m.fld F.RGN_TRIG_PROF_CFG.POL 4 = 0 ∧ ∃ (ys zs : List (Crossing × Nat)), ys ≠ [] ∧ zs ≠ [] ∧
      (∀ y ∈ ys ++ zs, y.1.zero = false) ∧ (∀ y ∈ ys, y.1.low = true) ∧ ∀ y ∈ zs, y.1.low = false := by
  intro ty h
  refine ⟨((wKz .ready).setFld F.RGN_TRIG_PROF_CFG.TYPE 4 ty).setFld F.RGN_TRIG_PROF_CFG.POL 4 0, ?_⟩
  have e : ∃ (ys zs : List (Crossing × Nat)), ys ≠ [] ∧ zs ≠ [] ∧
      (∀ y ∈ ys ++ zs, y.1.zero = false) ∧ (∀ y ∈ ys, y.1.low = true) ∧ ∀ y ∈ zs, y.1.low = false :=
    ⟨[(⟨true, false, true, 3⟩, 5)], [(⟨false, false, true, 3⟩, 5)], by decide⟩
  simp only [List.mem_cons, List.not_mem_nil, or_false] at h
  rcases h with rfl | rfl | rfl | rfl | rfl | rfl | rfl | rfl <;> exact ⟨by decide, by decide, e⟩

/-- Witness of the hypotheses of RecordsClose. -/
theorem witness_RecordsClose :
  (∃ (s : State) (t : Stamp) (m : Kz) (c : Chan) (d : RecData) (r : OpenRec), s.kz.advance t = m ∧ (m.chan
    c.val).mem.open_[d.which]? = some r ∧ r.extracting = true ∧ r.last + delay m c.val ≤ m.inst ∧ d.lostDescriptor = false ∧
    r.kind ≠ .triggered) ∧
  (∃ (s : State) (t : Stamp) (m : Kz) (c : Chan) (d : RecData) (r : OpenRec), s.kz.advance t = m ∧ (m.chan
    c.val).mem.open_[d.which]? = some r ∧ r.extracting = true ∧ r.last + delay m c.val ≤ m.inst ∧ d.lostDescriptor = false ∧
    r.kind = .triggered ∧ (m.chan c.val).trig.arm = .record ∧ ((m.chan c.val).trig.holding = false ∨ holdOver m c.val r.last
    = true)) ∧
  (∃ (s : State) (t : Stamp) (m : Kz) (c : Chan) (d : RecData) (r : OpenRec), s.kz.advance t = m ∧ (m.chan
    c.val).mem.open_[d.which]? = some r ∧ r.extracting = true ∧ r.last + delay m c.val ≤ m.inst ∧ d.lostDescriptor = false ∧
    r.kind = .triggered ∧ (m.chan c.val).trig.arm = .record ∧ (m.chan c.val).trig.holding = true ∧ holdOver m c.val r.last =
    false) ∧
  (∃ (s : State) (t : Stamp) (m : Kz) (c : Chan) (d : RecData) (r : OpenRec), s.kz.advance t = m ∧ (m.chan
    c.val).mem.open_[d.which]? = some r ∧ r.extracting = true ∧ r.last + delay m c.val ≤ m.inst ∧ d.lostDescriptor = false ∧
    r.kind = .triggered ∧ (m.chan c.val).trig.arm ≠ .record) ∧
  (∃ (s : State) (t : Stamp) (m : Kz) (c : Chan) (d : RecData) (r : OpenRec) (i : Nat), s.kz.advance t = m ∧ (m.chan
    c.val).mem.open_[d.which]? = some r ∧ r.extracting = true ∧ r.last + delay m c.val ≤ m.inst ∧ d.lostDescriptor = true ∧
    acqMode m (c.val / 16) ≠ 3 ∧ r.kind ≠ .triggered ∧ r.slot = some i) ∧
  (∃ (s : State) (t : Stamp) (m : Kz) (c : Chan) (d : RecData) (r : OpenRec), s.kz.advance t = m ∧ (m.chan
    c.val).mem.open_[d.which]? = some r ∧ (r.extracting = false ∨ m.inst < r.last + delay m c.val)) :=
  ⟨
    ⟨wSt ((wRun 1 0x1FF (fun x => { x with
      chain := { x.chain with start := some 900000 },
      mem := { x.mem with
          slots := 4,
          slotSize := 4096,
          open_ := [{
              kind := .accept,
              ser := 3,
              time := ⟨some 5, none, 7, 0⟩,
              idx := 100,
              len := 2,
              first := 924262400,
              last := 924263424,
              refPos := 1024,
              refIdx := 1,
              ref := 924262400,
              slot := some 2,
              extracting := true,
              flags := 0 }] } }))), ⟨2000000, 6000000000⟩, _, 17, {
      which := 0,
      corrected := 0,
      lostWords := [],
      lostDescriptor := false }, {
      kind := .accept,
      ser := 3,
      time := ⟨some 5, none, 7, 0⟩,
      idx := 100,
      len := 2,
      first := 924262400,
      last := 924263424,
      refPos := 1024,
      refIdx := 1,
      ref := 924262400,
      slot := some 2,
      extracting := true,
      flags := 0 }, rfl, by decide⟩,
    ⟨wSt ((wRun 0 0x1FF (fun x => { x with
      chain := { x.chain with start := some 900000 },
      trig := { x.trig with arm := .record, holding := true, holdInst := 924000000 },
      mem := { x.mem with
          slots := 4,
          slotSize := 4096,
          open_ := [{
              kind := .triggered,
              ser := 3,
              time := ⟨some 5, none, 7, 0⟩,
              idx := 100,
              len := 2,
              first := 924262400,
              last := 924263424,
              refPos := 1024,
              refIdx := 1,
              ref := 924262400,
              slot := some 2,
              extracting := true,
              flags := 0 }],
          store := [⟨101, -7, true⟩, ⟨100, 5, false⟩] } }))), ⟨2000000, 6000000000⟩, _, 17, {
      which := 0,
      corrected := 3,
      lostWords := [0],
      lostDescriptor := false }, {
      kind := .triggered,
      ser := 3,
      time := ⟨some 5, none, 7, 0⟩,
      idx := 100,
      len := 2,
      first := 924262400,
      last := 924263424,
      refPos := 1024,
      refIdx := 1,
      ref := 924262400,
      slot := some 2,
      extracting := true,
      flags := 0 }, rfl, by decide⟩,
    ⟨wSt ((wRun 0 0x1FF (fun x => { x with
      chain := { x.chain with start := some 900000 },
      trig := { x.trig with arm := .record, holding := true, holdInst := 924000000 },
      mem := { x.mem with
          slots := 4,
          slotSize := 4096,
          open_ := [{
              kind := .triggered,
              ser := 3,
              time := ⟨some 5, none, 7, 0⟩,
              idx := 100,
              len := 2,
              first := 924262400,
              last := 924263424,
              refPos := 1024,
              refIdx := 1,
              ref := 924262400,
              slot := some 2,
              extracting := true,
              flags := 0 }] } }))|>.setFld F.CH_TRIG_HOLD.HOLDOFF 17 20000), ⟨2000000, 6000000000⟩, _, 17, {
      which := 0,
      corrected := 0,
      lostWords := [],
      lostDescriptor := false }, {
      kind := .triggered,
      ser := 3,
      time := ⟨some 5, none, 7, 0⟩,
      idx := 100,
      len := 2,
      first := 924262400,
      last := 924263424,
      refPos := 1024,
      refIdx := 1,
      ref := 924262400,
      slot := some 2,
      extracting := true,
      flags := 0 }, rfl, by decide⟩,
    ⟨wSt ((wRun 0 0x1FF (fun x => { x with
      chain := { x.chain with start := some 900000 },
      trig := { x.trig with arm := .armed },
      mem := { x.mem with
          slots := 4,
          slotSize := 4096,
          open_ := [{
              kind := .triggered,
              ser := 3,
              time := ⟨some 5, none, 7, 0⟩,
              idx := 100,
              len := 2,
              first := 924262400,
              last := 924263424,
              refPos := 1024,
              refIdx := 1,
              ref := 924262400,
              slot := some 2,
              extracting := true,
              flags := 0 }] } }))), ⟨2000000, 6000000000⟩, _, 17, {
      which := 0,
      corrected := 0,
      lostWords := [],
      lostDescriptor := false }, {
      kind := .triggered,
      ser := 3,
      time := ⟨some 5, none, 7, 0⟩,
      idx := 100,
      len := 2,
      first := 924262400,
      last := 924263424,
      refPos := 1024,
      refIdx := 1,
      ref := 924262400,
      slot := some 2,
      extracting := true,
      flags := 0 }, rfl, by decide⟩,
    ⟨wSt ((wRun 1 0x1FF (fun x => { x with
      chain := { x.chain with start := some 900000 },
      mem := { x.mem with
          slots := 4,
          slotSize := 4096,
          used := [2, 1],
          open_ := [{
              kind := .accept,
              ser := 3,
              time := ⟨some 5, none, 7, 0⟩,
              idx := 100,
              len := 2,
              first := 924262400,
              last := 924263424,
              refPos := 1024,
              refIdx := 1,
              ref := 924262400,
              slot := some 2,
              extracting := true,
              flags := 0 }] } }))), ⟨2000000, 6000000000⟩, _, 17, {
      which := 0,
      corrected := 0,
      lostWords := [],
      lostDescriptor := true }, {
      kind := .accept,
      ser := 3,
      time := ⟨some 5, none, 7, 0⟩,
      idx := 100,
      len := 2,
      first := 924262400,
      last := 924263424,
      refPos := 1024,
      refIdx := 1,
      ref := 924262400,
      slot := some 2,
      extracting := true,
      flags := 0 }, 2, rfl, by decide⟩,
    ⟨wSt ((wRun 1 0x1FF (fun x => { x with
      chain := { x.chain with start := some 900000 },
      mem := { x.mem with
          slots := 4,
          slotSize := 4096,
          open_ := [{
              kind := .accept,
              ser := 3,
              time := ⟨some 5, none, 7, 0⟩,
              idx := 100,
              len := 2,
              first := 924262400,
              last := 924263424,
              refPos := 1024,
              refIdx := 1,
              ref := 924262400,
              slot := some 2,
              extracting := false,
              flags := 0 }] } }))), ⟨2000000, 6000000000⟩, _, 17, {
      which := 0,
      corrected := 0,
      lostWords := [],
      lostDescriptor := false }, {
      kind := .accept,
      ser := 3,
      time := ⟨some 5, none, 7, 0⟩,
      idx := 100,
      len := 2,
      first := 924262400,
      last := 924263424,
      refPos := 1024,
      refIdx := 1,
      ref := 924262400,
      slot := some 2,
      extracting := false,
      flags := 0 }, rfl, by decide⟩⟩

/-- Witness of the hypotheses of RecordQueues. -/
theorem witness_RecordQueues :
  (∃ (s : State) (t : Stamp) (m : Kz) (c : Chan) (r : OpenRec), s.kz.advance t = m ∧ (m.chan c.val).mem.open_.find? (fun x
    => !x.extracting && decide (x.last + delay m c.val ≤ m.inst)) = some r ∧ sampleAt m c.val (ringInst m c.val + 1) - 1 <
    r.idx + ringSamples m c.val) ∧
  (∃ (s : State) (t : Stamp) (m : Kz) (c : Chan) (r : OpenRec) (i : Nat), s.kz.advance t = m ∧ (m.chan
    c.val).mem.open_.find? (fun x => !x.extracting && decide (x.last + delay m c.val ≤ m.inst)) = some r ∧ r.idx +
    ringSamples m c.val ≤ sampleAt m c.val (ringInst m c.val + 1) - 1 ∧ r.slot = some i) ∧
  (∃ (s : State) (t : Stamp) (m : Kz) (c : Chan) (i : Nat), s.kz.advance t = m ∧ acqMode m (c.val / 16) = 2 ∧ (m.chan
    c.val).chain.start.isSome = true ∧ m.on F.CH_MEM_CTRL.REC_EN c.val = true ∧ sampleInst m c.val (m.chan
    c.val).mem.streamNext + delay m c.val ≤ m.inst ∧ chanFailed m c.val = false ∧ freeSlot m c.val = some i) ∧
  (∃ (s : State) (t : Stamp) (m : Kz) (c : Chan), s.kz.advance t = m ∧ acqMode m (c.val / 16) = 2 ∧ (m.chan
    c.val).chain.start.isSome = true ∧ m.on F.CH_MEM_CTRL.REC_EN c.val = true ∧ sampleInst m c.val (m.chan
    c.val).mem.streamNext + delay m c.val ≤ m.inst ∧ chanFailed m c.val = false ∧ freeSlot m c.val = none) ∧
  (∃ (s : State) (t : Stamp) (m : Kz) (c : Chan), s.kz.advance t = m ∧ acqMode m (c.val / 16) = 2 ∧ (m.chan
    c.val).chain.start.isSome = true ∧ m.on F.CH_MEM_CTRL.REC_EN c.val = true ∧ sampleInst m c.val (m.chan
    c.val).mem.streamNext + delay m c.val ≤ m.inst ∧ chanFailed m c.val = true) ∧
  (∃ (s : State) (t : Stamp) (m : Kz) (k : Rgn) (e : AccEntry) (r : List AccEntry), s.kz.advance t = m ∧ (m.rgn
    k.val).acq.queue = e :: r ∧ ((m.rgn k.val).acq.order.find? (fun x => x.ser = e.ser)).all (fun o => decide (o.owing &&&
    o.done = o.owing)) = true ∧ (m.rgn k.val).lane.departing = false ∧ (m.rgn k.val).err.restarting = false) ∧
  (∃ (s : State) (t : Stamp) (m : Kz) (k : Rgn) (e : AccEntry) (r : List AccEntry) (o : EvOrder), s.kz.advance t = m ∧
    (m.rgn k.val).acq.queue = e :: r ∧ (m.rgn k.val).acq.order.find? (fun x => x.ser = e.ser) = some o ∧ o.owing &&& o.done
    ≠ o.owing) ∧
  (∃ (s : State) (t : Stamp) (m : Kz) (p : Port) (k : Rgn) (v : Word), s.kz.advance t = m ∧ Accepts m p .RGN_ACCQ_STAT k.val
    v ∧ F.RGN_ACCQ_STAT.CLR.of v = 1) ∧
  (∃ (s : State) (t : Stamp) (m : Kz) (c : Chan) (r : Rec) (rest : List Rec), s.kz.advance t = m ∧ (m.chan c.val).mem.closed
    = r :: rest ∧ r.toTest = false ∧ r.toMeasure = false ∧ r.toTone = false ∧ (m.chan c.val).mem.open_.any (opensBefore r) =
    false ∧ eventReady m c.val r = true ∧ r.flags.testBit 0 = true) ∧
  (∃ (s : State) (t : Stamp) (m : Kz) (c : Chan) (r : Rec) (rest : List Rec) (w : Nat × Nat), s.kz.advance t = m ∧ (m.chan
    c.val).mem.closed = r :: rest ∧ r.toTest = false ∧ r.toMeasure = false ∧ r.toTone = false ∧ (m.chan c.val).mem.open_.any
    (opensBefore r) = false ∧ eventReady m c.val r = true ∧ r.flags.testBit 0 = false ∧ r.win = some w ∧ annotReady m c.val
    w = true ∧ (acqMode m (c.val / 16) = 1 ∨ acqMode m (c.val / 16) = 2 ∨ (acqMode m (c.val / 16) = 0 ∧ (sinks m c.val).2.1
    = false ∧ (sinks m c.val).2.2 = false))) ∧
  (∃ (s : State) (t : Stamp) (m : Kz) (c : Chan) (r : Rec) (rest : List Rec), s.kz.advance t = m ∧ (m.chan c.val).mem.closed
    = r :: rest ∧ r.toTest = false ∧ r.toMeasure = false ∧ r.toTone = false ∧ (m.chan c.val).mem.open_.any (opensBefore r) =
    false ∧ eventReady m c.val r = true ∧ r.flags.testBit 0 = false ∧ r.flags.testBit 5 = false ∧ r.kind = .triggered ∧
    acqMode m (c.val / 16) = 3 ∧ ((sinks m c.val).1 = true ∨ (sinks m c.val).2.1 = true ∨ (sinks m c.val).2.2 = true)) ∧
  (∃ (s : State) (t : Stamp) (m : Kz) (c : Chan) (r : Rec) (rest : List Rec) (i : Nat), s.kz.advance t = m ∧ (m.chan
    c.val).mem.closed = r :: rest ∧ r.toTest = false ∧ r.toMeasure = false ∧ r.toTone = false ∧ (m.chan c.val).mem.open_.any
    (opensBefore r) = false ∧ eventReady m c.val r = true ∧ r.flags.testBit 0 = false ∧ r.flags.testBit 5 = true ∧ r.kind =
    .triggered ∧ acqMode m (c.val / 16) = 3 ∧ r.slot = some i ∧ (m.chan c.val).trig.maskStop = false) ∧
  (∃ (s : State) (t : Stamp) (m : Kz) (c : Chan) (r : Rec) (rest : List Rec), s.kz.advance t = m ∧ (m.chan c.val).mem.closed
    = r :: rest ∧ (r.toTest = true ∨ r.toMeasure = true ∨ (m.chan c.val).mem.open_.any (opensBefore r) = true ∨ eventReady m
    c.val r = false)) :=
  ⟨
    ⟨wSt ((wRun 1 0x1FF (fun x => { x with
      chain := { x.chain with start := some 900000 },
      mem := { x.mem with
          slots := 4,
          slotSize := 4096,
          open_ := [{
              kind := .accept,
              ser := 3,
              time := ⟨some 5, none, 7, 0⟩,
              idx := 100,
              len := 2,
              first := 924262400,
              last := 924263424,
              refPos := 1024,
              refIdx := 1,
              ref := 924262400,
              slot := some 2,
              extracting := false,
              flags := 0 }] } }))|>.setFld F.CH_MEM_CTRL.RING_BANKS 17 30), ⟨2000000, 6000000000⟩, _, 17, {
      kind := .accept,
      ser := 3,
      time := ⟨some 5, none, 7, 0⟩,
      idx := 100,
      len := 2,
      first := 924262400,
      last := 924263424,
      refPos := 1024,
      refIdx := 1,
      ref := 924262400,
      slot := some 2,
      extracting := false,
      flags := 0 }, rfl, by decide⟩,
    ⟨wSt ((wRun 1 0x1FF (fun x => { x with
      chain := { x.chain with start := some 900000 },
      mem := { x.mem with
          slots := 4,
          slotSize := 4096,
          open_ := [{
              kind := .accept,
              ser := 3,
              time := ⟨some 5, none, 7, 0⟩,
              idx := 100,
              len := 2,
              first := 924262400,
              last := 924263424,
              refPos := 1024,
              refIdx := 1,
              ref := 924262400,
              slot := some 2,
              extracting := false,
              flags := 0 }] } }))|>.setFld F.CH_MEM_CTRL.RING_BANKS 17 1), ⟨2000000, 6000000000⟩, _, 17, {
      kind := .accept,
      ser := 3,
      time := ⟨some 5, none, 7, 0⟩,
      idx := 100,
      len := 2,
      first := 924262400,
      last := 924263424,
      refPos := 1024,
      refIdx := 1,
      ref := 924262400,
      slot := some 2,
      extracting := false,
      flags := 0 }, 2, rfl, by decide⟩,
    ⟨wSt ((wRun 2 0x1FF (fun x => { x with
      chain := { x.chain with start := some 900000 },
      mem := { x.mem with slots := 4, slotSize := 4096, used := [0] } }))|>.setFld F.CH_REC_WIN.LEN 17 1), ⟨2000000,
    6000000000⟩, _, 17, 1, rfl, by decide⟩,
    ⟨wSt ((wRun 2 0x1FF (fun x => { x with
      chain := { x.chain with start := some 900000 },
      mem := { x.mem with slots := 4, slotSize := 4096, used := [0, 3, 2, 1] } }))|>.setFld F.CH_REC_WIN.LEN 17 1),
    ⟨2000000, 6000000000⟩, _, 17, rfl, by decide⟩,
    ⟨wSt ((wRun 2 0x1FF (fun x => { x with
      chain := { x.chain with start := some 900000 },
      mem := { x.mem with slots := 4, slotSize := 4096, used := [0, 3, 2, 1] } }))|>.setFld F.CH_REC_WIN.LEN 17 1 |>.setFld
    F.CH_SLICE_HEALTH.RETIRED 17 511), ⟨2000000, 6000000000⟩, _, 17, rfl, by decide⟩,
    ⟨wSt ((wRun 1 0x1FF (fun x => { x with chain := { x.chain with start := some 900000 } }))|>.modAcq 1 (fun a => { a with
      queue := [⟨3, 7, 0, 0, 1, 2, 3, 4, 6, 0⟩],
      order := [{ ser := 3, owing := 6, done := 7 }] })), ⟨2000000, 6000000000⟩, _, 1, ⟨3, 7, 0, 0, 1, 2, 3, 4, 6, 0⟩, [],
    rfl, by decide⟩,
    ⟨wSt ((wRun 1 0x1FF (fun x => { x with chain := { x.chain with start := some 900000 } }))|>.modAcq 1 (fun a => { a with
      queue := [⟨3, 7, 0, 0, 1, 2, 3, 4, 6, 0⟩],
      order := [{ ser := 3, owing := 6, done := 4 }] })), ⟨2000000, 6000000000⟩, _, 1, ⟨3, 7, 0, 0, 1, 2, 3, 4, 6, 0⟩, [], {
      ser := 3,
      owing := 6,
      done := 4 }, rfl, by decide⟩,
    ⟨wSt ((wRun 1 0x1FF (fun x => { x with chain := { x.chain with start := some 900000 } }))|>.modAcq 1 (fun a => { a with
      queue := [⟨3, 7, 0, 0, 1, 2, 3, 4, 6, 0⟩],
      highWater := 9 })), ⟨2000000, 6000000000⟩, _, 0, 1, BitVec.ofNat 32 (F.RGN_ACCQ_STAT.CLR.put 1), rfl, by decide⟩,
    ⟨wSt ((wRun 1 0x1FF (fun x => { x with
      chain := { x.chain with start := some 900000 },
      mem := { x.mem with
          slots := 4,
          slotSize := 4096,
          nextSeq := 4294967295,
          closed := [{
              kind := .accept,
              ch := 17,
              ser := 3,
              time := ⟨some 5, none, 7, 0⟩,
              win := some (924262400, 924263424),
              flags := 1,
              slot := some 2 }] } }))), ⟨2000000, 6000000000⟩, _, 17, {
      kind := .accept,
      ch := 17,
      ser := 3,
      time := ⟨some 5, none, 7, 0⟩,
      win := some (924262400, 924263424),
      flags := 1,
      slot := some 2 }, [], rfl, by decide⟩,
    ⟨wSt ((wRun 1 0x1FF (fun x => { x with
      chain := { x.chain with start := some 900000 },
      mem := { x.mem with
          slots := 4,
          slotSize := 4096,
          closed := [{
              kind := .accept,
              ch := 17,
              ser := 3,
              time := ⟨some 5, none, 7, 0⟩,
              win := some (924262400, 924263424),
              flags := 0,
              slot := some 2 }] } }))), ⟨2000000, 6000000000⟩, _, 17, {
      kind := .accept,
      ch := 17,
      ser := 3,
      time := ⟨some 5, none, 7, 0⟩,
      win := some (924262400, 924263424),
      flags := 0,
      slot := some 2 }, [], (924262400, 924263424), rfl, by decide⟩,
    ⟨wSt ((wRun 3 0x1FF (fun x => { x with
      chain := { x.chain with start := some 900000 },
      mem := { x.mem with
          slots := 4,
          slotSize := 4096,
          closed := [{
              kind := .triggered,
              ch := 17,
              ser := 3,
              time := ⟨some 5, none, 7, 0⟩,
              win := some (924262400, 924263424),
              flags := 0,
              slot := some 2 }] } }))|>.setFld F.RGN_ACC_SINK.AVG_EN 1 2), ⟨2000000, 6000000000⟩, _, 17, {
      kind := .triggered,
      ch := 17,
      ser := 3,
      time := ⟨some 5, none, 7, 0⟩,
      win := some (924262400, 924263424),
      flags := 0,
      slot := some 2 }, [], rfl, by decide⟩,
    ⟨wSt ((wRun 3 0x1FF (fun x => { x with
      chain := { x.chain with start := some 900000 },
      mem := { x.mem with
          slots := 4,
          slotSize := 4096,
          used := [1, 2],
          closed := [{
              kind := .triggered,
              ch := 17,
              ser := 3,
              time := ⟨some 5, none, 7, 0⟩,
              win := some (924262400, 924263424),
              flags := 32,
              slot := some 2,
              lost := [(5, 0, 3)] }] } }))|>.setFld F.RGN_ACC_SINK.AVG_EN 1 2), ⟨2000000, 6000000000⟩, _, 17, {
      kind := .triggered,
      ch := 17,
      ser := 3,
      time := ⟨some 5, none, 7, 0⟩,
      win := some (924262400, 924263424),
      flags := 32,
      slot := some 2,
      lost := [(5, 0, 3)] }, [], 2, rfl, by decide⟩,
    ⟨wSt ((wRun 1 0x1FF (fun x => { x with
      chain := { x.chain with start := some 900000 },
      mem := { x.mem with
          slots := 4,
          slotSize := 4096,
          closed := [{
              kind := .accept,
              ch := 17,
              ser := 3,
              time := ⟨some 5, none, 7, 0⟩,
              win := some (924262400, 924263424),
              flags := 1,
              slot := some 2,
              toTest := true }] } }))), ⟨2000000, 6000000000⟩, _, 17, {
      kind := .accept,
      ch := 17,
      ser := 3,
      time := ⟨some 5, none, 7, 0⟩,
      win := some (924262400, 924263424),
      flags := 1,
      slot := some 2,
      toTest := true }, [], rfl, by decide⟩⟩

/-- Witness of the hypotheses of MaskAndMeasurement. -/
theorem witness_MaskAndMeasurement :
  (∃ (s : State) (t : Stamp) (m : Kz) (c : Chan) (r : Rec), s.kz.advance t = m ∧ (m.chan c.val).mem.closed.find? (fun x =>
    x.toTest) = some r ∧ violators m c.val 0 r = [] ∧ violators m c.val 1 r = []) ∧
  (∃ (s : State) (t : Stamp) (m : Kz) (c : Chan) (r : Rec), s.kz.advance t = m ∧ (m.chan c.val).mem.closed.find? (fun x =>
    x.toTest) = some r ∧ violators m c.val 0 r ≠ [] ∧ violators m c.val 1 r = [] ∧ m.fld F.CH_MASK_CTRL.ACT0 c.val = 0) ∧
  (∃ (s : State) (t : Stamp) (m : Kz) (c : Chan) (r : Rec), s.kz.advance t = m ∧ (m.chan c.val).mem.closed.find? (fun x =>
    x.toTest) = some r ∧ violators m c.val 0 r ≠ [] ∧ violators m c.val 1 r = [] ∧ (m.fld F.CH_MASK_CTRL.ACT0 c.val = 1 ∨
    (m.fld F.CH_MASK_CTRL.ACT0 c.val = 2 ∧ (acqMode m (c.val / 16) = 1 ∨ acqMode m (c.val / 16) = 2)))) ∧
  (∃ (s : State) (t : Stamp) (m : Kz) (c : Chan) (r : Rec) (q : Rec), s.kz.advance t = m ∧ (m.chan c.val).mem.closed.find?
    (fun x => x.toTest) = some r ∧ violators m c.val 0 r ≠ [] ∧ violators m c.val 1 r = [] ∧ m.fld F.CH_MASK_CTRL.ACT0 c.val
    = 2 ∧ (acqMode m (c.val / 16) = 0 ∨ acqMode m (c.val / 16) = 3) ∧ (m.chan c.val).trig.maskStop = false ∧ (m.chan
    c.val).mem.open_ = [] ∧ q = { r with
      toTest := false,
      words := maskWord (violators m c.val 0 r) (violators m c.val 1 r) :: r.words,
      flags := r.flags ||| fMASK }) ∧
  (∃ (s : State) (t : Stamp) (m : Kz) (c : Chan) (r : Rec), s.kz.advance t = m ∧ (m.chan c.val).mem.closed.find? (fun x =>
    x.toMeasure) = some r) ∧
  (∃ (s : State) (t : Stamp) (m : Kz) (c : Chan), s.kz.advance t = m ∧ (m.chan c.val).mem.closed.find? (fun x =>
    x.toMeasure) = none) :=
  ⟨
    ⟨wSt ((wRun 1 0x1FF (fun x => { x with
      chain := { x.chain with start := some 900000 },
      mem := { x.mem with
          closed := [{
              kind := .accept,
              ch := 17,
              ser := 3,
              time := ⟨some 5, none, 7, 0⟩,
              win := some (924262400, 924263424),
              flags := 0,
              samples := [5, -7],
              toTest := true }] } }))), ⟨2000000, 6000000000⟩, _, 17, {
      kind := .accept,
      ch := 17,
      ser := 3,
      time := ⟨some 5, none, 7, 0⟩,
      win := some (924262400, 924263424),
      flags := 0,
      samples := [5, -7],
      toTest := true }, rfl, by decide⟩,
    ⟨wSt ((wRun 1 0x1FF (fun x => { x with
      chain := { x.chain with start := some 900000 },
      mem := { x.mem with
          closed := [{
              kind := .accept,
              ch := 17,
              ser := 3,
              time := ⟨some 5, none, 7, 0⟩,
              win := some (924262400, 924263424),
              flags := 0,
              samples := [5, -7],
              toTest := true }] } })) |>.setFld F.CH_MASK_CTRL.NPTS0 17 2 |>.setFld F.CH_MASK_CTRL.ACT0 17 0 |> fun m => { m with
      mem := m.mem.writes (maskAddr 17 0 0) [0x80, 0, 0, 0, 0, 1, 0xFF, 0xF0, 0x7F, 0xFF, 0, 0, 0, 1, 0xFF, 0xF0] }),
    ⟨2000000, 6000000000⟩, _, 17, {
      kind := .accept,
      ch := 17,
      ser := 3,
      time := ⟨some 5, none, 7, 0⟩,
      win := some (924262400, 924263424),
      flags := 0,
      samples := [5, -7],
      toTest := true }, rfl, by decide⟩,
    ⟨wSt ((wRun 1 0x1FF (fun x => { x with
      chain := { x.chain with start := some 900000 },
      mem := { x.mem with
          closed := [{
              kind := .accept,
              ch := 17,
              ser := 3,
              time := ⟨some 5, none, 7, 0⟩,
              win := some (924262400, 924263424),
              flags := 0,
              samples := [5, -7],
              toTest := true }] } })) |>.setFld F.CH_MASK_CTRL.NPTS0 17 2 |>.setFld F.CH_MASK_CTRL.ACT0 17 2 |> fun m => { m with
      mem := m.mem.writes (maskAddr 17 0 0) [0x80, 0, 0, 0, 0, 1, 0xFF, 0xF0, 0x7F, 0xFF, 0, 0, 0, 1, 0xFF, 0xF0] }),
    ⟨2000000, 6000000000⟩, _, 17, {
      kind := .accept,
      ch := 17,
      ser := 3,
      time := ⟨some 5, none, 7, 0⟩,
      win := some (924262400, 924263424),
      flags := 0,
      samples := [5, -7],
      toTest := true }, rfl, by decide⟩,
    ⟨wSt ((wRun 0 0x1FF (fun x => { x with
      chain := { x.chain with start := some 900000 },
      trig := { x.trig with arm := .filling },
      mem := { x.mem with
          writing := some 1,
          closed := [{
              kind := .accept,
              ch := 17,
              ser := 3,
              time := ⟨some 5, none, 7, 0⟩,
              win := some (924262400, 924263424),
              flags := 0,
              samples := [5, -7] }, {
              kind := .accept,
              ch := 17,
              ser := 3,
              time := ⟨some 5, none, 7, 0⟩,
              win := some (924262400, 924263424),
              flags := 0,
              samples := [5, -7],
              toTest := true }] } })) |>.setFld F.CH_MASK_CTRL.NPTS0 17 2 |>.setFld F.CH_MASK_CTRL.ACT0 17 2 |> fun m => { m with
      mem := m.mem.writes (maskAddr 17 0 0) [0x80, 0, 0, 0, 0, 1, 0xFF, 0xF0, 0x7F, 0xFF, 0, 0, 0, 1, 0xFF, 0xF0] }),
    ⟨2000000, 6000000000⟩, _, 17, {
      kind := .accept,
      ch := 17,
      ser := 3,
      time := ⟨some 5, none, 7, 0⟩,
      win := some (924262400, 924263424),
      flags := 0,
      samples := [5, -7],
      toTest := true }, {
      kind := .accept,
      ch := 17,
      ser := 3,
      time := ⟨some 5, none, 7, 0⟩,
      win := some (924262400, 924263424),
      flags := 128,
      samples := [5, -7],
      words := [1152930300699877375] }, rfl, by decide⟩,
    ⟨wSt ((wRun 1 0x1FF (fun x => { x with
      chain := { x.chain with start := some 900000 },
      mem := { x.mem with
          closed := [{
              kind := .accept,
              ch := 17,
              ser := 3,
              time := ⟨some 5, none, 7, 0⟩,
              win := some (924262400, 924263424),
              flags := 0,
              samples := [5, -7],
              toMeasure := true,
              meas := [9] }] } }))), ⟨2000000, 6000000000⟩, _, 17, {
      kind := .accept,
      ch := 17,
      ser := 3,
      time := ⟨some 5, none, 7, 0⟩,
      win := some (924262400, 924263424),
      flags := 0,
      samples := [5, -7],
      toMeasure := true,
      meas := [9] }, rfl, by decide⟩,
    ⟨wSt ((wRun 1 0x1FF (fun x => { x with chain := { x.chain with start := some 900000 } }))), ⟨2000000, 6000000000⟩, _,
    17, rfl, by decide⟩⟩

/-- Witness of the hypotheses of Accumulation. -/
theorem witness_Accumulation :
  (∃ (s : State) (t : Stamp) (m : Kz) (c : Chan) (f : Fold), s.kz.advance t = m ∧ avgNext m (c.val / 16) = some f ∧ f.rcd.ch
    = c.val ∧ (m.rgn (c.val / 16)).acc.cuts = [] ∧ (m.chan c.val).avg.cut.all (fun e => decide (f.rcd.ref < e)) = true ∧
    (m.chan c.val).avg.done = false ∧ (f.hist = true ∨ f.map = true) ∧ (m.chan c.val).avg.count + 1 < 2 ^ m.fld
    F.RGN_ACC_CTRL.TARGET_LOG2 (c.val / 16)) ∧
  (∃ (s : State) (t : Stamp) (m : Kz) (c : Chan) (f : Fold) (i : Nat), s.kz.advance t = m ∧ avgNext m (c.val / 16) = some f
    ∧ f.rcd.ch = c.val ∧ (m.rgn (c.val / 16)).acc.cuts = [] ∧ (m.chan c.val).avg.cut.all (fun e => decide (f.rcd.ref < e)) =
    true ∧ (m.chan c.val).avg.done = false ∧ f.hist = false ∧ f.map = false ∧ (m.chan c.val).avg.count + 1 = 2 ^ m.fld
    F.RGN_ACC_CTRL.TARGET_LOG2 (c.val / 16) ∧ (∀ z ∈ (m.chan c.val).mem.folds.erase f, z.avg = false) ∧ f.copy = false ∧
    f.rcd.slot = some i ∧ acqMode m (c.val / 16) = 3 ∧ (m.chan c.val).trig.maskStop = false) ∧
  (∃ (s : State) (t : Stamp) (m : Kz) (c : Chan) (f : Fold) (e : Nat), s.kz.advance t = m ∧ avgNext m (c.val / 16) = some f
    ∧ f.rcd.ch = c.val ∧ (m.rgn (c.val / 16)).acc.cuts = [] ∧ ((m.chan c.val).avg.done = true ∨ ((m.chan c.val).avg.cut =
    some e ∧ e ≤ f.rcd.ref ∧ (m.chan c.val).avg.count < 2 ^ m.fld F.RGN_ACC_CTRL.TARGET_LOG2 (c.val / 16))) ∧ (f.hist = true
    ∨ f.map = true)) ∧
  (∃ (s : State) (t : Stamp) (m : Kz) (c : Chan), s.kz.advance t = m ∧ (∀ f, avgNext m (c.val / 16) = some f → f.rcd.ch ≠
    c.val)) ∧
  (∃ (s : State) (t : Stamp) (m : Kz) (c : Chan) (f : Fold) (k : Nat) (i : Nat), s.kz.advance t = m ∧ hubNext m = some (k,
    f) ∧ f.rcd.ch = c.val ∧ f.hist = true ∧ (m.chan c.val).hist.cut.all (fun e => decide (f.rcd.ref < e)) = true ∧ f.avg =
    false ∧ f.map = false ∧ (m.rgn (c.val / 16)).acc.cuts = [] ∧ f.copy = false ∧ f.rcd.slot = some i ∧ acqMode m (c.val /
    16) = 3 ∧ (m.chan c.val).trig.maskStop = false) ∧
  (∃ (s : State) (t : Stamp) (m : Kz) (c : Chan) (f : Fold) (k : Nat), s.kz.advance t = m ∧ hubNext m = some (k, f) ∧
    f.rcd.ch = c.val ∧ f.hist = true ∧ (m.chan c.val).hist.cut.all (fun e => decide (f.rcd.ref < e)) = true ∧ (f.avg = true
    ∨ f.map = true) ∧ (m.rgn (c.val / 16)).acc.cuts = []) ∧
  (∃ (s : State) (t : Stamp) (m : Kz) (c : Chan) (f : Fold) (k : Nat) (e : Nat), s.kz.advance t = m ∧ hubNext m = some (k,
    f) ∧ f.rcd.ch = c.val ∧ f.hist = true ∧ (m.chan c.val).hist.cut = some e ∧ e ≤ f.rcd.ref ∧ (f.avg = true ∨ f.map = true)
    ∧ (m.rgn (c.val / 16)).acc.cuts = []) ∧
  (∃ (s : State) (t : Stamp) (m : Kz) (c : Chan) (f : Fold) (k : Nat) (x : Nat), s.kz.advance t = m ∧ hubNext m = some (k,
    f) ∧ f.rcd.ch = c.val ∧ f.map = true ∧ f.avg = false ∧ f.hist = false ∧ f.copy = true ∧ x = b2n f.sel ∧ m.on
    F.MOD_MAP_CTRL.EN x = true ∧ (pmap m x).clearing = false ∧ (∀ y ∈ (pmap m x).cells, y.2 ≤ 0xFFFF)) ∧
  (∃ (s : State) (t : Stamp) (m : Kz) (c : Chan) (f : Fold) (k : Nat), s.kz.advance t = m ∧ hubNext m = some (k, f) ∧
    f.rcd.ch = c.val ∧ f.map = true ∧ (f.avg = true ∨ f.hist = true) ∧ (m.on F.MOD_MAP_CTRL.EN (b2n f.sel) = false ∨ (pmap m
    (b2n f.sel)).clearing = true)) ∧
  (∃ (s : State) (t : Stamp) (m : Kz) (y : Fin 2), s.kz.advance t = m ∧ m.on F.MOD_MAP_CTRL.DECAY y.val = true ∧ (pmap m
    y.val).halvedAt + m.fld F.MOD_MAP_CTRL.DECAY y.val * 10000000 ≤ m.now.ns) ∧
  (∃ (s : State) (t : Stamp) (m : Kz) (y : Fin 2), s.kz.advance t = m ∧ (m.on F.MOD_MAP_CTRL.DECAY y.val = false ∨ m.now.ns
    < (pmap m y.val).halvedAt + m.fld F.MOD_MAP_CTRL.DECAY y.val * 10000000)) ∧
  (∃ (s : State) (t : Stamp) (m : Kz) (p : Port) (k : Rgn) (v : Word), s.kz.advance t = m ∧ Accepts m p .RGN_ACC_CLR k.val v) ∧
  (∃ (s : State) (t : Stamp) (m : Kz) (p : Port) (k : Rgn) (v : Word), s.kz.advance t = m ∧ Accepts m p .RGN_ACC_CLR k.val v) ∧
  (∃ (s : State) (t : Stamp) (m : Kz) (p : Port) (x : Fin 2) (v : Word), s.kz.advance t = m ∧ Accepts m p .MOD_MAP_CTRL
    x.val v ∧ F.MOD_MAP_CTRL.CLR.of v = 1) ∧
  (∃ (s : State) (t : Stamp) (m : Kz) (x : Fin 2), s.kz.advance t = m ∧ (pmap m x.val).clearing = true) :=
  ⟨
    ⟨wSt ((wRun 3 0x1FF (fun x => { x with
      chain := { x.chain with start := some 900000 },
      mem := { x.mem with
          used := [2],
          folds := [⟨{
              kind := .triggered,
              ch := 17,
              ser := 3,
              time := ⟨some 5, none, 7, 0⟩,
              win := some (924262400, 924263424),
              flags := 512,
              samples := [5, -7],
              slot := some 2 }, 9, true, true, false, false, false⟩] } }))|>.setFld F.RGN_ACC_CTRL.TARGET_LOG2 1 3),
    ⟨2000000, 6000000000⟩, _, 17, ⟨{
      kind := .triggered,
      ch := 17,
      ser := 3,
      time := ⟨some 5, none, 7, 0⟩,
      win := some (924262400, 924263424),
      flags := 512,
      samples := [5, -7],
      slot := some 2 }, 9, true, true, false, false, false⟩, rfl, by decide⟩,
    ⟨wSt ((wRun 3 0x1FF (fun x => { x with
      chain := { x.chain with start := some 900000 },
      avg := { x.avg with count := 7, sums := [2147483647, 4] },
      mem := { x.mem with
          used := [2],
          folds := [⟨{
              kind := .triggered,
              ch := 17,
              ser := 3,
              time := ⟨some 5, none, 7, 0⟩,
              win := some (924262400, 924263424),
              flags := 0,
              samples := [5, -7],
              slot := some 2 }, 9, true, false, false, false, false⟩] } }))|>.setFld F.RGN_ACC_CTRL.TARGET_LOG2 1 3),
    ⟨2000000, 6000000000⟩, _, 17, ⟨{
      kind := .triggered,
      ch := 17,
      ser := 3,
      time := ⟨some 5, none, 7, 0⟩,
      win := some (924262400, 924263424),
      flags := 0,
      samples := [5, -7],
      slot := some 2 }, 9, true, false, false, false, false⟩, 2, rfl, by decide⟩,
    ⟨wSt ((wRun 3 0x1FF (fun x => { x with
      chain := { x.chain with start := some 900000 },
      avg := { x.avg with cut := some 0 },
      mem := { x.mem with
          used := [2],
          folds := [⟨{
              kind := .triggered,
              ch := 17,
              ser := 3,
              time := ⟨some 5, none, 7, 0⟩,
              win := some (924262400, 924263424),
              flags := 512,
              samples := [5, -7],
              slot := some 2 }, 9, true, true, false, false, false⟩] } }))), ⟨2000000, 6000000000⟩, _, 17, ⟨{
      kind := .triggered,
      ch := 17,
      ser := 3,
      time := ⟨some 5, none, 7, 0⟩,
      win := some (924262400, 924263424),
      flags := 512,
      samples := [5, -7],
      slot := some 2 }, 9, true, true, false, false, false⟩, 0, rfl, by decide⟩,
    ⟨wSt ((wRun 3 0x1FF (fun x => { x with chain := { x.chain with start := some 900000 } }))), ⟨2000000, 6000000000⟩, _,
    17, rfl, by decide⟩,
    ⟨wSt ((wRun 3 0x1FF (fun x => { x with
      chain := { x.chain with start := some 900000 },
      hist := { x.hist with bins := [(2047, 4294967294)] },
      mem := { x.mem with
          used := [2],
          folds := [⟨{
              kind := .triggered,
              ch := 17,
              ser := 3,
              time := ⟨some 5, none, 7, 0⟩,
              win := some (924262400, 924263424),
              flags := 0,
              samples := [5, -7],
              slot := some 2 }, 9, false, true, false, false, false⟩] } }))), ⟨2000000, 6000000000⟩, _, 17, ⟨{
      kind := .triggered,
      ch := 17,
      ser := 3,
      time := ⟨some 5, none, 7, 0⟩,
      win := some (924262400, 924263424),
      flags := 0,
      samples := [5, -7],
      slot := some 2 }, 9, false, true, false, false, false⟩, 1, 2, rfl, by decide⟩,
    ⟨wSt ((wRun 3 0x1FF (fun x => { x with
      chain := { x.chain with start := some 900000 },
      hist := { x.hist with bins := [(2047, 4294967294)] },
      mem := { x.mem with
          used := [2],
          folds := [⟨{
              kind := .triggered,
              ch := 17,
              ser := 3,
              time := ⟨some 5, none, 7, 0⟩,
              win := some (924262400, 924263424),
              flags := 0,
              samples := [5, -7],
              slot := some 2 }, 9, false, true, true, false, false⟩] } }))), ⟨2000000, 6000000000⟩, _, 17, ⟨{
      kind := .triggered,
      ch := 17,
      ser := 3,
      time := ⟨some 5, none, 7, 0⟩,
      win := some (924262400, 924263424),
      flags := 0,
      samples := [5, -7],
      slot := some 2 }, 9, false, true, true, false, false⟩, 1, rfl, by decide⟩,
    ⟨wSt ((wRun 3 0x1FF (fun x => { x with
      chain := { x.chain with start := some 900000 },
      hist := { x.hist with cut := some 0 },
      mem := { x.mem with
          used := [2],
          folds := [⟨{
              kind := .triggered,
              ch := 17,
              ser := 3,
              time := ⟨some 5, none, 7, 0⟩,
              win := some (924262400, 924263424),
              flags := 0,
              samples := [5, -7],
              slot := some 2 }, 9, true, true, false, false, false⟩] } }))), ⟨2000000, 6000000000⟩, _, 17, ⟨{
      kind := .triggered,
      ch := 17,
      ser := 3,
      time := ⟨some 5, none, 7, 0⟩,
      win := some (924262400, 924263424),
      flags := 0,
      samples := [5, -7],
      slot := some 2 }, 9, true, true, false, false, false⟩, 1, 0, rfl, by decide⟩,
    ⟨wSt ((wRun 0 0x1FF (fun x => { x with
      chain := { x.chain with start := some 900000 },
      mem := { x.mem with
          folds := [⟨{
              kind := .triggered,
              ch := 17,
              ser := 3,
              time := ⟨some 5, none, 7, 0⟩,
              win := some (924262400, 924263424),
              flags := 0,
              samples := [5, -7],
              slot := some 2 }, 9, false, false, true, false, true⟩] } }))|>.setFld F.MOD_MAP_CTRL.EN 0 1 |> fun m => modMap
    m 0 (fun q => { q with cells := [(0, 3), (512, 65535)] })), ⟨2000000, 6000000000⟩, _, 17, ⟨{
      kind := .triggered,
      ch := 17,
      ser := 3,
      time := ⟨some 5, none, 7, 0⟩,
      win := some (924262400, 924263424),
      flags := 0,
      samples := [5, -7],
      slot := some 2 }, 9, false, false, true, false, true⟩, 1, 0, rfl, by decide⟩,
    ⟨wSt ((wRun 3 0x1FF (fun x => { x with
      chain := { x.chain with start := some 900000 },
      mem := { x.mem with
          used := [2],
          folds := [⟨{
              kind := .triggered,
              ch := 17,
              ser := 3,
              time := ⟨some 5, none, 7, 0⟩,
              win := some (924262400, 924263424),
              flags := 0,
              samples := [5, -7],
              slot := some 2 }, 9, true, true, true, false, false⟩] } }))), ⟨2000000, 6000000000⟩, _, 17, ⟨{
      kind := .triggered,
      ch := 17,
      ser := 3,
      time := ⟨some 5, none, 7, 0⟩,
      win := some (924262400, 924263424),
      flags := 0,
      samples := [5, -7],
      slot := some 2 }, 9, true, true, true, false, false⟩, 1, rfl, by decide⟩,
    ⟨wSt ((wRun 0 0x1FF (fun x => { x with chain := { x.chain with start := some 900000 } }))|>.setFld F.MOD_MAP_CTRL.DECAY
    1 1 |> fun m => modMap m 1 (fun q => { q with halvedAt := 5990000000, cells := [(0, 3), (512, 1)] })), ⟨2000000,
    6000000000⟩, _, 1, rfl, by decide⟩,
    ⟨wSt ((wRun 0 0x1FF (fun x => { x with chain := { x.chain with start := some 900000 } }))|> fun m => modMap m 1 (fun q
    => { q with cells := [(0, 3), (512, 1)] })), ⟨2000000, 6000000000⟩, _, 1, rfl, by decide⟩,
    ⟨wSt ((wRun 3 0x1FF (fun x => { x with
      chain := { x.chain with start := some 900000 },
      avg := { x.avg with count := 7, sums := [2147483647, 4] },
      hist := { x.hist with count := 4 } }))), ⟨2000000, 6000000000⟩, _, 0, 1, 0x00030002, rfl, by decide⟩,
    ⟨wSt ((wRun 3 0x1FF (fun x => { x with
      chain := { x.chain with start := some 900000 },
      avg := { x.avg with count := 7, sums := [2147483647, 4] },
      hist := { x.hist with count := 4 } }))), ⟨2000000, 6000000000⟩, _, 0, 1, 0x00020000, rfl, by decide⟩,
    ⟨wSt ((wRun 3 0x1FF (fun x => { x with chain := { x.chain with start := some 900000 } }))), ⟨2000000, 6000000000⟩, _, 0,
    1, BitVec.ofNat 32 (F.MOD_MAP_CTRL.CLR.put 1), rfl, by decide⟩,
    ⟨wSt ((wRun 0 0x1FF (fun x => { x with chain := { x.chain with start := some 900000 } }))|> fun m => modMap m 1 (fun q
    => { q with clearing := true, cells := [(0, 3), (512, 1)] })), ⟨2000000, 6000000000⟩, _, 1, rfl, by decide⟩⟩

/-- Witness of the hypotheses of SumsHoldAtTheirLimits. -/
theorem witness_SumsHoldAtTheirLimits : ∀ a ∈ [(-32768 : Int), 32767], satS 32 a = a := by decide

/-- Witness of the hypotheses of BinsCountSamples. -/
theorem witness_BinsCountSamples : Sparse.get 0 ({ bins := [(3, 4294967295)] } : Hist).bins 3 < 2 ^ 32 := by decide

set_option maxRecDepth 20000 in
/-- Witness of the hypotheses of EngineBundles. -/
theorem witness_EngineBundles :
  (∃ (s : State) (t : Stamp) (m : Kz) (c : Chan) (a : Activation) (g : EngImage) (b : Nat) (l : List Int) (z : Int),
    s.kz.advance t = m ∧ (m.chan c.val).eng.state = .running ∧ (m.chan c.val).eng.act = some a ∧ (m.chan c.val).eng.image =
    some g ∧ a.used < m.fld F.ENG_BUDGET.B_DECL (c.val / 16) ∧ g.prog.getD a.pc 0 = b ∧ vop b ≠ 0x0D ∧ vecOp m c.val (m.chan
    c.val).eng a.window 0 b = .vec l ∧ scalarOp m c.val (m.chan c.val).eng b = some z) ∧
  (∃ (s : State) (t : Stamp) (m : Kz) (c : Chan) (a : Activation) (g : EngImage) (b : Nat) (k : Nat) (l : List Int),
    s.kz.advance t = m ∧ (m.chan c.val).eng.state = .running ∧ (m.chan c.val).eng.act = some a ∧ (m.chan c.val).eng.image =
    some g ∧ a.used < m.fld F.ENG_BUDGET.B_DECL (c.val / 16) ∧ g.prog.getD a.pc 0 = b ∧ vecOp m c.val (m.chan c.val).eng
    a.window 0 b = .acc k l ∧ sop b = 0) ∧
  (∃ (s : State) (t : Stamp) (m : Kz) (c : Chan) (a : Activation) (g : EngImage) (b : Nat) (k : Nat) (l : List Int),
    s.kz.advance t = m ∧ (m.chan c.val).eng.state = .running ∧ (m.chan c.val).eng.act = some a ∧ (m.chan c.val).eng.image =
    some g ∧ a.used < m.fld F.ENG_BUDGET.B_DECL (c.val / 16) ∧ g.prog.getD a.pc 0 = b ∧ vecOp m c.val (m.chan c.val).eng
    a.window 0 b = .store k l ∧ sop b = 0) ∧
  (∃ (s : State) (t : Stamp) (m : Kz) (c : Chan) (a : Activation) (g : EngImage) (b : Nat), s.kz.advance t = m ∧ (m.chan
    c.val).eng.state = .running ∧ (m.chan c.val).eng.act = some a ∧ (m.chan c.val).eng.image = some g ∧ a.used < m.fld
    F.ENG_BUDGET.B_DECL (c.val / 16) ∧ g.prog.getD a.pc 0 = b ∧ vop b = 0 ∧ sop b = 0x0A) ∧
  (∃ (s : State) (t : Stamp) (m : Kz) (c : Chan) (a : Activation) (g : EngImage) (b : Nat), s.kz.advance t = m ∧ (m.chan
    c.val).eng.state = .running ∧ (m.chan c.val).eng.act = some a ∧ (m.chan c.val).eng.image = some g ∧ a.used < m.fld
    F.ENG_BUDGET.B_DECL (c.val / 16) ∧ g.prog.getD a.pc 0 = b ∧ vop b = 0 ∧ (sop b = 0x10 ∨ (sop b = 0x11 ∧ (sreg (m.chan
    c.val).eng (sa b % 16)) = 0) ∨ (sop b = 0x12 ∧ (sreg (m.chan c.val).eng (sa b % 16)) ≠ 0))) ∧
  (∃ (s : State) (t : Stamp) (m : Kz) (c : Chan) (a : Activation) (g : EngImage) (b : Nat), s.kz.advance t = m ∧ (m.chan
    c.val).eng.state = .running ∧ (m.chan c.val).eng.act = some a ∧ (m.chan c.val).eng.image = some g ∧ a.used < m.fld
    F.ENG_BUDGET.B_DECL (c.val / 16) ∧ g.prog.getD a.pc 0 = b ∧ vop b = 0 ∧ (sop b = 0 ∨ (sop b = 0x11 ∧ (sreg (m.chan
    c.val).eng (sa b % 16)) ≠ 0) ∨ (sop b = 0x12 ∧ (sreg (m.chan c.val).eng (sa b % 16)) = 0))) ∧
  (∃ (s : State) (t : Stamp) (m : Kz) (c : Chan) (a : Activation) (g : EngImage) (b : Nat), s.kz.advance t = m ∧ (m.chan
    c.val).eng.state = .running ∧ (m.chan c.val).eng.act = some a ∧ (m.chan c.val).eng.image = some g ∧ a.used < m.fld
    F.ENG_BUDGET.B_DECL (c.val / 16) ∧ g.prog.getD a.pc 0 = b ∧ vop b = 0 ∧ sop b = 0x0F) ∧
  (∃ (s : State) (t : Stamp) (m : Kz) (c : Chan) (a : Activation) (g : EngImage) (b : Nat), s.kz.advance t = m ∧ (m.chan
    c.val).eng.state = .running ∧ (m.chan c.val).eng.act = some a ∧ (m.chan c.val).eng.image = some g ∧ a.used < m.fld
    F.ENG_BUDGET.B_DECL (c.val / 16) ∧ g.prog.getD a.pc 0 = b ∧ vop b = 0 ∧ sop b = 0x14) ∧
  (∃ (s : State) (t : Stamp) (m : Kz) (c : Chan) (a : Activation) (g : EngImage) (b : Nat), s.kz.advance t = m ∧ (m.chan
    c.val).eng.state = .running ∧ (m.chan c.val).eng.act = some a ∧ (m.chan c.val).eng.image = some g ∧ a.used < m.fld
    F.ENG_BUDGET.B_DECL (c.val / 16) ∧ g.prog.getD a.pc 0 = b ∧ vop b = 0 ∧ sop b = 0x15) ∧
  (∃ (s : State) (t : Stamp) (m : Kz) (c : Chan) (a : Activation) (g : EngImage) (b : Nat), s.kz.advance t = m ∧ (m.chan
    c.val).eng.state = .running ∧ (m.chan c.val).eng.act = some a ∧ (m.chan c.val).eng.image = some g ∧ a.used < m.fld
    F.ENG_BUDGET.B_DECL (c.val / 16) ∧ g.prog.getD a.pc 0 = b ∧ vop b = 0 ∧ sop b = 0x13) ∧
  (∃ (s : State) (t : Stamp) (m : Kz) (c : Chan) (a : Activation) (g : EngImage) (b : Nat), s.kz.advance t = m ∧ (m.chan
    c.val).eng.state = .running ∧ (m.chan c.val).eng.act = some a ∧ (m.chan c.val).eng.image = some g ∧ a.used < m.fld
    F.ENG_BUDGET.B_DECL (c.val / 16) ∧ g.prog.getD a.pc 0 = b ∧ vop b = 0 ∧ sop b = 0x16 ∧ (m.fld F.CH_TRIG_CTRL.SRC_EN
    c.val).testBit 7 = true ∧ a.raised = false ∧ (sreg (m.chan c.val).eng (sa b % 16)) ≤ (g.winLen - 1) * 1024 ∧ g.winLen <
    2 ^ 16 ∧ 1 ≤ g.winLen) ∧
  (∃ (s : State) (t : Stamp) (m : Kz) (c : Chan), s.kz.advance t = m ∧ ((m.chan c.val).eng.act = none ∨ (m.chan
    c.val).eng.image = none ∨ (m.chan c.val).eng.state ≠ .running ∨ (m.chan c.val).eng.act.any (fun a => decide (m.fld
    F.ENG_BUDGET.B_DECL (c.val / 16) ≤ a.used)) = true)) :=
  ⟨
    ⟨wSt ((wRun 1 0xFF (fun x => { x with
      chain := { x.chain with start := some 900000 },
      eng := { x.eng with
          state := .running,
          image := some { winLen := 8, prog := [1756702921912885253, 0, 0], data := [1, 2], initOnRun := true },
          act := some {
              crossing := 41,
              bcn := 7,
              idx := 100,
              mark := 924262400,
              window := [3, 4, 5, 6, 7, 8, 9, 10],
              start := 9,
              pc := 0,
              used := 0,
              loops := [(0, 0, 1)],
              feature := 0,
              raised := false },
          v := [(16, 5), (32, 7)],
          s := [(1, 9)] } }))), ⟨2000000, 6000000000⟩, _, 17, {
      crossing := 41,
      bcn := 7,
      idx := 100,
      mark := 924262400,
      window := [3, 4, 5, 6, 7, 8, 9, 10],
      start := 9,
      pc := 0,
      used := 0,
      loops := [(0, 0, 1)],
      feature := 0,
      raised := false }, { winLen := 8, prog := [1756702921912885253, 0, 0], data := [1, 2], initOnRun := true },
    1756702921912885253, [12, 0, 0, 0, 0, 0, 0, 0, 0, 0, 0, 0, 0, 0, 0, 0], 23, rfl, rfl, rfl, rfl, by decide, rfl, by
    decide, rfl, rfl⟩,
    ⟨wSt ((wRun 1 0xFF (fun x => { x with
      chain := { x.chain with start := some 900000 },
      eng := { x.eng with
          state := .running,
          image := some { winLen := 8, prog := [3170824417328496640, 0, 0], data := [1, 2], initOnRun := true },
          act := some {
              crossing := 41,
              bcn := 7,
              idx := 100,
              mark := 924262400,
              window := [3, 4, 5, 6, 7, 8, 9, 10],
              start := 9,
              pc := 0,
              used := 0,
              loops := [],
              feature := 0,
              raised := false },
          v := [(16, 5)] } }))), ⟨2000000, 6000000000⟩, _, 17, {
      crossing := 41,
      bcn := 7,
      idx := 100,
      mark := 924262400,
      window := [3, 4, 5, 6, 7, 8, 9, 10],
      start := 9,
      pc := 0,
      used := 0,
      loops := [],
      feature := 0,
      raised := false }, { winLen := 8, prog := [3170824417328496640, 0, 0], data := [1, 2], initOnRun := true },
    3170824417328496640, 2, [25, 0, 0, 0, 0, 0, 0, 0, 0, 0, 0, 0, 0, 0, 0, 0], rfl, rfl, rfl, rfl, by decide, rfl, rfl, rfl⟩,
    ⟨wSt ((wRun 1 0xFF (fun x => { x with
      chain := { x.chain with start := some 900000 },
      eng := { x.eng with
          state := .running,
          image := some { winLen := 8, prog := [874261277663297536, 0, 0], data := [1, 2], initOnRun := true },
          act := some {
              crossing := 41,
              bcn := 7,
              idx := 100,
              mark := 924262400,
              window := [3, 4, 5, 6, 7, 8, 9, 10],
              start := 9,
              pc := 0,
              used := 0,
              loops := [],
              feature := 0,
              raised := false },
          v := [(16, 5), (31, -3)],
          s := [(1, 32767)] } }))), ⟨2000000, 6000000000⟩, _, 17, {
      crossing := 41,
      bcn := 7,
      idx := 100,
      mark := 924262400,
      window := [3, 4, 5, 6, 7, 8, 9, 10],
      start := 9,
      pc := 0,
      used := 0,
      loops := [],
      feature := 0,
      raised := false }, { winLen := 8, prog := [874261277663297536, 0, 0], data := [1, 2], initOnRun := true },
    874261277663297536, 32766, [5, 0, 0, 0, 0, 0, 0, 0, 0, 0, 0, 0, 0, 0, 0, -3], rfl, rfl, rfl, rfl, by decide, rfl, rfl,
    rfl⟩,
    ⟨wSt ((wRun 1 0xFF (fun x => { x with
      chain := { x.chain with start := some 900000 },
      eng := { x.eng with
          state := .running,
          image := some { winLen := 8, prog := [679608326, 0, 0], data := [1, 2], initOnRun := true },
          act := some {
              crossing := 41,
              bcn := 7,
              idx := 100,
              mark := 924262400,
              window := [3, 4, 5, 6, 7, 8, 9, 10],
              start := 9,
              pc := 0,
              used := 0,
              loops := [],
              feature := 0,
              raised := false },
          s := [(1, 9), (2, 65539)] } }))), ⟨2000000, 6000000000⟩, _, 17, {
      crossing := 41,
      bcn := 7,
      idx := 100,
      mark := 924262400,
      window := [3, 4, 5, 6, 7, 8, 9, 10],
      start := 9,
      pc := 0,
      used := 0,
      loops := [],
      feature := 0,
      raised := false }, { winLen := 8, prog := [679608326, 0, 0], data := [1, 2], initOnRun := true }, 679608326, rfl, rfl,
    rfl, rfl, by decide, rfl, rfl, rfl⟩,
    ⟨wSt ((wRun 1 0xFF (fun x => { x with
      chain := { x.chain with start := some 900000 },
      eng := { x.eng with
          state := .running,
          image := some { winLen := 8, prog := [1208090626, 0, 0], data := [1, 2], initOnRun := true },
          act := some {
              crossing := 41,
              bcn := 7,
              idx := 100,
              mark := 924262400,
              window := [3, 4, 5, 6, 7, 8, 9, 10],
              start := 9,
              pc := 0,
              used := 0,
              loops := [],
              feature := 0,
              raised := false },
          s := [(1, 9)] } }))), ⟨2000000, 6000000000⟩, _, 17, {
      crossing := 41,
      bcn := 7,
      idx := 100,
      mark := 924262400,
      window := [3, 4, 5, 6, 7, 8, 9, 10],
      start := 9,
      pc := 0,
      used := 0,
      loops := [],
      feature := 0,
      raised := false }, { winLen := 8, prog := [1208090626, 0, 0], data := [1, 2], initOnRun := true }, 1208090626, rfl,
    rfl, rfl, rfl, by decide, rfl, rfl, by decide⟩,
    ⟨wSt ((wRun 1 0xFF (fun x => { x with
      chain := { x.chain with start := some 900000 },
      eng := { x.eng with
          state := .running,
          image := some { winLen := 8, prog := [1140981762, 0, 0], data := [1, 2], initOnRun := true },
          act := some {
              crossing := 41,
              bcn := 7,
              idx := 100,
              mark := 924262400,
              window := [3, 4, 5, 6, 7, 8, 9, 10],
              start := 9,
              pc := 0,
              used := 0,
              loops := [(0, 0, 0), (0, 1, 3)],
              feature := 0,
              raised := false },
          s := [(1, 9)] } }))), ⟨2000000, 6000000000⟩, _, 17, {
      crossing := 41,
      bcn := 7,
      idx := 100,
      mark := 924262400,
      window := [3, 4, 5, 6, 7, 8, 9, 10],
      start := 9,
      pc := 0,
      used := 0,
      loops := [(0, 0, 0), (0, 1, 3)],
      feature := 0,
      raised := false }, { winLen := 8, prog := [1140981762, 0, 0], data := [1, 2], initOnRun := true }, 1140981762, rfl,
    rfl, rfl, rfl, by decide, rfl, rfl, by decide⟩,
    ⟨wSt ((wRun 1 0xFF (fun x => { x with
      chain := { x.chain with start := some 900000 },
      eng := { x.eng with
          state := .running,
          image := some { winLen := 8, prog := [0, 1009909762, 0, 0], data := [1, 2], initOnRun := true },
          act := some {
              crossing := 41,
              bcn := 7,
              idx := 100,
              mark := 924262400,
              window := [3, 4, 5, 6, 7, 8, 9, 10],
              start := 9,
              pc := 1,
              used := 0,
              loops := [],
              feature := 0,
              raised := false } } }))), ⟨2000000, 6000000000⟩, _, 17, {
      crossing := 41,
      bcn := 7,
      idx := 100,
      mark := 924262400,
      window := [3, 4, 5, 6, 7, 8, 9, 10],
      start := 9,
      pc := 1,
      used := 0,
      loops := [],
      feature := 0,
      raised := false }, { winLen := 8, prog := [0, 1009909762, 0, 0], data := [1, 2], initOnRun := true }, 1009909762, rfl,
    rfl, rfl, rfl, by decide, rfl, rfl, rfl⟩,
    ⟨wSt ((wRun 1 0xFF (fun x => { x with
      chain := { x.chain with start := some 900000 },
      eng := { x.eng with
          state := .running,
          image := some { winLen := 8, prog := [1342308352, 0], data := [1, 2], initOnRun := true },
          act := some {
              crossing := 41,
              bcn := 7,
              idx := 100,
              mark := 924262400,
              window := [3, 4, 5, 6, 7, 8, 9, 10],
              start := 9,
              pc := 0,
              used := 0,
              loops := [],
              feature := 0,
              raised := false },
          s := [(1, 70000)] } }))), ⟨2000000, 6000000000⟩, _, 17, {
      crossing := 41,
      bcn := 7,
      idx := 100,
      mark := 924262400,
      window := [3, 4, 5, 6, 7, 8, 9, 10],
      start := 9,
      pc := 0,
      used := 0,
      loops := [],
      feature := 0,
      raised := false }, { winLen := 8, prog := [1342308352, 0], data := [1, 2], initOnRun := true }, 1342308352, rfl, rfl,
    rfl, rfl, by decide, rfl, rfl, rfl⟩,
    ⟨wSt ((wRun 1 0xFF (fun x => { x with
      chain := { x.chain with start := some 900000 },
      eng := { x.eng with
          state := .running,
          image := some { winLen := 8, prog := [1409433730, 0], data := [1, 2], initOnRun := true },
          act := some {
              crossing := 41,
              bcn := 7,
              idx := 100,
              mark := 924262400,
              window := [3, 4, 5, 6, 7, 8, 9, 10],
              start := 9,
              pc := 0,
              used := 0,
              loops := [],
              feature := 0,
              raised := false },
          s := [(1, 70000), (2, 3)] } }))), ⟨2000000, 6000000000⟩, _, 17, {
      crossing := 41,
      bcn := 7,
      idx := 100,
      mark := 924262400,
      window := [3, 4, 5, 6, 7, 8, 9, 10],
      start := 9,
      pc := 0,
      used := 0,
      loops := [],
      feature := 0,
      raised := false }, { winLen := 8, prog := [1409433730, 0], data := [1, 2], initOnRun := true }, 1409433730, rfl, rfl,
    rfl, rfl, by decide, rfl, rfl, rfl⟩,
    ⟨wSt ((wRun 1 0xFF (fun x => { x with
      chain := { x.chain with start := some 900000 },
      eng := { x.eng with
          state := .running,
          image := some { winLen := 8, prog := [1275068416], data := [1, 2], initOnRun := true },
          act := some {
              crossing := 41,
              bcn := 7,
              idx := 100,
              mark := 924262400,
              window := [3, 4, 5, 6, 7, 8, 9, 10],
              start := 9,
              pc := 0,
              used := 0,
              loops := [],
              feature := 77,
              raised := false },
          handoffs := [(40, 5, 65535), (41, 6, 65535)] } }))), ⟨2000000, 6000000000⟩, _, 17, {
      crossing := 41,
      bcn := 7,
      idx := 100,
      mark := 924262400,
      window := [3, 4, 5, 6, 7, 8, 9, 10],
      start := 9,
      pc := 0,
      used := 0,
      loops := [],
      feature := 77,
      raised := false }, { winLen := 8, prog := [1275068416], data := [1, 2], initOnRun := true }, 1275068416, rfl, rfl,
    rfl, rfl, by decide, rfl, rfl, rfl⟩,
    ⟨wSt ((wRun 0 0x1FF (fun x => { x with
      chain := { x.chain with start := some 900000 },
      eng := { x.eng with
          state := .running,
          image := some { winLen := 8, prog := [1476526080], data := [1, 2], initOnRun := true },
          act := some {
              crossing := 41,
              bcn := 7,
              idx := 100,
              mark := 924262400,
              window := [3, 4, 5, 6, 7, 8, 9, 10],
              start := 9,
              pc := 0,
              used := 0,
              loops := [],
              feature := 0,
              raised := false },
          s := [(1, 3000)] } }))), ⟨2000000, 6000000000⟩, _, 17, {
      crossing := 41,
      bcn := 7,
      idx := 100,
      mark := 924262400,
      window := [3, 4, 5, 6, 7, 8, 9, 10],
      start := 9,
      pc := 0,
      used := 0,
      loops := [],
      feature := 0,
      raised := false }, { winLen := 8, prog := [1476526080], data := [1, 2], initOnRun := true }, 1476526080, rfl, rfl,
    rfl, rfl, by decide, rfl, rfl, rfl, rfl, rfl, by decide, by decide, by decide⟩,
    ⟨wSt ((wRun 1 0xFF (fun x => { x with
      chain := { x.chain with start := some 900000 },
      eng := { x.eng with
          state := .running,
          image := some { winLen := 8, prog := [0], data := [1, 2], initOnRun := true },
          act := some {
              crossing := 41,
              bcn := 7,
              idx := 100,
              mark := 924262400,
              window := [3, 4, 5, 6, 7, 8, 9, 10],
              start := 9,
              pc := 0,
              used := 64,
              loops := [],
              feature := 0,
              raised := false } } }))), ⟨2000000, 6000000000⟩, _, 17, rfl, by decide⟩⟩

set_option maxRecDepth 20000 in
/-- Witness of the hypotheses of ActivationsAndPrimitives. -/
theorem witness_ActivationsAndPrimitives :
  (∃ (s : State) (t : Stamp) (m : Kz) (c : Chan) (no : Nat) (y : Edge) (g : EngImage) (l : List (Nat × Int)), s.kz.advance t
    = m ∧ edgeNo m no = some y ∧ (m.chan c.val).eng.image = some g ∧ (m.chan c.val).eng.state = .running ∧ engineOn m c.val
    = true ∧ running m c.val = true ∧ (l = if (Sparse.get ({} : WinBank) (m.chan c.val).eng.banks (no % 3)).crossing = no
    then (Sparse.get ({} : WinBank) (m.chan c.val).eng.banks (no % 3)).samples else []) ∧ activationCycle m c.val y ≤
    m.fabric ∧ firstDelivered m c.val ≤ markSample m c.val y ∧ (m.chan c.val).eng.handoffs.any (fun h => h.1 = no) = false ∧
    (m.chan c.val).eng.act = none ∧ (m.chan c.val).eng.user = none) ∧
  (∃ (s : State) (t : Stamp) (m : Kz) (c : Chan) (no : Nat) (y : Edge) (g : EngImage) (u : Nat × Nat) (l : List (Nat ×
    Int)), s.kz.advance t = m ∧ edgeNo m no = some y ∧ (m.chan c.val).eng.image = some g ∧ (m.chan c.val).eng.state =
    .running ∧ engineOn m c.val = true ∧ running m c.val = true ∧ (l = if (Sparse.get ({} : WinBank) (m.chan
    c.val).eng.banks (no % 3)).crossing = no then (Sparse.get ({} : WinBank) (m.chan c.val).eng.banks (no % 3)).samples else
    []) ∧ activationCycle m c.val y ≤ m.fabric ∧ firstDelivered m c.val ≤ markSample m c.val y ∧ (m.chan
    c.val).eng.handoffs.any (fun h => h.1 = no) = false ∧ (m.chan c.val).eng.act = none ∧ (m.chan c.val).eng.user = some u) ∧
  (∃ (s : State) (t : Stamp) (m : Kz) (c : Chan) (a : Activation), s.kz.advance t = m ∧ (m.chan c.val).eng.act = some a ∧
    m.fld F.ENG_BUDGET.B_DECL (c.val / 16) ≤ a.used ∧ (m.rgn (c.val / 16)).eng.overrunLogged = false) ∧
  (∃ (s : State) (t : Stamp) (m : Kz) (c : Chan) (a : Activation), s.kz.advance t = m ∧ (m.chan c.val).eng.act = some a ∧
    m.fld F.ENG_BUDGET.B_DECL (c.val / 16) ≤ a.used ∧ (m.rgn (c.val / 16)).eng.overrunLogged = true) ∧
  (∃ (s : State) (t : Stamp) (m : Kz) (c : Chan) (h : Nat × Nat × Nat) (r : List (Nat × Nat × Nat)), s.kz.advance t = m ∧
    (m.chan c.val).eng.handoffs = h :: r ∧ h.2.1 ≤ m.fabric) ∧
  (∃ (s : State) (t : Stamp) (m : Kz) (c : Chan), s.kz.advance t = m ∧ (m.chan c.val).eng.handoffs.head?.any (fun h =>
    decide (h.2.1 ≤ m.fabric)) = false) ∧
  (∃ (s : State) (t : Stamp) (m : Kz) (c : Chan), s.kz.advance t = m ∧ (m.chan c.val).eng.state = .running) ∧
  (∃ (s : State) (t : Stamp) (m : Kz) (c : Chan) (g : EngImage), s.kz.advance t = m ∧ (m.chan c.val).eng.state = .fault ∧
    (m.chan c.val).eng.image = some g) ∧
  (∃ (s : State) (t : Stamp) (m : Kz) (k : Rgn) (no : Nat) (mask : Nat) (g : EngImage) (rest : List (Nat × Nat × EngImage)),
    s.kz.advance t = m ∧ Quiet m ∧ Idle m ∧ (m.rgn k.val).eng.loads = (no, mask, g) :: rest) ∧
  (∃ (s : State) (t : Stamp) (m : Kz) (k : Rgn), s.kz.advance t = m ∧ Quiet m ∧ (m.rgn k.val).eng.loads = []) ∧
  (∃ (s : State) (t : Stamp) (m : Kz) (k : Fin 8) (no : Nat) (slip : Nat) (e : Edge) (y : Edge), s.kz.advance t = m ∧ edgeNo
    m no = some e ∧ edgeNo m (no + m.fld F.MOD_PRIM_CFG.LAT k.val) = some y ∧ m.on F.MOD_PRIM_CFG.EN k.val = true ∧ y.at_ ≤
    m.inst ∧ ((prim m k.val).sent).all (fun z => decide (z < no)) = true ∧ (primStart m k.val y.at_ slip).1 < 2) ∧
  (∃ (s : State) (t : Stamp) (m : Kz) (k : Fin 8) (no : Nat) (slip : Nat) (e : Edge) (y : Edge), s.kz.advance t = m ∧ edgeNo
    m no = some e ∧ edgeNo m (no + m.fld F.MOD_PRIM_CFG.LAT k.val) = some y ∧ m.on F.MOD_PRIM_CFG.EN k.val = true ∧ y.at_ ≤
    m.inst ∧ ((prim m k.val).sent).all (fun z => decide (z < no)) = true ∧ 2 ≤ (primStart m k.val y.at_ slip).1) ∧
  (∃ (s : State) (t : Stamp) (m : Kz) (k : Fin 8) (no : Nat), s.kz.advance t = m ∧ (m.on F.MOD_PRIM_CFG.EN k.val = false ∨
    edgeNo m no = none ∨ ((prim m k.val).sent).any (fun z => decide (no ≤ z)) = true)) :=
  ⟨
    ⟨wSt ((wRun 1 0xFF (fun x => { x with
      chain := { x.chain with start := some 900000 },
      eng := { x.eng with
          state := .running,
          banks := [(2, ⟨41, [(1, 70), (2, 80)]⟩)],
          image := some { winLen := 8, prog := [0], data := [1, 2], initOnRun := true } } }))|>.setFld F.ENG_CTRL.EN 1 2
    |>.modTl (fun l => { l with edges := [⟨41, 924262400, 300000, 3563, 8, true, false, false⟩] })), ⟨2000000, 6000000000⟩,
    _, 17, 41, ⟨41, 924262400, 300000, 3563, 8, true, false, false⟩, {
      winLen := 8,
      prog := [0],
      data := [1, 2],
      initOnRun := true }, [(1, 70), (2, 80)], rfl, rfl, rfl, rfl, rfl, rfl, rfl, by decide, by decide, rfl, rfl, rfl⟩,
    ⟨wSt ((wRun 1 0xFF (fun x => { x with
      chain := { x.chain with start := some 900000 },
      eng := { x.eng with
          state := .running,
          user := some (4128, 77),
          image := some { winLen := 8, prog := [0], data := [1, 2], initOnRun := true } } }))|>.setFld F.ENG_CTRL.EN 1 2
    |>.modTl (fun l => { l with edges := [⟨41, 924262400, 300000, 3563, 8, true, false, false⟩] })), ⟨2000000, 6000000000⟩,
    _, 17, 41, ⟨41, 924262400, 300000, 3563, 8, true, false, false⟩, {
      winLen := 8,
      prog := [0],
      data := [1, 2],
      initOnRun := true }, (4128, 77), [], rfl, rfl, rfl, rfl, rfl, rfl, rfl, by decide, by decide, rfl, rfl, rfl⟩,
    ⟨wSt ((wRun 1 0xFF (fun x => { x with
      chain := { x.chain with start := some 900000 },
      eng := { x.eng with
          state := .running,
          act := some {
              crossing := 41,
              bcn := 7,
              idx := 100,
              mark := 924262400,
              window := [3, 4, 5, 6, 7, 8, 9, 10],
              start := 9,
              pc := 0,
              used := 64,
              loops := [],
              feature := 0,
              raised := false } } }))), ⟨2000000, 6000000000⟩, _, 17, {
      crossing := 41,
      bcn := 7,
      idx := 100,
      mark := 924262400,
      window := [3, 4, 5, 6, 7, 8, 9, 10],
      start := 9,
      pc := 0,
      used := 64,
      loops := [],
      feature := 0,
      raised := false }, rfl, rfl, by decide, rfl⟩,
    ⟨wSt ((wRun 1 0xFF (fun x => { x with
      chain := { x.chain with start := some 900000 },
      eng := { x.eng with
          state := .running,
          act := some {
              crossing := 41,
              bcn := 7,
              idx := 100,
              mark := 924262400,
              window := [3, 4, 5, 6, 7, 8, 9, 10],
              start := 9,
              pc := 0,
              used := 300,
              loops := [],
              feature := 0,
              raised := false } } }))|>.modRgn 1 (fun x => { x with eng := { x.eng with overrunLogged := true } })),
    ⟨2000000, 6000000000⟩, _, 17, {
      crossing := 41,
      bcn := 7,
      idx := 100,
      mark := 924262400,
      window := [3, 4, 5, 6, 7, 8, 9, 10],
      start := 9,
      pc := 0,
      used := 300,
      loops := [],
      feature := 0,
      raised := false }, rfl, rfl, by decide, rfl⟩,
    ⟨wSt ((wRun 1 0xFF (fun x => { x with
      chain := { x.chain with start := some 900000 },
      eng := { x.eng with handoffs := [(40, 125000, 9), (41, 125001, 3)] } }))), ⟨2000000, 6000000000⟩, _, 17, (40, 125000,
    9), [(41, 125001, 3)], rfl, rfl, by decide⟩,
    ⟨wSt ((wRun 1 0xFF (fun x => { x with
      chain := { x.chain with start := some 900000 },
      eng := { x.eng with handoffs := [(40, 125001, 9)] } }))), ⟨2000000, 6000000000⟩, _, 17, rfl, by decide⟩,
    ⟨wSt ((wRun 1 0xFF (fun x => { x with
      chain := { x.chain with start := some 900000 },
      eng := { x.eng with
          state := .running,
          act := some {
              crossing := 41,
              bcn := 7,
              idx := 100,
              mark := 924262400,
              window := [3, 4, 5, 6, 7, 8, 9, 10],
              start := 9,
              pc := 0,
              used := 0,
              loops := [],
              feature := 0,
              raised := false } } }))), ⟨2000000, 6000000000⟩, _, 17, rfl, rfl⟩,
    ⟨wSt ((wRun 1 0xFF (fun x => { x with
      chain := { x.chain with start := some 900000 },
      eng := { x.eng with
          state := .fault,
          v := [(3, 4)],
          image := some { winLen := 8, prog := [0], data := [1, 2], initOnRun := true } } }))), ⟨2000000, 6000000000⟩, _,
    17, { winLen := 8, prog := [0], data := [1, 2], initOnRun := true }, rfl, rfl, rfl⟩,
    ⟨wSt ((wRun 1 0xFF (fun x => { x with
      chain := { x.chain with start := some 900000 },
      eng := { x.eng with
          state := .loading,
          loading := some { winLen := 8, prog := [0], data := [1, 2], initOnRun := true } } }))|>.modRgn 1 (fun r => { r with
      eng := { r.eng with loads := [(4, 2, { winLen := 8, prog := [0], data := [1, 2], initOnRun := true })] } })),
    ⟨2000000, 6000000000⟩, _, 1, 4, 2, { winLen := 8, prog := [0], data := [1, 2], initOnRun := true }, [], rfl, by decide,
    by decide, rfl⟩,
    ⟨wSt ((wRun 1 0xFF (fun x => { x with
      chain := { x.chain with start := some 900000 },
      eng := { x.eng with state := .running } }))), ⟨2000000, 6000000000⟩, _, 1, rfl, by decide, rfl⟩,
    ⟨wSt ((wKz .acquire).setFld F.MOD_PRIM_CFG.EN 2 1 |>.setFld F.TIM_MODE.MODE 0 1 |>.setFld F.MOD_PRIM_CFG.MODE 2 1
    |>.setFld F.MOD_PRIM_CFG.LAT 2 1 |>.modTl (fun l => { l with
      edges := [⟨42, 2047300000, 300000, 3564, 8, false, false, false⟩, ⟨41, 2047000000, 300000, 3563, 8, true, false,
        true⟩] }) |> fun m => modPrim m 2 (fun x => { x with
      words := [(41, 50, 300, 124900), (41, 49, 7, 124950), (42, 49, 8, 124900)] })), ⟨2000000, 6000000000⟩, _, 2, 41, 1,
    ⟨41, 2047000000, 300000, 3563, 8, true, false, true⟩, ⟨42, 2047300000, 300000, 3564, 8, false, false, false⟩, rfl, by
    decide⟩,
    ⟨wSt ((wKz .acquire).setFld F.MOD_PRIM_CFG.EN 2 1 |>.setFld F.TIM_MODE.MODE 0 1 |>.setFld F.MOD_PRIM_CFG.MODE 2 1
    |>.setFld F.MOD_PRIM_CFG.LAT 2 1 |>.modTl (fun l => { l with
      edges := [⟨42, 2047300000, 300000, 3564, 8, false, false, false⟩, ⟨41, 2047000000, 300000, 3563, 8, true, false,
        true⟩] }) |> fun m => modPrim m 2 (fun x => { x with
      words := [(41, 50, 300, 124900), (41, 49, 7, 124950), (42, 49, 8, 124900)] })), ⟨2000000, 6000000000⟩, _, 2, 41, 2,
    ⟨41, 2047000000, 300000, 3563, 8, true, false, true⟩, ⟨42, 2047300000, 300000, 3564, 8, false, false, false⟩, rfl, by
    decide⟩,
    ⟨wSt (wKz .ready), ⟨2000000, 6000000000⟩, _, 2, 41, rfl, by decide⟩⟩

/-- Witness of the hypotheses of VectorOperations: a bundle with each vector opcode. -/
theorem witness_VectorOperations : ∀ op ∈ [6, 7, 8, 9, 10, 11, 13, 15, 16, 17, 18, 19, 23, 24, 25],
    vop (op <<< 58) = op ∧ bits (vx (op <<< 58)) 7 2 < 40 := by decide

/-- Witness of the hypotheses of LaneStates. -/
theorem witness_LaneStates :
  (∃ (s : State) (t : Stamp) (m : Kz) (p : Port) (k : Rgn) (v : Word), s.kz.advance t = m ∧ Accepts m p .RGN_RO_CTRL k.val v
    ∧ F.RGN_RO_CTRL.RETRAIN.of v = 0) ∧
  (∃ (s : State) (t : Stamp) (m : Kz) (p : Port) (k : Rgn) (v : Word), s.kz.advance t = m ∧ Accepts m p .RGN_RO_CTRL k.val v
    ∧ F.RGN_RO_CTRL.LANE_EN.of v = m.fld F.RGN_RO_CTRL.LANE_EN k.val) ∧
  (∃ (s : State) (t : Stamp) (m : Kz) (p : Port) (k : Rgn) (v : Word), s.kz.advance t = m ∧ Accepts m p .RGN_RO_TEST k.val v) ∧
  (∃ (s : State) (t : Stamp) (m : Kz) (k : Rgn) (j : Fin 8), s.kz.advance t = m ∧ ((roLane m k.val j.val).state = .starting
    ∨ (roLane m k.val j.val).state = .fault)) ∧
  (∃ (s : State) (t : Stamp) (m : Kz) (k : Rgn) (j : Fin 8), s.kz.advance t = m ∧ (roLane m k.val j.val).state = .sync ∧
    (m.fld F.RGN_RO_TEST.TEST_EN k.val).testBit j.val = false) ∧
  (∃ (s : State) (t : Stamp) (m : Kz) (k : Rgn) (j : Fin 8), s.kz.advance t = m ∧ (roLane m k.val j.val).state = .sync ∧
    (m.fld F.RGN_RO_TEST.TEST_EN k.val).testBit j.val = true) ∧
  (∃ (s : State) (t : Stamp) (m : Kz) (k : Rgn) (j : Fin 8), s.kz.advance t = m ∧ (roLane m k.val j.val).state = .retrain ∧
    (m.fld F.RGN_RO_TEST.TEST_EN k.val).testBit j.val = true) ∧
  (∃ (s : State) (t : Stamp) (m : Kz) (k : Rgn) (j : Fin 8), s.kz.advance t = m ∧ (roLane m k.val j.val).state = .retrain ∧
    (m.fld F.RGN_RO_TEST.TEST_EN k.val).testBit j.val = false) ∧
  (∃ (s : State) (t : Stamp) (m : Kz) (k : Rgn) (j : Fin 8), s.kz.advance t = m ∧ (roLane m k.val j.val).state ≠ .off) ∧
  (∃ (s : State) (t : Stamp) (m : Kz) (k : Rgn) (j : Fin 8), s.kz.advance t = m ∧ (roLane m k.val j.val).state = .off) :=
  ⟨
    ⟨wSt ((wRun 1 0x1FF (fun x => { x with chain := { x.chain with start := some 900000 } })) |>.modLg 1 (fun g => { g with
      lanes := [(1, { state := .off }), (2, { state := .active, frame := some ⟨7, 2, [], 0, 5, 1⟩ })] }) |>.setFld
    F.RGN_RO_CTRL.LANE_EN 1 5), ⟨2000000, 6000000000⟩, _, 0, 1, BitVec.ofNat 32 (F.RGN_RO_CTRL.LANE_EN.put 3 |||
    (Kz.resetWord .RGN_RO_CTRL).toNat), rfl, by decide⟩,
    ⟨wSt ((wRun 1 0x1FF (fun x => { x with chain := { x.chain with start := some 900000 } })) |>.modLg 1 (fun g => { g with
      lanes := [(1, { state := .active }), (2, { state := .active, frame := some ⟨7, 2, [], 0, 5, 1⟩ })] }) |>.setFld
    F.RGN_RO_CTRL.LANE_EN 1 5), ⟨2000000, 6000000000⟩, _, 0, 1, BitVec.ofNat 32 (F.RGN_RO_CTRL.LANE_EN.put 5 |||
    (Kz.resetWord .RGN_RO_CTRL).toNat ||| F.RGN_RO_CTRL.RETRAIN.put 6), rfl, by decide⟩,
    ⟨wSt ((wRun 1 0x1FF (fun x => { x with chain := { x.chain with start := some 900000 } })) |>.modLg 1 (fun g => { g with
      lanes := [(1, { state := .test }), (2, { state := .active })] }) |>.setFld F.RGN_RO_TEST.TEST_EN 1 2), ⟨2000000,
    6000000000⟩, _, 0, 1, BitVec.ofNat 32 (F.RGN_RO_TEST.TEST_EN.put 4), rfl, by decide⟩,
    ⟨wSt ((wRun 1 0x1FF (fun x => { x with chain := { x.chain with start := some 900000 } })) |>.modLg 1 (fun g => { g with
      lanes := [(2, { state := .fault })] })), ⟨2000000, 6000000000⟩, _, 1, 2, rfl, by decide⟩,
    ⟨wSt ((wRun 1 0x1FF (fun x => { x with chain := { x.chain with start := some 900000 } })) |>.modLg 1 (fun g => { g with
      lanes := [(2, { state := .sync })] })), ⟨2000000, 6000000000⟩, _, 1, 2, rfl, by decide⟩,
    ⟨wSt ((wRun 1 0x1FF (fun x => { x with chain := { x.chain with start := some 900000 } })) |>.modLg 1 (fun g => { g with
      lanes := [(2, { state := .sync })] }) |>.setFld F.RGN_RO_TEST.TEST_EN 1 4), ⟨2000000, 6000000000⟩, _, 1, 2, rfl, by
    decide⟩,
    ⟨wSt ((wRun 1 0x1FF (fun x => { x with chain := { x.chain with start := some 900000 } })) |>.modLg 1 (fun g => { g with
      lanes := [(2, { state := .retrain })] }) |>.setFld F.RGN_RO_TEST.TEST_EN 1 4), ⟨2000000, 6000000000⟩, _, 1, 2, rfl, by
    decide⟩,
    ⟨wSt ((wRun 1 0x1FF (fun x => { x with chain := { x.chain with start := some 900000 } })) |>.modLg 1 (fun g => { g with
      lanes := [(2, { state := .retrain })] })), ⟨2000000, 6000000000⟩, _, 1, 2, rfl, by decide⟩,
    ⟨wSt ((wRun 1 0x1FF (fun x => { x with chain := { x.chain with start := some 900000 } })) |>.modLg 1 (fun g => { g with
      lanes := [(2, { state := .active, frame := some ⟨7, 2, [], 0, 5, 1⟩ })] })), ⟨2000000, 6000000000⟩, _, 1, 2, rfl, by
    decide⟩,
    ⟨wSt ((wRun 1 0x1FF (fun x => { x with chain := { x.chain with start := some 900000 } })) |>.modLg 1 (fun g => { g with
      lanes := [(2, { state := .off })] })), ⟨2000000, 6000000000⟩, _, 1, 2, rfl, by decide⟩⟩

/-- Witness of the hypotheses of FlueFramesAndDamper. -/
theorem witness_FlueFramesAndDamper :
  (∃ (s : State) (t : Stamp) (m : Kz) (k : Rgn) (f : FlueFrame) (fs : List FlueFrame) (j : Nat), s.kz.advance t = m ∧ (m.rgn
    k.val).lg.resend = f :: fs ∧ freeLane m k.val = some j) ∧
  (∃ (s : State) (t : Stamp) (m : Kz) (k : Rgn) (j : Nat), s.kz.advance t = m ∧ (m.rgn k.val).lg.resend = [] ∧ (m.rgn
    k.val).lg.queue ≠ [] ∧ freeLane m k.val = some j ∧ (m.fld F.RGN_DAMPER.RATE k.val = 0 ∨ ((80 * min (20 + ((((m.rgn
    k.val).lg.queue.map (fun r => if ovfHits m k.val r = true then ovfStub r else r)).take (max 1 (takeRecs (m.fld
    F.RGN_RO_CTRL.FRAME_MAX k.val * 1024) 20 ((m.rgn k.val).lg.queue.map (fun r => if ovfHits m k.val r = true then ovfStub
    r else r))).length)).map recSize).foldl (· + ·) 0) (m.fld F.RGN_DAMPER.BURST k.val * 1024) : Nat) : Int) ≤ bucketNow m
    k.val) ∧ (m.rgn k.val).lg.nextFrame + 1 < 2 ^ 32) ∧
  (∃ (s : State) (t : Stamp) (m : Kz) (k : Rgn), s.kz.advance t = m ∧ (m.rgn k.val).lg.resend = [] ∧ (m.rgn k.val).lg.queue
    ≠ [] ∧ ((freeLane m k.val).isSome = true ∨ anyActive m k.val = false) ∧ m.fld F.RGN_DAMPER.RATE k.val ≠ 0 ∧ (bucketNow m
    k.val < ((80 * min (20 + ((((m.rgn k.val).lg.queue.map (fun r => if ovfHits m k.val r = true then ovfStub r else
    r)).take (max 1 (takeRecs (m.fld F.RGN_RO_CTRL.FRAME_MAX k.val * 1024) 20 ((m.rgn k.val).lg.queue.map (fun r => if
    ovfHits m k.val r = true then ovfStub r else r))).length)).map recSize).foldl (· + ·) 0) (m.fld F.RGN_DAMPER.BURST k.val
    * 1024) : Nat) : Int))) ∧
  (∃ (s : State) (t : Stamp) (m : Kz) (k : Rgn), s.kz.advance t = m ∧ (m.rgn k.val).lg.resend = [] ∧ (m.rgn k.val).lg.queue
    ≠ [] ∧ anyActive m k.val = false ∧ (m.fld F.RGN_DAMPER.RATE k.val = 0 ∨ ((80 * min (20 + ((((m.rgn k.val).lg.queue.map
    (fun r => if ovfHits m k.val r = true then ovfStub r else r)).take (max 1 (takeRecs (m.fld F.RGN_RO_CTRL.FRAME_MAX k.val
    * 1024) 20 ((m.rgn k.val).lg.queue.map (fun r => if ovfHits m k.val r = true then ovfStub r else r))).length)).map
    recSize).foldl (· + ·) 0) (m.fld F.RGN_DAMPER.BURST k.val * 1024) : Nat) : Int) ≤ bucketNow m k.val) ∧ (m.rgn
    k.val).lg.nextFrame + 1 < 2 ^ 32) ∧
  (∃ (s : State) (t : Stamp) (m : Kz) (k : Rgn) (f : FlueFrame) (fs : List FlueFrame), s.kz.advance t = m ∧ (m.rgn
    k.val).lg.resend = f :: fs ∧ anyActive m k.val = false) ∧
  (∃ (s : State) (t : Stamp) (m : Kz) (k : Rgn), s.kz.advance t = m ∧ (m.rgn k.val).lg.resend ≠ [] ∧ freeLane m k.val = none
    ∧ anyActive m k.val = true) ∧
  (∃ (s : State) (t : Stamp) (m : Kz) (k : Rgn), s.kz.advance t = m ∧ (m.rgn k.val).lg.resend = [] ∧ ((m.rgn k.val).lg.queue
    = [] ∨ (freeLane m k.val = none ∧ anyActive m k.val = true))) ∧
  (∃ (s : State) (t : Stamp) (m : Kz) (k : Rgn) (j : Fin 8) (f : FlueFrame), s.kz.advance t = m ∧ (roLane m k.val
    j.val).frame = some f ∧ (roLane m k.val j.val).after = none) ∧
  (∃ (s : State) (t : Stamp) (m : Kz) (k : Rgn) (j : Fin 8) (f : FlueFrame) (r : Rec) (i : Nat), s.kz.advance t = m ∧
    (roLane m k.val j.val).frame = some f ∧ (roLane m k.val j.val).after = none ∧ f.recs = [r] ∧ r.slot = some i ∧ acqMode m
    (r.ch / 16) ≠ 0 ∧ (m.chan r.ch).trig.maskStop = false ∧ (m.chan r.ch).mem.folds = []) ∧
  (∃ (s : State) (t : Stamp) (m : Kz) (k : Rgn) (j : Fin 8) (f : FlueFrame) (r : Rec) (i : Nat) (st : LaneState),
    s.kz.advance t = m ∧ (roLane m k.val j.val).frame = some f ∧ (roLane m k.val j.val).after = some st ∧ st ≠ .active ∧
    f.recs = [r] ∧ r.slot = some i ∧ acqMode m (r.ch / 16) = 0 ∧ m.on F.CH_TRIG_CTRL.ARM_MODE r.ch = true ∧ (m.chan
    r.ch).mem.folds = []) ∧
  (∃ (s : State) (t : Stamp) (m : Kz) (k : Rgn) (p : Port) (v : Word), s.kz.advance t = m ∧ Accepts m p .RGN_DAMPER k.val v) ∧
  (∃ (s : State) (t : Stamp) (m : Kz) (k : Rgn) (a : _), s.kz.advance t = m ∧ oldestAge m k.val = some a ∧ m.fld
    F.RGN_RO_OVF.OVF_AGE k.val ≠ 0 ∧ (m.rgn k.val).lg.ovf = false ∧ m.fld F.RGN_RO_OVF.OVF_AGE k.val * 1000 < a) ∧
  (∃ (s : State) (t : Stamp) (m : Kz) (k : Rgn), s.kz.advance t = m ∧ ((m.rgn k.val).lg.ovf = true ∨ m.fld
    F.RGN_RO_OVF.OVF_AGE k.val = 0 ∨ (oldestAge m k.val).any (fun a => decide (m.fld F.RGN_RO_OVF.OVF_AGE k.val * 1000 < a))
    = false)) ∧
  (∃ (s : State) (t : Stamp) (m : Kz) (k : Rgn), s.kz.advance t = m ∧ (m.rgn k.val).lg.ovf = true ∧ (m.fld
    F.RGN_RO_OVF.OVF_AGE k.val = 0 ∨ (oldestAge m k.val).all (fun a => decide (a ≤ m.fld F.RGN_RO_OVF.OVF_AGE k.val * 500))
    = true)) ∧
  (∃ (s : State) (t : Stamp) (m : Kz) (k : Rgn) (a : _), s.kz.advance t = m ∧ (m.rgn k.val).lg.ovf = true ∧ m.fld
    F.RGN_RO_OVF.OVF_AGE k.val ≠ 0 ∧ oldestAge m k.val = some a ∧ m.fld F.RGN_RO_OVF.OVF_AGE k.val * 500 < a) :=
  ⟨
    ⟨wSt ((wRun 1 0x1FF (fun x => { x with chain := { x.chain with start := some 900000 } })) |>.modLg 1 (fun g => { g with
      resend := [⟨7, 2, [{
          kind := .accept,
          ch := 17,
          ser := 3,
          time := ⟨some 5, none, 7, 0⟩,
          win := some (924262400, 924263424),
          flags := 0,
          samples := [5, -7],
          slot := some 2,
          written := 5999000000 }], 0, 5, 1⟩],
      lanes := [(2, { state := .active })] })), ⟨2000000, 6000000000⟩, _, 1, ⟨7, 2, [{
      kind := .accept,
      ch := 17,
      ser := 3,
      time := ⟨some 5, none, 7, 0⟩,
      win := some (924262400, 924263424),
      flags := 0,
      samples := [5, -7],
      slot := some 2,
      written := 5999000000 }], 0, 5, 1⟩, [], 2, rfl, by decide⟩,
    ⟨wSt ((wRun 1 0x1FF (fun x => { x with chain := { x.chain with start := some 900000 } })) |>.modLg 1 (fun g => { g with
      queue := [{
          kind := .accept,
          ch := 17,
          ser := 3,
          time := ⟨some 5, none, 7, 0⟩,
          win := some (924262400, 924263424),
          flags := 0,
          samples := [5, -7],
          slot := some 2,
          written := 5999000000 }, {
          kind := .accept,
          ch := 17,
          ser := 3,
          time := ⟨some 5, none, 7, 0⟩,
          win := some (924262400, 924263424),
          flags := 0,
          samples := [1, 2, 3],
          slot := some 3,
          written := 5999000000 }],
      lanes := [(2, { state := .active })] }) |>.setFld F.RGN_RO_CTRL.FRAME_MAX 1 4), ⟨2000000, 6000000000⟩, _, 1, 2, rfl,
    by decide⟩,
    ⟨wSt ((wRun 1 0x1FF (fun x => { x with chain := { x.chain with start := some 900000 } })) |>.modLg 1 (fun g => { g with
      queue := [{
          kind := .accept,
          ch := 17,
          ser := 3,
          time := ⟨some 5, none, 7, 0⟩,
          win := some (924262400, 924263424),
          flags := 0,
          samples := [5, -7],
          slot := some 2,
          written := 5999000000 }, {
          kind := .accept,
          ch := 17,
          ser := 3,
          time := ⟨some 5, none, 7, 0⟩,
          win := some (924262400, 924263424),
          flags := 0,
          samples := [1, 2, 3],
          slot := some 3,
          written := 5999000000 }],
      filledAt := 5999999900,
      lanes := [(2, { state := .active })] }) |>.setFld F.RGN_RO_CTRL.FRAME_MAX 1 4 |>.setFld F.RGN_DAMPER.RATE 1 1
    |>.setFld F.RGN_DAMPER.BURST 1 4), ⟨2000000, 6000000000⟩, _, 1, rfl, by decide⟩,
    ⟨wSt ((wRun 1 0x1FF (fun x => { x with chain := { x.chain with start := some 900000 } })) |>.modLg 1 (fun g => { g with
      queue := [{
          kind := .accept,
          ch := 17,
          ser := 3,
          time := ⟨some 5, none, 7, 0⟩,
          win := some (924262400, 924263424),
          flags := 0,
          samples := [5, -7],
          slot := some 2,
          written := 5999000000 }, {
          kind := .accept,
          ch := 17,
          ser := 3,
          time := ⟨some 5, none, 7, 0⟩,
          win := some (924262400, 924263424),
          flags := 0,
          samples := [1, 2, 3],
          slot := some 3,
          written := 5999000000 }] }) |>.setFld F.RGN_RO_CTRL.FRAME_MAX 1 4), ⟨2000000, 6000000000⟩, _, 1, rfl, by decide⟩,
    ⟨wSt ((wRun 1 0x1FF (fun x => { x with chain := { x.chain with start := some 900000 } })) |>.modLg 1 (fun g => { g with
      resend := [⟨7, 2, [{
          kind := .accept,
          ch := 17,
          ser := 3,
          time := ⟨some 5, none, 7, 0⟩,
          win := some (924262400, 924263424),
          flags := 0,
          samples := [5, -7],
          slot := some 2,
          written := 5999000000 }], 0, 5, 1⟩],
      lanes := [(2, { state := .retrain })] })), ⟨2000000, 6000000000⟩, _, 1, ⟨7, 2, [{
      kind := .accept,
      ch := 17,
      ser := 3,
      time := ⟨some 5, none, 7, 0⟩,
      win := some (924262400, 924263424),
      flags := 0,
      samples := [5, -7],
      slot := some 2,
      written := 5999000000 }], 0, 5, 1⟩, [], rfl, by decide⟩,
    ⟨wSt ((wRun 1 0x1FF (fun x => { x with chain := { x.chain with start := some 900000 } })) |>.modLg 1 (fun g => { g with
      resend := [⟨7, 2, [{
          kind := .accept,
          ch := 17,
          ser := 3,
          time := ⟨some 5, none, 7, 0⟩,
          win := some (924262400, 924263424),
          flags := 0,
          samples := [5, -7],
          slot := some 2,
          written := 5999000000 }], 0, 5, 1⟩],
      lanes := [(2, { state := .active, frame := some ⟨7, 2, [], 0, 5, 1⟩ })] })), ⟨2000000, 6000000000⟩, _, 1, rfl, by
    decide⟩,
    ⟨wSt ((wRun 1 0x1FF (fun x => { x with chain := { x.chain with start := some 900000 } })) |>.modLg 1 (fun g => { g with
      queue := [{
          kind := .accept,
          ch := 17,
          ser := 3,
          time := ⟨some 5, none, 7, 0⟩,
          win := some (924262400, 924263424),
          flags := 0,
          samples := [5, -7],
          slot := some 2,
          written := 5999000000 }, {
          kind := .accept,
          ch := 17,
          ser := 3,
          time := ⟨some 5, none, 7, 0⟩,
          win := some (924262400, 924263424),
          flags := 0,
          samples := [1, 2, 3],
          slot := some 3,
          written := 5999000000 }],
      lanes := [(2, { state := .active, frame := some ⟨7, 2, [], 0, 5, 1⟩ })] }) |>.setFld F.RGN_RO_CTRL.FRAME_MAX 1 4),
    ⟨2000000, 6000000000⟩, _, 1, rfl, by decide⟩,
    ⟨wSt ((wRun 1 0x1FF (fun x => { x with
      chain := { x.chain with start := some 900000 },
      mem := { x.mem with slots := 4, slotSize := 4096, used := [2, 1] } })) |>.modLg 1 (fun g => { g with
      lanes := [(2, {
          state := .active,
          frame := some ⟨7, 2, [{
              kind := .accept,
              ch := 17,
              ser := 3,
              time := ⟨some 5, none, 7, 0⟩,
              win := some (924262400, 924263424),
              flags := 0,
              samples := [5, -7],
              slot := some 2,
              written := 5999000000 }], 0, 5, 1⟩ })] })), ⟨2000000, 6000000000⟩, _, 1, 2, ⟨7, 2, [{
      kind := .accept,
      ch := 17,
      ser := 3,
      time := ⟨some 5, none, 7, 0⟩,
      win := some (924262400, 924263424),
      flags := 0,
      samples := [5, -7],
      slot := some 2,
      written := 5999000000 }], 0, 5, 1⟩, rfl, by decide⟩,
    ⟨wSt ((wRun 1 0x1FF (fun x => { x with
      chain := { x.chain with start := some 900000 },
      mem := { x.mem with slots := 4, slotSize := 4096, used := [2, 1] } })) |>.modLg 1 (fun g => { g with
      lanes := [(2, {
          state := .active,
          frame := some ⟨7, 2, [{
              kind := .accept,
              ch := 17,
              ser := 3,
              time := ⟨some 5, none, 7, 0⟩,
              win := some (924262400, 924263424),
              flags := 0,
              samples := [5, -7],
              slot := some 2,
              written := 5999000000 }], 0, 5, 1⟩ })] })), ⟨2000000, 6000000000⟩, _, 1, 2, ⟨7, 2, [{
      kind := .accept,
      ch := 17,
      ser := 3,
      time := ⟨some 5, none, 7, 0⟩,
      win := some (924262400, 924263424),
      flags := 0,
      samples := [5, -7],
      slot := some 2,
      written := 5999000000 }], 0, 5, 1⟩, {
      kind := .accept,
      ch := 17,
      ser := 3,
      time := ⟨some 5, none, 7, 0⟩,
      win := some (924262400, 924263424),
      flags := 0,
      samples := [5, -7],
      slot := some 2,
      written := 5999000000 }, 2, rfl, by decide⟩,
    ⟨wSt ((wRun 0 0x1FF (fun x => { x with
      chain := { x.chain with start := some 900000 },
      mem := { x.mem with slots := 4, slotSize := 4096, used := [2, 1] } })) |>.modLg 1 (fun g => { g with
      lanes := [(2, {
          state := .active,
          after := some .retrain,
          frame := some ⟨7, 2, [{
              kind := .accept,
              ch := 17,
              ser := 3,
              time := ⟨some 5, none, 7, 0⟩,
              win := some (924262400, 924263424),
              flags := 0,
              samples := [5, -7],
              slot := some 2,
              written := 5999000000 }], 0, 5, 1⟩ })] }) |>.setFld F.CH_TRIG_CTRL.ARM_MODE 17 1), ⟨2000000, 6000000000⟩, _,
    1, 2, ⟨7, 2, [{
      kind := .accept,
      ch := 17,
      ser := 3,
      time := ⟨some 5, none, 7, 0⟩,
      win := some (924262400, 924263424),
      flags := 0,
      samples := [5, -7],
      slot := some 2,
      written := 5999000000 }], 0, 5, 1⟩, {
      kind := .accept,
      ch := 17,
      ser := 3,
      time := ⟨some 5, none, 7, 0⟩,
      win := some (924262400, 924263424),
      flags := 0,
      samples := [5, -7],
      slot := some 2,
      written := 5999000000 }, 2, .retrain, rfl, by decide⟩,
    ⟨wSt ((wRun 1 0x1FF (fun x => { x with chain := { x.chain with start := some 900000 } })) |>.modLg 1 (fun g => { g with
      bucket := 7,
      filledAt := 5999999900 }) |>.setFld F.RGN_DAMPER.RATE 1 3), ⟨2000000, 6000000000⟩, _, 1, 0, BitVec.ofNat 32
    (F.RGN_DAMPER.RATE.put 2000 ||| F.RGN_DAMPER.BURST.put 64), rfl, by decide⟩,
    ⟨wSt ((wRun 1 0x1FF (fun x => { x with chain := { x.chain with start := some 900000 } })) |>.modLg 1 (fun g => { g with
      queue := [{
          kind := .accept,
          ch := 17,
          ser := 3,
          time := ⟨some 5, none, 7, 0⟩,
          win := some (924262400, 924263424),
          flags := 0,
          samples := [5, -7],
          slot := some 2,
          written := 5999000000 }] }) |>.setFld F.RGN_RO_OVF.OVF_AGE 1 999), ⟨2000000, 6000000000⟩, _, 1, 1000000, rfl, by
    decide⟩,
    ⟨wSt ((wRun 1 0x1FF (fun x => { x with chain := { x.chain with start := some 900000 } })) |>.modLg 1 (fun g => { g with
      queue := [{
          kind := .accept,
          ch := 17,
          ser := 3,
          time := ⟨some 5, none, 7, 0⟩,
          win := some (924262400, 924263424),
          flags := 0,
          samples := [5, -7],
          slot := some 2,
          written := 5999000000 }] }) |>.setFld F.RGN_RO_OVF.OVF_AGE 1 1000), ⟨2000000, 6000000000⟩, _, 1, rfl, by decide⟩,
    ⟨wSt ((wRun 1 0x1FF (fun x => { x with chain := { x.chain with start := some 900000 } })) |>.modLg 1 (fun g => { g with
      ovf := true,
      queue := [{
          kind := .accept,
          ch := 17,
          ser := 3,
          time := ⟨some 5, none, 7, 0⟩,
          win := some (924262400, 924263424),
          flags := 0,
          samples := [5, -7],
          slot := some 2,
          written := 5999000000 }] }) |>.setFld F.RGN_RO_OVF.OVF_AGE 1 2000), ⟨2000000, 6000000000⟩, _, 1, rfl, by decide⟩,
    ⟨wSt ((wRun 1 0x1FF (fun x => { x with chain := { x.chain with start := some 900000 } })) |>.modLg 1 (fun g => { g with
      ovf := true,
      queue := [{
          kind := .accept,
          ch := 17,
          ser := 3,
          time := ⟨some 5, none, 7, 0⟩,
          win := some (924262400, 924263424),
          flags := 0,
          samples := [5, -7],
          slot := some 2,
          written := 5999000000 }] }) |>.setFld F.RGN_RO_OVF.OVF_AGE 1 1999), ⟨2000000, 6000000000⟩, _, 1, 1000000, rfl, by
    decide⟩⟩

/-- Witness of the hypotheses of TimeIntervals. -/
theorem witness_TimeIntervals :
  (∃ (s : State) (t : Stamp) (m : Kz) (c : Chan) (i : Nat) (r : List Nat), s.kz.advance t = m ∧ (m.chan c.val).trig.tiuOut =
    i :: r) ∧
  (∃ (s : State) (t : Stamp) (m : Kz), s.kz.advance t = m ∧ m.tiu.queue.head?.any (fun e => decide (e.inst + jdelay m ≤
    m.inst)) = false) ∧
  (∃ (s : State) (t : Stamp) (m : Kz) (x : Fin 32) (e : TiuEvent), s.kz.advance t = m ∧ m.tiu.queue = [e] ∧ e.inst + jdelay
    m ≤ m.inst ∧ (tiuCtx m x.val).state = .armed ∧ ofSource e (m.fld F.TIM_TIU_CFG.START_SRC x.val) (m.fld
    F.TIM_TIU_CFG.START_ARG x.val) = true) ∧
  (∃ (s : State) (t : Stamp) (m : Kz) (x : Fin 32) (e : TiuEvent), s.kz.advance t = m ∧ m.tiu.queue = [e] ∧ e.inst + jdelay
    m ≤ m.inst ∧ ((tiuCtx m x.val).state = .idle ∨ ((tiuCtx m x.val).state = .armed ∧ ofSource e (m.fld
    F.TIM_TIU_CFG.START_SRC x.val) (m.fld F.TIM_TIU_CFG.START_ARG x.val) = false))) ∧
  (∃ (s : State) (t : Stamp) (m : Kz) (x : Fin 32) (e : TiuEvent), s.kz.advance t = m ∧ m.tiu.queue = [e] ∧ e.inst + jdelay
    m ≤ m.inst ∧ (tiuCtx m x.val).state = .open_ ∧ (tiuCtx m x.val).start + tiuOpen m x.val ≤ e.inst ∧ (tiuCtx m
    x.val).start < e.inst ∧ e.inst < (tiuCtx m x.val).start + tiuClose m x.val ∧ ofSource e (m.fld F.TIM_TIU_CFG.STOP_SRC
    x.val) (m.fld F.TIM_TIU_CFG.STOP_ARG x.val) = true ∧ (m.on F.TIM_TIU_CFG.CHAIN x.val = false ∨ m.on F.TIM_TIU_CFG.MODE
    x.val = false ∨ ofSource e (m.fld F.TIM_TIU_CFG.START_SRC x.val) (m.fld F.TIM_TIU_CFG.START_ARG x.val) = false)) ∧
  (∃ (s : State) (t : Stamp) (m : Kz) (x : Fin 32) (e : TiuEvent), s.kz.advance t = m ∧ m.tiu.queue = [e] ∧ e.inst + jdelay
    m ≤ m.inst ∧ (tiuCtx m x.val).state = .open_ ∧ (tiuCtx m x.val).start + tiuOpen m x.val ≤ e.inst ∧ (tiuCtx m
    x.val).start < e.inst ∧ e.inst < (tiuCtx m x.val).start + tiuClose m x.val ∧ ofSource e (m.fld F.TIM_TIU_CFG.STOP_SRC
    x.val) (m.fld F.TIM_TIU_CFG.STOP_ARG x.val) = true ∧ m.on F.TIM_TIU_CFG.CHAIN x.val = true ∧ m.on F.TIM_TIU_CFG.MODE
    x.val = true ∧ ofSource e (m.fld F.TIM_TIU_CFG.START_SRC x.val) (m.fld F.TIM_TIU_CFG.START_ARG x.val) = true) ∧
  (∃ (s : State) (t : Stamp) (m : Kz) (x : Fin 32) (e : TiuEvent), s.kz.advance t = m ∧ m.tiu.queue = [e] ∧ e.inst + jdelay
    m ≤ m.inst ∧ (tiuCtx m x.val).state = .open_ ∧ e.inst < (tiuCtx m x.val).start + tiuClose m x.val ∧ (ofSource e (m.fld
    F.TIM_TIU_CFG.STOP_SRC x.val) (m.fld F.TIM_TIU_CFG.STOP_ARG x.val) = false ∨ e.inst < (tiuCtx m x.val).start + tiuOpen m
    x.val ∨ e.inst ≤ (tiuCtx m x.val).start)) ∧
  (∃ (s : State) (t : Stamp) (m : Kz) (x : Fin 32), s.kz.advance t = m ∧ m.tiu.queue = [] ∧ (tiuCtx m x.val).state = .open_
    ∧ (tiuCtx m x.val).start + tiuClose m x.val + jdelay m ≤ m.inst) ∧
  (∃ (s : State) (t : Stamp) (m : Kz) (x : Fin 32), s.kz.advance t = m ∧ m.tiu.queue = [] ∧ ((tiuCtx m x.val).state ≠ .open_
    ∨ m.inst < (tiuCtx m x.val).start + tiuClose m x.val + jdelay m)) ∧
  (∃ (s : State) (t : Stamp) (m : Kz) (p : Port) (x : Fin 32) (v : Word), s.kz.advance t = m ∧ Accepts m p .TIM_TIU_CFG
    x.val v) ∧
  (∃ (s : State) (t : Stamp) (m : Kz) (p : Port) (x : Fin 32) (v : Word), s.kz.advance t = m ∧ Accepts m p .TIM_TIU_WIN
    x.val v) ∧
  (∃ (s : State) (t : Stamp) (m : Kz) (p : Port) (v : Word), s.kz.advance t = m ∧ Accepts m p .TIM_TIU_ARM 0 v) ∧
  (∃ (s : State) (t : Stamp) (m : Kz) (p : Port) (x : Fin 32), s.kz.advance t = m ∧ Reaches m p .TIM_TIU_STAT x.val) :=
  ⟨
    ⟨wSt ((wKz .ready) |> fun m => { m with tiu := { m.tiu with queue := [⟨4, 0, 1900000001⟩] } }.modTrig 17 (fun x => { x with
      tiuOut := [1999999999, 4] })), ⟨2000000, 6000000000⟩, _, 17, 1999999999, [4], rfl, by decide⟩,
    ⟨wSt ((wKz .ready) |> fun m => { m with tiu := { m.tiu with queue := [⟨4, 0, 2047999999⟩] } }), ⟨2000000, 6000000000⟩,
    _, rfl, by decide⟩,
    ⟨wSt ((wKz .ready) |> fun m => { m with
      tiu := { m.tiu with ctx := [(5, { state := .armed })], queue := [⟨4, 0, 1900000001⟩] } } |>.setFld
    F.TIM_TIU_CFG.START_SRC 5 4 |>.setFld F.TIM_TIU_CFG.STOP_SRC 5 5), ⟨2000000, 6000000000⟩, _, 5, ⟨4, 0, 1900000001⟩, rfl,
    by decide⟩,
    ⟨wSt ((wKz .ready) |> fun m => { m with tiu := { m.tiu with queue := [⟨4, 0, 1900000001⟩] } } |>.setFld
    F.TIM_TIU_CFG.START_SRC 5 4 |>.setFld F.TIM_TIU_CFG.STOP_SRC 5 5), ⟨2000000, 6000000000⟩, _, 5, ⟨4, 0, 1900000001⟩, rfl,
    by decide⟩,
    ⟨wSt ((wKz .ready) |> fun m => { m with
      tiu := { m.tiu with ctx := [(5, { state := .open_, start := 1899990000 })], queue := [⟨5, 0, 1900000001⟩] } }
    |>.setFld F.TIM_TIU_CFG.START_SRC 5 4 |>.setFld F.TIM_TIU_CFG.STOP_SRC 5 5 |>.setFld F.TIM_TIU_WIN.OPEN 5 1 |>.setFld
    F.TIM_TIU_WIN.CLOSE 5 2000), ⟨2000000, 6000000000⟩, _, 5, ⟨5, 0, 1900000001⟩, rfl, by decide⟩,
    ⟨wSt ((wKz .ready) |> fun m => { m with
      tiu := { m.tiu with ctx := [(5, { state := .open_, start := 1899990000 })], queue := [⟨4, 0, 1900000001⟩] } }
    |>.setFld F.TIM_TIU_CFG.START_SRC 5 4 |>.setFld F.TIM_TIU_CFG.STOP_SRC 5 4 |>.setFld F.TIM_TIU_CFG.CHAIN 5 1 |>.setFld
    F.TIM_TIU_CFG.MODE 5 1 |>.setFld F.TIM_TIU_WIN.OPEN 5 1 |>.setFld F.TIM_TIU_WIN.CLOSE 5 2000), ⟨2000000, 6000000000⟩, _,
    5, ⟨4, 0, 1900000001⟩, rfl, by decide⟩,
    ⟨wSt ((wKz .ready) |> fun m => { m with
      tiu := { m.tiu with ctx := [(5, { state := .open_, start := 1899990000 })], queue := [⟨4, 0, 1900000001⟩] } }
    |>.setFld F.TIM_TIU_CFG.START_SRC 5 4 |>.setFld F.TIM_TIU_CFG.STOP_SRC 5 5 |>.setFld F.TIM_TIU_WIN.OPEN 5 1 |>.setFld
    F.TIM_TIU_WIN.CLOSE 5 2000), ⟨2000000, 6000000000⟩, _, 5, ⟨4, 0, 1900000001⟩, rfl, by decide⟩,
    ⟨wSt ((wKz .ready) |> fun m => { m with tiu := { m.tiu with ctx := [(5, { state := .open_, start := 1899990000 })] } }
    |>.setFld F.TIM_TIU_CFG.START_SRC 5 4 |>.setFld F.TIM_TIU_CFG.STOP_SRC 5 5 |>.setFld F.TIM_TIU_WIN.OPEN 5 1 |>.setFld
    F.TIM_TIU_WIN.CLOSE 5 2000), ⟨2000000, 6000000000⟩, _, 5, rfl, by decide⟩,
    ⟨wSt ((wKz .ready) |> fun m => { m with tiu := { m.tiu with ctx := [(5, { state := .open_, start := 2045990000 })] } }
    |>.setFld F.TIM_TIU_CFG.START_SRC 5 4 |>.setFld F.TIM_TIU_CFG.STOP_SRC 5 5 |>.setFld F.TIM_TIU_WIN.OPEN 5 1 |>.setFld
    F.TIM_TIU_WIN.CLOSE 5 2000), ⟨2000000, 6000000000⟩, _, 5, rfl, by decide⟩,
    ⟨wSt ((wKz .ready) |> fun m => { m with tiu := { m.tiu with ctx := [(4, { state := .open_ })] } }), ⟨2000000,
    6000000000⟩, _, 0, 5, BitVec.ofNat 32 (F.TIM_TIU_CFG.EN.put 1 ||| F.TIM_TIU_CFG.START_SRC.put 4), rfl, by decide⟩,
    ⟨wSt ((wKz .ready) |> fun m => { m with tiu := { m.tiu with ctx := [(4, { state := .open_ })] } }), ⟨2000000,
    6000000000⟩, _, 0, 5, BitVec.ofNat 32 (F.TIM_TIU_WIN.CLOSE.put 4), rfl, by decide⟩,
    ⟨wSt ((wKz .ready) |> fun m => { m with tiu := { m.tiu with ctx := [(4, { state := .open_ })] } } |>.setFld
    F.TIM_TIU_CFG.EN 5 1 |>.setFld F.TIM_TIU_CFG.EN 4 1), ⟨2000000, 6000000000⟩, _, 0, 0x70, rfl, by decide⟩,
    ⟨wSt ((wKz .ready) |> fun m => { m with tiu := { m.tiu with ctx := [(5, { ticks := 77, latched := 5 })] } }), ⟨2000000,
    6000000000⟩, _, 0, 5, rfl, by decide⟩⟩

/-- Witness of the hypotheses of FrequencyCounter. -/
theorem witness_FrequencyCounter :
  (∃ (s : State) (t : Stamp) (m : Kz) (p : Port) (v : Word), s.kz.advance t = m ∧ Accepts m p .TIM_FREQ_CFG 0 v) ∧
  (∃ (s : State) (t : Stamp) (m : Kz) (p : Port) (v : Word), s.kz.advance t = m ∧ Accepts m p .TIM_FREQ_CFG 0 v) ∧
  (∃ (s : State) (t : Stamp) (m : Kz) (k : Nat) (span : Nat), s.kz.advance t = m ∧ m.tiu.gating = true ∧ k ≠ 0 ∧ span ≠ 0 ∧
    m.fld F.TIM_FREQ_CFG.GATE_MS 0 * 327680000 ≤ span) ∧
  (∃ (s : State) (t : Stamp) (m : Kz), s.kz.advance t = m ∧ m.tiu.gating = true ∧ m.tiu.gateNs + (m.fld
    F.TIM_FREQ_CFG.GATE_MS 0 * 1000000 + 1000000000) ≤ m.now.ns) ∧
  (∃ (s : State) (t : Stamp) (m : Kz), s.kz.advance t = m ∧ (m.tiu.gating = false ∨ m.now.ns < m.tiu.gateNs + (m.fld
    F.TIM_FREQ_CFG.GATE_MS 0 * 1000000 + 1000000000))) ∧
  (∃ (s : State) (t : Stamp) (m : Kz) (p : Port), s.kz.advance t = m ∧ Reaches m p .TIM_FREQ_STAT 0) :=
  ⟨
    ⟨wSt ((wKz .ready)), ⟨2000000, 6000000000⟩, _, 0, BitVec.ofNat 32 (F.TIM_FREQ_CFG.START.put 1 ||| F.TIM_FREQ_CFG.SRC.put
    5 ||| F.TIM_FREQ_CFG.GATE_MS.put 10000), rfl, by decide⟩,
    ⟨wSt ((wKz .ready) |> fun m => { m with tiu := { m.tiu with gating := true } }), ⟨2000000, 6000000000⟩, _, 0,
    BitVec.ofNat 32 (F.TIM_FREQ_CFG.GATE_MS.put 1), rfl, by decide⟩,
    ⟨wSt ((wKz .ready) |> fun m => { m with tiu := { m.tiu with gating := true } }.setFld F.TIM_FREQ_CFG.GATE_MS 0 1),
    ⟨2000000, 6000000000⟩, _, 1000, 327680001, rfl, by decide⟩,
    ⟨wSt ((wKz .ready) |> fun m => { m with tiu := { m.tiu with gating := true, gateNs := 4999000000 } }.setFld
    F.TIM_FREQ_CFG.GATE_MS 0 1), ⟨2000000, 6000000000⟩, _, rfl, by decide⟩,
    ⟨wSt ((wKz .ready) |> fun m => { m with tiu := { m.tiu with gating := true, gateNs := 4999000001 } }.setFld
    F.TIM_FREQ_CFG.GATE_MS 0 1), ⟨2000000, 6000000000⟩, _, rfl, by decide⟩,
    ⟨wSt ((wKz .ready) |> fun m => { m with tiu := { m.tiu with freq := 4294967299, freqLatch := 5 } }), ⟨2000000,
    6000000000⟩, _, 0, rfl, by decide⟩⟩

/-- Witness of the hypotheses of SensorBoundaries. -/
theorem witness_SensorBoundaries :
  (∃ (s : State) (t : Stamp) (m : Kz) (k : Fin 24) (p : Port) (v : Word), s.kz.advance t = m ∧ Accepts m p .SNS_CFG k.val v) ∧
  (∃ (s : State) (t : Stamp) (m : Kz) (k : Fin 24), s.kz.advance t = m ∧ (powered m.pwr.state = false ∨ m.now.ns < ((sns m
    k.val).last + snsPeriod (sns m k.val).cfg))) ∧
  (∃ (s : State) (t : Stamp) (m : Kz) (k : Fin 24), s.kz.advance t = m ∧ powered m.pwr.state = true ∧ ((sns m k.val).last +
    snsPeriod (sns m k.val).cfg) ≤ m.now.ns ∧ F.SNS_CFG.EN.of (sns m k.val).cfg = 1 ∧ (m.cfgWord .SNS_CFG k.val) = (sns m
    k.val).cfg ∧ (m.fld F.SNS_CHK.CHK_INT k.val = 0 ∨ ((sns m k.val).chkDue = false ∧ ((sns m k.val).last + snsPeriod (sns m
    k.val).cfg) < (sns m k.val).chkBase + m.fld F.SNS_CHK.CHK_INT k.val * 1000000000))) ∧
  (∃ (s : State) (t : Stamp) (m : Kz) (k : Fin 24), s.kz.advance t = m ∧ powered m.pwr.state = true ∧ ((sns m k.val).last +
    snsPeriod (sns m k.val).cfg) ≤ m.now.ns ∧ F.SNS_CFG.EN.of (sns m k.val).cfg = 0 ∧ (m.cfgWord .SNS_CFG k.val) = (sns m
    k.val).cfg) ∧
  (∃ (s : State) (t : Stamp) (m : Kz) (k : Fin 24), s.kz.advance t = m ∧ powered m.pwr.state = true ∧ ((sns m k.val).last +
    snsPeriod (sns m k.val).cfg) ≤ m.now.ns ∧ F.SNS_CFG.EN.of (sns m k.val).cfg = 0 ∧ F.SNS_CFG.EN.of (m.cfgWord .SNS_CFG
    k.val) = 1 ∧ (sns m k.val).checking = none) ∧
  (∃ (s : State) (t : Stamp) (m : Kz) (k : Fin 24), s.kz.advance t = m ∧ powered m.pwr.state = true ∧ ((sns m k.val).last +
    snsPeriod (sns m k.val).cfg) ≤ m.now.ns ∧ F.SNS_CFG.EN.of (sns m k.val).cfg = 1 ∧ F.SNS_CFG.EN.of (m.cfgWord .SNS_CFG
    k.val) = 0 ∧ (sns m k.val).checking = none) ∧
  (∃ (s : State) (t : Stamp) (m : Kz) (k : Fin 24), s.kz.advance t = m ∧ powered m.pwr.state = true ∧ ((sns m k.val).last +
    snsPeriod (sns m k.val).cfg) ≤ m.now.ns ∧ F.SNS_CFG.EN.of (sns m k.val).cfg = 1 ∧ F.SNS_CFG.EN.of (m.cfgWord .SNS_CFG
    k.val) = 1 ∧ (F.SNS_CFG.FREQ.of (sns m k.val).cfg ≠ F.SNS_CFG.FREQ.of (m.cfgWord .SNS_CFG k.val) ∨ F.SNS_CFG.AMPL.of
    (sns m k.val).cfg ≠ F.SNS_CFG.AMPL.of (m.cfgWord .SNS_CFG k.val) ∨ F.SNS_CFG.RATE.of (sns m k.val).cfg ≠
    F.SNS_CFG.RATE.of (m.cfgWord .SNS_CFG k.val)) ∧ (sns m k.val).checking = none) ∧
  (∃ (s : State) (t : Stamp) (m : Kz) (k : Fin 24) (peak : _), s.kz.advance t = m ∧ powered m.pwr.state = true ∧ ((sns m
    k.val).last + snsPeriod (sns m k.val).cfg) ≤ m.now.ns ∧ F.SNS_CFG.EN.of (sns m k.val).cfg = 1 ∧ (m.cfgWord .SNS_CFG
    k.val) = (sns m k.val).cfg ∧ m.fld F.SNS_CHK.CHK_INT k.val ≠ 0 ∧ ((sns m k.val).chkDue = true ∨ (sns m k.val).chkBase +
    m.fld F.SNS_CHK.CHK_INT k.val * 1000000000 ≤ ((sns m k.val).last + snsPeriod (sns m k.val).cfg)) ∧ (sns m k.val).open_ =
    false ∧ (sns m k.val).out.open_ = false ∧ (sns m k.val).short = false ∧ (sns m k.val).out.settling = false ∧ (sns m
    k.val).settle = 0 ∧ (sns m k.val).checking = none ∧ peak ≤ 1800) ∧
  (∃ (s : State) (t : Stamp) (m : Kz) (k : Fin 24) (peak : _), s.kz.advance t = m ∧ powered m.pwr.state = true ∧ ((sns m
    k.val).last + snsPeriod (sns m k.val).cfg) ≤ m.now.ns ∧ F.SNS_CFG.EN.of (sns m k.val).cfg = 1 ∧ (m.cfgWord .SNS_CFG
    k.val) = (sns m k.val).cfg ∧ m.fld F.SNS_CHK.CHK_INT k.val ≠ 0 ∧ ((sns m k.val).chkDue = true ∨ (sns m k.val).chkBase +
    m.fld F.SNS_CHK.CHK_INT k.val * 1000000000 ≤ ((sns m k.val).last + snsPeriod (sns m k.val).cfg)) ∧ (sns m k.val).open_ =
    false ∧ (sns m k.val).out.open_ = false ∧ (sns m k.val).short = false ∧ (sns m k.val).out.settling = false ∧ (sns m
    k.val).settle = 0 ∧ (sns m k.val).checking = none ∧ 1800 < peak) :=
  ⟨
    ⟨wSt ((wKz .ready).setFld F.SNS_CFG.EN 3 1 |> fun m => modSns m 3 (fun x => { x with
      cfg := m.cfgWord .SNS_CFG 3,
      last := 0 })), ⟨2000000, 6000000000⟩, _, 3, 0, 0x0300000A, rfl, by decide⟩,
    ⟨wSt ((wKz .ready).setFld F.SNS_CFG.EN 3 1 |> fun m => modSns m 3 (fun x => { x with
      cfg := m.cfgWord .SNS_CFG 3,
      last := 5950000001 })), ⟨2000000, 6000000000⟩, _, 3, rfl, by decide⟩,
    ⟨wSt ((wKz .ready).setFld F.SNS_CFG.EN 3 1 |> fun m => modSns m 3 (fun x => { x with
      cfg := m.cfgWord .SNS_CFG 3,
      settle := 3 })), ⟨2000000, 6000000000⟩, _, 3, rfl, by decide⟩,
    ⟨wSt ((wKz .ready).setFld F.SNS_CFG.EN 3 0 |> fun m => modSns m 3 (fun x => { x with
      cfg := m.cfgWord .SNS_CFG 3,
      settle := 3 })), ⟨2000000, 6000000000⟩, _, 3, rfl, by decide⟩,
    ⟨wSt ((wKz .ready).setFld F.SNS_CFG.EN 3 1 |> fun m => modSns m 3 (fun x => { x with
      settle := 3,
      cfg := 0x0300000A,
      valid := true })), ⟨2000000, 6000000000⟩, _, 3, rfl, by decide⟩,
    ⟨wSt ((wKz .ready).setFld F.SNS_CFG.EN 3 0 |> fun m => modSns m 3 (fun x => { x with settle := 3, cfg := 0x8300000A })),
    ⟨2000000, 6000000000⟩, _, 3, rfl, by decide⟩,
    ⟨wSt ((wKz .ready).setFld F.SNS_CFG.EN 3 1 |> fun m => modSns m 3 (fun x => { x with
      cfg := m.cfgWord .SNS_CFG 3,
      settle := 3 })|>.setFld F.SNS_CFG.AMPL 3 20), ⟨2000000, 6000000000⟩, _, 3, rfl, by decide⟩,
    ⟨wSt ((wKz .ready).setFld F.SNS_CFG.EN 3 1 |> fun m => modSns m 3 (fun x => { x with
      cfg := m.cfgWord .SNS_CFG 3,
      chkDue := true }) |>.setFld F.SNS_CHK.CHK_INT 3 5), ⟨2000000, 6000000000⟩, _, 3, 1800, rfl, by decide⟩,
    ⟨wSt ((wKz .ready).setFld F.SNS_CFG.EN 3 1 |> fun m => modSns m 3 (fun x => { x with
      cfg := m.cfgWord .SNS_CFG 3,
      chkDue := true }) |>.setFld F.SNS_CHK.CHK_INT 3 5), ⟨2000000, 6000000000⟩, _, 3, 1801, rfl, by decide⟩⟩

/-- Witness of the hypotheses of SensorOutputs. -/
theorem witness_SensorOutputs :
  (∃ (s : State) (t : Stamp) (m : Kz) (k : Fin 24) (q : SnsForming), s.kz.advance t = m ∧ snsRuns m k.val = true ∧ (sns m
    k.val).forming = some q ∧ q.due ≤ m.now.ns ∧ (q.open_ = true ∨ q.settling = true)) ∧
  (∃ (s : State) (t : Stamp) (m : Kz) (k : Fin 24) (re : Int) (im : Int) (q : SnsForming), s.kz.advance t = m ∧ snsRuns m
    k.val = true ∧ (sns m k.val).forming = some q ∧ q.due ≤ m.now.ns ∧ q.open_ = false ∧ q.settling = false ∧ (decide ((satS
    32 (snsWeigh m ((snsSums (sns m k.val) re im).map (fun z => z.1))).1).natAbs ^ 2 + (satS 32 (snsWeigh (snsWeigh m
    ((snsSums (sns m k.val) re im).map (fun z => z.1))).2 ((snsSums (sns m k.val) re im).map (fun z => z.2))).1).natAbs ^ 2
    < 1000000)) = false) ∧
  (∃ (s : State) (t : Stamp) (m : Kz) (k : Fin 24) (re : Int) (im : Int) (q : SnsForming), s.kz.advance t = m ∧ snsRuns m
    k.val = true ∧ (sns m k.val).forming = some q ∧ q.due ≤ m.now.ns ∧ q.open_ = false ∧ q.settling = false ∧ (decide ((satS
    32 (snsWeigh m ((snsSums (sns m k.val) re im).map (fun z => z.1))).1).natAbs ^ 2 + (satS 32 (snsWeigh (snsWeigh m
    ((snsSums (sns m k.val) re im).map (fun z => z.1))).2 ((snsSums (sns m k.val) re im).map (fun z => z.2))).1).natAbs ^ 2
    < 1000000)) = true ∧ F.SNS_CFG.CURVE.of (sns m k.val).cfg ≠ 0 ∧ (sns m k.val).short = true) ∧
  (∃ (s : State) (t : Stamp) (m : Kz) (k : Fin 24) (re : Int) (im : Int) (q : SnsForming), s.kz.advance t = m ∧ snsRuns m
    k.val = true ∧ (sns m k.val).forming = some q ∧ q.due ≤ m.now.ns ∧ q.open_ = false ∧ q.settling = false ∧ (decide ((satS
    32 (snsWeigh m ((snsSums (sns m k.val) re im).map (fun z => z.1))).1).natAbs ^ 2 + (satS 32 (snsWeigh (snsWeigh m
    ((snsSums (sns m k.val) re im).map (fun z => z.1))).2 ((snsSums (sns m k.val) re im).map (fun z => z.2))).1).natAbs ^ 2
    < 1000000)) = true ∧ F.SNS_CFG.CURVE.of (sns m k.val).cfg = 0 ∧ (sns m k.val).short = false) ∧
  (∃ (s : State) (t : Stamp) (m : Kz) (k : Fin 24), s.kz.advance t = m ∧ (snsRuns m k.val = false ∨ (sns m k.val).forming =
    none)) ∧
  (∃ (s : State) (t : Stamp) (m : Kz) (k : Fin 24), s.kz.advance t = m ∧ snsRuns m k.val = true ∧ (sns m k.val).open_ =
    false ∧ (sns m k.val).checking.all (fun e => decide (e ≤ m.now.ns)) = true) ∧
  (∃ (s : State) (t : Stamp) (m : Kz) (k : Fin 24), s.kz.advance t = m ∧ snsRuns m k.val = true ∧ (sns m k.val).open_ =
    false ∧ (sns m k.val).checking.any (fun e => decide (m.now.ns < e)) = true) ∧
  (∃ (s : State) (t : Stamp) (m : Kz) (k : Fin 24), s.kz.advance t = m ∧ (snsRuns m k.val = false ∨ (sns m k.val).open_ =
    true)) ∧
  (∃ (s : State) (t : Stamp) (m : Kz) (k : Fin 24), s.kz.advance t = m ∧ (sns m k.val).open_ = true) ∧
  (∃ (s : State) (t : Stamp) (m : Kz) (k : Fin 24), s.kz.advance t = m ∧ snsRuns m k.val = true ∧ m.fld F.SNS_CHK.CHK_INT
    k.val ≠ 0 ∧ (sns m k.val).chkBase + m.fld F.SNS_CHK.CHK_INT k.val * 1000000000 ≤ m.now.ns) ∧
  (∃ (s : State) (t : Stamp) (m : Kz) (k : Fin 24), s.kz.advance t = m ∧ (snsRuns m k.val = false ∨ m.fld F.SNS_CHK.CHK_INT
    k.val = 0 ∨ m.now.ns < (sns m k.val).chkBase + m.fld F.SNS_CHK.CHK_INT k.val * 1000000000)) ∧
  (∃ (s : State) (t : Stamp) (m : Kz) (k : Fin 24) (tr : Int) (er : Int) (b : Nat), s.kz.advance t = m ∧ (sns m
    k.val).checking = some b ∧ b ≤ m.now.ns ∧ (m.fld F.SNS_CHK.CONTACT_THR k.val = 0 ∨ (satS 16 (tr - er)).natAbs ≤ m.fld
    F.SNS_CHK.CONTACT_THR k.val)) ∧
  (∃ (s : State) (t : Stamp) (m : Kz) (k : Fin 24) (tr : Int) (er : Int) (b : Nat), s.kz.advance t = m ∧ (sns m
    k.val).checking = some b ∧ b ≤ m.now.ns ∧ m.fld F.SNS_CHK.CONTACT_THR k.val ≠ 0 ∧ m.fld F.SNS_CHK.CONTACT_THR k.val <
    (satS 16 (tr - er)).natAbs ∧ (sns m k.val).contactWarn = false) ∧
  (∃ (s : State) (t : Stamp) (m : Kz) (k : Fin 24) (p : Port), s.kz.advance t = m ∧ Reaches m p .SNS_STAT k.val) :=
  ⟨
    ⟨wSt ((wKz .ready).setFld F.SNS_CFG.EN 3 1 |> fun m => modSns m 3 (fun x => { x with
      cfg := m.cfgWord .SNS_CFG 3,
      forming := some ⟨6000000000, false, true⟩,
      seq := 65535 })), ⟨2000000, 6000000000⟩, _, 3, ⟨6000000000, false, true⟩, rfl, by decide⟩,
    ⟨wSt ((wKz .ready).setFld F.SNS_CFG.EN 3 1 |> fun m => modSns m 3 (fun x => { x with
      cfg := m.cfgWord .SNS_CFG 3,
      sums := [(3000000, -4000000), (2900000, -4000000), (3376000, -4000000), (1, 1)],
      forming := some ⟨6000000000, false, false⟩,
      short := true })), ⟨2000000, 6000000000⟩, _, 3, (2924000 : Int), (-4000000 : Int), ⟨6000000000, false, false⟩, rfl, by
    decide⟩,
    ⟨wSt ((wKz .ready).setFld F.SNS_CFG.EN 3 1 |> fun m => modSns m 3 (fun x => { x with
      cfg := m.cfgWord .SNS_CFG 3,
      forming := some ⟨6000000000, false, false⟩,
      short := true })|>.setFld F.SNS_CFG.CURVE 3 1 |> fun m => modSns m 3 (fun x => { x with cfg := m.cfgWord .SNS_CFG 3 })),
    ⟨2000000, 6000000000⟩, _, 3, (8000 : Int), (-16000 : Int), ⟨6000000000, false, false⟩, rfl, by decide⟩,
    ⟨wSt ((wKz .ready).setFld F.SNS_CFG.EN 3 1 |> fun m => modSns m 3 (fun x => { x with
      cfg := m.cfgWord .SNS_CFG 3,
      forming := some ⟨6000000000, false, false⟩ })), ⟨2000000, 6000000000⟩, _, 3, (8000 : Int), (-16000 : Int),
    ⟨6000000000, false, false⟩, rfl, by decide⟩,
    ⟨wSt ((wKz .ready).setFld F.SNS_CFG.EN 3 1 |> fun m => modSns m 3 (fun x => { x with
      cfg := m.cfgWord .SNS_CFG 3,
      last := 0 })), ⟨2000000, 6000000000⟩, _, 3, rfl, by decide⟩,
    ⟨wSt ((wKz .ready).setFld F.SNS_CFG.EN 3 1 |> fun m => modSns m 3 (fun x => { x with
      cfg := m.cfgWord .SNS_CFG 3,
      checking := some 5,
      forming := some ⟨6000000000, false, false⟩ })), ⟨2000000, 6000000000⟩, _, 3, rfl, by decide⟩,
    ⟨wSt ((wKz .ready).setFld F.SNS_CFG.EN 3 1 |> fun m => modSns m 3 (fun x => { x with
      cfg := m.cfgWord .SNS_CFG 3,
      checking := some 6000000001 })), ⟨2000000, 6000000000⟩, _, 3, rfl, by decide⟩,
    ⟨wSt ((wKz .ready).setFld F.SNS_CFG.EN 3 1 |> fun m => modSns m 3 (fun x => { x with
      cfg := m.cfgWord .SNS_CFG 3,
      open_ := true })), ⟨2000000, 6000000000⟩, _, 3, rfl, by decide⟩,
    ⟨wSt ((wKz .ready).setFld F.SNS_CFG.EN 3 1 |> fun m => modSns m 3 (fun x => { x with
      cfg := m.cfgWord .SNS_CFG 3,
      open_ := true })), ⟨2000000, 6000000000⟩, _, 3, rfl, by decide⟩,
    ⟨wSt ((wKz .ready).setFld F.SNS_CFG.EN 3 1 |> fun m => modSns m 3 (fun x => { x with
      cfg := m.cfgWord .SNS_CFG 3,
      chkBase := 1000000000 }) |>.setFld F.SNS_CHK.CHK_INT 3 5), ⟨2000000, 6000000000⟩, _, 3, rfl, by decide⟩,
    ⟨wSt ((wKz .ready).setFld F.SNS_CFG.EN 3 1 |> fun m => modSns m 3 (fun x => { x with
      cfg := m.cfgWord .SNS_CFG 3,
      chkBase := 1000000001 }) |>.setFld F.SNS_CHK.CHK_INT 3 5), ⟨2000000, 6000000000⟩, _, 3, rfl, by decide⟩,
    ⟨wSt ((wKz .ready).setFld F.SNS_CFG.EN 3 1 |> fun m => modSns m 3 (fun x => { x with
      cfg := m.cfgWord .SNS_CFG 3,
      checking := some 6000000000 })), ⟨2000000, 6000000000⟩, _, 3, (100000 : Int), (3 : Int), 6000000000, rfl, by decide⟩,
    ⟨wSt ((wKz .ready).setFld F.SNS_CFG.EN 3 1 |> fun m => modSns m 3 (fun x => { x with
      cfg := m.cfgWord .SNS_CFG 3,
      checking := some 6000000000 }) |>.setFld F.SNS_CHK.CONTACT_THR 3 10), ⟨2000000, 6000000000⟩, _, 3, (-8 : Int), (3 :
    Int), 6000000000, rfl, by decide⟩,
    ⟨wSt ((wKz .ready).setFld F.SNS_CFG.EN 3 1 |> fun m => modSns m 3 (fun x => { x with
      cfg := m.cfgWord .SNS_CFG 3,
      out := { value := 7 } })), ⟨2000000, 6000000000⟩, _, 3, 0, rfl, by decide⟩⟩

/-- Witness of the hypotheses of SensorValues: each curve, and a table whose points rise. -/
theorem witness_SensorValues : (∀ v : Nat, v ∈ [0, 1, 9] → F.SNS_CFG.CURVE.of (BitVec.ofNat 32 (F.SNS_CFG.CURVE.put v)) = v) ∧
    ∃ m : Kz, ∀ i : Nat, i < 31 → tableX m 0 i < tableX m 0 (i + 1) :=
  ⟨by decide, (upTo 32).foldl (fun m i => m.setFld F.SNS_TABLE.DATA (2 * i) (i + 1)) {}, by decide⟩

/-- Witness of the hypothesis of ConversionCodes. -/
theorem witness_ConversionCodes : ∃ vref : Nat, 0 < vref := ⟨2500000000, by decide⟩

/-- Witness of the hypotheses of HousekeepingTraverses. -/
theorem witness_HousekeepingTraverses :
  (∃ (s : State) (t : Stamp) (m : Kz) (c : Fin 2) (p : Port) (v : Word), s.kz.advance t = m ∧ Accepts m p .HK_CTRL 0 v ∧
    HkStill m (1 - c.val) v ∧ (hkOf c.val F.HK_CTRL.REF_A F.HK_CTRL.REF_B).of v = m.fld (hkOf c.val F.HK_CTRL.REF_A
    F.HK_CTRL.REF_B) 0 ∧ (hkOf c.val F.HK_CTRL.REFBUF_EN_A F.HK_CTRL.REFBUF_EN_B).of v = m.fld (hkOf c.val
    F.HK_CTRL.REFBUF_EN_A F.HK_CTRL.REFBUF_EN_B) 0 ∧ (hkOf c.val F.HK_CTRL.RUN_A F.HK_CTRL.RUN_B).of v = 1 ∧ (hkConv m
    c.val).running = false ∧ (hkConv m c.val).urgent = none) ∧
  (∃ (s : State) (t : Stamp) (m : Kz) (c : Fin 2) (p : Port) (v : Word), s.kz.advance t = m ∧ Accepts m p .HK_CTRL 0 v ∧
    HkStill m (1 - c.val) v ∧ (hkOf c.val F.HK_CTRL.REF_A F.HK_CTRL.REF_B).of v = m.fld (hkOf c.val F.HK_CTRL.REF_A
    F.HK_CTRL.REF_B) 0 ∧ (hkOf c.val F.HK_CTRL.REFBUF_EN_A F.HK_CTRL.REFBUF_EN_B).of v = m.fld (hkOf c.val
    F.HK_CTRL.REFBUF_EN_A F.HK_CTRL.REFBUF_EN_B) 0 ∧ (hkOf c.val F.HK_CTRL.RUN_A F.HK_CTRL.RUN_B).of v = 0 ∧ (hkConv m
    c.val).running = true) ∧
  (∃ (s : State) (t : Stamp) (m : Kz) (c : Fin 2) (p : Port) (v : Word), s.kz.advance t = m ∧ Accepts m p .HK_CTRL 0 v ∧
    HkStill m (1 - c.val) v ∧ (hkOf c.val F.HK_CTRL.REF_A F.HK_CTRL.REF_B).of v = m.fld (hkOf c.val F.HK_CTRL.REF_A
    F.HK_CTRL.REF_B) 0 ∧ (hkOf c.val F.HK_CTRL.REFBUF_EN_A F.HK_CTRL.REFBUF_EN_B).of v = m.fld (hkOf c.val
    F.HK_CTRL.REFBUF_EN_A F.HK_CTRL.REFBUF_EN_B) 0 ∧ (hkOf c.val F.HK_CTRL.RUN_A F.HK_CTRL.RUN_B).of v = 1 ∧ (hkOf c.val
    F.HK_CTRL.RESTART_A F.HK_CTRL.RESTART_B).of v = 1 ∧ (hkConv m c.val).running = true) ∧
  (∃ (s : State) (t : Stamp) (m : Kz) (c : Fin 2) (p : Port) (v : Word), s.kz.advance t = m ∧ Accepts m p .HK_CTRL 0 v ∧
    HkStill m (1 - c.val) v ∧ ((hkOf c.val F.HK_CTRL.REF_A F.HK_CTRL.REF_B).of v ≠ m.fld (hkOf c.val F.HK_CTRL.REF_A
    F.HK_CTRL.REF_B) 0 ∨ (hkOf c.val F.HK_CTRL.REFBUF_EN_A F.HK_CTRL.REFBUF_EN_B).of v ≠ m.fld (hkOf c.val
    F.HK_CTRL.REFBUF_EN_A F.HK_CTRL.REFBUF_EN_B) 0) ∧ (hkOf c.val F.HK_CTRL.RUN_A F.HK_CTRL.RUN_B).of v = 1 ∧ (hkOf c.val
    F.HK_CTRL.RESTART_A F.HK_CTRL.RESTART_B).of v = 0 ∧ (hkConv m c.val).running = true) ∧
  (∃ (s : State) (t : Stamp) (m : Kz) (c : Fin 2) (p : Port) (v : Word), s.kz.advance t = m ∧ Accepts m p .HK_CTRL 0 v ∧
    HkStill m (1 - c.val) v ∧ ((hkOf c.val F.HK_CTRL.REF_A F.HK_CTRL.REF_B).of v ≠ m.fld (hkOf c.val F.HK_CTRL.REF_A
    F.HK_CTRL.REF_B) 0 ∨ (hkOf c.val F.HK_CTRL.REFBUF_EN_A F.HK_CTRL.REFBUF_EN_B).of v ≠ m.fld (hkOf c.val
    F.HK_CTRL.REFBUF_EN_A F.HK_CTRL.REFBUF_EN_B) 0) ∧ (hkOf c.val F.HK_CTRL.RUN_A F.HK_CTRL.RUN_B).of v = 0 ∧ (hkConv m
    c.val).running = false) ∧
  (∃ (s : State) (t : Stamp) (m : Kz) (c : Fin 2), s.kz.advance t = m ∧ m.on (hkOf c.val F.HK_CTRL.REFBUF_EN_A
    F.HK_CTRL.REFBUF_EN_B) 0 = true ∧ (hkConv m c.val).refFrom + 2000000 ≤ m.now.ns ∧ (hkConv m c.val).ref = m.fld (hkOf
    c.val F.HK_CTRL.REF_A F.HK_CTRL.REF_B) 0) ∧
  (∃ (s : State) (t : Stamp) (m : Kz) (c : Fin 2), s.kz.advance t = m ∧ (m.on (hkOf c.val F.HK_CTRL.REFBUF_EN_A
    F.HK_CTRL.REFBUF_EN_B) 0 = false ∨ m.now.ns < (hkConv m c.val).refFrom + 2000000)) ∧
  (∃ (s : State) (t : Stamp) (m : Kz) (c : Fin 2) (vin : Nat) (vref : Nat), s.kz.advance t = m ∧ (hkConv m c.val).running =
    true ∧ (hkConv m c.val).entry ≠ 16 ∧ (hkConv m c.val).start + hkTime (F.HK_A_ENT.TS.of ((hkConv m c.val).ents.getD
    (hkConv m c.val).entry 0)) ≤ m.now.ns ∧ (hkConv m c.val).ref = m.fld (hkOf c.val F.HK_CTRL.REF_A F.HK_CTRL.REF_B) 0 ∧
    (hkConv m c.val).stopDue = false ∧ (hkConv m c.val).restartDue = false ∧ (hkConv m c.val).unsettled = false ∧ (hkConv m
    c.val).entry < (hkConv m c.val).len ∧ ((decide ((hkCode m (F.HK_A_ENT.GAIN.of ((hkConv m c.val).ents.getD (hkConv m
    c.val).entry 0)) vin vref).1.1 < F.HK_A_WIN.LO.of ((hkConv m c.val).wins.getD (hkConv m c.val).entry 0x3FFF0000)) ||
    decide (F.HK_A_WIN.HI.of ((hkConv m c.val).wins.getD (hkConv m c.val).entry 0x3FFF0000) < (hkCode m (F.HK_A_ENT.GAIN.of
    ((hkConv m c.val).ents.getD (hkConv m c.val).entry 0)) vin vref).1.1)) = false ∨ ((Sparse.get ({} : HkRes) (hkConv m
    c.val).res (hkConv m c.val).entry).outside = true ∧ (hkConv m c.val).fresh.testBit (hkConv m c.val).entry = false)) ∧
    (F.HK_A_ENT.INPUT.of ((hkConv m c.val).ents.getD (hkConv m c.val).entry 0) < 0x32 ∨ 0x3D < F.HK_A_ENT.INPUT.of ((hkConv
    m c.val).ents.getD (hkConv m c.val).entry 0))) ∧
  (∃ (s : State) (t : Stamp) (m : Kz) (c : Fin 2), s.kz.advance t = m ∧ (hkConv m c.val).running = true ∧ (hkConv m
    c.val).entry ≠ 16 ∧ (hkConv m c.val).start + hkTime (F.HK_A_ENT.TS.of ((hkConv m c.val).ents.getD (hkConv m c.val).entry
    0)) ≤ m.now.ns ∧ (hkConv m c.val).ref = m.fld (hkOf c.val F.HK_CTRL.REF_A F.HK_CTRL.REF_B) 0 ∧ (hkConv m c.val).stopDue
    = false ∧ (hkConv m c.val).restartDue = false ∧ (hkConv m c.val).unsettled = true ∧ (hkConv m c.val).len ≤ (hkConv m
    c.val).entry) ∧
  (∃ (s : State) (t : Stamp) (m : Kz) (c : Fin 2) (vin : Nat) (vref : Nat), s.kz.advance t = m ∧ (hkConv m c.val).running =
    true ∧ (hkConv m c.val).entry ≠ 16 ∧ (hkConv m c.val).start + hkTime (F.HK_A_ENT.TS.of ((hkConv m c.val).ents.getD
    (hkConv m c.val).entry 0)) ≤ m.now.ns ∧ (hkConv m c.val).ref = m.fld (hkOf c.val F.HK_CTRL.REF_A F.HK_CTRL.REF_B) 0 ∧
    (hkConv m c.val).stopDue = false ∧ (hkConv m c.val).restartDue = false ∧ (hkConv m c.val).unsettled = false ∧ (hkConv m
    c.val).entry < (hkConv m c.val).len ∧ (decide ((hkCode m (F.HK_A_ENT.GAIN.of ((hkConv m c.val).ents.getD (hkConv m
    c.val).entry 0)) vin vref).1.1 < F.HK_A_WIN.LO.of ((hkConv m c.val).wins.getD (hkConv m c.val).entry 0x3FFF0000)) ||
    decide (F.HK_A_WIN.HI.of ((hkConv m c.val).wins.getD (hkConv m c.val).entry 0x3FFF0000) < (hkCode m (F.HK_A_ENT.GAIN.of
    ((hkConv m c.val).ents.getD (hkConv m c.val).entry 0)) vin vref).1.1)) = true ∧ ((Sparse.get ({} : HkRes) (hkConv m
    c.val).res (hkConv m c.val).entry).outside = false ∨ (hkConv m c.val).fresh.testBit (hkConv m c.val).entry = true) ∧
    (F.HK_A_ENT.INPUT.of ((hkConv m c.val).ents.getD (hkConv m c.val).entry 0) < 0x32 ∨ 0x3D < F.HK_A_ENT.INPUT.of ((hkConv
    m c.val).ents.getD (hkConv m c.val).entry 0)) ∧ (hkConv m c.val).entry < 16) ∧
  (∃ (s : State) (t : Stamp) (m : Kz) (c : Fin 2) (vin : Nat) (vref : Nat), s.kz.advance t = m ∧ (hkConv m c.val).running =
    true ∧ (hkConv m c.val).entry ≠ 16 ∧ (hkConv m c.val).start + hkTime (F.HK_A_ENT.TS.of ((hkConv m c.val).ents.getD
    (hkConv m c.val).entry 0)) ≤ m.now.ns ∧ (hkConv m c.val).ref = m.fld (hkOf c.val F.HK_CTRL.REF_A F.HK_CTRL.REF_B) 0 ∧
    (hkConv m c.val).stopDue = false ∧ (hkConv m c.val).restartDue = false ∧ (hkConv m c.val).unsettled = false ∧ (hkConv m
    c.val).entry < (hkConv m c.val).len ∧ (decide ((hkCode m (F.HK_A_ENT.GAIN.of ((hkConv m c.val).ents.getD (hkConv m
    c.val).entry 0)) vin vref).1.1 < F.HK_A_WIN.LO.of ((hkConv m c.val).wins.getD (hkConv m c.val).entry 0x3FFF0000)) ||
    decide (F.HK_A_WIN.HI.of ((hkConv m c.val).wins.getD (hkConv m c.val).entry 0x3FFF0000) < (hkCode m (F.HK_A_ENT.GAIN.of
    ((hkConv m c.val).ents.getD (hkConv m c.val).entry 0)) vin vref).1.1)) = false ∧ 0x32 ≤ F.HK_A_ENT.INPUT.of ((hkConv m
    c.val).ents.getD (hkConv m c.val).entry 0) ∧ F.HK_A_ENT.INPUT.of ((hkConv m c.val).ents.getD (hkConv m c.val).entry 0) ≤
    0x3D ∧ m.rstate (F.HK_A_ENT.INPUT.of ((hkConv m c.val).ents.getD (hkConv m c.val).entry 0) - 0x32) ≠ .down ∧ (hkConv m
    c.val).ref = 0) ∧
  (∃ (s : State) (t : Stamp) (m : Kz) (c : Fin 2) (vin : Nat) (vref : Nat), s.kz.advance t = m ∧ (hkConv m c.val).running =
    true ∧ (hkConv m c.val).entry ≠ 16 ∧ (hkConv m c.val).start + hkTime (F.HK_A_ENT.TS.of ((hkConv m c.val).ents.getD
    (hkConv m c.val).entry 0)) ≤ m.now.ns ∧ (hkConv m c.val).ref = m.fld (hkOf c.val F.HK_CTRL.REF_A F.HK_CTRL.REF_B) 0 ∧
    (hkConv m c.val).stopDue = true ∧ m.on (hkOf c.val F.HK_CTRL.RUN_A F.HK_CTRL.RUN_B) 0 = false ∧ (hkConv m
    c.val).unsettled = false ∧ (decide ((hkCode m (F.HK_A_ENT.GAIN.of ((hkConv m c.val).ents.getD (hkConv m c.val).entry 0))
    vin vref).1.1 < F.HK_A_WIN.LO.of ((hkConv m c.val).wins.getD (hkConv m c.val).entry 0x3FFF0000)) || decide
    (F.HK_A_WIN.HI.of ((hkConv m c.val).wins.getD (hkConv m c.val).entry 0x3FFF0000) < (hkCode m (F.HK_A_ENT.GAIN.of
    ((hkConv m c.val).ents.getD (hkConv m c.val).entry 0)) vin vref).1.1)) = false ∧ (F.HK_A_ENT.INPUT.of ((hkConv m
    c.val).ents.getD (hkConv m c.val).entry 0) < 0x32 ∨ 0x3D < F.HK_A_ENT.INPUT.of ((hkConv m c.val).ents.getD (hkConv m
    c.val).entry 0))) ∧
  (∃ (s : State) (t : Stamp) (m : Kz) (c : Fin 2) (vin : Nat) (vref : Nat), s.kz.advance t = m ∧ (hkConv m c.val).running =
    true ∧ (hkConv m c.val).entry ≠ 16 ∧ (hkConv m c.val).start + hkTime (F.HK_A_ENT.TS.of ((hkConv m c.val).ents.getD
    (hkConv m c.val).entry 0)) ≤ m.now.ns ∧ (hkConv m c.val).ref = m.fld (hkOf c.val F.HK_CTRL.REF_A F.HK_CTRL.REF_B) 0 ∧
    (hkConv m c.val).stopDue = false ∧ (hkConv m c.val).restartDue = true ∧ (hkConv m c.val).unsettled = false ∧ (decide
    ((hkCode m (F.HK_A_ENT.GAIN.of ((hkConv m c.val).ents.getD (hkConv m c.val).entry 0)) vin vref).1.1 < F.HK_A_WIN.LO.of
    ((hkConv m c.val).wins.getD (hkConv m c.val).entry 0x3FFF0000)) || decide (F.HK_A_WIN.HI.of ((hkConv m c.val).wins.getD
    (hkConv m c.val).entry 0x3FFF0000) < (hkCode m (F.HK_A_ENT.GAIN.of ((hkConv m c.val).ents.getD (hkConv m c.val).entry
    0)) vin vref).1.1)) = false ∧ (F.HK_A_ENT.INPUT.of ((hkConv m c.val).ents.getD (hkConv m c.val).entry 0) < 0x32 ∨ 0x3D <
    F.HK_A_ENT.INPUT.of ((hkConv m c.val).ents.getD (hkConv m c.val).entry 0))) ∧
  (∃ (s : State) (t : Stamp) (m : Kz) (c : Fin 2), s.kz.advance t = m ∧ ((hkConv m c.val).running = false ∨ (hkConv m
    c.val).entry = 16 ∨ m.now.ns < (hkConv m c.val).start + hkTime (F.HK_A_ENT.TS.of ((hkConv m c.val).ents.getD (hkConv m
    c.val).entry 0)))) :=
  ⟨
    ⟨wSt ((wKz .ready)), ⟨2000000, 6000000000⟩, _, 1, 0, BitVec.ofNat 32 (F.HK_CTRL.RUN_B.put 1 ||| F.HK_CTRL.LEN_B.put 3),
    rfl, by decide⟩,
    ⟨wSt ((wKz .ready) |> fun m => { m with hk := { m.hk with b := { m.hk.b with running := true } } }), ⟨2000000,
    6000000000⟩, _, 1, 0, BitVec.ofNat 32 (F.HK_CTRL.LEN_B.put 3), rfl, by decide⟩,
    ⟨wSt ((wKz .ready) |> fun m => { m with hk := { m.hk with a := { m.hk.a with running := true } } }), ⟨2000000,
    6000000000⟩, _, 0, 0, BitVec.ofNat 32 (F.HK_CTRL.RUN_A.put 1 ||| F.HK_CTRL.RESTART_A.put 1), rfl, by decide⟩,
    ⟨wSt ((wKz .ready) |> fun m => { m with hk := { m.hk with a := { m.hk.a with running := true, settled := true } } }),
    ⟨2000000, 6000000000⟩, _, 0, 0, BitVec.ofNat 32 (F.HK_CTRL.RUN_A.put 1 ||| F.HK_CTRL.REF_A.put 2), rfl, by decide⟩,
    ⟨wSt ((wKz .ready) |> fun m => { m with hk := { m.hk with a := { m.hk.a with settled := true } } }), ⟨2000000,
    6000000000⟩, _, 0, 0, BitVec.ofNat 32 (F.HK_CTRL.REF_A.put 1 ||| F.HK_CTRL.REFBUF_EN_A.put 1), rfl, by decide⟩,
    ⟨wSt ((wKz .ready) |> fun m => { m with hk := { m.hk with a := { m.hk.a with refFrom := 5998000000 } } }.setFld
    F.HK_CTRL.REFBUF_EN_A 0 1), ⟨2000000, 6000000000⟩, _, 0, rfl, by decide⟩,
    ⟨wSt ((wKz .ready) |> fun m => { m with hk := { m.hk with a := { m.hk.a with refFrom := 5998000001 } } }.setFld
    F.HK_CTRL.REFBUF_EN_A 0 1), ⟨2000000, 6000000000⟩, _, 0, rfl, by decide⟩,
    ⟨wSt ((wKz .ready) |> fun m => { m with
      hk := { m.hk with
          a := { m.hk.a with
              running := true,
              settled := true,
              len := 2,
              ents := [0, 0],
              wins := [0x3FFF0000, 0x20001000],
              entry := 1 } } }), ⟨2000000, 6000000000⟩, _, 0, 1250000000, 2500000000, rfl, by decide⟩,
    ⟨wSt ((wKz .ready) |> fun m => { m with
      hk := { m.hk with
          a := { m.hk.a with
              running := true,
              settled := true,
              len := 1,
              unsettled := true,
              ents := [0, 0],
              wins := [0x3FFF0000, 0x20001000],
              entry := 1 } } }), ⟨2000000, 6000000000⟩, _, 0, rfl, by decide⟩,
    ⟨wSt ((wKz .ready) |> fun m => { m with
      hk := { m.hk with
          a := { m.hk.a with
              running := true,
              settled := true,
              len := 2,
              ents := [0, 0],
              wins := [0x3FFF0000, 0x20001000],
              entry := 1 } } }), ⟨2000000, 6000000000⟩, _, 0, 250000000, 2500000000, rfl, by decide⟩,
    ⟨wSt ((wKz .ready) |> fun m => { m with
      hk := { m.hk with
          a := { m.hk.a with
              running := true,
              settled := true,
              len := 2,
              ents := [0, 51],
              wins := [0x3FFF0000, 0x20001000],
              entry := 1 } } }|>.modPwr 1 (fun z => { z with state := .idle })), ⟨2000000, 6000000000⟩, _, 0, 1250000000,
    2500000000, rfl, by decide⟩,
    ⟨wSt ((wKz .ready) |> fun m => { m with
      hk := { m.hk with
          a := { m.hk.a with
              running := true,
              settled := true,
              len := 2,
              ents := [0, 0],
              wins := [0x3FFF0000, 0x20001000],
              entry := 1,
              stopDue := true } } }), ⟨2000000, 6000000000⟩, _, 0, 1250000000, 2500000000, rfl, by decide⟩,
    ⟨wSt ((wKz .ready) |> fun m => { m with
      hk := { m.hk with
          a := { m.hk.a with
              running := true,
              settled := true,
              len := 2,
              ents := [0, 0],
              wins := [0x3FFF0000, 0x20001000],
              entry := 1,
              restartDue := true } } }), ⟨2000000, 6000000000⟩, _, 0, 1250000000, 2500000000, rfl, by decide⟩,
    ⟨wSt ((wKz .ready) |> fun m => { m with
      hk := { m.hk with
          a := { m.hk.a with
              running := true,
              settled := true,
              len := 2,
              ents := [0, 0],
              wins := [0x3FFF0000, 0x20001000],
              entry := 1,
              start := 5999999501 } } }), ⟨2000000, 6000000000⟩, _, 0, rfl, by decide⟩⟩

/-- Witness of the hypotheses of CrossCheckAndUrgentConversions. -/
theorem witness_CrossCheckAndUrgentConversions :
  (∃ (s : State) (t : Stamp) (m : Kz) (c : Fin 2), s.kz.advance t = m ∧ (hkConv m c.val).running = true ∧ (hkConv m
    c.val).entry = 16 ∧ (hkConv m c.val).start + hkTime (F.HK_XCHK_CFG.TS.of (hkConv m c.val).xchk) ≤ m.now.ns ∧ (hkConv m
    c.val).ref = m.fld (hkOf c.val F.HK_CTRL.REF_A F.HK_CTRL.REF_B) 0 ∧ (hkConv m c.val).stopDue = false ∧ (hkConv m
    c.val).restartDue = false ∧ (hkConv m c.val).unsettled = true) ∧
  (∃ (s : State) (t : Stamp) (m : Kz) (c : Fin 2), s.kz.advance t = m ∧ (hkConv m c.val).running = true ∧ (hkConv m
    c.val).entry = 16 ∧ (hkConv m c.val).start + hkTime (F.HK_XCHK_CFG.TS.of (hkConv m c.val).xchk) ≤ m.now.ns ∧ (hkConv m
    c.val).ref = m.fld (hkOf c.val F.HK_CTRL.REF_A F.HK_CTRL.REF_B) 0 ∧ (hkConv m c.val).stopDue = false ∧ (hkConv m
    c.val).restartDue = false ∧ (hkConv m c.val).unsettled = false ∧ ((hkConv m (1 - c.val)).running = false ∨ (hkConv m (1
    - c.val)).slotNew = false)) ∧
  (∃ (s : State) (t : Stamp) (m : Kz) (c : Fin 2) (vin : Nat) (vref : Nat), s.kz.advance t = m ∧ (hkConv m c.val).running =
    true ∧ (hkConv m c.val).entry = 16 ∧ (hkConv m c.val).start + hkTime (F.HK_XCHK_CFG.TS.of (hkConv m c.val).xchk) ≤
    m.now.ns ∧ (hkConv m c.val).ref = m.fld (hkOf c.val F.HK_CTRL.REF_A F.HK_CTRL.REF_B) 0 ∧ (hkConv m c.val).stopDue =
    false ∧ (hkConv m c.val).restartDue = false ∧ (hkConv m c.val).unsettled = false ∧ (hkConv m (1 - c.val)).running = true
    ∧ (hkConv m (1 - c.val)).slotNew = true ∧ (((((if c.val = 0 then ((hkCode m 0 vin vref).1.1 * hkNominal (hkConv m
    c.val)) else m.hk.a.slot) : Int) - (if c.val = 0 then m.hk.b.slot else ((hkCode m 0 vin vref).1.1 * hkNominal (hkConv m
    c.val))))).natAbs ≤ F.HK_XCHK_CFG.THR.of (hkConv m c.val).xchk * 10 * 16384)) ∧
  (∃ (s : State) (t : Stamp) (m : Kz) (c : Fin 2) (vin : Nat) (vref : Nat), s.kz.advance t = m ∧ (hkConv m c.val).running =
    true ∧ (hkConv m c.val).entry = 16 ∧ (hkConv m c.val).start + hkTime (F.HK_XCHK_CFG.TS.of (hkConv m c.val).xchk) ≤
    m.now.ns ∧ (hkConv m c.val).ref = m.fld (hkOf c.val F.HK_CTRL.REF_A F.HK_CTRL.REF_B) 0 ∧ (hkConv m c.val).stopDue =
    false ∧ (hkConv m c.val).restartDue = false ∧ (hkConv m c.val).unsettled = false ∧ (hkConv m (1 - c.val)).running = true
    ∧ (hkConv m (1 - c.val)).slotNew = true ∧ (F.HK_XCHK_CFG.THR.of (hkConv m c.val).xchk * 10 * 16384 < ((((if c.val = 0
    then ((hkCode m 0 vin vref).1.1 * hkNominal (hkConv m c.val)) else m.hk.a.slot) : Int) - (if c.val = 0 then m.hk.b.slot
    else ((hkCode m 0 vin vref).1.1 * hkNominal (hkConv m c.val))))).natAbs) ∧ (m.hk.plaus = true ∨ min 15 (m.hk.run + 1) <
    max 1 (F.HK_XCHK_CFG.CONSEC.of (hkConv m c.val).xchk))) ∧
  (∃ (s : State) (t : Stamp) (m : Kz) (c : Fin 2) (vin : Nat) (vref : Nat), s.kz.advance t = m ∧ (hkConv m c.val).running =
    true ∧ (hkConv m c.val).entry = 16 ∧ (hkConv m c.val).start + hkTime (F.HK_XCHK_CFG.TS.of (hkConv m c.val).xchk) ≤
    m.now.ns ∧ (hkConv m c.val).ref = m.fld (hkOf c.val F.HK_CTRL.REF_A F.HK_CTRL.REF_B) 0 ∧ (hkConv m c.val).stopDue =
    false ∧ (hkConv m c.val).restartDue = false ∧ (hkConv m c.val).unsettled = false ∧ (hkConv m (1 - c.val)).running = true
    ∧ (hkConv m (1 - c.val)).slotNew = true ∧ (F.HK_XCHK_CFG.THR.of (hkConv m c.val).xchk * 10 * 16384 < ((((if c.val = 0
    then ((hkCode m 0 vin vref).1.1 * hkNominal (hkConv m c.val)) else m.hk.a.slot) : Int) - (if c.val = 0 then m.hk.b.slot
    else ((hkCode m 0 vin vref).1.1 * hkNominal (hkConv m c.val))))).natAbs) ∧ m.hk.plaus = false ∧ max 1
    (F.HK_XCHK_CFG.CONSEC.of (hkConv m c.val).xchk) ≤ min 15 (m.hk.run + 1)) ∧
  (∃ (s : State) (t : Stamp) (m : Kz) (p : Port) (v : Word), s.kz.advance t = m ∧ Quiet m ∧ Reaches m p .HK_URGENT 0 ∧
    covers (m.port p).session.leases .module = true ∧ F.HK_URGENT.INPUT.of v < 0x44 ∧ F.HK_URGENT.GO.of v = 1 ∧ hkBusy m
    (F.HK_URGENT.CONV.of v) = false) ∧
  (∃ (s : State) (t : Stamp) (m : Kz) (p : Port) (v : Word), s.kz.advance t = m ∧ Quiet m ∧ Reaches m p .HK_URGENT 0 ∧
    covers (m.port p).session.leases .module = true ∧ F.HK_URGENT.INPUT.of v < 0x44 ∧ F.HK_URGENT.GO.of v = 1 ∧ hkBusy m
    (F.HK_URGENT.CONV.of v) = true) ∧
  (∃ (s : State) (t : Stamp) (m : Kz) (c : Fin 2) (u : HkUrgent), s.kz.advance t = m ∧ (hkConv m c.val).urgent = some u ∧
    u.start + hkTime (F.HK_URGENT.TS.of u.req) ≤ m.now.ns ∧ m.on (hkOf c.val F.HK_CTRL.RUN_A F.HK_CTRL.RUN_B) 0 = false) ∧
  (∃ (s : State) (t : Stamp) (m : Kz) (c : Fin 2) (u : HkUrgent), s.kz.advance t = m ∧ (hkConv m c.val).urgent = some u ∧
    u.start + hkTime (F.HK_URGENT.TS.of u.req) ≤ m.now.ns ∧ m.on (hkOf c.val F.HK_CTRL.RUN_A F.HK_CTRL.RUN_B) 0 = true) ∧
  (∃ (s : State) (t : Stamp) (m : Kz) (c : Fin 2), s.kz.advance t = m ∧ (hkConv m c.val).urgent = none) :=
  ⟨
    ⟨wSt ((wKz .ready) |> fun m => { m with
      hk := { m.hk with a := { m.hk.a with running := true, unsettled := true, entry := 16 } } }), ⟨2000000, 6000000000⟩, _,
    0, rfl, by decide⟩,
    ⟨wSt ((wKz .ready) |> fun m => { m with
      hk := { m.hk with a := { m.hk.a with running := true, settled := true, entry := 16 } } }), ⟨2000000, 6000000000⟩, _,
    0, rfl, by decide⟩,
    ⟨wSt ((wKz .ready) |> fun m => { m with
      hk := { m.hk with
          a := { m.hk.a with
              running := true,
              settled := true,
              entry := 16,
              xchk := BitVec.ofNat 32 (F.HK_XCHK_CFG.THR.put 100 ||| F.HK_XCHK_CFG.CONSEC.put 0) },
          b := { m.hk.b with running := true, slotNew := true, slot := 1000000000 },
          run := 2 } }), ⟨2000000, 6000000000⟩, _, 0, 61035157, 2500000000, rfl, by decide⟩,
    ⟨wSt ((wKz .ready) |> fun m => { m with
      hk := { m.hk with
          a := { m.hk.a with
              running := true,
              settled := true,
              entry := 16,
              xchk := BitVec.ofNat 32 (F.HK_XCHK_CFG.THR.put 1 ||| F.HK_XCHK_CFG.CONSEC.put 4) },
          b := { m.hk.b with running := true, slotNew := true, slot := 1000000000 },
          run := 2 } }), ⟨2000000, 6000000000⟩, _, 0, 1250000000, 2500000000, rfl, by decide⟩,
    ⟨wSt ((wKz .ready) |> fun m => { m with
      hk := { m.hk with
          a := { m.hk.a with
              running := true,
              settled := true,
              entry := 16,
              xchk := BitVec.ofNat 32 (F.HK_XCHK_CFG.THR.put 1 ||| F.HK_XCHK_CFG.CONSEC.put 3) },
          b := { m.hk.b with running := true, slotNew := true, slot := 1000000000 },
          run := 2 } }), ⟨2000000, 6000000000⟩, _, 0, 1250000000, 2500000000, rfl, by decide⟩,
    ⟨wSt ((wKz .ready) |> fun m => { m with hk := { m.hk with a := { m.hk.a with running := true } } }), ⟨2000000,
    6000000000⟩, _, 0, BitVec.ofNat 32 (F.HK_URGENT.GO.put 1 ||| F.HK_URGENT.CONV.put 1 ||| F.HK_URGENT.INPUT.put 3), rfl,
    by decide⟩,
    ⟨wSt ((wKz .ready) |> fun m => { m with hk := { m.hk with a := { m.hk.a with running := true } } }), ⟨2000000,
    6000000000⟩, _, 0, BitVec.ofNat 32 (F.HK_URGENT.GO.put 1 ||| F.HK_URGENT.CONV.put 0 ||| F.HK_URGENT.INPUT.put 3), rfl,
    by decide⟩,
    ⟨wSt ((wKz .ready) |> fun m => { m with
      hk := { m.hk with
          a := { m.hk.a with
              urgent := some ⟨BitVec.ofNat 32 (F.HK_URGENT.GO.put 1 ||| F.HK_URGENT.CONV.put 0 ||| F.HK_URGENT.INPUT.put 3),
                true, 5⟩ },
          useq := 255 } }), ⟨2000000, 6000000000⟩, _, 0, ⟨BitVec.ofNat 32 (F.HK_URGENT.GO.put 1 ||| F.HK_URGENT.CONV.put 0
    ||| F.HK_URGENT.INPUT.put 3), true, 5⟩, rfl, by decide⟩,
    ⟨wSt ((wKz .ready) |> fun m => { m with
      hk := { m.hk with
          a := { m.hk.a with
              urgent := some ⟨BitVec.ofNat 32 (F.HK_URGENT.GO.put 1 ||| F.HK_URGENT.CONV.put 0 ||| F.HK_URGENT.INPUT.put 3),
                true, 5⟩ } } } |>.setFld F.HK_CTRL.RUN_A 0 1), ⟨2000000, 6000000000⟩, _, 0, ⟨BitVec.ofNat 32
    (F.HK_URGENT.GO.put 1 ||| F.HK_URGENT.CONV.put 0 ||| F.HK_URGENT.INPUT.put 3), true, 5⟩, rfl, by decide⟩,
    ⟨wSt ((wKz .ready)), ⟨2000000, 6000000000⟩, _, 0, rfl, by decide⟩⟩

set_option maxRecDepth 20000 in
/-- Witness of the hypotheses of SupplyWarningsAndResets. -/
theorem witness_SupplyWarningsAndResets :
  (∃ (s : State) (t : Stamp) (m : Kz) (vin : BitVec 11), s.kz.advance t = m ∧ m.pwr.dip = none ∧ m.pwr.state ≠ .off ∧
    vin.toNat < 435) ∧
  (∃ (s : State) (t : Stamp) (m : Kz) (vin : BitVec 11), s.kz.advance t = m ∧ (m.pwr.dip.isSome = true ∨ m.pwr.state = .off
    ∨ 435 ≤ vin.toNat)) ∧
  (∃ (s : State) (t : Stamp) (m : Kz) (vin : BitVec 11) (x : Nat × Nat), s.kz.advance t = m ∧ m.pwr.dip = some x ∧ 445 <
    vin.toNat) ∧
  (∃ (s : State) (t : Stamp) (m : Kz) (vin : BitVec 11), s.kz.advance t = m ∧ (m.pwr.dip = none ∨ vin.toNat ≤ 445)) ∧
  (∃ (s : State) (t : Stamp) (m : Kz) (p : Port) (v : Word), s.kz.advance t = m ∧ Accepts m p .MOD_VIN 0 v ∧
    F.MOD_VIN.CLR.of v = 1) ∧
  (∃ (s : State) (t : Stamp) (m : Kz) (p : Port) (v : Word), s.kz.advance t = m ∧ Accepts m p .MOD_VIN 0 v ∧
    F.MOD_VIN.CLR.of v = 0) ∧
  (∃ (s : State) (t : Stamp) (m : Kz) (v : BitVec 11), s.kz.advance t = m ∧ m.pwr.state ≠ .boot ∧ v.toNat < 405) ∧
  (∃ (s : State) (t : Stamp) (m : Kz), s.kz.advance t = m ∧ m.pwr.state ≠ .boot) ∧
  (∃ (s : State) (t : Stamp) (m : Kz), s.kz.advance t = m ∧ m.pwr.state ≠ .boot) ∧
  (∃ (s : State) (t : Stamp) (m : Kz) (x : ImageInfo), s.kz.advance t = m ∧ m.pwr.state = .boot ∧ m.fw.booting = some (0, x)) ∧
  (∃ (s : State) (t : Stamp) (m : Kz) (v : BitVec 11), s.kz.advance t = m ∧ 405 ≤ v.toNat) ∧
  (∃ (s : State) (t : Stamp) (m : Kz) (r : HubRail) (mv : Nat), s.kz.advance t = m ∧ m.pwr.state ≠ .boot ∧ m.pwr.state ≠
    .off ∧ mv * 100 < 92 * hubTarget r) ∧
  (∃ (s : State) (t : Stamp) (m : Kz) (r : HubRail) (mv : Nat), s.kz.advance t = m ∧ (m.pwr.state = .off ∨ 92 * hubTarget r
    ≤ mv * 100)) ∧
  (∃ (s : State) (t : Stamp) (m : Kz) (d : Nat), s.kz.advance t = m ∧ m.fw.activationDue = some d ∧ d ≤ m.now.ns) ∧
  (∃ (s : State) (t : Stamp) (m : Kz) (d : Nat), s.kz.advance t = m ∧ (m.fw.activationDue = none ∨ m.fw.activationDue = some
    d ∧ m.now.ns < d)) ∧
  (∃ (s : State) (t : Stamp) (m : Kz) (p : Port) (v : Word), s.kz.advance t = m ∧ Accepts m p .MOD_ERR_CTRL 0 v ∧
    F.MOD_ERR_CTRL.FATAL_RESET.of v = 1 ∧ m.errs.fatal = true) ∧
  (∃ (s : State) (t : Stamp) (m : Kz) (p : Port) (v : Word), s.kz.advance t = m ∧ Accepts m p .MOD_ERR_CTRL 0 v ∧
    (F.MOD_ERR_CTRL.FATAL_RESET.of v = 0 ∨ m.errs.fatal = false)) :=
  ⟨
    ⟨wSt (((((wKz .ready).modPwr 1 (fun p => { p with state := .run })).modPwr 4 (fun p => { p with
      state := .hold,
      draining := true })).modPwr 2 (fun p => { p with starting := true }))), ⟨2000000, 6000000000⟩, _, 434, rfl, by decide⟩,
    ⟨wSt (((((wKz .ready).modPwr 1 (fun p => { p with state := .run })).modPwr 4 (fun p => { p with
      state := .hold,
      draining := true })).modPwr 2 (fun p => { p with starting := true }))), ⟨2000000, 6000000000⟩, _, 435, rfl, by decide⟩,
    ⟨wSt (((((wKz .ready).modPwr 1 (fun p => { p with state := .run })).modPwr 4 (fun p => { p with
      state := .hold,
      draining := true })).modPwr 2 (fun p => { p with starting := true })) |>.modPower (fun p => { p with
      dip := some (1500000, 430) })), ⟨2000000, 6000000000⟩, _, 446, (1500000, 430), rfl, by decide⟩,
    ⟨wSt (((((wKz .ready).modPwr 1 (fun p => { p with state := .run })).modPwr 4 (fun p => { p with
      state := .hold,
      draining := true })).modPwr 2 (fun p => { p with starting := true }))), ⟨2000000, 6000000000⟩, _, 930, rfl, by decide⟩,
    ⟨wSt (((((wKz .ready).modPwr 1 (fun p => { p with state := .run })).modPwr 4 (fun p => { p with
      state := .hold,
      draining := true })).modPwr 2 (fun p => { p with starting := true })) |>.modPower (fun p => { p with vinNow := 1200 })),
    ⟨2000000, 6000000000⟩, _, 0, BitVec.ofNat 32 (F.MOD_VIN.CLR.put 1), rfl, by decide⟩,
    ⟨wSt (((((wKz .ready).modPwr 1 (fun p => { p with state := .run })).modPwr 4 (fun p => { p with
      state := .hold,
      draining := true })).modPwr 2 (fun p => { p with starting := true })) |>.modPower (fun p => { p with vinNow := 1200 })),
    ⟨2000000, 6000000000⟩, _, 0, 0, rfl, by decide⟩,
    ⟨wSt ((wKz .acquire)), ⟨2000000, 6000000000⟩, _, 404, rfl, by decide, by decide⟩,
    ⟨wSt ((wKz .hold)), ⟨2000000, 6000000000⟩, _, rfl, by decide⟩,
    ⟨wSt ((wKz .off)), ⟨2000000, 6000000000⟩, _, rfl, by decide⟩,
    ⟨wSt ((wKz .boot)|> fun m => { m with
      fw := { m.fw with started := 5000000000, booting := some (0, ⟨true, 0x3020001, 5, false, 77⟩) } }), ⟨2000000,
    6000000000⟩, _, ⟨true, 0x3020001, 5, false, 77⟩, rfl, rfl, rfl⟩,
    ⟨wSt ((wKz .acquire)), ⟨2000000, 6000000000⟩, _, 405, rfl, by decide⟩,
    ⟨wSt ((wKz .ready)), ⟨2000000, 6000000000⟩, _, .aux, 3035, rfl, by decide, by decide, by decide⟩,
    ⟨wSt ((wKz .ready)), ⟨2000000, 6000000000⟩, _, .core, 690, rfl, by decide⟩,
    ⟨wSt ((wKz .recovery)|> fun m => { m with fw := { m.fw with activationDue := some 5900000000 } }), ⟨2000000,
    6000000000⟩, _, 5900000000, rfl, rfl, by decide⟩,
    ⟨wSt ((wKz .ready)|> fun m => { m with fw := { m.fw with activationDue := some 6000000001 } }), ⟨2000000, 6000000000⟩,
    _, 6000000001, rfl, by decide⟩,
    ⟨wSt ((wKz .hold)|> fun m => { m with errs := ⟨true, 2⟩ }), ⟨2000000, 6000000000⟩, _, 0, BitVec.ofNat 32
    (F.MOD_ERR_CTRL.FATAL_RESET.put 1), rfl, by decide, rfl, rfl⟩,
    ⟨wSt ((wKz .hold)), ⟨2000000, 6000000000⟩, _, 0, BitVec.ofNat 32 (F.MOD_ERR_CTRL.FATAL_RESET.put 1), rfl, by decide, by
    decide⟩⟩

/-- Witness of the hypotheses of TripsAndRails. -/
theorem witness_TripsAndRails :
  (∃ (s : State) (t : Stamp) (m : Kz) (v : BitVec 11), s.kz.advance t = m ∧ Quiet m ∧ (m.pwr.state = .standby ∨ m.pwr.state
    = .ready ∨ m.pwr.state = .acquire) ∧ 1900 < v.toNat) ∧
  (∃ (s : State) (t : Stamp) (m : Kz) (v : BitVec 11), s.kz.advance t = m ∧ Quiet m ∧ m.pwr.state = .hold ∧ 1900 < v.toNat) ∧
  (∃ (s : State) (t : Stamp) (m : Kz) (v : BitVec 11), s.kz.advance t = m ∧ Quiet m ∧ (m.pwr.state = .off ∨ m.pwr.state =
    .boot ∨ m.pwr.state = .recovery) ∧ 1900 < v.toNat) ∧
  (∃ (s : State) (t : Stamp) (m : Kz) (v : BitVec 11), s.kz.advance t = m ∧ Quiet m ∧ v.toNat ≤ 1900) ∧
  (∃ (s : State) (t : Stamp) (m : Kz) (v : BitVec 11), s.kz.advance t = m ∧ v.toNat < 1850) ∧
  (∃ (s : State) (t : Stamp) (m : Kz) (v : BitVec 11), s.kz.advance t = m ∧ 1850 ≤ v.toNat) ∧
  (∃ (s : State) (t : Stamp) (m : Kz) (k : Rgn) (mv : Nat), s.kz.advance t = m ∧ Quiet m ∧ mv * 100 < 92 * fabricTarget m
    k.val) ∧
  (∃ (s : State) (t : Stamp) (m : Kz) (k : Rgn) (mv : Nat), s.kz.advance t = m ∧ Quiet m ∧ 92 * fabricTarget m k.val ≤ mv *
    100) ∧
  (∃ (s : State) (t : Stamp) (m : Kz) (r : DieRail) (mv : Nat), s.kz.advance t = m ∧ Quiet m ∧ mv * 100 < 92 * dieTarget r) ∧
  (∃ (s : State) (t : Stamp) (m : Kz) (k : Rgn) (mv : Nat), s.kz.advance t = m ∧ Quiet m ∧ mv * 100 < 92 * fabricTarget m
    k.val ∧ (m.rstate k.val = .idle ∨ m.rstate k.val = .cal ∨ m.rstate k.val = .run)) ∧
  (∃ (s : State) (t : Stamp) (m : Kz) (k : Rgn), s.kz.advance t = m ∧ (m.rgn k.val).pwr.railAt + 1000000 ≤ m.now.ns) ∧
  (∃ (s : State) (t : Stamp) (m : Kz) (k : Rgn), s.kz.advance t = m ∧ m.now.ns < (m.rgn k.val).pwr.railAt + 1000000) ∧
  (∃ (s : State) (t : Stamp) (m : Kz) (k : Rgn) (tj : Int), s.kz.advance t = m ∧ Quiet m ∧ m.rstate k.val ≠ .down ∧ 155 ≤ tj) ∧
  (∃ (s : State) (t : Stamp) (m : Kz) (k : Rgn) (tj : Int), s.kz.advance t = m ∧ Quiet m ∧ (m.rstate k.val = .down ∨ tj <
    155)) ∧
  (∃ (s : State) (t : Stamp) (m : Kz) (tj : Int), s.kz.advance t = m ∧ Quiet m ∧ (m.pwr.state = .standby ∨ m.pwr.state =
    .ready ∨ m.pwr.state = .acquire) ∧ 160 ≤ tj) ∧
  (∃ (s : State) (t : Stamp) (m : Kz) (tj : Int), s.kz.advance t = m ∧ Quiet m ∧ (m.pwr.state = .standby ∨ m.pwr.state =
    .ready ∨ m.pwr.state = .acquire) ∧ 160 ≤ tj) ∧
  (∃ (s : State) (t : Stamp) (m : Kz) (tj : Int), s.kz.advance t = m ∧ Quiet m ∧ tj < 160) ∧
  (∃ (s : State) (t : Stamp) (m : Kz) (tj : Int), s.kz.advance t = m ∧ tj < 150) ∧
  (∃ (s : State) (t : Stamp) (m : Kz) (tj : Int), s.kz.advance t = m ∧ 150 ≤ tj) ∧
  (∃ (s : State) (t : Stamp) (m : Kz) (p : Port) (k : Rgn) (v : Word), s.kz.advance t = m ∧ Accepts m p .RGN_RAIL k.val v ∧
    m.rstate k.val ≠ .down) ∧
  (∃ (s : State) (t : Stamp) (m : Kz) (p : Port) (k : Rgn) (v : Word), s.kz.advance t = m ∧ Accepts m p .RGN_RAIL k.val v ∧
    m.rstate k.val = .down) ∧
  (∃ (s : State) (t : Stamp) (m : Kz) (p : Port) (k : Rgn) (v : Word), s.kz.advance t = m ∧ Reaches m p .RGN_RAIL k.val ∧
    covers (m.port p).session.leases (leaseFor (RegKind.addr .RGN_RAIL k.val)) = true ∧ (F.RGN_RAIL.TARGET_MV.of v < 720 ∨
    850 < F.RGN_RAIL.TARGET_MV.of v ∨ F.RGN_RAIL.TARGET_MV.of v % 5 ≠ 0)) ∧
  (∃ (s : State) (t : Stamp) (m : Kz) (p : Port) (k : Rgn) (v : Word) (j : Nat), s.kz.advance t = m ∧ Reaches m p .RGN_RAIL
    k.val ∧ covers (m.port p).session.leases (leaseFor (RegKind.addr .RGN_RAIL k.val)) = true ∧ 720 ≤
    F.RGN_RAIL.TARGET_MV.of v ∧ F.RGN_RAIL.TARGET_MV.of v ≤ 850 ∧ F.RGN_RAIL.TARGET_MV.of v % 5 = 0 ∧ j < 12 ∧ j ≠ k.val ∧
    m.inRun j = true ∧ F.RGN_RAIL.TARGET_MV.of v + 40 < railMv m j) ∧
  (∃ (s : State) (t : Stamp) (m : Kz) (k : Rgn), s.kz.advance t = m ∧ (m.rgn k.val).pwr.rampFrom.isSome = true ∧ railMv m
    k.val = m.fld F.RGN_RAIL.TARGET_MV k.val) ∧
  (∃ (s : State) (t : Stamp) (m : Kz) (k : Rgn), s.kz.advance t = m ∧ ((m.rgn k.val).pwr.rampFrom = none ∨ railMv m k.val ≠
    m.fld F.RGN_RAIL.TARGET_MV k.val)) :=
  ⟨
    ⟨wSt (((((wKz .ready).modPwr 1 (fun p => { p with state := .run })).modPwr 4 (fun p => { p with
      state := .hold,
      draining := true })).modPwr 2 (fun p => { p with starting := true }))), ⟨2000000, 6000000000⟩, _, 1901, rfl, by
    decide⟩,
    ⟨wSt (((((wKz .hold).modPwr 1 (fun p => { p with state := .run })).modPwr 4 (fun p => { p with
      state := .hold,
      draining := true })).modPwr 2 (fun p => { p with starting := true }))), ⟨2000000, 6000000000⟩, _, 1901, rfl, by
    decide⟩,
    ⟨wSt (((((wKz .boot).modPwr 1 (fun p => { p with state := .run })).modPwr 4 (fun p => { p with
      state := .hold,
      draining := true })).modPwr 2 (fun p => { p with starting := true }))), ⟨2000000, 6000000000⟩, _, 1901, rfl, by
    decide⟩,
    ⟨wSt (((((wKz .ready).modPwr 1 (fun p => { p with state := .run })).modPwr 4 (fun p => { p with
      state := .hold,
      draining := true })).modPwr 2 (fun p => { p with starting := true }))), ⟨2000000, 6000000000⟩, _, 1900, rfl, by
    decide⟩,
    ⟨wSt (((((wKz .hold).modPwr 1 (fun p => { p with state := .run })).modPwr 4 (fun p => { p with
      state := .hold,
      draining := true })).modPwr 2 (fun p => { p with starting := true }))), ⟨2000000, 6000000000⟩, _, 1849, rfl, by
    decide⟩,
    ⟨wSt (((((wKz .hold).modPwr 1 (fun p => { p with state := .run })).modPwr 4 (fun p => { p with
      state := .hold,
      draining := true })).modPwr 2 (fun p => { p with starting := true }))), ⟨2000000, 6000000000⟩, _, 1850, rfl, by
    decide⟩,
    ⟨wSt (((((wKz .acquire).modPwr 1 (fun p => { p with state := .run })).modPwr 4 (fun p => { p with
      state := .hold,
      draining := true })).modPwr 2 (fun p => { p with starting := true }))), ⟨2000000, 6000000000⟩, _, 1, 600, rfl, by
    decide⟩,
    ⟨wSt (((((wKz .acquire).modPwr 1 (fun p => { p with state := .run })).modPwr 4 (fun p => { p with
      state := .hold,
      draining := true })).modPwr 2 (fun p => { p with starting := true }))), ⟨2000000, 6000000000⟩, _, 1, 800, rfl, by
    decide⟩,
    ⟨wSt (((((wKz .acquire).modPwr 1 (fun p => { p with state := .run })).modPwr 4 (fun p => { p with
      state := .hold,
      draining := true })).modPwr 2 (fun p => { p with starting := true }))), ⟨2000000, 6000000000⟩, _, .high, 1655, rfl, by
    decide⟩,
    ⟨wSt (((((wKz .acquire).modPwr 1 (fun p => { p with state := .run })).modPwr 4 (fun p => { p with
      state := .hold,
      draining := true })).modPwr 2 (fun p => { p with starting := true }))), ⟨2000000, 6000000000⟩, _, 1, 600, rfl, by
    decide⟩,
    ⟨wSt (((((wKz .acquire).modPwr 1 (fun p => { p with state := .run })).modPwr 4 (fun p => { p with
      state := .hold,
      draining := true })).modPwr 2 (fun p => { p with starting := true }))), ⟨2000000, 6000000000⟩, _, 1, rfl, by decide⟩,
    ⟨wSt (((((wKz .acquire).modPwr 1 (fun p => { p with state := .run })).modPwr 4 (fun p => { p with
      state := .hold,
      draining := true })).modPwr 2 (fun p => { p with starting := true })) |>.modPwr 1 (fun p => { p with
      railAt := 5999000001 })), ⟨2000000, 6000000000⟩, _, 1, rfl, by decide⟩,
    ⟨wSt (((((wKz .acquire).modPwr 1 (fun p => { p with state := .run })).modPwr 4 (fun p => { p with
      state := .hold,
      draining := true })).modPwr 2 (fun p => { p with starting := true }))), ⟨2000000, 6000000000⟩, _, 4, 156, rfl, by
    decide⟩,
    ⟨wSt (((((wKz .acquire).modPwr 1 (fun p => { p with state := .run })).modPwr 4 (fun p => { p with
      state := .hold,
      draining := true })).modPwr 2 (fun p => { p with starting := true }))), ⟨2000000, 6000000000⟩, _, 1, 154, rfl, by
    decide⟩,
    ⟨wSt (((((wKz .standby).modPwr 1 (fun p => { p with state := .run })).modPwr 4 (fun p => { p with
      state := .hold,
      draining := true })).modPwr 2 (fun p => { p with starting := true }))), ⟨2000000, 6000000000⟩, _, 160, rfl, by decide⟩,
    ⟨wSt (((((wKz .standby).modPwr 1 (fun p => { p with state := .run })).modPwr 4 (fun p => { p with
      state := .hold,
      draining := true })).modPwr 2 (fun p => { p with starting := true }))), ⟨2000000, 6000000000⟩, _, 160, rfl, by decide⟩,
    ⟨wSt (((((wKz .standby).modPwr 1 (fun p => { p with state := .run })).modPwr 4 (fun p => { p with
      state := .hold,
      draining := true })).modPwr 2 (fun p => { p with starting := true }))), ⟨2000000, 6000000000⟩, _, 159, rfl, by decide⟩,
    ⟨wSt (((((wKz .acquire).modPwr 1 (fun p => { p with state := .run })).modPwr 4 (fun p => { p with
      state := .hold,
      draining := true })).modPwr 2 (fun p => { p with starting := true })) |>.modPwr 4 (fun p => { p with
      thermNow := true,
      tj := 160 })), ⟨2000000, 6000000000⟩, _, 149, rfl, by decide⟩,
    ⟨wSt (((((wKz .acquire).modPwr 1 (fun p => { p with state := .run })).modPwr 4 (fun p => { p with
      state := .hold,
      draining := true })).modPwr 2 (fun p => { p with starting := true })) |>.modPwr 4 (fun p => { p with
      thermNow := true })), ⟨2000000, 6000000000⟩, _, 150, rfl, by decide⟩,
    ⟨wSt (((((wKz .acquire).modPwr 1 (fun p => { p with state := .run })).modPwr 4 (fun p => { p with
      state := .hold,
      draining := true })).modPwr 2 (fun p => { p with starting := true })).modPwr 2 (fun p => { p with
      state := .run,
      nowMv := 800 })), ⟨2000000, 6000000000⟩, _, 0, 1, BitVec.ofNat 32 (F.RGN_RAIL.TARGET_MV.put 780), rfl, by decide⟩,
    ⟨wSt (((((wKz .acquire).modPwr 1 (fun p => { p with state := .run })).modPwr 4 (fun p => { p with
      state := .hold,
      draining := true })).modPwr 2 (fun p => { p with starting := true })).modPwr 2 (fun p => { p with
      state := .run,
      nowMv := 800 })|>.modPwr 1 (fun p => { p with nowMv := 790 })), ⟨2000000, 6000000000⟩, _, 0, 5, BitVec.ofNat 32
    (F.RGN_RAIL.TARGET_MV.put 780), rfl, by decide⟩,
    ⟨wSt (((((wKz .acquire).modPwr 1 (fun p => { p with state := .run })).modPwr 4 (fun p => { p with
      state := .hold,
      draining := true })).modPwr 2 (fun p => { p with starting := true }))), ⟨2000000, 6000000000⟩, _, 0, 1, BitVec.ofNat
    32 (F.RGN_RAIL.TARGET_MV.put 781), rfl, by decide⟩,
    ⟨wSt (((((wKz .acquire).modPwr 1 (fun p => { p with state := .run })).modPwr 4 (fun p => { p with
      state := .hold,
      draining := true })).modPwr 2 (fun p => { p with starting := true })).modPwr 2 (fun p => { p with
      state := .run,
      nowMv := 800 })), ⟨2000000, 6000000000⟩, _, 0, 1, BitVec.ofNat 32 (F.RGN_RAIL.TARGET_MV.put 750), 2, rfl, by decide⟩,
    ⟨wSt (((((wKz .acquire).modPwr 1 (fun p => { p with state := .run })).modPwr 4 (fun p => { p with
      state := .hold,
      draining := true })).modPwr 2 (fun p => { p with starting := true })) |>.modPwr 1 (fun p => { p with
      rampFrom := some (780, 5000000000) })), ⟨2000000, 6000000000⟩, _, 1, rfl, by decide⟩,
    ⟨wSt (((((wKz .acquire).modPwr 1 (fun p => { p with state := .run })).modPwr 4 (fun p => { p with
      state := .hold,
      draining := true })).modPwr 2 (fun p => { p with starting := true })) |>.modPwr 1 (fun p => { p with
      rampFrom := some (780, 5999999999) })), ⟨2000000, 6000000000⟩, _, 1, rfl, by decide⟩⟩

set_option maxRecDepth 20000 in
/-- Witness of the hypotheses of BootAttempts. -/
theorem witness_BootAttempts :
  (∃ (s : State) (t : Stamp) (m : Kz) (v : BitVec 11), s.kz.advance t = m ∧ m.pwr.state = .off ∧ 425 < v.toNat ∧ ((bootBlock
    m.fw).trial = false ∨ m.fw.failsA = 0)) ∧
  (∃ (s : State) (t : Stamp) (m : Kz) (v : BitVec 11), s.kz.advance t = m ∧ m.pwr.state = .off ∧ 425 < v.toNat ∧ (bootBlock
    m.fw).trial = true ∧ 0 < m.fw.failsA) ∧
  (∃ (s : State) (t : Stamp) (m : Kz) (x : Bool) (v : BitVec 11), s.kz.advance t = m ∧ (m.pwr.state ≠ .off ∨ x = true ∨
    v.toNat ≤ 425)) ∧
  (∃ (s : State) (t : Stamp) (m : Kz) (slot : Fin 2) (img : ImageInfo), s.kz.advance t = m ∧ m.pwr.state = .boot ∧
    m.fw.booting = none ∧ m.trust.events ≠ [] ∧ (areaOf m.fw (attemptArea m.fw slot.val)).isEmpty = true ∧ (slot.val = if
    m.fw.aRefused = true then 1 else 0) ∧ img.valid = true ∧ m.trust.counter ≤ img.sv ∧ ((if slot.val = 0 then m.fw.failsA
    else m.fw.failsB) < 2)) ∧
  (∃ (s : State) (t : Stamp) (m : Kz) (slot : Fin 2) (img : ImageInfo), s.kz.advance t = m ∧ m.pwr.state = .boot ∧
    m.fw.booting = none ∧ m.trust.events ≠ [] ∧ (areaOf m.fw (attemptArea m.fw slot.val)).isEmpty = true ∧ (slot.val = if
    m.fw.aRefused = true then 1 else 0) ∧ (img.valid = false ∨ img.sv < m.trust.counter ∨ 2 ≤ m.fw.failsA) ∧ slot.val = 0) ∧
  (∃ (s : State) (t : Stamp) (m : Kz) (slot : Fin 2) (img : ImageInfo), s.kz.advance t = m ∧ m.pwr.state = .boot ∧
    m.fw.booting = none ∧ m.trust.events ≠ [] ∧ (areaOf m.fw (attemptArea m.fw slot.val)).isEmpty = true ∧ (slot.val = if
    m.fw.aRefused = true then 1 else 0) ∧ (img.valid = false ∨ img.sv < m.trust.counter ∨ 2 ≤ m.fw.failsB) ∧ slot.val = 1) ∧
  (∃ (s : State) (t : Stamp) (m : Kz) (slot : Fin 2), s.kz.advance t = m ∧ m.pwr.state = .boot ∧ m.fw.booting = none ∧
    m.trust.events = [] ∧ (slot.val = if m.fw.aRefused = true then 1 else 0)) ∧
  (∃ (s : State) (t : Stamp) (m : Kz) (slot : Fin 2), s.kz.advance t = m ∧ (m.pwr.state ≠ .boot ∨ m.fw.booting.isSome = true
    ∨ slot.val ≠ if m.fw.aRefused = true then 1 else 0)) ∧
  (∃ (s : State) (t : Stamp) (m : Kz) (x : Nat) (g : ImageInfo), s.kz.advance t = m ∧ m.pwr.state = .boot ∧ m.fw.booting =
    some (x, g) ∧ m.now.ns ≤ m.fw.started + 2000000000 ∧ m.pwr.ovNow = false ∧ m.pwr.thermNow = false ∧ ((bootBlock
    m.fw).trial = false ∨ x = 1)) ∧
  (∃ (s : State) (t : Stamp) (m : Kz) (x : Nat) (g : ImageInfo), s.kz.advance t = m ∧ m.pwr.state = .boot ∧ m.fw.booting =
    some (x, g) ∧ m.now.ns ≤ m.fw.started + 2000000000 ∧ m.pwr.ovNow = false ∧ m.pwr.thermNow = false ∧ (bootBlock
    m.fw).trial = true ∧ x = 0) ∧
  (∃ (s : State) (t : Stamp) (m : Kz) (x : Nat) (g : ImageInfo), s.kz.advance t = m ∧ m.pwr.state = .boot ∧ m.fw.booting =
    some (x, g) ∧ m.now.ns ≤ m.fw.started + 2000000000 ∧ (m.pwr.ovNow = true ∨ m.pwr.thermNow = true)) ∧
  (∃ (s : State) (t : Stamp) (m : Kz), s.kz.advance t = m ∧ (m.pwr.state ≠ .boot ∨ m.fw.booting = none ∨ m.fw.started +
    2000000000 < m.now.ns)) ∧
  (∃ (s : State) (t : Stamp) (m : Kz) (x : Nat) (g : ImageInfo), s.kz.advance t = m ∧ m.pwr.state = .boot ∧ m.fw.booting =
    some (x, g) ∧ m.fw.started + 2000000000 ≤ m.now.ns ∧ (bootBlock m.fw).trial = false) ∧
  (∃ (s : State) (t : Stamp) (m : Kz), s.kz.advance t = m ∧ (m.pwr.state ≠ .boot ∨ m.fw.booting = none ∨ m.now.ns <
    m.fw.started + 2000000000)) :=
  ⟨
    ⟨wSt ((wKz .off)|> fun m => { m with fw := { m.fw with failsA := 1, aRefused := true } }|>.modPower (fun p => { p with
      testEn := true })), ⟨2000000, 6000000000⟩, _, 426, rfl, rfl, by decide, by decide⟩,
    ⟨wSt ((wKz .off)|> fun m => { m with
      fw := { m.fw with failsA := 1, failed := 9, block0 := some ⟨6, 0, false, 25⟩, block1 := some ⟨7, 1, true, 25⟩ } }),
    ⟨2000000, 6000000000⟩, _, 426, rfl, rfl, by decide, rfl, by decide⟩,
    ⟨wSt ((wKz .off)), ⟨2000000, 6000000000⟩, _, false, 425, rfl, by decide⟩,
    ⟨wSt ((wKz .boot)|> fun m => { m with trust := { m.trust with events := [[1]], counter := 5 } }), ⟨2000000, 6000000000⟩,
    _, 0, ⟨true, 0x3020001, 5, false, 77⟩, rfl, rfl, rfl, by decide, rfl, rfl, rfl, by decide, by decide⟩,
    ⟨wSt ((wKz .boot)|> fun m => { m with trust := { m.trust with events := [[1]], counter := 5 } }), ⟨2000000, 6000000000⟩,
    _, 0, ⟨true, 0, 4, false, 0⟩, rfl, rfl, rfl, by decide, rfl, rfl, by decide, rfl⟩,
    ⟨wSt ((wKz .boot)|> fun m => { m with trust := { m.trust with events := [[1]], counter := 5 } }|> fun m => { m with
      fw := { m.fw with aRefused := true, failsB := 2 } }), ⟨2000000, 6000000000⟩, _, 1, ⟨true, 0x3020001, 5, false, 77⟩,
    rfl, rfl, rfl, by decide, rfl, rfl, by decide, rfl⟩,
    ⟨wSt ((wKz .boot)), ⟨2000000, 6000000000⟩, _, 0, rfl, rfl, rfl, rfl, rfl⟩,
    ⟨wSt ((wKz .boot)), ⟨2000000, 6000000000⟩, _, 1, rfl, by decide⟩,
    ⟨wSt ((wKz .boot)|> fun m => { m with
      fw := { m.fw with started := 5000000000, booting := some (0, ⟨true, 0x3020001, 5, false, 77⟩) } }), ⟨2000000,
    6000000000⟩, _, 0, ⟨true, 0x3020001, 5, false, 77⟩, rfl, rfl, rfl, by decide, rfl, rfl, by decide⟩,
    ⟨wSt ((wKz .boot)|> fun m => { m with
      fw := { m.fw with started := 5000000000, block1 := some ⟨7, 1, true, 25⟩, booting := some (0, ⟨true, 1, 9, true, 0⟩) } }),
    ⟨2000000, 6000000000⟩, _, 0, ⟨true, 1, 9, true, 0⟩, rfl, rfl, rfl, by decide, rfl, rfl, rfl, rfl⟩,
    ⟨wSt ((wKz .boot)|> fun m => { m with
      fw := { m.fw with started := 5000000000, booting := some (0, ⟨true, 0x3020001, 5, false, 77⟩) } }|>.modPower (fun p =>
    { p with thermNow := true })), ⟨2000000, 6000000000⟩, _, 0, ⟨true, 0x3020001, 5, false, 77⟩, rfl, rfl, rfl, by decide,
    by decide⟩,
    ⟨wSt ((wKz .boot)|> fun m => { m with
      fw := { m.fw with started := 3999999999, booting := some (0, ⟨true, 0x3020001, 5, false, 77⟩) } }), ⟨2000000,
    6000000000⟩, _, rfl, by decide⟩,
    ⟨wSt ((wKz .boot)|> fun m => { m with
      fw := { m.fw with started := 4000000000, booting := some (1, ⟨true, 0x3020001, 5, false, 77⟩) } }), ⟨2000000,
    6000000000⟩, _, 1, ⟨true, 0x3020001, 5, false, 77⟩, rfl, rfl, rfl, by decide, rfl⟩,
    ⟨wSt ((wKz .boot)|> fun m => { m with
      fw := { m.fw with started := 5000000000, booting := some (0, ⟨true, 0x3020001, 5, false, 77⟩) } }), ⟨2000000,
    6000000000⟩, _, rfl, by decide⟩⟩

set_option maxRecDepth 20000 in
/-- Witness of the hypotheses of SupervisorPairs. -/
theorem witness_SupervisorPairs :
  (∃ (s : State) (t : Stamp) (m : Kz), s.kz.advance t = m ∧ pairsRun m = true ∧ (∀ z ∈ m.sup.last0.toList ++
    m.sup.last1.toList, z + 1000000000 ≤ m.now.ns) ∧ Quiet m) ∧
  (∃ (s : State) (t : Stamp) (m : Kz), s.kz.advance t = m ∧ pairsRun m = true ∧ (∀ z ∈ m.sup.last0.toList ++
    m.sup.last1.toList, z + 1000000000 ≤ m.now.ns) ∧ Quiet m) ∧
  (∃ (s : State) (t : Stamp) (m : Kz) (p : Port) (q : Running), s.kz.advance t = m ∧ pairsRun m = true ∧ (∀ z ∈
    m.sup.last0.toList ++ m.sup.last1.toList, z + 1000000000 ≤ m.now.ns) ∧ Quiet m ∧ (m.port p.val).session.running = some q
    ∧ cmdCode q.req < 0x80 ∧ q.req ≠ .unknown 0x11 []) ∧
  (∃ (s : State) (t : Stamp) (m : Kz) (z : Nat), s.kz.advance t = m ∧ pairsRun m = true ∧ Quiet m ∧ m.pwr.state = .hold ∧ z
    ∈ m.sup.last0.toList ++ m.sup.last1.toList ∧ m.now.ns < z + 1000000000) ∧
  (∃ (s : State) (t : Stamp) (m : Kz), s.kz.advance t = m ∧ pairsRun m = false ∧ Quiet m) ∧
  (∃ (s : State) (t : Stamp) (m : Kz), s.kz.advance t = m ∧ pairsRun m = true ∧ (∀ z ∈ m.sup.last0.toList ++
    m.sup.last1.toList, z + 1000000000 ≤ m.now.ns) ∧ Quiet m) ∧
  (∃ (s : State) (t : Stamp) (m : Kz), s.kz.advance t = m ∧ pairsRun m = true ∧ (∀ z ∈ m.sup.last0.toList ++
    m.sup.last1.toList, z + 1000000000 ≤ m.now.ns) ∧ Quiet m) ∧
  (∃ (s : State) (t : Stamp) (m : Kz) (p : Port) (q : Running), s.kz.advance t = m ∧ pairsRun m = true ∧ (∀ z ∈
    m.sup.last0.toList ++ m.sup.last1.toList, z + 1000000000 ≤ m.now.ns) ∧ Quiet m ∧ (m.port p.val).session.running = some q
    ∧ cmdCode q.req < 0x80 ∧ q.req ≠ .unknown 0x11 []) ∧
  (∃ (s : State) (t : Stamp) (m : Kz) (z : Nat), s.kz.advance t = m ∧ pairsRun m = true ∧ Quiet m ∧ m.pwr.state = .hold ∧ z
    ∈ m.sup.last0.toList ++ m.sup.last1.toList ∧ m.now.ns < z + 1000000000) ∧
  (∃ (s : State) (t : Stamp) (m : Kz), s.kz.advance t = m ∧ pairsRun m = false ∧ Quiet m) ∧
  (∃ (s : State) (t : Stamp) (m : Kz), s.kz.advance t = m ∧ Quiet m) ∧
  (∃ (s : State) (t : Stamp) (m : Kz), s.kz.advance t = m ∧ Quiet m) :=
  ⟨
    ⟨wSt ((wKz .ready)|> fun m => { m with sup := { m.sup with last0 := some 5000000000 } }), ⟨2000000, 6000000000⟩, _, rfl,
    rfl, by decide, by decide⟩,
    ⟨wSt ((wKz .ready)|>.modSess 0 (fun q => { q with
      running := some { seq := 4, tag := 9, req := .nop, via := {}, wait := .boundary, body := [], from_ := 0 } })),
    ⟨2000000, 6000000000⟩, _, rfl, rfl, by decide, by decide⟩,
    ⟨wSt ((wKz .ready)|>.modSess 0 (fun q => { q with
      running := some { seq := 4, tag := 9, req := .nop, via := {}, wait := .boundary, body := [], from_ := 0 } })),
    ⟨2000000, 6000000000⟩, _, 0, { seq := 4, tag := 9, req := .nop, via := {}, wait := .boundary, body := [], from_ := 0 },
    rfl, rfl, by decide, by decide, rfl, by decide, by decide⟩,
    ⟨wSt ((wKz .hold)|> fun m => { m with sup := { m.sup with last0 := some 5500000000 } }), ⟨2000000, 6000000000⟩, _,
    5500000000, rfl, rfl, by decide, rfl, by decide, by decide⟩,
    ⟨wSt ((wKz .recovery)), ⟨2000000, 6000000000⟩, _, rfl, rfl, by decide⟩,
    ⟨wSt ((wKz .ready)|> fun m => { m with sup := { m.sup with last0 := some 5000000000 } }), ⟨2000000, 6000000000⟩, _, rfl,
    rfl, by decide, by decide⟩,
    ⟨wSt ((wKz .ready)|>.modSess 0 (fun q => { q with
      running := some { seq := 4, tag := 9, req := .nop, via := {}, wait := .boundary, body := [], from_ := 0 } })),
    ⟨2000000, 6000000000⟩, _, rfl, rfl, by decide, by decide⟩,
    ⟨wSt ((wKz .ready)|>.modSess 0 (fun q => { q with
      running := some { seq := 4, tag := 9, req := .nop, via := {}, wait := .boundary, body := [], from_ := 0 } })),
    ⟨2000000, 6000000000⟩, _, 0, { seq := 4, tag := 9, req := .nop, via := {}, wait := .boundary, body := [], from_ := 0 },
    rfl, rfl, by decide, by decide, rfl, by decide, by decide⟩,
    ⟨wSt ((wKz .hold)|> fun m => { m with sup := { m.sup with last0 := some 5500000000 } }), ⟨2000000, 6000000000⟩, _,
    5500000000, rfl, rfl, by decide, rfl, by decide, by decide⟩,
    ⟨wSt ((wKz .recovery)), ⟨2000000, 6000000000⟩, _, rfl, rfl, by decide⟩,
    ⟨wSt ((wKz .ready)), ⟨2000000, 6000000000⟩, _, rfl, by decide⟩,
    ⟨wSt ((wKz .ready)|> fun m => { m with sup := { m.sup with restarting0 := true } }), ⟨2000000, 6000000000⟩, _, rfl, by
    decide⟩⟩

/-- Witness of the hypotheses of RegionStartsAndChannelRestarts. -/
theorem witness_RegionStartsAndChannelRestarts :
  (∃ (s : State) (t : Stamp) (m : Kz) (k : Rgn), s.kz.advance t = m ∧ Quiet m ∧ (m.rgn k.val).pwr.starting = true ∧ m.rstate
    k.val = .down ∧ m.tb.tb ≠ .switching) ∧
  (∃ (s : State) (t : Stamp) (m : Kz) (k : Rgn) (p : Port) (q : Running), s.kz.advance t = m ∧ Quiet m ∧ (m.port
    p.val).session.running = some q ∧ q.wait = .regionIdle k.val ∧ (m.rgn k.val).pwr.starting = true ∧ m.rstate k.val =
    .down ∧ m.tb.tb ≠ .switching) ∧
  (∃ (s : State) (t : Stamp) (m : Kz) (k : Rgn), s.kz.advance t = m ∧ Quiet m ∧ ((m.rgn k.val).pwr.starting = false ∨
    m.rstate k.val ≠ .down ∨ m.tb.tb = .switching)) ∧
  (∃ (s : State) (t : Stamp) (m : Kz) (k : Rgn), s.kz.advance t = m ∧ Quiet m ∧ (m.rgn k.val).pwr.draining = true ∧ drained
    m k.val = true) ∧
  (∃ (s : State) (t : Stamp) (m : Kz) (k : Rgn) (p : Port) (q : Running), s.kz.advance t = m ∧ Quiet m ∧ (m.port
    p.val).session.running = some q ∧ q.wait = .regionDown k.val ∧ (m.rgn k.val).pwr.draining = true ∧ drained m k.val =
    true) ∧
  (∃ (s : State) (t : Stamp) (m : Kz) (k : Rgn), s.kz.advance t = m ∧ Quiet m ∧ ((m.rgn k.val).pwr.draining = false ∨
    drained m k.val = false)) ∧
  (∃ (s : State) (t : Stamp) (m : Kz) (c : Chan) (x : Nat), s.kz.advance t = m ∧ (m.chan c.val).restart.due = some x ∧
    (m.rgn (c.val / 16)).err.restarting = false ∧ ((m.inRun (c.val / 16) = false ∨ m.now.tick % (16 * convTicks m c.val) =
    0))) ∧
  (∃ (s : State) (t : Stamp) (m : Kz) (c : Chan), s.kz.advance t = m ∧ ((m.chan c.val).restart.due = none ∨ (m.rgn (c.val /
    16)).err.restarting = true ∨ (m.inRun (c.val / 16) = true ∧ m.now.tick % (16 * convTicks m c.val) ≠ 0))) ∧
  (∃ (s : State) (t : Stamp) (m : Kz) (c : Chan) (x : Nat), s.kz.advance t = m ∧ Quiet m ∧ Idle m ∧ (m.chan
    c.val).restart.active = some x ∧ m.inRun (c.val / 16) = false) ∧
  (∃ (s : State) (t : Stamp) (m : Kz) (c : Chan) (x : Nat), s.kz.advance t = m ∧ Quiet m ∧ Idle m ∧ (m.chan
    c.val).restart.active = some x ∧ m.inRun (c.val / 16) = true ∧ (m.rgn (c.val / 16)).err.restarting = false) ∧
  (∃ (s : State) (t : Stamp) (m : Kz) (c : Chan) (x : Nat) (p : Port) (q : Running), s.kz.advance t = m ∧ Quiet m ∧ (m.port
    p.val).session.running = some q ∧ q.wait = .channelResume c.val ∧ (m.chan c.val).restart.active = some x) ∧
  (∃ (s : State) (t : Stamp) (m : Kz) (c : Chan), s.kz.advance t = m ∧ Quiet m ∧ (m.chan c.val).restart.active = none) ∧
  (∃ (s : State) (t : Stamp) (m : Kz) (c : Chan) (x : Nat), s.kz.advance t = m ∧ Quiet m ∧ (m.chan c.val).restart.active =
    some x ∧ (m.chan c.val).restart.startNs + 100000 ≤ m.now.ns ∧ m.rstate (c.val / 16) ≠ .down ∧ (m.rgn (c.val /
    16)).err.restarting = false) ∧
  (∃ (s : State) (t : Stamp) (m : Kz) (c : Chan), s.kz.advance t = m ∧ Quiet m ∧ ((m.chan c.val).restart.active = none ∨
    m.now.ns < (m.chan c.val).restart.startNs + 100000)) :=
  ⟨
    ⟨wSt (((((wKz .ready).modPwr 1 (fun p => { p with state := .run })).modPwr 4 (fun p => { p with
      state := .idle,
      draining := true })).modPwr 2 (fun p => { p with starting := true }))|>.modTb (fun b => { b with tb := .tracking })),
    ⟨2000000, 6000000000⟩, _, 2, rfl, by decide, rfl, rfl, by decide⟩,
    ⟨wSt (((((wKz .ready).modPwr 1 (fun p => { p with state := .run })).modPwr 4 (fun p => { p with
      state := .idle,
      draining := true })).modPwr 2 (fun p => { p with starting := true }))|>.modTb (fun b => { b with tb := .tracking })|>.modSess
    0 (fun q => { q with
      running := some {
          seq := 4,
          tag := 9,
          req := .regionState 2 1,
          via := {},
          wait := .regionIdle 2,
          body := [],
          from_ := 0 } })), ⟨2000000, 6000000000⟩, _, 2, 0, {
      seq := 4,
      tag := 9,
      req := .regionState 2 1,
      via := {},
      wait := .regionIdle 2,
      body := [],
      from_ := 0 }, rfl, by decide, rfl, rfl, rfl, rfl, by decide⟩,
    ⟨wSt (((((wKz .ready).modPwr 1 (fun p => { p with state := .run })).modPwr 4 (fun p => { p with
      state := .idle,
      draining := true })).modPwr 2 (fun p => { p with starting := true }))), ⟨2000000, 6000000000⟩, _, 2, rfl, by decide,
    by decide⟩,
    ⟨wSt (((((wKz .ready).modPwr 1 (fun p => { p with state := .run })).modPwr 4 (fun p => { p with
      state := .idle,
      draining := true })).modPwr 2 (fun p => { p with starting := true }))), ⟨2000000, 6000000000⟩, _, 4, rfl, by decide,
    rfl, rfl⟩,
    ⟨wSt (((((wKz .ready).modPwr 1 (fun p => { p with state := .run })).modPwr 4 (fun p => { p with
      state := .idle,
      draining := true })).modPwr 2 (fun p => { p with starting := true }))|>.modSess 0 (fun q => { q with
      running := some {
          seq := 4,
          tag := 9,
          req := .regionState 4 0,
          via := {},
          wait := .regionDown 4,
          body := [],
          from_ := 0 } })), ⟨2000000, 6000000000⟩, _, 4, 0, {
      seq := 4,
      tag := 9,
      req := .regionState 4 0,
      via := {},
      wait := .regionDown 4,
      body := [],
      from_ := 0 }, rfl, by decide, rfl, rfl, rfl, rfl⟩,
    ⟨wSt (((((wKz .ready).modPwr 1 (fun p => { p with state := .run })).modPwr 4 (fun p => { p with
      state := .idle,
      draining := true })).modPwr 2 (fun p => { p with starting := true })) |>.modLg 4 (fun g => { g with
      queue := [{ kind := .accept, ch := 64, ser := 3, time := ⟨some 5, none, 7, 0⟩, win := none, flags := 1, slot := none }] })),
    ⟨2000000, 6000000000⟩, _, 4, rfl, by decide, by decide⟩,
    ⟨wSt (((((wKz .acquire).modPwr 1 (fun p => { p with state := .run })).modPwr 4 (fun p => { p with
      state := .idle,
      draining := true })).modPwr 2 (fun p => { p with starting := true }))|>.modChan 17 (fun x => { x with
      restart := { due := some 3 } })), ⟨2000000, 6000000000⟩, _, 17, 3, rfl, rfl, rfl, by decide⟩,
    ⟨wSt (((((wKz .acquire).modPwr 1 (fun p => { p with state := .run })).modPwr 4 (fun p => { p with
      state := .idle,
      draining := true })).modPwr 2 (fun p => { p with starting := true }))|>.modChan 17 (fun x => { x with
      restart := { due := some 3 } })), ⟨2000001, 6000000000⟩, _, 17, rfl, by decide⟩,
    ⟨wSt (((((wKz .acquire).modPwr 1 (fun p => { p with state := .run })).modPwr 4 (fun p => { p with
      state := .idle,
      draining := true })).modPwr 2 (fun p => { p with starting := true }))|>.modChan 70 (fun x => { x with
      restart := { active := some 1 } })), ⟨2000000, 6000000000⟩, _, 70, 1, rfl, by decide, by decide, rfl, rfl⟩,
    ⟨wSt (((((wKz .acquire).modPwr 1 (fun p => { p with state := .run })).modPwr 4 (fun p => { p with
      state := .idle,
      draining := true })).modPwr 2 (fun p => { p with starting := true }))|>.modChan 17 (fun x => { x with
      restart := { active := some 1 } })), ⟨2000000, 6000000000⟩, _, 17, 1, rfl, by decide, by decide, rfl, rfl, rfl⟩,
    ⟨wSt (((((wKz .acquire).modPwr 1 (fun p => { p with state := .run })).modPwr 4 (fun p => { p with
      state := .idle,
      draining := true })).modPwr 2 (fun p => { p with starting := true }))|>.modChan 17 (fun x => { x with
      restart := { active := some 1 } })|>.modSess 0 (fun q => { q with
      running := some {
          seq := 4,
          tag := 9,
          req := .channelRestart 17,
          via := {},
          wait := .channelResume 17,
          body := [],
          from_ := 0 } })), ⟨2000000, 6000000000⟩, _, 17, 1, 0, {
      seq := 4,
      tag := 9,
      req := .channelRestart 17,
      via := {},
      wait := .channelResume 17,
      body := [],
      from_ := 0 }, rfl, by decide, rfl, rfl, rfl⟩,
    ⟨wSt (((((wKz .acquire).modPwr 1 (fun p => { p with state := .run })).modPwr 4 (fun p => { p with
      state := .idle,
      draining := true })).modPwr 2 (fun p => { p with starting := true }))), ⟨2000000, 6000000000⟩, _, 17, rfl, by decide,
    rfl⟩,
    ⟨wSt (((((wKz .acquire).modPwr 1 (fun p => { p with state := .run })).modPwr 4 (fun p => { p with
      state := .idle,
      draining := true })).modPwr 2 (fun p => { p with starting := true }))|>.modChan 17 (fun x => { x with
      restart := { active := some 1, startNs := 5999900000 } })), ⟨2000000, 6000000000⟩, _, 17, 1, rfl, by decide, rfl, by
    decide, by decide, rfl⟩,
    ⟨wSt (((((wKz .acquire).modPwr 1 (fun p => { p with state := .run })).modPwr 4 (fun p => { p with
      state := .idle,
      draining := true })).modPwr 2 (fun p => { p with starting := true }))|>.modChan 17 (fun x => { x with
      restart := { active := some 1, startNs := 5999900001 } })), ⟨2000000, 6000000000⟩, _, 17, rfl, by decide, by decide⟩⟩

/-- Witness of the hypotheses of RegionRestarts. -/
theorem witness_RegionRestarts :
  (∃ (s : State) (t : Stamp) (m : Kz) (k : Rgn), s.kz.advance t = m ∧ Quiet m ∧ m.rstate k.val ≠ .down ∧ (m.rgn
    k.val).err.restarting = false ∧ (((m.rgn k.val).err.times.length < 2 ∨ (m.rgn k.val).err.times.getD 1 0 + 1000000000 ≤
    m.now.ns))) ∧
  (∃ (s : State) (t : Stamp) (m : Kz) (k : Rgn), s.kz.advance t = m ∧ Quiet m ∧ powered m.pwr.state = true ∧ m.rstate k.val
    ≠ .down ∧ (m.rgn k.val).err.restarting = false ∧ 2 ≤ (m.rgn k.val).err.times.length ∧ m.now.ns < (m.rgn
    k.val).err.times.getD 1 0 + 1000000000) ∧
  (∃ (s : State) (t : Stamp) (m : Kz) (k : Rgn), s.kz.advance t = m ∧ Quiet m ∧ (m.rgn k.val).err.restarting = true ∧
    m.rstate k.val ≠ .down) ∧
  (∃ (s : State) (t : Stamp) (m : Kz) (k : Rgn), s.kz.advance t = m ∧ Quiet m ∧ m.rstate k.val = .down) ∧
  (∃ (s : State) (t : Stamp) (m : Kz) (k : Rgn), s.kz.advance t = m ∧ Quiet m ∧ m.rstate k.val ≠ .down ∧ (m.rgn
    k.val).err.restarting = false ∧ (((m.rgn k.val).err.times.length < 2 ∨ (m.rgn k.val).err.times.getD 1 0 + 1000000000 ≤
    m.now.ns))) ∧
  (∃ (s : State) (t : Stamp) (m : Kz) (k : Rgn), s.kz.advance t = m ∧ Quiet m ∧ powered m.pwr.state = true ∧ m.rstate k.val
    ≠ .down ∧ (m.rgn k.val).err.restarting = false ∧ 2 ≤ (m.rgn k.val).err.times.length ∧ m.now.ns < (m.rgn
    k.val).err.times.getD 1 0 + 1000000000) ∧
  (∃ (s : State) (t : Stamp) (m : Kz) (k : Rgn), s.kz.advance t = m ∧ Quiet m ∧ (m.rgn k.val).err.restarting = true ∧
    m.rstate k.val ≠ .down) ∧
  (∃ (s : State) (t : Stamp) (m : Kz) (k : Rgn), s.kz.advance t = m ∧ Quiet m ∧ m.rstate k.val = .down) ∧
  (∃ (s : State) (t : Stamp) (m : Kz) (k : Rgn), s.kz.advance t = m ∧ Quiet m ∧ Idle m ∧ (m.rgn k.val).err.restarting = true
    ∧ m.inRun k.val = false) ∧
  (∃ (s : State) (t : Stamp) (m : Kz) (k : Rgn), s.kz.advance t = m ∧ Quiet m ∧ Idle m ∧ (m.rgn k.val).err.restarting = true
    ∧ m.inRun k.val = true) ∧
  (∃ (s : State) (t : Stamp) (m : Kz) (k : Rgn), s.kz.advance t = m ∧ Quiet m ∧ Idle m ∧ (m.rgn k.val).err.restarting =
    false) ∧
  (∃ (s : State) (t : Stamp) (m : Kz) (k : Rgn), s.kz.advance t = m ∧ Quiet m ∧ powered m.pwr.state = true ∧ (m.rgn
    k.val).err.restarting = true ∧ ((m.rgn k.val).err.times.headD 0 + (if (m.rgn k.val).err.lastCause = 3 then 6000000 else
    2000000) ≤ m.now.ns)) ∧
  (∃ (s : State) (t : Stamp) (m : Kz) (k : Rgn), s.kz.advance t = m ∧ Quiet m ∧ ((m.rgn k.val).err.restarting = false ∨
    m.now.ns < (m.rgn k.val).err.times.headD 0 + (if (m.rgn k.val).err.lastCause = 3 then 6000000 else 2000000))) :=
  ⟨
    ⟨wSt (((((wKz .acquire).modPwr 1 (fun p => { p with state := .run })).modPwr 4 (fun p => { p with
      state := .idle,
      draining := true })).modPwr 2 (fun p => { p with starting := true }))), ⟨2000000, 6000000000⟩, _, 1, rfl, by decide,
    by decide, rfl, by decide⟩,
    ⟨wSt (((((wKz .acquire).modPwr 1 (fun p => { p with state := .run })).modPwr 4 (fun p => { p with
      state := .idle,
      draining := true })).modPwr 2 (fun p => { p with starting := true })) |>.modErr 1 (fun e => { e with
      times := [5900000000, 5500000000, 7] })), ⟨2000000, 6000000000⟩, _, 1, rfl, by decide, rfl, by decide, rfl, by decide,
    by decide⟩,
    ⟨wSt (((((wKz .acquire).modPwr 1 (fun p => { p with state := .run })).modPwr 4 (fun p => { p with
      state := .idle,
      draining := true })).modPwr 2 (fun p => { p with starting := true })) |>.modErr 1 (fun e => { e with
      restarting := true })), ⟨2000000, 6000000000⟩, _, 1, rfl, by decide, rfl, by decide⟩,
    ⟨wSt (((((wKz .acquire).modPwr 1 (fun p => { p with state := .run })).modPwr 4 (fun p => { p with
      state := .idle,
      draining := true })).modPwr 2 (fun p => { p with starting := true }))), ⟨2000000, 6000000000⟩, _, 2, rfl, by decide,
    rfl⟩,
    ⟨wSt (((((wKz .acquire).modPwr 1 (fun p => { p with state := .run })).modPwr 4 (fun p => { p with
      state := .idle,
      draining := true })).modPwr 2 (fun p => { p with starting := true }))), ⟨2000000, 6000000000⟩, _, 1, rfl, by decide,
    by decide, rfl, by decide⟩,
    ⟨wSt (((((wKz .acquire).modPwr 1 (fun p => { p with state := .run })).modPwr 4 (fun p => { p with
      state := .idle,
      draining := true })).modPwr 2 (fun p => { p with starting := true })) |>.modErr 1 (fun e => { e with
      times := [5900000000, 5500000000, 7] })), ⟨2000000, 6000000000⟩, _, 1, rfl, by decide, rfl, by decide, rfl, by decide,
    by decide⟩,
    ⟨wSt (((((wKz .acquire).modPwr 1 (fun p => { p with state := .run })).modPwr 4 (fun p => { p with
      state := .idle,
      draining := true })).modPwr 2 (fun p => { p with starting := true })) |>.modErr 1 (fun e => { e with
      restarting := true })), ⟨2000000, 6000000000⟩, _, 1, rfl, by decide, rfl, by decide⟩,
    ⟨wSt (((((wKz .acquire).modPwr 1 (fun p => { p with state := .run })).modPwr 4 (fun p => { p with
      state := .idle,
      draining := true })).modPwr 2 (fun p => { p with starting := true }))), ⟨2000000, 6000000000⟩, _, 2, rfl, by decide,
    rfl⟩,
    ⟨wSt (((((wKz .ready).modPwr 1 (fun p => { p with state := .run })).modPwr 4 (fun p => { p with
      state := .idle,
      draining := true })).modPwr 2 (fun p => { p with starting := true })) |>.modErr 4 (fun e => { e with
      restarting := true })), ⟨2000000, 6000000000⟩, _, 4, rfl, by decide, by decide, rfl, rfl⟩,
    ⟨wSt (((((wKz .acquire).modPwr 1 (fun p => { p with state := .run })).modPwr 4 (fun p => { p with
      state := .idle,
      draining := true })).modPwr 2 (fun p => { p with starting := true })) |>.modErr 1 (fun e => { e with
      restarting := true,
      lastCause := 1,
      times := [5] })), ⟨2000000, 6000000000⟩, _, 1, rfl, by decide, by decide, rfl, rfl⟩,
    ⟨wSt (((((wKz .acquire).modPwr 1 (fun p => { p with state := .run })).modPwr 4 (fun p => { p with
      state := .idle,
      draining := true })).modPwr 2 (fun p => { p with starting := true }))), ⟨2000000, 6000000000⟩, _, 1, rfl, by decide,
    by decide, rfl⟩,
    ⟨wSt (((((wKz .acquire).modPwr 1 (fun p => { p with state := .run })).modPwr 4 (fun p => { p with
      state := .idle,
      draining := true })).modPwr 2 (fun p => { p with starting := true })) |>.modErr 1 (fun e => { e with
      restarting := true,
      lastCause := 3,
      times := [5994000000] })), ⟨2000000, 6000000000⟩, _, 1, rfl, by decide, rfl, rfl, by decide⟩,
    ⟨wSt (((((wKz .acquire).modPwr 1 (fun p => { p with state := .run })).modPwr 4 (fun p => { p with
      state := .idle,
      draining := true })).modPwr 2 (fun p => { p with starting := true })) |>.modErr 1 (fun e => { e with
      restarting := true,
      lastCause := 3,
      times := [5994000001] })), ⟨2000000, 6000000000⟩, _, 1, rfl, by decide, by decide⟩⟩

/-- Witness of the hypotheses of ScrubbedMemory. -/
theorem witness_ScrubbedMemory :
  (∃ (s : State) (t : Stamp) (m : Kz), s.kz.advance t = m ∧ Quiet m) ∧
  (∃ (s : State) (t : Stamp) (m : Kz) (site : Site), s.kz.advance t = m ∧ Quiet m ∧ (powered m.pwr.state = false ∨
    sitePowered m site = false)) ∧
  (∃ (s : State) (t : Stamp) (m : Kz) (k : Rgn), s.kz.advance t = m ∧ Quiet m ∧ powered m.pwr.state = true ∧ m.rstate k.val
    ≠ .down) ∧
  (∃ (s : State) (t : Stamp) (m : Kz) (site : Site) (k : Rgn), s.kz.advance t = m ∧ Quiet m ∧ powered m.pwr.state = true ∧
    sitePowered m site = true ∧ site ≠ .regionSram k ∧ (∀ z : Rgn, site ≠ .regionSram z)) ∧
  (∃ (s : State) (t : Stamp) (m : Kz) (k : Rgn), s.kz.advance t = m ∧ Quiet m ∧ powered m.pwr.state = true ∧ m.rstate k.val
    ≠ .down) ∧
  (∃ (s : State) (t : Stamp) (m : Kz), s.kz.advance t = m ∧ Quiet m ∧ powered m.pwr.state = true) ∧
  (∃ (s : State) (t : Stamp) (m : Kz), s.kz.advance t = m ∧ Quiet m ∧ powered m.pwr.state = true) ∧
  (∃ (s : State) (t : Stamp) (m : Kz) (c : Chan), s.kz.advance t = m ∧ Quiet m ∧ powered m.pwr.state = true ∧ m.rstate
    (c.val / 16) ≠ .down ∧ (m.chan c.val).eng.state = .running) ∧
  (∃ (s : State) (t : Stamp) (m : Kz) (c : Chan), s.kz.advance t = m ∧ Quiet m ∧ powered m.pwr.state = true ∧ m.rstate
    (c.val / 16) ≠ .down ∧ (m.chan c.val).eng.state ≠ .running) ∧
  (∃ (s : State) (t : Stamp) (m : Kz) (c : Chan), s.kz.advance t = m ∧ Quiet m ∧ powered m.pwr.state = true ∧ m.rstate
    (c.val / 16) ≠ .down) ∧
  (∃ (s : State) (t : Stamp) (m : Kz) (c : Chan), s.kz.advance t = m ∧ Quiet m ∧ powered m.pwr.state = true ∧ m.rstate
    (c.val / 16) ≠ .down) ∧
  (∃ (s : State) (t : Stamp) (m : Kz) (c : Chan), s.kz.advance t = m ∧ Quiet m ∧ powered m.pwr.state = true ∧ m.rstate
    (c.val / 16) ≠ .down) ∧
  (∃ (s : State) (t : Stamp) (m : Kz), s.kz.advance t = m ∧ Quiet m ∧ powered m.pwr.state = true) ∧
  (∃ (s : State) (t : Stamp) (m : Kz), s.kz.advance t = m ∧ Quiet m ∧ powered m.pwr.state = true) :=
  ⟨
    ⟨wSt ((((wKz .ready).modPwr 1 (fun p => { p with state := .run })).modPwr 4 (fun p => { p with state := .idle }))),
    ⟨2000000, 6000000000⟩, _, rfl, by decide⟩,
    ⟨wSt ((((wKz .ready).modPwr 1 (fun p => { p with state := .run })).modPwr 4 (fun p => { p with state := .idle }))),
    ⟨2000000, 6000000000⟩, _, .engine 33, rfl, by decide⟩,
    ⟨wSt ((((wKz .ready).modPwr 1 (fun p => { p with state := .run })).modPwr 4 (fun p => { p with state := .idle }))),
    ⟨2000000, 6000000000⟩, _, 1, rfl, by decide⟩,
    ⟨wSt ((((wKz .ready).modPwr 1 (fun p => { p with state := .run })).modPwr 4 (fun p => { p with state := .idle }))),
    ⟨2000000, 6000000000⟩, _, .hubSram, 1, rfl, by decide⟩,
    ⟨wSt ((((wKz .ready).modPwr 1 (fun p => { p with state := .run })).modPwr 4 (fun p => { p with state := .idle }))),
    ⟨2000000, 6000000000⟩, _, 1, rfl, by decide⟩,
    ⟨wSt ((((wKz .ready).modPwr 1 (fun p => { p with state := .run })).modPwr 4 (fun p => { p with state := .idle }))),
    ⟨2000000, 6000000000⟩, _, rfl, by decide⟩,
    ⟨wSt ((((wKz .ready).modPwr 1 (fun p => { p with state := .run })).modPwr 4 (fun p => { p with state := .idle }))),
    ⟨2000000, 6000000000⟩, _, rfl, by decide⟩,
    ⟨wSt ((((wKz .ready).modPwr 1 (fun p => { p with state := .run })).modPwr 4 (fun p => { p with state := .idle }))
    |>.modEng 17 (fun e => { e with state := .running })), ⟨2000000, 6000000000⟩, _, 17, rfl, by decide⟩,
    ⟨wSt ((((wKz .ready).modPwr 1 (fun p => { p with state := .run })).modPwr 4 (fun p => { p with state := .idle }))),
    ⟨2000000, 6000000000⟩, _, 17, rfl, by decide⟩,
    ⟨wSt ((((wKz .ready).modPwr 1 (fun p => { p with state := .run })).modPwr 4 (fun p => { p with state := .idle }))),
    ⟨2000000, 6000000000⟩, _, 17, rfl, by decide⟩,
    ⟨wSt ((((wKz .ready).modPwr 1 (fun p => { p with state := .run })).modPwr 4 (fun p => { p with state := .idle }))),
    ⟨2000000, 6000000000⟩, _, 17, rfl, by decide⟩,
    ⟨wSt ((((wKz .ready).modPwr 1 (fun p => { p with state := .run })).modPwr 4 (fun p => { p with state := .idle }))
    |>.modChan 17 (fun x => { x with avg := { x.avg with sums := [3], count := 4 } })), ⟨2000000, 6000000000⟩, _, 17, rfl,
    by decide⟩,
    ⟨wSt ((((wKz .ready).modPwr 1 (fun p => { p with state := .run })).modPwr 4 (fun p => { p with state := .idle }))),
    ⟨2000000, 6000000000⟩, _, rfl, by decide⟩,
    ⟨wSt ((((wKz .ready).modPwr 1 (fun p => { p with state := .run })).modPwr 4 (fun p => { p with state := .idle }))),
    ⟨2000000, 6000000000⟩, _, rfl, by decide⟩⟩

/-- Witness of the hypotheses of VotedRegistersAndFatalErrors. -/
theorem witness_VotedRegistersAndFatalErrors :
  (∃ (s : State) (t : Stamp) (m : Kz) (a : Word) (b : Word) (c : Word) (r : Reg) (x : Word), s.kz.advance t = m ∧ powered
    m.pwr.state = true ∧ Quiet m ∧ regAt x.toNat = some r ∧ r.kind.info.voted ≠ 0 ∧ (a &&& (BitVec.ofNat 32
    r.kind.info.voted) = b &&& (BitVec.ofNat 32 r.kind.info.voted) ∨ a &&& (BitVec.ofNat 32 r.kind.info.voted) = c &&&
    (BitVec.ofNat 32 r.kind.info.voted))) ∧
  (∃ (s : State) (t : Stamp) (m : Kz) (a : Word) (b : Word) (c : Word) (r : Reg) (x : Word), s.kz.advance t = m ∧ powered
    m.pwr.state = true ∧ Quiet m ∧ regAt x.toNat = some r ∧ r.kind.info.voted ≠ 0 ∧ b &&& (BitVec.ofNat 32
    r.kind.info.voted) = c &&& (BitVec.ofNat 32 r.kind.info.voted) ∧ a &&& (BitVec.ofNat 32 r.kind.info.voted) ≠ b &&&
    (BitVec.ofNat 32 r.kind.info.voted)) ∧
  (∃ (s : State) (t : Stamp) (m : Kz) (a : Word) (b : Word) (c : Word) (r : Reg) (x : Word), s.kz.advance t = m ∧ powered
    m.pwr.state = true ∧ Quiet m ∧ regAt x.toNat = some r ∧ r.kind.info.voted ≠ 0 ∧ a &&& (BitVec.ofNat 32
    r.kind.info.voted) ≠ b &&& (BitVec.ofNat 32 r.kind.info.voted) ∧ a &&& (BitVec.ofNat 32 r.kind.info.voted) ≠ c &&&
    (BitVec.ofNat 32 r.kind.info.voted) ∧ b &&& (BitVec.ofNat 32 r.kind.info.voted) ≠ c &&& (BitVec.ofNat 32
    r.kind.info.voted) ∧ r.kind.info.win = .channel) ∧
  (∃ (s : State) (t : Stamp) (m : Kz) (a : Word) (b : Word) (c : Word) (r : Reg) (x : Word), s.kz.advance t = m ∧ powered
    m.pwr.state = true ∧ Quiet m ∧ regAt x.toNat = some r ∧ r.kind.info.voted ≠ 0 ∧ a &&& (BitVec.ofNat 32
    r.kind.info.voted) ≠ b &&& (BitVec.ofNat 32 r.kind.info.voted) ∧ a &&& (BitVec.ofNat 32 r.kind.info.voted) ≠ c &&&
    (BitVec.ofNat 32 r.kind.info.voted) ∧ b &&& (BitVec.ofNat 32 r.kind.info.voted) ≠ c &&& (BitVec.ofNat 32
    r.kind.info.voted) ∧ r.kind.info.win = .region ∧ m.rstate (r.inst / r.kind.info.cnt) ≠ .down ∧ (m.rgn (r.inst /
    r.kind.info.cnt)).err.restarting = false) ∧
  (∃ (s : State) (t : Stamp) (m : Kz) (a : Word) (b : Word) (c : Word) (r : Reg) (x : Word), s.kz.advance t = m ∧ powered
    m.pwr.state = true ∧ Quiet m ∧ regAt x.toNat = some r ∧ r.kind.info.voted ≠ 0 ∧ a &&& (BitVec.ofNat 32
    r.kind.info.voted) ≠ b &&& (BitVec.ofNat 32 r.kind.info.voted) ∧ a &&& (BitVec.ofNat 32 r.kind.info.voted) ≠ c &&&
    (BitVec.ofNat 32 r.kind.info.voted) ∧ b &&& (BitVec.ofNat 32 r.kind.info.voted) ≠ c &&& (BitVec.ofNat 32
    r.kind.info.voted) ∧ r.kind.info.win = .module) ∧
  (∃ (s : State) (t : Stamp) (m : Kz) (r : Reg) (x : Word), s.kz.advance t = m ∧ Quiet m ∧ (powered m.pwr.state = false ∨
    r.kind.info.voted = 0) ∧ regAt x.toNat = some r) ∧
  (∃ (s : State) (t : Stamp) (m : Kz), s.kz.advance t = m ∧ Quiet m ∧ (m.pwr.state = .standby ∨ m.pwr.state = .ready ∨
    m.pwr.state = .acquire)) ∧
  (∃ (s : State) (t : Stamp) (m : Kz), s.kz.advance t = m ∧ Quiet m ∧ m.pwr.state = .hold) ∧
  (∃ (s : State) (t : Stamp) (m : Kz), s.kz.advance t = m ∧ Quiet m ∧ (m.pwr.state = .boot ∨ m.pwr.state = .recovery)) ∧
  (∃ (s : State) (t : Stamp) (m : Kz), s.kz.advance t = m ∧ Quiet m ∧ m.pwr.state = .off) :=
  ⟨
    ⟨wSt ((((wKz .ready).modPwr 1 (fun p => { p with state := .run })).modPwr 4 (fun p => { p with state := .idle }))),
    ⟨2000000, 6000000000⟩, _, 0xFF, 0xFF, 0x7F, ⟨.CH_TRIG_CTRL, 17⟩, BitVec.ofNat 32 (RegKind.addr .CH_TRIG_CTRL 17), rfl,
    by decide⟩,
    ⟨wSt ((((wKz .ready).modPwr 1 (fun p => { p with state := .run })).modPwr 4 (fun p => { p with state := .idle }))),
    ⟨2000000, 6000000000⟩, _, 0xFF, 0xF, 0xF, ⟨.CH_TRIG_CTRL, 17⟩, BitVec.ofNat 32 (RegKind.addr .CH_TRIG_CTRL 17), rfl, by
    decide⟩,
    ⟨wSt ((((wKz .ready).modPwr 1 (fun p => { p with state := .run })).modPwr 4 (fun p => { p with state := .idle }))),
    ⟨2000000, 6000000000⟩, _, 0x100, 0x140, 0x180, ⟨.CH_TRIG_CTRL, 17⟩, BitVec.ofNat 32 (RegKind.addr .CH_TRIG_CTRL 17),
    rfl, by decide⟩,
    ⟨wSt ((((wKz .ready).modPwr 1 (fun p => { p with state := .run })).modPwr 4 (fun p => { p with state := .idle }))),
    ⟨2000000, 6000000000⟩, _, 0xFF, 0xF, 0x3, ⟨.RGN_PERIODIC, 1⟩, BitVec.ofNat 32 (RegKind.addr .RGN_PERIODIC 1), rfl, by
    decide⟩,
    ⟨wSt ((((wKz .ready).modPwr 1 (fun p => { p with state := .run })).modPwr 4 (fun p => { p with state := .idle }))),
    ⟨2000000, 6000000000⟩, _, 0xFF, 0xF, 0x3, ⟨.TIM_HEARTH_TRIM, 0⟩, BitVec.ofNat 32 (RegKind.addr .TIM_HEARTH_TRIM 0), rfl,
    by decide⟩,
    ⟨wSt ((((wKz .ready).modPwr 1 (fun p => { p with state := .run })).modPwr 4 (fun p => { p with state := .idle }))),
    ⟨2000000, 6000000000⟩, _, ⟨.TIM_STAT, 0⟩, BitVec.ofNat 32 (RegKind.addr .TIM_STAT 0), rfl, by decide⟩,
    ⟨wSt ((((wKz .acquire).modPwr 1 (fun p => { p with state := .run })).modPwr 4 (fun p => { p with state := .idle }))),
    ⟨2000000, 6000000000⟩, _, rfl, by decide⟩,
    ⟨wSt ((((wKz .hold).modPwr 1 (fun p => { p with state := .run })).modPwr 4 (fun p => { p with state := .idle }))),
    ⟨2000000, 6000000000⟩, _, rfl, by decide⟩,
    ⟨wSt ((((wKz .recovery).modPwr 1 (fun p => { p with state := .run })).modPwr 4 (fun p => { p with state := .idle }))),
    ⟨2000000, 6000000000⟩, _, rfl, by decide⟩,
    ⟨wSt ((((wKz .off).modPwr 1 (fun p => { p with state := .run })).modPwr 4 (fun p => { p with state := .idle }))),
    ⟨2000000, 6000000000⟩, _, rfl, by decide⟩⟩

/-- Witness of the hypotheses of StatisticsPeriods. -/
theorem witness_StatisticsPeriods :
  (∃ (s : State) (t : Stamp) (m : Kz), s.kz.advance t = m ∧ powered m.pwr.state = true ∧ m.fld F.MOD_STAT_CTRL.TIMER_MS 0 ≠
    0 ∧ m.stats.timerFrom + (m.fld F.MOD_STAT_CTRL.TIMER_MS 0) * 1000000 ≤ m.now.ns ∧ BoundarySource.timer ∉ m.stats.raised
    ∧ (∀ z ∈ m.stats.due, z.2 ≠ BoundarySource.timer)) ∧
  (∃ (s : State) (t : Stamp) (m : Kz), s.kz.advance t = m ∧ (powered m.pwr.state = false ∨ m.fld F.MOD_STAT_CTRL.TIMER_MS 0
    = 0 ∨ m.now.ns < m.stats.timerFrom + m.fld F.MOD_STAT_CTRL.TIMER_MS 0 * 1000000 ∨ BoundarySource.timer ∈ m.stats.raised)) ∧
  (∃ (s : State) (t : Stamp) (m : Kz) (p : Port) (v : Word), s.kz.advance t = m ∧ Accepts m p .MOD_STAT_CTRL 0 v ∧
    F.MOD_STAT_CTRL.TIMER_MS.of v ≠ 0 ∧ m.stats.timerFrom + F.MOD_STAT_CTRL.TIMER_MS.of v * 1000000 ≤ m.now.ns ∧
    BoundarySource.timer ∉ m.stats.raised ∧ (∀ z ∈ m.stats.due, z.2 ≠ BoundarySource.timer)) ∧
  (∃ (s : State) (t : Stamp) (m : Kz) (p : Port) (v : Word), s.kz.advance t = m ∧ Accepts m p .MOD_STAT_CTRL 0 v ∧
    (F.MOD_STAT_CTRL.TIMER_MS.of v = 0 ∨ m.now.ns < m.stats.timerFrom + F.MOD_STAT_CTRL.TIMER_MS.of v * 1000000)) ∧
  (∃ (s : State) (t : Stamp) (m : Kz) (fb : Nat) (x : BoundarySource) (l : List (Nat × BoundarySource)), s.kz.advance t = m
    ∧ Quiet m ∧ m.stats.due = (fb, x) :: l ∧ fb ≤ m.fabric ∧ tooSoon m fb = false ∧ m.stats.period < 2 ^ 32 ∧
    Sparse.sortedFrom 0 m.stats.live = true ∧ m.stats.early = [] ∧ lateFor m fb = []) ∧
  (∃ (s : State) (t : Stamp) (m : Kz) (fb : Nat) (x : BoundarySource) (l : List (Nat × BoundarySource)), s.kz.advance t = m
    ∧ Quiet m ∧ m.stats.due = (fb, x) :: l ∧ fb ≤ m.fabric ∧ tooSoon m fb = true ∧ x ≠ .host ∧ m.stats.early = [] ∧
    m.stats.hostWait = none) ∧
  (∃ (s : State) (t : Stamp) (m : Kz) (fb : Nat) (x : BoundarySource) (l : List (Nat × BoundarySource)), s.kz.advance t = m
    ∧ Quiet m ∧ (m.stats.due = [] ∨ m.stats.due = (fb, x) :: l ∧ m.fabric < fb)) ∧
  (∃ (s : State) (t : Stamp) (m : Kz), s.kz.advance t = m ∧ Quiet m ∧ m.stats.busy = true ∧ m.stats.hostWait = none) ∧
  (∃ (s : State) (t : Stamp) (m : Kz) (p : Port) (q : Running) (x : Bool), s.kz.advance t = m ∧ Quiet m ∧ m.stats.busy =
    true ∧ m.stats.hostWait = some x ∧ (m.port p.val).session.running = some q ∧ q.wait = .boundary) ∧
  (∃ (s : State) (t : Stamp) (m : Kz), s.kz.advance t = m ∧ Quiet m ∧ m.stats.busy = false) ∧
  (∃ (s : State) (t : Stamp) (m : Kz), s.kz.advance t = m ∧ powered m.pwr.state = true ∧ m.log.archiveNext < 2 ^ 32) ∧
  (∃ (s : State) (t : Stamp) (m : Kz), s.kz.advance t = m ∧ powered m.pwr.state = true) ∧
  (∃ (s : State) (t : Stamp) (m : Kz), s.kz.advance t = m ∧ powered m.pwr.state = false) :=
  ⟨
    ⟨wSt ((((wKz .acquire).modPwr 1 (fun p => { p with state := .run })).modPwr 4 (fun p => { p with state := .idle })).setFld
    F.MOD_STAT_CTRL.TIMER_MS 0 1000|> fun m => { m with
      stats := { m.stats with timerFrom := 5000000000, due := [(5, .fast)] } }), ⟨2000000, 6000000000⟩, _, rfl, rfl, by
    decide, by decide, by decide, by decide⟩,
    ⟨wSt ((((wKz .acquire).modPwr 1 (fun p => { p with state := .run })).modPwr 4 (fun p => { p with state := .idle })).setFld
    F.MOD_STAT_CTRL.TIMER_MS 0 1000|> fun m => { m with stats := { m.stats with timerFrom := 5000000001 } }), ⟨2000000,
    6000000000⟩, _, rfl, by decide⟩,
    ⟨wSt ((((wKz .acquire).modPwr 1 (fun p => { p with state := .run })).modPwr 4 (fun p => { p with state := .idle }))|>
    fun m => { m with stats := { m.stats with timerFrom := 5000000000 } }), ⟨2000000, 6000000000⟩, _, 0, BitVec.ofNat 32
    (F.MOD_STAT_CTRL.TIMER_MS.put 900), rfl, by decide, by decide, by decide, by decide, by decide⟩,
    ⟨wSt ((((wKz .acquire).modPwr 1 (fun p => { p with state := .run })).modPwr 4 (fun p => { p with state := .idle }))|>
    fun m => { m with stats := { m.stats with timerFrom := 5000000000 } }), ⟨2000000, 6000000000⟩, _, 0, BitVec.ofNat 32
    (F.MOD_STAT_CTRL.TIMER_MS.put 1001), rfl, by decide, by decide⟩,
    ⟨wSt ((((wKz .acquire).modPwr 1 (fun p => { p with state := .run })).modPwr 4 (fun p => { p with state := .idle }))|>
    fun m => { m with
      stats := { m.stats with
          due := [(124000, .timer)],
          period := 4294967295,
          live := [(260, { val := 7, sat := true }), (16777216, { val := 3 })] } }), ⟨2000000, 6000000000⟩, _, 124000,
    .timer, ([] : List (Nat × BoundarySource)), rfl, by decide, rfl, by decide, rfl, by decide, rfl, rfl, rfl⟩,
    ⟨wSt ((((wKz .acquire).modPwr 1 (fun p => { p with state := .run })).modPwr 4 (fun p => { p with state := .idle }))|>
    fun m => { m with
      stats := { m.stats with due := [(124000, .timer)], lastFb := some 92001, live := [(260, { val := 7, sat := true })] } }),
    ⟨2000000, 6000000000⟩, _, 124000, .timer, ([] : List (Nat × BoundarySource)), rfl, by decide, rfl, by decide, rfl, by
    decide, rfl, rfl⟩,
    ⟨wSt ((((wKz .acquire).modPwr 1 (fun p => { p with state := .run })).modPwr 4 (fun p => { p with state := .idle }))|>
    fun m => { m with stats := { m.stats with due := [(125001, .fast)], skipped := 1 } }), ⟨2000000, 6000000000⟩, _, 125001,
    .fast, ([] : List (Nat × BoundarySource)), rfl, by decide, by decide⟩,
    ⟨wSt ((((wKz .acquire).modPwr 1 (fun p => { p with state := .run })).modPwr 4 (fun p => { p with state := .idle }))|>
    fun m => { m with stats := { m.stats with busy := true, snap := [(260, { val := 7 })] } }), ⟨2000000, 6000000000⟩, _,
    rfl, by decide, rfl, rfl⟩,
    ⟨wSt ((((wKz .acquire).modPwr 1 (fun p => { p with state := .run })).modPwr 4 (fun p => { p with state := .idle }))|>
    fun m => { m with stats := { m.stats with busy := true, ended := 77, hostWait := some true } }|>.modSess 0 (fun q => { q with
      running := some { seq := 4, tag := 9, req := .statBoundary, via := {}, wait := .boundary, body := [], from_ := 0 } })),
    ⟨2000000, 6000000000⟩, _, 0, {
      seq := 4,
      tag := 9,
      req := .statBoundary,
      via := {},
      wait := .boundary,
      body := [],
      from_ := 0 }, true, rfl, by decide, rfl, rfl, rfl, rfl⟩,
    ⟨wSt ((((wKz .acquire).modPwr 1 (fun p => { p with state := .run })).modPwr 4 (fun p => { p with state := .idle }))),
    ⟨2000000, 6000000000⟩, _, rfl, by decide, rfl⟩,
    ⟨wSt ((((wKz .acquire).modPwr 1 (fun p => { p with state := .run })).modPwr 4 (fun p => { p with state := .idle }))|>
    fun m => { m with log := { m.log with archiveNext := 4294967295, since := [(0x0701, 2, 5), (0x0502, 1, 6)] } }),
    ⟨2000000, 6000000000⟩, _, rfl, rfl, by decide⟩,
    ⟨wSt ((((wKz .acquire).modPwr 1 (fun p => { p with state := .run })).modPwr 4 (fun p => { p with state := .idle }))),
    ⟨2000000, 6000000000⟩, _, rfl, rfl⟩,
    ⟨wSt ((((wKz .off).modPwr 1 (fun p => { p with state := .run })).modPwr 4 (fun p => { p with state := .idle }))),
    ⟨2000000, 6000000000⟩, _, rfl, rfl⟩⟩

set_option maxRecDepth 20000 in
/-- Witness of the hypotheses of AgeingMonitors. -/
theorem witness_AgeingMonitors :
  (∃ (s : State) (t : Stamp) (m : Kz) (k : Rgn), s.kz.advance t = m ∧ powered m.pwr.state = true ∧ m.rstate k.val ≠ .down ∧
    (m.rgn k.val).age.deg.length = 4) ∧
  (∃ (s : State) (t : Stamp) (m : Kz) (k : Rgn), s.kz.advance t = m ∧ (powered m.pwr.state = false ∨ m.rstate k.val = .down)) ∧
  (∃ (s : State) (t : Stamp) (m : Kz) (k : Rgn), s.kz.advance t = m ∧ powered m.pwr.state = true ∧ m.rstate k.val ≠ .down ∧
    bankSum m k.val < 128) ∧
  (∃ (s : State) (t : Stamp) (m : Kz) (k : Rgn), s.kz.advance t = m ∧ powered m.pwr.state = true ∧ m.rstate k.val ≠ .down ∧
    bankSum m k.val < 128) ∧
  (∃ (s : State) (t : Stamp) (m : Kz) (k : Rgn), s.kz.advance t = m ∧ powered m.pwr.state = true ∧ m.rstate k.val ≠ .down ∧
    128 ≤ bankSum m k.val) ∧
  (∃ (s : State) (t : Stamp) (m : Kz) (k : Rgn), s.kz.advance t = m ∧ (powered m.pwr.state = false ∨ m.rstate k.val = .down)) ∧
  (∃ (s : State) (t : Stamp) (m : Kz), s.kz.advance t = m ∧ powered m.pwr.state = true ∧ m.age.dose.length = 5) ∧
  (∃ (s : State) (t : Stamp) (m : Kz), s.kz.advance t = m ∧ powered m.pwr.state = true ∧ m.age.dose.length = 5) ∧
  (∃ (s : State) (t : Stamp) (m : Kz) (k : Rgn), s.kz.advance t = m ∧ powered m.pwr.state = true ∧ m.rstate k.val ≠ .down ∧
    (usable m (0x32 + k.val) true).isSome = true ∧ (m.rgn k.val).age.benchCount ≠ 0) ∧
  (∃ (s : State) (t : Stamp) (m : Kz), s.kz.advance t = m ∧ powered m.pwr.state = true) ∧
  (∃ (s : State) (t : Stamp) (m : Kz), s.kz.advance t = m ∧ powered m.pwr.state = false) :=
  ⟨
    ⟨wSt ((((wKz .ready).modPwr 1 (fun p => { p with state := .run, nowMv := 780 })).modPwr 4 (fun p => { p with
      state := .idle,
      nowMv := 760 }))), ⟨2000000, 6000000000⟩, _, 1, rfl, rfl, by decide, rfl⟩,
    ⟨wSt ((((wKz .ready).modPwr 1 (fun p => { p with state := .run, nowMv := 780 })).modPwr 4 (fun p => { p with
      state := .idle,
      nowMv := 760 }))), ⟨2000000, 6000000000⟩, _, 2, rfl, by decide⟩,
    ⟨wSt ((((wKz .ready).modPwr 1 (fun p => { p with state := .run, nowMv := 780 })).modPwr 4 (fun p => { p with
      state := .idle,
      nowMv := 760 })).setFld F.CH_MEM_CTRL.BANKS 16 0), ⟨2000000, 6000000000⟩, _, 1, rfl, rfl, by decide, by decide⟩,
    ⟨wSt ((((wKz .ready).modPwr 1 (fun p => { p with state := .run, nowMv := 780 })).modPwr 4 (fun p => { p with
      state := .idle,
      nowMv := 760 })).setFld F.CH_MEM_CTRL.BANKS 16 0), ⟨2000000, 6000000000⟩, _, 1, rfl, rfl, by decide, by decide⟩,
    ⟨wSt ((((wKz .ready).modPwr 1 (fun p => { p with state := .run, nowMv := 780 })).modPwr 4 (fun p => { p with
      state := .idle,
      nowMv := 760 })).setFld F.CH_MEM_CTRL.BANKS 16 64|>.setFld F.CH_MEM_CTRL.BANKS 17 64), ⟨2000000, 6000000000⟩, _, 1,
    rfl, rfl, by decide, by decide⟩,
    ⟨wSt ((((wKz .ready).modPwr 1 (fun p => { p with state := .run, nowMv := 780 })).modPwr 4 (fun p => { p with
      state := .idle,
      nowMv := 760 }))), ⟨2000000, 6000000000⟩, _, 2, rfl, by decide⟩,
    ⟨wSt ((((wKz .ready).modPwr 1 (fun p => { p with state := .run, nowMv := 780 })).modPwr 4 (fun p => { p with
      state := .idle,
      nowMv := 760 })) |>.modRgn 1 (fun r => { r with age := { r.age with benchSum := 5, benchCount := 1 } })), ⟨2000000,
    6000000000⟩, _, rfl, rfl, rfl⟩,
    ⟨wSt ((((wKz .ready).modPwr 1 (fun p => { p with state := .run, nowMv := 780 })).modPwr 4 (fun p => { p with
      state := .idle,
      nowMv := 760 }))), ⟨2000000, 6000000000⟩, _, rfl, rfl, rfl⟩,
    ⟨wSt ((((wKz .ready).modPwr 1 (fun p => { p with state := .run, nowMv := 780 })).modPwr 4 (fun p => { p with
      state := .idle,
      nowMv := 760 })) |>.modRgn 1 (fun r => { r with age := { r.age with benchSum := 62913, benchCount := 1 } }) |> fun m
    => { m with
      hk := { m.hk with
          a := { m.hk.a with
              res := [(0, {
                  tseq := 0,
                  valid := true,
                  unsettled := false,
                  ovr := false,
                  outside := false,
                  code := 5,
                  ent := BitVec.ofNat 32 (F.HK_A_ENT.INPUT.put 0x33),
                  at_ := 5999999999,
                  nominal := 2500,
                  ref := 0 })] } } }), ⟨2000000, 6000000000⟩, _, 1, rfl, rfl, by decide, rfl, by decide⟩,
    ⟨wSt ((((wKz .ready).modPwr 1 (fun p => { p with state := .run, nowMv := 780 })).modPwr 4 (fun p => { p with
      state := .idle,
      nowMv := 760 }))|>.modTb (fun b => { b with tb := .tracking, oven := .warm })), ⟨2000000, 6000000000⟩, _, rfl, rfl⟩,
    ⟨wSt ((((wKz .off).modPwr 1 (fun p => { p with state := .run, nowMv := 780 })).modPwr 4 (fun p => { p with
      state := .idle,
      nowMv := 760 }))), ⟨2000000, 6000000000⟩, _, rfl, rfl⟩⟩

set_option maxRecDepth 20000 in
/-- Witness of the hypotheses of PolicyActions. -/
theorem witness_PolicyActions :
  (∃ (s : State) (t : Stamp) (m : Kz) (k : Rgn) (u : Nat) (y : Nat), s.kz.advance t = m ∧ policyRuns m = true ∧ (m.rstate
    k.val = .idle ∨ m.rstate k.val = .cal ∨ m.rstate k.val = .run) ∧ (m.rgn k.val).err.restarting = false ∧ m.on
    F.MOD_AGE_CTRL.EN_RAIL 0 = true ∧ m.seen F.RGN_AGE_STAT.OVR_RAIL k.val = 0 ∧ railRule m k.val = some u ∧ railInside m
    k.val (max 720 (min 850 u)) = some y ∧ y = m.fld F.RGN_RAIL.TARGET_MV k.val) ∧
  (∃ (s : State) (t : Stamp) (m : Kz) (k : Rgn) (u : Nat) (y : Nat), s.kz.advance t = m ∧ policyRuns m = true ∧ (m.rstate
    k.val = .idle ∨ m.rstate k.val = .cal ∨ m.rstate k.val = .run) ∧ (m.rgn k.val).err.restarting = false ∧ m.on
    F.MOD_AGE_CTRL.EN_RAIL 0 = true ∧ m.seen F.RGN_AGE_STAT.OVR_RAIL k.val = 0 ∧ railRule m k.val = some u ∧ railInside m
    k.val (max 720 (min 850 u)) = some y ∧ y ≠ m.fld F.RGN_RAIL.TARGET_MV k.val ∧ (spreadFrom m k.val (if m.fld
    F.RGN_RAIL.TARGET_MV k.val < y then min y (m.fld F.RGN_RAIL.TARGET_MV k.val + 5) else max y (m.fld F.RGN_RAIL.TARGET_MV
    k.val - 5)) = none) ∧ 720 ≤ m.fld F.RGN_RAIL.TARGET_MV k.val ∧ m.fld F.RGN_RAIL.TARGET_MV k.val ≤ 850 ∧ m.fld
    F.RGN_RAIL.TARGET_MV k.val % 5 = 0) ∧
  (∃ (s : State) (t : Stamp) (m : Kz) (k : Rgn), s.kz.advance t = m ∧ (policyRuns m = false ∨ m.on F.MOD_AGE_CTRL.EN_RAIL 0
    = false ∨ m.seen F.RGN_AGE_STAT.OVR_RAIL k.val ≠ 0 ∨ m.rstate k.val = .down ∨ m.rstate k.val = .hold ∨ (m.rgn
    k.val).err.restarting = true ∨ railRule m k.val = none)) ∧
  (∃ (s : State) (t : Stamp) (m : Kz) (k : Rgn) (ro : Nat) (rg : Nat), s.kz.advance t = m ∧ policyRuns m = true ∧ m.inRun
    k.val = true ∧ (m.rgn k.val).err.restarting = false ∧ m.on F.MOD_AGE_CTRL.EN_STEP 0 = true ∧ m.seen
    F.RGN_AGE_STAT.OVR_STEP k.val = 0 ∧ (0 < ro ∨ 0 < rg)) ∧
  (∃ (s : State) (t : Stamp) (m : Kz) (k : Rgn), s.kz.advance t = m ∧ policyRuns m = true ∧ m.inRun k.val = true ∧ (m.rgn
    k.val).err.restarting = false ∧ m.on F.MOD_AGE_CTRL.EN_STEP 0 = true ∧ m.seen F.RGN_AGE_STAT.OVR_STEP k.val = 0) ∧
  (∃ (s : State) (t : Stamp) (m : Kz) (k : Rgn), s.kz.advance t = m ∧ (policyRuns m = false ∨ m.inRun k.val = false ∨ (m.rgn
    k.val).err.restarting = true ∨ m.on F.MOD_AGE_CTRL.EN_STEP 0 = false ∨ m.seen F.RGN_AGE_STAT.OVR_STEP k.val ≠ 0)) ∧
  (∃ (s : State) (t : Stamp) (m : Kz) (mean1 : Option Nat), s.kz.advance t = m ∧ policyRuns m = true ∧ m.on
    F.MOD_AGE_CTRL.EN_OVEN 0 = true ∧ m.seen F.MOD_AGE_STAT.OVR_OVEN 0 = 0 ∧ m.regionsBusy = false ∧ mean1.any (fun x =>
    decide (x < 100)) = true ∧ m.fld F.TIM_OVEN.SETPOINT 0 < 2) ∧
  (∃ (s : State) (t : Stamp) (m : Kz) (mean1 : Option Nat) (mean24 : Option Nat), s.kz.advance t = m ∧ policyRuns m = true ∧
    m.on F.MOD_AGE_CTRL.EN_OVEN 0 = true ∧ m.seen F.MOD_AGE_STAT.OVR_OVEN 0 = 0 ∧ m.regionsBusy = false ∧ m.age.unregAt = []
    ∧ mean1.any (fun x => decide (x < 100)) = false ∧ mean24.any (fun x => decide (3000 < x)) = true ∧ m.fld
    F.TIM_OVEN.SETPOINT 0 ≠ 0) ∧
  (∃ (s : State) (t : Stamp) (m : Kz) (mean1 : Option Nat), s.kz.advance t = m ∧ policyRuns m = true ∧ m.on
    F.MOD_AGE_CTRL.EN_OVEN 0 = true ∧ m.seen F.MOD_AGE_STAT.OVR_OVEN 0 = 0 ∧ m.regionsBusy = true ∧ mean1.any (fun x =>
    decide (x < 100)) = true ∧ m.fld F.TIM_OVEN.SETPOINT 0 < 2) ∧
  (∃ (s : State) (t : Stamp) (m : Kz) (mean1 : Option Nat) (mean24 : Option Nat), s.kz.advance t = m ∧ policyRuns m = true ∧
    m.on F.MOD_AGE_CTRL.EN_OVEN 0 = true ∧ m.seen F.MOD_AGE_STAT.OVR_OVEN 0 = 0 ∧ m.age.unregAt = [] ∧ mean1.any (fun x =>
    decide (x < 100)) = false ∧ mean24.any (fun x => decide (3000 < x)) = false ∧ m.age.ovenProp = 0) ∧
  (∃ (s : State) (t : Stamp) (m : Kz), s.kz.advance t = m ∧ (policyRuns m = false ∨ m.on F.MOD_AGE_CTRL.EN_OVEN 0 = false ∨
    m.seen F.MOD_AGE_STAT.OVR_OVEN 0 ≠ 0)) ∧
  (∃ (s : State) (t : Stamp) (m : Kz), s.kz.advance t = m ∧ policyRuns m = true ∧ m.on F.MOD_AGE_CTRL.EN_TRIM 0 = true ∧
    m.seen F.MOD_AGE_STAT.OVR_TRIM 0 = 0 ∧ m.age.devNew = true ∧ 500 < m.age.hearthDev.natAbs) ∧
  (∃ (s : State) (t : Stamp) (m : Kz), s.kz.advance t = m ∧ policyRuns m = true ∧ (m.age.devNew = false ∨ m.on
    F.MOD_AGE_CTRL.EN_TRIM 0 = false ∨ m.seen F.MOD_AGE_STAT.OVR_TRIM 0 ≠ 0 ∨ m.age.hearthDev.natAbs ≤ 500)) ∧
  (∃ (s : State) (t : Stamp) (m : Kz), s.kz.advance t = m ∧ policyRuns m = false) ∧
  (∃ (s : State) (t : Stamp) (m : Kz) (p : Port) (v : Word), s.kz.advance t = m ∧ Accepts m p .MOD_AGE_STAT 0 v ∧
    (F.MOD_AGE_STAT.OVR_OVEN.of v = 1 ∨ F.MOD_AGE_STAT.OVR_TRIM.of v = 1)) ∧
  (∃ (s : State) (t : Stamp) (m : Kz) (p : Port) (k : Rgn) (v : Word), s.kz.advance t = m ∧ Accepts m p .RGN_AGE_STAT k.val
    v ∧ (F.RGN_AGE_STAT.OVR_RAIL.of v = 1 ∨ F.RGN_AGE_STAT.OVR_STEP.of v = 1)) :=
  ⟨
    ⟨wSt ((((wKz .ready).modPwr 1 (fun p => { p with state := .run, nowMv := 780 })).modPwr 4 (fun p => { p with
      state := .idle,
      nowMv := 760 })).setFld F.MOD_AGE_CTRL.EN_RAIL 0 1 |>.modPwr 4 (fun p => { p with state := .down }) |>.modRgn 1 (fun r
    => { r with age := { r.age with vmin := 650 } })), ⟨2000000, 6000000000⟩, _, 1, 750, 750, rfl, rfl, by decide, rfl, rfl,
    rfl, rfl, rfl, rfl⟩,
    ⟨wSt ((((wKz .ready).modPwr 1 (fun p => { p with state := .run, nowMv := 780 })).modPwr 4 (fun p => { p with
      state := .idle,
      nowMv := 760 })).setFld F.MOD_AGE_CTRL.EN_RAIL 0 1 |>.modRgn 1 (fun r => { r with age := { r.age with vmin := 712 } })),
    ⟨2000000, 6000000000⟩, _, 1, 815, 815, rfl, rfl, by decide, rfl, rfl, rfl, rfl, rfl, by decide, by decide, by decide, by
    decide, rfl⟩,
    ⟨wSt ((((wKz .ready).modPwr 1 (fun p => { p with state := .run, nowMv := 780 })).modPwr 4 (fun p => { p with
      state := .idle,
      nowMv := 760 })).setFld F.MOD_AGE_CTRL.EN_RAIL 0 1), ⟨2000000, 6000000000⟩, _, 1, rfl, by decide⟩,
    ⟨wSt ((((wKz .acquire).modPwr 1 (fun p => { p with state := .run, nowMv := 780 })).modPwr 4 (fun p => { p with
      state := .idle,
      nowMv := 760 })).setFld F.MOD_AGE_CTRL.EN_STEP 0 1), ⟨2000000, 6000000000⟩, _, 1, 300000, 7, rfl, rfl, rfl, rfl, rfl,
    rfl, by decide⟩,
    ⟨wSt ((((wKz .acquire).modPwr 1 (fun p => { p with state := .run, nowMv := 780 })).modPwr 4 (fun p => { p with
      state := .idle,
      nowMv := 760 })).setFld F.MOD_AGE_CTRL.EN_STEP 0 1), ⟨2000000, 6000000000⟩, _, 1, rfl, rfl, rfl, rfl, rfl, rfl⟩,
    ⟨wSt ((((wKz .acquire).modPwr 1 (fun p => { p with state := .run, nowMv := 780 })).modPwr 4 (fun p => { p with
      state := .idle,
      nowMv := 760 })).setFld F.MOD_AGE_CTRL.EN_STEP 0 1), ⟨2000000, 6000000000⟩, _, 4, rfl, by decide⟩,
    ⟨wSt ((((wKz .ready).modPwr 1 (fun p => { p with state := .run, nowMv := 780 })).modPwr 4 (fun p => { p with
      state := .idle,
      nowMv := 760 })).setFld F.MOD_AGE_CTRL.EN_OVEN 0 1|>.modPwr 1 (fun p => { p with state := .idle })), ⟨2000000,
    6000000000⟩, _, (some 99 : Option Nat), rfl, rfl, rfl, rfl, rfl, by decide, by decide⟩,
    ⟨wSt ((((wKz .ready).modPwr 1 (fun p => { p with state := .run, nowMv := 780 })).modPwr 4 (fun p => { p with
      state := .idle,
      nowMv := 760 })).setFld F.MOD_AGE_CTRL.EN_OVEN 0 1|>.modPwr 1 (fun p => { p with state := .idle })), ⟨2000000,
    6000000000⟩, _, (none : Option Nat), (some 3001 : Option Nat), rfl, rfl, rfl, rfl, rfl, rfl, by decide, by decide, by
    decide⟩,
    ⟨wSt ((((wKz .ready).modPwr 1 (fun p => { p with state := .run, nowMv := 780 })).modPwr 4 (fun p => { p with
      state := .idle,
      nowMv := 760 })).setFld F.MOD_AGE_CTRL.EN_OVEN 0 1), ⟨2000000, 6000000000⟩, _, (some 99 : Option Nat), rfl, rfl, rfl,
    rfl, rfl, by decide, by decide⟩,
    ⟨wSt ((((wKz .ready).modPwr 1 (fun p => { p with state := .run, nowMv := 780 })).modPwr 4 (fun p => { p with
      state := .idle,
      nowMv := 760 })).setFld F.MOD_AGE_CTRL.EN_OVEN 0 1), ⟨2000000, 6000000000⟩, _, (some 100 : Option Nat), (some 3000 :
    Option Nat), rfl, rfl, rfl, rfl, rfl, by decide, by decide, rfl⟩,
    ⟨wSt ((((wKz .ready).modPwr 1 (fun p => { p with state := .run, nowMv := 780 })).modPwr 4 (fun p => { p with
      state := .idle,
      nowMv := 760 })).setFld F.MOD_AGE_CTRL.EN_OVEN 0 1|>.mark F.MOD_AGE_STAT.OVR_OVEN 0), ⟨2000000, 6000000000⟩, _, rfl,
    by decide⟩,
    ⟨wSt ((((wKz .ready).modPwr 1 (fun p => { p with state := .run, nowMv := 780 })).modPwr 4 (fun p => { p with
      state := .idle,
      nowMv := 760 })).setFld F.MOD_AGE_CTRL.EN_TRIM 0 1|> fun m => { m with
      age := { m.age with devNew := true, hearthDev := -501 } }), ⟨2000000, 6000000000⟩, _, rfl, rfl, rfl, rfl, rfl, by
    decide⟩,
    ⟨wSt ((((wKz .ready).modPwr 1 (fun p => { p with state := .run, nowMv := 780 })).modPwr 4 (fun p => { p with
      state := .idle,
      nowMv := 760 })).setFld F.MOD_AGE_CTRL.EN_TRIM 0 1|> fun m => { m with
      age := { m.age with devNew := true, hearthDev := -500 } }), ⟨2000000, 6000000000⟩, _, rfl, rfl, by decide⟩,
    ⟨wSt ((((wKz .ready).modPwr 1 (fun p => { p with state := .run, nowMv := 780 })).modPwr 4 (fun p => { p with
      state := .idle,
      nowMv := 760 })).setFld F.MOD_AGE_CTRL.EN_TRIM 0 1|> fun m => { m with
      age := { m.age with devNew := true, hearthDev := -501 } }|> fun m => { m with
      sup := { m.sup with restarting1 := true } }), ⟨2000000, 6000000000⟩, _, rfl, rfl⟩,
    ⟨wSt ((((wKz .ready).modPwr 1 (fun p => { p with state := .run, nowMv := 780 })).modPwr 4 (fun p => { p with
      state := .idle,
      nowMv := 760 }))|>.mark F.MOD_AGE_STAT.OVR_OVEN 0), ⟨2000000, 6000000000⟩, _, 0, BitVec.ofNat 32
    (F.MOD_AGE_STAT.OVR_OVEN.put 1), rfl, by decide, by decide⟩,
    ⟨wSt ((((wKz .ready).modPwr 1 (fun p => { p with state := .run, nowMv := 780 })).modPwr 4 (fun p => { p with
      state := .idle,
      nowMv := 760 }))|>.mark F.RGN_AGE_STAT.OVR_STEP 1), ⟨2000000, 6000000000⟩, _, 0, 1, BitVec.ofNat 32
    (F.RGN_AGE_STAT.OVR_STEP.put 1), rfl, by decide, by decide⟩⟩

/-- Witness of the hypotheses of LedgerRecords. -/
theorem witness_LedgerRecords :
  (∃ (s : State) (t : Stamp) (m : Kz), s.kz.advance t = m ∧ powered m.pwr.state = true) ∧
  (∃ (s : State) (t : Stamp) (m : Kz), s.kz.advance t = m ∧ powered m.pwr.state = true) ∧
  (∃ (s : State) (t : Stamp) (m : Kz), s.kz.advance t = m ∧ powered m.pwr.state = false) ∧
  (∃ (s : State) (t : Stamp) (m : Kz) (code : Nat) (skind : Nat) (idx : Nat) (l : List (Nat × Nat × Nat)), s.kz.advance t =
    m ∧ m.age.actions = (code, skind, idx) :: l) ∧
  (∃ (s : State) (t : Stamp) (m : Kz) (code : Nat) (skind : Nat) (idx : Nat) (l : List (Nat × Nat × Nat)), s.kz.advance t =
    m ∧ m.age.actions = (code, skind, idx) :: l) ∧
  (∃ (s : State) (t : Stamp) (m : Kz), s.kz.advance t = m ∧ m.age.actions = []) ∧
  (∃ (s : State) (t : Stamp) (m : Kz), s.kz.advance t = m ∧ powered m.pwr.state = true) ∧
  (∃ (s : State) (t : Stamp) (m : Kz) (c : Chan) (w : BitVec 9), s.kz.advance t = m ∧ powered m.pwr.state = true ∧ m.on
    F.MOD_AGE_CTRL.EN_WEAR 0 = true ∧ Sparse.get 0 m.age.wear c.val ||| w.toNat ≠ Sparse.get 0 m.age.wear c.val) ∧
  (∃ (s : State) (t : Stamp) (m : Kz), s.kz.advance t = m ∧ powered m.pwr.state = true) ∧
  (∃ (s : State) (t : Stamp) (m : Kz), s.kz.advance t = m ∧ powered m.pwr.state = false) :=
  ⟨
    ⟨wSt ((((wKz .ready).modPwr 1 (fun p => { p with state := .run, nowMv := 780 })).modPwr 4 (fun p => { p with
      state := .idle,
      nowMv := 760 }))|> fun m => { m with age := { m.age with ckptAt := 63 } }), ⟨2000000, 6000000000⟩, _, rfl, rfl⟩,
    ⟨wSt ((((wKz .ready).modPwr 1 (fun p => { p with state := .run, nowMv := 780 })).modPwr 4 (fun p => { p with
      state := .idle,
      nowMv := 760 }))|> fun m => { m with age := { m.age with ckptAt := 63 } }), ⟨2000000, 6000000000⟩, _, rfl, rfl⟩,
    ⟨wSt ((((wKz .recovery).modPwr 1 (fun p => { p with state := .run, nowMv := 780 })).modPwr 4 (fun p => { p with
      state := .idle,
      nowMv := 760 }))), ⟨2000000, 6000000000⟩, _, rfl, rfl⟩,
    ⟨wSt ((((wKz .ready).modPwr 1 (fun p => { p with state := .run, nowMv := 780 })).modPwr 4 (fun p => { p with
      state := .idle,
      nowMv := 760 }))|> fun m => { m with age := { m.age with actions := [(6, 2, 4), (4, 0, 0)], recAt := 703 } }),
    ⟨2000000, 6000000000⟩, _, 6, 2, 4, ([(4, 0, 0)] : List (Nat × Nat × Nat)), rfl, rfl⟩,
    ⟨wSt ((((wKz .ready).modPwr 1 (fun p => { p with state := .run, nowMv := 780 })).modPwr 4 (fun p => { p with
      state := .idle,
      nowMv := 760 }))|> fun m => { m with age := { m.age with actions := [(6, 2, 4), (4, 0, 0)], recAt := 703 } }),
    ⟨2000000, 6000000000⟩, _, 6, 2, 4, ([(4, 0, 0)] : List (Nat × Nat × Nat)), rfl, rfl⟩,
    ⟨wSt ((((wKz .ready).modPwr 1 (fun p => { p with state := .run, nowMv := 780 })).modPwr 4 (fun p => { p with
      state := .idle,
      nowMv := 760 }))), ⟨2000000, 6000000000⟩, _, rfl, rfl⟩,
    ⟨wSt ((((wKz .ready).modPwr 1 (fun p => { p with state := .run, nowMv := 780 })).modPwr 4 (fun p => { p with
      state := .idle,
      nowMv := 760 }))), ⟨2000000, 6000000000⟩, _, rfl, rfl⟩,
    ⟨wSt ((((wKz .ready).modPwr 1 (fun p => { p with state := .run, nowMv := 780 })).modPwr 4 (fun p => { p with
      state := .idle,
      nowMv := 760 })).setFld F.MOD_AGE_CTRL.EN_WEAR 0 1), ⟨2000000, 6000000000⟩, _, 17, 0x81, rfl, rfl, rfl, by decide⟩,
    ⟨wSt ((((wKz .ready).modPwr 1 (fun p => { p with state := .run, nowMv := 780 })).modPwr 4 (fun p => { p with
      state := .idle,
      nowMv := 760 }))), ⟨2000000, 6000000000⟩, _, rfl, rfl⟩,
    ⟨wSt ((((wKz .off).modPwr 1 (fun p => { p with state := .run, nowMv := 780 })).modPwr 4 (fun p => { p with
      state := .idle,
      nowMv := 760 }))), ⟨2000000, 6000000000⟩, _, rfl, rfl⟩⟩

set_option maxRecDepth 20000 in
/-- Witness of the hypotheses of RasterPort. -/
theorem witness_RasterPort :
  (∃ (s : State) (t : Stamp) (m : Kz) (p : Port) (v : Word), s.kz.advance t = m ∧ Accepts m p .DSI_CTRL 0 v ∧
    F.DSI_CTRL.EN.of v = 1 ∧ m.dsi.state = .off) ∧
  (∃ (s : State) (t : Stamp) (m : Kz) (p : Port) (v : Word), s.kz.advance t = m ∧ Accepts m p .DSI_CTRL 0 v ∧
    F.DSI_CTRL.EN.of v = 1 ∧ m.dsi.state ≠ .off) ∧
  (∃ (s : State) (t : Stamp) (m : Kz) (p : Port) (v : Word), s.kz.advance t = m ∧ Reaches m p .DSI_CTRL 0 ∧ covers (m.port
    p).session.leases .module = true ∧ F.DSI_CTRL.MODE.of v ≠ m.fld F.DSI_CTRL.MODE 0 ∧ m.dsi.state ≠ .off) ∧
  (∃ (s : State) (t : Stamp) (m : Kz) (p : Port) (v : Word), s.kz.advance t = m ∧ Reaches m p .DSI_CTRL 0 ∧ covers (m.port
    p).session.leases .module = true ∧ (F.DSI_CTRL.MODE.of v = m.fld F.DSI_CTRL.MODE 0 ∨ m.dsi.state = .off) ∧ m.fld
    F.DSI_CTRL.EN 0 = 0 ∧ F.DSI_CTRL.EN.of v = 1 ∧ timingOk (decide (F.DSI_CTRL.MODE.of v = 1)) (dsiTimingKinds.map (fun x
    => m.cfgWord x 0)) = false) ∧
  (∃ (s : State) (t : Stamp) (m : Kz) (p : Port) (v : Word), s.kz.advance t = m ∧ Accepts m p .DSI_CTRL 0 v ∧
    F.DSI_CTRL.EN.of v = 0 ∧ m.dsi.state = .running) ∧
  (∃ (s : State) (t : Stamp) (m : Kz) (p : Port) (v : Word), s.kz.advance t = m ∧ Accepts m p .DSI_CTRL 0 v ∧
    F.DSI_CTRL.EN.of v = 0 ∧ m.dsi.state = .starting) ∧
  (∃ (s : State) (t : Stamp) (m : Kz) (p : Port) (v : Word), s.kz.advance t = m ∧ Accepts m p .DSI_CTRL 0 v ∧
    F.DSI_CTRL.EN.of v = 0 ∧ (m.dsi.state = .off ∨ m.dsi.state = .stopping)) ∧
  (∃ (s : State) (t : Stamp) (m : Kz), s.kz.advance t = m ∧ m.dsi.state = .starting ∧ powered m.pwr.state = true ∧
    m.dsi.timingPending = false ∧ m.dsi.pending = true ∧ m.dsi.skip = true) ∧
  (∃ (s : State) (t : Stamp) (m : Kz), s.kz.advance t = m ∧ m.dsi.state = .starting ∧ powered m.pwr.state = true ∧
    m.dsi.timingPending = false ∧ m.dsi.pending = true ∧ m.dsi.skip = false) ∧
  (∃ (s : State) (t : Stamp) (m : Kz), s.kz.advance t = m ∧ m.dsi.state = .starting ∧ powered m.pwr.state = true ∧
    m.dsi.timingPending = false ∧ m.dsi.pending = false) ∧
  (∃ (s : State) (t : Stamp) (m : Kz), s.kz.advance t = m ∧ (m.dsi.state ≠ .starting ∨ powered m.pwr.state = false)) ∧
  (∃ (s : State) (t : Stamp) (m : Kz), s.kz.advance t = m ∧ m.dsi.state = .running ∧ m.on F.DSI_CTRL.MODE 0 = false ∧
    linesSent m frameLines = true ∧ m.dsi.timingPending = true) ∧
  (∃ (s : State) (t : Stamp) (m : Kz), s.kz.advance t = m ∧ m.dsi.state = .running ∧ m.on F.DSI_CTRL.MODE 0 = false ∧
    linesSent m frameLines = true ∧ m.dsi.timingPending = false ∧ m.dsi.pending = true ∧ m.dsi.skip = true) ∧
  (∃ (s : State) (t : Stamp) (m : Kz), s.kz.advance t = m ∧ m.dsi.state = .running ∧ m.on F.DSI_CTRL.MODE 0 = false ∧
    linesSent m frameLines = true ∧ m.dsi.timingPending = false ∧ m.dsi.pending = true ∧ m.dsi.skip = false) ∧
  (∃ (s : State) (t : Stamp) (m : Kz), s.kz.advance t = m ∧ m.dsi.state = .running ∧ m.on F.DSI_CTRL.MODE 0 = false ∧
    linesSent m frameLines = true ∧ m.dsi.timingPending = false ∧ m.dsi.pending = false) ∧
  (∃ (s : State) (t : Stamp) (m : Kz), s.kz.advance t = m ∧ m.dsi.state = .stopping ∧ (m.on F.DSI_CTRL.MODE 0 = true ∨
    linesSent m frameLines = true)) ∧
  (∃ (s : State) (t : Stamp) (m : Kz), s.kz.advance t = m ∧ (m.dsi.state = .off ∨ m.dsi.state = .starting ∨ (m.dsi.state =
    .running ∧ m.on F.DSI_CTRL.MODE 0 = true) ∨ (m.on F.DSI_CTRL.MODE 0 = false ∧ linesSent m frameLines = false))) ∧
  (∃ (s : State) (t : Stamp) (m : Kz), s.kz.advance t = m ∧ (m.dsi.state = .running ∨ m.dsi.state = .stopping) ∧ (m.on
    F.DSI_CTRL.MODE 0 = true ∨ linesSent m edgeLines = true)) ∧
  (∃ (s : State) (t : Stamp) (m : Kz), s.kz.advance t = m ∧ (m.dsi.state = .off ∨ m.dsi.state = .starting ∨ (m.on
    F.DSI_CTRL.MODE 0 = false ∧ linesSent m edgeLines = false))) ∧
  (∃ (s : State) (t : Stamp) (m : Kz) (falling : Bool), s.kz.advance t = m ∧ m.dsi.state = .running ∧ m.on F.DSI_CTRL.MODE 0
    = true ∧ m.dsi.edge = true ∧ m.on F.DSI_CTRL.TE_POL 0 = falling ∧ m.dsi.timingPending = true) ∧
  (∃ (s : State) (t : Stamp) (m : Kz) (falling : Bool), s.kz.advance t = m ∧ m.dsi.state = .running ∧ m.on F.DSI_CTRL.MODE 0
    = true ∧ m.dsi.edge = true ∧ m.on F.DSI_CTRL.TE_POL 0 = falling ∧ m.dsi.timingPending = false ∧ m.dsi.pending = true ∧
    m.dsi.skip = true) ∧
  (∃ (s : State) (t : Stamp) (m : Kz) (falling : Bool), s.kz.advance t = m ∧ m.dsi.state = .running ∧ m.on F.DSI_CTRL.MODE 0
    = true ∧ m.dsi.edge = true ∧ m.on F.DSI_CTRL.TE_POL 0 = falling ∧ m.dsi.timingPending = false ∧ m.dsi.pending = true ∧
    m.dsi.skip = false) ∧
  (∃ (s : State) (t : Stamp) (m : Kz) (falling : Bool), s.kz.advance t = m ∧ m.dsi.state = .running ∧ m.on F.DSI_CTRL.MODE 0
    = true ∧ m.dsi.edge = true ∧ m.on F.DSI_CTRL.TE_POL 0 = falling ∧ m.dsi.timingPending = false ∧ m.dsi.pending = false) ∧
  (∃ (s : State) (t : Stamp) (m : Kz) (falling : Bool), s.kz.advance t = m ∧ (m.dsi.state ≠ .running ∨ m.on F.DSI_CTRL.MODE
    0 = false ∨ m.dsi.edge = false ∨ m.on F.DSI_CTRL.TE_POL 0 ≠ falling)) ∧
  (∃ (s : State) (t : Stamp) (m : Kz), s.kz.advance t = m ∧ m.dsi.state = .running ∧ m.on F.DSI_CTRL.MODE 0 = true ∧
    m.dsi.started + 1500 * F.DSI_CMDP.PERIOD_US.of (m.dsi.timing.getD 5 0) ≤ m.now.ns ∧ m.dsi.timingPending = true) ∧
  (∃ (s : State) (t : Stamp) (m : Kz), s.kz.advance t = m ∧ m.dsi.state = .running ∧ m.on F.DSI_CTRL.MODE 0 = true ∧
    m.dsi.started + 1500 * F.DSI_CMDP.PERIOD_US.of (m.dsi.timing.getD 5 0) ≤ m.now.ns ∧ m.dsi.timingPending = false ∧
    m.dsi.pending = true ∧ m.dsi.skip = true) ∧
  (∃ (s : State) (t : Stamp) (m : Kz), s.kz.advance t = m ∧ m.dsi.state = .running ∧ m.on F.DSI_CTRL.MODE 0 = true ∧
    m.dsi.started + 1500 * F.DSI_CMDP.PERIOD_US.of (m.dsi.timing.getD 5 0) ≤ m.now.ns ∧ m.dsi.timingPending = false ∧
    m.dsi.pending = true ∧ m.dsi.skip = false) ∧
  (∃ (s : State) (t : Stamp) (m : Kz), s.kz.advance t = m ∧ m.dsi.state = .running ∧ m.on F.DSI_CTRL.MODE 0 = true ∧
    m.dsi.started + 1500 * F.DSI_CMDP.PERIOD_US.of (m.dsi.timing.getD 5 0) ≤ m.now.ns ∧ m.dsi.timingPending = false ∧
    m.dsi.pending = false) ∧
  (∃ (s : State) (t : Stamp) (m : Kz), s.kz.advance t = m ∧ (m.dsi.state ≠ .running ∨ m.on F.DSI_CTRL.MODE 0 = false ∨
    m.now.ns < m.dsi.started + 1500 * F.DSI_CMDP.PERIOD_US.of (m.dsi.timing.getD 5 0))) :=
  ⟨
    ⟨wSt ((wKz .ready)), ⟨2000000, 6000000000⟩, _, 0, BitVec.ofNat 32 (F.DSI_CTRL.EN.put 1), rfl, by decide, rfl, rfl⟩,
    ⟨wSt ((wKz .ready)|> fun m => { m with dsi := { m.dsi with state := .stopping } }), ⟨2000000, 6000000000⟩, _, 0,
    BitVec.ofNat 32 (F.DSI_CTRL.EN.put 1), rfl, by decide, rfl, by decide⟩,
    ⟨wSt ((wKz .ready)|> fun m => { m with dsi := { m.dsi with state := .running } }), ⟨2000000, 6000000000⟩, _, 0,
    BitVec.ofNat 32 (F.DSI_CTRL.EN.put 1 ||| F.DSI_CTRL.MODE.put 1), rfl, by decide, rfl, by decide, by decide⟩,
    ⟨wSt ((wKz .ready)|>.setFld F.DSI_HTIM0.HACT 0 1288), ⟨2000000, 6000000000⟩, _, 0, BitVec.ofNat 32 (F.DSI_CTRL.EN.put
    1), rfl, by decide, rfl, by decide, rfl, rfl, rfl⟩,
    ⟨wSt ((wKz .ready)|> fun m => { m with dsi := { m.dsi with state := .running } }), ⟨2000000, 6000000000⟩, _, 0, 0, rfl,
    by decide, rfl, rfl⟩,
    ⟨wSt ((wKz .ready)|> fun m => { m with dsi := { m.dsi with state := .starting, pending := true } }), ⟨2000000,
    6000000000⟩, _, 0, 0, rfl, by decide, rfl, rfl⟩,
    ⟨wSt ((wKz .ready)), ⟨2000000, 6000000000⟩, _, 0, 0, rfl, by decide, rfl, by decide⟩,
    ⟨wSt ((wKz .ready)|> fun m => { m with
      dsi := { m.dsi with pending := true, skip := true, late := true, state := .starting } }), ⟨2000000, 6000000000⟩, _,
    rfl, rfl, rfl, rfl, rfl, rfl⟩,
    ⟨wSt ((wKz .ready)|> fun m => { m with dsi := { m.dsi with pending := true, state := .starting } }), ⟨2000000,
    6000000000⟩, _, rfl, rfl, rfl, rfl, rfl, rfl⟩,
    ⟨wSt ((wKz .ready)|> fun m => { m with dsi := { m.dsi with frames := 4294967295, state := .starting } }), ⟨2000000,
    6000000000⟩, _, rfl, rfl, rfl, rfl, rfl⟩,
    ⟨wSt ((wKz .ready)|> fun m => { m with dsi := { m.dsi with state := .running } }), ⟨2000000, 6000000000⟩, _, rfl, by
    decide⟩,
    ⟨wSt ((wKz .ready)|> fun m => { m with
      dsi := { m.dsi with timingPending := true, pending := true, skip := true, state := .running } }), ⟨2000000,
    6000000000⟩, _, rfl, rfl, rfl, by decide, rfl⟩,
    ⟨wSt ((wKz .ready)|> fun m => { m with
      dsi := { m.dsi with pending := true, skip := true, late := true, state := .running } }), ⟨2000000, 6000000000⟩, _,
    rfl, rfl, rfl, by decide, rfl, rfl, rfl⟩,
    ⟨wSt ((wKz .ready)|> fun m => { m with dsi := { m.dsi with pending := true, state := .running } }), ⟨2000000,
    6000000000⟩, _, rfl, rfl, rfl, by decide, rfl, rfl, rfl⟩,
    ⟨wSt ((wKz .ready)|> fun m => { m with dsi := { m.dsi with frames := 4294967295, state := .running } }), ⟨2000000,
    6000000000⟩, _, rfl, rfl, rfl, by decide, rfl, rfl⟩,
    ⟨wSt ((wKz .ready)|> fun m => { m with dsi := { m.dsi with state := .stopping, pending := true } }), ⟨2000000,
    6000000000⟩, _, rfl, rfl, by decide⟩,
    ⟨wSt ((wKz .ready)|> fun m => { m with dsi := { m.dsi with state := .running, started := 5983333340 } }), ⟨2000000,
    6000000000⟩, _, rfl, by decide⟩,
    ⟨wSt ((wKz .ready)|> fun m => { m with dsi := { m.dsi with state := .running } }), ⟨2000000, 6000000000⟩, _, rfl, by
    decide, by decide⟩,
    ⟨wSt ((wKz .ready)|> fun m => { m with dsi := { m.dsi with state := .running, started := 5983400000 } }), ⟨2000000,
    6000000000⟩, _, rfl, by decide⟩,
    ⟨wSt ((wKz .ready)|> fun m => { m with
      dsi := { m.dsi with timingPending := true, pending := true, skip := true, state := .running, edge := true } }|>.setFld
    F.DSI_CTRL.MODE 0 1), ⟨2000000, 6000000000⟩, _, false, rfl, rfl, rfl, rfl, rfl, rfl⟩,
    ⟨wSt ((wKz .ready)|> fun m => { m with
      dsi := { m.dsi with pending := true, skip := true, late := true, state := .running, edge := true } }|>.setFld
    F.DSI_CTRL.MODE 0 1), ⟨2000000, 6000000000⟩, _, false, rfl, rfl, rfl, rfl, rfl, rfl, rfl, rfl⟩,
    ⟨wSt ((wKz .ready)|> fun m => { m with dsi := { m.dsi with pending := true, state := .running, edge := true } }|>.setFld
    F.DSI_CTRL.MODE 0 1), ⟨2000000, 6000000000⟩, _, false, rfl, rfl, rfl, rfl, rfl, rfl, rfl, rfl⟩,
    ⟨wSt ((wKz .ready)|> fun m => { m with dsi := { m.dsi with frames := 4294967295, state := .running, edge := true } }|>.setFld
    F.DSI_CTRL.MODE 0 1), ⟨2000000, 6000000000⟩, _, false, rfl, rfl, rfl, rfl, rfl, rfl, rfl⟩,
    ⟨wSt ((wKz .ready)|> fun m => { m with dsi := { m.dsi with state := .running, edge := true } }|>.setFld F.DSI_CTRL.MODE
    0 1), ⟨2000000, 6000000000⟩, _, true, rfl, by decide⟩,
    ⟨wSt ((wKz .ready)|> fun m => { m with
      dsi := { m.dsi with timingPending := true, pending := true, skip := true, state := .running, started := 5900000000 } }|>.setFld
    F.DSI_CTRL.MODE 0 1), ⟨2000000, 6000000000⟩, _, rfl, rfl, rfl, by decide, rfl⟩,
    ⟨wSt ((wKz .ready)|> fun m => { m with
      dsi := { m.dsi with pending := true, skip := true, late := true, state := .running, started := 5900000000 } }|>.setFld
    F.DSI_CTRL.MODE 0 1), ⟨2000000, 6000000000⟩, _, rfl, rfl, rfl, by decide, rfl, rfl, rfl⟩,
    ⟨wSt ((wKz .ready)|> fun m => { m with dsi := { m.dsi with pending := true, state := .running, started := 5900000000 } }|>.setFld
    F.DSI_CTRL.MODE 0 1), ⟨2000000, 6000000000⟩, _, rfl, rfl, rfl, by decide, rfl, rfl, rfl⟩,
    ⟨wSt ((wKz .ready)|> fun m => { m with
      dsi := { m.dsi with frames := 4294967295, state := .running, started := 5900000000 } }|>.setFld F.DSI_CTRL.MODE 0 1),
    ⟨2000000, 6000000000⟩, _, rfl, rfl, rfl, by decide, rfl, rfl⟩,
    ⟨wSt ((wKz .ready)|> fun m => { m with dsi := { m.dsi with state := .running, started := 5999999999 } }|>.setFld
    F.DSI_CTRL.MODE 0 1), ⟨2000000, 6000000000⟩, _, rfl, by decide⟩⟩

set_option maxRecDepth 20000 in
/-- Witness of the hypotheses of ComposerAndFlips. -/
theorem witness_ComposerAndFlips :
  (∃ (s : State) (t : Stamp) (m : Kz) (p : Port) (v : Word), s.kz.advance t = m ∧ Quiet m ∧ Reaches m p .DSI_COMMIT 0 ∧
    covers (m.port p).session.leases .module = true ∧ F.DSI_COMMIT.GO.of v = 1 ∧ F.DSI_COMMIT.COMPOSE.of v = 0 ∧
    F.DSI_COMMIT.FLIP.of v = 1 ∧ m.dsi.pending = true) ∧
  (∃ (s : State) (t : Stamp) (m : Kz) (p : Port) (v : Word), s.kz.advance t = m ∧ Quiet m ∧ Reaches m p .DSI_COMMIT 0 ∧
    covers (m.port p).session.leases .module = true ∧ F.DSI_COMMIT.GO.of v = 1 ∧ F.DSI_COMMIT.COMPOSE.of v = 0 ∧
    F.DSI_COMMIT.FLIP.of v = 1 ∧ m.dsi.pending = false ∧ m.dsi.pass.isSome = true) ∧
  (∃ (s : State) (t : Stamp) (m : Kz) (p : Port) (v : Word), s.kz.advance t = m ∧ Quiet m ∧ Reaches m p .DSI_COMMIT 0 ∧
    covers (m.port p).session.leases .module = true ∧ F.DSI_COMMIT.GO.of v = 1 ∧ F.DSI_COMMIT.COMPOSE.of v = 0 ∧
    F.DSI_COMMIT.FLIP.of v = 1 ∧ m.dsi.pending = false ∧ m.dsi.pass = none ∧ 1280 < F.DSI_COMP2.X0.of (m.cfgWord .DSI_COMP2
    0) + F.DSI_COMP1.W_M1.of (m.cfgWord .DSI_COMP1 0) + 1) ∧
  (∃ (s : State) (t : Stamp) (m : Kz) (p : Port) (v : Word), s.kz.advance t = m ∧ Quiet m ∧ Reaches m p .DSI_COMMIT 0 ∧
    covers (m.port p).session.leases .module = true ∧ F.DSI_COMMIT.GO.of v = 1 ∧ F.DSI_COMMIT.COMPOSE.of v = 1 ∧
    F.DSI_COMMIT.FLIP.of v = 0 ∧ m.dsi.pending = true) ∧
  (∃ (s : State) (t : Stamp) (m : Kz) (p : Port) (v : Word), s.kz.advance t = m ∧ Quiet m ∧ Reaches m p .DSI_COMMIT 0 ∧
    covers (m.port p).session.leases .module = true ∧ F.DSI_COMMIT.GO.of v = 1 ∧ F.DSI_COMMIT.COMPOSE.of v = 1 ∧
    F.DSI_COMMIT.FLIP.of v = 0 ∧ m.dsi.pending = false ∧ m.dsi.pass.isSome = true) ∧
  (∃ (s : State) (t : Stamp) (m : Kz) (p : Port) (v : Word), s.kz.advance t = m ∧ Quiet m ∧ Reaches m p .DSI_COMMIT 0 ∧
    covers (m.port p).session.leases .module = true ∧ F.DSI_COMMIT.GO.of v = 1 ∧ F.DSI_COMMIT.COMPOSE.of v = 1 ∧
    F.DSI_COMMIT.FLIP.of v = 0 ∧ m.dsi.pending = false ∧ m.dsi.pass = none ∧ 1280 < F.DSI_COMP2.X0.of (m.cfgWord .DSI_COMP2
    0) + F.DSI_COMP1.W_M1.of (m.cfgWord .DSI_COMP1 0) + 1) ∧
  (∃ (s : State) (t : Stamp) (m : Kz) (p : Port) (v : Word), s.kz.advance t = m ∧ Quiet m ∧ Reaches m p .DSI_COMMIT 0 ∧
    covers (m.port p).session.leases .module = true ∧ F.DSI_COMMIT.GO.of v = 1 ∧ F.DSI_COMMIT.COMPOSE.of v = 1 ∧
    F.DSI_COMMIT.FLIP.of v = 1 ∧ m.dsi.pending = true) ∧
  (∃ (s : State) (t : Stamp) (m : Kz) (p : Port) (v : Word), s.kz.advance t = m ∧ Quiet m ∧ Reaches m p .DSI_COMMIT 0 ∧
    covers (m.port p).session.leases .module = true ∧ F.DSI_COMMIT.GO.of v = 1 ∧ F.DSI_COMMIT.COMPOSE.of v = 1 ∧
    F.DSI_COMMIT.FLIP.of v = 1 ∧ m.dsi.pending = false ∧ m.dsi.pass.isSome = true) ∧
  (∃ (s : State) (t : Stamp) (m : Kz) (p : Port) (v : Word), s.kz.advance t = m ∧ Quiet m ∧ Reaches m p .DSI_COMMIT 0 ∧
    covers (m.port p).session.leases .module = true ∧ F.DSI_COMMIT.GO.of v = 1 ∧ F.DSI_COMMIT.COMPOSE.of v = 1 ∧
    F.DSI_COMMIT.FLIP.of v = 1 ∧ m.dsi.pending = false ∧ m.dsi.pass = none ∧ 1280 < F.DSI_COMP2.X0.of (m.cfgWord .DSI_COMP2
    0) + F.DSI_COMP1.W_M1.of (m.cfgWord .DSI_COMP1 0) + 1) ∧
  (∃ (s : State) (t : Stamp) (m : Kz) (p : Port) (v : Word), s.kz.advance t = m ∧ Quiet m ∧ Reaches m p .DSI_COMMIT 0 ∧
    covers (m.port p).session.leases .module = true ∧ F.DSI_COMMIT.GO.of v = 1 ∧ F.DSI_COMMIT.COMPOSE.of v = 1 ∧
    F.DSI_COMMIT.FLIP.of v = 0 ∧ m.dsi.pending = false ∧ m.dsi.pass = none ∧ F.DSI_COMP0.COL0.of (m.cfgWord .DSI_COMP0 0) +
    F.DSI_COMP1.W_M1.of (m.cfgWord .DSI_COMP1 0) + 1 ≤ 1024 ∧ F.DSI_COMP0.ROW0.of (m.cfgWord .DSI_COMP0 0) +
    F.DSI_COMP1.H_M1.of (m.cfgWord .DSI_COMP1 0) + 1 ≤ 1024 ∧ F.DSI_COMP2.X0.of (m.cfgWord .DSI_COMP2 0) +
    F.DSI_COMP1.W_M1.of (m.cfgWord .DSI_COMP1 0) + 1 ≤ 1280 ∧ F.DSI_COMP2.Y0.of (m.cfgWord .DSI_COMP2 0) +
    F.DSI_COMP1.H_M1.of (m.cfgWord .DSI_COMP1 0) + 1 ≤ 800) ∧
  (∃ (s : State) (t : Stamp) (m : Kz) (p : Port) (v : Word), s.kz.advance t = m ∧ Quiet m ∧ Reaches m p .DSI_COMMIT 0 ∧
    covers (m.port p).session.leases .module = true ∧ F.DSI_COMMIT.GO.of v = 1 ∧ F.DSI_COMMIT.COMPOSE.of v = 1 ∧
    F.DSI_COMMIT.FLIP.of v = 1 ∧ m.dsi.pending = false ∧ m.dsi.pass = none ∧ F.DSI_COMP0.COL0.of (m.cfgWord .DSI_COMP0 0) +
    F.DSI_COMP1.W_M1.of (m.cfgWord .DSI_COMP1 0) + 1 ≤ 1024 ∧ F.DSI_COMP0.ROW0.of (m.cfgWord .DSI_COMP0 0) +
    F.DSI_COMP1.H_M1.of (m.cfgWord .DSI_COMP1 0) + 1 ≤ 1024 ∧ F.DSI_COMP2.X0.of (m.cfgWord .DSI_COMP2 0) +
    F.DSI_COMP1.W_M1.of (m.cfgWord .DSI_COMP1 0) + 1 ≤ 1280 ∧ F.DSI_COMP2.Y0.of (m.cfgWord .DSI_COMP2 0) +
    F.DSI_COMP1.H_M1.of (m.cfgWord .DSI_COMP1 0) + 1 ≤ 800) ∧
  (∃ (s : State) (t : Stamp) (m : Kz) (p : Port) (v : Word), s.kz.advance t = m ∧ Quiet m ∧ Reaches m p .DSI_COMMIT 0 ∧
    covers (m.port p).session.leases .module = true ∧ F.DSI_COMMIT.GO.of v = 1 ∧ F.DSI_COMMIT.COMPOSE.of v = 0 ∧
    F.DSI_COMMIT.FLIP.of v = 1 ∧ m.dsi.pending = false ∧ m.dsi.pass = none ∧ F.DSI_COMP0.COL0.of (m.cfgWord .DSI_COMP0 0) +
    F.DSI_COMP1.W_M1.of (m.cfgWord .DSI_COMP1 0) + 1 ≤ 1024 ∧ F.DSI_COMP0.ROW0.of (m.cfgWord .DSI_COMP0 0) +
    F.DSI_COMP1.H_M1.of (m.cfgWord .DSI_COMP1 0) + 1 ≤ 1024 ∧ F.DSI_COMP2.X0.of (m.cfgWord .DSI_COMP2 0) +
    F.DSI_COMP1.W_M1.of (m.cfgWord .DSI_COMP1 0) + 1 ≤ 1280 ∧ F.DSI_COMP2.Y0.of (m.cfgWord .DSI_COMP2 0) +
    F.DSI_COMP1.H_M1.of (m.cfgWord .DSI_COMP1 0) + 1 ≤ 800 ∧ (m.dsi.state = .off ∨ m.dsi.state = .stopping)) ∧
  (∃ (s : State) (t : Stamp) (m : Kz) (p : Port) (v : Word), s.kz.advance t = m ∧ Quiet m ∧ Reaches m p .DSI_COMMIT 0 ∧
    covers (m.port p).session.leases .module = true ∧ F.DSI_COMMIT.GO.of v = 1 ∧ F.DSI_COMMIT.COMPOSE.of v = 0 ∧
    F.DSI_COMMIT.FLIP.of v = 1 ∧ m.dsi.pending = false ∧ m.dsi.pass = none ∧ F.DSI_COMP0.COL0.of (m.cfgWord .DSI_COMP0 0) +
    F.DSI_COMP1.W_M1.of (m.cfgWord .DSI_COMP1 0) + 1 ≤ 1024 ∧ F.DSI_COMP0.ROW0.of (m.cfgWord .DSI_COMP0 0) +
    F.DSI_COMP1.H_M1.of (m.cfgWord .DSI_COMP1 0) + 1 ≤ 1024 ∧ F.DSI_COMP2.X0.of (m.cfgWord .DSI_COMP2 0) +
    F.DSI_COMP1.W_M1.of (m.cfgWord .DSI_COMP1 0) + 1 ≤ 1280 ∧ F.DSI_COMP2.Y0.of (m.cfgWord .DSI_COMP2 0) +
    F.DSI_COMP1.H_M1.of (m.cfgWord .DSI_COMP1 0) + 1 ≤ 800 ∧ (m.dsi.state = .running ∨ m.dsi.state = .starting) ∧ m.dsi.edge
    = false) ∧
  (∃ (s : State) (t : Stamp) (m : Kz) (p : Port) (v : Word), s.kz.advance t = m ∧ Quiet m ∧ Reaches m p .DSI_COMMIT 0 ∧
    covers (m.port p).session.leases .module = true ∧ F.DSI_COMMIT.GO.of v = 1 ∧ F.DSI_COMMIT.COMPOSE.of v = 0 ∧
    F.DSI_COMMIT.FLIP.of v = 1 ∧ m.dsi.pending = false ∧ m.dsi.pass = none ∧ F.DSI_COMP0.COL0.of (m.cfgWord .DSI_COMP0 0) +
    F.DSI_COMP1.W_M1.of (m.cfgWord .DSI_COMP1 0) + 1 ≤ 1024 ∧ F.DSI_COMP0.ROW0.of (m.cfgWord .DSI_COMP0 0) +
    F.DSI_COMP1.H_M1.of (m.cfgWord .DSI_COMP1 0) + 1 ≤ 1024 ∧ F.DSI_COMP2.X0.of (m.cfgWord .DSI_COMP2 0) +
    F.DSI_COMP1.W_M1.of (m.cfgWord .DSI_COMP1 0) + 1 ≤ 1280 ∧ F.DSI_COMP2.Y0.of (m.cfgWord .DSI_COMP2 0) +
    F.DSI_COMP1.H_M1.of (m.cfgWord .DSI_COMP1 0) + 1 ≤ 800 ∧ (m.dsi.state = .running ∨ m.dsi.state = .starting) ∧ m.dsi.edge
    = true) ∧
  (∃ (s : State) (t : Stamp) (m : Kz) (q : DsiPass), s.kz.advance t = m ∧ Quiet m ∧ Idle m ∧ m.dsi.pass = some q ∧ passDue m
    = true ∧ q.flip = false) ∧
  (∃ (s : State) (t : Stamp) (m : Kz) (q : DsiPass), s.kz.advance t = m ∧ Quiet m ∧ Idle m ∧ m.dsi.pass = some q ∧ passDue m
    = true ∧ q.flip = true ∧ (m.dsi.state = .off ∨ m.dsi.state = .stopping)) ∧
  (∃ (s : State) (t : Stamp) (m : Kz) (q : DsiPass), s.kz.advance t = m ∧ Quiet m ∧ Idle m ∧ m.dsi.pass = some q ∧ passDue m
    = true ∧ q.flip = true ∧ (m.dsi.state = .running ∨ m.dsi.state = .starting) ∧ m.dsi.edge = false) ∧
  (∃ (s : State) (t : Stamp) (m : Kz) (q : DsiPass), s.kz.advance t = m ∧ Quiet m ∧ Idle m ∧ m.dsi.pass = some q ∧ passDue m
    = true ∧ q.flip = true ∧ (m.dsi.state = .running ∨ m.dsi.state = .starting) ∧ m.dsi.edge = true) ∧
  (∃ (s : State) (t : Stamp) (m : Kz) (q : DsiPass) (x : Nat) (y : Nat) (z : Nat), s.kz.advance t = m ∧ Quiet m ∧ Idle m ∧
    m.dsi.pass = some q ∧ passDue m = true ∧ x ≤ F.DSI_COMP1.W_M1.of q.comp1 ∧ y ≤ F.DSI_COMP1.H_M1.of q.comp1 ∧ z < 2 ∧
    q.table.length = 512 ∧ F.DSI_COMP2.X0.of q.comp2 + F.DSI_COMP1.W_M1.of q.comp1 < 1280) ∧
  (∃ (s : State) (t : Stamp) (m : Kz), s.kz.advance t = m ∧ Quiet m ∧ passDue m = false) ∧
  (∃ (s : State) (t : Stamp) (m : Kz) (p : Port) (q : Running) (l : List (Word × Word)), s.kz.advance t = m ∧ Quiet m ∧
    passDue m = true ∧ (m.port p.val).session.running = some q ∧ q.req = .regWrite l ∧ q.from_ = l.length ∧ 1 ≤ l.length ∧
    l.length ≤ 64 ∧ (m.port p.val).session.version = 0x32 ∧ q.wait = .compose ∧ powered m.pwr.state = true ∧ ((∀ x : Nat, x
    < 4 → x ≠ p.val → (m.port x).session.running = none)) ∧ ((∀ x : Nat, x < 4 → (m.port x).orphans = [])) ∧ (m.port
    p.val).session.isOpen = true) ∧
  (∃ (s : State) (t : Stamp) (m : Kz) (p : Port), s.kz.advance t = m ∧ Reaches m p .DSI_FLIP_LO 0) :=
  ⟨
    ⟨wSt ((wKz .ready)|> fun m => { m with dsi := { m.dsi with pending := true } }), ⟨2000000, 6000000000⟩, _, 0,
    BitVec.ofNat 32 (F.DSI_COMMIT.GO.put 1 ||| F.DSI_COMMIT.COMPOSE.put 0 ||| F.DSI_COMMIT.FLIP.put 1), rfl, by decide, by
    decide, rfl, rfl, rfl, rfl, rfl⟩,
    ⟨wSt ((wKz .ready)|> fun m => { m with dsi := { m.dsi with pass := some ⟨0, 0, 0, [], true, 0⟩ } }), ⟨2000000,
    6000000000⟩, _, 0, BitVec.ofNat 32 (F.DSI_COMMIT.GO.put 1 ||| F.DSI_COMMIT.COMPOSE.put 0 ||| F.DSI_COMMIT.FLIP.put 1),
    rfl, by decide, by decide, rfl, rfl, rfl, rfl, rfl, rfl⟩,
    ⟨wSt ((wKz .ready)|>.setFld F.DSI_COMP2.X0 0 1280), ⟨2000000, 6000000000⟩, _, 0, BitVec.ofNat 32 (F.DSI_COMMIT.GO.put 1
    ||| F.DSI_COMMIT.COMPOSE.put 0 ||| F.DSI_COMMIT.FLIP.put 1), rfl, by decide, by decide, rfl, rfl, rfl, rfl, rfl, rfl, by
    decide⟩,
    ⟨wSt ((wKz .ready)|> fun m => { m with dsi := { m.dsi with pending := true } }), ⟨2000000, 6000000000⟩, _, 0,
    BitVec.ofNat 32 (F.DSI_COMMIT.GO.put 1 ||| F.DSI_COMMIT.COMPOSE.put 1 ||| F.DSI_COMMIT.FLIP.put 0), rfl, by decide, by
    decide, rfl, rfl, rfl, rfl, rfl⟩,
    ⟨wSt ((wKz .ready)|> fun m => { m with dsi := { m.dsi with pass := some ⟨0, 0, 0, [], true, 0⟩ } }), ⟨2000000,
    6000000000⟩, _, 0, BitVec.ofNat 32 (F.DSI_COMMIT.GO.put 1 ||| F.DSI_COMMIT.COMPOSE.put 1 ||| F.DSI_COMMIT.FLIP.put 0),
    rfl, by decide, by decide, rfl, rfl, rfl, rfl, rfl, rfl⟩,
    ⟨wSt ((wKz .ready)|>.setFld F.DSI_COMP2.X0 0 1280), ⟨2000000, 6000000000⟩, _, 0, BitVec.ofNat 32 (F.DSI_COMMIT.GO.put 1
    ||| F.DSI_COMMIT.COMPOSE.put 1 ||| F.DSI_COMMIT.FLIP.put 0), rfl, by decide, by decide, rfl, rfl, rfl, rfl, rfl, rfl, by
    decide⟩,
    ⟨wSt ((wKz .ready)|> fun m => { m with dsi := { m.dsi with pending := true } }), ⟨2000000, 6000000000⟩, _, 0,
    BitVec.ofNat 32 (F.DSI_COMMIT.GO.put 1 ||| F.DSI_COMMIT.COMPOSE.put 1 ||| F.DSI_COMMIT.FLIP.put 1), rfl, by decide, by
    decide, rfl, rfl, rfl, rfl, rfl⟩,
    ⟨wSt ((wKz .ready)|> fun m => { m with dsi := { m.dsi with pass := some ⟨0, 0, 0, [], true, 0⟩ } }), ⟨2000000,
    6000000000⟩, _, 0, BitVec.ofNat 32 (F.DSI_COMMIT.GO.put 1 ||| F.DSI_COMMIT.COMPOSE.put 1 ||| F.DSI_COMMIT.FLIP.put 1),
    rfl, by decide, by decide, rfl, rfl, rfl, rfl, rfl, rfl⟩,
    ⟨wSt ((wKz .ready)|>.setFld F.DSI_COMP2.X0 0 1280), ⟨2000000, 6000000000⟩, _, 0, BitVec.ofNat 32 (F.DSI_COMMIT.GO.put 1
    ||| F.DSI_COMMIT.COMPOSE.put 1 ||| F.DSI_COMMIT.FLIP.put 1), rfl, by decide, by decide, rfl, rfl, rfl, rfl, rfl, rfl, by
    decide⟩,
    ⟨wSt ((wKz .ready)|>.setFld F.DSI_COMP1.W_M1 0 3), ⟨2000000, 6000000000⟩, _, 0, BitVec.ofNat 32 (F.DSI_COMMIT.GO.put 1
    ||| F.DSI_COMMIT.COMPOSE.put 1 ||| F.DSI_COMMIT.FLIP.put 0), rfl, by decide, by decide, rfl, rfl, rfl, rfl, rfl, rfl, by
    decide, by decide, by decide, by decide⟩,
    ⟨wSt ((wKz .ready)|>.setFld F.DSI_COMP1.W_M1 0 3), ⟨2000000, 6000000000⟩, _, 0, BitVec.ofNat 32 (F.DSI_COMMIT.GO.put 1
    ||| F.DSI_COMMIT.COMPOSE.put 1 ||| F.DSI_COMMIT.FLIP.put 1), rfl, by decide, by decide, rfl, rfl, rfl, rfl, rfl, rfl, by
    decide, by decide, by decide, by decide⟩,
    ⟨wSt ((wKz .ready)|> fun m => { m with dsi := { m.dsi with front := 1 } }|>.setFld F.DSI_COMP1.W_M1 0 3), ⟨2000000,
    6000000000⟩, _, 0, BitVec.ofNat 32 (F.DSI_COMMIT.GO.put 1 ||| F.DSI_COMMIT.COMPOSE.put 0 ||| F.DSI_COMMIT.FLIP.put 1),
    rfl, by decide, by decide, rfl, rfl, rfl, rfl, rfl, rfl, by decide, by decide, by decide, by decide, by decide⟩,
    ⟨wSt ((wKz .ready)|> fun m => { m with dsi := { m.dsi with state := .running, front := 1 } }|>.setFld F.DSI_COMP1.W_M1 0
    3), ⟨2000000, 6000000000⟩, _, 0, BitVec.ofNat 32 (F.DSI_COMMIT.GO.put 1 ||| F.DSI_COMMIT.COMPOSE.put 0 |||
    F.DSI_COMMIT.FLIP.put 1), rfl, by decide, by decide, rfl, rfl, rfl, rfl, rfl, rfl, by decide, by decide, by decide, by
    decide, by decide, rfl⟩,
    ⟨wSt ((wKz .ready)|> fun m => { m with dsi := { m.dsi with state := .running, edge := true, front := 1 } }|>.setFld
    F.DSI_COMP1.W_M1 0 3), ⟨2000000, 6000000000⟩, _, 0, BitVec.ofNat 32 (F.DSI_COMMIT.GO.put 1 ||| F.DSI_COMMIT.COMPOSE.put
    0 ||| F.DSI_COMMIT.FLIP.put 1), rfl, by decide, by decide, rfl, rfl, rfl, rfl, rfl, rfl, by decide, by decide, by
    decide, by decide, by decide, rfl⟩,
    ⟨wSt ((wKz .ready)|> fun m => { m with
      dsi := { m.dsi with pass := some ⟨0, 0x00010003, 0, [0xAB, 0xCD, 0x12, 0x34], false, 5000000000⟩ } }|> fun m => { m with
      maps := [(0, { cells := [(1, 1)] })] }), ⟨2000000, 6000000000⟩, _, ⟨0, 0x00010003, 0, [0xAB, 0xCD, 0x12, 0x34], false,
    5000000000⟩, rfl, by decide, by decide, rfl, rfl, rfl⟩,
    ⟨wSt ((wKz .ready)|> fun m => { m with
      dsi := { m.dsi with pass := some ⟨0, 0x00010003, 0, [0xAB, 0xCD, 0x12, 0x34], true, 5000000000⟩ } }|> fun m => { m with
      maps := [(0, { cells := [(1, 1)] })] }), ⟨2000000, 6000000000⟩, _, ⟨0, 0x00010003, 0, [0xAB, 0xCD, 0x12, 0x34], true,
    5000000000⟩, rfl, by decide, by decide, rfl, rfl, rfl, by decide⟩,
    ⟨wSt ((wKz .ready)|> fun m => { m with
      dsi := { m.dsi with state := .running, pass := some ⟨0, 0x00010003, 0, [0xAB, 0xCD, 0x12, 0x34], true, 5000000000⟩ } }|>
    fun m => { m with maps := [(0, { cells := [(1, 1)] })] }), ⟨2000000, 6000000000⟩, _, ⟨0, 0x00010003, 0, [0xAB, 0xCD,
    0x12, 0x34], true, 5000000000⟩, rfl, by decide, by decide, rfl, rfl, rfl, by decide, rfl⟩,
    ⟨wSt ((wKz .ready)|> fun m => { m with
      dsi := { m.dsi with
          state := .running,
          edge := true,
          pass := some ⟨0, 0x00010003, 0, [0xAB, 0xCD, 0x12, 0x34], true, 5000000000⟩ } }|> fun m => { m with
      maps := [(0, { cells := [(1, 1)] })] }), ⟨2000000, 6000000000⟩, _, ⟨0, 0x00010003, 0, [0xAB, 0xCD, 0x12, 0x34], true,
    5000000000⟩, rfl, by decide, by decide, rfl, rfl, rfl, by decide, rfl⟩,
    ⟨wSt ((wKz .ready)|> fun m => { m with
      dsi := { m.dsi with pass := some ⟨0, 0x00010003, 0, List.replicate 512 5, false, 5999999992⟩ } }|> fun m => { m with
      maps := [(0, { cells := [(1, 1)] })] }), ⟨2000000, 6000000000⟩, _, ⟨0, 0x00010003, 0, List.replicate 512 5, false,
    5999999992⟩, 1, 0, 1, rfl, by decide, by decide, rfl, rfl, by decide, by decide, by decide, rfl, by decide⟩,
    ⟨wSt ((wKz .ready)|> fun m => { m with dsi := { m.dsi with pass := some ⟨0, 0x00010003, 0, [], true, 5999999993⟩ } }),
    ⟨2000000, 6000000000⟩, _, rfl, by decide, rfl⟩,
    ⟨wSt ((wKz .ready)|> fun m => { m with dsi := { m.dsi with pass := some ⟨0, 0, 0, [], false, 0⟩ } }|>.modSess 0 (fun q
    => { q with
      running := some {
          seq := 4,
          tag := 9,
          req := .regWrite [(0x1234, 1)],
          via := {},
          wait := .compose,
          body := [],
          from_ := 1 } })), ⟨2000000, 6000000000⟩, _, 0, {
      seq := 4,
      tag := 9,
      req := .regWrite [(0x1234, 1)],
      via := {},
      wait := .compose,
      body := [],
      from_ := 1 }, ([(0x1234, 1)] : List (Word × Word)), rfl, by decide, rfl, rfl, rfl, rfl, by decide, by decide, rfl,
    rfl, rfl, by decide, by decide, rfl⟩,
    ⟨wSt ((wKz .ready)|> fun m => { m with dsi := { m.dsi with flipDatum := 4294967301 } }), ⟨2000000, 6000000000⟩, _, 0,
    rfl, by decide⟩⟩

/-- Witness of the hypotheses of SessionsAndLeases. -/
theorem witness_SessionsAndLeases :
  (∃ (s : State) (t : Stamp) (m : Kz) (h : Hdr), s.kz.advance t = m ∧ Runs m h (.nop)) ∧
  (∃ (s : State) (t : Stamp) (m : Kz) (h : Hdr) (lo : Byte) (hi : Byte) (x : Nat), s.kz.advance t = m ∧ Quiet m ∧ answers m
    h.port.val = true ∧ (m.port h.port.val).session.isOpen = false ∧ chooseVersion lo.toNat hi.toNat = some x) ∧
  (∃ (s : State) (t : Stamp) (m : Kz) (h : Hdr) (lo : Byte) (hi : Byte) (x : Nat), s.kz.advance t = m ∧ Quiet m ∧ answers m
    h.port.val = true ∧ (sess m h).isOpen = true ∧ (sess m h).origin = h.origin ∧ chooseVersion lo.toNat hi.toNat = some x) ∧
  (∃ (s : State) (t : Stamp) (m : Kz) (h : Hdr) (lo : Byte) (hi : Byte), s.kz.advance t = m ∧ Quiet m ∧ answers m h.port.val
    = true ∧ (sess m h).isOpen = false ∧ chooseVersion lo.toNat hi.toNat = none ∧ MayReject m h.port.val) ∧
  (∃ (s : State) (t : Stamp) (m : Kz) (h : Hdr), s.kz.advance t = m ∧ Quiet m ∧ answers m h.port.val = true ∧ (sess m
    h).isOpen = true ∧ (sess m h).origin ≠ h.origin ∧ MayReject m h.port.val) ∧
  (∃ (s : State) (t : Stamp) (m : Kz) (h : Hdr), s.kz.advance t = m ∧ Runs m h .closeSession) ∧
  (∃ (s : State) (t : Stamp) (m : Kz) (h : Hdr) (kind : Byte) (idx : BitVec 16) (l : Lease), s.kz.advance t = m ∧ Runs m h
    ((.leaseAcquire kind idx)) ∧ leaseOf kind.toNat idx.toNat (sess m h).version.toNat = some l ∧ heldElsewhere m h.port.val
    l = none) ∧
  (∃ (s : State) (t : Stamp) (m : Kz) (h : Hdr) (kind : Byte) (idx : BitVec 16) (l : Lease) (q : Nat), s.kz.advance t = m ∧
    Runs m h ((.leaseAcquire kind idx)) ∧ leaseOf kind.toNat idx.toNat (sess m h).version.toNat = some l ∧ heldElsewhere m
    h.port.val l = some q) ∧
  (∃ (s : State) (t : Stamp) (m : Kz) (h : Hdr) (kind : Byte) (idx : BitVec 16), s.kz.advance t = m ∧ Runs m h
    ((.leaseAcquire kind idx)) ∧ leaseOf kind.toNat idx.toNat (sess m h).version.toNat = none) ∧
  (∃ (s : State) (t : Stamp) (m : Kz) (h : Hdr) (kind : Byte) (idx : BitVec 16) (l : Lease), s.kz.advance t = m ∧ Runs m h
    ((.leaseRelease kind idx)) ∧ leaseOf kind.toNat idx.toNat (sess m h).version.toNat = some l) ∧
  (∃ (s : State) (t : Stamp) (m : Kz) (h : Hdr) (kind : Byte) (idx : BitVec 16), s.kz.advance t = m ∧ Runs m h
    ((.leaseRelease kind idx)) ∧ leaseOf kind.toNat idx.toNat (sess m h).version.toNat = none) ∧
  (∃ (s : State) (t : Stamp) (m : Kz) (h : Hdr) (kind : Byte) (idx : BitVec 16) (l : Lease), s.kz.advance t = m ∧ Runs m h
    ((.leaseQuery kind idx)) ∧ leaseOf kind.toNat idx.toNat (sess m h).version.toNat = some l) ∧
  (∃ (s : State) (t : Stamp) (m : Kz) (h : Hdr) (kind : Byte) (idx : BitVec 16), s.kz.advance t = m ∧ Runs m h ((.leaseQuery
    kind idx)) ∧ leaseOf kind.toNat idx.toNat (sess m h).version.toNat = none) ∧
  (∃ (s : State) (t : Stamp) (m : Kz) (h : Hdr) (mask : Word), s.kz.advance t = m ∧ Runs m h ((.subscribe mask))) ∧
  (∃ (s : State) (t : Stamp) (m : Kz) (h : Hdr) (code : BitVec 16) (body : List Byte), s.kz.advance t = m ∧ Runs m h
    ((.unknown code body))) :=
  ⟨
    ⟨wSt ((wKz .ready)), ⟨2000000, 6000000000⟩, _, ⟨0, .linkLocal, 7, 0x32, 1, 5, 9⟩, rfl, by decide⟩,
    ⟨wSt ((wKz .ready)), ⟨2000000, 6000000000⟩, _, ⟨1, .linkLocal, 9, 0x20, 0, 65535, 4⟩, 0x20, 0x31, 0x31, rfl, by decide,
    rfl, rfl, rfl⟩,
    ⟨wSt ((wKz .ready)|>.modSess 0 (fun q => { q with
      running := some { seq := 4, tag := 9, req := .nop, via := {}, wait := .boundary, body := [], from_ := 0 } })),
    ⟨2000000, 6000000000⟩, _, ⟨0, .linkLocal, 7, 0x20, 0, 9, 4⟩, 0x20, 0x31, 0x31, rfl, by decide, rfl, rfl, rfl, rfl⟩,
    ⟨wSt ((wKz .ready)), ⟨2000000, 6000000000⟩, _, ⟨1, .linkLocal, 9, 0x20, 0, 65535, 4⟩, 0x33, 0x40, rfl, by decide, rfl,
    rfl, rfl, by decide⟩,
    ⟨wSt ((wKz .ready)), ⟨2000000, 6000000000⟩, _, ⟨0, .linkLocal, 8, 0x32, 1, 5, 9⟩, rfl, by decide, rfl, rfl, by decide,
    by decide⟩,
    ⟨wSt ((wKz .ready)), ⟨2000000, 6000000000⟩, _, ⟨0, .linkLocal, 7, 0x32, 1, 5, 9⟩, rfl, by decide⟩,
    ⟨wSt ((wKz .ready)|>.modPort 1 (fun q => { q with
      link := true,
      sessionId := 3,
      session := { isOpen := true, origin := 9, version := 0x32, timeout := 10, leases := [.channel 33] } })), ⟨2000000,
    6000000000⟩, _, ⟨0, .linkLocal, 7, 0x32, 1, 5, 9⟩, 2, 191, .channel 191, rfl, by decide, rfl, rfl⟩,
    ⟨wSt ((wKz .ready)|>.modPort 1 (fun q => { q with
      link := true,
      sessionId := 3,
      session := { isOpen := true, origin := 9, version := 0x32, timeout := 10, leases := [.channel 33] } })), ⟨2000000,
    6000000000⟩, _, ⟨0, .linkLocal, 7, 0x32, 1, 5, 9⟩, 1, 2, .region 2, 1, rfl, by decide, rfl, rfl⟩,
    ⟨wSt ((wKz .ready)|>.modPort 1 (fun q => { q with
      link := true,
      sessionId := 3,
      session := { isOpen := true, origin := 9, version := 0x32, timeout := 10, leases := [.channel 33] } })), ⟨2000000,
    6000000000⟩, _, ⟨0, .linkLocal, 7, 0x32, 1, 5, 9⟩, 1, 12, rfl, by decide, rfl⟩,
    ⟨wSt ((wKz .ready)|>.modPort 1 (fun q => { q with
      link := true,
      sessionId := 3,
      session := { isOpen := true, origin := 9, version := 0x32, timeout := 10, leases := [.channel 33] } })), ⟨2000000,
    6000000000⟩, _, ⟨0, .linkLocal, 7, 0x32, 1, 5, 9⟩, 0, 0, .module, rfl, by decide, rfl⟩,
    ⟨wSt ((wKz .ready)|>.modPort 1 (fun q => { q with
      link := true,
      sessionId := 3,
      session := { isOpen := true, origin := 9, version := 0x32, timeout := 10, leases := [.channel 33] } })), ⟨2000000,
    6000000000⟩, _, ⟨0, .linkLocal, 7, 0x32, 1, 5, 9⟩, 0, 1, rfl, by decide, rfl⟩,
    ⟨wSt ((wKz .ready)|>.modSess 0 (fun q => { q with leases := [] })|>.modPort 1 (fun q => { q with
      link := true,
      sessionId := 3,
      session := { isOpen := true, origin := 9, version := 0x32, timeout := 10, leases := [.channel 33] } })), ⟨2000000,
    6000000000⟩, _, ⟨0, .linkLocal, 7, 0x32, 1, 5, 9⟩, 2, 33, .channel 33, rfl, by decide, rfl⟩,
    ⟨wSt ((wKz .ready)|>.modPort 1 (fun q => { q with
      link := true,
      sessionId := 3,
      session := { isOpen := true, origin := 9, version := 0x32, timeout := 10, leases := [.channel 33] } })), ⟨2000000,
    6000000000⟩, _, ⟨0, .linkLocal, 7, 0x32, 1, 5, 9⟩, 3, 1, rfl, by decide, rfl⟩,
    ⟨wSt ((wKz .ready)), ⟨2000000, 6000000000⟩, _, ⟨0, .linkLocal, 7, 0x32, 1, 5, 9⟩, 0x30, rfl, by decide⟩,
    ⟨wSt ((wKz .ready)), ⟨2000000, 6000000000⟩, _, ⟨0, .linkLocal, 7, 0x32, 1, 5, 9⟩, 0x99, ([1] : List Byte), rfl, by
    decide⟩⟩

set_option maxRecDepth 20000 in
/-- Witness of the hypotheses of RegisterRequests. -/
theorem witness_RegisterRequests :
  (∃ (s : State) (t : Stamp) (m : Kz) (h : Hdr) (addrs : List Word) (b : List Byte) (j : Nat) (x : Kz), s.kz.advance t = m ∧
    Runs m h (.regRead addrs) ∧ readGo (started m h (.regRead addrs)) 0 [] (addrs.map (fun z => z.toNat)) = (⟨done, b, j⟩,
    x)) ∧
  (∃ (s : State) (t : Stamp) (m : Kz) (h : Hdr) (addrs : List Word) (b : List Byte) (j : Nat) (x : Kz), s.kz.advance t = m ∧
    Runs m h (.regRead addrs) ∧ readGo (started m h (.regRead addrs)) 0 [] (addrs.map (fun z => z.toNat)) = (⟨.done {
      status := .badAddress,
      detail := ⟨3, j⟩ }, b, j⟩, x)) ∧
  (∃ (s : State) (t : Stamp) (m : Kz) (h : Hdr) (addr : Word) (count : BitVec 16) (b : List Byte) (j : Nat) (x : Kz),
    s.kz.advance t = m ∧ Runs m h (.blockRead addr count) ∧ readGo (started m h (.blockRead addr count)) 0 [] ((upTo
    count.toNat).map (fun z => addr.toNat + 4 * z)) = (⟨done, b, j⟩, x)) ∧
  (∃ (s : State) (t : Stamp) (m : Kz) (h : Hdr) (addr : Word) (count : BitVec 16) (b : List Byte) (j : Nat) (x : Kz),
    s.kz.advance t = m ∧ Runs m h (.blockRead addr count) ∧ readGo (started m h (.blockRead addr count)) 0 [] ((upTo
    count.toNat).map (fun z => addr.toNat + 4 * z)) = (⟨.done { status := .badAddress, detail := ⟨3, j⟩ }, b, j⟩, x)) ∧
  (∃ (s : State) (t : Stamp) (m : Kz) (h : Hdr) (pairs : List (Word × Word)) (j : Nat) (x : Kz), s.kz.advance t = m ∧ Runs m
    h (.regWrite pairs) ∧ writeGo (started m h (.regWrite pairs)) (sess m h).leases 0 pairs = (⟨done, [], j⟩, x) ∧
    x.pwr.state ≠ .off ∧ Quiet x ∧ x.ports = (started m h (.regWrite pairs)).ports ∧ x.wire = m.wire) ∧
  (∃ (s : State) (t : Stamp) (m : Kz) (h : Hdr) (pairs : List (Word × Word)) (a : Word) (v : Word) (k : RegKind) (i : Nat),
    s.kz.advance t = m ∧ Runs m h (.regWrite pairs) ∧ pairs = [(a, v)] ∧ placeOf a.toNat = some (.reg k i) ∧ k ∈
    [.HK_XCHK_CFG, .CH_TRIG_HOLD, .CH_REC_WIN, .CH_MASK_CTRL, .RGN_PATTERN, .MOD_XTRIG_CTRL] ∧ restartOf m a.toNat = none ∧
    covers (sess m h).leases (leaseFor a.toNat) = true ∧ lockedOut m k i v = false ∧ regCheck m k i v = none) ∧
  (∃ (s : State) (t : Stamp) (m : Kz) (h : Hdr) (addrs : List Word) (a : Word) (x : Place), s.kz.advance t = m ∧ Runs m h
    (.regRead addrs) ∧ addrs = [a] ∧ placeOf a.toNat = some x ∧ restartOf m a.toNat = none) ∧
  (∃ (s : State) (t : Stamp) (m : Kz) (h : Hdr) (a : Word) (count : BitVec 16) (x : Place), s.kz.advance t = m ∧ Runs m h
    (.blockRead a count) ∧ count = 1 ∧ placeOf a.toNat = some x ∧ restartOf m a.toNat = none) ∧
  (∃ (s : State) (t : Stamp) (m : Kz) (h : Hdr) (pairs : List (Word × Word)) (j : Nat) (x : Kz) (st : Status), s.kz.advance
    t = m ∧ Runs m h (.regWrite pairs) ∧ writeGo (started m h (.regWrite pairs)) (sess m h).leases 0 pairs = (⟨.done {
      status := st,
      detail := ⟨3, j⟩ }, [], j⟩, x) ∧ st ≠ .ok ∧ Quiet x ∧ x.ports = (started m h (.regWrite pairs)).ports ∧ x.wire =
    m.wire) ∧
  (∃ (s : State) (t : Stamp) (m : Kz) (h : Hdr) (kind : Byte) (idx : BitVec 16), s.kz.advance t = m ∧ Runs m h ((.commit
    kind idx)) ∧ kind = 0 ∧ m.regs.modPend = true ∧ covers (sess m h).leases .module = true ∧ m.dsi.state = .off) ∧
  (∃ (s : State) (t : Stamp) (m : Kz) (h : Hdr) (kind : Byte) (idx : BitVec 16), s.kz.advance t = m ∧ Runs m h ((.commit
    kind idx)) ∧ kind = 0 ∧ m.regs.modPend = true ∧ covers (sess m h).leases .module = true ∧ m.dsi.state ≠ .off ∧ timingOk
    (m.on F.DSI_CTRL.MODE 0) (stagedTiming m) = true) ∧
  (∃ (s : State) (t : Stamp) (m : Kz) (h : Hdr) (kind : Byte) (idx : BitVec 16), s.kz.advance t = m ∧ Runs m h ((.commit
    kind idx)) ∧ kind = 0 ∧ m.regs.modPend = true ∧ covers (sess m h).leases .module = true ∧ m.dsi.state ≠ .off ∧ timingOk
    (m.on F.DSI_CTRL.MODE 0) (stagedTiming m) = false) ∧
  (∃ (s : State) (t : Stamp) (m : Kz) (h : Hdr) (kind : Byte) (idx : BitVec 16), s.kz.advance t = m ∧ Runs m h ((.commit
    kind idx)) ∧ (blockLease kind.toNat idx.toNat).any (fun z => covers (sess m h).leases z) = true ∧ (kind ≠ 0 ∨
    m.regs.modPend = false)) ∧
  (∃ (s : State) (t : Stamp) (m : Kz) (h : Hdr) (kind : Byte) (idx : BitVec 16), s.kz.advance t = m ∧ Runs m h ((.commit
    kind idx)) ∧ (blockLease kind.toNat idx.toNat).any (fun z => !covers (sess m h).leases z) = true) :=
  ⟨
    ⟨wSt ((wKz .ready)), ⟨2000000, 6000000000⟩, _, ⟨0, .linkLocal, 7, 0x32, 1, 5, 9⟩, ([0x408, 0x400] : List Word), ([0, 0,
    0, 1, 0, 0, 0, 0] : List Byte), 2, (readGo (started (Kz.advance (State.kz (wSt ((wKz .ready)))) ⟨2000000, 6000000000⟩)
    (⟨0, .linkLocal, 7, 0x32, 1, 5, 9⟩) (.regRead (([0x408, 0x400] : List Word)))) 0 [] ((([0x408, 0x400] : List Word)).map
    (fun z => z.toNat))).2, rfl, by decide, rfl⟩,
    ⟨wSt ((wKz .ready)), ⟨2000000, 6000000000⟩, _, ⟨0, .linkLocal, 7, 0x32, 1, 5, 9⟩, ([0x400, 0x03000000] : List Word),
    ([0, 0, 0, 0] : List Byte), 1, (readGo (started (Kz.advance (State.kz (wSt ((wKz .ready)))) ⟨2000000, 6000000000⟩) (⟨0,
    .linkLocal, 7, 0x32, 1, 5, 9⟩) (.regRead (([0x400, 0x03000000] : List Word)))) 0 [] ((([0x400, 0x03000000] : List
    Word)).map (fun z => z.toNat))).2, rfl, by decide, rfl⟩,
    ⟨wSt ((wKz .ready)), ⟨2000000, 6000000000⟩, _, ⟨0, .linkLocal, 7, 0x32, 1, 5, 9⟩, 0x400, 1, ([0, 0, 0, 0] : List Byte),
    1, (readGo (started (Kz.advance (State.kz (wSt ((wKz .ready)))) ⟨2000000, 6000000000⟩) (⟨0, .linkLocal, 7, 0x32, 1, 5,
    9⟩) (.blockRead (0x400 : Word) (1 : BitVec 16))) 0 [] ((upTo (1 : BitVec 16).toNat).map (fun z => (0x400 : Word).toNat +
    4 * z))).2, rfl, by decide, rfl⟩,
    ⟨wSt ((wKz .ready)), ⟨2000000, 6000000000⟩, _, ⟨0, .linkLocal, 7, 0x32, 1, 5, 9⟩, 0x01BFFFFC, 2, ([0, 0, 0, 0] : List
    Byte), 1, (readGo (started (Kz.advance (State.kz (wSt ((wKz .ready)))) ⟨2000000, 6000000000⟩) (⟨0, .linkLocal, 7, 0x32,
    1, 5, 9⟩) (.blockRead (0x01BFFFFC : Word) (2 : BitVec 16))) 0 [] ((upTo (2 : BitVec 16).toNat).map (fun z => (0x01BFFFFC
    : Word).toNat + 4 * z))).2, rfl, by decide, rfl⟩,
    ⟨wSt ((wKz .ready)), ⟨2000000, 6000000000⟩, _, ⟨0, .linkLocal, 7, 0x32, 1, 5, 9⟩, ([((BitVec.ofNat 32 (RegKind.addr
    .HK_XCHK_CFG 0)), 0x64)] : List (Word × Word)), 1, (writeGo (started (Kz.advance (State.kz (wSt ((wKz .ready))))
    ⟨2000000, 6000000000⟩) ⟨0, .linkLocal, 7, 0x32, 1, 5, 9⟩ (.regWrite [((BitVec.ofNat 32 (RegKind.addr .HK_XCHK_CFG 0)),
    0x64)])) wSess.leases 0 [((BitVec.ofNat 32 (RegKind.addr .HK_XCHK_CFG 0)), 0x64)]).2, rfl, by decide, rfl, by decide, by
    decide, rfl, rfl⟩,
    ⟨wSt ((wKz .ready)), ⟨2000000, 6000000000⟩, _, ⟨0, .linkLocal, 7, 0x32, 1, 5, 9⟩, ([((BitVec.ofNat 32 (RegKind.addr
    .HK_XCHK_CFG 0)), 0x64)] : List (Word × Word)), (BitVec.ofNat 32 (RegKind.addr .HK_XCHK_CFG 0)), 0x64, .HK_XCHK_CFG, 0,
    rfl, by decide, rfl, rfl, by decide, rfl, rfl, rfl, rfl⟩,
    ⟨wSt ((wKz .ready)), ⟨2000000, 6000000000⟩, _, ⟨0, .linkLocal, 7, 0x32, 1, 5, 9⟩, ([0x40C] : List Word), 0x40C, .reg
    .TIM_HEARTH_TRIM 0, rfl, by decide, rfl, rfl, rfl⟩,
    ⟨wSt ((wKz .ready)), ⟨2000000, 6000000000⟩, _, ⟨0, .linkLocal, 7, 0x32, 1, 5, 9⟩, 0x400, 1, .reg .TIM_MODE 0, rfl, by
    decide, rfl, rfl, rfl⟩,
    ⟨wSt ((wKz .ready)), ⟨2000000, 6000000000⟩, _, ⟨0, .linkLocal, 7, 0x32, 1, 5, 9⟩, ([((BitVec.ofNat 32 (RegKind.addr
    .HK_XCHK_CFG 0)), 0x64), (0x00B00000, 1)] : List (Word × Word)), 1, (writeGo (started (Kz.advance (State.kz (wSt ((wKz
    .ready)))) ⟨2000000, 6000000000⟩) ⟨0, .linkLocal, 7, 0x32, 1, 5, 9⟩ (.regWrite [((BitVec.ofNat 32 (RegKind.addr
    .HK_XCHK_CFG 0)), 0x64), (0x00B00000, 1)])) wSess.leases 0 [((BitVec.ofNat 32 (RegKind.addr .HK_XCHK_CFG 0)), 0x64),
    (0x00B00000, 1)]).2, .badAddress, rfl, by decide, rfl, by decide, by decide, rfl, rfl⟩,
    ⟨wSt ((wKz .ready)|> fun m => { m with
      regs := { m.regs with staged := [(RegKind.addr .DSI_HTIM0 0, 0x0F0)], modPend := true } }), ⟨2000000, 6000000000⟩, _,
    ⟨0, .linkLocal, 7, 0x32, 1, 5, 9⟩, 0, 0, rfl, by decide, rfl, rfl, rfl, rfl⟩,
    ⟨wSt ((wKz .ready)|> fun m => { m with
      dsi := { m.dsi with state := .running },
      regs := { m.regs with staged := [(RegKind.addr .DSI_CMDP 0, 20000)], modPend := true } }), ⟨2000000, 6000000000⟩, _,
    ⟨0, .linkLocal, 7, 0x32, 1, 5, 9⟩, 0, 0, rfl, by decide, rfl, rfl, rfl, by decide, rfl⟩,
    ⟨wSt ((wKz .ready)|> fun m => { m with
      regs := { m.regs with staged := [(RegKind.addr .DSI_HTIM0 0, 0x0F0)], modPend := true } }|> fun m => { m with
      dsi := { m.dsi with state := .running } }), ⟨2000000, 6000000000⟩, _, ⟨0, .linkLocal, 7, 0x32, 1, 5, 9⟩, 0, 0, rfl, by
    decide, rfl, rfl, rfl, by decide, rfl⟩,
    ⟨wSt ((wKz .ready)|> fun m => { m with
      regs := { m.regs with staged := [(RegKind.addr .DSI_HTIM0 0, 0x0F0)], modPend := true } }), ⟨2000000, 6000000000⟩, _,
    ⟨0, .linkLocal, 7, 0x32, 1, 5, 9⟩, 2, 7, rfl, by decide, rfl, by decide⟩,
    ⟨wSt ((wKz .ready)|>.modSess 0 (fun q => { q with leases := [.module] })), ⟨2000000, 6000000000⟩, _, ⟨0, .linkLocal, 7,
    0x32, 1, 5, 9⟩, 1, 7, rfl, by decide, rfl⟩⟩

set_option maxRecDepth 20000 in
/-- Witness of the hypotheses of ModuleAndRegionStates. -/
theorem witness_ModuleAndRegionStates :
  (∃ (s : State) (t : Stamp) (m : Kz) (h : Hdr) (target : Byte), s.kz.advance t = m ∧ Runs m h (.moduleState target) ∧
    (m.pwr.state, target) ∈ ([(.standby, 3), (.ready, 4), (.acquire, 5), (.hold, 6)] : List (ModState × Byte))) ∧
  (∃ (s : State) (t : Stamp) (m : Kz) (h : Hdr) (target : Byte), s.kz.advance t = m ∧ Runs m h (.moduleState target) ∧
    m.pwr.state = .standby ∧ target = 4) ∧
  (∃ (s : State) (t : Stamp) (m : Kz) (h : Hdr) (target : Byte), s.kz.advance t = m ∧ Runs m h (.moduleState target) ∧
    m.pwr.state = .ready ∧ target = 5 ∧ m.anyRgn (fun z => decide (z = .cal)) = false) ∧
  (∃ (s : State) (t : Stamp) (m : Kz) (h : Hdr) (target : Byte), s.kz.advance t = m ∧ Runs m h (.moduleState target) ∧
    m.pwr.state = .ready ∧ target = 3 ∧ m.anyRgn (fun z => decide (z = .cal)) = false) ∧
  (∃ (s : State) (t : Stamp) (m : Kz) (h : Hdr) (target : Byte), s.kz.advance t = m ∧ Runs m h (.moduleState target) ∧
    m.pwr.state = .acquire ∧ target = 4 ∧ m.anyRgn (fun z => decide (z = .run)) = false) ∧
  (∃ (s : State) (t : Stamp) (m : Kz) (h : Hdr) (target : Byte), s.kz.advance t = m ∧ Runs m h (.moduleState target) ∧
    (m.pwr.state = .standby ∨ m.pwr.state = .ready ∨ m.pwr.state = .acquire) ∧ target = 6) ∧
  (∃ (s : State) (t : Stamp) (m : Kz) (h : Hdr) (target : Byte), s.kz.advance t = m ∧ Runs m h (.moduleState target) ∧
    ((m.pwr.state, target) ∈ ([(.standby, 5), (.ready, 0), (.ready, 1), (.acquire, 3), (.standby, 2), (.hold, 4), (.hold,
    5), (.acquire, 0)] : List (ModState × Byte)) ∨ (m.pwr.state = .ready ∧ (target = 5 ∨ target = 3) ∧ m.anyRgn (fun z =>
    decide (z = .cal)) = true) ∨ (m.pwr.state = .acquire ∧ target = 4 ∧ m.anyRgn (fun z => decide (z = .run)) = true))) ∧
  (∃ (s : State) (t : Stamp) (m : Kz) (h : Hdr) (target : Byte), s.kz.advance t = m ∧ Runs m h (.moduleState target) ∧ 6 <
    target.toNat) ∧
  (∃ (s : State) (t : Stamp) (m : Kz) (h : Hdr) (target : Byte), s.kz.advance t = m ∧ Runs m h (.moduleState target) ∧
    m.pwr.state = .hold ∧ target = 3 ∧ (m.pwr.ovNow = true ∨ m.pwr.thermNow = true ∨ m.errs.fatal = true)) ∧
  (∃ (s : State) (t : Stamp) (m : Kz) (h : Hdr) (target : Byte) (k : Nat), s.kz.advance t = m ∧ Runs m h (.moduleState
    target) ∧ m.pwr.state = .hold ∧ target = 3 ∧ m.pwr.ovNow = false ∧ m.pwr.thermNow = false ∧ m.errs.fatal = false ∧ (upTo
    12).find? (fun z => decide (m.rstate z = .hold) && rgnTripped m z) = some k) ∧
  (∃ (s : State) (t : Stamp) (m : Kz) (h : Hdr) (target : Byte), s.kz.advance t = m ∧ Runs m h (.moduleState target) ∧
    m.pwr.state = .hold ∧ target = 3 ∧ m.pwr.ovNow = false ∧ m.pwr.thermNow = false ∧ m.errs.fatal = false ∧ (upTo 12).find?
    (fun z => decide (m.rstate z = .hold) && rgnTripped m z) = none) ∧
  (∃ (s : State) (t : Stamp) (m : Kz) (h : Hdr) (region : Byte) (target : Byte), s.kz.advance t = m ∧ Runs m h (.regionState
    region target) ∧ target = 1 ∧ (m.rgn region.toNat).pwr.state = .idle) ∧
  (∃ (s : State) (t : Stamp) (m : Kz) (h : Hdr) (region : Byte) (target : Byte), s.kz.advance t = m ∧ Runs m h (.regionState
    region target) ∧ target = 0 ∧ (m.rgn region.toNat).pwr.state = .down) ∧
  (∃ (s : State) (t : Stamp) (m : Kz) (h : Hdr) (region : Byte) (target : Byte), s.kz.advance t = m ∧ Runs m h (.regionState
    region target) ∧ target = 2 ∧ (m.rgn region.toNat).pwr.state = .cal) ∧
  (∃ (s : State) (t : Stamp) (m : Kz) (h : Hdr) (region : Byte) (target : Byte), s.kz.advance t = m ∧ Runs m h (.regionState
    region target) ∧ target = 3 ∧ (m.rgn region.toNat).pwr.state = .run) ∧
  (∃ (s : State) (t : Stamp) (m : Kz) (h : Hdr) (region : Byte) (target : Byte), s.kz.advance t = m ∧ Runs m h (.regionState
    region target) ∧ target = 4 ∧ (m.rgn region.toNat).pwr.state = .hold) ∧
  (∃ (s : State) (t : Stamp) (m : Kz) (h : Hdr) (region : Byte) (target : Byte), s.kz.advance t = m ∧ Runs m h (.regionState
    region target) ∧ target = 1 ∧ (m.rgn region.toNat).pwr.state = .down ∧ (m.pwr.state = .standby ∨ m.pwr.state = .ready ∨
    m.pwr.state = .acquire)) ∧
  (∃ (s : State) (t : Stamp) (m : Kz) (h : Hdr) (region : Byte) (target : Byte), s.kz.advance t = m ∧ Runs m h (.regionState
    region target) ∧ target = 0 ∧ (m.rgn region.toNat).pwr.state = .idle) ∧
  (∃ (s : State) (t : Stamp) (m : Kz) (h : Hdr) (region : Byte) (target : Byte), s.kz.advance t = m ∧ Runs m h (.regionState
    region target) ∧ target = 0 ∧ (m.rgn region.toNat).pwr.state = .hold ∧ m.pwr.state ≠ .hold ∧ rgnTripped m region.toNat =
    false) ∧
  (∃ (s : State) (t : Stamp) (m : Kz) (h : Hdr) (region : Byte) (target : Byte), s.kz.advance t = m ∧ Runs m h (.regionState
    region target) ∧ target = 2 ∧ (m.rgn region.toNat).pwr.state = .idle ∧ (m.rgn region.toNat).pwr.draining = false ∧
    (m.pwr.state = .ready ∨ m.pwr.state = .acquire) ∧ m.tb.tb ≠ .switching ∧ (m.on F.MOD_AGE_CTRL.EN_WEAR 0 = false ∨ (∀ c :
    Nat, c < 192 → Sparse.get 0 m.age.wear c = 0))) ∧
  (∃ (s : State) (t : Stamp) (m : Kz) (h : Hdr) (region : Byte) (target : Byte), s.kz.advance t = m ∧ Runs m h (.regionState
    region target) ∧ target = 3 ∧ (m.rgn region.toNat).pwr.state = .idle ∧ (m.rgn region.toNat).pwr.draining = false ∧
    runChecks m region.toNat = none) ∧
  (∃ (s : State) (t : Stamp) (m : Kz) (h : Hdr) (region : Byte) (target : Byte) (r : Refuse), s.kz.advance t = m ∧ Runs m h
    (.regionState region target) ∧ target = 3 ∧ (m.rgn region.toNat).pwr.state = .idle ∧ (m.rgn region.toNat).pwr.draining =
    false ∧ runChecks m region.toNat = some r ∧ r.status ≠ .ok) ∧
  (∃ (s : State) (t : Stamp) (m : Kz) (h : Hdr) (region : Byte) (target : Byte), s.kz.advance t = m ∧ Runs m h (.regionState
    region target) ∧ target = 1 ∧ (m.rgn region.toNat).pwr.state = .run) ∧
  (∃ (s : State) (t : Stamp) (m : Kz) (h : Hdr) (region : Byte) (target : Byte), s.kz.advance t = m ∧ Runs m h (.regionState
    region target) ∧ target = 1 ∧ (m.rgn region.toNat).pwr.state = .hold ∧ m.pwr.state ≠ .hold ∧ (m.rgn
    region.toNat).pwr.draining = false ∧ rgnTripped m region.toNat = false) ∧
  (∃ (s : State) (t : Stamp) (m : Kz) (h : Hdr) (region : Byte) (target : Byte), s.kz.advance t = m ∧ Runs m h (.regionState
    region target) ∧ target = 1 ∧ (m.rgn region.toNat).pwr.state = .hold ∧ (m.rgn region.toNat).pwr.draining = false ∧
    m.pwr.state ≠ .hold ∧ rgnTripped m region.toNat = true) ∧
  (∃ (s : State) (t : Stamp) (m : Kz) (h : Hdr) (region : Byte) (target : Byte), s.kz.advance t = m ∧ Runs m h (.regionState
    region target) ∧ target = 2 ∧ (m.rgn region.toNat).pwr.state = .idle ∧ ((m.rgn region.toNat).pwr.draining = true ∨
    m.pwr.state = .standby ∨ m.pwr.state = .hold)) ∧
  (∃ (s : State) (t : Stamp) (m : Kz) (h : Hdr) (region : Byte) (target : Byte), s.kz.advance t = m ∧ Runs m h (.regionState
    region target) ∧ target = 2 ∧ (m.rgn region.toNat).pwr.state = .idle ∧ (m.rgn region.toNat).pwr.draining = false ∧
    (m.pwr.state = .ready ∨ m.pwr.state = .acquire) ∧ m.tb.tb = .switching) ∧
  (∃ (s : State) (t : Stamp) (m : Kz) (h : Hdr) (region : Byte) (target : Byte), s.kz.advance t = m ∧ Runs m h (.regionState
    region target) ∧ ((m.rstate region.toNat, target) ∈ ([(.down, 2), (.down, 3), (.down, 4), (.cal, 0), (.cal, 1), (.cal,
    3), (.run, 0), (.run, 2), (.hold, 2), (.hold, 3), (.idle, 4)] : List (RgnState × Byte)) ∨ (m.pwr.state = .hold ∧
    m.rstate region.toNat = .hold ∧ (target = 0 ∨ target = 1)))) ∧
  (∃ (s : State) (t : Stamp) (m : Kz) (h : Hdr) (region : Byte) (target : Byte), s.kz.advance t = m ∧ Runs m h (.regionState
    region target) ∧ 4 < target.toNat) :=
  ⟨
    ⟨wSt ((wKz .standby)), ⟨2000000, 6000000000⟩, _, ⟨0, .linkLocal, 7, 0x32, 1, 5, 9⟩, 3, rfl, by decide, by decide⟩,
    ⟨wSt ((wKz .standby)), ⟨2000000, 6000000000⟩, _, ⟨0, .linkLocal, 7, 0x32, 1, 5, 9⟩, 4, rfl, by decide, rfl, rfl⟩,
    ⟨wSt ((wKz .ready)), ⟨2000000, 6000000000⟩, _, ⟨0, .linkLocal, 7, 0x32, 1, 5, 9⟩, 5, rfl, by decide, rfl, rfl, rfl⟩,
    ⟨wSt ((wKz .ready)), ⟨2000000, 6000000000⟩, _, ⟨0, .linkLocal, 7, 0x32, 1, 5, 9⟩, 3, rfl, by decide, rfl, rfl, rfl⟩,
    ⟨wSt ((wKz .acquire)|>.modPwr 1 (fun p => { p with state := .cal })), ⟨2000000, 6000000000⟩, _, ⟨0, .linkLocal, 7, 0x32,
    1, 5, 9⟩, 4, rfl, by decide, rfl, rfl, rfl⟩,
    ⟨wSt ((wKz .acquire)|>.modPwr 1 (fun p => { p with state := .run })|>.modPwr 2 (fun p => { p with starting := true })),
    ⟨2000000, 6000000000⟩, _, ⟨0, .linkLocal, 7, 0x32, 1, 5, 9⟩, 6, rfl, by decide, by decide, rfl⟩,
    ⟨wSt ((wKz .hold)|>.modPwr 1 (fun p => { p with state := .cal })), ⟨2000000, 6000000000⟩, _, ⟨0, .linkLocal, 7, 0x32, 1,
    5, 9⟩, 4, rfl, by decide, by decide⟩,
    ⟨wSt ((wKz .ready)), ⟨2000000, 6000000000⟩, _, ⟨0, .linkLocal, 7, 0x32, 1, 5, 9⟩, 7, rfl, by decide, by decide⟩,
    ⟨wSt ((wKz .hold)|> fun m => { m with errs := ⟨true, 2⟩ }), ⟨2000000, 6000000000⟩, _, ⟨0, .linkLocal, 7, 0x32, 1, 5, 9⟩,
    3, rfl, by decide, rfl, rfl, by decide⟩,
    ⟨wSt ((wKz .hold)|>.modPwr 2 (fun p => { p with state := .hold, causeRail := true, railNow := true })), ⟨2000000,
    6000000000⟩, _, ⟨0, .linkLocal, 7, 0x32, 1, 5, 9⟩, 3, 2, rfl, by decide, rfl, rfl, rfl, rfl, rfl, rfl⟩,
    ⟨wSt ((wKz .hold)|>.modPwr 2 (fun p => { p with state := .hold, causeModule := true, causeRail := true })), ⟨2000000,
    6000000000⟩, _, ⟨0, .linkLocal, 7, 0x32, 1, 5, 9⟩, 3, rfl, by decide, rfl, rfl, rfl, rfl, rfl, rfl⟩,
    ⟨wSt ((wKz .ready)|>.modPwr 1 (fun p => { p with state := .idle })), ⟨2000000, 6000000000⟩, _, ⟨0, .linkLocal, 7, 0x32,
    1, 5, 9⟩, 1, 1, rfl, by decide, rfl, rfl⟩,
    ⟨wSt ((wKz .ready)), ⟨2000000, 6000000000⟩, _, ⟨0, .linkLocal, 7, 0x32, 1, 5, 9⟩, 1, 0, rfl, by decide, rfl, rfl⟩,
    ⟨wSt ((wKz .ready)|>.modPwr 1 (fun p => { p with state := .cal })), ⟨2000000, 6000000000⟩, _, ⟨0, .linkLocal, 7, 0x32,
    1, 5, 9⟩, 1, 2, rfl, by decide, rfl, rfl⟩,
    ⟨wSt ((wKz .acquire)|>.modPwr 1 (fun p => { p with state := .run })), ⟨2000000, 6000000000⟩, _, ⟨0, .linkLocal, 7, 0x32,
    1, 5, 9⟩, 1, 3, rfl, by decide, rfl, rfl⟩,
    ⟨wSt ((wKz .acquire)|>.modPwr 1 (fun p => { p with state := .hold })), ⟨2000000, 6000000000⟩, _, ⟨0, .linkLocal, 7,
    0x32, 1, 5, 9⟩, 1, 4, rfl, by decide, rfl, rfl⟩,
    ⟨wSt ((wKz .standby)), ⟨2000000, 6000000000⟩, _, ⟨0, .linkLocal, 7, 0x32, 1, 5, 9⟩, 1, 1, rfl, by decide, rfl, rfl, by
    decide⟩,
    ⟨wSt ((wKz .standby)|>.modPwr 1 (fun p => { p with state := .idle })), ⟨2000000, 6000000000⟩, _, ⟨0, .linkLocal, 7,
    0x32, 1, 5, 9⟩, 1, 0, rfl, by decide, rfl, rfl⟩,
    ⟨wSt ((wKz .standby)|>.modPwr 1 (fun p => { p with state := .hold, causeRail := true })), ⟨2000000, 6000000000⟩, _, ⟨0,
    .linkLocal, 7, 0x32, 1, 5, 9⟩, 1, 0, rfl, by decide, rfl, rfl, by decide, rfl⟩,
    ⟨wSt ((wKz .ready)|>.modPwr 1 (fun p => { p with state := .idle })|>.modTb (fun b => { b with tb := .tracking })),
    ⟨2000000, 6000000000⟩, _, ⟨0, .linkLocal, 7, 0x32, 1, 5, 9⟩, 1, 2, rfl, by decide, rfl, rfl, rfl, by decide, by decide,
    by decide⟩,
    ⟨wSt ((wKz .acquire)|>.modPwr 1 (fun p => { p with state := .idle })|>.modTb (fun b => { b with tb := .tracking })
    |>.setFld F.RGN_RO_CTRL.LANE_EN 1 1), ⟨2000000, 6000000000⟩, _, ⟨0, .linkLocal, 7, 0x32, 1, 5, 9⟩, 1, 3, rfl, by decide,
    rfl, rfl, rfl, rfl⟩,
    ⟨wSt ((wKz .acquire)|>.modPwr 1 (fun p => { p with state := .idle })|>.modTb (fun b => { b with tb := .tracking })
    |>.eachChan 1 (fun m c => m.modConv c (fun v => { v with calDue := true }))), ⟨2000000, 6000000000⟩, _, ⟨0, .linkLocal,
    7, 0x32, 1, 5, 9⟩, 1, 3, ⟨.calDue, ⟨1, 16⟩⟩, rfl, by decide, rfl, rfl, rfl, rfl, by decide⟩,
    ⟨wSt ((wKz .acquire)|>.modPwr 1 (fun p => { p with state := .run })), ⟨2000000, 6000000000⟩, _, ⟨0, .linkLocal, 7, 0x32,
    1, 5, 9⟩, 1, 1, rfl, by decide, rfl, rfl⟩,
    ⟨wSt ((wKz .standby)|>.modPwr 1 (fun p => { p with state := .hold, causeRail := true })), ⟨2000000, 6000000000⟩, _, ⟨0,
    .linkLocal, 7, 0x32, 1, 5, 9⟩, 1, 1, rfl, by decide, rfl, rfl, by decide, rfl, rfl⟩,
    ⟨wSt ((wKz .standby)|>.modPwr 1 (fun p => { p with state := .hold, causeRail := true, railNow := true })), ⟨2000000,
    6000000000⟩, _, ⟨0, .linkLocal, 7, 0x32, 1, 5, 9⟩, 1, 1, rfl, by decide, rfl, rfl, rfl, by decide, rfl⟩,
    ⟨wSt ((wKz .standby)|>.modPwr 1 (fun p => { p with state := .idle })), ⟨2000000, 6000000000⟩, _, ⟨0, .linkLocal, 7,
    0x32, 1, 5, 9⟩, 1, 2, rfl, by decide, rfl, rfl, by decide⟩,
    ⟨wSt ((wKz .ready)|>.modPwr 1 (fun p => { p with state := .idle })), ⟨2000000, 6000000000⟩, _, ⟨0, .linkLocal, 7, 0x32,
    1, 5, 9⟩, 1, 2, rfl, by decide, rfl, rfl, rfl, by decide, rfl⟩,
    ⟨wSt ((wKz .hold)|>.modPwr 1 (fun p => { p with state := .hold, causeRail := true })), ⟨2000000, 6000000000⟩, _, ⟨0,
    .linkLocal, 7, 0x32, 1, 5, 9⟩, 1, 1, rfl, by decide, by decide⟩,
    ⟨wSt ((wKz .ready)), ⟨2000000, 6000000000⟩, _, ⟨0, .linkLocal, 7, 0x32, 1, 5, 9⟩, 1, 5, rfl, by decide, by decide⟩⟩

set_option maxRecDepth 20000 in
/-- Witness of the hypotheses of RestartBoundaryAndLoadCommands. -/
theorem witness_RestartBoundaryAndLoadCommands :
  (∃ (s : State) (t : Stamp) (m : Kz) (h : Hdr) (ch : BitVec 16), s.kz.advance t = m ∧ Runs m h (.channelRestart ch)) ∧
  (∃ (s : State) (t : Stamp) (m : Kz) (h : Hdr) (ch : BitVec 16), s.kz.advance t = m ∧ Due m h (.channelRestart ch) ∧
    powered m.pwr.state = true ∧ ch.toNat < 192 ∧ covers (sess m h).leases (.channel ch.toNat) = true ∧ (m.rgn (ch.toNat /
    16)).err.restarting = true ∧ 0x20 ≤ (sess m h).version.toNat) ∧
  (∃ (s : State) (t : Stamp) (m : Kz) (h : Hdr), s.kz.advance t = m ∧ Runs m h .statBoundary) ∧
  (∃ (s : State) (t : Stamp) (m : Kz) (h : Hdr) (region : Byte) (mask : BitVec 16) (off : Word) (len : Word) (g : EngImage),
    s.kz.advance t = m ∧ Runs m h (.engLoad region mask off len) ∧ region.toNat < 12 ∧ off.toNat + len.toNat ≤ 131072 ∧ (∀ c
    ∈ chansOf region.toNat mask.toNat, covers (sess m h).leases (.channel c) = true) ∧ (m.rgn region.toNat).err.restarting =
    false ∧ m.rstate region.toNat ≠ .down ∧ m.rstate region.toNat ≠ .run ∧ checkImage ((sess m h).staging.reads off.toNat
    len.toNat) (m.fld F.ENG_BUDGET.B_DECL region.toNat) = .ok g) ∧
  (∃ (s : State) (t : Stamp) (m : Kz) (h : Hdr) (region : Byte) (mask : BitVec 16) (off : Word) (len : Word) (x : Nat ×
    Nat), s.kz.advance t = m ∧ Runs m h (.engLoad region mask off len) ∧ region.toNat < 12 ∧ off.toNat + len.toNat ≤ 131072
    ∧ (∀ c ∈ chansOf region.toNat mask.toNat, covers (sess m h).leases (.channel c) = true) ∧ (m.rgn
    region.toNat).err.restarting = false ∧ m.rstate region.toNat ≠ .down ∧ m.rstate region.toNat ≠ .run ∧ checkImage ((sess
    m h).staging.reads off.toNat len.toNat) (m.fld F.ENG_BUDGET.B_DECL region.toNat) = .error x) ∧
  (∃ (s : State) (t : Stamp) (m : Kz) (h : Hdr) (region : Byte) (mask : BitVec 16) (off : Word) (len : Word), s.kz.advance t
    = m ∧ Runs m h (.engLoad region mask off len) ∧ region.toNat < 12 ∧ off.toNat + len.toNat ≤ 131072 ∧ (∀ c ∈ chansOf
    region.toNat mask.toNat, covers (sess m h).leases (.channel c) = true) ∧ (m.rgn region.toNat).err.restarting = false ∧
    m.rstate region.toNat = .run) ∧
  (∃ (s : State) (t : Stamp) (m : Kz) (h : Hdr) (region : Byte) (mask : BitVec 16) (off : Word) (len : Word), s.kz.advance t
    = m ∧ Runs m h (.engLoad region mask off len) ∧ region.toNat < 12 ∧ off.toNat + len.toNat ≤ 131072 ∧ (∀ c ∈ chansOf
    region.toNat mask.toNat, covers (sess m h).leases (.channel c) = true) ∧ (m.rgn region.toNat).err.restarting = false ∧
    m.rstate region.toNat = .down) ∧
  (∃ (s : State) (t : Stamp) (m : Kz) (h : Hdr) (region : Byte) (mask : BitVec 16) (off : Word) (len : Word) (c : Nat),
    s.kz.advance t = m ∧ Runs m h (.engLoad region mask off len) ∧ region.toNat < 12 ∧ off.toNat + len.toNat ≤ 131072 ∧
    (chansOf region.toNat mask.toNat).find? (fun z => !covers (sess m h).leases (.channel z)) = some c) ∧
  (∃ (s : State) (t : Stamp) (m : Kz) (h : Hdr) (region : Byte) (mask : BitVec 16) (off : Word) (len : Word), s.kz.advance t
    = m ∧ Runs m h (.engLoad region mask off len) ∧ (11 < region.toNat ∨ 131072 < off.toNat + len.toNat)) ∧
  (∃ (s : State) (t : Stamp) (m : Kz) (h : Hdr) (off : Word) (data : List Byte), s.kz.advance t = m ∧ Runs m h (.stageWrite
    off data) ∧ data ≠ [] ∧ data.length ≤ 1024 ∧ off.toNat + data.length ≤ 131072) ∧
  (∃ (s : State) (t : Stamp) (m : Kz) (h : Hdr) (off : Word) (data : List Byte), s.kz.advance t = m ∧ Runs m h (.stageWrite
    off data) ∧ (data = [] ∨ 1024 < data.length ∨ 131072 < off.toNat + data.length)) ∧
  (∃ (s : State) (t : Stamp) (m : Kz) (h : Hdr) (src : Byte) (count : Byte) (first : Word), s.kz.advance t = m ∧ Runs m h
    (.logRead src count first) ∧ src.toNat ≤ 1 ∧ 1 ≤ count.toNat ∧ count.toNat ≤ 37) ∧
  (∃ (s : State) (t : Stamp) (m : Kz) (h : Hdr) (src : Byte) (count : Byte) (first : Word), s.kz.advance t = m ∧ Runs m h
    (.logRead src count first) ∧ (1 < src.toNat ∨ count.toNat = 0 ∨ 37 < count.toNat)) ∧
  (∃ (s : State) (t : Stamp) (m : Kz) (h : Hdr) (x : Word) (part : Byte) (r : LedgerRec), s.kz.advance t = m ∧ Runs m h
    (.ledgerRead x part) ∧ part.toNat ≤ 7 ∧ x ≠ 0xFFFFFFFF ∧ ((m.age.ckpt ++ m.age.recs).map (fun z => z.2)).find? (fun z =>
    decide (z.num = x.toNat)) = some r) ∧
  (∃ (s : State) (t : Stamp) (m : Kz) (h : Hdr) (x : Word) (part : Byte) (r : LedgerRec), s.kz.advance t = m ∧ Runs m h
    (.ledgerRead x part) ∧ part.toNat ≤ 7 ∧ x = 0xFFFFFFFF ∧ newestRecord m = some r) ∧
  (∃ (s : State) (t : Stamp) (m : Kz) (h : Hdr) (x : Word) (part : Byte), s.kz.advance t = m ∧ Runs m h (.ledgerRead x part)
    ∧ part.toNat ≤ 7 ∧ x ≠ 0xFFFFFFFF ∧ (∀ z ∈ m.age.ckpt ++ m.age.recs, z.2.num ≠ x.toNat)) :=
  ⟨
    ⟨wSt ((wKz .acquire)|>.modPwr 1 (fun p => { p with state := .run })), ⟨2000000, 6000000000⟩, _, ⟨0, .linkLocal, 7, 0x32,
    1, 5, 9⟩, 17, rfl, by decide⟩,
    ⟨wSt ((wKz .acquire)|>.modPwr 1 (fun p => { p with state := .run })|>.modErr 1 (fun e => { e with restarting := true })),
    ⟨2000000, 6000000000⟩, _, ⟨0, .linkLocal, 7, 0x32, 1, 5, 9⟩, 17, rfl, by decide, rfl, by decide, rfl, rfl, by decide⟩,
    ⟨wSt ((wKz .acquire)), ⟨2000000, 6000000000⟩, _, ⟨0, .linkLocal, 7, 0x32, 1, 5, 9⟩, rfl, by decide⟩,
    ⟨wSt ((wKz .ready)|>.modPwr 1 (fun p => { p with state := .idle })|>.modSess 0 (fun q => { q with
      staging := Mem.writes [] 64 (wImg) })), ⟨2000000, 6000000000⟩, _, ⟨0, .linkLocal, 7, 0x32, 1, 5, 9⟩, 1, 0x8001, 64,
    28, wGood (checkImage (Mem.reads (Mem.writes [] 64 wImg) 64 28) 60), rfl, by decide, by decide, by decide, by decide,
    rfl, by decide, by decide, rfl⟩,
    ⟨wSt ((wKz .ready)|>.modPwr 1 (fun p => { p with state := .idle })|>.modSess 0 (fun q => { q with
      staging := Mem.writes [] 64 ([1, 2]) })), ⟨2000000, 6000000000⟩, _, ⟨0, .linkLocal, 7, 0x32, 1, 5, 9⟩, 1, 0x8001, 64,
    28, ((1, 0) : Nat × Nat), rfl, by decide, by decide, by decide, by decide, rfl, by decide, by decide, rfl⟩,
    ⟨wSt ((wKz .ready)|>.modPwr 1 (fun p => { p with state := .run })|>.modSess 0 (fun q => { q with
      staging := Mem.writes [] 64 (wImg) })), ⟨2000000, 6000000000⟩, _, ⟨0, .linkLocal, 7, 0x32, 1, 5, 9⟩, 1, 0x8001, 64,
    28, rfl, by decide, by decide, by decide, by decide, rfl, rfl⟩,
    ⟨wSt ((wKz .ready)|>.modSess 0 (fun q => { q with staging := Mem.writes [] 64 (wImg) })), ⟨2000000, 6000000000⟩, _, ⟨0,
    .linkLocal, 7, 0x32, 1, 5, 9⟩, 1, 0x8001, 64, 28, rfl, by decide, by decide, by decide, by decide, rfl, rfl⟩,
    ⟨wSt ((wKz .ready)|>.modSess 0 (fun q => { q with leases := [.channel 31] })|>.modSess 0 (fun q => { q with
      staging := Mem.writes [] 64 (wImg) })), ⟨2000000, 6000000000⟩, _, ⟨0, .linkLocal, 7, 0x32, 1, 5, 9⟩, 1, 0x8001, 64,
    28, 16, rfl, by decide, by decide, by decide, rfl⟩,
    ⟨wSt ((wKz .ready)), ⟨2000000, 6000000000⟩, _, ⟨0, .linkLocal, 7, 0x32, 1, 5, 9⟩, 12, 1, 64, 28, rfl, by decide, by
    decide⟩,
    ⟨wSt ((wKz .recovery)), ⟨2000000, 6000000000⟩, _, ⟨0, .linkLocal, 7, 0x32, 1, 5, 9⟩, 131070, ([1, 0] : List Byte), rfl,
    by decide, by decide, by decide, by decide⟩,
    ⟨wSt ((wKz .ready)), ⟨2000000, 6000000000⟩, _, ⟨0, .linkLocal, 7, 0x32, 1, 5, 9⟩, 131071, ([1, 0] : List Byte), rfl, by
    decide, by decide⟩,
    ⟨wSt ((wKz .ready)|>.logE 0x701 0 0 0 0 5 |>.logE 0x702 0 0 0 0 6), ⟨2000000, 6000000000⟩, _, ⟨0, .linkLocal, 7, 0x32,
    1, 5, 9⟩, 0, 2, 0, rfl, by decide, by decide, by decide, by decide⟩,
    ⟨wSt ((wKz .ready)), ⟨2000000, 6000000000⟩, _, ⟨0, .linkLocal, 7, 0x32, 1, 5, 9⟩, 0, 38, 0, rfl, by decide, by decide⟩,
    ⟨wSt ((wKz .ready)|> fun m => { m with age := { m.age with recs := [(0, ⟨7, 1, [1, 2]⟩)] } }), ⟨2000000, 6000000000⟩, _,
    ⟨0, .linkLocal, 7, 0x32, 1, 5, 9⟩, 7, 1, ⟨7, 1, [1, 2]⟩, rfl, by decide, by decide, by decide, rfl⟩,
    ⟨wSt ((wKz .ready)|> fun m => { m with age := { m.age with recs := [(0, ⟨7, 1, [1, 2]⟩)] } }), ⟨2000000, 6000000000⟩, _,
    ⟨0, .linkLocal, 7, 0x32, 1, 5, 9⟩, 0xFFFFFFFF, 1, ⟨7, 1, [1, 2]⟩, rfl, by decide, by decide, rfl, rfl⟩,
    ⟨wSt ((wKz .ready)), ⟨2000000, 6000000000⟩, _, ⟨0, .linkLocal, 7, 0x32, 1, 5, 9⟩, 7, 1, rfl, by decide, by decide, by
    decide, by decide⟩⟩

set_option maxRecDepth 20000 in
/-- Witness of the hypotheses of clause 1 of SignedOperations. -/
theorem witness_SignedOperations_1 :
  (∃ (s : State) (t : Stamp) (m : Kz) (h : Hdr) (off : Word) (len : Word) (g : Signed) (i : ImageInfo), s.kz.advance t = m ∧
    parseSigned ((sess m h).staging.reads off.toNat len.toNat) = some g ∧ Judged m h off len g ∧ g.op = 1 ∧ g.arg.length =
    64 ∧ m.fw.verified = some i ∧ i.digest.toNat = ofBe g.arg ∧ m.regionsBusy = false) :=
    ⟨wSt ((wKz .ready)|> fun m => { m with trust := { m.trust with identOk := true } }|>.modSess 0 (fun q => { q with
      staging := wSigned 1 0 64 [],
      nonce := some ⟨List.replicate 32 0, 5000000000⟩ })|> fun m => { m with
      fw := { m.fw with verified := some ⟨true, 0x3020001, 5, false, 0⟩ } }), ⟨2000000, 6000000000⟩, _, ⟨0, .linkLocal, 7,
    0x32, 1, 5, 9⟩, 0, 3509, wFields (Mem.reads (wSigned 1 0 64 []) 0 3509), ⟨true, 0x3020001, 5, false, 0⟩, rfl,
    parse_fields _ (by decide) (by simp [Mem.reads] <;> decide), by decide, rfl, by simp [wFields, slice, Mem.reads,
    wSigned] <;> decide, rfl, by rw [show (0 : BitVec 512).toNat = 0 from by simp]; decide, rfl⟩

set_option maxRecDepth 20000 in
/-- Witness of the hypotheses of clause 2 of SignedOperations. -/
theorem witness_SignedOperations_2 :
  (∃ (s : State) (t : Stamp) (m : Kz) (h : Hdr) (off : Word) (len : Word) (g : Signed), s.kz.advance t = m ∧ parseSigned
    ((sess m h).staging.reads off.toNat len.toNat) = some g ∧ Judged m h off len g ∧ g.op = 1 ∧ g.arg.length = 64 ∧
    m.fw.verified = none) :=
    ⟨wSt ((wKz .ready)|> fun m => { m with trust := { m.trust with identOk := true } }|>.modSess 0 (fun q => { q with
      staging := wSigned 1 0 64 [],
      nonce := some ⟨List.replicate 32 0, 5000000000⟩ })), ⟨2000000, 6000000000⟩, _, ⟨0, .linkLocal, 7, 0x32, 1, 5, 9⟩, 0,
    3509, wFields (Mem.reads (wSigned 1 0 64 []) 0 3509), rfl, parse_fields _ (by decide) (by simp [Mem.reads] <;> decide),
    by decide, rfl, by simp [wFields, slice, Mem.reads, wSigned] <;> decide, rfl⟩

set_option maxRecDepth 20000 in
/-- Witness of the hypotheses of clause 3 of SignedOperations. -/
theorem witness_SignedOperations_3 :
  (∃ (s : State) (t : Stamp) (m : Kz) (h : Hdr) (off : Word) (len : Word) (g : Signed) (i : ImageInfo), s.kz.advance t = m ∧
    parseSigned ((sess m h).staging.reads off.toNat len.toNat) = some g ∧ Judged m h off len g ∧ g.op = 1 ∧ g.arg.length =
    64 ∧ m.fw.verified = some i ∧ i.digest.toNat = ofBe g.arg ∧ m.regionsBusy = true) :=
    ⟨wSt ((wKz .ready)|> fun m => { m with trust := { m.trust with identOk := true } }|>.modSess 0 (fun q => { q with
      staging := wSigned 1 0 64 [],
      nonce := some ⟨List.replicate 32 0, 5000000000⟩ })|> fun m => { m with
      fw := { m.fw with verified := some ⟨true, 0x3020001, 5, false, 0⟩ } }|>.modPwr 1 (fun p => { p with state := .run })),
    ⟨2000000, 6000000000⟩, _, ⟨0, .linkLocal, 7, 0x32, 1, 5, 9⟩, 0, 3509, wFields (Mem.reads (wSigned 1 0 64 []) 0 3509),
    ⟨true, 0x3020001, 5, false, 0⟩, rfl, parse_fields _ (by decide) (by simp [Mem.reads] <;> decide), by decide, rfl, by
    simp [wFields, slice, Mem.reads, wSigned] <;> decide, rfl, by rw [show (0 : BitVec 512).toNat = 0 from by simp]; decide,
    rfl⟩

set_option maxRecDepth 20000 in
/-- Witness of the hypotheses of clause 4 of SignedOperations. -/
theorem witness_SignedOperations_4 :
  (∃ (s : State) (t : Stamp) (m : Kz) (h : Hdr) (off : Word) (len : Word) (g : Signed), s.kz.advance t = m ∧ parseSigned
    ((sess m h).staging.reads off.toNat len.toNat) = some g ∧ Judged m h off len g ∧ g.op = 2 ∧ g.arg.length = 1988 ∧ ofBe
    (slice g.arg 0 1) = 1 ∧ ofBe (slice g.arg 1 1) ≤ 1 ∧ (ownerSlot m.trust (ofBe (slice g.arg 1 1))).state = .empty) :=
    ⟨wSt ((wKz .ready)|> fun m => { m with trust := { m.trust with identOk := true } }|>.modSess 0 (fun q => { q with
      staging := wSigned 2 0 1988 [1, 1],
      nonce := some ⟨List.replicate 32 0, 5000000000⟩ })), ⟨2000000, 6000000000⟩, _, ⟨0, .linkLocal, 7, 0x32, 1, 5, 9⟩, 0,
    5433, wFields (Mem.reads (wSigned 2 0 1988 [1, 1]) 0 5433), rfl, parse_fields _ (by decide) (by simp [Mem.reads] <;>
    decide), by decide, rfl, by simp [wFields, slice, Mem.reads, wSigned] <;> decide, rfl, by decide, rfl⟩

set_option maxRecDepth 20000 in
/-- Witness of the hypotheses of clause 5 of SignedOperations. -/
theorem witness_SignedOperations_5 :
  (∃ (s : State) (t : Stamp) (m : Kz) (h : Hdr) (off : Word) (len : Word) (g : Signed), s.kz.advance t = m ∧ parseSigned
    ((sess m h).staging.reads off.toNat len.toNat) = some g ∧ Judged m h off len g ∧ g.op = 2 ∧ g.arg.length = 1988 ∧ ofBe
    (slice g.arg 0 1) = 1 ∧ (1 < ofBe (slice g.arg 1 1) ∨ (ownerSlot m.trust (ofBe (slice g.arg 1 1))).state ≠ .empty)) :=
    ⟨wSt ((wKz .ready)|> fun m => { m with trust := { m.trust with identOk := true } }|>.modSess 0 (fun q => { q with
      staging := wSigned 2 0 1988 [1, 1],
      nonce := some ⟨List.replicate 32 0, 5000000000⟩ })|> fun m => { m with
      trust := { m.trust with owner1 := { state := .active } } }), ⟨2000000, 6000000000⟩, _, ⟨0, .linkLocal, 7, 0x32, 1, 5,
    9⟩, 0, 5433, wFields (Mem.reads (wSigned 2 0 1988 [1, 1]) 0 5433), rfl, parse_fields _ (by decide) (by simp [Mem.reads]
    <;> decide), by decide, rfl, by simp [wFields, slice, Mem.reads, wSigned] <;> decide, rfl, by decide⟩

set_option maxRecDepth 20000 in
/-- Witness of the hypotheses of clause 6 of SignedOperations. -/
theorem witness_SignedOperations_6 :
  (∃ (s : State) (t : Stamp) (m : Kz) (h : Hdr) (off : Word) (len : Word) (g : Signed), s.kz.advance t = m ∧ parseSigned
    ((sess m h).staging.reads off.toNat len.toNat) = some g ∧ Judged m h off len g ∧ g.op = 2 ∧ g.arg.length = 4 ∧ ofBe
    (slice g.arg 0 1) = 2 ∧ ofBe (slice g.arg 1 1) ≤ 1 ∧ (ownerSlot m.trust (ofBe (slice g.arg 1 1))).state = .active ∧
    (ownerSlot m.trust (1 - ofBe (slice g.arg 1 1))).state = .active) :=
    ⟨wSt ((wKz .ready)|> fun m => { m with trust := { m.trust with identOk := true } }|>.modSess 0 (fun q => { q with
      staging := wSigned 2 0 4 [2, 1],
      nonce := some ⟨List.replicate 32 0, 5000000000⟩ })|> fun m => { m with
      trust := { m.trust with owner0 := { state := .active }, owner1 := { state := .active } } }), ⟨2000000, 6000000000⟩, _,
    ⟨0, .linkLocal, 7, 0x32, 1, 5, 9⟩, 0, 3449, wFields (Mem.reads (wSigned 2 0 4 [2, 1]) 0 3449), rfl, parse_fields _ (by
    decide) (by simp [Mem.reads] <;> decide), by decide, rfl, by simp [wFields, slice, Mem.reads, wSigned] <;> decide, rfl,
    by decide, rfl, rfl⟩

set_option maxRecDepth 20000 in
/-- Witness of the hypotheses of clause 7 of SignedOperations. -/
theorem witness_SignedOperations_7 :
  (∃ (s : State) (t : Stamp) (m : Kz) (h : Hdr) (off : Word) (len : Word) (g : Signed), s.kz.advance t = m ∧ parseSigned
    ((sess m h).staging.reads off.toNat len.toNat) = some g ∧ Judged m h off len g ∧ g.op = 2 ∧ g.arg.length = 4 ∧ ofBe
    (slice g.arg 0 1) = 2 ∧ ofBe (slice g.arg 1 1) ≤ 1 ∧ (ownerSlot m.trust (ofBe (slice g.arg 1 1))).state = .active ∧
    (ownerSlot m.trust (1 - ofBe (slice g.arg 1 1))).state ≠ .active) :=
    ⟨wSt ((wKz .ready)|> fun m => { m with trust := { m.trust with identOk := true } }|>.modSess 0 (fun q => { q with
      staging := wSigned 2 0 4 [2, 1],
      nonce := some ⟨List.replicate 32 0, 5000000000⟩ })|> fun m => { m with
      trust := { m.trust with owner1 := { state := .active } } }), ⟨2000000, 6000000000⟩, _, ⟨0, .linkLocal, 7, 0x32, 1, 5,
    9⟩, 0, 3449, wFields (Mem.reads (wSigned 2 0 4 [2, 1]) 0 3449), rfl, parse_fields _ (by decide) (by simp [Mem.reads] <;>
    decide), by decide, rfl, by simp [wFields, slice, Mem.reads, wSigned] <;> decide, rfl, by decide, rfl, by decide⟩

set_option maxRecDepth 20000 in
/-- Witness of the hypotheses of clause 8 of SignedOperations. -/
theorem witness_SignedOperations_8 :
  (∃ (s : State) (t : Stamp) (m : Kz) (h : Hdr) (off : Word) (len : Word) (g : Signed), s.kz.advance t = m ∧ parseSigned
    ((sess m h).staging.reads off.toNat len.toNat) = some g ∧ Judged m h off len g ∧ g.op = 3 ∧ g.arg.length = 4 ∧ 1 ≤ ofBe
    (slice g.arg 0 1) ∧ ofBe (slice g.arg 0 1) ≤ 2 ∧ 1 ≤ ofBe (slice g.arg 2 2) ∧ ofBe (slice g.arg 2 2) ≤ 1440) :=
    ⟨wSt ((wKz .ready)|> fun m => { m with trust := { m.trust with identOk := true } }|>.modSess 0 (fun q => { q with
      staging := wSigned 3 0 4 [2, 0, 0, 5],
      nonce := some ⟨List.replicate 32 0, 5000000000⟩ })), ⟨2000000, 6000000000⟩, _, ⟨0, .linkLocal, 7, 0x32, 1, 5, 9⟩, 0,
    3449, wFields (Mem.reads (wSigned 3 0 4 [2, 0, 0, 5]) 0 3449), rfl, parse_fields _ (by decide) (by simp [Mem.reads] <;>
    decide), by decide, rfl, by simp [wFields, slice, Mem.reads, wSigned] <;> decide, by decide, by decide, by decide, by
    decide⟩

set_option maxRecDepth 20000 in
/-- Witness of the hypotheses of clause 9 of SignedOperations. -/
theorem witness_SignedOperations_9 :
  (∃ (s : State) (t : Stamp) (m : Kz) (h : Hdr) (off : Word) (len : Word) (g : Signed), s.kz.advance t = m ∧ parseSigned
    ((sess m h).staging.reads off.toNat len.toNat) = some g ∧ Judged m h off len g ∧ g.op = 3 ∧ (ofBe (slice g.arg 0 1) = 0
    ∨ 2 < ofBe (slice g.arg 0 1) ∨ ofBe (slice g.arg 2 2) = 0 ∨ 1440 < ofBe (slice g.arg 2 2))) :=
    ⟨wSt ((wKz .ready)|> fun m => { m with trust := { m.trust with identOk := true } }|>.modSess 0 (fun q => { q with
      staging := wSigned 3 0 4 [3, 0, 0, 5],
      nonce := some ⟨List.replicate 32 0, 5000000000⟩ })), ⟨2000000, 6000000000⟩, _, ⟨0, .linkLocal, 7, 0x32, 1, 5, 9⟩, 0,
    3449, wFields (Mem.reads (wSigned 3 0 4 [3, 0, 0, 5]) 0 3449), rfl, parse_fields _ (by decide) (by simp [Mem.reads] <;>
    decide), by decide, rfl, by decide⟩

set_option maxRecDepth 20000 in
/-- Witness of the hypotheses of clause 10 of SignedOperations. -/
theorem witness_SignedOperations_10 :
  (∃ (s : State) (t : Stamp) (m : Kz) (h : Hdr) (off : Word) (len : Word) (g : Signed), s.kz.advance t = m ∧ parseSigned
    ((sess m h).staging.reads off.toNat len.toNat) = some g ∧ Runs m h (.signed off len) ∧ m.pwr.state ≠ .recovery ∧
    off.toNat + len.toNat ≤ 131072 ∧ m.trust.identOk = true ∧ (sess m h).nonce.any (fun x => decide (x.bytes = g.nonce) &&
    decide (m.now.ns < x.issued + nonceLife)) = false) :=
    ⟨wSt ((wKz .ready)|> fun m => { m with trust := { m.trust with identOk := true } }|>.modSess 0 (fun q => { q with
      staging := wSigned 3 0 4 [2, 0, 0, 5],
      nonce := some ⟨List.replicate 32 0, 5000000000⟩ })|>.modSess 0 (fun q => { q with nonce := none })), ⟨2000000,
    6000000000⟩, _, ⟨0, .linkLocal, 7, 0x32, 1, 5, 9⟩, 0, 3449, wFields (Mem.reads (wSigned 3 0 4 [2, 0, 0, 5]) 0 3449),
    rfl, parse_fields _ (by decide) (by simp [Mem.reads] <;> decide), by decide, by decide, by decide, rfl, by decide⟩

set_option maxRecDepth 20000 in
/-- Witness of the hypotheses of clause 11 of SignedOperations. -/
theorem witness_SignedOperations_11 :
  (∃ (s : State) (t : Stamp) (m : Kz) (h : Hdr) (off : Word) (len : Word), s.kz.advance t = m ∧ Runs m h (.signed off len) ∧
    m.pwr.state ≠ .recovery ∧ m.trust.identOk = false ∧ off.toNat + len.toNat ≤ 131072) :=
    ⟨wSt ((wKz .ready)), ⟨2000000, 6000000000⟩, _, ⟨0, .linkLocal, 7, 0x32, 1, 5, 9⟩, 0, 9, rfl, by decide, by decide, rfl,
    by decide⟩

set_option maxRecDepth 20000 in
/-- Witness of the hypotheses of clause 12 of SignedOperations. -/
theorem witness_SignedOperations_12 :
  (∃ (s : State) (t : Stamp) (m : Kz) (h : Hdr) (off : Word) (len : Word), s.kz.advance t = m ∧ Runs m h (.signed off len) ∧
    m.pwr.state = .recovery ∧ off.toNat + len.toNat ≤ 131072 ∧ ofBe (slice ((sess m h).staging.reads off.toNat len.toNat) 4
    1) ≠ 1) :=
    ⟨wSt ((wKz .recovery)), ⟨2000000, 6000000000⟩, _, ⟨0, .linkLocal, 7, 0x32, 1, 5, 9⟩, 0, 9, rfl, by decide, rfl, by
    decide, by decide⟩

set_option maxRecDepth 20000 in
/-- Witness of the hypotheses of clause 13 of SignedOperations. -/
theorem witness_SignedOperations_13 :
  (∃ (s : State) (t : Stamp) (m : Kz) (x : List Byte) (g : Signed), s.kz.advance t = m ∧ parseSigned x = some g ∧
    m.pwr.state ≠ .off ∧ m.trust.identOk = true ∧ m.trust.jtagNonce.any (fun z => decide (z.bytes = g.nonce) && decide
    (m.now.ns < z.issued + nonceLife)) = true ∧ g.op = 3 ∧ g.arg.length = 4 ∧ 1 ≤ ofBe (slice g.arg 0 1) ∧ ofBe (slice g.arg
    0 1) ≤ 2 ∧ 1 ≤ ofBe (slice g.arg 2 2) ∧ ofBe (slice g.arg 2 2) ≤ 1440) :=
    ⟨wSt ((wKz .boot)|> fun m => { m with
      trust := { m.trust with identOk := true, jtagNonce := some ⟨List.replicate 32 0, 5000000000⟩ } }), ⟨2000000,
    6000000000⟩, _, (Mem.reads (wSigned 3 0 4 [2, 0, 0, 5]) 0 3449), wFields (Mem.reads (wSigned 3 0 4 [2, 0, 0, 5]) 0
    3449), rfl, parse_fields _ (by decide) (by simp [Mem.reads] <;> decide), by decide, rfl, by decide, rfl, by simp
    [wFields, slice, Mem.reads, wSigned] <;> decide, by decide, by decide, by decide, by decide⟩

set_option maxRecDepth 20000 in
/-- Witness of the hypotheses of clause 14 of SignedOperations. -/
theorem witness_SignedOperations_14 :
  (∃ (s : State) (t : Stamp) (m : Kz) (x : List Byte), s.kz.advance t = m ∧ m.pwr.state ≠ .off ∧ parseSigned x = none) :=
    ⟨wSt ((wKz .ready)), ⟨2000000, 6000000000⟩, _, ([] : List Byte), rfl, by decide, rfl⟩

set_option maxRecDepth 20000 in
/-- Witness of the hypotheses of clause 15 of SignedOperations. -/
theorem witness_SignedOperations_15 :
  (∃ (s : State) (t : Stamp) (m : Kz), s.kz.advance t = m ∧ m.pwr.state = .off) :=
    ⟨wSt ((wKz .off)), ⟨2000000, 6000000000⟩, _, rfl, rfl⟩

set_option maxRecDepth 20000 in
/-- Witness of the hypotheses of clause 16 of SignedOperations. -/
theorem witness_SignedOperations_16 :
  (∃ (s : State) (t : Stamp) (m : Kz), s.kz.advance t = m ∧ m.pwr.state ≠ .off) :=
    ⟨wSt ((wKz .recovery)), ⟨2000000, 6000000000⟩, _, rfl, by decide⟩

set_option maxRecDepth 20000 in
/-- Witness of the hypotheses of clause 17 of SignedOperations. -/
theorem witness_SignedOperations_17 :
  (∃ (s : State) (t : Stamp) (m : Kz), s.kz.advance t = m ∧ m.pwr.state = .off) :=
    ⟨wSt ((wKz .off)), ⟨2000000, 6000000000⟩, _, rfl, rfl⟩

set_option maxRecDepth 20000 in
/-- Witness of the hypotheses of clause 18 of SignedOperations. -/
theorem witness_SignedOperations_18 :
  (∃ (s : State) (t : Stamp) (m : Kz) (h : Hdr), s.kz.advance t = m ∧ Runs m h .challenge) :=
    ⟨wSt ((wKz .recovery)), ⟨2000000, 6000000000⟩, _, ⟨0, .linkLocal, 7, 0x32, 1, 5, 9⟩, rfl, by decide⟩

set_option maxRecDepth 20000 in
/-- Witness of the hypotheses of clause 19 of SignedOperations. -/
theorem witness_SignedOperations_19 :
  (∃ (s : State) (t : Stamp) (m : Kz), s.kz.advance t = m ∧ m.trust.debugLevel ≠ 0 ∧ m.trust.debugUntil ≤ m.now.ns) :=
    ⟨wSt ((wKz .ready)|> fun m => { m with trust := { m.trust with debugLevel := 2, debugUntil := 6000000000 } }), ⟨2000000,
    6000000000⟩, _, rfl, by decide, by decide⟩

set_option maxRecDepth 20000 in
/-- Witness of the hypotheses of clause 20 of SignedOperations. -/
theorem witness_SignedOperations_20 :
  (∃ (s : State) (t : Stamp) (m : Kz), s.kz.advance t = m ∧ (m.trust.debugLevel = 0 ∨ m.now.ns < m.trust.debugUntil)) :=
    ⟨wSt ((wKz .ready)|> fun m => { m with trust := { m.trust with debugLevel := 2, debugUntil := 6000000001 } }), ⟨2000000,
    6000000000⟩, _, rfl, by decide⟩

set_option maxRecDepth 20000 in
/-- Witness of the hypotheses of clause 21 of SignedOperations. -/
theorem witness_SignedOperations_21 :
  (∃ (s : State) (t : Stamp) (m : Kz) (p : Port) (v : Word), s.kz.advance t = m ∧ Accepts m p .MOD_DEBUG_STAT 0 v ∧
    F.MOD_DEBUG_STAT.RELOCK.of v = 1) :=
    ⟨wSt ((wKz .ready)|> fun m => { m with trust := { m.trust with debugLevel := 2, debugUntil := 6000000001 } }), ⟨2000000,
    6000000000⟩, _, 0, BitVec.ofNat 32 (F.MOD_DEBUG_STAT.RELOCK.put 1), rfl, by decide, rfl⟩

set_option maxRecDepth 20000 in
/-- Witness of the hypotheses of clause 22 of SignedOperations. -/
theorem witness_SignedOperations_22 :
  (∃ (s : State) (t : Stamp) (m : Kz) (p : Port) (v : Word), s.kz.advance t = m ∧ Accepts m p .MOD_DEBUG_STAT 0 v ∧
    F.MOD_DEBUG_STAT.RELOCK.of v = 0) :=
    ⟨wSt ((wKz .ready)|> fun m => { m with trust := { m.trust with debugLevel := 2, debugUntil := 6000000001 } }), ⟨2000000,
    6000000000⟩, _, 0, 0, rfl, by decide, rfl⟩

set_option maxRecDepth 20000 in
/-- Witness of the hypotheses of FirmwareChunksAndAttestation. -/
theorem witness_FirmwareChunksAndAttestation :
  (∃ (s : State) (t : Stamp) (m : Kz) (h : Hdr) (off : Word) (flags : Byte) (data : List Byte), s.kz.advance t = m ∧ Runs m
    h (.fwChunk off 0 flags data) ∧ data ≠ [] ∧ data.length ≤ 1204 ∧ off.toNat + data.length ≤ fwSize ∧ flags.toNat.testBit
    0 = false ∧ flags.toNat.testBit 1 = false ∧ off.toNat = m.fw.fwPtr ∧ newSectors off.toNat data.length = []) ∧
  (∃ (s : State) (t : Stamp) (m : Kz) (h : Hdr) (off : Word) (flags : Byte) (data : List Byte), s.kz.advance t = m ∧ Runs m
    h (.fwChunk off 0 flags data) ∧ data ≠ [] ∧ data.length ≤ 1204 ∧ off.toNat + data.length ≤ fwSize ∧ (off.toNat = if
    flags.toNat.testBit 0 = true then 0 else m.fw.fwPtr) ∧ newSectors off.toNat data.length ≠ []) ∧
  (∃ (s : State) (t : Stamp) (m : Kz) (h : Hdr) (off : Word) (flags : Byte) (data : List Byte), s.kz.advance t = m ∧ Runs m
    h (.fwChunk off 0 flags data) ∧ data ≠ [] ∧ data.length ≤ 1204 ∧ flags.toNat.testBit 0 = false ∧ off.toNat ≠ m.fw.fwPtr) ∧
  (∃ (s : State) (t : Stamp) (m : Kz) (h : Hdr) (off : Word) (flags : Byte) (data : List Byte), s.kz.advance t = m ∧ Runs m
    h (.fwChunk off 0 flags data) ∧ (data = [] ∨ 1204 < data.length ∨ (flags.toNat.testBit 0 = false ∧ off.toNat =
    m.fw.fwPtr ∧ fwSize < off.toNat + data.length))) ∧
  (∃ (s : State) (t : Stamp) (m : Kz) (h : Hdr) (off : Word) (flags : Byte) (data : List Byte), s.kz.advance t = m ∧ Runs m
    h (.fwChunk off 0 flags data) ∧ data ≠ [] ∧ data.length ≤ 1204 ∧ off.toNat + data.length ≤ fwSize ∧ flags.toNat.testBit
    0 = false ∧ flags.toNat.testBit 1 = true ∧ flags.toNat.testBit 2 = false ∧ off.toNat = m.fw.fwPtr ∧ newSectors off.toNat
    data.length = []) ∧
  (∃ (s : State) (t : Stamp) (m : Kz) (h : Hdr) (off : Word) (flags : Byte) (data : List Byte), s.kz.advance t = m ∧ Runs m
    h (.fwChunk off 1 flags data) ∧ data ≠ [] ∧ data.length ≤ 1204 ∧ off.toNat + data.length ≤ cfgSize ∧ flags.toNat.testBit
    0 = false ∧ flags.toNat.testBit 1 = false ∧ off.toNat = m.fw.cfgPtr ∧ newSectors off.toNat data.length = []) ∧
  (∃ (s : State) (t : Stamp) (m : Kz) (h : Hdr) (off : Word) (flags : Byte) (data : List Byte), s.kz.advance t = m ∧ Runs m
    h (.fwChunk off 1 flags data) ∧ data ≠ [] ∧ data.length ≤ 1204 ∧ off.toNat + data.length ≤ cfgSize ∧ (off.toNat = if
    flags.toNat.testBit 0 = true then 0 else m.fw.cfgPtr) ∧ newSectors off.toNat data.length ≠ []) ∧
  (∃ (s : State) (t : Stamp) (m : Kz) (h : Hdr) (off : Word) (flags : Byte) (data : List Byte), s.kz.advance t = m ∧ Runs m
    h (.fwChunk off 1 flags data) ∧ data ≠ [] ∧ data.length ≤ 1204 ∧ off.toNat + data.length ≤ cfgSize ∧ flags.toNat.testBit
    0 = false ∧ flags.toNat.testBit 1 = true ∧ off.toNat = m.fw.cfgPtr ∧ newSectors off.toNat data.length = []) ∧
  (∃ (s : State) (t : Stamp) (m : Kz) (h : Hdr) (off : Word) (flags : Byte) (data : List Byte), s.kz.advance t = m ∧ Runs m
    h (.fwChunk off 1 flags data) ∧ data ≠ [] ∧ data.length ≤ 1204 ∧ flags.toNat.testBit 0 = false ∧ off.toNat ≠ m.fw.cfgPtr) ∧
  (∃ (s : State) (t : Stamp) (m : Kz) (h : Hdr) (off : Word) (first : Bool) (data : List Byte), s.kz.advance t = m ∧ (Runs m
    h (.fwChunk off 0 (if first = true then 7 else 6) data)) ∧ data ≠ [] ∧ data.length ≤ 1204 ∧ off.toNat + data.length ≤
    fwSize ∧ first = false ∧ off.toNat = m.fw.fwPtr ∧ newSectors off.toNat data.length = [] ∧ m.trust.owner0.state ≠ .active
    ∧ m.trust.owner1.state ≠ .active ∧ (m.pwr.state = .recovery ∨ m.regionsBusy = false)) ∧
  (∃ (s : State) (t : Stamp) (m : Kz) (h : Hdr) (off : Word) (first : Bool) (data : List Byte), s.kz.advance t = m ∧ (Runs m
    h (.fwChunk off 0 (if first = true then 7 else 6) data)) ∧ data ≠ [] ∧ data.length ≤ 1204 ∧ off.toNat + data.length ≤
    fwSize ∧ first = false ∧ off.toNat = m.fw.fwPtr ∧ newSectors off.toNat data.length = [] ∧ (m.trust.owner0.state =
    .active ∨ m.trust.owner1.state = .active)) ∧
  (∃ (s : State) (t : Stamp) (m : Kz) (h : Hdr) (off : Word) (data : List Byte), s.kz.advance t = m ∧ Runs m h (.fwChunk off
    0 7 data) ∧ data ≠ [] ∧ data.length ≤ 1204 ∧ off = 0) ∧
  (∃ (s : State) (t : Stamp) (m : Kz) (p : Port) (q : Running) (off : Word) (target : Byte) (flags : Byte) (data : List
    Byte), s.kz.advance t = m ∧ Quiet m ∧ (m.port p.val).session.running = some q ∧ q.req = .fwChunk off target flags data ∧
    q.wait = .erase ∧ q.from_ = 1 ∧ q.body = [] ∧ flags.toNat.testBit 1 = false ∧ (m.port p.val).session.isOpen = true ∧
    0x30 ≤ (m.port p.val).session.version.toNat ∧ ((m.pwr.state = .recovery ∨ covers (m.port p.val).session.leases .module =
    true)) ∧ ((∀ x : Nat, x < 4 → x ≠ p.val → (m.port x).session.running = none)) ∧ ((∀ x : Nat, x < 4 → (m.port x).orphans
    = []))) ∧
  (∃ (s : State) (t : Stamp) (m : Kz), s.kz.advance t = m ∧ Quiet m ∧ Idle m) ∧
  (∃ (s : State) (t : Stamp) (m : Kz) (h : Hdr) (nonce : List Byte) (obj : Byte) (part : Byte), s.kz.advance t = m ∧ Runs m
    h (.attest nonce obj part) ∧ m.trust.identOk = true ∧ obj = 0 ∧ ((sess m h).quote = none ∨ (sess m h).quote.map (fun x
    => x.2) ≠ some nonce)) ∧
  (∃ (s : State) (t : Stamp) (m : Kz) (h : Hdr) (nonce : List Byte) (obj : Byte) (part : Byte) (q : List Byte), s.kz.advance
    t = m ∧ Runs m h (.attest nonce obj part) ∧ m.trust.identOk = true ∧ (obj = 0 ∧ (sess m h).quote = some (q, nonce) ∨ obj
    = 1 ∧ q = fit 5377 Config.certificate)) ∧
  (∃ (s : State) (t : Stamp) (m : Kz) (h : Hdr) (nonce : List Byte) (obj : Byte) (part : Byte), s.kz.advance t = m ∧ Runs m
    h (.attest nonce obj part) ∧ (m.trust.identOk = false ∨ 1 < obj.toNat)) :=
  ⟨
    ⟨wSt ((wKz .ready)|> fun m => { m with
      fw := { m.fw with fwPtr := 4, cfgPtr := 4, area1 := [(5, 3), (9, 9)], cfgArea := [(0, 1)] } }), ⟨2000000, 6000000000⟩,
    _, ⟨0, .linkLocal, 7, 0x32, 1, 5, 9⟩, 4, 0, ([7, 0, 9] : List Byte), rfl, by decide, by decide, by decide, by decide,
    rfl, rfl, rfl, rfl⟩,
    ⟨wSt ((wKz .recovery)|> fun m => { m with
      fw := { m.fw with fwPtr := 4, verified := some ⟨true, 0x3020001, 5, false, 0⟩, area1 := [(5, 3), (70000, 9)] } }),
    ⟨2000000, 6000000000⟩, _, ⟨0, .linkLocal, 7, 0x32, 1, 5, 9⟩, 0, 1, ([7, 0, 9] : List Byte), rfl, by decide, by decide,
    by decide, by decide, rfl, by decide⟩,
    ⟨wSt ((wKz .ready)|> fun m => { m with
      fw := { m.fw with fwPtr := 4, cfgPtr := 4, area1 := [(5, 3), (9, 9)], cfgArea := [(0, 1)] } }), ⟨2000000, 6000000000⟩,
    _, ⟨0, .linkLocal, 7, 0x32, 1, 5, 9⟩, 5, 0, ([7, 0, 9] : List Byte), rfl, by decide, by decide, by decide, rfl, by
    decide⟩,
    ⟨wSt ((wKz .ready)|> fun m => { m with
      fw := { m.fw with fwPtr := 4, cfgPtr := 4, area1 := [(5, 3), (9, 9)], cfgArea := [(0, 1)] } }), ⟨2000000, 6000000000⟩,
    _, ⟨0, .linkLocal, 7, 0x32, 1, 5, 9⟩, 4, 0, ([] : List Byte), rfl, by decide, by decide⟩,
    ⟨wSt ((wKz .ready)|> fun m => { m with
      fw := { m.fw with fwPtr := 4, cfgPtr := 4, area1 := [(5, 3), (9, 9)], cfgArea := [(0, 1)] } }), ⟨2000000, 6000000000⟩,
    _, ⟨0, .linkLocal, 7, 0x32, 1, 5, 9⟩, 4, 2, ([7, 0, 9] : List Byte), rfl, by decide, by decide, by decide, by decide,
    rfl, rfl, rfl, rfl, rfl⟩,
    ⟨wSt ((wKz .ready)|> fun m => { m with
      fw := { m.fw with fwPtr := 4, cfgPtr := 4, area1 := [(5, 3), (9, 9)], cfgArea := [(0, 1)] } }), ⟨2000000, 6000000000⟩,
    _, ⟨0, .linkLocal, 7, 0x32, 1, 5, 9⟩, 4, 0, ([7, 0, 9] : List Byte), rfl, by decide, by decide, by decide, by decide,
    rfl, rfl, rfl, rfl⟩,
    ⟨wSt ((wKz .ready)|> fun m => { m with
      fw := { m.fw with fwPtr := 4, cfgPtr := 4, area1 := [(5, 3), (9, 9)], cfgArea := [(0, 1)] } }), ⟨2000000, 6000000000⟩,
    _, ⟨0, .linkLocal, 7, 0x32, 1, 5, 9⟩, 0, 1, ([7, 0, 9] : List Byte), rfl, by decide, by decide, by decide, by decide,
    rfl, by decide⟩,
    ⟨wSt ((wKz .ready)|> fun m => { m with
      fw := { m.fw with fwPtr := 4, cfgPtr := 4, area1 := [(5, 3), (9, 9)], cfgArea := [(0, 1)] } }), ⟨2000000, 6000000000⟩,
    _, ⟨0, .linkLocal, 7, 0x32, 1, 5, 9⟩, 4, 2, (be 4 (crc32c [1, 0, 0, 0]) : List Byte), rfl, by decide, by decide, by
    decide, by decide, rfl, rfl, rfl, rfl⟩,
    ⟨wSt ((wKz .ready)|> fun m => { m with
      fw := { m.fw with fwPtr := 4, cfgPtr := 4, area1 := [(5, 3), (9, 9)], cfgArea := [(0, 1)] } }), ⟨2000000, 6000000000⟩,
    _, ⟨0, .linkLocal, 7, 0x32, 1, 5, 9⟩, 5, 0, ([7, 0, 9] : List Byte), rfl, by decide, by decide, by decide, rfl, by
    decide⟩,
    ⟨wSt ((wKz .recovery)|> fun m => { m with
      fw := { m.fw with fwPtr := 4, cfgPtr := 4, area1 := [(5, 3), (9, 9)], cfgArea := [(0, 1)] } }), ⟨2000000, 6000000000⟩,
    _, ⟨0, .linkLocal, 7, 0x32, 1, 5, 9⟩, 4, false, ([7, 0, 9] : List Byte), rfl, by decide, by decide, by decide, by
    decide, rfl, rfl, rfl, by decide, by decide⟩,
    ⟨wSt ((wKz .ready)|> fun m => { m with
      fw := { m.fw with fwPtr := 4, cfgPtr := 4, area1 := [(5, 3), (9, 9)], cfgArea := [(0, 1)] } }|> fun m => { m with
      trust := { m.trust with owner1 := { state := .active } } }), ⟨2000000, 6000000000⟩, _, ⟨0, .linkLocal, 7, 0x32, 1, 5,
    9⟩, 4, false, ([7, 0, 9] : List Byte), rfl, by decide, by decide, by decide, by decide, rfl, rfl, rfl, by decide⟩,
    ⟨wSt ((wKz .ready)|> fun m => { m with
      fw := { m.fw with fwPtr := 4, cfgPtr := 4, area1 := [(5, 3), (9, 9)], cfgArea := [(0, 1)] } }), ⟨2000000, 6000000000⟩,
    _, ⟨0, .linkLocal, 7, 0x32, 1, 5, 9⟩, 0, ([7, 0, 9] : List Byte), rfl, by decide, by decide, by decide, rfl⟩,
    ⟨wSt ((wKz .ready)|>.modSess 0 (fun q => { q with
      running := some { seq := 4, tag := 9, req := .fwChunk 0 1 1 [5], via := {}, wait := .erase, body := [], from_ := 1 } })),
    ⟨2000000, 6000000000⟩, _, 0, {
      seq := 4,
      tag := 9,
      req := .fwChunk 0 1 1 [5],
      via := {},
      wait := .erase,
      body := [],
      from_ := 1 }, 0, 1, 1, ([5] : List Byte), rfl, by decide, rfl, rfl, rfl, rfl, rfl, rfl, rfl, by decide, by decide, by
    decide, by decide⟩,
    ⟨wSt ((wKz .ready)), ⟨2000000, 6000000000⟩, _, rfl, by decide, by decide⟩,
    ⟨wSt ((wKz .ready)|> fun m => { m with trust := { m.trust with identOk := true } }), ⟨2000000, 6000000000⟩, _, ⟨0,
    .linkLocal, 7, 0x32, 1, 5, 9⟩, List.replicate 32 5, 0, 0, rfl, by decide, rfl, rfl, by decide⟩,
    ⟨wSt ((wKz .ready)|> fun m => { m with trust := { m.trust with identOk := true } }|>.modSess 0 (fun q => { q with
      quote := some ([1, 2], List.replicate 32 5) })), ⟨2000000, 6000000000⟩, _, ⟨0, .linkLocal, 7, 0x32, 1, 5, 9⟩,
    List.replicate 32 5, 0, 0, ([1, 2] : List Byte), rfl, by decide, rfl, Or.inl ⟨rfl, rfl⟩⟩,
    ⟨wSt ((wKz .ready)|> fun m => { m with trust := { m.trust with identOk := true } }), ⟨2000000, 6000000000⟩, _, ⟨0,
    .linkLocal, 7, 0x32, 1, 5, 9⟩, List.replicate 32 5, 2, 0, rfl, by decide, by decide⟩⟩

/-- Witness of the hypotheses of RequestsJudged. -/
theorem witness_RequestsJudged :
  (∃ (s : State) (t : Stamp) (m : Kz) (h : Hdr), s.kz.advance t = m ∧ answers m h.port.val = true ∧ (sess m h).isOpen =
    false ∧ MayReject m h.port.val) ∧
  (∃ (s : State) (t : Stamp) (m : Kz) (h : Hdr), s.kz.advance t = m ∧ answers m h.port.val = true ∧ (sess m h).isOpen = true
    ∧ h.version ≠ (sess m h).version ∧ h.origin = (sess m h).origin ∧ h.session = (m.port h.port.val).sessionId ∧ MayReject
    m h.port.val) ∧
  (∃ (s : State) (t : Stamp) (m : Kz) (h : Hdr), s.kz.advance t = m ∧ answers m h.port.val = true ∧ (sess m h).isOpen = true
    ∧ h.version = (sess m h).version ∧ h.origin ≠ (sess m h).origin ∧ MayReject m h.port.val) ∧
  (∃ (s : State) (t : Stamp) (m : Kz) (h : Hdr), s.kz.advance t = m ∧ answers m h.port.val = true ∧ (sess m h).isOpen = true
    ∧ h.version = (sess m h).version ∧ h.origin = (sess m h).origin ∧ h.session ≠ (m.port h.port.val).sessionId) ∧
  (∃ (s : State) (t : Stamp) (m : Kz) (h : Hdr), s.kz.advance t = m ∧ answers m h.port.val = false) ∧
  (∃ (s : State) (t : Stamp) (m : Kz) (h : Hdr) (a : Resp), s.kz.advance t = m ∧ answers m h.port.val = true ∧ (sess m
    h).isOpen = true ∧ (sess m h).version = h.version ∧ (sess m h).origin = h.origin ∧ (m.port h.port.val).sessionId =
    h.session ∧ (sess m h).tags.find? (fun y => y.tag = h.tag) = some ⟨h.tag, h.seq, digestOf .nop, some a⟩) ∧
  (∃ (s : State) (t : Stamp) (m : Kz) (h : Hdr), s.kz.advance t = m ∧ answers m h.port.val = true ∧ (sess m h).isOpen = true
    ∧ (sess m h).version = h.version ∧ (sess m h).origin = h.origin ∧ (m.port h.port.val).sessionId = h.session ∧ (sess m
    h).tags.find? (fun y => y.tag = h.tag) = some ⟨h.tag, h.seq, digestOf .nop, none⟩) ∧
  (∃ (s : State) (t : Stamp) (m : Kz) (h : Hdr) (q : TagRec), s.kz.advance t = m ∧ answers m h.port.val = true ∧ (sess m
    h).isOpen = true ∧ (sess m h).version = h.version ∧ (sess m h).origin = h.origin ∧ (m.port h.port.val).sessionId =
    h.session ∧ (sess m h).tags.find? (fun y => y.tag = h.tag) = some q ∧ ((q.seq = h.seq ∧ q.digest ≠ digestOf .nop) ∨
    (q.seq ≠ h.seq ∧ (h.seq - (sess m h).h).toNat < 64)) ∧ MayReject m h.port.val) ∧
  (∃ (s : State) (t : Stamp) (m : Kz) (h : Hdr), s.kz.advance t = m ∧ answers m h.port.val = true ∧ (sess m h).isOpen = true
    ∧ (sess m h).version = h.version ∧ (sess m h).origin = h.origin ∧ (m.port h.port.val).sessionId = h.session ∧ ((∀ y ∈
    (sess m h).tags, y.tag = h.tag → y.seq ≠ h.seq)) ∧ 64 ≤ (h.seq - (sess m h).h).toNat ∧ (h.seq - (sess m h).h).toNat <
    32768 ∧ MayReject m h.port.val) ∧
  (∃ (s : State) (t : Stamp) (m : Kz) (h : Hdr), s.kz.advance t = m ∧ answers m h.port.val = true ∧ (sess m h).isOpen = true
    ∧ (sess m h).version = h.version ∧ (sess m h).origin = h.origin ∧ (m.port h.port.val).sessionId = h.session ∧ ((∀ y ∈
    (sess m h).tags, y.tag = h.tag → y.seq ≠ h.seq)) ∧ 32768 ≤ (h.seq - (sess m h).h).toNat) ∧
  (∃ (s : State) (t : Stamp) (m : Kz) (h : Hdr), s.kz.advance t = m ∧ answers m h.port.val = true ∧ (sess m h).isOpen = true
    ∧ (sess m h).version = h.version ∧ (sess m h).origin = h.origin ∧ (m.port h.port.val).sessionId = h.session ∧ (∀ y ∈
    (sess m h).tags, y.tag ≠ h.tag) ∧ (h.seq - (sess m h).h).toNat < 64 ∧ (∃ y ∈ (sess m h).slots, y.seq = h.seq) ∧
    MayReject m h.port.val) ∧
  (∃ (s : State) (t : Stamp) (m : Kz) (h : Hdr), s.kz.advance t = m ∧ Quiet m ∧ answers m h.port.val = true ∧ (sess m
    h).isOpen = true ∧ (sess m h).version = h.version ∧ (sess m h).origin = h.origin ∧ (m.port h.port.val).sessionId =
    h.session ∧ (∀ y ∈ (sess m h).tags, y.tag ≠ h.tag) ∧ (h.seq - (sess m h).h).toNat < 64 ∧ h.seq ≠ (sess m h).h) ∧
  (∃ (s : State) (t : Stamp) (m : Kz) (h : Hdr), s.kz.advance t = m ∧ answers m h.port.val = true ∧ (sess m h).isOpen = true
    ∧ (sess m h).origin = h.origin ∧ (m.port h.port.val).sessionId = h.session ∧ MayReject m h.port.val) ∧
  (∃ (s : State) (t : Stamp) (m : Kz) (h : Hdr), s.kz.advance t = m ∧ answers m h.port.val = true ∧ ((sess m h).isOpen =
    false ∨ (sess m h).origin ≠ h.origin ∨ (m.port h.port.val).sessionId ≠ h.session)) ∧
  (∃ (s : State) (t : Stamp) (m : Kz) (h : Hdr), s.kz.advance t = m ∧ answers m h.port.val = true ∧ (sess m h).isOpen = true
    ∧ (sess m h).origin = h.origin ∧ (m.port h.port.val).sessionId = h.session ∧ (m.port h.port.val).rejSecond = m.now.ns /
    1000000000 ∧ m.fld F.HOST_CFG.REJ_RATE 0 ≤ (m.port h.port.val).rejSent) :=
  ⟨
    ⟨wSt ((wKz .ready)), ⟨2000000, 6000000000⟩, _, ⟨2, .linkLocal, 7, 0x32, 1, 5, 9⟩, rfl, rfl, rfl, by decide⟩,
    ⟨wSt ((wKz .ready)), ⟨2000000, 6000000000⟩, _, ⟨0, .linkLocal, 7, 0x31, 1, 5, 9⟩, rfl, rfl, rfl, by decide, rfl, rfl, by
    decide⟩,
    ⟨wSt ((wKz .ready)), ⟨2000000, 6000000000⟩, _, ⟨0, .linkLocal, 8, 0x32, 1, 5, 9⟩, rfl, rfl, rfl, rfl, by decide, by
    decide⟩,
    ⟨wSt ((wKz .ready)), ⟨2000000, 6000000000⟩, _, ⟨0, .linkLocal, 7, 0x32, 2, 5, 9⟩, rfl, rfl, rfl, rfl, rfl, by decide⟩,
    ⟨wSt ((wKz .recovery)), ⟨2000000, 6000000000⟩, _, ⟨1, .linkLocal, 7, 0x32, 2, 5, 9⟩, rfl, rfl⟩,
    ⟨wSt ((wKz .ready)|>.modSess 0 (fun q => { q with tags := [⟨9, 5, digestOf .nop, some ⟨1, .ok, []⟩⟩], h := 6 })),
    ⟨2000000, 6000000000⟩, _, ⟨0, .linkLocal, 7, 0x32, 1, 5, 9⟩, ⟨1, .ok, []⟩, rfl, rfl, rfl, rfl, rfl, rfl, rfl⟩,
    ⟨wSt ((wKz .ready)|>.modSess 0 (fun q => { q with tags := [⟨9, 5, digestOf .nop, none⟩], h := 6 })), ⟨2000000,
    6000000000⟩, _, ⟨0, .linkLocal, 7, 0x32, 1, 5, 9⟩, rfl, rfl, rfl, rfl, rfl, rfl, rfl⟩,
    ⟨wSt ((wKz .ready)|>.modSess 0 (fun q => { q with tags := [⟨9, 4, 0, none⟩] })), ⟨2000000, 6000000000⟩, _, ⟨0,
    .linkLocal, 7, 0x32, 1, 5, 9⟩, ⟨9, 4, 0, none⟩, rfl, rfl, rfl, rfl, rfl, rfl, rfl, by decide, by decide⟩,
    ⟨wSt ((wKz .ready)), ⟨2000000, 6000000000⟩, _, ⟨0, .linkLocal, 7, 0x32, 1, 69, 9⟩, rfl, rfl, rfl, rfl, rfl, rfl, by
    decide, by decide, by decide, by decide⟩,
    ⟨wSt ((wKz .ready)), ⟨2000000, 6000000000⟩, _, ⟨0, .linkLocal, 7, 0x32, 1, 4, 9⟩, rfl, rfl, rfl, rfl, rfl, rfl, by
    decide, by decide⟩,
    ⟨wSt ((wKz .ready)|>.modSess 0 (fun q => { q with slots := [⟨7, 1, .nop, {}⟩] })), ⟨2000000, 6000000000⟩, _, ⟨0,
    .linkLocal, 7, 0x32, 1, 7, 9⟩, rfl, rfl, rfl, rfl, rfl, rfl, by decide, by decide, by decide, by decide⟩,
    ⟨wSt ((wKz .ready)), ⟨2000000, 6000000000⟩, _, ⟨0, .linkLocal, 7, 0x32, 1, 68, 9⟩, rfl, by decide, rfl, rfl, rfl, rfl,
    rfl, by decide, by decide, by decide⟩,
    ⟨wSt ((wKz .ready)), ⟨2000000, 6000000000⟩, _, ⟨0, .linkLocal, 7, 0x32, 1, 5, 9⟩, rfl, rfl, rfl, rfl, rfl, by decide⟩,
    ⟨wSt ((wKz .ready)), ⟨2000000, 6000000000⟩, _, ⟨0, .linkLocal, 8, 0x32, 1, 5, 9⟩, rfl, rfl, by decide⟩,
    ⟨wSt ((wKz .ready)|>.modPort 0 (fun q => { q with rejSecond := 6, rejSent := 65000 })), ⟨2000000, 6000000000⟩, _, ⟨0,
    .linkLocal, 7, 0x32, 1, 5, 9⟩, rfl, rfl, rfl, rfl, rfl, rfl, by decide⟩⟩

/-- Witness of the hypotheses of PortsAndAcknowledgements. -/
theorem witness_PortsAndAcknowledgements :
  (∃ (s : State) (t : Stamp) (m : Kz) (h : Hdr), s.kz.advance t = m ∧ Quiet m ∧ answers m h.port.val = true ∧ (sess m
    h).isOpen = true ∧ (sess m h).version = h.version ∧ (sess m h).origin = h.origin ∧ (m.port h.port.val).sessionId =
    h.session) ∧
  (∃ (s : State) (t : Stamp) (m : Kz) (h : Hdr), s.kz.advance t = m ∧ answers m h.port.val = true ∧ (sess m h).isOpen =
    false) ∧
  (∃ (s : State) (t : Stamp) (m : Kz) (h : Hdr), s.kz.advance t = m ∧ answers m h.port.val = true ∧ (sess m h).isOpen = true
    ∧ (sess m h).version = h.version ∧ (sess m h).origin = h.origin ∧ (m.port h.port.val).sessionId ≠ h.session) ∧
  (∃ (s : State) (t : Stamp) (m : Kz) (h : Hdr), s.kz.advance t = m ∧ answers m h.port.val = true ∧ (sess m h).isOpen = true
    ∧ (sess m h).version = h.version ∧ (sess m h).origin ≠ h.origin ∧ MayReject m h.port.val) ∧
  (∃ (s : State) (t : Stamp) (m : Kz) (p : Port), s.kz.advance t = m ∧ (m.port p.val).session.isOpen = true ∧ (m.port
    p.val).session.timer + (m.port p.val).session.timeout * 1000000000 ≤ m.now.ns) ∧
  (∃ (s : State) (t : Stamp) (m : Kz) (p : Port), s.kz.advance t = m ∧ ((m.port p.val).session.isOpen = false ∨ m.now.ns <
    (m.port p.val).session.timer + (m.port p.val).session.timeout * 1000000000)) ∧
  (∃ (s : State) (t : Stamp) (m : Kz) (p : Port) (g : Nat), s.kz.advance t = m ∧ m.now.ns ≥ g + m.fld F.HOST_CFG.GAP_MS 0 *
    1000000 ∧ m.fld F.HOST_CFG.GAP_MS 0 ≠ 0 ∧ (m.port p.val).session.gapSince = some g ∧ (m.port p.val).session.isOpen =
    true ∧ (m.port p.val).session.slots ≠ [] ∧ (∀ y ∈ (m.port p.val).session.slots, y.seq ≠ (m.port p.val).session.h + 1) ∧
    ((∀ y : Nat, y < 4 → y ≠ p.val → (m.port y).session.slots = [] ∧ (m.port y).session.gapSince = none)) ∧ ((m.port
    p.val).session.version ≠ 0x32 ∨ (m.port p.val).session.mask.toNat.testBit 7 = false)) ∧
  (∃ (s : State) (t : Stamp) (m : Kz) (p : Port) (g : Nat), s.kz.advance t = m ∧ m.now.ns ≥ g + m.fld F.HOST_CFG.GAP_MS 0 *
    1000000 ∧ m.fld F.HOST_CFG.GAP_MS 0 ≠ 0 ∧ (m.port p.val).session.gapSince = some g ∧ (m.port p.val).session.isOpen =
    true ∧ (m.port p.val).session.slots ≠ [] ∧ (∀ y ∈ (m.port p.val).session.slots, y.seq ≠ (m.port p.val).session.h + 1) ∧
    ((∀ y : Nat, y < 4 → y ≠ p.val → (m.port y).session.slots = [] ∧ (m.port y).session.gapSince = none)) ∧ (m.port
    p.val).session.version = 0x32 ∧ (m.port p.val).session.mask.toNat.testBit 7 = true ∧ (m.port
    p.val).session.notifs.length < 64) ∧
  (∃ (s : State) (t : Stamp) (m : Kz) (p : Port), s.kz.advance t = m ∧ ((m.port p.val).session.gapSince = none ∨ (m.port
    p.val).session.isOpen = false ∨ m.fld F.HOST_CFG.GAP_MS 0 = 0)) ∧
  (∃ (s : State) (t : Stamp) (m : Kz) (p : Port) (due : List Notif), s.kz.advance t = m ∧ (m.port p.val).session.isOpen =
    true ∧ 0x30 ≤ (m.port p.val).session.version.toNat ∧ due = (m.port p.val).session.notifs.filter (fun y => decide (y.sent
    + max 1 (m.fld F.HOST_CFG.NOTIF_RETRY 0) * 10000000 ≤ m.now.ns))) ∧
  (∃ (s : State) (t : Stamp) (m : Kz) (p : Port), s.kz.advance t = m ∧ answers m p.val = true) ∧
  (∃ (s : State) (t : Stamp) (m : Kz) (p : Port), s.kz.advance t = m ∧ answers m p.val = true) ∧
  (∃ (s : State) (t : Stamp) (m : Kz) (p : Port), s.kz.advance t = m ∧ answers m p.val = true ∧ ((m.port p.val).echoSecond ≠
    m.now.ns / 1000000000 ∨ (m.port p.val).echoSent < 10)) ∧
  (∃ (s : State) (t : Stamp) (m : Kz) (p : Port), s.kz.advance t = m ∧ answers m p.val = true ∧ (m.port p.val).echoSecond =
    m.now.ns / 1000000000 ∧ 10 ≤ (m.port p.val).echoSent) ∧
  (∃ (s : State) (t : Stamp) (m : Kz) (p : Port), s.kz.advance t = m ∧ (m.port p.val).link = true) ∧
  (∃ (s : State) (t : Stamp) (m : Kz), s.kz.advance t = m ∧ m.pwr.state ≠ .off) ∧
  (∃ (s : State) (t : Stamp) (m : Kz) (p : Port) (q : Port) (v : Word), s.kz.advance t = m ∧ Accepts m p .HOST_PORT_CFG q v
    ∧ (m.port q.val).session.isOpen = true ∧ (storeReg m .HOST_PORT_CFG q v).cfgWord .HOST_PORT_CFG q ≠ m.cfgWord
    .HOST_PORT_CFG q) ∧
  (∃ (s : State) (t : Stamp) (m : Kz) (p : Port) (q : Port) (v : Word), s.kz.advance t = m ∧ Accepts m p .HOST_PORT_CFG q v
    ∧ (storeReg m .HOST_PORT_CFG q v).cfgWord .HOST_PORT_CFG q = m.cfgWord .HOST_PORT_CFG q) :=
  ⟨
    ⟨wSt ((wKz .ready)|>.modSess 0 (fun q => { q with
      tags := [⟨3, 2, 5, some ⟨1, .ok, []⟩⟩, ⟨4, 3, 5, some ⟨1, .ok, []⟩⟩, ⟨5, 4, 5, none⟩],
      notifs := [⟨7, [1], 4, 5000000000⟩, ⟨8, [2], 4, 5999999999⟩, ⟨9, [3], 4, 0⟩] })), ⟨2000000, 6000000000⟩, _, ⟨0,
    .linkLocal, 7, 0x32, 1, 5, 9⟩, rfl, by decide, rfl, rfl, rfl, rfl, rfl⟩,
    ⟨wSt ((wKz .ready)), ⟨2000000, 6000000000⟩, _, ⟨1, .linkLocal, 7, 0x32, 1, 5, 9⟩, rfl, rfl, rfl⟩,
    ⟨wSt ((wKz .ready)), ⟨2000000, 6000000000⟩, _, ⟨0, .linkLocal, 7, 0x32, 9, 5, 9⟩, rfl, rfl, rfl, rfl, rfl, by decide⟩,
    ⟨wSt ((wKz .ready)), ⟨2000000, 6000000000⟩, _, ⟨0, .linkLocal, 6, 0x32, 1, 5, 9⟩, rfl, rfl, rfl, rfl, by decide, by
    decide⟩,
    ⟨wSt ((wKz .ready)|>.modSess 0 (fun q => { q with
      running := some { seq := 4, tag := 9, req := .nop, via := {}, wait := .boundary, body := [], from_ := 0 } })),
    ⟨2000000, 10000000000⟩, _, 0, rfl, rfl, by decide⟩,
    ⟨wSt ((wKz .ready)), ⟨2000000, 9999999999⟩, _, 0, rfl, by decide⟩,
    ⟨wSt ((wKz .ready)|>.modSess 0 (fun q => { q with
      slots := [⟨8, 1, .nop, {}⟩],
      gapSince := some 5000000000,
      h := 6,
      mask := 2 })|>.setFld F.HOST_CFG.GAP_MS 0 1000), ⟨2000000, 6000000000⟩, _, 0, 5000000000, rfl, by decide, by decide,
    rfl, rfl, by decide, by decide, by decide, by decide⟩,
    ⟨wSt ((wKz .ready)|>.modSess 0 (fun q => { q with
      slots := [⟨8, 1, .nop, {}⟩],
      gapSince := some 5000000000,
      h := 6,
      lost := true,
      nextNotif := 0xFFFFFFFF })|>.setFld F.HOST_CFG.GAP_MS 0 1000), ⟨2000000, 6000000000⟩, _, 0, 5000000000, rfl, by
    decide, by decide, rfl, rfl, by decide, by decide, by decide, rfl, rfl, by decide⟩,
    ⟨wSt ((wKz .ready)|>.setFld F.HOST_CFG.GAP_MS 0 0|>.modSess 0 (fun q => { q with gapSince := some 1 })), ⟨2000000,
    6000000000⟩, _, 0, rfl, by decide⟩,
    ⟨wSt ((wKz .ready)|>.modSess 0 (fun q => { q with
      notifs := [⟨7, [1], 4, 5000000000⟩, ⟨8, [2], 4, 5999999999⟩, ⟨9, [3], 4, 0⟩] })|>.setFld F.HOST_CFG.NOTIF_RETRY 0 50),
    ⟨2000000, 6000000000⟩, _, 0, [⟨7, [1], 4, 5000000000⟩, ⟨9, [3], 4, 0⟩], rfl, rfl, by decide, by decide⟩,
    ⟨wSt ((wKz .ready)), ⟨2000000, 6000000000⟩, _, 3, rfl, rfl⟩,
    ⟨wSt ((wKz .ready)), ⟨2000000, 6000000000⟩, _, 3, rfl, rfl⟩,
    ⟨wSt ((wKz .ready)|>.modPort 0 (fun q => { q with echoSecond := 6, echoSent := 9 })), ⟨2000000, 6000000000⟩, _, 0, rfl,
    rfl, by decide⟩,
    ⟨wSt ((wKz .ready)|>.modPort 0 (fun q => { q with echoSecond := 6, echoSent := 10 })), ⟨2000000, 6000000000⟩, _, 0, rfl,
    rfl, rfl, by decide⟩,
    ⟨wSt ((wKz .ready)), ⟨2000000, 6000000000⟩, _, 0, rfl, rfl⟩,
    ⟨wSt ((wKz .ready)), ⟨2000000, 6000000000⟩, _, rfl, by decide⟩,
    ⟨wSt ((wKz .ready)), ⟨2000000, 6000000000⟩, _, 0, 0, 0x80004B5B, rfl, by decide, rfl, by decide⟩,
    ⟨wSt ((wKz .ready)), ⟨2000000, 6000000000⟩, _, 0, 0, 0x80004B5A, rfl, by decide, rfl⟩⟩

/-- Witness of the hypotheses of StepRunsTheFront: a queue of one command, and an empty one. -/
theorem witness_StepRunsTheFront : (∃ (c : Instr) (r : List Instr) (s : State), s.pending = c :: r) ∧ State.reset.pending = [] :=
  ⟨⟨.debugExpiry ⟨0, 0⟩, [], { pending := [.debugExpiry ⟨0, 0⟩] }, rfl⟩, rfl⟩

/-- Witness of the hypotheses of RegisterRowsRefused: a closed session, a missing lease, a locked field, a refused value. -/
theorem witness_RegisterRowsRefused :
    (((wKz .ready).port 1).session.isOpen = false) ∧ powered (wKz .recovery).pwr.state = false ∧
    (∃ m : Kz, Reaches m 0 .HK_CTRL 0 ∧ covers (m.port 0).session.leases (leaseFor (RegKind.addr .HK_CTRL 0)) = false) ∧
    (∃ m : Kz, Reaches m 0 .CH_TRIG_CTRL 17 ∧ covers (m.port 0).session.leases (leaseFor (RegKind.addr .CH_TRIG_CTRL 17)) = true ∧
      lockedOut m .CH_TRIG_CTRL 17 0xFFFFFFFF = true) ∧
    ∃ m : Kz, Reaches m 0 .HOST_PORT_CFG 0 ∧ covers (m.port 0).session.leases (leaseFor (RegKind.addr .HOST_PORT_CFG 0)) = true ∧
      lockedOut m .HOST_PORT_CFG 0 0 = false ∧ regCheck m .HOST_PORT_CFG 0 0 = some .badValue :=
  ⟨by decide, by decide, ⟨(wKz .ready).modSess 0 (fun q => { q with leases := [.region 1] }), by decide⟩, ⟨wRun 0 1 (fun x => x), by decide⟩,
    ⟨wKz .ready, by decide⟩⟩

/-- Witness of the hypotheses of CountersHold: a counter one below its end. -/
theorem witness_CountersHold : ∃ m : Kz, m.counter .HOST_LATE 2 = 0xFFFFFFFE ∧ m.counter .HOST_LATE 2 < 2 ^ 32 :=
  ⟨({} : Kz).count .HOST_LATE 2 0xFFFFFFFE, by decide⟩



/-- Witness of the hypotheses of EveryStepKeepsTheInvariant: reset, and a block with a full session. -/
theorem witness_EveryStepKeepsTheInvariant : (∃ n, step State.reset = .next n ∧ Inv State.reset.kz) ∧
    ∃ (s n : State), s.pending = [.hostLinkLoss ⟨5, 6⟩ 0] ∧ step s = .next n ∧ Inv s.kz :=
  ⟨⟨_, rfl, by decide⟩, ⟨{ kz := wKz .acquire, pending := [.hostLinkLoss ⟨5, 6⟩ 0] }, _, rfl, rfl, by decide⟩⟩

/-- Witness of the hypothesis of TimeNeverRunsBack. -/
theorem witness_TimeNeverRunsBack : ∃ (s n : State), s.pending = [.hostLinkLoss ⟨5, 6⟩ 0] ∧ step s = .next n :=
  ⟨{ kz := wKz .acquire, pending := [.hostLinkLoss ⟨5, 6⟩ 0] }, _, rfl, rfl⟩

/-- Witness of the hypotheses of FusesAreNeverUnmade: a module with one owner key in use and one revoked. -/
theorem witness_FusesAreNeverUnmade : ∃ (s n : State), s.pending = [.hostLinkLoss ⟨5, 6⟩ 0] ∧ step s = .next n ∧
    (ownerSlot s.kz.trust 0).state = .revoked ∧ (ownerSlot s.kz.trust 1).state = .active :=
  ⟨{ kz := { wKz .acquire with trust := { owner0 := { state := .revoked }, owner1 := { state := .active } } },
     pending := [.hostLinkLoss ⟨5, 6⟩ 0] }, _, rfl, rfl, rfl, rfl⟩

set_option maxRecDepth 20000 in
/-- Witness of the hypotheses of RefusedValues. -/
theorem witness_RefusedValues :
  (∃ (s : State) (t : Stamp) (m : Kz) (h : Hdr) (pairs : List (Word × Word)) (v : Word) (i : Fin 192), s.kz.advance t = m ∧
    Runs m h (.regWrite pairs) ∧ pairs = [(BitVec.ofNat 32 (RegKind.addr .CH_FE_CTRL i.val), v)] ∧ covers (sess m h).leases
    (leaseFor (RegKind.addr .CH_FE_CTRL i.val)) = true ∧ restartOf m (RegKind.addr .CH_FE_CTRL i.val) = none ∧ lockedOut m
    .CH_FE_CTRL i.val v = false ∧ 5 < F.CH_FE_CTRL.GAIN.of v) ∧
  (∃ (s : State) (t : Stamp) (m : Kz) (h : Hdr) (pairs : List (Word × Word)) (v : Word) (i : Fin 12), s.kz.advance t = m ∧
    Runs m h (.regWrite pairs) ∧ pairs = [(BitVec.ofNat 32 (RegKind.addr .RGN_ROT_CTRL i.val), v)] ∧ covers (sess m
    h).leases (leaseFor (RegKind.addr .RGN_ROT_CTRL i.val)) = true ∧ restartOf m (RegKind.addr .RGN_ROT_CTRL i.val) = none ∧
    lockedOut m .RGN_ROT_CTRL i.val v = false ∧ F.RGN_ROT_CTRL.STEP.of v < 5) ∧
  (∃ (s : State) (t : Stamp) (m : Kz) (h : Hdr) (pairs : List (Word × Word)) (v : Word) (i : Fin 192), s.kz.advance t = m ∧
    Runs m h (.regWrite pairs) ∧ pairs = [(BitVec.ofNat 32 (RegKind.addr .CH_SLOT_AUX i.val), v)] ∧ covers (sess m h).leases
    (leaseFor (RegKind.addr .CH_SLOT_AUX i.val)) = true ∧ restartOf m (RegKind.addr .CH_SLOT_AUX i.val) = none ∧ lockedOut m
    .CH_SLOT_AUX i.val v = false ∧ F.CH_SLOT_AUX.WIN_HI.of v < F.CH_SLOT_AUX.WIN_LO.of v) :=
  ⟨
    ⟨wSt (wKz .ready), ⟨2000000, 6000000000⟩, _, ⟨0, .linkLocal, 7, 0x32, 1, 5, 9⟩, ([(BitVec.ofNat 32 (RegKind.addr
    .CH_FE_CTRL 17), (BitVec.ofNat 32 (F.CH_FE_CTRL.GAIN.put 6)))] : List (Word × Word)), (BitVec.ofNat 32
    (F.CH_FE_CTRL.GAIN.put 6)), 17, rfl, by decide, rfl, by decide, by decide, by decide, by decide⟩,
    ⟨wSt (wKz .ready), ⟨2000000, 6000000000⟩, _, ⟨0, .linkLocal, 7, 0x32, 1, 5, 9⟩, ([(BitVec.ofNat 32 (RegKind.addr
    .RGN_ROT_CTRL 1), (BitVec.ofNat 32 (F.RGN_ROT_CTRL.STEP.put 4)))] : List (Word × Word)), (BitVec.ofNat 32
    (F.RGN_ROT_CTRL.STEP.put 4)), 1, rfl, by decide, rfl, by decide, by decide, by decide, by decide⟩,
    ⟨wSt (wKz .ready), ⟨2000000, 6000000000⟩, _, ⟨0, .linkLocal, 7, 0x32, 1, 5, 9⟩, ([(BitVec.ofNat 32 (RegKind.addr
    .CH_SLOT_AUX 191), (BitVec.ofNat 32 (F.CH_SLOT_AUX.WIN_HI.put 6 ||| F.CH_SLOT_AUX.WIN_LO.put 7)))] : List (Word ×
    Word)), (BitVec.ofNat 32 (F.CH_SLOT_AUX.WIN_HI.put 6 ||| F.CH_SLOT_AUX.WIN_LO.put 7)), 191, rfl, by decide, rfl, by
    decide, by decide, by decide, by decide⟩⟩

end Sys2Proof.Tests
end

section
/-! SUPPORT. The family 00_scope.md: what a register row answers where it is refused (R524, R534, R718, R755), and what a commit of
the timing block applies (R12, R721). -/
namespace Sys2Proof.Machine
open Safety

/-! ### Register rows that do not reach, or may not write, their register -/

theorem pairWrite_unreached {m : Kz} {p : Nat} (h : (m.port p).session.isOpen = false ∨ powered m.pwr.state = false)
    (k : RegKind) (i : Nat) (w : Word) : pairWrite m p k i w = m := by
  rcases h with h | h <;> simp [pairWrite, h]

theorem wordRead_unreached {m : Kz} {p : Nat} (h : (m.port p).session.isOpen = false ∨ powered m.pwr.state = false)
    (k : RegKind) (i : Nat) : wordRead m p k i = m := by
  rcases h with h | h <;> simp [wordRead, h]

/-- A row whose pair is refused answers the pair's status and does what the refusal did. -/
theorem pairWrite_refused {m n : Kz} {p i : Nat} {k : RegKind} {w : Word} {st : Status} (h : Reaches m p k i)
    (hw : writeWord m (m.port p).session.leases (k.addr i) w = (.refused st, n)) :
    pairWrite m p k i w = n.emit (.pairStatus p (k.addr i) st ⟨3, 0⟩) := by
  obtain ⟨ho, hpw, hr⟩ := h
  simp [pairWrite, ho, hpw, hr, hw]

/-- R534: the lease is judged before the register. -/
theorem writeWord_noLease {held : List Lease} {a : Nat} {pl : Place} (hp : placeOf a = some pl)
    (hc : covers held (leaseFor a) = false) (m : Kz) (w : Word) : writeWord m held a w = (.refused .noLease, m) := by
  simp [writeWord, hp, hc]

theorem writeWord_reg {held : List Lease} {k : RegKind} {i : Nat} (hp : placeOf (k.addr i) = some (.reg k i))
    (hc : covers held (leaseFor (k.addr i)) = true) (m : Kz) (w : Word) :
    writeWord m held (k.addr i) w = writeReg m k i w := by
  simp [writeWord, hp, hc, writePlace]

theorem writeReg_locked {m : Kz} {k : RegKind} {i : Nat} {w : Word} (hl : lockedOut m k i w = true) :
    writeReg m k i w = (.refused .locked, m) := by
  simp [writeReg, hl]

/-- HK_URGENT and DSI_COMMIT aside, which answer by rules of their own (R504, R685), a register refuses what its check refuses. -/
theorem writeReg_checked {m : Kz} {k : RegKind} {i : Nat} {w : Word} {st : Status} (hl : lockedOut m k i w = false)
    (hk : regCheck m k i w = some st) (hu : k ≠ .HK_URGENT) (hd : k ≠ .DSI_COMMIT) :
    writeReg m k i w = (.refused st, m) := by
  simp [writeReg, hl, hk]

/-! ### The timing block's staged values -/

theorem storeReg_cfgWord_of_staged {k : RegKind} (hk : k.info.rws ≠ 0) (m : Kz) (i : Nat) (w : Word) (l : RegKind) (j : Nat) :
    (storeReg m k i w).cfgWord l j = m.cfgWord l j := by
  simp only [storeReg, if_pos hk]
  split <;> split <;> rfl

theorem storeReg_staged {k : RegKind} (hk : k.info.rws ≠ 0) (m : Kz) (i : Nat) (w : Word) :
    (storeReg m k i w).regs.staged = Sparse.set m.regs.staged (k.addr i) (BitVec.ofNat 32 (w.toNat &&& k.info.rws)) := by
  simp only [storeReg, if_pos hk]
  split <;> split <;> rfl

theorem Kz.cfgWord_setCfg_of_addr_ne {k l : RegKind} {i j : Nat} (h : l.addr j ≠ k.addr i) (m : Kz) (w : Word) :
    (m.setCfg k i w).cfgWord l j = m.cfgWord l j :=
  Sparse.get_set_ne _ _ _ _ _ h

/-- Words written to one register of each kind of a list: a register whose address none of them has keeps its word. -/
theorem foldl_setCfg_of_addr_notMem (g : RegKind → Word) {ks : List RegKind} {l : RegKind} (h : l.addr 0 ∉ ks.map (·.addr 0))
    (m : Kz) : (ks.foldl (fun m k => m.setCfg k 0 (g k)) m).cfgWord l 0 = m.cfgWord l 0 := by
  induction ks generalizing m with
  | nil => rfl
  | cons k ks ih =>
    obtain ⟨hk, hks⟩ := not_or.1 (mt List.mem_cons.2 h)
    rw [List.foldl_cons, ih hks, Kz.cfgWord_setCfg_of_addr_ne hk]

/-- Where the addresses differ, each register of the list reads the word written to it. -/
theorem foldl_setCfg_of_mem (g : RegKind → Word) {ks : List RegKind} (hn : (ks.map (·.addr 0)).Nodup) {l : RegKind} (h : l ∈ ks)
    (m : Kz) : (ks.foldl (fun m k => m.setCfg k 0 (g k)) m).cfgWord l 0 = g l := by
  induction ks generalizing m with
  | nil => cases h
  | cons k ks ih =>
    obtain ⟨hk, hks⟩ := List.nodup_cons.1 hn
    rw [List.foldl_cons]
    rcases List.mem_cons.1 h with rfl | h
    · rw [foldl_setCfg_of_addr_notMem g hk, Kz.cfgWord_setCfg]
    · exact ih hks h _

theorem dsiTimingKinds_addr_nodup : (dsiTimingKinds.map (·.addr 0)).Nodup := by decide

theorem dsiTimingKinds_rws_ne_zero : ∀ k ∈ dsiTimingKinds, k.info.rws ≠ 0 := by decide

theorem dsiCommitted_cfgWord (m : Kz) (w : List Word) (l : RegKind) (j : Nat) :
    (dsiCommitted m w).cfgWord l j = m.cfgWord l j := by
  unfold dsiCommitted
  split <;> rfl

/-- R721: after a commit each register of the timing block holds what was staged in it, and where nothing was staged what it held. -/
theorem applyStaged_cfgWord {l : RegKind} (h : l ∈ dsiTimingKinds) (m : Kz) :
    (applyStaged m).cfgWord l 0 = Sparse.get (m.cfgWord l 0) m.regs.staged (l.addr 0) := by
  have hz : dsiTimingKinds.zip (stagedTiming m) =
      dsiTimingKinds.map (fun k => (k, Sparse.get (m.cfgWord k 0) m.regs.staged (k.addr 0))) :=
    List.map_prod_left_eq_zip.symm
  have hf := foldl_setCfg_of_mem (fun k => Sparse.get (m.cfgWord k 0) m.regs.staged (k.addr 0)) dsiTimingKinds_addr_nodup h m
  rw [applyStaged, dsiCommitted_cfgWord, hz, List.foldl_map]
  exact hf

end Sys2Proof.Machine

namespace Sys2Proof.Safety
open Machine

/-! ### The register rows as commands -/

/-- What a command completes with is what its meaning makes of the block at the command's moment. -/
theorem after_of_exec {c : Instr} {s : State} {t : Stamp} {f : Kz → Kz} {P : Kz → Prop} (h : exec c s = s.at_ t f)
    (hf : P (f (s.kz.advance t))) : After c s P :=
  ⟨f (s.kz.advance t), h, hf⟩

/-- The command is the register row that writes `v` to register `i` of kind `k` in port `p`'s session at moment `t`. -/
structure WritesRegister (t : Stamp) (p : Port) (v : Word) (c : Instr) (k : RegKind) (i : Nat) : Prop where
  exec_eq : ∀ s : State, exec c s = s.at_ t (fun m => pairWrite m p.val k i v)
  place_eq : placeOf (k.addr i) = some (.reg k i)

/-- The command is a register row that reads a register in port `p`'s session at moment `t`. -/
def ReadsRegister (t : Stamp) (p : Port) (c : Instr) : Prop :=
  ∃ (k : RegKind) (i : Nat), ∀ s : State, exec c s = s.at_ t (fun m => wordRead m p.val k i)

namespace WritesRegister
variable {s : State} {t : Stamp} {m : Kz} {p : Port} {v : Word} {c : Instr} {k : RegKind} {i : Nat}

theorem after_unreached (hc : WritesRegister t p v c k i) (hm : s.kz.advance t = m)
    (h : (m.port p).session.isOpen = false ∨ powered m.pwr.state = false) : After c s fun n => n = m := by
  subst hm
  exact after_of_exec (hc.exec_eq s) (pairWrite_unreached h k i v)

/-- A row whose pair is refused with the block left alone answers the status and changes nothing. -/
theorem after_refused {st : Status} (hc : WritesRegister t p v c k i) (hm : s.kz.advance t = m) (hr : Reaches m p k i)
    (hw : writeWord m (m.port p).session.leases (k.addr i) v = (.refused st, m)) :
    After c s fun n => n = m.emit (.pairStatus p (k.addr i) st ⟨3, 0⟩) := by
  subst hm
  exact after_of_exec (hc.exec_eq s) (pairWrite_refused hr hw)

theorem after_noLease (hc : WritesRegister t p v c k i) (hm : s.kz.advance t = m) (hr : Reaches m p k i)
    (hl : covers (m.port p).session.leases (leaseFor (k.addr i)) = false) :
    After c s fun n => n = m.emit (.pairStatus p (k.addr i) .noLease ⟨3, 0⟩) :=
  hc.after_refused hm hr (writeWord_noLease hc.place_eq hl m v)

theorem after_locked (hc : WritesRegister t p v c k i) (hm : s.kz.advance t = m) (hr : Reaches m p k i)
    (hl : covers (m.port p).session.leases (leaseFor (k.addr i)) = true) (hk : lockedOut m k i v = true) :
    After c s fun n => n = m.emit (.pairStatus p (k.addr i) .locked ⟨3, 0⟩) :=
  hc.after_refused hm hr ((writeWord_reg hc.place_eq hl m v).trans (writeReg_locked hk))

theorem after_checked {st : Status} (hc : WritesRegister t p v c k i) (hm : s.kz.advance t = m) (hr : Reaches m p k i)
    (hl : covers (m.port p).session.leases (leaseFor (k.addr i)) = true) (hk : lockedOut m k i v = false)
    (hs : regCheck m k i v = some st) (hu : k ≠ .HK_URGENT) (hd : k ≠ .DSI_COMMIT) :
    After c s fun n => n = m.emit (.pairStatus p (k.addr i) st ⟨3, 0⟩) :=
  hc.after_refused hm hr ((writeWord_reg hc.place_eq hl m v).trans (writeReg_checked hk hs hu hd))

end WritesRegister

theorem ReadsRegister.after_unreached {s : State} {t : Stamp} {m : Kz} {p : Port} {c : Instr} (hc : ReadsRegister t p c)
    (hm : s.kz.advance t = m) (h : (m.port p).session.isOpen = false ∨ powered m.pwr.state = false) :
    After c s fun n => n = m := by
  obtain ⟨k, i, hx⟩ := hc
  subst hm
  exact after_of_exec (hx s) (wordRead_unreached h k i)

/-- Settles O52: every row listed writes (or reads) a register of its own, and the lease, the lock and the check are judged in that order. -/
theorem registerRowsRefused : Obligations.RegisterRowsRefused := by
  unfold Obligations.RegisterRowsRefused
  intro s t m p v k c x y z q hm
  refine ⟨fun r hr => ?_, fun r hr => ?_⟩
  · have hc : WritesRegister t p v r.1 r.2.1 r.2.2 := by
      revert r
      simp only [List.forall_mem_cons, List.not_mem_nil, false_implies, implies_true, and_true]
      exact ⟨⟨fun _ => rfl, place_TIM_EPOCH_STAT⟩, ⟨fun _ => rfl, place_TIM_TL_CFG⟩, ⟨fun _ => rfl, place_TIM_OVEN⟩,
        ⟨fun _ => rfl, place_TIM_HEARTH_TRIM⟩, ⟨fun _ => rfl, place_RGN_XQ_STAT k⟩, ⟨fun _ => rfl, place_CH_CONV_CTRL c⟩,
        ⟨fun _ => rfl, place_CH_SLICE_HEALTH c⟩, ⟨fun _ => rfl, place_CH_CHAIN_CTRL c⟩, ⟨fun _ => rfl, place_CH_TRIG_CTRL c⟩,
        ⟨fun _ => rfl, place_RGN_SOFT_TRIG k⟩, ⟨fun _ => rfl, place_RGN_ACCQ_STAT k⟩, ⟨fun _ => rfl, place_RGN_ACC_CLR k⟩,
        ⟨fun _ => rfl, place_RGN_ACC_CLR k⟩, ⟨fun _ => rfl, place_MOD_MAP_CTRL x⟩, ⟨fun _ => rfl, place_RGN_RO_CTRL k⟩,
        ⟨fun _ => rfl, place_RGN_RO_TEST k⟩, ⟨fun _ => rfl, place_RGN_RO_CTRL k⟩, ⟨fun _ => rfl, place_RGN_DAMPER k⟩,
        ⟨fun _ => rfl, place_TIM_TIU_CFG y⟩, ⟨fun _ => rfl, place_TIM_TIU_WIN y⟩, ⟨fun _ => rfl, place_TIM_TIU_ARM⟩,
        ⟨fun _ => rfl, place_TIM_FREQ_CFG⟩, ⟨fun _ => rfl, place_TIM_FREQ_CFG⟩, ⟨fun _ => rfl, place_SNS_CFG z⟩,
        ⟨fun _ => rfl, place_HK_CTRL⟩, ⟨fun _ => rfl, place_HK_CTRL⟩, ⟨fun _ => rfl, place_HK_CTRL⟩,
        ⟨fun _ => rfl, place_HK_CTRL⟩, ⟨fun _ => rfl, place_HK_URGENT⟩, ⟨fun _ => rfl, place_MOD_VIN⟩,
        ⟨fun _ => rfl, place_RGN_RAIL k⟩, ⟨fun _ => rfl, place_MOD_ERR_CTRL⟩, ⟨fun _ => rfl, place_MOD_STAT_CTRL⟩,
        ⟨fun _ => rfl, place_DSI_CTRL⟩, ⟨fun _ => rfl, place_DSI_CTRL⟩, ⟨fun _ => rfl, place_DSI_COMMIT⟩,
        ⟨fun _ => rfl, place_DSI_COMMIT⟩, ⟨fun _ => rfl, place_DSI_COMMIT⟩, ⟨fun _ => rfl, place_MOD_DEBUG_STAT⟩,
        ⟨fun _ => rfl, place_HOST_PORT_CFG q⟩⟩
    exact ⟨hc.after_unreached hm,
      fun hreach => ⟨hc.after_noLease hm hreach, hc.after_locked hm hreach, fun _ => hc.after_checked hm hreach⟩⟩
  · have hc : ReadsRegister t p r := by
      revert r
      simp only [List.forall_mem_cons, List.not_mem_nil, false_implies, implies_true, and_true]
      exact ⟨⟨.TIM_DATUM_LO, 0, fun _ => rfl⟩, ⟨.TIM_TL_XING, 0, fun _ => rfl⟩, ⟨.TIM_TIU_STAT, y.val, fun _ => rfl⟩,
        ⟨.TIM_FREQ_STAT, 0, fun _ => rfl⟩, ⟨.SNS_STAT, z.val, fun _ => rfl⟩, ⟨.DSI_FLIP_LO, 0, fun _ => rfl⟩⟩
    exact hc.after_unreached hm

/-- Settles O54: a second staged value overwrites the first in the table of staged values, at the register's own address only. -/
theorem lastStagedValueApplies : Obligations.LastStagedValueApplies := by
  unfold Obligations.LastStagedValueApplies
  intro m v w k hk
  have hs := dsiTimingKinds_rws_ne_zero k hk
  refine ⟨?_, ?_, fun l hl hne => ?_⟩
  · rw [storeReg_cfgWord_of_staged hs, storeReg_cfgWord_of_staged hs]
  · rw [applyStaged_cfgWord hk, storeReg_staged hs, Sparse.get_set_same]
  · have ha : l.addr 0 ≠ k.addr 0 := fun e => hne (List.inj_on_of_nodup_map dsiTimingKinds_addr_nodup hl hk e)
    rw [applyStaged_cfgWord hl, storeReg_staged hs, storeReg_staged hs, Sparse.get_set_ne _ _ _ _ _ ha,
      Sparse.get_set_ne _ _ _ _ _ ha, storeReg_cfgWord_of_staged hs, storeReg_cfgWord_of_staged hs]

end Sys2Proof.Safety
end

section
/-! SUPPORT. The family 01_module_organisation.md: what a crossing edge and its fast command make of the block (R133, R257, R381 to
R387, R393), and an empty entry of the fixed lane that answers lost ACCEPTs (R629, R757). -/
namespace Sys2Proof.Machine
open Safety

/-! ### What a crossing edge leaves alone -/

/-- The block without the marks, counts, entries and reports that a crossing edge may leave (R381, R392, R395, R434). -/
def Kz.besides (m : Kz) : Kz :=
  { m with
    tl := { m.tl with
      grid := false, slewErr := none, orbitWraps := 0, warns := [], warnsNew := [], echoPrev := 0, logged := [], skew := 0,
      skewAt := none, retState := 0, retReason := 0 }
    chans := [], regs := { m.regs with seen := [], setIn := [] }, stats := { m.stats with live := [] }, log := {}, spans := [],
    tiu := {}, wire := [] }

theorem eachRgn_same {β : Type} (g : Kz → β) {f : Kz → Nat → Kz} (h : ∀ m k, g (f m k) = g m) (m : Kz) :
    g (m.eachRgn f) = g m :=
  foldl_same g h _ m

theorem eachChan_same {β : Type} (g : Kz → β) {f : Kz → Nat → Kz} (h : ∀ m c, g (f m c) = g m) (m : Kz) (k : Nat) :
    g (m.eachChan k f) = g m :=
  foldl_same g (fun m i => h m (16 * k + i)) _ m

theorem allChans_same {β : Type} (g : Kz → β) {f : Kz → Nat → Kz} (h : ∀ m c, g (f m c) = g m) (m : Kz) :
    g (m.allChans f) = g m :=
  eachRgn_same g (fun m k => eachChan_same g h m k) m

@[simp] theorem besides_logEntry (m : Kz) (d ep code cls kind idx x v : Nat) :
    (m.logEntry d ep code cls kind idx x v).besides = m.besides := by
  unfold Kz.logEntry
  dsimp only
  split <;> rfl

@[simp] theorem besides_openSpanAt (m : Kz) (k : SpanKind) (t : Nat) : (m.openSpanAt k t).besides = m.besides := by
  unfold Kz.openSpanAt
  split <;> rfl

@[simp] theorem besides_warnLog (m : Kz) (r code v : Nat) : (warnLog m r code v).besides = m.besides := by
  unfold warnLog
  dsimp only
  split
  · rfl
  · exact besides_logEntry ..

@[simp] theorem besides_violation (m : Kz) (r : Nat) : (violation m r).besides = m.besides := besides_warnLog ..

@[simp] theorem besides_count (m : Kz) (k : RegKind) (i n : Nat) : (m.count k i n).besides = m.besides := rfl

@[simp] theorem besides_fireTrig (m : Kz) (c src i cyc : Nat) : (fireTrig m c src i cyc).besides = m.besides := by
  unfold fireTrig
  dsimp only
  split <;> rfl

@[simp] theorem besides_firePeriodic (m : Kz) (k i : Nat) : (firePeriodic m k i).besides = m.besides :=
  eachChan_same Kz.besides (fun _ _ => besides_fireTrig ..) m k

@[simp] theorem besides_rsJudge (m : Kz) (c : Nat) (e : Edge) : (rsJudge m c e).besides = m.besides := by
  unfold rsJudge
  dsimp only
  split
  · split
    · exact (besides_logEntry ..).trans (besides_openSpanAt ..)
    · split <;> rfl
  · rfl

@[simp] theorem besides_tiuArrive (m : Kz) (src arg i : Nat) : (tiuArrive m src arg i).besides = m.besides := by
  unfold tiuArrive
  split <;> rfl

@[simp] theorem besides_returnFrame (m : Kz) : (returnFrame m).besides = m.besides := by
  have reported : ∀ (n : Kz) (st : Nat × Nat) (em : Emission), ((n.modTl (fun l => { l with
      retState := st.1, retReason := st.2, warns := if st.1 = 2 then [] else l.warns })).emit em).besides = n.besides :=
    fun _ _ _ => rfl
  have echoed : ∀ n : Kz, (n.modTl (fun l => { l with
      echoPrev := l.echo, warns := l.warns ++ l.warnsNew, warnsNew := [] })).besides = n.besides := fun _ => rfl
  refine (echoed _).trans ?_
  cases powered m.pwr.state && m.on F.TIM_TL_CFG.TOUT_EN 0 with
  | false => rfl
  | true =>
    cases m.tl.edges with
    | nil => rfl
    | cons e r => exact reported ..

/-! ### The crossing edge -/

/-- The edge that `newEdge` makes (R381, R382). -/
def newestEdge (m : Kz) (at_ period : Nat) (mark reset virt : Bool) : Edge :=
  { no := match m.tl.edges with | e :: _ => e.no + 1 | [] => 0
    at_ := at_, period := period
    bcn := if mark || reset then 0 else (nextBcn m).1
    orbit := if reset || m.tl.edges.isEmpty then 0 else if mark then ((nextBcn m).2 + 1) % 2 ^ 32 else (nextBcn m).2
    mark := mark, virt := virt || m.tb.xingVirtual, hold := carried m }

/-- The block with an edge as its newest crossing. -/
def Kz.atEdge (m : Kz) (e : Edge) : Kz :=
  m.modTl (fun l => { l with edges := (e :: l.edges).take 65600, bcn := e.bcn, orbit := e.orbit })

/-- What a periodic trigger, a range mark, a return frame and the count of orbits leave alone is after an edge as with the edge
alone, if an edge of that kind does not touch it where it is an event or breaks the orbit's length. -/
theorem newEdge_same {β : Type} (g : Kz → β) (m : Kz) (a p : Nat) (mark reset virt : Bool)
    (hperiodic : ∀ m k i, g (firePeriodic m k i) = g m) (hrange : ∀ m c e, g (rsJudge m c e) = g m)
    (hreturn : ∀ m, g (returnFrame m) = g m)
    (hwraps : ∀ (m : Kz) (w : Nat), g (m.modTl (fun l => { l with orbitWraps := w })) = g m)
    (hevent : virt = false → ∀ m src, g (tiuArrive m src 0 a) = g m)
    (horbit : mark = true → ∀ m, g (violation ((m.count .TIM_TL_PROTO_ERR 0 1).mark F.TIM_TL_STAT.ORBIT_ERR_SEEN 0) 7) = g m) :
    g (newEdge m a p mark reset virt) = g (m.atEdge (newestEdge m a p mark reset virt)) := by
  have hfire : ∀ (m : Kz) (b : Nat),
      g (m.eachRgn (fun m k => if m.inRun k && periodicAt m k b then firePeriodic m k a else m)) = g m := by
    refine fun m b => eachRgn_same g (fun m k => ?_) m
    split
    · exact hperiodic ..
    · rfl
  have hmarks : ∀ (m : Kz) (e : Edge), g (m.allChans (fun m c => rsJudge m c e)) = g m :=
    fun m e => allChans_same g (fun m c => hrange m c e) m
  have hlength : ∀ (m : Kz) (x y : Bool), g (if mark && x && y then
      violation ((m.count .TIM_TL_PROTO_ERR 0 1).mark F.TIM_TL_STAT.ORBIT_ERR_SEEN 0) 7 else m) = g m := by
    intro m x y
    split
    · next h =>
      simp only [Bool.and_eq_true] at h
      obtain ⟨⟨hm, -⟩, -⟩ := h
      exact horbit hm m
    · rfl
  have hcrossing : ∀ m, g (if virt then m else tiuArrive m 1 0 a) = g m := by
    intro m
    split
    · rfl
    · next h => exact hevent (Bool.eq_false_of_not_eq_true h) m 1
  have hmark : ∀ m, g (if mark && !virt then tiuArrive m 2 0 a else m) = g m := by
    intro m
    split
    · next h =>
      simp only [Bool.and_eq_true, Bool.not_eq_true'] at h
      exact hevent h.2 m 2
    · rfl
  unfold newEdge
  simp only [hreturn, hmark, hcrossing, hmarks, hfire, hlength]
  exact hwraps (m.atEdge _) _

theorem besides_newEdge (m : Kz) (a p : Nat) (mark reset virt : Bool) :
    (newEdge m a p mark reset virt).besides = (m.atEdge (newestEdge m a p mark reset virt)).besides :=
  newEdge_same Kz.besides m a p mark reset virt besides_firePeriodic besides_rsJudge besides_returnFrame (fun _ _ => rfl)
    (fun _ _ _ => besides_tiuArrive ..) (fun _ _ => besides_violation ..)

/-- The counters, the periods and the time-interval unit, which a crossing edge touches only where it breaks a rule or is an event. -/
def Kz.tallies (m : Kz) : Stats × Tiu := (m.stats, m.tiu)

theorem tallies_firePeriodic (m : Kz) (k i : Nat) : (firePeriodic m k i).tallies = m.tallies := by
  refine eachChan_same Kz.tallies (fun m c => ?_) m k
  unfold fireTrig
  dsimp only
  split <;> rfl

theorem tallies_rsJudge (m : Kz) (c : Nat) (e : Edge) : (rsJudge m c e).tallies = m.tallies := by
  unfold rsJudge
  dsimp only
  split
  · split
    · simp [Kz.tallies]
    · split <;> rfl
  · rfl

theorem tallies_returnFrame (m : Kz) : (returnFrame m).tallies = m.tallies := by
  unfold returnFrame
  cases powered m.pwr.state && m.on F.TIM_TL_CFG.TOUT_EN 0 with
  | false => rfl
  | true => cases m.tl.edges <;> rfl

theorem tallies_violation (m : Kz) (r : Nat) : (violation m r).tallies = m.tallies := by
  unfold violation warnLog
  dsimp only
  split
  · rfl
  · simp [Kz.tallies]

/-- A virtual edge is no event of the time-interval unit, and one without an orbit mark breaks no rule. -/
theorem tallies_newEdge_virtual (m : Kz) (a p : Nat) : (newEdge m a p false false true).tallies = m.tallies :=
  newEdge_same Kz.tallies m a p false false true tallies_firePeriodic tallies_rsJudge tallies_returnFrame (fun _ _ => rfl)
    (fun h => nomatch h) (fun h => nomatch h)

theorem Kz.counter_of_tallies (m : Kz) {n : Kz} (h : n.tallies = m.tallies) (k : RegKind) (i : Nat) : n.counter k i = m.counter k i :=
  congrArg (fun x : Stats × Tiu => (Sparse.get ({} : Counter) x.1.live (k.addr i)).val) h

theorem Kz.counter_count_ne {k l : RegKind} {i j : Nat} (h : l.addr j ≠ k.addr i) (m : Kz) (n : Nat) :
    (m.count k i n).counter l j = m.counter l j := by
  simp [Kz.counter, Kz.count, Sparse.get_mod_ne _ _ _ _ _ h]

theorem counter_tiuArrive {k : RegKind} {i : Nat} (h : k.addr i ≠ RegKind.addr .TIM_TIU_LATE 0) (m : Kz) (src arg x : Nat) :
    (tiuArrive m src arg x).counter k i = m.counter k i := by
  unfold tiuArrive
  split
  · exact Kz.counter_count_ne h m 1
  · rfl

theorem counter_newEdge {k : RegKind} {i : Nat} (hl : k.addr i ≠ RegKind.addr .TIM_TIU_LATE 0) (m : Kz) (a p : Nat)
    {mark : Bool} (hp : mark = true → k.addr i ≠ RegKind.addr .TIM_TL_PROTO_ERR 0) (reset virt : Bool) :
    (newEdge m a p mark reset virt).counter k i = m.counter k i :=
  newEdge_same (fun m : Kz => m.counter k i) m a p mark reset virt (fun m _ _ => m.counter_of_tallies (tallies_firePeriodic ..) k i)
    (fun m _ _ => m.counter_of_tallies (tallies_rsJudge ..) k i) (fun m => m.counter_of_tallies (tallies_returnFrame ..) k i)
    (fun _ _ => rfl) (fun _ m _ => counter_tiuArrive hl m ..) (fun h m =>
      (((m.count .TIM_TL_PROTO_ERR 0 1).mark F.TIM_TL_STAT.ORBIT_ERR_SEEN 0).counter_of_tallies (tallies_violation ..) k i).trans
        (Kz.counter_count_ne (hp h) m 1))

/-! ### Frames -/

/-- R390: a frame's skew is all that `sawSkew` stores. -/
theorem sawSkew_eq (m : Kz) (f : Frame) : ∃ x y, sawSkew m f = m.modTl (fun l => { l with skew := x, skewAt := y }) := by
  unfold sawSkew
  split
  · split
    · exact ⟨_, _, rfl⟩
    · exact ⟨m.tl.skew, m.tl.skewAt, rfl⟩
  · exact ⟨m.tl.skew, m.tl.skewAt, rfl⟩

/-- A real edge stands where the frame gives it (R118, R129). -/
theorem besides_realEdge (m : Kz) (f : Frame) (mark reset : Bool) :
    (realEdge m f mark reset).besides = (m.atEdge (frameEdge m f mark reset)).besides := by
  unfold realEdge
  exact besides_newEdge ..


/-- The edge of a frame whose skew has been stored. -/
theorem besides_realEdge_sawSkew (m : Kz) (f : Frame) (mark reset : Bool) :
    (realEdge (sawSkew m f) f mark reset).besides = (m.atEdge (frameEdge m f mark reset)).besides := by
  obtain ⟨x, y, h⟩ := sawSkew_eq m f
  rw [besides_realEdge, h]
  rfl

theorem counter_realEdge_sawSkew {k : RegKind} {i : Nat} (hl : k.addr i ≠ RegKind.addr .TIM_TIU_LATE 0) (m : Kz) (f : Frame)
    {mark : Bool} (hp : mark = true → k.addr i ≠ RegKind.addr .TIM_TL_PROTO_ERR 0) (reset : Bool) :
    (realEdge (sawSkew m f) f mark reset).counter k i = m.counter k i := by
  obtain ⟨x, y, h⟩ := sawSkew_eq m f
  unfold realEdge
  rw [h]
  exact counter_newEdge hl _ _ _ hp ..

/-- R380, R391: a good frame's command acts, and nothing discards the frame. -/
theorem judgeFrame_good {m : Kz} {f : Frame} {code : Nat} (h : GoodFrame m f code) :
    judgeFrame (sawSkew m f) f code = (true, 0) := by
  obtain ⟨-, -, hrep, hcrc⟩ := h
  obtain ⟨x, y, hs⟩ := sawSkew_eq m f
  have hn : nextBcn (sawSkew m f) = nextBcn m := by rw [hs]; rfl
  simp [judgeFrame, hrep, hn, hcrc]

/-- The block at the edge of a good frame, whose command is still to act: a run of bad frames has ended (R393). -/
def judged (m : Kz) (e : Edge) : Kz := (m.atEdge e).modTl (fun l => { l with badRun := 0, suspect := false })

/-- R381, R383, R393, R395: a good frame makes its edge, ends a run of bad frames, and its command acts on the block at the edge;
`reset` tells whether it is a BCN_RESET. -/
theorem frameCmd_good {m : Kz} {f : Frame} {code : Nat} {reset : Bool} (h : GoodFrame m f code) (hr : decide (code = 2) = reset)
    (act : Kz → Edge → Kz) :
    ∃ n : Kz, frameCmd m f code act = tiuArrive (act n (frameEdge m f f.mark reset)) 3 code (frameEdge m f f.mark reset).at_ ∧
      n.besides = (judged m (frameEdge m f f.mark reset)).besides ∧
      ∀ k i, k.addr i ≠ RegKind.addr .TIM_TIU_LATE 0 → (f.mark = true → k.addr i ≠ RegKind.addr .TIM_TL_PROTO_ERR 0) →
        n.counter k i = m.counter k i := by
  have hj := judgeFrame_good h
  obtain ⟨hok, hpow, hrep, -⟩ := h
  have hb := besides_realEdge_sawSkew m f f.mark reset
  refine ⟨(realEdge (sawSkew m f) f f.mark reset).modTl (fun l => { l with badRun := 0, suspect := false }), ?_, ?_,
    fun k i hl hp => counter_realEdge_sawSkew hl m f hp _⟩
  · have hlive : powered (sawSkew m f).pwr.state = true := by
      obtain ⟨x, y, hs⟩ := sawSkew_eq m f
      rw [hs]
      exact hpow
    have hedges : (realEdge (sawSkew m f) f f.mark reset).tl.edges = frameEdge m f f.mark reset :: m.tl.edges.take 65599 :=
      congrArg (fun x : Kz => x.tl.edges) hb
    simp [frameCmd, hrep, hok, hj, hlive, hr, hedges]
  · exact congrArg (fun x : Kz => x.modTl (fun l => { l with badRun := 0, suspect := false })) hb

/-- What a crossing leaves alone is, where a good frame's command looks only at that, as if the command had acted on the block with
just the edge. -/
theorem besides_frameCmd {m : Kz} {f : Frame} {code : Nat} {reset : Bool} {act : Kz → Edge → Kz} (h : GoodFrame m f code)
    (hr : decide (code = 2) = reset) (hact : ∀ n e, (act n e).besides = (act n.besides e).besides) :
    (frameCmd m f code act).besides =
      (act (judged m (frameEdge m f f.mark reset)) (frameEdge m f f.mark reset)).besides := by
  obtain ⟨n, hn, hb, -⟩ := frameCmd_good h hr act
  rw [hn, besides_tiuArrive, hact, hb, ← hact]

theorem eq_of_besides {n x : Kz} (h : n.besides = x.besides) :
    n = { x with tl := n.tl, chans := n.chans, regs := n.regs, stats := n.stats, log := n.log, spans := n.spans, tiu := n.tiu,
                 wire := n.wire } :=
  congrArg (fun y : Kz => { y with tl := n.tl, chans := n.chans, regs := n.regs, stats := n.stats, log := n.log,
                                   spans := n.spans, tiu := n.tiu, wire := n.wire }) h

/-- `Crossed` speaks of the edge and of what a crossing leaves alone. -/
theorem crossed_of_besides {m n x : Kz} {f : Frame} {mark reset : Bool} {hub : Hub} {tb : TimeBase} (h : n.besides = x.besides)
    (hx : Crossed m x f mark reset hub tb) : Crossed m n f mark reset hub tb := by
  obtain ⟨hm, he, hbcn, horbit, hcfg⟩ := hx
  refine ⟨?_, ?_, ?_, ?_, ?_⟩
  · refine (eq_of_besides h).trans ?_
    rw [hm]
  · exact (congrArg (fun y : Kz => y.tl.edges.head?) h).trans he
  · exact (congrArg (fun y : Kz => y.tl.bcn) h).trans hbcn
  · exact (congrArg (fun y : Kz => y.tl.orbit) h).trans horbit
  · exact (congrArg (fun y : Kz => y.regs.cfg) h).trans hcfg

theorem besides_toLane (m : Kz) (e : Edge) (code data : Nat) (a : Option LaneAccept) :
    (toLane m e code data a).besides = (toLane m.besides e code data a).besides := rfl

/-! ### ACCEPT and EPOCH_RESET -/

/-- R257: the first of the event numbers that ACCEPTs take. -/
def firstEvent (m : Kz) (i : Nat) : Nat := if m.tb.origin * 1024 ≤ i then m.hub.eventNext else m.hub.eventPrev

/-- R257, R385: the hub once an ACCEPT has taken its event number and those of `lost` ones before it. -/
def acceptHub (m : Kz) (e : Edge) (data lost : Nat) : Hub :=
  hubWith { m.hub with
      eventNext := if m.tb.origin * 1024 ≤ e.at_ then (firstEvent m e.at_ + (lost + 1)) % 2 ^ 24 else m.hub.eventNext
      eventPrev := if m.tb.origin * 1024 ≤ e.at_ then m.hub.eventPrev else (firstEvent m e.at_ + (lost + 1)) % 2 ^ 24
      eventWraps := (m.hub.eventWraps + (firstEvent m e.at_ + (lost + 1)) / 2 ^ 24) % 2 ^ 32
      serial := m.hub.serial + (lost + 1) }
    (laneOf e 1 data)
    (some ⟨m.hub.serial + lost, (firstEvent m e.at_ + lost) % 2 ^ 24, (m.stampOf e.at_).2, lost⟩)

/-- R385 to R387: how far the sequence number of an ACCEPT lies beyond the one that is due. -/
def acceptGap (m : Kz) (f : Frame) : Nat :=
  match m.on F.TIM_TL_CFG.PROTO 0, m.tl.ref with | true, some r => (f.data.toNat + 511 - r) % 256 | _, _ => 0

/-- The ACCEPTs that a gap shows to be lost (R385, R386). -/
def acceptLost (m : Kz) (f : Frame) : Nat := if acceptGap m f ≤ 127 then acceptGap m f else 0

/-- What the gap of an ACCEPT counts and logs (R386). -/
def gapNoted (m : Kz) (f : Frame) : Kz :=
  if acceptGap m f = 0 then m
  else if acceptGap m f ≤ 127 then violation (m.count .TIM_TL_LOST_ACC 0 (acceptGap m f)) 5
  else violation (m.count .TIM_TL_PROTO_ERR 0 1) 6

/-- The block after an ACCEPT with `lost` ones before it, under the protocol with sequence numbers (`v2`) or the one without. -/
def accepted (v2 : Bool) (m : Kz) (f : Frame) (e : Edge) (lost : Nat) : Kz :=
  { m with
    tl := { m.tl with
      ref := if v2 then some f.data.toNat else m.tl.ref
      lastSeq := if v2 then f.data.toNat else m.tl.lastSeq
      accepts := (m.tl.accepts + 1) % 256
      echo := if v2 then f.data.toNat else (m.tl.accepts + 1) % 256 }
    hub := acceptHub m e f.data.toNat lost }

theorem takeEvents_eq (m : Kz) (i n : Nat) : takeEvents m i n = (firstEvent m i, m.modHub (fun h => { h with
    eventNext := if m.tb.origin * 1024 ≤ i then (firstEvent m i + n) % 2 ^ 24 else h.eventNext
    eventPrev := if m.tb.origin * 1024 ≤ i then h.eventPrev else (firstEvent m i + n) % 2 ^ 24
    eventWraps := (h.eventWraps + (firstEvent m i + n) / 2 ^ 24) % 2 ^ 32
    serial := h.serial + n })) := by
  simp [takeEvents, firstEvent]

theorem acceptCmd_eq (m : Kz) (f : Frame) (e : Edge) :
    acceptCmd m f e = accepted (m.on F.TIM_TL_CFG.PROTO 0) (gapNoted m f) f e (acceptLost m f) := by
  unfold acceptCmd
  simp only [takeEvents_eq]
  rfl

theorem besides_gapNoted (m : Kz) (f : Frame) : (gapNoted m f).besides = m.besides := by
  unfold gapNoted
  split
  · rfl
  · split <;> exact besides_violation ..

theorem besides_accepted (v2 : Bool) (m : Kz) (f : Frame) (e : Edge) (lost : Nat) :
    (accepted v2 m f e lost).besides = (accepted v2 m.besides f e lost).besides := rfl

theorem besides_acceptCmd (m : Kz) (f : Frame) (e : Edge) :
    (acceptCmd m f e).besides = (accepted (m.on F.TIM_TL_CFG.PROTO 0) m f e (acceptLost m f)).besides := by
  rw [acceptCmd_eq, besides_accepted, besides_gapNoted, ← besides_accepted]

theorem besides_epochCmd (m : Kz) (f : Frame) (e : Edge) :
    (epochCmd m f e).besides =
      (toLane (if epochTooSoon m then m else epochAccept m e.at_ false) e 3 f.data.toNat none).besides := by
  have hignored : (violation (epochIgnored m) 8).besides = m.besides := (besides_violation ..).trans (besides_logEntry ..)
  unfold epochCmd
  split
  · rw [besides_toLane, hignored, ← besides_toLane]
  · rfl

/-! ### What the commands count and report -/

theorem warnsNew_violation (m : Kz) (r : Nat) : (violation m r).tl.warnsNew = m.tl.warnsNew ++ [r] := by
  unfold violation warnLog
  dsimp only
  split
  · rfl
  · rw [Kz.logE_tl]
    rfl

theorem tl_tiuArrive (m : Kz) (src arg i : Nat) : (tiuArrive m src arg i).tl = m.tl := by
  unfold tiuArrive
  split <;> rfl

theorem counter_violation (m : Kz) (r : Nat) (k : RegKind) (i : Nat) : (violation m r).counter k i = m.counter k i :=
  m.counter_of_tallies (tallies_violation m r) k i

theorem Kz.val_counterAdd (c : Counter) (n : Nat) :
    (Kz.Counter.add c n).val = if c.val + n < 0xFFFFFFFF then c.val + n else if n = 0 then c.val else 0xFFFFFFFF := by
  unfold Kz.Counter.add
  split
  · rfl
  · split <;> rfl

/-- A counter's advance depends on its value only. -/
theorem Kz.counter_count_congr {m n : Kz} {k : RegKind} {i : Nat} (h : n.counter k i = m.counter k i) (x : Nat) :
    (n.count k i x).counter k i = (m.count k i x).counter k i := by
  simp only [Kz.counter_count, Kz.val_counterAdd]
  exact congrArg (fun v => if v + x < 0xFFFFFFFF then v + x else if x = 0 then v else 0xFFFFFFFF) h

theorem Kz.counter_count_zero (m : Kz) (k : RegKind) (i : Nat) : (m.count k i 0).counter k i = m.counter k i := by
  rw [Kz.counter_count, Kz.val_counterAdd]
  simp [Kz.counter]

/-- R385: the lost ACCEPTs are counted. -/
theorem counter_acceptCmd {m : Kz} {f : Frame} (h : acceptGap m f ≤ 127) (e : Edge) :
    (acceptCmd m f e).counter .TIM_TL_LOST_ACC 0 = (m.count .TIM_TL_LOST_ACC 0 (acceptGap m f)).counter .TIM_TL_LOST_ACC 0 := by
  rw [acceptCmd_eq]
  change (gapNoted m f).counter .TIM_TL_LOST_ACC 0 = _
  unfold gapNoted
  split
  · next h0 => rw [h0, Kz.counter_count_zero]
  · exact counter_violation ..


/-! ### The rows -/

/-- R29: a command that only goes onto the fixed lane. -/
theorem laneCmd_crossed {m : Kz} {f : Frame} {code : Nat} {reset : Bool} (h : GoodFrame m f code) (hr : decide (code = 2) = reset) :
    Crossed m (frameCmd m f code (fun m e => laneCmd code m f e)) f f.mark reset
      (hubWith m.hub (laneOf (frameEdge m f f.mark reset) code f.data.toNat) none) m.tb :=
  crossed_of_besides (besides_frameCmd h hr fun _ _ => rfl) ⟨rfl, rfl, rfl, rfl, rfl⟩

theorem frameCmd_reserved {m : Kz} {f : Frame} {code : Nat} (hcode : reservedCode code = true) (h : GoodFrame m f code)
    (hmark : f.mark = false) {n : Kz} (hn : frameCmd m f code (fun m _ => violation (m.count .TIM_TL_PROTO_ERR 0 1) 4) = n) :
    Crossed m n f f.mark false m.hub m.tb ∧
      n.counter .TIM_TL_PROTO_ERR 0 = (m.count .TIM_TL_PROTO_ERR 0 1).counter .TIM_TL_PROTO_ERR 0 ∧ 4 ∈ n.tl.warnsNew := by
  have hr : decide (code = 2) = false := by
    simp only [reservedCode, Bool.and_eq_true, decide_eq_true_eq] at hcode
    exact decide_eq_false (by omega)
  obtain ⟨x, hx, hb, hc⟩ := frameCmd_good h hr (fun m _ => violation (m.count .TIM_TL_PROTO_ERR 0 1) 4)
  rw [hx] at hn
  subst hn
  refine ⟨crossed_of_besides (x := judged m (frameEdge m f f.mark false)) ?_ ⟨rfl, rfl, rfl, rfl, rfl⟩, ?_, ?_⟩
  · rw [besides_tiuArrive, besides_violation, besides_count, hb]
  · rw [counter_tiuArrive (by decide), counter_violation]
    exact Kz.counter_count_congr (hc _ _ (by decide) (by simp [hmark])) 1
  · simp [tl_tiuArrive, warnsNew_violation]

theorem crossingEdge_unjudged {m : Kz} {f : Frame} (h : edgeOk m f = true) :
    crossingEdge m f 0 = realEdge (sawSkew m f) f f.mark false := by
  simp [crossingEdge, h, discard]

/-- R393: one more frame in a run of frames that failed their CRC. -/
def anotherBad (m : Kz) : Kz :=
  m.modTl (fun l => { l with badRun := l.badRun + 1, suspect := l.suspect || decide (64 ≤ l.badRun + 1) })

theorem besides_anotherBad (m : Kz) : (anotherBad m).besides = anotherBad m.besides := rfl

theorem discard_badCrc (m : Kz) : discard m 2 = anotherBad (violation (m.count .TIM_TL_CRC_ERR 0 1) 2) := rfl

/-- R393, R395: a frame that fails its CRC. -/
theorem crossingEdge_badCrc {m : Kz} {f : Frame} (h : edgeOk m f = true) (hpow : powered m.pwr.state = true) {n : Kz}
    (hn : crossingEdge m f 2 = n) :
    Crossed m n f f.mark false m.hub m.tb ∧ n.tl.badRun = m.tl.badRun + 1 ∧
      n.counter .TIM_TL_CRC_ERR 0 = (m.count .TIM_TL_CRC_ERR 0 1).counter .TIM_TL_CRC_ERR 0 ∧
      (63 ≤ m.tl.badRun → n.tl.suspect = true) := by
  have he := besides_realEdge_sawSkew m f f.mark false
  have hlive : powered (realEdge (sawSkew m f) f f.mark false).pwr.state = true :=
    (congrArg (fun y : Kz => powered y.pwr.state) he).trans hpow
  have hx : crossingEdge m f 2 = discard (realEdge (sawSkew m f) f f.mark false) 2 := by simp [crossingEdge, h, hlive]
  have hb : n.besides = (anotherBad (m.atEdge (frameEdge m f f.mark false))).besides := by
    rw [← hn, hx, discard_badCrc, besides_anotherBad, besides_violation, besides_count, he, ← besides_anotherBad]
  refine ⟨crossed_of_besides hb ⟨rfl, rfl, rfl, rfl, rfl⟩, congrArg (fun y : Kz => y.tl.badRun) hb, ?_, fun hrun => ?_⟩
  · rw [← hn, hx]
    refine (counter_violation ..).trans (Kz.counter_count_congr ?_ 1)
    exact counter_realEdge_sawSkew (by decide) m f (fun _ => by decide) false
  · have hlong : decide (64 ≤ m.tl.badRun + 1) = true := decide_eq_true (by omega)
    refine (congrArg (fun y : Kz => y.tl.suspect) hb).trans ?_
    change (m.tl.suspect || decide (64 ≤ m.tl.badRun + 1)) = true
    rw [hlong, Bool.or_true]

/-- R128: the next crossing that a lost machine clock's phase gives. -/
theorem virtualEdge_lost {m : Kz} {e : Edge} (he : m.tl.edges.head? = some e) (hlost : mclkLost m = true)
    (hat : e.at_ + e.period ≤ m.inst) {n : Kz} (hn : virtualEdge m = n) :
    n = { m with tl := n.tl, chans := n.chans, regs := n.regs, stats := n.stats, log := n.log, spans := n.spans,
                 wire := n.wire } ∧
      n.tl.edges.head? = some ⟨e.no + 1, e.at_ + e.period, e.period, (e.bcn + 1) % 65536, e.orbit, false, true, carried m⟩ := by
  obtain ⟨r, hedges⟩ := List.head?_eq_some_iff.1 he
  have hx : virtualEdge m = newEdge (m.modTl (fun l => { l with slewErr := none })) (e.at_ + e.period) e.period false false true := by
    simp [virtualEdge, hedges, hlost, hat]
  have hb := besides_newEdge (m.modTl (fun l => { l with slewErr := none })) (e.at_ + e.period) e.period false false true
  have ht := congrArg Prod.snd
    (tallies_newEdge_virtual (m.modTl (fun l => { l with slewErr := none })) (e.at_ + e.period) e.period)
  rw [← hx, hn] at hb ht
  refine ⟨?_, (congrArg (fun y : Kz => y.tl.edges.head?) hb).trans ?_⟩
  · have hm := eq_of_besides hb
    rw [show n.tiu = m.tiu from ht] at hm
    exact hm
  · simp [Kz.besides, Kz.atEdge, newestEdge, nextBcn, Kz.modTl, hedges, carried]

theorem besides_frameCmd_accept {m : Kz} {f : Frame} (h : GoodFrame m f 1) :
    (frameCmd m f 1 (fun m e => acceptCmd m f e)).besides = (accepted (m.on F.TIM_TL_CFG.PROTO 0)
      (judged m (frameEdge m f f.mark false)) f (frameEdge m f f.mark false) (acceptLost m f)).besides := by
  refine (besides_frameCmd h rfl fun n e => ?_).trans (besides_acceptCmd ..)
  rw [besides_acceptCmd, besides_acceptCmd]
  rfl

theorem accept_crossed {m : Kz} {f : Frame} (h : GoodFrame m f 1) :
    Crossed m (frameCmd m f 1 (fun m e => acceptCmd m f e)) f f.mark false
      (acceptHub m (frameEdge m f f.mark false) f.data.toNat (acceptLost m f)) m.tb :=
  crossed_of_besides (besides_frameCmd_accept h) ⟨rfl, rfl, rfl, rfl, rfl⟩

theorem accept_sequenceless {m : Kz} {f : Frame} (h : m.on F.TIM_TL_CFG.PROTO 0 = false) : acceptLost m f = 0 := by
  simp [acceptLost, acceptGap, h]

theorem acceptGap_of_ref {m : Kz} {f : Frame} {r : Nat} (h : m.on F.TIM_TL_CFG.PROTO 0 = true) (hr : m.tl.ref = some r) :
    acceptGap m f = (f.data.toNat + 511 - r) % 256 := by
  simp [acceptGap, h, hr]

/-- R385: the ACCEPTs lost before one are counted. -/
theorem frameCmd_accept_lost {m : Kz} {f : Frame} (h : GoodFrame m f 1) (hgap : acceptGap m f ≤ 127) :
    (frameCmd m f 1 (fun m e => acceptCmd m f e)).counter .TIM_TL_LOST_ACC 0 =
      (m.count .TIM_TL_LOST_ACC 0 (acceptGap m f)).counter .TIM_TL_LOST_ACC 0 := by
  obtain ⟨x, hx, hb, hc⟩ := frameCmd_good h (reset := false) rfl (fun m e => acceptCmd m f e)
  have hg : acceptGap x f = acceptGap m f := (congrArg (acceptGap · f) hb :)
  rw [hx, counter_tiuArrive (by decide), counter_acceptCmd (hg ▸ hgap), hg]
  exact Kz.counter_count_congr (hc _ _ (by decide) (fun _ => by decide)) _

theorem besides_frameCmd_epoch {m : Kz} {f : Frame} (h : GoodFrame m f 3) :
    (frameCmd m f 3 (fun m e => epochCmd m f e)).besides =
      (toLane (if epochTooSoon m then judged m (frameEdge m f f.mark false)
          else epochAccept (judged m (frameEdge m f f.mark false)) (frameEdge m f f.mark false).at_ false)
        (frameEdge m f f.mark false) 3 f.data.toNat none).besides := by
  refine (besides_frameCmd h rfl fun n e => ?_).trans (besides_epochCmd ..)
  rw [besides_epochCmd, besides_epochCmd, besides_toLane, show epochTooSoon n.besides = epochTooSoon n from rfl]
  split <;> rfl

/-- R135: an EPOCH_RESET that comes too soon is counted and answered with WARN. -/
theorem frameCmd_epoch_tooSoon {m : Kz} {f : Frame} (h : GoodFrame m f 3) (hsoon : epochTooSoon m = true) {n : Kz}
    (hn : frameCmd m f 3 (fun m e => epochCmd m f e) = n) :
    8 ∈ n.tl.warnsNew ∧ n.counter .TIM_EPOCH_REJ 0 = (m.count .TIM_EPOCH_REJ 0 1).counter .TIM_EPOCH_REJ 0 := by
  obtain ⟨x, hx, hb, hc⟩ := frameCmd_good h (reset := false) rfl (fun m e => epochCmd m f e)
  have hs : epochTooSoon x = true := (congrArg epochTooSoon hb).trans hsoon
  have he : ∀ e, epochCmd x f e = toLane (violation (epochIgnored x) 8) e 3 f.data.toNat none := fun e => by
    rw [epochCmd, if_pos hs]
  rw [hx, he] at hn
  subst hn
  constructor
  · rw [tl_tiuArrive]
    show 8 ∈ (violation (epochIgnored x) 8).tl.warnsNew
    simp [warnsNew_violation]
  · rw [counter_tiuArrive (by decide)]
    show (violation (epochIgnored x) 8).counter .TIM_EPOCH_REJ 0 = _
    rw [counter_violation, epochIgnored, Kz.counter_logE]
    exact Kz.counter_count_congr (hc _ _ (by decide) (fun _ => by decide)) 1

end Sys2Proof.Machine

namespace Sys2Proof.Safety
open Machine

/-- Settles O3: a good frame's command acts on the block with its edge (`frameCmd_good`), and apart from what `Kz.besides` sets aside
the edge and the command are all that is new. -/
theorem crossingsAndCommands : Obligations.CrossingsAndCommands := by
  unfold Obligations.CrossingsAndCommands
  intro s t m f hm
  subst hm
  refine ⟨?idle, ?bcnReset, ?resync, ?calInject, ?testTrigger, ?statBoundary, ?userCode, ?reserved, ?edge, ?badEdge, ?virtualEdge,
    ?accept, ?acceptLost, ?epoch, ?epochTooSoon⟩
  case idle =>
    intro h
    have hb := besides_frameCmd h rfl (act := fun m _ => m) fun _ _ => rfl
    exact after_of_exec (f := fun m => frameCmd m f 0 fun m _ => m) rfl
      ⟨crossed_of_besides hb ⟨rfl, rfl, rfl, rfl, rfl⟩, congrArg (fun n : Kz => n.tl.badRun) hb,
        congrArg (fun n : Kz => n.tl.suspect) hb⟩
  case bcnReset =>
    intro h
    obtain ⟨hn, he, hbcn, horbit, hcfg⟩ := laneCmd_crossed h rfl
    exact after_of_exec (f := fun m => frameCmd m f 2 fun m e => laneCmd 2 m f e) rfl
      ⟨⟨hn, he, hbcn, horbit, hcfg⟩, hbcn.trans (by simp [frameEdge]), horbit.trans (by simp [frameEdge])⟩
  case resync =>
    intro h
    have hb := besides_frameCmd h rfl (act := fun m e => laneCmd 4 (m.modTl (fun l => { l with ref := none })) f e) fun _ _ => rfl
    exact after_of_exec (f := fun m => frameCmd m f 4 fun m e => laneCmd 4 (m.modTl (fun l => { l with ref := none })) f e) rfl
      ⟨crossed_of_besides hb ⟨rfl, rfl, rfl, rfl, rfl⟩, congrArg (fun n : Kz => n.tl.ref) hb⟩
  case calInject =>
    exact fun h => after_of_exec (f := fun m => frameCmd m f 5 fun m e => laneCmd 5 m f e) rfl (laneCmd_crossed h rfl)
  case testTrigger =>
    exact fun h => after_of_exec (f := fun m => frameCmd m f 6 fun m e => laneCmd 6 m f e) rfl (laneCmd_crossed h rfl)
  case statBoundary =>
    intro h
    have hb := besides_frameCmd h rfl (act := fun m e => laneCmd 7 (raiseBoundary m .fast) f e) fun _ _ => rfl
    exact after_of_exec (f := fun m => frameCmd m f 7 fun m e => laneCmd 7 (raiseBoundary m .fast) f e) rfl
      ⟨crossed_of_besides hb ⟨rfl, rfl, rfl, rfl, rfl⟩, congrArg (fun n : Kz => n.stats.raised) hb⟩
  case userCode =>
    exact fun u h => after_of_exec (f := fun m => frameCmd m f (16 + u) fun m e => laneCmd (16 + u) m f e) rfl
      (laneCmd_crossed h (decide_eq_false (by omega)))
  case reserved =>
    intro code hcode h hmark
    refine after_of_exec (f := fun m => if reservedCode code.toNat then
      frameCmd m f code.toNat (fun m _ => violation (m.count .TIM_TL_PROTO_ERR 0 1) 4) else m) rfl ?_
    exact frameCmd_reserved hcode h hmark (if_pos hcode).symm
  case edge =>
    intro h
    have hx := crossingEdge_unjudged h
    have hb := besides_realEdge_sawSkew (s.kz.advance t) f f.mark false
    rw [← hx] at hb
    exact after_of_exec (f := fun m => crossingEdge m f 0) rfl
      ⟨crossed_of_besides hb ⟨rfl, rfl, rfl, rfl, rfl⟩, (congrArg (fun n : Kz => n.tl.badRun) hb :)⟩
  case badEdge =>
    exact fun h hpow => after_of_exec (f := fun m => crossingEdge m f 2) rfl (crossingEdge_badCrc h hpow rfl)
  case virtualEdge =>
    exact fun e he hlost hat => after_of_exec (f := virtualEdge) rfl (virtualEdge_lost he hlost hat rfl)
  case accept =>
    intro h hproto
    have hb := besides_frameCmd_accept h
    have hx := accept_crossed h
    rw [accept_sequenceless hproto] at hx
    exact after_of_exec (f := fun m => frameCmd m f 1 fun m e => acceptCmd m f e) rfl
      ⟨hx, congrArg (fun n : Kz => n.tl.accepts) hb⟩
  case acceptLost =>
    intro r h hproto href hgap
    have hg := acceptGap_of_ref (f := f) hproto href
    have hb := besides_frameCmd_accept h
    have hx := accept_crossed h
    rw [← hg] at hgap
    rw [acceptLost, if_pos hgap, hg] at hx
    rw [hproto] at hb
    exact after_of_exec (f := fun m => frameCmd m f 1 fun m e => acceptCmd m f e) rfl
      ⟨hx, hg ▸ frameCmd_accept_lost h hgap, congrArg (fun n : Kz => n.tl.ref) hb, congrArg (fun n : Kz => n.tl.lastSeq) hb⟩
  case epoch =>
    intro h hsoon
    have hb := besides_frameCmd_epoch h
    rw [hsoon] at hb
    exact after_of_exec (f := fun m => frameCmd m f 3 fun m e => epochCmd m f e) rfl
      (crossed_of_besides hb ⟨rfl, rfl, rfl, rfl, rfl⟩)
  case epochTooSoon =>
    intro h hsoon
    have hb := besides_frameCmd_epoch h
    rw [hsoon] at hb
    exact after_of_exec (f := fun m => frameCmd m f 3 fun m e => epochCmd m f e) rfl
      ⟨crossed_of_besides hb ⟨rfl, rfl, rfl, rfl, rfl⟩, frameCmd_epoch_tooSoon h hsoon rfl⟩

/-! ### The fixed lane -/

/-- An entry of the fixed lane that carries nothing. -/
def emptyEntry : InEntry := { stamp := 5, arrived := some 20 }

/-- A region that restarts: a run of entries that failed their CRC hid the ACCEPT of its mirror from it, and the empty entry, the
oldest in its queue, is the one whose counts showed that (R629, R757). -/
def hidingRegion : Region :=
  { pwr := { state := .idle }, err := { restarting := true }, lane := { inQ := [emptyEntry], lostBefore := some 5 },
    acq := { mirror := [{ ser := 0, event := 0, epoch := 0, lost := 0, no := 0, edge := 0, orbit := 0, bcn := 0, owing := 0 }] } }

/-- Refutes O4: its clause for an entry without contents says that the release takes the entry from the queue and changes nothing
else. In a region that restarts, the release of an empty entry whose counts showed lost commands also answers the lost ACCEPTs, so that
they leave the mirror (`answerLost`: R629, R757); the clause has no hypothesis against such a restart. -/
theorem not_fixedLane : ¬ Obligations.FixedLane := by
  unfold Obligations.FixedLane
  intro h
  obtain ⟨-, -, -, -, -, -, -, -, hrelease, -⟩ := h { kz := { rgns := [(0, hidingRegion)] } } ⟨1000, 0⟩ _ rfl
  obtain ⟨n, hexec, hn⟩ := hrelease 0 emptyEntry [] 20 (by decide) (by decide) rfl rfl (by decide) rfl (.inr (by decide))
  have hkept : (n.rgn 0).acq.mirror = hidingRegion.acq.mirror := by rw [hn]; rfl
  have hanswered : (n.rgn 0).acq.mirror = [] := by
    obtain ⟨rfl, -⟩ := State.mk.inj (Host.Outcome.next.inj hexec)
    decide
  exact absurd (hkept.symm.trans hanswered) (by decide)

end Sys2Proof.Safety
end

section
/-! SUPPORT. The family 02_channel_inputs.md: how the hub serves a request that is due (R528 to R531), what a REG_WRITE of one pair
answers where the register's check refuses it (R45, R91, R172, R538), and a reinstated slice whose standby coefficients are listed
twice (R82, R102). -/
namespace Sys2Proof.Machine
open Safety

/-! ### Folds and tables -/

/-- Where one element of a list acts on a state, and no other acts on it before or after, the fold does what that element does. -/
theorem foldl_once {σ α : Type} {f : σ → α → σ} {l : List α} {a : α} {s s' : σ} (ha : a ∈ l) (hn : l.Nodup)
    (hs : ∀ b ∈ l, b ≠ a → f s b = s) (hfa : f s a = s') (hs' : ∀ b ∈ l, b ≠ a → f s' b = s') : l.foldl f s = s' := by
  induction l with
  | nil => cases ha
  | cons b r ih =>
    obtain ⟨hb, hr⟩ := List.nodup_cons.1 hn
    rw [List.foldl_cons]
    by_cases hab : b = a
    · subst hab
      rw [hfa]
      exact foldl_id r s' fun c hc => hs' c (List.mem_cons_of_mem _ hc) fun e => hb (e ▸ hc)
    · rw [hs b List.mem_cons_self hab]
      exact ih ((List.mem_cons.1 ha).resolve_left (Ne.symm hab)) hr (fun c hc => hs c (List.mem_cons_of_mem _ hc))
        fun c hc => hs' c (List.mem_cons_of_mem _ hc)

theorem Sparse.set_set {α : Type} (t : Sparse α) (k : Nat) (v w : α) : Sparse.set (Sparse.set t k v) k w = Sparse.set t k w := by
  induction t with
  | nil => simp [Sparse.set]
  | cons p r ih =>
    obtain ⟨k', v'⟩ := p
    by_cases hlt : k < k'
    · simp [Sparse.set, hlt]
    · by_cases heq : k = k'
      · simp [Sparse.set, heq]
      · simp [Sparse.set, hlt, heq, ih]

/-- What a session becomes is all that a change of it does. -/
theorem Kz.modSess_const (m : Kz) (p : Nat) (f : Session → Session) :
    m.modSess p f = m.modSess p fun _ => f (m.port p).session := rfl

theorem Kz.modSess_modSess (m : Kz) (p : Nat) (f g : Session → Session) :
    (m.modSess p f).modSess p g = m.modSess p fun x => g (f x) := by
  simp [Kz.modSess, Kz.modPort, Sparse.mod, Sparse.set_set]

/-! ### A request in its slot -/

/-- The slot that a request of a header takes (R529). -/
def slotOf (m : Kz) (h : Hdr) (r : Request) : Slot := ⟨h.seq, h.tag, r, viaOf m h⟩

/-- The block in which a request that is due stands in its slot (R529). -/
def queued (m : Kz) (h : Hdr) (r : Request) : Kz :=
  m.modSess h.port.val fun _ => { begun m h r none with h := h.seq, slots := [slotOf m h r] }

/-- The request as it executes (R530). -/
def execution (m : Kz) (h : Hdr) (r : Request) : Running :=
  { seq := h.seq, tag := h.tag, req := r, via := viaOf m h, wait := .boundary, body := [], from_ := 0 }

/-- What a request that is due comes to as it starts (R530). -/
def firstRun (m : Kz) (h : Hdr) (r : Request) : Ran × Kz :=
  runReq (started m h r) h.port.val (sess m h).leases (sess m h).version.toNat r 0 []

/-- The response that a request's tag keeps (R528). -/
abbrev respOf (r : Request) (a : Answer) : Resp := ⟨cmdCode r, a.status, a.bytes⟩

/-- The block once a request has got its response, from what its execution made of the block (R528, R531). -/
def answered (m x : Kz) (h : Hdr) (r : Request) (a : Answer) : Kz :=
  (x.modSess h.port.val fun _ => begun m h r (some (respOf r a))).emit
    (.response h.port.val (answerHead m h) h.seq.toNat h.tag.toNat (cmdCode r) a.status a.bytes false)

variable {m x : Kz} {h : Hdr} {r : Request}

theorem port_congr (hports : x.ports = m.ports) (p : Nat) : x.port p = m.port p :=
  congrArg (fun ports => Sparse.get ({} : PortState) ports p) hports

/-- A session that another has taken the place of, with nothing waiting either, leaves the ports quiet. -/
theorem quiet_modSess (hq : Quiet m) (hx : ∀ p, p ≠ h.port.val → x.port p = m.port p) {y : Session}
    (hslots : y.slots = []) (hreset : y.resetDue = false) (hgap : y.gapSince = none) :
    Quiet (x.modSess h.port.val fun _ => y) := by
  intro p hp
  rw [Kz.port_modSess]
  split
  · exact ⟨hslots, hreset, hgap⟩
  · next hne => rw [hx p hne]; exact hq p hp

theorem port_queued_of_ne {p : Nat} (hp : p ≠ h.port.val) : (queued m h r).port p = m.port p := by
  simp [queued, Kz.port_modSess, hp]

theorem port_started_of_ne {p : Nat} (hp : p ≠ h.port.val) : (started m h r).port p = m.port p := by
  simp [started, Kz.port_modSess, hp]

theorem port_of_started (hports : x.ports = (started m h r).ports) :
    x.port h.port.val = { m.port h.port.val with session := begun m h r none } := by
  rw [port_congr hports, started, Kz.port_modSess_same]

theorem port_answered (a : Answer) (p : Nat) : (answered m x h r a).port p =
    if p = h.port.val then { x.port h.port.val with session := begun m h r (some (respOf r a)) }
    else x.port p :=
  Kz.port_modSess x h.port.val p fun _ => begun m h r (some (respOf r a))

/-- R529: a request that is due is put into its slot. -/
theorem judge_due (hd : Due m h r) : judge m h r = pump (queued m h r) := by
  obtain ⟨hq, -, -, -, -, -, -, hh, -, htags, -, -⟩ := hd
  obtain ⟨hslots, -, -⟩ := hq _ h.port.isLt
  have hfind : (sess m h).tags.find? (fun t => t.tag = h.tag) = none :=
    List.find?_eq_none.2 fun t ht => by simpa using htags t ht
  have hnext : (h.seq - (sess m h).h).toNat = 0 := by simp [hh]
  have hfree : (sess m h).slots.any (fun s => s.seq = h.seq) = false := by simp [hslots]
  simp only [judge, hfind, hnext, hfree, Nat.reduceLeDiff, reduceIte, Bool.false_eq_true]
  refine congrArg pump ?_
  rw [restartTimer, Kz.modSess_modSess, Kz.modSess_const, queued]
  simp [begun, slotOf, viaOf, Kz.fld, Kz.cfgWord, hslots, hh]

/-- R524: a request other than an OPEN, and due, is judged. -/
theorem arrive_due (hd : Due m h r) (hr : ∀ lo hi t k, r ≠ .openSession lo hi t k) : arrive m h r = pump (queued m h r) := by
  rw [← judge_due hd]
  obtain ⟨-, hans, hbody, hopen, horigin, hver, hid, -⟩ := hd
  cases r with
  | openSession lo hi t k => exact absurd rfl (hr lo hi t k)
  | _ => simp [arrive, hans, hbody, hopen, horigin, hver, hid]

theorem ready_queued (hd : Due m h r) : ready (queued m h r) h.port.val = some (slotOf m h r) := by
  obtain ⟨-, -, -, hopen, -, -, -, -, hrun, -, hfull, hres⟩ := hd
  simp [ready, queued, begun, slotOf, hopen, hrun, hres, List.filter_append, hfull]

theorem ready_queued_of_ne (hd : Due m h r) {p : Nat} (hp : p < 4) (hne : p ≠ h.port.val) : ready (queued m h r) p = none := by
  have hslots : ((queued m h r).port p).session.slots = [] := by rw [port_queued_of_ne hne]; exact (hd.1 p hp).1
  simp [ready, hslots]

/-- R530: the request that stands in slot H starts. -/
theorem startReq_queued (hd : Due m h r) : startReq (queued m h r) h.port.val (slotOf m h r) =
    settleRun (firstRun m h r).2 h.port.val (execution m h r) (firstRun m h r).1 := by
  obtain ⟨hslots, -, hgap⟩ := hd.1 _ h.port.isLt
  have hstarted : (queued m h r).modSess h.port.val (fun x => { x with
      h := x.h + 1, slots := x.slots.filter (fun y => y.seq ≠ (slotOf m h r).seq), gapSince := none }) = started m h r := by
    rw [queued, Kz.modSess_modSess]
    simp [started, begun, slotOf, hslots, hgap]
  simp only [startReq, hstarted]
  simp [queued, begun, slotOf, execution, firstRun]

theorem turns_quiet (hq : Quiet m) (n : Nat) : turns n m = m := by
  cases n with
  | zero => rfl
  | succ n =>
    rw [turns, if_neg]
    simp only [List.any_eq_true, mem_upTo]
    rintro ⟨p, hp, hr⟩
    simp [ready_quiet hq hp] at hr

theorem gaps_quiet (hq : Quiet m) : gaps m = m := by
  have hp := pump_quiet hq
  rwa [pump, turns_quiet hq] at hp

/-- The hub starts the request and has then nothing more to do. -/
theorem pump_queued (hd : Due m h r) (hq : Quiet (startReq (queued m h r) h.port.val (slotOf m h r))) :
    pump (queued m h r) = startReq (queued m h r) h.port.val (slotOf m h r) := by
  have hturn : turn (queued m h r) = startReq (queued m h r) h.port.val (slotOf m h r) := by
    refine foldl_once (a := h.port.val) (mem_upTo.2 h.port.isLt) List.nodup_range (fun p hp hne => ?_) ?_ fun p hp hne => ?_
    · simp [ready_queued_of_ne hd (mem_upTo.1 hp) hne]
    · simp [ready_queued hd]
    · simp [ready_quiet hq (mem_upTo.1 hp)]
  have hany : (upTo 4).any (fun p => (ready (queued m h r) p).isSome) = true :=
    List.any_eq_true.2 ⟨h.port.val, mem_upTo.2 h.port.isLt, by simp [ready_queued hd]⟩
  rw [pump, turns, if_pos hany, hturn, turns_quiet hq, gaps_quiet hq]

theorem quiet_answered (hd : Due m h r) (hports : x.ports = (started m h r).ports) (a : Answer) : Quiet (answered m x h r a) := by
  obtain ⟨hslots, hreset, hgap⟩ := hd.1 _ h.port.isLt
  refine quiet_ofPorts (quiet_modSess (x := x) (y := begun m h r _) hd.1 (fun p hp => ?_) hslots hreset hgap) rfl
  exact (port_congr hports p).trans (port_started_of_ne hp)

/-- R528, R531: the request's response, kept with its tag. -/
theorem respond_started (hd : Due m h r) (hports : x.ports = (started m h r).ports) (a : Answer) :
    respond x h.port.val (viaOf m h) h.seq.toNat h.tag.toNat (cmdCode r) a = answered m x h r a := by
  obtain ⟨-, -, -, hopen, -, -, hid, -, hrun, htags, -⟩ := id hd
  have hport := port_of_started hports
  have hothers : (sess m h).tags.map (fun t => if t.tag.toNat = h.tag.toNat then
      { t with resp := some (respOf r a) } else t) = (sess m h).tags :=
    (List.map_congr_left (g := id) fun t ht => if_neg fun e => htags t ht (BitVec.eq_of_toNat_eq e)).trans (List.map_id _)
  have hsession : x.modSess h.port.val (fun s => { s with
      running := none,
      tags := s.tags.map (fun t => if t.tag.toNat = h.tag.toNat then
        { t with resp := some (respOf r a) } else t) }) =
      x.modSess h.port.val (fun _ => begun m h r (some (respOf r a))) := by
    rw [Kz.modSess_const, hport]
    simp [begun, hrun, List.map_append, hothers]
  have hhead : { (x.modSess h.port.val fun _ => begun m h r (some (respOf r a))).headOf h.port.val with
      via := viaOf m h } = answerHead m h := by
    simp [Kz.headOf, answerHead, hport, begun, hopen, hid]
  simp only [respond, hsession, hhead]
  exact resetsDue_quiet (quiet_answered hd hports a)

/-- A request that is due and ends as it executes is answered. -/
theorem arrive_done {a : Answer} {i : Nat} (hd : Due m h r) (hopen : ∀ lo hi t k, r ≠ .openSession lo hi t k)
    (hclose : r ≠ .closeSession)
    (hrun : firstRun m h r = (⟨.done a, [], i⟩, x))
    (hports : x.ports = (started m h r).ports) : arrive m h r = answered m x h r a := by
  obtain ⟨-, -, -, hopened, -⟩ := id hd
  have hsettle : settleRun x h.port.val (execution m h r) ⟨.done a, [], i⟩ = answered m x h r a := by
    have hsession : (x.port h.port.val).session.isOpen = true := by
      rw [port_of_started hports]
      exact hopened
    have hresp : respond x h.port.val (execution m h r).via (execution m h r).seq.toNat (execution m h r).tag.toNat
        (cmdCode (execution m h r).req) (Ran.answer ⟨.done a, [], i⟩ a) = answered m x h r a := respond_started hd hports a
    simp only [settleRun, hsession, if_pos, hresp]
    cases r with
    | closeSession => exact absurd rfl hclose
    | _ => rfl
  have hstart : startReq (queued m h r) h.port.val (slotOf m h r) = answered m x h r a := by
    rw [startReq_queued hd, hrun, hsettle]
  rw [arrive_due hd hopen, pump_queued hd (hstart ▸ quiet_answered hd hports a), hstart]

theorem answered_spec (hports : x.ports = (started m h r).ports) (hwire : x.wire = m.wire) (a : Answer) :
    Answered m (answered m x h r a) h r a.status a.bytes (fun y => y) := by
  refine ⟨congrArg _ hwire, ?_, fun y _ hne => ?_⟩
  · rw [port_answered, if_pos rfl, port_of_started hports]
  · rw [port_answered, if_neg hne, port_congr hports, port_started_of_ne hne]

/-! ### A REG_WRITE of one pair -/

theorem placeOf_lt {a : Nat} {pl : Place} (hp : placeOf a = some pl) : a < 0x5800000 := by
  by_contra hge
  have habove : ∀ b ≤ 0x5800000, ¬ a < b := fun b hb => by omega
  simp [placeOf, habove] at hp

/-- R538: a write that runs goes through its pairs. -/
theorem firstRun_regWrite {l : List (Word × Word)} (hr : Runs m h (.regWrite l)) :
    firstRun m h (.regWrite l) = writeGo (started m h (.regWrite l)) (sess m h).leases 0 l := by
  obtain ⟨-, hstate, hsince, hbody, -⟩ := hr
  have hpow : m.pwr.state ≠ .recovery := by
    rcases hstate with ⟨hpow, -⟩ | ⟨-, hrec⟩
    · intro e; simp [e, powered] at hpow
    · cases hrec
  have hpow' : (started m h (.regWrite l)).pwr.state ≠ .recovery := hpow
  simp [firstRun, runReq, hpow', hbody, needs, waitsFor, hsince]

/-- R534, R539: a pair that is refused ends the write with its status and its index. -/
theorem writeGo_refused {held : List Lease} {a w : Word} {st : Status} (hrestart : restartOf m a.toNat = none)
    (hw : writeWord m held a.toNat w = (.refused st, m)) :
    writeGo m held 0 [(a, w)] = (⟨.done { status := st, detail := ⟨3, 0⟩ }, [], 0⟩, m) := by
  simp [writeGo, hrestart, hw]

/-! ### GAIN, STEP and the tone window -/

section Places

set_option maxRecDepth 100000

theorem place_CH_FE_CTRL : ∀ i : Fin 192, placeOf (RegKind.addr .CH_FE_CTRL i.val) = some (.reg .CH_FE_CTRL i.val) := by decide
theorem place_RGN_ROT_CTRL : ∀ i : Fin 12, placeOf (RegKind.addr .RGN_ROT_CTRL i.val) = some (.reg .RGN_ROT_CTRL i.val) := by decide
theorem place_CH_SLOT_AUX : ∀ i : Fin 192, placeOf (RegKind.addr .CH_SLOT_AUX i.val) = some (.reg .CH_SLOT_AUX i.val) := by decide

end Places

/-- R45: a GAIN that names no gain step. -/
theorem regCheck_gain {v : Word} (h : 5 < F.CH_FE_CTRL.GAIN.of v) (m : Kz) (i : Nat) :
    regCheck m .CH_FE_CTRL i v = some .badValue := by
  simp [regCheck, h]

/-- R91: a STEP below 0.5 ms. -/
theorem regCheck_step {v : Word} (h : F.RGN_ROT_CTRL.STEP.of v < 5) (m : Kz) (i : Nat) :
    regCheck m .RGN_ROT_CTRL i v = some .badValue := by
  simp [regCheck, h]

/-- R172: a tone window whose lower end lies above its upper end. -/
theorem regCheck_window {v : Word} (h : F.CH_SLOT_AUX.WIN_HI.of v < F.CH_SLOT_AUX.WIN_LO.of v) (m : Kz) (i : Nat) :
    regCheck m .CH_SLOT_AUX i v = some .badValue := by
  simp [regCheck, h]

end Sys2Proof.Machine

namespace Sys2Proof.Safety
open Machine

/-- A command that is the arrival of a request, due, which ends as it executes with the ports and the output left alone: the request is
answered. -/
theorem after_answered {c : Instr} {s : State} {t : Stamp} {m x : Kz} {h : Hdr} {r : Request} {a : Answer} {i : Nat}
    (hm : s.kz.advance t = m) (hc : exec c s = s.at_ t fun m => arrive m h r) (hd : Due m h r)
    (hopen : ∀ lo hi t k, r ≠ .openSession lo hi t k) (hclose : r ≠ .closeSession)
    (hrun : firstRun m h r = (⟨.done a, [], i⟩, x))
    (hports : x.ports = (started m h r).ports) (hwire : x.wire = m.wire) :
    After c s fun n => n = { x with ports := n.ports, wire := n.wire } ∧ Answered m n h r a.status a.bytes (fun y => y) := by
  subst hm
  refine after_of_exec hc ?_
  rw [arrive_done hd hopen hclose hrun hports]
  exact ⟨rfl, answered_spec hports hwire a⟩

/-- R534, R538, R718: a REG_WRITE of one pair that the register's check refuses answers the check's status and changes nothing. -/
theorem after_regWrite_checked {s : State} {t : Stamp} {m : Kz} {h : Hdr} {k : RegKind} {i : Nat} {v : Word} {st : Status}
    {pairs : List (Word × Word)} (hm : s.kz.advance t = m) (hr : Runs m h (.regWrite pairs))
    (hpairs : pairs = [(BitVec.ofNat 32 (k.addr i), v)]) (hp : placeOf (k.addr i) = some (.reg k i)) (hl : covers (sess m h).leases (leaseFor (k.addr i)) = true)
    (hrestart : restartOf m (k.addr i) = none) (hlock : lockedOut m k i v = false) (hst : st ≠ .ok)
    (hcheck : ∀ n, regCheck n k i v = some st) (hu : k ≠ .HK_URGENT) (hd : k ≠ .DSI_COMMIT) :
    After (.regWrite t h pairs) s fun n => n = { m with ports := n.ports, wire := n.wire } ∧
      Answered m n h (.regWrite pairs) st (Detail.bytes ⟨3, 0⟩) (fun y => y) ∧ n.cfgWord k i = m.cfgWord k i := by
  have haddr : (BitVec.ofNat 32 (k.addr i)).toNat = k.addr i :=
    BitVec.toNat_ofNat _ _ ▸ Nat.mod_eq_of_lt ((placeOf_lt hp).trans (by decide))
  have hword : writeWord (started m h (.regWrite pairs)) (sess m h).leases (k.addr i) v =
      (.refused st, started m h (.regWrite pairs)) :=
    (writeWord_reg hp hl _ v).trans (writeReg_checked hlock (hcheck _) hu hd)
  subst hpairs
  have hrun := (firstRun_regWrite hr).trans (writeGo_refused (by rw [haddr]; exact hrestart) (by rw [haddr]; exact hword))
  obtain ⟨n, hexec, hn, hans⟩ := after_answered (c := .regWrite t h _) hm rfl hr.1 (by simp) (by simp) hrun rfl rfl
  refine ⟨n, hexec, hn, ?_, by rw [hn]; rfl⟩
  simpa [Answer.bytes, hst] using hans

/-- Settles O59: each of the three checks refuses its value with BAD_VALUE, and a REG_WRITE of the one pair then answers that and changes
nothing (`after_regWrite_checked`). -/
theorem refusedValues : Obligations.RefusedValues := by
  unfold Obligations.RefusedValues
  intro s t m hm
  refine ⟨?gain, ?step, ?window⟩
  case gain =>
    intro h pairs v i hr hpairs hl hrestart hlock hgain
    exact after_regWrite_checked hm hr hpairs (place_CH_FE_CTRL i) hl hrestart hlock (by decide)
      (regCheck_gain hgain · i) (by decide) (by decide)
  case step =>
    intro h pairs v i hr hpairs hl hrestart hlock hstep
    exact after_regWrite_checked hm hr hpairs (place_RGN_ROT_CTRL i) hl hrestart hlock (by decide)
      (regCheck_step hstep · i) (by decide) (by decide)
  case window =>
    intro h pairs v i hr hpairs hl hrestart hlock hwin
    exact after_regWrite_checked hm hr hpairs (place_CH_SLOT_AUX i) hl hrestart hlock (by decide)
      (regCheck_window hwin · i) (by decide) (by decide)

/-! ### A slice reinstated by the host -/

/-- A block in READY with a session that may write channel 0's registers. In channel 0 slice 8 is retired, and the table of the standby
coefficient bank lists slice 0 twice. -/
def listedTwice : Kz :=
  { pwr := { state := .ready }
    ports := [(0, { session := { isOpen := true, leases := [.channel 0] } })]
    regs := { cfg := [(RegKind.addr .CH_SLICE_HEALTH 0, 1 <<< 8)] }
    chans := [(0, { conv := { standby := [(0, [1]), (0, [2])] } })] }

/-- Refutes O6: its clauses for RETIRED written by the host say that each slice keeps the coefficients that a read of its standby bank,
or else of its active set, gives. Where the standby table lists a slice twice, a read takes the first entry, but the entry that ends as
the active set is the last one (`assignSlices`). `Sparse.set` lists no slice twice; the clauses have no hypothesis that the table was
made by it. -/
theorem not_calibrationRotationFaultsAndInjection : ¬ Obligations.CalibrationRotationFaultsAndInjection := by
  unfold Obligations.CalibrationRotationFaultsAndInjection
  intro h
  obtain ⟨-, -, -, -, hreinstate, -⟩ := h { kz := listedTwice } ⟨0, 0⟩ _ rfl
  obtain ⟨n, hexec, -, hcoef⟩ := hreinstate 0 0 0 (by decide) (by decide) (by decide)
  have hfirst : Sparse.get (Sparse.get [] (n.chan 0).conv.coef 0) (n.chan 0).conv.standby 0 = [1] := hcoef 0 (by decide)
  have hlast : Sparse.get (Sparse.get [] (n.chan 0).conv.coef 0) (n.chan 0).conv.standby 0 = [2] := by
    obtain ⟨rfl, -⟩ := State.mk.inj (Host.Outcome.next.inj hexec)
    decide
  exact absurd (hfirst.symm.trans hlast) (by decide)

end Sys2Proof.Safety
end


section
/-! SUPPORT. The family 03_interleaved_converter.md: what the steps of the slice rotation make of a channel's converter (R80 to R90, R104),
and what a dispute decided against the spare leaves behind (R94, R97, R102). -/
namespace Sys2Proof.Machine
open Safety

/-! ### A channel's converter and the block around it -/

theorem Kz.modConv_modConv (m : Kz) (c : Nat) (f g : Conv → Conv) :
    (m.modConv c f).modConv c g = m.modConv c fun v => g (f v) := by
  simp [Kz.modConv, Kz.modChan, Sparse.mod, Sparse.set_set]

theorem Kz.conv_modConv (m : Kz) (c : Nat) (f : Conv → Conv) : ((m.modConv c f).chan c).conv = f (m.chan c).conv :=
  congrArg Channel.conv (Kz.chan_modConv_same m c f)

theorem Kz.openSpan_eq (m : Kz) (k : SpanKind) :
    m.openSpan k = { m with spans := if m.spanOpen k then m.spans else ⟨k, m.now.tick, none⟩ :: m.spans } := by
  unfold Kz.openSpan Kz.openSpanAt
  split <;> rfl

theorem Kz.openSpan_modConv (m : Kz) (k : SpanKind) (c : Nat) (f : Conv → Conv) :
    (m.openSpan k).modConv c f = (m.modConv c f).openSpan k := by
  rw [Kz.openSpan_eq, Kz.openSpan_eq]
  rfl

/-- R96: the end of the suspect interval touches the intervals only. -/
theorem suspectEnds_eq (m : Kz) (c : Nat) : suspectEnds m c = { m with spans := (suspectEnds m c).spans } := by
  unfold suspectEnds
  dsimp only
  split <;> rfl

theorem suspectEnds_modConv (m : Kz) (c : Nat) (f g : Conv → Conv) : (suspectEnds (m.modConv c f) c).modConv c g =
    { m.modConv c (fun v => g (f v)) with spans := (suspectEnds (m.modConv c f) c).spans } := by
  rw [suspectEnds_eq, ← Kz.modConv_modConv m c f g]
  rfl

/-- A free quotient uses up an index of the free values at most. -/
theorem Kz.freeQuot_eq (m : Kz) (n : Int) (d : Nat) : (m.freeQuot n d).2 = { m with fresh := (m.freeQuot n d).2.fresh } := by
  unfold Kz.freeQuot
  split <;> rfl

/-- What a free quotient is does not depend on the channels. -/
theorem Kz.freeQuot_modConv (m : Kz) (c : Nat) (f : Conv → Conv) (n : Int) (d : Nat) :
    (m.modConv c f).freeQuot n d = ((m.freeQuot n d).1, { m.modConv c f with fresh := (m.freeQuot n d).2.fresh }) := by
  unfold Kz.freeQuot
  split <;> rfl

variable {m : Kz} {c : Nat}

/-! ### Windows opened, handovers armed -/

/-- The converter once a window has opened (R88). -/
def Conv.windowOpened (now : Stamp) (st : RotState) (v : Conv) : Conv :=
  { v with
    rot := st, windowFrom := now.ns, windowAt := now.tick, passed := false, pairs := {},
    phase := if st = .checkShadow then (v.target + 1) % slicesOf v.effMode else v.target }

theorem openWindow_eq (m : Kz) (c : Nat) (st : RotState) : openWindow m c st = m.modConv c (Conv.windowOpened m.now st) := rfl

/-- R96: a slice becomes SUSPECT as a window opens. -/
theorem openWindow_setSuspect {sl : Nat} (hsl : sl < 9) (m : Kz) (c : Nat) (st : RotState) :
    openWindow (setSuspect m c sl true) c st =
      (m.modConv c fun v => { v with suspect := withBit v.suspect sl true }.windowOpened m.now st).openSpan (.suspect c) := by
  rw [setSuspect, if_neg (not_le.2 hsl), openWindow_eq]
  simp only [if_true, Kz.openSpan_now, Kz.openSpan_modConv, Kz.modConv_modConv]
  rfl

/-- R75: the boundary of a handover depends on the moment and the effective mode only. -/
theorem boundaryAfter_congr (m : Kz) {n : Kz} {c : Nat} (hnow : n.now = m.now)
    (hmode : (n.chan c).conv.effMode = (m.chan c).conv.effMode) : boundaryAfter n c = boundaryAfter m c := by
  simp [boundaryAfter, boundaryFrom, hnow, hmode]

theorem armHandover_modConv (m : Kz) {n : Kz} {c : Nat} {f : Conv → Conv} (hnow : n.now = m.now)
    (hmode : (f (n.chan c).conv).effMode = (m.chan c).conv.effMode) :
    armHandover (n.modConv c f) c =
      n.modConv c fun v => { f v with rot := .armed, phase := (f v).target, boundary := boundaryAfter m c } := by
  have hb : boundaryAfter (n.modConv c f) c = boundaryAfter m c := boundaryAfter_congr m hnow (by simpa using hmode)
  rw [armHandover, hb, Kz.modConv_modConv]

/-- R88: the step timer expires after the window has passed. -/
theorem timerExpire_passed (htimer : (m.chan c).conv.timerFrom.isSome = true) (hexp : (m.chan c).conv.expired = false)
    (hrot : (m.chan c).conv.rot = .shadow) (hpass : (m.chan c).conv.passed = true) :
    timerExpire m c = m.modConv c fun v =>
      { v with expired := true, rot := .armed, phase := v.target, boundary := boundaryAfter m c } := by
  simp [timerExpire, Option.isSome_iff_ne_none.1 htimer, hexp, hrot, hpass, armHandover_modConv m]

/-- R88: the step timer expires and the window is still to pass. -/
theorem timerExpire_waiting (htimer : (m.chan c).conv.timerFrom.isSome = true) (hexp : (m.chan c).conv.expired = false)
    (hwait : (m.chan c).conv.rot ≠ .shadow ∨ (m.chan c).conv.passed = false) :
    timerExpire m c = m.modConv c fun v => { v with expired := true } := by
  have hnot : ¬ ((m.chan c).conv.rot = .shadow ∧ (m.chan c).conv.passed = true) := by
    rintro ⟨hrot, hpass⟩
    simp [hrot, hpass] at hwait
  simp [timerExpire, Option.isSome_iff_ne_none.1 htimer, hexp, hnot]

/-- R104: STEP_NOW with MODE as it was is the step timer's expiry. -/
theorem regEffect_stepNow {n : Kz} {o w : Word} (hmode : F.CH_CONV_CTRL.MODE.of o = F.CH_CONV_CTRL.MODE.of w)
    (hnow : F.CH_CONV_CTRL.STEP_NOW.of w = 1) : regEffect n .CH_CONV_CTRL c o w = timerExpire n c := by
  simp only [regEffect, hmode, hnow, if_true]

/-! ### Benchmark calibration -/

/-- The block once a slice's calibration has passed (R82, R83). -/
def calibrated (m : Kz) (c sl : Nat) (coef : List Int) : Kz :=
  (writeCoef m c sl coef).modConv c fun v => { v with attempts := v.attempts.set sl 0, calDone := withBit v.calDone sl true }

section Calibration
variable {sl : Nat} {coef : List Int} {rms : Nat} (hret : retired m c sl = false)
  (hcal : Sparse.get 0 (m.chan c).conv.calFrom sl + calNs ≤ m.now.ns)
include hret hcal

/-- R88: the spare passes, and no stuck slice waits for it. -/
theorem benchDone_spare_passes (hrot : (m.chan c).conv.rot = .calSpare) (hspare : (m.chan c).conv.spare = sl)
    (hsus : (m.chan c).conv.suspect.testBit sl = false) (hstuck : (m.chan c).conv.stuck = [])
    (hpass : calPasses coef rms = true) :
    benchDone m c sl coef rms = openWindow (calibrated m c sl coef) c .shadow := by
  simp [benchDone, hret, not_lt.2 hcal, hrot, hspare, hsus, hstuck, hpass, calibrated]

/-- R88: the spare fails with attempts left. -/
theorem benchDone_spare_fails (hrot : (m.chan c).conv.rot = .calSpare) (hspare : (m.chan c).conv.spare = sl)
    (hfail : calPasses coef rms = false) (hleft : (m.chan c).conv.attempts.getD sl 0 + 1 < calRetry m c) :
    benchDone m c sl coef rms = calBegin (m.modConv c fun v =>
      { v with attempts := v.attempts.set sl ((m.chan c).conv.attempts.getD sl 0 + 1) }) c sl false := by
  have hretry : ∀ f : Conv → Conv, calRetry (m.modConv c f) c = calRetry m c := fun _ => rfl
  simp only [List.getD_eq_getElem?_getD] at hleft
  simp [benchDone, hret, not_lt.2 hcal, hrot, hspare, hfail, hretry, hleft]

/-- R83: a slice passes in its region's calibration pass. -/
theorem benchDone_pass_passes (hin : inPass m (c / 16) = true) (hrot : (m.chan c).conv.rot ≠ .calSpare)
    (hdone : (m.chan c).conv.calDone.testBit sl = false) (hsus : (m.chan c).conv.suspect.testBit sl = false)
    (hpass : calPasses coef rms = true) : benchDone m c sl coef rms = calibrated m c sl coef := by
  simp [benchDone, hret, not_lt.2 hcal, hin, hrot, hdone, hsus, hpass, calibrated]

end Calibration

/-! ### The verdict of a window -/

/-- The converter once a window has closed with its verdict and its figures (R87, R108). -/
def Conv.windowClosed (m : Kz) (verdict : Nat) (q : Pairs) (v : Conv) : Conv :=
  { v with
    pairs := q
    shadow := ⟨verdict, v.spare, v.pos.getD v.phase 15, satS 8 (max (m.freeQuot q.sum q.count).1 (-127)),
      min q.disagree 0x3FFF⟩ }

/-- The block once a channel's window has closed. -/
def windowClosed (m : Kz) (c verdict : Nat) (q : Pairs) : Kz :=
  { m.modConv c (Conv.windowClosed m verdict q) with fresh := (m.freeQuot q.sum q.count).2.fresh }

theorem shadowResult_eq (m : Kz) (c verdict : Nat) : shadowResult m c verdict = windowClosed m c verdict (m.chan c).conv.pairs := by
  unfold shadowResult
  dsimp only
  rw [Kz.freeQuot_eq]
  rfl

theorem Conv.windowClosed_modConv (m : Kz) (c verdict : Nat) (q : Pairs) (f : Conv → Conv) :
    Conv.windowClosed (m.modConv c f) verdict q = Conv.windowClosed m verdict q := by
  funext v
  simp [Conv.windowClosed, Kz.freeQuot_modConv]

theorem shadowResult_pairs (m : Kz) (c verdict : Nat) (q : Pairs) :
    shadowResult (m.modConv c fun v => { v with pairs := q }) c verdict = windowClosed m c verdict q := by
  simp only [shadowResult_eq, windowClosed, Kz.chan_modConv_same, Conv.windowClosed_modConv, Kz.freeQuot_modConv,
    Kz.modConv_modConv]
  rfl

theorem conv_windowClosed (m : Kz) (c verdict : Nat) (q : Pairs) :
    ((windowClosed m c verdict q).chan c).conv = (m.chan c).conv.windowClosed m verdict q :=
  Kz.conv_modConv m c (Conv.windowClosed m verdict q)

theorem windowClosed_modConv (m : Kz) (c verdict : Nat) (q : Pairs) (f : Conv → Conv) :
    (windowClosed m c verdict q).modConv c f =
      { m.modConv c (fun v => f (v.windowClosed m verdict q)) with fresh := (m.freeQuot q.sum q.count).2.fresh } := by
  rw [← Kz.modConv_modConv m c (Conv.windowClosed m verdict q) f]
  rfl

/-- The block once a window has failed, a rotation fault of kind 1 (R88, R97). -/
def windowFailed (m : Kz) (c : Nat) (q : Pairs) : Kz :=
  rotFault (rotLog (windowClosed m c 2 q) c 1 ((m.chan c).conv.pos.getD (m.chan c).conv.phase 15) (m.chan c).conv.phase
    (m.datumOf (m.chan c).conv.windowAt)) c

theorem windowFailed_modConv (m : Kz) (c : Nat) (q : Pairs) (f : Conv → Conv) :
    (windowFailed m c q).modConv c f = { m.modConv c (fun v => f (v.windowClosed m 2 q)) with
      fresh := (m.freeQuot q.sum q.count).2.fresh
      log := (rotLog m c 1 ((m.chan c).conv.pos.getD (m.chan c).conv.phase 15) (m.chan c).conv.phase
        (m.datumOf (m.chan c).conv.windowAt)).log
      stats := (m.count .RGN_ROT_FAULTS (c / 16) 1).stats } := by
  rw [← Kz.modConv_modConv m c (Conv.windowClosed m 2 q) f]
  rfl

/-- The block once the dispute is decided: a fault of kind 2 against the spare, and the target is SUSPECT no longer (R94, R96, R97). -/
def spareLost (m : Kz) (c tgt : Nat) (q : Pairs) : Kz :=
  setSuspect (dispute ((windowFailed m c q).mark F.CH_CONV_STAT.DISPUTE_SEEN c) c (m.chan c).conv.spare) c tgt false

section Verdict
variable {told q : Pairs} (hq : q = if 65536 ≤ (m.chan c).conv.pairs.count then (m.chan c).conv.pairs else told)
  (hcount : 65536 ≤ q.count)
include hq hcount

/-- R88: a window passes after the step timer has expired. -/
theorem windowClose_passes (hrot : (m.chan c).conv.rot = .shadow) (hpass : windowPasses m c q = true)
    (hexp : (m.chan c).conv.expired = true) (htimer : (m.chan c).conv.timerFrom.isSome = true) :
    windowClose m c told = armHandover ((windowClosed m c 1 q).modConv c fun v => { v with passed := true }) c := by
  simp [windowClose, ← hq, hrot, not_lt.2 hcount, hpass, hexp, htimer, shadowResult_pairs]

/-- R88: the first window on a target fails, and the spare calibrates again. -/
theorem windowClose_fails (hrot : (m.chan c).conv.rot = .shadow) (hfail : windowPasses m c q = false)
    (hrecal : (m.chan c).conv.recal = false) :
    windowClose m c told = (calBegin (windowFailed m c q) c (m.chan c).conv.spare true).modConv c fun v =>
      { v with rot := .calSpare, recal := true } := by
  simp [windowClose, ← hq, hrot, not_lt.2 hcount, hfail, hrecal, shadowResult_pairs, windowFailed]

/-- R88: the second window on a target fails, and the spare is checked on another position. -/
theorem windowClose_fails_again (hrot : (m.chan c).conv.rot = .shadow) (hfail : windowPasses m c q = false)
    (hrecal : (m.chan c).conv.recal = true) (hn : slicesOf (m.chan c).conv.effMode ≠ 1) :
    windowClose m c told = openWindow (setSuspect (windowFailed m c q) c
      ((m.chan c).conv.pos.getD (m.chan c).conv.target 15) true) c .checkShadow := by
  simp [windowClose, ← hq, hrot, not_lt.2 hcount, hfail, hrecal, hn, shadowResult_pairs, windowFailed]

/-- R88, R94: the spare fails on the other position too. -/
theorem windowClose_check_fails (hrot : (m.chan c).conv.rot = .checkShadow) (hfail : windowPasses m c q = false) :
    windowClose m c told = retireSpare (spareLost m c ((m.chan c).conv.pos.getD (m.chan c).conv.target 15) q) c 2 := by
  simp [windowClose, ← hq, hrot, not_lt.2 hcount, hfail, shadowResult_pairs, windowFailed, spareLost]

end Verdict

/-- R86: a starved window opens again. -/
theorem windowStarved_late (hrot : (m.chan c).conv.rot = .shadow ∨ (m.chan c).conv.rot = .checkShadow)
    (hlate : (m.chan c).conv.windowFrom + 4 * (m.fld F.RGN_ROT_CTRL.STEP (c / 16) * 100000) ≤ m.now.ns) :
    windowStarved m c = ((windowClosed m c 3 (m.chan c).conv.pairs).modConv c
      (Conv.windowOpened m.now (m.chan c).conv.rot)).mark F.CH_CONV_STAT.STARVED_SEEN c := by
  simp [windowStarved, hrot, hlate, shadowResult_eq]
  rfl

/-! ### The handover -/

/-- The converter once the spare has taken a position (R82, R90). -/
def Conv.positionTaken (p : Nat) (v : Conv) : Conv :=
  { v with
    pos := v.pos.set p v.spare, relieved := v.pos.getD p 15, spare := v.pos.getD p 15, handoverAt := v.boundary,
    coef := Sparse.set v.coef v.spare (Sparse.get (Sparse.get [] v.coef v.spare) v.standby v.spare),
    standby := Sparse.del v.standby v.spare, runs := Sparse.del v.runs (v.pos.getD p 15) }

/-- The converter that a handover leaves in CONFIRM (R88, R90). -/
def Conv.handedOver (v : Conv) : Conv :=
  { v.positionTaken v.target with rot := .confirm, phase := v.target, pairs := {}, stuck := v.stuck.erase v.target }

/-- The block once the spare has taken its target's position (R88, R90). -/
def handedOver (m : Kz) (c : Nat) : Kz :=
  (takePosition m c (m.chan c).conv.target).modConv c fun v =>
    { v with rot := .confirm, phase := v.target, pairs := {}, stuck := v.stuck.erase v.target }

section Handover
variable (hret : retired m c ((m.chan c).conv.pos.getD (m.chan c).conv.target 15) = false)
include hret

/-- R82, R90, R96: a healthy slice is relieved. -/
theorem takePosition_eq : takePosition m c (m.chan c).conv.target =
    suspectEnds (m.modConv c (Conv.positionTaken (m.chan c).conv.target)) c := by
  have hret' : ¬ retired (m.modConv c (Conv.positionTaken (m.chan c).conv.target)) c
      ((m.chan c).conv.pos.getD (m.chan c).conv.target 15) = true := Bool.eq_false_iff.1 hret
  exact if_neg hret'

theorem handedOver_eq : ∃ spans, handedOver m c = { m.modConv c Conv.handedOver with spans := spans } := by
  rw [handedOver, takePosition_eq hret, suspectEnds_modConv]
  exact ⟨_, rfl⟩

theorem conv_handedOver : ((handedOver m c).chan c).conv = (m.chan c).conv.handedOver := by
  obtain ⟨spans, h⟩ := handedOver_eq hret
  rw [h]
  exact Kz.conv_modConv m c Conv.handedOver

theorem handedOver_modConv (f : Conv → Conv) : ∃ spans,
    (handedOver m c).modConv c f = { m.modConv c (fun v => f v.handedOver) with spans := spans } := by
  obtain ⟨spans, h⟩ := handedOver_eq hret
  rw [h, ← Kz.modConv_modConv m c Conv.handedOver f]
  exact ⟨spans, rfl⟩

theorem nextBoundary_handedOver : nextBoundary (handedOver m c) c = nextBoundary m c := by
  obtain ⟨spans, h⟩ := handedOver_eq hret
  have hnow : (handedOver m c).now = m.now := by rw [h]; rfl
  rw [nextBoundary, conv_handedOver hret, hnow]
  rfl

variable (hrot : (m.chan c).conv.rot = .armed) (hdue : (m.chan c).conv.boundary ≤ m.now.tick)
include hrot hdue

/-- R88: no stuck slice waits, and the handover is confirmed. -/
theorem handover_confirms (hstuck : (m.chan c).conv.stuck.erase (m.chan c).conv.target = []) :
    handover m c = handedOver m c := by
  have hend : ((handedOver m c).chan c).conv.stuck = [] := (congrArg Conv.stuck (conv_handedOver hret)).trans hstuck
  unfold handedOver at hend ⊢
  simp only [handover, hrot, hdue, decide_true, Bool.and_self, if_true, hend]

/-- R93: a stuck slice waits, and the relieved slice goes to its position. -/
theorem handover_relieves_stuck {x : Nat} {r : List Nat} (hstuck : (m.chan c).conv.stuck.erase (m.chan c).conv.target = x :: r) :
    handover m c = (handedOver m c).modConv c fun v =>
      { v with rot := .emergArmed, target := x, phase := x, boundary := nextBoundary m c } := by
  have hend : ((handedOver m c).chan c).conv.stuck = x :: r := (congrArg Conv.stuck (conv_handedOver hret)).trans hstuck
  rw [← nextBoundary_handedOver hret]
  unfold handedOver at hend ⊢
  simp only [handover, hrot, hdue, decide_true, Bool.and_self, if_true, hend]

end Handover

/-- R88: the confirmation ends, and the relieved slice calibrates as the spare of the next step. -/
theorem confirmDone_nextStep {disagree : Nat} (hrot : (m.chan c).conv.rot = .confirm) (hrev : (m.chan c).conv.reverting = false)
    (hlimit : max (m.chan c).conv.pairs.disagree disagree ≤ m.fld F.RGN_SHADOW_CFG.CONFIRM_LIMIT (c / 16))
    (hend : (m.chan c).conv.handoverAt + 1024 ≤ m.now.tick) (hen : m.on F.CH_CONV_CTRL.ROT_EN c = true)
    (hret : retired m c (m.chan c).conv.spare = false) : confirmDone m c disagree =
      startStep m c (((m.chan c).conv.target + 1) % slicesOf (m.chan c).conv.effMode) true := by
  simp [confirmDone, hrot, hrev, hlimit, hend, nextStep, spareOrNext, hret, hen]

/-! ### Bits of a mask and of a register -/

theorem testBit_sub_two_pow {x i : Nat} (h : x.testBit i = true) (j : Nat) :
    (x - 2 ^ i).testBit j = (x.testBit j && decide (i ≠ j)) := by
  induction i generalizing x j with
  | zero =>
    have hodd : x % 2 = 1 := by simpa using h
    cases j with
    | zero =>
      have heven : (x - 1) % 2 = 0 := by omega
      simpa using heven
    | succ j =>
      have hhalf : (x - 2 ^ 0) / 2 = x / 2 := by omega
      rw [Nat.testBit_succ, hhalf, Nat.testBit_succ]
      simp
  | succ i ih =>
    have hpow : 2 ^ (i + 1) = 2 * 2 ^ i := Nat.pow_succ'
    cases j with
    | zero =>
      have hle : 2 * 2 ^ i ≤ x := hpow ▸ Nat.ge_two_pow_of_testBit h
      have hparity : (x - 2 ^ (i + 1)) % 2 = x % 2 := by omega
      simp [hparity]
    | succ j =>
      have hhalf : (x - 2 ^ (i + 1)) / 2 = x / 2 - 2 ^ i := by omega
      rw [Nat.testBit_succ, hhalf, ih (by rwa [Nat.testBit_succ] at h), Nat.testBit_succ]
      simp

theorem testBit_withBit_false (x i j : Nat) : (withBit x i false).testBit j = (x.testBit j && decide (i ≠ j)) := by
  unfold withBit
  rw [if_neg Bool.false_ne_true, Nat.one_shiftLeft]
  split
  · next h => exact testBit_sub_two_pow h j
  · next h =>
    by_cases hij : i = j
    · subst hij
      simp [h]
    · simp [hij]

theorem testBit_withBit_true_self (x i : Nat) : (withBit x i true).testBit i = true := by
  simp [withBit]

/-- A field of one bit reads that bit of its word. -/
theorem Field.of_bit {f : Field} (hhi : f.hi = f.lo) (hlo : f.lo < 32) (w : Nat) :
    f.of (BitVec.ofNat 32 w) = (w.testBit f.lo).toNat := by
  have hmod : (w % 2 ^ 32).testBit f.lo = w.testBit f.lo := by simp [hlo, -Nat.reducePow]
  rw [Field.of, hhi, Nat.sub_self, BitVec.toNat_ofNat, ← hmod, Nat.toNat_testBit, Nat.shiftRight_eq_div_pow, Nat.zero_add,
    Nat.pow_one]

/-- A bit set in a value stored in a field reads as set. -/
theorem Kz.testBit_fld_setFld {f : Field} (hhi : f.hi < 32) (m : Kz) (i v : Nat) {j : Nat} (hj : f.lo + j ≤ f.hi)
    (hv : v.testBit j = true) : ((m.setFld f i v).fld f i).testBit j = true := by
  have hwidth : j < f.hi - f.lo + 1 := by omega
  have hword : f.lo + j < 32 := by omega
  simp [Kz.fld, Kz.setFld, Kz.cfgWord_setCfg, Field.of, Field.put, hv, hwidth, hword, -Nat.reducePow]

theorem Kz.fld_of_cfg {m n : Kz} (h : n.regs.cfg = m.regs.cfg) (f : Field) (i : Nat) : n.fld f i = m.fld f i := by
  rw [Kz.fld, Kz.cfgWord, h]
  rfl

theorem Kz.seenWord_of_regs {m n : Kz} (h : n.regs = m.regs) (k : RegKind) (i : Nat) : n.seenWord k i = m.seenWord k i := by
  rw [Kz.seenWord, h]
  rfl

theorem Kz.seenWord_mark (m : Kz) (f : Field) (i : Nat) : (m.mark f i).seenWord f.kind i = m.seenWord f.kind i ||| 1 <<< f.lo :=
  Kz.seenWord_markBit m f i 0

theorem Kz.seen_of_bit {f : Field} (hhi : f.hi = f.lo) (hlo : f.lo < 32) {i : Nat}
    (h : (m.seenWord f.kind i).testBit f.lo = true) : m.seen f i = 1 := by
  rw [Kz.seen, Field.of_bit hhi hlo, h]
  rfl

theorem Kz.counter_of_stats {m n : Kz} (h : n.stats = m.stats) (k : RegKind) (i : Nat) : n.counter k i = m.counter k i := by
  rw [Kz.counter, h]
  rfl

/-- R639: two advances of a counter are one. -/
theorem Kz.Counter.add_add (x : Counter) (a b : Nat) : Counter.add (Counter.add x a) b = Counter.add x (a + b) := by
  by_cases hfit : x.val + a < 0xFFFFFFFF
  · by_cases hb : b = 0
    · simp [Counter.add, hfit, hb]
    · simp [Counter.add, hfit, hb, Nat.add_assoc]
  · have hfull : ¬ x.val + (a + b) < 0xFFFFFFFF := by omega
    by_cases ha : a = 0
    · simp [Counter.add, ha]
    · simp [Counter.add, hfit, hfull, ha]

theorem Kz.count_count (m : Kz) (k : RegKind) (i a b : Nat) : (m.count k i a).count k i b = m.count k i (a + b) := by
  simp [Kz.count, Sparse.mod, Sparse.set_set, Kz.Counter.add_add]

/-! ### What a retirement keeps -/

/-- The registers, the counters, the regions and the other channels are as they were, the channel's record of its last retirement too,
and no slice has become SUSPECT. -/
structure RecordKept (c : Nat) (m n : Kz) : Prop where
  rgns : n.rgns = m.rgns
  regs : n.regs = m.regs
  stats : n.stats = m.stats
  others : ∀ y, y ≠ c → n.chan y = m.chan y
  clear : ∀ i, (m.chan c).conv.suspect.testBit i = false → (n.chan c).conv.suspect.testBit i = false
  slice : (n.chan c).conv.lastSlice = (m.chan c).conv.lastSlice
  reason : (n.chan c).conv.lastReason = (m.chan c).conv.lastReason

/-- The converter once a slice is SUSPECT no longer (R96). -/
def Conv.unsuspected (sl : Nat) (v : Conv) : Conv := { v with suspect := withBit v.suspect sl false }

theorem setSuspect_off {sl : Nat} (h : sl < 9) (m : Kz) (c : Nat) :
    ∃ spans, setSuspect m c sl false = { m.modConv c (Conv.unsuspected sl) with spans := spans } := by
  refine ⟨(suspectEnds (m.modConv c (Conv.unsuspected sl)) c).spans, ?_⟩
  rw [← suspectEnds_eq, setSuspect, if_neg (not_le.2 h)]
  rfl

theorem conv_setSuspect_off {sl : Nat} (h : sl < 9) (m : Kz) (c : Nat) :
    ((setSuspect m c sl false).chan c).conv = (m.chan c).conv.unsuspected sl := by
  obtain ⟨spans, hs⟩ := setSuspect_off h m c
  rw [hs]
  exact Kz.conv_modConv m c (Conv.unsuspected sl)

namespace RecordKept

theorem refl (c : Nat) (m : Kz) : RecordKept c m m := ⟨rfl, rfl, rfl, fun _ _ => rfl, fun _ h => h, rfl, rfl⟩

theorem trans {m n x : Kz} (h : RecordKept c m n) (k : RecordKept c n x) : RecordKept c m x where
  rgns := k.rgns.trans h.rgns
  regs := k.regs.trans h.regs
  stats := k.stats.trans h.stats
  others y hy := (k.others y hy).trans (h.others y hy)
  clear i hi := k.clear i (h.clear i hi)
  slice := k.slice.trans h.slice
  reason := k.reason.trans h.reason

theorem modConv {f : Conv → Conv} (clear : ∀ v i, v.suspect.testBit i = false → (f v).suspect.testBit i = false)
    (slice : ∀ v, (f v).lastSlice = v.lastSlice) (reason : ∀ v, (f v).lastReason = v.lastReason) :
    RecordKept c m (m.modConv c f) where
  rgns := rfl
  regs := rfl
  stats := rfl
  others y hy := (Kz.chan_modConv m c y f).trans (if_neg hy)
  clear i hi := Kz.conv_modConv m c f ▸ clear _ i hi
  slice := Kz.conv_modConv m c f ▸ slice _
  reason := Kz.conv_modConv m c f ▸ reason _

theorem setSuspect_off {sl : Nat} (h : sl < 9) (m : Kz) (c : Nat) : RecordKept c m (setSuspect m c sl false) := by
  obtain ⟨spans, hs⟩ := Machine.setSuspect_off h m c
  have hclear : RecordKept c m (m.modConv c (Conv.unsuspected sl)) :=
    modConv (fun v i hi => by simp [Conv.unsuspected, testBit_withBit_false, hi]) (fun _ => rfl) fun _ => rfl
  exact hs ▸ hclear.trans ⟨rfl, rfl, rfl, fun _ _ => rfl, fun _ h => h, rfl, rfl⟩

theorem modChan {f : Channel → Channel} (hconv : ∀ x, (f x).conv = x.conv) : RecordKept c m (m.modChan c f) := by
  have hkept : ((m.modChan c f).chan c).conv = (m.chan c).conv :=
    (congrArg Channel.conv (Kz.chan_modChan_same m c f)).trans (hconv _)
  exact ⟨rfl, rfl, rfl, fun y hy => (Kz.chan_modChan m c y f).trans (if_neg hy), fun _ hi => by rwa [hkept],
    by rw [hkept], by rw [hkept]⟩

theorem askRestart (m : Kz) (c cause : Nat) : RecordKept c m (Machine.askRestart m c cause) := by
  unfold Machine.askRestart
  split
  · exact refl c m
  · exact modChan fun _ => rfl

end RecordKept

/-! ### A slice retired in RUN -/

/-- The block once a retirement stands in RETIRED, the log, RETIRE_SEEN and the fault counter (R97, R102, R645). -/
def retirementNoted (m : Kz) (c sl : Nat) : Kz :=
  rotFault ((rotLog (m.setFld F.CH_SLICE_HEALTH.RETIRED c (withBit (m.fld F.CH_SLICE_HEALTH.RETIRED c) sl true)) c 6 sl
    (posOf (m.chan c).conv sl) 0).mark F.CH_CONV_STAT.RETIRE_SEEN c) c

/-- The same once the slice is SUSPECT no longer, unless it still holds a position (R96). -/
def retirementCleared (m : Kz) (c sl : Nat) : Kz :=
  if ((retirementNoted m c sl).chan c).conv.pos.contains sl then retirementNoted m c sl
  else setSuspect (retirementNoted m c sl) c sl false

/-- LAST_SLICE and LAST_REASON after a retirement (R107). -/
def Conv.lastRetired (sl reason : Nat) (v : Conv) : Conv := { v with lastSlice := sl, lastReason := reason }

/-- The same once the slice and the reason are recorded and the ledger is owed the action (R107, R664). -/
def retirementRecorded (m : Kz) (c sl reason : Nat) : Kz :=
  ((retirementCleared m c sl).modConv c (Conv.lastRetired sl reason)).ledgerAct 1 1 c

theorem retirementCleared_keeps {sl : Nat} (hsl : sl < 9) (m : Kz) (c : Nat) :
    RecordKept c (retirementNoted m c sl) (retirementCleared m c sl) := by
  unfold retirementCleared
  split
  · exact .refl ..
  · exact .setSuspect_off hsl ..

theorem conv_retirementRecorded (m : Kz) (c sl reason : Nat) : ((retirementRecorded m c sl reason).chan c).conv =
    ((retirementCleared m c sl).chan c).conv.lastRetired sl reason :=
  Kz.conv_modConv (retirementCleared m c sl) c (Conv.lastRetired sl reason)

theorem retirementRecorded_chan_ne {y : Nat} (hy : y ≠ c) {sl : Nat} (hsl : sl < 9) (m : Kz) (reason : Nat) :
    (retirementRecorded m c sl reason).chan y = m.chan y :=
  ((Kz.chan_modConv (retirementCleared m c sl) c y (Conv.lastRetired sl reason)).trans (if_neg hy)).trans
    ((retirementCleared_keeps hsl m c).others y hy)

theorem Kz.inRun_of_rgns {m n : Kz} (h : n.rgns = m.rgns) (k : Nat) : n.inRun k = m.inRun k := by
  rw [Kz.inRun, Kz.rstate, Kz.rgn, h]
  rfl

/-- R99: in RUN a retirement leaves the slices in their positions; at most it asks for a channel restart. -/
theorem retire_inRun {sl : Nat} (hsl : sl < 9) (hrun : m.inRun (c / 16) = true) (reason : Nat) :
    RecordKept c (retirementRecorded m c sl reason) (retire m c sl reason) := by
  have hrgns : (retirementRecorded m c sl reason).rgns = m.rgns := (retirementCleared_keeps hsl m c).rgns
  have hretire : retire m c sl reason =
      if !(retirementRecorded m c sl reason).inRun (c / 16) then assignSlices (retirementRecorded m c sl reason) c
      else if plannedMode (retirementRecorded m c sl reason) c = (m.chan c).conv.effMode &&
          !chanFailed (retirementRecorded m c sl reason) c then retirementRecorded m c sl reason
      else askRestart (retirementRecorded m c sl reason) c 2 := rfl
  rw [hretire, Kz.inRun_of_rgns hrgns, hrun, if_neg (by decide)]
  split
  · exact .refl ..
  · exact .askRestart ..

/-- R88: the choice of the next spare. -/
theorem retireSpare_keeps (m : Kz) (c reason : Nat) :
    RecordKept c (retire m c (m.chan c).conv.spare reason) (retireSpare m c reason) := by
  unfold retireSpare
  dsimp only
  split
  · rw [Kz.modConv_modConv]
    exact .modConv (fun _ _ h => h) (fun _ => rfl) fun _ => rfl
  · rw [startStep, calBegin, Kz.modConv_modConv, Kz.modConv_modConv]
    exact .modConv (fun _ _ h => h) (fun _ => rfl) fun _ => rfl

/-! ### A dispute decided against the spare -/

section Dispute
variable {tgt : Nat} (htgt : tgt < 9) (q : Pairs)
include htgt

theorem spareLost_keeps : RecordKept c (dispute ((windowFailed m c q).mark F.CH_CONV_STAT.DISPUTE_SEEN c) c (m.chan c).conv.spare)
    (spareLost m c tgt q) :=
  .setSuspect_off htgt ..

theorem conv_spareLost : ((spareLost m c tgt q).chan c).conv = ((m.chan c).conv.windowClosed m 2 q).unsuspected tgt :=
  (conv_setSuspect_off htgt ..).trans (congrArg (Conv.unsuspected tgt) (conv_windowClosed m c 2 q))

theorem spareLost_chan_ne {y : Nat} (hy : y ≠ c) : (spareLost m c tgt q).chan y = m.chan y :=
  ((spareLost_keeps htgt q).others y hy).trans ((Kz.chan_modConv m c y (Conv.windowClosed m 2 q)).trans (if_neg hy))

/-- R97: the window that failed is one fault, the dispute a second. -/
theorem spareLost_stats : (spareLost m c tgt q).stats = (m.count .RGN_ROT_FAULTS (c / 16) 2).stats := by
  rw [(spareLost_keeps htgt q).stats, ← Kz.count_count m .RGN_ROT_FAULTS (c / 16) 1 1]
  rfl

variable (hspare : (m.chan c).conv.spare < 9) (hrun : m.inRun (c / 16) = true)
include hspare hrun

/-- R88, R94: the spare is retired with reason 2. -/
theorem retireSpare_spareLost : RecordKept c (retirementRecorded (spareLost m c tgt q) c (m.chan c).conv.spare 2)
    (retireSpare (spareLost m c tgt q) c 2) := by
  have hsame : ((spareLost m c tgt q).chan c).conv.spare = (m.chan c).conv.spare := by
    rw [conv_spareLost htgt]
    rfl
  have hrun' : (spareLost m c tgt q).inRun (c / 16) = true := (Kz.inRun_of_rgns (spareLost_keeps htgt q).rgns _).trans hrun
  exact (retire_inRun hspare hrun' 2).trans (hsame ▸ retireSpare_keeps (spareLost m c tgt q) c 2)

theorem regs_retireSpare_spareLost : (retireSpare (spareLost m c tgt q) c 2).regs =
    (retirementNoted (spareLost m c tgt q) c (m.chan c).conv.spare).regs :=
  (retireSpare_spareLost htgt q hspare hrun).regs.trans (retirementCleared_keeps hspare (spareLost m c tgt q) c).regs

theorem suspect_retireSpare_spareLost :
    ((retireSpare (spareLost m c tgt q) c 2).chan c).conv.suspect.testBit tgt = false := by
  have hlost : ((spareLost m c tgt q).chan c).conv.suspect.testBit tgt = false := by
    rw [conv_spareLost htgt]
    simp [Conv.unsuspected, testBit_withBit_false]
  refine (retireSpare_spareLost htgt q hspare hrun).clear tgt ?_
  rw [conv_retirementRecorded]
  exact (retirementCleared_keeps hspare (spareLost m c tgt q) c).clear tgt hlost

theorem retired_retireSpare_spareLost :
    ((retireSpare (spareLost m c tgt q) c 2).fld F.CH_SLICE_HEALTH.RETIRED c).testBit (m.chan c).conv.spare = true := by
  have hfield : F.CH_SLICE_HEALTH.RETIRED.lo + (m.chan c).conv.spare ≤ F.CH_SLICE_HEALTH.RETIRED.hi := by
    change 0 + (m.chan c).conv.spare ≤ 8
    omega
  rw [Kz.fld_of_cfg (congrArg Regs.cfg (regs_retireSpare_spareLost htgt q hspare hrun))]
  exact Kz.testBit_fld_setFld (by decide) (spareLost m c tgt q) c _ hfield (testBit_withBit_true_self ..)

theorem lastSlice_retireSpare_spareLost :
    ((retireSpare (spareLost m c tgt q) c 2).chan c).conv.lastSlice = (m.chan c).conv.spare := by
  rw [(retireSpare_spareLost htgt q hspare hrun).slice, conv_retirementRecorded]
  rfl

theorem lastReason_retireSpare_spareLost : ((retireSpare (spareLost m c tgt q) c 2).chan c).conv.lastReason = 2 := by
  rw [(retireSpare_spareLost htgt q hspare hrun).reason, conv_retirementRecorded]
  rfl

/-- R94, R102: DISPUTE_SEEN, bit 6, and RETIRE_SEEN, bit 7. -/
theorem seenWord_retireSpare_spareLost : (retireSpare (spareLost m c tgt q) c 2).seenWord .CH_CONV_STAT c =
    (windowFailed m c q).seenWord .CH_CONV_STAT c ||| 1 <<< 6 ||| 1 <<< 7 := by
  calc
    _ = (retirementNoted (spareLost m c tgt q) c (m.chan c).conv.spare).seenWord .CH_CONV_STAT c :=
      Kz.seenWord_of_regs (regs_retireSpare_spareLost htgt q hspare hrun) ..
    _ = (spareLost m c tgt q).seenWord .CH_CONV_STAT c ||| 1 <<< 7 :=
      Kz.seenWord_mark (spareLost m c tgt q) F.CH_CONV_STAT.RETIRE_SEEN c
    _ = ((windowFailed m c q).mark F.CH_CONV_STAT.DISPUTE_SEEN c).seenWord .CH_CONV_STAT c ||| 1 <<< 7 :=
      congrArg (· ||| 1 <<< 7) (Kz.seenWord_of_regs (spareLost_keeps htgt q).regs ..)
    _ = _ := congrArg (· ||| 1 <<< 7) (Kz.seenWord_mark (windowFailed m c q) F.CH_CONV_STAT.DISPUTE_SEEN c)

theorem seen_dispute_retireSpare_spareLost :
    (retireSpare (spareLost m c tgt q) c 2).seen F.CH_CONV_STAT.DISPUTE_SEEN c = 1 := by
  refine Kz.seen_of_bit rfl (by decide) ((congrArg (Nat.testBit · 6) (seenWord_retireSpare_spareLost htgt q hspare hrun)).trans ?_)
  rw [Nat.testBit_or, Nat.testBit_or, show (1 <<< 6).testBit 6 = true from rfl, Bool.or_true, Bool.true_or]

theorem seen_retire_retireSpare_spareLost :
    (retireSpare (spareLost m c tgt q) c 2).seen F.CH_CONV_STAT.RETIRE_SEEN c = 1 := by
  refine Kz.seen_of_bit rfl (by decide) ((congrArg (Nat.testBit · 7) (seenWord_retireSpare_spareLost htgt q hspare hrun)).trans ?_)
  rw [Nat.testBit_or, show (1 <<< 7).testBit 7 = true from rfl, Bool.or_true]

/-- R97: the retirement is the third fault. -/
theorem counter_retireSpare_spareLost : (retireSpare (spareLost m c tgt q) c 2).counter .RGN_ROT_FAULTS (c / 16) =
    (m.count .RGN_ROT_FAULTS (c / 16) 3).counter .RGN_ROT_FAULTS (c / 16) := by
  have hend : (retireSpare (spareLost m c tgt q) c 2).stats = ((spareLost m c tgt q).count .RGN_ROT_FAULTS (c / 16) 1).stats :=
    (retireSpare_spareLost htgt q hspare hrun).stats.trans (retirementCleared_keeps hspare (spareLost m c tgt q) c).stats
  rw [Kz.counter_of_stats hend, ← Kz.count_count m .RGN_ROT_FAULTS (c / 16) 2 1]
  exact Kz.counter_count_congr (Kz.counter_of_stats (spareLost_stats htgt q) ..) 1

theorem chan_retireSpare_spareLost_ne {y : Nat} (hy : y ≠ c) : (retireSpare (spareLost m c tgt q) c 2).chan y = m.chan y :=
  ((retireSpare_spareLost htgt q hspare hrun).others y hy).trans
    ((retirementRecorded_chan_ne hy hspare (spareLost m c tgt q) 2).trans (spareLost_chan_ne htgt q hy))

end Dispute

end Sys2Proof.Machine

namespace Sys2Proof.Safety
open Machine

/-- A command completes with what its meaning makes of the block `m` at the command's moment. -/
theorem after_at {c : Instr} {s : State} {t : Stamp} {m : Kz} {f : Kz → Kz} {P : Kz → Prop} (hm : s.kz.advance t = m)
    (h : exec c s = s.at_ t f) (hf : P (f m)) : After c s P :=
  after_of_exec h (hm.symm ▸ hf)

/-- Settles O5: each row takes one branch of its meaning, which the lemmas above name; what the branch makes of the channel's converter
is then one change of it. -/
theorem rotationSteps : Obligations.RotationSteps := by
  unfold Obligations.RotationSteps
  intro s t m c hm
  refine ⟨?spareCalibrated, ?spareFailed, ?passCalibrated, ?armed, ?recalibrates, ?checks, ?dispute, ?starved, ?expireArmed, ?expire,
    ?stepNow, ?handover, ?handoverStuck, ?confirmed⟩
  case spareCalibrated =>
    intro sl coef rms hrot hspare hret hsus hstuck hpass hcal
    refine after_at (f := fun m => benchDone m c sl coef rms) hm rfl ?_
    refine (benchDone_spare_passes hret hcal hrot hspare hsus hstuck hpass).trans ?_
    rw [openWindow_eq, calibrated, writeCoef, Kz.modConv_modConv, Kz.modConv_modConv]
    rfl
  case spareFailed =>
    intro sl coef rms hrot hspare hret hfail hcal hleft
    refine after_at (f := fun m => benchDone m c sl coef rms) hm rfl ?_
    refine (benchDone_spare_fails hret hcal hrot hspare hfail hleft).trans ?_
    rw [calBegin, Kz.modConv_modConv]
    rfl
  case passCalibrated =>
    intro sl coef rms hin hrot hdone hret hsus hpass hcal
    refine after_at (f := fun m => benchDone m c sl coef rms) hm rfl ?_
    refine (benchDone_pass_passes hret hcal hin hrot hdone hsus hpass).trans ?_
    rw [calibrated, writeCoef, Kz.modConv_modConv]
  case armed =>
    intro pairs disagree sum q hrot hq hcount hpass hexp htimer
    refine after_at (f := fun m => windowClose m c ⟨pairs, disagree, sum, none⟩) hm rfl ?_
    have hmode : ((windowClosed m c 1 q).chan c).conv.effMode = (m.chan c).conv.effMode := by
      rw [conv_windowClosed]
      rfl
    refine (windowClose_passes hq hcount hrot hpass hexp htimer).trans ?_
    rw [armHandover_modConv m (n := windowClosed m c 1 q) rfl hmode, windowClosed_modConv]
    rfl
  case recalibrates =>
    intro pairs disagree sum q hrot hq hcount hfail hrecal
    refine after_at (f := fun m => windowClose m c ⟨pairs, disagree, sum, none⟩) hm rfl ?_
    refine (windowClose_fails hq hcount hrot hfail hrecal).trans ?_
    rw [calBegin, Kz.modConv_modConv, windowFailed_modConv]
    rfl
  case checks =>
    intro pairs disagree sum q tgt hrot hq hcount hfail hrecal htgt hlt hn
    refine after_at (f := fun m => windowClose m c ⟨pairs, disagree, sum, none⟩) hm rfl ?_
    refine (windowClose_fails_again hq hcount hrot hfail hrecal hn).trans ?_
    rw [← htgt, openWindow_setSuspect hlt, windowFailed_modConv, Kz.openSpan_eq, Kz.openSpan_eq m]
    rfl
  case dispute =>
    intro pairs disagree sum q tgt hrot hq hcount hfail htgt hlt hspare hrun
    refine after_at (f := fun m => windowClose m c ⟨pairs, disagree, sum, none⟩) hm rfl ?_
    rw [windowClose_check_fails hq hcount hrot hfail, ← htgt]
    exact ⟨suspect_retireSpare_spareLost hlt q hspare hrun, retired_retireSpare_spareLost hlt q hspare hrun,
      lastSlice_retireSpare_spareLost hlt q hspare hrun, lastReason_retireSpare_spareLost hlt q hspare hrun,
      seen_dispute_retireSpare_spareLost hlt q hspare hrun, seen_retire_retireSpare_spareLost hlt q hspare hrun,
      counter_retireSpare_spareLost hlt q hspare hrun, fun _ _ hy => chan_retireSpare_spareLost_ne hlt q hspare hrun hy⟩
  case starved =>
    intro hrot hlate
    refine after_at (f := fun m => windowStarved m c) hm rfl ?_
    refine (windowStarved_late hrot hlate).trans ?_
    rw [windowClosed_modConv]
    rfl
  case expireArmed =>
    intro f hf hlate hexp hrot hpass
    refine after_at (f := fun m => stepTimerExpire m c) hm rfl ?_
    simp only [stepTimerExpire, hf, if_pos hlate]
    exact timerExpire_passed (by simp [hf]) hexp hrot hpass
  case expire =>
    intro f hf hlate hexp hwait
    refine after_at (f := fun m => stepTimerExpire m c) hm rfl ?_
    simp only [stepTimerExpire, hf, if_pos hlate]
    exact timerExpire_waiting (by simp [hf]) hexp hwait
  case stepNow =>
    intro p v hacc hnow hmode htimer hexp hrot hpass
    refine after_at (f := fun m => pairWrite m p.val .CH_CONV_CTRL c.val v) hm rfl ?_
    have heffect : regEffect (storeReg m .CH_CONV_CTRL c v) .CH_CONV_CTRL c (m.cfgWord .CH_CONV_CTRL c) v =
        (storeReg m .CH_CONV_CTRL c v).modConv c fun x =>
          { x with expired := true, rot := .armed, phase := x.target, boundary := boundaryAfter m c } :=
      (regEffect_stepNow hmode hnow).trans (timerExpire_passed htimer hexp hrot hpass)
    refine (pairWrite_accepts hacc (place_CH_CONV_CTRL c) (by decide) (by decide) (by rw [heffect]; rfl)).trans ?_
    rw [heffect]
  case handover =>
    intro hrot hdue hstuck hret
    refine after_at (f := fun m => handover m c) hm rfl ?_
    obtain ⟨spans, hspans⟩ := handedOver_eq hret
    have hend := (handover_confirms hret hrot hdue hstuck).trans hspans
    dsimp only
    rw [hend, ← hstuck]
    rfl
  case handoverStuck =>
    intro x r hrot hdue hstuck hret
    refine after_at (f := fun m => handover m c) hm rfl ?_
    obtain ⟨spans, hspans⟩ := handedOver_modConv hret fun v =>
      { v with rot := .emergArmed, target := x, phase := x, boundary := nextBoundary m c }
    have hend := (handover_relieves_stuck hret hrot hdue hstuck).trans hspans
    dsimp only
    rw [hend, ← hstuck]
    rfl
  case confirmed =>
    intro disagree hrot hrev hlimit hconfirm hen hret
    refine after_at (f := fun m => confirmDone m c disagree) hm rfl ?_
    refine (confirmDone_nextStep hrot hrev hlimit hconfirm hen hret).trans ?_
    rw [startStep, calBegin, Kz.modConv_modConv]
    simp only [if_true, Kz.on_modConv, hen]
    rfl

end Sys2Proof.Safety
end

section
/-! SUPPORT. The family 04_time_base.md: what the synthesiser's, the oven's and the timing inputs' events make of the time base (R113,
R124 to R129, R387 to R390), and a change of the timing mode that ends an open measurement (R122, R435, R439). -/
namespace Sys2Proof.Machine
open Safety

/-! ### Intervals, log entries and the lock rate -/

/-- What ends with the intervals brought to the conditions that hold is as it was before but for the intervals (R130 to R132). -/
theorem eq_of_timeFlags {n x : Kz} (h : n = timeFlags x) : n = { x with spans := n.spans } :=
  h ▸ timeFlags_eq x

theorem lockRate_eq (m : Kz) :
    lockRate m = { m with tb := { m.tb with lockHz := if sampleHz m = 0 then m.tb.lockHz else sampleHz m } } := by
  unfold lockRate
  split <;> rfl

/-! ### The synthesiser -/

variable {m : Kz}

theorem synSwitchLocked_of_switching (h : m.tb.tb = .switching) :
    synSwitchLocked m = timeFlags { m with
      tb := { m.tb with tb := .tracking, synLocked := true, lockHz := if sampleHz m = 0 then m.tb.lockHz else sampleHz m } } := by
  rw [synSwitchLocked, if_pos h, lockRate_eq]
  rfl

/-- R124: a reference lost in TRACKING begins a holdover at the present tick. -/
theorem tbLost_of_tracking (h : m.tb.tb = .tracking) :
    tbLost m = timeFlags { m with
      tb := { m.tb with tb := .holdover, holdStart := m.now.tick, holdPhase := 0 }
      regs := (m.mark F.TIM_STAT.REF_LOST_SEEN 0).regs
      log := (m.logE 0x0202 0 0 0 ((m.stampOf m.inst).1 / 1024) 0).log } := by
  simp only [tbLost, h, if_true]
  rfl

theorem refLost_of_tracking {hz : Nat} (hmode : tmode m = 2) (htb : m.tb.tb = .tracking)
    (hfar : hz = 0 ∨ m.tb.entryHz < (max hz m.tb.entryHz - min hz m.tb.entryHz) * 10000) :
    refLost m hz = timeFlags { m with
      tb := { m.tb with refHz := hz, tb := .holdover, holdStart := m.now.tick, holdPhase := 0 }
      regs := (m.mark F.TIM_STAT.REF_LOST_SEEN 0).regs
      log := (m.logE 0x0202 0 0 0 ((m.stampOf m.inst).1 / 1024) 0).log } := by
  have hlost : (hz = 0 || decide (m.tb.entryHz < (max hz m.tb.entryHz - min hz m.tb.entryHz) * 10000)) = true := by simpa using hfar
  rw [refLost, if_pos hmode]
  exact (if_pos hlost).trans (tbLost_of_tracking htb)

theorem refReturn_of_inRange {hz : Nat} {phase : Int} (htb : m.tb.tb = .holdover) (hmode : tmode m = 2)
    (hin : refInRange { m with tb := { m.tb with refHz := hz } } hz = true) :
    refReturn m hz phase = timeFlags { m with
      tb := { m.tb with
        refHz := hz, tb := .relock, holdPhase := max m.tb.holdPhase phase.natAbs, relockErr := phase, relockAt := m.now.ns } } := by
  have hkept : ¬((m.tb.tb ≠ .holdover || (tmode m == 1 && mclkLost m)) = true) := by simp [htb, hmode]
  rw [refReturn, if_pos hmode]
  exact (if_neg hkept).trans (if_pos hin)

theorem relockDone_of_slewed {since : Nat} (htb : m.tb.tb = .relock) (hslew : slewEnd m ≤ since) (hsince : since + 1000000 ≤ m.now.ns) :
    relockDone m since = timeFlags { m with
      tb := { m.tb with
        tb := .tracking, lockHz := if sampleHz m = 0 then m.tb.lockHz else sampleHz m
        xingVirtual := if tmode m = 1 && !mclkLost m then false else m.tb.xingVirtual }
      log := (m.logE 0x0202 0 0 0 ((m.stampOf (m.tb.holdStart * 1024)).1 / 1024) m.tb.holdPhase).log } := by
  simp only [relockDone, htb, hslew, hsince, decide_true, Bool.and_self, if_true, lockRate_eq]
  rfl

theorem synUnlock_of_locked (htb : m.tb.tb ≠ .switching) (hlock : m.tb.synLocked = true) :
    synUnlock m = timeFlags { m with
      tb := { m.tb with synLocked := false }
      regs := (m.mark F.TIM_STAT.SYN_UNLOCK_SEEN 0).regs
      log := (m.logE 0x0202 0 0 0 0 0).log } := by
  simp only [synUnlock, htb, hlock, ne_eq, not_false_eq_true, decide_true, Bool.and_self, if_true]
  rfl

theorem synRegained_of_switched (htb : m.tb.tb ≠ .switching) :
    synRegained m = timeFlags { m with tb := { m.tb with synLocked := true } } :=
  if_pos htb

/-! ### The crossing phase after the machine clock's return (R129) -/

theorem xingSlewDone_of_near (hvirt : m.tb.xingVirtual = true) (hclk : mclkLost m = false) {e : Int} (hmode : tmode m ≠ 1)
    (he : m.tl.slewErr = some e) (hnear : e.natAbs ≤ 256) :
    xingSlewDone m = timeFlags { m with tb := { m.tb with xingVirtual := false } } := by
  simp only [xingSlewDone, hvirt, hclk, hmode, he, hnear, if_false, decide_true, Bool.not_false, Bool.and_self, if_true]
  rfl

theorem xingSlewDone_of_relocked (hvirt : m.tb.xingVirtual = true) (hclk : mclkLost m = false) (hmode : tmode m = 1)
    (htb : m.tb.tb = .relock) (hslew : slewEnd m ≤ m.now.ns) :
    xingSlewDone m = timeFlags { m with tb := { m.tb with xingVirtual := false } } := by
  have hnear : (m.tb.xingVirtual && !mclkLost m && (m.tb.tb = .relock && decide (slewEnd m ≤ m.now.ns) : Bool)) = true := by
    simp [hvirt, hclk, htb, hslew]
  simp only [xingSlewDone, hmode, if_true]
  exact if_pos hnear

/-! ### The oven (R113) -/

/-- What ends with the intervals and an entry that shows TIM_STAT is as it was before but for these (R113, R130, R645). -/
theorem eq_of_timeFlags_logE {n x : Kz} (h : n = (timeFlags x).logE 0x0201 0 0 0 0 (timStat (timeFlags x))) :
    n = { x with log := (x.logE 0x0201 0 0 0 0 (timStat n)).log, spans := n.spans } := by
  rw [timeFlags_eq] at h
  subst h
  rfl

theorem ovenWarm_of_near {mw : Nat} {err : Int} (hoven : m.tb.oven ≠ .warm) (herr : err.natAbs ≤ 10) :
    ovenWarm m mw err = timeFlags { m with
      tb := { m.tb with heaterMw := mw, tempErr := satS 12 err, oven := .warm, warmAt := m.now.ns } } := by
  have hwarm : (m.tb.oven ≠ .warm && decide (err.natAbs ≤ 10)) = true := by simp [hoven, herr]
  exact if_pos hwarm

/-- The block with the oven's figures as TIM_OVEN shows them and the oven in state `o`. -/
def Kz.ovenAt (m : Kz) (mw : Nat) (err : Int) (o : OvenState) : Kz :=
  m.modTb fun b => { b with heaterMw := mw, tempErr := satS 12 err, oven := o }

theorem ovenUnreg_of_hot {err : Int} (hoven : m.tb.oven = .warm) (herr : 10 < err) {x : Kz}
    (hx : x = { m.ovenAt 0 err .unreg with
      regs := (m.mark F.TIM_STAT.UNREG_SEEN 0).regs
      age := { m.age with unreg := m.age.unreg + 1, unregAt := m.now.ns :: m.age.unregAt } }) :
    ovenUnreg m 0 err = (timeFlags x).logE 0x0201 0 0 0 0 (timStat (timeFlags x)) := by
  have hunreg : (m.tb.oven = .warm && (0 : Nat) == 0 && decide (10 < err)) = true := by simp [hoven, herr]
  subst hx
  exact if_pos hunreg

theorem ovenBandLeft_of_far {mw : Nat} {err : Int} (hoven : m.tb.oven = .warm) (herr : 10 < err.natAbs) {x : Kz}
    (hx : x = m.ovenAt mw err .warming) :
    ovenBandLeft m mw err = (timeFlags x).logE 0x0201 0 0 0 0 (timStat (timeFlags x)) := by
  have hleft : (m.tb.oven = .warm && decide (10 < err.natAbs)) = true := by simp [hoven, herr]
  subst hx
  exact if_pos hleft

theorem heaterFault_of_far {mw : Nat} {err : Int} (hoven : m.tb.oven = .warming) (herr : 100 < err.natAbs) {x : Kz}
    (hx : x = { m with
      tb := { m.tb with heaterMw := mw, tempErr := satS 12 err, heaterFault := true }
      regs := (m.mark F.TIM_STAT.HEATER_FAULT_SEEN 0).regs }) :
    heaterFault m mw err = x.logE 0x0201 0 0 0 0 (timStat x) := by
  have hfault : (m.tb.oven = .warming && decide (100 < err.natAbs)) = true := by simp [hoven, herr]
  subst hx
  exact if_pos hfault

/-! ### The timing inputs (R388, R389) -/

theorem setTin_eq (m : Kz) (i : Nat) (x : Tin) : setTin m i x = { m with
    tl := { m.tl with tin0 := if i = 0 then x else m.tl.tin0, tin1 := if i = 0 then m.tl.tin1 else x } } := by
  by_cases h : i = 0 <;> simp [setTin, Kz.modTl, h]

theorem tin_setTin_same (m : Kz) (i : Nat) (x : Tin) : tin (setTin m i x) i = x := by
  rw [setTin_eq]
  unfold tin
  split <;> rfl

/-- A timing input other than the one set is as it was. -/
theorem tin_setTin_other {i : Nat} (hi : i < 2) (m : Kz) (x : Tin) : tin (setTin m i x) (1 - i) = tin m (1 - i) := by
  rw [setTin_eq]
  obtain rfl | rfl : i = 0 ∨ i = 1 := by omega
  · rfl
  · rfl

/-- R389: the machine clock is there as long as one of the inputs is LOCKED. -/
theorem mclkLost_eq {i : Nat} (hi : i < 2) (m : Kz) :
    mclkLost m = !(decide ((tin m i).state = .locked) || decide ((tin m (1 - i)).state = .locked)) := by
  obtain rfl | rfl : i = 0 ∨ i = 1 := by omega
  · rfl
  · exact congrArg not (Bool.or_comm ..)

theorem tinDetect_of_down {i : Nat} (hdown : (tin m i).state = .down) (hen : tinEnabled m i = true) (hpg : m.pwr.pg = true) :
    tinDetect m i = setTin m i ⟨.hunt, m.now.ns⟩ := by
  simp [tinDetect, hdown, hen, hpg]

theorem tinLock_of_present {i : Nat} (hhunt : (tin m i).state = .hunt) (hclk : mclkLost m = false) :
    tinLock m i = setTin m i ⟨.locked, m.now.ns⟩ := by
  simp [tinLock, hhunt, hclk]

theorem tinLock_of_lost {i : Nat} (hhunt : (tin m i).state = .hunt) (hclk : mclkLost m = true) :
    tinLock m i = (setTin m i ⟨.locked, m.now.ns⟩).modTl fun l => { l with active := i, ref := none, offset := 0 } := by
  simp [tinLock, hhunt, hclk]

/-- An entry of the timing lanes' events for reason `r` in the past 1 ms keeps another from being made (R395). -/
def loggedLately (m : Kz) (r : Nat) : Bool := m.tl.logged.any fun p => p.1 = r && decide (m.now.ns < p.2 + 1000000)

/-- The event log once reason `r` has had its entry, which is made at most once in each 1 ms (R395). -/
def Kz.logOnce (m : Kz) (r code value : Nat) : EventLog := (if loggedLately m r = true then m else m.logE code 0 0 0 0 value).log

/-- Two blocks with the same log, reasons logged, moment and epoch make the same entry. -/
theorem Kz.logOnce_congr {m n : Kz} (hlogged : n.tl.logged = m.tl.logged) (hlog : n.log = m.log) (hnow : n.now = m.now)
    (horigin : n.tb.origin = m.tb.origin) (hseq : n.tb.epochSeq = m.tb.epochSeq) (r code value : Nat) :
    n.logOnce r code value = m.logOnce r code value := by
  have hlately : loggedLately n r = loggedLately m r := by simp only [loggedLately, hlogged, hnow]
  rw [Kz.logOnce, Kz.logOnce, hlately]
  split
  · exact hlog
  · simp only [Kz.logE, Kz.logAt, Kz.logEntry, Kz.datum, hlog, hnow, horigin, hseq]
    rfl

/-- R394, R395: a reason answered with WARN, and its entry. -/
theorem warnLog_eq {m : Kz} {r code value : Nat} {log : EventLog} (h : m.logOnce r code value = log) :
    ∃ logged, warnLog m r code value = { m with
      tl := { m.tl with warnsNew := m.tl.warnsNew ++ [r], logged := logged }, log := log } := by
  subst h
  unfold warnLog Kz.logOnce
  dsimp only
  by_cases h : loggedLately m r = true
  · exact ⟨m.tl.logged, by rw [if_pos h]; exact if_pos h⟩
  · exact ⟨_, by rw [if_neg h]; exact if_neg h⟩

/-- R125, R129: another machine clock touches the time base, the intervals and the error of the crossing phase, and no epoch. -/
theorem clockReturns_eq (m : Kz) : ∃ tb spans fresh slewErr, clockReturns m = { m with
    tb := tb, spans := spans, fresh := fresh, tl := { m.tl with slewErr := slewErr } } ∧ tb.origin = m.tb.origin ∧
    tb.epochSeq = m.tb.epochSeq := by
  unfold clockReturns
  split
  · split
    · dsimp only
      split
      · rw [relockBegin, timeFlags_eq]
        exact ⟨_, _, _, _, rfl, rfl, rfl⟩
      · rw [relockBegin, timeFlags_eq]
        exact ⟨_, _, _, _, rfl, rfl, rfl⟩
    · exact ⟨_, _, _, _, rfl, rfl, rfl⟩
  · split
    · exact ⟨_, _, _, _, rfl, rfl, rfl⟩
    · rw [timeFlags_eq]
      exact ⟨_, _, _, _, rfl, rfl, rfl⟩

/-- How far the active input's edges lie after the crossing edges once input `i` has become active (R390). -/
def switchedOffset (m : Kz) (i : Nat) : Int :=
  if skewOk m = true then (if i = 0 then m.tl.offset - m.tl.skew else m.tl.offset + m.tl.skew) else 0

/-- The step in phase of a failover or revert is the skew, or that of another machine clock (R125, R129, R390). -/
theorem phaseStep_eq (m : Kz) (i : Nat) : ∃ tb spans fresh slewErr,
    (if skewOk m = true then m.modTl (fun l => { l with offset := if i = 0 then l.offset - l.skew else l.offset + l.skew })
      else (clockReturns m).modTl (fun l => { l with offset := 0 })) = { m with
        tb := tb, spans := spans, fresh := fresh, tl := { m.tl with slewErr := slewErr, offset := switchedOffset m i } } ∧
    tb.origin = m.tb.origin ∧ tb.epochSeq = m.tb.epochSeq := by
  by_cases h : skewOk m = true
  · rw [if_pos h, switchedOffset, if_pos h]
    exact ⟨m.tb, m.spans, m.fresh, m.tl.slewErr, rfl, rfl, rfl⟩
  · obtain ⟨tb, spans, fresh, slewErr, hreturns, hepoch⟩ := clockReturns_eq m
    rw [if_neg h, switchedOffset, if_neg h, hreturns]
    exact ⟨tb, spans, fresh, slewErr, rfl, hepoch⟩

/-- R389, R390, R395: input `i` becomes active by a failover or revert. -/
theorem switchInput_eq (m : Kz) (i : Nat) : ∃ tb spans fresh slewErr logged, switchInput m i = { m with
    tb := tb, spans := spans, fresh := fresh, regs := (m.mark F.TIM_TL_STAT.FAILOVER_SEEN 0).regs
    log := m.logOnce 9 0x0303 i
    tl := { m.tl with
      active := i, offset := switchedOffset m i, warnsNew := m.tl.warnsNew ++ [9], slewErr := slewErr, logged := logged } } := by
  obtain ⟨tb, spans, fresh, slewErr, hstep, horigin, hseq⟩ := phaseStep_eq m i
  let x : Kz := { m with
    tb := tb, spans := spans, fresh := fresh, regs := (m.mark F.TIM_TL_STAT.FAILOVER_SEEN 0).regs
    tl := { m.tl with slewErr := slewErr, offset := switchedOffset m i, active := i } }
  obtain ⟨logged, hwarn⟩ := warnLog_eq (Kz.logOnce_congr (m := m) (n := x) rfl rfl rfl horigin hseq 9 0x0303 i)
  exact ⟨tb, spans, fresh, slewErr, logged, (congrArg (fun y : Kz =>
    warnLog ((y.modTl fun l => { l with active := i }).mark F.TIM_TL_STAT.FAILOVER_SEEN 0) 9 0x0303 i) hstep).trans hwarn⟩

/-- The block once input `i` has left LOCKED for state `st`, before what follows for the machine clock (R388). -/
def inputLeft (m : Kz) (i : Nat) (st : TinState) : Kz :=
  ((setTin m i ⟨st, m.now.ns⟩).mark F.TIM_TL_STAT.LOCK_LOST_SEEN 0).logE 0x0302 0 0 0 0 i

theorem inputLeft_eq (m : Kz) (i : Nat) (st : TinState) : inputLeft m i st = { m with
    tl := (setTin m i ⟨st, m.now.ns⟩).tl, regs := (m.mark F.TIM_TL_STAT.LOCK_LOST_SEEN 0).regs
    log := (m.logE 0x0302 0 0 0 0 i).log } := rfl

theorem mclkLost_inputLeft {i : Nat} (hi : i < 2) {st : TinState} (hst : st ≠ .locked) (m : Kz) :
    mclkLost (inputLeft m i st) = !decide ((tin m (1 - i)).state = .locked) := by
  have hthis : tin (inputLeft m i st) i = ⟨st, m.now.ns⟩ := tin_setTin_same ..
  have hother : tin (inputLeft m i st) (1 - i) = tin m (1 - i) := tin_setTin_other hi ..
  simp [mclkLost_eq hi, hthis, hother, hst]

/-- R390: whether the skew counts does not depend on the state of the inputs while one of them is LOCKED. -/
theorem skewOk_inputLeft {i : Nat} {st : TinState} (h : mclkLost (inputLeft m i st) = mclkLost m) :
    skewOk (inputLeft m i st) = skewOk m := by
  have hfreq : mclkFreq (inputLeft m i st) = mclkFreq m := by
    rw [mclkFreq, h]
    rfl
  have hrate : sampleHz (inputLeft m i st) = sampleHz m := by
    rw [sampleHz, hfreq]
    rfl
  rw [skewOk, hrate, inputLeft_eq, setTin_eq]
  rfl

/-- R389, R390: the active input leaves LOCKED while the other is LOCKED, which takes over. -/
theorem tinLeaves_of_other_locked {i : Nat} (hi : i < 2) {st : TinState} (hlocked : (tin m i).state = .locked)
    (hactive : m.tl.active = i) (hother : (tin m (1 - i)).state = .locked) : 
    tinLeaves m i st = switchInput (inputLeft m i st) (1 - i) := by
  have hactive' : (inputLeft m i st).tl.active = i := by
    rw [inputLeft_eq, setTin_eq]
    exact hactive
  have hother' : (tin (inputLeft m i st) (1 - i)).state = .locked := (congrArg Tin.state (tin_setTin_other hi ..)).trans hother
  have htakes : ((inputLeft m i st).tl.active = i && decide ((tin (inputLeft m i st) (1 - i)).state = .locked)) = true := by
    simp only [hactive', hother', decide_true, Bool.and_self]
  exact (if_pos hlocked).trans (if_pos htakes)

/-- R124: what the loss of the synthesiser's own reference touches; from TRACKING it ends in HOLDOVER. -/
theorem tbLost_eq (m : Kz) : ∃ tb spans regs log, tbLost m = { m with tb := tb, spans := spans, regs := regs, log := log } ∧
    tb.mclkHz = m.tb.mclkHz ∧ tb.xingVirtual = m.tb.xingVirtual ∧ (m.tb.tb = .tracking → tb.tb = .holdover) := by
  unfold tbLost
  split
  · dsimp only
    rw [timeFlags_eq]
    exact ⟨_, _, _, _, rfl, rfl, rfl, fun _ => rfl⟩
  · next h => exact ⟨m.tb, m.spans, m.regs, m.log, rfl, rfl, rfl, fun htb => absurd (by simp [htb]) h⟩

/-- R128: once there have been edges, they go on as virtual ones. -/
theorem virtualBegins_eq (m : Kz) : ∃ tb spans,
    (if m.tl.edges.isEmpty then m else timeFlags (m.modTb fun b => { b with xingVirtual := true })) =
      { m with tb := tb, spans := spans } ∧
    tb.mclkHz = m.tb.mclkHz ∧ tb.tb = m.tb.tb ∧ (m.tl.edges ≠ [] → tb.xingVirtual = true) := by
  split
  · next h => exact ⟨m.tb, m.spans, rfl, rfl, rfl, fun hne => absurd (List.isEmpty_iff.1 h) hne⟩
  · rw [timeFlags_eq]
    exact ⟨_, _, rfl, rfl, rfl, fun _ => rfl⟩

/-- R124, R128, R389: the last LOCKED input leaves LOCKED, and with it the machine clock is lost. -/
theorem tinLeaves_of_last {i : Nat} (hi : i < 2) {st : TinState} (hst : st ≠ .locked) (hlocked : (tin m i).state = .locked)
    (hother : (tin m (1 - i)).state ≠ .locked) : ∃ tb spans regs log, tinLeaves m i st = { m with
      tl := (setTin m i ⟨st, m.now.ns⟩).tl, tb := tb, spans := spans, regs := regs, log := log } ∧
    tb.mclkHz = 0 ∧ (m.tl.edges ≠ [] → tb.xingVirtual = true) ∧ (tmode m = 1 → m.tb.tb = .tracking → tb.tb = .holdover) := by
  have hother' : (tin (inputLeft m i st) (1 - i)).state ≠ .locked :=
    fun h => hother ((congrArg Tin.state (tin_setTin_other hi ..)).symm.trans h)
  have hlost : mclkLost (inputLeft m i st) = true := by simp [mclkLost_inputLeft hi hst, hother]
  have hstays : ¬((inputLeft m i st).tl.active = i && decide ((tin (inputLeft m i st) (1 - i)).state = .locked)) = true := by
    simp only [hother', decide_false, Bool.and_false, Bool.false_eq_true, not_false_eq_true]
  have hedges : (setTin m i ⟨st, m.now.ns⟩).tl.edges = m.tl.edges := by rw [setTin_eq]
  obtain ⟨tb, spans, hvirt, hhz, htb, hx⟩ := virtualBegins_eq ((inputLeft m i st).modTb fun b => { b with mclkHz := 0 })
  have hleaves : tinLeaves m i st = if tmode m = 1 then tbLost { inputLeft m i st with tb := tb, spans := spans }
      else { inputLeft m i st with tb := tb, spans := spans } :=
    ((if_pos hlocked).trans (if_neg hstays)).trans
      ((if_pos hlost).trans (congrArg (fun x : Kz => if tmode x = 1 then tbLost x else x) hvirt))
  have hx' : m.tl.edges ≠ [] → tb.xingVirtual = true := fun h => hx (hedges.symm ▸ h)
  rw [hleaves]
  split
  · obtain ⟨tb', spans', regs, log, h, hhz', hx'', htb'⟩ := tbLost_eq { inputLeft m i st with tb := tb, spans := spans }
    rw [h]
    exact ⟨tb', spans', regs, log, rfl, hhz'.trans hhz, fun hne => hx''.trans (hx' hne), fun _ ht => htb' (htb.trans ht)⟩
  · next hmode => exact ⟨tb, spans, _, _, rfl, hhz, hx', fun h => absurd h hmode⟩

/-- R124, R388, R389: the active input leaves LOCKED while the other is LOCKED. -/
theorem tinLeaves_fails_over {i : Nat} (hi : i < 2) {st : TinState} (hst : st ≠ .locked) (hlocked : (tin m i).state = .locked)
    (hactive : m.tl.active = i) (hother : (tin m (1 - i)).state = .locked) : ∃ tb spans fresh slewErr logged,
    tinLeaves m i st = { m with
      tb := tb, spans := spans, fresh := fresh
      regs := ((m.mark F.TIM_TL_STAT.LOCK_LOST_SEEN 0).mark F.TIM_TL_STAT.FAILOVER_SEEN 0).regs
      log := (m.logE 0x0302 0 0 0 0 i).logOnce 9 0x0303 (1 - i)
      tl := { (setTin m i ⟨st, m.now.ns⟩).tl with
        active := 1 - i, offset := switchedOffset m (1 - i), warnsNew := m.tl.warnsNew ++ [9], slewErr := slewErr
        logged := logged } } := by
  obtain ⟨tb, spans, fresh, slewErr, logged, hswitch⟩ := switchInput_eq (inputLeft m i st) (1 - i)
  have hclk : mclkLost (inputLeft m i st) = mclkLost m := by
    rw [mclkLost_inputLeft hi hst, mclkLost_eq hi, hother, hlocked]
    rfl
  have hoffset : switchedOffset (inputLeft m i st) (1 - i) = switchedOffset m (1 - i) := by
    rw [switchedOffset, skewOk_inputLeft hclk, inputLeft_eq, setTin_eq]
    rfl
  have hlogged : (inputLeft m i st).tl.logged = m.tl.logged := by rw [inputLeft_eq, setTin_eq]
  have hlog : (inputLeft m i st).logOnce 9 0x0303 (1 - i) = (m.logE 0x0302 0 0 0 0 i).logOnce 9 0x0303 (1 - i) :=
    Kz.logOnce_congr (n := inputLeft m i st) (m := m.logE 0x0302 0 0 0 0 i) hlogged rfl rfl rfl rfl 9 0x0303 (1 - i)
  have hwarns : (inputLeft m i st).tl.warnsNew = m.tl.warnsNew := by rw [inputLeft_eq, setTin_eq]
  rw [hoffset, hlog, hwarns] at hswitch
  exact ⟨tb, spans, fresh, slewErr, logged, (tinLeaves_of_other_locked hi hlocked hactive hother).trans hswitch⟩

theorem tinRevert_of_due (hrevert : m.on F.TIM_TL_CFG.REVERT 0 = true) (hactive : m.tl.active = 1)
    (hlocked : m.tl.tin0.state = .locked) (hsince : m.tl.tin0.since + 1000000000 ≤ m.now.ns) : tinRevert m = switchInput m 0 := by
  simp only [tinRevert, hrevert, hactive, hlocked, hsince, decide_true, Bool.and_self, if_true]

/-! ### A change of the timing mode -/

/-- The block without its channels. -/
def Kz.sansChans (m : Kz) : Kz := { m with chans := [] }

theorem sansChans_allCalDue (m : Kz) : (allCalDue m).sansChans = m.sansChans := by
  have hstep : ∀ (m : Kz) (c : Nat), (m.modConv c fun v => { v with calDue := true }).sansChans = m.sansChans := fun _ _ => rfl
  rw [allCalDue, allChans_same Kz.sansChans hstep]

theorem Kz.eq_of_sansChans {m n : Kz} (h : n.sansChans = m.sansChans) : n = { m with chans := n.chans } :=
  congrArg (fun y : Kz => { y with chans := n.chans }) h

theorem allCalDue_eq (m : Kz) : allCalDue m = { m with chans := (allCalDue m).chans } :=
  Kz.eq_of_sansChans (sansChans_allCalDue m)

/-- R122: what an accepted write to TIM_MODE makes of the time base, the crossing phase's grid, the channels and the intervals. -/
theorem modeWritten_eq (m : Kz) (o w : Word) : ∃ tb tl chans spans,
    modeWritten m o w = { m with tb := tb, tl := tl, chans := chans, spans := spans } := by
  unfold modeWritten
  split
  · dsimp only
    rw [timeFlags_eq, allCalDue_eq]
    exact ⟨_, _, _, _, rfl⟩
  · exact ⟨m.tb, m.tl, m.chans, m.spans, rfl⟩

theorem tiuCtx_aborted_of_ne {b c : Nat} (hb : b ≠ c) (m : Kz) :
    tiuCtx (modCtx (tiuResult m c 3 0) c fun x => { x with state := .idle }) b = tiuCtx m b := by
  simp only [tiuCtx, modCtx, modTiu, tiuResult, Kz.mark_tiu]
  rw [Sparse.get_mod_ne _ _ _ _ _ hb, Sparse.get_mod_ne _ _ _ _ _ hb]

/-- R435: where one context has a measurement open, a change of the timing mode ends that one as ABORTED. -/
theorem tiuAbort_of_one_open {m : Kz} {c : Nat} (hc : c < 32) (hopen : (tiuCtx m c).state = .open_)
    (hothers : ∀ b : Nat, b ≠ c → (tiuCtx m b).state ≠ .open_) :
    tiuAbort m = modCtx (tiuResult m c 3 0) c fun x => { x with state := .idle } :=
  foldl_once (mem_upTo.2 hc) List.nodup_range (fun b _ hb => if_neg (hothers b hb)) (if_pos hopen)
    fun b _ hb => if_neg (tiuCtx_aborted_of_ne hb m ▸ hothers b hb)

/-- R122, R435, R439: an accepted mode change while one context has a measurement open writes that context's result, which sets NEW. -/
theorem regs_pairWrite_modeChange {m : Kz} {f : TimeBase → TimeBase} {p c : Nat} {v : Word} (h : Accepts (m.modTb f) p .TIM_MODE 0 v)
    (hchange : modeChange (m.cfgWord .TIM_MODE 0) v = true) (hc : c < 32) (hopen : (tiuCtx m c).state = .open_)
    (hothers : ∀ b : Nat, b ≠ c → (tiuCtx m b).state ≠ .open_) :
    (pairWrite (m.modTb f) p .TIM_MODE 0 v).regs = ((storeReg m .TIM_MODE 0 v).mark F.TIM_TIU_STAT.NEW c).regs := by
  obtain ⟨tb, tl, chans, spans, hx⟩ := modeWritten_eq (storeReg (m.modTb f) .TIM_MODE 0 v) (m.cfgWord .TIM_MODE 0) v
  have heffect : regEffect (storeReg (m.modTb f) .TIM_MODE 0 v) .TIM_MODE 0 (m.cfgWord .TIM_MODE 0) v =
      modCtx (tiuResult { storeReg (m.modTb f) .TIM_MODE 0 v with tb := tb, tl := tl, chans := chans, spans := spans } c 3 0) c
        fun y => { y with state := .idle } := by
    simp only [regEffect, hchange, hx, if_true]
    exact tiuAbort_of_one_open hc hopen hothers
  rw [pairWrite_accepts h place_TIM_MODE (by decide) (by decide) (by rw [Kz.cfgWord_modTb, heffect]; rfl), Kz.cfgWord_modTb, heffect]
  rfl

end Sys2Proof.Machine

namespace Sys2Proof.Safety
open Machine

/-- Settles O1: each row takes one branch of its meaning, which the lemmas above name; a branch that ends with the intervals of R130 to
R132 changes nothing else after what it names, and an input that leaves LOCKED either hands over to the other one or takes the machine
clock with it. What a slew leaves, the values of entry 0x0202 and the phase step of another clock are the model's choices (log entries
39 and 108). -/
theorem synthesiserOvenAndTimingInputs : Obligations.SynthesiserOvenAndTimingInputs := by
  unfold Obligations.SynthesiserOvenAndTimingInputs
  intro s t m hm
  refine ⟨?switchLocked, ?refLost, ?refReturn, ?relockDone, ?relockDoneMachine, ?slewDone, ?slewDoneMachine, ?unlock, ?lockRegained,
    ?warm, ?unreg, ?bandLeft, ?heater, ?detect, ?lock, ?lockFirst, ?lockLost, ?signalLost, ?revert⟩
  case switchLocked =>
    intro h
    exact after_at (f := synSwitchLocked) hm rfl (eq_of_timeFlags (synSwitchLocked_of_switching h))
  case refLost =>
    intro hz hmode htb hfar
    exact after_at (f := fun m => refLost m hz) hm rfl (eq_of_timeFlags (refLost_of_tracking hmode htb hfar))
  case refReturn =>
    intro hz phase htb hmode hin
    exact after_at (f := fun m => refReturn m hz phase) hm rfl (eq_of_timeFlags (refReturn_of_inRange htb hmode hin))
  case relockDone =>
    intro since htb hslew hsince hmode
    have hdone := relockDone_of_slewed htb hslew hsince
    rw [if_neg (by simp [hmode])] at hdone
    exact after_at (f := fun m => relockDone m since) hm rfl (eq_of_timeFlags hdone)
  case relockDoneMachine =>
    intro since htb hslew hsince hmode hclk
    have hdone := relockDone_of_slewed htb hslew hsince
    rw [if_pos (by simp [hmode, hclk])] at hdone
    exact after_at (f := fun m => relockDone m since) hm rfl (eq_of_timeFlags hdone)
  case slewDone =>
    intro e hvirt hclk hmode he hnear
    exact after_at (f := xingSlewDone) hm rfl (eq_of_timeFlags (xingSlewDone_of_near hvirt hclk hmode he hnear))
  case slewDoneMachine =>
    intro hvirt hclk hmode htb hslew
    exact after_at (f := xingSlewDone) hm rfl (eq_of_timeFlags (xingSlewDone_of_relocked hvirt hclk hmode htb hslew))
  case unlock =>
    intro htb hlock
    exact after_at (f := synUnlock) hm rfl (eq_of_timeFlags (synUnlock_of_locked htb hlock))
  case lockRegained =>
    intro htb
    exact after_at (f := synRegained) hm rfl (eq_of_timeFlags (synRegained_of_switched htb))
  case warm =>
    intro mw err hoven herr
    exact after_at (f := fun m => ovenWarm m mw.toNat err) hm rfl (eq_of_timeFlags (ovenWarm_of_near hoven herr))
  case unreg =>
    intro mw err hoven hmw herr
    subst hmw
    exact after_at (f := fun m => ovenUnreg m 0 err) hm rfl (eq_of_timeFlags_logE (ovenUnreg_of_hot hoven herr rfl))
  case bandLeft =>
    intro mw err hoven herr
    exact after_at (f := fun m => ovenBandLeft m mw.toNat err) hm rfl (eq_of_timeFlags_logE (ovenBandLeft_of_far hoven herr rfl))
  case heater =>
    intro mw err hoven herr
    refine after_at (f := fun m => heaterFault m mw.toNat err) hm rfl ?_
    dsimp only
    rw [heaterFault_of_far hoven herr rfl]
    rfl
  case detect =>
    intro i hdown hen hpg
    exact after_at (f := fun m => tinDetect m i) hm rfl (tinDetect_of_down hdown hen hpg)
  case lock =>
    intro i hhunt hclk
    exact after_at (f := fun m => tinLock m i) hm rfl (tinLock_of_present hhunt hclk)
  case lockFirst =>
    intro i hhunt hclk
    exact after_at (f := fun m => tinLock m i) hm rfl (tinLock_of_lost hhunt hclk)
  case lockLost =>
    intro i hlocked hactive hother
    refine after_at (f := fun m => tinLockLost m i) hm rfl ?_
    obtain ⟨tb, spans, fresh, slewErr, logged, hover⟩ :=
      tinLeaves_fails_over i.isLt (st := .hunt) (by decide) hlocked hactive hother
    have hone : 1 - i.val = 0 ↔ i.val = 1 := by omega
    have hoffset : switchedOffset m (1 - i) = if skewOk m = true then
        (if i.val = 1 then m.tl.offset - m.tl.skew else m.tl.offset + m.tl.skew) else 0 := by
      simp only [switchedOffset, hone]
    rw [tinLockLost, if_pos hlocked, hover]
    exact ⟨congrArg Tin.state (tin_setTin_same m i _), rfl, by simp, hoffset, rfl⟩
  case signalLost =>
    intro i hlocked hother
    refine after_at (f := fun m => tinDown m i) hm rfl ?_
    obtain ⟨tb, spans, regs, log, hleaves, hhz, hvirt, hhold⟩ := tinLeaves_of_last i.isLt (st := .down) (by decide) hlocked hother
    have hclk : mclkLost (inputLeft m i .down) = true := by simp [mclkLost_inputLeft i.isLt (st := .down), hother]
    rw [tinDown, if_neg (by rw [hlocked]; decide), hleaves]
    exact ⟨congrArg Tin.state (tin_setTin_same m i _), hclk, hhz, rfl, hvirt, hhold⟩
  case revert =>
    intro hrevert hactive hlocked hsince
    refine after_at (f := tinRevert) hm rfl ?_
    obtain ⟨tb, spans, fresh, slewErr, logged, hswitch⟩ := switchInput_eq m 0
    rw [tinRevert_of_due hrevert hactive hlocked hsince, hswitch]
    exact ⟨rfl, by simp, rfl, rfl⟩

/-! ### A mode change while a measurement is open -/

/-- A command completes in one way only. -/
theorem After.both {c : Instr} {s : State} {P Q : Kz → Prop} (hP : After c s P) (hQ : After c s Q) : ∃ n, P n ∧ Q n := by
  obtain ⟨n, hn, hPn⟩ := hP
  obtain ⟨n', hn', hQn⟩ := hQ
  obtain ⟨rfl, -⟩ := State.mk.inj (Host.Outcome.next.inj (hn.symm.trans hn'))
  exact ⟨n, hPn, hQn⟩

/-- R122, R435, R439: the host's mode change sets NEW of the context whose measurement it ends. -/
theorem after_timModeWrite_new {s : State} {t : Stamp} {m : Kz} {p : Port} {v : Word} {hz c : Nat} (hm : s.kz.advance t = m)
    (h : Accepts { m with tb := { m.tb with refHz := hz } } p .TIM_MODE 0 v) (hchange : modeChange (m.cfgWord .TIM_MODE 0) v = true)
    (hc : c < 32) (hopen : (tiuCtx m c).state = .open_) (hothers : ∀ b : Nat, b ≠ c → (tiuCtx m b).state ≠ .open_) :
    After (.timModeWrite t p v hz) s fun n => n.regs = ((storeReg m .TIM_MODE 0 v).mark F.TIM_TIU_STAT.NEW c).regs :=
  after_at (f := fun m => pairWrite (m.modTb fun b => { b with refHz := hz }) p.val .TIM_MODE 0 v) hm rfl
    (regs_pairWrite_modeChange h hchange hc hopen hothers)

/-- A block in READY with a session that may write the module's registers, and an open measurement: context 0 of the time-interval unit
waits for its stop. -/
def measuring : Kz :=
  { pwr := { state := .ready }
    ports := [(0, { session := { isOpen := true, leases := [.module] } })]
    tiu := { ctx := [(0, { state := .open_ })] } }

/-- A word for TIM_MODE: EXTERNAL mode with EXT_N 104 (R140). -/
def toExternal : Word := BitVec.ofNat 32 (F.TIM_MODE.MODE.put 2 ||| F.TIM_MODE.EXT_N.put 104)

theorem measuring_accepts : Accepts { measuring with tb := { measuring.tb with refHz := 100000000 } } (0 : Port) .TIM_MODE 0 toExternal := by
  decide

theorem measuring_open_only {b : Nat} (hb : b ≠ 0) : (tiuCtx measuring b).state ≠ .open_ := by
  simp [tiuCtx, measuring, Sparse.get, hb.symm]

/-- Refutes O2: its clause for a mode change says that beside TIM_MODE no register changes. A measurement that is open in the
time-interval unit is ABORTED by the change (R435), and its result sets NEW in TIM_TIU_STAT (R439); the clause has no hypothesis against
an open measurement. -/
theorem not_epochsLatchesAndTimeWrites : ¬ Obligations.EpochsLatchesAndTimeWrites := by
  unfold Obligations.EpochsLatchesAndTimeWrites
  intro h
  have hm : (State.mk measuring []).kz.advance ⟨0, 0⟩ = measuring := rfl
  have hchange : modeChange (measuring.cfgWord .TIM_MODE 0) toExternal = true := by decide
  obtain ⟨-, -, -, -, -, -, hmode, -⟩ := h _ _ _ hm
  obtain ⟨n, ⟨-, hkept, -⟩, hmarked⟩ := (hmode 0 toExternal 100000000 measuring_accepts hchange).both
    (after_timModeWrite_new (c := 0) hm measuring_accepts hchange (by decide) rfl fun _ => measuring_open_only)
  exact absurd (congrArg Regs.seen (hmarked.symm.trans hkept)) (by decide)

end Sys2Proof.Safety
end

section
/-! SUPPORT. The family 06_trigger.md: when a sample crosses a level and what qualifies a comparator (R184, R187), what the combiner,
the patterns and the other sources make of a trigger (R193 to R205, R428, R434), and a write of CH_TRIG_CTRL with ARM 0 (R219). -/
namespace Sys2Proof.Machine
open Safety

/-! ### Levels crossed (R184) -/

/-- Whether the crossing of a level is armed after samples, where it was not before them. -/
def armedAfter (up : Bool) (l h : Int) (vs : List Int) : Bool := vs.foldl (fun a y => (crossStep up l h y a).2) false

theorem armedAfter_concat (up : Bool) (l h : Int) (vs : List Int) (v : Int) :
    armedAfter up l h (vs ++ [v]) = (crossStep up l h v (armedAfter up l h vs)).2 := by
  simp [armedAfter]

/-- A level is crossed by the sample that reaches it where the crossing is armed. -/
theorem crossStep_crosses (l h v : Int) (a : Bool) : (crossStep true l h v a).1 = true ↔ l ≤ v ∧ a = true := by
  by_cases hv : l ≤ v <;> simp [crossStep, hv]

/-- A sample that reaches the level disarms it, and one below it at least H away arms it. -/
theorem crossStep_arms (l h v : Int) (a : Bool) :
    (crossStep true l h v a).2 = true ↔ v < l ∧ (a = true ∨ v ≤ l - h) := by
  by_cases hv : l ≤ v
  · simp [crossStep, hv]
  · have hfar : v - l ≤ -h ↔ v ≤ l - h := by omega
    simp [crossStep, hv, hfar, not_le.1 hv]

theorem armedAfter_iff (l h : Int) (vs : List Int) :
    armedAfter true l h vs = true ↔ ∃ a w b, vs = a ++ w :: b ∧ w ≤ l - h ∧ w < l ∧ ∀ y ∈ b, y < l := by
  induction vs using List.reverseRecOn with
  | nil => simp [armedAfter]
  | append_singleton vs v ih =>
    rw [armedAfter_concat, crossStep_arms, ih]
    constructor
    · rintro ⟨hv, ⟨a, w, b, rfl, hw, hwl, hb⟩ | hfar⟩
      · exact ⟨a, w, b ++ [v], by simp, hw, hwl, by simpa [or_imp, forall_and] using ⟨hb, hv⟩⟩
      · exact ⟨vs, v, [], rfl, hfar, hv, by simp⟩
    · rintro ⟨a, w, b, hvs, hw, hwl, hb⟩
      induction b using List.reverseRecOn with
      | nil =>
        obtain ⟨-, hlast⟩ := List.append_inj' hvs rfl
        obtain rfl : v = w := by simpa using hlast
        exact ⟨hwl, .inr hw⟩
      | append_singleton b y =>
        obtain ⟨rfl, hlast⟩ := List.append_inj' (t₁ := [v]) (s₂ := a ++ w :: b) (t₂ := [y]) (by simpa using hvs) rfl
        obtain rfl : v = y := by simpa using hlast
        exact ⟨hb v (by simp), .inl ⟨a, w, b, rfl, hw, hwl, fun z hz => hb z (by simp [hz])⟩⟩

/-- R184: downwards is upwards with every sample and the level turned round. -/
theorem crossStep_false (l h v : Int) (a : Bool) : crossStep false l h v a = crossStep true (-l) h (-v) a := by
  have hturned : l - v = -v - -l := by omega
  simp only [crossStep, if_true, Bool.false_eq_true, if_false, hturned]

theorem armedAfter_false (l h : Int) (vs : List Int) : armedAfter false l h vs = armedAfter true (-l) h (vs.map (- ·)) := by
  simp only [armedAfter, crossStep_false, List.foldl_map]

theorem crossed_up_iff (l h v : Int) (vs : List Int) : (crossStep true l h v (armedAfter true l h vs)).1 = true ↔
    l ≤ v ∧ ∃ a w b, vs = a ++ w :: b ∧ w ≤ l - h ∧ w < l ∧ ∀ y ∈ b, y < l := by
  rw [crossStep_crosses, armedAfter_iff]

theorem crossed_down_iff (l h v : Int) (vs : List Int) : (crossStep false l h v (armedAfter false l h vs)).1 = true ↔
    v ≤ l ∧ ∃ a w b, vs = a ++ w :: b ∧ l + h ≤ w ∧ l < w ∧ ∀ y ∈ b, l < y := by
  rw [crossStep_false, armedAfter_false, crossed_up_iff]
  refine and_congr (by omega) ⟨?_, ?_⟩
  · rintro ⟨a, w, b, hvs, hw, hwl, hb⟩
    have hback : vs = a.map (- ·) ++ -w :: b.map (- ·) := by simpa using congrArg (List.map (- ·)) hvs
    refine ⟨a.map (- ·), -w, b.map (- ·), hback, by omega, by omega, fun y hy => ?_⟩
    obtain ⟨z, hz, rfl⟩ := List.mem_map.1 hy
    have := hb z hz
    omega
  · rintro ⟨a, w, b, rfl, hw, hwl, hb⟩
    refine ⟨a.map (- ·), -w, b.map (- ·), by simp, by omega, by omega, fun y hy => ?_⟩
    obtain ⟨z, hz, rfl⟩ := List.mem_map.1 hy
    have := hb z hz
    omega

/-! ### Comparators of positive polarity (R187) -/

section Comparator
variable {m : Kz} {p ty : Nat} {x : Crossing} {q : Comp} {i : Nat} {r : Bool × Bool}

/-- A window is left, and entered, at crossings of either polarity. -/
theorem compCross_windowLeft (hty : m.fld F.RGN_TRIG_PROF_CFG.TYPE p = 2) :
    (compCross m p x i r q).1 = (!x.zero && decide (x.low = x.up)) := by
  simp [compCross, hty]

theorem compCross_windowEntered (hty : m.fld F.RGN_TRIG_PROF_CFG.TYPE p = 3) :
    (compCross m p x i r q).1 = (!x.zero && x.low != x.up) := by
  simp [compCross, hty]

variable (hpol : m.fld F.RGN_TRIG_PROF_CFG.POL p = 0)
include hpol

theorem compCross_edge (hty : m.fld F.RGN_TRIG_PROF_CFG.TYPE p = 1) :
    (compCross m p x i r q).1 = (!x.zero && (!x.low && x.up)) := by
  simp [compCross, hty, hpol]

theorem compCross_fraction (hty : m.fld F.RGN_TRIG_PROF_CFG.TYPE p = 7) :
    (compCross m p x i r q).1 = (x.zero && (x.up && r.1)) := by
  simp [compCross, hty, hpol]

section Pairs
variable (hty : m.fld F.RGN_TRIG_PROF_CFG.TYPE p = ty) (hpair : ty ∉ [1, 2, 3, 7])
include hty hpair

/-- The other types look at crossings of the levels only, and with positive polarity at one opening crossing. -/
theorem compCross_pairs (hx : x.zero = false) :
    (compCross m p x i r q).1 = (pairStep m p ty x.low x.up i q.openPos).1 ∧
      (compCross m p x i r q).2.openPos = (pairStep m p ty x.low x.up i q.openPos).2 := by
  simp only [List.mem_cons, List.not_mem_nil, or_false, not_or] at hpair
  obtain ⟨hedge, hleft, hentered, hfraction⟩ := hpair
  simp [compCross, hty, hpol, hx]

theorem openPos_crossAll {ys : List (Crossing × Nat)} (hys : ∀ y ∈ ys, y.1.zero = false) : (crossAll m p ys q).openPos =
    ys.foldl (fun o y => (pairStep m p ty y.1.low y.1.up y.2 o).2) q.openPos := by
  induction ys generalizing q with
  | nil => rfl
  | cons y ys ih =>
    obtain ⟨hy, hys⟩ := List.forall_mem_cons.1 hys
    obtain ⟨-, hopen⟩ := compCross_pairs hpol hty hpair (q := q) (i := y.2) (r := (false, false)) hy
    rw [List.foldl_cons, ← hopen]
    exact ih hys

/-- The pulse types: an opening crossing, crossings after it, and one that may end the pulse. -/
theorem compCross_pulse {a b : Crossing} {j : Nat} {ys : List (Crossing × Nat)} (ha : a.zero = false) (hb : b.zero = false)
    (hys : ∀ y ∈ ys, y.1.zero = false) : (compCross m p b j r (crossAll m p ys (compCross m p a i r q).2)).1 =
      (pairStep m p ty b.low b.up j (ys.foldl (fun o y => (pairStep m p ty y.1.low y.1.up y.2 o).2)
        (pairStep m p ty a.low a.up i q.openPos).2)).1 := by
  obtain ⟨hends, -⟩ := compCross_pairs hpol hty hpair (q := crossAll m p ys (compCross m p a i r q).2) (i := j) (r := r) hb
  obtain ⟨-, hopens⟩ := compCross_pairs hpol hty hpair (q := q) (i := i) (r := r) ha
  rw [hends, openPos_crossAll hpol hty hpair hys, hopens]

end Pairs

theorem compCross_off (hty : m.fld F.RGN_TRIG_PROF_CFG.TYPE p = 0) : (compCross m p x i r q).1 = false := by
  cases hx : x.zero with
  | true => simp [compCross, hty, hx]
  | false =>
    obtain ⟨hpairs, -⟩ := compCross_pairs hpol hty (by decide) (i := i) (r := r) (q := q) hx
    exact hpairs

end Comparator

/-- R187: an upward crossing of HI between ends a runt, a downward one does not. -/
theorem runt_open (m : Kz) (p : Nat) {ys : List (Crossing × Nat)} (hys : ∀ y ∈ ys, y.1.low = false) (o : Option Nat) :
    ys.foldl (fun o y => (pairStep m p 5 y.1.low y.1.up y.2 o).2) o = if ys.any (fun y => y.1.up) then none else o := by
  induction ys generalizing o with
  | nil => rfl
  | cons y ys ih =>
    obtain ⟨hlow, hys⟩ := List.forall_mem_cons.1 hys
    rw [List.foldl_cons, List.any_cons, ih hys, hlow]
    cases y.1.up with
    | true => exact ite_self none
    | false => rfl

end Sys2Proof.Machine

namespace Sys2Proof.Safety
open Machine

/-- Settles O11: a level is crossed where a sample since the last one that reached it armed it (`armedAfter_iff`), downwards as upwards
with the signs turned round; each type then qualifies by its own crossings, the pulse types by the opening crossing that the crossings
between have left (`compCross_pulse`). -/
theorem comparatorTypes : Obligations.ComparatorTypes := by
  unfold Obligations.ComparatorTypes
  refine ⟨fun l h v vs _ => ⟨crossed_up_iff l h v vs, crossed_down_iff l h v vs⟩, fun m p q r hpol => ⟨fun x i => ?_, ?_⟩⟩
  · refine ⟨fun hty => ?off, fun hty => ?edge, fun hty => ?windowLeft, fun hty => ?windowEntered, fun hty => ?fraction⟩
    case off => exact compCross_off hpol hty
    case edge => simp [compCross_edge hpol hty]
    case windowLeft =>
      rw [compCross_windowLeft hty]
      cases x.low <;> cases x.up <;> simp
    case windowEntered =>
      rw [compCross_windowEntered hty]
      cases x.low <;> cases x.up <;> simp
    case fraction => simp [compCross_fraction hpol hty]
  · intro i j l k ys hys
    refine ⟨fun hty hlow => ?width, fun hty hlow => ?runt, fun hty hlow => ?slope⟩
    case width =>
      rw [compCross_pulse hpol hty (by decide) rfl rfl hys, foldl_id]
      · rfl
      · intro y hy
        simp [hlow y hy, pairStep]
    case runt =>
      rw [compCross_pulse hpol hty (by decide) rfl rfl hys, runt_open m p hlow]
      cases ys.any (fun y => y.1.up) <;> rfl
    case slope =>
      rw [compCross_pulse hpol hty (by decide) rfl rfl hys, foldl_id]
      · rfl
      · intro y hy
        cases y.1.up <;> simp [hlow y hy, pairStep]

/-! ### A write of CH_TRIG_CTRL that does not arm -/

/-- A block in READY with a session that may write channel 0's registers, and no channel listed in the table of the channels. -/
def noneListed : Kz :=
  { pwr := { state := .ready }, ports := [(0, { session := { isOpen := true, leases := [.channel 0] } })] }

theorem noneListed_accepts : Accepts noneListed (0 : Port) .CH_TRIG_CTRL (0 : Chan) 0 := by decide

/-- Refutes O8: its last clause, for a write of CH_TRIG_CTRL that leaves the unit where it is, has no hypothesis that ARM is 1, and says
that the channel's entry in the table of the channels is written with its mask STOP cleared. A write with ARM 0 does not come to the
channel (`regEffect`: R219), so a table that does not list the channel still does not list it afterwards. The channel reads the same
either way; the clause states the table. -/
theorem not_triggersAndArming : ¬ Obligations.TriggersAndArming := by
  unfold Obligations.TriggersAndArming
  intro h
  obtain ⟨-, -, -, -, -, -, -, -, -, -, -, -, -, -, -, -, -, -, -, -, -, -, hkept⟩ :=
    h { kz := noneListed } ⟨0, 0⟩ noneListed 0 rfl
  obtain ⟨n, hexec, hn⟩ := hkept 0 0 noneListed_accepts rfl (by decide) (.inl (by decide))
  have hlisted : n.chans = [(0, {})] := by rw [hn]; rfl
  have hempty : n.chans = [] := by
    obtain ⟨rfl, -⟩ := State.mk.inj (Host.Outcome.next.inj hexec)
    decide
  exact absurd (hlisted.symm.trans hempty) (by decide)

end Sys2Proof.Safety

namespace Sys2Proof.Machine
open Safety

/-! ### A channel's trigger unit -/

theorem Kz.modTrig_modTrig (m : Kz) (c : Nat) (f g : Trig → Trig) : (m.modTrig c f).modTrig c g = m.modTrig c fun x => g (f x) := by
  simp [Kz.modTrig, Kz.modChan, Sparse.mod, Sparse.set_set]

/-- What a trigger unit becomes is all that a change of it does. -/
theorem Kz.modTrig_congr {m : Kz} {c : Nat} {f g : Trig → Trig} (h : f (m.chan c).trig = g (m.chan c).trig) :
    m.modTrig c f = m.modTrig c g :=
  congrArg (fun x => { m with chans := Sparse.set m.chans c { m.chan c with trig := x } }) h

theorem Kz.chain_modTrig (m : Kz) (c : Nat) (f : Trig → Trig) (d : Nat) : ((m.modTrig c f).chan d).chain = (m.chan d).chain := by
  rw [Kz.chan_modTrig]
  split
  · next hd => rw [hd]
  · rfl

/-- Whether a trigger reaches a channel depends on the registers, its region's state and its chain. -/
theorem takes_congr {m n : Kz} {c : Nat} (hregs : n.regs = m.regs) (hrun : n.inRun (c / 16) = m.inRun (c / 16))
    (hchain : (n.chan c).chain = (m.chan c).chain) (src : Nat) : Takes n c src ↔ Takes m c src := by
  have hfld : n.fld = m.fld := by
    funext f i
    exact Kz.fld_of_cfg (congrArg Regs.cfg hregs) f i
  simp only [Takes, running, chanFailed, healthy, retired, acqMode, Kz.on, hfld, hrun, hchain]

/-- R190, R195: a trigger that reaches a channel waits there to be decided. -/
theorem fireTrig_eq (m : Kz) (c src inst cycle : Nat) : fireTrig m c src inst cycle =
    if Takes m c src then m.modTrig c (fun x => { x with pending := x.pending ++ [(src, inst, cycle)] }) else m := by
  simp [fireTrig, and_assoc]

/-! ### The combiner (R193, R198, R431) -/

/-- The block once a trigger of source 0 is fired at a channel (R190, R195). -/
def combFired (m : Kz) (c inst cycle : Nat) (z : Kz) : Kz :=
  if Takes m c 0 then z.modTrig c (fun x => { x with pending := x.pending ++ [(0, inst, cycle)] }) else z

section Combiner
variable {m : Kz} {c : Nat} {f : Trig → Trig} {inst cycle : Nat} {second : Bool} {q : Met}

theorem fireTrig_modTrig (m : Kz) (c : Nat) (f : Trig → Trig) (inst cycle : Nat) :
    fireTrig (m.modTrig c f) c 0 inst cycle = combFired m c inst cycle (m.modTrig c f) := by
  have htakes : Takes (m.modTrig c f) c 0 ↔ Takes m c 0 := takes_congr (m := m) (n := m.modTrig c f) rfl rfl (Kz.chain_modTrig m c f c) 0
  simp only [fireTrig_eq, htakes, combFired]

/-- A result of the combiner in a fabric cycle of its own. -/
theorem combOut_first (h : (f (m.chan c).trig).termUntil ≠ cycle + max 1 (m.fld F.RGN_PATTERN.COINC (c / 16))) :
    combOut (m.modTrig c f) c inst cycle = combFired m c inst cycle (m.modTrig c fun x => { f x with
      termInst := inst, termUntil := cycle + max 1 (m.fld F.RGN_PATTERN.COINC (c / 16)), tiuOut := (f x).tiuOut ++ [inst] }) := by
  unfold combOut
  simp only [Kz.modTrig_modTrig, Kz.fld_modTrig, fireTrig_modTrig]
  exact congrArg _ (Kz.modTrig_congr (by simp [h]))

/-- A second result of one fabric cycle is one with the first, with the earlier instant. -/
theorem combOut_again {l : List Nat} (h : (f (m.chan c).trig).termUntil = cycle + max 1 (m.fld F.RGN_PATTERN.COINC (c / 16)))
    (hl : (f (m.chan c).trig).tiuOut = l ++ [(f (m.chan c).trig).termInst]) :
    combOut (m.modTrig c f) c inst cycle = combFired m c inst cycle (m.modTrig c fun x => { f x with
      termInst := min (f x).termInst inst, tiuOut := l ++ [min (f x).termInst inst] }) := by
  unfold combOut
  simp only [Kz.modTrig_modTrig, Kz.fld_modTrig, fireTrig_modTrig]
  exact congrArg _ (Kz.modTrig_congr (by simp [h, hl]))

/-- The qualifications of a comparator that can still find a partner once `inst` has joined them. -/
def stillNear (m : Kz) (c inst cycle : Nat) (l : List Qual) : List Qual :=
  (l ++ [(⟨inst, cycle⟩ : Qual)]).filter fun y => decide (cycle ≤ y.cycle + max 1 (m.fld F.CH_TRIG_CTRL.COINC c))

/-- Whether a qualification lies within COINC of one in fabric cycle `cycle`. -/
def nearBy (m : Kz) (c cycle : Nat) (y : Qual) : Bool :=
  decide (max y.cycle cycle - min y.cycle cycle < max 1 (m.fld F.CH_TRIG_CTRL.COINC c))

section Combine
variable {m : Kz} {c inst cycle : Nat} {y : Qual}

theorem combine_passes {second : Bool} (h : (m.fld F.CH_TRIG_CTRL.COMB c = 0 ∧ second = false) ∨
    (m.fld F.CH_TRIG_CTRL.COMB c = 1 ∧ second = true) ∨ m.fld F.CH_TRIG_CTRL.COMB c = 2) :
    combine m c second inst cycle = combOut m c inst cycle := by
  rcases h with ⟨hcomb, rfl⟩ | ⟨hcomb, rfl⟩ | hcomb <;> simp [combine, hcomb]

theorem combine_ignores {second : Bool} (h : (m.fld F.CH_TRIG_CTRL.COMB c = 0 ∧ second = true) ∨
    (m.fld F.CH_TRIG_CTRL.COMB c = 1 ∧ second = false)) : combine m c second inst cycle = m := by
  rcases h with ⟨hcomb, rfl⟩ | ⟨hcomb, rfl⟩ <;> simp [combine, hcomb]

theorem combine_andA (hcomb : m.fld F.CH_TRIG_CTRL.COMB c = 3) (hy : (m.chan c).trig.qualsB.reverse.find? (nearBy m c cycle) = some y) :
    combine m c false inst cycle = combOut (m.modTrig c fun x => { x with qualsB := x.qualsB.erase y }) c (max inst y.inst) cycle := by
  unfold nearBy at hy
  simp only [combine, hcomb, hy, if_false, Bool.false_eq_true]

theorem combine_andB (hcomb : m.fld F.CH_TRIG_CTRL.COMB c = 3) (hy : (m.chan c).trig.qualsA.reverse.find? (nearBy m c cycle) = some y) :
    combine m c true inst cycle = combOut (m.modTrig c fun x => { x with qualsA := x.qualsA.erase y }) c (max inst y.inst) cycle := by
  unfold nearBy at hy
  simp only [combine, hcomb, hy, if_true]

theorem combine_thenB (hcomb : m.fld F.CH_TRIG_CTRL.COMB c = 4) (hy : (m.chan c).trig.qualsA.reverse.find? (fun z =>
      nearBy m c cycle z && decide (z.cycle ≤ cycle) && decide (z.inst ≤ inst)) = some y) :
    combine m c true inst cycle = combOut (m.modTrig c fun x => { x with qualsA := x.qualsA.erase y }) c inst cycle := by
  unfold nearBy at hy
  simp only [combine, hcomb, hy, if_true]

theorem combine_thenA (hcomb : m.fld F.CH_TRIG_CTRL.COMB c = 4) (hy : (m.chan c).trig.qualsB.reverse.find? (fun z =>
      decide (z.cycle = cycle) && decide (inst ≤ z.inst)) = some y) :
    combine m c false inst cycle = combOut (m.modTrig c fun x => { x with qualsB := x.qualsB.erase y }) c y.inst cycle := by
  simp only [combine, hcomb, hy, if_false, Bool.false_eq_true]

theorem combine_waitsA (h : (m.fld F.CH_TRIG_CTRL.COMB c = 3 ∧ ∀ z ∈ (m.chan c).trig.qualsB, nearBy m c cycle z = false) ∨
    (m.fld F.CH_TRIG_CTRL.COMB c = 4 ∧ ∀ z ∈ (m.chan c).trig.qualsB, z.cycle ≠ cycle ∨ z.inst < inst)) :
    combine m c false inst cycle = m.modTrig c fun x => { x with qualsA := stillNear m c inst cycle x.qualsA } := by
  rcases h with ⟨hcomb, hnone⟩ | ⟨hcomb, hnone⟩
  · have hnone : (m.chan c).trig.qualsB.reverse.find? (nearBy m c cycle) = none := by simpa using hnone
    unfold nearBy at hnone
    simp only [combine, hcomb, hnone, stillNear, if_false, Bool.false_eq_true]
  · have hnone : (m.chan c).trig.qualsB.reverse.find? (fun z => decide (z.cycle = cycle) && decide (inst ≤ z.inst)) = none := by
      simpa [imp_iff_not_or] using hnone
    simp only [combine, hcomb, hnone, stillNear, if_false, Bool.false_eq_true]

theorem combine_waitsB (h : (m.fld F.CH_TRIG_CTRL.COMB c = 3 ∧ ∀ z ∈ (m.chan c).trig.qualsA, nearBy m c cycle z = false) ∨
    (m.fld F.CH_TRIG_CTRL.COMB c = 4 ∧ ∀ z ∈ (m.chan c).trig.qualsA, nearBy m c cycle z = false ∨ cycle < z.cycle ∨ inst < z.inst)) :
    combine m c true inst cycle = m.modTrig c fun x => { x with qualsB := stillNear m c inst cycle x.qualsB } := by
  rcases h with ⟨hcomb, hnone⟩ | ⟨hcomb, hnone⟩
  · have hnone : (m.chan c).trig.qualsA.reverse.find? (nearBy m c cycle) = none := by simpa using hnone
    unfold nearBy at hnone
    simp only [combine, hcomb, hnone, stillNear, if_true]
  · have hnone : (m.chan c).trig.qualsA.reverse.find? (fun z =>
        nearBy m c cycle z && decide (z.cycle ≤ cycle) && decide (z.inst ≤ inst)) = none := by
      simpa [imp_iff_not_or, or_assoc] using hnone
    unfold nearBy at hnone
    simp only [combine, hcomb, hnone, stillNear, if_true]

end Combine

/-- The block once a comparator has reported its qualification `q` (R190). -/
def reported (m : Kz) (c : Nat) (q : Met) : Kz := m.modTrig c fun x => { x with found := x.found.erase q }

theorem trig_reported (m : Kz) (c : Nat) (q : Met) :
    ((reported m c q).chan c).trig = { (m.chan c).trig with found := (m.chan c).trig.found.erase q } := by
  rw [reported, Kz.chan_modTrig_same]

theorem comparator_found (hq : (m.chan c).trig.found.find? (fun f => decide (f.second = second)) = some q) :
    comparator m c second = combine (reported m c q) c second q.inst q.cycle := by
  simp only [comparator, hq]
  rfl

/-- A qualification that finds its partner is the combiner's result, and the partner waits no longer. -/
theorem comparator_pairs (hq : (m.chan c).trig.found.find? (fun f => decide (f.second = second)) = some q)
    (hpair : combine (reported m c q) c second q.inst q.cycle = combOut ((reported m c q).modTrig c f) c inst q.cycle)
    (hterm : (f { (m.chan c).trig with found := (m.chan c).trig.found.erase q }).termUntil ≠
      q.cycle + max 1 (m.fld F.RGN_PATTERN.COINC (c / 16))) :
    comparator m c second = combFired m c inst q.cycle (m.modTrig c fun x => { f { x with found := x.found.erase q } with
      termInst := inst
      termUntil := q.cycle + max 1 (m.fld F.RGN_PATTERN.COINC (c / 16))
      tiuOut := (f { x with found := x.found.erase q }).tiuOut ++ [inst] }) := by
  rw [comparator_found hq, hpair, reported, Kz.modTrig_modTrig, combOut_first hterm]

theorem comparator_none (h : ∀ f ∈ (m.chan c).trig.found, f.second ≠ second) : comparator m c second = m := by
  have hnone : (m.chan c).trig.found.find? (fun f => decide (f.second = second)) = none :=
    List.find?_eq_none.2 fun f hf => by simpa using h f hf
  simp only [comparator, hnone]

end Combiner

end Sys2Proof.Machine

namespace Sys2Proof.Safety
open Machine

/-- Settles O9: the oldest qualification leaves the comparator's list (`comparator_found`), the combiner passes it, drops it, pairs it or
keeps it by COMB (`combine_passes` to `combine_waitsB`), and what passes becomes the channel's term and a trigger of source 0
(`combOut_first`, `combOut_again`). -/
theorem comparatorsAndCombiner : Obligations.ComparatorsAndCombiner := by
  unfold Obligations.ComparatorsAndCombiner
  intro s t m c hm
  have row {second : Bool} {n : Kz} (h : comparator m c.val second = n) : After (.comparatorQualify t c second) s fun z => z = n :=
    after_at (f := fun m => comparator m c.val second) hm rfl h
  refine ⟨?passes, ?ignores, ?again, ?andA, ?andB, ?waitsA, ?waitsB, ?thenB, ?thenA, ?none⟩
  case passes =>
    intro second q hq hterm hcomb
    apply row
    rw [comparator_found hq, combine_passes (m := reported m c.val q) hcomb, reported, combOut_first hterm]
    rfl
  case ignores =>
    intro second q hq hcomb
    apply row
    rw [comparator_found hq, combine_ignores (m := reported m c.val q) hcomb, reported]
  case again =>
    intro second q y hq hterm hout hcomb
    apply row
    rw [comparator_found hq, combine_passes (m := reported m c.val q) (.inr (.inr hcomb)), reported, combOut_again hterm hout]
    rfl
  case andA =>
    intro second q y hq hterm hcomb hsecond hy
    subst hsecond
    have hpair := combine_andA (m := reported m c.val q) (inst := q.inst) hcomb (by rw [trig_reported]; exact hy)
    exact row (comparator_pairs hq hpair hterm)
  case andB =>
    intro second q y hq hterm hcomb hsecond hy
    subst hsecond
    have hpair := combine_andB (m := reported m c.val q) (inst := q.inst) hcomb (by rw [trig_reported]; exact hy)
    exact row (comparator_pairs hq hpair hterm)
  case waitsA =>
    intro second q hq hsecond hnone
    subst hsecond
    apply row
    rw [comparator_found hq, combine_waitsA (m := reported m c.val q) (by rw [trig_reported]; exact hnone), reported, Kz.modTrig_modTrig]
    rfl
  case waitsB =>
    intro second q hq hsecond hnone
    subst hsecond
    apply row
    rw [comparator_found hq, combine_waitsB (m := reported m c.val q) (by rw [trig_reported]; exact hnone), reported, Kz.modTrig_modTrig]
    rfl
  case thenB =>
    intro second q y hq hterm hcomb hsecond hy
    subst hsecond
    have hpair := combine_thenB (m := reported m c.val q) hcomb (by rw [trig_reported]; exact hy)
    exact row (comparator_pairs hq hpair hterm)
  case thenA =>
    intro second q y hq hterm hcomb hsecond hy
    subst hsecond
    have hpair := combine_thenA (m := reported m c.val q) hcomb (by rw [trig_reported]; exact hy)
    exact row (comparator_pairs hq hpair hterm)
  case none =>
    intro second hnone
    exact row (comparator_none hnone)

/-! ### An OR pattern of which one term is true -/

/-- A block that judges the module pattern by MOD_PATTERN's word with EN, MODE OR and the regions 0 and 1 in REGION_MASK: the term of
region 0, which is up, is true in fabric cycle 1; region 1 has released none in it. -/
def oneTermTrue : Kz :=
  { hub := { regionTerm := [(0, (1, true, 0))],
             modOld := some (F.MOD_PATTERN.EN.put 1 ||| F.MOD_PATTERN.REGION_MASK.put 3, 1) },
    rgns := [(0, { pwr := { state := .run } })] }

/-- The pattern of that block turns true. -/
theorem modulePattern_oneTermTrue : (modulePattern oneTermTrue).hub.modState = true := by decide

/-- Refutes O10: its clause for a module pattern that is not true reads `EN = 0 ∨ ∀ k ∈ …, (no term of k) → After …`, for a `∀` takes
all that follows it, so the answer is claimed wherever one region of REGION_MASK has no true term. With MODE OR the term of another
region makes the pattern true all the same (R200), and it fires: region 1 of `oneTermTrue` has no term, and the pattern turns true by
region 0's. -/
theorem not_patternsAndTriggerSources : ¬ Obligations.PatternsAndTriggerSources := by
  unfold Obligations.PatternsAndTriggerSources
  intro h
  obtain ⟨-, -, -, -, -, hnone, -⟩ := h { kz := oneTermTrue } ⟨0, 0⟩ oneTermTrue rfl
  have hlapsed : After (.modulePatternFire ⟨0, 0⟩) { kz := oneTermTrue }
      fun n => n = oneTermTrue.modHub fun h => { h with modState := false } :=
    (hnone 1 (by decide)).resolve_left (by decide) 1 (by decide) (.inl (by decide))
  obtain ⟨n, hexec, hn⟩ := hlapsed
  obtain ⟨rfl, -⟩ := State.mk.inj (Host.Outcome.next.inj hexec)
  exact absurd (modulePattern_oneTermTrue.symm.trans (congrArg (fun m => m.hub.modState) hn)) (by decide)

end Sys2Proof.Safety
end

section
/-! SUPPORT. The family 07_acquisition_memory.md: what the close of a record, a stub and a release make of a channel's memory, of its
region's events and of the log (R241 to R266, R273, R342), and a fold of a record that names a channel of another region (R314). -/
namespace Sys2Proof.Machine
open Safety

/-! ### A channel's memory and a region's events -/

theorem Kz.modMem_modMem (m : Kz) (c : Nat) (f g : Memory → Memory) : (m.modMem c f).modMem c g = m.modMem c fun y => g (f y) := by
  simp [Kz.modMem, Kz.modChan, Sparse.mod, Sparse.set_set]

/-- What a memory becomes is all that a change of it does. -/
theorem Kz.modMem_congr {m : Kz} {c : Nat} {f g : Memory → Memory} (h : f (m.chan c).mem = g (m.chan c).mem) :
    m.modMem c f = m.modMem c g :=
  congrArg (fun y => { m with chans := Sparse.set m.chans c { m.chan c with mem := y } }) h

theorem Kz.modRgn_modRgn (m : Kz) (k : Nat) (f g : Region → Region) : (m.modRgn k f).modRgn k g = m.modRgn k fun x => g (f x) := by
  simp [Kz.modRgn, Sparse.mod, Sparse.set_set]

/-- What a region becomes is all that a change of it does. -/
theorem Kz.modRgn_congr {m : Kz} {k : Nat} {f g : Region → Region} (h : f (m.rgn k) = g (m.rgn k)) : m.modRgn k f = m.modRgn k g :=
  congrArg (fun x => { m with rgns := Sparse.set m.rgns k x }) h

theorem Kz.chan_modMem_ne {x c : Nat} (h : x ≠ c) (m : Kz) (f : Memory → Memory) : (m.modMem c f).chan x = m.chan x := by
  rw [Kz.chan_modMem, if_neg h]

theorem Kz.chan_modTrig_ne {x c : Nat} (h : x ≠ c) (m : Kz) (f : Trig → Trig) : (m.modTrig c f).chan x = m.chan x := by
  rw [Kz.chan_modTrig, if_neg h]

/-- Of all regions only region `k` may have changed, and that in the order of its events (R263). -/
structure OrderAlone (k : Nat) (m n : Kz) : Prop where
  here : n.rgn k = { m.rgn k with acq := { (m.rgn k).acq with order := (n.rgn k).acq.order } }
  others : ∀ j, j ≠ k → n.rgn j = m.rgn j

theorem OrderAlone.of_rgns {m n : Kz} (h : n.rgns = m.rgns) (k : Nat) : OrderAlone k m n := by
  have hrgn : ∀ j, n.rgn j = m.rgn j := fun j => by rw [Kz.rgn, h, Kz.rgn]
  exact ⟨by rw [hrgn], fun j _ => hrgn j⟩

theorem OrderAlone.modOrder {m n : Kz} (h : n.rgns = m.rgns) (k : Nat) (f : List EvOrder → List EvOrder) :
    OrderAlone k m (n.modAcq k fun a => { a with order := f a.order }) := by
  have hrgn : ∀ j, n.rgn j = m.rgn j := fun j => by rw [Kz.rgn, h, Kz.rgn]
  exact ⟨by rw [Kz.rgn_modAcq_same, hrgn], fun j hj => by rw [Kz.rgn_modAcq, if_neg hj, hrgn]⟩

theorem OrderAlone.all {k : Nat} {m n : Kz} (h : OrderAlone k m n) (j : Nat) :
    n.rgn j = { m.rgn j with acq := { (m.rgn j).acq with order := (n.rgn j).acq.order } } := by
  by_cases hj : j = k
  · exact hj ▸ h.here
  · rw [h.others j hj]

/-! ### A record that joins the closed ones (R262) -/

/-- The record is put among those that await release, which keep their order. -/
theorem insertRec_perm (r : Rec) (l : List Rec) : (insertRec r l).Perm (r :: l) := by
  have hother : ∀ (p : Rec → Bool) (l : List Rec), (l.takeWhile p ++ [r] ++ l.dropWhile p).Perm (r :: l) := fun p l => by
    have h := List.perm_middle (a := r) (l₁ := l.takeWhile p) (l₂ := l.dropWhile p)
    rwa [List.takeWhile_append_dropWhile, List.append_cons] at h
  unfold insertRec
  split
  · unfold insertAccept
    dsimp only
    rw [List.append_assoc, List.append_assoc, ← List.append_assoc (List.takeWhile _ _)]
    refine ((hother _ _).append_left _).trans (List.perm_middle.trans ?_)
    rw [List.take_append_drop]
  · exact hother _ l

theorem length_insertRec (r : Rec) (l : List Rec) : (insertRec r l).length = l.length + 1 := (insertRec_perm r l).length_eq

theorem mem_insertRec {r x : Rec} {l : List Rec} (h : x ∈ insertRec r l) : x ∈ l ∨ x = r :=
  (List.mem_cons.1 ((insertRec_perm r l).mem_iff.1 h)).symm

section AddClosed
variable (m : Kz) (c : Nat) (r : Rec)

/-- The channel's memory once the record has joined its closed ones. -/
def withClosed (y : Memory) : Memory := { y with closed := insertRec r y.closed, content := slotWrite m c r y.content }

theorem addClosed_eq_ite : addClosed m c r =
    if r.kind = .accept then markDone (m.modMem c (withClosed m c r)) c r.ser else m.modMem c (withClosed m c r) := rfl

theorem chans_addClosed : (addClosed m c r).chans = (m.modMem c (withClosed m c r)).chans := by
  rw [addClosed_eq_ite]
  split <;> rfl

theorem addClosed_eq : addClosed m c r = { m with chans := (addClosed m c r).chans, rgns := (addClosed m c r).rgns } := by
  rw [addClosed_eq_ite]
  split <;> rfl

theorem chan_addClosed (x : Nat) : (addClosed m c r).chan x = (m.modMem c (withClosed m c r)).chan x := by
  rw [Kz.chan, chans_addClosed, Kz.chan]

theorem chan_addClosed_same : (addClosed m c r).chan c = { m.chan c with mem := withClosed m c r (m.chan c).mem } := by
  rw [chan_addClosed, Kz.chan_modMem_same]

theorem chan_addClosed_ne {x : Nat} (h : x ≠ c) : (addClosed m c r).chan x = m.chan x := by
  rw [chan_addClosed, Kz.chan_modMem_ne h]

theorem order_addClosed : OrderAlone (c / 16) m (addClosed m c r) := by
  rw [addClosed_eq_ite]
  split
  · exact .modOrder (m := m) (n := m.modMem c (withClosed m c r)) rfl (c / 16) _
  · exact .of_rgns (m := m) (n := m.modMem c (withClosed m c r)) rfl _

end AddClosed

/-! ### Stubs (R255, R259, R260) -/

/-- A stub leaves of its channel's memory what stood there; `n` is the block in which the memory has been made ready for it. -/
theorem stub_oneStub {m n : Kz} {c flags b : Nat} {f : Memory → Memory} (hn : n = m.modMem c f)
    (hf : (f (m.chan c).mem).closed = (m.chan c).mem.closed) (hb : flags.testBit b = true) (kind : RecKind) (ser : Nat)
    (time : RecTime) (win : Option (Nat × Nat)) :
    OneStub m (stub n c kind ser time win flags) c { m.chan c with mem := f (m.chan c).mem } kind b := by
  subst hn
  unfold stub
  dsimp only
  generalize hx : ({ kind := kind, ch := c, ser := ser, time := time, win := win, flags := _, config := _, written := _ } : Rec) = x
  have hchan : ∀ y, ((m.modMem c f).count .RGN_STUB_COUNT (c / 16) 1).chan y = (m.modMem c f).chan y := fun y => Kz.chan_count ..
  have hsame := chan_addClosed_same ((m.modMem c f).count .RGN_STUB_COUNT (c / 16) 1) c x
  rw [hchan, Kz.chan_modMem_same] at hsame
  have hclosed : ((addClosed ((m.modMem c f).count .RGN_STUB_COUNT (c / 16) 1) c x).chan c).mem.closed =
      insertRec x (m.chan c).mem.closed := by
    rw [hsame, ← hf]
    rfl
  refine ⟨addClosed_eq .., fun y _ hy => ?_, fun k _ => (order_addClosed ..).all k, ?_, ?_, fun r hr => ?_⟩
  · rw [chan_addClosed_ne _ _ _ hy, hchan, Kz.chan_modMem_ne hy]
  · rw [hsame]
    subst hx
    rfl
  · rw [hclosed, length_insertRec]
  · rw [hclosed] at hr
    refine (mem_insertRec hr).imp id fun h => ?_
    subst h hx
    exact ⟨rfl, rfl, rfl, by simp [fSTUB], by simp [Nat.testBit_or, hb]⟩

theorem slotFree_some (m : Kz) (c i : Nat) : slotFree m c (some i) = m.modMem c fun y => { y with used := y.used.erase i } := rfl

/-- An open record becomes a stub; its slot is free again. -/
theorem stubOpen_oneStub {m n : Kz} {c i flags b : Nat} {f : Memory → Memory} {r : OpenRec} (hn : n = m.modMem c f)
    (hf : (f (m.chan c).mem).closed = (m.chan c).mem.closed) (hslot : r.slot = some i) (hb : flags.testBit b = true) :
    OneStub m (stubOpen n c r flags) c
      { m.chan c with mem := { f (m.chan c).mem with used := (f (m.chan c).mem).used.erase i } } r.kind b := by
  subst hn
  unfold stubOpen
  rw [hslot, slotFree_some, Kz.modMem_modMem]
  exact stub_oneStub (f := fun y => { f y with used := (f y).used.erase i }) rfl hf hb ..

/-! ### The close of a record (R241, R248, R252, R265, R266) -/

theorem getD_filled (ps : List (Int × Bool)) (bad : List Nat) {i : Nat} (hi : i < ps.length) :
    (ps.zipIdx.map (fun p => if bad.contains p.2 then -32768 else p.1.1)).getD i 0 =
      if bad.contains i then -32768 else ps[i].1 := by
  simp [List.getD_eq_getElem?_getD, hi]

/-- The bits of a record's flags that its window does not earn: STUB, ECC_CORR, ECC_UNCORR and SATURATED (R414). -/
def ownFlags : List Nat := [0, 4, 5, 9]

theorem testBit_winFlags {b : Nat} (hb : b ∈ ownFlags) (m : Kz) (c : Nat) (w : Nat × Nat) : (winFlags m c w).testBit b = false := by
  have hflag : ∀ (p : Bool), ∀ f ∈ [fSUPPLY, fSLICE, fCLOCK, fUNREG, fRECOVERED, fHOLDOVER],
      (if p then f else 0).testBit b = false := by
    revert b
    decide
  unfold winFlags
  simp only [Nat.testBit_or, hflag, List.mem_cons, true_or, or_true, Bool.or_false]

/-- The flags that a record closes with: of those that its window does not earn SATURATED is bit 9, ECC_CORR bit 4, ECC_UNCORR bit 5. -/
theorem testBit_closeFlags {b : Nat} (hb : b ∈ ownFlags) (flags : Nat) (m : Kz) (c : Nat) (w : Nat × Nat) (sat sound whole meas : Prop)
    [Decidable sat] [Decidable sound] [Decidable whole] [Decidable meas] :
    (flags ||| winFlags m c w ||| (if sat then fSAT else 0) ||| (if sound then 0 else fECC_CORR)
      ||| (if whole then 0 else fECC_UNCORR) ||| (if meas then fMEAS else 0)).testBit b =
      (flags.testBit b || decide sat && decide (b = 9) || !decide sound && decide (b = 4) || !decide whole && decide (b = 5)) := by
  have hsat : fSAT.testBit b = decide (b = 9) := by revert b; decide
  have hcorr : fECC_CORR.testBit b = decide (b = 4) := by revert b; decide
  have huncorr : fECC_UNCORR.testBit b = decide (b = 5) := by revert b; decide
  have hmeas : fMEAS.testBit b = false := by revert b; decide
  simp only [Nat.testBit_or, testBit_winFlags hb, apply_ite (Nat.testBit · b), hsat, hcorr, huncorr, hmeas, Nat.zero_testBit]
  by_cases sat <;> by_cases sound <;> by_cases whole <;> simp [*]

/-- Samples that a record keeps: none where it holds tone results alone (R252). -/
def wanted (m : Kz) (c : Nat) (r : OpenRec) : Nat :=
  if r.kind = .stream ∧ m.fld F.CH_MEM_CTRL.STREAM_SEL c = 1 then 0 else r.len

theorem wanted_le (m : Kz) (c : Nat) (r : OpenRec) : wanted m c r ≤ r.len := by
  unfold wanted
  split <;> omega

/-- `x` is the record that the open record `r` closes as: its samples as stored but for those of failed words, its window, its
flags (R241, R252, R265, R266). -/
def ClosesAs (m : Kz) (c : Nat) (d : RecData) (r : OpenRec) (x : Rec) : Prop :=
  x.kind = r.kind ∧ x.ch = c ∧ x.ser = r.ser ∧ x.time = r.time ∧ x.win = some (r.first, r.last) ∧ x.slot = r.slot ∧
    x.refPos = r.refPos ∧ x.ref = r.ref ∧ x.flags.testBit 0 = r.flags.testBit 0 ∧
    (∀ y : Nat, y < wanted m c r → y ∉ x.filled → x.samples.getD y 0 = (storedAt m c (r.idx + y)).1) ∧
    x.samples.length = wanted m c r ∧ (∀ y ∈ x.filled, x.samples.getD y 0 = -32768) ∧ (d.lostWords = [] → x.filled = []) ∧
    (x.flags.testBit 9 = (r.flags.testBit 9 || (upTo r.len).any (fun y => (storedAt m c (r.idx + y)).2))) ∧
    (x.flags.testBit 5 = (r.flags.testBit 5 || !d.lostWords.isEmpty)) ∧
    (x.flags.testBit 4 = (r.flags.testBit 4 || d.corrected != 0)) ∧
    (x.toTest = (masking m c && decide (r.len ≤ 4096) && !((m.rgn (c / 16)).acc.shareOut.testBit (c % 16))))

/-- The block once an open record has left its channel's list and its corrected words are counted (R266). -/
def recordTaken (m : Kz) (c : Nat) (d : RecData) (r : OpenRec) : Kz :=
  (m.count .RGN_ECC_CORR (c / 16) d.corrected).modMem c fun y => { y with open_ := y.open_.erase r }

/-- The block once the record `x` that `r` closes as has joined the channel's closed records. -/
def recordJoined (m : Kz) (c : Nat) (d : RecData) (r : OpenRec) (x : Rec) : Kz := addClosed (recordTaken m c d r) c x

/-- After a triggered record the arming machine goes on (R207). -/
def afterClose (m : Kz) (c : Nat) (r : OpenRec) : Kz := if r.kind = .triggered then recordClosed m c r.last else m

section RecordClose
variable {m : Kz} {c : Nat} {d : RecData} {r : OpenRec} (hr : (m.chan c).mem.open_[d.which]? = some r)
include hr

/-- Before the last sample is stored or copied nothing closes. -/
theorem recordClose_early (h : r.extracting = false ∨ m.inst < r.last + delay m c) : recordClose m c d = m := by
  simp [recordClose, hr, h]

variable (hext : r.extracting = true) (hlast : r.last + delay m c ≤ m.inst)
include hext hlast

theorem recordClose_lost (hlost : d.lostDescriptor = true) (hmode : acqMode m (c / 16) ≠ 3) :
    recordClose m c d = afterClose (stubOpen (recordTaken m c d r) c r fECC_UNCORR) c r := by
  simp only [recordClose, hr, hext, not_lt.2 hlast, hlost, hmode]
  rfl

theorem recordClose_stored (hlost : d.lostDescriptor = false) :
    ∃ x, ClosesAs m c d r x ∧ recordClose m c d = afterClose (recordJoined m c d r x) c r := by
  have hwanted : (if (decide (r.kind = .stream) && m.fld F.CH_MEM_CTRL.STREAM_SEL c == 1) = true then 0 else r.len) = wanted m c r := by
    simp [wanted]
  simp only [recordClose, hr, hext, not_lt.2 hlast, hlost]
  refine ⟨_, ?_, rfl⟩
  simp only [hwanted]
  have hlen : (((upTo r.len).map fun i => storedAt m c (r.idx + i)).take (wanted m c r)).length = wanted m c r := by
    simpa [upTo] using wanted_le m c r
  refine ⟨rfl, rfl, rfl, rfl, rfl, rfl, rfl, rfl, ?stub, ?stored, ?length, ?filled, ?whole, ?saturated, ?uncorrected, ?corrected, rfl⟩
  case stored =>
    intro y hy hbad
    rw [getD_filled _ _ (hlen.symm ▸ hy), if_neg (by simpa using hbad)]
    simp [upTo]
  case length => simpa using hlen
  case filled =>
    intro y hbad
    have hy : y < wanted m c r := by
      simp only [List.mem_flatten, List.mem_map] at hbad
      obtain ⟨_, ⟨w, -, rfl⟩, hy⟩ := hbad
      simpa using (List.mem_filter.1 hy).2
    rw [getD_filled _ _ (hlen.symm ▸ hy), if_pos (by simpa using hbad)]
  case whole =>
    intro hnone
    simp [hnone]
  case stub => exact (testBit_closeFlags (b := 0) (by decide) ..).trans (by simp)
  case saturated => exact (testBit_closeFlags (b := 9) (by decide) ..).trans (by simp [-List.any_eq_true, Function.comp_def])
  case uncorrected => exact (testBit_closeFlags (b := 5) (by decide) ..).trans (by simp [-List.isEmpty_iff])
  case corrected => exact (testBit_closeFlags (b := 4) (by decide) ..).trans (by cases d.corrected <;> simp)

end RecordClose

/-- The record that `r` closes as has joined the channel's closed records, and the channel's trigger unit has become `v`. -/
def Joined (m n : Kz) (c : Nat) (d : RecData) (r : OpenRec) (v : Trig) : Prop :=
  n = { m with chans := n.chans, rgns := n.rgns, stats := (m.count .RGN_ECC_CORR (c / 16) d.corrected).stats } ∧
    (∀ x : Nat, x < 192 → x ≠ c → n.chan x = m.chan x) ∧
    (∀ k : Nat, k < 12 → n.rgn k = { m.rgn k with acq := { (m.rgn k).acq with order := (n.rgn k).acq.order } }) ∧
    n.chan c = { m.chan c with
      mem := { (m.chan c).mem with
        open_ := (m.chan c).mem.open_.erase r, closed := (n.chan c).mem.closed, content := (n.chan c).mem.content }
      trig := v } ∧
    (n.chan c).mem.closed.length = (m.chan c).mem.closed.length + 1 ∧
    ∀ x ∈ (n.chan c).mem.closed, x ∈ (m.chan c).mem.closed ∨ ClosesAs m c d r x

section Joined
variable {m : Kz} {c : Nat} {d : RecData} {r : OpenRec}

theorem chan_recordTaken : (recordTaken m c d r).chan c =
    { m.chan c with mem := { (m.chan c).mem with open_ := (m.chan c).mem.open_.erase r } } := by
  rw [recordTaken, Kz.chan_modMem_same, Kz.chan_count]

theorem chan_recordJoined (x : Rec) : (recordJoined m c d r x).chan c = { m.chan c with
    mem := withClosed (recordTaken m c d r) c x { (m.chan c).mem with open_ := (m.chan c).mem.open_.erase r } } := by
  rw [recordJoined, chan_addClosed_same, chan_recordTaken]

theorem joined_recordJoined {x : Rec} (hx : ClosesAs m c d r x) : Joined m (recordJoined m c d r x) c d r (m.chan c).trig := by
  have hchan := chan_recordJoined (m := m) (c := c) (d := d) (r := r) x
  have hclosed : ((recordJoined m c d r x).chan c).mem.closed = insertRec x (m.chan c).mem.closed := by rw [hchan]; rfl
  refine ⟨addClosed_eq .., fun y _ hy => ?_, fun k _ => (order_addClosed ..).all k, ?_, ?_, fun y hy => ?_⟩
  · rw [recordJoined, chan_addClosed_ne _ _ _ hy, recordTaken, Kz.chan_modMem_ne hy, Kz.chan_count]
  · rw [hchan]
    rfl
  · rw [hclosed, length_insertRec]
  · rw [hclosed] at hy
    exact (mem_insertRec hy).imp id fun (h : y = x) => h ▸ hx

theorem Joined.modTrig {n : Kz} {v : Trig} (h : Joined m n c d r v) (f : Trig → Trig) : Joined m (n.modTrig c f) c d r (f v) := by
  obtain ⟨hn, hothers, hrgns, hchan, hlength, hclosed⟩ := h
  have hmem : ((n.modTrig c f).chan c).mem = (n.chan c).mem := by rw [Kz.chan_modTrig_same]
  refine ⟨?_, fun x hx hne => ?_, hrgns, ?_, ?_, ?_⟩
  · exact congrArg (fun y : Kz => { y with chans := (n.modTrig c f).chans }) hn
  · rw [Kz.chan_modTrig_ne hne, hothers x hx hne]
  · rw [Kz.chan_modTrig_same, hchan]
  · rw [hmem, hlength]
  · rwa [hmem]

end Joined

/-! ### The arming machine after a record (R207, R209, R212) -/

/-- Two blocks with the same registers and crossings, and with the same converter and chain in a channel. -/
structure SameGrid (c : Nat) (m n : Kz) : Prop where
  regs : n.regs = m.regs
  tl : n.tl = m.tl
  conv : (n.chan c).conv = (m.chan c).conv
  chain : (n.chan c).chain = (m.chan c).chain

namespace SameGrid
variable {c : Nat} {m n : Kz} (h : SameGrid c m n)
include h

theorem cfgWord : n.cfgWord = m.cfgWord := by
  funext k i
  simp only [Kz.cfgWord, h.regs]

theorem fld : n.fld = m.fld := by
  funext f i
  simp only [Kz.fld, h.cfgWord]

theorem on : n.on = m.on := by
  funext f i
  simp only [Kz.on, h.fld]

theorem decim : decim n c = decim m c := by
  rw [Machine.decim, h.fld, Machine.decim]

theorem rsOn : rsOn n c = rsOn m c := by
  rw [Machine.rsOn, h.on, Machine.rsOn]

theorem rsCross : rsCross n c = rsCross m c := by
  rw [Machine.rsCross, h.rsOn, h.on, Machine.rsCross]

theorem rsK : rsK n c = rsK m c := by
  rw [Machine.rsK, h.fld, Machine.rsK]

theorem convTicks : convTicks n c = convTicks m c := by
  rw [Machine.convTicks, h.conv, Machine.convTicks]

theorem delay : delay n c = delay m c := by
  simp only [Machine.delay, groupDelay, h.decim, h.rsOn, h.convTicks]

theorem gridStart : gridStart n c = gridStart m c := by
  simp only [Machine.gridStart, h.convTicks, h.chain]

theorem gridStep : gridStep n c = gridStep m c := by
  simp only [Machine.gridStep, h.decim, h.rsOn, h.convTicks, h.cfgWord]

theorem samplePos (i : Nat) : samplePos n c i = samplePos m c i := by
  simp only [Machine.samplePos, edgeNo, crossPos158, h.rsCross, h.rsK, h.gridStart, h.gridStep, h.fld, h.tl]

theorem sampleInst (i : Nat) : sampleInst n c i = sampleInst m c i := by
  simp only [Machine.sampleInst, h.samplePos]

theorem sampleAt (i : Nat) : sampleAt n c i = sampleAt m c i := by
  simp only [Machine.sampleAt, edgeBefore, h.rsCross, h.rsK, h.sampleInst, h.gridStart, h.gridStep, h.fld, h.tl]

/-- Whether hold-off has ended depends on the channel's grid and on its hold-off (R209, R210). -/
theorem holdOver (hinst : (n.chan c).trig.holdInst = (m.chan c).trig.holdInst)
    (hcount : (n.chan c).trig.holdCount = (m.chan c).trig.holdCount) (i : Nat) : holdOver n c i = holdOver m c i := by
  rw [Machine.holdOver, holdEnd, h.sampleInst, h.sampleAt, h.on, h.fld, hinst, hcount, Machine.holdOver, holdEnd]

end SameGrid

/-- A trigger unit once the record that stands last in its sequence has closed (R243). -/
def Trig.oneClosed (x : Trig) : Trig := { x with seqClosed := x.seqClosed + 1 }

section RecordClosed
variable {m : Kz} {c : Nat}

theorem recordClosed_unarmed (harm : (m.chan c).trig.arm ≠ .record) (last : Nat) :
    recordClosed m c last = m.modTrig c Trig.oneClosed := by
  have harm' : ((m.modTrig c Trig.oneClosed).chan c).trig.arm ≠ .record := by rw [Kz.chan_modTrig_same]; exact harm
  exact if_neg harm'

theorem recordClosed_record (harm : (m.chan c).trig.arm = .record) (last : Nat) :
    recordClosed m c last = afterRecord (m.modTrig c Trig.oneClosed) c last := by
  have harm' : ((m.modTrig c Trig.oneClosed).chan c).trig.arm = .record := by rw [Kz.chan_modTrig_same]; exact harm
  exact if_pos harm'

theorem sameGrid_oneClosed : SameGrid c m (m.modTrig c Trig.oneClosed) :=
  ⟨rfl, rfl, by rw [Kz.chan_modTrig_same], by rw [Kz.chan_modTrig_same]⟩

theorem holdOver_oneClosed (i : Nat) : holdOver (m.modTrig c Trig.oneClosed) c i = holdOver m c i :=
  sameGrid_oneClosed.holdOver (by rw [Kz.chan_modTrig_same]; rfl) (by rw [Kz.chan_modTrig_same]; rfl) i

theorem holding_oneClosed : ((m.modTrig c Trig.oneClosed).chan c).trig.holding = (m.chan c).trig.holding := by
  rw [Kz.chan_modTrig_same]
  rfl

/-- R211: hold-off still runs after the record. -/
theorem recordClosed_holdsOff (harm : (m.chan c).trig.arm = .record) {last : Nat} (hhold : (m.chan c).trig.holding = true)
    (hover : holdOver m c last = false) :
    recordClosed m c last = m.modTrig c fun x => armTo x.oneClosed (last + 1) .holdoff := by
  rw [recordClosed_record harm, afterRecord, holding_oneClosed, holdOver_oneClosed, hhold, hover, Kz.modTrig_modTrig]
  rfl

/-- R207, R212: hold-off ends no later than the record. -/
theorem recordClosed_rearms (harm : (m.chan c).trig.arm = .record) {last : Nat}
    (h : (m.chan c).trig.holding = false ∨ holdOver m c last = true) :
    recordClosed m c last = m.modTrig c fun x =>
      { armTo { x.oneClosed with holding := false } last .rearm with rearmAt := (last + delay m c) / 16384 + 5 } := by
  have hnot : ¬((m.chan c).trig.holding && !holdOver m c last) = true := by
    rcases h with h | h <;> simp [h]
  have hgrid : SameGrid c m ((m.modTrig c Trig.oneClosed).modTrig c fun x => { x with holding := false }) := by
    rw [Kz.modTrig_modTrig]
    exact ⟨rfl, rfl, by rw [Kz.chan_modTrig_same], by rw [Kz.chan_modTrig_same]⟩
  rw [recordClosed_record harm, afterRecord, holding_oneClosed, holdOver_oneClosed, if_neg hnot, toRearm, hgrid.delay,
    Kz.modTrig_modTrig, Kz.modTrig_modTrig]

end RecordClosed

section RecordJoined
variable {m : Kz} {c : Nat} {d : RecData} {r : OpenRec} {x : Rec}

theorem trig_recordJoined : ((recordJoined m c d r x).chan c).trig = (m.chan c).trig := by
  rw [chan_recordJoined]

theorem sameGrid_recordJoined : SameGrid c m (recordJoined m c d r x) := by
  refine ⟨?_, ?_, ?_, ?_⟩
  · rw [recordJoined, addClosed_eq]
    rfl
  · rw [recordJoined, addClosed_eq]
    rfl
  · rw [chan_recordJoined]
  · rw [chan_recordJoined]

theorem holdOver_recordJoined (i : Nat) : holdOver (recordJoined m c d r x) c i = holdOver m c i :=
  sameGrid_recordJoined.holdOver (by rw [trig_recordJoined]) (by rw [trig_recordJoined]) i

end RecordJoined

end Sys2Proof.Machine

namespace Sys2Proof.Safety
open Machine

/-- Settles O12: what closes is the record as stored (`recordClose_stored`), it joins the channel's closed ones (`joined_recordJoined`), and
after a triggered one the arming machine goes on in one of three ways (`recordClosed_rearms`, `recordClosed_holdsOff`,
`recordClosed_unarmed`); a lost descriptor makes a stub (`stubOpen_oneStub`). -/
theorem recordsClose : Obligations.RecordsClose := by
  unfold Obligations.RecordsClose
  intro s t m c hm
  have row {d : RecData} {P : Kz → Prop} (h : P (recordClose m c.val d)) : After (.recordClose t c d) s P :=
    after_at (f := fun m => recordClose m c.val d) hm rfl h
  refine ⟨?plain, ?rearms, ?holdsOff, ?unarmed, ?lost, ?early⟩
  case plain =>
    intro d r hr hext hlast hwhole hkind
    obtain ⟨x, hx, h⟩ := recordClose_stored hr hext hlast hwhole
    rw [afterClose, if_neg hkind] at h
    exact row (h ▸ joined_recordJoined hx)
  case rearms =>
    intro d r hr hext hlast hwhole hkind harm hhold
    obtain ⟨x, hx, h⟩ := recordClose_stored hr hext hlast hwhole
    rw [afterClose, if_pos hkind, recordClosed_rearms (by rwa [trig_recordJoined])
      (by rwa [trig_recordJoined, holdOver_recordJoined]), sameGrid_recordJoined.delay] at h
    exact row (h ▸ (joined_recordJoined hx).modTrig _)
  case holdsOff =>
    intro d r hr hext hlast hwhole hkind harm hhold hover
    obtain ⟨x, hx, h⟩ := recordClose_stored hr hext hlast hwhole
    rw [afterClose, if_pos hkind, recordClosed_holdsOff (by rwa [trig_recordJoined]) (by rwa [trig_recordJoined])
      (by rwa [holdOver_recordJoined])] at h
    exact row (h ▸ (joined_recordJoined hx).modTrig _)
  case unarmed =>
    intro d r hr hext hlast hwhole hkind harm
    obtain ⟨x, hx, h⟩ := recordClose_stored hr hext hlast hwhole
    rw [afterClose, if_pos hkind, recordClosed_unarmed (by rwa [trig_recordJoined])] at h
    exact row (h ▸ (joined_recordJoined hx).modTrig _)
  case lost =>
    intro d r i hr hext hlast hlost hmode hkind hslot
    have h := recordClose_lost hr hext hlast hlost hmode
    rw [afterClose, if_neg hkind] at h
    exact row (h ▸ stubOpen_oneStub rfl rfl hslot (by decide))
  case early =>
    intro d r hr h
    exact row (recordClose_early hr h)

end Sys2Proof.Safety
namespace Sys2Proof.Machine
open Safety

/-! ### Records that open, and the accept queue (R248 to R253, R273) -/

section Opens
variable {m : Kz} {c : Nat}

section Extraction
variable {r : OpenRec} (hr : (m.chan c).mem.open_.find? (fun x => !x.extracting && decide (x.last + delay m c ≤ m.inst)) = some r)
include hr

/-- R248: the window is whole in the ring, and its copying begins. -/
theorem extractStart_copies (hring : sampleAt m c (ringInst m c + 1) - 1 < r.idx + ringSamples m c) :
    extractStart m c = m.modMem c fun y =>
      { y with open_ := y.open_.map fun x => if x = r then { x with extracting := true } else x } := by
  simp only [extractStart, hr, if_neg (not_le.2 hring)]

/-- R251: the window's start has left the ring. -/
theorem extractStart_late (hring : r.idx + ringSamples m c ≤ sampleAt m c (ringInst m c + 1) - 1) :
    extractStart m c = stubOpen (m.modMem c fun y => { y with open_ := y.open_.erase r }) c r fOVERFLOW := by
  simp only [extractStart, hr, if_pos hring]

end Extraction

/-- The time fields of the stream record that starts at instant `i` (R256). -/
def streamTime (m : Kz) (i : Nat) : RecTime :=
  { ticks := some (m.stampOf i).1, xing := some (((edgeBefore m i).map fun e => (e.orbit, e.bcn)).getD (0, 0)), event := 0,
    epoch := m.tb.epochSeq }

/-- The channel's memory once the first sample of the next stream record has come (R252). -/
def streamed (m : Kz) (c : Nat) (y : Memory) : Memory := { y with streamNext := y.streamNext + recLen m c }

/-- The stream record whose first sample is sample `n` of the channel, in slot `i` (R252). -/
def streamRecord (m : Kz) (c n i : Nat) : OpenRec :=
  { kind := .stream, ser := 0, time := streamTime m (sampleInst m c n), idx := n, len := recLen m c, first := sampleInst m c n,
    last := sampleInst m c (n + recLen m c - 1), refPos := 0, refIdx := 0, ref := sampleInst m c n, slot := some i,
    extracting := true, flags := 0 }

/-- A stub in the place of the next stream record (R253). -/
def streamStub (m : Kz) (c flags : Nat) : Kz :=
  stub (m.modMem c (streamed m c)) c .stream 0 (streamTime m (sampleInst m c (m.chan c).mem.streamNext))
    (some (sampleInst m c (m.chan c).mem.streamNext, sampleInst m c ((m.chan c).mem.streamNext + recLen m c - 1))) flags

section Stream
variable (hmode : acqMode m (c / 16) = 2) (hchain : (m.chan c).chain.start.isSome = true)
  (hrec : m.on F.CH_MEM_CTRL.REC_EN c = true) (hdue : sampleInst m c (m.chan c).mem.streamNext + delay m c ≤ m.inst)
include hmode hchain hrec hdue

/-- R100, R252, R253: the next stream record is a stub where the channel has failed or no slot is free, and else opens in the lowest one. -/
theorem streamStart_eq : streamStart m c =
    if chanFailed m c then streamStub m c fSLICE
    else match freeSlot m c with
    | none => streamStub m c fOVERFLOW
    | some i => m.modMem c fun y => { streamed m c y with
        used := i :: y.used, open_ := y.open_ ++ [streamRecord m c y.streamNext i] } := by
  have htime : streamTime m (sampleInst m c (m.chan c).mem.streamNext) =
      { ticks := some (m.stampOf (sampleInst m c (m.chan c).mem.streamNext)).1
        xing := some (match edgeBefore m (sampleInst m c (m.chan c).mem.streamNext) with
          | some e => (e.orbit, e.bcn) | none => (0, 0))
        event := 0, epoch := m.tb.epochSeq } := by
    unfold streamTime
    cases edgeBefore m (sampleInst m c (m.chan c).mem.streamNext) <;> rfl
  have hslot : freeSlot (m.modMem c (streamed m c)) c = freeSlot m c := by
    simp only [freeSlot, Kz.chan_modMem_same]
    rfl
  have hopens : ∀ i, (takeSlot (m.modMem c (streamed m c)) c i).modMem c
      (fun y => { y with open_ := y.open_ ++ [streamRecord m c (m.chan c).mem.streamNext i] }) =
      m.modMem c fun y => { streamed m c y with
        used := i :: y.used, open_ := y.open_ ++ [streamRecord m c y.streamNext i] } := fun i => by
    rw [takeSlot, Kz.modMem_modMem, Kz.modMem_modMem]
    exact Kz.modMem_congr rfl
  have hfailed : chanFailed (m.modMem c (streamed m c)) c = chanFailed m c := rfl
  have hgoes : (acqMode m (c / 16) = 2 && (m.chan c).chain.start.isSome && m.on F.CH_MEM_CTRL.REC_EN c &&
      decide (sampleInst m c (m.chan c).mem.streamNext + delay m c ≤ m.inst)) = true := by simp [hmode, hchain, hrec, hdue]
  refine (if_pos hgoes).trans ?_
  rw [streamStub, streamStub, htime, ← hfailed, ← hslot]
  by_cases hf : chanFailed (m.modMem c (streamed m c)) c = true
  · rw [if_pos hf]
    exact if_pos hf
  · rw [if_neg hf]
    refine (if_neg hf).trans ?_
    change (match freeSlot (m.modMem c (streamed m c)) c with | none => _ | some i => _) = _
    cases hs : freeSlot (m.modMem c (streamed m c)) c with
    | none => rfl
    | some i =>
      refine .trans ?_ (hopens i)
      rw [streamRecord, htime]
      rfl

end Stream
end Opens

/-- R250, R756: the accept queue's oldest entry leaves once every owing channel has closed or stubbed its record. -/
theorem queueDepart_of_ready {m : Kz} {k : Nat} {e : AccEntry} {r : List AccEntry} (hq : (m.rgn k).acq.queue = e :: r)
    (hready : ((m.rgn k).acq.order.find? (fun x => x.ser = e.ser)).all (fun o => decide (o.owing &&& o.done = o.owing)) = true)
    (hdep : (m.rgn k).lane.departing = false) (hres : (m.rgn k).err.restarting = false) :
    queueDepart m k = m.modRgn k fun x => { x with
      acq := { x.acq with queue := r }, lane := { x.lane with departing := true, departs := (x.lane.departs + 1) % 64 } } := by
  have hdeparts : queueDepart m k = (m.modAcq k fun x => { x with queue := x.queue.drop 1 }).modLane k fun l =>
      { l with departing := true, departs := (l.departs + 1) % 64 } := by
    simp only [queueDepart, hq, hdep, hres]
    cases ho : (m.rgn k).acq.order.find? (fun o => o.ser = e.ser) with
    | none => rfl
    | some o =>
      rw [ho] at hready
      have howed : o.owing &&& o.done = o.owing := by simpa using hready
      simp [howed]
  rw [hdeparts, Kz.modAcq, Kz.modLane, Kz.modRgn_modRgn]
  exact Kz.modRgn_congr (by simp [hq])

/-- R250: a channel still owes its record. -/
theorem queueDepart_of_owed {m : Kz} {k : Nat} {e : AccEntry} {r : List AccEntry} {o : EvOrder} (hq : (m.rgn k).acq.queue = e :: r)
    (ho : (m.rgn k).acq.order.find? (fun x => x.ser = e.ser) = some o) (howed : o.owing &&& o.done ≠ o.owing) :
    queueDepart m k = m := by
  simp [queueDepart, hq, ho, howed]

end Sys2Proof.Machine

namespace Sys2Proof.Machine
open Safety

/-! ### A record's failed words in the log (R266) -/

theorem Kz.logEntry_eq (m : Kz) (d epoch code cls kind idx second value : Nat) : m.logEntry d epoch code cls kind idx second value =
    { m with log := (m.logEntry d epoch code cls kind idx second value).log } := by
  unfold Kz.logEntry
  dsimp only
  split <;> rfl

/-- The entries of failed words touch the log only. -/
theorem logLost_eq (m : Kz) (c seq : Nat) (r : Rec) : logLost m c seq r = { m with log := (logLost m c seq r).log } := by
  have h : { logLost m c seq r with log := {} } = { m with log := {} } :=
    foldl_same (fun x : Kz => { x with log := {} }) (fun x p => congrArg (fun y : Kz => { y with log := {} }) (Kz.logEntry_eq ..)) ..
  exact congrArg (fun x : Kz => { x with log := (logLost m c seq r).log }) h

/-- They depend on the log, the epoch and the failed words. -/
theorem log_logLost_congr {m n : Kz} (hlog : n.log = m.log) (htb : n.tb = m.tb) (c seq : Nat) (r : Rec) :
    (logLost n c seq r).log = (logLost m c seq r).log := by
  unfold logLost
  induction r.lost generalizing m n with
  | nil => exact hlog
  | cons p l ih =>
    refine ih ?_ ?_
    · simp only [Kz.logAt, Kz.logEntry, hlog, htb]
      rfl
    · rw [Kz.logAt_tb, Kz.logAt_tb, htb]

theorem takeTone_none {r : Rec} (h : r.toTone = false) (x : Chain) : takeTone x r = r := if_neg (by simp [h])

/-! ### Release (R245, R258, R262, R263, R315) -/

/-- A record with its number goes to its lane group: it leaves the channel's closed records for its slot and the group's queue, its failed
words are logged, and its channel is done with the event that it is the record of. -/
def toLanes (m : Kz) (c : Nat) (r : Rec) (rest : List Rec) : Kz :=
  let n := logLost (m.modMem c fun y => { nextSeq y with closed := rest, content := slotWrite m c r y.content }) c r.seq r
  (if r.kind = .accept then markOut n c r.ser else n).modLg (c / 16) fun g => { g with queue := g.queue ++ [r] }

section ToLanes
variable (m : Kz) (c : Nat) (r : Rec) (rest : List Rec)

theorem toLanes_eq : toLanes m c r rest = { m with
    chans := (toLanes m c r rest).chans, rgns := (toLanes m c r rest).rgns, log := (logLost m c r.seq r).log } := by
  have hlog := log_logLost_congr (m := m) (n := m.modMem c fun y =>
    { nextSeq y with closed := rest, content := slotWrite m c r y.content }) rfl rfl c r.seq r
  unfold toLanes
  rw [logLost_eq, hlog]
  dsimp only
  split <;> rfl

theorem chan_toLanes (x : Nat) : (toLanes m c r rest).chan x =
    (m.modMem c fun y => { nextSeq y with closed := rest, content := slotWrite m c r y.content }).chan x := by
  unfold toLanes
  rw [logLost_eq]
  dsimp only
  split <;> rfl

theorem rgn_toLanes (k : Nat) : (toLanes m c r rest).rgn k = if k = c / 16 then { m.rgn k with
    acq := { (m.rgn k).acq with order := ((toLanes m c r rest).rgn k).acq.order }
    lg := { (m.rgn k).lg with queue := (m.rgn k).lg.queue ++ [r] } } else m.rgn k := by
  unfold toLanes
  dsimp only
  generalize hn : logLost (m.modMem c _) c r.seq r = n
  have hrgns : n.rgns = m.rgns := by rw [← hn, logLost_eq]; rfl
  have horder : OrderAlone (c / 16) m (if r.kind = .accept then markOut n c r.ser else n) := by
    split
    · unfold markOut
      exact .modOrder hrgns _ fun l => (l.map _).filter _
    · exact .of_rgns hrgns _
  by_cases hk : k = c / 16
  · rw [if_pos hk, hk, Kz.rgn_modLg_same, horder.here]
  · rw [if_neg hk, Kz.rgn_modLg, if_neg hk, horder.others k hk]

/-- What a record's way to its lane group changes, whatever has been counted before. -/
theorem toLanes_spec (stats : Stats) {n : Kz} (hn : n = toLanes { m with stats := stats } c r rest) :
    n = { m with chans := n.chans, rgns := n.rgns, stats := n.stats, log := (logLost m c r.seq r).log } ∧
      (∀ x : Nat, x < 192 → x ≠ c → n.chan x = m.chan x) ∧
      n.chan c = { m.chan c with mem := { nextSeq (m.chan c).mem with closed := rest, content := (n.chan c).mem.content } } ∧
      (∀ k : Nat, k < 12 → n.rgn k = if k = c / 16 then { m.rgn k with
        acq := { (m.rgn k).acq with order := (n.rgn k).acq.order }
        lg := { (m.rgn k).lg with queue := (m.rgn k).lg.queue ++ [r] } } else m.rgn k) ∧ n.stats = stats := by
  have hstats : n.stats = stats := by rw [hn, toLanes_eq]
  refine ⟨?_, fun x _ hx => ?_, ?_, fun k _ => ?_, hstats⟩
  · rw [hstats, ← log_logLost_congr (m := m) (n := { m with stats := stats }) rfl rfl, hn]
    exact toLanes_eq ..
  · rw [hn, chan_toLanes, Kz.chan_modMem_ne hx]
    rfl
  · rw [hn, chan_toLanes, Kz.chan_modMem_same]
    rfl
  · rw [hn]
    exact rgn_toLanes ..

end ToLanes

/-- Whether a channel's records go to any sink (R299). -/
def anySink (m : Kz) (c : Nat) : Bool := (sinks m c).1 || (sinks m c).2.1 || (sinks m c).2.2

theorem anySink_iff {m : Kz} {c : Nat} :
    anySink m c = true ↔ (sinks m c).1 = true ∨ (sinks m c).2.1 = true ∨ (sinks m c).2.2 = true := by
  simp [anySink, or_assoc]

theorem addAnnots_eq {m : Kz} {c : Nat} {r : Rec} {w : Nat × Nat} (hwin : r.win = some w) : ∃ stats, addAnnots m c r =
    ({ r with words := r.words ++ (((m.chan c).eng.annots.filter
      (fun x => decide (w.1 ≤ x.2) && decide (x.2 ≤ w.2))).map (fun x => x.1)).take 8 }, { m with stats := stats }) := by
  simp only [addAnnots, hwin]
  exact ⟨_, rfl⟩

section Release
variable {m : Kz} {c : Nat} {r : Rec} {rest : List Rec}

/-- R262, R263: a record waits for its mask test, for its measurement, for the records before it and for its event. -/
theorem release_waits (hclosed : (m.chan c).mem.closed = r :: rest)
    (h : r.toTest = true ∨ r.toMeasure = true ∨ (m.chan c).mem.open_.any (opensBefore r) = true ∨ eventReady m c r = false) :
    release m c = m := by
  have hnot : (!r.toTest && !r.toMeasure && !(m.chan c).mem.open_.any (opensBefore r) && eventReady m c r) = false := by
    rcases h with h | h | h | h <;> simp only [h, Bool.not_true, Bool.false_and, Bool.and_false]
  simp only [release, hclosed, hnot]
  rfl

variable (hclosed : (m.chan c).mem.closed = r :: rest) (htest : r.toTest = false) (hmeas : r.toMeasure = false) (htone : r.toTone = false)
  (hopen : (m.chan c).mem.open_.any (opensBefore r) = false) (hevent : eventReady m c r = true)
include hclosed htest hmeas htone hopen hevent

/-- R258, R262: a stub goes to the lane group without annotation words. -/
theorem release_stub (hstub : r.flags.testBit 0 = true) :
    release m c = toLanes m c { r with seq := (m.chan c).mem.nextSeq } rest := by
  simp only [release, hclosed]
  refine (if_neg ?ready).trans ?_
  case ready => cases r.win <;> simp [htest, hmeas, hopen, hevent, hstub]
  simp only [takeTone_none htone, hstub, Bool.not_true, Bool.and_false, Bool.false_and, Bool.false_eq_true, if_false, if_true]
  rfl

/-- R258, R262, R342: a record takes its annotation words along to the lane group, and no sink takes a copy. -/
theorem release_lanes {w : Nat × Nat} (hplain : r.flags.testBit 0 = false) (hwin : r.win = some w) (hannot : annotReady m c w = true)
    (hmode : acqMode m (c / 16) = 1 ∨ acqMode m (c / 16) = 2 ∨
      (acqMode m (c / 16) = 0 ∧ (sinks m c).2.1 = false ∧ (sinks m c).2.2 = false)) :
    release m c = toLanes (addAnnots m c r).2 c { (addAnnots m c r).1 with seq := (m.chan c).mem.nextSeq } rest := by
  have hlane : decide (acqMode m (c / 16) = 3) = false := decide_eq_false (by omega)
  have hmode' : acqMode (toLanes (addAnnots m c r).2 c { (addAnnots m c r).1 with seq := (m.chan c).mem.nextSeq } rest) (c / 16) =
      acqMode m (c / 16) := by
    rw [toLanes_eq, addAnnots, hwin]
    rfl
  simp only [release, hclosed]
  refine (if_neg ?ready).trans ?_
  case ready => simp [htest, hmeas, hopen, hevent, htone, hwin, hannot]
  simp only [takeTone_none htone, hlane, hplain, Bool.false_and, Bool.false_eq_true, if_false]
  refine if_neg (Bool.eq_false_iff.1 ?_)
  refine (congrArg (fun x => decide (x = 0) && !false && ((sinks m c).2.1 || (sinks m c).2.2)) hmode').trans ?_
  rcases hmode with h | h | ⟨-, hh, hp⟩
  · simp [h]
  · simp [h]
  · simp [hh, hp]

/-- A record of ACCUMULATE goes to its sinks, but for one with a failed word, which is dropped (R245, R299, R315). -/
theorem release_sinks (hplain : r.flags.testBit 0 = false) (hkind : r.kind = .triggered) (hmode : acqMode m (c / 16) = 3)
    {n : Kz} (hn : n = { m.modMem c (fun y => { y with closed := rest }) with log := (logLost m c 0xFFFFFFFF r).log }) :
    release m c =
      if r.flags.testBit 5 then slotDone (if anySink m c then n.count .RGN_ACC_DROPPED (c / 16) 1 else n) c r.slot
      else if anySink m c then handOver n c r (sinks m c).1 (sinks m c).2.1 (sinks m c).2.2 false
      else slotDone n c r.slot := by
  have hlost : logLost (m.modMem c fun y => { y with closed := rest }) c 0xFFFFFFFF r = n := by
    have hlog := log_logLost_congr (m := m) (n := m.modMem c fun y => { y with closed := rest }) rfl rfl c 0xFFFFFFFF r
    rw [logLost_eq, hlog, hn]
  simp only [release, hclosed]
  refine (if_neg ?ready).trans ?_
  case ready => cases r.win <;> simp [htest, hmeas, hopen, hevent, htone, hmode]
  simp only [takeTone_none htone, hplain, hkind, hmode, hlost]
  rfl

end Release

/-- A record handed to the sinks is the last one they have been given (R314). -/
theorem folds_handOver (m : Kz) (c : Nat) (r : Rec) (a h p copy : Bool) :
    ((handOver m c r a h p copy).chan c).mem.folds.map (fun f => f.rcd) = (m.chan c).mem.folds.map (fun f => f.rcd) ++ [r] := by
  simp [handOver]

theorem handed_handOver (m : Kz) (c : Nat) (r : Rec) (a h p copy : Bool) :
    ((handOver m c r a h p copy).rgn (c / 16)).acc.handed = (m.rgn (c / 16)).acc.handed + 1 := by
  simp [handOver]

theorem slotDone_some {m : Kz} {c : Nat} (hmode : acqMode m (c / 16) ≠ 0) (hstop : (m.chan c).trig.maskStop = false) (i : Nat) :
    slotDone m c (some i) = m.modMem c fun y => { y with used := y.used.erase i } := by
  simp [slotDone, hmode, hstop]

/-- R243, R288: in ACCUMULATE the segment of a released record is free, unless a mask has stopped the channel. -/
theorem slotDone_released {m : Kz} {c : Nat} (hmode : acqMode m (c / 16) = 3) (hstop : (m.chan c).trig.maskStop = false)
    (rest : List Rec) (i : Nat) (stats : Stats) (log : EventLog) :
    slotDone { m.modMem c (fun y => { y with closed := rest }) with stats := stats, log := log } c (some i) =
      { m.modMem c (fun y => { y with closed := rest, used := y.used.erase i }) with stats := stats, log := log } := by
  have hstop' : ((m.modMem c fun y => { y with closed := rest }).chan c).trig.maskStop = false := by
    rw [Kz.chan_modMem_same]
    exact hstop
  have hmode' : acqMode m (c / 16) ≠ 0 := by omega
  rw [← Kz.modMem_modMem m c (fun y => { y with closed := rest }) fun y => { y with used := y.used.erase i }]
  exact slotDone_some (m := { m.modMem c (fun y => { y with closed := rest }) with stats := stats, log := log }) hmode' hstop' i

end Sys2Proof.Machine

namespace Sys2Proof.Safety
open Machine

/-- Settles O13: a window whole in the ring is copied and one that has left it makes a stub (`extractStart_copies`, `extractStart_late`),
a stream record opens or is a stub (`streamStart_eq`), the accept queue's oldest entry leaves or stays (`queueDepart_of_ready`,
`queueDepart_of_owed`), and a released record goes to its lane group (`toLanes_spec`) or to its sinks (`release_sinks`). -/
theorem recordQueues : Obligations.RecordQueues := by
  unfold Obligations.RecordQueues
  intro s t m c hm
  have stream {P : Kz → Prop} (h : P (streamStart m c.val)) : After (.streamRecordStart t c) s P :=
    after_at (f := fun m => streamStart m c.val) hm rfl h
  have released {P : Kz → Prop} (h : P (release m c.val)) : After (.recordRelease t c) s P :=
    after_at (f := fun m => release m c.val) hm rfl h
  refine ⟨?copies, ?late, ?opens, ?full, ?failed, ?departs, ?owed, ?highWater, ?stub, ?lanes, ?sinks, ?dropped, ?waits⟩
  case copies =>
    intro r hr hring
    exact after_at (f := fun m => extractStart m c.val) hm rfl (extractStart_copies hr hring)
  case late =>
    intro r i hr hring hslot
    refine after_at (f := fun m => extractStart m c.val) hm rfl ?_
    dsimp only
    rw [extractStart_late hr hring]
    exact stubOpen_oneStub rfl rfl hslot (by decide)
  case opens =>
    intro i hmode hchain hrec hdue hfailed hfree
    apply stream
    rw [streamStart_eq hmode hchain hrec hdue, if_neg (by simp [hfailed]), hfree]
    rfl
  case full =>
    intro hmode hchain hrec hdue hfailed hfree
    apply stream
    rw [streamStart_eq hmode hchain hrec hdue, if_neg (by simp [hfailed]), hfree]
    exact stub_oneStub rfl rfl (by decide) ..
  case failed =>
    intro hmode hchain hrec hdue hfailed
    apply stream
    rw [streamStart_eq hmode hchain hrec hdue, if_pos hfailed]
    exact stub_oneStub rfl rfl (by decide) ..
  case departs =>
    intro k e r hq hready hdep hres
    exact after_at (f := fun m => queueDepart m k.val) hm rfl (queueDepart_of_ready hq hready hdep hres)
  case owed =>
    intro k e r o hq ho howed
    exact after_at (f := fun m => queueDepart m k.val) hm rfl (queueDepart_of_owed hq ho howed)
  case highWater =>
    intro p k v hacc hclr
    refine after_at (f := fun m => pairWrite m p.val .RGN_ACCQ_STAT k.val v) hm rfl ?_
    have heffect : regEffect (storeReg m .RGN_ACCQ_STAT k v) .RGN_ACCQ_STAT k (m.cfgWord .RGN_ACCQ_STAT k) v =
        accqClear (storeReg m .RGN_ACCQ_STAT k v) k := if_pos hclr
    refine (pairWrite_accepts hacc (place_RGN_ACCQ_STAT k) (by decide) (by decide) (by rw [heffect]; rfl)).trans ?_
    rw [heffect]
    rfl
  case stub =>
    intro r rest hclosed htest hmeas htone hopen hevent hstub
    apply released
    rw [release_stub hclosed htest hmeas htone hopen hevent hstub]
    exact toLanes_spec m c _ rest m.stats rfl
  case lanes =>
    intro r rest w hclosed htest hmeas htone hopen hevent hplain hwin hannot hmode
    apply released
    obtain ⟨stats, hannots⟩ := addAnnots_eq (m := m) (c := c) hwin
    rw [release_lanes hclosed htest hmeas htone hopen hevent hplain hwin hannot hmode, hannots]
    obtain ⟨hn, hothers, hchan, hrgns, -⟩ := toLanes_spec m c _ rest stats rfl
    exact ⟨hn, hothers, hchan, hrgns⟩
  case sinks =>
    intro r rest hclosed htest hmeas htone hopen hevent hplain hgood hkind hmode hany
    apply released
    rw [release_sinks hclosed htest hmeas htone hopen hevent hplain hkind hmode rfl, if_neg (by simp [hgood]),
      if_pos (anySink_iff.2 hany)]
    refine ⟨rfl, handed_handOver .., (folds_handOver ..).trans ?_⟩
    have hfolds : ((m.modMem c fun y => { y with closed := rest }).chan c).mem.folds = (m.chan c).mem.folds := by
      rw [Kz.chan_modMem_same]
    exact congrArg (fun l : List Fold => l.map (fun f => f.rcd) ++ [r]) hfolds
  case dropped =>
    intro r rest i hclosed htest hmeas htone hopen hevent hplain hbad hkind hmode hslot hstop
    apply released
    rw [release_sinks hclosed htest hmeas htone hopen hevent hplain hkind hmode rfl, if_pos hbad, hslot]
    by_cases hany : anySink m c = true
    · rw [if_pos hany, if_pos (anySink_iff.1 hany)]
      exact slotDone_released hmode hstop ..
    · rw [if_neg hany, if_neg (mt anySink_iff.2 hany)]
      exact slotDone_released hmode hstop ..
  case waits =>
    intro r rest hclosed h
    exact released (release_waits hclosed h)

/-! ### A fold of a record that names another channel (R314) -/

/-- A record that names channel 0, on its way to the averager and the histogram. -/
def strayRecord : Fold :=
  ⟨{ kind := .triggered, ch := 0, time := ⟨none, none, 0, 0⟩, win := none, flags := 0 }, 0, true, true, false, false, false⟩

/-- A block in which that record is a fold of channel 16, which is of region 1. -/
def strayFold : Kz := { chans := [(16, { mem := { folds := [strayRecord] } })] }

/-- The hub finds the record at region 1's turn. -/
theorem hubNext_strayFold : hubNext strayFold = some (1, strayRecord) := by decide

/-- Channel 0's fold of it ends region 0's turn. -/
theorem foldTurn_histFold_strayFold : (histFold strayFold 0).hub.foldTurn = 1 := by decide

/-- Refutes O15: its clauses for HIST_FOLD say that the turn goes on from the region `k` in which the hub found the record; the fold
itself goes on from the region of the channel that the record names (`histFold`). The clauses have no hypothesis that the record stands
among the folds of the channel it names: in `strayFold` it names channel 0 and stands in channel 16, so the turn is region 1's next
where the clause for a record that still waits for the averager says region 2's. -/
theorem not_accumulation : ¬ Obligations.Accumulation := by
  unfold Obligations.Accumulation
  intro h
  obtain ⟨-, -, -, -, -, hwaits, -⟩ := h { kz := strayFold } ⟨0, 0⟩ strayFold rfl
  obtain ⟨n, hexec, hn⟩ := hwaits 0 strayRecord 1 hubNext_strayFold rfl rfl rfl (.inl rfl) rfl
  obtain ⟨rfl, -⟩ := State.mk.inj (Host.Outcome.next.inj hexec)
  exact absurd (foldTurn_histFold_strayFold.symm.trans (congrArg (fun m => m.hub.foldTurn) hn)) (by decide)

end Sys2Proof.Safety
end

section
/-! SUPPORT. The family 08_mask_and_measurement.md: what a verdict and a measurement make of the record they are about, and what a mask
STOP makes of a channel that has no open record (R285 to R293). -/
namespace Sys2Proof.Machine

theorem Kz.logE_eq (m : Kz) (code cls kind idx second value : Nat) :
    m.logE code cls kind idx second value = { m with log := (m.logE code cls kind idx second value).log } :=
  Kz.logEntry_eq ..

/-! ### A mask STOP of a channel that has no open record (R288) -/

/-- A trigger unit that a mask has stopped from an instant on; one that is DISARMED stays so. -/
def Trig.maskStopped (x : Trig) (i : Nat) : Trig :=
  { (if x.arm = .disarmed then x else armTo x i .maskStopped) with maskStop := true, holding := false }

/-- A memory that a mask has stopped: the segment that was being written is kept. -/
def Memory.maskStopped (y : Memory) : Memory := { y with kept := y.writing.toList ++ y.kept, open_ := [], writing := none }

/-- The channel's trigger unit and memory at a mask STOP. -/
def chanStopped (m : Kz) (c : Nat) : Kz :=
  (m.modTrig c fun x => x.maskStopped (m.fabric * 16384 - delay m c)).modMem c Memory.maskStopped

/-- The number of the failing record that the log entry of a mask STOP gives (entry 104). -/
def stopSeq (m : Kz) (c : Nat) (r : Rec) : Nat :=
  if acqMode m (c / 16) = 3 then 0xFFFFFFFF else ((m.chan c).mem.nextSeq + (m.chan c).mem.closed.idxOf r) % 2 ^ 32

section
variable {m : Kz} {c : Nat}

theorem endOpen_none (hopen : (m.chan c).mem.open_ = []) (flags : Nat) :
    endOpen m c flags = m.modMem c fun y => { y with open_ := [] } := by
  rw [endOpen, hopen]
  rfl

/-- The three changes of the memory that `maskStop` makes in turn are one. -/
theorem endOpen_maskStopped (hopen : (m.chan c).mem.open_ = []) (flags : Nat) :
    ((endOpen (m.modMem c fun y => { y with
        kept := y.open_.filterMap (fun r => r.slot) ++ y.kept,
        open_ := y.open_.map fun r => { r with slot := none } }) c flags).modMem c fun y => { y with
          kept := match y.writing with | some s => s :: y.kept | none => y.kept,
          writing := none }) = m.modMem c Memory.maskStopped := by
  rw [endOpen_none (by rw [Kz.chan_modMem_same, hopen]; rfl), Kz.modMem_modMem, Kz.modMem_modMem]
  apply Kz.modMem_congr
  rw [Memory.maskStopped, hopen]
  cases (m.chan c).mem.writing <;> rfl

theorem chan_chanStopped_same : (chanStopped m c).chan c = { m.chan c with
    trig := (m.chan c).trig.maskStopped (m.fabric * 16384 - delay m c),
    mem := (m.chan c).mem.maskStopped } := by
  rw [chanStopped, Kz.chan_modMem_same, Kz.chan_modTrig_same]

theorem chan_chanStopped_ne {x : Nat} (h : x ≠ c) : (chanStopped m c).chan x = m.chan x := by
  rw [chanStopped, Kz.chan_modMem_ne h, Kz.chan_modTrig_ne h]

theorem stopSeq_chanStopped (r : Rec) : stopSeq (chanStopped m c) c r = stopSeq m c r := by
  rw [stopSeq, chan_chanStopped_same]
  rfl

theorem maskStop_noneOpen (hstop : (m.chan c).trig.maskStop = false) (hopen : (m.chan c).mem.open_ = []) (r : Rec) :
    maskStop m c r =
      Kz.notify { chanStopped m c with log := (m.logE 0x0140 0 1 c 0 (stopSeq m c r)).log } 2 1 c [] := by
  have hopen' : ((m.modTrig c fun x => x.maskStopped (m.fabric * 16384 - delay m c)).chan c).mem.open_ = [] := by
    rw [Kz.chan_modTrig_same]
    exact hopen
  calc maskStop m c r
      = ((chanStopped m c).logE 0x0140 0 1 c 0 (stopSeq (chanStopped m c) c r)).notify 2 1 c [] := by
        rw [chanStopped, ← endOpen_maskStopped hopen' fMASK, maskStop, if_neg (by simp [hstop])]
        rfl
    _ = _ := by
        rw [stopSeq_chanStopped, Kz.logE_eq]
        rfl

end

/-! ### The record that is tested or measured -/

/-- The closed record `r` of a channel replaced by `q`. -/
def recordReplaced (m : Kz) (c : Nat) (r q : Rec) : Kz :=
  m.modMem c fun y => { y with closed := y.closed.map fun x => if x = r then q else x }

/-- The same where `r` has failed a mask: whatever the action, the failure is counted and marked (R286). -/
def recordFailed (m : Kz) (c : Nat) (r q : Rec) : Kz :=
  ((recordReplaced m c r q).count .RGN_MASK_FAILS (c / 16) 1).markBit F.RGN_MASK_STAT.FAIL_SEEN (c / 16) (c % 16)

/-- A record with its mask word, and with the flags that its verdict leaves it (R286, R291). -/
def withVerdict (m : Kz) (c : Nat) (r : Rec) (flags : Nat) : Rec :=
  { r with toTest := false, words := maskWord (violators m c 0 r) (violators m c 1 r) :: r.words, flags := flags }

/-- The flags of a record that fails a mask under an action (R286). -/
def failFlags (act flags : Nat) : Nat := if 1 ≤ act then flags ||| fMASK else flags

section
variable {m : Kz} {c : Nat} {r q : Rec}

theorem measureDone_some (hr : (m.chan c).mem.closed.find? (fun x => x.toMeasure) = some r) :
    measureDone m c = recordReplaced m c r { r with toMeasure := false, words := r.meas ++ r.words, meas := [] } := by
  rw [measureDone, hr]
  rfl

theorem measureDone_none (h : (m.chan c).mem.closed.find? (fun x => x.toMeasure) = none) : measureDone m c = m := by
  rw [measureDone, h]

theorem maskVerdict_passed (hr : (m.chan c).mem.closed.find? (fun x => x.toTest) = some r) (h0 : violators m c 0 r = [])
    (h1 : violators m c 1 r = []) : maskVerdict m c = recordReplaced m c r (withVerdict m c r r.flags) := by
  unfold maskVerdict
  rw [hr]
  simp only [List.isEmpty_iff, if_pos h0, if_pos h1]
  rfl

/-- R286, R288, R289: a record that fails mask 0 alone is flagged as ACT0 says; under STOP the channel stops too, in the modes that have
an arming machine. -/
theorem maskVerdict_failed (hr : (m.chan c).mem.closed.find? (fun x => x.toTest) = some r) (h0 : violators m c 0 r ≠ [])
    (h1 : violators m c 1 r = []) :
    maskVerdict m c =
      let q := withVerdict m c r (failFlags (m.fld F.CH_MASK_CTRL.ACT0 c) r.flags)
      if m.fld F.CH_MASK_CTRL.ACT0 c = 2 ∧ (acqMode m (c / 16) = 0 ∨ acqMode m (c / 16) = 3) then
        maskStop (recordFailed m c r q) c q
      else recordFailed m c r q := by
  unfold maskVerdict
  rw [hr]
  simp only [List.isEmpty_iff, if_neg h0, if_pos h1, decide_eq_true_eq, Bool.and_eq_true, Bool.or_eq_true]
  rfl

/-! ### The failing record's channel at a STOP -/

theorem chan_recordFailed_same : (recordFailed m c r q).chan c = { m.chan c with
    mem := { (m.chan c).mem with closed := (m.chan c).mem.closed.map fun x => if x = r then q else x } } := by
  rw [recordFailed, Kz.chan_markBit, Kz.chan_count, recordReplaced, Kz.chan_modMem_same]

theorem chan_recordFailed_ne {x : Nat} (h : x ≠ c) : (recordFailed m c r q).chan x = m.chan x := by
  rw [recordFailed, Kz.chan_markBit, Kz.chan_count, recordReplaced, Kz.chan_modMem_ne h]

/-- A channel's delay does not depend on its memory, and the failure's mark is no configuration. -/
theorem delay_recordFailed : delay (recordFailed m c r q) c = delay m c := by
  have hgrid : SameGrid c m (recordReplaced m c r q) :=
    ⟨rfl, rfl, by rw [recordReplaced, Kz.chan_modMem_same], by rw [recordReplaced, Kz.chan_modMem_same]⟩
  exact hgrid.delay

/-- R288: the block after a STOP; its log and its notification are those of the state before the verdict. -/
theorem maskStop_recordFailed (hstop : (m.chan c).trig.maskStop = false) (hopen : (m.chan c).mem.open_ = []) :
    maskStop (recordFailed m c r q) c q = Kz.notify { m with
      chans := (chanStopped (recordFailed m c r q) c).chans,
      stats := (m.count .RGN_MASK_FAILS (c / 16) 1).stats,
      regs := (m.markBit F.RGN_MASK_STAT.FAIL_SEEN (c / 16) (c % 16)).regs,
      log := (m.logE 0x0140 0 1 c 0 (if acqMode m (c / 16) = 3 then 0xFFFFFFFF else ((m.chan c).mem.nextSeq +
        ((m.chan c).mem.closed.map fun x => if x = r then q else x).idxOf q) % 2 ^ 32)).log } 2 1 c [] := by
  rw [maskStop_noneOpen (by rw [chan_recordFailed_same]; exact hstop) (by rw [chan_recordFailed_same]; exact hopen), stopSeq,
    chan_recordFailed_same]
  rfl

theorem chan_maskStop_recordFailed (hstop : (m.chan c).trig.maskStop = false) (hopen : (m.chan c).mem.open_ = []) (x : Nat) :
    (maskStop (recordFailed m c r q) c q).chan x = (chanStopped (recordFailed m c r q) c).chan x := by
  rw [maskStop_recordFailed hstop hopen, Kz.chan, Kz.notify_chans]
  rfl

end

end Sys2Proof.Machine

namespace Sys2Proof.Safety
open Machine

/-- Settles O14: a verdict replaces the record by the one with its mask word (`maskVerdict_passed`) and, where mask 0 fails, counts and
marks the failure (`maskVerdict_failed`); a STOP then leaves the channel as `chanStopped` says (`maskStop_recordFailed`). A measurement
replaces the record alone (`measureDone_some`). -/
theorem maskAndMeasurement : Obligations.MaskAndMeasurement := by
  unfold Obligations.MaskAndMeasurement
  intro s t m c hm
  have judged {P : Kz → Prop} (h : P (maskVerdict m c.val)) : After (.maskVerdict t c) s P :=
    after_at (f := fun m => maskVerdict m c.val) hm rfl h
  have measured {P : Kz → Prop} (h : P (measureDone m c.val)) : After (.measurementDone t c) s P :=
    after_at (f := fun m => measureDone m c.val) hm rfl h
  refine ⟨?passes, ?counts, ?tags, ?stops, ?measures, ?idle⟩
  case passes =>
    intro r hr h0 h1
    exact judged (maskVerdict_passed hr h0 h1)
  case counts =>
    intro r hr h0 h1 hact
    apply judged
    rw [maskVerdict_failed hr h0 h1, hact]
    rfl
  case tags =>
    intro r hr h0 h1 h
    have hact : 1 ≤ m.fld F.CH_MASK_CTRL.ACT0 c.val := by omega
    apply judged
    rw [maskVerdict_failed hr h0 h1, failFlags, if_pos hact]
    exact if_neg (by omega)
  case stops =>
    rintro r q hr h0 h1 hact hmode hstop hopen rfl
    apply judged
    rw [maskVerdict_failed hr h0 h1, hact]
    dsimp only
    rw [if_pos ⟨rfl, hmode⟩]
    have hchan := chan_maskStop_recordFailed (r := r) (q := withVerdict m c.val r (failFlags 2 r.flags)) hstop hopen
    have hhere := (hchan c.val).trans chan_chanStopped_same
    rw [chan_recordFailed_same, delay_recordFailed] at hhere
    refine ⟨?_, fun x _ hne => ?_, ?_, ?_⟩
    · rw [maskStop_recordFailed hstop hopen, Kz.notify_chans]
      rfl
    · rw [hchan, chan_chanStopped_ne hne, chan_recordFailed_ne hne]
    · rw [hhere, Memory.maskStopped, hopen]
      rfl
    · rw [hhere]
      rfl
  case measures =>
    intro r hr
    exact measured (measureDone_some hr)
  case idle =>
    intro h
    exact measured (measureDone_none h)

end Sys2Proof.Safety
end

section
/-! SUPPORT. The family 09_accumulation.md: the sums of an averager (R303) and the bins of a histogram (R309, R310). -/
namespace Sys2Proof.Machine

/-! ### Sums (R303) -/

theorem satS_eq_self_iff (w : Nat) (x : Int) :
    satS w x = x ↔ -((2 ^ (w - 1) : Nat) : Int) ≤ x ∧ x < ((2 ^ (w - 1) : Nat) : Int) := by
  unfold satS
  dsimp only
  have hpos : 0 < 2 ^ (w - 1) := Nat.two_pow_pos _
  generalize 2 ^ (w - 1) = p at *
  split
  · omega
  · split <;> omega

/-- A value that fits a signed width fits it after a shift to the right, too. -/
theorem satS_shiftRight {w : Nat} {x : Int} (h : satS w x = x) (s : Nat) :
    satS w (x / (2 ^ s : Nat)) = x / (2 ^ s : Nat) := by
  rw [satS_eq_self_iff] at h ⊢
  obtain ⟨hlow, hhigh⟩ := h
  have hpos : (1 : Int) ≤ (2 ^ s : Nat) := mod_cast Nat.one_le_two_pow
  refine ⟨Int.le_ediv_of_mul_le (by omega) ?low, Int.ediv_lt_of_lt_mul (by omega) ?high⟩
  · nlinarith
  · nlinarith

@[simp] theorem addSums_nil_samples (s : Nat) (sums : List Int) : addSums s sums [] = (sums, false) := by
  cases sums <;> rfl
@[simp] theorem addSums_cons_cons (s : Nat) (a x : Int) (as xs : List Int) :
    (addSums s (a :: as) (x :: xs)).1 = satS 32 (a + x / (2 ^ s : Nat)) :: (addSums s as xs).1 := rfl
@[simp] theorem addSums_nil_sums (s : Nat) (x : Int) (xs : List Int) :
    (addSums s [] (x :: xs)).1 = x / (2 ^ s : Nat) :: (addSums s [] xs).1 := rfl

theorem length_addSums (s : Nat) (sums samples : List Int) :
    (addSums s sums samples).1.length = max sums.length samples.length := by
  induction samples generalizing sums with
  | nil => simp
  | cons x xs ih =>
    cases sums with
    | nil => simp [ih]
    | cons a as => simp [ih]

/-- The sum at an index of the record: the sample there, shifted, is added, and the sum holds at the ends of 32 bits. -/
theorem getD_addSums_of_lt (s : Nat) (sums samples : List Int) (hfit : ∀ a ∈ samples, satS 32 a = a)
    {i : Nat} (hi : i < samples.length) :
    (addSums s sums samples).1.getD i 0 = satS 32 (sums.getD i 0 + samples.getD i 0 / (2 ^ s : Nat)) := by
  induction samples generalizing sums i with
  | nil => exact absurd hi (Nat.not_lt_zero i)
  | cons x xs ih =>
    obtain ⟨hx, hxs⟩ := List.forall_mem_cons.mp hfit
    have hfirst := satS_shiftRight hx s
    cases i with
    | zero =>
      cases sums with
      | nil => rw [addSums_nil_sums, List.getD_cons_zero, List.getD_cons_zero, List.getD_nil, zero_add, hfirst]
      | cons a as => rfl
    | succ j =>
      have hj : j < xs.length := Nat.lt_of_succ_lt_succ hi
      cases sums with
      | nil => exact ih [] hxs hj
      | cons a as => exact ih as hxs hj

/-- Beyond the record's end the sums stay as they were. -/
theorem getD_addSums_of_le (s : Nat) (sums samples : List Int) {i : Nat} (hi : samples.length ≤ i) :
    (addSums s sums samples).1.getD i 0 = sums.getD i 0 := by
  induction samples generalizing sums i with
  | nil => rw [addSums_nil_samples]
  | cons x xs ih =>
    obtain ⟨j, rfl⟩ : ∃ j, i = j + 1 := Nat.exists_eq_add_of_le' (Nat.one_le_of_lt hi)
    have hj : xs.length ≤ j := Nat.le_of_succ_le_succ hi
    cases sums with
    | nil => exact ih [] hj
    | cons a as => exact ih as hj

/-! ### Bins (R309, R310) -/

theorem get_binAdd_same {h : Hist} {b : Nat} (hb : Sparse.get 0 h.bins b < 2 ^ 32) :
    Sparse.get 0 (binAdd h b).bins b = min (2 ^ 32 - 1) (Sparse.get 0 h.bins b + 1) := by
  unfold binAdd
  dsimp only
  split
  · rw [Sparse.get_set_same]
    omega
  · dsimp only
    omega

theorem get_binAdd_ne (h : Hist) {b i : Nat} (hne : i ≠ b) :
    Sparse.get 0 (binAdd h b).bins i = Sparse.get 0 h.bins i := by
  unfold binAdd
  dsimp only
  split
  · exact Sparse.get_set_ne 0 h.bins b i _ hne
  · rfl

/-- After a record's samples are counted a bin holds its old value and the samples that fall into it, up to its limit. -/
theorem get_foldl_binAdd (h : Hist) (xs : List Int) (b : Nat) (hb : Sparse.get 0 h.bins b < 2 ^ 32) :
    Sparse.get 0 (xs.foldl (fun h x => binAdd h (binOf x)) h).bins b =
      min (2 ^ 32 - 1) (Sparse.get 0 h.bins b + (xs.filter (fun x => binOf x = b)).length) := by
  induction xs generalizing h with
  | nil =>
    simp only [List.foldl_nil, List.filter_nil, List.length_nil]
    omega
  | cons x xs ih =>
    rw [List.foldl_cons]
    by_cases hx : binOf x = b
    · have hsame := get_binAdd_same hb
      rw [hx, ih _ (by omega), hsame, List.filter_cons_of_pos (by simpa using hx), List.length_cons]
      omega
    · have hother := get_binAdd_ne h (Ne.symm hx)
      rw [ih _ (by omega), hother, List.filter_cons_of_neg (by simpa using hx)]

end Sys2Proof.Machine

namespace Sys2Proof.Safety
open Machine

/-- Settles O16: the sums by induction along `addSums`, a sample that meets no sum yet fitting 32 bits after its shift
(`satS_shiftRight`); the bins by induction on the samples counted (`get_foldl_binAdd`). -/
theorem sumsHoldAndBinsCount : Obligations.SumsHoldAndBinsCount := by
  unfold Obligations.SumsHoldAndBinsCount
  refine ⟨fun s sums samples => ⟨length_addSums s sums samples, ?within, ?beyond⟩, ?bins⟩
  case within =>
    intro hfit i hi
    exact getD_addSums_of_lt s sums samples hfit hi
  case beyond =>
    intro i hi
    exact getD_addSums_of_le s sums samples hi
  case bins => exact get_foldl_binAdd

end Sys2Proof.Safety
end

section
/-! SUPPORT. The family 10_feature_engines.md: what the lane-wise vector instructions give (R338, R339), and what a bundle makes of its
engine, of its data memory and of its channel's triggers (R334 to R344). -/
namespace Sys2Proof.Machine

/-! ### Lanes (R326, R338) -/

@[simp] theorem length_vreg (e : Engine) (r : Nat) : (vreg e r).length = 16 := by simp [vreg, upTo]
@[simp] theorem length_areg (e : Engine) (r : Nat) : (areg e r).length = 16 := by simp [areg, upTo]

section Lanes
variable {α β γ : Type}

/-- A list is its elements by index. -/
theorem eq_map_getD {l : List α} {n : Nat} (h : l.length = n) (d : α) : l = (upTo n).map (fun i => l.getD i d) := by
  refine List.ext_getElem (by simp [upTo, h]) fun i hi _ => ?_
  simp [upTo, hi]

theorem map_lanes {l : List α} {n : Nat} (h : l.length = n) (d : α) (f : α → β) :
    l.map f = (upTo n).map (fun i => f (l.getD i d)) := by
  conv_lhs => rw [eq_map_getD h d, List.map_map]
  rfl

theorem zipWith_lanes {x : List α} {y : List β} {n : Nat} (hx : x.length = n) (hy : y.length = n) (d : α) (d' : β)
    (f : α → β → γ) : x.zipWith f y = (upTo n).map (fun i => f (x.getD i d) (y.getD i d')) := by
  conv_lhs => rw [eq_map_getD hx d, eq_map_getD hy d', List.zipWith_map, List.zipWith_self]

end Lanes

theorem map_vreg (e : Engine) (r : Nat) (f : Int → Int) : (vreg e r).map f = (upTo 16).map (fun l => f ((vreg e r).getD l 0)) :=
  map_lanes (length_vreg e r) 0 f

theorem map_areg (e : Engine) (r : Nat) (f : Int → Int) : (areg e r).map f = (upTo 16).map (fun l => f ((areg e r).getD l 0)) :=
  map_lanes (length_areg e r) 0 f

theorem lanes2_vreg (e : Engine) (r s : Nat) (f : Int → Int → Int) :
    lanes2 f (vreg e r) (vreg e s) = (upTo 16).map (fun l => f ((vreg e r).getD l 0) ((vreg e s).getD l 0)) :=
  zipWith_lanes (length_vreg e r) (length_vreg e s) 0 0 f

/-- R339, ACC.MAC: each lane's product joins its accumulator. -/
theorem zipWith_areg_lanes2 (e : Engine) (n r s : Nat) (f g : Int → Int → Int) :
    (areg e n).zipWith f (lanes2 g (vreg e r) (vreg e s)) =
      (upTo 16).map (fun l => f ((areg e n).getD l 0) (g ((vreg e r).getD l 0) ((vreg e s).getD l 0))) := by
  conv_lhs => rw [lanes2_vreg, eq_map_getD (length_areg e n) 0, List.zipWith_map, List.zipWith_self]

/-- R339, SEL: each lane is picked by the lane of a third register. -/
theorem zipWith_vreg_zip (e : Engine) (n r s : Nat) (f : Int → Int × Int → Int) :
    (vreg e n).zipWith f ((vreg e r).zip (vreg e s)) =
      (upTo 16).map (fun l => f ((vreg e n).getD l 0) ((vreg e r).getD l 0, (vreg e s).getD l 0)) := by
  rw [List.zip, zipWith_lanes (length_vreg e r) (length_vreg e s) 0 0]
  conv_lhs => rw [eq_map_getD (length_vreg e n) 0, List.zipWith_map, List.zipWith_self]

end Sys2Proof.Machine

namespace Sys2Proof.Safety
open Machine

/-- Settles O19: an instruction maps one register's lanes (`map_vreg`, `map_areg`) or joins those of several (`lanes2_vreg`,
`zipWith_areg_lanes2`, `zipWith_vreg_zip`). -/
theorem vectorOperations : Obligations.VectorOperations := by
  unfold Obligations.VectorOperations
  intro m c e w fr b
  refine ⟨?add, ?sub, ?adds, ?subs, ?muls, ?mac, ?rd, ?min, ?max, ?shr, ?shl, ?sat, ?gt, ?eq, ?sel⟩
  case rd =>
    intro hop hsh
    simp only [vecOp, hop, if_pos hsh, map_areg]
  case mac =>
    intro hop
    simp only [vecOp, hop, zipWith_areg_lanes2]
  case sel =>
    intro hop
    simp only [vecOp, hop, zipWith_vreg_zip, bne_iff_ne]
  case gt | eq =>
    intro hop
    simp only [vecOp, hop, lanes2_vreg, decide_eq_true_eq]
  case shr | shl | sat =>
    intro hop
    simp only [vecOp, hop, map_vreg]
  case add | sub | adds | subs | muls | min | max =>
    intro hop
    simp only [vecOp, hop, lanes2_vreg]

end Sys2Proof.Safety

namespace Sys2Proof.Machine
open Safety

/-! ### A channel's engine -/

theorem Kz.modEng_modEng (m : Kz) (c : Nat) (f g : Engine → Engine) : (m.modEng c f).modEng c g = m.modEng c fun x => g (f x) := by
  simp [Kz.modEng, Kz.modChan, Sparse.mod, Sparse.set_set]

/-- A change of an engine in a block whose memory alone has changed. -/
theorem Kz.modEng_of_mem {m n : Kz} (h : n = { m with mem := n.mem }) (c : Nat) (f : Engine → Engine) :
    n.modEng c f = { m.modEng c f with mem := n.mem } :=
  congrArg (fun z : Kz => z.modEng c f) h

/-- The instants of a channel's samples do not depend on its engine. -/
theorem sameGrid_modEng (m : Kz) (c : Nat) (f : Engine → Engine) : SameGrid c m (m.modEng c f) :=
  ⟨rfl, rfl, by rw [Kz.chan_modEng_same], by rw [Kz.chan_modEng_same]⟩

theorem SameGrid.posInst {c : Nat} {m n : Kz} (h : SameGrid c m n) (i f : Nat) : posInst n c i f = posInst m c i f := by
  simp only [Machine.posInst, h.sampleInst]

/-! ### Results of the slots (R336, R338 to R340) -/

theorem vecOp_nop {b : Nat} (h : vop b = 0) (m : Kz) (c : Nat) (e : Engine) (w : List Int) (fr : Nat) :
    vecOp m c e w fr b = .none := by
  simp only [vecOp, h]

/-- R339, ACC.RD: what reads an accumulator writes a vector register. -/
theorem vop_ne_of_vecOp {m : Kz} {c : Nat} {e : Engine} {w : List Int} {fr b : Nat} {v : VRes} (h : vecOp m c e w fr b = v)
    (hv : ∀ l, v ≠ .vec l) : vop b ≠ 0x0D := by
  intro hop
  simp only [vecOp, hop] at h
  split at h
  · exact hv _ h.symm
  · exact hv _ h.symm

/-- R339: only the opcodes from SADD to CROSS, but for ST, write a scalar register. -/
theorem sop_of_scalarOp {m : Kz} {c : Nat} {e : Engine} {b : Nat} {z : Int} (h : scalarOp m c e b = some z) :
    sop b ≠ 0 ∧ sop b ≠ 0x0A ∧ sop b < 0x0F := by
  unfold scalarOp at h
  dsimp only at h
  split at h
  case h_14 => exact absurd h (Option.some_ne_none z).symm
  all_goals omega

theorem scalarOp_none {b : Nat} (h : sop b = 0 ∨ sop b = 0x0A ∨ 0x0F ≤ sop b) (m : Kz) (c : Nat) (e : Engine) :
    scalarOp m c e b = none := by
  refine Option.eq_none_iff_forall_ne_some.2 fun z hz => ?_
  have hsop := sop_of_scalarOp hz
  omega

theorem sext_of_lt {w x : Nat} (hx : x < 2 ^ (w - 1)) : sext w x = x := by
  have hlt : x < 2 ^ w := hx.trans_le (Nat.pow_le_pow_right (by decide) (Nat.sub_le w 1))
  simp only [sext, Nat.mod_eq_of_lt hlt, if_pos hx]

/-! ### Where a bundle goes on (R335, R339, R341) -/

/-- Whether a bundle's scalar slot takes its branch. -/
def branches (e : Engine) (b : Nat) : Bool :=
  sop b = 0x10 || (sop b = 0x11 && sreg e (sa b % 16) == 0) || (sop b = 0x12 && sreg e (sa b % 16) != 0)

theorem branches_iff (e : Engine) (b : Nat) : branches e b = true ↔
    sop b = 0x10 ∨ (sop b = 0x11 ∧ sreg e (sa b % 16) = 0) ∨ (sop b = 0x12 ∧ sreg e (sa b % 16) ≠ 0) := by
  simp [branches, or_assoc]

/-- R339: only BR, BRZ and BRNZ branch. -/
theorem branches_of_sop (e : Engine) {b : Nat} (h : sop b < 0x10 ∨ 0x12 < sop b) : branches e b = false := by
  rw [Bool.eq_false_iff, ne_eq, branches_iff]
  omega

/-- An activation in progress, after a bundle that neither branches nor starts a loop. -/
def Activation.next (a : Activation) : Activation :=
  { a with pc := (afterBundle a.pc a.loops).1, loops := (afterBundle a.pc a.loops).2, used := a.used + 1 }

/-- The feature word after a bundle (R341). -/
def featureAfter (e : Engine) (b w : Nat) : Nat :=
  if sop b = 0x14 then (min (max (sregS e (sa b % 16)) 0) 65534).toNat else w

/-- An activation in progress, after a bundle. -/
def Activation.after (a : Activation) (e : Engine) (b : Nat) : Activation :=
  let next :=
    if branches e b then (starget b, a.loops)
    else if sop b = 0x0F then (a.pc + 1, (a.pc + 1, starget b, scnt b) :: a.loops)
    else afterBundle a.pc a.loops
  { a with pc := next.1, loops := next.2, used := a.used + 1 + b2n (branches e b), feature := featureAfter e b a.feature }

section After
variable (a : Activation) {e : Engine} {b : Nat}

theorem Activation.after_branch (h : branches e b = true) : a.after e b = { a with pc := starget b, used := a.used + 2 } := by
  have hsop : sop b ≠ 0x14 := by
    rw [branches_iff] at h
    omega
  simp [Activation.after, featureAfter, h, hsop, b2n]

theorem Activation.after_loop (h : sop b = 0x0F) :
    a.after e b = { a with pc := a.pc + 1, loops := (a.pc + 1, starget b, scnt b) :: a.loops, used := a.used + 1 } := by
  simp [Activation.after, featureAfter, branches_of_sop e (b := b) (by omega), h, b2n]

theorem Activation.after_of_not_branch (h : branches e b = false) (hloop : sop b ≠ 0x0F) :
    a.after e b = { a.next with feature := featureAfter e b a.feature } := by
  simp [Activation.after, Activation.next, h, hloop, b2n]

/-- A bundle whose scalar slot neither branches, starts a loop nor writes the feature word. -/
theorem Activation.after_next (h : branches e b = false) (hloop : sop b ≠ 0x0F) (hprim : sop b ≠ 0x14) : a.after e b = a.next := by
  rw [Activation.after_of_not_branch a h hloop, featureAfter, if_neg hprim]
  rfl

/-- R339: every opcode below LOOP, and of those above BRNZ every one but EMIT.PRIM, lets the program go on. -/
theorem Activation.after_plain (h : sop b < 0x0F ∨ sop b = 0x13 ∨ 0x14 < sop b) : a.after e b = a.next :=
  a.after_next (branches_of_sop e (by omega)) (by omega) (by omega)

end After

/-! ### What a bundle writes (R336) -/

/-- R336: words of data memory written from an address on, wrapping at its end. -/
def setDataWords (m : Kz) (c k : Nat) (l : List Int) : Kz :=
  l.zipIdx.foldl (fun (z : Kz) (y : Int × Nat) => setDataWord z c ((k + 2 * y.2) % 32768) (toU 16 y.1)) m

/-- Writes of data words change the memory alone. -/
theorem setDataWords_mem (m : Kz) (c k : Nat) (l : List Int) :
    setDataWords m c k l = { m with mem := (setDataWords m c k l).mem } := by
  unfold setDataWords
  generalize l.zipIdx = ys
  induction ys generalizing m with
  | nil => rfl
  | cons y ys ih => exact ih (setDataWord m c ((k + 2 * y.2) % 32768) (toU 16 y.1))

/-- The data memory after a bundle's stores, the vector slot's last. -/
def bundleStores (m : Kz) (c b : Nat) (v : VRes) : Kz :=
  let e := (m.chan c).eng
  let m := if sop b = 0x0A then setDataWord m c (dataAddr (sregS e (sa b % 16) + sext 13 (simm b))) (sreg e (sd b)) else m
  match v with
  | .store a l => setDataWords m c a l
  | _ => m

section Stores
variable {m : Kz} {c b : Nat}

theorem bundleStores_none (v : VRes) (h : sop b ≠ 0x0A) (hv : ∀ k l, v ≠ .store k l) : bundleStores m c b v = m := by
  cases v with
  | store k l => exact absurd rfl (hv k l)
  | none | vec l | acc k l => exact if_neg h

theorem bundleStores_vector (h : sop b ≠ 0x0A) (k : Nat) (l : List Int) :
    bundleStores m c b (.store k l) = setDataWords m c k l := by
  simp only [bundleStores, if_neg h]

theorem bundleStores_scalar (h : sop b = 0x0A) : bundleStores m c b .none = setDataWord m c
    (dataAddr (sregS (m.chan c).eng (sa b % 16) + sext 13 (simm b))) (sreg (m.chan c).eng (sd b)) :=
  if_pos h

/-- A bundle's stores change the memory alone. -/
theorem bundleStores_mem (v : VRes) : bundleStores m c b v = { m with mem := (bundleStores m c b v).mem } := by
  cases v with
  | store k l =>
    simp only [bundleStores]
    split
    · exact setDataWords_mem ..
    · exact setDataWords_mem ..
  | none | vec l | acc k l =>
    simp only [bundleStores]
    split <;> rfl

end Stores

/-- The registers after both slots' results. -/
def bundleWrites (e : Engine) (b : Nat) (v : VRes) (s : Option Int) : Engine :=
  let e := match v with
    | .vec l => setV e (vd b) l
    | .acc n l => setA e n l
    | _ => e
  match s with
  | some x => setS e (sd b) x
  | none => e

/-- An engine whose activation in progress has raised its trigger. -/
def Engine.raised (x : Engine) : Engine := { x with act := x.act.map (fun a => { a with raised := true }) }

/-- R344: a bundle raises a trigger at a position in its window, once in an activation. -/
def raiseTrig (m : Kz) (c : Nat) (e : Engine) (a : Activation) (g : EngImage) (b : Nat) : Kz :=
  let p := sregS e (sa b % 16)
  if a.raised || p < 0 || ((g.winLen : Int) - 1) * 1024 < p then m.count .ENG_REFUSED (c / 16) 1
  else fireTrig (m.modEng c Engine.raised) c 7
    (posInst (m.modEng c Engine.raised) c (a.idx + p.toNat / 1024 + 1) (p.toNat % 1024)) (m.fabric + 1)

/-- What a bundle's scalar slot does beyond registers, memory and the program's course (R342 to R344), in a block that has those. -/
def bundleActs (m : Kz) (c : Nat) (e : Engine) (a : Activation) (g : EngImage) (b : Nat) : Kz :=
  let m := if sop b = 0x15 then m.modEng c (fun x => { x with annots := x.annots ++ [((0x80 + simm b % 128) <<< 56 |||
      (a.bcn % 65536) <<< 40 ||| (sreg e (sa b % 16) % 65536) <<< 16 ||| sreg e (ssb b) % 65536, a.mark)] }) else m
  let m := if sop b = 0x16 && (m.fld F.CH_TRIG_CTRL.SRC_EN c).testBit 7 then raiseTrig m c e a g b else m
  if sop b = 0x13 then m.modEng c (fun x => { x with
    act := none, maxUsed := max x.maxUsed (a.after e b).used,
    handoffs := x.handoffs.map (fun h => if h.1 = a.crossing then (h.1, h.2.1, (a.after e b).feature) else h) })
  else m

/-- Bundle `b` of activation `a` is the next one that a channel's engine executes, its budget not used up (R331, R335, R345). -/
structure Executes (m : Kz) (c : Nat) (a : Activation) (g : EngImage) (b : Nat) : Prop where
  state : (m.chan c).eng.state = .running
  act : (m.chan c).eng.act = some a
  image : (m.chan c).eng.image = some g
  budget : a.used < m.fld F.ENG_BUDGET.B_DECL (c / 16)
  fetch : g.prog.getD a.pc 0 = b

/-- The block after a bundle's registers, memory and course. -/
def bundleDone (m : Kz) (c : Nat) (a : Activation) (b : Nat) : Kz :=
  let e := (m.chan c).eng
  let v := vecOp m c e a.window 0 b
  (bundleStores m c b v).modEng c (fun _ => { bundleWrites e b v (scalarOp m c e b) with act := some (a.after e b) })

section Bundle
variable {m : Kz} {c : Nat} {a : Activation} {g : EngImage} {b : Nat}

/-- R335, R336: a bundle that leaves no value open is its writes and then what its scalar slot does beside them. -/
theorem bundle_eq (h : Executes m c a g b) (hv : vop b ≠ 0x0D) :
    bundle m c = bundleActs (bundleDone m c a b) c (m.chan c).eng a g b := by
  obtain ⟨hstate, hact, himage, hbudget, hfetch⟩ := h
  have hgo : (decide ((m.chan c).eng.state ≠ .running) || decide (m.fld F.ENG_BUDGET.B_DECL (c / 16) ≤ a.used)) = false := by
    simpa [hstate] using hbudget
  have hfree : (decide (vop b = 0x0D) && decide (40 ≤ bits (vx b) 7 2)) = false := by rw [decide_eq_false hv, Bool.false_and]
  unfold bundle
  simp only [hact, himage, hgo, hfetch, hfree, Bool.false_eq_true, if_false]
  rfl

/-- R345, R352: no bundle is executed without an activation, an image and budget left, or outside RUNNING. -/
theorem bundle_idle (h : (m.chan c).eng.act = none ∨ (m.chan c).eng.image = none ∨ (m.chan c).eng.state ≠ .running ∨
    (m.chan c).eng.act.any (fun a => decide (m.fld F.ENG_BUDGET.B_DECL (c / 16) ≤ a.used)) = true) : bundle m c = m := by
  unfold bundle
  cases hact : (m.chan c).eng.act with
  | none => simp only [hact]
  | some a =>
    cases himage : (m.chan c).eng.image with
    | none => simp only [hact, himage]
    | some g =>
      have hstop : (decide ((m.chan c).eng.state ≠ .running) || decide (m.fld F.ENG_BUDGET.B_DECL (c / 16) ≤ a.used)) = true := by
        simpa [hact, himage] using h
      simp only [hact, himage, hstop, if_true]

theorem bundleActs_none {n : Kz} {e : Engine} (hwait : sop b ≠ 0x13) (hannot : sop b ≠ 0x15) (hraise : sop b ≠ 0x16) :
    bundleActs n c e a g b = n := by
  simp [bundleActs, hwait, hannot, hraise]

theorem bundleActs_annot {n : Kz} {e : Engine} (h : sop b = 0x15) : bundleActs n c e a g b =
    n.modEng c (fun x => { x with annots := x.annots ++ [((0x80 + simm b % 128) <<< 56 |||
      (a.bcn % 65536) <<< 40 ||| (sreg e (sa b % 16) % 65536) <<< 16 ||| sreg e (ssb b) % 65536, a.mark)] }) := by
  simp [bundleActs, h]

theorem bundleActs_wait {n : Kz} {e : Engine} (h : sop b = 0x13) : bundleActs n c e a g b =
    n.modEng c (fun x => { x with
      act := none, maxUsed := max x.maxUsed (a.after e b).used,
      handoffs := x.handoffs.map (fun h => if h.1 = a.crossing then (h.1, h.2.1, (a.after e b).feature) else h) }) := by
  simp [bundleActs, h]

theorem bundleActs_raise {f : Engine → Engine} {e : Engine} (h : sop b = 0x16)
    (hsrc : (m.fld F.CH_TRIG_CTRL.SRC_EN c).testBit 7 = true) :
    bundleActs (m.modEng c f) c e a g b = raiseTrig (m.modEng c f) c e a g b := by
  simp [bundleActs, h, hsrc]

/-- R344: the position of a raised trigger lies in the window, and none was raised before. -/
theorem raiseTrig_within {n : Kz} {e : Engine} (hraised : a.raised = false) (hpos : sreg e (sa b % 16) ≤ (g.winLen - 1) * 1024)
    (hlen : g.winLen < 2 ^ 16) (hone : 1 ≤ g.winLen) : raiseTrig n c e a g b =
    fireTrig (n.modEng c Engine.raised) c 7
      (posInst n c (a.idx + sreg e (sa b % 16) / 1024 + 1) (sreg e (sa b % 16) % 1024)) (n.fabric + 1) := by
  have hsigned : sregS e (sa b % 16) = (sreg e (sa b % 16) : Int) := sext_of_lt (by omega)
  have hwithin : (a.raised || decide (sregS e (sa b % 16) < 0) || decide (((g.winLen : Int) - 1) * 1024 < sregS e (sa b % 16))) =
      false := by
    simp only [hsigned, hraised, Bool.false_or, Bool.or_eq_false_iff, decide_eq_false_iff_not]
    omega
  rw [raiseTrig, hwithin, if_neg Bool.false_ne_true, (sameGrid_modEng n c _).posInst, hsigned, Int.toNat_natCast]

/-- Which triggers a channel takes does not depend on its engine (R190, R195). -/
theorem fireTrig_modEng (n : Kz) (c : Nat) (f : Engine → Engine) (src inst cycle : Nat) : fireTrig (n.modEng c f) c src inst cycle =
    if Takes n c src then (n.modEng c f).modTrig c (fun x => { x with pending := x.pending ++ [(src, inst, cycle)] })
    else n.modEng c f := by
  have htakes : Takes (n.modEng c f) c src ↔ Takes n c src :=
    takes_congr (m := n) (n := n.modEng c f) rfl rfl (by rw [Kz.chan_modEng_same]) src
  simp only [fireTrig_eq, htakes]

/-- R336: a bundle whose scalar slot neither branches nor acts beyond registers and memory writes both slots' results. -/
theorem bundle_straight {v : VRes} {z : Option Int} (h : Executes m c a g b) (hv : vop b ≠ 0x0D)
    (hl : vecOp m c (m.chan c).eng a.window 0 b = v) (hz : scalarOp m c (m.chan c).eng b = z) (hs : sop b < 0x0F) :
    bundle m c = { m.modEng c (fun x => { bundleWrites x b v z with act := some a.next }) with mem := (bundleStores m c b v).mem } := by
  rw [bundle_eq h hv, bundleActs_none (by omega) (by omega) (by omega), bundleDone, hl, hz,
    a.after_plain (by omega), Kz.modEng_of_mem (bundleStores_mem v)]
  rfl

/-- R335: a bundle whose vector slot does nothing and whose scalar slot writes no register and no memory is its course and its actions. -/
theorem bundle_course (h : Executes m c a g b) (hv : vop b = 0) (hs : sop b = 0 ∨ 0x0F ≤ sop b) : bundle m c =
    bundleActs (m.modEng c fun x => { x with act := some (a.after (m.chan c).eng b) }) c (m.chan c).eng a g b := by
  rw [bundle_eq h (by omega), bundleDone, vecOp_nop hv, scalarOp_none (by omega), bundleStores_none .none (by omega) nofun]
  rfl

end Bundle

end Sys2Proof.Machine

namespace Sys2Proof.Safety
open Machine

/-- Settles O17: a bundle is its writes and its course, then what its scalar slot does beside them (`bundle_eq`). One whose scalar slot
goes no further than memory writes both slots' results (`bundle_straight`); with VNOP the others leave the registers alone
(`bundle_course`), and the course is that of `Activation.after`. A raised trigger then waits in the channel (`raiseTrig_within`). -/
theorem engineBundles : Obligations.EngineBundles := by
  unfold Obligations.EngineBundles
  intro s t m c hm
  have done {P : Kz → Prop} (h : P (bundle m c.val)) : After (.engineBundle t c) s P :=
    after_at (f := fun m => bundle m c.val) hm rfl h
  refine ⟨?vector, ?accumulator, ?vectorStore, ?scalarStore, ?branch, ?next, ?loop, ?feature, ?annotation, ?wait, ?raise, ?idle⟩
  case vector =>
    intro a g b l z hstate hact himage hbudget hfetch hv hl hz
    have ⟨_, hstore, hsop⟩ := sop_of_scalarOp hz
    apply done
    rw [bundle_straight ⟨hstate, hact, himage, hbudget, hfetch⟩ hv hl hz hsop, bundleStores_none (.vec l) hstore nofun]
    rfl
  case accumulator =>
    intro a g b k l hstate hact himage hbudget hfetch hl hs
    apply done
    rw [bundle_straight ⟨hstate, hact, himage, hbudget, hfetch⟩ (vop_ne_of_vecOp hl nofun) hl (scalarOp_none (.inl hs) ..) (by omega),
      bundleStores_none (.acc k l) (by omega) nofun]
    rfl
  case vectorStore =>
    intro a g b k l hstate hact himage hbudget hfetch hl hs
    apply done
    rw [bundle_straight ⟨hstate, hact, himage, hbudget, hfetch⟩ (vop_ne_of_vecOp hl nofun) hl (scalarOp_none (.inl hs) ..) (by omega),
      bundleStores_vector (by omega)]
    rfl
  case scalarStore =>
    intro a g b hstate hact himage hbudget hfetch hv hs
    apply done
    rw [bundle_straight ⟨hstate, hact, himage, hbudget, hfetch⟩ (by omega) (vecOp_nop hv ..) (scalarOp_none (.inr (.inl hs)) ..)
      (by omega), bundleStores_scalar hs]
    rfl
  case branch =>
    intro a g b hstate hact himage hbudget hfetch hv hs
    apply done
    rw [bundle_course ⟨hstate, hact, himage, hbudget, hfetch⟩ hv (by omega), bundleActs_none (by omega) (by omega) (by omega),
      a.after_branch ((branches_iff ..).2 hs)]
  case next =>
    intro a g b hstate hact himage hbudget hfetch hv hs
    apply done
    have hstay : branches (m.chan c.val).eng b = false := by
      rw [Bool.eq_false_iff, ne_eq, branches_iff]
      omega
    rw [bundle_course ⟨hstate, hact, himage, hbudget, hfetch⟩ hv (by omega), bundleActs_none (by omega) (by omega) (by omega),
      a.after_next hstay (by omega) (by omega)]
    rfl
  case loop =>
    intro a g b hstate hact himage hbudget hfetch hv hs
    apply done
    rw [bundle_course ⟨hstate, hact, himage, hbudget, hfetch⟩ hv (by omega), bundleActs_none (by omega) (by omega) (by omega),
      a.after_loop hs]
  case feature =>
    intro a g b hstate hact himage hbudget hfetch hv hs
    apply done
    rw [bundle_course ⟨hstate, hact, himage, hbudget, hfetch⟩ hv (by omega), bundleActs_none (by omega) (by omega) (by omega),
      a.after_of_not_branch (branches_of_sop _ (by omega)) (by omega), featureAfter, if_pos hs]
    rfl
  case annotation =>
    intro a g b hstate hact himage hbudget hfetch hv hs
    apply done
    rw [bundle_course ⟨hstate, hact, himage, hbudget, hfetch⟩ hv (by omega), bundleActs_annot hs, Kz.modEng_modEng,
      a.after_plain (by omega)]
    rfl
  case wait =>
    intro a g b hstate hact himage hbudget hfetch hv hs
    apply done
    rw [bundle_course ⟨hstate, hact, himage, hbudget, hfetch⟩ hv (by omega), bundleActs_wait hs, Kz.modEng_modEng,
      a.after_plain (by omega)]
    rfl
  case raise =>
    intro a g b hstate hact himage hbudget hfetch hv hs hsrc hraised hpos hlen hone
    apply done
    rw [bundle_course ⟨hstate, hact, himage, hbudget, hfetch⟩ hv (by omega), bundleActs_raise hs hsrc,
      raiseTrig_within hraised hpos hlen hone, (sameGrid_modEng m c.val _).posInst, Kz.modEng_modEng, fireTrig_modEng,
      a.after_plain (by omega)]
    rfl
  case idle =>
    intro h
    exact done (bundle_idle h)

end Sys2Proof.Safety
end

section
/-! SUPPORT. The family 13_readout.md: what the rows of the readout lanes make of a region's lanes (R402, R409, R410), what the opening and
the completion of a flue frame make of its lane group and of its records' channels, and the damper and OVERFLOW (R404 to R418). -/
namespace Sys2Proof.Machine
open Safety

/-! ### A region's lane group -/

theorem Sparse.mod_mod {α : Type} (d : α) (t : Sparse α) (k : Nat) (f g : α → α) :
    Sparse.mod d (Sparse.mod d t k f) k g = Sparse.mod d t k fun x => g (f x) := by
  simp [Sparse.mod, Sparse.set_set]

theorem Kz.modLg_modLg (m : Kz) (k : Nat) (f g : LaneGroup → LaneGroup) : (m.modLg k f).modLg k g = m.modLg k fun x => g (f x) :=
  Kz.modRgn_modRgn ..

/-- What a lane group becomes is all that a change of it does. -/
theorem Kz.modLg_congr {m : Kz} {k : Nat} {f g : LaneGroup → LaneGroup} (h : f (m.rgn k).lg = g (m.rgn k).lg) :
    m.modLg k f = m.modLg k g :=
  Kz.modRgn_congr (congrArg (fun x => { m.rgn k with lg := x }) h)

theorem modROLane_modROLane (m : Kz) (k j : Nat) (f g : ROLane → ROLane) :
    modROLane (modROLane m k j f) k j g = modROLane m k j fun l => g (f l) := by
  simp only [modROLane, Kz.modLg_modLg, Sparse.mod_mod]

theorem roLane_modROLane (m : Kz) (k j i : Nat) (f : ROLane → ROLane) :
    roLane (modROLane m k j f) k i = if i = j then f (roLane m k j) else roLane m k i := by
  rw [roLane, modROLane, Kz.rgn_modLg_same]
  exact Sparse.get_mod ..

theorem roLane_congr {m n : Kz} (h : n.rgns = m.rgns) (k j : Nat) : roLane n k j = roLane m k j := by
  rw [roLane, Kz.rgn, h]
  rfl

/-- A write stores its word in the registers. -/
theorem storeReg_eq (m : Kz) (k : RegKind) (i : Nat) (w : Word) : storeReg m k i w = { m with regs := (storeReg m k i w).regs } := by
  unfold storeReg
  dsimp only
  split_ifs <;> rfl

/-! ### One lane's moves (R402) -/

theorem laneTo_of_ne_active {st : LaneState} (h : st ≠ .active) (m : Kz) (k j : Nat) :
    laneTo m k j st = modROLane m k j fun l => { l with state := st, after := none } := if_neg h

theorem laneTo_active (m : Kz) (k j : Nat) : laneTo m k j .active =
    (modROLane m k j fun l => { l with state := .active, after := none }).modLg k fun g => { g with noLane := false } := rfl

/-- A lane that leaves its state, at once or when its frame has gone. -/
def ROLane.left (st : LaneState) (l : ROLane) : ROLane :=
  if l.frame.isSome = true then { l with after := if st = .off then some st else some (l.after.getD st) }
  else { l with state := st, after := none }

theorem laneLeave_eq {st : LaneState} (h : st ≠ .active) (m : Kz) (k j : Nat) :
    laneLeave m k j st = modROLane m k j fun _ => (roLane m k j).left st := by
  unfold laneLeave ROLane.left
  split
  · rfl
  · exact laneTo_of_ne_active h m k j

/-- A lane after its LANE_EN bit is written, `was` before and `set` now; `up` says that the region is not DOWN. -/
def ROLane.enabled (up : Prop) [Decidable up] (was set : Bool) (l : ROLane) : ROLane :=
  if set = true ∧ was = false then
    if l.state = .off ∧ up then { l with state := .starting, after := none }
    else if l.after = some .off then { l with after := some .starting } else l
  else if was = true ∧ set = false ∧ l.state ≠ .off then l.left .off
  else l

/-- A lane after its RETRAIN bit is written. -/
def ROLane.retrained (asked : Bool) (l : ROLane) : ROLane :=
  if asked = true ∧ l.state = .active then l.left .retrain else l

/-- A lane after its TEST_EN bit is written, `was` before and `set` now. -/
def ROLane.tested (was set : Bool) (l : ROLane) : ROLane :=
  if set = true ∧ was = false ∧ l.state = .active then l.left .test
  else if was = true ∧ set = false ∧ l.state = .test then { l with state := .sync, after := none }
  else if was = true ∧ set = false ∧ l.after = some .test then { l with after := none }
  else l

/-! ### The lanes of a region, each by itself -/

/-- Nothing but the lanes of region `k` has changed, and lane `i` of it is now `l i`. -/
structure LanesBecome (k : Nat) (m n : Kz) (l : Nat → ROLane) : Prop where
  block : n = { m with rgns := n.rgns }
  others : ∀ x, x ≠ k → n.rgn x = m.rgn x
  group : n.rgn k = { m.rgn k with lg := { (m.rgn k).lg with lanes := (n.rgn k).lg.lanes } }
  lanes : ∀ i, roLane n k i = l i

namespace LanesBecome
variable {k : Nat} {m n x : Kz} {l l' : Nat → ROLane}

theorem refl (k : Nat) (m : Kz) : LanesBecome k m m (roLane m k) := ⟨rfl, fun _ _ => rfl, rfl, fun _ => rfl⟩

theorem trans (h : LanesBecome k m n l) (h' : LanesBecome k n x l') : LanesBecome k m x l' where
  block := by rw [h'.block, h.block]
  others y hy := (h'.others y hy).trans (h.others y hy)
  group := by rw [h'.group, h.group]
  lanes := h'.lanes

theorem congr (h : LanesBecome k m n l) (hl : ∀ i, l i = l' i) : LanesBecome k m n l' :=
  ⟨h.block, h.others, h.group, fun i => (h.lanes i).trans (hl i)⟩

theorem rstate (h : LanesBecome k m n l) : n.rstate k = m.rstate k := by
  rw [Kz.rstate, h.group]
  rfl

theorem changed {j : Nat} {f : ROLane → ROLane} {v : ROLane} (h : f (roLane m k j) = v) :
    LanesBecome k m (modROLane m k j f) fun i => if i = j then v else roLane m k i where
  block := rfl
  others x hx := (Kz.rgn_modLg m k x _).trans (if_neg hx)
  group := by rw [modROLane, Kz.rgn_modLg_same]
  lanes i := by rw [roLane_modROLane, h]

/-- A lane that stays as it is. -/
theorem same {j : Nat} {v : ROLane} (h : roLane m k j = v) : LanesBecome k m m fun i => if i = j then v else roLane m k i :=
  (refl k m).congr fun i => by
    split
    case isTrue hi => rw [hi, h]
    case isFalse => rfl

/-- Of lane by lane steps that each make of their own lane what `g` says, all do. -/
theorem foldl {step : Kz → Nat → Kz} {g : Nat → ROLane → ROLane} (hstep : ∀ n l, LanesBecome k m n l → ∀ j,
    LanesBecome k n (step n j) fun i => if i = j then g j (roLane n k j) else roLane n k i) (c : Nat) :
    LanesBecome k m ((upTo c).foldl step m) fun i => if i < c then g i (roLane m k i) else roLane m k i := by
  induction c with
  | zero => exact (refl k m).congr fun i => by simp
  | succ c ih =>
    have hlast : (upTo (c + 1)).foldl step m = step ((upTo c).foldl step m) c := by
      rw [upTo, List.range_succ, List.foldl_concat]
      rfl
    rw [hlast]
    refine (ih.trans (hstep _ _ ih c)).congr fun i => ?_
    rw [ih.lanes, ih.lanes, if_neg (Nat.lt_irrefl c)]
    rcases Nat.lt_trichotomy i c with hlt | rfl | hgt
    · rw [if_neg (by omega), if_pos hlt, if_pos (by omega)]
    · rw [if_pos rfl, if_pos (by omega)]
    · rw [if_neg (by omega), if_neg (by omega), if_neg (by omega)]

end LanesBecome

theorem laneEnable_lanes (m : Kz) (k o w : Nat) : LanesBecome k m (laneEnable m k o w) fun i =>
    if i < 8 then (roLane m k i).enabled (m.rstate k ≠ .down) (o.testBit i) (w.testBit i) else roLane m k i := by
  refine .foldl (g := fun i l => l.enabled (m.rstate k ≠ .down) (o.testBit i) (w.testBit i)) (fun n l h j => ?_) 8
  rw [laneTo_of_ne_active (by decide), laneLeave_eq (by decide), h.rstate]
  simp only [Bool.and_eq_true, Bool.not_eq_true', decide_eq_true_eq, bne_iff_ne, and_assoc]
  unfold ROLane.enabled
  split_ifs
  · exact .changed rfl
  · exact .changed rfl
  · exact .same rfl
  · exact .changed rfl
  · exact .same rfl

theorem laneRetrain_lanes (m : Kz) (k bits : Nat) : LanesBecome k m (laneRetrain m k bits) fun i =>
    if i < 8 then (roLane m k i).retrained (bits.testBit i) else roLane m k i := by
  refine .foldl (g := fun i l => l.retrained (bits.testBit i)) (fun n l h j => ?_) 8
  rw [laneLeave_eq (by decide)]
  simp only [Bool.and_eq_true, decide_eq_true_eq]
  unfold ROLane.retrained
  split_ifs
  · exact .changed rfl
  · exact .same rfl

theorem laneTest_lanes (m : Kz) (k o w : Nat) : LanesBecome k m (laneTest m k o w) fun i =>
    if i < 8 then (roLane m k i).tested (o.testBit i) (w.testBit i) else roLane m k i := by
  refine .foldl (g := fun i l => l.tested (o.testBit i) (w.testBit i)) (fun n l h j => ?_) 8
  rw [laneLeave_eq (by decide), laneTo_of_ne_active (by decide)]
  simp only [Bool.and_eq_true, Bool.not_eq_true', decide_eq_true_eq, and_assoc]
  unfold ROLane.tested
  split_ifs
  · exact .changed rfl
  · exact .changed rfl
  · exact .changed rfl
  · exact .same rfl

/-- LANE_EN bits that stay as they are move no lane. -/
theorem laneEnable_unchanged (m : Kz) (k w : Nat) : laneEnable m k w w = m :=
  foldl_id _ _ fun j _ => by simp

/-- Where no RETRAIN bit is written, no lane moves. -/
theorem laneRetrain_none (m : Kz) (k : Nat) : laneRetrain m k 0 = m :=
  foldl_id _ _ fun j _ => by simp

/-- The block after an accepted write of register `q` of region `k` whose effect is on the lanes: only the word is stored and answered, and
lane `i` of the region is `l i`. -/
def LaneRow (m n : Kz) (p : Nat) (q : RegKind) (k : Nat) (v : Word) (l : Nat → ROLane) : Prop :=
  n = { storeReg m q k v with rgns := n.rgns, wire := okPair p q k :: m.wire } ∧
    (∀ x : Nat, x < 12 → x ≠ k → n.rgn x = m.rgn x) ∧
    n.rgn k = { m.rgn k with lg := { (m.rgn k).lg with lanes := (n.rgn k).lg.lanes } } ∧ ∀ j : Nat, j < 8 → roLane n k j = l j

theorem pairWrite_laneRow {m : Kz} {p k : Nat} {q : RegKind} {v : Word} {g : Nat → ROLane → ROLane} (h : Accepts m p q k v)
    (hplace : placeOf (q.addr k) = some (.reg q k)) (hu : q ≠ .HK_URGENT) (hd : q ≠ .DSI_COMMIT)
    (heffect : LanesBecome k (storeReg m q k v) (regEffect (storeReg m q k v) q k (m.cfgWord q k) v) fun i =>
      if i < 8 then g i (roLane (storeReg m q k v) k i) else roLane (storeReg m q k v) k i) :
    LaneRow m (pairWrite m p q k v) p q k v fun i => g i (roLane m k i) := by
  have hrgns : (storeReg m q k v).rgns = m.rgns := by rw [storeReg_eq]
  have hrgn : ∀ x, (storeReg m q k v).rgn x = m.rgn x := fun x => by rw [Kz.rgn, hrgns]; rfl
  have hports : (regEffect (storeReg m q k v) q k (m.cfgWord q k) v).ports = m.ports := by rw [heffect.block, storeReg_eq]
  rw [pairWrite_accepts h hplace hu hd hports]
  refine ⟨?_, fun x _ hx => (heffect.others x hx).trans (hrgn x), by rw [← hrgn]; exact heffect.group, fun j hj => ?_⟩
  · rw [heffect.block, storeReg_eq]
    rfl
  · refine (heffect.lanes j).trans ?_
    rw [if_pos hj, roLane_congr hrgns]

/-! ### The lanes' events -/

section LaneEvents
variable {m : Kz} {k j : Nat}

theorem lanePllLock_of_waiting (h : (roLane m k j).state = .starting ∨ (roLane m k j).state = .fault) :
    lanePllLock m k j = modROLane m k j fun l => { l with state := .sync, after := none } := by
  rw [← laneTo_of_ne_active (by decide)]
  rcases h with h | h <;> simp [lanePllLock, h]

theorem laneSyncDone_of_sync (h : (roLane m k j).state = .sync) :
    laneSyncDone m k j = laneTo m k j (if (m.fld F.RGN_RO_TEST.TEST_EN k).testBit j then .test else .active) := if_pos h

theorem laneRetrainDone_to_active (h : (roLane m k j).state = .retrain) (htest : (m.fld F.RGN_RO_TEST.TEST_EN k).testBit j = false) :
    laneRetrainDone m k j = laneTo m k j .active :=
  (if_pos h).trans (if_neg (Bool.eq_false_iff.1 htest))

/-- A lane whose TEST_EN bit was set while it trained passes through ACTIVE, so NO_LANE clears (R410). -/
theorem laneRetrainDone_to_test (h : (roLane m k j).state = .retrain) (htest : (m.fld F.RGN_RO_TEST.TEST_EN k).testBit j = true) :
    laneRetrainDone m k j =
      (modROLane m k j fun l => { l with state := .test, after := none }).modLg k fun g => { g with noLane := false } := by
  refine ((if_pos h).trans (if_pos htest)).trans ?_
  rw [laneTo_active, laneTo_of_ne_active (by decide)]
  simp only [modROLane, Kz.modLg_modLg, Sparse.mod_mod]

/-- The state that a lane takes when its clock is lost: one that is to go OFF, and perhaps to start again, does so (R402). -/
def ROLane.lostTo (l : ROLane) : LaneState :=
  if l.after = some .off then .off else if l.after = some .starting then .starting else .fault

theorem ROLane.lostTo_eq (l : ROLane) :
    (if l.after = some .off || l.after = some .starting then l.after.getD .off else .fault) = l.lostTo := by
  unfold lostTo
  by_cases hoff : l.after = some .off
  · simp [hoff]
  · by_cases hstart : l.after = some .starting
    · simp [hstart]
    · simp [hoff, hstart]

/-- A lane whose clock is lost; the frame that it cut is sent again. -/
theorem lanePllUnlock_of_on (h : (roLane m k j).state ≠ .off) : lanePllUnlock m k j =
    { m.modLg k (fun g => { g with
        lanes := Sparse.mod {} g.lanes j fun _ => { state := (roLane m k j).lostTo }
        resend := g.resend ++ (roLane m k j).frame.toList }) with
      regs := (m.markBit F.RGN_RO_LANE_STAT.LANE_FAULT_SEEN k j).regs
      log := (m.logE 0x0401 2 2 k 0 (8 * k + j)).log } := by
  simp only [lanePllUnlock, if_neg h, ROLane.lostTo_eq]
  cases hf : (roLane m k j).frame with
  | none =>
    simp only [Option.toList_none, List.append_nil]
    rfl
  | some f =>
    simp only [modROLane, Kz.modLg_modLg, Option.toList_some]
    rfl

theorem lanePllUnlock_of_off (h : (roLane m k j).state = .off) : lanePllUnlock m k j = m := if_pos h

end LaneEvents

end Sys2Proof.Machine

namespace Sys2Proof.Safety
open Machine

/-- Settles O20: an accepted write moves each lane of its region by itself (`pairWrite_laneRow` with `laneEnable_lanes`,
`laneRetrain_lanes`, `laneTest_lanes`), and each event is one change of the lane that it names.
What two moves of a lane that meet come to, and LANE_EN and TEST_EN set again meanwhile, are the model's choices (log 90), as is that an
event which cannot happen changes nothing (log 4). -/
theorem laneStates : Obligations.LaneStates := by
  unfold Obligations.LaneStates
  intro s t m hm
  refine ⟨?enable, ?retrain, ?test, ?locks, ?syncActive, ?syncTest, ?retrainedTest, ?retrainedActive, ?clockLost, ?off⟩
  case enable =>
    intro p k v hacc hretrain
    refine after_at (f := fun m => pairWrite m p.val .RGN_RO_CTRL k.val v) hm rfl ?_
    have heffect : regEffect (storeReg m .RGN_RO_CTRL k v) .RGN_RO_CTRL k (m.cfgWord .RGN_RO_CTRL k) v =
        laneEnable (storeReg m .RGN_RO_CTRL k v) k (m.fld F.RGN_RO_CTRL.LANE_EN k) (F.RGN_RO_CTRL.LANE_EN.of v) := by
      refine Eq.trans ?_ (laneRetrain_none _ k)
      rw [← hretrain]
      rfl
    refine pairWrite_laneRow (g := fun i l => l.enabled (m.rstate k ≠ .down) ((m.fld F.RGN_RO_CTRL.LANE_EN k).testBit i)
      ((F.RGN_RO_CTRL.LANE_EN.of v).testBit i)) hacc (place_RGN_RO_CTRL k) (by decide) (by decide) ?_
    rw [heffect]
    exact laneEnable_lanes ..
  case retrain =>
    intro p k v hacc hen
    refine after_at (f := fun m => pairWrite m p.val .RGN_RO_CTRL k.val v) hm rfl ?_
    have heffect : regEffect (storeReg m .RGN_RO_CTRL k v) .RGN_RO_CTRL k (m.cfgWord .RGN_RO_CTRL k) v =
        laneRetrain (storeReg m .RGN_RO_CTRL k v) k (F.RGN_RO_CTRL.RETRAIN.of v) := by
      refine congrArg (fun n => laneRetrain n k (F.RGN_RO_CTRL.RETRAIN.of v)) ?_
      rw [hen]
      exact laneEnable_unchanged ..
    refine pairWrite_laneRow (g := fun i l => l.retrained ((F.RGN_RO_CTRL.RETRAIN.of v).testBit i)) hacc (place_RGN_RO_CTRL k)
      (by decide) (by decide) ?_
    rw [heffect]
    exact laneRetrain_lanes ..
  case test =>
    intro p k v hacc
    refine after_at (f := fun m => pairWrite m p.val .RGN_RO_TEST k.val v) hm rfl ?_
    exact pairWrite_laneRow (g := fun i l => l.tested ((m.fld F.RGN_RO_TEST.TEST_EN k).testBit i)
      ((F.RGN_RO_TEST.TEST_EN.of v).testBit i)) hacc (place_RGN_RO_TEST k) (by decide) (by decide) (laneTest_lanes ..)
  case locks =>
    intro k j h
    exact after_at (f := fun m => lanePllLock m k.val j.val) hm rfl (lanePllLock_of_waiting h)
  case syncActive =>
    intro k j h htest
    refine after_at (f := fun m => laneSyncDone m k.val j.val) hm rfl ?_
    rw [laneSyncDone_of_sync h, if_neg (Bool.eq_false_iff.1 htest), laneTo_active]
  case syncTest =>
    intro k j h htest
    refine after_at (f := fun m => laneSyncDone m k.val j.val) hm rfl ?_
    rw [laneSyncDone_of_sync h, if_pos htest, laneTo_of_ne_active (by decide)]
  case retrainedTest =>
    intro k j h htest
    exact after_at (f := fun m => laneRetrainDone m k.val j.val) hm rfl (laneRetrainDone_to_test h htest)
  case retrainedActive =>
    intro k j h htest
    exact after_at (f := fun m => laneRetrainDone m k.val j.val) hm rfl (laneRetrainDone_to_active h htest)
  case clockLost =>
    intro k j h
    exact after_at (f := fun m => lanePllUnlock m k.val j.val) hm rfl (lanePllUnlock_of_on h)
  case off =>
    intro k j h
    exact after_at (f := fun m => lanePllUnlock m k.val j.val) hm rfl (lanePllUnlock_of_off h)

end Sys2Proof.Safety

namespace Sys2Proof.Machine
open Safety

/-! ### Records that have wholly left (R243, R315, R409) -/

/-- Records have wholly left: only counters and what their channels' memories hold for them have changed. -/
structure RecordsGone (m n : Kz) : Prop where
  block : n = { m with chans := n.chans, stats := n.stats }
  chan : ∀ c, n.chan c = { m.chan c with
    mem := { (m.chan c).mem with used := (n.chan c).mem.used, kept := (n.chan c).mem.kept, folds := (n.chan c).mem.folds } }
  counter : ∀ k i, (∀ x, RegKind.addr k i ≠ RegKind.addr .RGN_ACC_DROPPED x) → n.counter k i = m.counter k i

namespace RecordsGone
variable {m n x : Kz}

theorem refl (m : Kz) : RecordsGone m m := ⟨rfl, fun _ => rfl, fun _ _ _ => rfl⟩

theorem trans (h : RecordsGone m n) (h' : RecordsGone n x) : RecordsGone m x where
  block := by rw [h'.block, h.block]
  chan c := by rw [h'.chan, h.chan]
  counter k i hk := (h'.counter k i hk).trans (h.counter k i hk)

theorem rgn (h : RecordsGone m n) (k : Nat) : n.rgn k = m.rgn k := by
  rw [h.block]
  rfl

theorem modMem (m : Kz) (c : Nat) {f : Memory → Memory}
    (hf : ∀ y, f y = { y with used := (f y).used, kept := (f y).kept, folds := (f y).folds }) : RecordsGone m (m.modMem c f) where
  block := rfl
  chan x := by
    by_cases hx : x = c
    · rw [hx, Kz.chan_modMem_same, ← hf]
    · rw [Kz.chan_modMem_ne hx]
  counter _ _ _ := rfl

theorem dropped (m : Kz) (x n : Nat) : RecordsGone m (m.count .RGN_ACC_DROPPED x n) :=
  ⟨rfl, fun _ => rfl, fun _ _ hk => Kz.counter_count_ne (hk x) m n⟩

theorem slotDone (m : Kz) (c : Nat) (s : Option Nat) : RecordsGone m (slotDone m c s) := by
  cases s with
  | none => exact refl m
  | some i =>
    unfold Machine.slotDone
    apply modMem
    intro y
    split <;> rfl

theorem recGone (m : Kz) (r : Rec) : RecordsGone m (recGone m r) := by
  refine (slotDone m r.ch r.slot).trans ?_
  unfold Machine.recGone
  dsimp only
  split
  · exact refl _
  · refine trans ?_ (dropped _ _ _)
    apply modMem
    exact fun _ => rfl

theorem foldl (m : Kz) (l : List Rec) : RecordsGone m (l.foldl Machine.recGone m) := by
  induction l generalizing m with
  | nil => exact refl m
  | cons r l ih => exact (recGone m r).trans (ih _)

end RecordsGone

/-- A register of which each region's window holds one. -/
abbrev OnePerRegion (k : RegKind) : Prop := k.info.win = .region ∧ k.info.cnt = 1 ∧ k.info.base < 0x100000

/-- Two of them never share an address (R715), not even where one names a region that there is not. -/
theorem addr_ne_of_onePerRegion {k l : RegKind} (hk : OnePerRegion k) (hl : OnePerRegion l) (hne : k.info.base ≠ l.info.base)
    (i j : Nat) : k.addr i ≠ l.addr j := by
  obtain ⟨hkwin, hkcnt, hkbase⟩ := hk
  obtain ⟨hlwin, hlcnt, hlbase⟩ := hl
  simp only [RegKind.addr, hkwin, hlwin, hkcnt, hlcnt, Nat.mod_one, Nat.div_one]
  omega

theorem recGone_of_no_folds {m : Kz} {r : Rec} (h : (m.chan r.ch).mem.folds = []) : recGone m r = slotDone m r.ch r.slot := by
  have hfolds : ((slotDone m r.ch r.slot).chan r.ch).mem.folds = [] := by
    cases r.slot with
    | none => exact h
    | some i =>
      simp only [slotDone, Kz.chan_modMem_same]
      split <;> exact h
  simp [recGone, hfolds]

theorem slotDone_sequence {m : Kz} {c : Nat} (hmode : acqMode m (c / 16) = 0) (harm : m.on F.CH_TRIG_CTRL.ARM_MODE c = true) (i : Nat) :
    slotDone m c (some i) = m.modMem c fun y => { y with kept := i :: y.kept } := by
  simp [slotDone, hmode, harm]

/-! ### Completion of a frame (R409) -/

section Complete
variable {m : Kz} {k j : Nat} {f : FlueFrame}

/-- The frame leaves its lane, and the records wholly leave with it. -/
def frameGone (m : Kz) (k j : Nat) (f : FlueFrame) : Kz :=
  (f.recs.foldl recGone (modROLane m k j fun l => { l with frame := none })).count .RGN_RO_FRAMES k 1

theorem frameComplete_stays (hf : (roLane m k j).frame = some f) (hafter : (roLane m k j).after = none) :
    frameComplete m k j = frameGone m k j f := by
  simp only [frameComplete, hf, hafter]
  rfl

theorem frameComplete_moves {st : LaneState} (hf : (roLane m k j).frame = some f) (hafter : (roLane m k j).after = some st) :
    frameComplete m k j = laneTo (frameGone m k j f) k j st := by
  simp only [frameComplete, hf, hafter]
  rfl

theorem frameGone_spec {n : Kz} (hn : n = frameGone m k j f) :
    n = { m with rgns := n.rgns, chans := n.chans, stats := n.stats } ∧ n.rgn k = { m.rgn k with
        lg := { (m.rgn k).lg with lanes := Sparse.mod {} (m.rgn k).lg.lanes j (fun l => { l with frame := none }) } } ∧
      (∀ x : Nat, x < 12 → x ≠ k → n.rgn x = m.rgn x) ∧
      (∀ c : Nat, c < 192 → n.chan c = { m.chan c with mem := { (m.chan c).mem with
        used := (n.chan c).mem.used, kept := (n.chan c).mem.kept, folds := (n.chan c).mem.folds } }) ∧
      n.counter .RGN_RO_FRAMES k = (m.count .RGN_RO_FRAMES k 1).counter .RGN_RO_FRAMES k := by
  have hgone := RecordsGone.foldl (modROLane m k j fun l => { l with frame := none }) f.recs
  have hrgn : ∀ x, n.rgn x = (modROLane m k j fun l => { l with frame := none }).rgn x := fun x => by rw [hn]; exact hgone.rgn x
  refine ⟨?_, ?_, fun x _ hx => ?_, fun c _ => ?_, ?_⟩
  · rw [hn, frameGone, hgone.block]
    rfl
  · rw [hrgn, modROLane, Kz.rgn_modLg_same]
  · rw [hrgn, modROLane, Kz.rgn_modLg, if_neg hx]
  · rw [hn]
    exact hgone.chan c
  · rw [hn]
    exact Kz.counter_count_congr (hgone.counter _ _ (addr_ne_of_onePerRegion (by decide) (by decide) (by decide) k)) 1

section OneRecord
variable {r : Rec} {i : Nat} (hrecs : f.recs = [r]) (hslot : r.slot = some i) (hfolds : (m.chan r.ch).mem.folds = [])
include hrecs hslot hfolds

theorem frameGone_of_one : frameGone m k j f =
    (slotDone (modROLane m k j fun l => { l with frame := none }) r.ch (some i)).count .RGN_RO_FRAMES k 1 := by
  rw [frameGone, hrecs, List.foldl_cons, List.foldl_nil, recGone_of_no_folds (m := modROLane m k j _) hfolds, hslot]

theorem frameGone_frees (hmode : acqMode m (r.ch / 16) ≠ 0) (hstop : (m.chan r.ch).trig.maskStop = false) : frameGone m k j f =
    { (modROLane m k j fun l => { l with frame := none }).modMem r.ch (fun y => { y with used := y.used.erase i }) with
      stats := (m.count .RGN_RO_FRAMES k 1).stats } := by
  rw [frameGone_of_one hrecs hslot hfolds, slotDone_some (m := modROLane m k j _) hmode hstop]
  rfl

theorem frameGone_keeps (hmode : acqMode m (r.ch / 16) = 0) (harm : m.on F.CH_TRIG_CTRL.ARM_MODE r.ch = true) : frameGone m k j f =
    { (modROLane m k j fun l => { l with frame := none }).modMem r.ch (fun y => { y with kept := i :: y.kept }) with
      stats := (m.count .RGN_RO_FRAMES k 1).stats } := by
  rw [frameGone_of_one hrecs hslot hfolds, slotDone_sequence (m := modROLane m k j _) hmode harm]
  rfl

end OneRecord

end Complete

/-! ### A frame discarded (R410) -/

section Discard
variable {m b : Kz} {k : Nat} {f : FlueFrame} {g : LaneGroup → LaneGroup} {stats : Stats}

/-- Region `k`'s group in a block made ready for the discarding of a frame is `g` of what it was, and NO_LANE stands as before. -/
theorem frameDiscard_eq (hb : b = { m.modLg k g with stats := stats }) (hg : (g (m.rgn k).lg).noLane = (m.rgn k).lg.noLane) :
    ∃ g' : LaneGroup → LaneGroup, g' (m.rgn k).lg = { g (m.rgn k).lg with noLane := true } ∧ frameDiscard b k f =
      { m.modLg k g' with
        chans := (f.recs.foldl recGone b).chans
        stats := ((f.recs.foldl recGone b).count .RGN_RO_DISCARDED k 1).stats
        regs := (m.mark F.RGN_RO_OVF.NO_LANE_SEEN k).regs
        wire := .flueFrame none (f.bytes k 0) :: m.wire
        log := (if (m.rgn k).lg.noLane = true then m else m.logE 0x0402 2 2 k 0 0).log } := by
  have hblock := (RecordsGone.foldl b f.recs).block
  have hrgn := (RecordsGone.foldl b f.recs).rgn k
  unfold frameDiscard
  dsimp only
  generalize f.recs.foldl recGone b = x at hblock hrgn
  have hlane : ((((x.emit (.flueFrame none (f.bytes k 0))).count .RGN_RO_DISCARDED k 1).mark F.RGN_RO_OVF.NO_LANE_SEEN k).rgn k).lg.noLane =
      (m.rgn k).lg.noLane := by
    refine (congrArg (fun r : Region => r.lg.noLane) hrgn).trans ?_
    rw [← hg, hb]
    exact congrArg (fun r : Region => r.lg.noLane) (Kz.rgn_modLg_same ..)
  rw [hlane, hblock, hb]
  cases hl : (m.rgn k).lg.noLane with
  | true => exact ⟨g, by rw [← hl, ← hg], rfl⟩
  | false =>
    have hmod : (m.modLg k fun y => { g y with noLane := true }) = (m.modLg k g).modLg k fun y => { y with noLane := true } :=
      (Kz.modLg_modLg m k g fun y => { y with noLane := true }).symm
    refine ⟨fun y => { g y with noLane := true }, rfl, ?_⟩
    rw [hmod]
    rfl

theorem frameDiscard_spec {n : Kz} (hb : b = { m.modLg k g with stats := stats }) (hg : (g (m.rgn k).lg).noLane = (m.rgn k).lg.noLane)
    (hstats : b.counter .RGN_RO_DISCARDED k = m.counter .RGN_RO_DISCARDED k) (hn : n = frameDiscard b k f) :
    n = { m with rgns := n.rgns, chans := n.chans, stats := n.stats, regs := (m.mark F.RGN_RO_OVF.NO_LANE_SEEN k).regs
                 wire := .flueFrame none (f.bytes k 0) :: m.wire
                 log := (if (m.rgn k).lg.noLane = true then m else m.logE 0x0402 2 2 k 0 0).log } ∧
      n.rgn k = { m.rgn k with lg := { g (m.rgn k).lg with noLane := true } } ∧
      (∀ x : Nat, x < 12 → x ≠ k → n.rgn x = m.rgn x) ∧
      n.counter .RGN_RO_DISCARDED k = (m.count .RGN_RO_DISCARDED k 1).counter .RGN_RO_DISCARDED k ∧
      (∀ c : Nat, c < 192 → n.chan c = { m.chan c with mem := { (m.chan c).mem with
        used := (n.chan c).mem.used, kept := (n.chan c).mem.kept, folds := (n.chan c).mem.folds } }) := by
  have hgone := RecordsGone.foldl b f.recs
  obtain ⟨g', hg', heq⟩ := frameDiscard_eq (f := f) hb hg
  rw [heq] at hn
  subst hn
  refine ⟨rfl, ?_, fun x _ hx => ?_, ?_, fun c _ => ?_⟩
  · rw [← hg']
    exact Kz.rgn_modLg_same ..
  · exact (Kz.rgn_modLg m k x g').trans (if_neg hx)
  · exact Kz.counter_count_congr ((hgone.counter _ _
      (addr_ne_of_onePerRegion (by decide) (by decide) (by decide) k)).trans hstats) 1
  · refine (hgone.chan c).trans ?_
    rw [hb]
    rfl

end Discard

/-! ### The next frame of a region (R406, R407, R415, R418) -/

/-- The waiting records as a frame carries them. -/
def shownRecs (m : Kz) (k : Nat) : List Rec := (m.rgn k).lg.queue.map fun r => if ovfHits m k r = true then ovfStub r else r

/-- How many of them the next frame takes: as many as fit, and one at least. -/
def frameLen (m : Kz) (k : Nat) : Nat :=
  max 1 (takeRecs (m.fld F.RGN_RO_CTRL.FRAME_MAX k * 1024) 20 (shownRecs m k)).length

def frameRecs (m : Kz) (k : Nat) : List Rec := (shownRecs m k).take (frameLen m k)

def frameSize (m : Kz) (k : Nat) : Nat := 20 + ((frameRecs m k).map recSize).foldl (· + ·) 0

/-- What the damper's bucket must hold before the frame opens. -/
def damperNeed (m : Kz) (k : Nat) : Int := ((80 * min (frameSize m k) (m.fld F.RGN_DAMPER.BURST k * 1024) : Nat) : Int)

def frameStubs (m : Kz) (k : Nat) : Nat := (((m.rgn k).lg.queue.take (frameLen m k)).filter (ovfHits m k)).length

/-- The frame of the waiting records, on a lane. -/
def nextFlue (m : Kz) (k lane : Nat) : FlueFrame where
  seq := (m.rgn k).lg.nextFrame
  lane := lane
  recs := frameRecs m k
  fmt := 1 + m.fld F.RGN_RO_CTRL.FMT k
  status := if m.fld F.RGN_RO_CTRL.FMT k = 1 then b2n (m.rgn k).lg.ovf + 2 * b2n (m.rgn k).lg.waited else 0
  openTime := m.datum / 16 % 2 ^ 32

/-- The group once the records of the next frame have left its queue. -/
def frameTaken (m : Kz) (k : Nat) (g : LaneGroup) : LaneGroup :=
  { g with
    queue := g.queue.drop (frameLen m k)
    nextFrame := g.nextFrame + 1
    waited := false
    bucket := if m.fld F.RGN_DAMPER.RATE k = 0 then g.bucket else bucketNow m k - (80 * frameSize m k : Nat)
    filledAt := m.now.ns }

/-- The block in which the next frame opens: the group has given up its records, and the stubs among them are counted. -/
def frameFormed (m : Kz) (k : Nat) : Kz :=
  ((m.modLg k (frameTaken m k)).count .RGN_RO_OVF_STUBS k (frameStubs m k)).count .RGN_STUB_COUNT k (frameStubs m k)

/-- The group with frame `f` on lane `j`. -/
def onLane (j : Nat) (f : FlueFrame) (g : LaneGroup) : LaneGroup :=
  { g with lanes := Sparse.mod {} g.lanes j fun l => { l with frame := some f } }

/-- A frame as it is sent again on a lane (R409). -/
def FlueFrame.again (f : FlueFrame) (lane : Nat) : FlueFrame :=
  { f with lane := lane, status := if f.fmt = 2 then f.status ||| 4 else 0 }

section FrameOpening
variable {m : Kz} {k : Nat}

theorem freeLane_of_none_active (h : anyActive m k = false) : freeLane m k = none := by
  simp only [anyActive, List.any_eq_false, decide_eq_true_eq] at h
  rw [freeLane, List.find?_eq_none]
  intro j hj
  simp [h j hj]

theorem frameOpen_again {f : FlueFrame} {fs : List FlueFrame} {j : Nat} (hresend : (m.rgn k).lg.resend = f :: fs)
    (hfree : freeLane m k = some j) : frameOpen m k =
      (modROLane (m.modLg k fun g => { g with resend := fs }) k j fun l => { l with frame := some (f.again j) }).emit
        (.flueFrame (some (8 * k + j)) ((f.again j).bytes k j)) := by
  simp only [frameOpen, hresend, hfree]
  rfl

theorem frameOpen_again_discarded {f : FlueFrame} {fs : List FlueFrame} (hresend : (m.rgn k).lg.resend = f :: fs)
    (hnone : anyActive m k = false) :
    frameOpen m k = frameDiscard (m.modLg k fun g => { g with resend := fs }) k (f.again 0) := by
  simp only [frameOpen, hresend, freeLane_of_none_active hnone, hnone]
  rfl

theorem frameOpen_again_waits (hresend : (m.rgn k).lg.resend ≠ []) (hfree : freeLane m k = none) (hany : anyActive m k = true) :
    frameOpen m k = m := by
  obtain ⟨f, fs, hcons⟩ := List.exists_cons_of_ne_nil hresend
  simp only [frameOpen, hcons, hfree, hany, if_true]

theorem frameOpen_idle (hresend : (m.rgn k).lg.resend = [])
    (h : (m.rgn k).lg.queue = [] ∨ (freeLane m k = none ∧ anyActive m k = true)) : frameOpen m k = m := by
  simp only [frameOpen, hresend]
  refine if_pos ?_
  rcases h with h | ⟨hfree, hany⟩
  · simp [h]
  · simp [hfree, hany]

theorem frameOpen_not_idle (hqueue : (m.rgn k).lg.queue ≠ []) (hlane : (freeLane m k).isSome = true ∨ anyActive m k = false) :
    ¬((m.rgn k).lg.queue.isEmpty || ((freeLane m k).isNone && anyActive m k)) = true := by
  rcases hlane with h | h
  · obtain ⟨j, hj⟩ := Option.isSome_iff_exists.1 h
    simp [hqueue, hj]
  · simp [hqueue, h]

section Fresh
variable (hresend : (m.rgn k).lg.resend = []) (hqueue : (m.rgn k).lg.queue ≠ [])
  (hlane : (freeLane m k).isSome = true ∨ anyActive m k = false)
include hresend hqueue hlane

theorem frameOpen_damped (hrate : m.fld F.RGN_DAMPER.RATE k ≠ 0) (hneed : bucketNow m k < damperNeed m k) : frameOpen m k =
    m.modLg k fun g => { g with waited := true, bucket := bucketNow m k, filledAt := m.now.ns } := by
  have hwaits : (m.fld F.RGN_DAMPER.RATE k != 0 && decide (bucketNow m k < damperNeed m k)) = true := by simp [hrate, hneed]
  simp only [frameOpen, hresend]
  exact (if_neg (frameOpen_not_idle hqueue hlane)).trans (if_pos hwaits)

theorem frameOpen_fresh (hdamper : m.fld F.RGN_DAMPER.RATE k = 0 ∨ damperNeed m k ≤ bucketNow m k)
    (hseq : (m.rgn k).lg.nextFrame + 1 < 2 ^ 32) : frameOpen m k = match freeLane m k with
      | some j => (modROLane (frameFormed m k) k j fun l => { l with frame := some (nextFlue m k j) }).emit
          (.flueFrame (some (8 * k + j)) ((nextFlue m k j).bytes k j))
      | none => frameDiscard (frameFormed m k) k (nextFlue m k 0) := by
  have hopens : ¬(m.fld F.RGN_DAMPER.RATE k != 0 && decide (bucketNow m k < damperNeed m k)) = true := by
    rcases hdamper with h | h <;> simp [h]
  have htaken : (m.modLg k fun g => { frameTaken m k g with nextFrame := (g.nextFrame + 1) % 2 ^ 32 }) = m.modLg k (frameTaken m k) :=
    Kz.modLg_congr (by rw [Nat.mod_eq_of_lt hseq]; rfl)
  have hver : 1 + m.fld F.RGN_RO_CTRL.FMT k = 2 ↔ m.fld F.RGN_RO_CTRL.FMT k = 1 := by omega
  simp only [frameOpen, hresend, hver]
  refine (if_neg (frameOpen_not_idle hqueue hlane)).trans ((if_neg hopens).trans ?_)
  rw [if_neg (Nat.ne_of_lt hseq)]
  cases freeLane m k with
  | some j =>
    rw [frameFormed, ← htaken]
    rfl
  | none =>
    rw [frameFormed, ← htaken]
    rfl

theorem frameOpen_on_lane {j : Nat} (hfree : freeLane m k = some j)
    (hdamper : m.fld F.RGN_DAMPER.RATE k = 0 ∨ damperNeed m k ≤ bucketNow m k) (hseq : (m.rgn k).lg.nextFrame + 1 < 2 ^ 32) :
    frameOpen m k = { m.modLg k (fun g => onLane j (nextFlue m k j) (frameTaken m k g)) with
      stats := (frameFormed m k).stats
      wire := .flueFrame (some (8 * k + j)) ((nextFlue m k j).bytes k j) :: m.wire } := by
  rw [frameOpen_fresh hresend hqueue hlane hdamper hseq, hfree, ← Kz.modLg_modLg]
  rfl

end Fresh

end FrameOpening

theorem counter_frameFormed (m : Kz) (k : Nat) :
    (frameFormed m k).counter .RGN_RO_DISCARDED k = m.counter .RGN_RO_DISCARDED k :=
  (Kz.counter_count_ne (addr_ne_of_onePerRegion (by decide) (by decide) (by decide) k k) _ _).trans
    (Kz.counter_count_ne (addr_ne_of_onePerRegion (by decide) (by decide) (by decide) k k) _ _)

/-! ### Damper and overflow (R416, R417) -/

theorem damperWritten_eq (m : Kz) (k : Nat) (o w : Word) : damperWritten m k o w = m.modLg k fun g => { g with
    bucket := if F.RGN_DAMPER.RATE.of o = 0 ∧ F.RGN_DAMPER.RATE.of w ≠ 0 then ((F.RGN_DAMPER.BURST.of w * 1024 * 80 : Nat) : Int)
      else min (g.bucket + (F.RGN_DAMPER.RATE.of o * (m.now.ns - g.filledAt) : Nat)) ((F.RGN_DAMPER.BURST.of w * 1024 * 80 : Nat) : Int)
    filledAt := m.now.ns } := by
  simp only [damperWritten, Bool.and_eq_true, decide_eq_true_eq, bne_iff_ne]

section Overflow
variable {m : Kz} {k a : Nat}

theorem overflowEnter_of_old (hage : oldestAge m k = some a) (hlim : m.fld F.RGN_RO_OVF.OVF_AGE k ≠ 0)
    (hovf : (m.rgn k).lg.ovf = false) (hold : m.fld F.RGN_RO_OVF.OVF_AGE k * 1000 < a) :
    overflowEnter m k = ((m.modLg k fun g => { g with ovf := true }).mark F.RGN_RO_OVF.OVF_SEEN k).logE 0x0403 2 2 k 0 (a / 1000) := by
  simp [overflowEnter, hage, hlim, hovf, hold]

theorem overflowEnter_stays (h : (m.rgn k).lg.ovf = true ∨ m.fld F.RGN_RO_OVF.OVF_AGE k = 0 ∨
    (oldestAge m k).any (fun a => decide (m.fld F.RGN_RO_OVF.OVF_AGE k * 1000 < a)) = false) : overflowEnter m k = m := by
  cases hage : oldestAge m k with
  | none => simp only [overflowEnter, hage]
  | some a =>
    simp only [overflowEnter, hage]
    refine if_neg ?_
    rcases h with h | h | h
    · simp [h]
    · simp [h]
    · rw [hage, Option.any_some] at h
      simp [h]

theorem overflowExit_of_young (hovf : (m.rgn k).lg.ovf = true) (h : m.fld F.RGN_RO_OVF.OVF_AGE k = 0 ∨
    (oldestAge m k).all (fun a => decide (a ≤ m.fld F.RGN_RO_OVF.OVF_AGE k * 500)) = true) :
    overflowExit m k = m.modLg k fun g => { g with ovf := false } := by
  refine if_pos ?_
  rcases h with h | h
  · simp [hovf, h]
  · cases hage : oldestAge m k with
    | none => simp [hovf]
    | some a =>
      rw [hage, Option.all_some] at h
      simp [hovf, h]

theorem overflowExit_stays (hlim : m.fld F.RGN_RO_OVF.OVF_AGE k ≠ 0) (hage : oldestAge m k = some a)
    (hold : m.fld F.RGN_RO_OVF.OVF_AGE k * 500 < a) : overflowExit m k = m := by
  simp only [overflowExit, hage]
  exact if_neg (by simp [hlim, hold])

end Overflow

end Sys2Proof.Machine

namespace Sys2Proof.Safety
open Machine

/-- Settles O21: FRAME_OPEN sends a frame again (`frameOpen_again`), opens one of the waiting records on the free lane
(`frameOpen_on_lane`), lets it wait for the damper, or discards it (`frameDiscard_spec`); FRAME_COMPLETE is the records' leaving
(`frameGone_spec`) and the lane's move; the damper and OVERFLOW are one change of the lane group each. That a
frame to be sent again is discarded while no lane is ACTIVE is the model's choice (log 89), as is that a command without its event changes
nothing (log 4). -/
theorem flueFramesAndDamper : Obligations.FlueFramesAndDamper := by
  unfold Obligations.FlueFramesAndDamper
  intro s t m k hm
  have opens {P : Kz → Prop} (h : P (frameOpen m k.val)) : After (.frameOpen t k) s P :=
    after_at (f := fun m => frameOpen m k.val) hm rfl h
  have completes {P : Kz → Prop} (j : Fin 8) (h : P (frameComplete m k.val j.val)) : After (.frameComplete t k j) s P :=
    after_at (f := fun m => frameComplete m k.val j.val) hm rfl h
  refine ⟨?again, ?fresh, ?damped, ?discarded, ?againDiscarded, ?againWaits, ?idle, ?completed, ?freesSlot, ?keepsSlot, ?damper,
    ?enters, ?entersNot, ?exits, ?exitsNot⟩
  case again =>
    intro f fs j hresend hfree
    apply opens
    rw [frameOpen_again hresend hfree, modROLane, Kz.modLg_modLg]
    rfl
  case fresh =>
    intro j hresend hqueue hfree hdamper hseq
    apply opens
    exact frameOpen_on_lane hresend hqueue (.inl (by rw [hfree]; rfl)) hfree hdamper hseq
  case damped =>
    intro hresend hqueue hlane hrate hneed
    exact opens (frameOpen_damped hresend hqueue hlane hrate hneed)
  case discarded =>
    intro hresend hqueue hnone hdamper hseq
    apply opens
    rw [frameOpen_fresh hresend hqueue (.inr hnone) hdamper hseq, freeLane_of_none_active hnone]
    obtain ⟨hn, hgroup, hothers, hcount, hchans⟩ :=
      frameDiscard_spec (b := frameFormed m k) (f := nextFlue m k 0) rfl rfl (counter_frameFormed m k) rfl
    exact ⟨hn, hgroup, hothers, hcount, hchans⟩
  case againDiscarded =>
    intro f fs hresend hnone
    apply opens
    rw [frameOpen_again_discarded hresend hnone]
    obtain ⟨hn, hgroup, hothers, hcount, -⟩ := frameDiscard_spec (b := m.modLg k.val fun g => { g with resend := fs }) (f := f.again 0)
      (stats := m.stats) (g := fun g => { g with resend := fs }) rfl rfl rfl rfl
    exact ⟨hn, hgroup, hothers, hcount⟩
  case againWaits =>
    intro hresend hfree hany
    exact opens (frameOpen_again_waits hresend hfree hany)
  case idle =>
    intro hresend h
    exact opens (frameOpen_idle hresend h)
  case completed =>
    intro j f hf hafter
    apply completes
    exact frameGone_spec (frameComplete_stays hf hafter)
  case freesSlot =>
    intro j f r i hf hafter hrecs hslot hmode hstop hfolds
    apply completes
    exact (frameComplete_stays hf hafter).trans (frameGone_frees hrecs hslot hfolds hmode hstop)
  case keepsSlot =>
    intro j f r i st hf hafter hst hrecs hslot hmode harm hfolds
    apply completes
    have hlane : (modROLane m k j fun l => { l with frame := none, state := st, after := none }) =
        modROLane (modROLane m k j fun l => { l with frame := none }) k j fun l => { l with state := st, after := none } :=
      (modROLane_modROLane m k j (fun l => { l with frame := none }) fun l => { l with state := st, after := none }).symm
    rw [frameComplete_moves hf hafter, frameGone_keeps hrecs hslot hfolds hmode harm, laneTo_of_ne_active hst, hlane]
    rfl
  case damper =>
    intro p v hacc
    refine after_at (f := fun m => pairWrite m p.val .RGN_DAMPER k.val v) hm rfl ?_
    have heffect : regEffect (storeReg m .RGN_DAMPER k v) .RGN_DAMPER k (m.cfgWord .RGN_DAMPER k) v =
        damperWritten (storeReg m .RGN_DAMPER k v) k (m.cfgWord .RGN_DAMPER k) v := rfl
    rw [pairWrite_accepts hacc (place_RGN_DAMPER k) (by decide) (by decide) (by rw [heffect]; rfl), heffect, damperWritten_eq]
    rfl
  case enters =>
    intro a hage hlim hovf hold
    refine after_at (f := fun m => overflowEnter m k.val) hm rfl ?_
    rw [overflowEnter_of_old hage hlim hovf hold]
    rfl
  case entersNot =>
    intro h
    exact after_at (f := fun m => overflowEnter m k.val) hm rfl (overflowEnter_stays h)
  case exits =>
    intro hovf h
    exact after_at (f := fun m => overflowExit m k.val) hm rfl (overflowExit_of_young hovf h)
  case exitsNot =>
    intro a hovf hlim hage hold
    exact after_at (f := fun m => overflowExit m k.val) hm rfl (overflowExit_stays hlim hage hold)

end Sys2Proof.Safety
end

section
/-! SUPPORT. The whole block: what a step is, and what a counter does (R639). -/
namespace Sys2Proof.Machine
open Safety

/-- Every command answers a next state and leaves its queue alone: each arm of `exec` is one function of the block. -/
theorem exec_next (c : Instr) (s : State) : ∃ n : Kz, exec c s = .next { s with kz := n } := by
  cases c <;> exact ⟨_, rfl⟩

theorem counter_of_count (m : Kz) (k : RegKind) (i e : Nat) : Sparse.get ({} : Counter) (m.count k i e).stats.live (k.addr i) =
    Kz.Counter.add (Sparse.get ({} : Counter) m.stats.live (k.addr i)) e := by
  simp [Kz.count]

theorem counterAdd_sat_of_reaches {x : Counter} {e : Nat} (he : 0 < e) (h : 0xFFFFFFFF ≤ x.val + e) : (Kz.Counter.add x e).sat = true := by
  rw [Kz.Counter.add, if_neg (Nat.not_lt.2 h), if_neg (Nat.ne_of_gt he)]

theorem counterAdd_sat_of_below {x : Counter} {e : Nat} (h : x.val + e < 0xFFFFFFFF) : (Kz.Counter.add x e).sat = x.sat := by
  rw [Kz.Counter.add, if_pos h]

/-- A counter below 2^32 counts up to 0xFFFF_FFFF and holds there. -/
theorem counterAdd_val_min {x : Counter} (h : x.val < 2 ^ 32) (e : Nat) : (Kz.Counter.add x e).val = min 0xFFFFFFFF (x.val + e) := by
  rw [Kz.val_counterAdd]
  split
  · omega
  · split <;> omega

end Sys2Proof.Machine
namespace Sys2Proof.Safety
open Machine

/-- Settles O51: `step` takes the command at the front, and each command is one function of the block. -/
theorem stepRunsTheFront : Obligations.StepRunsTheFront := by
  unfold Obligations.StepRunsTheFront
  refine ⟨fun c r s h => ?_, exec_next, fun s h => ?_⟩
  · simp only [step, h]
  · simp only [step, h]

/-- Settles O53: counting is `Counter.add` at the counter's address, and nothing else. -/
theorem countersHold : Obligations.CountersHold := by
  unfold Obligations.CountersHold
  intro m k i e hlt
  refine ⟨?_, fun he hge => ?_, fun hbelow => ?_, fun a ha => ?_, rfl⟩
  · rw [Kz.counter_count]
    exact counterAdd_val_min hlt e
  · rw [counter_of_count]
    exact counterAdd_sat_of_reaches he hge
  · rw [counter_of_count]
    exact counterAdd_sat_of_below hbelow
  · simp [Kz.count, Sparse.get_mod_ne _ _ _ _ _ ha]

/-- Refutes O55: MOD_IDENT reads its reset value 0x1920_0020, but the model keeps no configuration word of it: it has no writable field, and its
stored word is 0. -/
theorem not_resetState : ¬ Obligations.ResetState := by
  unfold Obligations.ResetState
  rintro ⟨-, -, -, -, -, hregs, -⟩
  have hident : State.reset.kz.cfgWord .MOD_IDENT 0 = RegKind.MOD_IDENT.info.reset := (hregs .MOD_IDENT 0).2.1
  exact absurd hident (by decide)

end Sys2Proof.Safety
end

section
/-! SUPPORT. The whole block: the parts of it that every step keeps or only moves forward (R565, R571, R572, R613, R643, R688). Most functions
of the model leave these parts as they are: an equation of `Kz.kept` for each, which `simp` uses. The others log, write memory, reset the
module, flip the raster port's buffers or burn a fuse: for each, `le_…` says that it only moves the parts forward. -/
namespace Sys2Proof.Machine
open Safety

/-- The parts of the block that every step keeps or only moves forward: that the memory has its canonical form, that the log holds at most 4,096
entries, that the reset cause names one cause, that the raster port sends one of its two buffers, and the fuses. -/
structure Kept where
  memory : Prop
  log : Prop
  cause : Prop
  port : Prop
  counter : Nat
  owner0 : OwnerSlot
  owner1 : OwnerSlot

def Kz.kept (m : Kz) : Kept where
  memory := m.mem.wf = true
  log := m.log.entries.length ≤ 4096
  cause := m.pwr.resetCause ∈ [1, 2, 4, 8, 16, 32]
  port := m.dsi.front < 2
  counter := m.trust.counter
  owner0 := m.trust.owner0
  owner1 := m.trust.owner1

@[simp] theorem kept_ite {c : Prop} [Decidable c] (a b : Kz) : (if c then a else b).kept = if c then a.kept else b.kept := apply_ite ..

@[simp] theorem kept_foldl {α : Type} {f : Kz → α → Kz} (h : ∀ m a, (f m a).kept = m.kept) (l : List α) (m : Kz) :
    (l.foldl f m).kept = m.kept := foldl_same Kz.kept h l m

@[simp] theorem kept_eachRgn {f : Kz → Nat → Kz} (h : ∀ m k, (f m k).kept = m.kept) (m : Kz) : (m.eachRgn f).kept = m.kept :=
  eachRgn_same Kz.kept h m

@[simp] theorem kept_eachChan {f : Kz → Nat → Kz} (h : ∀ m k, (f m k).kept = m.kept) (m : Kz) (k : Nat) : (m.eachChan k f).kept = m.kept :=
  eachChan_same Kz.kept h m k

@[simp] theorem kept_modPower {f : Power → Power} (h : ∀ p, (f p).resetCause = p.resetCause) (m : Kz) : (m.modPower f).kept = m.kept := by
  simp [Kz.kept, Kz.modPower, h]

@[simp] theorem kept_modDsi {f : Dsi → Dsi} (h : ∀ p, (f p).front = p.front) (m : Kz) : (modDsi m f).kept = m.kept := by
  simp [Kz.kept, modDsi, h]

@[simp] theorem kept_modTrust {f : Trust → Trust} (hc : ∀ t, (f t).counter = t.counter) (h0 : ∀ t, (f t).owner0 = t.owner0)
    (h1 : ∀ t, (f t).owner1 = t.owner1) (m : Kz) : (modTrust m f).kept = m.kept := by
  simp [Kz.kept, modTrust, hc, h0, h1]

/-! ### What leaves the kept parts as they are -/

/-! #### The shared operations -/

@[simp] theorem kept_modRgn (m : Kz) (k : ℕ) (f : Region → Region) : (Kz.modRgn m k f).kept = m.kept := by rfl
@[simp] theorem kept_modChan (m : Kz) (c : ℕ) (f : Channel → Channel) : (Kz.modChan m c f).kept = m.kept := by rfl
@[simp] theorem kept_modPort (m : Kz) (p : ℕ) (f : PortState → PortState) : (Kz.modPort m p f).kept = m.kept := by rfl
@[simp] theorem kept_modSess (m : Kz) (p : ℕ) (f : Session → Session) : (Kz.modSess m p f).kept = m.kept := by rfl
@[simp] theorem kept_modPwr (m : Kz) (k : ℕ) (f : RgnPower → RgnPower) : (Kz.modPwr m k f).kept = m.kept := by rfl
@[simp] theorem kept_modErr (m : Kz) (k : ℕ) (f : RgnErr → RgnErr) : (Kz.modErr m k f).kept = m.kept := by rfl
@[simp] theorem kept_modLane (m : Kz) (k : ℕ) (f : Lane → Lane) : (Kz.modLane m k f).kept = m.kept := by rfl
@[simp] theorem kept_modAcq (m : Kz) (k : ℕ) (f : RgnAcq → RgnAcq) : (Kz.modAcq m k f).kept = m.kept := by rfl
@[simp] theorem kept_modLg (m : Kz) (k : ℕ) (f : LaneGroup → LaneGroup) : (Kz.modLg m k f).kept = m.kept := by rfl
@[simp] theorem kept_modAcc (m : Kz) (k : ℕ) (f : RgnAccum → RgnAccum) : (Kz.modAcc m k f).kept = m.kept := by rfl
@[simp] theorem kept_modFe (m : Kz) (c : ℕ) (f : FrontEnd → FrontEnd) : (Kz.modFe m c f).kept = m.kept := by rfl
@[simp] theorem kept_modConv (m : Kz) (c : ℕ) (f : Conv → Conv) : (Kz.modConv m c f).kept = m.kept := by rfl
@[simp] theorem kept_modChain (m : Kz) (c : ℕ) (f : Chain → Chain) : (Kz.modChain m c f).kept = m.kept := by rfl
@[simp] theorem kept_modTrig (m : Kz) (c : ℕ) (f : Trig → Trig) : (Kz.modTrig m c f).kept = m.kept := by rfl
@[simp] theorem kept_modMem (m : Kz) (c : ℕ) (f : Memory → Memory) : (Kz.modMem m c f).kept = m.kept := by rfl
@[simp] theorem kept_modEng (m : Kz) (c : ℕ) (f : Engine → Engine) : (Kz.modEng m c f).kept = m.kept := by rfl
@[simp] theorem kept_modTb (m : Kz) (f : TimeBase → TimeBase) : (Kz.modTb m f).kept = m.kept := by rfl
@[simp] theorem kept_modTl (m : Kz) (f : TimingLink → TimingLink) : (Kz.modTl m f).kept = m.kept := by rfl
@[simp] theorem kept_modHub (m : Kz) (f : Hub → Hub) : (Kz.modHub m f).kept = m.kept := by rfl
@[simp] theorem kept_advance (m : Kz) (t : Stamp) : (Kz.advance m t).kept = m.kept := by rfl
@[simp] theorem kept_setCfg (m : Kz) (k : RegKind) (i : ℕ) (w : Word) : (Kz.setCfg m k i w).kept = m.kept := by rfl
@[simp] theorem kept_setFld (m : Kz) (f : Machine.Field) (i : ℕ) (v : ℕ) : (Kz.setFld m f i v).kept = m.kept := by rfl
@[simp] theorem kept_markBit (m : Kz) (f : Machine.Field) (i : ℕ) (b : ℕ) : (Kz.markBit m f i b).kept = m.kept := by rfl
@[simp] theorem kept_mark (m : Kz) (f : Machine.Field) (i : ℕ) : (Kz.mark m f i).kept = m.kept := by rfl
@[simp] theorem kept_clearSeen (m : Kz) (k : RegKind) (i : ℕ) (ones : ℕ) : (Kz.clearSeen m k i ones).kept = m.kept := by rfl
@[simp] theorem kept_count (m : Kz) (k : RegKind) (i : ℕ) (n : ℕ) : (Kz.count m k i n).kept = m.kept := by rfl
@[simp] theorem kept_emit (m : Kz) (e : Emission) : (Kz.emit m e).kept = m.kept := by rfl
@[simp] theorem kept_notifyPort (m : Kz) (d : ℕ) (p : ℕ) (code : ℕ) (kind : ℕ) (idx : ℕ) (data : List Byte) :
    (Kz.notifyPort m d p code kind idx data).kept = m.kept := by
  simp [Kz.notifyPort]
@[simp] theorem kept_notifyAt (m : Kz) (d : ℕ) (code : ℕ) (kind : ℕ) (idx : ℕ) (data : List Byte) :
    (Kz.notifyAt m d code kind idx data).kept = m.kept := by
  simp [Kz.notifyAt]
@[simp] theorem kept_notify (m : Kz) (code : ℕ) (kind : ℕ) (idx : ℕ) (data : List Byte) : (Kz.notify m code kind idx data).kept = m.kept := by
  simp [Kz.notify]
@[simp] theorem kept_openSpanAt (m : Kz) (k : SpanKind) (t : ℕ) : (Kz.openSpanAt m k t).kept = m.kept := by
  unfold Kz.openSpanAt
  split <;> rfl
@[simp] theorem kept_openSpan (m : Kz) (k : SpanKind) : (Kz.openSpan m k).kept = m.kept := by
  simp [Kz.openSpan]
@[simp] theorem kept_closeSpanAt (m : Kz) (k : SpanKind) (t : ℕ) : (Kz.closeSpanAt m k t).kept = m.kept := by rfl
@[simp] theorem kept_closeSpan (m : Kz) (k : SpanKind) : (Kz.closeSpan m k).kept = m.kept := by rfl
@[simp] theorem kept_addSpan (m : Kz) (k : SpanKind) (a : ℕ) (b : ℕ) : (Kz.addSpan m k a b).kept = m.kept := by rfl
@[simp] theorem kept_ledgerAct (m : Kz) (code : ℕ) (kind : ℕ) (idx : ℕ) : (Kz.ledgerAct m code kind idx).kept = m.kept := by rfl
@[simp] theorem kept_free (m : Kz) (w : ℕ) : (Kz.free m w).2.kept = m.kept := by rfl
@[simp] theorem kept_freeQuot (m : Kz) (n : ℤ) (d : ℕ) : (Kz.freeQuot m n d).2.kept = m.kept := by
  unfold Kz.freeQuot
  split <;> simp

/-! #### Front ends -/

@[simp] theorem kept_cmAlarmClear (m : Kz) (c : ℕ) (uv : ℕ) : (cmAlarmClear m c uv).kept = m.kept := by rfl
@[simp] theorem kept_feSettleStart (m : Kz) (c : ℕ) : (feSettleStart m c).kept = m.kept := by rfl
@[simp] theorem kept_feSettleDone (m : Kz) (c : ℕ) : (feSettleDone m c).kept = m.kept := by
  simp [feSettleDone]
@[simp] theorem kept_injCancel (m : Kz) (c : ℕ) : (injCancel m c).kept = m.kept := by rfl
@[simp] theorem kept_injectEdge (m : Kz) (c : ℕ) : (injectEdge m c).kept = m.kept := by
  simp [injectEdge]
@[simp] theorem kept_injEnWritten (m : Kz) (c : ℕ) (o : Word) (w : Word) : (injEnWritten m c o w).kept = m.kept := by
  simp [injEnWritten]
@[simp] theorem kept_injectReturn (m : Kz) (c : ℕ) : (injectReturn m c).kept = m.kept := by
  simp [injectReturn]

/-! #### Slice rotation -/

@[simp] theorem kept_rotFault (m : Kz) (c : ℕ) : (rotFault m c).kept = m.kept := by rfl
@[simp] theorem kept_suspectEnds (m : Kz) (c : ℕ) : (suspectEnds m c).kept = m.kept := by
  simp [suspectEnds]
@[simp] theorem kept_assignSlices (m : Kz) (c : ℕ) : (assignSlices m c).kept = m.kept := by
  simp [assignSlices]
@[simp] theorem kept_setSuspect (m : Kz) (c : ℕ) (s : ℕ) (on : Bool) : (setSuspect m c s on).kept = m.kept := by
  simp [setSuspect]
@[simp] theorem kept_calBegin (m : Kz) (c : ℕ) (s : ℕ) (first : Bool) : (calBegin m c s first).kept = m.kept := by rfl
@[simp] theorem kept_startStep (m : Kz) (c : ℕ) (p : ℕ) (fresh : Bool) : (startStep m c p fresh).kept = m.kept := by rfl
@[simp] theorem kept_openWindow (m : Kz) (c : ℕ) (st : RotState) : (openWindow m c st).kept = m.kept := by rfl
@[simp] theorem kept_armHandover (m : Kz) (c : ℕ) : (armHandover m c).kept = m.kept := by rfl
@[simp] theorem kept_askRestart (m : Kz) (c : ℕ) (cause : ℕ) : (askRestart m c cause).kept = m.kept := by
  simp [askRestart]
@[simp] theorem kept_spareOrNext (m : Kz) (c : ℕ) : (spareOrNext m c).kept = m.kept := by
  simp [spareOrNext]
@[simp] theorem kept_rotEnterRun (m : Kz) (c : ℕ) : (rotEnterRun m c).kept = m.kept := by
  simp [rotEnterRun]
@[simp] theorem kept_takePosition (m : Kz) (c : ℕ) (p : ℕ) : (takePosition m c p).kept = m.kept := by
  simp [takePosition]
@[simp] theorem kept_rotStop (m : Kz) (c : ℕ) : (rotStop m c).kept = m.kept := by rfl
@[simp] theorem kept_writeCoef (m : Kz) (c : ℕ) (s : ℕ) (coef : List ℤ) : (writeCoef m c s coef).kept = m.kept := by rfl
@[simp] theorem kept_shadowResult (m : Kz) (c : ℕ) (verdict : ℕ) : (shadowResult m c verdict).kept = m.kept := by
  simp [shadowResult]
@[simp] theorem kept_windowStarved (m : Kz) (c : ℕ) : (windowStarved m c).kept = m.kept := by
  simp [windowStarved]
@[simp] theorem kept_timerExpire (m : Kz) (c : ℕ) : (timerExpire m c).kept = m.kept := by
  simp [timerExpire]
@[simp] theorem kept_stepTimerExpire (m : Kz) (c : ℕ) : (stepTimerExpire m c).kept = m.kept := by
  unfold stepTimerExpire
  split <;> simp
@[simp] theorem kept_handover (m : Kz) (c : ℕ) : (handover m c).kept = m.kept := by
  unfold handover
  dsimp only
  repeat' split
  all_goals simp
@[simp] theorem kept_nextStep (m : Kz) (c : ℕ) : (nextStep m c).kept = m.kept := by
  simp [nextStep]
@[simp] theorem kept_confirmDone (m : Kz) (c : ℕ) (disagree : ℕ) : (confirmDone m c disagree).kept = m.kept := by
  simp [confirmDone]
@[simp] theorem kept_revertBoundary (m : Kz) (c : ℕ) : (revertBoundary m c).kept = m.kept := by
  simp [revertBoundary]
@[simp] theorem kept_calPassStart (m : Kz) (k : ℕ) : (calPassStart m k).kept = m.kept := by
  simp [calPassStart]
@[simp] theorem kept_calPassDone (m : Kz) (k : ℕ) (front : List (List (List ℤ))) : (calPassDone m k front).kept = m.kept := by
  simp [calPassDone]

/-! #### Time base -/

@[simp] theorem kept_setSpan (m : Kz) (k : SpanKind) (b : Bool) : (setSpan m k b).kept = m.kept := by
  simp [setSpan]
@[simp] theorem kept_timeFlags (m : Kz) : (timeFlags m).kept = m.kept := by
  simp [timeFlags]
@[simp] theorem kept_lockRate (m : Kz) : (lockRate m).kept = m.kept := by
  simp [lockRate]
@[simp] theorem kept_allCalDue (m : Kz) : (allCalDue m).kept = m.kept := by
  simp [allCalDue, Kz.allChans]
@[simp] theorem kept_modeWritten (m : Kz) (o : Word) (w : Word) : (modeWritten m o w).kept = m.kept := by
  unfold modeWritten
  split <;> simp
@[simp] theorem kept_synSwitchLocked (m : Kz) : (synSwitchLocked m).kept = m.kept := by
  simp [synSwitchLocked]
@[simp] theorem kept_relockBegin (m : Kz) (phase : ℤ) : (relockBegin m phase).kept = m.kept := by
  simp [relockBegin]
@[simp] theorem kept_xingSlewDone (m : Kz) : (xingSlewDone m).kept = m.kept := by
  simp [xingSlewDone]
@[simp] theorem kept_synRegained (m : Kz) : (synRegained m).kept = m.kept := by
  simp [synRegained]
@[simp] theorem kept_ovenSeen (m : Kz) (mw : ℕ) (err : ℤ) : (ovenSeen m mw err).kept = m.kept := by rfl
@[simp] theorem kept_trimWritten (m : Kz) (o : Word) : (trimWritten m o).kept = m.kept := by rfl
@[simp] theorem kept_epochAccept (m : Kz) (i : ℕ) (host : Bool) : (epochAccept m i host).kept = m.kept := by rfl
@[simp] theorem kept_epochOrigin (m : Kz) : (epochOrigin m).kept = m.kept := by
  unfold epochOrigin
  split <;> simp
@[simp] theorem kept_mclkGate (m : Kz) (hz : ℕ) : (mclkGate m hz).kept = m.kept := by
  unfold mclkGate
  dsimp only
  repeat' split
  all_goals simp

/-! #### Signal chain -/

@[simp] theorem kept_chainEnter (m : Kz) (c : ℕ) : (chainEnter m c).kept = m.kept := by rfl
@[simp] theorem kept_chainLeave (m : Kz) (c : ℕ) : (chainLeave m c).kept = m.kept := by rfl
@[simp] theorem kept_rangeClear (m : Kz) (c : ℕ) : (rangeClear m c).kept = m.kept := by rfl
@[simp] theorem kept_blAcquireDone (m : Kz) (c : ℕ) (est : ℤ) : (blAcquireDone m c est).kept = m.kept := by
  simp [blAcquireDone]
@[simp] theorem kept_causeTold (m : Kz) (c : ℕ) (on : Bool) (a : FreezeCause) : (causeTold m c on a).kept = m.kept := by
  unfold causeTold
  split <;> simp
@[simp] theorem kept_excAlone (m : Kz) (c : ℕ) : (excAlone m c).kept = m.kept := by rfl
@[simp] theorem kept_freezeBegin (m : Kz) (c : ℕ) : (freezeBegin m c).kept = m.kept := by
  simp [freezeBegin]
@[simp] theorem kept_freezeEnd (m : Kz) (c : ℕ) : (freezeEnd m c).kept = m.kept := by
  simp [freezeEnd]
@[simp] theorem kept_blReacquireDone (m : Kz) (c : ℕ) (resid : ℕ) : (blReacquireDone m c resid).kept = m.kept := by
  simp [blReacquireDone]
@[simp] theorem kept_blFreezeWritten (m : Kz) (c : ℕ) (o : Word) (w : Word) : (blFreezeWritten m c o w).kept = m.kept := by
  simp [blFreezeWritten]
@[simp] theorem kept_toneFigures (m : Kz) (c : ℕ) (b : Option ToneBlock) (mag2 : ℕ) (phase : ℕ) (sat : Bool) :
    (toneFigures m c b mag2 phase sat).2.kept = m.kept := by
  unfold toneFigures
  split <;> simp
@[simp] theorem kept_toneBlock (m : Kz) (c : ℕ) (last : ℕ) (mag2 : ℕ) (phase : ℕ) (sat : Bool) :
    (toneBlock m c last mag2 phase sat).kept = m.kept := by
  simp [toneBlock]

/-! #### Records -/

@[simp] theorem kept_unslotAll (m : Kz) (c : ℕ) : (unslotAll m c).kept = m.kept := by rfl
@[simp] theorem kept_memEnter (m : Kz) (c : ℕ) : (memEnter m c).kept = m.kept := by rfl
@[simp] theorem kept_memResume (m : Kz) (c : ℕ) : (memResume m c).kept = m.kept := by rfl
@[simp] theorem kept_takeSlot (m : Kz) (c : ℕ) (i : ℕ) : (takeSlot m c i).kept = m.kept := by rfl
@[simp] theorem kept_slotDone (m : Kz) (c : ℕ) (s : Option ℕ) : (slotDone m c s).kept = m.kept := by
  unfold slotDone
  split <;> simp
@[simp] theorem kept_slotFree (m : Kz) (c : ℕ) (s : Option ℕ) : (slotFree m c s).kept = m.kept := by
  unfold slotFree
  split <;> simp
@[simp] theorem kept_freeSegments (m : Kz) (c : ℕ) : (freeSegments m c).kept = m.kept := by rfl
@[simp] theorem kept_markDone (m : Kz) (c : ℕ) (ser : ℕ) : (markDone m c ser).kept = m.kept := by rfl
@[simp] theorem kept_addClosed (m : Kz) (c : ℕ) (r : Rec) : (addClosed m c r).kept = m.kept := by
  simp [addClosed]
@[simp] theorem kept_stub (m : Kz) (c : ℕ) (kind : Machine.RecKind) (ser : ℕ) (time : RecTime) (win : Option (ℕ × ℕ)) (flags : ℕ) :
    (stub m c kind ser time win flags).kept = m.kept := by
  simp [stub]
@[simp] theorem kept_stubOpen (m : Kz) (c : ℕ) (r : OpenRec) (flags : ℕ) : (stubOpen m c r flags).kept = m.kept := by
  simp [stubOpen]
@[simp] theorem kept_endOpen (m : Kz) (c : ℕ) (flags : ℕ) : (endOpen m c flags).kept = m.kept := by
  simp [endOpen]
@[simp] theorem kept_acceptStub (m : Kz) (c : ℕ) (a : AccEntry) (flags : ℕ) : (acceptStub m c a flags).kept = m.kept := by
  simp [acceptStub]
@[simp] theorem kept_openAccept (m : Kz) (a : AccEntry) (c : ℕ) : (openAccept m a c).kept = m.kept := by
  unfold openAccept
  dsimp only
  repeat' split
  all_goals simp
@[simp] theorem kept_lostStubs (m : Kz) (k : ℕ) (a : AccEntry) (own : ℕ) (flags : ℕ) : (lostStubs m k a own flags).kept = m.kept := by
  simp [lostStubs]
@[simp] theorem kept_takeAccept (m : Kz) (k : ℕ) (a : AccEntry) : (takeAccept m k a).1.kept = m.kept := by
  unfold takeAccept
  dsimp only
  repeat' split
  all_goals simp
@[simp] theorem kept_recoveredStubs (m : Kz) (k : ℕ) (a : AccEntry) : (recoveredStubs m k a).kept = m.kept := by
  simp [recoveredStubs]
@[simp] theorem kept_queueDepart (m : Kz) (k : ℕ) : (queueDepart m k).kept = m.kept := by
  unfold queueDepart
  dsimp only
  split <;> simp
@[simp] theorem kept_extractStart (m : Kz) (c : ℕ) : (extractStart m c).kept = m.kept := by
  unfold extractStart
  split <;> simp
@[simp] theorem kept_streamStart (m : Kz) (c : ℕ) : (streamStart m c).kept = m.kept := by
  unfold streamStart
  dsimp only
  repeat' split
  all_goals simp
@[simp] theorem kept_addAnnots (m : Kz) (c : ℕ) (r : Rec) : (addAnnots m c r).2.kept = m.kept := by
  unfold addAnnots
  split <;> simp
@[simp] theorem kept_markOut (m : Kz) (c : ℕ) (ser : ℕ) : (markOut m c ser).kept = m.kept := by rfl
@[simp] theorem kept_handOver (m : Kz) (c : ℕ) (r : Rec) (a : Bool) (h : Bool) (p : Bool) (copy : Bool) :
    (handOver m c r a h p copy).kept = m.kept := by rfl
@[simp] theorem kept_accqClear (m : Kz) (k : ℕ) : (accqClear m k).kept = m.kept := by rfl

/-! #### Triggers -/

@[simp] theorem kept_levelWritten (m : Kz) (c : ℕ) (second : Bool) (o : Word) : (levelWritten m c second o).kept = m.kept := by rfl
@[simp] theorem kept_fireTrig (m : Kz) (c : ℕ) (src : ℕ) (inst : ℕ) (cycle : ℕ) : (fireTrig m c src inst cycle).kept = m.kept := by
  simp [fireTrig]
@[simp] theorem kept_combOut (m : Kz) (c : ℕ) (inst : ℕ) (cycle : ℕ) : (combOut m c inst cycle).kept = m.kept := by
  simp [combOut]
@[simp] theorem kept_combine (m : Kz) (c : ℕ) (second : Bool) (inst : ℕ) (cycle : ℕ) : (combine m c second inst cycle).kept = m.kept := by
  unfold combine
  dsimp only
  repeat' split
  all_goals simp
@[simp] theorem kept_comparator (m : Kz) (c : ℕ) (second : Bool) : (comparator m c second).kept = m.kept := by
  unfold comparator
  split <;> simp
@[simp] theorem kept_patternFire (m : Kz) (k : ℕ) : (patternFire m k).kept = m.kept := by
  simp [patternFire]
@[simp] theorem kept_firePeriodic (m : Kz) (k : ℕ) (inst : ℕ) : (firePeriodic m k inst).kept = m.kept := by
  simp [firePeriodic]
@[simp] theorem kept_softTrig (m : Kz) (k : ℕ) (mask : ℕ) : (softTrig m k mask).kept = m.kept := by
  simp [softTrig]
@[simp] theorem kept_startFilling (m : Kz) (c : ℕ) (i : ℕ) (slot : ℕ) : (startFilling m c i slot).kept = m.kept := by rfl
@[simp] theorem kept_beginFilling (m : Kz) (c : ℕ) (i : ℕ) : (beginFilling m c i).kept = m.kept := by
  unfold beginFilling
  split <;> simp
@[simp] theorem kept_trigEnter (m : Kz) (c : ℕ) : (trigEnter m c).kept = m.kept := by
  simp [trigEnter]
@[simp] theorem kept_trigLeave (m : Kz) (c : ℕ) : (trigLeave m c).kept = m.kept := by rfl
@[simp] theorem kept_armWritten (m : Kz) (c : ℕ) : (armWritten m c).kept = m.kept := by
  simp [armWritten]
@[simp] theorem kept_preFilled (m : Kz) (c : ℕ) : (preFilled m c).kept = m.kept := by
  simp [preFilled]
@[simp] theorem kept_toRearm (m : Kz) (c : ℕ) (i : ℕ) : (toRearm m c i).kept = m.kept := by rfl
@[simp] theorem kept_holdExpire (m : Kz) (c : ℕ) : (holdExpire m c).kept = m.kept := by
  simp [holdExpire]
@[simp] theorem kept_rearmDone (m : Kz) (c : ℕ) : (rearmDone m c).kept = m.kept := by
  unfold rearmDone
  split <;> simp
@[simp] theorem kept_ignorePre (m : Kz) (c : ℕ) : (ignorePre m c).kept = m.kept := by rfl
@[simp] theorem kept_ignoreHold (m : Kz) (c : ℕ) : (ignoreHold m c).kept = m.kept := by rfl
@[simp] theorem kept_afterRecord (m : Kz) (c : ℕ) (last : ℕ) : (afterRecord m c last).kept = m.kept := by
  simp [afterRecord]
@[simp] theorem kept_recordClosed (m : Kz) (c : ℕ) (last : ℕ) : (recordClosed m c last).kept = m.kept := by
  simp [recordClosed]
@[simp] theorem kept_openTriggered (m : Kz) (c : ℕ) (srcs : ℕ) (inst : ℕ) : (openTriggered m c srcs inst).kept = m.kept := by
  simp [openTriggered]
@[simp] theorem kept_decideTrig (m : Kz) (c : ℕ) : (decideTrig m c).kept = m.kept := by
  unfold decideTrig
  dsimp only
  repeat' split
  all_goals simp

/-! #### Masks and measurements -/

@[simp] theorem kept_recordClose (m : Kz) (c : ℕ) (d : RecData) : (recordClose m c d).kept = m.kept := by
  unfold recordClose
  split <;> simp
@[simp] theorem kept_measureDone (m : Kz) (c : ℕ) : (measureDone m c).kept = m.kept := by
  unfold measureDone
  split <;> simp
@[simp] theorem kept_maskShare (m : Kz) (k : ℕ) : (maskShare m k).kept = m.kept := by rfl

/-! #### Accumulation -/

@[simp] theorem kept_modAvg (m : Kz) (c : ℕ) (f : Averager → Averager) : (modAvg m c f).kept = m.kept := by rfl
@[simp] theorem kept_modHist (m : Kz) (c : ℕ) (f : Hist → Hist) : (modHist m c f).kept = m.kept := by rfl
@[simp] theorem kept_modMap (m : Kz) (x : ℕ) (f : PMap → PMap) : (modMap m x f).kept = m.kept := by rfl
@[simp] theorem kept_settle (m : Kz) (c : ℕ) (f : Fold) (g : Fold) : (settle m c f g).kept = m.kept := by
  simp [settle]
@[simp] theorem kept_avgDone (m : Kz) (c : ℕ) : (avgDone m c).kept = m.kept := by
  simp [avgDone]
@[simp] theorem kept_cutSettle (m : Kz) (k : ℕ) : (cutSettle m k).kept = m.kept := by
  simp [cutSettle]
@[simp] theorem kept_hubServed (m : Kz) (k : ℕ) (g : Fold) : (hubServed m k g).kept = m.kept := by rfl
@[simp] theorem kept_avgFold (m : Kz) (c : ℕ) : (avgFold m c).kept = m.kept := by
  unfold avgFold
  dsimp only
  split <;> simp
@[simp] theorem kept_histFold (m : Kz) (c : ℕ) : (histFold m c).kept = m.kept := by
  unfold histFold
  split <;> simp
@[simp] theorem kept_mapFold (m : Kz) (c : ℕ) : (mapFold m c).kept = m.kept := by
  unfold mapFold
  split
  · rfl
  · next k f _ =>
    split
    · rfl
    · generalize (if f.sel then 1 else 0) = x
      dsimp only
      split
      · simp
      · rw [kept_foldl]
        · simp
        · intro m p
          split <;> simp
@[simp] theorem kept_mapDecay (m : Kz) (x : ℕ) : (mapDecay m x).kept = m.kept := by
  simp [mapDecay]
@[simp] theorem kept_decayWritten (m : Kz) (x : ℕ) (o : Word) (w : Word) : (decayWritten m x o w).kept = m.kept := by
  simp [decayWritten]
@[simp] theorem kept_avgClear (m : Kz) (c : ℕ) : (avgClear m c).kept = m.kept := by rfl
@[simp] theorem kept_histClear (m : Kz) (c : ℕ) : (histClear m c).kept = m.kept := by rfl
@[simp] theorem kept_accClear (m : Kz) (k : ℕ) (avg : ℕ) (hist : ℕ) : (accClear m k avg hist).kept = m.kept := by
  simp [accClear]
@[simp] theorem kept_mapClear (m : Kz) (x : ℕ) : (mapClear m x).kept = m.kept := by rfl
@[simp] theorem kept_mapClearDone (m : Kz) (x : ℕ) : (mapClearDone m x).kept = m.kept := by
  simp [mapClearDone]
@[simp] theorem kept_avgEnter (m : Kz) (c : ℕ) : (avgEnter m c).kept = m.kept := by
  simp only [avgEnter]
  repeat' split
  all_goals simp
@[simp] theorem kept_accRestart (m : Kz) (k : ℕ) : (accRestart m k).kept = m.kept := by
  simp [accRestart]
@[simp] theorem kept_accCut (m : Kz) (k : ℕ) (edge : ℕ) (period : ℕ) : (accCut m k edge period).kept = m.kept := by
  simp [accCut]

/-! #### Readout lanes -/

@[simp] theorem kept_modROLane (m : Kz) (k : ℕ) (j : ℕ) (f : ROLane → ROLane) : (modROLane m k j f).kept = m.kept := by rfl
@[simp] theorem kept_laneTo (m : Kz) (k : ℕ) (j : ℕ) (st : LaneState) : (laneTo m k j st).kept = m.kept := by
  simp [laneTo]
@[simp] theorem kept_laneLeave (m : Kz) (k : ℕ) (j : ℕ) (st : LaneState) : (laneLeave m k j st).kept = m.kept := by
  simp [laneLeave]
@[simp] theorem kept_laneEnable (m : Kz) (k : ℕ) (o : ℕ) (w : ℕ) : (laneEnable m k o w).kept = m.kept := by
  simp [laneEnable]
@[simp] theorem kept_laneTest (m : Kz) (k : ℕ) (o : ℕ) (w : ℕ) : (laneTest m k o w).kept = m.kept := by
  simp [laneTest]
@[simp] theorem kept_laneRetrain (m : Kz) (k : ℕ) (bits : ℕ) : (laneRetrain m k bits).kept = m.kept := by
  simp [laneRetrain]
@[simp] theorem kept_lanePllLock (m : Kz) (k : ℕ) (j : ℕ) : (lanePllLock m k j).kept = m.kept := by
  unfold lanePllLock
  split <;> simp
@[simp] theorem kept_laneSyncDone (m : Kz) (k : ℕ) (j : ℕ) : (laneSyncDone m k j).kept = m.kept := by
  simp [laneSyncDone]
@[simp] theorem kept_laneRetrainDone (m : Kz) (k : ℕ) (j : ℕ) : (laneRetrainDone m k j).kept = m.kept := by
  simp [laneRetrainDone]
@[simp] theorem kept_lanesUp (m : Kz) (k : ℕ) : (lanesUp m k).kept = m.kept := by
  simp [lanesUp]
@[simp] theorem kept_lanesDown (m : Kz) (k : ℕ) : (lanesDown m k).kept = m.kept := by rfl
@[simp] theorem kept_recGone (m : Kz) (r : Rec) : (recGone m r).kept = m.kept := by
  simp [recGone]
@[simp] theorem kept_frameComplete (m : Kz) (k : ℕ) (j : ℕ) : (frameComplete m k j).kept = m.kept := by
  unfold frameComplete
  dsimp only
  repeat' split
  all_goals simp
@[simp] theorem kept_damperWritten (m : Kz) (k : ℕ) (o : Word) (w : Word) : (damperWritten m k o w).kept = m.kept := by rfl
@[simp] theorem kept_overflowExit (m : Kz) (k : ℕ) : (overflowExit m k).kept = m.kept := by
  simp [overflowExit]

/-! #### Feature engines -/

@[simp] theorem kept_handOff (m : Kz) (c : ℕ) : (handOff m c).kept = m.kept := by
  unfold handOff
  split <;> simp
@[simp] theorem kept_engineLeave (m : Kz) (c : ℕ) : (engineLeave m c).kept = m.kept := by rfl
@[simp] theorem kept_loadAccepted (m : Kz) (k : ℕ) (mask : ℕ) (g : EngImage) : (loadAccepted m k mask g).kept = m.kept := by
  simp [loadAccepted]

/-! #### Sample path -/

@[simp] theorem kept_deliver (m : Kz) (d : Delivered) : (deliver m d).kept = m.kept := by
  unfold deliver
  dsimp only
  split
  · rfl
  · simp
    rfl

/-! #### Ledger -/

@[simp] theorem kept_modAge (m : Kz) (f : Ageing → Ageing) : (modAge m f).kept = m.kept := by rfl
@[simp] theorem kept_modRAge (m : Kz) (k : ℕ) (f : RgnAge → RgnAge) : (modRAge m k f).kept = m.kept := by rfl
@[simp] theorem kept_writeLedger (m : Kz) (kind : ℕ) (code : ℕ) (skind : ℕ) (idx : ℕ) (ok : Bool) :
    (writeLedger m kind code skind idx ok).kept = m.kept := by
  simp [writeLedger]
@[simp] theorem kept_checkpoint (m : Kz) (ok : Bool) : (checkpoint m ok).kept = m.kept := by
  simp [checkpoint]

/-! #### Primitives -/

@[simp] theorem kept_modPrim (m : Kz) (n : ℕ) (f : Prim → Prim) : (modPrim m n f).kept = m.kept := by rfl
@[simp] theorem kept_primWord (m : Kz) (no : ℕ) (c : ℕ) (w : ℕ) (cyc : ℕ) : (primWord m no c w cyc).kept = m.kept := by
  unfold primWord
  dsimp only
  repeat' split
  all_goals simp
@[simp] theorem kept_primFrame (m : Kz) (n : ℕ) (no : ℕ) (slip : ℕ) : (primFrame m n no slip).kept = m.kept := by
  unfold primFrame
  dsimp only
  split <;> simp
@[simp] theorem kept_primWritten (m : Kz) (n : ℕ) (w : Word) : (primWritten m n w).kept = m.kept := by
  simp [primWritten]
@[simp] theorem kept_minLat (m : Kz) : (minLat m).kept = m.kept := by
  simp [minLat]

/-! #### Regions and module states -/

@[simp] theorem kept_addCause (m : Kz) (k : ℕ) (c : HoldCause) : (addCause m k c).kept = m.kept := by rfl
@[simp] theorem kept_stopWork (m : Kz) (k : ℕ) (flags : ℕ) : (stopWork m k flags).kept = m.kept := by
  simp [stopWork]
@[simp] theorem kept_reload (m : Kz) (r : RegKind) (i : ℕ) : (reload m r i).kept = m.kept := by
  unfold reload
  dsimp only
  split <;> rfl
@[simp] theorem kept_reloadChan (m : Kz) (c : ℕ) : (reloadChan m c).kept = m.kept := by
  simp [reloadChan]
@[simp] theorem kept_reloadRgn (m : Kz) (k : ℕ) : (reloadRgn m k).kept = m.kept := by
  simp [reloadRgn]
@[simp] theorem kept_chanEnter (m : Kz) (c : ℕ) : (chanEnter m c).kept = m.kept := by
  simp [chanEnter]
@[simp] theorem kept_assignIfDue (m : Kz) (c : ℕ) : (assignIfDue m c).kept = m.kept := by
  simp [assignIfDue]
@[simp] theorem kept_rgnCalDue (m : Kz) (k : ℕ) : (rgnCalDue m k).kept = m.kept := by
  simp [rgnCalDue]
@[simp] theorem kept_holdToIdle (m : Kz) (k : ℕ) : (holdToIdle m k).kept = m.kept := by
  simp only [holdToIdle]
  repeat' split
  all_goals simp
@[simp] theorem kept_leaveHold (m : Kz) : (leaveHold m).2.kept = m.kept := by
  unfold leaveHold
  dsimp only
  repeat' split
  all_goals simp

/-! #### Errors and statistics -/

@[simp] theorem kept_sawVin (m : Kz) (v : ℕ) : (sawVin m v).kept = m.kept := by rfl
@[simp] theorem kept_dipStart (m : Kz) (vin : ℕ) : (dipStart m vin).kept = m.kept := by
  simp [dipStart]
@[simp] theorem kept_overvoltageClear (m : Kz) (vin : ℕ) : (overvoltageClear m vin).kept = m.kept := by
  simp [overvoltageClear]
@[simp] theorem kept_railCauseClear (m : Kz) (k : ℕ) : (railCauseClear m k).kept = m.kept := by
  simp [railCauseClear]
@[simp] theorem kept_sawTj (m : Kz) (r : Option ℕ) (tj : ℤ) : (sawTj m r tj).kept = m.kept := by
  unfold sawTj
  split <;> simp
@[simp] theorem kept_thermalClear (m : Kz) (r : Option ℕ) (tj : ℤ) : (thermalClear m r tj).kept = m.kept := by
  unfold thermalClear
  dsimp only
  repeat' split
  all_goals simp
@[simp] theorem kept_railWritten (m : Kz) (k : ℕ) (o : Word) : (railWritten m k o).kept = m.kept := by
  simp [railWritten]
@[simp] theorem kept_rampDone (m : Kz) (k : ℕ) : (rampDone m k).kept = m.kept := by
  simp [rampDone]
@[simp] theorem kept_raiseBoundary (m : Kz) (src : BoundarySource) : (raiseBoundary m src).kept = m.kept := by rfl
@[simp] theorem kept_statTimer (m : Kz) : (statTimer m).kept = m.kept := by
  simp [statTimer]
@[simp] theorem kept_eccSums (m : Kz) (p : ℕ → Bool) : (eccSums m p).kept = m.kept := by
  simp [eccSums]
@[simp] theorem kept_earlyLatch (m : Kz) (k : ℕ) : (earlyLatch m k).kept = m.kept := by
  unfold earlyLatch
  dsimp only
  split <;> rfl
@[simp] theorem kept_lateLatch (m : Kz) (k : ℕ) : (lateLatch m k).kept = m.kept := by
  unfold lateLatch
  split
  · exact kept_eccSums m _
  · rfl

/-! #### Time-interval unit and frequency counter -/

@[simp] theorem kept_modTiu (m : Kz) (f : Tiu → Tiu) : (modTiu m f).kept = m.kept := by rfl
@[simp] theorem kept_modCtx (m : Kz) (n : ℕ) (f : TiuCtx → TiuCtx) : (modCtx m n f).kept = m.kept := by rfl
@[simp] theorem kept_tiuResult (m : Kz) (n : ℕ) (outcome : ℕ) (d : ℕ) : (tiuResult m n outcome d).kept = m.kept := by rfl
@[simp] theorem kept_tiuAfter (m : Kz) (n : ℕ) : (tiuAfter m n).kept = m.kept := by rfl
@[simp] theorem kept_tiuCloses (m : Kz) (n : ℕ) (i : ℕ) : (tiuCloses m n i).kept = m.kept := by
  simp [tiuCloses]
@[simp] theorem kept_tiuMeet (m : Kz) (n : ℕ) (i : ℕ) (es : List TiuEvent) : (tiuMeet m n i es).kept = m.kept := by
  unfold tiuMeet
  dsimp only
  rw [kept_foldl]
  · split
    · split <;> simp
    · simp
  · intro m p
    split <;> simp
@[simp] theorem kept_tiuRun (n : ℕ) (m : Kz) : (tiuRun n m).kept = m.kept := by
  induction n generalizing m with
  | zero => rfl
  | succ n ih =>
    unfold tiuRun
    split
    · split
      · rfl
      · simp [ih]
    · rfl
@[simp] theorem kept_tiuJudge (m : Kz) : (tiuJudge m).kept = m.kept := by
  simp [tiuJudge]
@[simp] theorem kept_tiuArrive (m : Kz) (src : ℕ) (arg : ℕ) (inst : ℕ) : (tiuArrive m src arg inst).kept = m.kept := by
  simp [tiuArrive]
@[simp] theorem kept_tiuChannel (m : Kz) (c : ℕ) : (tiuChannel m c).kept = m.kept := by
  unfold tiuChannel
  split <;> simp
@[simp] theorem kept_tiuTimeout (m : Kz) (n : ℕ) : (tiuTimeout m n).kept = m.kept := by
  simp [tiuTimeout]
@[simp] theorem kept_tiuAbort (m : Kz) : (tiuAbort m).kept = m.kept := by
  simp [tiuAbort]
@[simp] theorem kept_tiuArm (m : Kz) (mask : ℕ) : (tiuArm m mask).kept = m.kept := by
  simp [tiuArm]
@[simp] theorem kept_tiuCfgWritten (m : Kz) (n : ℕ) (w : Word) : (tiuCfgWritten m n w).kept = m.kept := by
  simp [tiuCfgWritten]
@[simp] theorem kept_tiuLatch (m : Kz) (n : ℕ) : (tiuLatch m n).kept = m.kept := by rfl
@[simp] theorem kept_tiuStatCleared (m : Kz) (n : ℕ) (w : Word) : (tiuStatCleared m n w).kept = m.kept := by
  simp [tiuStatCleared]
@[simp] theorem kept_xtrigEdge (m : Kz) (x : ℕ) (falling : Bool) (inst : ℕ) : (xtrigEdge m x falling inst).kept = m.kept := by
  have hstamp (m : Kz) : (xtrigEdge.stamp x inst m).kept = m.kept := by simp [xtrigEdge.stamp]
  unfold xtrigEdge
  generalize (if x = 0 then m.hub.xtrigLast0 else m.hub.xtrigLast1) = last
  cases last <;> simp [hstamp]
@[simp] theorem kept_freqWritten (m : Kz) (w : Word) : (freqWritten m w).kept = m.kept := by rfl
@[simp] theorem kept_freqResult (m : Kz) (f : ℕ) (none_ : Bool) (gap : Bool) (spanNs : ℕ) :
    (freqResult m f none_ gap spanNs).kept = m.kept := by rfl
@[simp] theorem kept_freqEnd (m : Kz) (n : ℕ) (span : ℕ) (longest : ℕ) : (freqEnd m n span longest).kept = m.kept := by
  simp [freqEnd]
@[simp] theorem kept_freqNone (m : Kz) : (freqNone m).kept = m.kept := by
  simp [freqNone]
@[simp] theorem kept_freqLatch (m : Kz) : (freqLatch m).kept = m.kept := by rfl

/-! #### Timing link -/

@[simp] theorem kept_setTin (m : Kz) (i : ℕ) (x : Tin) : (setTin m i x).kept = m.kept := by rfl
@[simp] theorem kept_clockReturns (m : Kz) : (clockReturns m).kept = m.kept := by
  unfold clockReturns
  dsimp only
  repeat' split
  all_goals simp
@[simp] theorem kept_tinDetect (m : Kz) (i : ℕ) : (tinDetect m i).kept = m.kept := by
  simp [tinDetect]
@[simp] theorem kept_tinLock (m : Kz) (i : ℕ) : (tinLock m i).kept = m.kept := by
  simp [tinLock]
@[simp] theorem kept_returnFrame (m : Kz) : (returnFrame m).kept = m.kept := by
  unfold returnFrame
  dsimp only
  split <;> simp
@[simp] theorem kept_sawSkew (m : Kz) (f : Frame) : (sawSkew m f).kept = m.kept := by
  unfold sawSkew
  split <;> simp
@[simp] theorem kept_toLane (m : Kz) (e : Edge) (code : ℕ) (data : ℕ) (a : Option LaneAccept) : (toLane m e code data a).kept = m.kept := by rfl
@[simp] theorem kept_takeEvents (m : Kz) (i : ℕ) (n : ℕ) : (takeEvents m i n).2.kept = m.kept := by rfl
@[simp] theorem kept_laneCmd (code : ℕ) (m : Kz) (f : Frame) (e : Edge) : (laneCmd code m f e).kept = m.kept := by rfl
@[simp] theorem kept_xingLatch (m : Kz) : (xingLatch m).kept = m.kept := by rfl

/-! #### Fixed lane -/

@[simp] theorem kept_sendLink (m : Kz) (cyc : ℕ) (o : HubOut) (k : ℕ) : (sendLink m cyc o k).kept = m.kept := by
  unfold sendLink
  dsimp only
  repeat' split
  all_goals simp
@[simp] theorem kept_cycleEnds (m : Kz) (k : ℕ) : (cycleEnds m k).kept = m.kept := by
  simp [cycleEnds]
@[simp] theorem kept_laneSend (m : Kz) (d : List Delivered) : (laneSend m d).kept = m.kept := by
  have hstats (m : Kz) (s : Stats) : ({ m with stats := s } : Kz).kept = m.kept := by rfl
  unfold laneSend
  dsimp only
  split
  · rfl
  · rw [kept_eachRgn kept_cycleEnds, kept_foldl kept_deliver, hstats]
    simp
@[simp] theorem kept_sawSlack (m : Kz) (k : ℕ) (stamp : ℕ) (toHub : Bool) : (sawSlack m k stamp toHub).kept = m.kept := by
  simp [sawSlack]
@[simp] theorem kept_takeDepartures (m : Kz) (k : ℕ) (departs : ℕ) : (takeDepartures m k departs).kept = m.kept := by rfl
@[simp] theorem kept_answerLost (m : Kz) (k : ℕ) (stamp : ℕ) (queued : List InEntry) : (answerLost m k stamp queued).kept = m.kept := by
  simp [answerLost]
@[simp] theorem kept_modPatternWritten (m : Kz) (o : Word) : (modPatternWritten m o).kept = m.kept := by rfl
@[simp] theorem kept_setTerm (m : Kz) (k : ℕ) (cyc : ℕ) (term : Bool) (inst : ℕ) : (setTerm m k cyc term inst).kept = m.kept := by
  simp [setTerm]
@[simp] theorem kept_releaseOut (m : Kz) (k : ℕ) : (releaseOut m k).kept = m.kept := by
  unfold releaseOut
  dsimp only
  repeat' split
  all_goals simp
@[simp] theorem kept_skewClear (m : Kz) (k : ℕ) : (skewClear m k).kept = m.kept := by
  simp [skewClear]
@[simp] theorem kept_slackClear (m : Kz) (k : ℕ) : (slackClear m k).kept = m.kept := by rfl
@[simp] theorem kept_modulePattern (m : Kz) : (modulePattern m).kept = m.kept := by
  simp [modulePattern]

/-! #### Sensor front end -/

@[simp] theorem kept_modSns (m : Kz) (n : ℕ) (f : Sns → Sns) : (modSns m n f).kept = m.kept := by rfl
@[simp] theorem kept_roundFree (m : Kz) (n : ℤ) (d : ℕ) : (roundFree m n d).2.kept = m.kept := by
  unfold roundFree
  split <;> simp
@[simp] theorem kept_userTable (m : Kz) (s : ℕ) (r : ℤ) : (userTable m s r).2.kept = m.kept := by
  unfold userTable
  dsimp only
  repeat' split
  all_goals simp
@[simp] theorem kept_within (m : Kz) (v : ℤ × Bool) (lo : ℤ) (hi : ℤ) : (within m v lo hi).2.kept = m.kept := by
  unfold within
  dsimp only
  split <;> simp
@[simp] theorem kept_linearise (m : Kz) (n : ℕ) (cfg : Word) (re : ℤ) (im : ℤ) : (linearise m n cfg re im).2.kept = m.kept := by
  unfold linearise
  dsimp only
  repeat' split
  all_goals simp
@[simp] theorem kept_snsAlert (m : Kz) (n : ℕ) : (snsAlert m n).kept = m.kept := by
  simp [snsAlert]
@[simp] theorem kept_snsAbandon (m : Kz) (n : ℕ) (b : ℕ) : (snsAbandon m n b).kept = m.kept := by
  simp [snsAbandon]
@[simp] theorem kept_snsApply (m : Kz) (n : ℕ) : (snsApply m n).kept = m.kept := by
  simp [snsApply]
@[simp] theorem kept_snsBoundary (m : Kz) (n : ℕ) (peak : ℕ) : (snsBoundary m n peak).kept = m.kept := by
  simp [snsBoundary]
@[simp] theorem kept_snsWeigh (m : Kz) (l : List ℤ) : (snsWeigh m l).2.kept = m.kept := by
  unfold snsWeigh
  dsimp only
  split <;> simp
@[simp] theorem kept_snsPublish (m : Kz) (n : ℕ) (re : ℤ) (im : ℤ) : (snsPublish m n re im).kept = m.kept := by
  unfold snsPublish
  dsimp only
  split <;> simp
@[simp] theorem kept_snsOpen (m : Kz) (n : ℕ) : (snsOpen m n).kept = m.kept := by
  simp [snsOpen]
@[simp] theorem kept_snsOpenClear (m : Kz) (n : ℕ) : (snsOpenClear m n).kept = m.kept := by
  simp [snsOpenClear]
@[simp] theorem kept_snsCheckDue (m : Kz) (n : ℕ) : (snsCheckDue m n).kept = m.kept := by
  simp [snsCheckDue]
@[simp] theorem kept_snsCheckDone (m : Kz) (n : ℕ) (tr : ℤ) (ti : ℤ) (er : ℤ) (ei : ℤ) : (snsCheckDone m n tr ti er ei).kept = m.kept := by
  unfold snsCheckDone
  dsimp only
  split <;> simp
@[simp] theorem kept_snsLatch (m : Kz) (n : ℕ) : (snsLatch m n).kept = m.kept := by rfl

/-! #### Housekeeping -/

@[simp] theorem kept_modHk (m : Kz) (f : Housekeeping → Housekeeping) : (modHk m f).kept = m.kept := by rfl
@[simp] theorem kept_modConvHk (m : Kz) (c : ℕ) (f : HkConv → HkConv) : (modConvHk m c f).kept = m.kept := by rfl
@[simp] theorem kept_hkCode (m : Kz) (gain : ℕ) (vin : ℕ) (vref : ℕ) : (hkCode m gain vin vref).2.kept = m.kept := by
  unfold hkCode
  split <;> simp
@[simp] theorem kept_hkBegin (m : Kz) (c : ℕ) (e : ℕ) (b : ℕ) : (hkBegin m c e b).kept = m.kept := by rfl
@[simp] theorem kept_hkTraverse (m : Kz) (c : ℕ) (cold : Bool) (b : ℕ) : (hkTraverse m c cold b).kept = m.kept := by
  simp [hkTraverse]
@[simp] theorem kept_hkEnd (m : Kz) (c : ℕ) (b : ℕ) : (hkEnd m c b).kept = m.kept := by
  simp [hkEnd]
@[simp] theorem kept_benchReading (m : Kz) (r : HkRes) : (benchReading m r).kept = m.kept := by
  simp [benchReading]
@[simp] theorem kept_hkDone (m : Kz) (c : ℕ) (vin : ℕ) (vref : ℕ) : (hkDone m c vin vref).kept = m.kept := by
  simp [hkDone]
@[simp] theorem kept_hkCtrlConv (m : Kz) (c : ℕ) (o : Word) (w : Word) : (hkCtrlConv m c o w).kept = m.kept := by
  simp [hkCtrlConv]
@[simp] theorem kept_hkCtrlWritten (m : Kz) (o : Word) (w : Word) : (hkCtrlWritten m o w).kept = m.kept := by
  simp [hkCtrlWritten]
@[simp] theorem kept_hkRefSettled (m : Kz) (c : ℕ) : (hkRefSettled m c).kept = m.kept := by
  simp [hkRefSettled]
@[simp] theorem kept_hkUrgent (m : Kz) (w : Word) : (hkUrgent m w).2.kept = m.kept := by
  unfold hkUrgent
  dsimp only
  repeat' split
  all_goals simp
@[simp] theorem kept_hkUrgentDone (m : Kz) (c : ℕ) (vin : ℕ) (vref : ℕ) : (hkUrgentDone m c vin vref).kept = m.kept := by
  unfold hkUrgentDone
  split <;> simp

/-! #### Ageing -/

@[simp] theorem kept_ageRo (m : Kz) (k : ℕ) (pair : ℕ) (ppm : ℤ) : (ageRo m k pair ppm).kept = m.kept := by
  simp [ageRo]
@[simp] theorem kept_vminTest (m : Kz) (k : ℕ) (mv : Option ℕ) : (vminTest m k mv).kept = m.kept := by
  unfold vminTest
  dsimp only
  repeat' split
  all_goals simp
@[simp] theorem kept_doseHour (m : Kz) (d : ℕ) : (doseHour m d).kept = m.kept := by
  unfold doseHour
  dsimp only
  repeat' split
  all_goals simp
@[simp] theorem kept_benchHour (m : Kz) (k : ℕ) : (benchHour m k).kept = m.kept := by
  rw [benchHour]
  split
  · rfl
  · extract_lets g m' num den
    split
    · rw [kept_mark, kept_modRAge]
    · rcases hr : roundFree m' num den with ⟨mean, n⟩
      have hn : n.kept = m'.kept := by rw [← kept_roundFree m' num den, hr]
      rw [kept_modRAge, hn, kept_modRAge]
@[simp] theorem kept_ageHourly (m : Kz) (heat : Option (ℕ × ℕ × ℕ)) : (ageHourly m heat).kept = m.kept := by
  unfold ageHourly
  dsimp only
  repeat' split
  all_goals simp
@[simp] theorem kept_ageDaily (m : Kz) (syn : ℕ × ℕ) (plls : List (ℕ × ℕ)) (dev : Option ℤ) : (ageDaily m syn plls dev).kept = m.kept := by
  unfold ageDaily
  dsimp only
  repeat' split
  all_goals simp
@[simp] theorem kept_policyWrite (m : Kz) (f : Machine.Field) (i : ℕ) (v : ℕ) : (policyWrite m f i v).kept = m.kept := by rfl
@[simp] theorem kept_policyRail (m : Kz) (k : ℕ) : (policyRail m k).kept = m.kept := by
  unfold policyRail
  dsimp only
  repeat' split
  all_goals simp
@[simp] theorem kept_policyStep (m : Kz) (k : ℕ) (ro : ℕ) (rg : ℕ) : (policyStep m k ro rg).kept = m.kept := by
  simp [policyStep]
@[simp] theorem kept_policyTrim (m : Kz) : (policyTrim m).kept = m.kept := by
  simp [policyTrim]
@[simp] theorem kept_ledgerSummary (m : Kz) (drift : List (ℕ × List ℤ)) (wear : List (ℕ × ℕ)) (ok : Bool) :
    (ledgerSummary m drift wear ok).kept = m.kept := by
  simp [ledgerSummary]

/-! #### Raster port -/

@[simp] theorem kept_dsiLatchEdge (m : Kz) : (dsiLatchEdge m).kept = m.kept := by
  simp [dsiLatchEdge]
@[simp] theorem kept_dsiCommitted (m : Kz) (w : List Word) : (dsiCommitted m w).kept = m.kept := by
  simp [dsiCommitted]
@[simp] theorem kept_flipLatch (m : Kz) : (flipLatch m).kept = m.kept := by rfl

/-! #### Register reads -/

@[simp] theorem kept_readSide (m : Kz) (k : RegKind) (i : ℕ) : (readSide m k i).kept = m.kept := by
  unfold readSide
  split <;> simp
@[simp] theorem kept_readRegister (m : Kz) (k : RegKind) (i : ℕ) : (readRegister m k i).2.kept = m.kept := by
  simp [readRegister]

/-! #### Register access -/

@[simp] theorem kept_addrFault (m : Kz) (a : ℕ) (write : Bool) : (addrFault m a write).kept = m.kept := by rfl
@[simp] theorem kept_readPlace (m : Kz) (a : ℕ) (p : Place) : (readPlace m a p).2.kept = m.kept := by
  unfold readPlace
  dsimp only
  split <;> simp
@[simp] theorem kept_readWord (m : Kz) (a : ℕ) : (readWord m a).2.kept = m.kept := by
  unfold readWord
  split <;> simp
@[simp] theorem kept_override (m : Kz) (f : Machine.Field) (i : ℕ) (kind : ℕ) (idx : ℕ) : (override m f i kind idx).kept = m.kept := by rfl
@[simp] theorem kept_debugLock (m : Kz) : (debugLock m).kept = m.kept := by rfl
@[simp] theorem kept_storeReg (m : Kz) (k : RegKind) (i : ℕ) (w : Word) : (storeReg m k i w).kept = m.kept := by
  rw [storeReg_eq]
  rfl
@[simp] theorem kept_applyStaged (m : Kz) : (applyStaged m).kept = m.kept := by
  unfold applyStaged
  dsimp only
  rw [kept_dsiCommitted]
  exact kept_foldl (f := fun (m : Kz) (x : RegKind × Word) => m.setCfg x.1 0 x.2) (fun m x => kept_setCfg m x.1 0 x.2) _ m
@[simp] theorem kept_commit (m : Kz) (held : List Lease) (kind : ℕ) (idx : ℕ) : (commit m held kind idx).2.kept = m.kept := by
  have hfield (m : Kz) (r : Regs) : ({ m with regs := r } : Kz).kept = m.kept := by rfl
  unfold commit
  dsimp only
  rw [hfield]
  repeat' split
  all_goals simp

/-! #### Firmware and trust -/

@[simp] theorem kept_modFw (m : Kz) (f : Firmware → Firmware) : (modFw m f).kept = m.kept := by rfl
@[simp] theorem kept_extend (m : Kz) (kind : ℕ) (arg : List Byte) (digest : BitVec 512) : (extend m kind arg digest).kept = m.kept := by rfl
@[simp] theorem kept_startAttempt (m : Kz) : (startAttempt m).kept = m.kept := by
  simp [startAttempt]
@[simp] theorem kept_resetRelease (m : Kz) (testEn : Bool) (vin : ℕ) : (resetRelease m testEn vin).kept = m.kept := by
  simp [resetRelease]
@[simp] theorem kept_slotVerified (m : Kz) (slot : ℕ) (img : ImageInfo) (keys : IdentKeys) : (slotVerified m slot img keys).kept = m.kept := by
  simp [slotVerified]
@[simp] theorem kept_attemptTimeout (m : Kz) : (attemptTimeout m).kept = m.kept := by
  simp [attemptTimeout]
@[simp] theorem kept_restoreFld (m : Kz) (f : Machine.Field) (i : ℕ) (v : ℕ) : (restoreFld m f i v).kept = m.kept := by rfl
@[simp] theorem kept_restoreBit (m : Kz) (f : Machine.Field) (i : ℕ) (b : Bool) : (restoreBit m f i b).kept = m.kept := by
  simp [restoreBit]
@[simp] theorem kept_restoreLedger (m : Kz) : (restoreLedger m).kept = m.kept := by
  unfold restoreLedger
  split <;> simp
@[simp] theorem kept_restorePorts (m : Kz) (net : List PortNet) : (restorePorts m net).kept = m.kept := by
  simp [restorePorts]
@[simp] theorem kept_standbyUnits (m : Kz) : (standbyUnits m).kept = m.kept := by
  simp [standbyUnits]
@[simp] theorem kept_pairBack (m : Kz) (second : Bool) : (pairBack m second).kept = m.kept := by rfl
@[simp] theorem kept_newNonce (m : Kz) : (newNonce m).2.kept = m.kept := by rfl
@[simp] theorem kept_activate (m : Kz) : (activate m).2.kept = m.kept := by
  unfold activate
  split <;> simp
@[simp] theorem kept_opActivate (m : Kz) (g : Signed) : (opActivate m g).2.kept = m.kept := by
  simp only [opActivate]
  repeat' split
  all_goals simp
@[simp] theorem kept_opDebug (m : Kz) (g : Signed) : (opDebug m g).2.kept = m.kept := by
  unfold opDebug
  dsimp only
  split <;> simp
@[simp] theorem kept_dbgNonce (m : Kz) : (dbgNonce m).kept = m.kept := by
  simp [dbgNonce]
@[simp] theorem kept_nonceExpiry (m : Kz) (p : Option ℕ) : (nonceExpiry m p).kept = m.kept := by
  unfold nonceExpiry
  split <;> simp
@[simp] theorem kept_debugExpiry (m : Kz) : (debugExpiry m).kept = m.kept := by
  simp [debugExpiry]
@[simp] theorem kept_setTarget (m : Kz) (target : ℕ) (a : Mem) : (setTarget m target a).kept = m.kept := by rfl
@[simp] theorem kept_setPtr (m : Kz) (target : ℕ) (v : ℕ) : (setPtr m target v).kept = m.kept := by rfl
@[simp] theorem kept_chunkWrite (m : Kz) (off : ℕ) (target : ℕ) (flags : ℕ) (data : List Byte) :
    (chunkWrite m off target flags data).2.kept = m.kept := by
  unfold chunkWrite
  dsimp only
  repeat' split
  all_goals simp
@[simp] theorem kept_chunkLast (m : Kz) (target : ℕ) (flags : ℕ) : (chunkLast m target flags).2.kept = m.kept := by
  unfold chunkLast
  dsimp only
  repeat' split
  all_goals simp
@[simp] theorem kept_attest (m : Kz) (p : ℕ) (nonce : List Byte) (obj : ℕ) (part : ℕ) : (attest m p nonce obj part).2.kept = m.kept := by
  unfold attest
  dsimp only
  repeat' split
  all_goals simp

/-! #### Host requests -/

@[simp] theorem kept_late (m : Kz) (p : ℕ) : (late m p).kept = m.kept := by rfl
@[simp] theorem kept_readGo (m : Kz) (i : ℕ) (acc : List Byte) (a : List ℕ) : (readGo m i acc a).2.kept = m.kept := by
  induction a generalizing m i acc with
  | nil => rfl
  | cons a r ih =>
    unfold readGo
    split
    · rfl
    · have h := kept_readWord m a
      split
      · next h' => rw [ih, ← h, h']
      · next h' => rw [← h, h']
@[simp] theorem kept_gaps (m : Kz) : (gaps m).kept = m.kept := by
  simp [gaps]
@[simp] theorem kept_restartTimer (m : Kz) (p : ℕ) : (restartTimer m p).kept = m.kept := by rfl
@[simp] theorem kept_resendNotifs (m : Kz) (p : ℕ) : (resendNotifs m p).kept = m.kept := by
  simp [resendNotifs]
@[simp] theorem kept_echo (m : Kz) (p : ℕ) (v6 : Bool) : (echo m p v6).kept = m.kept := by
  simp [echo]
@[simp] theorem kept_linkLost (m : Kz) (p : ℕ) : (linkLost m p).kept = m.kept := by
  simp [linkLost]
@[simp] theorem kept_linkLocked (m : Kz) (p : ℕ) : (linkLocked m p).kept = m.kept := by
  simp [linkLocked]
@[simp] theorem kept_wordRead (m : Kz) (p : ℕ) (k : RegKind) (i : ℕ) : (wordRead m p k i).kept = m.kept := by
  unfold wordRead
  dsimp only
  split
  · rfl
  · have h := kept_readWord m (k.addr i)
    split
    · next h' => rw [← h, h']; rfl
    · next h' => rw [← h, h']

/-! #### Register rows -/

@[simp] theorem kept_frameDrop (m : Kz) (p : ℕ) : (frameDrop m p).kept = m.kept := by
  simp [frameDrop]

/-! ### What moves the kept parts forward -/

/-- An owner slot that has moved forward: a written one keeps its key hashes and goes at most to REVOKED (R571, R572). -/
structure OwnerSlot.Onward (o p : OwnerSlot) : Prop where
  ed : o.state ≠ .empty → p.edHash = o.edHash
  ml : o.state ≠ .empty → p.mlHash = o.mlHash
  state : o.state ≠ .empty → p.state = o.state ∨ p.state = .revoked

/-- The parts have moved forward: what held still holds, the counter has not fallen, written owner slots have gone on, and an ACTIVE key is left
where there was one. -/
structure Kept.Le (a b : Kept) : Prop where
  memory : a.memory → b.memory
  log : a.log → b.log
  cause : a.cause → b.cause
  port : a.port → b.port
  counter : a.counter ≤ b.counter
  owner0 : a.owner0.Onward b.owner0
  owner1 : a.owner1.Onward b.owner1
  active : a.owner0.state = .active ∨ a.owner1.state = .active → b.owner0.state = .active ∨ b.owner1.state = .active

theorem OwnerSlot.Onward.refl (o : OwnerSlot) : o.Onward o := ⟨fun _ => rfl, fun _ => rfl, fun _ => .inl rfl⟩

theorem Kept.Le.refl (a : Kept) : a.Le a := ⟨id, id, id, id, le_rfl, .refl _, .refl _, id⟩

variable {old : Kept}

@[simp] theorem le_ite {c : Prop} [Decidable c] {x y : Kept} (hx : old.Le x) (hy : old.Le y) : old.Le (if c then x else y) := by
  split <;> assumption

theorem le_foldl {α : Type} {f : Kz → α → Kz} (h : ∀ m x, old.Le m.kept → old.Le (f m x).kept) (l : List α) {m : Kz}
    (hm : old.Le m.kept) : old.Le (l.foldl f m).kept := by
  induction l generalizing m with
  | nil => exact hm
  | cons x l ih => exact ih (h m x hm)

theorem le_eachRgn {f : Kz → Nat → Kz} (h : ∀ m k, old.Le m.kept → old.Le (f m k).kept) {m : Kz} (hm : old.Le m.kept) :
    old.Le (m.eachRgn f).kept := le_foldl h _ hm

theorem le_eachChan {f : Kz → Nat → Kz} (h : ∀ m c, old.Le m.kept → old.Le (f m c).kept) {m : Kz} (hm : old.Le m.kept) (k : Nat) :
    old.Le (m.eachChan k f).kept := le_foldl (fun m i => h m (16 * k + i)) _ hm

/-- A change of the memory that keeps its canonical form. -/
theorem le_mem {m : Kz} {w : Mem} (hw : m.mem.wf = true → w.wf = true) (h : old.Le m.kept) : old.Le ({ m with mem := w } : Kz).kept :=
  ⟨fun hm => hw (h.memory hm), h.log, h.cause, h.port, h.counter, h.owner0, h.owner1, h.active⟩

/-- A change of the log that keeps its bound. -/
theorem le_log {m : Kz} {l : EventLog} (hl : m.log.entries.length ≤ 4096 → l.entries.length ≤ 4096) (h : old.Le m.kept) :
    old.Le ({ m with log := l } : Kz).kept :=
  ⟨h.memory, fun hm => hl (h.log hm), h.cause, h.port, h.counter, h.owner0, h.owner1, h.active⟩

theorem length_logResume (code idx d : Nat) (l : List LogEntry) : (logResume code idx d l).length = l.length := by
  induction l with
  | nil => rfl
  | cons e r ih =>
    unfold logResume
    split
    · rfl
    · simp [ih]
theorem le_writeOwner {m : Kz} {i : Nat} {o : OwnerSlot} (hi : i ≤ 1) (hempty : (ownerSlot m.trust i).state = .empty)
    (ho : o.state = .active) (h : old.Le m.kept) : old.Le (modTrust m fun t => setOwner t i o).kept := by
  have hfresh {p q : OwnerSlot} (hp : p.Onward q) (hq : q.state = .empty) : p.Onward o := by
    have hnew : p.state = .empty := by
      by_contra hne
      rcases hp.state hne with hs | hs
      · exact hne (hs ▸ hq)
      · rw [hq] at hs
        exact OwnerState.noConfusion hs
    exact ⟨fun hne => (hne hnew).elim, fun hne => (hne hnew).elim, fun hne => (hne hnew).elim⟩
  rcases Nat.le_one_iff_eq_zero_or_eq_one.1 hi with rfl | rfl
  · exact ⟨h.memory, h.log, h.cause, h.port, h.counter, hfresh h.owner0 hempty, h.owner1, fun _ => .inl ho⟩
  · exact ⟨h.memory, h.log, h.cause, h.port, h.counter, h.owner0, hfresh h.owner1 hempty, fun _ => .inr ho⟩
theorem le_revokeOwner {m : Kz} {i : Nat} (hi : i ≤ 1) (hactive : (ownerSlot m.trust i).state = .active)
    (hother : (ownerSlot m.trust (1 - i)).state = .active) (h : old.Le m.kept) :
    old.Le (modTrust m fun t => setOwner t i { ownerSlot m.trust i with state := .revoked }).kept := by
  have hrevoked {p q : OwnerSlot} (hp : p.Onward q) : p.Onward { q with state := .revoked } :=
    ⟨hp.ed, hp.ml, fun _ => .inr rfl⟩
  rcases Nat.le_one_iff_eq_zero_or_eq_one.1 hi with rfl | rfl
  · exact ⟨h.memory, h.log, h.cause, h.port, h.counter, hrevoked h.owner0, h.owner1, fun _ => .inr hother⟩
  · exact ⟨h.memory, h.log, h.cause, h.port, h.counter, h.owner0, hrevoked h.owner1, fun _ => .inl hother⟩
theorem le_ite_snd {α : Type} {c : Prop} [Decidable c] {x y : α × Kz} (hx : old.Le x.2.kept) (hy : old.Le y.2.kept) :
    old.Le (if c then x else y).2.kept := by
  split <;> assumption

/-! #### The shared operations -/

@[simp] theorem le_toArchive {m : Kz} {e : LogEntry} (h : old.Le m.kept) : old.Le (Kz.toArchive m e).kept := le_log id h
@[simp] theorem le_logEntry {m : Kz} {d : ℕ} {epoch : ℕ} {code : ℕ} {cls : ℕ} {kind : ℕ} {idx : ℕ} {second : ℕ} {value : ℕ} (h : old.Le m.kept) :
    old.Le (Kz.logEntry m d epoch code cls kind idx second value).kept := by
  have hlogged (e : LogEntry) (n : Nat) (t : List (Nat × Nat × Nat)) : old.Le ({ m with log := { m.log with
      next := n, entries := (e :: m.log.entries).take 4096, since := t } } : Kz).kept :=
    le_log (fun _ => List.length_take_le ..) h
  unfold Kz.logEntry
  dsimp only
  split
  · exact le_toArchive (hlogged ..)
  · exact hlogged ..
@[simp] theorem le_logAt {m : Kz} {d : ℕ} {code : ℕ} {cls : ℕ} {kind : ℕ} {idx : ℕ} {second : ℕ} {value : ℕ} (h : old.Le m.kept) :
    old.Le (Kz.logAt m d code cls kind idx second value).kept := by
  simp [Kz.logAt, h]
@[simp] theorem le_logFrom {m : Kz} {i : ℕ} {code : ℕ} {cls : ℕ} {kind : ℕ} {idx : ℕ} {second : ℕ} {value : ℕ} (h : old.Le m.kept) :
    old.Le (Kz.logFrom m i code cls kind idx second value).kept := by
  simp [Kz.logFrom, h]
@[simp] theorem le_logE {m : Kz} {code : ℕ} {cls : ℕ} {kind : ℕ} {idx : ℕ} {second : ℕ} {value : ℕ} (h : old.Le m.kept) :
    old.Le (Kz.logE m code cls kind idx second value).kept := by
  simp [Kz.logE, h]

/-! #### Front ends -/

@[simp] theorem le_cmAlarm {m : Kz} {c : ℕ} {uv : ℕ} (h : old.Le m.kept) : old.Le (cmAlarm m c uv).kept := by
  simp [cmAlarm, h]
@[simp] theorem le_injMissed {m : Kz} {c : ℕ} {pat : ℕ} (h : old.Le m.kept) : old.Le (injMissed m c pat).kept := by
  simp [injMissed, h]
@[simp] theorem le_calInject {m : Kz} {c : ℕ} {pat : ℕ} {e : ℕ} (h : old.Le m.kept) : old.Le (calInject m c pat e).kept := by
  unfold calInject
  dsimp only
  repeat' split
  all_goals simp [h]

/-! #### Slice rotation -/

@[simp] theorem le_rotLog {m : Kz} {c : ℕ} {kind : ℕ} {slice : ℕ} {pos : ℕ} {first : ℕ} (h : old.Le m.kept) :
    old.Le (rotLog m c kind slice pos first).kept := by
  simp [rotLog, h]
@[simp] theorem le_retire {m : Kz} {c : ℕ} {s : ℕ} {reason : ℕ} (h : old.Le m.kept) : old.Le (retire m c s reason).kept := by
  simp [retire, h]
@[simp] theorem le_retireSpare {m : Kz} {c : ℕ} {reason : ℕ} (h : old.Le m.kept) : old.Le (retireSpare m c reason).kept := by
  simp [retireSpare, h]
@[simp] theorem le_strike {m : Kz} {c : ℕ} {s : ℕ} (h : old.Le m.kept) : old.Le (strike m c s).kept := by
  simp [strike, h]
@[simp] theorem le_benchDone {m : Kz} {c : ℕ} {s : ℕ} {coef : List ℤ} {rms : ℕ} (h : old.Le m.kept) :
    old.Le (benchDone m c s coef rms).kept := by
  unfold benchDone
  dsimp only
  split
  · exact h
  · split
    · split
      · simp [h]
      · split <;> simp [h]
    · split
      · simp [h]
      · split
        · split
          · exact le_foldl (fun _ _ hm => le_retire hm) _ (by simp [h])
          · simp [h]
        · simp [h]
@[simp] theorem le_dispute {m : Kz} {c : ℕ} {s : ℕ} (h : old.Le m.kept) : old.Le (dispute m c s).kept := by
  simp [dispute, h]
@[simp] theorem le_windowClose {m : Kz} {c : ℕ} {q : Pairs} (h : old.Le m.kept) : old.Le (windowClose m c q).kept := by
  unfold windowClose
  extract_lets v n tgt q' done passed passed' failed disputed suspected
  have hdone : old.Le done.kept := by simp [done, h]
  have hpassed : old.Le passed.kept := by simp [passed, hdone]
  have hfailed : old.Le failed.kept := by simp [failed, hdone]
  clear_value done
  split
  · exact h
  · split
    · split
      · exact (kept_armHandover ..).symm ▸ le_strike (le_dispute hpassed)
      · split
        · simp [passed', hpassed]
        · split <;> simp [passed', hpassed]
    · split
      · simp [disputed, hfailed]
      · split
        · simp [hfailed]
        · split <;> simp [suspected, hfailed]
@[simp] theorem le_confirmRevert {m : Kz} {c : ℕ} {disagree : ℕ} (h : old.Le m.kept) : old.Le (confirmRevert m c disagree).kept := by
  unfold confirmRevert
  dsimp only
  split <;> simp [h]
@[simp] theorem le_stuckSlice {m : Kz} {c : ℕ} {s : ℕ} {first : ℕ} (h : old.Le m.kept) : old.Le (stuckSlice m c s first).kept := by
  unfold stuckSlice
  dsimp only
  repeat' split
  all_goals simp [h]
@[simp] theorem le_emergHandover {m : Kz} {c : ℕ} (h : old.Le m.kept) : old.Le (emergHandover m c).kept := by
  unfold emergHandover
  dsimp only
  split
  · split
    · exact le_foldl (fun _ _ hm => le_retire hm) _ (by simp [h])
    · simp [h]
  · exact h
@[simp] theorem le_healthChanged {m : Kz} {c : ℕ} {was : ℕ} {new : ℕ} (h : old.Le m.kept) : old.Le (healthChanged m c was new).kept := by
  have hretired : old.Le ((upTo 9).foldl (fun m s => if new.testBit s && !was.testBit s then
      (((rotFault (rotLog (m.mark F.CH_CONV_STAT.RETIRE_SEEN c) c 6 s (posOf (m.chan c).conv s) 0) c).modConv c
        fun v => { v with lastSlice := s, lastReason := 4 }).ledgerAct 1 1 c) else m) m).kept := by
    refine le_foldl (fun m s hm => ?_) _ h
    split
    · simp [hm]
    · exact hm
  unfold healthChanged
  dsimp only
  split <;> split <;> simpa using hretired

/-! #### Time base -/

@[simp] theorem le_tbLog {m : Kz} {second : ℕ} {value : ℕ} (h : old.Le m.kept) : old.Le (tbLog m second value).kept := by
  simp [tbLog, h]
@[simp] theorem le_holdLog {m : Kz} (h : old.Le m.kept) : old.Le (holdLog m).kept := by
  simp [holdLog, h]
@[simp] theorem le_tbLost {m : Kz} (h : old.Le m.kept) : old.Le (tbLost m).kept := by
  simp [tbLost, h]
@[simp] theorem le_refLost {m : Kz} {hz : ℕ} (h : old.Le m.kept) : old.Le (refLost m hz).kept := by
  unfold refLost
  split <;> simp [h]
@[simp] theorem le_refReturn {m : Kz} {hz : ℕ} {phase : ℤ} (h : old.Le m.kept) : old.Le (refReturn m hz phase).kept := by
  unfold refReturn
  dsimp only
  repeat' split
  all_goals simp [h]
@[simp] theorem le_relockDone {m : Kz} {since : ℕ} (h : old.Le m.kept) : old.Le (relockDone m since).kept := by
  simp [relockDone, h]
@[simp] theorem le_synUnlock {m : Kz} (h : old.Le m.kept) : old.Le (synUnlock m).kept := by
  simp [synUnlock, h]
@[simp] theorem le_ovenTo {m : Kz} {o : OvenState} {log : Bool} (h : old.Le m.kept) : old.Le (ovenTo m o log).kept := by
  unfold ovenTo
  extract_lets stated marked age counted flagged
  have hcounted : old.Le counted.kept := by
    simp only [counted]
    split
    · have hmarked : old.Le marked.kept := by simp [marked, stated, h]
      exact hmarked
    · exact h
  split <;> simp [flagged, hcounted]
@[simp] theorem le_ovenWarm {m : Kz} {mw : ℕ} {err : ℤ} (h : old.Le m.kept) : old.Le (ovenWarm m mw err).kept := by
  simp [ovenWarm, h]
@[simp] theorem le_ovenUnreg {m : Kz} {mw : ℕ} {err : ℤ} (h : old.Le m.kept) : old.Le (ovenUnreg m mw err).kept := by
  simp [ovenUnreg, h]
@[simp] theorem le_ovenBandLeft {m : Kz} {mw : ℕ} {err : ℤ} (h : old.Le m.kept) : old.Le (ovenBandLeft m mw err).kept := by
  simp [ovenBandLeft, h]
@[simp] theorem le_heaterFault {m : Kz} {mw : ℕ} {err : ℤ} (h : old.Le m.kept) : old.Le (heaterFault m mw err).kept := by
  simp [heaterFault, h]
@[simp] theorem le_ovenWritten {m : Kz} {o : Word} {w : Word} (h : old.Le m.kept) : old.Le (ovenWritten m o w).kept := by
  simp only [ovenWritten]
  repeat' split
  all_goals simp [h]
@[simp] theorem le_epochIgnored {m : Kz} (h : old.Le m.kept) : old.Le (epochIgnored m).kept := by
  simp [epochIgnored, h]

/-! #### Signal chain -/

@[simp] theorem le_blReacquire {m : Kz} {c : ℕ} (h : old.Le m.kept) : old.Le (blReacquire m c).kept := by
  simp [blReacquire, h]
@[simp] theorem le_rsJudge {m : Kz} {c : ℕ} {e : Edge} (h : old.Le m.kept) : old.Le (rsJudge m c e).kept := by
  unfold rsJudge
  split <;> simp [h]

/-! #### Records -/

@[simp] theorem le_logLost {m : Kz} {c : ℕ} {seq : ℕ} {r : Rec} (h : old.Le m.kept) : old.Le (logLost m c seq r).kept := le_foldl (fun _ _ hm => le_logAt hm) _ h
@[simp] theorem le_release {m : Kz} {c : ℕ} (h : old.Le m.kept) : old.Le (release m c).kept := by
  unfold release
  dsimp only
  repeat' split
  all_goals simp [h]

/-! #### Triggers -/

@[simp] theorem le_maskStop {m : Kz} {c : ℕ} {r : Rec} (h : old.Le m.kept) : old.Le (maskStop m c r).kept := by
  simp [maskStop, h]

/-! #### Masks and measurements -/

@[simp] theorem le_maskVerdict {m : Kz} {c : ℕ} (h : old.Le m.kept) : old.Le (maskVerdict m c).kept := by
  unfold maskVerdict
  dsimp only
  repeat' split
  all_goals simp [h]

/-! #### Readout lanes -/

@[simp] theorem le_lanePllUnlock {m : Kz} {k : ℕ} {j : ℕ} (h : old.Le m.kept) : old.Le (lanePllUnlock m k j).kept := by
  unfold lanePllUnlock
  dsimp only
  repeat' split
  all_goals simp [h]
@[simp] theorem le_frameDiscard {m : Kz} {k : ℕ} {f : FlueFrame} (h : old.Le m.kept) : old.Le (frameDiscard m k f).kept := by
  unfold frameDiscard
  dsimp only
  split <;> simp [h]
@[simp] theorem le_frameOpen {m : Kz} {k : ℕ} (h : old.Le m.kept) : old.Le (frameOpen m k).kept := by
  unfold frameOpen
  dsimp only
  repeat' split
  all_goals simp [h]
@[simp] theorem le_overflowEnter {m : Kz} {k : ℕ} (h : old.Le m.kept) : old.Le (overflowEnter m k).kept := by
  unfold overflowEnter
  split <;> simp [h]

/-! #### Feature engines -/

@[simp] theorem le_setDataWord {m : Kz} {c : ℕ} {a : ℕ} {v : ℕ} (h : old.Le m.kept) : old.Le (setDataWord m c a v).kept := le_mem (Mem.wf_writes _ _ _) h
@[simp] theorem le_restoreData {m : Kz} {c : ℕ} {g : EngImage} (h : old.Le m.kept) : old.Le (restoreData m c g).kept := le_mem (fun hm => Mem.wf_writes _ _ _ (Mem.wf_clear _ _ _ hm)) h
@[simp] theorem le_overrun {m : Kz} {c : ℕ} (h : old.Le m.kept) : old.Le (overrun m c).kept := by
  unfold overrun
  dsimp only
  split <;> simp [h]
@[simp] theorem le_bundle {m : Kz} {c : ℕ} (h : old.Le m.kept) : old.Le (bundle m c).kept := by
  unfold bundle
  extract_lets k e
  split
  · split
    · exact h
    · extract_lets b s op a taken used feature w p
      split
      next fr drawn hfr =>
      have hdrawn : old.Le drawn.kept := by
        have hkept : (if vop b = 0x0D && 40 ≤ bits (vx b) 7 2 then m.free 256 else (0, m)).2.kept = m.kept := by
          split <;> rfl
        rw [hfr] at hkept
        exact hkept.symm ▸ h
      extract_lets v stored vstored e1 e2
      have hstored : old.Le stored.kept := by
        simp only [stored]
        split
        · exact le_setDataWord hdrawn
        · exact hdrawn
      have hvstored : old.Le vstored.kept := by
        simp only [vstored]
        clear_value v
        split
        · exact le_foldl (fun _ _ hm => le_setDataWord hm) _ hstored
        · exact hstored
      clear_value vstored
      split
      dsimp only
      repeat' split
      all_goals simp [hvstored]
  · exact h
@[simp] theorem le_activationStart {m : Kz} {c : ℕ} {no : ℕ} {told : List ℤ} (h : old.Le m.kept) :
    old.Le (activationStart m c no told).kept := by
  unfold activationStart
  dsimp only
  split
  · split
    · exact h
    · rw [kept_modEng]
      have hbusy : old.Le (if (m.chan c).eng.act.isSome = true then overrun m c else m).kept := by simp [h]
      split
      · rw [kept_modEng]
        exact le_setDataWord (le_setDataWord hbusy)
      · exact hbusy
  · exact h
@[simp] theorem le_watchdog {m : Kz} {c : ℕ} (h : old.Le m.kept) : old.Le (watchdog m c).kept := by
  unfold watchdog
  split <;> simp [h]
@[simp] theorem le_initOnRun {m : Kz} {c : ℕ} (h : old.Le m.kept) : old.Le (initOnRun m c).kept := by
  unfold initOnRun
  split <;> simp [h]
@[simp] theorem le_engineEnter {m : Kz} {c : ℕ} (h : old.Le m.kept) : old.Le (engineEnter m c).kept := by
  simp [engineEnter, h]
@[simp] theorem le_engineRestart {m : Kz} {c : ℕ} (h : old.Le m.kept) : old.Le (engineRestart m c).kept := by
  simp [engineRestart, h]
@[simp] theorem le_engineFault {m : Kz} {c : ℕ} (h : old.Le m.kept) : old.Le (engineFault m c).kept := by
  simp [engineFault, h]
@[simp] theorem le_engineReloaded {m : Kz} {c : ℕ} (h : old.Le m.kept) : old.Le (engineReloaded m c).kept := by
  unfold engineReloaded
  dsimp only
  split <;> simp [h]
@[simp] theorem le_loadRefused {m : Kz} {k : ℕ} {mask : ℕ} {code : ℕ} {addr : ℕ} (h : old.Le m.kept) :
    old.Le (loadRefused m k mask code addr).kept := by
  refine le_foldl (fun m c hm => le_mem (Mem.wf_clear _ _ _) ?_) _ h
  simp [hm]
@[simp] theorem le_loadWritten {m : Kz} {k : ℕ} {mask : ℕ} {g : EngImage} (h : old.Le m.kept) : old.Le (loadWritten m k mask g).kept := by
  refine le_foldl (fun m c hm => ?_) _ h
  dsimp only
  split
  · exact le_restoreData (by simp [hm])
  · exact hm

/-! #### Sessions -/

@[simp] theorem le_resetSession {m : Kz} {p : ℕ} (h : old.Le m.kept) : old.Le (resetSession m p).kept := by
  simp [resetSession, h]
@[simp] theorem le_resetsDue {m : Kz} (h : old.Le m.kept) : old.Le (resetsDue m).kept := by
  refine le_foldl (fun m p hm => ?_) _ h
  split
  · exact le_resetSession hm
  · exact hm
@[simp] theorem le_respond {m : Kz} {p : ℕ} {via : Via} {seq : ℕ} {tag : ℕ} {cmd : ℕ} {a : Answer} (h : old.Le m.kept) :
    old.Le (respond m p via seq tag cmd a).kept := by
  simp [respond, h]
@[simp] theorem le_endRunning {m : Kz} {p : ℕ} {a : Answer} (h : old.Le m.kept) : old.Le (endRunning m p a).kept := by
  unfold endRunning
  split <;> simp [h]
@[simp] theorem le_endWaits {m : Kz} {w : Wait} {a : Answer} (h : old.Le m.kept) : old.Le (endWaits m w a).kept := by
  unfold endWaits
  refine le_foldl (fun m p hm => ?_) _ h
  dsimp only
  split
  · split
    · exact le_endRunning (by simp [hm])
    · simp [hm]
  · simp [hm]
@[simp] theorem le_endRegionWaits {m : Kz} {k : ℕ} {a : Answer} (h : old.Le m.kept) : old.Le (endRegionWaits m k a).kept := by
  simp [endRegionWaits, h]

/-! #### Ledger -/

@[simp] theorem le_archiveSummary {m : Kz} (h : old.Le m.kept) : old.Le (archiveSummary m).kept := by
  unfold archiveSummary
  exact le_log id (le_foldl (fun m x hm => le_toArchive hm) _ h)

/-! #### Regions and module states -/

@[simp] theorem le_moduleReset {m : Kz} {cause : ℕ} (h : old.Le m.kept) (hcause : cause ∈ [1, 2, 4, 8, 16, 32]) :
    old.Le (moduleReset m cause).kept := by
  refine ⟨fun _ => rfl, fun _ => Nat.zero_le _, fun _ => hcause, fun _ => Nat.zero_lt_two, h.counter, h.owner0, h.owner1, h.active⟩
@[simp] theorem le_ownReset {m : Kz} {cause : ℕ} (h : old.Le m.kept) (hcause : cause ∈ [1, 2, 4, 8, 16, 32]) :
    old.Le (ownReset m cause).kept := by
  unfold ownReset
  dsimp only
  split <;> exact le_moduleReset (by simp [h]) hcause
@[simp] theorem le_endLoads {m : Kz} {k : ℕ} {a : Answer} (h : old.Le m.kept) : old.Le (endLoads m k a).kept := le_foldl (fun _ _ hm => le_endWaits hm) _ h
@[simp] theorem le_tripEnds {m : Kz} {k : ℕ} (h : old.Le m.kept) : old.Le (tripEnds m k).kept := le_foldl (fun _ _ hm => le_endWaits hm) _ (le_endLoads (le_endRegionWaits h))
@[simp] theorem le_enterHold {m : Kz} {k : ℕ} {c : HoldCause} (h : old.Le m.kept) : old.Le (enterHold m k c).kept := by
  unfold enterHold
  dsimp only
  repeat' split
  all_goals simp [h]
@[simp] theorem le_moduleHold {m : Kz} {set : Power → Power} (h : old.Le m.kept) (hset : ∀ p, (set p).resetCause = p.resetCause) :
    old.Le (moduleHold m set).kept := by
  have hheld : old.Le (m.modPower fun p => { set p with state := .hold }).kept := by simp [hset, h]
  have hrgns : old.Le ((m.modPower fun p => { set p with state := .hold }).eachRgn fun m k => enterHold m k .module).kept :=
    le_eachRgn (fun _ _ hm => le_enterHold hm) hheld
  unfold moduleHold
  split
  · simp [hrgns]
  · simp [hrgns]
  · simp [hrgns]
  · simp [hset, h]
  · exact h
@[simp] theorem le_moduleFatal {m : Kz} {src : ℕ} (h : old.Le m.kept) : old.Le (moduleFatal m src).kept := by
  unfold moduleFatal
  dsimp only
  split
  · rw [kept_notify]
    exact le_logE (le_moduleHold (m := { m with errs := _ }) h fun _ => rfl)
  · split
    · exact le_moduleReset h (by decide)
    · exact h
@[simp] theorem le_startRestart {m : Kz} {k : ℕ} {cause : ℕ} (h : old.Le m.kept) : old.Le (startRestart m k cause).kept := by
  unfold startRestart
  extract_lets transit begun seen logged aged run reloaded
  have hlogged : old.Le logged.kept := by simp [logged, seen, begun, h]
  have hreloaded : old.Le reloaded.kept := by simp [reloaded, aged, hlogged]
  clear_value reloaded
  rw [kept_modPower (by simp), kept_accRestart, kept_modLane, kept_modAcq, kept_foldl fun _ _ => kept_recoveredStubs ..]
  refine le_eachChan (fun m c hm => ?_) hreloaded k
  dsimp only
  rw [kept_closeSpan]
  refine le_engineRestart ?_
  split <;> simp [hm]
@[simp] theorem le_regionFatal {m : Kz} {k : ℕ} {cause : ℕ} (h : old.Le m.kept) : old.Le (regionFatal m k cause).kept := by
  unfold regionFatal
  dsimp only
  repeat' split
  all_goals simp [h]
@[simp] theorem le_regionResume {m : Kz} {k : ℕ} (h : old.Le m.kept) : old.Le (regionResume m k).kept := by
  unfold regionResume
  split
  · extract_lets ended log logged lanes assigned entered
    have hended : old.Le ended.kept := by simp [ended, h]
    have hlogged : old.Le logged.kept := le_log (fun hl => by rwa [length_logResume]) hended
    have hentered : old.Le entered.kept := by simp [entered, assigned, lanes, hlogged]
    exact le_eachChan (fun _ _ hm => le_endWaits hm) hentered k
  · exact h
@[simp] theorem le_regionOverdue {m : Kz} {k : ℕ} (h : old.Le m.kept) : old.Le (regionOverdue m k).kept := by
  simp [regionOverdue, h]
@[simp] theorem le_restartBoundary {m : Kz} {c : ℕ} (h : old.Le m.kept) : old.Le (restartBoundary m c).kept := by
  unfold restartBoundary
  dsimp only
  repeat' split
  all_goals simp [h]
@[simp] theorem le_chanResume {m : Kz} {c : ℕ} (h : old.Le m.kept) : old.Le (chanResume m c).kept := by
  unfold chanResume
  split
  · extract_lets ended log logged assigned entered
    have hended : old.Le ended.kept := by simp [ended, h]
    have hlogged : old.Le logged.kept := le_log (fun hl => by rwa [length_logResume]) hended
    have hentered : old.Le entered.kept := by simp [entered, assigned, hlogged]
    exact le_endWaits hentered
  · exact h
@[simp] theorem le_chanOverdue {m : Kz} {c : ℕ} (h : old.Le m.kept) : old.Le (chanOverdue m c).kept := by
  simp [chanOverdue, h]
@[simp] theorem le_regionUp {m : Kz} {k : ℕ} (h : old.Le m.kept) : old.Le (regionUp m k).kept := by
  simp [regionUp, h]
@[simp] theorem le_regionDown {m : Kz} {k : ℕ} (h : old.Le m.kept) : old.Le (regionDown m k).kept := by
  unfold regionDown
  extract_lets loads down cleared memory queue
  have hcleared : old.Le cleared.kept := by simp [cleared, down, loads, h]
  have hmemory : old.Le memory.kept := le_mem (fun hm => Mem.wf_clear _ _ _ (Mem.wf_clear _ _ _ hm)) hcleared
  simp [queue, hmemory]
@[simp] theorem le_drainDone {m : Kz} {k : ℕ} (h : old.Le m.kept) : old.Le (drainDone m k).kept := by
  unfold drainDone
  dsimp only
  split
  · exact le_endWaits (le_regionDown (le_endLoads h))
  · exact h
@[simp] theorem le_enterRun {m : Kz} {k : ℕ} (h : old.Le m.kept) : old.Le (enterRun m k).kept := by
  unfold enterRun
  rw [kept_minLat, kept_maskShare]
  refine le_eachChan (fun m c hm => ?_) (by simp [h]) k
  simp [hm]
@[simp] theorem le_wearRetire {m : Kz} {k : ℕ} (h : old.Le m.kept) : old.Le (wearRetire m k).kept := by
  unfold wearRetire
  split
  · refine le_eachChan (fun m c hm => ?_) h k
    dsimp only
    split
    · exact hm
    · rw [kept_modAge]
      refine le_foldl (fun m s hm => ?_) _ hm
      split
      · exact le_retire hm
      · exact hm
  · exact h
@[simp] theorem le_enterCal {m : Kz} {k : ℕ} (h : old.Le m.kept) : old.Le (enterCal m k).kept := by
  simp [enterCal, h]
@[simp] theorem le_regionState {m : Kz} {k : ℕ} {target : ℕ} (h : old.Le m.kept) : old.Le (regionState m k target).2.kept := by
  unfold regionState
  dsimp only
  repeat' split
  all_goals simp [h]
@[simp] theorem le_moduleState {m : Kz} {target : ℕ} (h : old.Le m.kept) : old.Le (moduleState m target).2.kept := by
  unfold moduleState
  dsimp only
  repeat' split
  all_goals simp [h]

/-! #### Errors and statistics -/

@[simp] theorem le_dipEnd {m : Kz} {low : ℕ} {vin : ℕ} (h : old.Le m.kept) : old.Le (dipEnd m low vin).kept := by
  unfold dipEnd
  dsimp only
  repeat' split
  all_goals simp [h]
@[simp] theorem le_overvoltage {m : Kz} {vin : ℕ} (h : old.Le m.kept) : old.Le (overvoltage m vin).kept := by
  unfold overvoltage
  dsimp only
  repeat' split
  all_goals simp [h]
@[simp] theorem le_railFault {m : Kz} {k : ℕ} (h : old.Le m.kept) : old.Le (railFault m k).kept := by
  simp [railFault, h]
@[simp] theorem le_railUnder {m : Kz} {r : Rail} (h : old.Le m.kept) : old.Le (railUnder m r).kept := by
  unfold railUnder
  split
  · simp [h]
  · split
    · exact le_foldl (fun _ _ hm => le_railFault hm) _ h
    · exact h
@[simp] theorem le_hubRailFault {m : Kz} {r : HubRail} {mv : ℕ} (h : old.Le m.kept) : old.Le (hubRailFault m r mv).kept := by
  simp [hubRailFault, h]
@[simp] theorem le_regionTrip {m : Kz} {k : ℕ} {tj : ℤ} (h : old.Le m.kept) : old.Le (regionTrip m k tj).kept := by
  simp [regionTrip, h]
@[simp] theorem le_moduleTrip {m : Kz} {r : Option ℕ} {tj : ℤ} (h : old.Le m.kept) : old.Le (moduleTrip m r tj).kept := by
  unfold moduleTrip
  dsimp only
  repeat' split
  all_goals simp [h]
@[simp] theorem le_answerBoundary {m : Kz} (h : old.Le m.kept) : old.Le (answerBoundary m).kept := by
  unfold answerBoundary
  split
  · split
    · exact h
    · exact le_endWaits (m := { m with stats := _ }) h
  · exact h
@[simp] theorem le_statLatch {m : Kz} (h : old.Le m.kept) : old.Le (statLatch m).kept := by
  unfold statLatch
  split
  · split
    · exact h
    · extract_lets stats taken d early stats' skipped late p latched summed s wrap ended
      have hlogged : old.Le (skipped.logE 0x0904 0 0 0 d (BoundarySource.code ‹_›)).kept := le_logE h
      have hlatched : latched.kept = m.kept := kept_eccSums taken p
      have hsummed : summed.kept = m.kept := (kept_foldl (fun _ _ => kept_modRAge ..) _ latched).trans hlatched
      have hended : ended.kept = m.kept := hsummed
      split
      · exact le_answerBoundary hlogged
      · rw [kept_eachRgn (fun _ _ => kept_modRgn ..), hended]
        exact h
  · exact h
@[simp] theorem le_statCopied {m : Kz} (h : old.Le m.kept) : old.Le (statCopied m).kept := by
  unfold statCopied
  split
  · exact le_answerBoundary (m := { m with stats := _ }) h
  · exact h
@[simp] theorem le_uncorrLog {m : Kz} {kind : ℕ} {idx : ℕ} (h : old.Le m.kept) : old.Le (uncorrLog m kind idx).kept := by
  simp [uncorrLog, h]
@[simp] theorem le_scrubRead {m : Kz} {x : Site} {f : Found} (h : old.Le m.kept) : old.Le (scrubRead m x f).kept := by
  unfold scrubRead
  dsimp only
  repeat' split
  all_goals simp [h]
@[simp] theorem le_voteScrub {m : Kz} {addr : ℕ} {a : Word} {b : Word} {c : Word} (h : old.Le m.kept) :
    old.Le (voteScrub m addr a b c).kept := by
  unfold voteScrub
  split
  · extract_lets voted was reloaded k
    have hreloaded : old.Le reloaded.kept := by simp [reloaded, h]
    split
    · exact h
    · split
      · extract_lets counted
        have hcounted : old.Le counted.kept := by simp [counted, h]
        exact hcounted
      · split
        · simp [hreloaded]
        · exact le_regionFatal (le_logE hreloaded)
        · exact le_moduleFatal (le_logE hreloaded)
  · exact h

/-! #### Timing link -/

@[simp] theorem le_warnLog {m : Kz} {r : ℕ} {code : ℕ} {value : ℕ} (h : old.Le m.kept) : old.Le (warnLog m r code value).kept := by
  simp [warnLog, h]
@[simp] theorem le_violation {m : Kz} {r : ℕ} (h : old.Le m.kept) : old.Le (violation m r).kept := by
  simp [violation, h]
@[simp] theorem le_hostEpoch {m : Kz} (h : old.Le m.kept) : old.Le (hostEpoch m).kept := by
  simp [hostEpoch, h]
@[simp] theorem le_switchInput {m : Kz} {i : ℕ} (h : old.Le m.kept) : old.Le (switchInput m i).kept := by
  simp [switchInput, h]
@[simp] theorem le_tinLeaves {m : Kz} {i : ℕ} {st : TinState} (h : old.Le m.kept) : old.Le (tinLeaves m i st).kept := by
  unfold tinLeaves
  dsimp only
  repeat' split
  all_goals simp [h]
@[simp] theorem le_tinLockLost {m : Kz} {i : ℕ} (h : old.Le m.kept) : old.Le (tinLockLost m i).kept := by
  simp [tinLockLost, h]
@[simp] theorem le_tinDown {m : Kz} {i : ℕ} (h : old.Le m.kept) : old.Le (tinDown m i).kept := by
  simp [tinDown, h]
@[simp] theorem le_tinRevert {m : Kz} (h : old.Le m.kept) : old.Le (tinRevert m).kept := by
  simp [tinRevert, h]
@[simp] theorem le_tlWritten {m : Kz} {o : Word} {w : Word} (h : old.Le m.kept) : old.Le (tlWritten m o w).kept := by
  unfold tlWritten
  dsimp only
  repeat' split
  all_goals simp [h]
@[simp] theorem le_newEdge {m : Kz} {at_ : ℕ} {period : ℕ} {mark : Bool} {reset : Bool} {virt : Bool} (h : old.Le m.kept) :
    old.Le (newEdge m at_ period mark reset virt).kept := by
  unfold newEdge
  split
  extract_lets first wrap bcn orbit no e edged len judged fired ranged timed marked
  have hedged : old.Le edged.kept := by simp [edged, h]
  have hjudged : old.Le judged.kept := by simp [judged, hedged]
  have hfired : old.Le fired.kept := by simp [fired, hjudged]
  have hranged : old.Le ranged.kept := le_eachRgn (fun _ k hm => le_eachChan (fun _ _ hm => le_rsJudge hm) hm k) hfired
  simp [marked, timed, hranged]
@[simp] theorem le_virtualEdge {m : Kz} (h : old.Le m.kept) : old.Le (virtualEdge m).kept := by
  unfold virtualEdge
  split <;> simp [h]
@[simp] theorem le_realEdge {m : Kz} {f : Frame} {mark : Bool} {reset : Bool} (h : old.Le m.kept) : old.Le (realEdge m f mark reset).kept := by
  simp [realEdge, h]
@[simp] theorem le_discard {m : Kz} {r : ℕ} (h : old.Le m.kept) : old.Le (discard m r).kept := by
  unfold discard
  split <;> simp [h]
@[simp] theorem le_frameCmd {m : Kz} {f : Frame} {code : ℕ} {act : Kz → Edge → Kz} (h : old.Le m.kept) (hact : ∀ m e, old.Le m.kept → old.Le (act m e).kept) :
    old.Le (frameCmd m f code act).kept := by
  unfold frameCmd
  extract_lets f' skewed live
  have hskewed : old.Le skewed.kept := by simp [skewed, h]
  split
  · exact h
  · split
    extract_lets mark edged judged
    have hedged : old.Le edged.kept := le_realEdge hskewed
    have hjudged : old.Le judged.kept := by
      simp only [judged]
      split
      · simp [hedged]
      · exact le_discard hedged
    split
    · exact hedged
    · split
      · simp [hact _ _ hjudged]
      · exact hjudged
@[simp] theorem le_acceptCmd {m : Kz} {f : Frame} {e : Edge} (h : old.Le m.kept) : old.Le (acceptCmd m f e).kept := by
  unfold acceptCmd
  dsimp only
  repeat' split
  all_goals simp [h]
@[simp] theorem le_epochCmd {m : Kz} {f : Frame} {e : Edge} (h : old.Le m.kept) : old.Le (epochCmd m f e).kept := by
  unfold epochCmd
  split <;> simp [h]
@[simp] theorem le_crossingEdge {m : Kz} {f : Frame} {cause : ℕ} (h : old.Le m.kept) : old.Le (crossingEdge m f cause).kept := by
  unfold crossingEdge
  dsimp only
  repeat' split
  all_goals simp [h]

/-! #### Fixed lane -/

@[simp] theorem le_arriveOut {m : Kz} {k : ℕ} {e : OutEntry} {crcOk : Bool} (h : old.Le m.kept) : old.Le (arriveOut m k e crcOk).kept := by
  unfold arriveOut
  dsimp only
  repeat' split
  all_goals simp [h]
@[simp] theorem le_afterBadRun {m : Kz} {k : ℕ} {e : InEntry} (h : old.Le m.kept) : old.Le (afterBadRun m k e).kept := by
  unfold afterBadRun
  dsimp only
  repeat' split
  all_goals simp [h]
@[simp] theorem le_arriveIn {m : Kz} {k : ℕ} {e : InEntry} {crcOk : Bool} (h : old.Le m.kept) : old.Le (arriveIn m k e crcOk).kept := by
  simp [arriveIn, h]
@[simp] theorem le_laneArrive {m : Kz} {k : ℕ} {toHub : Bool} {crcOk : Bool} (h : old.Le m.kept) :
    old.Le (laneArrive m k toHub crcOk).kept := by
  unfold laneArrive
  dsimp only
  repeat' split
  all_goals simp [h]
@[simp] theorem le_actCmd {m : Kz} {k : ℕ} {stamp : ℕ} {c : LaneCmd} {a : Option LaneAccept} (h : old.Le m.kept) :
    old.Le (actCmd m k stamp c a).kept := by
  unfold actCmd
  split
  · split
    · exact h
    · dsimp only
      have htaken := kept_takeAccept m k (accEntry m k c ‹_›)
      split
      · simp [h]
      · split
        · exact le_regionFatal (by simp [h])
        · simp [h]
  · exact le_eachChan (fun _ _ hm => le_calInject hm) h k
  · split
    · simp [h]
    · exact h
  · split
    · simp [h]
    · exact h
  · split
    · simp [h]
    · exact h
@[simp] theorem le_actIn {m : Kz} {k : ℕ} {e : InEntry} (h : old.Le m.kept) : old.Le (actIn m k e).kept := by
  unfold actIn
  dsimp only
  repeat' split
  all_goals simp [h]
@[simp] theorem le_releaseIn {m : Kz} {k : ℕ} (h : old.Le m.kept) : old.Le (releaseIn m k).kept := by
  unfold releaseIn
  dsimp only
  repeat' split
  all_goals simp [h]
@[simp] theorem le_laneRelease {m : Kz} {k : ℕ} {toHub : Bool} (h : old.Le m.kept) : old.Le (laneRelease m k toHub).kept := by
  unfold laneRelease
  split <;> simp [h]

/-! #### Housekeeping -/

@[simp] theorem le_hkCompare {m : Kz} {cfg : Word} (h : old.Le m.kept) : old.Le (hkCompare m cfg).kept := by
  simp [hkCompare, h]
@[simp] theorem le_hkSlot {m : Kz} {c : ℕ} {vin : ℕ} {vref : ℕ} (h : old.Le m.kept) : old.Le (hkSlot m c vin vref).kept := by
  unfold hkSlot
  dsimp only
  repeat' split
  all_goals simp [h]

/-! #### Ageing -/

@[simp] theorem le_policyOven {m : Kz} {mean1 : Option ℕ} {mean24 : Option ℕ} (h : old.Le m.kept) :
    old.Le (policyOven m mean1 mean24).kept := by
  unfold policyOven
  dsimp only
  repeat' split
  all_goals simp [h]

/-! #### Raster port -/

@[simp] theorem le_flipNow {m : Kz} (h : old.Le m.kept) : old.Le (flipNow m).kept := by
  have hfront : (flipNow m).kept.port := by
    change 1 - m.dsi.front < 2
    omega
  exact ⟨h.memory, h.log, h.cause, fun _ => hfront, h.counter, h.owner0, h.owner1, h.active⟩
@[simp] theorem le_frameStart {m : Kz} (h : old.Le m.kept) : old.Le (frameStart m).kept := by
  unfold frameStart
  dsimp only
  repeat' split
  all_goals simp [h]
@[simp] theorem le_commitFlip {m : Kz} (h : old.Le m.kept) : old.Le (commitFlip m).kept := by
  simp [commitFlip, h]
@[simp] theorem le_dsiCtrlWritten {m : Kz} {w : Word} (h : old.Le m.kept) : old.Le (dsiCtrlWritten m w).kept := by
  simp only [dsiCtrlWritten]
  repeat' split
  all_goals simp [h]
@[simp] theorem le_dsiPllLock {m : Kz} (h : old.Le m.kept) : old.Le (dsiPllLock m).kept := by
  unfold dsiPllLock
  split <;> simp [h]
@[simp] theorem le_dsiFrameStart {m : Kz} (h : old.Le m.kept) : old.Le (dsiFrameStart m).kept := by
  unfold dsiFrameStart
  dsimp only
  repeat' split
  all_goals simp [h]
@[simp] theorem le_dsiTe {m : Kz} {falling : Bool} (h : old.Le m.kept) : old.Le (dsiTe m falling).kept := by
  simp [dsiTe, h]
@[simp] theorem le_dsiTeTimeout {m : Kz} (h : old.Le m.kept) : old.Le (dsiTeTimeout m).kept := by
  simp [dsiTeTimeout, h]
@[simp] theorem le_paint {m : Kz} {q : DsiPass} (h : old.Le m.kept) : old.Le (paint m q).kept := le_foldl (fun m j hm => le_mem (Mem.wf_writes _ _ _) hm) _ h
@[simp] theorem le_dsiGo {m : Kz} {w : Word} (h : old.Le m.kept) : old.Le (dsiGo m w).2.kept := by
  unfold dsiGo
  dsimp only
  repeat' split
  all_goals simp [h]
@[simp] theorem le_passDone {m : Kz} (h : old.Le m.kept) : old.Le (passDone m).kept := by
  unfold passDone
  dsimp only
  repeat' split
  all_goals simp [h]

/-! #### Register access -/

@[simp] theorem le_regEffect {m : Kz} {k : RegKind} {i : ℕ} {o : Word} {w : Word} (h : old.Le m.kept) : old.Le (regEffect m k i o w).kept := by
  unfold regEffect
  split <;> simp [h]
@[simp] theorem le_writeReg {m : Kz} {k : RegKind} {i : ℕ} {w : Word} (h : old.Le m.kept) : old.Le (writeReg m k i w).2.kept := by
  have hgo := le_dsiGo h (w := w)
  have hurgent := kept_hkUrgent m w
  unfold writeReg
  split
  · exact h
  · split
    · split
      · next heq =>
        rw [heq] at hurgent
        exact hurgent ▸ h
      · next heq =>
        rw [heq] at hurgent
        exact hurgent ▸ h
    · split
      · next heq => simpa [heq] using hgo
      · next heq => simpa [heq] using hgo
      · next heq => simpa [heq] using hgo
    · split
      · exact h
      · exact le_regEffect (by simp [h])
@[simp] theorem le_storeMem {m : Kz} {a : ℕ} {w : ℕ} (h : old.Le m.kept) : old.Le (storeMem m a w).kept := le_mem (Mem.wf_writes _ _ _) h
@[simp] theorem le_writePlace {m : Kz} {a : ℕ} {p : Place} {w : Word} (h : old.Le m.kept) : old.Le (writePlace m a p w).2.kept := by
  unfold writePlace
  dsimp only
  repeat' split
  all_goals simp [h]
@[simp] theorem le_writeWord {m : Kz} {held : List Lease} {a : ℕ} {w : Word} (h : old.Le m.kept) : old.Le (writeWord m held a w).2.kept := by
  simp only [writeWord]
  repeat' split
  all_goals simp [h]

/-! #### Firmware and trust -/

@[simp] theorem le_activationReset {m : Kz} (h : old.Le m.kept) : old.Le (activationReset m).kept := by
  unfold activationReset
  split <;> simp [h]
@[simp] theorem le_confirmTrial {m : Kz} {g : ImageInfo} (h : old.Le m.kept) : old.Le (confirmTrial m g).kept := by
  unfold confirmTrial
  dsimp only
  split
  · next hc =>
    have hrise : m.trust.counter ≤ g.sv := by
      simp only [Bool.and_eq_true, decide_eq_true_eq] at hc
      exact Nat.le_of_lt hc.2
    exact ⟨h.memory, h.log, h.cause, h.port, h.counter.trans hrise, h.owner0, h.owner1, h.active⟩
  · simp [h]
@[simp] theorem le_reachStandby {m : Kz} {net : List PortNet} {b : ImageInfo} (h : old.Le m.kept) : old.Le (reachStandby m net b).kept := by
  unfold reachStandby
  split
  · split
    · exact h
    · extract_lets trial booted confirmed other judged demoted restored tracking aged origin stats timed standby
      have hconfirmed : old.Le confirmed.kept := by
        simp only [confirmed]
        split <;> simp [booted, h]
      have hdemoted : old.Le demoted.kept := by
        simp only [demoted]
        split <;> simp [judged, hconfirmed]
      have horigin : old.Le origin.kept := by simp [origin, aged, tracking, restored, hdemoted]
      have hstandby : old.Le standby.kept := by
        simp only [standby, kept_timeFlags]
        exact (kept_modPower (fun _ => rfl) timed).symm ▸ horigin
      split
      · exact le_moduleHold hstandby fun _ => rfl
      · exact hstandby
  · exact h
@[simp] theorem le_restartEnds {m : Kz} (h : old.Le m.kept) : old.Le (restartEnds m).kept := by
  unfold restartEnds
  refine le_foldl (fun m p hm => ?_) _ h
  dsimp only
  split
  · exact le_endRunning (by simp [hm])
  · simp [hm]
@[simp] theorem le_pairRestart {m : Kz} {second : Bool} (h : old.Le m.kept) : old.Le (pairRestart m second).kept := by
  unfold pairRestart
  split
  · exact h
  · extract_lets i near fatal seen logged sup restarting ended
    have hlogged : old.Le logged.kept := by simp [logged, seen, h]
    have hended : old.Le ended.kept := by
      simp only [ended]
      split
      · exact hlogged
      · exact le_restartEnds (m := restarting) hlogged
    split
    · exact le_moduleFatal hended
    · exact hended
@[simp] theorem le_opOwner {m : Kz} {g : Signed} (h : old.Le m.kept) : old.Le (opOwner m g).2.kept := by
  unfold opOwner
  extract_lets action slot o event ed ml
  have hevent (m : Kz) : (event m).kept = m.kept := kept_extend ..
  clear_value event
  split
  · split
    · exact h
    · next hempty =>
      simp only [Bool.or_eq_true, decide_eq_true_eq, not_or, not_not, Nat.not_lt] at hempty
      rw [hevent]
      exact le_writeOwner hempty.1 hempty.2 rfl h
  · split
    · split
      · exact h
      · split
        · exact h
        · next hactive hother =>
          simp only [Bool.or_eq_true, decide_eq_true_eq, not_or, not_not, Nat.not_lt] at hactive hother
          rw [hevent]
          exact le_revokeOwner hactive.1 hactive.2 hother h
    · exact h
@[simp] theorem le_runSigned {m : Kz} {nonce : Option Nonce} {b : List Byte} {may : SignedOps} (h : old.Le m.kept) :
    old.Le (runSigned m nonce b may).2.kept := by
  unfold runSigned
  dsimp only
  repeat' split
  all_goals simp [h]
@[simp] theorem le_signedLog {m : Kz} {b : List Byte} {st : Status} (h : old.Le m.kept) : old.Le (signedLog m b st).kept := by
  simp [signedLog, h]
@[simp] theorem le_signedCmd {m : Kz} {p : ℕ} {off : ℕ} {len : ℕ} (h : old.Le m.kept) : old.Le (signedCmd m p off len).2.kept := by
  unfold signedCmd
  dsimp only
  repeat' split
  all_goals simp [h]
@[simp] theorem le_dbgToken {m : Kz} {b : List Byte} (h : old.Le m.kept) : old.Le (dbgToken m b).kept := by
  unfold dbgToken
  dsimp only
  split
  · exact h
  · rw [kept_emit]
    exact le_signedLog (le_runSigned (by simp [h]))

/-! #### Host requests -/

@[simp] theorem le_reject {m : Kz} {x1 : Hdr} {cmd : ℕ} {st : Status} (h : old.Le m.kept) : old.Le (reject m x1 cmd st).kept := by
  unfold reject
  dsimp only
  split <;> simp [h]
@[simp] theorem le_writeGo {m : Kz} {held : List Lease} {i : ℕ} {a : List (Word × Word)} (h : old.Le m.kept) :
    old.Le (writeGo m held i a).2.kept := by
  induction a generalizing m i with
  | nil => exact h
  | cons x r ih =>
    have hw := le_writeWord h (held := held) (a := x.1.toNat) (w := x.2)
    unfold writeGo
    split
    · exact h
    · split
      · next heq =>
        rw [heq] at hw
        split
        · exact hw
        · exact ih hw
      · next heq =>
        rw [heq] at hw
        exact hw
      · next heq =>
        rw [heq] at hw
        exact hw
@[simp] theorem le_engLoad {m : Kz} {p : ℕ} {held : List Lease} {k : ℕ} {mask : ℕ} {off : ℕ} {len : ℕ} (h : old.Le m.kept) :
    old.Le (engLoad m p held k mask off len).2.kept := by
  unfold engLoad
  split
  · exact h
  · split
    · exact h
    · split
      · exact h
      · split
        · exact h
        · split
          · exact h
          · split
            · exact le_loadRefused h
            · have haccepted (g : EngImage) : old.Le (loadAccepted m k mask g).kept := by simp [h]
              exact haccepted _
@[simp] theorem le_engLoadDone {m : Kz} {k : ℕ} (h : old.Le m.kept) : old.Le (engLoadDone m k).kept := by
  unfold engLoadDone
  split <;> simp [h]
@[simp] theorem le_runReq {m : Kz} {p : ℕ} {held : List Lease} {version : ℕ} {r : Request} {i : ℕ} {acc : List Byte} (h : old.Le m.kept) :
    old.Le (runReq m p held version r i acc).2.kept := by
  unfold runReq
  extract_lets ends no from2 recovery restarting
  refine le_ite_snd h (le_ite_snd h (le_ite_snd h (le_ite_snd h ?_)))
  clear_value restarting
  split
  · exact h
  · cases r with
    | nop | closeSession | openSession | unknown => exact h
    | leaseAcquire kind idx =>
      dsimp only
      split
      · exact h
      · split
        · exact h
        · simpa [ends] using h
    | leaseRelease kind idx =>
      dsimp only
      split
      · exact h
      · simpa [ends] using h
    | leaseQuery kind idx =>
      dsimp only
      split <;> exact h
    | subscribe mask => simpa [ends] using h
    | regRead l => simpa using h
    | blockRead x n => simpa using h
    | regWrite l => exact le_writeGo h
    | commit kind idx => simpa [ends] using h
    | moduleState t => exact le_moduleState h
    | regionState k t => exact le_regionState h
    | channelRestart c => simpa using h
    | statBoundary => simpa using h
    | stageWrite off d => exact le_ite_snd h (by simpa [ends] using h)
    | engLoad k mask off len => exact le_engLoad h
    | logRead src n first => exact h
    | ledgerRead n part => exact h
    | attest n obj part => simpa [ends] using h
    | challenge => simpa [ends] using h
    | signed off len => exact le_signedCmd h
    | fwChunk off target flags d =>
      dsimp only
      split
      · have hwrite := kept_chunkWrite m off.toNat target.toNat flags.toNat d
        split
        · next heq => rw [heq] at hwrite; exact hwrite.symm ▸ h
        · next heq => rw [heq] at hwrite; exact hwrite.symm ▸ h
        · next heq =>
          rw [heq] at hwrite
          exact ((kept_chunkLast ..).trans hwrite).symm ▸ h
      · simpa [ends] using h
@[simp] theorem le_settleRun {m : Kz} {p : ℕ} {q : Running} {r : Ran} (h : old.Le m.kept) : old.Le (settleRun m p q r).kept := by
  unfold settleRun
  dsimp only
  repeat' split
  all_goals simp [h]
@[simp] theorem le_startReq {m : Kz} {p : ℕ} {s : Slot} (h : old.Le m.kept) : old.Le (startReq m p s).kept := by
  simp [startReq, h]
@[simp] theorem le_turn {m : Kz} (h : old.Le m.kept) : old.Le (turn m).kept := by
  refine le_foldl (fun m p hm => ?_) _ h
  split
  · exact le_startReq hm
  · exact hm
@[simp] theorem le_turns {n : ℕ} {m : Kz} (h : old.Le m.kept) : old.Le (turns n m).kept := by
  induction n generalizing m with
  | zero => exact h
  | succ n ih =>
    unfold turns
    split
    · exact ih (le_turn h)
    · exact h
@[simp] theorem le_pump {m : Kz} (h : old.Le m.kept) : old.Le (pump m).kept := by
  simp [pump, h]
@[simp] theorem le_goOn {m : Kz} {w : Wait} (h : old.Le m.kept) : old.Le (goOn m w).kept := by
  refine le_foldl (fun m p hm => ?_) _ h
  dsimp only
  refine le_foldl (fun m o hm => ?_) _ ?_
  · have hran := le_runReq (p := p) (held := o.2) (version := 0x32) (r := o.1.req) (i := o.1.from_) (acc := o.1.body)
      (show old.Le (m.modPort p fun y => { y with orphans := y.orphans.erase o }).kept by simpa using hm)
    split
    · exact hran
    · simpa using hran
  · split
    · split
      · exact le_settleRun (le_runReq hm)
      · exact hm
    · exact hm
@[simp] theorem le_openAt {m : Kz} {x1 : Hdr} {lo : Byte} {hi : Byte} {timeout : BitVec 16} {mask : Word} (h : old.Le m.kept) :
    old.Le (openAt m x1 lo hi timeout mask).kept := by
  unfold openAt
  split <;> simp [h]
@[simp] theorem le_judge {m : Kz} {x1 : Hdr} {r : Request} (h : old.Le m.kept) : old.Le (judge m x1 r).kept := by
  unfold judge
  dsimp only
  repeat' split
  all_goals simp [h]
@[simp] theorem le_malformed {m : Kz} {x1 : Hdr} {cmd : ℕ} (h : old.Le m.kept) : old.Le (malformed m x1 cmd).kept := by
  unfold malformed
  split <;> simp [h]
@[simp] theorem le_arrive {m : Kz} {x1 : Hdr} {r : Request} (h : old.Le m.kept) : old.Le (arrive m x1 r).kept := by
  unfold arrive
  simp only [kept_ite]
  refine le_ite h (le_ite (le_malformed h) (le_ite (le_reject h) ?_))
  split
  · exact le_pump (le_openAt (le_resetSession h))
  · simp only [kept_ite]
    exact le_ite (le_reject h) (le_ite ((kept_late ..).symm ▸ h) (le_judge h))
@[simp] theorem le_acknowledge {m : Kz} {x1 : Hdr} {a : Option (BitVec 16)} {n : Option Word} (h : old.Le m.kept) :
    old.Le (acknowledge m x1 a n).kept := by
  unfold acknowledge
  dsimp only
  repeat' split
  all_goals simp [h]
@[simp] theorem le_sessionTimeout {m : Kz} {p : ℕ} (h : old.Le m.kept) : old.Le (sessionTimeout m p).kept := by
  simp [sessionTimeout, h]
@[simp] theorem le_gapSkip {m : Kz} {p : ℕ} (h : old.Le m.kept) : old.Le (gapSkip m p).kept := by
  unfold gapSkip
  dsimp only
  split <;> simp [h]
@[simp] theorem le_pairWrite {m : Kz} {p : ℕ} {k : RegKind} {i : ℕ} {w : Word} (h : old.Le m.kept) : old.Le (pairWrite m p k i w).kept := by
  have hw := le_writeWord h (held := (m.port p).session.leases) (a := k.addr i) (w := w)
  unfold pairWrite
  dsimp only
  split
  · exact h
  · split
    · next heq =>
      rw [heq] at hw
      exact le_pump (le_resetsDue (by simpa using hw))
    · next heq =>
      rw [heq] at hw
      simpa using hw
    · next heq =>
      rw [heq] at hw
      exact hw

/-! #### Events -/

@[simp] theorem le_outsideReset {m : Kz} {c : ResetCause} (h : old.Le m.kept) : old.Le (outsideReset m c).kept := by
  simp only [outsideReset]
  repeat' split
  all_goals simp [h]

/-! ### Every command and every step -/

/-- Every command only moves the kept parts forward: each arm of `exec` runs one function of the block, and its lemma says so. -/
theorem exec_keeps (c : Instr) (s : State) : ∃ n : Kz, exec c s = .next { s with kz := n } ∧ s.kz.kept.Le n.kept := by
  have hnow (t : Stamp) : s.kz.kept.Le (s.kz.advance t).kept := by simp [Kept.Le.refl]
  cases c
  case accept t f => exact ⟨_, rfl, le_frameCmd (hnow t) fun _ _ hm => le_acceptCmd hm⟩
  case epochReset t f => exact ⟨_, rfl, le_frameCmd (hnow t) fun _ _ hm => le_epochCmd hm⟩
  case reservedFastCommand t f code =>
    refine ⟨_, rfl, ?_⟩
    split
    · exact le_frameCmd (hnow t) fun _ _ hm => le_violation (by simp [hm])
    · exact hnow t
  case regionResume t k => exact ⟨_, rfl, le_pump (le_goOn (le_regionResume (hnow t)))⟩
  case archiveSummary t ok =>
    refine ⟨_, rfl, ?_⟩
    dsimp only
    split
    · split <;> simp [Kept.Le.refl]
    · exact hnow t
  case overrideRelease t p k v =>
    refine ⟨_, rfl, ?_⟩
    cases k <;> exact le_pairWrite (hnow t)
  case ledgerCheckpoint t ok =>
    refine ⟨_, rfl, ?_⟩
    dsimp only
    split <;> simp [Kept.Le.refl]
  case ledgerAction t ok =>
    refine ⟨_, rfl, ?_⟩
    dsimp only
    split <;> simp [Kept.Le.refl]
  case composerPassDone t =>
    refine ⟨_, rfl, le_pump ?_⟩
    dsimp only
    split
    · exact le_goOn (le_passDone (hnow t))
    · exact hnow t
  all_goals exact ⟨_, rfl, by simp [Kept.Le.refl]⟩

/-- So does every step: it runs one command, or idles. -/
theorem step_keeps {s n : State} (h : step s = .next n) : s.kz.kept.Le n.kz.kept := by
  unfold step at h
  split at h
  · cases h
    exact .refl _
  · next c r _ =>
    obtain ⟨m, hm, hle⟩ := exec_keeps c { s with pending := r }
    rw [hm] at h
    cases h
    exact hle
theorem ownerSlot_of_two_le {i : Nat} (hi : 2 ≤ i) (t : Trust) : ownerSlot t i = {} := by
  simp [ownerSlot, show i ≠ 0 by omega, show i ≠ 1 by omega]

theorem exists_active_iff (t : Trust) : (∃ i : Nat, i < 2 ∧ (ownerSlot t i).state = .active) ↔ t.owner0.state = .active ∨ t.owner1.state = .active := by
  constructor
  · rintro ⟨i, hi, h⟩
    rcases Nat.le_one_iff_eq_zero_or_eq_one.1 (Nat.lt_succ_iff.1 hi) with rfl | rfl
    · exact .inl h
    · exact .inr h
  · rintro (h | h)
    · exact ⟨0, Nat.zero_lt_two, h⟩
    · exact ⟨1, Nat.one_lt_two, h⟩

end Sys2Proof.Machine
namespace Sys2Proof.Safety
open Machine

/-- Settles O56: each part of the invariant is one of the kept parts, and every step moves them forward. -/
theorem everyStepKeepsTheInvariant : Obligations.EveryStepKeepsTheInvariant := by
  unfold Obligations.EveryStepKeepsTheInvariant
  rintro s n ⟨hmem, hlog, hcause, hport⟩ h
  have hle := step_keeps h
  exact ⟨hle.memory hmem, hle.log hlog, hle.cause hcause, hle.port hport⟩

/-- Settles O58: the fuses are kept parts; an owner slot above 1 does not exist and reads empty. -/
theorem fusesAreNeverUnmade : Obligations.FusesAreNeverUnmade := by
  unfold Obligations.FusesAreNeverUnmade
  intro s n h
  have hle := step_keeps h
  have honward (i : Nat) : (ownerSlot s.kz.trust i).Onward (ownerSlot n.kz.trust i) := by
    match i with
    | 0 => exact hle.owner0
    | 1 => exact hle.owner1
    | i + 2 => simp [ownerSlot_of_two_le, OwnerSlot.Onward.refl]
  refine ⟨hle.counter, fun i hi => ?_, ?_⟩
  · exact ⟨(honward i).ed hi, (honward i).ml hi, (honward i).state hi⟩
  · rw [exists_active_iff, exists_active_iff]
    exact hle.active
end Sys2Proof.Safety
end

section
/-! SUPPORT. The family 14_time_interval.md: what the events of one instant make of a context of the time-interval unit (R433 to R437), and
what a gate of the frequency counter gives (R442, R443). -/
namespace Sys2Proof.Machine
open Safety

/-! ### Folds that one element decides -/

theorem foldl_same_on {σ α γ : Type} {f : σ → α → σ} {l : List α} {k : σ → γ} (hk : ∀ s, ∀ b ∈ l, k (f s b) = k s) (s : σ) :
    k (l.foldl f s) = k s := by
  induction l generalizing s with
  | nil => rfl
  | cons b l ih =>
    rw [List.foldl_cons, ih fun s c hc => hk s c (List.mem_cons_of_mem _ hc)]
    exact hk s b List.mem_cons_self

/-- What `k` reads after a fold is decided by its element `a`, where the others leave alone what `k` reads and what `a` looks at. -/
theorem foldl_decided_by {σ α β γ : Type} {f : σ → α → σ} {l : List α} {a : α} (ha : a ∈ l) (hn : l.Nodup) {g : σ → β} {k : σ → γ}
    (hg : ∀ s, ∀ b ∈ l, b ≠ a → g (f s b) = g s) (hk : ∀ s, ∀ b ∈ l, b ≠ a → k (f s b) = k s) {s : σ} {r : γ}
    (hat : ∀ s', g s' = g s → k (f s' a) = r) : k (l.foldl f s) = r := by
  induction l generalizing s with
  | nil => cases ha
  | cons b l ih =>
    obtain ⟨hb, hl⟩ := List.nodup_cons.1 hn
    have hin {c : α} (hc : c ∈ l) : c ∈ b :: l := List.mem_cons_of_mem _ hc
    rw [List.foldl_cons]
    rcases List.mem_cons.1 ha with rfl | ha
    · rw [foldl_same_on fun s c hc => hk s c (hin hc) fun h => hb (h ▸ hc)]
      exact hat s rfl
    · refine ih ha hl (fun s c hc => hg s c (hin hc)) (fun s c hc => hk s c (hin hc)) fun s' hs' => ?_
      exact hat s' (hs'.trans (hg s b List.mem_cons_self fun h => hb (h ▸ ha)))

/-! ### What a context's operations leave alone -/

/-- The block without the contexts of the time-interval unit, the W1C bits and the counters. -/
def Kz.sansTiu (m : Kz) : Kz :=
  { m with tiu := { m.tiu with ctx := [] }, regs := { m.regs with seen := [], setIn := [] }, stats := {} }

/-- What the judgement of context `x` looks at: the context, its W1C bits, and the block without the contexts. -/
def Kz.tiuView (m : Kz) (x : Nat) : TiuCtx × Nat × Kz := (tiuCtx m x, m.seenWord .TIM_TIU_STAT x, m.sansTiu)

theorem tiuCtx_modCtx_same (m : Kz) (x : Nat) (f : TiuCtx → TiuCtx) : tiuCtx (modCtx m x f) x = f (tiuCtx m x) := by
  simp [tiuCtx, modCtx, modTiu]

theorem tiuCtx_modCtx_ne {x y : Nat} (h : x ≠ y) (m : Kz) (f : TiuCtx → TiuCtx) : tiuCtx (modCtx m y f) x = tiuCtx m x :=
  Sparse.get_mod_ne _ _ _ _ _ h

theorem tiuView_modCtx_ne {x y : Nat} (h : x ≠ y) (m : Kz) (f : TiuCtx → TiuCtx) : (modCtx m y f).tiuView x = m.tiuView x := by
  rw [Kz.tiuView, tiuCtx_modCtx_ne h]
  rfl

theorem tiuStat_addr_ne {x y : Nat} (h : x ≠ y) : RegKind.addr .TIM_TIU_STAT x ≠ RegKind.addr .TIM_TIU_STAT y := by
  simp only [RegKind.addr, RegKind.info]
  omega

theorem tiuView_mark_ne {x y : Nat} (h : x ≠ y) (m : Kz) : (m.mark F.TIM_TIU_STAT.NEW y).tiuView x = m.tiuView x := by
  have hseen : (m.mark F.TIM_TIU_STAT.NEW y).seenWord .TIM_TIU_STAT x = m.seenWord .TIM_TIU_STAT x :=
    Sparse.get_set_ne _ _ _ _ _ (tiuStat_addr_ne h)
  rw [Kz.tiuView, hseen]
  rfl

theorem tiuView_tiuResult_ne {x y : Nat} (h : x ≠ y) (m : Kz) (o d : Nat) : (tiuResult m y o d).tiuView x = m.tiuView x := by
  rw [tiuResult, tiuView_mark_ne h, tiuView_modCtx_ne h]

theorem tiuView_tiuAfter_ne {x y : Nat} (h : x ≠ y) (m : Kz) : (tiuAfter m y).tiuView x = m.tiuView x := tiuView_modCtx_ne h m _

theorem tiuView_tiuCloses_ne {x y : Nat} (h : x ≠ y) (m : Kz) (i : Nat) : (tiuCloses m y i).tiuView x = m.tiuView x := by
  unfold tiuCloses
  dsimp only
  split
  · rw [tiuView_tiuAfter_ne h, tiuView_tiuResult_ne h]
  · rfl

theorem tiuView_tiuMeet_ne {x y : Nat} (h : x ≠ y) (m : Kz) (i : Nat) (es : List TiuEvent) :
    (tiuMeet m y i es).tiuView x = m.tiuView x := by
  unfold tiuMeet
  extract_lets closed ctx start stop used stopped met rest
  have hmet : met.tiuView x = m.tiuView x := by
    refine Eq.trans ?_ (tiuView_tiuCloses_ne h m i)
    simp only [met]
    clear_value used
    split
    · have hstopped : stopped.tiuView x = closed.tiuView x := by
        rw [tiuView_tiuAfter_ne h, tiuView_tiuResult_ne h]
      split
      · rw [tiuView_modCtx_ne h, hstopped]
      · exact hstopped
    · rfl
  refine Eq.trans (foldl_same (fun n : Kz => n.tiuView x) (fun n _ => ?_) _ met) hmet
  split
  · exact tiuView_modCtx_ne h n _
  · rfl
  · rfl

theorem sansTiu_modCtx (m : Kz) (y : Nat) (f : TiuCtx → TiuCtx) : (modCtx m y f).sansTiu = m.sansTiu := rfl

theorem sansTiu_tiuResult (m : Kz) (y o d : Nat) : (tiuResult m y o d).sansTiu = m.sansTiu := rfl

theorem sansTiu_tiuAfter (m : Kz) (y : Nat) : (tiuAfter m y).sansTiu = m.sansTiu := rfl

theorem sansTiu_tiuCloses (m : Kz) (y i : Nat) : (tiuCloses m y i).sansTiu = m.sansTiu := by
  unfold tiuCloses
  dsimp only
  split <;> rfl

theorem sansTiu_tiuMeet (m : Kz) (y i : Nat) (es : List TiuEvent) : (tiuMeet m y i es).sansTiu = m.sansTiu := by
  unfold tiuMeet
  extract_lets closed ctx start stop used stopped met rest
  have hmet : met.sansTiu = m.sansTiu := by
    refine Eq.trans ?_ (sansTiu_tiuCloses m y i)
    simp only [met]
    clear_value used
    split
    · have hstopped : stopped.sansTiu = closed.sansTiu := by
        rw [sansTiu_tiuAfter, sansTiu_tiuResult]
      split
      · rw [sansTiu_modCtx, hstopped]
      · exact hstopped
    · rfl
  refine Eq.trans (foldl_same Kz.sansTiu (fun n _ => ?_) _ met) hmet
  split <;> rfl

theorem Kz.fld_of_sansTiu {m n : Kz} (h : n.sansTiu = m.sansTiu) (f : Field) (i : Nat) : n.fld f i = m.fld f i := by
  change n.sansTiu.fld f i = m.sansTiu.fld f i
  rw [h]

/-- Blocks that look alike to context `x` have the same context, result bit and fields. -/
theorem of_tiuView {m n : Kz} {x : Nat} (h : n.tiuView x = m.tiuView x) :
    tiuCtx n x = tiuCtx m x ∧ n.seen F.TIM_TIU_STAT.NEW x = m.seen F.TIM_TIU_STAT.NEW x ∧ ∀ f i, n.fld f i = m.fld f i := by
  obtain ⟨hctx, hseen, hsans⟩ : tiuCtx n x = tiuCtx m x ∧ n.seenWord .TIM_TIU_STAT x = m.seenWord .TIM_TIU_STAT x ∧
      n.sansTiu = m.sansTiu := by simpa [Kz.tiuView] using h
  refine ⟨hctx, ?_, Kz.fld_of_sansTiu hsans⟩
  change F.TIM_TIU_STAT.NEW.of (BitVec.ofNat 32 (n.seenWord .TIM_TIU_STAT x)) = F.TIM_TIU_STAT.NEW.of (BitVec.ofNat 32 (m.seenWord .TIM_TIU_STAT x))
  rw [hseen]

theorem Kz.eq_of_sansTiu {m n : Kz} (h : n.sansTiu = m.sansTiu) :
    n = { m with tiu := n.tiu, regs := n.regs, stats := n.stats } ∧ n.tiu = { m.tiu with ctx := n.tiu.ctx } ∧ n.regs.cfg = m.regs.cfg := by
  refine ⟨congrArg (fun y : Kz => { y with tiu := n.tiu, regs := n.regs, stats := n.stats }) h, ?_, ?_⟩
  · exact congrArg (fun y : Kz => { y.tiu with ctx := n.tiu.ctx }) h
  · change n.sansTiu.regs.cfg = m.sansTiu.regs.cfg
    rw [h]

theorem window_of_fld {m n : Kz} (h : ∀ f i, n.fld f i = m.fld f i) (x : Nat) :
    tiuOpen n x = tiuOpen m x ∧ tiuClose n x = tiuClose m x ∧ ∀ f, n.on f x = m.on f x := by
  simp [tiuOpen, tiuClose, Kz.on, h]

/-! ### What the events of one instant make of a context -/

/-- The context after a result with outcome `o`: LOST counts where NEW was still set, and MODE says what it goes on to (R435, R438, R439). -/
def TiuCtx.resulted (x : TiuCtx) (o ticks frac new : Nat) (again : Bool) : TiuCtx :=
  { x with outcome := o, ticks := ticks, frac := frac, lost := if new = 0 then x.lost else min 255 (x.lost + 1),
           state := if again then .armed else .idle }

theorem tiuCtx_result (m : Kz) (x o d : Nat) : tiuCtx (tiuAfter (tiuResult m x o d) x) x =
    (tiuCtx m x).resulted o (if o = 1 then d / 1024 else 0xFFFFFFFF) (if o = 1 then d % 1024 else 0x3FF)
      (m.seen F.TIM_TIU_STAT.NEW x) (m.on F.TIM_TIU_CFG.MODE x) := by
  have hresult : tiuCtx (tiuResult m x o d) x = _ := tiuCtx_modCtx_same m x _
  rw [tiuAfter, tiuCtx_modCtx_same, hresult, TiuCtx.resulted]
  by_cases hnew : m.seen F.TIM_TIU_STAT.NEW x = 0
  · simp only [hnew, if_true]
    rfl
  · simp only [hnew, if_false, bne_iff_ne, ne_eq, not_false_eq_true, if_true]
    rfl

section
variable {m : Kz} {x i : Nat} {e : TiuEvent}

theorem tiuCloses_stays (h : (tiuCtx m x).state ≠ .open_ ∨ i < (tiuCtx m x).start + tiuClose m x) : tiuCloses m x i = m := by
  refine if_neg ?_
  simp only [Bool.and_eq_true, decide_eq_true_eq, not_and, Nat.not_le]
  exact fun hopen => h.resolve_left (not_not.2 hopen)

theorem tiuCloses_closes (hopen : (tiuCtx m x).state = .open_) (h : (tiuCtx m x).start + tiuClose m x ≤ i) :
    tiuCloses m x i = tiuAfter (tiuResult m x 2 0) x :=
  if_pos (by simp [hopen, h])

/-- A start event meets context `x` (R433, R437): it starts an armed one, and an open one counts it. -/
def tiuStarted (m : Kz) (x i : Nat) : Kz :=
  match (tiuCtx m x).state with
  | .armed => modCtx m x (fun y => { y with state := .open_, start := i })
  | .open_ => m.count .TIM_TIU_IGNORED 0 1
  | .idle => m

/-- No stop: what is left to the context are the starts. -/
theorem tiuMeet_of_no_stop (hclose : tiuCloses m x i = m)
    (h : (tiuCtx m x).state ≠ .open_ ∨ i < (tiuCtx m x).start + tiuOpen m x ∨ i ≤ (tiuCtx m x).start ∨
      ofSource e (m.fld F.TIM_TIU_CFG.STOP_SRC x) (m.fld F.TIM_TIU_CFG.STOP_ARG x) = false) :
    tiuMeet m x i [e] = if ofSource e (m.fld F.TIM_TIU_CFG.START_SRC x) (m.fld F.TIM_TIU_CFG.START_ARG x) then
      tiuStarted m x i else m := by
  have hused : (if (tiuCtx m x).state = .open_ && decide ((tiuCtx m x).start + tiuOpen m x ≤ i) && decide ((tiuCtx m x).start < i) then
      [e].find? (fun e => ofSource e (m.fld F.TIM_TIU_CFG.STOP_SRC x) (m.fld F.TIM_TIU_CFG.STOP_ARG x)) else none) = none := by
    rw [ite_eq_right_iff]
    simp only [Bool.and_eq_true, decide_eq_true_eq]
    rintro ⟨⟨hopen, hwin⟩, hafter⟩
    have hstop := ((h.resolve_left (not_not.2 hopen)).resolve_left (Nat.not_lt.2 hwin)).resolve_left (Nat.not_le.2 hafter)
    simp [hstop]
  unfold tiuMeet
  rw [hclose]
  dsimp only
  rw [hused]
  cases hstart : ofSource e (m.fld F.TIM_TIU_CFG.START_SRC x) (m.fld F.TIM_TIU_CFG.START_ARG x)
  · simp [hstart]
  · have hfilter : [e].filter (fun e => ofSource e (m.fld F.TIM_TIU_CFG.START_SRC x) (m.fld F.TIM_TIU_CFG.START_ARG x)) = [e] := by
      simp [hstart]
    rw [hfilter]
    rfl

/-- A stop inside the window: the result, and where the context chains the next measurement (R436, R437). -/
theorem tiuMeet_of_stop (hclose : tiuCloses m x i = m) (hopen : (tiuCtx m x).state = .open_)
    (hwin : (tiuCtx m x).start + tiuOpen m x ≤ i) (hafter : (tiuCtx m x).start < i)
    (hstop : ofSource e (m.fld F.TIM_TIU_CFG.STOP_SRC x) (m.fld F.TIM_TIU_CFG.STOP_ARG x) = true) :
    tiuMeet m x i [e] =
      if m.on F.TIM_TIU_CFG.CHAIN x && m.on F.TIM_TIU_CFG.MODE x &&
          ofSource e (m.fld F.TIM_TIU_CFG.START_SRC x) (m.fld F.TIM_TIU_CFG.START_ARG x) then
        modCtx (tiuAfter (tiuResult m x 1 (i - (tiuCtx m x).start)) x) x fun y => { y with state := .open_, start := i }
      else tiuAfter (tiuResult m x 1 (i - (tiuCtx m x).start)) x := by
  have hused : (if (tiuCtx m x).state = .open_ && decide ((tiuCtx m x).start + tiuOpen m x ≤ i) && decide ((tiuCtx m x).start < i) then
      [e].find? (fun e => ofSource e (m.fld F.TIM_TIU_CFG.STOP_SRC x) (m.fld F.TIM_TIU_CFG.STOP_ARG x)) else none) = some e := by
    simp [hopen, hwin, hafter, hstop]
  unfold tiuMeet
  rw [hclose]
  dsimp only
  rw [hused]
  simp
  rfl
end

theorem tiuStarted_armed {m : Kz} {x i : Nat} (h : (tiuCtx m x).state = .armed) :
    tiuStarted m x i = modCtx m x fun y => { y with state := .open_, start := i } := by
  simp only [tiuStarted, h]

theorem tiuStarted_open {m : Kz} {x i : Nat} (h : (tiuCtx m x).state = .open_) : tiuStarted m x i = m.count .TIM_TIU_IGNORED 0 1 := by
  simp only [tiuStarted, h]

theorem tiuStarted_idle {m : Kz} {x i : Nat} (h : (tiuCtx m x).state = .idle) : tiuStarted m x i = m := by
  simp only [tiuStarted, h]

/-! ### The judgement of one event -/

/-- The event that is judged, alone in the queue, meets every context. -/
def tiuJudged (m : Kz) (e : TiuEvent) : Kz :=
  (upTo 32).foldl (fun m n => tiuMeet m n e.inst [e]) (modTiu m fun u => { u with queue := [] })

section
variable {m : Kz} {e : TiuEvent}

theorem tiuJudge_not_due (h : m.tiu.queue.head?.any (fun e => decide (e.inst + jdelay m ≤ m.inst)) = false) : tiuJudge m = m := by
  unfold tiuJudge
  cases hq : m.tiu.queue with
  | nil => rfl
  | cons e r =>
    rw [hq] at h
    rw [List.length_cons, tiuRun, hq]
    exact if_pos (by simpa using h)

theorem tiuJudge_one (hq : m.tiu.queue = [e]) (hdue : e.inst + jdelay m ≤ m.inst) : tiuJudge m = tiuJudged m e := by
  have hsame : m.tiu.queue.filter (fun x => x.inst = e.inst) = [e] := by simp [hq]
  have hrest : (modTiu m fun u => { u with queue := u.queue.filter (fun x => x.inst ≠ e.inst) }) = modTiu m fun u => { u with queue := [] } := by
    simp [modTiu, hq]
  have hlength : m.tiu.queue.length = 1 := by simp [hq]
  rw [tiuJudge, hlength, tiuRun]
  split
  · next e' r heq =>
    obtain ⟨rfl, -⟩ : e' = e ∧ r = [] := by simpa using heq.symm.trans hq
    rw [if_neg (Nat.not_lt.2 hdue), hsame, hrest]
    rfl
  · next heq => simp [hq] at heq

theorem sansTiu_tiuJudged : (tiuJudged m e).sansTiu = (modTiu m fun u => { u with queue := [] }).sansTiu :=
  foldl_same Kz.sansTiu (fun n y => sansTiu_tiuMeet n y e.inst [e]) _ _

theorem tiuJudged_frame : tiuJudged m e = { m with tiu := (tiuJudged m e).tiu, regs := (tiuJudged m e).regs, stats := (tiuJudged m e).stats } ∧
    (tiuJudged m e).tiu = { m.tiu with queue := [], ctx := (tiuJudged m e).tiu.ctx } ∧ (tiuJudged m e).regs.cfg = m.regs.cfg :=
  Kz.eq_of_sansTiu (m := modTiu m fun u => { u with queue := [] }) sansTiu_tiuJudged

/-- A context is decided by its own meeting with the event: the other contexts change nothing that it looks at. -/
theorem tiuCtx_tiuJudged {x : Nat} (hx : x < 32) {r : TiuCtx}
    (hmeet : ∀ n : Kz, tiuCtx n x = tiuCtx m x → n.seen F.TIM_TIU_STAT.NEW x = m.seen F.TIM_TIU_STAT.NEW x →
      (∀ f i, n.fld f i = m.fld f i) → tiuCtx (tiuMeet n x e.inst [e]) x = r) : tiuCtx (tiuJudged m e) x = r :=
  foldl_decided_by (g := fun n : Kz => n.tiuView x) (k := fun n : Kz => tiuCtx n x) (mem_upTo.2 hx) List.nodup_range
    (fun n y _ hy => tiuView_tiuMeet_ne (Ne.symm hy) n e.inst [e])
    (fun n y _ hy => congrArg Prod.fst (tiuView_tiuMeet_ne (Ne.symm hy) n e.inst [e])) fun n hview =>
      have ⟨hctx, hnew, hfld⟩ := of_tiuView hview
      hmeet n hctx hnew hfld
end

/-! ### Register rows of the unit -/

theorem storeReg_cfgWord {k : RegKind} (hs : k.info.rws = 0) (hw : k.info.rw ||| k.info.rwl ≠ 0) (m : Kz) (i : Nat) (w : Word) :
    (storeReg m k i w).cfgWord k i = BitVec.ofNat 32 (w.toNat &&& (k.info.rw ||| k.info.rwl)) := by
  unfold storeReg
  dsimp only
  rw [if_neg (not_not.2 hs), if_neg hw, Kz.cfgWord_setCfg]

theorem Field.of_eq_testBit {f : Field} (hhi : f.hi = f.lo) (w : Word) : f.of w = (w.toNat.testBit f.lo).toNat := by
  rw [Field.of, hhi, Nat.sub_self, Nat.toNat_testBit, Nat.shiftRight_eq_div_pow, Nat.zero_add, Nat.pow_one]

/-- A one-bit field that a register stores reads as it was written. -/
theorem Field.of_stored_bit {f : Field} (hhi : f.hi = f.lo) (hlo : f.lo < 32) {mask : Nat} (hmask : mask.testBit f.lo = true) (w : Word) :
    f.of (BitVec.ofNat 32 (w.toNat &&& mask)) = f.of w := by
  rw [Field.of_bit hhi hlo, Field.of_eq_testBit hhi, Nat.testBit_and, hmask, Bool.and_true]

theorem seen_mark_same {f : Field} (hhi : f.hi = f.lo) (hlo : f.lo < 32) (m : Kz) (i : Nat) : (m.mark f i).seen f i = 1 := by
  refine Kz.seen_of_bit hhi hlo ?_
  rw [Kz.seenWord_mark, Nat.testBit_or, Nat.one_shiftLeft, Nat.testBit_two_pow_self, Bool.or_true]

/-- The block without the contexts of the time-interval unit. -/
def Kz.sansCtx (m : Kz) : Kz := { m with tiu := { m.tiu with ctx := [] } }

theorem Kz.eq_of_sansCtx {m n : Kz} (h : n.sansCtx = m.sansCtx) : n = { m with tiu := n.tiu } ∧ n.tiu = { m.tiu with ctx := n.tiu.ctx } :=
  ⟨congrArg (fun y : Kz => { y with tiu := n.tiu }) h, congrArg (fun y : Kz => { y.tiu with ctx := n.tiu.ctx }) h⟩

theorem sansCtx_tiuArm (m : Kz) (mask : Nat) : (tiuArm m mask).sansCtx = m.sansCtx := by
  refine foldl_same Kz.sansCtx (fun n y => ?_) _ m
  split <;> rfl

/-- R435: TIM_TIU_ARM arms the enabled idle contexts of its mask. -/
theorem tiuCtx_tiuArm (m : Kz) (mask : Nat) {y : Nat} (hy : y < 32) : tiuCtx (tiuArm m mask) y =
    if mask.testBit y = true ∧ m.on F.TIM_TIU_CFG.EN y = true ∧ (tiuCtx m y).state = .idle then { tiuCtx m y with state := .armed }
    else tiuCtx m y := by
  refine foldl_decided_by (g := fun n : Kz => (tiuCtx n y, n.sansCtx)) (k := fun n : Kz => tiuCtx n y) (mem_upTo.2 hy) List.nodup_range
    (fun n b _ hb => ?_) (fun n b _ hb => ?_) fun n hview => ?_
  · split
    · rw [tiuCtx_modCtx_ne (Ne.symm hb)]
      rfl
    · rfl
  · split
    · exact tiuCtx_modCtx_ne (Ne.symm hb) ..
    · rfl
  · obtain ⟨hctx, hsans⟩ := Prod.mk.inj hview
    have hon : n.on F.TIM_TIU_CFG.EN y = m.on F.TIM_TIU_CFG.EN y := by
      change n.sansCtx.on F.TIM_TIU_CFG.EN y = m.sansCtx.on F.TIM_TIU_CFG.EN y
      rw [hsans]
    simp only [hon, hctx, Bool.and_eq_true, decide_eq_true_eq, and_assoc]
    split
    · rw [tiuCtx_modCtx_same, hctx]
    · exact hctx

theorem sansCtx_tiuCfgWritten (m : Kz) (x : Nat) (w : Word) : (tiuCfgWritten m x w).sansCtx = m.sansCtx := by
  unfold tiuCfgWritten
  split
  · exact sansCtx_tiuArm ..
  · rfl

theorem tiuCtx_tiuCfgWritten_ne {x y : Nat} (hy : y < 32) (h : y ≠ x) (m : Kz) (w : Word) :
    tiuCtx (tiuCfgWritten m x w) y = tiuCtx m y := by
  unfold tiuCfgWritten
  split
  · rw [tiuCtx_tiuArm m _ hy, if_neg]
    rintro ⟨hbit, -⟩
    rw [Nat.one_shiftLeft, Nat.testBit_two_pow_of_ne (Ne.symm h)] at hbit
    exact Bool.false_ne_true hbit
  · exact tiuCtx_modCtx_ne h ..

/-- R435: EN 1 arms a context that is IDLE, EN 0 ends a measurement without a result. -/
theorem tiuCtx_tiuCfgWritten_same {m : Kz} {x : Nat} (hx : x < 32) {w : Word} (hen : m.fld F.TIM_TIU_CFG.EN x = F.TIM_TIU_CFG.EN.of w) :
    tiuCtx (tiuCfgWritten m x w) x = if F.TIM_TIU_CFG.EN.of w = 0 then { tiuCtx m x with state := .idle }
      else if (tiuCtx m x).state = .idle then { tiuCtx m x with state := .armed } else tiuCtx m x := by
  have hbit : F.TIM_TIU_CFG.EN.of w = 0 ∨ F.TIM_TIU_CFG.EN.of w = 1 := Nat.mod_two_eq_zero_or_one _
  unfold tiuCfgWritten
  rcases hbit with h | h
  · rw [if_neg (by omega), if_pos h, tiuCtx_modCtx_same]
  · have hmask : (1 <<< x).testBit x = true := by rw [Nat.one_shiftLeft, Nat.testBit_two_pow_self]
    rw [if_pos h, if_neg (by omega), tiuCtx_tiuArm m _ hx]
    simp [Kz.on, hen, h, hmask]

/-! ### The frequency counter -/

theorem freqWritten_storeReg (m : Kz) (v : Word) : freqWritten (storeReg m .TIM_FREQ_CFG 0 v) v = { storeReg m .TIM_FREQ_CFG 0 v with
    tiu := { m.tiu with gating := decide (F.TIM_FREQ_CFG.START.of v = 1), gateNs := m.now.ns } } := by
  rw [storeReg_eq]
  rfl

theorem pairWrite_freqCfg {m : Kz} {p : Nat} {v : Word} (h : Accepts m p .TIM_FREQ_CFG 0 v) :
    pairWrite m p .TIM_FREQ_CFG 0 v = ({ storeReg m .TIM_FREQ_CFG 0 v with
      tiu := { m.tiu with gating := decide (F.TIM_FREQ_CFG.START.of v = 1), gateNs := m.now.ns } }).emit (okPair p .TIM_FREQ_CFG 0) := by
  have heffect : regEffect (storeReg m .TIM_FREQ_CFG 0 v) .TIM_FREQ_CFG 0 (m.cfgWord .TIM_FREQ_CFG 0) v =
      freqWritten (storeReg m .TIM_FREQ_CFG 0 v) v := rfl
  have hports : (freqWritten (storeReg m .TIM_FREQ_CFG 0 v) v).ports = m.ports := by
    rw [freqWritten_storeReg, storeReg_eq]
  rw [pairWrite_accepts h place_TIM_FREQ_CFG (by decide) (by decide) (heffect ▸ hports), heffect, freqWritten_storeReg]

/-- The periods of a gate in 2^-32 Hz, times the gate's length and 10^12 (R442): what the frequency is the quotient of. -/
def freqNum (m : Kz) (k : Nat) : Nat := k * 327680000000 * 2 ^ 32 * (((10 ^ 12 : Nat) : Int) + trimNow m).toNat

theorem freqEnd_of_gate {m : Kz} {k span : Nat} (hgate : m.tiu.gating = true) (hk : k ≠ 0) (hspan : span ≠ 0)
    (hlen : m.fld F.TIM_FREQ_CFG.GATE_MS 0 * 327680000 ≤ span) (longest : Nat) : ∃ up : Nat, up < 2 ∧
    freqEnd m k span longest = freqResult { m with fresh := m.fresh + 1 }
      (freqNum m k / (span * 10 ^ 12) + (if freqNum m k % (span * 10 ^ 12) = 0 then 0 else up)) false
      (decide (4 * span < longest * k)) (span * 1000 / 327680) := by
  have hoff : hearthOff { m with fresh := m.fresh + 1 } = trimNow m := hearthOff_eq _
  refine ⟨(m.free 1).1, Nat.mod_lt _ Nat.zero_lt_two, ?_⟩
  unfold freqEnd
  rw [if_pos (by simp [hgate, hk, hspan, hlen]), freqNum, ← hoff]
  rfl

/-- R442: of the two steps next to a quotient the result takes one, and the quotient itself where it is whole. -/
theorem quotient_or_next {q r up : Nat} (hup : up < 2) (n : Nat) :
    ((q + if r = 0 then 0 else up) % n = q % n ∨ (q + if r = 0 then 0 else up) % n = (q + 1) % n) ∧
      (r = 0 → (q + if r = 0 then 0 else up) % n = q % n) := by
  have h : up = 0 ∨ up = 1 := by omega
  constructor
  · split
    · exact .inl rfl
    · rcases h with rfl | rfl
      · exact .inl rfl
      · exact .inr rfl
  · intro hr
    rw [if_pos hr, Nat.add_zero]

end Sys2Proof.Machine
namespace Sys2Proof.Safety
open Machine

/-- Settles O22: the judgement of one event is decided, context by context, by the context's own meeting with it; the rows are one operation
of the unit each. When arming acts against an event's instant is the model's choice (log entry 41). -/
theorem timeIntervals : Obligations.TimeIntervals := by
  unfold Obligations.TimeIntervals
  intro s t m hm
  have judges {x : Fin 32} {e : TiuEvent} {r : TiuCtx} (hq : m.tiu.queue = [e]) (hdue : e.inst + jdelay m ≤ m.inst)
      (hmeet : ∀ n : Kz, tiuCtx n x.val = tiuCtx m x.val → n.seen F.TIM_TIU_STAT.NEW x.val = m.seen F.TIM_TIU_STAT.NEW x.val →
        (∀ f i, n.fld f i = m.fld f i) → tiuCtx (tiuMeet n x.val e.inst [e]) x.val = r) :
      After (.tiuJudge t) s fun n => n = { m with tiu := n.tiu, regs := n.regs, stats := n.stats } ∧
        n.tiu = { m.tiu with queue := [], ctx := n.tiu.ctx } ∧ n.regs.cfg = m.regs.cfg ∧ tiuCtx n x.val = r := by
    obtain ⟨hn, htiu, hcfg⟩ := tiuJudged_frame (m := m) (e := e)
    exact after_at (f := tiuJudge) hm rfl ((tiuJudge_one hq hdue).symm ▸ ⟨hn, htiu, hcfg, tiuCtx_tiuJudged x.isLt hmeet⟩)
  refine ⟨?arrives, ?notDue, ?starts, ?waits, ?stops, ?chains, ?ignores, ?timeout, ?noTimeout, ?config, ?window, ?arm, ?read⟩
  case arrives =>
    intro c i r hout
    refine after_at (f := fun m => tiuChannel m c) hm rfl ?_
    have hchannel : tiuChannel m c = tiuArrive (m.modTrig c.val fun x => { x with tiuOut := r }) 6 c i := by
      rw [tiuChannel, hout]
      refine congrArg (tiuArrive · 6 c i) (Kz.modTrig_congr ?_)
      rw [hout]
      rfl
    rw [hchannel]
    rfl
  case notDue =>
    intro h
    exact after_at (f := tiuJudge) hm rfl (tiuJudge_not_due h)
  case starts =>
    intro x e hq hdue harmed hstart
    refine judges hq hdue fun n hctx hnew hfld => ?_
    have hnot : (tiuCtx n x).state ≠ .open_ := by rw [hctx, harmed]; decide
    rw [tiuMeet_of_no_stop (tiuCloses_stays (.inl hnot)) (.inl hnot), hfld, hfld, hstart, if_pos rfl, tiuStarted_armed (hctx ▸ harmed),
      tiuCtx_modCtx_same, hctx]
  case waits =>
    intro x e hq hdue h
    refine judges hq hdue fun n hctx hnew hfld => ?_
    have hnot : (tiuCtx n x).state ≠ .open_ := by
      rw [hctx]
      rcases h with h | ⟨h, -⟩ <;> rw [h] <;> decide
    rw [tiuMeet_of_no_stop (tiuCloses_stays (.inl hnot)) (.inl hnot), hfld, hfld]
    rcases h with hidle | ⟨-, hother⟩
    · rw [tiuStarted_idle (hctx ▸ hidle), ite_self, hctx]
    · rw [hother, if_neg Bool.false_ne_true, hctx]
  case stops =>
    intro x e hq hdue hopen hwin hafter hclose hstop hchain
    refine judges hq hdue fun n hctx hnew hfld => ?_
    obtain ⟨hopens, hcloses, hon⟩ := window_of_fld hfld x
    have hnochain : (n.on F.TIM_TIU_CFG.CHAIN x && n.on F.TIM_TIU_CFG.MODE x &&
        ofSource e (n.fld F.TIM_TIU_CFG.START_SRC x) (n.fld F.TIM_TIU_CFG.START_ARG x)) = false := by
      rw [hon, hon, hfld, hfld]
      rcases hchain with h | h | h <;> simp [h]
    have hstays : tiuCloses n x e.inst = n := tiuCloses_stays (.inr (by rw [hctx, hcloses]; exact hclose))
    rw [tiuMeet_of_stop hstays (hctx ▸ hopen) (by rw [hctx, hopens]; exact hwin) (hctx ▸ hafter) (by rw [hfld, hfld]; exact hstop),
      hnochain, if_neg Bool.false_ne_true, tiuCtx_result, hctx, hnew, hon]
    rfl
  case chains =>
    intro x e hq hdue hopen hwin hafter hclose hstop hchain hmode hstart
    refine judges hq hdue fun n hctx hnew hfld => ?_
    obtain ⟨hopens, hcloses, hon⟩ := window_of_fld hfld x
    have hchains : (n.on F.TIM_TIU_CFG.CHAIN x && n.on F.TIM_TIU_CFG.MODE x &&
        ofSource e (n.fld F.TIM_TIU_CFG.START_SRC x) (n.fld F.TIM_TIU_CFG.START_ARG x)) = true := by
      rw [hon, hon, hfld, hfld, hchain, hmode, hstart]
      rfl
    have hstays : tiuCloses n x e.inst = n := tiuCloses_stays (.inr (by rw [hctx, hcloses]; exact hclose))
    rw [tiuMeet_of_stop hstays (hctx ▸ hopen) (by rw [hctx, hopens]; exact hwin) (hctx ▸ hafter) (by rw [hfld, hfld]; exact hstop),
      hchains, if_pos rfl, tiuCtx_modCtx_same, tiuCtx_result, hctx, hnew, hon]
    rfl
  case ignores =>
    intro x e hq hdue hopen hclose h
    refine judges hq hdue fun n hctx hnew hfld => ?_
    obtain ⟨hopens, hcloses, -⟩ := window_of_fld hfld x
    have hstays : tiuCloses n x e.inst = n := tiuCloses_stays (.inr (by rw [hctx, hcloses]; exact hclose))
    have hno : (tiuCtx n x).state ≠ .open_ ∨ e.inst < (tiuCtx n x).start + tiuOpen n x ∨ e.inst ≤ (tiuCtx n x).start ∨
        ofSource e (n.fld F.TIM_TIU_CFG.STOP_SRC x) (n.fld F.TIM_TIU_CFG.STOP_ARG x) = false := by
      rw [hctx, hopens, hfld, hfld]
      exact .inr ((h.elim (fun h => .inr (.inr h)) fun h => h.elim .inl fun h => .inr (.inl h)))
    rw [tiuMeet_of_no_stop hstays hno, tiuStarted_open (hctx ▸ hopen)]
    split
    · exact hctx
    · exact hctx
  case timeout =>
    intro x hq hopen hdue
    have hjudge : tiuJudge m = m := tiuJudge_not_due (by simp [hq])
    have hclosed : tiuTimeout m x = tiuAfter (tiuResult m x 2 0) x := by
      rw [tiuTimeout, hjudge, if_neg (by omega), tiuCloses_closes hopen (by omega)]
    refine after_at (f := fun m => tiuTimeout m x) hm rfl ?_
    rw [hclosed]
    obtain ⟨hn, htiu, hcfg⟩ := Kz.eq_of_sansTiu (n := tiuAfter (tiuResult m x 2 0) x) (m := m) rfl
    refine ⟨hn, hq ▸ htiu, hcfg, fun y _ hy => ?_, tiuCtx_result m x 2 0, ?_⟩
    · exact congrArg Prod.fst ((tiuView_tiuAfter_ne hy _).trans (tiuView_tiuResult_ne hy m 2 0))
    · exact seen_mark_same (f := F.TIM_TIU_STAT.NEW) rfl (by decide) m x
  case noTimeout =>
    intro x hq h
    have hjudge : tiuJudge m = m := tiuJudge_not_due (by simp [hq])
    refine after_at (f := fun m => tiuTimeout m x) hm rfl ?_
    rw [tiuTimeout, hjudge, ite_eq_left_iff]
    exact fun hdelay => tiuCloses_stays (h.imp_right fun h => by omega)
  case config =>
    intro p x v hacc
    refine after_at (f := fun m => pairWrite m p.val .TIM_TIU_CFG x.val v) hm rfl ?_
    have heffect : regEffect (storeReg m .TIM_TIU_CFG x v) .TIM_TIU_CFG x (m.cfgWord .TIM_TIU_CFG x) v =
        tiuCfgWritten (storeReg m .TIM_TIU_CFG x v) x v := rfl
    have hframe := Kz.eq_of_sansCtx (sansCtx_tiuCfgWritten (storeReg m .TIM_TIU_CFG x v) x v)
    have hctx (y : Nat) : tiuCtx (storeReg m .TIM_TIU_CFG x v) y = tiuCtx m y := by rw [storeReg_eq]; rfl
    have hports : (tiuCfgWritten (storeReg m .TIM_TIU_CFG x v) x v).ports = m.ports := by rw [hframe.1, storeReg_eq]
    rw [pairWrite_accepts hacc (place_TIM_TIU_CFG x) (by decide) (by decide) (heffect ▸ hports), heffect]
    refine ⟨congrArg (fun y : Kz => y.emit (okPair p .TIM_TIU_CFG x)) hframe.1, ?_, fun y hy hne => ?_, ?_⟩
    · refine hframe.2.trans ?_
      rw [storeReg_eq]
      rfl
    · exact (tiuCtx_tiuCfgWritten_ne hy hne _ v).trans (hctx y)
    · refine (tiuCtx_tiuCfgWritten_same x.isLt ?_).trans ?_
      · exact (congrArg _ (storeReg_cfgWord rfl (by decide) ..)).trans (Field.of_stored_bit rfl (by decide) (by decide) v)
      · rw [hctx]
  case window =>
    intro p x v hacc
    refine after_at (f := fun m => pairWrite m p.val .TIM_TIU_WIN x.val v) hm rfl ?_
    exact pairWrite_accepts hacc (place_TIM_TIU_WIN x) (by decide) (by decide) (by rw [storeReg_eq]; rfl)
  case arm =>
    intro p v hacc
    refine after_at (f := fun m => pairWrite m p.val .TIM_TIU_ARM 0 v) hm rfl ?_
    have heffect : regEffect (storeReg m .TIM_TIU_ARM 0 v) .TIM_TIU_ARM 0 (m.cfgWord .TIM_TIU_ARM 0) v =
        tiuArm m v.toNat := rfl
    have hframe := Kz.eq_of_sansCtx (sansCtx_tiuArm m v.toNat)
    have hports : (tiuArm m v.toNat).ports = m.ports := by rw [hframe.1]
    rw [pairWrite_accepts hacc place_TIM_TIU_ARM (by decide) (by decide) (heffect ▸ hports), heffect]
    exact ⟨congrArg (fun y : Kz => y.emit (okPair p .TIM_TIU_ARM 0)) hframe.1, hframe.2, fun y hy => tiuCtx_tiuArm m v.toNat hy⟩
  case read =>
    intro p x hreach
    refine after_at (f := fun m => wordRead m p.val .TIM_TIU_STAT x.val) hm rfl ?_
    rw [wordRead_reaches hreach (place_TIM_TIU_STAT x)]
    have hlatched : tiuCtx (readSide m .TIM_TIU_STAT x) x = { tiuCtx m x with latched := (tiuCtx m x).ticks } := tiuCtx_modCtx_same m x _
    refine ⟨rfl, rfl, fun y _ hy => tiuCtx_modCtx_ne hy m _, hlatched, ?_⟩
    exact congrArg TiuCtx.latched hlatched

/-- Settles O23: a gate's end is `freqEnd_of_gate`; which of the two nearest steps it takes is left open (log entry 42). -/
theorem frequencyCounter : Obligations.FrequencyCounter := by
  unfold Obligations.FrequencyCounter
  intro s t m hm
  refine ⟨?start, ?config, ?gateEnd, ?noSignal, ?signal, ?read⟩
  case start =>
    intro p v hacc
    exact after_at (f := fun m => pairWrite m p.val .TIM_FREQ_CFG 0 v) hm rfl (pairWrite_freqCfg hacc)
  case config =>
    intro p v hacc
    exact after_at (f := fun m => pairWrite m p.val .TIM_FREQ_CFG 0 v) hm rfl (pairWrite_freqCfg hacc)
  case gateEnd =>
    intro k span longest hgate hk hspan hlen
    refine after_at (f := fun m => freqEnd m k span longest) hm rfl ?_
    obtain ⟨up, hup, hend⟩ := freqEnd_of_gate hgate hk hspan hlen longest
    rw [hend]
    obtain ⟨hnear, hwhole⟩ := quotient_or_next (q := freqNum m k / (span * 10 ^ 12)) (r := freqNum m k % (span * 10 ^ 12)) hup (2 ^ 64)
    exact ⟨rfl, rfl, hnear, hwhole⟩
  case noSignal =>
    intro hgate hdue
    refine after_at (f := freqNone) hm rfl ?_
    have hnone : freqNone m = freqResult m 0 true false (m.fld F.TIM_FREQ_CFG.GATE_MS 0 * 1000000 + 1000000000) :=
      if_pos (by simp [hgate, hdue])
    rw [hnone]
    exact ⟨rfl, rfl, rfl⟩
  case signal =>
    intro h
    refine after_at (f := freqNone) hm rfl (if_neg ?_)
    rw [Bool.and_eq_true, decide_eq_true_eq]
    rintro ⟨hgate, hdue⟩
    rcases h with h | h
    · exact Bool.false_ne_true (h.symm.trans hgate)
    · exact Nat.not_lt.2 hdue h
  case read =>
    intro p hreach
    refine after_at (f := fun m => wordRead m p.val .TIM_FREQ_STAT 0) hm rfl ?_
    rw [wordRead_reaches hreach place_TIM_FREQ_STAT]
    exact ⟨rfl, rfl, rfl⟩

end Sys2Proof.Safety
end

section
/-! SUPPORT. The family 15_sensor_front_end.md: what an output-period boundary makes of a sensor channel (R459 to R463, R467, R469), how an
output is published and read (R460 to R466, R470, R481), and the values of the curves (R473, R474). -/
namespace Sys2Proof.Machine
open Safety

/-! ### A sensor channel set -/

/-- The block with sensor channel `n` set to `y`. -/
def snsSet (m : Kz) (n : Nat) (y : Sns) : Kz := modSns m n fun _ => y

section
variable {m : Kz} {n : Nat} {y : Sns}

theorem modSns_eq (m : Kz) (n : Nat) (f : Sns → Sns) : modSns m n f = snsSet m n (f (sns m n)) := by
  simp [modSns, snsSet, sns, Sparse.mod]

@[simp] theorem sns_snsSet (m : Kz) (n : Nat) (y : Sns) : sns (snsSet m n y) n = y := by
  simp [snsSet, modSns, sns]

@[simp] theorem modSns_snsSet (m : Kz) (n : Nat) (y : Sns) (f : Sns → Sns) : modSns (snsSet m n y) n f = snsSet m n (f y) := by
  simp [snsSet, modSns, Sparse.mod_mod]

@[simp] theorem cfgWord_snsSet (k : RegKind) (i : Nat) : (snsSet m n y).cfgWord k i = m.cfgWord k i := rfl

@[simp] theorem fld_snsSet (f : Field) (i : Nat) : (snsSet m n y).fld f i = m.fld f i := rfl

@[simp] theorem pwr_snsSet : (snsSet m n y).pwr = m.pwr := rfl

@[simp] theorem now_snsSet : (snsSet m n y).now = m.now := rfl
end

/-! ### The boundary -/

/-- The channel of a running period that ends at `b`: its output forms, and settling goes on (R460, R463). -/
def Sns.formed (x : Sns) (b : Nat) : Sns :=
  if F.SNS_CFG.EN.of x.cfg = 1 then
    { x with last := b, forming := some ⟨b + 2 * snsExc x.cfg + 1000000, x.open_ || x.spoiled, x.settle != 0⟩, spoiled := false,
             settle := x.settle - 1 }
  else { x with last := b }

/-- The channel once a changed configuration takes effect at a boundary with no check under way (R462, R463). -/
def Sns.applied (x : Sns) (w : Word) : Sns :=
  if F.SNS_CFG.EN.of w = 1 ∧ F.SNS_CFG.EN.of x.cfg = 0 then
    { x with cfg := w, settle := 4, valid := false, seq := 0, open_ := false, short := false, out := {},
             chkBase := x.last, chkDue := false, forming := none, spoiled := false, sums := [] }
  else if F.SNS_CFG.EN.of w ≠ 1 then { x with cfg := w, forming := none, spoiled := false, open_ := false, chkDue := false }
  else if F.SNS_CFG.FREQ.of x.cfg ≠ F.SNS_CFG.FREQ.of w ∨ F.SNS_CFG.AMPL.of x.cfg ≠ F.SNS_CFG.AMPL.of w ∨
      F.SNS_CFG.RATE.of x.cfg ≠ F.SNS_CFG.RATE.of w then { x with cfg := w, settle := 4 }
  else { x with cfg := w }

/-- The start of a due check, or its skip where the peak is too large (R467, R469). -/
def snsChecked (m : Kz) (n b peak : Nat) (clear : Bool) : Kz :=
  if snsRuns m n && snsDue m n && clear && snsClear (sns m n) && (sns m n).checking.isNone then
    if 1800 < peak then (modSns m n fun x => { x with chkDue := false, chkBase := b }).count .SNS_CHK_SKIP 0 1
    else modSns m n fun x => { x with chkDue := false, chkBase := b, checking := some (b + 64 * snsExc x.cfg) }
  else m

section
variable {m : Kz} {n : Nat} {y : Sns}

theorem snsApply_same (h : m.cfgWord .SNS_CFG n = y.cfg) : snsApply (snsSet m n y) n = snsSet m n y := by
  unfold snsApply
  rw [sns_snsSet, cfgWord_snsSet]
  exact if_pos h.symm

theorem snsApply_changed (h : m.cfgWord .SNS_CFG n ≠ y.cfg) (hcheck : y.checking = none) :
    snsApply (snsSet m n y) n = snsSet m n (y.applied (m.cfgWord .SNS_CFG n)) := by
  have habandon (b : Nat) : snsAbandon (snsSet m n y) n b = snsSet m n y := by
    unfold snsAbandon
    rw [sns_snsSet, hcheck]
    rfl
  unfold snsApply Sns.applied
  rw [sns_snsSet, cfgWord_snsSet, if_neg h.symm]
  simp only [habandon, modSns_snsSet, Bool.and_eq_true, decide_eq_true_eq, Bool.not_eq_true', decide_eq_false_iff_not, Bool.or_eq_true,
    or_assoc, apply_ite (snsSet m n), ne_eq]

theorem snsBoundary_early (h : powered m.pwr.state = false ∨ m.now.ns < (sns m n).last + snsPeriod (sns m n).cfg) (peak : Nat) :
    snsBoundary m n peak = m := by
  unfold snsBoundary
  exact if_pos (by simpa using h)

theorem snsBoundary_due (hpow : powered m.pwr.state = true) (hdue : (sns m n).last + snsPeriod (sns m n).cfg ≤ m.now.ns) (peak : Nat) :
    snsBoundary m n peak =
      snsChecked (snsApply (snsSet m n ((sns m n).formed ((sns m n).last + snsPeriod (sns m n).cfg))) n) n
        ((sns m n).last + snsPeriod (sns m n).cfg) peak
        (snsClear ((sns m n).formed ((sns m n).last + snsPeriod (sns m n).cfg)) && (sns m n).settle == 0) := by
  have hformed : (if F.SNS_CFG.EN.of (sns m n).cfg = 1 then
      modSns (modSns m n fun x => { x with last := (sns m n).last + snsPeriod (sns m n).cfg }) n fun x => { x with
        forming := some ⟨(sns m n).last + snsPeriod (sns m n).cfg + 2 * snsExc x.cfg + 1000000, x.open_ || x.spoiled, x.settle != 0⟩,
        spoiled := false, settle := x.settle - 1 }
      else modSns m n fun x => { x with last := (sns m n).last + snsPeriod (sns m n).cfg }) =
      snsSet m n ((sns m n).formed ((sns m n).last + snsPeriod (sns m n).cfg)) := by
    rw [modSns_eq m, modSns_snsSet, ← apply_ite (snsSet m n)]
    rfl
  unfold snsBoundary
  dsimp only
  rw [if_neg (by simp [hpow, hdue]), hformed, sns_snsSet]
  generalize snsApply (snsSet m n _) n = q
  unfold snsChecked
  rw [modSns_eq q n fun x => { x with chkDue := false, chkBase := _ }, modSns_snsSet, modSns_eq q]

theorem snsChecked_not (h : snsRuns m n = false ∨ snsDue m n = false ∨ snsClear (sns m n) = false) (b peak : Nat) (clear : Bool) :
    snsChecked m n b peak clear = m := by
  refine if_neg ?_
  simp only [Bool.and_eq_true]
  rintro ⟨⟨⟨⟨hruns, hdue⟩, -⟩, hclear⟩, -⟩
  rcases h with h | h | h
  · exact Bool.false_ne_true (h.symm.trans hruns)
  · exact Bool.false_ne_true (h.symm.trans hdue)
  · exact Bool.false_ne_true (h.symm.trans hclear)

theorem snsChecked_of_due (hruns : snsRuns m n = true) (hdue : snsDue m n = true) (hclear : snsClear (sns m n) = true)
    (hcheck : (sns m n).checking = none) (b peak : Nat) :
    snsChecked m n b peak true = if 1800 < peak then (modSns m n fun x => { x with chkDue := false, chkBase := b }).count .SNS_CHK_SKIP 0 1
      else modSns m n fun x => { x with chkDue := false, chkBase := b, checking := some (b + 64 * snsExc x.cfg) } :=
  if_pos (by simp [hruns, hdue, hclear, hcheck])

theorem snsRuns_snsSet : snsRuns (snsSet m n y) n = (powered m.pwr.state && F.SNS_CFG.EN.of y.cfg == 1) := by
  rw [snsRuns, sns_snsSet, pwr_snsSet]

theorem snsDue_snsSet : snsDue (snsSet m n y) n = (m.fld F.SNS_CHK.CHK_INT n != 0 &&
    (y.chkDue || decide (y.chkBase + m.fld F.SNS_CHK.CHK_INT n * 1000000000 ≤ y.last))) := by
  rw [snsDue, sns_snsSet, fld_snsSet]

theorem Sns.formed_cfg (x : Sns) (b : Nat) : (x.formed b).cfg = x.cfg := by
  unfold Sns.formed
  split <;> rfl

theorem Sns.formed_checking (x : Sns) (b : Nat) : (x.formed b).checking = x.checking := by
  unfold Sns.formed
  split <;> rfl

theorem Sns.formed_of_running {x : Sns} (h : F.SNS_CFG.EN.of x.cfg = 1) (b : Nat) : x.formed b =
    { x with last := b, forming := some ⟨b + 2 * snsExc x.cfg + 1000000, x.open_ || x.spoiled, x.settle != 0⟩, spoiled := false,
             settle := x.settle - 1 } :=
  if_pos h

theorem Sns.formed_of_idle {x : Sns} (h : F.SNS_CFG.EN.of x.cfg = 0) (b : Nat) : x.formed b = { x with last := b } :=
  if_neg (by omega)

/-- R467, R469: a due check of a channel that is clear starts, or is skipped where the peak is too large. -/
theorem snsBoundary_of_check (hpow : powered m.pwr.state = true) (hdue : (sns m n).last + snsPeriod (sns m n).cfg ≤ m.now.ns)
    (hen : F.SNS_CFG.EN.of (sns m n).cfg = 1) (hcfg : m.cfgWord .SNS_CFG n = (sns m n).cfg) (hint : m.fld F.SNS_CHK.CHK_INT n ≠ 0)
    (hfall : (sns m n).chkDue = true ∨
      (sns m n).chkBase + m.fld F.SNS_CHK.CHK_INT n * 1000000000 ≤ (sns m n).last + snsPeriod (sns m n).cfg)
    (hclear : (sns m n).open_ = false ∧ (sns m n).out.open_ = false ∧ (sns m n).short = false ∧ (sns m n).out.settling = false ∧
      (sns m n).settle = 0) (hcheck : (sns m n).checking = none) {peak b : Nat} {y : Sns} (hb : (sns m n).last + snsPeriod (sns m n).cfg = b)
    (hy : (sns m n).formed b = y) :
    snsBoundary m n peak = if 1800 < peak then (snsSet m n { y with chkDue := false, chkBase := b }).count .SNS_CHK_SKIP 0 1
      else snsSet m n { y with chkDue := false, chkBase := b, checking := some (b + 64 * snsExc y.cfg) } := by
  obtain ⟨hopen, hout, hshort, hsettling, hsettle⟩ := hclear
  have hcfg' : y.cfg = (sns m n).cfg := hy ▸ Sns.formed_cfg ..
  have hformed := hy ▸ Sns.formed_of_running hen b
  have hclear' : snsClear y = true := by simp [hformed, snsClear, hopen, hout, hshort, hsettling, hsettle]
  rw [snsBoundary_due hpow hdue, hb, hy, snsApply_same (hcfg.trans hcfg'.symm), hclear', hsettle]
  rw [show (true && (0 : Nat) == 0) = true from rfl, snsChecked_of_due, modSns_snsSet, modSns_snsSet]
  · rw [snsRuns_snsSet, hpow, hcfg', hen]
    rfl
  · rw [snsDue_snsSet]
    simpa [hint, hformed, ← hb] using hfall
  · rw [sns_snsSet, hclear']
  · rw [sns_snsSet, hformed]
    exact hcheck
end

end Sys2Proof.Machine
namespace Sys2Proof.Safety
open Machine

/-- Settles O24: the boundary is the end of the running period (`formed`), the change of the configuration (`applied`) and the due check. -/
theorem sensorBoundaries : Obligations.SensorBoundaries := by
  unfold Obligations.SensorBoundaries
  intro s t m k hm
  have boundary (peak : Nat) {P : Kz → Prop} (h : P (snsBoundary m k peak)) : After (.snsBoundary t k peak) s P :=
    after_at (f := fun m => snsBoundary m k peak) hm rfl h
  refine ⟨?config, ?early, ?forms, ?idle, ?starts, ?stops, ?changes, ?checks, ?skips⟩
  case config =>
    intro p v hacc
    refine after_at (f := fun m => pairWrite m p.val .SNS_CFG k.val v) hm rfl ?_
    exact pairWrite_accepts hacc (place_SNS_CFG k) (by decide) (by decide) (by rw [storeReg_eq]; rfl)
  case early =>
    intro peak h
    exact boundary peak (snsBoundary_early h peak)
  case forms =>
    intro peak hpow hdue hen hcfg hint
    refine boundary peak ?_
    rw [snsBoundary_due hpow hdue, snsApply_same (hcfg.trans (Sns.formed_cfg ..).symm), Sns.formed_of_running hen, snsChecked_not (.inr (.inl ?_)), modSns_eq m]
    rw [snsDue_snsSet]
    rcases hint with h | ⟨hnot, hlater⟩
    · simp [h]
    · simp [hnot, hlater]
  case idle =>
    intro peak hpow hdue hen hcfg
    refine boundary peak ?_
    rw [snsBoundary_due hpow hdue, snsApply_same (hcfg.trans (Sns.formed_cfg ..).symm), Sns.formed_of_idle hen, snsChecked_not (.inl ?_), modSns_eq m]
    rw [snsRuns_snsSet, hpow, hen]
    rfl
  case starts =>
    intro peak hpow hdue hoff hen hcheck
    refine boundary peak ?_
    have hne : m.cfgWord .SNS_CFG k ≠ (sns m k).cfg := fun h => by rw [h, hoff] at hen; exact Nat.zero_ne_one hen
    rw [snsBoundary_due hpow hdue, snsApply_changed (by rwa [Sns.formed_cfg]) ((Sns.formed_checking ..).trans hcheck), Sns.formed_of_idle hoff, Sns.applied, if_pos ⟨hen, hoff⟩,
      snsChecked_not (.inr (.inl ?_)), modSns_eq m]
    rw [snsDue_snsSet]
    simp
  case stops =>
    intro peak hpow hdue hen hoff hcheck
    refine boundary peak ?_
    have hne : m.cfgWord .SNS_CFG k ≠ (sns m k).cfg := fun h => by rw [h, hen] at hoff; exact Nat.one_ne_zero hoff
    rw [snsBoundary_due hpow hdue, snsApply_changed (by rwa [Sns.formed_cfg]) ((Sns.formed_checking ..).trans hcheck), Sns.formed_of_running hen, Sns.applied, if_neg (by simp [hoff]),
      if_pos (by simp [hoff]), snsChecked_not (.inl ?_), modSns_eq m]
    rw [snsRuns_snsSet, hpow, hoff]
    rfl
  case changes =>
    intro peak hpow hdue hen hen' hdiff hcheck
    refine boundary peak ?_
    have hne : m.cfgWord .SNS_CFG k ≠ (sns m k).cfg := fun h => by simp [h] at hdiff
    rw [snsBoundary_due hpow hdue, snsApply_changed (by rwa [Sns.formed_cfg]) ((Sns.formed_checking ..).trans hcheck), Sns.formed_of_running hen, Sns.applied, if_neg (by simp [hen]),
      if_neg (by simp [hen']), if_pos hdiff, snsChecked_not (.inr (.inr ?_)), modSns_eq m]
    rw [sns_snsSet]
    simp [snsClear]
  case checks =>
    intro peak hpow hdue hen hcfg hint hfall hclear hcheck hpeak
    refine boundary peak ?_
    rw [snsBoundary_of_check hpow hdue hen hcfg hint hfall hclear hcheck rfl (Sns.formed_of_running hen _), if_neg (Nat.not_lt.2 hpeak), modSns_eq m]
  case skips =>
    intro peak hpow hdue hen hcfg hint hfall hclear hcheck hpeak
    refine boundary peak ?_
    rw [snsBoundary_of_check hpow hdue hen hcfg hint hfall hclear hcheck rfl (Sns.formed_of_running hen _), if_pos hpeak, modSns_eq m]
    rfl

end Sys2Proof.Safety
end

section
namespace Sys2Proof.Machine
open Safety

/-! ### The values of an output -/

section
variable (m : Kz) (n : Nat) (y : Sns)

theorem snsWeigh_snsSet (l : List Int) : snsWeigh (snsSet m n y) l = ((snsWeigh m l).1, snsSet (snsWeigh m l).2 n y) := by
  unfold snsWeigh
  dsimp only
  split <;> rfl

theorem snsWeigh_frame (l : List Int) : (snsWeigh m l).2 = { m with fresh := (snsWeigh m l).2.fresh } := by
  unfold snsWeigh
  dsimp only
  split <;> rfl

theorem roundFree_snsSet (x : Int) (d : Nat) : roundFree (snsSet m n y) x d = ((roundFree m x d).1, snsSet (roundFree m x d).2 n y) := by
  unfold roundFree
  split <;> rfl

theorem roundFree_frame (x : Int) (d : Nat) : (roundFree m x d).2 = { m with fresh := (roundFree m x d).2.fresh } := by
  unfold roundFree
  split <;> rfl

theorem within_snsSet (v : Int × Bool) (lo hi : Int) : within (snsSet m n y) v lo hi = ((within m v lo hi).1, snsSet (within m v lo hi).2 n y) := by
  unfold within
  dsimp only
  split <;> rfl

theorem within_frame (v : Int × Bool) (lo hi : Int) : (within m v lo hi).2 = { m with fresh := (within m v lo hi).2.fresh } := by
  unfold within
  dsimp only
  split <;> rfl

theorem userTable_snsSet (s : Nat) (r : Int) : userTable (snsSet m n y) s r = ((userTable m s r).1, snsSet (userTable m s r).2 n y) := by
  have hround (x : Int) (d : Nat) := roundFree_snsSet m n y x d
  unfold userTable
  simp only [show ∀ j, tableX (snsSet m n y) s j = tableX m s j from fun _ => rfl, show ∀ j, tableY (snsSet m n y) s j = tableY m s j from fun _ => rfl]
  split
  · rfl
  · split
    · rw [hround]
      rfl
    · rfl

theorem userTable_frame (s : Nat) (r : Int) : (userTable m s r).2 = { m with fresh := (userTable m s r).2.fresh } := by
  have hround (x : Int) (d : Nat) := roundFree_frame m x d
  unfold userTable
  split
  · rfl
  · split
    · exact hround _ _
    · rfl

/-- The value of an output does not look at the sensor channels. -/
theorem linearise_snsSet (i : Nat) (w : Word) (re im : Int) :
    linearise (snsSet m n y) i w re im = ((linearise m i w re im).1, snsSet (linearise m i w re im).2 n y) := by
  unfold linearise
  simp only [fld_snsSet, within_snsSet, userTable_snsSet, show ∀ s r, steinhart (snsSet m n y) s r = steinhart m s r from fun _ _ => rfl]
  split
  case h_9 => split <;> rfl
  case h_11 => split <;> rfl
  all_goals rfl

theorem linearise_frame (i : Nat) (w : Word) (re im : Int) : (linearise m i w re im).2 = { m with fresh := (linearise m i w re im).2.fresh } := by
  unfold linearise
  dsimp only
  split
  case h_1 => rfl
  case h_9 =>
    split
    · rfl
    · exact within_frame ..
  case h_10 => exact userTable_frame ..
  case h_11 =>
    split
    · exact within_frame ..
    · rfl
  all_goals exact within_frame ..
end

/-- The channel once the output of a period that was neither spoiled nor settling is formed: the value `v` of the sums' means `re` and `im`
(R460, R464, R465, R466). -/
def Sns.published (x : Sns) (sums : List (Int × Int)) (v : Int × Bool) (re im : Int) (short held : Bool) : Sns :=
  { x with
    forming := none, seq := (x.seq + 1) % 65536, sums := sums, short := short, valid := x.valid || !held,
    out := if held then { x.out with open_ := false, settling := false, short := true }
      else { open_ := false, settling := false, short := short, range := v.2, value := toU 32 v.1, re := re, im := im } }

/-- The mean of a weighing and of the second part: what an output's value is made of. -/
theorem snsPublish_formed {m : Kz} {n : Nat} {re im : Int} {q : SnsForming} (hruns : snsRuns m n = true) (hform : (sns m n).forming = some q)
    (hdue : q.due ≤ m.now.ns) (hopen : q.open_ = false) (hsettling : q.settling = false) {a b : Int × Kz} {v : (Int × Bool) × Kz}
    {x y : Int} {short : Bool} (ha : snsWeigh m ((snsSums (sns m n) re im).map fun z => z.1) = a)
    (hb : snsWeigh a.2 ((snsSums (sns m n) re im).map fun z => z.2) = b) (hx : satS 32 a.1 = x) (hy : satS 32 b.1 = y)
    (hv : linearise b.2 n (sns m n).cfg x y = v) (hshort : decide (x.natAbs ^ 2 + y.natAbs ^ 2 < 1000000) = short)
    {w : Sns} (hw : (sns m n).published (snsSums (sns m n) re im) v.1 x y short (short && F.SNS_CFG.CURVE.of (sns m n).cfg != 0) = w) :
    snsPublish m n re im =
      if short && !(sns m n).short then snsAlert (({ snsSet m n w with fresh := v.2.fresh } : Kz).mark F.SNS_STAT.SHORT_SEEN n) n
      else { snsSet m n w with fresh := v.2.fresh } := by
  have hframe : v.2 = { m with fresh := v.2.fresh } := by
    rw [← hv, linearise_frame, ← hb, snsWeigh_frame, ← ha, snsWeigh_frame]
  unfold snsPublish
  dsimp only
  rw [hform]
  dsimp only
  rw [if_neg (by simp [hruns, hdue]), hopen, hsettling, if_neg (by simp), modSns_eq m]
  rw [snsWeigh_snsSet, ha, snsWeigh_snsSet, hb]
  dsimp only
  rw [hx, hy, linearise_snsSet, hv, hshort]
  dsimp only
  rw [modSns_snsSet, show snsSet v.2 n _ = { snsSet m n w with fresh := v.2.fresh } by rw [← hw, hframe]; rfl]

theorem snsPublish_not {m : Kz} {n : Nat} (h : snsRuns m n = false ∨ (sns m n).forming = none) (re im : Int) : snsPublish m n re im = m := by
  unfold snsPublish
  dsimp only
  split
  · rfl
  · next q hq =>
    refine if_pos ?_
    rcases h with h | h
    · simp [h]
    · exact absurd (hq.symm.trans h) nofun

theorem snsOpen_running {m : Kz} {n : Nat} (hruns : snsRuns m n = true) (hopen : (sns m n).open_ = false) {x : Sns}
    (hx : { sns m n with open_ := true, spoiled := (sns m n).forming.isNone,
                         forming := (sns m n).forming.map fun q => { q with open_ := true } } = x) :
    snsOpen m n = snsAlert (snsAbandon (((snsSet m n x).mark F.SNS_STAT.OPEN_SEEN n).count .SNS_OPEN_COUNT 0 1) n m.now.ns) n := by
  unfold snsOpen
  rw [if_pos (by simp [hruns, hopen]), modSns_eq m, hx]
  rfl

theorem snsCheckDone_due {m : Kz} {n b : Nat} (hcheck : (sns m n).checking = some b) (hdue : b ≤ m.now.ns) (tr ti er ei : Int) :
    ∃ x ∈ [satS 16 ((6 * ti - 4 * ei) / 5), satS 16 ((6 * ti - 4 * ei) / 5 + 1)], ∀ warn,
      (m.fld F.SNS_CHK.CONTACT_THR n != 0 && decide (m.fld F.SNS_CHK.CONTACT_THR n < (satS 16 (tr - er)).natAbs)) = warn →
      ∀ y, { sns m n with checking := none, chkSeq := ((sns m n).chkSeq + 1) % 16, contact := satS 16 (tr - er), leadX := x,
                          contactWarn := warn } = y →
      snsCheckDone m n tr ti er ei =
        if warn && !(sns m n).contactWarn then
          snsAlert (({ snsSet m n y with fresh := m.fresh + 1 } : Kz).mark F.SNS_STAT.CONTACT_SEEN n) n
        else { snsSet m n y with fresh := m.fresh + 1 } := by
  refine ⟨satS 16 ((6 * ti - 4 * ei) / 5 + (if (6 * ti - 4 * ei) % 5 = 0 then 0 else (m.free 1).1 : Nat)), ?_, ?_⟩
  · have hbit : (m.free 1).1 < 2 := Nat.mod_lt _ (by decide)
    rw [List.mem_cons, List.mem_singleton]
    split
    · exact .inl (by simp)
    · obtain h | h : (m.free 1).1 = 0 ∨ (m.free 1).1 = 1 := by omega
      · exact .inl (by simp [h])
      · exact .inr (by rw [h]; rfl)
  · intro warn hwarn y hy
    unfold snsCheckDone
    dsimp only
    rw [hcheck]
    dsimp only
    rw [if_neg (Nat.not_lt.2 hdue), modSns_eq]
    rw [show (m.free 1).2.fld F.SNS_CHK.CONTACT_THR n = m.fld F.SNS_CHK.CONTACT_THR n from rfl, hwarn,
      show sns (m.free 1).2 n = sns m n from rfl, hy]
    rfl

end Sys2Proof.Machine
namespace Sys2Proof.Safety
open Machine

/-- Settles O25: every clause is `snsPublish`, `snsOpen` or `snsCheckDone` under the clause's hypotheses. -/
theorem sensorOutputs : Obligations.SensorOutputs := by
  unfold Obligations.SensorOutputs
  intro s t m k hm
  have publish (re im : Int) {P : Kz → Prop} (h : P (snsPublish m k re im)) : After (.snsOutputPublish t k re im) s P :=
    after_at (f := fun m => snsPublish m k re im) hm rfl h
  have check (tr ti er ei : Int) {P : Kz → Prop} (h : P (snsCheckDone m k tr ti er ei)) : After (.snsCheckDone t k tr ti er ei) s P :=
    after_at (f := fun m => snsCheckDone m k tr ti er ei) hm rfl h
  refine ⟨?held, ?value, ?stillShort, ?newShort, ?none, ?opens, ?abandons, ?openNot, ?clears, ?due, ?dueNot, ?contact, ?badContact, ?read⟩
  case held =>
    intro re im q hruns hform hdue hkept
    refine publish re im ?_
    unfold snsPublish
    dsimp only
    rw [hform]
    dsimp only
    rw [if_neg (by simp [hruns, hdue]), if_pos (by simpa using hkept), modSns_eq m, modSns_snsSet, modSns_eq m]
  case value =>
    intro re im q hruns hform hdue hopen hsettling hshort
    refine publish re im ?_
    rw [snsPublish_formed hruns hform hdue hopen hsettling rfl rfl rfl rfl rfl hshort rfl, if_neg (by simp), modSns_eq]
    simp only [Sns.published, Bool.false_and, Bool.not_false, Bool.or_true, Bool.false_eq_true, if_false]
  case stillShort =>
    intro re im q hruns hform hdue hopen hsettling hshort hcurve hold
    refine publish re im ?_
    rw [snsPublish_formed hruns hform hdue hopen hsettling rfl rfl rfl rfl rfl hshort rfl, if_neg (by simp [hold]), modSns_eq]
    simp only [Sns.published, Bool.true_and, bne_iff_ne.2 hcurve, Bool.not_true, Bool.or_false, if_true, hold]
  case newShort =>
    intro re im q hruns hform hdue hopen hsettling hshort hcurve hold
    refine publish re im ?_
    rw [snsPublish_formed hruns hform hdue hopen hsettling rfl rfl rfl rfl rfl hshort rfl, if_pos (by simp [hold]), modSns_eq]
    simp only [Sns.published, Bool.true_and, hcurve, bne_self_eq_false, Bool.not_false, Bool.or_true, Bool.false_eq_true, if_false]
    rfl
  case none =>
    intro re im h
    exact publish re im (snsPublish_not h re im)
  case opens =>
    intro hruns hopen hcheck
    refine after_at (f := fun m => snsOpen m k) hm rfl ?_
    have hchecking (y : Sns) : sns (((snsSet m k y).mark F.SNS_STAT.OPEN_SEEN k).count .SNS_OPEN_COUNT 0 1) k = y := sns_snsSet ..
    rw [snsOpen_running hruns hopen rfl, modSns_eq, snsAbandon, if_neg]
    · rfl
    · rw [hchecking]
      cases h : (sns m k).checking <;> simp_all
  case abandons =>
    intro hruns hopen hcheck
    refine after_at (f := fun m => snsOpen m k) hm rfl ?_
    have hchecking (y : Sns) : sns (((snsSet m k y).mark F.SNS_STAT.OPEN_SEEN k).count .SNS_OPEN_COUNT 0 1) k = y := sns_snsSet ..
    have hset (y z : Sns) : snsSet (((snsSet m k y).mark F.SNS_STAT.OPEN_SEEN k).count .SNS_OPEN_COUNT 0 1) k z =
        ((snsSet m k z).mark F.SNS_STAT.OPEN_SEEN k).count .SNS_OPEN_COUNT 0 1 :=
      congrArg (fun l => ({ (m.mark F.SNS_STAT.OPEN_SEEN k).count .SNS_OPEN_COUNT 0 1 with sns := l } : Kz)) (Sparse.mod_mod {} m.sns k (fun _ => y) fun _ => z)
    rw [snsOpen_running hruns hopen rfl, snsAbandon, if_pos (by rw [hchecking]; exact hcheck), modSns_eq, modSns_eq, hchecking, hset]
    rfl
  case openNot =>
    intro h
    refine after_at (f := fun m => snsOpen m k) hm rfl (if_neg ?_)
    rcases h with h | h <;> simp [h]
  case clears =>
    intro h
    exact after_at (f := fun m => snsOpenClear m k) hm rfl (if_pos h)
  case due =>
    intro hruns hint hdue
    exact after_at (f := fun m => snsCheckDue m k) hm rfl (if_pos (by simp [hruns, hint, hdue]))
  case dueNot =>
    intro h
    refine after_at (f := fun m => snsCheckDue m k) hm rfl (if_neg ?_)
    rcases h with h | h | h <;> simp [h]
  case contact =>
    intro tr ti er ei b hcheck hdue hgood
    refine check tr ti er ei ?_
    obtain ⟨x, hx, hdone⟩ := snsCheckDone_due hcheck hdue tr ti er ei
    rw [hdone false (by simpa [Nat.not_lt, or_iff_not_imp_left] using hgood) _ rfl]
    have hlead (y : Sns) (f : Nat) : (sns ({ snsSet m k y with fresh := f } : Kz) k).leadX = y.leadX :=
      congrArg Sns.leadX (sns_snsSet ..)
    rw [Bool.false_and, if_neg Bool.false_ne_true, hlead, modSns_eq]
    exact ⟨rfl, hx⟩
  case badContact =>
    intro tr ti er ei b hcheck hdue hthr hbad hwarn
    refine check tr ti er ei ?_
    obtain ⟨x, hx, hdone⟩ := snsCheckDone_due hcheck hdue tr ti er ei
    rw [hdone true (by simp [hthr, hbad]) _ rfl, if_pos (by simp [hwarn])]
    have hlead (q : Kz) : sns (snsAlert q k) k = sns q k := by simp [snsAlert, sns]
    have hmark (y : Sns) (f : Nat) : sns (({ snsSet m k y with fresh := f } : Kz).mark F.SNS_STAT.CONTACT_SEEN k) k = y := sns_snsSet ..
    rw [hlead, hmark, modSns_eq]
    rfl
  case read =>
    intro p hreach
    refine after_at (f := fun m => wordRead m p.val .SNS_STAT k.val) hm rfl ?_
    rw [wordRead_reaches hreach (place_SNS_STAT k)]
    rfl

end Sys2Proof.Safety
end

section
/-! SUPPORT. The family 15_sensor_front_end.md: the values of the curves (R473, R474) and a conversion's code (R487). -/
namespace Sys2Proof.Machine
open Safety

/-- R473: half the root of four times a square sum, rounded, is the whole number nearest to its root. -/
theorem sqrt_four_mul_nearest (q : Nat) : 4 * q < (2 * ((Nat.sqrt (4 * q) + 1) / 2) + 1) ^ 2 ∧
    ((Nat.sqrt (4 * q) + 1) / 2 ≠ 0 → (2 * ((Nat.sqrt (4 * q) + 1) / 2) - 1) ^ 2 ≤ 4 * q) := by
  constructor
  · calc 4 * q < (Nat.sqrt (4 * q) + 1) ^ 2 := Nat.lt_succ_sqrt' _
      _ ≤ _ := Nat.pow_le_pow_left (by omega) 2
  · intro hpos
    calc _ ≤ Nat.sqrt (4 * q) ^ 2 := Nat.pow_le_pow_left (by omega) 2
      _ ≤ 4 * q := Nat.sqrt_le' _

theorem natAbs_sq_add (re im : Int) : ((re.natAbs ^ 2 + im.natAbs ^ 2 : Nat) : Int) = re ^ 2 + im ^ 2 := by
  push_cast
  rw [sq_abs, sq_abs]

theorem linearise_magnitude {m : Kz} {n : Nat} {w : Word} (h : F.SNS_CFG.CURVE.of w = 0) (re im : Int) : linearise m n w re im =
    (clampTo (((Nat.sqrt (4 * (re.natAbs ^ 2 + im.natAbs ^ 2)) + 1) / 2 : Nat) : Int) 0 240000000, m) := by
  unfold linearise
  rw [h]
  rfl

theorem linearise_platinum {m : Kz} {n : Nat} {w : Word} (h : F.SNS_CFG.CURVE.of w = 1) (re im : Int) : linearise m n w re im =
    within m (byCurve (ptR 100000) (re - m.fld F.SNS_LEAD.LEAD_R n) (1000000000000000 * 2000 ^ 4) (-200000) 850000) (-200000) 850000 := by
  unfold linearise
  rw [h]
  rfl

theorem linearise_user {m : Kz} {n : Nat} {w : Word} (h : F.SNS_CFG.CURVE.of w = 9) (re im : Int) : linearise m n w re im =
    userTable m (F.SNS_CFG.USET.of w) (re - m.fld F.SNS_LEAD.LEAD_R n) := by
  unfold linearise
  rw [h]
  rfl

theorem platinum_nominal : byCurve (ptR 100000) 100000 (1000000000000000 * 2000 ^ 4) (-200000) 850000 = (0, false) := by decide

theorem platinum_zero : byCurve (ptR 100000) 0 (1000000000000000 * 2000 ^ 4) (-200000) 850000 = (-200000, true) := by decide

/-- A value of 0 within a range about it is known to one unit (R473). -/
theorem within_zero_mem (m : Kz) {lo hi : Int} (hlo : lo ≤ -1) (hhi : 1 ≤ hi) : (within m (0, false) lo hi).1.1 ∈ [-1, 0, 1] := by
  have hunit : (m.free 2).1 % 3 < 3 := Nat.mod_lt _ (by decide)
  have hvalue : (within m (0, false) lo hi).1.1 = max lo (min hi (0 + ((m.free 2).1 % 3 : Nat) - 1)) := rfl
  rw [hvalue]
  simp only [List.mem_cons, List.not_mem_nil, or_false]
  omega

theorem roundUp_mul (k : Int) {d : Nat} (h : 0 < d) : roundUp (k * d) d = k := by
  unfold roundUp
  have hd : (0 : Int) < ((2 * d : Nat) : Int) := by exact_mod_cast Nat.mul_pos Nat.two_pos h
  rw [show 2 * (k * (d : Int)) + d = d + k * ((2 * d : Nat) : Int) by push_cast; ring, Int.add_mul_ediv_right _ _ hd.ne',
    Int.ediv_eq_zero_of_lt (Int.natCast_nonneg d) (by push_cast; omega), Int.zero_add]

theorem roundFree_mul (m : Kz) (k : Int) {d : Nat} (h : 0 < d) : roundFree m (k * d) d = (k, m) := by
  unfold roundFree
  rw [Int.mul_emod_left, if_neg (by omega), roundUp_mul k h]

/-- R484: the table's stretch that ends at a point gives the point's value there. -/
theorem userTable_point {m : Kz} {u j : Nat} (hj : j < 31) (hrise : ∀ i, i < 31 → tableX m u i < tableX m u (i + 1)) :
    userTable m u (tableX m u (j + 1)) = ((tableY m u (j + 1), false), m) := by
  have hmono (a b : Nat) (hab : a ≤ b) (hb : b ≤ 31) : tableX m u a ≤ tableX m u b := by
    induction b, hab using Nat.le_induction with
    | base => exact Nat.le_refl _
    | succ b hab ih => exact (ih (by omega)).trans (hrise b (by omega)).le
  have hfind : (upTo 31).find? (fun i => decide ((tableX m u (j + 1) : Int) ≤ tableX m u (i + 1))) = some j := by
    rw [upTo, List.find?_range_eq_some]
    refine ⟨by simp, by simpa using hj, fun i hi => ?_⟩
    have hbelow : tableX m u (i + 1) < tableX m u (j + 1) := (hmono (i + 1) j hi (by omega)).trans_lt (hrise j hj)
    simpa using hbelow
  have hstep := hrise j hj
  have hfirst := hmono 0 j (by omega) (by omega)
  unfold userTable
  rw [if_neg (by simp; omega), hfind]
  dsimp only
  rw [Nat.max_eq_right (by omega), show ((tableX m u (j + 1) : Int) - tableX m u j) = ((tableX m u (j + 1) - tableX m u j : Nat) : Int) by omega,
    roundFree_mul m _ (by omega)]
  simp

end Sys2Proof.Machine
namespace Sys2Proof.Safety
open Machine

/-- Settles O26: the root is the nearest whole number, the platinum curve's search ends at 0 °C and a table's stretch ends at its point. -/
theorem sensorValuesAndConversionCodes : Obligations.SensorValuesAndConversionCodes := by
  unfold Obligations.SensorValuesAndConversionCodes
  refine ⟨fun m n w re im => ⟨?nearest, ?held, ?nominal, ?below, ?points⟩, ?code⟩
  case nearest =>
    intro hcurve hsmall
    obtain ⟨habove, hbelow⟩ := sqrt_four_mul_nearest (re.natAbs ^ 2 + im.natAbs ^ 2)
    have hsq := natAbs_sq_add re im
    rw [linearise_magnitude hcurve]
    generalize re.natAbs ^ 2 + im.natAbs ^ 2 = q at *
    have hroot : Nat.sqrt (4 * q) ≤ 480000000 := by
      rw [← Nat.lt_succ_iff, Nat.sqrt_lt']
      show 4 * q < 480000001 ^ 2
      omega
    refine ⟨(Nat.sqrt (4 * q) + 1) / 2, ?_, ?_, ?_⟩
    · rw [clampTo, if_neg (by omega), if_neg (by omega)]
    · rw [← hsq]
      exact_mod_cast habove
    · intro hpos
      rw [← hsq]
      have := hbelow hpos
      zify [show 1 ≤ 2 * ((Nat.sqrt (4 * q) + 1) / 2) by omega] at this
      exact_mod_cast this
  case held =>
    intro hcurve hlarge
    have hsq := natAbs_sq_add re im
    rw [linearise_magnitude hcurve]
    generalize re.natAbs ^ 2 + im.natAbs ^ 2 = q at *
    have hroot : 480000001 ≤ Nat.sqrt (4 * q) := by
      rw [Nat.le_sqrt']
      omega
    rw [clampTo, if_neg (by omega), if_pos (by omega)]
  case nominal =>
    intro hcurve hre
    rw [linearise_platinum hcurve, hre, add_sub_cancel_left, platinum_nominal]
    exact ⟨within_zero_mem m (by decide) (by decide), rfl⟩
  case below =>
    intro hcurve hre
    rw [linearise_platinum hcurve, hre, Int.sub_self, platinum_zero]
    rfl
  case points =>
    intro hcurve j hj hrise hre
    rw [linearise_user hcurve, hre, Nat.cast_add, add_sub_cancel_left, userTable_point hj hrise]
  case code =>
    intro m gain vin vref href
    unfold hkCode
    rw [if_neg href.ne']
    have hlow : vin * 2 ^ gain * 16384 / vref = 0 ↔ vin * 2 ^ gain * 16384 < vref := Nat.div_eq_zero_iff_lt href
    have hhigh : 16383 ≤ vin * 2 ^ gain * 16384 / vref ↔ 16383 * vref ≤ vin * 2 ^ gain * 16384 := Nat.le_div_iff_mul_le href
    generalize vin * 2 ^ gain * 16384 / vref = q at *
    simp only [← hlow, ← hhigh, show min 16383 q = 0 ↔ q = 0 by omega, show min 16383 q = 16383 ↔ 16383 ≤ q by omega]

end Sys2Proof.Safety
end

section
/-! SUPPORT. The family 16_housekeeping.md: what a notification leaves unchanged, the end of a cross-check slot (R500 to R502, R514) and
urgent conversions (R504, R515). -/
namespace Sys2Proof.Machine
open Safety

/-! ### What a notification touches (R541) -/

theorem Kz.notifyPort_eq (m : Kz) (d p code kind idx : Nat) (data : List Byte) : m.notifyPort d p code kind idx data =
    { m with stats := (m.notifyPort d p code kind idx data).stats, ports := (m.notifyPort d p code kind idx data).ports,
             wire := (m.notifyPort d p code kind idx data).wire } := by
  unfold Kz.notifyPort
  dsimp only
  split
  · split <;> rfl
  · rfl

/-- A notification touches its counter of drops, the ports and the wire. -/
theorem Kz.notify_eq (m : Kz) (code kind idx : Nat) (data : List Byte) : m.notify code kind idx data =
    { m with stats := (m.notify code kind idx data).stats, ports := (m.notify code kind idx data).ports,
             wire := (m.notify code kind idx data).wire } := by
  have h : ({ m.notify code kind idx data with stats := {}, ports := [], wire := [] } : Kz) = { m with stats := {}, ports := [], wire := [] } :=
    foldl_same (fun x : Kz => { x with stats := {}, ports := [], wire := [] })
      (fun x p => congrArg (fun y : Kz => { y with stats := {}, ports := [], wire := [] }) (Kz.notifyPort_eq ..)) ..
  exact congrArg (fun x : Kz => { x with stats := (m.notify code kind idx data).stats, ports := (m.notify code kind idx data).ports,
                                         wire := (m.notify code kind idx data).wire }) h

/-- A notification counts nothing but drops of notifications. -/
theorem Kz.counter_notify_of_ne (m : Kz) (code kind idx : Nat) (data : List Byte) {k : RegKind} {i : Nat}
    (h : ∀ p, p < 4 → k.addr i ≠ RegKind.addr .HOST_NOTIF_DROP p) : (m.notify code kind idx data).counter k i = m.counter k i := by
  refine foldl_same_on (k := fun x : Kz => x.counter k i) (fun x p hp => ?_) m
  have hdrop : (x.count .HOST_NOTIF_DROP p 1).counter k i = x.counter k i := by
    simp only [Kz.counter, Kz.count, Sparse.get_mod_ne _ _ _ _ _ (h p (mem_upTo.1 hp))]
  unfold Kz.notifyPort
  dsimp only
  split
  · split
    · exact hdrop
    · rfl
  · rfl

/-! ### The cross-check slot -/

section
variable {m : Kz} {c : Nat}

theorem hkTraverse_eq (m : Kz) (c : Nat) (cold : Bool) (b : Nat) : hkTraverse m c cold b = { m with hk := traversed m c cold b m.hk } := by
  unfold hkTraverse traversed Safety.traverse hkBegin modConvHk modHk hkConv
  by_cases hc : c = 0 <;> by_cases hx : (if c = 0 then m.hk.a else m.hk.b).xchk = m.cfgWord .HK_XCHK_CFG 0 <;> simp_all

theorem traversed_congr {n : Kz} (h : n.regs.cfg = m.regs.cfg) (c : Nat) (cold : Bool) (b : Nat) (x : Housekeeping) :
    traversed n c cold b x = traversed m c cold b x := by
  unfold traversed Safety.traverse Kz.fld Kz.cfgWord
  rw [h]

/-- The end of a slot of a converter that neither stops, restarts nor changes its reference starts its next traverse. -/
theorem hkEnd_slot {n : Kz} {v : Nat} {new : Bool} (hconv : hkConv n c = { hkConv m c with slot := v, slotNew := new })
    (hcfg : n.regs.cfg = m.regs.cfg) (hentry : (hkConv m c).entry = 16)
    (href : (hkConv m c).ref = m.fld (hkOf c F.HK_CTRL.REF_A F.HK_CTRL.REF_B) 0) (hstop : (hkConv m c).stopDue = false)
    (hrestart : (hkConv m c).restartDue = false) (b : Nat) : hkEnd n c b = { n with hk := traversed m c false b n.hk } := by
  have hfld : n.fld (hkOf c F.HK_CTRL.REF_A F.HK_CTRL.REF_B) 0 = m.fld (hkOf c F.HK_CTRL.REF_A F.HK_CTRL.REF_B) 0 := by
    rw [Kz.fld, Kz.fld, Kz.cfgWord, Kz.cfgWord, hcfg]
  have hsame : (hkConv n c).ref = n.fld (hkOf c F.HK_CTRL.REF_A F.HK_CTRL.REF_B) 0 := by rw [hconv, hfld, href]
  unfold hkEnd
  dsimp only
  rw [if_pos hsame, if_neg (by simp [hconv, hstop]), if_neg (by simp [hconv, hrestart]), if_pos (by rw [hconv, hentry]),
    hkTraverse_eq, traversed_congr hcfg]

theorem hkCode_frame (m : Kz) (gain vin vref : Nat) : (hkCode m gain vin vref).2 = { m with fresh := (hkCode m gain vin vref).2.fresh } := by
  unfold hkCode
  split <;> rfl

/-- The housekeeping part once converter `c` has stored `v` as its slot result (R501). -/
def hkSlotted (h : Housekeeping) (c v : Nat) : Housekeeping :=
  if c = 0 then { h with a := { h.a with slot := v, slotNew := true } } else { h with b := { h.b with slot := v, slotNew := true } }

/-- What the end of a slot stores of a code, and whether it compares (R501, R502). -/
def hkStored (m : Kz) (x : HkConv) (c code : Nat) : Kz :=
  if x.unsettled then m.mark F.HK_STAT.UNSETTLED_SEEN 0
  else
    let m := modConvHk m c (fun x => { x with slot := code * hkNominal x, slotNew := true })
    if m.hk.a.running && m.hk.b.running && m.hk.a.slotNew && m.hk.b.slotNew then hkCompare m x.xchk else m

theorem hkSlot_due (hrun : (hkConv m c).running = true) (hentry : (hkConv m c).entry = 16)
    (hdue : (hkConv m c).start + hkTime (F.HK_XCHK_CFG.TS.of (hkConv m c).xchk) ≤ m.now.ns) (vin vref : Nat) :
    hkSlot m c vin vref = hkEnd (hkStored (hkCode m 0 vin vref).2 (hkConv m c) c (hkCode m 0 vin vref).1.1) c
      ((hkConv m c).start + hkTime (F.HK_XCHK_CFG.TS.of (hkConv m c).xchk)) := by
  unfold hkSlot
  exact if_neg (by simp [hrun, hentry, hdue])

theorem modConvHk_slotted (m : Kz) (c code : Nat) :
    modConvHk m c (fun x => { x with slot := code * hkNominal x, slotNew := true }) =
      { m with hk := hkSlotted m.hk c (code * hkNominal (hkConv m c)) } := by
  unfold modConvHk modHk hkSlotted hkConv
  split <;> rfl

theorem modConvHk_slot (m : Kz) (c v : Nat) :
    modConvHk m c (fun x => { x with slot := v, slotNew := true }) = { m with hk := hkSlotted m.hk c v } := by
  unfold modConvHk modHk hkSlotted
  split <;> rfl

theorem hkStored_alone {x : HkConv} (hx : hkConv m c = x) (hc : c < 2) (h : x.unsettled = false)
    (hother : (hkConv m (1 - c)).running = false ∨ (hkConv m (1 - c)).slotNew = false) (code : Nat) :
    hkStored m x c code = { m with hk := hkSlotted m.hk c (code * hkNominal x) } := by
  unfold hkStored
  dsimp only
  rw [if_neg (by simp [h]), modConvHk_slotted, hx, if_neg]
  obtain rfl | rfl : c = 0 ∨ c = 1 := by omega
  · rcases hother with h | h <;> simp_all [hkConv, hkSlotted]
  · rcases hother with h | h <;> simp_all [hkConv, hkSlotted]

theorem hkStored_compares {x : HkConv} (hx : hkConv m c = x) (hc : c < 2) (h : x.unsettled = false) (hrun : x.running = true)
    (hother : (hkConv m (1 - c)).running = true) (hnew : (hkConv m (1 - c)).slotNew = true) (code : Nat) :
    hkStored m x c code = hkCompare { m with hk := hkSlotted m.hk c (code * hkNominal x) } x.xchk := by
  unfold hkStored
  dsimp only
  rw [if_neg (by simp [h]), modConvHk_slotted, hx, if_pos]
  subst hx
  obtain rfl | rfl : c = 0 ∨ c = 1 := by omega
  · simp_all [hkConv, hkSlotted]
  · simp_all [hkConv, hkSlotted]

/-- The difference of the two slot results once converter `c` has stored `v` (R502). -/
def hkGap (h : Housekeeping) (c v : Nat) : Int := ((hkSlotted h c v).a.slot : Int) - (hkSlotted h c v).b.slot

theorem hkGap_eq (h : Housekeeping) (c x y : Nat) : hkGap h c (x * y) =
    (if c = 0 then (x : Int) * y else h.a.slot) - ((if c = 0 then h.b.slot else x * y : Nat) : Int) := by
  unfold hkGap hkSlotted
  split
  · exact congrArg (· - _) (Nat.cast_mul x y)
  · rfl

/-- The housekeeping part after a comparison (R502, R514). -/
def hkCompared (h : Housekeeping) (c v : Nat) (diff : Int) (run : Nat) (plaus : Bool) : Housekeeping :=
  { h with diff := diff, cmpSeq := (h.cmpSeq + 1) % 256, run := run, plaus := plaus,
           a := { h.a with slot := if c = 0 then v else h.a.slot, slotNew := false },
           b := { h.b with slot := if c = 0 then h.b.slot else v, slotNew := false } }

/-- The raise of PLAUS (R502). -/
def hkAlarm (m : Kz) : Kz :=
  let m := (m.mark F.HK_STAT.PLAUS_SEEN 0).count .HK_XCHK_FAILS 0 1
  (m.logE 0x0801 0 0 0 0 (xchkRes m)).notify 6 0 0 (be 4 (xchkRes m))

theorem hkCompare_eq {cfg : Word} {v : Nat} {q : Int × Kz} (hq : roundFree { m with hk := hkSlotted m.hk c v } (hkGap m.hk c v) 163840 = q)
    {bad trip : Bool} {run : Nat} (hbad : decide (F.HK_XCHK_CFG.THR.of cfg * 10 * 16384 < (hkGap m.hk c v).natAbs) = bad)
    (hrun : (if bad = true then min 15 (m.hk.run + 1) else 0) = run)
    (htrip : (bad && decide (max 1 (F.HK_XCHK_CFG.CONSEC.of cfg) ≤ run) && !m.hk.plaus) = trip) :
    hkCompare { m with hk := hkSlotted m.hk c v } cfg =
      if trip then hkAlarm { m with fresh := q.2.fresh, hk := hkCompared m.hk c v (satS 16 q.1) run (bad && (m.hk.plaus || trip)) }
      else { m with fresh := q.2.fresh, hk := hkCompared m.hk c v (satS 16 q.1) run (bad && (m.hk.plaus || trip)) } := by
  obtain ⟨q, n⟩ := q
  have hn : n = { m with fresh := n.fresh, hk := hkSlotted m.hk c v } := by
    have hframe := roundFree_frame { m with hk := hkSlotted m.hk c v } (hkGap m.hk c v) 163840
    rwa [hq] at hframe
  have hkept : (hkSlotted m.hk c v).run = m.hk.run ∧ (hkSlotted m.hk c v).plaus = m.hk.plaus := by
    unfold hkSlotted
    split <;> exact ⟨rfl, rfl⟩
  have hcompared (diff : Int) (run : Nat) (plaus : Bool) : { hkSlotted m.hk c v with
      diff := diff, cmpSeq := ((hkSlotted m.hk c v).cmpSeq + 1) % 256, run := run, plaus := plaus,
      a := { (hkSlotted m.hk c v).a with slotNew := false }, b := { (hkSlotted m.hk c v).b with slotNew := false } } =
      hkCompared m.hk c v diff run plaus := by
    unfold hkSlotted hkCompared
    split <;> rfl
  unfold hkCompare
  dsimp only
  rw [show ((hkSlotted m.hk c v).a.slot : Int) - (hkSlotted m.hk c v).b.slot = hkGap m.hk c v from rfl, hq]
  dsimp only
  rw [hn]
  dsimp only [modHk]
  rw [hkept.1, hkept.2, hbad, hrun, htrip, hcompared]
  rfl

/-- Rounding gives the quotient or the next whole number. -/
theorem roundFree_near (m : Kz) (x : Int) {d : Nat} (hd : 0 < d) : (roundFree m x d).1 = x / d ∨ (roundFree m x d).1 = x / d + 1 := by
  unfold roundFree
  split
  · have hbit : (m.free 1).1 < 2 := Nat.mod_lt _ (by decide)
    dsimp only
    omega
  · have hd' : (0 : Int) < ((2 * d : Nat) : Int) := by exact_mod_cast Nat.mul_pos Nat.two_pos hd
    have hsplit : 2 * x + d = 2 * (x % d) + d + x / d * ((2 * d : Nat) : Int) := by
      have := Int.emod_add_mul_ediv x d
      push_cast
      linarith
    have hrest := Int.emod_nonneg x (b := d) (by omega)
    have hless := Int.emod_lt_of_pos x (b := d) (by omega)
    have hlow : 0 ≤ (2 * (x % d) + d) / ((2 * d : Nat) : Int) := Int.ediv_nonneg (by omega) hd'.le
    have hhigh : (2 * (x % d) + d) / ((2 * d : Nat) : Int) < 2 := Int.ediv_lt_of_lt_mul hd' (by push_cast; omega)
    rw [roundUp, hsplit, Int.add_mul_ediv_right _ _ hd'.ne']
    omega

theorem hkAlarm_eq (m : Kz) : hkAlarm m = { m with regs := (m.mark F.HK_STAT.PLAUS_SEEN 0).regs, stats := (hkAlarm m).stats, log := (hkAlarm m).log, ports := (hkAlarm m).ports, wire := (hkAlarm m).wire } := by
  unfold hkAlarm
  dsimp only
  rw [Kz.notify_eq, Kz.logE_eq]
  rfl

theorem log_hkAlarm (m : Kz) : (hkAlarm m).log.next = (m.log.next + 1) % 2 ^ 32 ∧
    (hkAlarm m).log.entries.head?.map (fun x => x.code) = some 0x0801 := by
  have h : (hkAlarm m).log = (((m.mark F.HK_STAT.PLAUS_SEEN 0).count .HK_XCHK_FAILS 0 1).logE 0x0801 0 0 0 0
      (xchkRes ((m.mark F.HK_STAT.PLAUS_SEEN 0).count .HK_XCHK_FAILS 0 1))).log := Kz.notify_log ..
  rw [h]
  exact ⟨rfl, rfl⟩

theorem counter_hkAlarm (m : Kz) : (hkAlarm m).counter .HK_XCHK_FAILS 0 = (m.count .HK_XCHK_FAILS 0 1).counter .HK_XCHK_FAILS 0 := by
  refine (Kz.counter_notify_of_ne _ _ _ _ _ (by decide)).trans ?_
  rw [Kz.counter, Kz.logE_stats]
  rfl

/-- A comparison that trips: what it marks, logs and counts (R502). -/
theorem hkAlarm_told {n : Kz} {f : Nat} {h T : Housekeeping} (hn : n = { hkAlarm { m with fresh := f, hk := h } with hk := T }) :
    n.hk = T ∧ n = { m with hk := n.hk, fresh := n.fresh, regs := (m.mark F.HK_STAT.PLAUS_SEEN 0).regs, stats := n.stats, log := n.log, ports := n.ports, wire := n.wire } ∧
      n.log.next = (m.log.next + 1) % 2 ^ 32 ∧ n.log.entries.head?.map (fun x => x.code) = some 0x0801 ∧
      n.counter .HK_XCHK_FAILS 0 = (m.count .HK_XCHK_FAILS 0 1).counter .HK_XCHK_FAILS 0 := by
  have halarm := hkAlarm_eq { m with fresh := f, hk := h }
  obtain ⟨hlog, hcode⟩ := log_hkAlarm { m with fresh := f, hk := h }
  have hcount := counter_hkAlarm { m with fresh := f, hk := h }
  generalize hkAlarm { m with fresh := f, hk := h } = a at *
  have hfresh : a.fresh = f := by rw [halarm]
  have hframe := congrArg (fun x : Kz => { x with hk := T }) halarm
  subst hn hfresh
  exact ⟨rfl, hframe, hlog, hcode, hcount⟩

theorem hkConv_slotted (hc : c < 2) (m : Kz) (v : Nat) : hkConv { m with hk := hkSlotted m.hk c v } c =
    { hkConv m c with slot := v, slotNew := true } := by
  obtain rfl | rfl : c = 0 ∨ c = 1 := by omega
  · rfl
  · rfl

theorem hkConv_compared (hc : c < 2) {n : Kz} {v run : Nat} {diff : Int} {plaus : Bool} (hn : n.hk = hkCompared m.hk c v diff run plaus) :
    hkConv n c = { hkConv m c with slot := v, slotNew := false } := by
  obtain rfl | rfl : c = 0 ∨ c = 1 := by omega
  · simp [hkConv, hn, hkCompared]
  · simp [hkConv, hn, hkCompared]

theorem traversed_diff (m : Kz) (c : Nat) (cold : Bool) (b : Nat) (h : Housekeeping) : (traversed m c cold b h).diff = h.diff := by
  unfold traversed
  dsimp only
  split <;> rfl

/-- R502: the end of a slot that compares, with the difference rounded to one of its two neighbours; a trip raises PLAUS. -/
theorem hkSlot_compared {vin vref v b : Nat} (hc : c < 2)
    (hrun : (hkConv m c).running = true) (hentry : (hkConv m c).entry = 16)
    (hdue : (hkConv m c).start + hkTime (F.HK_XCHK_CFG.TS.of (hkConv m c).xchk) ≤ m.now.ns)
    (href : (hkConv m c).ref = m.fld (hkOf c F.HK_CTRL.REF_A F.HK_CTRL.REF_B) 0) (hstop : (hkConv m c).stopDue = false)
    (hrestart : (hkConv m c).restartDue = false) (hunsettled : (hkConv m c).unsettled = false)
    (hother : (hkConv m (1 - c)).running = true) (hnew : (hkConv m (1 - c)).slotNew = true)
    (hv : (hkCode m 0 vin vref).1.1 * hkNominal (hkConv m c) = v)
    (hb : (hkConv m c).start + hkTime (F.HK_XCHK_CFG.TS.of (hkConv m c).xchk) = b) {bad trip : Bool} {run : Nat}
    (hbad : decide (F.HK_XCHK_CFG.THR.of (hkConv m c).xchk * 10 * 16384 < (hkGap m.hk c v).natAbs) = bad)
    (hcount : (if bad = true then min 15 (m.hk.run + 1) else 0) = run)
    (htrip : (bad && decide (max 1 (F.HK_XCHK_CFG.CONSEC.of (hkConv m c).xchk) ≤ run) && !m.hk.plaus) = trip) :
    ∃ diff ∈ [satS 16 (hkGap m.hk c v / 163840), satS 16 (hkGap m.hk c v / 163840 + 1)], ∃ f, ∀ h,
      hkCompared m.hk c v diff run (bad && (m.hk.plaus || trip)) = h →
      hkSlot m c vin vref = if trip then { hkAlarm { m with fresh := f, hk := h } with hk := traversed m c false b h }
        else { m with fresh := f, hk := traversed m c false b h } := by
  have hend (n : Kz) {diff : Int} {run : Nat} {plaus : Bool} (hn : n.hk = hkCompared m.hk c v diff run plaus) (hcfg : n.regs.cfg = m.regs.cfg) :
      hkEnd n c b = { n with hk := traversed m c false b n.hk } :=
    hkEnd_slot (hkConv_compared hc hn) hcfg hentry href hstop hrestart b
  generalize hq : roundFree { m with fresh := (hkCode m 0 vin vref).2.fresh, hk := hkSlotted m.hk c v } (hkGap m.hk c v) 163840 = q
  refine ⟨satS 16 q.1, ?_, q.2.fresh, fun h hh => ?_⟩
  · rw [List.mem_cons, List.mem_singleton]
    rcases hq ▸ roundFree_near _ _ (by decide) with h | h
    · exact .inl (by rw [h, Nat.cast_ofNat])
    · exact .inr (by rw [h, Nat.cast_ofNat])
  · rw [hkSlot_due hrun hentry hdue, hkCode_frame,
      hkStored_compares (m := { m with fresh := (hkCode m 0 vin vref).2.fresh }) (x := hkConv m c) rfl hc hunsettled hrun hother hnew, hv, hb,
      hkCompare_eq (m := { m with fresh := (hkCode m 0 vin vref).2.fresh }) hq hbad hcount htrip, hh]
    split
    · have halarm : (hkAlarm { m with fresh := q.2.fresh, hk := h }).hk = h := by rw [hkAlarm_eq]
      rw [hend _ (halarm.trans hh.symm) (by rw [hkAlarm_eq]; rfl), halarm]
    · rw [hend { m with fresh := q.2.fresh, hk := h } hh.symm rfl]

/-! ### Urgent conversions (R504, R515) -/

/-- The block once an urgent conversion has given its result. -/
def hkUrgentResult (m : Kz) (c : Nat) (u : HkUrgent) (r : (Nat × Bool) × Kz) : Kz :=
  { m with
    fresh := r.2.fresh,
    hk := { (modConvHk m c (fun x => { x with urgent := none })).hk with
      useq := (m.hk.useq + 1) % 256, uconv := c, uunset := u.unsettled, uovr := r.1.2, ucode := r.1.1 },
    regs := (if u.unsettled = true then m.mark F.HK_STAT.UNSETTLED_SEEN 0 else m).regs }

theorem hkUrgentDone_due {u : HkUrgent} (hu : (hkConv m c).urgent = some u) (hdue : u.start + hkTime (F.HK_URGENT.TS.of u.req) ≤ m.now.ns)
    {vin vref : Nat} {n : Kz} (hn : hkUrgentResult m c u (hkCode m (F.HK_URGENT.GAIN.of u.req) vin vref) = n) :
    hkUrgentDone m c vin vref = if m.on (hkOf c F.HK_CTRL.RUN_A F.HK_CTRL.RUN_B) 0 then
      { n with hk := traversed m c true (u.start + hkTime (F.HK_URGENT.TS.of u.req)) n.hk } else n := by
  have hframe := hkCode_frame m (F.HK_URGENT.GAIN.of u.req) vin vref
  have hcfg : n.regs.cfg = m.regs.cfg := by
    rw [← hn]
    unfold hkUrgentResult
    dsimp only
    split <;> rfl
  rw [← traversed_congr hcfg, ← hkTraverse_eq, show m.on (hkOf c F.HK_CTRL.RUN_A F.HK_CTRL.RUN_B) 0 =
    n.on (hkOf c F.HK_CTRL.RUN_A F.HK_CTRL.RUN_B) 0 by rw [Kz.on, Kz.on, Kz.fld, Kz.fld, Kz.cfgWord, Kz.cfgWord, hcfg]]
  unfold hkUrgentDone
  rw [hu]
  dsimp only
  rw [if_neg (Nat.not_lt.2 hdue)]
  rcases hcode : hkCode m (F.HK_URGENT.GAIN.of u.req) vin vref with ⟨⟨code, ovr⟩, q⟩
  rw [hcode] at hn hframe
  dsimp only at hframe ⊢
  have hresult : (if u.unsettled = true then
      (modHk (modConvHk q c fun x => { x with urgent := none }) fun h => { h with
        useq := (h.useq + 1) % 256, uconv := c, uunset := u.unsettled, uovr := ovr, ucode := code }).mark F.HK_STAT.UNSETTLED_SEEN 0
      else modHk (modConvHk q c fun x => { x with urgent := none }) fun h => { h with
        useq := (h.useq + 1) % 256, uconv := c, uunset := u.unsettled, uovr := ovr, ucode := code }) = n := by
    rw [hframe, ← hn]
    unfold hkUrgentResult modHk modConvHk modHk
    split <;> split <;> rfl
  rw [hresult]

theorem pairWrite_urgent {p : Nat} {v : Word} (hq : Quiet m) (hreach : Reaches m p .HK_URGENT 0)
    (hlease : covers (m.port p).session.leases .module = true) (hinput : F.HK_URGENT.INPUT.of v < 0x44) (hgo : F.HK_URGENT.GO.of v = 1)
    (hbusy : hkBusy m (F.HK_URGENT.CONV.of v) = false) :
    pairWrite m p .HK_URGENT 0 v = (modConvHk m (F.HK_URGENT.CONV.of v) (fun x => { x with
      urgent := some ⟨v, !x.settled, m.now.ns⟩ })).emit (okPair p .HK_URGENT 0) := by
  obtain ⟨hopen, hpow, hregion⟩ := hreach
  have hwrite : writeWord m (m.port p).session.leases (RegKind.addr .HK_URGENT 0) v = (.ok, modConvHk m (F.HK_URGENT.CONV.of v) (fun x =>
      { x with urgent := some ⟨v, !x.settled, m.now.ns⟩ })) := by
    simp [writeWord, place_HK_URGENT, show leaseFor (RegKind.addr .HK_URGENT 0) = .module by decide, hlease, writePlace, writeReg,
      show lockedOut m .HK_URGENT 0 v = false from rfl, hkUrgent, Nat.not_le.2 hinput, hgo, hbusy]
  have hquiet : Quiet ((modConvHk m (F.HK_URGENT.CONV.of v) (fun x => { x with
      urgent := some ⟨v, !x.settled, m.now.ns⟩ })).emit (okPair p .HK_URGENT 0)) := quiet_ofPorts hq rfl
  unfold pairWrite
  simp only [hopen, hpow, hregion, hwrite, Bool.not_true, Option.isSome_none, Bool.or_false, Bool.false_eq_true, if_false]
  exact (congrArg pump (resetsDue_quiet hquiet)).trans (pump_quiet hquiet)

theorem pairWrite_urgent_busy {p : Nat} {v : Word} (hreach : Reaches m p .HK_URGENT 0)
    (hlease : covers (m.port p).session.leases .module = true) (hinput : F.HK_URGENT.INPUT.of v < 0x44) (hgo : F.HK_URGENT.GO.of v = 1)
    (hbusy : hkBusy m (F.HK_URGENT.CONV.of v) = true) :
    pairWrite m p .HK_URGENT 0 v = ((m.count .HK_URGENT_DROPPED 0 1).mark F.HK_STAT.URGENT_DROP_SEEN 0).emit
      (.pairStatus p (RegKind.addr .HK_URGENT 0) .urgentDropped ⟨3, 0⟩) :=
  pairWrite_refused hreach (by
    simp [writeWord, place_HK_URGENT, show leaseFor (RegKind.addr .HK_URGENT 0) = .module by decide, hlease, writePlace, writeReg,
      show lockedOut m .HK_URGENT 0 v = false from rfl, hkUrgent, Nat.not_le.2 hinput, hgo, hbusy])
end
end Sys2Proof.Machine
namespace Sys2Proof.Safety
open Machine

/-- Settles O28: the end of a slot stores its code (`hkStored`), compares where both converters have a new one (`hkCompare_eq`) and starts the
next traverse (`hkEnd_slot`). -/
theorem crossCheckAndUrgentConversions : Obligations.CrossCheckAndUrgentConversions := by
  unfold Obligations.CrossCheckAndUrgentConversions
  intro s t m c hm
  have slot (vin vref : Nat) {P : Kz → Prop} (h : P (hkSlot m c vin vref)) : After (.hkXchkDone t c vin vref) s P :=
    after_at (f := fun m => hkSlot m c vin vref) hm rfl h
  have urgent (p : Port) (v : Word) {P : Kz → Prop} (h : P (pairWrite m p.val .HK_URGENT 0 v)) : After (.hkUrgent t p v) s P :=
    after_at (f := fun m => pairWrite m p.val .HK_URGENT 0 v) hm rfl h
  have urgentDone (vin vref : Nat) {P : Kz → Prop} (h : P (hkUrgentDone m c vin vref)) : After (.hkUrgentDone t c vin vref) s P :=
    after_at (f := fun m => hkUrgentDone m c vin vref) hm rfl h
  refine ⟨?unsettled, ?alone, ?agrees, ?mismatch, ?plaus, ?starts, ?dropped, ?done, ?doneRun, ?doneNot⟩
  case unsettled =>
    intro vin vref hrun hentry hdue href hstop hrestart hunsettled
    refine slot vin vref ?_
    rw [hkSlot_due hrun hentry hdue, hkCode_frame, hkStored, if_pos hunsettled]
    exact hkEnd_slot (m := m) (n := ({ m with fresh := (hkCode m 0 vin vref).2.fresh } : Kz).mark F.HK_STAT.UNSETTLED_SEEN 0)
      (v := (hkConv m c).slot) (new := (hkConv m c).slotNew) rfl rfl hentry href hstop hrestart _
  case alone =>
    intro vin vref hrun hentry hdue href hstop hrestart hunsettled hother
    refine slot vin vref ?_
    rw [hkSlot_due hrun hentry hdue, hkCode_frame, hkStored_alone (m := { m with fresh := (hkCode m 0 vin vref).2.fresh })
      (x := hkConv m c) rfl c.isLt hunsettled hother, modConvHk_slot]
    exact hkEnd_slot (m := m) (hkConv_slotted c.isLt { m with fresh := (hkCode m 0 vin vref).2.fresh } _) rfl hentry href hstop hrestart _
  case agrees =>
    intro vin vref hrun hentry hdue href hstop hrestart hunsettled hother hnew hnear
    refine slot vin vref ?_
    rw [← hkGap_eq] at hnear ⊢
    obtain ⟨diff, hdiff, f, hend⟩ := hkSlot_compared c.isLt hrun hentry hdue href hstop hrestart hunsettled hother hnew rfl rfl
      (decide_eq_false (Nat.not_lt.2 hnear)) (run := 0) (trip := false) rfl (by simp)
    have hend := hend _ rfl
    generalize hT : traversed m c false _ _ = T at hend
    have hdiffT : T.diff = diff := by rw [← hT, traversed_diff]; rfl
    rw [hend, if_neg Bool.false_ne_true]
    refine ⟨rfl, ?_, hdiffT ▸ hdiff⟩
    dsimp only
    rw [hdiffT, ← hT]
    rfl
  case mismatch =>
    intro vin vref hrun hentry hdue href hstop hrestart hunsettled hother hnew hfar hquiet
    refine slot vin vref ?_
    rw [← hkGap_eq] at hfar
    have htrip : (true && decide (max 1 (F.HK_XCHK_CFG.CONSEC.of (hkConv m c).xchk) ≤ min 15 (m.hk.run + 1)) && !m.hk.plaus) = false := by
      rcases hquiet with h | h
      · simp [h]
      · simp [Nat.not_le.2 h]
    obtain ⟨diff, hdiff, f, hend⟩ := hkSlot_compared c.isLt hrun hentry hdue href hstop hrestart hunsettled hother hnew rfl rfl
      (decide_eq_true hfar) rfl htrip
    have hend := hend _ rfl
    generalize hT : traversed m c false _ _ = T at hend
    have hdiffT : T.diff = diff := by rw [← hT, traversed_diff]; rfl
    rw [hend, if_neg Bool.false_ne_true]
    refine ⟨rfl, ?_⟩
    dsimp only
    rw [hdiffT, ← hT, Bool.or_false, Bool.true_and]
    rfl
  case plaus =>
    intro vin vref hrun hentry hdue href hstop hrestart hunsettled hother hnew hfar hclear hcount
    refine slot vin vref ?_
    rw [← hkGap_eq] at hfar
    have htrip : (true && decide (max 1 (F.HK_XCHK_CFG.CONSEC.of (hkConv m c).xchk) ≤ min 15 (m.hk.run + 1)) && !m.hk.plaus) = true := by
      simp only [hclear, decide_eq_true hcount]
      rfl
    obtain ⟨diff, hdiff, f, hend⟩ := hkSlot_compared c.isLt hrun hentry hdue href hstop hrestart hunsettled hother hnew rfl rfl
      (decide_eq_true hfar) rfl htrip
    have hend := hend _ rfl
    generalize hT : traversed m c false _ _ = T at hend
    have hdiffT : T.diff = diff := by rw [← hT, traversed_diff]; rfl
    rw [if_pos rfl] at hend
    obtain ⟨hhk, hframe, hlog, hcode, hcounter⟩ := hkAlarm_told hend
    refine ⟨hframe, ?_, hlog, hcode, hcounter⟩
    rw [hhk, hdiffT, ← hT, Bool.or_true, Bool.true_and]
    rfl
  case starts =>
    intro p v hq hreach hlease hinput hgo hbusy
    exact urgent p v (pairWrite_urgent hq hreach hlease hinput hgo hbusy)
  case dropped =>
    intro p v hq hreach hlease hinput hgo hbusy
    refine urgent p v ?_
    rw [pairWrite_urgent_busy hreach hlease hinput hgo hbusy]
    exact ⟨rfl, rfl⟩
  case done =>
    intro vin vref u hu hdue hoff
    refine urgentDone vin vref ?_
    rw [hkUrgentDone_due hu hdue rfl, if_neg (by simp [hoff])]
    rfl
  case doneRun =>
    intro vin vref u hu hdue hon
    refine urgentDone vin vref ?_
    rw [hkUrgentDone_due hu hdue rfl, if_pos hon]
    rfl
  case doneNot =>
    intro vin vref hu
    refine urgentDone vin vref ?_
    unfold hkUrgentDone
    rw [hu]

end Sys2Proof.Safety
end

section
/-! SUPPORT. The family 17_host_protocol.md: a request that changes its own session as it executes, a session that is opened, closed or
reset, and a message that is rejected (R522 to R537). -/
namespace Sys2Proof.Machine
open Safety

section
variable {m x : Kz} {h : Hdr} {r : Request}

/-! ### A request that ends and leaves its session changed -/

/-- The block once a request has got its response in a session that its execution left as `y` (R528, R531). -/
def answeredIn (m x : Kz) (h : Hdr) (r : Request) (a : Answer) (y : Session) : Kz :=
  (x.modSess h.port.val fun _ => { y with tags := (begun m h r (some (respOf r a))).tags }).emit
    (.response h.port.val (answerHead m h) h.seq.toNat h.tag.toNat (cmdCode r) a.status a.bytes false)

/-- What a request may change of its own session beside its place in the sequence. -/
abbrev Session.Changed (s y : Session) : Prop :=
  y = { s with mask := y.mask, nonce := y.nonce, staging := y.staging, leases := y.leases, quote := y.quote }

theorem port_of_startedIn {y : Session} (hports : x.ports = ((started m h r).modSess h.port.val fun _ => y).ports) :
    x.port h.port.val = { m.port h.port.val with session := y } := by
  rw [port_congr hports, Kz.port_modSess_same, started, Kz.port_modSess_same]

theorem port_startedIn_of_ne {y : Session} (hports : x.ports = ((started m h r).modSess h.port.val fun _ => y).ports) {p : Nat}
    (hp : p ≠ h.port.val) : x.port p = m.port p := by
  rw [port_congr hports, Kz.port_modSess, if_neg hp, port_started_of_ne hp]

theorem ports_startedIn (g : Session → Session) : ((started m h r).modSess h.port.val g).ports =
    ((started m h r).modSess h.port.val fun _ => g (begun m h r none)).ports := by
  rw [Kz.modSess_const, started, Kz.port_modSess_same]

theorem quiet_answeredIn (hd : Due m h r) {y : Session} (hy : (begun m h r none).Changed y)
    (hports : x.ports = ((started m h r).modSess h.port.val fun _ => y).ports) (a : Answer) : Quiet (answeredIn m x h r a y) := by
  obtain ⟨hslots, hreset, hgap⟩ := hd.1 _ h.port.isLt
  refine quiet_ofPorts (quiet_modSess (x := x) (y := { y with tags := _ }) hd.1 (fun p hp => port_startedIn_of_ne hports hp) ?_ ?_ ?_) rfl
  · rw [hy]; exact hslots
  · rw [hy]; exact hreset
  · rw [hy]; exact hgap

/-- R528, R531: the request's response, kept with its tag, in the session as its execution left it. -/
theorem respond_startedIn (hd : Due m h r) {y : Session} (hy : (begun m h r none).Changed y)
    (hports : x.ports = ((started m h r).modSess h.port.val fun _ => y).ports) (a : Answer) :
    respond x h.port.val (viaOf m h) h.seq.toNat h.tag.toNat (cmdCode r) a = answeredIn m x h r a y := by
  obtain ⟨-, -, -, hopen, -, -, hid, -, hrun, htags, -⟩ := id hd
  have hport := port_of_startedIn hports
  have hothers : (sess m h).tags.map (fun t => if t.tag.toNat = h.tag.toNat then
      { t with resp := some (respOf r a) } else t) = (sess m h).tags :=
    (List.map_congr_left (g := id) fun t ht => if_neg fun e => htags t ht (BitVec.eq_of_toNat_eq e)).trans (List.map_id _)
  have hrunning : y.running = none := by rw [hy]; exact hrun
  have hopened : y.isOpen = true := by rw [hy]; exact hopen
  have hversion : y.version = (sess m h).version := by rw [hy]; rfl
  have htagged : y.tags = (begun m h r none).tags := by rw [hy]
  have hsession : x.modSess h.port.val (fun s => { s with
      running := none,
      tags := s.tags.map (fun t => if t.tag.toNat = h.tag.toNat then
        { t with resp := some (respOf r a) } else t) }) =
      x.modSess h.port.val (fun _ => { y with tags := (begun m h r (some (respOf r a))).tags }) := by
    rw [Kz.modSess_const, hport]
    simp only [htagged]
    simp [begun, List.map_append, hothers, ← hrunning]
  have hhead : { (x.modSess h.port.val fun _ => { y with tags := (begun m h r (some (respOf r a))).tags }).headOf h.port.val with
      via := viaOf m h } = answerHead m h := by
    simp [Kz.headOf, answerHead, hport, hopened, hversion, hopen, hid]
  simp only [respond, hsession, hhead]
  exact resetsDue_quiet (quiet_answeredIn hd hy hports a)

/-- A request that is due and ends as it executes, having changed nothing of the ports but its own session, is answered. -/
theorem arrive_doneIn {a : Answer} {i : Nat} {y : Session} (hd : Due m h r) (hopen : ∀ lo hi t k, r ≠ .openSession lo hi t k)
    (hclose : r ≠ .closeSession) (hrun : firstRun m h r = (⟨.done a, [], i⟩, x)) (hy : (begun m h r none).Changed y)
    (hports : x.ports = ((started m h r).modSess h.port.val fun _ => y).ports) : arrive m h r = answeredIn m x h r a y := by
  obtain ⟨-, -, -, hopened, -⟩ := id hd
  have hsettle : settleRun x h.port.val (execution m h r) ⟨.done a, [], i⟩ = answeredIn m x h r a y := by
    have hsession : (x.port h.port.val).session.isOpen = true := by
      rw [port_of_startedIn hports, hy]
      exact hopened
    have hresp : respond x h.port.val (execution m h r).via (execution m h r).seq.toNat (execution m h r).tag.toNat
        (cmdCode (execution m h r).req) (Ran.answer ⟨.done a, [], i⟩ a) = answeredIn m x h r a y := respond_startedIn hd hy hports a
    simp only [settleRun, hsession, if_pos, hresp]
    cases r with
    | closeSession => exact absurd rfl hclose
    | _ => rfl
  have hstart : startReq (queued m h r) h.port.val (slotOf m h r) = answeredIn m x h r a y := by
    rw [startReq_queued hd, hrun, hsettle]
  rw [arrive_due hd hopen, pump_queued hd (hstart ▸ quiet_answeredIn hd hy hports a), hstart]

theorem answeredIn_spec {y : Session} (hports : x.ports = ((started m h r).modSess h.port.val fun _ => y).ports) (hwire : x.wire = m.wire)
    (a : Answer) {f : Session → Session} (hf : { y with tags := (begun m h r (some (respOf r a))).tags } = f (begun m h r (some (respOf r a)))) :
    Answered m (answeredIn m x h r a y) h r a.status a.bytes f := by
  have hport (p : Nat) : (answeredIn m x h r a y).port p =
      if p = h.port.val then { x.port h.port.val with session := { y with tags := (begun m h r (some (respOf r a))).tags } } else x.port p :=
    Kz.port_modSess x h.port.val p fun _ => { y with tags := (begun m h r (some (respOf r a))).tags }
  refine ⟨congrArg _ hwire, ?_, fun p _ hne => ?_⟩
  · rw [hport, if_pos rfl, hf, port_of_startedIn hports]
  · rw [hport, if_neg hne, port_startedIn_of_ne hports hne]

/-! ### A request that runs -/

/-- What a request that runs is not stopped by (R527, R534, R545). -/
theorem runs_passes (hr : Runs m h r) : (m.pwr.state = .recovery → inRecovery r = true) ∧
    (m.pwr.state ≠ .recovery → (needs r).all (fun l => covers (sess m h).leases l) = true) ∧
    ¬ (sess m h).version.toNat < sinceVersion r ∧ badBody (sess m h).version.toNat r = false := by
  obtain ⟨-, hstate, hsince, hbody, -⟩ := hr
  refine ⟨fun hrec => ?_, fun hne => ?_, Nat.not_lt.2 hsince, hbody⟩
  · rcases hstate with ⟨hpow, -⟩ | ⟨-, hin⟩
    · simp [hrec, powered] at hpow
    · exact hin
  · rcases hstate with ⟨-, hheld⟩ | ⟨hrec, -⟩
    · exact hheld
    · exact absurd hrec hne

theorem runs_not_recovery (hr : Runs m h r) (hin : inRecovery r = false) : (started m h r).pwr.state ≠ .recovery := fun e =>
  absurd ((runs_passes hr).1 e) (by simp [hin])

theorem firstRun_nop (hr : Runs m h .nop) : firstRun m h .nop = (⟨.done { status := .ok }, [], 0⟩, started m h .nop) := by
  obtain ⟨-, -, hsince, hbody⟩ := runs_passes hr
  simp [firstRun, runReq, needs, waitsFor, hsince, hbody, inRecovery]

theorem firstRun_closeSession (hr : Runs m h .closeSession) :
    firstRun m h .closeSession = (⟨.done { status := .ok }, [], 0⟩, started m h .closeSession) := by
  obtain ⟨-, -, hsince, hbody⟩ := runs_passes hr
  simp [firstRun, runReq, needs, waitsFor, hsince, hbody, inRecovery]

theorem heldElsewhere_started (p : Nat) (l : Lease) : heldElsewhere (started m h r) p l = heldElsewhere m p l := by
  unfold heldElsewhere
  refine congrArg (List.find? · _) (funext fun q => ?_)
  rw [started, Kz.port_modSess]
  split
  · next hq => rw [hq]; rfl
  · rfl

theorem holderPort_started (l : Lease) : holderPort (started m h r) l = holderPort m l := by
  unfold holderPort
  refine congrArg (List.find? · _) (funext fun q => ?_)
  rw [started, Kz.port_modSess]
  split
  · next hq => rw [hq]; rfl
  · rfl

section
variable {kind : Byte} {idx : BitVec 16} {l : Lease}

theorem firstRun_leaseAcquire (hr : Runs m h (.leaseAcquire kind idx))
    (hl : leaseOf kind.toNat idx.toNat (sess m h).version.toNat = some l) (hfree : heldElsewhere m h.port.val l = none) :
    firstRun m h (.leaseAcquire kind idx) = (⟨.done { status := .ok }, [], 0⟩, (started m h (.leaseAcquire kind idx)).modSess h.port.val
      fun x => { x with leases := if x.leases.contains l then x.leases else l :: x.leases }) := by
  obtain ⟨-, -, hsince, hbody⟩ := runs_passes hr
  have hne := runs_not_recovery hr rfl
  simp [firstRun, runReq, needs, waitsFor, hsince, hbody, hne, hl, hfree, heldElsewhere_started]

theorem firstRun_leaseHeld {q : Nat} (hr : Runs m h (.leaseAcquire kind idx))
    (hl : leaseOf kind.toNat idx.toNat (sess m h).version.toNat = some l) (hheld : heldElsewhere m h.port.val l = some q) :
    firstRun m h (.leaseAcquire kind idx) = (⟨.done { status := .leaseHeld, detail := ⟨5, q⟩ }, [], 0⟩, started m h (.leaseAcquire kind idx)) := by
  obtain ⟨-, -, hsince, hbody⟩ := runs_passes hr
  have hne := runs_not_recovery hr rfl
  simp [firstRun, runReq, needs, waitsFor, hsince, hbody, hne, hl, hheld, heldElsewhere_started]


theorem firstRun_leaseRelease (hr : Runs m h (.leaseRelease kind idx))
    (hl : leaseOf kind.toNat idx.toNat (sess m h).version.toNat = some l) :
    firstRun m h (.leaseRelease kind idx) = (⟨.done { status := .ok }, [], 0⟩, (started m h (.leaseRelease kind idx)).modSess h.port.val
      fun x => { x with leases := x.leases.filter fun y => decide (y ≠ l) }) := by
  obtain ⟨-, -, hsince, hbody⟩ := runs_passes hr
  have hne := runs_not_recovery hr rfl
  simp [firstRun, runReq, needs, waitsFor, hsince, hbody, hne, hl]

theorem firstRun_leaseQuery (hr : Runs m h (.leaseQuery kind idx))
    (hl : leaseOf kind.toNat idx.toNat (sess m h).version.toNat = some l) :
    firstRun m h (.leaseQuery kind idx) = (⟨.done { status := .ok, body := be 1 5 ++ be 1 0 ++ be 2 ((holderPort m l).getD 0xFF) }, [], 0⟩,
      started m h (.leaseQuery kind idx)) := by
  obtain ⟨-, -, hsince, hbody⟩ := runs_passes hr
  have hne := runs_not_recovery hr rfl
  simp [firstRun, runReq, needs, waitsFor, hsince, hbody, hne, hl, holderPort_started]

/-- R535: a lease command that names no lease. -/
theorem firstRun_noLease (hr : Runs m h r) (hreq : r ∈ [.leaseAcquire kind idx, .leaseRelease kind idx, .leaseQuery kind idx])
    (hl : leaseOf kind.toNat idx.toNat (sess m h).version.toNat = none) :
    firstRun m h r = (⟨.done { status := .badValue }, [], 0⟩, started m h r) := by
  obtain ⟨-, -, hsince, hbody⟩ := runs_passes hr
  simp only [List.mem_cons, List.not_mem_nil, or_false] at hreq
  rcases hreq with rfl | rfl | rfl
  · have hne := runs_not_recovery hr rfl
    simp [firstRun, runReq, needs, waitsFor, hsince, hbody, hne, hl]
  · have hne := runs_not_recovery hr rfl
    simp [firstRun, runReq, needs, waitsFor, hsince, hbody, hne, hl]
  · have hne := runs_not_recovery hr rfl
    simp [firstRun, runReq, needs, waitsFor, hsince, hbody, hne, hl]
end

theorem firstRun_subscribe {mask : Word} (hr : Runs m h (.subscribe mask)) :
    firstRun m h (.subscribe mask) = (⟨.done { status := .ok }, [], 0⟩, (started m h (.subscribe mask)).modSess h.port.val
      fun x => { x with mask := mask }) := by
  obtain ⟨-, -, hsince, hbody⟩ := runs_passes hr
  have hne := runs_not_recovery hr rfl
  simp [firstRun, runReq, needs, waitsFor, hsince, hbody, hne]

theorem firstRun_unknown {code : BitVec 16} {body : List Byte} (hr : Runs m h (.unknown code body)) :
    firstRun m h (.unknown code body) = (⟨.done { status := .unknownCommand }, [], 0⟩, started m h (.unknown code body)) := by
  obtain ⟨-, -, hsince, hbody⟩ := runs_passes hr
  have hne := runs_not_recovery hr rfl
  simp [firstRun, runReq, needs, waitsFor, hsince, hbody, hne]

end
/-! ### Rejections (R532) -/

/-- The log and what a port keeps of its rejections are all that differs. -/
abbrev OnlyRejections (m n : Kz) (p : Nat) : Prop :=
  n = { m with ports := n.ports, log := n.log } ∧ (∀ y, y ≠ p → n.port y = m.port y) ∧
    n.port p = { m.port p with rejSecond := (n.port p).rejSecond, rejSent := (n.port p).rejSent, rejLogged := (n.port p).rejLogged }

theorem OnlyRejections.refl (m : Kz) (p : Nat) : OnlyRejections m m p := ⟨rfl, fun _ _ => rfl, rfl⟩

theorem OnlyRejections.trans {m n x : Kz} {p : Nat} (h : OnlyRejections m n p) (h' : OnlyRejections n x p) : OnlyRejections m x p := by
  obtain ⟨hn, hothers, hport⟩ := h
  obtain ⟨hx, hothers', hport'⟩ := h'
  refine ⟨hx.trans ?_, fun y hy => (hothers' y hy).trans (hothers y hy), hport'.trans ?_⟩
  · exact congrArg (fun z : Kz => { z with ports := x.ports, log := x.log }) hn
  · exact congrArg (fun q : PortState => { q with rejSecond := (x.port p).rejSecond, rejSent := (x.port p).rejSent, rejLogged := (x.port p).rejLogged }) hport

/-- A port's state with what it keeps of its rejections set. -/
theorem onlyRejections_modPort (m : Kz) (p : Nat) (f : PortState → PortState)
    (hf : f (m.port p) = { m.port p with rejSecond := (f (m.port p)).rejSecond, rejSent := (f (m.port p)).rejSent, rejLogged := (f (m.port p)).rejLogged }) :
    OnlyRejections m (m.modPort p f) p := by
  refine ⟨rfl, fun y hy => ?_, ?_⟩
  · simp [Kz.port_modPort, hy]
  · rw [Kz.port_modPort_same, ← hf]

/-- A port at the start of a second in which it rejects. -/
def rejectingIn (m : Kz) (p sec : Nat) : Kz :=
  if (m.port p).rejSecond = sec then m else m.modPort p (fun q => { q with rejSecond := sec, rejSent := 0, rejLogged := [] })

/-- A rejection's entry in the log, one for each status in a second. -/
def rejectionLogged (m : Kz) (p : Nat) (st : Status) : Kz :=
  if (m.port p).rejLogged.contains st then m
  else (m.modPort p (fun q => { q with rejLogged := st :: q.rejLogged })).logE 0x0502 0 5 p 0 st.code

theorem onlyRejections_rejectingIn (m : Kz) (p sec : Nat) : OnlyRejections m (rejectingIn m p sec) p ∧ ((rejectingIn m p sec).port p).rejSecond = sec := by
  unfold rejectingIn
  split
  · next h => exact ⟨.refl m p, h⟩
  · exact ⟨onlyRejections_modPort m p _ rfl, by simp⟩

theorem onlyRejections_rejectionLogged (m : Kz) (p : Nat) (st : Status) : OnlyRejections m (rejectionLogged m p st) p ∧
    ((rejectionLogged m p st).port p).rejSecond = (m.port p).rejSecond := by
  unfold rejectionLogged
  split
  · exact ⟨.refl m p, rfl⟩
  · refine ⟨(onlyRejections_modPort m p (fun q => { q with rejLogged := st :: q.rejLogged }) rfl).trans ⟨?_, ?_, ?_⟩, by simp⟩
    · rw [Kz.logE_eq]
    · simp
    · simp

section
variable {m : Kz} {h : Hdr}

theorem OnlyRejections.fld {n : Kz} {p : Nat} (hn : OnlyRejections m n p) (f : Field) (i : Nat) : n.fld f i = m.fld f i := by
  obtain ⟨hframe, -⟩ := hn
  rw [hframe]
  rfl

theorem OnlyRejections.answerHead {n : Kz} (hn : OnlyRejections m n h.port.val) : answerHead n h = answerHead m h := by
  have hvia : viaOf n h = viaOf m h := congrArg (Via.mk h.addr) (hn.fld F.HOST_PORT_CFG.UDP_PORT h.port.val)
  obtain ⟨-, -, hport⟩ := hn
  unfold Machine.answerHead
  rw [hvia, hport]

/-- R532: a message that may get a rejection gets it. -/
theorem reject_rejected (hmay : MayReject m h.port.val) (cmd : Nat) (st : Status) : Rejected m (reject m h cmd st) h cmd st := by
  obtain ⟨hrate, hsent⟩ := hmay
  obtain ⟨hfirst, hsecond⟩ := onlyRejections_rejectingIn (m.count .HOST_REJECT h.port.val 1) h.port.val (m.now.ns / 1000000000)
  have hless : ((rejectingIn (m.count .HOST_REJECT h.port.val 1) h.port.val (m.now.ns / 1000000000)).port h.port.val).rejSent <
      m.fld F.HOST_CFG.REJ_RATE 0 := by
    unfold rejectingIn
    split
    · next hsame => exact hsent hsame
    · simpa using hrate
  obtain ⟨hlog, hsecond'⟩ := onlyRejections_rejectionLogged (rejectingIn (m.count .HOST_REJECT h.port.val 1) h.port.val (m.now.ns / 1000000000)) h.port.val st
  have hboth := hfirst.trans hlog
  rw [hsecond] at hsecond'
  have hreject : reject m h cmd st =
      if ((rejectingIn (m.count .HOST_REJECT h.port.val 1) h.port.val (m.now.ns / 1000000000)).port h.port.val).rejSent <
        (rejectionLogged (rejectingIn (m.count .HOST_REJECT h.port.val 1) h.port.val (m.now.ns / 1000000000)) h.port.val st).fld F.HOST_CFG.REJ_RATE 0 then
        ((rejectionLogged (rejectingIn (m.count .HOST_REJECT h.port.val 1) h.port.val (m.now.ns / 1000000000)) h.port.val st).modPort h.port.val
          (fun q => { q with rejSent := q.rejSent + 1 })).emit (.rejection h.port.val (answerHead (rejectionLogged (rejectingIn (m.count .HOST_REJECT h.port.val 1) h.port.val (m.now.ns / 1000000000)) h.port.val st) h) h.seq.toNat h.tag.toNat cmd st)
      else rejectionLogged (rejectingIn (m.count .HOST_REJECT h.port.val 1) h.port.val (m.now.ns / 1000000000)) h.port.val st := rfl
  generalize rejectingIn (m.count .HOST_REJECT h.port.val 1) h.port.val (m.now.ns / 1000000000) = a at *
  generalize rejectionLogged a h.port.val st = b at *
  rw [hreject, hboth.fld, if_pos (by exact hless), hboth.answerHead]
  obtain ⟨hframe, hothers, hport⟩ := hboth.trans (onlyRejections_modPort b h.port.val (fun q => { q with rejSent := q.rejSent + 1 }) rfl)
  have hsec : ((b.modPort h.port.val fun q => { q with rejSent := q.rejSent + 1 }).port h.port.val).rejSecond = m.now.ns / 1000000000 := by
    rw [Kz.port_modPort_same]
    exact hsecond'
  generalize b.modPort h.port.val (fun q => { q with rejSent := q.rejSent + 1 }) = c at *
  refine ⟨?_, ?_, fun y _ hne => hothers y hne, ?_⟩
  · have hwire : c.wire = m.wire := by rw [hframe]; rfl
    refine (congrArg (fun z : Kz => z.emit _) hframe).trans ?_
    unfold Kz.emit
    dsimp only
    rw [hwire]
    rfl
  · rw [hframe]; rfl
  · rw [← hsec]
    exact hport

theorem quiet_rejected {n : Kz} {cmd : Nat} {st : Status} (hq : Quiet m) (hn : Rejected m n h cmd st) : Quiet n := by
  obtain ⟨-, -, hothers, hport⟩ := hn
  intro p hp
  by_cases heq : p = h.port.val
  · rw [heq, hport]
    exact hq _ h.port.isLt
  · rw [hothers p hp heq]
    exact hq p hp

end

/-! ### OPEN and CLOSE (R524, R525) -/

section
variable {m : Kz} {h : Hdr} {lo hi : Byte} {timeout : BitVec 16} {mask : Word}

/-- A session as OPEN makes it. -/
def openedSession (m : Kz) (h : Hdr) (timeout : BitVec 16) (mask : Word) (x : Nat) : Session :=
  { isOpen := true, origin := h.origin, via := viaOf m h, version := BitVec.ofNat 8 x, timeout := max 1 (min 600 timeout.toNat), mask := mask,
    h := h.seq + 1, timer := m.now.ns }

/-- The session id that follows a port's last one. -/
def nextId (q : PortState) : BitVec 16 := if q.sessionId + 1 = 0 then 1 else q.sessionId + 1

theorem openAt_some {x : Nat} (hx : chooseVersion lo.toNat hi.toNat = some x) : openAt m h lo hi timeout mask =
    (m.modPort h.port.val (fun q => { q with session := openedSession m h timeout mask x, sessionId := nextId (m.port h.port.val) })).emit
      (.response h.port.val ⟨viaOf m h, x, 0⟩ h.seq.toNat h.tag.toNat 2 .ok
        (be 1 x ++ be 1 0 ++ be 2 (nextId (m.port h.port.val)).toNat ++ be 2 (max 1 (min 600 timeout.toNat)) ++ be 2 0 ++
          be 4 (readReg (openAt m h lo hi timeout mask) .MOD_IDENT 0) ++ be 4 m.fw.runImage.version.toNat) false) := by
  unfold openAt
  rw [hx]
  rfl

theorem openAt_frame {x : Nat} (hx : chooseVersion lo.toNat hi.toNat = some x) : openAt m h lo hi timeout mask =
    { m with ports := (openAt m h lo hi timeout mask).ports, wire := (openAt m h lo hi timeout mask).wire } := by
  unfold openAt
  rw [hx]
  rfl

theorem port_openAt {x : Nat} (hx : chooseVersion lo.toNat hi.toNat = some x) (p : Nat) : (openAt m h lo hi timeout mask).port p =
    if p = h.port.val then { m.port h.port.val with
      session := openedSession m h timeout mask x, sessionId := nextId (m.port h.port.val) } else m.port p := by
  rw [openAt_some hx]
  exact Kz.port_modPort m h.port.val p fun q => { q with
    session := openedSession m h timeout mask x, sessionId := nextId (m.port h.port.val) }

theorem quiet_openAt {x : Nat} (hq : Quiet m) (hx : chooseVersion lo.toNat hi.toNat = some x) : Quiet (openAt m h lo hi timeout mask) := by
  intro p hp
  rw [port_openAt hx]
  split
  · exact ⟨rfl, rfl, rfl⟩
  · exact hq p hp

/-- R524: an OPEN that the port's session, if there is one, does not stop. -/
theorem arrive_open (hans : answers m h.port.val = true) (horigin : (sess m h).isOpen = true → (sess m h).origin = h.origin) :
    arrive m h (.openSession lo hi timeout mask) = pump (openAt (resetSession m h.port.val) h lo hi timeout mask) := by
  have hbody : malformedBody (.openSession lo hi timeout mask) = false := rfl
  have hbusy : ¬ ((sess m h).isOpen = true ∧ (sess m h).origin ≠ h.origin) := fun hb => hb.2 (horigin hb.1)
  unfold arrive
  simp [hans, hbody, hbusy]

theorem resetSession_closed {p : Nat} (hclosed : (m.port p).session.isOpen = false) : resetSession m p = m := by
  simp [resetSession, hclosed]

theorem resetSession_open {p : Nat} (hopen : (m.port p).session.isOpen = true) : resetSession m p =
    (m.modPort p fun q => { q with
      session := {}, orphans := q.orphans ++ ((m.port p).session.running.map fun r => (r, (m.port p).session.leases)).toList }).logE 0x0501 0 5 p 0 p := by
  unfold resetSession
  dsimp only
  rw [if_pos hopen]
  cases (m.port p).session.running <;> rfl

theorem resetSession_frame {p : Nat} (hopen : (m.port p).session.isOpen = true) : resetSession m p =
    { m with ports := (resetSession m p).ports, log := (resetSession m p).log } := by
  rw [resetSession_open hopen, Kz.logE_eq]
  rfl

theorem head_log_resetSession {p : Nat} (hopen : (m.port p).session.isOpen = true) :
    (resetSession m p).log.entries.head?.map (fun z => (z.code, z.kind, z.idx)) = some (0x0501, 5, p) := by
  rw [resetSession_open hopen]
  rfl

theorem port_resetSession_open {p : Nat} (hopen : (m.port p).session.isOpen = true) (q : Nat) : (resetSession m p).port q =
    if q = p then { m.port p with
      session := {}, orphans := (m.port p).orphans ++ ((m.port p).session.running.map fun r => (r, (m.port p).session.leases)).toList }
    else m.port q := by
  rw [resetSession_open hopen, Kz.port_logE, Kz.port_modPort]

theorem quiet_resetSession (hq : Quiet m) (p : Nat) : Quiet (resetSession m p) := by
  intro q hp
  by_cases hopen : (m.port p).session.isOpen = true
  · rw [port_resetSession_open hopen]
    split
    · exact ⟨rfl, rfl, rfl⟩
    · exact hq q hp
  · rw [resetSession_closed (by simpa using hopen)]
    exact hq q hp

/-- R524: a CLOSE is answered before its session ends. -/
theorem arrive_close (hr : Runs m h .closeSession) : arrive m h .closeSession =
    resetSession (answered m (started m h .closeSession) h .closeSession { status := .ok }) h.port.val := by
  obtain ⟨hd, -⟩ := id hr
  have hsession : ((started m h .closeSession).port h.port.val).session.isOpen = true := by
    obtain ⟨-, -, -, hopen, -⟩ := hd
    rw [port_of_started rfl]
    exact hopen
  have hstart : startReq (queued m h .closeSession) h.port.val (slotOf m h .closeSession) =
      resetSession (answered m (started m h .closeSession) h .closeSession { status := .ok }) h.port.val := by
    have hresp := respond_started hd (x := started m h .closeSession) rfl { status := .ok }
    rw [startReq_queued hd, firstRun_closeSession hr]
    unfold settleRun
    dsimp only
    rw [if_pos hsession]
    exact congrArg (resetSession · h.port.val) hresp
  have hquiet := quiet_resetSession (quiet_answered hd (x := started m h .closeSession) rfl { status := .ok }) h.port.val
  rw [arrive_due hd (by simp), pump_queued hd (hstart ▸ hquiet), hstart]

end
end Sys2Proof.Machine
namespace Sys2Proof.Safety
open Machine

/-- A command that is the arrival of a request that runs, and ends as it executes having changed nothing of the ports but its own session:
the request is answered. -/
theorem after_answeredIn {c : Instr} {s : State} {t : Stamp} {m x : Kz} {h : Hdr} {r : Request} {a : Answer} {i : Nat} {y : Session}
    {f : Session → Session} (hm : s.kz.advance t = m) (hc : exec c s = s.at_ t fun m => arrive m h r) (hd : Due m h r)
    (hopen : ∀ lo hi t k, r ≠ .openSession lo hi t k) (hclose : r ≠ .closeSession) (hrun : firstRun m h r = (⟨.done a, [], i⟩, x))
    (hy : (begun m h r none).Changed y) (hports : x.ports = ((started m h r).modSess h.port.val fun _ => y).ports) (hwire : x.wire = m.wire)
    (hf : { y with tags := (begun m h r (some (respOf r a))).tags } = f (begun m h r (some (respOf r a)))) :
    After c s fun n => n = { x with ports := n.ports, wire := n.wire } ∧ Answered m n h r a.status a.bytes f := by
  subst hm
  refine after_of_exec hc ?_
  rw [arrive_doneIn hd hopen hclose hrun hy hports]
  exact ⟨rfl, answeredIn_spec hports hwire a hf⟩

/-- Settles O43: a request that ends is answered in its session as it left it (`after_answered`, `after_answeredIn`); an OPEN and a CLOSE
act on the session that `resetSession` leaves. -/
theorem sessionsAndLeases : Obligations.SessionsAndLeases := by
  unfold Obligations.SessionsAndLeases
  intro s t m hm
  refine ⟨?nop, ?opens, ?reopens, ?version, ?busy, ?close, ?acquire, ?held, ?acquireNone, ?release, ?releaseNone, ?query, ?queryNone,
    ?subscribe, ?unknown⟩
  case nop =>
    intro h hr
    exact after_answered hm rfl hr.1 (by simp) (by simp) (firstRun_nop hr) rfl rfl
  case opens =>
    intro h lo hi timeout mask x hq hans hclosed hx
    refine after_at (f := fun m => arrive m h (.openSession lo hi timeout mask)) hm rfl ?_
    rw [arrive_open hans (by simp [hclosed]), resetSession_closed hclosed, pump_quiet (quiet_openAt hq hx)]
    refine ⟨?_, ?_, ?_, fun p _ hne => ?_⟩
    · rw [openAt_some hx]; rfl
    · exact congrArg Kz.wire (openAt_some hx)
    · exact (port_openAt hx _).trans (if_pos rfl)
    · exact (port_openAt hx _).trans (if_neg hne)
  case reopens =>
    intro h lo hi timeout mask x hq hans hopen horigin hx
    refine after_at (f := fun m => arrive m h (.openSession lo hi timeout mask)) hm rfl ?_
    have hquiet := quiet_openAt (h := h) (timeout := timeout) (mask := mask) (quiet_resetSession hq h.port.val) hx
    rw [arrive_open hans fun _ => horigin, pump_quiet hquiet]
    have hsession : openedSession (resetSession m h.port.val) h timeout mask x = openedSession m h timeout mask x := by
      rw [resetSession_open hopen]
      simp [openedSession, viaOf]
    have hport := (port_openAt (m := resetSession m h.port.val) (h := h) (timeout := timeout) (mask := mask) hx h.port.val).trans (if_pos rfl)
    rw [hsession, port_resetSession_open hopen, if_pos rfl] at hport
    refine ⟨?_, ?_, ?_, ?_⟩
    · have hframe := openAt_frame (m := resetSession m h.port.val) (h := h) (timeout := timeout) (mask := mask) hx
      have hreset := resetSession_frame hopen
      generalize resetSession m h.port.val = M at hframe hreset
      generalize openAt M h lo hi timeout mask = n at hframe
      have hlog : n.log = M.log := by rw [hframe]
      refine hframe.trans ((congrArg (fun z : Kz => { z with ports := n.ports, wire := n.wire }) hreset).trans ?_)
      dsimp only
      rw [hlog]
    · exact congrArg PortState.session hport
    · exact congrArg PortState.orphans hport
    · rw [openAt_frame hx]
      exact head_log_resetSession hopen
  case version =>
    intro h lo hi timeout mask hq hans hclosed hx hmay
    refine after_at (f := fun m => arrive m h (.openSession lo hi timeout mask)) hm rfl ?_
    have hopen : openAt m h lo hi timeout mask = reject m h 2 .version := by
      unfold openAt
      rw [hx]
    have hreject := reject_rejected hmay 2 .version
    rw [arrive_open hans (by simp [hclosed]), resetSession_closed hclosed, hopen, pump_quiet (quiet_rejected hq hreject)]
    exact hreject
  case busy =>
    intro h lo hi timeout mask hq hans hopen horigin hmay
    refine after_at (f := fun m => arrive m h (.openSession lo hi timeout mask)) hm rfl ?_
    have hbusy : arrive m h (.openSession lo hi timeout mask) = reject m h 2 .sessionBusy := by
      unfold arrive
      simp [hans, hopen, horigin, show malformedBody (.openSession lo hi timeout mask) = false from rfl]
      rfl
    rw [hbusy]
    exact reject_rejected hmay 2 .sessionBusy
  case close =>
    intro h hr
    refine after_at (f := fun m => arrive m h .closeSession) hm rfl ?_
    have hd := hr.1
    have hanswered (p : Nat) := port_answered (m := m) (x := started m h .closeSession) (h := h) (r := .closeSession) { status := .ok } p
    have hopen : ((answered m (started m h .closeSession) h .closeSession { status := .ok }).port h.port.val).session.isOpen = true := by
      obtain ⟨-, -, -, hopen, -⟩ := hd
      rw [hanswered, if_pos rfl]
      exact hopen
    have hport := port_resetSession_open hopen
    have hframe := resetSession_frame hopen
    have hhead := head_log_resetSession hopen
    rw [arrive_close hr]
    have hwire : (resetSession (answered m (started m h .closeSession) h .closeSession { status := .ok }) h.port.val).wire =
        (answered m (started m h .closeSession) h .closeSession { status := .ok }).wire := by rw [hframe]
    refine ⟨?_, hwire, ?_, fun y _ hne => ?_, hhead⟩
    · refine hframe.trans ?_
      rw [hwire]
      rfl
    · obtain ⟨-, -, -, -, -, -, -, -, hidle, -⟩ := hd
      rw [hport, if_pos rfl, hanswered, if_pos rfl, port_of_started rfl]
      simp [begun, hidle]
    · rw [hport, if_neg hne, hanswered, if_neg hne, port_started_of_ne hne]
  case acquire =>
    intro h kind idx l hr hl hfree
    exact after_answeredIn hm rfl hr.1 (by simp) (by simp) (firstRun_leaseAcquire hr hl hfree) rfl (ports_startedIn _) rfl rfl
  case held =>
    intro h kind idx l q hr hl hheld
    exact after_answered hm rfl hr.1 (by simp) (by simp) (firstRun_leaseHeld hr hl hheld) rfl rfl
  case acquireNone =>
    intro h kind idx hr hl
    exact after_answered hm rfl hr.1 (by simp) (by simp) (firstRun_noLease hr (by simp) hl) rfl rfl
  case release =>
    intro h kind idx l hr hl
    exact after_answeredIn hm rfl hr.1 (by simp) (by simp) (firstRun_leaseRelease hr hl) rfl (ports_startedIn _) rfl rfl
  case releaseNone =>
    intro h kind idx hr hl
    exact after_answered hm rfl hr.1 (by simp) (by simp) (firstRun_noLease hr (by simp) hl) rfl rfl
  case query =>
    intro h kind idx l hr hl
    exact after_answered hm rfl hr.1 (by simp) (by simp) (firstRun_leaseQuery hr hl) rfl rfl
  case queryNone =>
    intro h kind idx hr hl
    exact after_answered hm rfl hr.1 (by simp) (by simp) (firstRun_noLease hr (by simp) hl) rfl rfl
  case subscribe =>
    intro h mask hr
    exact after_answeredIn hm rfl hr.1 (by simp) (by simp) (firstRun_subscribe hr) rfl (ports_startedIn _) rfl rfl
  case unknown =>
    intro h code body hr
    exact after_answered hm rfl hr.1 (by simp) (by simp) (firstRun_unknown hr) rfl rfl

end Sys2Proof.Safety
end

section
/-! SUPPORT. The family 17_host_protocol.md: how a request that belongs to the open session is judged (R523, R524, R528 to R532). -/
namespace Sys2Proof.Machine
open Safety

section
variable {m : Kz} {h : Hdr} {r : Request}

/-- The block once the session timer has restarted. -/
def timed (m : Kz) (h : Hdr) : Kz := m.modSess h.port.val fun y => { y with timer := m.now.ns }

theorem port_timed (p : Nat) : (timed m h).port p =
    if p = h.port.val then { m.port h.port.val with session := { sess m h with timer := m.now.ns } } else m.port p :=
  Kz.port_modSess m h.port.val p fun y => { y with timer := m.now.ns }

theorem answerHead_timed : answerHead (timed m h) h = answerHead m h := by
  unfold answerHead
  rw [port_timed, if_pos rfl]
  rfl

theorem mayReject_timed (hmay : MayReject m h.port.val) : MayReject (timed m h) h.port.val := by
  obtain ⟨hrate, hsent⟩ := hmay
  refine ⟨hrate, ?_⟩
  rw [port_timed, if_pos rfl]
  exact hsent

/-- R524: a request whose body is good, of the open session's version and origin, is judged where it names the session, else it is late. -/
theorem arrive_open_session (hbody : malformedBody r = false) (hr : ∀ lo hi t k, r ≠ .openSession lo hi t k)
    (hans : answers m h.port.val = true) (hopen : (sess m h).isOpen = true) (hversion : (sess m h).version = h.version)
    (horigin : (sess m h).origin = h.origin) :
    arrive m h r = if h.session ≠ (m.port h.port.val).sessionId then late m h.port.val else judge m h r := by
  cases r with
  | openSession lo hi t k => exact absurd rfl (hr lo hi t k)
  | _ => simp [arrive, hans, hbody, hopen, horigin, hversion]

/-- The answer to a repeated request: the response kept with its tag, if it has one (R528). -/
def answeredAgain (m : Kz) (h : Hdr) : Option Resp → Kz
  | some a => ((timed m h).count .HOST_DUPLICATE h.port.val 1).emit
      (.response h.port.val (answerHead m h) h.seq.toNat h.tag.toNat a.cmd a.status a.body true)
  | none => (timed m h).count .HOST_DUPLICATE h.port.val 1

/-- R528, R529: a request whose tag is in use. -/
theorem judge_known {q : TagRec} (hq : (sess m h).tags.find? (fun y => y.tag = h.tag) = some q) : judge m h r =
    if q.seq = h.seq then
      if q.digest = digestOf r then answeredAgain m h q.resp else reject (timed m h) h (cmdCode r) .tagConflict
    else if 32768 ≤ (h.seq - (sess m h).h).toNat then late m h.port.val
    else reject (timed m h) h (cmdCode r) (if 64 ≤ (h.seq - (sess m h).h).toNat then .seqWindow else .tagConflict) := by
  unfold judge answeredAgain
  rw [← answerHead_timed]
  dsimp only
  rw [hq]
  obtain ⟨tag, seq, digest, resp⟩ := q
  cases resp <;> rfl

/-- The block with a request put into its slot (R529). -/
def slotted (m : Kz) (h : Hdr) (r : Request) : Kz :=
  (timed m h).modSess h.port.val fun x => { x with
    slots := x.slots ++ [slotOf m h r], tags := x.tags ++ [⟨h.tag, h.seq, digestOf r, none⟩] }

/-- R529: a request whose tag is free. -/
theorem judge_new (hnew : ∀ y ∈ (sess m h).tags, y.tag ≠ h.tag) : judge m h r =
    if 32768 ≤ (h.seq - (sess m h).h).toNat then late m h.port.val
    else if 64 ≤ (h.seq - (sess m h).h).toNat then reject (timed m h) h (cmdCode r) .seqWindow
    else if (sess m h).slots.any (fun s => s.seq = h.seq) then reject (timed m h) h (cmdCode r) .seqConflict
    else pump (slotted m h r) := by
  have hfind : (sess m h).tags.find? (fun y => y.tag = h.tag) = none :=
    List.find?_eq_none.2 fun y hy => by simpa using hnew y hy
  unfold judge
  dsimp only
  rw [hfind]
  rfl

theorem port_slotted (p : Nat) : (slotted m h r).port p =
    if p = h.port.val then { m.port h.port.val with
      session := { sess m h with
        timer := m.now.ns, slots := (sess m h).slots ++ [slotOf m h r], tags := (sess m h).tags ++ [⟨h.tag, h.seq, digestOf r, none⟩] } }
    else m.port p := by
  have h' : (slotted m h r).port p = if p = h.port.val then _ else (timed m h).port p := Kz.port_modSess (timed m h) h.port.val p _
  rw [h', port_timed, port_timed, if_pos rfl]
  split <;> rfl

/-- R530: a request that is not the next one waits in its slot, and the slot of the next one has stood empty from then on. -/
theorem pump_slotted (hq : Quiet m) (hopen : (sess m h).isOpen = true) (hlater : h.seq ≠ (sess m h).h) :
    pump (slotted m h r) = (slotted m h r).modSess h.port.val fun x => { x with gapSince := some m.now.ns } := by
  obtain ⟨hslots, -, hgap⟩ := hq _ h.port.isLt
  have hready (p : Nat) (hp : p < 4) : ready (slotted m h r) p = none := by
    unfold ready
    rw [port_slotted]
    split
    · simp [hslots, slotOf, hlater]
    · simp [(hq p hp).1]
  have hturns : turns 64 (slotted m h r) = slotted m h r := by
    rw [turns, if_neg]
    simp only [List.any_eq_true, mem_upTo]
    rintro ⟨p, hp, hr⟩
    simp [hready p hp] at hr
  rw [pump, hturns]
  unfold gaps
  refine foldl_once (a := h.port.val) (mem_upTo.2 h.port.isLt) List.nodup_range (fun p hp hne => ?_) ?_ fun p hp hne => ?_
  · obtain ⟨hslots, -, hgap⟩ := hq p (mem_upTo.1 hp)
    simp [port_slotted, hne, hslots, hgap]
  · have hempty : (slotOf m h r).seq ≠ (sess m h).h := hlater
    simp [port_slotted, hopen, hslots, hgap, hempty]
    rfl
  · obtain ⟨hslots, -, hgap⟩ := hq p (mem_upTo.1 hp)
    simp [Kz.port_modSess, port_slotted, hne, hslots, hgap]

end
end Sys2Proof.Machine
namespace Sys2Proof.Safety
open Machine

/-- Settles O49: the request is judged by its tag and its sequence number (`judge_known`, `judge_new`). -/
theorem requestsJudged : Obligations.RequestsJudged := by
  unfold Obligations.RequestsJudged
  intro s t m hm
  have nop (h : Hdr) {P : Kz → Prop} (hp : P (arrive m h .nop)) : After (.nop t h) s P :=
    after_at (f := fun m => arrive m h .nop) hm rfl hp
  have bad (h : Hdr) (code : BitVec 16) {P : Kz → Prop} (hp : P (malformed m h code.toNat)) : After (.malformedMessage t ⟨h, code⟩) s P :=
    after_at (f := fun m => malformed m h code.toNat) hm rfl hp
  have judged (h : Hdr) (hans : answers m h.port.val = true) (hopen : (sess m h).isOpen = true) (hversion : (sess m h).version = h.version)
      (horigin : (sess m h).origin = h.origin) (hid : (m.port h.port.val).sessionId = h.session) : arrive m h .nop = judge m h .nop :=
    (arrive_open_session rfl (by simp) hans hopen hversion horigin).trans (if_neg (by simp [hid]))
  have hbody : malformedBody .nop = false := rfl
  refine ⟨?noSession, ?version, ?busy, ?otherSession, ?deaf, ?again, ?executing, ?conflict, ?window, ?late, ?taken, ?waits, ?malformed,
    ?malformedLate, ?malformedSilent⟩
  case noSession =>
    intro h hans hclosed hmay
    refine nop h ?_
    have harrive : arrive m h .nop = reject m h (cmdCode .nop) .noSession := by simp [arrive, hans, hbody, hclosed]
    rw [harrive]
    exact reject_rejected hmay _ _
  case version =>
    intro h hans hopen hversion horigin hid hmay
    refine nop h ?_
    have harrive : arrive m h .nop = reject m h (cmdCode .nop) .malformed := by
      simp [arrive, malformed, hans, hbody, hopen, hversion, horigin, hid]
    rw [harrive]
    exact reject_rejected hmay _ _
  case busy =>
    intro h hans hopen hversion horigin hmay
    refine nop h ?_
    have harrive : arrive m h .nop = reject m h (cmdCode .nop) .sessionBusy := by
      simp [arrive, hans, hbody, hopen, hversion, Ne.symm horigin]
    rw [harrive]
    exact reject_rejected hmay _ _
  case otherSession =>
    intro h hans hopen hversion horigin hid
    exact nop h ((arrive_open_session rfl (by simp) hans hopen hversion.symm horigin.symm).trans (if_pos hid))
  case deaf =>
    intro h hans
    exact nop h (by simp [arrive, hans])
  case again =>
    intro h a hans hopen hversion horigin hid hq
    refine nop h ?_
    rw [judged h hans hopen hversion horigin hid, judge_known hq, if_pos rfl, if_pos rfl]
    exact ⟨rfl, (port_timed _).trans (if_pos rfl), fun y _ hne => (port_timed _).trans (if_neg hne)⟩
  case executing =>
    intro h hans hopen hversion horigin hid hq
    refine nop h ?_
    rw [judged h hans hopen hversion horigin hid, judge_known hq, if_pos rfl, if_pos rfl]
    exact ⟨rfl, (port_timed _).trans (if_pos rfl), fun y _ hne => (port_timed _).trans (if_neg hne)⟩
  case conflict =>
    intro h q hans hopen hversion horigin hid hq hdiff hmay
    refine nop h ?_
    have hreject := reject_rejected (mayReject_timed hmay) (cmdCode .nop) .tagConflict
    rw [judged h hans hopen hversion horigin hid, judge_known hq]
    rcases hdiff with ⟨hseq, hdigest⟩ | ⟨hseq, hnear⟩
    · rw [if_pos hseq, if_neg hdigest]
      exact hreject
    · rw [if_neg hseq, if_neg (by omega), if_neg (by omega)]
      exact hreject
  case window =>
    intro h hans hopen hversion horigin hid htags hfar hahead hmay
    refine nop h ?_
    have hreject := reject_rejected (mayReject_timed hmay) (cmdCode .nop) .seqWindow
    rw [judged h hans hopen hversion horigin hid]
    cases hq : (sess m h).tags.find? (fun y => y.tag = h.tag) with
    | some q =>
      rw [judge_known hq, if_neg (htags q (List.mem_of_find?_eq_some hq) (by simpa using List.find?_some hq)), if_neg (by omega), if_pos hfar]
      exact hreject
    | none =>
      rw [judge_new (by simpa using hq), if_neg (by omega), if_pos hfar]
      exact hreject
  case late =>
    intro h hans hopen hversion horigin hid htags hbehind
    refine nop h ?_
    rw [judged h hans hopen hversion horigin hid]
    cases hq : (sess m h).tags.find? (fun y => y.tag = h.tag) with
    | some q =>
      rw [judge_known hq, if_neg (htags q (List.mem_of_find?_eq_some hq) (by simpa using List.find?_some hq)), if_pos hbehind]
      rfl
    | none =>
      rw [judge_new (by simpa using hq), if_pos hbehind]
      rfl
  case taken =>
    intro h hans hopen hversion horigin hid htags hnear hslot hmay
    refine nop h ?_
    rw [judged h hans hopen hversion horigin hid, judge_new htags, if_neg (by omega), if_neg (by omega), if_pos (by simpa using hslot)]
    exact reject_rejected (mayReject_timed hmay) _ _
  case waits =>
    intro h hq hans hopen hversion horigin hid htags hnear hlater
    refine nop h ?_
    obtain ⟨hslots, -, -⟩ := hq _ h.port.isLt
    rw [judged h hans hopen hversion horigin hid, judge_new htags, if_neg (by omega), if_neg (by omega), if_neg (by simp [hslots]),
      pump_slotted hq hopen hlater]
    refine ⟨rfl, ?_, fun y _ hne => ?_⟩
    · rw [Kz.port_modSess_same, port_slotted, if_pos rfl]
      simp [hslots, slotOf]
    · rw [Kz.port_modSess, if_neg hne, port_slotted, if_neg hne]
  case malformed =>
    intro h code hans hopen horigin hid hmay
    refine bad h code ?_
    have hmalformed : malformed m h code.toNat = reject m h code.toNat .malformed := by simp [Machine.malformed, hans, hopen, horigin, hid]
    rw [hmalformed]
    exact reject_rejected hmay _ _
  case malformedLate =>
    intro h code hans hother
    refine bad h code ?_
    unfold Machine.malformed
    dsimp only
    rw [if_neg (by simp [hans]), if_neg]
    · rfl
    · rcases hother with h | h | h <;> simp [h]
  case malformedSilent =>
    intro h code hans hopen horigin hid hsec hsent
    refine bad h code ?_
    have hmalformed : malformed m h code.toNat = reject m h code.toNat .malformed := by simp [Machine.malformed, hans, hopen, horigin, hid]
    obtain ⟨hframe, -⟩ := onlyRejections_rejectionLogged (m.count .HOST_REJECT h.port.val 1) h.port.val .malformed
    have hreject : reject m h code.toNat .malformed = rejectionLogged (m.count .HOST_REJECT h.port.val 1) h.port.val .malformed := by
      unfold reject
      dsimp only
      rw [if_pos (show ((m.count .HOST_REJECT h.port.val 1).port h.port.val).rejSecond = m.now.ns / 1000000000 from hsec)]
      have hrate := hframe.fld F.HOST_CFG.REJ_RATE 0
      unfold rejectionLogged at hrate
      exact if_neg (by rw [hrate]; exact Nat.not_lt.2 hsent)
    rw [hmalformed, hreject, hframe.1]
    exact ⟨rfl, rfl⟩

end Sys2Proof.Safety
end

section
/-! SUPPORT. The family 17_host_protocol.md: acknowledgements, gaps, resends, the network side of a port, and a changed HOST_PORT_CFG
(R518, R524, R530, R533, R542, R547). -/
namespace Sys2Proof.Machine
open Safety

section
variable {m : Kz} {h : Hdr} {p : Nat}

/-! ### Acknowledgements (R533) -/

/-- The session once an acknowledgement has freed what it covers. -/
def acknowledged (x : Session) (now : Nat) (a : Option (BitVec 16)) (n : Option Word) : Session :=
  { x with
    timer := now,
    tags := a.elim x.tags fun b => x.tags.filter fun y => !(y.resp.isSome && decide ((b - y.seq).toNat < 128)),
    notifs := n.elim x.notifs fun b => x.notifs.filter fun y => !decide ((b - y.num).toNat < 2 ^ 31) }

theorem acknowledge_eq (hq : Quiet m) (hans : answers m h.port.val = true) (hopen : (sess m h).isOpen = true)
    (hversion : (sess m h).version = h.version) (horigin : (sess m h).origin = h.origin) (hid : (m.port h.port.val).sessionId = h.session)
    (a : Option (BitVec 16)) (n : Option Word) :
    acknowledge m h a n = m.modSess h.port.val fun _ => acknowledged (sess m h) m.now.ns a n := by
  have hquiet : Quiet (m.modSess h.port.val fun _ => acknowledged (sess m h) m.now.ns a n) := by
    obtain ⟨hslots, hreset, hgap⟩ := hq _ h.port.isLt
    exact quiet_modSess hq (fun _ _ => rfl) hslots hreset hgap
  have hack : acknowledge m h a n = pump (m.modSess h.port.val fun _ => acknowledged (sess m h) m.now.ns a n) := by
    unfold acknowledge
    dsimp only
    rw [if_neg (by simp [hans]), if_neg (by simp [hopen]), if_neg (by simp [hversion]), if_neg (by simp [horigin]), if_neg (by simp [hid])]
    cases a <;> cases n <;> simp only [restartTimer, Kz.modSess_modSess] <;> rfl
  rw [hack, pump_quiet hquiet]

/-! ### The slot that stays empty (R530) -/

/-- A block in which port `p` alone has something waiting, not for its next slot: the hub starts nothing, and the gap is marked. -/
theorem pump_gap (hp : p < 4) (hopen : (m.port p).session.isOpen = true) (hslots : (m.port p).session.slots ≠ [])
    (hnext : ∀ y ∈ (m.port p).session.slots, y.seq ≠ (m.port p).session.h) (hgap : (m.port p).session.gapSince = none)
    (hothers : ∀ y, y < 4 → y ≠ p → (m.port y).session.slots = [] ∧ (m.port y).session.gapSince = none) :
    pump m = m.modSess p fun x => { x with gapSince := some m.now.ns } := by
  have hready (y : Nat) (hy : y < 4) : ready m y = none := by
    unfold ready
    by_cases heq : y = p
    · rw [heq]
      simpa using fun _ _ _ _ => hnext
    · simp [(hothers y hy heq).1]
  have hturns : turns 64 m = m := by
    rw [turns, if_neg]
    simp only [List.any_eq_true, mem_upTo]
    rintro ⟨y, hy, hr⟩
    simp [hready y hy] at hr
  rw [pump, hturns]
  unfold gaps
  refine foldl_once (a := p) (mem_upTo.2 hp) List.nodup_range (fun y hy hne => ?_) ?_ fun y hy hne => ?_
  · obtain ⟨hslots, hgap⟩ := hothers y (mem_upTo.1 hy) hne
    simp [hslots, hgap]
  · have hnone : (m.port p).session.slots.any (fun s => s.seq = (m.port p).session.h) = false := by simpa using hnext
    simp [hopen, hslots, hgap, hnone]
  · obtain ⟨hslots, hgap⟩ := hothers y (mem_upTo.1 hy) hne
    simp [Kz.port_modSess, hne, hslots, hgap]

/-- The block once slot H of port `p` has been given up. -/
def skipped (m : Kz) (p : Nat) : Kz := (m.modSess p fun x => { x with h := x.h + 1, gapSince := none }).count .HOST_GAP_SKIP p 1

theorem gapSkip_due {g : Nat} (hdue : g + m.fld F.HOST_CFG.GAP_MS 0 * 1000000 ≤ m.now.ns) (hms : m.fld F.HOST_CFG.GAP_MS 0 ≠ 0)
    (hgap : (m.port p).session.gapSince = some g) (hopen : (m.port p).session.isOpen = true) : gapSkip m p =
      pump (if (m.port p).session.version = 0x32 then (skipped m p).notifyPort m.datum p 7 6 (m.port p).session.h.toNat [] else skipped m p) := by
  unfold gapSkip
  dsimp only
  rw [hgap]
  exact if_pos (by simp [hopen, hms, hdue])

theorem port_skipped (y : Nat) : (skipped m p).port y = if y = p then { m.port p with
    session := { (m.port p).session with h := (m.port p).session.h + 1, gapSince := none } } else m.port y :=
  Kz.port_modSess m p y fun x => { x with h := x.h + 1, gapSince := none }

/-- A notification that a session of version 3.0 or later gets (R541, R542). -/
theorem notifyPort_sent {d code kind idx : Nat} {data : List Byte} (hopen : (m.port p).session.isOpen = true)
    (hmask : (m.port p).session.mask.toNat.testBit code = true) (hversion : 0x30 ≤ (m.port p).session.version.toNat)
    (hroom : (m.port p).session.notifs.length < 64) : m.notifyPort d p code kind idx data =
      (m.modSess p fun x => { x with
        nextNotif := Kz.nextNum x.nextNotif, lost := false,
        notifs := x.notifs ++ [⟨(m.port p).session.nextNotif,
          Kz.notifBody (m.port p).session.nextNotif.toNat d (m.port p).session.lost kind idx data, code, m.now.ns⟩] }).emit
        (.notification p (m.headOf p) code (Kz.notifBody (m.port p).session.nextNotif.toNat d (m.port p).session.lost kind idx data) false) := by
  unfold Kz.notifyPort
  simp [hopen, hmask, hroom, Nat.not_lt.2 hversion]

/-- The block once the given-up slot has been notified (R530). -/
def skippedTold (m : Kz) (p : Nat) : Kz :=
  ((skipped m p).modSess p fun x => { x with
    nextNotif := Kz.nextNum x.nextNotif, lost := false,
    notifs := x.notifs ++ [⟨(m.port p).session.nextNotif, Kz.notifBody (m.port p).session.nextNotif.toNat m.datum (m.port p).session.lost 6
      (m.port p).session.h.toNat [], 7, m.now.ns⟩] }).emit
    (.notification p (m.headOf p) 7 (Kz.notifBody (m.port p).session.nextNotif.toNat m.datum (m.port p).session.lost 6
      (m.port p).session.h.toNat []) false)

theorem port_skippedTold (y : Nat) : (skippedTold m p).port y = if y = p then { m.port p with
    session := { (m.port p).session with
      h := (m.port p).session.h + 1, gapSince := none, nextNotif := Kz.nextNum (m.port p).session.nextNotif, lost := false,
      notifs := (m.port p).session.notifs ++ [⟨(m.port p).session.nextNotif, Kz.notifBody (m.port p).session.nextNotif.toNat m.datum
        (m.port p).session.lost 6 (m.port p).session.h.toNat [], 7, m.now.ns⟩] } } else m.port y := by
  unfold skippedTold
  rw [Kz.port_emit, Kz.port_modSess, port_skipped, port_skipped, if_pos rfl]
  split <;> rfl

/-- R542: the notifications sent again leave in their order. -/
theorem foldl_resent (l : List Notif) (m : Kz) (p : Nat) :
    l.foldl (fun m n => m.emit (.notification p (m.headOf p) n.code n.body true)) m =
      { m with wire := (l.map fun n => Emission.notification p (m.headOf p) n.code n.body true).reverse ++ m.wire } := by
  induction l generalizing m with
  | nil => rfl
  | cons n l ih =>
    rw [List.foldl_cons, ih, List.map_cons, List.reverse_cons, List.append_assoc]
    rfl

theorem Kz.modPort_const (m : Kz) (p : Nat) (f : PortState → PortState) : m.modPort p f = m.modPort p fun _ => f (m.port p) := rfl

theorem Kz.modPort_modPort (m : Kz) (p : Nat) (f g : PortState → PortState) : (m.modPort p f).modPort p g = m.modPort p fun x => g (f x) := by
  simp [Kz.modPort, Sparse.mod_mod]

/-- R518: an echo request that may get its reply. -/
theorem echo_replied (hans : answers m p = true) (hfew : (m.port p).echoSecond ≠ m.now.ns / 1000000000 ∨ (m.port p).echoSent < 10) (v6 : Bool) :
    echo m p v6 = (m.modPort p fun q => { q with
      echoSecond := m.now.ns / 1000000000,
      echoSent := (if (m.port p).echoSecond = m.now.ns / 1000000000 then (m.port p).echoSent else 0) + 1 }).emit (.echoReply p v6) := by
  unfold echo
  dsimp only
  rw [if_neg (by simp [hans])]
  by_cases hsec : (m.port p).echoSecond = m.now.ns / 1000000000
  · rw [if_pos hsec, if_pos (hfew.resolve_left (not_not.2 hsec)), if_pos hsec, Kz.modPort_const m p, Kz.modPort_const m p fun q => { q with
      echoSecond := _, echoSent := _ }, ← hsec]
  · rw [if_neg hsec, if_pos (by simp), if_neg hsec, Kz.modPort_modPort]

/-- Where one session is due for its reset, and the others are quiet, that one is reset. -/
theorem resetsDue_one {q : Nat} (hq : q < 4) (hdue : (m.port q).session.resetDue = true) (hopen : (m.port q).session.isOpen = true)
    (hothers : ∀ y, y < 4 → y ≠ q → (m.port y).session.resetDue = false) : resetsDue m = resetSession m q := by
  refine foldl_once (a := q) (mem_upTo.2 hq) List.nodup_range (fun y hy hne => ?_) (if_pos hdue) fun y hy hne => ?_
  · simp [hothers y (mem_upTo.1 hy) hne]
  · rw [port_resetSession_open hopen, if_neg hne]
    simp [hothers y (mem_upTo.1 hy) hne]

/-- The block once a write of HOST_PORT_CFG that changes it has been answered. -/
def portCfgChanged (m : Kz) (p q : Nat) (v : Word) : Kz :=
  ((storeReg m .HOST_PORT_CFG q v).modSess q fun x => { x with resetDue := true }).emit (okPair p .HOST_PORT_CFG q)

theorem port_portCfgChanged (m : Kz) (p q : Nat) (v : Word) (y : Nat) : (portCfgChanged m p q v).port y =
    if y = q then { m.port q with session := { (m.port q).session with resetDue := true } } else m.port y := by
  have hports : (storeReg m .HOST_PORT_CFG q v).ports = m.ports := by rw [storeReg_eq]
  have hmod := Kz.port_modSess (storeReg m .HOST_PORT_CFG q v) q y fun x => { x with resetDue := true }
  rw [port_congr hports, port_congr hports] at hmod
  exact hmod

/-- R524: a changed HOST_PORT_CFG resets the port's session once the response has been sent. -/
theorem pairWrite_portCfg {q : Port} {v : Word} (hacc : Accepts m p .HOST_PORT_CFG q v) (hopen : (m.port q.val).session.isOpen = true)
    (hdiff : (storeReg m .HOST_PORT_CFG q v).cfgWord .HOST_PORT_CFG q ≠ m.cfgWord .HOST_PORT_CFG q) :
    pairWrite m p .HOST_PORT_CFG q.val v = resetSession (portCfgChanged m p q.val v) q.val := by
  obtain ⟨hq, ⟨hsession, hpow, hregion⟩, hlease, hlock, hcheck⟩ := hacc
  have hport : (storeReg m .HOST_PORT_CFG q.val v).port q.val = m.port q.val := by rw [storeReg_eq]; rfl
  have heffect : regEffect (storeReg m .HOST_PORT_CFG q.val v) .HOST_PORT_CFG q.val (m.cfgWord .HOST_PORT_CFG q.val) v =
      (storeReg m .HOST_PORT_CFG q.val v).modSess q.val fun x => { x with resetDue := true } := by
    refine (if_neg (Ne.symm hdiff)).trans ?_
    rw [Kz.modSess_const, hport, if_pos hopen, Kz.modSess_const _ _ fun x => { x with resetDue := true }, hport]
  have hword : writeWord m (m.port p).session.leases (RegKind.addr .HOST_PORT_CFG q.val) v =
      (.ok, (storeReg m .HOST_PORT_CFG q.val v).modSess q.val fun x => { x with resetDue := true }) := by
    rw [writeWord_reg (place_HOST_PORT_CFG q) hlease]
    unfold writeReg
    rw [if_neg (by simp [hlock])]
    dsimp only
    rw [hcheck]
    dsimp only
    rw [heffect]
  have hopen' : ((portCfgChanged m p q.val v).port q.val).session.isOpen = true := by
    rw [port_portCfgChanged, if_pos rfl]
    exact hopen
  have hreset : resetsDue (portCfgChanged m p q.val v) = resetSession (portCfgChanged m p q.val v) q.val := by
    refine resetsDue_one q.isLt ?_ hopen' fun y hy hne => ?_
    · rw [port_portCfgChanged, if_pos rfl]
    · obtain ⟨-, hreset, -⟩ := hq y hy
      rw [port_portCfgChanged, if_neg hne, hreset]
  have hquiet : Quiet (resetSession (portCfgChanged m p q.val v) q.val) := by
    intro y hy
    rw [port_resetSession_open hopen']
    split
    · exact ⟨rfl, rfl, rfl⟩
    · next hne =>
      rw [port_portCfgChanged, if_neg hne]
      exact hq y hy
  unfold pairWrite
  simp only [hsession, hpow, hregion, hword, Bool.not_true, Option.isSome_none, Bool.or_false, Bool.false_eq_true, if_false]
  exact (congrArg pump hreset).trans (pump_quiet hquiet)

end
end Sys2Proof.Machine
namespace Sys2Proof.Safety
open Machine

/-- Settles O50: each clause is its event's function under the clause's hypotheses, after which the hub has nothing to start (`pump_quiet`,
`pump_gap`). -/
theorem portsAndAcknowledgements : Obligations.PortsAndAcknowledgements := by
  unfold Obligations.PortsAndAcknowledgements
  intro s t m hm
  have ack (h : Hdr) (a : Option (BitVec 16)) (x : Option Word) {P : Kz → Prop} (hp : P (acknowledge m h a x)) :
      After (.acknowledgement t h a x) s P := after_at (f := fun m => acknowledge m h a x) hm rfl hp
  have gap (p : Port) {P : Kz → Prop} (hp : P (gapSkip m p)) : After (.seqGapSkip t p) s P := after_at (f := fun m => gapSkip m p) hm rfl hp
  refine ⟨?ack, ?ackClosed, ?ackOther, ?ackBusy, ?timeout, ?timeoutNot, ?skip, ?skipTold, ?skipNot, ?resend, ?drop, ?neighbour, ?echo, ?echoNot,
    ?loss, ?lock, ?changed, ?same⟩
  case ack =>
    intro h a x hq hans hopen hversion horigin hid
    refine ack h a x ?_
    rw [acknowledge_eq hq hans hopen hversion horigin hid]
    exact ⟨rfl, Kz.port_modSess_same .., fun y _ hne => (Kz.port_modSess ..).trans (if_neg hne)⟩
  case ackClosed =>
    intro h a x hans hclosed
    exact ack h a x (by simp [acknowledge, hans, hclosed]; rfl)
  case ackOther =>
    intro h a x hans hopen hversion horigin hid
    exact ack h a x (by simp [acknowledge, hans, hopen, hversion, horigin, Ne.symm hid]; rfl)
  case ackBusy =>
    intro h a x hans hopen hversion horigin hmay
    refine ack h a x ?_
    have hreject : acknowledge m h a x = reject m h 0 .sessionBusy := by simp [acknowledge, hans, hopen, hversion, horigin]
    rw [hreject]
    exact reject_rejected hmay _ _
  case timeout =>
    intro p hopen hdue
    refine after_at (f := fun m => sessionTimeout m p) hm rfl ?_
    have htimeout : sessionTimeout m p = (resetSession m p).mark F.HOST_PORT_STAT.TIMEOUT_SEEN p := if_pos (by simp [hopen, hdue])
    have hframe := resetSession_frame hopen
    have hport (y : Nat) : ((resetSession m p).mark F.HOST_PORT_STAT.TIMEOUT_SEEN p).port y = _ := port_resetSession_open hopen y
    rw [htimeout]
    refine ⟨?_, seen_mark_same rfl (by decide) _ _, ?_, ?_, ?_, fun y _ hne => ?_, head_log_resetSession hopen⟩
    · exact congrArg (fun z : Kz => { z with regs := { z.regs with
        seen := ((resetSession m p).mark F.HOST_PORT_STAT.TIMEOUT_SEEN p).regs.seen,
        setIn := ((resetSession m p).mark F.HOST_PORT_STAT.TIMEOUT_SEEN p).regs.setIn } }) hframe
    · rw [hport, if_pos rfl]
    · rw [hport, if_pos rfl]
    · rw [hport, if_pos rfl]
    · rw [hport, if_neg hne]
  case timeoutNot =>
    intro p hnot
    refine after_at (f := fun m => sessionTimeout m p) hm rfl (if_neg ?_)
    rcases hnot with h | h <;> simp [h]
  case skip =>
    intro p g hdue hms hgap hopen hslots hnext hothers hquiet
    refine gap p ?_
    have hsame : (if (m.port p).session.version = 0x32 then (skipped m p).notifyPort m.datum p 7 6 (m.port p).session.h.toNat [] else skipped m p) =
        skipped m p := by
      split
      · next hversion =>
        have hmask := hquiet.resolve_left (not_not.2 hversion)
        refine if_neg ?_
        rw [port_skipped, if_pos rfl]
        simp [hmask]
      · rfl
    rw [gapSkip_due hdue hms hgap hopen, hsame, pump_gap p.isLt]
    · refine ⟨rfl, ?_, fun y _ hne => ?_⟩
      · rw [Kz.port_modSess_same, port_skipped, if_pos rfl]
        rfl
      · rw [Kz.port_modSess, if_neg hne, port_skipped, if_neg hne]
    · rw [port_skipped, if_pos rfl]
      exact hopen
    · rw [port_skipped, if_pos rfl]
      exact hslots
    · rw [port_skipped, if_pos rfl]
      exact hnext
    · rw [port_skipped, if_pos rfl]
    · intro y hy hne
      rw [port_skipped, if_neg hne]
      exact hothers y hy hne
  case skipTold =>
    intro p g hdue hms hgap hopen hslots hnext hothers hversion hmask hroom
    refine gap p ?_
    have hsession : ((skipped m p).port p).session = { (m.port p).session with h := (m.port p).session.h + 1, gapSince := none } := by
      rw [port_skipped, if_pos rfl]
    have hhead : (skipped m p).headOf p = m.headOf p := by rw [Kz.headOf, Kz.headOf, port_skipped, if_pos rfl]
    have hsent : (skipped m p).notifyPort m.datum p 7 6 (m.port p).session.h.toNat [] = skippedTold m p := by
      rw [notifyPort_sent, hsession, hhead]
      · rfl
      · rw [hsession]; exact hopen
      · rw [hsession]; exact hmask
      · rw [hsession, hversion]; decide
      · rw [hsession]; exact hroom
    rw [gapSkip_due hdue hms hgap hopen, if_pos hversion, hsent, pump_gap p.isLt]
    · refine ⟨rfl, ?_, fun y _ hne => ?_⟩
      · rw [Kz.port_modSess_same, port_skippedTold, if_pos rfl]
        rfl
      · rw [Kz.port_modSess, if_neg hne, port_skippedTold, if_neg hne]
    · rw [port_skippedTold, if_pos rfl]
      exact hopen
    · rw [port_skippedTold, if_pos rfl]
      exact hslots
    · rw [port_skippedTold, if_pos rfl]
      exact hnext
    · rw [port_skippedTold, if_pos rfl]
    · intro y hy hne
      rw [port_skippedTold, if_neg hne]
      exact hothers y hy hne
  case skipNot =>
    intro p hnot
    refine gap p ?_
    unfold gapSkip
    dsimp only
    split
    · next g hg =>
      refine if_neg ?_
      rcases hnot with h | h | h
      · exact absurd (hg.symm.trans h) nofun
      · simp [h]
      · simp [h]
    · rfl
  case resend =>
    intro p due hopen hversion hdue
    refine after_at (f := fun m => resendNotifs m p) hm rfl ?_
    have hdue' : due = (m.port p).session.notifs.filter (retryDue m) := hdue
    have hresend : resendNotifs m p = { m.modSess p (fun x => { x with
        notifs := x.notifs.map (fun n => if retryDue m n then { n with sent := m.now.ns } else n) }) with
        wire := (due.map fun n => Emission.notification p (m.headOf p) n.code n.body true).reverse ++ m.wire } := by
      unfold resendNotifs
      dsimp only
      rw [if_pos (by simp [hopen, hversion]), foldl_resent, hdue', Kz.headOf, Kz.port_modSess_same]
      rfl
    rw [hresend]
    refine ⟨rfl, ?_, fun y _ hne => ?_⟩
    · have hmap : (m.port p).session.notifs.map (fun y => if y ∈ due then { y with sent := m.now.ns } else y) =
          (m.port p).session.notifs.map (fun y => if retryDue m y then { y with sent := m.now.ns } else y) :=
        List.map_congr_left fun y hy => by rw [hdue', if_congr (List.mem_filter.trans (and_iff_right hy)) rfl rfl]
      rw [hmap]
      exact Kz.port_modSess_same m p.val fun x => { x with
        notifs := x.notifs.map (fun n => if retryDue m n then { n with sent := m.now.ns } else n) }
    · exact (Kz.port_modSess m p.val y fun x => { x with
        notifs := x.notifs.map (fun n => if retryDue m n then { n with sent := m.now.ns } else n) }).trans (if_neg hne)
  case drop =>
    intro p hans
    exact after_at (f := fun m => frameDrop m p) hm rfl (if_pos hans)
  case neighbour =>
    intro p v6 hans
    refine after_at (f := fun m => if answers m p.val then m.emit (.neighbourReply p.val v6 (macOf p.val)) else m) hm rfl ⟨if_pos hans, ?_, ?_⟩
    · simp [macOf]
    · simp [macOf]
  case echo =>
    intro p v6 hans hfew
    refine after_at (f := fun m => echo m p v6) hm rfl ?_
    rw [echo_replied hans hfew]
    exact ⟨rfl, by simp, fun y _ hne => by simp [Kz.port_modPort, hne]⟩
  case echoNot =>
    intro p v6 hans hsec hmany
    refine after_at (f := fun m => echo m p v6) hm rfl ?_
    unfold echo
    dsimp only
    rw [if_neg (by simp [hans]), if_pos hsec, if_neg (Nat.not_lt.2 hmany)]
  case loss =>
    intro p hlink
    refine after_at (f := fun m => linkLost m p) hm rfl ?_
    have hlost : linkLost m p = (m.modPort p fun q => { q with link := false }).mark F.HOST_PORT_STAT.LINK_DOWN_SEEN p := if_pos hlink
    rw [hlost]
    exact ⟨rfl, by simp, seen_mark_same rfl (by decide) _ _, fun y _ hne => by simp [Kz.port_modPort, hne]⟩
  case lock =>
    intro p hstate
    refine after_at (f := fun m => linkLocked m p) hm rfl ?_
    have hlocked : linkLocked m p = m.modPort p fun q => { q with link := true } := if_neg hstate
    rw [hlocked]
    exact ⟨rfl, Kz.port_modPort_same m p.val _, fun y _ hne => (Kz.port_modPort m p.val y _).trans (if_neg hne)⟩
  case changed =>
    intro p q v hacc hopen hdiff
    refine after_at (f := fun m => pairWrite m p.val .HOST_PORT_CFG q.val v) hm rfl ?_
    have hport := port_portCfgChanged m p q v
    have hopen' : ((portCfgChanged m p q v).port q).session.isOpen = true := by
      rw [hport, if_pos rfl]
      exact hopen
    have hframe := resetSession_frame hopen'
    have hreset := port_resetSession_open hopen'
    have hhead := head_log_resetSession hopen'
    rw [pairWrite_portCfg hacc hopen hdiff]
    refine ⟨?_, ?_, ?_, fun y _ hne => ?_, hhead⟩
    · refine hframe.trans ?_
      unfold portCfgChanged
      rw [storeReg_eq]
      rfl
    · rw [hreset, if_pos rfl]
    · rw [hreset, if_pos rfl, hport, if_pos rfl]
    · rw [hreset, if_neg hne, hport, if_neg hne]
  case same =>
    intro p q v hacc hsame
    refine after_at (f := fun m => pairWrite m p.val .HOST_PORT_CFG q.val v) hm rfl ?_
    have heffect : regEffect (storeReg m .HOST_PORT_CFG q.val v) .HOST_PORT_CFG q.val (m.cfgWord .HOST_PORT_CFG q.val) v =
        storeReg m .HOST_PORT_CFG q.val v := if_pos hsame.symm
    rw [pairWrite_accepts hacc (place_HOST_PORT_CFG q) (by decide) (by decide) (by rw [heffect, storeReg_eq]), heffect]

end Sys2Proof.Safety
end

section
/-! SUPPORT. The family 18_firmware_and_trust.md: signed operations, nonces and debug (R544, R569, R571 to R573, R576, R580, R581). -/
namespace Sys2Proof.Machine
open Safety

section
variable {m : Kz} {h : Hdr} {off len : Word} {g : Signed}

/-- R544: the operation that a signed block names. -/
def signedOp (m : Kz) (g : Signed) : Status × Kz :=
  match g.op with
  | 1 => opActivate m g
  | 2 => opOwner m g
  | 3 => opDebug m g
  | _ => (.badValue, m)

/-- R544: a block whose nonce is good is judged by its binding, then by its signatures. -/
def signedResult (m : Kz) (g : Signed) : Status × Kz :=
  if g.binding ≠ deviceBinding then (.bindingMismatch, m) else if sigOk m.trust g = false then (.sigInvalid, m) else signedOp m g

theorem runSigned_fresh {n : Option Nonce} {b : List Byte} (hident : m.trust.identOk = true) (hparse : parseSigned b = some g)
    (hfresh : n.any (fun x => decide (x.bytes = g.nonce) && decide (m.now.ns < x.issued + nonceLife)) = true) :
    runSigned m n b .all = signedResult m g := by
  unfold runSigned signedResult signedOp
  rw [if_neg (by simp [hident]), hparse]
  dsimp only
  rw [if_neg]
  · simp only [reduceCtorEq, if_false, Bool.not_eq_true'] <;> rfl
  · cases n with
    | none => simp at hfresh
    | some x => simpa using hfresh

/-- The block in which a signed command judges its block: its nonce is used up (R544). -/
def nonceUsed (m : Kz) (h : Hdr) (off len : Word) : Kz := (started m h (.signed off len)).modSess h.port.val fun x => { x with nonce := none }

theorem firstRun_signed (hr : Runs m h (.signed off len)) : firstRun m h (.signed off len) =
    (⟨.done { status := (signedCmd (started m h (.signed off len)) h.port.val off.toNat len.toNat).1 }, [], 0⟩,
      (signedCmd (started m h (.signed off len)) h.port.val off.toNat len.toNat).2) := by
  obtain ⟨-, hheld, hsince, hbody⟩ := runs_passes hr
  by_cases hrec : m.pwr.state = .recovery
  · have hrec' : (started m h (.signed off len)).pwr.state = .recovery := hrec
    simp [firstRun, runReq, waitsFor, hsince, hbody, hrec', inRecovery]
  · have hrec' : (started m h (.signed off len)).pwr.state ≠ .recovery := hrec
    have hheld' : covers (sess m h).leases .module = true := hheld hrec
    simp [firstRun, runReq, waitsFor, needs, hsince, hbody, hrec', hheld']

theorem signedCmd_started (hlen : off.toNat + len.toNat ≤ 131072) (hstate : m.pwr.state ≠ .recovery) {b : List Byte} {st : Status} {x : Kz}
    (hb : (sess m h).staging.reads off.toNat len.toNat = b) (hrun : runSigned (nonceUsed m h off len) (sess m h).nonce b .all = (st, x)) :
    signedCmd (started m h (.signed off len)) h.port.val off.toNat len.toNat = (st, signedLog x b st) := by
  have hport := Kz.port_modSess_same m h.port.val fun _ => begun m h (.signed off len) none
  have hsession : ((started m h (.signed off len)).port h.port.val).session = begun m h (.signed off len) none := congrArg PortState.session hport
  unfold signedCmd
  dsimp only
  rw [if_neg (Nat.not_lt.2 hlen), if_neg (by simp [show (started m h (.signed off len)).pwr.state ≠ .recovery from hstate]), hsession,
    show (begun m h (.signed off len) none).staging.reads off.toNat len.toNat = b from hb]
  rw [show runSigned ((started m h (.signed off len)).modSess h.port.val fun x => { x with nonce := none }) (begun m h (.signed off len) none).nonce b .all = (st, x) from hrun]

theorem block_of_parseSigned {b : List Byte} (hparse : parseSigned b = some g) : g.block = b := by
  unfold parseSigned at hparse
  dsimp only at hparse
  split at hparse
  · cases hparse
  · rw [← Option.some.inj hparse]

/-- R559: the boot configuration block that has been written is the one in force. -/
theorem bootBlock_writeBlock (f : Firmware) (areaA : Nat) (trial : Bool) :
    bootBlock (writeBlock f areaA trial) = ⟨(bootBlock f).seq + 1, areaA, trial, (bootBlock f).qspi⟩ := by
  unfold writeBlock
  rcases h0 : f.block0 with _ | x <;> rcases h1 : f.block1 with _ | y
  · simp [bootBlock, h0, h1]
  · simp [bootBlock, h0, h1]
  · simp [bootBlock, h0, h1]
  · by_cases hlt : x.seq < y.seq
    · simp [bootBlock, h0, h1, hlt]
    · simp [bootBlock, h0, h1, hlt]

theorem writeBlock_frame (f : Firmware) (areaA : Nat) (trial : Bool) : writeBlock f areaA trial =
    { f with block0 := (writeBlock f areaA trial).block0, block1 := (writeBlock f areaA trial).block1 } := by
  unfold writeBlock
  dsimp only
  split
  · split <;> rfl
  · rfl
  · rfl

/-! ### The operations (R569, R572, R580) -/

section
variable {q : Kz}

theorem signedOp_activate (hop : g.op = 1) : signedOp q g = opActivate q g := by
  unfold signedOp
  rw [hop]
  rfl

theorem signedOp_owner (hop : g.op = 2) : signedOp q g = opOwner q g := by
  unfold signedOp
  rw [hop]
  rfl

theorem signedOp_debug (hop : g.op = 3) : signedOp q g = opDebug q g := by
  unfold signedOp
  rw [hop]
  rfl

theorem opActivate_verified {i : ImageInfo} (harg : g.arg.length = 64) (hverified : q.fw.verified = some i)
    (hdigest : i.digest.toNat = ofBe g.arg) : opActivate q g = activate q := by
  unfold opActivate
  rw [if_neg (not_not.2 harg), hverified]
  exact if_pos hdigest

theorem activate_idle (hidle : q.regionsBusy = false) : activate q = (.ok, modFw q fun f =>
    { writeBlock f (1 - (bootBlock f).areaA) true with activationDue := some (q.now.ns + 100000000) }) :=
  if_neg (by simp [hidle])

theorem activate_busy (hstate : q.pwr.state ≠ .recovery) (hbusy : q.regionsBusy = true) : activate q = (.regionsNotIdle, q) :=
  if_pos (by simp [hstate, hbusy])

/-- The block once an owner slot has been changed and the change measured (R572, R576). -/
def ownerChanged (q : Kz) (g : Signed) (action : Nat) (o : OwnerSlot) : Kz :=
  extend (modTrust q fun t => setOwner t (ofBe (slice g.arg 1 1)) o) 6 [BitVec.ofNat 8 action, BitVec.ofNat 8 (ofBe (slice g.arg 1 1))]
    (Config.sha512 g.block)

theorem opOwner_write (harg : g.arg.length = 1988) (haction : ofBe (slice g.arg 0 1) = 1) : opOwner q g =
    if 1 < ofBe (slice g.arg 1 1) || (ownerSlot q.trust (ofBe (slice g.arg 1 1))).state ≠ .empty then (.ownerSlot, q)
    else (.ok, ownerChanged q g 1 ⟨.active, Config.sha512 (slice g.arg 4 32), Config.sha512 (slice g.arg 36 1952), slice g.arg 4 32, slice g.arg 36 1952⟩) := by
  unfold opOwner
  dsimp only
  rw [if_pos (by simp [haction, harg]), haction]
  rfl

theorem opOwner_revoke (harg : g.arg.length = 4) (haction : ofBe (slice g.arg 0 1) = 2) (hslot : ofBe (slice g.arg 1 1) ≤ 1)
    (hactive : (ownerSlot q.trust (ofBe (slice g.arg 1 1))).state = .active) : opOwner q g =
    if (ownerSlot q.trust (1 - ofBe (slice g.arg 1 1))).state ≠ .active then (.lastOwner, q)
    else (.ok, ownerChanged q g 2 { ownerSlot q.trust (ofBe (slice g.arg 1 1)) with state := .revoked }) := by
  unfold opOwner
  dsimp only
  rw [if_neg (by simp [haction]), if_pos (by simp [haction, harg]), if_neg (by simp [hslot, hactive]), haction]
  rfl

/-- What a measured change of the trust state makes of it. -/
theorem extend_modTrust_eq {n : Kz} (htrust : q.trust = n.trust) (f : Trust → Trust) (kind : Nat) (arg : List Byte) (digest : BitVec 512) :
    extend (modTrust q f) kind arg digest = { q with trust := (extend (modTrust n f) kind arg digest).trust } := by
  unfold extend modTrust
  dsimp only
  rw [htrust]

/-- The block once debug has been unlocked and the unlock measured (R576, R580). -/
def debugUnlocked (q : Kz) (g : Signed) : Kz :=
  extend (modTrust q fun t => { t with
    debugLevel := ofBe (slice g.arg 0 1), debugUntil := q.now.ns + ofBe (slice g.arg 2 2) * 60000000000 }) 5
    [BitVec.ofNat 8 (ofBe (slice g.arg 0 1))] (Config.sha512 g.block)

theorem opDebug_good (harg : g.arg.length = 4) (hlow : 1 ≤ ofBe (slice g.arg 0 1)) (hhigh : ofBe (slice g.arg 0 1) ≤ 2)
    (hmin : 1 ≤ ofBe (slice g.arg 2 2)) (hmax : ofBe (slice g.arg 2 2) ≤ 1440) : opDebug q g = (.ok, debugUnlocked q g) := by
  unfold opDebug
  refine if_neg ?_
  simp only [Bool.or_eq_true, decide_eq_true_eq]
  omega

theorem opDebug_bad (hbad : ofBe (slice g.arg 0 1) = 0 ∨ 2 < ofBe (slice g.arg 0 1) ∨ ofBe (slice g.arg 2 2) = 0 ∨
    1440 < ofBe (slice g.arg 2 2)) : opDebug q g = (.badValue, q) := by
  unfold opDebug
  refine if_pos ?_
  simp only [Bool.or_eq_true, decide_eq_true_eq]
  omega
end

/-! ### The JTAG port (R581) -/

theorem runSigned_debug {n : Option Nonce} {b : List Byte} (hident : m.trust.identOk = true) (hparse : parseSigned b = some g)
    (hfresh : n.any (fun x => decide (x.bytes = g.nonce) && decide (m.now.ns < x.issued + nonceLife)) = true) (hop : g.op = 3) :
    runSigned m n b .debug = signedResult m g := by
  unfold runSigned signedResult signedOp
  rw [if_neg (by simp [hident]), hparse]
  dsimp only
  rw [if_neg, hop]
  · simp only [Bool.not_eq_true']
  · cases n with
    | none => simp at hfresh
    | some x => simpa using hfresh

theorem dbgToken_on (hstate : m.pwr.state ≠ .off) {b : List Byte} {st : Status} {x : Kz}
    (hrun : runSigned (modTrust m fun t => { t with jtagNonce := none }) m.trust.jtagNonce b .debug = (st, x)) :
    dbgToken m b = { x with log := (signedLog x b st).log, wire := .jtagStatus st :: x.wire } := by
  unfold dbgToken
  rw [if_neg hstate]
  dsimp only
  rw [hrun]
  dsimp only
  rw [signedLog, Kz.logE_eq]
  rfl

/-- The nonces that are kept while they are valid (R544). -/
theorem nonceExpiry_session (m : Kz) (p : Nat) : nonceExpiry m (some p) = m.modSess p fun x => { x with
    nonce := x.nonce.filter fun z => decide (m.now.ns < z.issued + 60000000000) } := by
  unfold nonceExpiry
  refine congrArg (m.modSess p) (funext fun x => ?_)
  cases hn : x.nonce with
  | none => rfl
  | some z =>
    by_cases hold : z.issued + 60000000000 ≤ m.now.ns
    · simp [Option.filter, nonceLife, hold, Nat.not_lt.2 hold]
    · simp [Option.filter, nonceLife, hold, Nat.lt_of_not_le hold]

theorem nonceExpiry_jtag (m : Kz) : nonceExpiry m none = { m with trust := { m.trust with
    jtagNonce := m.trust.jtagNonce.filter fun z => decide (m.now.ns < z.issued + 60000000000) } } := by
  unfold nonceExpiry modTrust
  cases hn : m.trust.jtagNonce with
  | none => simp [hn]
  | some z =>
    by_cases hold : z.issued + 60000000000 ≤ m.now.ns
    · simp [Option.filter, nonceLife, hn, hold, Nat.not_lt.2 hold]
    · simp [Option.filter, nonceLife, hn, hold, Nat.lt_of_not_le hold]

theorem firstRun_challenge (hr : Runs m h .challenge) : firstRun m h .challenge =
    (⟨.done { status := .ok, body := fit 32 (Config.nonce m.trust.nonces) }, [], 0⟩,
      (modTrust (started m h .challenge) fun t => { t with nonces := t.nonces + 1 }).modSess h.port.val fun x => { x with
        nonce := some ⟨fit 32 (Config.nonce m.trust.nonces), m.now.ns⟩ }) := by
  obtain ⟨-, hheld, hsince, hbody⟩ := runs_passes hr
  by_cases hrec : m.pwr.state = .recovery
  · have hrec' : (started m h .challenge).pwr.state = .recovery := hrec
    simp [firstRun, runReq, waitsFor, hsince, hbody, hrec', inRecovery, newNonce]
    exact ⟨rfl, rfl⟩
  · have hrec' : (started m h .challenge).pwr.state ≠ .recovery := hrec
    have hheld' : covers (sess m h).leases .module = true := hheld hrec
    simp [firstRun, runReq, waitsFor, needs, hsince, hbody, hrec', hheld', newNonce]
    exact ⟨rfl, rfl⟩

end
end Sys2Proof.Machine
namespace Sys2Proof.Safety
open Machine

/-- A signed command whose block is judged with status `st` and what it makes of the block is answered and logged (R544). -/
theorem after_signed {c : Instr} {s : State} {t : Stamp} {m x : Kz} {h : Hdr} {off len : Word} {st : Status}
    (hm : s.kz.advance t = m) (hc : exec c s = s.at_ t fun m => arrive m h (.signed off len)) (hr : Runs m h (.signed off len))
    (hstate : m.pwr.state ≠ .recovery) (hlen : off.toNat + len.toNat ≤ 131072) {b : List Byte}
    (hb : (sess m h).staging.reads off.toNat len.toNat = b) (hrun : runSigned (nonceUsed m h off len) (sess m h).nonce b .all = (st, x))
    (hports : x.ports = (nonceUsed m h off len).ports) (hwire : x.wire = m.wire) :
    After c s fun n => n = { x with ports := n.ports, wire := n.wire, log := n.log } ∧
      Answered m n h (.signed off len) st (if st = .ok then [] else noDetail.bytes) (fun x => { x with nonce := none }) ∧
      n.log = (signedLog x b st).log := by
  have hcmd := signedCmd_started hlen hstate hb hrun
  have hfirst := firstRun_signed hr
  rw [hcmd] at hfirst
  have hports' : (signedLog x b st).ports = ((started m h (.signed off len)).modSess h.port.val fun _ =>
      { begun m h (.signed off len) none with nonce := none }).ports := by
    rw [← ports_startedIn fun y => { y with nonce := none }, signedLog, Kz.logE_ports]
    exact hports
  have hwire' : (signedLog x b st).wire = m.wire := by rw [signedLog, Kz.logE_wire, hwire]
  have hbytes : Answer.bytes { status := st } = if st = .ok then [] else noDetail.bytes := by simp [Answer.bytes]
  obtain ⟨n, hexec, hn, hans⟩ := after_answeredIn (f := fun x => { x with nonce := none }) hm hc hr.1 (by simp) (by simp) hfirst rfl hports' hwire' rfl
  rw [hbytes] at hans
  have hlog : n.log = (signedLog x b st).log := by rw [hn]
  refine ⟨n, hexec, ?_, hans, hlog⟩
  refine hn.trans ?_
  rw [hlog, signedLog, Kz.logE_eq]

/-- A signed command whose block is judged: refused for its binding or its signatures, or the operation's status and effect (R544). -/
theorem after_judged {c : Instr} {s : State} {t : Stamp} {m x : Kz} {h : Hdr} {off len : Word} {g : Signed} {st : Status}
    (hm : s.kz.advance t = m) (hc : exec c s = s.at_ t fun m => arrive m h (.signed off len))
    (hparse : parseSigned ((sess m h).staging.reads off.toNat len.toNat) = some g) (hj : Judged m h off len g)
    (hop : signedOp (nonceUsed m h off len) g = (st, x)) (hports : x.ports = (nonceUsed m h off len).ports) (hwire : x.wire = m.wire)
    (hlog : x.log = m.log) {P : Kz → Prop} (hP : ∀ n, n = { x with ports := n.ports, wire := n.wire, log := n.log } → P n) :
    After c s fun n => SignedBy m n h off len g st (P n) := by
  obtain ⟨hr, hstate, hlen, hident, hfresh⟩ := hj
  have hblock := block_of_parseSigned hparse
  have hrun := runSigned_fresh (m := nonceUsed m h off len) hident hparse hfresh
  have hends {st : Status} {x : Kz} (hlog : x.log = m.log) {n : Kz}
      (hn : n.log = (signedLog x ((sess m h).staging.reads off.toNat len.toNat) st).log) :
      n.log.entries.head?.map (fun e => (e.code, e.value)) = some (0x0503, ofBe (slice g.block 4 1) * 256 + st.code % 256) ∧
        n.log.next = (m.log.next + 1) % 2 ^ 32 := by
    rw [hn, hblock, ← hlog]
    exact ⟨rfl, rfl⟩
  have hquiet (st : Status) (hrun : runSigned (nonceUsed m h off len) (sess m h).nonce ((sess m h).staging.reads off.toNat len.toNat) .all =
      (st, nonceUsed m h off len)) : After c s fun n => n = { m with ports := n.ports, wire := n.wire, log := n.log } ∧ SignedEnd m n h off len g st := by
    obtain ⟨n, hexec, hn, hans, hnlog⟩ := after_signed hm hc hr hstate hlen rfl hrun rfl rfl
    exact ⟨n, hexec, hn, hans, hends rfl hnlog⟩
  by_cases hbinding : g.binding ≠ deviceBinding
  · obtain ⟨n, hexec, hn⟩ := hquiet .bindingMismatch (hrun.trans (if_pos hbinding))
    exact ⟨n, hexec, (if_pos hbinding).mpr hn⟩
  · by_cases hsig : sigOk m.trust g = false
    · obtain ⟨n, hexec, hn⟩ := hquiet .sigInvalid (hrun.trans ((if_neg hbinding).trans (if_pos hsig)))
      exact ⟨n, hexec, ((if_neg hbinding).trans (if_pos hsig)).mpr hn⟩
    · have hrun' := hrun.trans ((if_neg hbinding).trans ((if_neg hsig).trans hop))
      obtain ⟨n, hexec, hn, hans, hnlog⟩ := after_signed hm hc hr hstate hlen rfl hrun' hports hwire
      exact ⟨n, hexec, ((if_neg hbinding).trans (if_neg hsig)).mpr ⟨hP n hn, hans, hends hlog hnlog⟩⟩

/-- An operation that changes the trust state alone (R572, R580). -/
theorem after_judged_trust {c : Instr} {s : State} {t : Stamp} {m : Kz} {h : Hdr} {off len : Word} {g : Signed} {st : Status} {T : Trust}
    (hm : s.kz.advance t = m) (hc : exec c s = s.at_ t fun m => arrive m h (.signed off len))
    (hparse : parseSigned ((sess m h).staging.reads off.toNat len.toNat) = some g) (hj : Judged m h off len g)
    (hop : signedOp (nonceUsed m h off len) g = (st, { nonceUsed m h off len with trust := T })) :
    After c s fun n => SignedBy m n h off len g st
      (n = { m with ports := n.ports, wire := n.wire, log := n.log, trust := n.trust } ∧ n.trust = T) := by
  refine after_judged hm hc hparse hj hop rfl rfl rfl fun n hn => ?_
  have htrust : n.trust = T := congrArg Kz.trust hn
  rw [htrust]
  exact ⟨hn, rfl⟩

/-- Settles O47: a signed command in its session is answered with what its block is judged (`after_judged`), and its nonce is used up; each operation
has its own lemma, as have the JTAG port's token and the expiry of the nonces. -/
theorem signedOperations : Obligations.SignedOperations := by
  unfold Obligations.SignedOperations
  intro s t m hm
  refine ⟨?activates, ?notVerified, ?notIdle, ?writes, ?slotTaken, ?revokes, ?lastOwner, ?unlocks, ?badLevel, ?nonceInvalid, ?identFault,
    ?recovery, ?token, ?tokenBad, ?tokenOff, ?jtagNonce, ?jtagNonceOff, ?challenge, ?expires, ?jtagExpires, ?debugExpires, ?debugStays,
    ?relocks, ?relocksNot⟩
  case activates =>
    intro h off len g i hparse hj hop harg hverified hdigest hidle
    have hact : signedOp (nonceUsed m h off len) g = (.ok, modFw (nonceUsed m h off len) fun f =>
        { writeBlock f (1 - (bootBlock f).areaA) true with activationDue := some (m.now.ns + 100000000) }) :=
      (signedOp_activate hop).trans ((opActivate_verified (q := nonceUsed m h off len) harg hverified hdigest).trans (activate_idle hidle))
    refine after_judged hm rfl hparse hj hact rfl rfl rfl fun n hn => ?_
    have hfw : n.fw = { writeBlock m.fw (1 - (bootBlock m.fw).areaA) true with activationDue := some (m.now.ns + 100000000) } := by
      rw [hn]
      rfl
    refine ⟨?_, ?_, ?_⟩
    · rw [hfw]
      exact hn
    · rw [hfw]
      exact congrArg (fun f : Firmware => { f with activationDue := some (m.now.ns + 100000000) }) (writeBlock_frame m.fw _ true)
    · rw [hfw, ← bootBlock_writeBlock m.fw (1 - (bootBlock m.fw).areaA) true]
      rfl
  case notVerified =>
    intro h off len g hparse hj hop harg hverified
    refine after_judged (x := nonceUsed m h off len) hm rfl hparse hj ?_ rfl rfl rfl fun n hn => hn
    rw [signedOp_activate hop, opActivate, if_neg (not_not.2 harg), show (nonceUsed m h off len).fw.verified = none from hverified]
  case notIdle =>
    intro h off len g i hparse hj hop harg hverified hdigest hbusy
    refine after_judged (x := nonceUsed m h off len) hm rfl hparse hj ?_ rfl rfl rfl fun n hn => hn
    obtain ⟨-, hstate, -⟩ := hj
    exact (signedOp_activate hop).trans ((opActivate_verified (q := nonceUsed m h off len) harg hverified hdigest).trans (activate_busy hstate hbusy))
  case writes =>
    intro h off len g hparse hj hop harg haction hslot hempty
    refine after_judged_trust hm rfl hparse hj ((signedOp_owner hop).trans ((opOwner_write harg haction).trans ((if_neg ?_).trans ?_)))
    · have hempty' : (ownerSlot (nonceUsed m h off len).trust (ofBe (slice g.arg 1 1))).state = .empty := hempty
      simp [hslot, hempty']
    · exact congrArg (Prod.mk Status.ok) (extend_modTrust_eq (q := nonceUsed m h off len) (n := m) rfl ..)
  case slotTaken =>
    intro h off len g hparse hj hop harg haction htaken
    refine after_judged (x := nonceUsed m h off len) hm rfl hparse hj ?_ rfl rfl rfl fun n hn => hn
    refine (signedOp_owner hop).trans ((opOwner_write harg haction).trans (if_pos ?_))
    rw [Bool.or_eq_true, decide_eq_true_eq, decide_eq_true_eq]
    exact htaken
  case revokes =>
    intro h off len g hparse hj hop harg haction hslot hactive hother
    have hrevoke := opOwner_revoke (q := nonceUsed m h off len) harg haction hslot hactive
    refine after_judged_trust hm rfl hparse hj ((signedOp_owner hop).trans (hrevoke.trans ((if_neg (not_not.2 hother)).trans ?_)))
    exact congrArg (Prod.mk Status.ok) (extend_modTrust_eq (q := nonceUsed m h off len) (n := m) rfl ..)
  case lastOwner =>
    intro h off len g hparse hj hop harg haction hslot hactive hother
    have hrevoke := opOwner_revoke (q := nonceUsed m h off len) harg haction hslot hactive
    exact after_judged (x := nonceUsed m h off len) hm rfl hparse hj ((signedOp_owner hop).trans (hrevoke.trans (if_pos hother))) rfl rfl rfl
      fun n hn => hn
  case unlocks =>
    intro h off len g hparse hj hop harg hlow hhigh hmin hmax
    refine after_judged_trust hm rfl hparse hj ((signedOp_debug hop).trans ((opDebug_good harg hlow hhigh hmin hmax).trans ?_))
    exact congrArg (Prod.mk Status.ok) (extend_modTrust_eq (q := nonceUsed m h off len) (n := m) rfl ..)
  case badLevel =>
    intro h off len g hparse hj hop hbad
    exact after_judged (x := nonceUsed m h off len) hm rfl hparse hj ((signedOp_debug hop).trans (opDebug_bad hbad)) rfl rfl rfl fun n hn => hn
  case nonceInvalid =>
    intro h off len g hparse hr hstate hlen hident hstale
    have hrun : runSigned (nonceUsed m h off len) (sess m h).nonce ((sess m h).staging.reads off.toNat len.toNat) .all =
        (.nonceInvalid, nonceUsed m h off len) := by
      unfold runSigned
      rw [if_neg (by simp [show (nonceUsed m h off len).trust.identOk = true from hident]), hparse]
      refine if_pos ?_
      cases hn : (sess m h).nonce with
      | none => rfl
      | some x =>
        rw [hn] at hstale
        change (x.bytes = g.nonce && decide (m.now.ns < x.issued + nonceLife)) = false at hstale
        exact congrArg (!·) hstale
    obtain ⟨n, hexec, hn, hans, hlog⟩ := after_signed (c := .debugUnlock t h off len) hm rfl hr hstate hlen rfl hrun rfl rfl
    refine ⟨n, hexec, hn, hans, ?_⟩
    rw [hlog, block_of_parseSigned hparse]
    exact ⟨rfl, rfl⟩
  case identFault =>
    intro h off len hr hstate hident hlen
    have hrun : runSigned (nonceUsed m h off len) (sess m h).nonce ((sess m h).staging.reads off.toNat len.toNat) .all =
        (.identFault, nonceUsed m h off len) := if_pos (by simp [show (nonceUsed m h off len).trust.identOk = false from hident])
    obtain ⟨n, hexec, hn, hans, -⟩ := after_signed (c := .firmwareActivation t h off len) hm rfl hr hstate hlen rfl hrun rfl rfl
    exact ⟨n, hexec, hn, hans⟩
  case recovery =>
    intro h off len hr hstate hlen hop
    have hfirst := firstRun_signed hr
    have hcmd : signedCmd (started m h (.signed off len)) h.port.val off.toNat len.toNat = (.notInRecovery, started m h (.signed off len)) := by
      have hport := Kz.port_modSess_same m h.port.val fun _ => begun m h (.signed off len) none
      have hsession : ((started m h (.signed off len)).port h.port.val).session = begun m h (.signed off len) none :=
        congrArg PortState.session hport
      unfold signedCmd
      dsimp only
      rw [if_neg (Nat.not_lt.2 hlen), hsession]
      refine if_pos ?_
      rw [Bool.and_eq_true, decide_eq_true_eq, decide_eq_true_eq]
      exact ⟨hstate, hop⟩
    rw [hcmd] at hfirst
    obtain ⟨n, hexec, hn, hans⟩ := after_answered (c := .ownerKeyWrite t h off len) hm rfl hr.1 (by simp) (by simp) hfirst rfl rfl
    have hlog : n.log = m.log := (congrArg Kz.log hn).trans rfl
    refine ⟨n, hexec, ?_, hlog, hans⟩
    rw [hlog]
    exact hn
  case token =>
    intro x g hparse hstate hident hfresh hop harg hlow hhigh hmin hmax
    refine after_at (f := fun m => dbgToken m x) hm rfl ?_
    have hrun := runSigned_debug (m := modTrust m fun t => { t with jtagNonce := none }) hident hparse hfresh hop
    unfold signedResult at hrun
    by_cases hbinding : g.binding ≠ deviceBinding
    · rw [dbgToken_on hstate (hrun.trans (if_pos hbinding))]
      exact (if_pos hbinding).mpr rfl
    · by_cases hsig : sigOk m.trust g = false
      · rw [dbgToken_on hstate (hrun.trans ((if_neg hbinding).trans (if_pos hsig)))]
        exact ((if_neg hbinding).trans (if_pos hsig)).mpr rfl
      · rw [signedOp_debug hop, opDebug_good harg hlow hhigh hmin hmax] at hrun
        rw [dbgToken_on hstate (hrun.trans ((if_neg hbinding).trans (if_neg hsig)))]
        rw [debugUnlocked, extend_modTrust_eq (q := modTrust m fun t => { t with jtagNonce := none }) rfl, block_of_parseSigned hparse]
        refine ((if_neg hbinding).trans (if_neg hsig)).mpr ⟨rfl, ?_⟩
        rfl
  case tokenBad =>
    intro x hstate hparse
    refine after_at (f := fun m => dbgToken m x) hm rfl ?_
    have hrun : runSigned (modTrust m fun t => { t with jtagNonce := none }) m.trust.jtagNonce x .debug =
        (if m.trust.identOk = false then .identFault else .badValue, modTrust m fun t => { t with jtagNonce := none }) := by
      unfold runSigned
      by_cases hident : m.trust.identOk = false
      · rw [if_pos hident]
        exact if_pos (by simp [modTrust, hident])
      · rw [if_neg hident, hparse]
        exact if_neg (by simp [modTrust, hident])
    rw [dbgToken_on hstate hrun]
    rfl
  case tokenOff =>
    intro x hoff
    exact after_at (f := fun m => dbgToken m x) hm rfl (if_pos hoff)
  case jtagNonce =>
    intro hstate
    exact after_at (f := fun m => dbgNonce m) hm rfl (if_neg hstate)
  case jtagNonceOff =>
    intro hoff
    exact after_at (f := fun m => dbgNonce m) hm rfl (if_pos hoff)
  case challenge =>
    intro h hr
    have hports := ports_startedIn (m := m) (h := h) (r := .challenge) fun x => { x with
      nonce := some ⟨fit 32 (Config.nonce m.trust.nonces), m.now.ns⟩ }
    exact after_answeredIn (f := fun x => { x with nonce := some ⟨fit 32 (Config.nonce m.trust.nonces), m.now.ns⟩ }) hm rfl hr.1 (by simp) (by simp)
      (firstRun_challenge hr) rfl hports rfl rfl
  case expires =>
    intro p
    exact after_at (f := fun m => nonceExpiry m (some p.val)) hm rfl (nonceExpiry_session m p.val)
  case jtagExpires =>
    exact after_at (f := fun m => nonceExpiry m none) hm rfl (nonceExpiry_jtag m)
  case debugExpires =>
    intro hlevel hdue
    exact after_at (f := fun m => debugExpiry m) hm rfl (if_pos (by simp [hlevel, hdue]))
  case debugStays =>
    intro hnot
    refine after_at (f := fun m => debugExpiry m) hm rfl (if_neg ?_)
    rcases hnot with h | h <;> simp [h]
  case relocks =>
    intro p v hacc hrelock
    refine after_at (f := fun m => pairWrite m p.val .MOD_DEBUG_STAT 0 v) hm rfl ?_
    have heffect : regEffect (storeReg m .MOD_DEBUG_STAT 0 v) .MOD_DEBUG_STAT 0 (m.cfgWord .MOD_DEBUG_STAT 0) v =
        debugLock (storeReg m .MOD_DEBUG_STAT 0 v) := if_pos hrelock
    rw [pairWrite_accepts hacc place_MOD_DEBUG_STAT (by decide) (by decide) (by rw [heffect, storeReg_eq]; rfl), heffect, storeReg_eq]
    rfl
  case relocksNot =>
    intro p v hacc hrelock
    refine after_at (f := fun m => pairWrite m p.val .MOD_DEBUG_STAT 0 v) hm rfl ?_
    have heffect : regEffect (storeReg m .MOD_DEBUG_STAT 0 v) .MOD_DEBUG_STAT 0 (m.cfgWord .MOD_DEBUG_STAT 0) v =
        storeReg m .MOD_DEBUG_STAT 0 v := if_neg (by simp [hrelock])
    rw [pairWrite_accepts hacc place_MOD_DEBUG_STAT (by decide) (by decide) (by rw [heffect, storeReg_eq]), heffect]

end Sys2Proof.Safety
end

section
/-! SUPPORT. The family 18_firmware_and_trust.md: firmware chunks and attestation (R566 to R570, R575 to R578). -/
namespace Sys2Proof.Machine
open Safety

section
variable {m q : Kz} {h : Hdr} {off target flags : Nat} {d : List Byte}

/-! ### Where a chunk is stored (R566, R567) -/

/-- An area once a chunk has been written into it, each sector that it enters erased first. -/
def chunkArea (a : Mem) (off : Nat) (d : List Byte) : Mem :=
  Mem.writes ((newSectors off d.length).foldl (fun (a : Mem) (i : Nat) => Mem.clear a (i * 65536) 65536) a) off d

/-- The firmware state with a new content of the area of slot B. -/
def setSlotB (f : Firmware) (a : Mem) : Firmware := if slotArea f 1 = 0 then { f with area0 := a } else { f with area1 := a }

/-- The firmware state once a chunk of an image has been stored. -/
def imageStored (f : Firmware) (off : Nat) (first : Bool) (d : List Byte) : Firmware :=
  { setSlotB f (chunkArea (areaOf f (slotArea f 1)) off d) with
    fwPtr := off + d.length, verified := if first then none else f.verified }

/-- The firmware state once a chunk of a configuration has been stored. -/
def configStored (f : Firmware) (off : Nat) (d : List Byte) : Firmware :=
  { f with cfgPtr := off + d.length, cfgArea := chunkArea f.cfgArea off d }

theorem chunkArea_inside {a : Mem} (hinside : newSectors off d.length = []) : chunkArea a off d = a.writes off d := by
  rw [chunkArea, hinside]
  rfl

theorem setSlotB_frame (f : Firmware) (a : Mem) : setSlotB f a = { f with area0 := (setSlotB f a).area0, area1 := (setSlotB f a).area1 } := by
  unfold setSlotB
  split <;> rfl

theorem imageStored_frame (f : Firmware) (off : Nat) (first : Bool) (d : List Byte) : imageStored f off first d = { f with
    fwPtr := off + d.length
    verified := if first then none else f.verified
    area0 := (imageStored f off first d).area0
    area1 := (imageStored f off first d).area1 } :=
  congrArg (fun z : Firmware => { z with fwPtr := off + d.length, verified := if first then none else f.verified }) (setSlotB_frame f _)

theorem slotArea_imageStored (f : Firmware) (off : Nat) (first : Bool) (d : List Byte) (i : Nat) :
    slotArea (imageStored f off first d) i = slotArea f i := by
  rw [imageStored_frame]
  rfl

theorem slotB_imageStored (f : Firmware) (off : Nat) (first : Bool) (d : List Byte) :
    areaOf (imageStored f off first d) (slotArea f 1) = chunkArea (areaOf f (slotArea f 1)) off d := by
  unfold imageStored setSlotB
  by_cases hb : slotArea f 1 = 0
  · rw [if_pos hb]
    exact if_pos hb
  · rw [if_neg hb]
    exact if_neg hb

theorem slotA_imageStored (f : Firmware) (off : Nat) (first : Bool) (d : List Byte) :
    areaOf (imageStored f off first d) (slotArea f 0) = areaOf f (slotArea f 0) := by
  have hslots : slotArea f 1 = 1 - slotArea f 0 := rfl
  unfold imageStored setSlotB
  by_cases hb : slotArea f 1 = 0
  · have ha : slotArea f 0 ≠ 0 := by omega
    rw [if_pos hb]
    exact (if_neg ha).trans (if_neg ha).symm
  · have ha : slotArea f 0 = 0 := by omega
    rw [if_neg hb]
    exact (if_pos ha).trans (if_pos ha).symm

/-- What a first chunk discards makes no difference to where the chunk is stored. -/
theorem imageStored_of_first (f : Firmware) (off : Nat) (d : List Byte) :
    { setSlotB { f with fwPtr := 0, verified := none } (chunkArea (areaOf f (slotArea f 1)) off d) with fwPtr := off + d.length } =
      imageStored f off true d := by
  have hslot : slotArea { f with fwPtr := 0, verified := none } 1 = slotArea f 1 := rfl
  unfold imageStored setSlotB
  by_cases hb : slotArea f 1 = 0
  · rw [if_pos hb, if_pos (hslot.trans hb)]
    rfl
  · rw [if_neg hb, if_neg (hslot ▸ hb)]
    rfl

theorem imageStored_of_next (f : Firmware) (off : Nat) (d : List Byte) :
    { setSlotB f (chunkArea (areaOf f (slotArea f 1)) off d) with fwPtr := off + d.length } = imageStored f off false d := by
  unfold imageStored
  rw [setSlotB_frame]
  rfl

/-! ### What a chunk does (R567) -/

theorem chunkWrite_bad (hbad : 1 < target ∨ d = [] ∨ 1204 < d.length) : chunkWrite q off target flags d = (.error .badValue, q) := by
  unfold chunkWrite
  refine if_pos ?_
  simpa [or_assoc] using hbad

theorem chunkWrite_elsewhere (htarget : target ≤ 1) (hd : d ≠ []) (hlen : d.length ≤ 1204) (hnext : flags.testBit 0 = false)
    (hoff : off ≠ writePtr q target) : chunkWrite q off target flags d = (.error .chunkOffset, q) := by
  unfold chunkWrite
  rw [if_neg (by simp [hd, htarget, hlen])]
  simp only [hnext, Bool.false_eq_true, if_false]
  exact if_pos hoff

theorem chunkWrite_full (htarget : target ≤ 1) (hd : d ≠ []) (hlen : d.length ≤ 1204) (hnext : flags.testBit 0 = false)
    (hoff : off = writePtr q target) (hfull : (if target = 0 then fwSize else cfgSize) < off + d.length) :
    chunkWrite q off target flags d = (.error .badValue, q) := by
  unfold chunkWrite
  rw [if_neg (by simp [hd, htarget, hlen])]
  simp only [hnext, Bool.false_eq_true, if_false]
  rw [if_neg (not_not.2 hoff)]
  exact if_pos hfull

theorem chunkWrite_image (hd : d ≠ []) (hlen : d.length ≤ 1204) (hfits : off + d.length ≤ fwSize)
    (hoff : off = if flags.testBit 0 = true then 0 else q.fw.fwPtr) : chunkWrite q off 0 flags d =
      (.ok !(newSectors off d.length).isEmpty, { q with fw := imageStored q.fw off (flags.testBit 0) d }) := by
  unfold chunkWrite
  rw [if_neg (by simp [hd, hlen])]
  cases hfirst : flags.testBit 0
  · simp only [hfirst, Bool.false_eq_true, if_false] at hoff ⊢
    refine (if_neg (not_not.2 hoff)).trans ((if_neg (Nat.not_lt.2 hfits)).trans ?_)
    rw [← imageStored_of_next]
    rfl
  · simp only [hfirst, if_true] at hoff ⊢
    refine (if_neg (not_not.2 hoff)).trans ((if_neg (Nat.not_lt.2 hfits)).trans ?_)
    rw [← imageStored_of_first]
    rfl

theorem chunkWrite_config (hd : d ≠ []) (hlen : d.length ≤ 1204) (hfits : off + d.length ≤ cfgSize)
    (hoff : off = if flags.testBit 0 = true then 0 else q.fw.cfgPtr) : chunkWrite q off 1 flags d =
      (.ok !(newSectors off d.length).isEmpty, { q with fw := configStored q.fw off d }) := by
  unfold chunkWrite
  rw [if_neg (by simp [hd, hlen])]
  cases hfirst : flags.testBit 0
  · simp only [hfirst, Bool.false_eq_true, if_false] at hoff ⊢
    exact (if_neg (not_not.2 hoff)).trans (if_neg (Nat.not_lt.2 hfits))
  · simp only [hfirst, if_true] at hoff ⊢
    exact (if_neg (not_not.2 hoff)).trans (if_neg (Nat.not_lt.2 hfits))

/-! ### What follows a last chunk (R568 to R570) -/

theorem chunkLast_more (hmore : flags.testBit 1 = false) : chunkLast q target flags = ({ status := .ok }, q) :=
  if_pos (by simp [hmore])

/-- Whether the configuration's last four bytes are the CRC of what stands before them (R570). -/
abbrev CrcHolds (f : Firmware) : Prop := 4 ≤ f.cfgPtr ∧ f.cfgArea.word (f.cfgPtr - 4) 4 = crc32c (f.cfgArea.reads 0 (f.cfgPtr - 4))

theorem chunkLast_config (hlast : flags.testBit 1 = true) :
    chunkLast q 1 flags = ({ status := if CrcHolds q.fw then .ok else .badValue }, q) := by
  unfold chunkLast
  rw [if_neg (by simp [hlast]), if_pos rfl]
  dsimp only
  by_cases hcrc : CrcHolds q.fw
  · rw [if_pos hcrc]
    exact if_pos (by simpa using hcrc)
  · rw [if_neg hcrc]
    exact if_neg (by simpa using hcrc)

section
variable {g : ImageInfo} (hlast : flags.testBit 1 = true) (hg : verifyArea (targetArea q 0) = g)
include hlast hg

theorem chunkLast_invalid (hvalid : g.valid = false) : chunkLast q 0 flags = ({ status := .imageInvalid }, q) := by
  unfold chunkLast
  rw [if_neg (by simp [hlast]), if_neg (by decide), hg]
  exact if_pos (by simp [hvalid])

theorem chunkLast_rollback (hvalid : g.valid ≠ false) (hold : g.sv < q.trust.counter) :
    chunkLast q 0 flags = ({ status := .rollback }, q) := by
  unfold chunkLast
  rw [if_neg (by simp [hlast]), if_neg (by decide), hg]
  exact (if_neg (by simp [hvalid])).trans (if_pos hold)

theorem chunkLast_verified (hvalid : g.valid ≠ false) (hnew : ¬ g.sv < q.trust.counter) : chunkLast q 0 flags =
    if flags.testBit 2 = false then ({ status := .ok, body := imageBody g }, modFw q fun f => { f with verified := some g })
    else if q.trust.owner0.state = .active ∨ q.trust.owner1.state = .active then
      ({ status := .ownerRequired }, modFw q fun f => { f with verified := some g })
    else ({ status := (activate (modFw q fun f => { f with verified := some g })).1,
            body := if (activate (modFw q fun f => { f with verified := some g })).1 = .ok then imageBody g else [] },
      (activate (modFw q fun f => { f with verified := some g })).2) := by
  unfold chunkLast
  rw [if_neg (by simp [hlast]), if_neg (by decide), hg]
  refine (if_neg (by simp [hvalid])).trans ((if_neg hnew).trans ?_)
  cases htwo : flags.testBit 2
  · rfl
  · simp only [Bool.not_true, Bool.false_eq_true, if_false, reduceCtorEq, Bool.or_eq_true, decide_eq_true_eq]
    rfl
end

/-! ### Activation (R569) -/

/-- The firmware state once a verified image `g` has been activated at `now`. -/
def activated (f : Firmware) (g : ImageInfo) (now : Nat) : Firmware :=
  { writeBlock { f with verified := some g } (1 - (bootBlock f).areaA) true with activationDue := some (now + 100000000) }

theorem activate_allowed (hidle : q.pwr.state = .recovery ∨ q.regionsBusy = false) (g : ImageInfo) :
    activate (modFw q fun f => { f with verified := some g }) = (.ok, { q with fw := activated q.fw g q.now.ns }) := by
  refine if_neg ?_
  rcases hidle with h | h
  · simp [modFw, h]
  · simp [show (modFw q fun f => { f with verified := some g }).regionsBusy = false from h]

theorem activated_eq (f : Firmware) (g : ImageInfo) (now : Nat) : activated f g now = { f with
    verified := some g
    block0 := (activated f g now).block0
    block1 := (activated f g now).block1
    activationDue := some (now + 100000000) } :=
  congrArg (fun z : Firmware => { z with activationDue := some (now + 100000000) }) (writeBlock_frame { f with verified := some g } _ true)

theorem areaOf_activated (f : Firmware) (g : ImageInfo) (now i : Nat) : areaOf (activated f g now) i = areaOf f i := by
  rw [activated_eq]
  rfl

theorem activated_frame (f : Firmware) (off : Nat) (first : Bool) (d : List Byte) (g : ImageInfo) (now : Nat) :
    activated (imageStored f off first d) g now = { f with
      fwPtr := off + d.length
      verified := some g
      area0 := (activated (imageStored f off first d) g now).area0
      area1 := (activated (imageStored f off first d) g now).area1
      block0 := (activated (imageStored f off first d) g now).block0
      block1 := (activated (imageStored f off first d) g now).block1
      activationDue := some (now + 100000000) } := by
  rw [activated_eq, imageStored_frame]

theorem bootBlock_activated (f : Firmware) (off : Nat) (first : Bool) (d : List Byte) (g : ImageInfo) (now : Nat) :
    bootBlock (activated (imageStored f off first d) g now) = ⟨(bootBlock f).seq + 1, 1 - (bootBlock f).areaA, true, (bootBlock f).qspi⟩ := by
  have hstored : bootBlock { imageStored f off first d with verified := some g } = bootBlock f := by
    rw [imageStored_frame]
    rfl
  have hstored' : bootBlock (imageStored f off first d) = bootBlock f := hstored
  rw [show bootBlock (activated (imageStored f off first d) g now) =
    bootBlock (writeBlock { imageStored f off first d with verified := some g } (1 - (bootBlock (imageStored f off first d)).areaA) true) from rfl,
    bootBlock_writeBlock, hstored, hstored']

theorem chunkLast_activates {g : ImageInfo} (hlast : flags.testBit 1 = true) (hg : verifyArea (targetArea q 0) = g) (hvalid : g.valid ≠ false)
    (hnew : ¬ g.sv < q.trust.counter) (hactivate : flags.testBit 2 ≠ false)
    (howner : q.trust.owner0.state ≠ .active ∧ q.trust.owner1.state ≠ .active) (hidle : q.pwr.state = .recovery ∨ q.regionsBusy = false) :
    chunkLast q 0 flags = ({ status := .ok, body := imageBody g }, { q with fw := activated q.fw g q.now.ns }) := by
  rw [chunkLast_verified hlast hg hvalid hnew, if_neg hactivate, if_neg (not_or.2 howner), activate_allowed hidle]
  rfl

/-! ### The request as it runs -/

/-- What the request comes to once its chunk has been refused, has been written, or waits for the erase of a sector. -/
def chunkRan (x : Kz) (target flags : Byte) : Except Status Bool → Ran × Kz
  | .error st => (⟨.done { status := st }, [], 0⟩, x)
  | .ok true => (⟨.wait .erase, [], 1⟩, x)
  | .ok false => (⟨.done (chunkLast x target.toNat flags.toNat).1, [], 0⟩, (chunkLast x target.toNat flags.toNat).2)

section
variable {off : Word} {target flags : Byte} {x : Kz} (hr : Runs m h (.fwChunk off target flags d))
include hr

/-- What the request comes to as it starts is what `runReq` makes of `chunkWrite`. -/
theorem firstRun_chunk {v : Except Status Bool}
    (hwrite : chunkWrite (started m h (.fwChunk off target flags d)) off.toNat target.toNat flags.toNat d = (v, x)) :
    firstRun m h (.fwChunk off target flags d) = chunkRan x target flags v := by
  obtain ⟨-, hheld, hsince, hbody⟩ := runs_passes hr
  by_cases hrec : m.pwr.state = .recovery
  · have hrec' : (started m h (.fwChunk off target flags d)).pwr.state = .recovery := hrec
    rcases v with st | _ | _ <;> simp [firstRun, runReq, waitsFor, hsince, hbody, hrec', inRecovery, hwrite, chunkRan]
  · have hrec' : (started m h (.fwChunk off target flags d)).pwr.state ≠ .recovery := hrec
    have hheld' : covers (sess m h).leases .module = true := hheld hrec
    rcases v with st | _ | _ <;> simp [firstRun, runReq, waitsFor, needs, hsince, hbody, hrec', hheld', hwrite, chunkRan]
end

/-! ### The end of an erase (R567) -/

section
variable {p : Nat} {x : Running} {off : Word} {target flags : Byte}

/-- The block once the chunk that waited for an erase has been answered. -/
def eraseAnswered (m : Kz) (p : Nat) (x : Running) : Kz :=
  (m.modSess p fun s => { s with
    running := none,
    tags := s.tags.map fun t => if t.tag.toNat = x.tag.toNat then { t with resp := some ⟨cmdCode x.req, .ok, []⟩ } else t }).emit
    (.response p ⟨x.via, (m.port p).session.version.toNat, (m.port p).sessionId.toNat⟩ x.seq.toNat x.tag.toNat (cmdCode x.req) .ok [] false)

theorem port_eraseAnswered (y : Nat) : (eraseAnswered m p x).port y = if y = p then { m.port p with session := { (m.port p).session with
    running := none,
    tags := (m.port p).session.tags.map fun t =>
      if t.tag.toNat = x.tag.toNat then { t with resp := some ⟨cmdCode x.req, .ok, []⟩ } else t } } else m.port y :=
  Kz.port_modSess m p y fun s => { s with
    running := none,
    tags := s.tags.map fun t => if t.tag.toNat = x.tag.toNat then { t with resp := some ⟨cmdCode x.req, .ok, []⟩ } else t }

theorem quiet_eraseAnswered (hq : Quiet m) : Quiet (eraseAnswered m p x) := by
  intro y hy
  rw [port_eraseAnswered]
  split
  · next heq => exact heq ▸ hq y hy
  · exact hq y hy

theorem respond_erase (hq : Quiet m) (hopen : (m.port p).session.isOpen = true) :
    respond m p x.via x.seq.toNat x.tag.toNat (cmdCode x.req) { status := .ok } = eraseAnswered m p x := by
  have hhead : { (m.modSess p fun s => { s with
      running := none,
      tags := s.tags.map fun t => if t.tag.toNat = x.tag.toNat then { t with resp := some ⟨cmdCode x.req, .ok, []⟩ } else t }).headOf p with
      via := x.via } = (⟨x.via, (m.port p).session.version.toNat, (m.port p).sessionId.toNat⟩ : Head) := by
    simp [Kz.headOf, hopen]
  unfold respond
  dsimp only
  rw [show Answer.bytes { status := .ok } = [] from rfl, hhead]
  exact resetsDue_quiet (quiet_eraseAnswered hq)

theorem runReq_erased {held : List Lease} {version : Nat} (hmore : flags.toNat.testBit 1 = false) (hversion : 0x30 ≤ version)
    (hheld : m.pwr.state = .recovery ∨ covers held .module = true) :
    runReq m p held version (.fwChunk off target flags d) 1 [] = (⟨.done { status := .ok }, [], 1⟩, m) := by
  have hsince : ¬ version < sinceVersion (.fwChunk off target flags d) := Nat.not_lt.2 hversion
  have hneeds : (!decide (m.pwr.state = .recovery) && !covers held .module) = false := by
    rcases hheld with h | h <;> simp [h]
  simp [runReq, inRecovery, hsince, badBody, needs, waitsFor, chunkLast, hmore, hneeds]

theorem goOn_erase (hp : p < 4) (hq : Quiet m) (hrun : (m.port p).session.running = some x) (hreq : x.req = .fwChunk off target flags d)
    (hwait : x.wait = .erase) (hfrom : x.from_ = 1) (hbody : x.body = []) (hmore : flags.toNat.testBit 1 = false)
    (hopen : (m.port p).session.isOpen = true) (hversion : 0x30 ≤ (m.port p).session.version.toNat)
    (hheld : m.pwr.state = .recovery ∨ covers (m.port p).session.leases .module = true)
    (hidle : ∀ y, y < 4 → y ≠ p → (m.port y).session.running = none) (horphans : ∀ y, y < 4 → (m.port y).orphans = []) :
    goOn m .erase = eraseAnswered m p x := by
  have hother (y : Nat) (hne : y ≠ p) : (eraseAnswered m p x).port y = m.port y := (port_eraseAnswered y).trans (if_neg hne)
  have hsettle : settleRun m p x ⟨.done { status := .ok }, [], 1⟩ = eraseAnswered m p x := by
    unfold settleRun
    dsimp only
    have hresp : respond m p x.via x.seq.toNat x.tag.toNat (cmdCode x.req) (Ran.answer ⟨.done { status := .ok }, [], 1⟩ { status := .ok }) =
        eraseAnswered m p x := respond_erase hq hopen
    rw [if_pos hopen, hresp, hreq]
  refine foldl_once (a := p) (mem_upTo.2 hp) List.nodup_range (fun y hy hne => ?_) ?_ fun y hy hne => ?_
  · simp [hidle y (mem_upTo.1 hy) hne, horphans y (mem_upTo.1 hy)]
  · have horphan : ((eraseAnswered m p x).port p).orphans = [] := by
      rw [port_eraseAnswered, if_pos rfl]
      exact horphans p hp
    simp only [hrun, hwait, if_true, hreq, hfrom, hbody, runReq_erased hmore hversion hheld, hsettle, horphan]
    rfl
  · simp [hother y hne, hidle y (mem_upTo.1 hy) hne, horphans y (mem_upTo.1 hy)]

theorem goOn_idle {w : Wait} (hidle : Idle m) : goOn m w = m :=
  foldl_id _ _ fun y hy => by
    obtain ⟨hrun, horphan⟩ := hidle y (mem_upTo.1 hy)
    simp [hrun, horphan]
end

/-! ### Attestation (R575, R577, R578) -/

/-- What ATTEST answers of an object: the part that it names, or BAD_VALUE. -/
def partOf (b : List Byte) (part : Nat) : Answer :=
  if part < (b.length + 1199) / 1200 then
    { status := .ok, body := be 4 b.length ++ be 1 ((b.length + 1199) / 1200) ++ be 3 0 ++ slice b (1200 * part) 1200 }
  else { status := .badValue }

theorem partOf_eq {b : List Byte} {part : Nat} {x : Kz} : (if (b.length + 1199) / 1200 ≤ part then (({ status := .badValue } : Answer), x) else
    ({ status := .ok, body := be 4 b.length ++ be 1 ((b.length + 1199) / 1200) ++ be 3 0 ++ slice b (1200 * part) 1200 }, x)) =
    (partOf b part, x) := by
  unfold partOf
  by_cases hpart : part < (b.length + 1199) / 1200
  · rw [if_neg (Nat.not_le.2 hpart), if_pos hpart]
  · rw [if_pos (Nat.not_lt.1 hpart), if_neg hpart]

section
variable {p part obj : Nat} {nonce b : List Byte}

theorem attest_refused (hbad : m.trust.identOk = false ∨ 1 < obj) :
    attest m p nonce obj part = ({ status := if m.trust.identOk = false then .identFault else .badValue }, m) := by
  unfold attest
  by_cases hident : m.trust.identOk = false
  · rw [if_pos hident]
    exact if_pos (by simp [hident])
  · rw [if_neg hident]
    exact (if_neg (by simp [hident])).trans (if_pos (hbad.resolve_left hident))

theorem attest_known (hident : m.trust.identOk = true) (hknown : (m.port p).session.quote = some (b, nonce)) :
    attest m p nonce 0 part = (partOf b part, m) := by
  unfold attest
  rw [if_neg (by simp [hident]), if_neg (by decide), ← partOf_eq]
  simp [hknown]

theorem attest_certificate (hident : m.trust.identOk = true) :
    attest m p nonce 1 part = (partOf (fit 5377 Config.certificate) part, m) := by
  unfold attest
  rw [if_neg (by simp [hident]), if_neg (by decide), ← partOf_eq]
  generalize fit 5377 Config.certificate = b
  simp

theorem attest_fresh (hident : m.trust.identOk = true)
    (hnew : (m.port p).session.quote = none ∨ (m.port p).session.quote.map (fun x => x.2) ≠ some nonce) :
    attest m p nonce 0 part = (partOf (quoteOf m nonce) part, m.modSess p fun x => { x with quote := some (quoteOf m nonce, nonce) }) := by
  unfold attest
  rw [if_neg (by simp [hident]), if_neg (by decide), ← partOf_eq]
  cases hquote : (m.port p).session.quote with
  | none => simp
  | some q =>
    have hne : q.2 ≠ nonce := by simpa [hquote] using hnew
    simp [hne]
end

/-- What an answer of ATTEST says of the session and of the wire. -/
theorem answered_partOf {n : Kz} {r : Request} {b : List Byte} {part : Nat} {f : Session → Session}
    (hans : Answered m n h r (partOf b part).status (partOf b part).bytes f) :
    if part < (b.length + 1199) / 1200 then
      Answered m n h r .ok (be 4 b.length ++ be 1 ((b.length + 1199) / 1200) ++ be 3 0 ++ slice b (1200 * part) 1200) f
    else Answered m n h r .badValue (Detail.bytes noDetail) f := by
  unfold partOf at hans
  split_ifs at hans ⊢
  · exact hans
  · exact hans

theorem firstRun_attest {nonce : List Byte} {obj part : Byte} (hr : Runs m h (.attest nonce obj part)) {a : Answer} {x : Kz}
    (hattest : attest (started m h (.attest nonce obj part)) h.port.val nonce obj.toNat part.toNat = (a, x)) :
    firstRun m h (.attest nonce obj part) = (⟨.done a, [], 0⟩, x) := by
  obtain ⟨-, -, hsince, hbody⟩ := runs_passes hr
  have hne := runs_not_recovery hr rfl
  simp [firstRun, runReq, needs, waitsFor, hsince, hbody, hne, hattest]
end

end Sys2Proof.Machine
namespace Sys2Proof.Safety
open Machine

section
variable {c : Instr} {s : State} {t : Stamp} {m : Kz} {h : Hdr} {off : Word} {target flags : Byte} {d : List Byte} {F G : Firmware}

/-- A chunk that is written at once is answered as what follows it says. -/
theorem after_chunk {a : Answer} (hm : s.kz.advance t = m) (hc : exec c s = s.at_ t fun m => arrive m h (.fwChunk off target flags d))
    (hr : Runs m h (.fwChunk off target flags d))
    (hwrite : chunkWrite (started m h (.fwChunk off target flags d)) off.toNat target.toNat flags.toNat d =
      (.ok false, { started m h (.fwChunk off target flags d) with fw := F }))
    (hlast : chunkLast { started m h (.fwChunk off target flags d) with fw := F } target.toNat flags.toNat =
      (a, { started m h (.fwChunk off target flags d) with fw := G })) :
    After c s fun n => n = { m with ports := n.ports, wire := n.wire, fw := G } ∧ Answered m n h (.fwChunk off target flags d) a.status a.bytes fun x => x := by
  have hfirst := firstRun_chunk hr hwrite
  rw [chunkRan, hlast] at hfirst
  exact after_answered hm hc hr.1 (by simp) (by simp) hfirst rfl rfl

/-- A chunk that is refused is answered with its status and changes nothing (R567). -/
theorem after_chunk_refused {st : Status} (hst : st ≠ .ok) (hm : s.kz.advance t = m)
    (hc : exec c s = s.at_ t fun m => arrive m h (.fwChunk off target flags d)) (hr : Runs m h (.fwChunk off target flags d))
    (hwrite : chunkWrite (started m h (.fwChunk off target flags d)) off.toNat target.toNat flags.toNat d =
      (.error st, started m h (.fwChunk off target flags d))) :
    After c s fun n => n = { m with ports := n.ports, wire := n.wire } ∧
      Answered m n h (.fwChunk off target flags d) st (Detail.bytes noDetail) fun x => x := by
  have hbytes : Answer.bytes { status := st } = Detail.bytes noDetail := by simp [Answer.bytes, hst]
  rw [← hbytes]
  exact after_answered hm hc hr.1 (by simp) (by simp) (firstRun_chunk hr hwrite) rfl rfl

/-- A chunk that enters a sector waits for the sector's erase (R567). -/
theorem after_chunk_erases (hm : s.kz.advance t = m) (hc : exec c s = s.at_ t fun m => arrive m h (.fwChunk off target flags d))
    (hr : Runs m h (.fwChunk off target flags d))
    (hwrite : chunkWrite (started m h (.fwChunk off target flags d)) off.toNat target.toNat flags.toNat d =
      (.ok true, { started m h (.fwChunk off target flags d) with fw := F })) :
    After c s fun n => n = { m with ports := n.ports, wire := n.wire, fw := F } ∧ n.wire = m.wire ∧
      n.port h.port.val = { m.port h.port.val with
        session := { begun m h (.fwChunk off target flags d) none with
          running := some { seq := h.seq, tag := h.tag, req := .fwChunk off target flags d, via := viaOf m h, wait := .erase,
                            body := [], from_ := 1 } } } := by
  subst hm
  refine after_of_exec hc ?_
  generalize s.kz.advance t = m at hr hwrite ⊢
  have hd := hr.1
  obtain ⟨hslots, hreset, hgap⟩ := hd.1 _ h.port.isLt
  have hstart := startReq_queued hd
  rw [firstRun_chunk hr hwrite] at hstart
  have hport : ({ started m h (.fwChunk off target flags d) with fw := F } : Kz).port h.port.val =
      { m.port h.port.val with session := begun m h (.fwChunk off target flags d) none } := port_of_started rfl
  have hsettled : startReq (queued m h (.fwChunk off target flags d)) h.port.val (slotOf m h (.fwChunk off target flags d)) =
      ({ started m h (.fwChunk off target flags d) with fw := F } : Kz).modSess h.port.val fun _ =>
        { begun m h (.fwChunk off target flags d) none with
          running := some { seq := h.seq, tag := h.tag, req := .fwChunk off target flags d, via := viaOf m h, wait := .erase,
                            body := [], from_ := 1 } } := by
    rw [hstart, chunkRan, settleRun]
    dsimp only
    rw [Kz.modSess_const, hport]
    rfl
  have hquiet := quiet_modSess (x := { started m h (.fwChunk off target flags d) with fw := F }) (h := h) hd.1
    (fun p hp => port_started_of_ne hp)
    (y := { begun m h (.fwChunk off target flags d) none with
      running := some { seq := h.seq, tag := h.tag, req := .fwChunk off target flags d, via := viaOf m h, wait := .erase,
                        body := [], from_ := 1 } }) hslots hreset hgap
  rw [arrive_due hd (by simp), pump_queued hd (hsettled ▸ hquiet), hsettled]
  refine ⟨rfl, rfl, ?_⟩
  rw [Kz.port_modSess_same, hport]

section
variable (hm : s.kz.advance t = m) (hc : exec c s = s.at_ t fun m => arrive m h (.fwChunk off 0 flags d)) (hr : Runs m h (.fwChunk off 0 flags d))
  (hd : d ≠ []) (hlen : d.length ≤ 1204) (hfits : off.toNat + d.length ≤ fwSize) (hnext : flags.toNat.testBit 0 = false)
  (hoff : off.toNat = m.fw.fwPtr) (hinside : newSectors off.toNat d.length = [])
include hm hc hr hd hlen hfits hnext hoff hinside

/-- A chunk of an image that enters no new sector. -/
theorem after_image {a : Answer}
    (hlast : chunkLast { started m h (.fwChunk off 0 flags d) with fw := imageStored m.fw off.toNat false d } 0 flags.toNat =
      (a, { started m h (.fwChunk off 0 flags d) with fw := G })) :
    After c s fun n => n = { m with ports := n.ports, wire := n.wire, fw := G } ∧ Answered m n h (.fwChunk off 0 flags d) a.status a.bytes fun x => x := by
  have hwrite := chunkWrite_image (q := started m h (.fwChunk off 0 flags d)) hd hlen hfits (flags := flags.toNat)
    (by rw [hnext]; exact hoff)
  rw [hinside, hnext] at hwrite
  exact after_chunk hm hc hr hwrite hlast

/-- The last chunk of an image: its slot then holds no valid image, or one that the counter refuses, or one that is accepted (R568). -/
theorem after_lastImage (hlast : flags.toNat.testBit 1 = true) {a : Answer} {accepted : Kz → Prop}
    (harea : areaOf G (slotArea m.fw 1) = areaOf (imageStored m.fw off.toNat false d) (slotArea m.fw 1))
    (haccepts : ∀ n : Kz, n.fw = G → Answered m n h (.fwChunk off 0 flags d) a.status a.bytes (fun x => x) → accepted n)
    (hlastly : ∀ g, (verifyArea ((targetArea m 0).writes off.toNat d)) = g → g.valid ≠ false → ¬ g.sv < m.trust.counter →
      verifyArea (targetArea { started m h (.fwChunk off 0 flags d) with fw := imageStored m.fw off.toNat false d } 0) = g →
      chunkLast { started m h (.fwChunk off 0 flags d) with fw := imageStored m.fw off.toNat false d } 0 flags.toNat =
        (a, { started m h (.fwChunk off 0 flags d) with fw := G })) :
    After c s fun n => n = { m with ports := n.ports, wire := n.wire, fw := n.fw } ∧
      (n.fw = imageStored m.fw off.toNat false d ∨ n.fw = G) ∧ areaOf n.fw (slotArea m.fw 1) = (targetArea m 0).writes off.toNat d ∧
      (if (verifyArea ((targetArea m 0).writes off.toNat d)).valid = false then
        n.fw.verified = m.fw.verified ∧ Answered m n h (.fwChunk off 0 flags d) .imageInvalid (Detail.bytes noDetail) (fun x => x)
      else if (verifyArea ((targetArea m 0).writes off.toNat d)).sv < m.trust.counter then
        n.fw.verified = m.fw.verified ∧ Answered m n h (.fwChunk off 0 flags d) .rollback (Detail.bytes noDetail) (fun x => x)
      else accepted n) := by
  have hstored : areaOf (imageStored m.fw off.toNat false d) (slotArea m.fw 1) = (targetArea m 0).writes off.toNat d := by
    rw [slotB_imageStored, chunkArea_inside hinside]
    rfl
  have hg : verifyArea (targetArea { started m h (.fwChunk off 0 flags d) with fw := imageStored m.fw off.toNat false d } 0) =
      verifyArea ((targetArea m 0).writes off.toNat d) := by
    rw [← hstored]
    exact congrArg (fun i => verifyArea (areaOf (imageStored m.fw off.toNat false d) i)) (slotArea_imageStored ..)
  generalize verifyArea ((targetArea m 0).writes off.toNat d) = g at *
  have hverified : (imageStored m.fw off.toNat false d).verified = m.fw.verified := rfl
  by_cases hvalid : g.valid = false
  · obtain ⟨n, hexec, hn, hans⟩ := after_image hm hc hr hd hlen hfits hnext hoff hinside (chunkLast_invalid hlast hg hvalid)
    have hfw : n.fw = imageStored m.fw off.toNat false d := congrArg Kz.fw hn
    refine ⟨n, hexec, ?_⟩
    beta_reduce
    rw [if_pos hvalid, hfw]
    exact ⟨hn, .inl rfl, hstored, hverified, hans⟩
  · by_cases hold : g.sv < m.trust.counter
    · obtain ⟨n, hexec, hn, hans⟩ := after_image hm hc hr hd hlen hfits hnext hoff hinside (chunkLast_rollback hlast hg hvalid hold)
      have hfw : n.fw = imageStored m.fw off.toNat false d := congrArg Kz.fw hn
      refine ⟨n, hexec, ?_⟩
      beta_reduce
      rw [if_neg hvalid, if_pos hold, hfw]
      exact ⟨hn, .inl rfl, hstored, hverified, hans⟩
    · obtain ⟨n, hexec, hn, hans⟩ := after_image hm hc hr hd hlen hfits hnext hoff hinside (hlastly g rfl hvalid hold hg)
      have hfw : n.fw = G := congrArg Kz.fw hn
      have hholds := haccepts n hfw hans
      refine ⟨n, hexec, ?_⟩
      beta_reduce
      rw [if_neg hvalid, if_neg hold, hfw]
      exact ⟨hn, .inr rfl, harea.trans hstored, hholds⟩
end
end

/-- Settles O48: `after_chunk` answers a chunk that is written at once and `after_chunk_erases` keeps one that waits; `after_lastImage` is the
case split of a last chunk of an image, and `attest_fresh`, `attest_known` and `attest_certificate` are the objects of ATTEST. -/
theorem firmwareChunksAndAttestation : Obligations.FirmwareChunksAndAttestation := by
  unfold Obligations.FirmwareChunksAndAttestation
  intro s t m hm
  refine ⟨?stores, ?erases, ?elsewhere, ?badChunk, ?lastImage, ?configStores, ?configErases, ?configLast, ?configElsewhere, ?activates,
    ?ownerRequired, ?firstActivates, ?erased, ?idle, ?fresh, ?known, ?refused⟩
  case stores =>
    intro h off flags d hr hd hlen hfits hnext hmore hoff hinside
    obtain ⟨n, hexec, hn, hans⟩ := after_image (c := .fwChunkFirmware t h off flags d) hm rfl hr hd hlen hfits hnext hoff hinside (chunkLast_more hmore)
    have hfw : n.fw = imageStored m.fw off.toNat false d := congrArg Kz.fw hn
    refine ⟨n, hexec, ?_, ?_, ?_, ?_, hans⟩
    · rw [hfw]
      exact hn
    · rw [hfw]
      exact imageStored_frame m.fw off.toNat false d
    · rw [hfw]
      exact slotA_imageStored ..
    · rw [targetArea, if_pos rfl, hfw, slotArea_imageStored, slotB_imageStored, chunkArea_inside hinside]
      rfl
  case erases =>
    intro h off flags d hr hd hlen hfits hoff henters
    have hwrite := chunkWrite_image (q := started m h (.fwChunk off 0 flags d)) hd hlen hfits hoff
    rw [show (!(newSectors off.toNat d.length).isEmpty) = true by simp [henters]] at hwrite
    obtain ⟨n, hexec, hn, hwire, hport⟩ := after_chunk_erases (c := .fwChunkFirmware t h off flags d) hm rfl hr hwrite
    have hfw : n.fw = imageStored m.fw off.toNat (flags.toNat.testBit 0) d := congrArg Kz.fw hn
    refine ⟨n, hexec, ?_, ?_, ?_, ?_, hwire, hport⟩
    · rw [hfw]
      exact hn
    · rw [hfw]
      exact imageStored_frame m.fw off.toNat _ d
    · rw [hfw]
      exact slotA_imageStored ..
    · rw [targetArea, if_pos rfl, hfw, slotArea_imageStored, slotB_imageStored]
      rfl
  case elsewhere =>
    intro h off flags d hr hd hlen hnext hoff
    exact after_chunk_refused (by decide) hm rfl hr (chunkWrite_elsewhere (by decide) hd hlen hnext hoff)
  case badChunk =>
    intro h off flags d hr hbad
    refine after_chunk_refused (by decide) hm rfl hr ?_
    rcases hbad with hd | hlen | ⟨hnext, hoff, hfull⟩
    · exact chunkWrite_bad (.inr (.inl hd))
    · exact chunkWrite_bad (.inr (.inr hlen))
    · by_cases hd : d = []
      · exact chunkWrite_bad (.inr (.inl hd))
      · by_cases hlen : 1204 < d.length
        · exact chunkWrite_bad (.inr (.inr hlen))
        · exact chunkWrite_full (by decide) hd (Nat.not_lt.1 hlen) hnext hoff hfull
  case lastImage =>
    intro h off flags d hr hd hlen hfits hnext hlast hactivate hoff hinside
    obtain ⟨n, hexec, hn, hfw, harea, hverdict⟩ := after_lastImage (c := .fwChunkFirmware t h off flags d) hm rfl hr hd hlen hfits hnext hoff hinside
      hlast (G := { imageStored m.fw off.toNat false d with verified := some (verifyArea ((targetArea m 0).writes off.toNat d)) })
      (accepted := fun n => n.fw.verified = some (verifyArea ((targetArea m 0).writes off.toNat d)) ∧
        Answered m n h (.fwChunk off 0 flags d) .ok (imageBody (verifyArea ((targetArea m 0).writes off.toNat d))) fun x => x)
      rfl (fun n hfw hans => ⟨congrArg Firmware.verified hfw, hans⟩)
      fun g hgood hvalid hnew hg => hgood ▸ (chunkLast_verified hlast hg hvalid hnew).trans (if_pos hactivate)
    have hstored : slotArea n.fw 1 = slotArea m.fw 1 ∧ n.fw.fwPtr = off.toNat + d.length := by
      rcases hfw with hfw | hfw <;> rw [hfw] <;> exact ⟨slotArea_imageStored m.fw off.toNat false d 1, rfl⟩
    obtain ⟨hslot, hptr⟩ := hstored
    have htarget : targetArea n 0 = (targetArea m 0).writes off.toNat d := by
      rw [← harea, ← hslot]
      rfl
    refine ⟨n, hexec, ?_⟩
    beta_reduce
    rw [htarget]
    exact ⟨hn, rfl, hptr, hverdict⟩
  case configStores =>
    intro h off flags d hr hd hlen hfits hnext hmore hoff hinside
    have hwrite := chunkWrite_config (q := started m h (.fwChunk off 1 flags d)) hd hlen hfits (flags := flags.toNat) (by rw [hnext]; exact hoff)
    rw [hinside, configStored, chunkArea_inside hinside] at hwrite
    exact after_chunk hm rfl hr hwrite (chunkLast_more hmore)
  case configErases =>
    intro h off flags d hr hd hlen hfits hoff henters
    have hwrite := chunkWrite_config (q := started m h (.fwChunk off 1 flags d)) hd hlen hfits hoff
    rw [show (!(newSectors off.toNat d.length).isEmpty) = true by simp [henters]] at hwrite
    exact after_chunk_erases hm rfl hr hwrite
  case configLast =>
    intro h off flags d hr hd hlen hfits hnext hlast hoff hinside
    have hwrite := chunkWrite_config (q := started m h (.fwChunk off 1 flags d)) hd hlen hfits (flags := flags.toNat) (by rw [hnext]; exact hoff)
    rw [hinside, configStored, chunkArea_inside hinside] at hwrite
    obtain ⟨n, hexec, hn, hans⟩ := after_chunk (c := .fwChunkConfiguration t h off flags d) hm rfl hr hwrite (chunkLast_config hlast)
    refine ⟨n, hexec, hn, ?_⟩
    have hfw : n.fw = { m.fw with cfgPtr := off.toNat + d.length, cfgArea := m.fw.cfgArea.writes off.toNat d } := congrArg Kz.fw hn
    rw [hfw]
    by_cases hcrc : CrcHolds { m.fw with cfgPtr := off.toNat + d.length, cfgArea := m.fw.cfgArea.writes off.toNat d }
    · rw [if_pos hcrc, if_pos hcrc]
      exact (congrArg (fun st => Answered m n h (.fwChunk off 1 flags d) st (Answer.bytes { status := st }) fun x => x) (if_pos hcrc)).mp hans
    · rw [if_neg hcrc, if_neg hcrc]
      exact (congrArg (fun st => Answered m n h (.fwChunk off 1 flags d) st (Answer.bytes { status := st }) fun x => x) (if_neg hcrc)).mp hans
  case configElsewhere =>
    intro h off flags d hr hd hlen hnext hoff
    exact after_chunk_refused (by decide) hm rfl hr (chunkWrite_elsewhere (by decide) hd hlen hnext hoff)
  case activates =>
    intro h off first d hr hd hlen hfits hfirst hoff hinside howner hidle
    subst hfirst
    obtain ⟨n, hexec, hn, -, harea, hverdict⟩ := after_lastImage (c := .fwChunkActivate t h off false d) (flags := 6) hm rfl hr hd hlen hfits (by decide) hoff
      hinside (by decide) (a := { status := .ok, body := imageBody (verifyArea ((targetArea m 0).writes off.toNat d)) })
      (G := activated (imageStored m.fw off.toNat false d) (verifyArea ((targetArea m 0).writes off.toNat d)) m.now.ns)
      (accepted := fun n => n.fw = activated (imageStored m.fw off.toNat false d) (verifyArea ((targetArea m 0).writes off.toNat d)) m.now.ns ∧
        Answered m n h (.fwChunk off 0 6 d) .ok (imageBody (verifyArea ((targetArea m 0).writes off.toNat d))) fun x => x)
      (areaOf_activated ..) (fun n hfw hans => ⟨hfw, hans⟩)
      fun g hgood hvalid hnew hg => hgood ▸ chunkLast_activates (q := { started m h (.fwChunk off 0 6 d) with fw := imageStored m.fw off.toNat false d })
        (by decide) hg hvalid hnew (by decide) howner hidle
    refine ⟨n, hexec, hn, harea, ?_⟩
    rw [if_neg Bool.false_ne_true]
    split_ifs at hverdict ⊢
    · exact hverdict
    · exact hverdict
    · obtain ⟨hfw, hans⟩ := hverdict
      refine ⟨?_, ?_, ?_, hans⟩
      · rw [hfw, activated_eq]
      · rw [hfw]
        exact activated_frame ..
      · rw [hfw]
        exact bootBlock_activated ..
  case ownerRequired =>
    intro h off first d hr hd hlen hfits hfirst hoff hinside howner
    subst hfirst
    obtain ⟨n, hexec, hn, -, harea, hverdict⟩ := after_lastImage (c := .fwChunkActivate t h off false d) (flags := 6) hm rfl hr hd hlen hfits (by decide) hoff
      hinside (by decide) (a := { status := .ownerRequired })
      (G := { imageStored m.fw off.toNat false d with verified := some (verifyArea ((targetArea m 0).writes off.toNat d)) })
      (accepted := fun n => n.fw = { imageStored m.fw off.toNat false d with verified := some (verifyArea ((targetArea m 0).writes off.toNat d)) } ∧
        Answered m n h (.fwChunk off 0 6 d) .ownerRequired (Detail.bytes noDetail) fun x => x)
      rfl (fun n hfw hans => ⟨hfw, hans⟩)
      fun g hgood hvalid hnew hg => hgood ▸ (chunkLast_verified (by decide) hg hvalid hnew).trans ((if_neg (by decide)).trans (if_pos howner))
    refine ⟨n, hexec, hn, harea, ?_⟩
    rw [if_neg Bool.false_ne_true]
    split_ifs at hverdict ⊢
    · exact hverdict
    · exact hverdict
    · obtain ⟨hfw, hans⟩ := hverdict
      refine ⟨congrArg Firmware.verified hfw, ?_, hans⟩
      rw [hfw]
      exact congrArg (fun f : Firmware => { f with verified := some (verifyArea ((targetArea m 0).writes off.toNat d)) })
        (imageStored_frame m.fw off.toNat false d)
  case firstActivates =>
    intro h off d hr hd hlen hoff
    have hfits : off.toNat + d.length ≤ fwSize := by
      rw [hoff]
      exact Nat.le_trans (by simpa using hlen) (by decide)
    have henters : newSectors off.toNat d.length ≠ [] := by
      have hpos : 0 < d.length := List.length_pos_iff.2 hd
      refine List.ne_nil_of_mem (a := 0) (List.mem_filter.2 ⟨mem_upTo.2 (by decide), ?_⟩)
      simp [hoff, hpos]
    have hwrite := chunkWrite_image (q := started m h (.fwChunk off 0 7 d)) (flags := (7 : Byte).toNat) hd hlen hfits (by simp [hoff])
    rw [show (!(newSectors off.toNat d.length).isEmpty) = true by simp [henters]] at hwrite
    obtain ⟨n, hexec, hn, hwire, hport⟩ := after_chunk_erases (c := .fwChunkActivate t h off true d) hm rfl hr hwrite
    have hfw : n.fw = imageStored m.fw off.toNat true d := congrArg Kz.fw hn
    refine ⟨n, hexec, ?_, ?_, ?_, hwire, hport⟩
    · rw [hfw]
      exact hn
    · rw [hfw]
      exact imageStored_frame m.fw off.toNat true d
    · rw [hfw]
      exact slotA_imageStored ..
  case erased =>
    intro p x off target flags d hq hrun hreq hwait hfrom hbody hmore hopen hversion hheld hidle horphans
    refine after_at (f := fun m => pump (goOn m .erase)) hm rfl ?_
    rw [goOn_erase p.isLt hq hrun hreq hwait hfrom hbody hmore hopen hversion hheld hidle horphans, pump_quiet (quiet_eraseAnswered hq)]
    refine ⟨rfl, ?_, ?_⟩
    · rw [eraseAnswered, hreq]
      exact List.mem_cons_self
    · rw [port_eraseAnswered, if_pos rfl]
  case idle =>
    intro hq hidle
    refine after_at (f := fun m => pump (goOn m .erase)) hm rfl ?_
    rw [goOn_idle hidle, pump_quiet hq]
  case fresh =>
    intro h nonce obj part hr hident hobj hnew
    subst hobj
    have hsession := congrArg PortState.session (port_of_started (m := m) (h := h) (r := .attest nonce 0 part) rfl)
    have hattest := attest_fresh (m := started m h (.attest nonce 0 part)) (p := h.port.val) (nonce := nonce) (part := part.toNat) hident
      (by rw [hsession]; exact hnew)
    have hports := ports_startedIn (m := m) (h := h) (r := .attest nonce 0 part) fun x => { x with quote := some (quoteOf m nonce, nonce) }
    obtain ⟨n, hexec, hn, hans⟩ := after_answeredIn (c := .attest t h nonce 0 part) (f := fun x => { x with quote := some (quoteOf m nonce, nonce) })
      hm rfl hr.1 (by simp) (by simp) (firstRun_attest hr hattest) rfl hports rfl rfl
    exact ⟨n, hexec, hn, answered_partOf hans⟩
  case known =>
    intro h nonce obj part q hr hident hknown
    have hsession := congrArg PortState.session (port_of_started (m := m) (h := h) (r := .attest nonce obj part) rfl)
    have hattest : attest (started m h (.attest nonce obj part)) h.port.val nonce obj.toNat part.toNat =
        (partOf q part.toNat, started m h (.attest nonce obj part)) := by
      rcases hknown with ⟨rfl, hquote⟩ | ⟨rfl, rfl⟩
      · exact attest_known hident (by rw [hsession]; exact hquote)
      · exact attest_certificate hident
    obtain ⟨n, hexec, hn, hans⟩ := after_answered (c := .attest t h nonce obj part) hm rfl hr.1 (by simp) (by simp) (firstRun_attest hr hattest) rfl rfl
    exact ⟨n, hexec, hn, answered_partOf hans⟩
  case refused =>
    intro h nonce obj part hr hbad
    have hattest := attest_refused (m := started m h (.attest nonce obj part)) (p := h.port.val) (nonce := nonce) (part := part.toNat) hbad
    obtain ⟨n, hexec, hn, hans⟩ := after_answered (c := .attest t h nonce obj part) hm rfl hr.1 (by simp) (by simp) (firstRun_attest hr hattest) rfl rfl
    refine ⟨n, hexec, hn, ?_⟩
    have hbytes : Answer.bytes { status := if m.trust.identOk = false then .identFault else .badValue } = Detail.bytes noDetail := by
      split <;> rfl
    rw [← hbytes]
    exact hans

end Sys2Proof.Safety
end

section
/-! SUPPORT. The family 19_power.md: supply dips and module resets (R564, R591, R593, R596, R613, R614, R649, R664). -/
namespace Sys2Proof.Machine
open Safety

section
variable {m : Kz}

/-! ### Supply dips (R593, R614) -/

theorem Kz.logFrom_eq (m : Kz) (i code cls kind idx second value : Nat) :
    m.logFrom i code cls kind idx second value = { m with log := (m.logFrom i code cls kind idx second value).log } :=
  Kz.logEntry_eq ..

theorem dipStart_starts {vin : Nat} (hdip : m.pwr.dip = none) (hstate : m.pwr.state ≠ .off) (hlow : vin < 435) : dipStart m vin = { m with
    pwr := { m.pwr with vinNow := vin, vinMin := min m.pwr.vinMin vin, dip := some (m.now.tick, vin) }
    stats := (m.count .MOD_SUPPLY_WARN 0 1).stats
    regs := (m.mark F.MOD_PWR_STAT.SUPPLY_WARN_SEEN 0).regs
    spans := (m.openSpan .dip).spans } := by
  unfold dipStart
  rw [if_neg (by simp [hdip, hstate, hlow])]
  dsimp only
  rw [Kz.openSpan_eq, Kz.openSpan_eq]
  rfl

theorem dipStart_not {vin : Nat} (h : m.pwr.dip.isSome = true ∨ m.pwr.state = .off ∨ 435 ≤ vin) : dipStart m vin = m :=
  if_pos (by simpa [or_assoc] using h)

theorem dipEnd_not {low vin : Nat} (h : m.pwr.dip = none ∨ vin ≤ 445) : dipEnd m low vin = m := by
  unfold dipEnd
  cases hdip : m.pwr.dip with
  | none => rfl
  | some x => exact if_pos (h.resolve_left (by simp [hdip]))

/-- The supply once a dip has ended. -/
def dipEnded (m : Kz) (low vin : Nat) : Kz := { m with
  pwr := { m.pwr with vinNow := vin, vinMin := min (min m.pwr.vinMin low) vin, dip := none }
  spans := (m.closeSpan .dip).spans }

theorem dipEnd_ends {low vin : Nat} {x : Nat × Nat} (hdip : m.pwr.dip = some x) (hhigh : 445 < vin) :
    dipEnd m low vin = (dipEnded m low vin).logFrom (x.1 * 1024) 0x0701 0 0 0 m.datum (min x.2 low) := by
  unfold dipEnd
  rw [hdip]
  exact if_neg (Nat.not_le.2 hhigh)

/-! ### Resets the module starts itself (R564, R649, R664) -/

theorem archiveSummary_eq (m : Kz) : archiveSummary m = { m with log := (archiveSummary m).log } := by
  have hfold (l : List (Nat × Nat × Nat)) (n : Kz) : (l.foldl (fun m x => m.toArchive ⟨0, m.datum, m.tb.epochSeq, 0, 3, x.1, 0x0F00, x.2.2, x.2.1⟩) n) =
      { n with log := (l.foldl (fun m x => m.toArchive ⟨0, m.datum, m.tb.epochSeq, 0, 3, x.1, 0x0F00, x.2.2, x.2.1⟩) n).log } := by
    induction l generalizing n with
    | nil => rfl
    | cons x l ih => exact ih _
  unfold archiveSummary
  dsimp only
  rw [hfold]

theorem moduleReset_running (hstate : m.pwr.state ≠ .boot) (cause : Nat) : moduleReset m cause = { ({} : Kz) with
    now := ⟨0, m.now.ns⟩
    fresh := m.fresh
    wire := m.wire
    fw := { ({} : Firmware) with
      block0 := m.fw.block0, block1 := m.fw.block1, area0 := m.fw.area0, area1 := m.fw.area1, cfgArea := m.fw.cfgArea
      failsA := m.fw.failsA, failsB := m.fw.failsB, failed := m.fw.failed, bootCount := (m.fw.bootCount + 1) % 256 }
    age := { ({} : Ageing) with ckpt := m.age.ckpt, recs := m.age.recs, ckptAt := m.age.ckptAt, recAt := m.age.recAt }
    trust := { ({} : Trust) with
      counter := m.trust.counter, owner0 := m.trust.owner0, owner1 := m.trust.owner1, nonces := m.trust.nonces }
    log := { ({} : EventLog) with archiveNext := m.log.archiveNext, archive := m.log.archive }
    pwr := { ({} : Power) with
      state := .off, pg := false, resetCause := cause, ovNow := m.pwr.ovNow, thermNow := m.pwr.thermNow
      nReset := m.pwr.nReset, resetComparator := m.pwr.resetComparator } } := by
  unfold moduleReset
  rw [if_neg hstate]

/-- What is left of power, memories and counters by a reset that the module starts itself. -/
theorem ownReset_spec (m : Kz) (cause : Nat) : (ownReset m cause).pwr = { ({} : Power) with
      state := .off
      pg := false
      resetCause := cause
      ovNow := m.pwr.ovNow
      thermNow := m.pwr.thermNow
      nReset := m.pwr.nReset
      resetComparator := m.pwr.resetComparator } ∧
    (ownReset m cause).ports = [] ∧ (ownReset m cause).rgns = [] ∧ (ownReset m cause).chans = [] ∧ (ownReset m cause).regs = {} ∧
    (ownReset m cause).trust.counter = m.trust.counter ∧ (ownReset m cause).fw.activationDue = none ∧ (ownReset m cause).age.recs = m.age.recs ∧
    (powered m.pwr.state = true → (ownReset m cause).age.ckpt = (checkpoint (archiveSummary m) true).age.ckpt) := by
  unfold ownReset
  by_cases hpow : powered m.pwr.state = true
  · rw [if_pos hpow, archiveSummary_eq]
    exact ⟨rfl, rfl, rfl, rfl, rfl, rfl, rfl, rfl, fun _ => rfl⟩
  · rw [if_neg hpow]
    exact ⟨rfl, rfl, rfl, rfl, rfl, rfl, rfl, rfl, fun h => absurd h hpow⟩

theorem quiet_noPorts (hports : m.ports = []) : Quiet m := fun p _ => by simp [Kz.port, hports]

/-- R649: FATAL_RESET while FATAL is set. -/
theorem pairWrite_fatalReset {p : Nat} {v : Word} (hacc : Accepts m p .MOD_ERR_CTRL 0 v) (hset : F.MOD_ERR_CTRL.FATAL_RESET.of v = 1)
    (hfatal : m.errs.fatal = true) : pairWrite m p .MOD_ERR_CTRL 0 v = (ownReset m 16).emit (okPair p .MOD_ERR_CTRL 0) := by
  obtain ⟨-, ⟨hopen, hpow, hrestart⟩, hheld, hlock, hcheck⟩ := hacc
  have hwrite : writeReg m .MOD_ERR_CTRL 0 v = (.ok, ownReset m 16) := by
    unfold writeReg
    rw [if_neg (by simp [hlock])]
    dsimp only
    rw [hcheck]
    have hreset : (F.MOD_ERR_CTRL.FATAL_RESET.of v = 1 && m.errs.fatal) = true := by simp [hset, hfatal]
    exact congrArg (Prod.mk PairEnd.ok) (if_pos hreset)
  obtain ⟨-, hports, -⟩ := ownReset_spec m 16
  have hquiet : Quiet ((ownReset m 16).emit (okPair p .MOD_ERR_CTRL 0)) := quiet_noPorts hports
  unfold pairWrite
  dsimp only
  rw [if_neg (by simp [hopen, hpow, hrestart]), writeWord_reg place_MOD_ERR_CTRL hheld, hwrite]
  dsimp only
  exact (congrArg pump (resetsDue_quiet hquiet)).trans (pump_quiet hquiet)
end

end Sys2Proof.Machine
namespace Sys2Proof.Safety
open Machine

/-- Settles O29: a dip starts and ends as `dipStart_starts` and `dipEnd_ends` say; a reset from outside is `moduleReset` itself, and one that
the module starts itself leaves what `ownReset_spec` says. -/
theorem supplyWarningsAndResets : Obligations.SupplyWarningsAndResets := by
  unfold Obligations.SupplyWarningsAndResets
  intro s t m hm
  refine ⟨?starts, ?startsNot, ?ends, ?endsNot, ?clears, ?clearsNot, ?brownOut, ?nReset, ?powerOn, ?booting, ?noBrownOut, ?rail, ?railNot,
    ?activation, ?activationNot, ?fatal, ?fatalNot⟩
  case starts =>
    intro vin hdip hstate hlow
    exact after_at (f := fun m => dipStart m vin.toNat) hm rfl (dipStart_starts hdip hstate hlow)
  case startsNot =>
    intro vin hnot
    exact after_at (f := fun m => dipStart m vin.toNat) hm rfl (dipStart_not hnot)
  case ends =>
    intro low vin x hdip hhigh
    refine after_at (f := fun m => dipEnd m low.toNat vin.toNat) hm rfl ?_
    rw [dipEnd_ends hdip hhigh]
    exact ⟨Kz.logFrom_eq .., rfl, rfl⟩
  case endsNot =>
    intro low vin hnot
    exact after_at (f := fun m => dipEnd m low.toNat vin.toNat) hm rfl (dipEnd_not hnot)
  case clears =>
    intro p v hacc hclr
    refine after_at (f := fun m => pairWrite m p.val .MOD_VIN 0 v) hm rfl ?_
    have heffect : regEffect (storeReg m .MOD_VIN 0 v) .MOD_VIN 0 (m.cfgWord .MOD_VIN 0) v =
        { m with pwr := { m.pwr with vinMin := m.pwr.vinNow } } := if_pos hclr
    rw [pairWrite_accepts hacc place_MOD_VIN (by decide) (by decide) (by rw [heffect]), heffect]
  case clearsNot =>
    intro p v hacc hclr
    refine after_at (f := fun m => pairWrite m p.val .MOD_VIN 0 v) hm rfl ?_
    have heffect : regEffect (storeReg m .MOD_VIN 0 v) .MOD_VIN 0 (m.cfgWord .MOD_VIN 0) v = m := if_neg (by simp [hclr])
    rw [pairWrite_accepts hacc place_MOD_VIN (by decide) (by decide) (by rw [heffect]), heffect]
  case brownOut =>
    intro v hstate hlow
    refine after_at (f := fun m => outsideReset m (.brownOut v)) hm rfl ((if_neg (Nat.not_le.2 hlow)).trans ?_)
    exact moduleReset_running (m := m.modPower fun p => { p with resetComparator := true }) hstate 2
  case nReset =>
    intro hstate
    exact after_at (f := fun m => outsideReset m .nReset) hm rfl
      (moduleReset_running (m := m.modPower fun p => { p with nReset := false }) hstate 4)
  case powerOn =>
    intro hstate
    exact after_at (f := fun m => outsideReset m .powerOn) hm rfl
      (congrArg (fun z => modFw z fun f => { f with failsA := 0, failsB := 0, bootCount := 0 }) (moduleReset_running hstate 1))
  case booting =>
    intro x hstate hboot
    refine after_at (f := fun m => outsideReset m .nReset) hm rfl ?_
    have hfails : attemptFails m.fw = { m.fw with failed := x.version, failsA := m.fw.failsA + 1 } := by
      unfold attemptFails
      dsimp only
      rw [hboot]
      rfl
    have hattempt : (if (m.modPower fun p => { p with nReset := false }).pwr.state = .boot then
        attemptFails (m.modPower fun p => { p with nReset := false }).fw else (m.modPower fun p => { p with nReset := false }).fw) =
        { m.fw with failed := x.version, failsA := m.fw.failsA + 1 } := (if_pos hstate).trans hfails
    unfold outsideReset moduleReset
    dsimp only
    rw [hattempt]
    exact ⟨rfl, rfl, rfl, rfl, rfl⟩
  case noBrownOut =>
    intro v hhigh
    exact after_at (f := fun m => outsideReset m (.brownOut v)) hm rfl (if_pos hhigh)
  case rail =>
    intro r mv hstate hon hlow
    refine after_at (f := fun m => hubRailFault m r mv) hm rfl ?_
    unfold hubRailFault
    rw [if_neg (by simp [hon, under, hlow]), moduleReset_running hstate]
  case railNot =>
    intro r mv hnot
    refine after_at (f := fun m => hubRailFault m r mv) hm rfl (if_pos ?_)
    rcases hnot with hoff | hhigh
    · simp [hoff]
    · simp [under, Nat.not_lt.2 hhigh]
  case activation =>
    intro d hd hdue
    refine after_at (f := fun m => activationReset m) hm rfl ?_
    unfold activationReset
    rw [hd]
    dsimp only
    rw [if_pos hdue]
    exact ownReset_spec m 8
  case activationNot =>
    intro d hnot
    refine after_at (f := fun m => activationReset m) hm rfl ?_
    unfold activationReset
    rcases hnot with hnone | ⟨hd, hearly⟩
    · rw [hnone]
    · rw [hd]
      exact if_neg (Nat.not_le.2 hearly)
  case fatal =>
    intro p v hacc hset hfatal
    refine after_at (f := fun m => pairWrite m p.val .MOD_ERR_CTRL 0 v) hm rfl ?_
    rw [pairWrite_fatalReset hacc hset hfatal]
    obtain ⟨hpwr, hports, hrgns, hchans, hregs, hcounter, -⟩ := ownReset_spec m 16
    exact ⟨hpwr, hports, hrgns, hchans, hregs, hcounter⟩
  case fatalNot =>
    intro p v hacc hnot
    refine after_at (f := fun m => pairWrite m p.val .MOD_ERR_CTRL 0 v) hm rfl ?_
    have heffect : regEffect (storeReg m .MOD_ERR_CTRL 0 v) .MOD_ERR_CTRL 0 (m.cfgWord .MOD_ERR_CTRL 0) v = storeReg m .MOD_ERR_CTRL 0 v := by
      have hkeeps : ¬ (F.MOD_ERR_CTRL.FATAL_RESET.of v = 1 && m.errs.fatal) = true := by
        rcases hnot with hclear | hfatal
        · simp [hclear]
        · simp [hfatal]
      exact if_neg hkeeps
    rw [pairWrite_accepts hacc place_MOD_ERR_CTRL (by decide) (by decide) (by rw [heffect]; rfl), heffect]

end Sys2Proof.Safety
end

section
/-! SUPPORT. The families 18 to 20: what the end of work in a region, the end of commands in execution and a notification leave alone, and
HOLD of a region and of the module (R601, R602, R604, R609). -/
namespace Sys2Proof.Machine
open Safety

section
variable {m n l : Kz}

/-- What the end of work, the end of commands and messages leave of the block: all but the work's own state. -/
def holdFrame (m : Kz) : Kz := { m with
  pwr := { m.pwr with calQueue := [], passRunning := false }, rgns := [], chans := [], stats := {}, log := {}, spans := [], ports := [], wire := [] }

/-- Whether a region restarts, and what caused its last restart. -/
def restarted (r : Region) : Bool × Nat := (r.err.restarting, r.err.lastCause)

/-- `n` is what the end of work, the end of commands and messages made of `m`: the frame, the regions' power states and restarts and the quiet
ports are kept. -/
structure WorkEnds (m n : Kz) : Prop where
  frame : holdFrame n = holdFrame m
  rgn : ∀ j, (n.rgn j).pwr = (m.rgn j).pwr
  restart : ∀ j, restarted (n.rgn j) = restarted (m.rgn j)
  quiet : Quiet m → Quiet n

namespace WorkEnds

theorem refl (m : Kz) : WorkEnds m m := ⟨rfl, fun _ => rfl, fun _ => rfl, id⟩

theorem trans (h : WorkEnds m n) (h' : WorkEnds n l) : WorkEnds m l :=
  ⟨h'.frame.trans h.frame, fun j => (h'.rgn j).trans (h.rgn j), fun j => (h'.restart j).trans (h.restart j), fun hq => h'.quiet (h.quiet hq)⟩

theorem fold (h : WorkEnds m n) {α : Type} {f : Kz → α → Kz} (hf : ∀ x a, WorkEnds x (f x a)) (as : List α) : WorkEnds m (as.foldl f n) := by
  induction as generalizing n with
  | nil => exact h
  | cons a as ih => exact ih (h.trans (hf n a))

theorem same (h : WorkEnds m n) (hframe : holdFrame l = holdFrame n) (hrgns : l.rgns = n.rgns) (hports : l.ports = n.ports) : WorkEnds m l :=
  h.trans ⟨hframe, fun j => by rw [Kz.rgn, Kz.rgn, hrgns], fun j => by rw [Kz.rgn, Kz.rgn, hrgns], fun hq => quiet_ofPorts hq hports⟩

theorem modChan (h : WorkEnds m n) (c : Nat) (f : Channel → Channel) : WorkEnds m (n.modChan c f) := h.same rfl rfl rfl

theorem modRgn (h : WorkEnds m n) (k : Nat) {f : Region → Region} (hf : ∀ r, (f r).pwr = r.pwr ∧ restarted (f r) = restarted r) :
    WorkEnds m (n.modRgn k f) := by
  refine h.trans ⟨rfl, fun j => ?_, fun j => ?_, fun hq => quiet_ofPorts hq rfl⟩ <;> rw [Kz.rgn_modRgn] <;> split
  · next heq => rw [(hf _).1, heq]
  · rfl
  · next heq => rw [(hf _).2, heq]
  · rfl

theorem modErr (h : WorkEnds m n) (k : Nat) {f : RgnErr → RgnErr} (hf : ∀ e, (f e).restarting = e.restarting ∧ (f e).lastCause = e.lastCause) :
    WorkEnds m (n.modErr k f) := h.modRgn k fun r => ⟨rfl, Prod.ext (hf r.err).1 (hf r.err).2⟩

theorem modAcq (h : WorkEnds m n) (k : Nat) (f : RgnAcq → RgnAcq) : WorkEnds m (n.modAcq k f) := h.modRgn k fun _ => ⟨rfl, rfl⟩

theorem modLane (h : WorkEnds m n) (k : Nat) (f : Lane → Lane) : WorkEnds m (n.modLane k f) := h.modRgn k fun _ => ⟨rfl, rfl⟩

theorem count (h : WorkEnds m n) (k : RegKind) (i v : Nat) : WorkEnds m (n.count k i v) := h.same rfl rfl rfl

theorem emit (h : WorkEnds m n) (e : Emission) : WorkEnds m (n.emit e) := h.same rfl rfl rfl

theorem closeSpan (h : WorkEnds m n) (k : SpanKind) : WorkEnds m (n.closeSpan k) := h.same rfl rfl rfl

theorem logE (h : WorkEnds m n) (code cls kind idx second value : Nat) : WorkEnds m (n.logE code cls kind idx second value) :=
  h.same (by rw [Kz.logE_eq]; rfl) (by simp) (by simp)

theorem modPort (h : WorkEnds m n) (p : Nat) {f : PortState → PortState} (hf : ∀ x, (f x).session.slots = x.session.slots ∧
    (f x).session.resetDue = x.session.resetDue ∧ (f x).session.gapSince = x.session.gapSince) : WorkEnds m (n.modPort p f) := by
  refine h.trans ⟨rfl, fun _ => rfl, fun _ => rfl, fun hq x hx => ?_⟩
  obtain ⟨hslots, hreset, hgap⟩ := hq x hx
  rw [Kz.port_modPort]
  split
  · next heq =>
    obtain ⟨hs, hr, hg⟩ := hf (n.port p)
    rw [hs, hr, hg, ← heq]
    exact ⟨hslots, hreset, hgap⟩
  · exact ⟨hslots, hreset, hgap⟩

theorem modSess (h : WorkEnds m n) (p : Nat) {f : Session → Session}
    (hf : ∀ x, (f x).slots = x.slots ∧ (f x).resetDue = x.resetDue ∧ (f x).gapSince = x.gapSince) : WorkEnds m (n.modSess p f) :=
  h.modPort p fun x => hf x.session

/-! ### The end of a region's work (R88, R207, R352, R604) -/

theorem slotFree (h : WorkEnds m n) (c : Nat) (s : Option Nat) : WorkEnds m (slotFree n c s) := by
  cases s with
  | none => exact h
  | some i => exact h.modChan c _

theorem addClosed (h : WorkEnds m n) (c : Nat) (r : Rec) : WorkEnds m (addClosed n c r) := by
  unfold Machine.addClosed
  dsimp only
  split
  · exact (h.modChan c _).modAcq _ _
  · exact h.modChan c _

theorem stub (h : WorkEnds m n) (c : Nat) (kind : RecKind) (ser : Nat) (time : RecTime) (win : Option (Nat × Nat)) (flags : Nat) :
    WorkEnds m (stub n c kind ser time win flags) := (h.count ..).addClosed c _

theorem endOpen (h : WorkEnds m n) (c flags : Nat) : WorkEnds m (endOpen n c flags) := by
  refine (h.modChan c _).fold (fun m r => ?_) _
  split
  · exact (refl m).slotFree c r.slot
  · exact ((refl m).slotFree c r.slot).stub ..

theorem chanStops (h : WorkEnds m n) (c flags : Nat) (run : Bool) :
    WorkEnds m (rangeClear (chainLeave (engineLeave (rotStop (if run then Machine.endOpen (trigLeave n c) c flags else n) c) c) c) c) := by
  have hopen : WorkEnds m (if run then Machine.endOpen (trigLeave n c) c flags else n) := by
    split
    · exact ((h.modChan c _).modChan c _).endOpen c flags
    · exact h
  exact closeSpan (modChan (modChan (modChan (modChan (modChan hopen c _) c _) c _) c _) c _) _

theorem modQueue (h : WorkEnds m n) {f : Power → Power} (hf : ∀ p, { f p with calQueue := [], passRunning := false } = { p with calQueue := [], passRunning := false }) :
    WorkEnds m (n.modPower f) := h.same (congrArg (fun p => { holdFrame n with pwr := p }) (hf n.pwr)) rfl rfl

theorem stopWork (h : WorkEnds m n) (k flags : Nat) : WorkEnds m (stopWork n k flags) := by
  have hchans : WorkEnds m (n.eachChan k fun x c =>
      rangeClear (chainLeave (engineLeave (rotStop (if n.inRun k then Machine.endOpen (trigLeave x c) c flags else x) c) c) c) c) :=
    h.fold (fun x i => (refl x).chanStops (16 * k + i) flags (n.inRun k)) _
  unfold Machine.stopWork
  refine modQueue ?_ fun _ => rfl
  refine modLane (modAcq (modErr hchans k ?_) k _) k _
  exact fun _ => ⟨rfl, rfl⟩

/-! ### The end of commands in execution (R609) -/

theorem resetSession (h : WorkEnds m n) (p : Nat) : WorkEnds m (resetSession n p) := by
  unfold Machine.resetSession
  dsimp only
  split
  · refine logE (h.trans ?_) ..
    refine ⟨rfl, fun _ => rfl, fun _ => rfl, fun hq x hx => ?_⟩
    rw [Kz.port_modPort]
    split
    · exact ⟨rfl, rfl, rfl⟩
    · exact hq x hx
  · exact h

theorem resetsDue (h : WorkEnds m n) : WorkEnds m (resetsDue n) :=
  h.fold (fun x p => by
    split
    · exact (refl x).resetSession p
    · exact refl x) _

theorem respond (h : WorkEnds m n) (p : Nat) (via : Via) (seq tag cmd : Nat) (a : Answer) : WorkEnds m (respond n p via seq tag cmd a) := by
  unfold Machine.respond
  refine resetsDue (emit (modSess h p ?_) _)
  exact fun _ => ⟨rfl, rfl, rfl⟩

theorem endRunning (h : WorkEnds m n) (p : Nat) (a : Answer) : WorkEnds m (endRunning n p a) := by
  unfold Machine.endRunning
  split
  · exact h.respond ..
  · exact h

theorem endWaits (h : WorkEnds m n) (w : Wait) (a : Answer) : WorkEnds m (endWaits n w a) := by
  refine h.fold (fun x p => ?_) _
  dsimp only
  have hport := (refl x).modPort p (f := fun q => { q with orphans := q.orphans.filter (fun o => decide (o.1.wait ≠ w)) }) fun _ => ⟨rfl, rfl, rfl⟩
  split
  · split
    · exact hport.endRunning p a
    · exact hport
  · exact hport

theorem tripEnds (h : WorkEnds m n) (k : Nat) : WorkEnds m (tripEnds n k) :=
  ((((h.endWaits ..).endWaits ..).fold fun x _ => (refl x).endWaits ..) _).fold (fun x _ => (refl x).endWaits ..) _

/-! ### Notifications (R541) -/

theorem notifyPort (h : WorkEnds m n) (d p code kind idx : Nat) (data : List Byte) : WorkEnds m (n.notifyPort d p code kind idx data) := by
  unfold Kz.notifyPort
  dsimp only
  split
  · split
    · refine count (modSess h p ?_) _ _ _
      exact fun _ => ⟨rfl, rfl, rfl⟩
    · refine emit (modSess h p ?_) _
      exact fun _ => ⟨rfl, rfl, rfl⟩
  · exact h

theorem notify (h : WorkEnds m n) (code kind idx : Nat) (data : List Byte) : WorkEnds m (n.notify code kind idx data) :=
  h.fold (fun x p => (refl x).notifyPort _ p ..) _

/-! ### What is kept -/

theorem eq (h : WorkEnds m n) : n = { m with
    pwr := n.pwr
    rgns := n.rgns
    chans := n.chans
    stats := n.stats
    log := n.log
    spans := n.spans
    ports := n.ports
    wire := n.wire } :=
  congrArg (fun x : Kz => { x with
    pwr := n.pwr, rgns := n.rgns, chans := n.chans, stats := n.stats, log := n.log, spans := n.spans, ports := n.ports, wire := n.wire }) h.frame

theorem pwr (h : WorkEnds m n) : n.pwr = { m.pwr with calQueue := n.pwr.calQueue, passRunning := n.pwr.passRunning } :=
  congrArg (fun x : Kz => { x.pwr with calQueue := n.pwr.calQueue, passRunning := n.pwr.passRunning }) h.frame

theorem regs (h : WorkEnds m n) : n.regs = m.regs :=
  (congrArg Kz.regs h.frame : (holdFrame n).regs = (holdFrame m).regs)

theorem rstate (h : WorkEnds m n) (j : Nat) : n.rstate j = m.rstate j := congrArg RgnPower.state (h.rgn j)

end WorkEnds

/-! ### HOLD (R601, R602, R604) -/

/-- `n` is what HOLD made of `m`: as `WorkEnds`, with the regions' power states changed as `f` says. -/
structure Holds (m n : Kz) (f : Nat → RgnPower → RgnPower) : Prop where
  frame : holdFrame n = holdFrame m
  rgn : ∀ j, (n.rgn j).pwr = f j (m.rgn j).pwr
  restart : ∀ j, restarted (n.rgn j) = restarted (m.rgn j)
  quiet : Quiet m → Quiet n

namespace Holds

variable {f g : Nat → RgnPower → RgnPower}

theorem of_ends (h : WorkEnds m n) : Holds m n fun _ p => p := ⟨h.frame, h.rgn, h.restart, h.quiet⟩

theorem trans (h : Holds m n f) (h' : Holds n l g) : Holds m l fun j p => g j (f j p) :=
  ⟨h'.frame.trans h.frame, fun j => (h'.rgn j).trans (congrArg (g j) (h.rgn j)), fun j => (h'.restart j).trans (h.restart j),
    fun hq => h'.quiet (h.quiet hq)⟩

theorem ends (h : Holds m n f) (h' : WorkEnds n l) : Holds m l f := h.trans (of_ends h')

theorem congr (h : Holds m n f) (hfg : ∀ j, f j (m.rgn j).pwr = g j (m.rgn j).pwr) : Holds m n g :=
  ⟨h.frame, fun j => (h.rgn j).trans (hfg j), h.restart, h.quiet⟩

theorem eq (h : Holds m n f) : n = { m with
    pwr := n.pwr
    rgns := n.rgns
    chans := n.chans
    regs := n.regs
    stats := n.stats
    log := n.log
    spans := n.spans
    ports := n.ports
    wire := n.wire } :=
  congrArg (fun x : Kz => { x with
    pwr := n.pwr, rgns := n.rgns, chans := n.chans, regs := n.regs, stats := n.stats, log := n.log, spans := n.spans, ports := n.ports,
    wire := n.wire }) h.frame

theorem pwr (h : Holds m n f) : n.pwr = { m.pwr with calQueue := n.pwr.calQueue, passRunning := n.pwr.passRunning } :=
  congrArg (fun x : Kz => { x.pwr with calQueue := n.pwr.calQueue, passRunning := n.pwr.passRunning }) h.frame

theorem regs (h : Holds m n f) : n.regs = m.regs := (congrArg Kz.regs h.frame : (holdFrame n).regs = (holdFrame m).regs)

end Holds

/-- A cause bit of a region's HOLD set. -/
def causeSet (c : HoldCause) (p : RgnPower) : RgnPower :=
  match c with
  | .module => { p with causeModule := true }
  | .thermal => { p with causeThermal := true }
  | .rail => { p with causeRail := true }

/-- A region's power state once the region has been told to enter HOLD (R604). -/
def heldPwr (c : HoldCause) (p : RgnPower) : RgnPower :=
  if p.state = .down then if c = .module then { p with starting := false } else p
  else { causeSet c p with state := .hold, draining := false }

theorem addCause_eq (m : Kz) (k : Nat) (c : HoldCause) : addCause m k c = m.modPwr k (causeSet c) := by cases c <;> rfl

/-- `Holds` where the power state of region `k` alone changes. -/
def HoldsAt (m n : Kz) (k : Nat) (f : RgnPower → RgnPower) : Prop := Holds m n fun j p => if j = k then f p else p

namespace HoldsAt

variable {k : Nat} {f g : RgnPower → RgnPower}

theorem of_ends (h : WorkEnds m n) : HoldsAt m n k id := (Holds.of_ends h).congr fun _ => (ite_self _).symm

theorem modPwr (h : HoldsAt m n k f) (g : RgnPower → RgnPower) : HoldsAt m (n.modPwr k g) k fun p => g (f p) := by
  refine ⟨h.frame, fun j => ?_, fun j => ?_, fun hq => quiet_ofPorts (h.quiet hq) rfl⟩
  · have hj := h.rgn j
    rw [Kz.rgn_modPwr]
    by_cases hk : j = k
    · rw [if_pos hk] at hj ⊢
      rw [if_pos hk, ← hk]
      exact congrArg g hj
    · rw [if_neg hk] at hj ⊢
      rw [if_neg hk]
      exact hj
  · rw [Kz.rgn_modPwr]
    split
    · next hk => exact hk ▸ h.restart k
    · exact h.restart j

theorem ends (h : HoldsAt m n k f) (h' : WorkEnds n l) : HoldsAt m l k f := Holds.ends h h'

theorem congr (h : HoldsAt m n k f) (hfg : f (m.rgn k).pwr = g (m.rgn k).pwr) : HoldsAt m n k g := by
  refine Holds.congr h fun j => ?_
  by_cases hk : j = k
  · rw [if_pos hk, if_pos hk, hk, hfg]
  · rw [if_neg hk, if_neg hk]

end HoldsAt

theorem enterHold_holds (m : Kz) (k : Nat) (c : HoldCause) : HoldsAt m (enterHold m k c) k (heldPwr c) := by
  have hstart : HoldsAt m m k id := HoldsAt.of_ends (WorkEnds.refl m)
  unfold enterHold
  split
  · next hdown =>
    have hstate : (m.rgn k).pwr.state = .down := hdown
    split
    · next hstarting =>
      obtain ⟨-, hc⟩ : (m.rgn k).pwr.starting = true ∧ c = .module := by simpa using hstarting
      refine ((hstart.modPwr _).ends ((WorkEnds.refl _).tripEnds k)).congr ?_
      rw [heldPwr, if_pos hstate, if_pos hc]
      rfl
    · next hstarting =>
      refine hstart.congr ?_
      rw [heldPwr, if_pos hstate]
      split
      · next hc =>
        have hidle : (m.rgn k).pwr.starting = false := by simpa [hc] using hstarting
        exact congrArg (fun b => { (m.rgn k).pwr with starting := b }) hidle
      · rfl
  · next hhold =>
    have hstate : (m.rgn k).pwr.state = .hold := hhold
    have hheld : heldPwr c (m.rgn k).pwr = { causeSet c (m.rgn k).pwr with draining := false } := by
      rw [heldPwr, if_neg (by simp [hstate]), ← hstate]
      cases c <;> rfl
    have hcause := hstart.modPwr (causeSet c)
    rw [addCause_eq]
    dsimp only
    split
    · exact ((hcause.modPwr _).ends ((WorkEnds.refl _).tripEnds k)).congr hheld.symm
    · next hdraining =>
      have hkept : (causeSet c (m.rgn k).pwr).draining = false := by simpa using hdraining
      refine hcause.congr ?_
      rw [hheld, ← hkept]
      rfl
  · next hdown hhold =>
    have hne : (m.rgn k).pwr.state ≠ .down := hdown
    have hheld : heldPwr c (m.rgn k).pwr = causeSet c { (m.rgn k).pwr with state := .hold, draining := false } := by
      rw [heldPwr, if_neg hne]
      cases c <;> rfl
    have hends := (((HoldsAt.of_ends (k := k) ((WorkEnds.refl m).stopWork k 0)).modPwr fun p => { p with state := .hold, draining := false }).modPwr (causeSet c)).ends
      ((WorkEnds.refl _).tripEnds k)
    dsimp only
    rw [addCause_eq]
    split
    · exact hends.congr hheld.symm
    · exact (hends.ends (((WorkEnds.refl _).notify ..).logE ..)).congr hheld.symm

/-- HOLD of all regions below `i`. -/
theorem regionsHold (m : Kz) (c : HoldCause) (i : Nat) :
    Holds m ((upTo i).foldl (fun m k => enterHold m k c) m) fun j p => if j < i then heldPwr c p else p := by
  induction i with
  | zero => exact (Holds.of_ends (WorkEnds.refl m)).congr fun j => (if_neg (Nat.not_lt_zero j)).symm
  | succ i ih =>
    rw [upTo, List.range_succ, List.foldl_append]
    refine (ih.trans (enterHold_holds _ i c)).congr fun j => ?_
    by_cases hj : j = i
    · rw [if_pos hj, if_neg (by omega), if_pos (by omega)]
    · rw [if_neg hj]
      simp only [Nat.lt_succ_iff_lt_or_eq, hj, or_false]

/-- The module and its regions in HOLD. -/
def moduleHeld (m : Kz) (set : Power → Power) : Kz :=
  (m.modPower fun p => { set p with state := .hold }).eachRgn fun m k => enterHold m k .module

theorem moduleHeld_holds (m : Kz) (set : Power → Power) :
    Holds (m.modPower fun p => { set p with state := .hold }) (moduleHeld m set) fun j p => if j < 12 then heldPwr .module p else p :=
  regionsHold _ .module 12

/-- R601, R602: the module enters HOLD from STANDBY, READY or ACQUIRE. -/
theorem moduleHold_enters (set : Power → Power) (hstate : m.pwr.state = .standby ∨ m.pwr.state = .ready ∨ m.pwr.state = .acquire) :
    moduleHold m set = ((moduleHeld m set).notify 8 0 0 []).logE 0x0702 0 0 0 0 (modCauses ((moduleHeld m set).notify 8 0 0 [])) := by
  have hcauses : modCauses ((moduleHeld m set).notify 8 0 0 []) = modCauses (moduleHeld m set) := by
    simp only [modCauses, Kz.notify_pwr]
  rw [hcauses]
  unfold moduleHold
  rcases hstate with hs | hs | hs <;> rw [hs] <;> rfl

theorem moduleHold_again (set : Power → Power) (hstate : m.pwr.state = .hold) : moduleHold m set = m.modPower set := by
  unfold moduleHold
  rw [hstate]

theorem moduleHold_not (set : Power → Power) (hstate : m.pwr.state = .off ∨ m.pwr.state = .boot ∨ m.pwr.state = .recovery) : moduleHold m set = m := by
  unfold moduleHold
  rcases hstate with hs | hs | hs <;> rw [hs]

end
end Sys2Proof.Machine
end

section
/-! SUPPORT. The family 19_power.md: trips, rails and their thresholds (R590, R596, R597, R604, R605). -/
namespace Sys2Proof.Machine
open Safety

section
variable {m n l : Kz}

/-- What trips leave of the block beside what the end of work leaves: of the registers the configuration words. -/
def tripFrame (m : Kz) : Kz := { holdFrame m with regs := { ({} : Regs) with cfg := m.regs.cfg } }

/-- `n` is what a trip made of `m`: the frame is kept, the regions' power states are changed as `f` says, the ports stay quiet. -/
structure Trips (m n : Kz) (f : Nat → RgnPower → RgnPower) : Prop where
  frame : tripFrame n = tripFrame m
  rgn : ∀ j, (n.rgn j).pwr = f j (m.rgn j).pwr
  quiet : Quiet m → Quiet n

namespace Trips

variable {f g : Nat → RgnPower → RgnPower}

theorem refl (m : Kz) : Trips m m fun _ p => p := ⟨rfl, fun _ => rfl, id⟩

theorem trans (h : Trips m n f) (h' : Trips n l g) : Trips m l fun j p => g j (f j p) :=
  ⟨h'.frame.trans h.frame, fun j => (h'.rgn j).trans (congrArg (g j) (h.rgn j)), fun hq => h'.quiet (h.quiet hq)⟩

theorem congr (h : Trips m n f) (hfg : ∀ j, f j (m.rgn j).pwr = g j (m.rgn j).pwr) : Trips m n g :=
  ⟨h.frame, fun j => (h.rgn j).trans (hfg j), h.quiet⟩

theorem of_holds (h : Holds m n f) : Trips m n f :=
  ⟨congrArg (fun x : Kz => { x with regs := { ({} : Regs) with cfg := x.regs.cfg } }) h.frame, h.rgn, h.quiet⟩

theorem modPwr (k : Nat) (f : RgnPower → RgnPower) : Trips m (m.modPwr k f) fun j p => if j = k then f p else p :=
  of_holds ((HoldsAt.of_ends (WorkEnds.refl m)).modPwr f)

theorem mark (f : Field) (i : Nat) : Trips m (m.mark f i) fun _ p => p := ⟨rfl, fun _ => rfl, fun hq => quiet_ofPorts hq rfl⟩

theorem eq (h : Trips m n f) : n = { m with
    pwr := n.pwr
    rgns := n.rgns
    chans := n.chans
    regs := n.regs
    stats := n.stats
    log := n.log
    spans := n.spans
    ports := n.ports
    wire := n.wire } :=
  congrArg (fun x : Kz => { x with
    pwr := n.pwr, rgns := n.rgns, chans := n.chans, regs := n.regs, stats := n.stats, log := n.log, spans := n.spans, ports := n.ports,
    wire := n.wire }) h.frame

theorem pwr (h : Trips m n f) : n.pwr = { m.pwr with calQueue := n.pwr.calQueue, passRunning := n.pwr.passRunning } :=
  congrArg (fun x : Kz => { x.pwr with calQueue := n.pwr.calQueue, passRunning := n.pwr.passRunning }) h.frame

theorem cfg (h : Trips m n f) : n.regs.cfg = m.regs.cfg := (congrArg (fun x : Kz => x.regs.cfg) h.frame : (tripFrame n).regs.cfg = (tripFrame m).regs.cfg)

theorem now (h : Trips m n f) : n.now = m.now := (congrArg Kz.now h.frame : (tripFrame n).now = (tripFrame m).now)

end Trips

/-! ### Rail faults (R596) -/

/-- A region's power state once its rail has failed. -/
def railPwr (t : Nat) (p : RgnPower) : RgnPower :=
  if p.state = .down then p else { p with railNow := true, railAt := t, state := .hold, causeRail := true, draining := false }

theorem railPwr_eq (m : Kz) (j : Nat) : railPwr m.now.ns (m.rgn j).pwr = if m.rstate j ≠ .down then { (m.rgn j).pwr with
    railNow := true, railAt := m.now.ns, state := .hold, causeRail := true, draining := false } else (m.rgn j).pwr := by
  unfold railPwr
  by_cases h : (m.rgn j).pwr.state = .down
  · exact (if_pos h).trans (if_neg (not_not.2 h)).symm
  · exact (if_neg h).trans (if_pos h).symm

/-- The block once a rail fault has been marked. -/
def railMarked (m : Kz) (k : Nat) : Kz := (m.modPwr k fun p => { p with railNow := true, railAt := m.now.ns }).mark F.MOD_PWR_STAT.RAIL_SEEN 0

theorem railFault_up {k : Nat} (hup : m.rstate k ≠ .down) : railFault m k = enterHold (railMarked m k) k .rail := if_neg hup

theorem railFault_trips (m : Kz) (k : Nat) : Trips m (railFault m k) fun j p => if j = k then railPwr m.now.ns p else p := by
  by_cases hup : m.rstate k = .down
  · rw [railFault, if_pos hup]
    refine (Trips.refl m).congr fun j => ?_
    by_cases hj : j = k
    · rw [if_pos hj, hj]
      exact (if_pos hup).symm
    · rw [if_neg hj]
  · rw [railFault_up hup]
    refine (((Trips.modPwr k _).trans (Trips.mark F.MOD_PWR_STAT.RAIL_SEEN 0)).trans (Trips.of_holds (enterHold_holds _ k .rail))).congr fun j => ?_
    by_cases hj : j = k
    · have hstate : (m.rgn j).pwr.state ≠ .down := hj ▸ hup
      rw [if_pos hj, if_pos hj, if_pos hj, heldPwr, railPwr, if_neg hstate, if_neg hstate]
      rfl
    · rw [if_neg hj, if_neg hj, if_neg hj]

/-- The three regions that an array die serves (R596). -/
theorem dieFault_trips (m : Kz) (d : Nat) : Trips m ((upTo 3).foldl (fun m i => railFault m (3 * d + i)) m)
    fun j p => if j / 3 = d then railPwr m.now.ns p else p := by
  have h0 := railFault_trips m (3 * d)
  have h1 := railFault_trips (railFault m (3 * d)) (3 * d + 1)
  have h2 := railFault_trips (railFault (railFault m (3 * d)) (3 * d + 1)) (3 * d + 2)
  rw [h1.now, h0.now] at h2
  rw [h0.now] at h1
  refine ((h0.trans h1).trans h2).congr fun j => ?_
  by_cases hj : j / 3 = d
  · rcases (by omega : j = 3 * d ∨ j = 3 * d + 1 ∨ j = 3 * d + 2) with h | h | h
    · rw [if_pos hj, if_neg (by omega), if_neg (by omega), if_pos h]
    · rw [if_pos hj, if_neg (by omega), if_pos h, if_neg (by omega)]
    · rw [if_pos hj, if_pos h, if_neg (by omega), if_neg (by omega)]
  · rw [if_neg hj, if_neg (by omega), if_neg (by omega), if_neg (by omega)]

/-- A region that enters HOLD by itself logs it (R604). -/
theorem enterHold_logs {k : Nat} {c : HoldCause} (hc : c ≠ .module) (hstate : m.rstate k = .idle ∨ m.rstate k = .cal ∨ m.rstate k = .run) :
    (enterHold m k c).log.entries.head?.map (fun x => (x.code, x.cls, x.kind, x.idx)) = some (0x0702, 0, 2, k) := by
  unfold enterHold
  rcases hstate with hs | hs | hs <;> rw [hs] <;> dsimp only <;> rw [if_neg hc] <;> rfl

/-! ### Module trips (R590, R605) -/

theorem heldPwr_module (m : Kz) (j : Nat) : heldPwr .module (m.rgn j).pwr = if m.rstate j = .down then { (m.rgn j).pwr with starting := false }
    else { (m.rgn j).pwr with state := .hold, causeModule := true, draining := false } := by
  unfold heldPwr
  rw [if_pos rfl]
  rfl

/-- The block once the module has entered HOLD from `m`, told and logged. -/
theorem moduleHold_trips (set : Power → Power) (hstate : m.pwr.state = .standby ∨ m.pwr.state = .ready ∨ m.pwr.state = .acquire) :
    Trips (m.modPower fun p => { set p with state := .hold }) (moduleHold m set) (fun j p => if j < 12 then heldPwr .module p else p) ∧
      (moduleHold m set).log.entries.head?.map (fun x => (x.code, x.cls, x.kind, x.idx)) = some (0x0702, 0, 0, 0) := by
  rw [moduleHold_enters set hstate]
  exact ⟨Trips.of_holds ((moduleHeld_holds m set).ends (((WorkEnds.refl _).notify ..).logE ..)), rfl⟩

/-- The block once an overvoltage has been seen and marked. -/
def ovSeen (m : Kz) (v : Nat) : Kz := (sawVin (m.modPower fun p => { p with ovNow := true }) v).mark F.MOD_PWR_STAT.OV_SEEN 0

theorem overvoltage_on {v : Nat} (hhigh : 1900 < v) (hon : m.pwr.state ≠ .off) :
    overvoltage m v = moduleHold (ovSeen m v) fun p => { p with causeOv := true } :=
  (if_neg (Nat.not_le.2 hhigh)).trans (congrArg (fun x => moduleHold x fun p => { p with causeOv := true }) (if_neg hon))

theorem overvoltage_off {v : Nat} (hhigh : 1900 < v) (hoff : m.pwr.state = .off) :
    overvoltage m v = moduleHold (m.modPower fun p => { p with ovNow := true }) fun p => { p with causeOv := true } :=
  (if_neg (Nat.not_le.2 hhigh)).trans (congrArg (fun x => moduleHold x fun p => { p with causeOv := true }) (if_pos hoff))

/-- The block once a module trip has been seen and marked. -/
def thermSeen (m : Kz) (r : Option Nat) (tj : Int) : Kz :=
  ((sawTj m r tj).modPower fun p => { p with thermNow := true }).mark F.MOD_PWR_STAT.THERM_SEEN 0

theorem moduleTrip_on {r : Option Nat} {tj : Int} (hhot : 160 ≤ tj) (hon : m.pwr.state ≠ .off) :
    moduleTrip m r tj = moduleHold (thermSeen m r tj) fun p => { p with causeThermal := true } := by
  have hon' : ((sawTj m r tj).modPower fun p => { p with thermNow := true }).pwr.state ≠ .off := by cases r <;> exact hon
  exact (if_neg (not_lt.2 hhot)).trans (congrArg (fun x => moduleHold x fun p => { p with causeThermal := true }) (if_neg hon'))

theorem not_off (hstate : m.pwr.state = .standby ∨ m.pwr.state = .ready ∨ m.pwr.state = .acquire) : m.pwr.state ≠ .off := by
  rcases hstate with h | h | h <;> simp [h]

/-! ### Region trips (R605) -/

/-- The block once a region trip has been seen and marked. -/
def rgnThermSeen (m : Kz) (k : Nat) (tj : Int) : Kz :=
  ((m.modPwr k fun p => { p with tj := tj }).modPwr k fun p => { p with thermNow := true }).mark F.MOD_PWR_STAT.THERM_SEEN 0

theorem regionTrip_hot {k : Nat} {tj : Int} (hup : m.rstate k ≠ .down) (hhot : 155 ≤ tj) :
    regionTrip m k tj = enterHold (rgnThermSeen m k tj) k .thermal := by
  have hup' : (m.modPwr k fun p => { p with tj := tj }).rstate k ≠ .down := by
    rw [Kz.rstate, Kz.rgn_modPwr_same]
    exact hup
  exact if_neg (by simp [hup', hhot])

theorem regionTrip_not {k : Nat} {tj : Int} (hnot : m.rstate k = .down ∨ tj < 155) : regionTrip m k tj = m.modPwr k fun p => { p with tj := tj } := by
  have hsame : (m.modPwr k fun p => { p with tj := tj }).rstate k = m.rstate k := by
    rw [Kz.rstate, Kz.rgn_modPwr_same]
    rfl
  refine if_pos ?_
  rw [hsame]
  simpa using hnot

theorem regionTrip_trips {k : Nat} {tj : Int} (hup : m.rstate k ≠ .down) (hhot : 155 ≤ tj) : Trips m (regionTrip m k tj) fun j p =>
    if j = k then { p with tj := tj, thermNow := true, state := .hold, causeThermal := true, draining := false } else p := by
  rw [regionTrip_hot hup hhot]
  refine ((((Trips.modPwr k _).trans (Trips.modPwr k _)).trans (Trips.mark F.MOD_PWR_STAT.THERM_SEEN 0)).trans
    (Trips.of_holds (enterHold_holds _ k .thermal))).congr fun j => ?_
  by_cases hj : j = k
  · have hstate : (m.rgn j).pwr.state ≠ .down := hj ▸ hup
    rw [if_pos hj, if_pos hj, if_pos hj, if_pos hj, heldPwr, if_neg hstate]
    rfl
  · rw [if_neg hj, if_neg hj, if_neg hj, if_neg hj]

/-! ### Cleared thermal causes (R605) -/

/-- What every sensor below 150 °C clears. -/
theorem allCool_iff : ((upTo 12).all (fun k => decide ((m.rgn k).pwr.tj < 150)) && decide (m.pwr.hubTj < 150)) = true ↔
    m.pwr.hubTj < 150 ∧ ∀ j : Nat, j < 12 → (m.rgn j).pwr.tj < 150 := by
  simp only [Bool.and_eq_true, List.all_eq_true, decide_eq_true_eq, mem_upTo]
  exact and_comm

theorem thermNow_cleared (q : Kz) (P : Prop) [Decidable P]
    (hP : ((upTo 12).all (fun k => decide ((q.rgn k).pwr.tj < 150)) && decide (q.pwr.hubTj < 150)) = true ↔ P) :
    (if (upTo 12).all (fun k => decide ((q.rgn k).pwr.tj < 150)) && decide (q.pwr.hubTj < 150) then q.modPower fun p => { p with thermNow := false }
      else q) = { q with pwr := { q.pwr with thermNow := if P then false else q.pwr.thermNow } } := by
  by_cases h : P
  · rw [if_pos (hP.2 h), if_pos h]
    rfl
  · rw [if_neg (fun hc => h (hP.1 hc)), if_neg h]

theorem thermalClear_region {k : Nat} {tj : Int} (hcool : tj < 150) : thermalClear m (some k) tj =
    { (m.modPwr k fun x => { x with tj := tj, thermNow := false }) with
      pwr := { m.pwr with thermNow := if m.pwr.hubTj < 150 ∧ (∀ j : Nat, j < 12 → j = k ∨ (m.rgn j).pwr.tj < 150) then false else m.pwr.thermNow } } := by
  have hmod : (m.modPwr k fun p => { p with tj := tj }).modPwr k (fun p => { p with thermNow := false }) =
      m.modPwr k fun x => { x with tj := tj, thermNow := false } := Kz.modRgn_modRgn ..
  refine (if_neg (not_le.2 hcool)).trans ?_
  refine (thermNow_cleared ((m.modPwr k fun p => { p with tj := tj }).modPwr k fun p => { p with thermNow := false })
    (m.pwr.hubTj < 150 ∧ ∀ j : Nat, j < 12 → j = k ∨ (m.rgn j).pwr.tj < 150) ?_).trans
    (congrArg (fun z : Kz => { z with pwr := { m.pwr with
      thermNow := if m.pwr.hubTj < 150 ∧ (∀ j : Nat, j < 12 → j = k ∨ (m.rgn j).pwr.tj < 150) then false else m.pwr.thermNow } }) hmod)
  refine allCool_iff.trans (and_congr_right fun _ => forall_congr' fun j => imp_congr_right fun _ => ?_)
  rw [hmod, Kz.rgn_modPwr]
  by_cases hj : j = k
  · simp [hj, hcool]
  · simp [hj]

theorem thermalClear_hub (m : Kz) (tj : Int) : thermalClear m none tj = { m with pwr := { m.pwr with
    hubTj := tj, thermNow := if tj < 150 ∧ (∀ j : Nat, j < 12 → (m.rgn j).pwr.tj < 150) then false else m.pwr.thermNow } } := by
  by_cases hcool : tj < 150
  · exact (if_neg (not_le.2 hcool)).trans (thermNow_cleared (m.modPower fun p => { p with hubTj := tj }) _ allCool_iff)
  · refine (if_pos (not_lt.1 hcool)).trans ?_
    rw [if_neg fun h => hcool h.1]
    rfl

/-! ### Rail targets (R597) -/

theorem lockedOut_RGN_RAIL (m : Kz) (k : Nat) (v : Word) : lockedOut m .RGN_RAIL k v = false := by
  unfold lockedOut
  split
  · rw [show RegKind.RGN_RAIL.info.rwl = 0 from rfl, Nat.and_zero, Nat.and_zero]
    simp
  · rfl

theorem railMv_congr {k : Nat} (hrgns : n.rgns = m.rgns) (hnow : n.now = m.now) (hfld : n.fld F.RGN_RAIL.TARGET_MV k = m.fld F.RGN_RAIL.TARGET_MV k) :
    railMv n k = railMv m k := by
  unfold railMv
  rw [Kz.rgn, hrgns, hnow, hfld]
  rfl

/-- The rail is where it was before its target was written. -/
theorem railMv_restored (m : Kz) (k : Nat) (v : Word) :
    railMv { storeReg m .RGN_RAIL k v with
      regs := { (storeReg m .RGN_RAIL k v).regs with
        cfg := Sparse.set (storeReg m .RGN_RAIL k v).regs.cfg (RegKind.addr .RGN_RAIL k) (m.cfgWord .RGN_RAIL k) } } k = railMv m k := by
  have hstored := storeReg_eq m .RGN_RAIL k v
  refine railMv_congr ?_ ?_ (congrArg F.RGN_RAIL.TARGET_MV.of (Sparse.get_set_same _ _ _ _))
  · exact (congrArg Kz.rgns hstored).trans rfl
  · exact (congrArg Kz.now hstored).trans rfl

theorem railEffect_up {k : Nat} {v : Word} (hup : m.rstate k ≠ .down) :
    regEffect (storeReg m .RGN_RAIL k v) .RGN_RAIL k (m.cfgWord .RGN_RAIL k) v =
      (((storeReg m .RGN_RAIL k v).modPwr k fun x => { x with
        rampFrom := some (railMv m k, m.now.ns), rampOld := m.fld F.RGN_RAIL.TARGET_MV k }).mark F.RGN_AGE_STAT.OVR_RAIL k).ledgerAct 6 2 k := by
  have hup' : (storeReg m .RGN_RAIL k v).rstate k ≠ .down := by
    rw [storeReg_eq]
    exact hup
  have hnow : (storeReg m .RGN_RAIL k v).now = m.now := by rw [storeReg_eq]
  refine congrArg (fun x => override x F.RGN_AGE_STAT.OVR_RAIL k 2 k) ((if_neg hup').trans ?_)
  dsimp only
  rw [railMv_restored, hnow]
  rfl

theorem railEffect_down {k : Nat} {v : Word} (hdown : m.rstate k = .down) :
    regEffect (storeReg m .RGN_RAIL k v) .RGN_RAIL k (m.cfgWord .RGN_RAIL k) v =
      ((storeReg m .RGN_RAIL k v).mark F.RGN_AGE_STAT.OVR_RAIL k).ledgerAct 6 2 k := by
  have hdown' : (storeReg m .RGN_RAIL k v).rstate k = .down := by
    rw [storeReg_eq]
    exact hdown
  exact congrArg (fun x => override x F.RGN_AGE_STAT.OVR_RAIL k 2 k) (if_pos hdown')

end
end Sys2Proof.Machine
namespace Sys2Proof.Safety
open Machine

/-- A command that the hub serves, and that leaves nothing for it to do. -/
theorem after_served {c : Instr} {s : State} {t : Stamp} {m : Kz} {f : Kz → Kz} {P : Kz → Prop} (hm : s.kz.advance t = m)
    (hc : exec c s = s.served t f) (hq : Quiet (f m)) (hP : P (f m)) : After c s P :=
  after_at (f := fun m => pump (f m)) hm hc ((pump_quiet hq).symm ▸ hP)


/-- Settles O30: a region's trip is one region's HOLD (`enterHold_holds`), a module's trip is HOLD of the module and of its regions
(`moduleHold_trips`); what clears a cause and what writes a rail's target is one case each. -/
theorem tripsAndRails : Obligations.TripsAndRails := by
  unfold Obligations.TripsAndRails
  intro s t m hm
  refine ⟨?ovEnters, ?ovAgain, ?ovNot, ?ovLow, ?ovClear, ?ovStays, ?fabric, ?fabricHigh, ?die, ?fabricLogs, ?railClear, ?railStays, ?region, ?regionNot,
    ?hub, ?sensor, ?hubCool, ?clearRegion, ?hotRegion, ?clearHub, ?target, ?targetDown, ?badTarget, ?spread, ?ramp, ?rampNot⟩
  case ovEnters =>
    intro v hq hstate hhigh
    obtain ⟨htrip, hlog⟩ := moduleHold_trips (m := ovSeen m v.toNat) (fun p => { p with causeOv := true }) hstate
    rw [← overvoltage_on hhigh (not_off hstate)] at htrip hlog
    refine after_served (f := fun m => overvoltage m v.toNat) hm rfl (htrip.quiet (quiet_ofPorts hq rfl)) ⟨htrip.eq, htrip.cfg, htrip.pwr, fun j hj => ?_, hlog⟩
    rw [htrip.rgn, if_pos hj]
    exact heldPwr_module m j
  case ovAgain =>
    intro v hq hstate hhigh
    have hov := (overvoltage_on hhigh (by simp [hstate])).trans (moduleHold_again (m := ovSeen m v.toNat) (fun p => { p with causeOv := true }) hstate)
    exact after_served (f := fun m => overvoltage m v.toNat) hm rfl (hov ▸ quiet_ofPorts hq rfl) hov
  case ovNot =>
    intro v hq hstate hhigh
    by_cases hoff : m.pwr.state = .off
    · have hov := (overvoltage_off hhigh hoff).trans (moduleHold_not (fun p => { p with causeOv := true }) hstate)
      refine after_served (f := fun m => overvoltage m v.toNat) hm rfl (hov ▸ quiet_ofPorts hq rfl) ?_
      rw [hov, if_pos hoff, if_pos hoff]
      rfl
    · have hov := (overvoltage_on hhigh hoff).trans (moduleHold_not (m := ovSeen m v.toNat) (fun p => { p with causeOv := true }) hstate)
      refine after_served (f := fun m => overvoltage m v.toNat) hm rfl (hov ▸ quiet_ofPorts hq rfl) ?_
      rw [hov, if_neg hoff, if_neg hoff]
      rfl
  case ovLow =>
    intro v hq hlow
    have hov : overvoltage m v.toNat = m := if_pos hlow
    exact after_served (f := fun m => overvoltage m v.toNat) hm rfl (hov.symm ▸ hq) hov
  case ovClear =>
    intro v hlow
    refine after_at (f := fun m => overvoltageClear m v.toNat) hm rfl ?_
    unfold overvoltageClear
    rw [if_neg (Nat.not_le.2 hlow)]
    by_cases hoff : m.pwr.state = .off
    · rw [if_pos hoff, if_pos hoff]
      rfl
    · rw [if_neg hoff, if_neg hoff]
      rfl
  case ovStays =>
    intro v hhigh
    exact after_at (f := fun m => overvoltageClear m v.toNat) hm rfl (if_pos hhigh)
  case fabric =>
    intro k mv hq hlow
    have hunder : railUnder m (.fabric k mv) = railFault m k.val := if_pos (by simpa [under] using hlow)
    have htrip := railFault_trips m k.val
    rw [← hunder] at htrip
    refine after_served (f := fun m => railUnder m (.fabric k mv)) hm rfl (htrip.quiet hq) ⟨htrip.eq, htrip.cfg, htrip.pwr, fun j hj => ?_, ?_⟩
    · rw [htrip.rgn, railPwr_eq]
      by_cases hk : j = k.val <;> simp [hk]
    · rw [hunder]
      by_cases hdown : m.rstate k.val = .down
      · rw [railFault, if_pos hdown, if_pos hdown]
      · rw [railFault_up hdown, if_neg hdown, Kz.seen, Kz.seenWord_of_regs (enterHold_holds _ k.val .rail).regs]
        exact seen_mark_same rfl (by decide) (m.modPwr k.val fun p => { p with railNow := true, railAt := m.now.ns }) 0
  case fabricHigh =>
    intro k mv hq hhigh
    have hunder : railUnder m (.fabric k mv) = m := if_neg (by simpa [under] using hhigh)
    exact after_served (f := fun m => railUnder m (.fabric k mv)) hm rfl (hunder.symm ▸ hq) hunder
  case die =>
    intro d r mv hq hlow
    have hunder : railUnder m (.arrayDie d r mv) = (upTo 3).foldl (fun m i => railFault m (3 * d.val + i)) m := if_pos (by simpa [under] using hlow)
    have htrip := dieFault_trips m d.val
    rw [← hunder] at htrip
    refine after_served (f := fun m => railUnder m (.arrayDie d r mv)) hm rfl (htrip.quiet hq) ⟨htrip.eq, htrip.cfg, htrip.pwr, fun j hj => ?_⟩
    rw [htrip.rgn, railPwr_eq]
    by_cases hd : j / 3 = d.val <;> simp [hd]
  case fabricLogs =>
    intro k mv hq hlow hstate
    have hup : m.rstate k.val ≠ .down := by rcases hstate with h | h | h <;> simp [h]
    have hunder : railUnder m (.fabric k mv) = railFault m k.val := if_pos (by simpa [under] using hlow)
    have hmarked : (railMarked m k.val).rstate k.val = m.rstate k.val := by
      rw [railMarked, Kz.rstate_mark, Kz.rstate, Kz.rgn_modPwr_same]
      rfl
    refine after_served (f := fun m => railUnder m (.fabric k mv)) hm rfl (hunder ▸ (railFault_trips m k.val).quiet hq) ?_
    rw [hunder, railFault_up hup]
    exact enterHold_logs (by decide) (by rw [hmarked]; exact hstate)
  case railClear =>
    intro k hdue
    exact after_at (f := fun m => railCauseClear m k.val) hm rfl (if_pos hdue)
  case railStays =>
    intro k hearly
    exact after_at (f := fun m => railCauseClear m k.val) hm rfl (if_neg (Nat.not_le.2 hearly))
  case region =>
    intro k tj hq hup hhot
    have htrip := regionTrip_trips (m := m) hup hhot
    refine after_served (f := fun m => regionTrip m k.val tj) hm rfl (htrip.quiet hq) ⟨htrip.eq, htrip.cfg, htrip.pwr, fun j hj => ?_, ?_⟩
    · rw [htrip.rgn]
      by_cases hk : j = k.val
      · rw [if_pos hk, if_pos ⟨hk, hk ▸ hup⟩]
      · rw [if_neg hk, if_neg fun h => hk h.1]
    · rw [regionTrip_hot hup hhot, Kz.seen, Kz.seenWord_of_regs (enterHold_holds _ k.val .thermal).regs]
      exact seen_mark_same rfl (by decide) ((m.modPwr k.val fun p => { p with tj := tj }).modPwr k.val fun p => { p with thermNow := true }) 0
  case regionNot =>
    intro k tj hq hnot
    have htrip := regionTrip_not hnot
    exact after_served (f := fun m => regionTrip m k.val tj) hm rfl (htrip ▸ quiet_ofPorts hq rfl) htrip
  case hub =>
    intro tj hq hstate hhot
    obtain ⟨htrip, -⟩ := moduleHold_trips (m := thermSeen m none tj) (fun p => { p with causeThermal := true }) hstate
    rw [← moduleTrip_on hhot (not_off hstate)] at htrip
    refine after_served (f := fun m => moduleTrip m none tj) hm rfl (htrip.quiet (quiet_ofPorts hq rfl)) ⟨htrip.eq, htrip.cfg, htrip.pwr, fun j hj => ?_⟩
    rw [htrip.rgn, if_pos hj]
    exact heldPwr_module m j
  case sensor =>
    intro k tj hq hstate hhot
    obtain ⟨htrip, -⟩ := moduleHold_trips (m := thermSeen m (some k.val) tj) (fun p => { p with causeThermal := true }) hstate
    rw [← moduleTrip_on hhot (not_off hstate)] at htrip
    refine after_served (f := fun m => moduleTrip m (some k.val) tj) hm rfl (htrip.quiet (quiet_ofPorts hq rfl)) ⟨htrip.eq, htrip.cfg, htrip.pwr, fun j hj => ?_⟩
    have hseen : ((thermSeen m (some k.val) tj).rgn j).pwr = if j = k.val then { (m.rgn j).pwr with tj := tj } else (m.rgn j).pwr :=
      (Trips.modPwr k.val fun p => { p with tj := tj }).rgn j
    rw [htrip.rgn, if_pos hj]
    have hdown : (thermSeen m (some k.val) tj).rstate j = m.rstate j := by
      rw [Kz.rstate, hseen]
      split <;> rfl
    refine (heldPwr_module (thermSeen m (some k.val) tj) j).trans ?_
    rw [hdown, hseen]
    by_cases hk : j = k.val
    · rw [if_pos hk, if_pos hk]
    · rw [if_neg hk, if_neg hk]
  case hubCool =>
    intro tj hq hcool
    have htrip : moduleTrip m none tj = { m with pwr := { m.pwr with hubTj := tj } } := if_pos hcool
    exact after_served (f := fun m => moduleTrip m none tj) hm rfl (htrip ▸ quiet_ofPorts hq rfl) htrip
  case clearRegion =>
    intro k tj hcool
    exact after_at (f := fun m => thermalClear m (some k.val) tj) hm rfl (thermalClear_region hcool)
  case hotRegion =>
    intro k tj hhot
    exact after_at (f := fun m => thermalClear m (some k.val) tj) hm rfl (if_pos hhot)
  case clearHub =>
    intro tj
    exact after_at (f := fun m => thermalClear m none tj) hm rfl (thermalClear_hub m tj)
  case target =>
    intro p k v hacc hup
    refine after_at (f := fun m => pairWrite m p.val .RGN_RAIL k.val v) hm rfl ?_
    have heffect := railEffect_up (v := v) hup
    rw [pairWrite_accepts hacc (place_RGN_RAIL k) (by decide) (by decide) (by rw [heffect, storeReg_eq]; rfl), heffect]
  case targetDown =>
    intro p k v hacc hdown
    refine after_at (f := fun m => pairWrite m p.val .RGN_RAIL k.val v) hm rfl ?_
    have heffect := railEffect_down (v := v) hdown
    rw [pairWrite_accepts hacc (place_RGN_RAIL k) (by decide) (by decide) (by rw [heffect, storeReg_eq]; rfl), heffect]
  case badTarget =>
    intro p k v hreach hheld hbad
    have hwrites : WritesRegister t p v (.railTargetWrite t p k v) .RGN_RAIL k.val := ⟨fun _ => rfl, place_RGN_RAIL k⟩
    refine hwrites.after_checked hm hreach hheld (lockedOut_RGN_RAIL m k.val v) ?_ (by decide) (by decide)
    exact if_pos (by simpa [or_assoc] using hbad)
  case spread =>
    intro p k v j hreach hheld hlow hhigh hfive hj hne hrun hapart
    have hwrites : WritesRegister t p v (.railTargetWrite t p k v) .RGN_RAIL k.val := ⟨fun _ => rfl, place_RGN_RAIL k⟩
    refine hwrites.after_checked hm hreach hheld (lockedOut_RGN_RAIL m k.val v) ?_ (by decide) (by decide)
    have hspread : (spreadFrom m k.val (F.RGN_RAIL.TARGET_MV.of v)).isSome = true := by
      rw [spreadFrom, List.find?_isSome]
      exact ⟨j, mem_upTo.2 hj, by simp [hne, hrun, apart, hapart]⟩
    exact (if_neg (by simp [hlow, hhigh, hfive])).trans (if_pos hspread)
  case ramp =>
    intro k hramp hdone
    exact after_at (f := fun m => rampDone m k.val) hm rfl (if_pos (by simp [hramp, hdone]))
  case rampNot =>
    intro k hnot
    refine after_at (f := fun m => rampDone m k.val) hm rfl (if_neg ?_)
    rcases hnot with h | h <;> simp [h]

end Sys2Proof.Safety
end

section
/-! SUPPORT. The family 18_firmware_and_trust.md: boot attempts (R559, R561 to R565, R594, R601). -/
namespace Sys2Proof.Machine
open Safety

section
variable {m n l : Kz}

/-! ### The start of an attempt (R564) -/

/-- A firmware state at the start of an attempt. -/
def fresh (f : Firmware) : Firmware := { f with booting := none, aRefused := false, bRefused := false, demoted := none }

/-- The block once the image on trial has been demoted. -/
def demoted (f : Firmware) : Firmware :=
  { writeBlock (fresh f) (1 - (bootBlock f).areaA) false with demoted := some f.failed, failsA := 0, aRefused := true }

theorem startAttempt_keeps (h : (bootBlock m.fw).trial = false ∨ m.fw.failsA = 0) : startAttempt m = { m with fw := fresh m.fw } := by
  unfold startAttempt
  refine if_neg ?_
  rcases h with h | h
  · simp [h]
  · simp [modFw, h]

theorem startAttempt_demotes (htrial : (bootBlock m.fw).trial = true) (hfails : 0 < m.fw.failsA) : startAttempt m = { m with fw := demoted m.fw } := by
  unfold startAttempt
  exact if_pos (by simp [modFw, htrial, hfails])

theorem bootBlock_demoted (f : Firmware) : bootBlock (demoted f) = ⟨(bootBlock f).seq + 1, 1 - (bootBlock f).areaA, false, (bootBlock f).qspi⟩ :=
  bootBlock_writeBlock (fresh f) _ false

theorem demoted_frame (f : Firmware) : demoted f = { fresh f with
    block0 := (demoted f).block0, block1 := (demoted f).block1, demoted := some f.failed, failsA := 0, aRefused := true } :=
  congrArg (fun z : Firmware => { z with demoted := some f.failed, failsA := 0, aRefused := true }) (writeBlock_frame (fresh f) _ false)

/-- The block as it leaves OFF for BOOT, before its first attempt. -/
def released (m : Kz) : Kz := { m with
  pwr := { m.pwr with state := .boot, pg := true, nReset := true, resetComparator := false, testEn := false }
  fw := { m.fw with released := m.now.ns } }

theorem resetRelease_on {v : Nat} (hoff : m.pwr.state = .off) (hv : 425 < v) : resetRelease m false v = startAttempt (released m) := by
  unfold resetRelease
  exact if_pos (by simp [Kz.modPower, hoff, hv])

theorem resetRelease_not {x : Bool} {v : Nat} (h : m.pwr.state ≠ .off ∨ x = true ∨ v ≤ 425) :
    resetRelease m x v = m.modPower fun p => { p with testEn := x } := by
  unfold resetRelease
  refine if_neg ?_
  rcases h with h | h | h
  · simp [Kz.modPower, h]
  · simp [h]
  · simp [Nat.not_lt.2 h]

/-! ### A slot's verification (R561 to R564, R574) -/

section
variable {slot : Nat} {img : ImageInfo} {keys : IdentKeys}

theorem slotVerified_not (h : m.pwr.state ≠ .boot ∨ m.fw.booting.isSome = true ∨ slot ≠ if m.fw.aRefused = true then 1 else 0) :
    slotVerified m slot img keys = m := by
  unfold slotVerified
  refine if_pos ?_
  simpa [or_assoc] using h

theorem head_events_extend {kind : Nat} {arg : List Byte} {digest : BitVec 512} {e : List Byte} (h : m.trust.events.head? = some e) :
    (extend m kind arg digest).trust.events.head? = some e := by
  have happ (x : List Byte) : (m.trust.events ++ [x]).head? = some e := by rw [List.head?_append, h, Option.some_or]
  unfold extend modTrust
  dsimp only
  split
  · exact happ _
  · exact h

/-- Whether a slot is passed over or its image refused. -/
def slotRefused (m : Kz) (slot : Nat) (g : ImageInfo) : Bool :=
  (if slot = 0 then decide (2 ≤ m.fw.failsA) else decide (2 ≤ m.fw.failsB)) || !verifies m g

/-- What the verification of slot `slot` with the image `g` makes of the block. -/
def slotJudged (m : Kz) (slot : Nat) (g : ImageInfo) : Kz :=
  if slotRefused m slot g = true then
    if slot = 0 then { m with fw := { m.fw with aRefused := true } }
    else { m with fw := { m.fw with bRefused := true, runSlot := 3, onTrial := false }, pwr := { m.pwr with state := .recovery } }
  else { extend (extend m 2 [0, BitVec.ofNat 8 slot, BitVec.ofNat 8 g.sv] g.digest) 3 [] (Config.sha512 (m.fw.cfgArea.reads 0 cfgSize)) with
    fw := { m.fw with booting := some (slot, g), runArea := attemptArea m.fw slot, started := m.now.ns } }

/-- The block once the ROM has been measured and the identity keys compared (R574, R576). -/
def romMeasured (m : Kz) (keys : IdentKeys) : Kz := extend (modTrust m fun t => { t with identOk := identMatch keys }) 1 [] Config.romDigest

theorem slotVerified_measured (hstate : m.pwr.state = .boot) (hidle : m.fw.booting = none) (hevents : m.trust.events ≠ [])
    (hempty : (areaOf m.fw (attemptArea m.fw slot)).isEmpty = true) (hslot : slot = if m.fw.aRefused = true then 1 else 0) :
    slotVerified m slot img keys = slotJudged m slot img := by
  have hfalse : m.trust.events.isEmpty = false := by simpa using hevents
  have hgate : ¬ ((decide (m.pwr.state ≠ .boot) || m.fw.booting.isSome || decide (slot ≠ if m.fw.aRefused = true then 1 else 0)) = true) := by
    simp [hstate, hidle, hslot]
  unfold slotVerified
  simp only [hfalse, Bool.false_eq_true, if_false, imageIn, if_pos hempty]
  exact if_neg hgate

theorem slotVerified_first (hstate : m.pwr.state = .boot) (hidle : m.fw.booting = none) (hevents : m.trust.events = [])
    (hslot : slot = if m.fw.aRefused = true then 1 else 0) : slotVerified m slot img keys =
      slotJudged (romMeasured m keys) slot (imageIn (romMeasured m keys) (attemptArea m.fw slot) img) := by
  have htrue : m.trust.events.isEmpty = true := by simp [hevents]
  have hgate : ¬ ((decide (m.pwr.state ≠ .boot) || m.fw.booting.isSome || decide (slot ≠ if m.fw.aRefused = true then 1 else 0)) = true) := by
    simp [hstate, hidle, hslot]
  unfold slotVerified
  simp only [htrue, if_true]
  exact if_neg hgate

/-- What is judged of a slot leaves the identity and the first event alone. -/
theorem trust_slotJudged (g : ImageInfo) : (slotJudged m slot g).trust.identOk = m.trust.identOk ∧
    ∀ e, m.trust.events.head? = some e → (slotJudged m slot g).trust.events.head? = some e := by
  unfold slotJudged
  split
  · split
    · exact ⟨rfl, fun _ h => h⟩
    · exact ⟨rfl, fun _ h => h⟩
  · exact ⟨rfl, fun e h => head_events_extend (head_events_extend h)⟩

theorem refused_of (h : img.valid = false ∨ img.sv < m.trust.counter ∨ 2 ≤ (if slot = 0 then m.fw.failsA else m.fw.failsB)) :
    slotRefused m slot img = true := by
  unfold slotRefused verifies
  rcases h with h | h | h
  · simp [h]
  · simp [Nat.not_le.2 h]
  · split at h <;> simp_all

theorem not_refused_of (hvalid : img.valid = true) (hnew : m.trust.counter ≤ img.sv) (hfails : (if slot = 0 then m.fw.failsA else m.fw.failsB) < 2) :
    slotRefused m slot img = false := by
  unfold slotRefused verifies
  split at hfails <;> simp_all
end


/-! ### Reaching STANDBY (R562, R565, R666, R703) -/

/-- What the ledger's newest record, the references and the sensors' boundaries leave of the block. -/
def bootFrame (m : Kz) : Kz := { m with regs := {}, log := {}, age := {}, sns := [], hk := {}, chans := [], spans := [] }

theorem bootFrame_assignIfDue (m : Kz) (c : Nat) : bootFrame (assignIfDue m c) = bootFrame m := by
  unfold assignIfDue
  split
  · unfold assignSlices
    dsimp only
    rw [suspectEnds_eq]
    rfl
  · rfl

theorem bootFrame_restoreBit (m : Kz) (f : Field) (i : Nat) (b : Bool) : bootFrame (restoreBit m f i b) = bootFrame m := by
  cases b <;> rfl

theorem bootFrame_restoreLedger (m : Kz) : bootFrame (restoreLedger m) = bootFrame m := by
  unfold restoreLedger
  split
  · rfl
  · dsimp only
    rw [foldl_same bootFrame, foldl_same bootFrame, Kz.eachRgn, foldl_same bootFrame, bootFrame_restoreBit, bootFrame_restoreBit]
    · rfl
    · intro x k
      rw [bootFrame_restoreBit, bootFrame_restoreBit]
      rfl
    · intro x d
      rfl
    · intro x c
      split
      · split
        · rfl
        · rw [bootFrame_assignIfDue]
          rfl
      · split
        · rfl
        · exact (bootFrame_assignIfDue (restoreFld x _ c _) c)

theorem bootFrame_standbyUnits (m : Kz) : bootFrame (standbyUnits m) = bootFrame m := by
  unfold standbyUnits
  dsimp only
  rw [foldl_same bootFrame]
  · rfl
  · intro x i
    rfl

/-- One port as the configuration gives it. -/
def restorePort (m : Kz) (x : PortNet × Nat) : Kz :=
  let m := m.modPort x.2 (fun q => { q with ipv4 := x.1.ipv4, ipv6 := x.1.ipv6 })
  if x.1.udp = 0 then m else m.setFld F.HOST_PORT_CFG.UDP_PORT x.2 x.1.udp.toNat

theorem restorePort_eq (m : Kz) (x : PortNet × Nat) : restorePort m x = { m with
    regs := (restorePort m x).regs
    ports := (m.modPort x.2 fun q => { q with ipv4 := x.1.ipv4, ipv6 := x.1.ipv6 }).ports } := by
  unfold restorePort
  dsimp only
  split <;> rfl

/-- The addresses of a port. -/
def addresses (m : Kz) (y : Nat) : BitVec 32 × BitVec 128 := ((m.port y).ipv4, (m.port y).ipv6)

theorem addresses_restorePort (m : Kz) (x : PortNet × Nat) (y : Nat) :
    addresses (restorePort m x) y = if y = x.2 then (x.1.ipv4, x.1.ipv6) else addresses m y := by
  have hport : (restorePort m x).port y = (m.modPort x.2 fun q => { q with ipv4 := x.1.ipv4, ipv6 := x.1.ipv6 }).port y := by
    rw [restorePort_eq]
    rfl
  rw [addresses, hport, Kz.port_modPort]
  split <;> rfl

theorem addresses_restored (l : List PortNet) (i : Nat) (m : Kz) (y : Nat) : addresses ((l.zipIdx i).foldl restorePort m) y =
    if i ≤ y then (l[y - i]?.map fun z => (z.ipv4, z.ipv6)).getD (addresses m y) else addresses m y := by
  induction l generalizing i m with
  | nil => simp
  | cons a l ih =>
    rw [List.zipIdx_cons, List.foldl_cons, ih, addresses_restorePort]
    rcases Nat.lt_trichotomy y i with hlt | heq | hgt
    · rw [if_neg (by omega), if_neg (by omega), if_neg (by omega)]
    · subst heq
      simp
    · obtain ⟨d, rfl⟩ : ∃ d, y = i + 1 + d := ⟨y - (i + 1), by omega⟩
      have hhere : i + 1 + d - i = d + 1 := by omega
      have hrest : i + 1 + d - (i + 1) = d := by omega
      rw [if_pos (show i + 1 ≤ i + 1 + d by omega), if_neg (show ¬ i + 1 + d = (a, i).2 by omega), if_pos (show i ≤ i + 1 + d by omega),
        hhere, hrest, List.getElem?_cons_succ]

theorem addresses_restorePorts (m : Kz) (net : List PortNet) {y : Nat} (hy : y < 4) :
    addresses (restorePorts m net) y = (net[y]?.map fun z => (z.ipv4, z.ipv6)).getD (addresses m y) := by
  have htake : net.zipIdx.take 4 = (net.take 4).zipIdx := by
    refine List.ext_getElem? fun i => ?_
    rw [List.getElem?_take, List.getElem?_zipIdx, List.getElem?_zipIdx, List.getElem?_take]
    split <;> rfl
  have hrestored := addresses_restored (net.take 4) 0 m y
  rw [if_pos (Nat.zero_le _), Nat.sub_zero, List.getElem?_take, if_pos hy] at hrestored
  rw [← hrestored, ← htake]
  rfl

theorem restorePorts_eq (m : Kz) (net : List PortNet) : restorePorts m net = { m with
    regs := (restorePorts m net).regs
    ports := (restorePorts m net).ports } := by
  have h : ({ restorePorts m net with regs := {}, ports := [] } : Kz) = { m with regs := {}, ports := [] } :=
    foldl_same (fun x : Kz => { x with regs := {}, ports := [] })
      (fun x p => congrArg (fun y : Kz => { y with regs := {}, ports := [] }) (restorePort_eq x p)) ..
  exact congrArg (fun x : Kz => { x with regs := (restorePorts m net).regs, ports := (restorePorts m net).ports }) h

/-- The firmware state of slot `slot`'s image `g` as it reaches STANDBY (R562, R564). -/
def standbyFw (f : Firmware) (now slot : Nat) (g : ImageInfo) : Firmware := { f with
  booting := none
  runSlot := slot
  runImage := g
  onTrial := (bootBlock f).trial && slot = 0
  bootMs := (now - f.released) / 1000000 % 65536
  failsA := if slot = 0 then 0 else f.failsA
  failsB := if slot = 1 then 0 else f.failsB }

/-- The block once the image has been taken over, and confirmed where it was on trial. -/
def confirmed (m : Kz) (slot : Nat) (g : ImageInfo) : Kz :=
  if (bootBlock m.fw).trial && slot = 0 then confirmTrial { m with fw := standbyFw m.fw m.now.ns slot g } g
  else { m with fw := standbyFw m.fw m.now.ns slot g }

/-- The block once slot B's image has been judged, of which `b` is what the flash came with. -/
def otherJudged (m : Kz) (slot : Nat) (b : ImageInfo) : Kz := modFw m fun f => { f with
  bRefused := slot = 0 && !verifies m (imageIn m (slotArea m.fw 1) b)
  bRollback := (imageIn m (slotArea m.fw 1) b).valid && decide ((imageIn m (slotArea m.fw 1) b).sv < m.trust.counter) }

/-- The block once a demotion has been logged. -/
def demotionLogged (m : Kz) : Kz :=
  match m.fw.demoted with
  | some v => (m.mark F.MOD_BOOT_STAT.TRIAL_FAIL_SEEN 0).logE 0x0602 0 0 0 0 v.toNat
  | none => m

/-- The block once its clocks run and it is in STANDBY. -/
def standing (m : Kz) : Kz :=
  let m := m.modTb (fun x => { x with
    tb := .tracking, synLocked := true, trimFrom := sext 24 (m.fld F.TIM_HEARTH_TRIM.TRIM 0), trimAt := m.now.ns })
  let m := modAge m (fun a => { a with poweredFrom := some m.now.ns })
  let m := m.modTb (fun x => { x with origin := ceilTo m.now.tick 4096, prevOrigin := ceilTo m.now.tick 4096 })
  let m := { m with stats := { m.stats with timerFrom := m.now.ns } }
  timeFlags (m.modPower (fun p => { p with state := .standby }))

/-- What reaching STANDBY makes of the block before a trip that is still there is looked at. -/
def reached (m : Kz) (slot : Nat) (g : ImageInfo) (net : List PortNet) (b : ImageInfo) : Kz :=
  standing (restorePorts (standbyUnits (restoreLedger (demotionLogged (otherJudged (confirmed m slot g) slot b)))) net)

theorem reachStandby_reached {slot : Nat} {g : ImageInfo} {net : List PortNet} {b : ImageInfo} (hstate : m.pwr.state = .boot)
    (hboot : m.fw.booting = some (slot, g)) (hearly : m.now.ns ≤ m.fw.started + 2000000000) : reachStandby m net b =
      if (reached m slot g net b).pwr.ovNow || (reached m slot g net b).pwr.thermNow then
        moduleHold (reached m slot g net b) fun p => { p with causeOv := p.causeOv || p.ovNow, causeThermal := p.causeThermal || p.thermNow }
      else reached m slot g net b := by
  unfold reachStandby
  rw [hstate, hboot]
  exact if_neg (Nat.not_lt.2 hearly)

theorem reachStandby_not {net : List PortNet} {b : ImageInfo} (h : m.pwr.state ≠ .boot ∨ m.fw.booting = none ∨
    m.fw.started + 2000000000 < m.now.ns) : reachStandby m net b = m := by
  unfold reachStandby
  split
  · next hstate hboot =>
    exact if_pos ((h.resolve_left (not_not.2 hstate)).resolve_left (by simp [hboot]))
  · rfl

theorem bootFrame_demotionLogged (m : Kz) : bootFrame (demotionLogged m) = bootFrame m := by
  unfold demotionLogged
  split
  · rw [Kz.logE_eq]
    rfl
  · rfl

theorem standing_eq (m : Kz) : standing m = { m with
    tb := { m.tb with
      tb := .tracking, synLocked := true, trimFrom := sext 24 (m.fld F.TIM_HEARTH_TRIM.TRIM 0), trimAt := m.now.ns
      origin := ceilTo m.now.tick 4096, prevOrigin := ceilTo m.now.tick 4096 }
    age := { m.age with poweredFrom := some m.now.ns }
    stats := { m.stats with timerFrom := m.now.ns }
    pwr := { m.pwr with state := .standby }
    spans := (standing m).spans } := by
  unfold standing
  dsimp only
  rw [timeFlags_eq]
  rfl

/-- What of the block the way to STANDBY settles, besides the firmware's and the trust state. -/
theorem reached_spec (m : Kz) (slot : Nat) (g : ImageInfo) (net : List PortNet) (b : ImageInfo) :
    (reached m slot g net b).pwr = { m.pwr with state := .standby } ∧ (reached m slot g net b).now = m.now ∧
    (reached m slot g net b).tb.origin = ceilTo m.now.tick 4096 ∧
    (∀ y, y < 4 → addresses (reached m slot g net b) y = (net[y]?.map fun z => (z.ipv4, z.ipv6)).getD (addresses m y)) ∧
    (reached m slot g net b).fw = (otherJudged (confirmed m slot g) slot b).fw ∧
    (reached m slot g net b).tb.tb = .tracking ∧ (reached m slot g net b).tb.synLocked = true ∧
    (∀ k, k < 12 → (reached m slot g net b).rstate k = m.rstate k) ∧ (reached m slot g net b).trust = (confirmed m slot g).trust := by
  have hconfirmed : ({ confirmed m slot g with fw := {}, trust := {} } : Kz) = { m with fw := {}, trust := {} } := by
    unfold confirmed confirmTrial
    split
    · dsimp only
      split <;> rfl
    · rfl
  have hunits : bootFrame (standbyUnits (restoreLedger (demotionLogged (otherJudged (confirmed m slot g) slot b)))) =
      bootFrame (otherJudged (confirmed m slot g) slot b) := by
    rw [bootFrame_standbyUnits, bootFrame_restoreLedger, bootFrame_demotionLogged]
  unfold reached
  generalize standbyUnits (restoreLedger (demotionLogged (otherJudged (confirmed m slot g) slot b))) = u at hunits
  have hfw : u.fw = (otherJudged (confirmed m slot g) slot b).fw := (congrArg Kz.fw hunits : (bootFrame u).fw = (bootFrame _).fw)
  have htrust : u.trust = (confirmed m slot g).trust := (congrArg Kz.trust hunits : (bootFrame u).trust = (bootFrame _).trust)
  have hpwr : u.pwr = m.pwr := (congrArg Kz.pwr hunits : (bootFrame u).pwr = (bootFrame _).pwr).trans
    (congrArg Kz.pwr hconfirmed : ({ confirmed m slot g with fw := {}, trust := {} } : Kz).pwr = _)
  have hnow : u.now = m.now := (congrArg Kz.now hunits : (bootFrame u).now = (bootFrame _).now).trans
    (congrArg Kz.now hconfirmed : ({ confirmed m slot g with fw := {}, trust := {} } : Kz).now = _)
  have hports : u.ports = m.ports := (congrArg Kz.ports hunits : (bootFrame u).ports = (bootFrame _).ports).trans
    (congrArg Kz.ports hconfirmed : ({ confirmed m slot g with fw := {}, trust := {} } : Kz).ports = _)
  have hrgns : u.rgns = m.rgns := (congrArg Kz.rgns hunits : (bootFrame u).rgns = (bootFrame _).rgns).trans
    (congrArg Kz.rgns hconfirmed : ({ confirmed m slot g with fw := {}, trust := {} } : Kz).rgns = _)
  have haddresses (y : Nat) (hy : y < 4) : addresses (restorePorts u net) y = (net[y]?.map fun z => (z.ipv4, z.ipv6)).getD (addresses m y) := by
    rw [addresses_restorePorts u net hy, addresses, addresses, port_congr hports]
  rw [standing_eq]
  refine ⟨?_, ?_, ?_, haddresses, ?_, rfl, rfl, fun k _ => ?_, ?_⟩
  all_goals rw [restorePorts_eq]
  · exact congrArg (fun p : Power => { p with state := .standby }) hpwr
  · exact hnow
  · rw [← hnow]
  · exact hfw
  · exact congrArg (fun r => (Sparse.get ({} : Region) r k).pwr.state) hrgns
  · exact htrust

theorem confirmed_keeps {slot : Nat} {g : ImageInfo} (h : (bootBlock m.fw).trial = false ∨ slot = 1) :
    confirmed m slot g = { m with fw := standbyFw m.fw m.now.ns slot g } := by
  refine if_neg ?_
  rcases h with h | h <;> simp [h]

/-- R565: the image on trial is confirmed, and may advance the counter. -/
theorem confirmed_trial {g : ImageInfo} (htrial : (bootBlock m.fw).trial = true) : confirmed m 0 g = { m with
    fw := writeBlock (standbyFw m.fw m.now.ns 0 g) (bootBlock m.fw).areaA false
    trust := { m.trust with counter := if g.advance = true then max m.trust.counter g.sv else m.trust.counter } } := by
  have htrial' : ((bootBlock m.fw).trial && decide ((0 : Nat) = 0)) = true := by simp [htrial]
  refine (if_pos htrial').trans ?_
  unfold confirmTrial
  dsimp only
  by_cases hadvance : g.advance = true
  · rw [if_pos hadvance]
    by_cases hhigher : m.trust.counter < g.sv
    · rw [Nat.max_eq_right (Nat.le_of_lt hhigher)]
      exact if_pos (by rw [Bool.and_eq_true, decide_eq_true_eq]; exact ⟨hadvance, hhigher⟩)
    · rw [Nat.max_eq_left (Nat.not_lt.1 hhigher)]
      exact if_neg (by rw [Bool.and_eq_true, decide_eq_true_eq]; exact fun h => hhigher h.2)
  · rw [if_neg hadvance]
    exact if_neg (by simp [hadvance])

theorem pwr_moduleHold (set : Power → Power) (hstate : m.pwr.state = .standby ∨ m.pwr.state = .ready ∨ m.pwr.state = .acquire) :
    (moduleHold m set).pwr = { set m.pwr with
      state := .hold
      calQueue := (moduleHold m set).pwr.calQueue
      passRunning := (moduleHold m set).pwr.passRunning } := by
  rw [moduleHold_enters set hstate]
  exact Holds.pwr ((moduleHeld_holds m set).ends (((WorkEnds.refl (moduleHeld m set)).notify 8 0 0 []).logE ..))

theorem not_tripped {slot : Nat} {g : ImageInfo} {net : List PortNet} {b : ImageInfo} (hov : m.pwr.ovNow = false) (htherm : m.pwr.thermNow = false) :
    ¬ ((reached m slot g net b).pwr.ovNow || (reached m slot g net b).pwr.thermNow) = true := by
  obtain ⟨hpwr, -⟩ := reached_spec m slot g net b
  rw [hpwr]
  simp [hov, htherm]

end
end Sys2Proof.Machine
namespace Sys2Proof.Safety
open Machine

/-- Settles O31: an attempt starts as `startAttempt_keeps` and `startAttempt_demotes` say, a slot is judged as `slotJudged` says, and the way
to STANDBY changes what `reached_spec` says. -/
theorem bootAttempts : Obligations.BootAttempts := by
  unfold Obligations.BootAttempts
  intro s t m hm
  refine ⟨?releases, ?demotes, ?stays, ?starts, ?refusesA, ?refusesB, ?measures, ?notDue, ?standby, ?confirms, ?holds, ?late, ?times, ?early⟩
  case releases =>
    intro v hoff hv hkeeps
    refine after_at (f := fun m => resetRelease m false v.toNat) hm rfl ?_
    rw [resetRelease_on hoff hv, startAttempt_keeps (m := released m) hkeeps]
    rfl
  case demotes =>
    intro v hoff hv htrial hfails
    refine after_at (f := fun m => resetRelease m false v.toNat) hm rfl ?_
    rw [resetRelease_on hoff hv, startAttempt_demotes (m := released m) htrial hfails]
    refine ⟨rfl, rfl, rfl, ?_, rfl, ?_, bootBlock_demoted _⟩
    · rw [demoted_frame]
      rfl
    · rw [demoted_frame]
      rfl
  case stays =>
    intro x v hnot
    exact after_at (f := fun m => resetRelease m x v.toNat) hm rfl (resetRelease_not hnot)
  case starts =>
    intro slot img keys hstate hidle hevents hempty hslot hvalid hnew hfails
    refine after_at (f := fun m => slotVerified m slot.val img keys) hm rfl ?_
    rw [slotVerified_measured hstate hidle hevents hempty hslot, slotJudged, if_neg (by simp [not_refused_of hvalid hnew hfails])]
    exact ⟨rfl, rfl⟩
  case refusesA =>
    intro slot img keys hstate hidle hevents hempty hslot hbad hzero
    refine after_at (f := fun m => slotVerified m slot.val img keys) hm rfl ?_
    rw [slotVerified_measured hstate hidle hevents hempty hslot, slotJudged, if_pos (refused_of (by rw [if_pos hzero]; exact hbad)), if_pos hzero]
  case refusesB =>
    intro slot img keys hstate hidle hevents hempty hslot hbad hone
    have hne : slot.val ≠ 0 := by omega
    refine after_at (f := fun m => slotVerified m slot.val img keys) hm rfl ?_
    rw [slotVerified_measured hstate hidle hevents hempty hslot, slotJudged, if_pos (refused_of (by rw [if_neg hne]; exact hbad)), if_neg hne]
  case measures =>
    intro slot img keys hstate hidle hevents hslot
    refine after_at (f := fun m => slotVerified m slot.val img keys) hm rfl ?_
    rw [slotVerified_first hstate hidle hevents hslot]
    obtain ⟨hident, hhead⟩ := trust_slotJudged (m := romMeasured m keys) (slot := slot.val)
      (imageIn (romMeasured m keys) (attemptArea m.fw slot.val) img)
    refine ⟨hident, hhead _ ?_⟩
    unfold romMeasured extend modTrust
    simp [hevents]
  case notDue =>
    intro slot img keys hnot
    exact after_at (f := fun m => slotVerified m slot.val img keys) hm rfl (slotVerified_not hnot)
  case standby =>
    intro net b x g hstate hboot hearly hov htherm hkeeps
    refine after_at (f := fun m => reachStandby m net b) hm rfl ?_
    rw [reachStandby_reached hstate hboot hearly, if_neg (not_tripped hov htherm)]
    obtain ⟨hpwr, hnow, horigin, hports, hfw, htracking, hsyn, hrgns, htrust⟩ := reached_spec m x g net b
    rw [confirmed_keeps hkeeps] at hfw htrust
    refine ⟨hpwr, hnow, horigin, hports, ?_, ?_, ?_, ?_, htracking, hsyn, hrgns, htrust, ?_, ?_, ?_⟩
    all_goals rw [hfw]
    all_goals rfl
  case confirms =>
    intro net b x g hstate hboot hearly hov htherm htrial hx
    subst hx
    refine after_at (f := fun m => reachStandby m net b) hm rfl ?_
    rw [reachStandby_reached hstate hboot hearly, if_neg (not_tripped hov htherm)]
    obtain ⟨hpwr, hnow, horigin, hports, hfw, htracking, hsyn, hrgns, htrust⟩ := reached_spec m 0 g net b
    rw [confirmed_trial htrial] at hfw htrust
    have hframe := writeBlock_frame (standbyFw m.fw m.now.ns 0 g) (bootBlock m.fw).areaA false
    refine ⟨hpwr, hnow, horigin, hports, ?_, ?_, ?_, ?_, htracking, hsyn, hrgns, ?_, htrust, ?_⟩
    all_goals rw [hfw]
    · exact (congrArg Firmware.booting hframe).trans rfl
    · exact (congrArg Firmware.runSlot hframe).trans rfl
    · exact (congrArg Firmware.runImage hframe).trans rfl
    · exact (congrArg Firmware.bootMs hframe).trans rfl
    · exact (congrArg Firmware.onTrial hframe).trans (by simp [standbyFw, htrial])
    · exact bootBlock_writeBlock (standbyFw m.fw m.now.ns 0 g) (bootBlock m.fw).areaA false
  case holds =>
    intro net b x g hstate hboot hearly htrip
    refine after_at (f := fun m => reachStandby m net b) hm rfl ?_
    obtain ⟨hpwr, -⟩ := reached_spec m x g net b
    have htrip' : ((reached m x g net b).pwr.ovNow || (reached m x g net b).pwr.thermNow) = true := by
      rw [hpwr]
      simpa using htrip
    have hstanding : (reached m x g net b).pwr.state = .standby := congrArg Power.state hpwr
    rw [reachStandby_reached hstate hboot hearly, if_pos htrip']
    have hheld := pwr_moduleHold (m := reached m x g net b)
      (fun p => { p with causeOv := p.causeOv || p.ovNow, causeThermal := p.causeThermal || p.thermNow }) (.inl hstanding)
    rw [hpwr] at hheld
    exact hheld
  case late =>
    intro net b hnot
    exact after_at (f := fun m => reachStandby m net b) hm rfl (reachStandby_not hnot)
  case times =>
    intro x g hstate hboot hdue htrial
    refine after_at (f := fun m => attemptTimeout m) hm rfl ?_
    have hfails : attemptFails m.fw = { m.fw with
        failed := g.version
        failsA := if x = 0 then m.fw.failsA + 1 else m.fw.failsA
        failsB := if x = 0 then m.fw.failsB else m.fw.failsB + 1 } := by
      unfold attemptFails
      rw [hboot]
      dsimp only
      split <;> rw [← hboot]
    have htimeout : attemptTimeout m = startAttempt (modFw m attemptFails) := if_pos (by simp [hstate, hboot, hdue])
    rw [htimeout, startAttempt_keeps]
    · rw [modFw, hfails]
      rfl
    · left
      rw [modFw, hfails]
      exact htrial
  case early =>
    intro hnot
    refine after_at (f := fun m => attemptTimeout m) hm rfl (if_neg ?_)
    rcases hnot with h | h | h
    · simp [h]
    · simp [h]
    · simp [Nat.not_le.2 h]

end Sys2Proof.Safety
end

section
namespace Sys2Proof.Safety
open Machine

/-- A request in execution of REG_WRITE's code and with a body, though it is none (R537). -/
def oddRequest : Running := { seq := 0, tag := 0, req := .unknown 0x11 [0], via := {}, wait := .boundary, body := [], from_ := 0 }

/-- A module in STANDBY in which that request is in execution. -/
def executesOdd : Kz := { pwr := { state := .standby }, ports := [(0, { session := { isOpen := true, running := some oddRequest } })] }

/-- Refutes O32: the third clause gives every request of code 0x11 the detail of a REG_WRITE, with the index of a pair, except the unknown
command of that code with an empty body. `restartEnds` gives that detail to a REG_WRITE alone: an unknown command of code 0x11 with a body
is answered without it, and no clause's hypothesis shuts it out. -/
theorem not_supervisorPairs : ¬ Obligations.SupervisorPairs := by
  unfold Obligations.SupervisorPairs
  intro h
  obtain ⟨-, -, hends, -⟩ := h { kz := executesOdd } ⟨0, 0⟩ _ rfl
  obtain ⟨n, hexec, hwire⟩ := hends 0 oddRequest (by decide) (by decide) (by decide) rfl (by decide) (by decide)
  obtain ⟨rfl, -⟩ := State.mk.inj (Host.Outcome.next.inj hexec)
  exact absurd hwire (by decide)

end Sys2Proof.Safety
end

section
/-! SUPPORT. The family 20_errors.md: voted registers, regions that restart and MODULE_FATAL (R601, R620, R621, R624, R625, R632). -/
namespace Sys2Proof.Machine
open Safety

section
variable {m n l : Kz}

/-! ### What the restart of a region leaves of the restarts (R621) -/

/-- `n` is what a part of a region's restart made of `m`: the regions' restarts, the module's state and the quiet ports are kept. -/
structure RestartGoesOn (m n : Kz) : Prop where
  restart : ∀ j, restarted (n.rgn j) = restarted (m.rgn j)
  state : n.pwr.state = m.pwr.state
  quiet : Quiet m → Quiet n

namespace RestartGoesOn

theorem refl (m : Kz) : RestartGoesOn m m := ⟨fun _ => rfl, rfl, id⟩

theorem trans (h : RestartGoesOn m n) (h' : RestartGoesOn n l) : RestartGoesOn m l :=
  ⟨fun j => (h'.restart j).trans (h.restart j), h'.state.trans h.state, fun hq => h'.quiet (h.quiet hq)⟩

theorem fold (h : RestartGoesOn m n) {α : Type} {f : Kz → α → Kz} (hf : ∀ x a, RestartGoesOn x (f x a)) (as : List α) :
    RestartGoesOn m (as.foldl f n) := by
  induction as generalizing n with
  | nil => exact h
  | cons a as ih => exact ih (h.trans (hf n a))

theorem ends (h : RestartGoesOn m n) (h' : WorkEnds n l) : RestartGoesOn m l :=
  h.trans ⟨h'.restart, by rw [h'.pwr], h'.quiet⟩

theorem same (h : RestartGoesOn m n) (hrgns : l.rgns = n.rgns) (hstate : l.pwr.state = n.pwr.state) (hports : l.ports = n.ports) :
    RestartGoesOn m l :=
  h.trans ⟨fun j => by rw [Kz.rgn, Kz.rgn, hrgns], hstate, fun hq => quiet_ofPorts hq hports⟩

theorem mark (h : RestartGoesOn m n) (f : Field) (i : Nat) : RestartGoesOn m (n.mark f i) := h.same rfl rfl rfl

theorem modRgn (h : RestartGoesOn m n) (k : Nat) {f : Region → Region} (hf : ∀ r, restarted (f r) = restarted r) : RestartGoesOn m (n.modRgn k f) := by
  refine h.trans ⟨fun j => ?_, rfl, fun hq => quiet_ofPorts hq rfl⟩
  rw [Kz.rgn_modRgn]
  split
  · next heq => rw [hf, heq]
  · rfl

end RestartGoesOn

/-! ### Registers reloaded from the validated configuration (R619) -/

theorem reload_eq (m : Kz) (r : RegKind) (i : Nat) : reload m r i = { m with regs := { m.regs with cfg := (reload m r i).regs.cfg } } := by
  unfold reload
  dsimp only
  split <;> rfl

theorem reload_goesOn (m : Kz) (r : RegKind) (i : Nat) : RestartGoesOn m (reload m r i) := by
  rw [reload_eq]
  exact (RestartGoesOn.refl m).same rfl rfl rfl

theorem reloadChan_goesOn (m : Kz) (c : Nat) : RestartGoesOn m (reloadChan m c) :=
  ((RestartGoesOn.refl m).fold (fun x r => reload_goesOn x r c) _).ends ((WorkEnds.refl _).modChan c _)

theorem reloadRgn_goesOn (m : Kz) (k : Nat) : RestartGoesOn m (reloadRgn m k) :=
  ((RestartGoesOn.refl m).fold (fun x r => (RestartGoesOn.refl x).fold (fun y _ => reload_goesOn y r _) _) _).fold
    (fun x i => reloadChan_goesOn x (16 * k + i)) _

/-! ### The parts of a region's restart (R621, R622) -/

theorem lostStubs_ends (h : WorkEnds m n) (k : Nat) (a : AccEntry) (own flags : Nat) : WorkEnds m (lostStubs n k a own flags) :=
  h.fold (fun x _ => ((WorkEnds.refl x).modAcq k _).fold (fun y c => (WorkEnds.refl y).stub c ..) _) _

theorem acceptStub_ends (h : WorkEnds m n) (c : Nat) (a : AccEntry) (flags : Nat) : WorkEnds m (acceptStub n c a flags) := by
  unfold acceptStub
  split
  · exact h.stub ..
  · exact h.stub ..

theorem recoveredStubs_ends (h : WorkEnds m n) (k : Nat) (a : AccEntry) : WorkEnds m (recoveredStubs n k a) := by
  unfold recoveredStubs
  split
  · exact h
  · exact ((lostStubs_ends h k a ..).modAcq k _).fold (fun x c => acceptStub_ends (WorkEnds.refl x) c a _) _

theorem engineRestart_goesOn (m : Kz) (c : Nat) : RestartGoesOn m (engineRestart m c) := by
  unfold engineRestart
  split
  · have hregs := (RestartGoesOn.refl m).ends ((WorkEnds.refl m).modChan c fun x => { x with eng := zeroRegs x.eng })
    unfold initOnRun
    split
    · split
      · exact hregs.same rfl rfl rfl
      · exact hregs
    · exact hregs
  · exact RestartGoesOn.refl m

/-- A channel of a region that restarts, before its engine. -/
def chanEnded (m : Kz) (c : Nat) (run : Bool) : Kz :=
  chainLeave ((injCancel (rotStop (if run then endOpen (trigLeave m c) c fRECOVERED else m) c) c).modChan c fun x => { x with restart := {} }) c

theorem chanEnded_ends (m : Kz) (c : Nat) (run : Bool) : WorkEnds m (chanEnded m c run) := by
  have hopen : WorkEnds m (if run then endOpen (trigLeave m c) c fRECOVERED else m) := by
    split
    · exact (((WorkEnds.refl m).modChan c _).modChan c _).endOpen c _
    · exact WorkEnds.refl m
  exact ((((hopen.modChan c _).modChan c _).modChan c _).modChan c _).modChan c _

theorem chanRestart_goesOn (m : Kz) (c : Nat) (run : Bool) :
    RestartGoesOn m ((engineRestart (chanEnded m c run) c).closeSpan (.chanRestart c)) :=
  (((RestartGoesOn.refl m).ends (chanEnded_ends m c run)).trans (engineRestart_goesOn (chanEnded m c run) c)).ends ((WorkEnds.refl _).closeSpan _)

open RestartGoesOn in
theorem accRestart_goesOn (m : Kz) (k : Nat) : RestartGoesOn m (accRestart m k) := by
  have hchans : RestartGoesOn m (m.eachChan k fun m c => histClear (modAvg m c fun _ => {}) c) :=
    (RestartGoesOn.refl m).ends ((WorkEnds.refl m).fold (fun x i => ((WorkEnds.refl x).modChan (16 * k + i) _).modChan (16 * k + i) _) _)
  unfold accRestart
  refine mark (modRgn hchans k ?_) _ _
  exact fun _ => rfl

/-- A region that restarts says so, with the cause. -/
theorem startRestart_restarts (m : Kz) (k cause : Nat) : restarted ((startRestart m k cause).rgn k) = (true, cause) ∧
    (startRestart m k cause).pwr.state = m.pwr.state ∧ (Quiet m → Quiet (startRestart m k cause)) := by
  unfold startRestart
  extract_lets transit begun seen logged aged run reloaded chans stubs acq lane acc
  have hbegun : restarted (begun.rgn k) = (true, cause) := congrArg restarted (Kz.rgn_modRgn_same ..)
  have hstate : begun.pwr.state = m.pwr.state := rfl
  have hquiet : Quiet m → Quiet begun := fun hq => quiet_ofPorts hq rfl
  clear_value begun
  have hseen : RestartGoesOn begun seen := (RestartGoesOn.refl begun).same (by simp [seen]) (by simp [seen]) (by simp [seen])
  clear_value seen
  have hlogged : RestartGoesOn begun logged := hseen.ends (((WorkEnds.refl seen).logE ..).notify ..)
  have haged : RestartGoesOn begun aged := hlogged.modRgn k fun _ => rfl
  have hchans : RestartGoesOn begun chans := (haged.trans (reloadRgn_goesOn aged k)).fold (fun x i => chanRestart_goesOn x (16 * k + i) run) _
  have hstubs : RestartGoesOn begun lane := hchans.ends
    ((((WorkEnds.refl chans).fold (fun x a => recoveredStubs_ends (WorkEnds.refl x) k a) _).modAcq k _).modLane k _)
  clear_value lane
  have hacc : RestartGoesOn begun acc := hstubs.trans (accRestart_goesOn lane k)
  clear_value acc
  exact ⟨(hacc.restart k).trans hbegun, hacc.state.trans hstate, fun hq => quiet_ofPorts (hacc.quiet (hquiet hq)) rfl⟩

/-! ### MODULE_FATAL (R625) -/

theorem powered_cases (hpow : powered m.pwr.state = true) :
    (m.pwr.state = .standby ∨ m.pwr.state = .ready ∨ m.pwr.state = .acquire) ∨ m.pwr.state = .hold := by
  simpa [powered, or_assoc] using hpow

/-- The block with a MODULE_FATAL error and its source. -/
def fatalMarked (m : Kz) (src : Nat) : Kz := { m with errs := ⟨true, if m.errs.fatalSrc = 0 then src else m.errs.fatalSrc⟩ }

/-- The block once a MODULE_FATAL error has put it into HOLD. -/
def fatalHeld (m : Kz) (src : Nat) : Kz := moduleHold (fatalMarked m src) fun p => { p with causeFatal := true }

/-- The block once that has been logged, before its notification. -/
def fatalLogged (m : Kz) (src : Nat) : Kz := (fatalHeld m src).logE 0x0902 4 0 0 0 (errStat (fatalHeld m src))

theorem moduleFatal_powered (hpow : powered m.pwr.state = true) (src : Nat) : moduleFatal m src = (fatalLogged m src).notify 9 0 0 [] :=
  if_pos hpow

theorem fatal_ends (m : Kz) (src : Nat) : WorkEnds (fatalHeld m src) ((fatalLogged m src).notify 9 0 0 []) :=
  ((WorkEnds.refl _).logE ..).notify ..

theorem head_fatal (m : Kz) (src : Nat) : (((fatalLogged m src).notify 9 0 0 []).log.entries.head?.map fun z => (z.code, z.cls, z.kind, z.idx)) =
      some (0x0902, 4, 0, 0) ∧ (((fatalLogged m src).notify 9 0 0 []).log.archive.head?.map fun z => z.code) = some 0x0902 := by
  rw [Kz.notify_log]
  exact ⟨rfl, rfl⟩

theorem fatalHeld_again (hstate : m.pwr.state = .hold) (src : Nat) :
    fatalHeld m src = (fatalMarked m src).modPower fun p => { p with causeFatal := true } := moduleHold_again _ hstate

/-- The block that a MODULE_FATAL error puts into HOLD, before its regions are. -/
def fatalState (m : Kz) (src : Nat) : Kz := (fatalMarked m src).modPower fun p => { p with causeFatal := true, state := .hold }

theorem fatalHeld_holds (hstate : m.pwr.state = .standby ∨ m.pwr.state = .ready ∨ m.pwr.state = .acquire) (src : Nat) :
    Holds (fatalState m src) (fatalHeld m src) fun j p => if j < 12 then heldPwr .module p else p := by
  have henters : fatalHeld m src = _ := moduleHold_enters (m := fatalMarked m src) (fun p => { p with causeFatal := true }) hstate
  rw [henters]
  exact (moduleHeld_holds (fatalMarked m src) fun p => { p with causeFatal := true }).ends (((WorkEnds.refl _).notify ..).logE ..)

theorem moduleFatal_holds (hstate : m.pwr.state = .standby ∨ m.pwr.state = .ready ∨ m.pwr.state = .acquire) (src : Nat) :
    Holds (fatalState m src) (moduleFatal m src) fun j p => if j < 12 then heldPwr .module p else p := by
  have hpow : powered m.pwr.state = true := by rcases hstate with h | h | h <;> rw [h] <;> rfl
  rw [moduleFatal_powered hpow]
  exact (fatalHeld_holds hstate src).ends (fatal_ends m src)

theorem moduleFatal_again (hstate : m.pwr.state = .hold) (src : Nat) :
    WorkEnds ((fatalMarked m src).modPower fun p => { p with causeFatal := true }) (moduleFatal m src) := by
  rw [moduleFatal_powered (by rw [hstate]; rfl), ← fatalHeld_again hstate]
  exact fatal_ends m src

/-- What a MODULE_FATAL error leaves in every powered state: its source, HOLD with its cause, the regions' restarts and the quiet ports. -/
theorem moduleFatal_spec (hpow : powered m.pwr.state = true) (src : Nat) :
    (moduleFatal m src).errs = ⟨true, if m.errs.fatalSrc = 0 then src else m.errs.fatalSrc⟩ ∧ (moduleFatal m src).pwr.state = .hold ∧
    (moduleFatal m src).pwr.causeFatal = true ∧ (∀ j, restarted ((moduleFatal m src).rgn j) = restarted (m.rgn j)) ∧
    (Quiet m → Quiet (moduleFatal m src)) := by
  rcases powered_cases hpow with hstate | hstate
  · have h := moduleFatal_holds hstate src
    refine ⟨(congrArg Kz.errs h.frame :), by rw [h.pwr]; rfl, by rw [h.pwr]; rfl, h.restart, fun hq => h.quiet (quiet_ofPorts hq rfl)⟩
  · have h := moduleFatal_again hstate src
    refine ⟨(congrArg Kz.errs h.frame :), by rw [h.pwr]; exact hstate, by rw [h.pwr]; rfl, h.restart, fun hq => h.quiet (quiet_ofPorts hq rfl)⟩

theorem moduleFatal_boot (hstate : m.pwr.state = .boot ∨ m.pwr.state = .recovery) (src : Nat) : moduleFatal m src = moduleReset m 16 := by
  unfold moduleFatal
  rcases hstate with h | h <;> rw [h] <;> rfl

theorem moduleFatal_off (hstate : m.pwr.state = .off) (src : Nat) : moduleFatal m src = m := by
  unfold moduleFatal
  rw [hstate]
  rfl

/-! ### Voted registers (R620, R624) -/

theorem regionFatal_restarts {k cause : Nat} (hpow : powered m.pwr.state = true) (hup : m.rstate k ≠ .down)
    (hidle : (m.rgn k).err.restarting = false) : restarted ((regionFatal m k cause).rgn k) = (true, cause) ∧ (Quiet m → Quiet (regionFatal m k cause)) := by
  obtain ⟨hrestart, hstate, hquiet⟩ := startRestart_restarts m k cause
  obtain ⟨-, -, -, hkept, hfatal⟩ := moduleFatal_spec (m := startRestart m k cause) (hstate.symm ▸ hpow) 4
  unfold regionFatal
  rw [if_neg hup, if_neg (by simp [hidle])]
  dsimp only
  split
  · split
    · exact ⟨(hkept k).trans hrestart, fun hq => hfatal (hquiet hq)⟩
    · exact ⟨hrestart, hquiet⟩
  · exact ⟨hrestart, hquiet⟩

section
variable {addr : Nat} {r : Reg} {a b c w : Word}

/-- The voted bits of a copy of a register. -/
def votedBits (r : Reg) (x : Word) : Word := x &&& BitVec.ofNat 32 r.kind.info.voted

/-- The block once a voted register without a majority has been reloaded and marked. -/
def voteLost (m : Kz) (r : Reg) : Kz := (reload m r.kind r.inst).mark F.MOD_ERR_STAT.VOTE_NOMAJ_SEEN 0

/-- The block once that has been logged and the register's channel, region or module restarts. -/
def lostRestart (m : Kz) (r : Reg) (addr : Nat) : Kz :=
  match r.kind.info.win with
  | .channel => askRestart ((voteLost m r).logE 0x0903 2 1 r.inst 0 addr) r.inst 3
  | .region => regionFatal ((voteLost m r).logE 0x0903 3 2 (r.inst / r.kind.info.cnt) 0 addr) (r.inst / r.kind.info.cnt) 1
  | .module => moduleFatal ((voteLost m r).logE 0x0903 4 0 0 0 addr) 3

theorem voteScrub_not (hreg : regAt addr = some r) (h : powered m.pwr.state = false ∨ r.kind.info.voted = 0) : voteScrub m addr a b c = m := by
  unfold voteScrub
  rw [hreg]
  exact if_pos (by rcases h with h | h <;> simp [scrubs, h])

section
variable (hpow : powered m.pwr.state = true) (hreg : regAt addr = some r) (hvoted : r.kind.info.voted ≠ 0)
include hpow hreg hvoted

theorem voteScrub_majority (hmaj : majority (votedBits r a) (votedBits r b) (votedBits r c) = some w) : voteScrub m addr a b c = { m with
    regs := { m.regs with cfg := Sparse.set m.regs.cfg (r.kind.addr r.inst) (w ||| (m.cfgWord r.kind r.inst &&& ~~~BitVec.ofNat 32 r.kind.info.voted)) }
    stats := if votedBits r a = w ∧ votedBits r b = w ∧ votedBits r c = w then m.stats else (m.count .MOD_VOTE_FIX 0 1).stats } := by
  unfold votedBits at hmaj
  unfold voteScrub votedBits
  rw [hreg]
  dsimp only
  rw [if_neg (by simp [scrubs, hpow, hvoted]), hmaj]
  dsimp only
  split <;> rfl

theorem voteScrub_lost (hmaj : majority (votedBits r a) (votedBits r b) (votedBits r c) = none) :
    voteScrub m addr a b c = lostRestart m r addr := by
  unfold votedBits at hmaj
  unfold voteScrub
  rw [hreg]
  dsimp only
  rw [if_neg (by simp [scrubs, hpow, hvoted]), hmaj]
  rfl

end

theorem majority_first (h : a = b ∨ a = c) : majority a b c = some a := if_pos h

theorem majority_second (h : b = c) (hne : a ≠ b) : majority a b c = some b :=
  (if_neg fun hor => hor.elim hne fun hac => hne (hac.trans h.symm)).trans (if_pos h)

theorem majority_none (hab : a ≠ b) (hac : a ≠ c) (hbc : b ≠ c) : majority a b c = none :=
  (if_neg fun hor => hor.elim hab hac).trans (if_neg hbc)

end

theorem voteLost_frame (m : Kz) (r : Reg) : voteLost m r = { m with regs := (voteLost m r).regs } := by
  unfold voteLost
  rw [reload_eq]
  rfl

theorem askRestart_eq (m : Kz) (c cause : Nat) : askRestart m c cause = { m with chans := (askRestart m c cause).chans } := by
  unfold askRestart
  split <;> rfl

theorem chan_askRestart (m : Kz) (c cause z : Nat) : (askRestart m c cause).chan z =
    if z = c ∧ (m.rgn (z / 16)).err.restarting = false then
      { m.chan z with restart := { (m.chan z).restart with due := some ((m.chan z).restart.due.getD cause) } } else m.chan z := by
  unfold askRestart
  by_cases hr : (m.rgn (c / 16)).err.restarting = true
  · rw [if_pos hr, if_neg]
    rintro ⟨rfl, hidle⟩
    rw [hr] at hidle
    contradiction
  · rw [if_neg hr, Kz.chan_modChan]
    by_cases hz : z = c
    · subst hz
      rw [if_pos rfl, if_pos ⟨rfl, by simpa using hr⟩]
    · rw [if_neg hz, if_neg fun h => hz h.1]

end
end Sys2Proof.Machine
namespace Sys2Proof.Safety
open Machine

/-- Settles O36: a voted register has a majority or is reloaded and restarts its window (`lostRestart`); a MODULE_FATAL error is HOLD of the
module with its source (`moduleFatal_holds`), and in BOOT and RECOVERY a reset. -/
theorem votedRegistersAndFatalErrors : Obligations.VotedRegistersAndFatalErrors := by
  unfold Obligations.VotedRegistersAndFatalErrors
  intro s t m hm
  refine ⟨?first, ?second, ?channel, ?region, ?module, ?not, ?fatal, ?again, ?boot, ?off⟩
  case first =>
    intro a b c r x hpow hq hreg hvoted hmaj
    have heq := voteScrub_majority hpow hreg hvoted (majority_first hmaj)
    refine after_served (f := fun m => voteScrub m x.toNat a b c) hm rfl (quiet_ofPorts hq (by rw [heq])) (heq.trans ?_)
    simp only [votedBits, true_and, eq_comm]
  case second =>
    intro a b c r x hpow hq hreg hvoted hmaj hne
    have heq := voteScrub_majority hpow hreg hvoted (majority_second hmaj hne)
    refine after_served (f := fun m => voteScrub m x.toNat a b c) hm rfl (quiet_ofPorts hq (by rw [heq])) (heq.trans ?_)
    rw [if_neg fun h => hne h.1, if_neg fun h => hne h.1]
    rfl
  case channel =>
    intro a b c r x hpow hq hreg hvoted hab hac hbc hwin
    have heq : voteScrub m x.toNat a b c = askRestart ((voteLost m r).logE 0x0903 2 1 r.inst 0 x.toNat) r.inst 3 :=
      (voteScrub_lost hpow hreg hvoted (majority_none hab hac hbc)).trans (by rw [lostRestart, hwin])
    have hframe := askRestart_eq ((voteLost m r).logE 0x0903 2 1 r.inst 0 x.toNat) r.inst 3
    have hports : (voteScrub m x.toNat a b c).ports = m.ports := by rw [heq, hframe, Kz.logE_eq, voteLost_frame]
    refine after_served (f := fun m => voteScrub m x.toNat a b c) hm rfl (quiet_ofPorts hq hports) ?_
    rw [heq]
    refine ⟨?_, ?_, fun z hz => ?_, ?_, ?_⟩
    · rw [hframe, Kz.logE_eq, voteLost_frame]
    · rw [hframe, Kz.logE_eq]
      rfl
    · rw [chan_askRestart, Kz.logE_eq, voteLost_frame]
      rfl
    · rw [hframe, Kz.logE_eq]
      exact seen_mark_same rfl (by decide) (reload m r.kind r.inst) 0
    · rw [hframe]
      rfl
  case region =>
    intro a b c r x hpow hq hreg hvoted hab hac hbc hwin hup hidle
    have heq : voteScrub m x.toNat a b c = regionFatal ((voteLost m r).logE 0x0903 3 2 (r.inst / r.kind.info.cnt) 0 x.toNat)
        (r.inst / r.kind.info.cnt) 1 :=
      (voteScrub_lost hpow hreg hvoted (majority_none hab hac hbc)).trans (by rw [lostRestart, hwin])
    have hlost : (voteLost m r).logE 0x0903 3 2 (r.inst / r.kind.info.cnt) 0 x.toNat = { m with
        regs := (voteLost m r).regs, log := ((voteLost m r).logE 0x0903 3 2 (r.inst / r.kind.info.cnt) 0 x.toNat).log } := by
      rw [Kz.logE_eq, voteLost_frame]
    generalize (voteLost m r).logE 0x0903 3 2 (r.inst / r.kind.info.cnt) 0 x.toNat = q at heq hlost
    obtain ⟨hrestart, hquiet⟩ := regionFatal_restarts (m := q) (k := r.inst / r.kind.info.cnt) (cause := 1) (by rw [hlost]; exact hpow)
      (by rw [hlost]; exact hup) (by rw [hlost]; exact hidle)
    refine after_served (f := fun m => voteScrub m x.toNat a b c) hm rfl (heq ▸ hquiet (quiet_ofPorts hq (by rw [hlost]))) ?_
    rw [heq]
    exact Prod.ext_iff.1 hrestart
  case module =>
    intro a b c r x hpow hq hreg hvoted hab hac hbc hwin
    have heq : voteScrub m x.toNat a b c = moduleFatal ((voteLost m r).logE 0x0903 4 0 0 0 x.toNat) 3 :=
      (voteScrub_lost hpow hreg hvoted (majority_none hab hac hbc)).trans (by rw [lostRestart, hwin])
    have hlost : (voteLost m r).logE 0x0903 4 0 0 0 x.toNat = { m with
        regs := (voteLost m r).regs, log := ((voteLost m r).logE 0x0903 4 0 0 0 x.toNat).log } := by
      rw [Kz.logE_eq, voteLost_frame]
    generalize (voteLost m r).logE 0x0903 4 0 0 0 x.toNat = q at heq hlost
    obtain ⟨herrs, hstate, hcause, -, hquiet⟩ := moduleFatal_spec (m := q) (by rw [hlost]; exact hpow) 3
    refine after_served (f := fun m => voteScrub m x.toNat a b c) hm rfl (heq ▸ hquiet (quiet_ofPorts hq (by rw [hlost]))) ?_
    rw [heq]
    refine ⟨?_, hstate, hcause⟩
    rw [herrs, hlost]
  case not =>
    intro a b c r x hq hnot hreg
    have heq : voteScrub m x.toNat a b c = m := voteScrub_not hreg hnot
    exact after_served (f := fun m => voteScrub m x.toNat a b c) hm rfl (heq.symm ▸ hq) heq
  case fatal =>
    intro src hq hstate
    have hpow : powered m.pwr.state = true := by rcases hstate with h | h | h <;> rw [h] <;> rfl
    have hholds := moduleFatal_holds hstate (src.val + 1)
    obtain ⟨herrs, -, -, -, hquiet⟩ := moduleFatal_spec hpow (src.val + 1)
    obtain ⟨hentry, harchive⟩ := head_fatal m (src.val + 1)
    rw [← moduleFatal_powered hpow] at hentry harchive
    refine after_served (f := fun m => moduleFatal m (src.val + 1)) hm rfl (hquiet hq) ⟨?_, herrs, hholds.pwr, fun j hj => ?_, hentry, harchive⟩
    · have heq := hholds.eq
      rw [hholds.regs] at heq
      rw [herrs]
      exact heq
    · rw [hholds.rgn, if_pos hj]
      exact heldPwr_module m j
  case again =>
    intro src hq hstate
    have hpow : powered m.pwr.state = true := by rw [hstate]; rfl
    have hends := moduleFatal_again hstate (src.val + 1)
    obtain ⟨herrs, -, -, -, hquiet⟩ := moduleFatal_spec hpow (src.val + 1)
    refine after_served (f := fun m => moduleFatal m (src.val + 1)) hm rfl (hquiet hq) ⟨?_, herrs, ?_⟩
    · rw [herrs, moduleFatal_powered hpow, Kz.notify_eq, fatalLogged, Kz.logE_eq, fatalHeld_again hstate]
      rfl
    · rw [moduleFatal_powered hpow, Kz.notify_log, fatalLogged, fatalHeld_again hstate]
      rfl
  case boot =>
    intro src hq hstate
    have heq : moduleFatal m (src.val + 1) = moduleReset m 16 := moduleFatal_boot hstate _
    refine after_served (f := fun m => moduleFatal m (src.val + 1)) hm rfl (heq ▸ quiet_noPorts rfl) ?_
    rw [heq]
    exact ⟨rfl, rfl, rfl⟩
  case off =>
    intro src hq hstate
    have heq : moduleFatal m (src.val + 1) = m := moduleFatal_off hstate _
    exact after_served (f := fun m => moduleFatal m (src.val + 1)) hm rfl (heq.symm ▸ hq) heq

end Sys2Proof.Safety
end

section
/-! SUPPORT. The family 21_ageing.md: the ledger's records and the slots they go to (R664, R665, R667). -/
namespace Sys2Proof.Machine
open Safety

section
variable {m n : Kz}

/-! ### One change of every region -/

theorem foldl_modRgn (m : Kz) (f : Region → Region) (i : Nat) :
    (upTo i).foldl (fun m k => m.modRgn k f) m = { m with rgns := ((upTo i).foldl (fun m k => m.modRgn k f) m).rgns } ∧
    ∀ j, ((upTo i).foldl (fun m k => m.modRgn k f) m).rgn j = if j < i then f (m.rgn j) else m.rgn j := by
  induction i with
  | zero => exact ⟨rfl, fun j => (if_neg (Nat.not_lt_zero j)).symm⟩
  | succ i ih =>
    obtain ⟨hframe, hrgn⟩ := ih
    rw [upTo, List.range_succ, List.foldl_append]
    refine ⟨congrArg (fun x : Kz => x.modRgn i f) hframe, fun j => (Kz.rgn_modRgn ..).trans ?_⟩
    by_cases hj : j = i
    · rw [if_pos hj, if_pos (by omega)]
      refine congrArg f ((hrgn i).trans ?_)
      rw [if_neg (Nat.lt_irrefl i), hj]
    · rw [if_neg hj]
      refine (hrgn j).trans ?_
      simp only [Nat.lt_succ_iff_lt_or_eq, hj, or_false]

/-! ### What a record leaves (R664, R665, R667) -/

/-- The sums of the ended stretch started afresh, in every region. -/
def stretchEnded (m : Kz) : Kz := m.eachRgn fun m k => modRAge m k fun a => { a with eccSum := 0, restarts := 0, vminMin := 0, vminMax := 0 }

theorem stretchEnded_eq (m : Kz) : stretchEnded m = { m with rgns := (stretchEnded m).rgns } := (foldl_modRgn m _ 12).1

theorem rgn_stretchEnded (m : Kz) {j : Nat} (hj : j < 12) : (stretchEnded m).rgn j = { m.rgn j with
    age := { (m.rgn j).age with eccSum := 0, restarts := 0, vminMin := 0, vminMax := 0 } } :=
  ((foldl_modRgn m _ 12).2 j).trans (if_pos hj)

/-- The block once a record's first try has failed its read-back, or not. -/
def triedRecord (m : Kz) (ok : Bool) : Kz := if ok then m else m.mark F.MOD_AGE_STAT.LEDGER_FAIL_SEEN 0

/-- A record of the block, with its number. -/
def recordOf (m : Kz) (kind code skind idx : Nat) : LedgerRec := ⟨nextRecord m, kind, ledgerBytes m kind (nextRecord m) code skind idx⟩

/-- The ledger's other ring with a record in it, and its sums started afresh. -/
def recorded (a : Ageing) (r : LedgerRec) (ok : Bool) : Ageing := { a with
  recs := if ok then putSlot a.recs a.recAt (some r) else putSlot (putSlot a.recs a.recAt none) ((a.recAt + 1) % 704) (some r)
  recAt := if ok then (a.recAt + 1) % 704 else ((a.recAt + 1) % 704 + 1) % 704
  unreg := 0
  heatMean := 0
  heatMin := 0
  heatMax := 0 }

/-- The checkpoints' ring with a checkpoint in it. -/
def checkpointed (a : Ageing) (r : LedgerRec) (ok : Bool) : Ageing := { a with
  ckpt := if ok then putSlot a.ckpt a.ckptAt (some r) else putSlot (putSlot a.ckpt a.ckptAt none) ((a.ckptAt + 1) % 64) (some r)
  ckptAt := if ok then (a.ckptAt + 1) % 64 else ((a.ckptAt + 1) % 64 + 1) % 64 }

theorem checkpoint_eq (m : Kz) (ok : Bool) : checkpoint m ok = { triedRecord m ok with age := checkpointed m.age (recordOf m 3 0 0 0) ok } := by
  cases ok <;> rfl

theorem writeLedger_recorded {kind : Nat} (hkind : kind ≠ 3) (m : Kz) (code skind idx : Nat) (ok : Bool) :
    writeLedger m kind code skind idx ok = stretchEnded { triedRecord m ok with age := recorded m.age (recordOf m kind code skind idx) ok } := by
  unfold writeLedger
  dsimp only
  rw [if_neg hkind]
  cases ok <;> rfl

/-- The block once a summary has gone to the ledger, before the regions' sums start afresh. -/
def triedSummary (m : Kz) (ok : Bool) : Kz := { triedRecord m ok with age := recorded m.age (recordOf m 1 0 0 0) ok }

theorem triedRecord_cfg (m : Kz) (ok : Bool) : (triedRecord m ok).regs.cfg = m.regs.cfg := by cases ok <;> rfl

theorem triedRecord_rgns (m : Kz) (ok : Bool) : (triedRecord m ok).rgns = m.rgns := by cases ok <;> rfl

/-! ### The oldest change that is owed a record (R664) -/

/-- The block with some changes owed. -/
def oweActions (m : Kz) (l : List (Nat × Nat × Nat)) : Kz := modAge m fun a => { a with actions := l }

theorem recordOf_oweActions (m : Kz) (l : List (Nat × Nat × Nat)) (kind code skind idx : Nat) : recordOf (oweActions m l) kind code skind idx = recordOf m kind code skind idx := by
  have hbytes (num : Nat) : ledgerBytes (oweActions m l) kind num code skind idx = ledgerBytes m kind num code skind idx := by
    unfold ledgerBytes
    rfl
  exact congrArg (fun b => (⟨nextRecord m, kind, b⟩ : LedgerRec)) (hbytes _)

/-- The block once an action has been recorded. -/
def actionRecorded (m : Kz) (l : List (Nat × Nat × Nat)) (r : LedgerRec) (ok : Bool) : Kz :=
  stretchEnded { triedRecord m ok with age := { recorded m.age r ok with actions := l } }

/-- The oldest change owed a record, recorded. -/
def ledgerAction (m : Kz) (ok : Bool) : Kz :=
  match m.age.actions with
  | (code, skind, idx) :: l => writeLedger (oweActions m l) 2 code skind idx ok
  | [] => m

theorem writeLedger_oweActions (m : Kz) (l : List (Nat × Nat × Nat)) (code skind idx : Nat) (ok : Bool) :
    writeLedger (oweActions m l) 2 code skind idx ok = actionRecorded m l (recordOf m 2 code skind idx) ok := by
  rw [writeLedger_recorded (by decide), recordOf_oweActions]
  cases ok <;> rfl

theorem ledgerAction_owed {code skind idx : Nat} {l : List (Nat × Nat × Nat)} (h : m.age.actions = (code, skind, idx) :: l) (ok : Bool) :
    ledgerAction m ok = actionRecorded m l (recordOf m 2 code skind idx) ok := by
  rw [← writeLedger_oweActions, ledgerAction, h]

theorem ledgerAction_none (h : m.age.actions = []) (ok : Bool) : ledgerAction m ok = m := by rw [ledgerAction, h]

/-! ### The summary (R660, R664) -/

/-- The block with the drifts of a summary. -/
def drifted (m : Kz) (drift : List (Nat × List Int)) : Kz := modAge m fun a => { a with drift := drift.foldl (fun t p => Sparse.set t p.1 p.2) a.drift }

/-- A slice's wear recorded, and the change owed a record where it is new. -/
def wornOne (m : Kz) (c w : Nat) : Kz :=
  if Sparse.get 0 m.age.wear c ||| w % 512 = Sparse.get 0 m.age.wear c then m
  else (modAge m fun a => { a with wear := Sparse.set a.wear c (Sparse.get 0 m.age.wear c ||| w % 512) }).ledgerAct 3 1 c

theorem wornOne_eq (m : Kz) (c w : Nat) : wornOne m c w = { m with age := { m.age with
    wear := (wornOne m c w).age.wear, actions := (wornOne m c w).age.actions } } := by
  unfold wornOne
  split <;> rfl

/-- The block with the wear of a summary. -/
def worn (m : Kz) (wear : List (Nat × Nat)) : Kz := if m.on F.MOD_AGE_CTRL.EN_WEAR 0 then wear.foldl (fun m p => wornOne m p.1 p.2) m else m

theorem ledgerSummary_powered (hpow : powered m.pwr.state = true) (drift : List (Nat × List Int)) (wear : List (Nat × Nat)) (ok : Bool) :
    ledgerSummary m drift wear ok = writeLedger (worn (drifted m drift) wear) 1 0 0 0 ok := by
  unfold ledgerSummary
  rw [if_neg (by simp [hpow])]
  rfl

theorem ledgerSummary_unpowered (hpow : powered m.pwr.state = false) (drift : List (Nat × List Int)) (wear : List (Nat × Nat)) (ok : Bool) :
    ledgerSummary m drift wear ok = m := if_pos (by simp [hpow])

/-- The summary with the channels' drifts and wear as they are told. -/
def summaryTold (m : Kz) (drift : List (Chan × List Int)) (wear : List (Chan × BitVec 9)) (ok : Bool) : Kz :=
  ledgerSummary m (drift.map fun p => (p.1.val, p.2)) (wear.map fun p => (p.1.val, p.2.toNat)) ok

theorem summaryTold_powered (hpow : powered m.pwr.state = true) (drift : List (Chan × List Int)) (wear : List (Chan × BitVec 9)) (ok : Bool) :
    summaryTold m drift wear ok = stretchEnded (triedSummary (worn (drifted m (drift.map fun p => (p.1.val, p.2)))
      (wear.map fun p => (p.1.val, p.2.toNat))) ok) := by
  rw [summaryTold, ledgerSummary_powered hpow, writeLedger_recorded (by decide)]
  rfl

/-- A slice that wears further is owed a record (R660). -/
theorem worn_once {c w : Nat} (hw : w < 512) (hon : m.on F.MOD_AGE_CTRL.EN_WEAR 0 = true)
    (hnew : Sparse.get 0 m.age.wear c ||| w ≠ Sparse.get 0 m.age.wear c) :
    worn m [(c, w)] = (modAge m fun a => { a with wear := Sparse.set a.wear c (Sparse.get 0 m.age.wear c ||| w) }).ledgerAct 3 1 c := by
  have hmod : w % 512 = w := Nat.mod_eq_of_lt hw
  rw [worn, if_pos hon, List.foldl_cons, List.foldl_nil, wornOne, hmod, if_neg hnew]

theorem worn_eq (m : Kz) (wear : List (Nat × Nat)) : worn m wear = { m with age := { m.age with
    wear := (worn m wear).age.wear, actions := (worn m wear).age.actions } } := by
  have hfold (n : Kz) : wear.foldl (fun m p => wornOne m p.1 p.2) n = { n with age := { n.age with
      wear := (wear.foldl (fun m p => wornOne m p.1 p.2) n).age.wear, actions := (wear.foldl (fun m p => wornOne m p.1 p.2) n).age.actions } } := by
    induction wear generalizing n with
    | nil => rfl
    | cons p wear ih =>
      rw [List.foldl_cons]
      refine (ih _).trans ?_
      rw [wornOne_eq n]
  unfold worn
  split
  · exact hfold m
  · rfl

end
end Sys2Proof.Machine
namespace Sys2Proof.Safety
open Machine

/-- Settles O40: a record is one change of its ring (`recorded`, `checkpointed`), and `stretchEnded` of the sums; an action is the record of
the oldest change owed, a summary one after its drifts and wear. -/
theorem ledgerRecords : Obligations.LedgerRecords := by
  unfold Obligations.LedgerRecords
  intro s t m hm
  refine ⟨?ckpt, ?ckptRetried, ?ckptNot, ?action, ?actionRetried, ?actionNot, ?summary, ?wear, ?drift, ?summaryNot⟩
  case ckpt =>
    intro hpow
    refine after_at (f := fun m => if powered m.pwr.state then checkpoint m true else m) hm rfl ?_
    dsimp only
    rw [if_pos hpow, checkpoint_eq]
    exact ⟨rfl, rfl, rfl, rfl⟩
  case ckptRetried =>
    intro hpow
    refine after_at (f := fun m => if powered m.pwr.state then checkpoint m false else m) hm rfl ?_
    dsimp only
    rw [if_pos hpow, checkpoint_eq]
    exact ⟨rfl, rfl, rfl, rfl⟩
  case ckptNot =>
    intro x hpow
    exact after_at (f := fun m => if powered m.pwr.state then checkpoint m x else m) hm rfl (if_neg (by simp [hpow]))
  case action =>
    intro code skind idx l hactions
    refine after_at (f := fun m => ledgerAction m true) hm rfl ?_
    dsimp only
    rw [ledgerAction_owed hactions]
    exact ⟨stretchEnded_eq _, fun j hj => rgn_stretchEnded _ hj⟩
  case actionRetried =>
    intro code skind idx l hactions
    refine after_at (f := fun m => ledgerAction m false) hm rfl ?_
    dsimp only
    rw [ledgerAction_owed hactions]
    exact ⟨stretchEnded_eq _, fun j hj => rgn_stretchEnded _ hj⟩
  case actionNot =>
    intro x hactions
    exact after_at (f := fun m => ledgerAction m x) hm rfl (ledgerAction_none hactions x)
  case summary =>
    intro hpow
    refine after_at (f := fun m => ledgerSummary m [] [] true) hm rfl ?_
    dsimp only
    have hsame : worn (drifted m []) [] = m := by
      unfold worn
      split <;> rfl
    rw [ledgerSummary_powered hpow, hsame, writeLedger_recorded (by decide)]
    exact ⟨stretchEnded_eq _, fun j hj => rgn_stretchEnded _ hj⟩
  case wear =>
    intro drift c w x hpow hon hnew
    refine after_at (f := fun m => summaryTold m drift [(c, w)] x) hm rfl ?_
    have hworn : worn (drifted m (drift.map fun p => (p.1.val, p.2))) ([(c, w)].map fun p => (p.1.val, p.2.toNat)) = _ := worn_once w.isLt hon hnew
    rw [summaryTold_powered hpow, hworn]
    refine ⟨?_, ?_, fun j hj => ?_, ?_⟩
    · rw [stretchEnded_eq]
      rfl
    · rw [stretchEnded_eq]
      rfl
    · rw [rgn_stretchEnded _ hj, Kz.rgn, triedSummary, triedRecord_rgns]
      rfl
    · rw [stretchEnded_eq, triedSummary, triedRecord_cfg]
      rfl
  case drift =>
    intro c l w x hpow
    refine after_at (f := fun m => summaryTold m [(c, l)] w x) hm rfl ?_
    rw [summaryTold_powered hpow, stretchEnded_eq, worn_eq]
    exact Sparse.get_set_same ..
  case summaryNot =>
    intro drift w x hpow
    exact after_at (f := fun m => summaryTold m drift w x) hm rfl (ledgerSummary_unpowered hpow ..)

end Sys2Proof.Safety
end

section
namespace Sys2Proof.Safety
open Machine

/-- A REG_WRITE whose one pair started a composer pass, and that holds a byte of body as if it had read (R537, R685). -/
def writeWithBody : Running := { seq := 0, tag := 0, req := .regWrite [(0, 0)], via := {}, wait := .compose, body := [1], from_ := 1 }

/-- A module in STANDBY in which that request waits for a composer pass whose time has passed. -/
def composesOdd : Kz := {
  now := ⟨0, 1⟩
  pwr := { state := .standby }
  dsi := { pass := some ⟨0, 0, 0, [], false, 0⟩ }
  ports := [(0, { session := { isOpen := true, version := 0x32, running := some writeWithBody } })] }

/-- Refutes O42: the clause on a REG_WRITE that waits for its pass says that the response repeats the body which the request held. A write
answers without a body (`writeGo`), and no hypothesis of the clause says that the request held none. -/
theorem not_composerAndFlips : ¬ Obligations.ComposerAndFlips := by
  unfold Obligations.ComposerAndFlips
  intro h
  obtain ⟨-, -, -, -, -, -, -, -, -, -, -, -, -, -, -, -, -, -, -, -, hwaits, -⟩ := h { kz := composesOdd } ⟨0, 0⟩ _ rfl
  obtain ⟨n, hexec, hwire, -⟩ := hwaits 0 writeWithBody [(0, 0)] (by decide) (by decide) (by decide) rfl rfl (by decide) (by decide) (by decide)
    rfl (by decide) (by decide) (by decide) (by decide)
  obtain ⟨rfl, -⟩ := State.mk.inj (Host.Outcome.next.inj hexec)
  exact absurd hwire (by decide)

end Sys2Proof.Safety
end

section
/-! SUPPORT. The family 22_raster_port.md: the port's states and its frame starts (R677, R678, R686 to R691). -/
namespace Sys2Proof.Machine
open Safety

section
variable {m : Kz}

/-! ### Frame starts (R687, R688, R691) -/

/-- The port at a frame start. -/
def frameCounted (x : Dsi) (ns : Nat) : Dsi := { x with frames := (x.frames + 1) % 2 ^ 32, edge := false, started := ns }

/-- The port once its buffers have flipped. -/
def flipped (x : Dsi) (datum : Nat) : Dsi :=
  { x with front := 1 - x.front, flipSeq := (x.flipSeq + 1) % 65536, flipDatum := datum, pending := false, late := false, skip := false }

theorem flipNow_eq (m : Kz) : flipNow m = { m with dsi := flipped m.dsi m.datum } := rfl

theorem frameStart_blank (ht : m.dsi.timingPending = true) : frameStart m = { m with
    dsi := { frameCounted m.dsi m.now.ns with
      timingPending := false, skip := false, timing := dsiTimingKinds.map fun k => m.cfgWord k 0 }
    wire := .blankFrame :: m.wire } := if_pos ht

theorem frameStart_late (ht : m.dsi.timingPending = false) (hp : m.dsi.pending = true) (hs : m.dsi.skip = true) : frameStart m = { m with
    dsi := { frameCounted m.dsi m.now.ns with skip := false }
    wire := .rasterFrame m.dsi.front :: m.wire } := by
  simp [frameStart, modDsi, frameCounted, Kz.emit, ht, hp, hs]

theorem frameStart_flips (ht : m.dsi.timingPending = false) (hp : m.dsi.pending = true) (hs : m.dsi.skip = false) : frameStart m = { m with
    dsi := flipped (frameCounted m.dsi m.now.ns) m.datum
    wire := .rasterFrame (1 - m.dsi.front) :: m.wire } := by
  simp [frameStart, flipNow_eq, flipped, modDsi, frameCounted, Kz.emit, Kz.datum, ht, hp, hs]

theorem frameStart_shows (ht : m.dsi.timingPending = false) (hp : m.dsi.pending = false) : frameStart m = { m with
    dsi := frameCounted m.dsi m.now.ns
    wire := .rasterFrame m.dsi.front :: m.wire } := by
  simp [frameStart, modDsi, frameCounted, Kz.emit, ht, hp]

/-! ### What starts a frame (R678, R689, R690) -/

/-- The port once its PLL has locked, before its first frame. -/
def locked (m : Kz) : Kz := modDsi m fun x => { x with
  state := .running, timingPending := false, timing := dsiTimingKinds.map fun k => m.cfgWord k 0 }

theorem dsiPllLock_starts (hstate : m.dsi.state = .starting) (hpow : powered m.pwr.state = true) : dsiPllLock m = frameStart (locked m) :=
  if_pos (by simp [hstate, dsiLive, hpow])

theorem dsiPllLock_not (h : m.dsi.state ≠ .starting ∨ powered m.pwr.state = false) : dsiPllLock m = m :=
  if_neg (by rcases h with h | h <;> simp [dsiLive, h])

theorem dsiFrameStart_running (hstate : m.dsi.state = .running) (hmode : m.on F.DSI_CTRL.MODE 0 = false) (hsent : linesSent m frameLines = true) :
    dsiFrameStart m = frameStart m := by
  unfold dsiFrameStart
  rw [hstate]
  exact if_neg (by simp [hmode, hsent])

theorem dsiFrameStart_stopping (hstate : m.dsi.state = .stopping) (hsent : m.on F.DSI_CTRL.MODE 0 = true ∨ linesSent m frameLines = true) :
    dsiFrameStart m = modDsi (if m.dsi.pending then flipNow m else m) fun x => { x with
      state := .off, timingPending := false
      timing := dsiTimingKinds.map fun k => (if m.dsi.pending then flipNow m else m).cfgWord k 0 } := by
  unfold dsiFrameStart
  rw [hstate]
  exact if_neg (by rcases hsent with h | h <;> simp [h])

theorem dsiFrameStart_not (h : m.dsi.state = .off ∨ m.dsi.state = .starting ∨ (m.dsi.state = .running ∧ m.on F.DSI_CTRL.MODE 0 = true) ∨
    (m.on F.DSI_CTRL.MODE 0 = false ∧ linesSent m frameLines = false)) : dsiFrameStart m = m := by
  unfold dsiFrameStart
  rcases h with h | h | ⟨h, hmode⟩ | ⟨hmode, hsent⟩
  · rw [h]
  · rw [h]
  · rw [h]
    exact if_pos (by simp [hmode])
  · cases m.dsi.state with
    | running => exact if_pos (by simp [hsent])
    | stopping => exact if_pos (by simp [hmode, hsent])
    | off => rfl
    | starting => rfl

theorem dsiTe_on {falling : Bool} (hstate : m.dsi.state = .running) (hmode : m.on F.DSI_CTRL.MODE 0 = true) (hedge : m.dsi.edge = true)
    (hpol : m.on F.DSI_CTRL.TE_POL 0 = falling) : dsiTe m falling = frameStart m := if_pos (by simp [hstate, hmode, hedge, hpol])

/-- The block once a frame without a TE edge has been counted and marked. -/
def teMissed (m : Kz) : Kz := (m.count .DSI_TE_TIMEOUT 0 1).mark F.DSI_STAT.TE_TIMEOUT_SEEN 0

theorem dsiTeTimeout_on (hstate : m.dsi.state = .running) (hmode : m.on F.DSI_CTRL.MODE 0 = true)
    (hdue : m.dsi.started + 1500 * F.DSI_CMDP.PERIOD_US.of (m.dsi.timing.getD 5 0) ≤ m.now.ns) :
    dsiTeTimeout m = frameStart (teMissed m) := if_pos (by simpa [hstate, hmode] using hdue)

/-! ### DSI_CTRL (R677, R678) -/

theorem pairWrite_dsiCtrl {p : Nat} {v : Word} (hacc : Accepts m p .DSI_CTRL 0 v) {x : Dsi}
    (heffect : dsiCtrlWritten (storeReg m .DSI_CTRL 0 v) v = { storeReg m .DSI_CTRL 0 v with dsi := x }) :
    pairWrite m p .DSI_CTRL 0 v = { storeReg m .DSI_CTRL 0 v with dsi := x }.emit (okPair p .DSI_CTRL 0) := by
  have hports : (dsiCtrlWritten (storeReg m .DSI_CTRL 0 v) v).ports = m.ports := by rw [heffect, storeReg_eq]
  exact (pairWrite_accepts hacc place_DSI_CTRL (by decide) (by decide) hports).trans (congrArg (fun n => n.emit (okPair p .DSI_CTRL 0)) heffect)

theorem storeReg_dsi (m : Kz) (k : RegKind) (i : Nat) (w : Word) : (storeReg m k i w).dsi = m.dsi := by rw [storeReg_eq]

section
variable {v : Word}

theorem dsiCtrlWritten_starts (hen : F.DSI_CTRL.EN.of v = 1) (hstate : m.dsi.state = .off) (hpow : powered m.pwr.state = true) :
    dsiCtrlWritten m v = modDsi m fun x => { x with state := .starting, edge := false } :=
  (if_pos hen).trans (if_pos (by simp [hstate, dsiLive, hpow]))

theorem dsiCtrlWritten_on (hen : F.DSI_CTRL.EN.of v = 1) (hstate : m.dsi.state ≠ .off) : dsiCtrlWritten m v = m :=
  (if_pos hen).trans (if_neg (by simp [hstate]))

theorem dsiCtrlWritten_stops (hen : F.DSI_CTRL.EN.of v = 0) (hstate : m.dsi.state = .running) :
    dsiCtrlWritten m v = modDsi m fun x => { x with state := .stopping } := by
  unfold dsiCtrlWritten
  rw [if_neg (by simp [hen]), hstate]

theorem dsiCtrlWritten_abandons (hen : F.DSI_CTRL.EN.of v = 0) (hstate : m.dsi.state = .starting) :
    dsiCtrlWritten m v = modDsi (if m.dsi.pending then flipNow m else m) fun x => { x with state := .off } := by
  unfold dsiCtrlWritten
  rw [if_neg (by simp [hen]), hstate]

theorem dsiCtrlWritten_off (hen : F.DSI_CTRL.EN.of v = 0) (hstate : m.dsi.state = .off ∨ m.dsi.state = .stopping) : dsiCtrlWritten m v = m := by
  unfold dsiCtrlWritten
  rw [if_neg (by simp [hen])]
  rcases hstate with h | h <;> rw [h]

end
end
end Sys2Proof.Machine
namespace Sys2Proof.Safety
open Machine

/-- Settles O41: DSI_CTRL, the PLL's lock, a frame start, a TE edge and its timeout are one case each of the port's state; what a frame start
shows is one of the four cases of `frameStart`. -/
theorem rasterPort : Obligations.RasterPort := by
  unfold Obligations.RasterPort
  intro s t m hm
  refine ⟨?starts, ?on, ?mode, ?timing, ?stops, ?abandons, ?off, ?lockLate, ?lockFlips, ?lockShows, ?lockNot, ?frameBlank, ?frameLate, ?frameFlips,
    ?frameShows, ?stopped, ?frameNot, ?edge, ?edgeNot, ?teBlank, ?teLate, ?teFlips, ?teShows, ?teNot, ?outBlank, ?outLate, ?outFlips, ?outShows, ?outNot⟩
  case starts =>
    intro p v hacc hen hstate
    obtain ⟨-, ⟨-, hpow, -⟩, -⟩ := id hacc
    refine after_at (f := fun m => pairWrite m p .DSI_CTRL 0 v) hm rfl (pairWrite_dsiCtrl hacc ?_)
    rw [dsiCtrlWritten_starts hen (by rw [storeReg_dsi]; exact hstate) (by rw [storeReg_eq]; exact hpow), modDsi, storeReg_dsi]
  case on =>
    intro p v hacc hen hstate
    refine after_at (f := fun m => pairWrite m p .DSI_CTRL 0 v) hm rfl (pairWrite_dsiCtrl hacc ?_)
    exact dsiCtrlWritten_on hen (by rw [storeReg_dsi]; exact hstate)
  case mode =>
    intro p v hreach hheld hmode hstate
    have hwrites : WritesRegister t p v (.dsiEnable t p v) .DSI_CTRL 0 := ⟨fun _ => rfl, place_DSI_CTRL⟩
    exact hwrites.after_checked hm hreach hheld rfl (if_pos (Bool.and_eq_true_iff.2 ⟨decide_eq_true hmode, decide_eq_true hstate⟩)) (by decide) (by decide)
  case timing =>
    intro p v hreach hheld hmode hoff hen hbad
    have hwrites : WritesRegister t p v (.dsiEnable t p v) .DSI_CTRL 0 := ⟨fun _ => rfl, place_DSI_CTRL⟩
    refine hwrites.after_checked hm hreach hheld rfl ((if_neg ?_).trans (if_pos ?_)) (by decide) (by decide)
    · intro hand
      obtain ⟨hdiff, hon⟩ := Bool.and_eq_true_iff.1 hand
      have hne : F.DSI_CTRL.MODE.of v ≠ F.DSI_CTRL.MODE.of (m.cfgWord .DSI_CTRL 0) := by simpa using hdiff
      have hup : m.dsi.state ≠ .off := by simpa using hon
      exact hmode.elim hne hup
    · have hrefuses : (!timingOk (decide (F.DSI_CTRL.MODE.of v = 1)) (dsiTimingKinds.map fun x => m.cfgWord x 0)) = true := by rw [hbad]; rfl
      exact Bool.and_eq_true_iff.2 ⟨Bool.and_eq_true_iff.2 ⟨decide_eq_true hoff, decide_eq_true hen⟩, hrefuses⟩
  case stops =>
    intro p v hacc hen hstate
    refine after_at (f := fun m => pairWrite m p .DSI_CTRL 0 v) hm rfl (pairWrite_dsiCtrl hacc ?_)
    rw [dsiCtrlWritten_stops hen (by rw [storeReg_dsi]; exact hstate), modDsi, storeReg_dsi]
  case abandons =>
    intro p v hacc hen hstate
    refine after_at (f := fun m => pairWrite m p .DSI_CTRL 0 v) hm rfl (pairWrite_dsiCtrl hacc ?_)
    rw [dsiCtrlWritten_abandons hen (by rw [storeReg_dsi]; exact hstate), storeReg_eq]
    dsimp only
    split <;> rfl
  case off =>
    intro p v hacc hen hstate
    refine after_at (f := fun m => pairWrite m p .DSI_CTRL 0 v) hm rfl (pairWrite_dsiCtrl hacc ?_)
    exact dsiCtrlWritten_off hen (by rw [storeReg_dsi]; exact hstate)
  case lockLate =>
    intro hstate hpow _ hp hs
    exact after_at hm rfl ((dsiPllLock_starts hstate hpow).trans (frameStart_late (m := locked m) rfl hp hs))
  case lockFlips =>
    intro hstate hpow _ hp hs
    exact after_at hm rfl ((dsiPllLock_starts hstate hpow).trans (frameStart_flips (m := locked m) rfl hp hs))
  case lockShows =>
    intro hstate hpow _ hp
    exact after_at hm rfl ((dsiPllLock_starts hstate hpow).trans (frameStart_shows (m := locked m) rfl hp))
  case lockNot => exact fun h => after_at hm rfl (dsiPllLock_not h)
  case frameBlank =>
    intro hstate hmode hsent ht
    exact after_at hm rfl ((dsiFrameStart_running hstate hmode hsent).trans (frameStart_blank ht))
  case frameLate =>
    intro hstate hmode hsent ht hp hs
    exact after_at hm rfl ((dsiFrameStart_running hstate hmode hsent).trans (frameStart_late ht hp hs))
  case frameFlips =>
    intro hstate hmode hsent ht hp hs
    exact after_at hm rfl ((dsiFrameStart_running hstate hmode hsent).trans (frameStart_flips ht hp hs))
  case frameShows =>
    intro hstate hmode hsent ht hp
    exact after_at hm rfl ((dsiFrameStart_running hstate hmode hsent).trans (frameStart_shows ht hp))
  case stopped =>
    intro hstate hsent
    refine after_at hm rfl ((dsiFrameStart_stopping hstate hsent).trans ?_)
    split <;> rfl
  case frameNot => exact fun h => after_at hm rfl (dsiFrameStart_not h)
  case edge =>
    intro hstate hsent
    refine after_at hm rfl (if_pos ?_)
    rcases hstate with h | h <;> rcases hsent with h' | h' <;> simp [h, h']
  case edgeNot =>
    intro h
    refine after_at hm rfl (if_neg ?_)
    rcases h with h | h | ⟨hmode, hsent⟩
    · simp [h]
    · simp [h]
    · simp [hmode, hsent]
  case teBlank =>
    intro falling hstate hmode hedge hpol ht
    exact after_at (f := fun m => dsiTe m falling) hm rfl ((dsiTe_on hstate hmode hedge hpol).trans (frameStart_blank ht))
  case teLate =>
    intro falling hstate hmode hedge hpol ht hp hs
    exact after_at (f := fun m => dsiTe m falling) hm rfl ((dsiTe_on hstate hmode hedge hpol).trans (frameStart_late ht hp hs))
  case teFlips =>
    intro falling hstate hmode hedge hpol ht hp hs
    exact after_at (f := fun m => dsiTe m falling) hm rfl ((dsiTe_on hstate hmode hedge hpol).trans (frameStart_flips ht hp hs))
  case teShows =>
    intro falling hstate hmode hedge hpol ht hp
    exact after_at (f := fun m => dsiTe m falling) hm rfl ((dsiTe_on hstate hmode hedge hpol).trans (frameStart_shows ht hp))
  case teNot =>
    intro falling h
    refine after_at (f := fun m => dsiTe m falling) hm rfl (if_neg ?_)
    rcases h with h | h | h | h <;> simp [h]
  case outBlank =>
    intro hstate hmode hdue ht
    exact after_at hm rfl ((dsiTeTimeout_on hstate hmode hdue).trans (frameStart_blank (m := teMissed m) ht))
  case outLate =>
    intro hstate hmode hdue ht hp hs
    exact after_at hm rfl ((dsiTeTimeout_on hstate hmode hdue).trans (frameStart_late (m := teMissed m) ht hp hs))
  case outFlips =>
    intro hstate hmode hdue ht hp hs
    exact after_at hm rfl ((dsiTeTimeout_on hstate hmode hdue).trans (frameStart_flips (m := teMissed m) ht hp hs))
  case outShows =>
    intro hstate hmode hdue ht hp
    exact after_at hm rfl ((dsiTeTimeout_on hstate hmode hdue).trans (frameStart_shows (m := teMissed m) ht hp))
  case outNot =>
    intro h
    refine after_at hm rfl (if_neg ?_)
    rcases h with h | h | h
    · simp [h]
    · simp [h]
    · intro hand
      exact Nat.not_le.2 h (of_decide_eq_true (Bool.and_eq_true_iff.1 hand).2)

end Sys2Proof.Safety
end
